-- ==== Sys2Proof/Word.lean ====
section
/-! DEFINITION. The byte, and the plainest conversions between integers, two's-complement patterns and little-endian
bytes (R9) that the whole model uses. -/

namespace Sys2Proof

/-- One byte of an object, a record, a frame or an image. -/
abbrev Byte := BitVec 8

/-- The integer that an unsigned pattern of `w` bits stands for in two's complement. -/
def toSigned (w n : Nat) : Int :=
  let m := n % 2 ^ w
  if m < 2 ^ (w - 1) then (m : Int) else (m : Int) - 2 ^ w

/-- The unsigned pattern of `w` bits of an integer. -/
def ofSigned (w : Nat) (i : Int) : Nat := (i % 2 ^ w).toNat

/-- `n` as `k` little-endian bytes (R9). -/
def leBytes : Nat → Nat → List Byte
  | 0, _ => []
  | k + 1, n => BitVec.ofNat 8 n :: leBytes k (n / 256)

/-- The number that little-endian bytes spell (R9). -/
def leNat : List Byte → Nat
  | [] => 0
  | b :: bs => b.toNat + 256 * leNat bs

/-- Bits `hi..lo` of a number (R8). -/
def bitsOf (n hi lo : Nat) : Nat := n / 2 ^ lo % 2 ^ (hi + 1 - lo)

/-- Bit `i` of a number. -/
def bitOf (n i : Nat) : Bool := n / 2 ^ i % 2 == 1

/-- A number with bit `i` set. -/
def setBit (n i : Nat) : Nat := n ||| 2 ^ i

/-- A number with bit `i` clear. -/
def clrBit (n i : Nat) : Nat := if bitOf n i then n - 2 ^ i else n

/-- A number with bit `i` at `b`. -/
def putBit (n i : Nat) (b : Bool) : Nat := if b then setBit n i else clrBit n i

/-- How many of the low `w` bits are set. -/
def popCount : Nat → Nat → Nat
  | 0, _ => 0
  | w + 1, n => n % 2 + popCount w (n / 2)

/-- `a` clipped into `lo..hi`. -/
def clampInt (lo hi a : Int) : Int := if a < lo then lo else if hi < a then hi else a

end Sys2Proof
end

