-- ==== Sys2Proof/Syntax.lean ====
section
/-! DEFINITION. The commands the block takes: one constructor per row of the spec's operation table, in the table's
order. An operand carries what comes with the command: the station, head or beam it concerns, the value written, or
what the world decides (a measured value, a decode outcome, an edge's stamp). -/

namespace Sys2Proof

/-- The way a dictionary access came in: an SDO or USDO channel of a CAN bus, RPDO n of a bus, the BAR2 window, the segmented
BAR2 window, an NVMe admin command (controller, command identifier), or an internal order. -/
inductive Door where
  | sdo (bus : Nat) (usdo : Bool)
  | pdo (bus n : Nat)
  | bar2
  | seg
  | nvme (ctrl cid : Nat)
  | inner
  deriving DecidableEq, Repr

/-- The data of a dictionary write: a number with its length in bytes, or a string of bytes. -/
inductive Val where
  | num (len v : Nat)
  | raw (b : List Byte)
  deriving DecidableEq, Repr

/-- The references of Table 4.3 that a clock is lost of (R89): the 25 MHz crystal, those of SerDes quads A and B, and the
PCIe reference. -/
inductive ClockRef where
  | crystal | quadA | quadB | pcie
  deriving DecidableEq, Repr

/-- The three samples of the straps NID6 to NID0 (R78). -/
structure Straps where
  a : Nat
  b : Nat
  c : Nat
  deriving DecidableEq, Repr

/-- The write-strategy data of one layer of a side (Table 10.11): side, layer, PW_NOMINAL, PB_RATIO and the 80 bytes. -/
structure LayerData where
  side : Nat
  layer : Nat
  pw : Nat
  pb : Nat
  strategy : List Byte
  deriving DecidableEq, Repr

/-- What the disc information of a Blu-ray Disc gives, or the identity clusters of a DAF disc (R261, R267): kind 1 BD-R, 2
BD-RE, 3 DAF-1, 4 DAF-2, the sides recognised as a mask. -/
structure Medium where
  kind : Nat
  sides : Nat
  layersA : Nat
  layersB : Nat
  discId : Nat
  version : Nat
  angle : Nat
  maker : List Byte
  layers : List LayerData
  deriving DecidableEq, Repr

/-- What the rebuild of a side finds (R265, R329): whether its first written cluster has protection information (none:
nothing is written); the record clusters of the LIA as read; replacements that their own sectors claim (ORIGIN_PSA, own PSA and
WRITE_SERIAL); for each zone whose latest record is not FULL and that holds anything, the cluster k of its write boundary and
VALID_BLOCKS of its tail copy; PSAs of places recorded beyond a write pointer; user sectors of a Blu-ray Disc, its zones (index,
FULL, write pointer) and its replacements (place and replacement place); spare and LIA clusters used; the highest WRITE_SERIAL
found and the time in ms. -/
structure SideImage where
  pi : Option Bool
  records : List (List Byte)
  claims : List (Nat × Nat × Nat)
  bounds : List (Nat × Nat × Nat)
  beyond : List Nat
  sectors : Nat
  zones : List (Nat × Bool × Nat)
  repl : List (Nat × Nat)
  inner : List (Nat × Nat)
  outer : List (Nat × Nat)
  lia : List (Nat × Nat)
  serial : Nat
  ms : Nat
  deriving DecidableEq, Repr

/-- How a step of a station command comes out (Table 5.4): done; the store's digest differs at an address; the disc
information of a Blu-ray Disc is read; the identity clusters of the two sides are read, as their spirals were tried, with the spindle
angle of medium angle 0; the medium is not supported; a metadata cluster of a side is to be read; a side's metadata is pinned; a dirty line cannot be
placed. -/
inductive StepOut where
  | ok
  | mismatch (addr : Nat)
  | recognised (m : Medium)
  | identity (a b : List (List Byte)) (angle : Nat)
  | unknownMedium
  | metadata (side cl : Nat)
  | pinned (side : Nat) (img : SideImage)
  | noPlace
  deriving DecidableEq, Repr



/-- What happens in a focus search (R164, R165): the order begins; the forward pass ends; the pass back ends without a closure;
the target's zero crossing comes; the closure is confirmed; the axis responds reversed (R166). -/
inductive FocusEvent where
  | begin | forward | passEnd | closed | confirmed | reversed
  deriving DecidableEq, Repr

/-- What happens in TRACK_ON (R166, R167): TE_PEAK is measured, the axis responds reversed, a valid crossing comes. -/
inductive TrackEvent where
  | begin | measured | reversed | closed
  deriving DecidableEq, Repr

/-- What happens in LAYER_JUMP (R169, R170): the next layer's crossing comes, the step settles, a valid crossing of TE comes,
TRACK_SETTLE ends, or the search that replaces a stopped jump goes on. -/
inductive LayerEvent where
  | begin | stepClosed | stepSettled | trkClosed | settled
  | search (e : FocusEvent)
  deriving DecidableEq, Repr

/-- What happens in TRACK_JUMP (R171): the last crossing comes, TRACK_SETTLE ends. -/
inductive JumpEvent where
  | begin | closed | settled
  deriving DecidableEq, Repr

/-- A sector address read by the pilot (R168, R214): track, address, and the radius of the pilot track less the lens offset, in
nm. -/
structure PilotRead where
  track : Nat
  addr : Nat
  radius : Nat
  deriving DecidableEq, Repr

/-- What happens in FOLLOW (R168): an address is read, a crossing at which TRK closes comes, TRACK_SETTLE after a jump ends. -/
inductive FollowEvent where
  | read (r : PilotRead)
  | closed | settled
  deriving DecidableEq, Repr

/-- What happens in CALIBRATE_LOOP (R185): the run ends. -/
inductive CalEvent where
  | begin | ended
  deriving DecidableEq, Repr

/-- What happens in a spin-up beside the edges of the Halls: the order begins; the learning of the Hall map ends with the
codes read after driving sectors 0 to 5 (R193). -/
inductive SpinEvent where
  | begin
  | learned (codes : List Nat)
  deriving DecidableEq, Repr

/-- What happens in SEEK (R215): it begins; the layer jump goes on; a valid crossing comes after SEEK_SETTLE; an address is read;
the last crossing of the corrective jump comes; TRACK_SETTLE ends. -/
inductive SeekEvent where
  | begin
  | layer (e : LayerEvent)
  | trkClosed
  | address (r : PilotRead)
  | jumpClosed
  | settled
  deriving DecidableEq, Repr

/-- What a head order that drives a sled ends with: it begins, or the inner stop is not found (R214). -/
inductive HomeEvent where
  | begin
  | noStop
  deriving DecidableEq, Repr


/-- A sector that the station asks its read channel to decode (R282): the cluster, the sector's number within it, and
whether the read-back of a band asks (R310). -/
structure SectorAsk where
  nsid : Nat
  cl : Nat
  idx : Nat
  verify : Bool
  deriving DecidableEq, Repr

/-- One frame as the channel samples it (R270, R280, R281, R283, R284): its PSA, one signed sample per channel bit, the
channel bits at which the converter clipped, whether the ring write failed its STREAM check, and the mean squared error of the
sector in 0.01 LSB². -/
structure FrameIn where
  psa : Nat
  samples : List Byte
  clips : List Nat
  streamFail : Bool
  mse : Nat
  deriving DecidableEq, Repr

/-- What a lane's decoder leaves at the end of an attempt or of a global iteration (R285, R286, R288): unsatisfied checks, the
4,160 bytes, inner iterations run, and the global-1 hard decisions that differ from the codeword. -/
structure DecodeOut where
  unsat : Nat
  bytes : List Byte
  iters : Nat
  errs : Nat
  deriving DecidableEq, Repr

/-- What one beam's channel leaves at the end of a resync block (R270, R273, R276 to R279): canceller weights of the inner
and the outer side (five each, in Q2.14), an erasure flag over the whole block, the 15 taps, the target coefficients, the rms of
the interpolated samples in 0.01 LSB, and the frequency offset in ppm. -/
structure BeamBlock where
  b : Nat
  win : List Int
  wout : List Int
  erased : Bool
  eq : List Int
  tgt : List Int
  rms : Nat
  freq : Int
  deriving DecidableEq, Repr

/-- What happens in WRITE_START (R307): the order begins, with the band the station processor planned (PSA of s0, sectors,
beams); the gates open; the band start has passed. -/
inductive WriteEvent where
  | begin (start sectors mask : Nat)
  | opened | passed
  deriving DecidableEq, Repr

/-- What POWER_CAL reads of one beam's test cluster (R312): error counts and β of the 18 steps. -/
structure BeamCal where
  b : Nat
  errs : List Nat
  betas : List Int
  deriving DecidableEq, Repr

/-- What happens in POWER_CAL (R312). -/
inductive PowerCalEvent where
  | begin
  | read (beams : List BeamCal)
  deriving DecidableEq, Repr

/-- An order the station processor issues at a scheduling point (R15, R107): sequencer (0 head U, 1 head L, 2 station), code
and PARAM. -/
structure OrderReq where
  seq : Nat
  code : Nat
  param : Nat
  deriving DecidableEq, Repr

/-- A logical block: its 4,096 bytes and its 16 bytes of protection information, each as one number, byte 0 lowest. -/
structure Block where
  data : Nat
  pi : Nat
  deriving DecidableEq, Repr

/-- How a controller reset comes about (Table 13.3, second row). -/
inductive ResetCause where
  | ccEn | abruptShutdown | functionLevel | hotReset | linkDown | perst
  deriving DecidableEq, Repr

/-- The protection information fields of a read or a write (R330): PRACT; PRCHK, bit 2 guard, bit 1 application tag, bit 0 reference
tag; the application tag with its mask; the initial reference tag. -/
structure PiArgs where
  act : Bool
  chk : Nat
  app : Nat
  mask : Nat
  ref : Nat
  deriving DecidableEq, Repr

/-- What a Connect creates (R323): a dynamic controller with its admin queue, or an I/O queue of one. -/
inductive ConnectReq where
  | admin
  | io (qid : Nat)
  deriving DecidableEq, Repr

/-- A firmware image as the checks of R424 find it, each by itself; its RELEASE and SECURITY_VERSION, the version and the
ABI of its vendor Lathe image, and the digests of its sections of KIND 1 to 4. -/
structure FirmwareImage where
  wellFormed : Bool
  keyOk : Bool
  signed : Bool
  sectionsOk : Bool
  release : Nat
  security : Nat
  vendor : Nat
  abi : Nat
  digests : List (BitVec 512)
  deriving DecidableEq, Repr

/-- What the read of a firmware bank of the NOR gives (R92). -/
inductive BankRead where
  | unreadable
  | image (f : FirmwareImage)
  deriving DecidableEq, Repr

/-- What an uncorrectable HBM word held (Table 15.4), as far as its address does not say it. -/
inductive HbmUse where
  /-- a block of a Granary line, a word the address alone places, or one nothing waits for -/
  | plain
  /-- command data: the context's fetch sequence number, and whether a command not yet executed is a read -/
  | command (seq : Nat) (rd : Bool)
  /-- the tables of a side: its NSID -/
  | tables (nsid : Nat)
  /-- firmware or tables: whether the 64 KiB reloaded agree with the digest recorded at start-up -/
  | firmware (same : Bool)
  /-- a bypass read's context, or the BAR2 segment buffer -/
  | bypass (seq : Nat)
  | segment
  /-- a chunk of the sample ring: the frame's place in the ring -/
  | frame (n : Nat)
  /-- not HBM but an on-die SRAM (Table 15.6): the context store, with the context's fetch sequence number; a Granary tag, and whether
  both copies are bad; a record of the Ledger's SRAM by its SEQ; a station processor's memory; a Reeve's -/
  | context (seq : Nat) (rd : Bool)
  | tag (set way : Nat) (both : Bool)
  | record (seq : Nat)
  | station (st : Nat)
  | reeve
  deriving DecidableEq, Repr

/-- A row of an on-die SRAM macro (R385, R386): the domain its macro lies in, 95 for one that is always on, the macro's number in the
domain, and its row. -/
structure SramRow where
  dom : Nat
  mac : Nat
  row : Nat
  deriving DecidableEq, Repr

/-- The training of one stack (R387): the step its second attempt failed at, if it did; lanes remapped; and the outcome of
each pending hard repair of the stack, in order of writing. -/
structure StackTraining where
  fail : Option Nat
  lanes : Nat
  hard : List Bool
  deriving DecidableEq, Repr

/-- The fields of a frame's header (Table 16.1) that its KIND, its length and its link do not give: DEST, SRC, TTL, FLAGS.TURNED,
LINK_SEQ and TAG. -/
structure FrameHead where
  dest : Nat
  src : Nat
  ttl : Nat
  turned : Bool
  seq : Nat
  tag : Nat
  deriving DecidableEq, Repr

/-- One device of a roster (Table 16.6). -/
structure RosterEntry where
  serial : Nat
  thop : Nat
  tlink : Nat
  stations : Nat
  master : Bool
  east : Bool
  west : Bool
  deriving DecidableEq, Repr

/-- A ROSTER frame (Table 16.2): the devices in order of position, the ring state, and the fold ends (0: none). -/
structure RosterIn where
  state : Nat
  entries : List RosterEntry
  foldEast : Nat
  foldWest : Nat
  deriving DecidableEq, Repr

/-- What a DISCOVER frame says of a device, with the hops eastward at which it stands (R392, R393). -/
structure Candidate where
  serial : Nat
  role : Nat
  hops : Nat
  thop : Nat
  tlink : Nat
  stations : Nat
  deriving DecidableEq, Repr

/-- A column of a spread volume (Table 16.8): device, namespace, first zone; whether its station and its writes serve; the
rows owed, in row order; and whether they are being rebuilt. A row is numbered 4,000 times its zone plus its place. -/
structure Column where
  serial : Nat
  nsid : Nat
  first : Nat
  up : Bool
  owed : List Nat
  rebuilding : Bool
  deriving DecidableEq, Repr

/-- A spread volume (R409): its columns, and the rows encoded of each zone that has any. -/
structure Volume where
  v : Nat
  k : Nat
  m : Nat
  lbaf : Nat
  zones : Nat
  cols : List Column
  rows : List (Nat × Nat)
  deriving DecidableEq, Repr

/-- One column's 16 blocks of a row, as a member gives them. -/
structure MemberPart where
  col : Nat
  blocks : List Block
  deriving DecidableEq, Repr

/-- How the programming of fuses and OTP ends (R421): done; interrupted by a power-fail, or failed, after so many of its
effects. -/
inductive ProgramEnd where
  | done
  | cut (n : Nat)
  | failed (n : Nat)
  deriving DecidableEq, Repr

/-- What the world decides while a dictionary write takes effect: whether a column of a spread volume can be reached, how
many reachable devices there are, how the programming of fuses ends (R409, R415, R421), and whether fusing a key succeeds. -/
structure World where
  far : Nat
  prog : ProgramEnd
  ok : Bool
  deriving DecidableEq, Repr

/-- An SDO or USDO initiate request (R48): a read; an expedited write with its data; the first frame of a segmented write, with
its length; a block transfer, which is not supported (Table 2.4). -/
inductive SdoReq where
  | read
  | write (data : List Byte)
  | begin_ (total : Nat)
  | block
  deriving DecidableEq, Repr

/-- A segment frame: the request for the next segment of a read; a segment of a write and whether it is the last; any other
frame. -/
inductive SdoSeg where
  | next (toggle : Bool)
  | data (toggle : Bool) (b : List Byte) (last : Bool)
  | other
  deriving DecidableEq, Repr


/-- The result of one calibration (R456 to R458): offset or trim, gain and residual, in the units of Table 19.12. -/
structure CalFit where
  offset : Int
  gain : Nat
  residual : Nat
  deriving DecidableEq, Repr

/-- What a step of the wiring test measures at a connection (Table 20.1): whether an output reads back high when driven high and when
driven low (S1), or whether its driver reaches its current limit so (H3, H6), with the level in mV or the current in µA; a class A
input's level in mV under the source and under the sink of the bias test, and the supply VDD_AFE (R495); a photodiode's, with its dark
offset in mV (H1); the impedances in Ω of the two legs of an RF input (R496); the code of the Hall inputs (S3); the six bridge pulses of
the spindle, UV, VU, VW, WV, WU, UW, each with its highest phase current in mA and the time in ns at which it reached I_LIMIT, 0 where
it did not (S4); whether the pickup link came up and the identity is valid (H4); the voltages in µV of a coil's return pair, ISx_P and
ISx_N, for the test current (R497); a winding's current in µA for HOLD_CURRENT and its resistance in mΩ (S5). -/
inductive WireMeas where
  | pad (hi lo : Bool) (mv : Nat)
  | limit (hi lo : Bool) (ua : Nat)
  | bias (src snk afe : Int)
  | dark (src snk afe offset : Int)
  | legs (p n : Nat)
  | hall (code : Nat)
  | phase (pulses : List (Nat × Nat))
  | link (up ok : Bool)
  | coil (p n : Int)
  | winding (ua : Int) (mohm : Nat)
  deriving DecidableEq, Repr

/-- The commands of the operation table. -/
inductive Instr where
  /-- DICT_WRITE (R507): A write to a dictionary object that has no row of its own is checked in the order of Table 2.14, then applied by the owner or refused. -/
  | dictWrite (dr : Door) (ix : Nat) (sx : Nat) (v : Val) (w : World)
  /-- SDO_INITIATE (R48): An SDO or USDO initiate request frame is served, expedited or as the start of a segmented transfer, replacing any transfer in progress on that channel. -/
  | sdoInitiate (bus : Nat) (usdo : Bool) (ix : Nat) (sx : Nat) (req : SdoReq) (brs : Bool) (w : World)
  /-- SDO_SEGMENT (R48): An SDO or USDO segment frame is taken; a wrong toggle bit or specifier aborts the transfer, and the last segment applies the write. -/
  | sdoSegment (bus : Nat) (usdo : Bool) (seg : SdoSeg) (brs : Bool) (w : World)
  /-- SDO_TIMEOUT (R48): A segmented SDO or USDO transfer with no frame for SDO_TIMEOUT is aborted with 0x0504_0000. -/
  | sdoTimeout (bus : Nat) (usdo : Bool)
  /-- NMT_START (R44): The NMT start command takes the node to OPERATIONAL, where PDOs are also served. -/
  | nmtStart
  /-- NMT_STOP (R44): The NMT stop command takes the node to STOPPED, where it answers only NMT and sends its heartbeat. -/
  | nmtStop
  /-- NMT_ENTER_PRE_OPERATIONAL (R44): The NMT command enters PRE-OPERATIONAL, serving SDO, USDO and EMCY but not PDOs. -/
  | nmtEnterPreOperational
  /-- NMT_RESET_COMMUNICATION (R43): Communication objects and 0x2010 are reloaded, bit timing and node-ID are applied anew and the boot-up message is sent. -/
  | nmtResetCommunication
  /-- NMT_RESET_NODE (R43): Reset node acts exactly as reset communication and resets nothing else of the device. -/
  | nmtResetNode
  /-- SYNC_RECEIVED (R42): A SYNC frame on the COB-ID of 0x1005 triggers the synchronous TPDOs and applies synchronous RPDOs. -/
  | syncReceived (bus : Nat)
  /-- RPDO_RECEIVED (R49): A received RPDO writes its mapped objects; a write that would be refused discards it, counts it and posts a record on the first discard. -/
  | rpdoReceived (bus : Nat) (n : Nat) (data : (List Byte)) (brs : Bool)
  /-- TPDO_EVENT_TIMER (R49): Expiry of a TPDO event timer sends the TPDO. -/
  | tpdoEventTimer (n : Nat)
  /-- TPDO_INHIBIT_EXPIRY (R49): Expiry of a TPDO inhibit time lets a pending change-driven TPDO be sent. -/
  | tpdoInhibitExpiry (n : Nat)
  /-- HEARTBEAT_TIMER (R61): Expiry of the producer heartbeat time sends the heartbeat on the buses of the CAN mode. -/
  | heartbeatTimer
  /-- HEARTBEAT_RECEIVED (R42): A heartbeat from a consumed node restarts that node's consumer timer. -/
  | heartbeatReceived (node : Nat)
  /-- HEARTBEAT_CONSUMER_TIMEOUT (R51): A consumer heartbeat timeout raises EMCY 0x8130, posts a record and applies the 0x1029 reaction to the NMT state only. -/
  | heartbeatConsumerTimeout (j : Nat)
  /-- EMCY_INHIBIT_EXPIRY (R508): Expiry of the EMCY inhibit time lets the next held EMCY frame be sent. -/
  | emcyInhibitExpiry
  /-- ERROR_HISTORY_CLEAR (R508): Writing 0 to 0x1003:00 clears the error history. -/
  | errorHistoryClear (dr : Door)
  /-- CAN_BUS_OFF (R47): A controller going bus-off stops transmitting and starts its recovery wait. -/
  | canBusOff (bus : Nat)
  /-- BUS_OFF_RECOVERY (R47): After 128 recessive sequences and BUS_OFF_DELAY the controller rejoins and sends EMCY 0x8140. -/
  | busOffRecovery (bus : Nat)
  /-- BAR2_DIRECT_WRITE (R53): A posted 32-bit direct write to the BAR2 window is counted pending and applied or refused, recording any abort in WIN_ABORT. -/
  | bar2DirectWrite (ix : Nat) (sx : Nat) (width : Nat) (v : Nat) (w : World)
  /-- BAR2_DIRECT_READ (R53): A direct BAR2 read of an object is answered, returning zero and recording an abort when refused. -/
  | bar2DirectRead (ix : Nat) (sx : Nat) (width : Nat)
  /-- WIN_ABORT_READ (R56): A read of WIN_ABORT returns the last abort code and clears it to 0. -/
  | winAbortRead
  /-- SEG_OPEN_READ (R55): SEG_CTRL OP 1 takes a snapshot of the object, sets SEG_LENGTH and sets STATE OPEN. -/
  | segOpenRead
  /-- SEG_OPEN_WRITE (R55): SEG_CTRL OP 2 checks SEG_LENGTH against the object and opens a write transfer. -/
  | segOpenWrite
  /-- SEG_COMMIT_WRITE (R55): SEG_CTRL OP 3 starts applying an open write transfer, with STATE BUSY. -/
  | segCommitWrite (w : World)
  /-- SEG_COMMIT_DONE (R55): A commit ends at IDLE, or at ERROR with SEG_ABORT set. -/
  | segCommitDone
  /-- SEG_CLOSE (R55): SEG_CTRL OP 4 ends any transfer without applying it, or is discarded while a commit is BUSY. -/
  | segClose
  /-- SEG_OFFSET_WRITE (R55): A write to SEG_OFFSET moves the aperture, or is discarded with 0x0609_0030 if not a multiple of 4. -/
  | segOffsetWrite (v : Nat)
  /-- SEG_WINDOW_TIMEOUT (R55): A segmented transfer left OPEN with no access for SDO_TIMEOUT is closed with SEG_ABORT 0x0504_0000. -/
  | segWindowTimeout
  /-- GET_OBJECT (R57): NVMe admin 0xC0 reads an object through the data pointer, or completes with the abort code. -/
  | getObject (c : Nat) (cid : Nat) (ix : Nat) (sx : Nat) (off : Nat) (len : Nat)
  /-- SET_OBJECT (R57): NVMe admin 0xC1 writes an object, or one segment of a DOMAIN write, and completes once the owner applies it. -/
  | setObject (c : Nat) (cid : Nat) (ix : Nat) (sx : Nat) (off : Nat) (data : (List Byte)) (w : World)
  /-- STORE_PARAMETERS (R59): Writing the save signature to 0x1010 stores the values of its scope to NOR, or is refused in the order of R59. -/
  | storeParameters (dr : Door) (sx : Nat) (v : Nat)
  /-- STORE_NOR_DONE (R59): The NOR programming of a store completes and the request is answered. -/
  | storeNorDone
  /-- RESTORE_DEFAULTS (R59): Writing the load signature to 0x1011 erases the stored values of its scope. -/
  | restoreDefaults (dr : Door) (sx : Nat) (v : Nat)
  /-- BACKGROUND_ERASE_DONE (R60): The background erase of the older persistent-parameter sector completes. -/
  | backgroundEraseDone
  /-- HEARTH_POWER_UP (R91): VHEARTH entering its limits with RESET_N high starts Hearth on 16 MHz and the start-up sequence. -/
  | hearthPowerUp (straps : Straps) (fuse : (Option Nat)) (crc : (List Nat))
  /-- RESET_N_ASSERT (R96): RESET_N low drops lasers and actuators as on PFW_N, takes the rails down and holds the device. -/
  | resetNAssert
  /-- RESET_N_RELEASE (R91): RESET_N release samples the straps, clears FAILED once on 25 MHz and runs start-up from t = 0. -/
  | resetNRelease (straps : Straps)
  /-- CRYSTAL_STABLE (R88): The 25 MHz oscillator stable for 1 ms moves Hearth from the 16 MHz oscillator to the Hearth PLL. -/
  | crystalStable
  /-- RAIL_STEP_ADVANCE (R85): A PG input high for 100 µs lets Watchman raise the next rail enable. -/
  | railStepAdvance (k : Nat)
  /-- PG_TIMEOUT (R85): A PG input not high within PG_TIMEOUT lowers the enables, posts a record, sends EMCY 0x3100 and schedules one retry or enters FAILED. -/
  | pgTimeout
  /-- RAIL_RETRY (R85): One second after a first PG timeout the rail sequence is repeated once. -/
  | railRetry
  /-- PG_LOSS (R86): A PG input falling for more than 10 µs with its enable high acts as PFW_N and leads to a restart or FAILED. -/
  | pgLoss (k : Nat)
  /-- PG_LOSS_RESTART (R86): One second after a PG loss with all enables low the start-up sequence runs again. -/
  | pgLossRestart
  /-- CLOCK_LOSS (R89): No 25 MHz edge for 1 µs moves Hearth to the 16 MHz oscillator and, outside HEARTH, acts as PFW_N and enters FAILED. -/
  | clockLoss (r : ClockRef)
  /-- CLOCK_RESTORE (R89): Crystal edges continuous for 1 ms return Hearth to 25 MHz, clear CLOCK_STATUS bit 9 and restore the CAN data phase. -/
  | clockRestore (r : ClockRef)
  /-- BOOT_BANK_VERIFY (R92): The chosen NOR bank is read, hashed and verified, falling back to the other bank with record 0x0104 on failure. -/
  | bootBankVerify (sel : Bool) (a : BankRead) (b : BankRead) (sealOk : Bool) (cust : Nat)
  /-- HBM_TRAINING (R387): Each HBM stack is calibrated, lane-tested, repaired, timed and KEEP-initialised, once retried and else FAILED. -/
  | hbmTraining (a : StackTraining) (b : StackTraining)
  /-- HOST_READY (R91): Controllers ready, Ethernet link up and HOST_READY set, the device reports host-ready and POWER_STATE RUN. -/
  | hostReady
  /-- ENTER_HEARTH (R94): POWER_CMD 1 enters HEARTH when every station is OFF, nothing is dirty and no controller has CC.EN. -/
  | enterHearth (dr : Door)
  /-- WAKE (R95): POWER_CMD 2 leaves HEARTH and runs start-up from RAIL_EN0 with the bank already chosen. -/
  | wake (dr : Door)
  /-- CLEAR_FAILED (R86): POWER_CMD 3 clears FAILED and the restart count and runs start-up from RAIL_EN0. -/
  | clearFailed (dr : Door)
  /-- WAKE_GPIO (R95): A rising edge on an enabled GPIO wakes the device from HEARTH. -/
  | wakeGpio (n : Nat)
  /-- WAKE_CALENDAR_ALARM (R95): The calendar alarm, if enabled, wakes the device from HEARTH. -/
  | wakeCalendarAlarm
  /-- WAKE_I2C (R95): An I²C wake command, if enabled, wakes the device from HEARTH. -/
  | wakeI2c
  /-- PFW_N_ASSERT (R97): PFW_N low for 100 ns latches power-fail: lasers off, gates closed, actuators parked, Ledger flushed, rails down. -/
  | pfwNAssert
  /-- PFW_LATCH_CLEAR (R99): PFW_N high for 100 ms with all PG low clears the latch and starts start-up, or just clears it in HEARTH or FAILED. -/
  | pfwLatchClear
  /-- DOMAIN_WAKE_DONE (R81): A switched domain completes its wake within its bound, applying SRAM repairs before use. -/
  | domainWakeDone (d : Nat) (bad : (Option Nat))
  /-- DOMAIN_GATE_DONE (R81): A switched domain completes gating, then wakes at once if a wake request waits. -/
  | domainGateDone (d : Nat)
  /-- TEMPORARY_WAKE_END (R81): The access or activity holding a temporary wake ends and the domain gates unless its condition holds. -/
  | temporaryWakeEnd (d : Nat)
  /-- SLICE_IDLE_GATE (R83): An LDPC slice beyond the minimum idle for SLICE_IDLE_GATE is gated. -/
  | sliceIdleGate (k : Nat)
  /-- INRUSH_SLOT_GRANT (R100): A freed inrush slot goes to the earliest waiting spin-up, else to a suspended or waiting class A BIST. -/
  | inrushSlotGrant
  /-- BIST_SLOT_PREEMPT (R100): At its next pattern boundary a BIST of another station yields its slot to a waiting spin-up and suspends. -/
  | bistSlotPreempt (st : Nat)
  /-- POWER_UP (R109): Station command 0x01 wakes core and motor I/O, checks the store, raises PSEN, runs the wiring test and reads the clamp. -/
  | powerUp (dr : Door) (st : Nat)
  /-- LOAD (R109): Station command 0x02 powers up, clamps, spins up and acquires heads up to TARGET and attaches the namespaces. -/
  | load (dr : Door) (st : Nat) (target : Nat) (strobe : Nat)
  /-- UNLOAD (R121): Station command 0x03 stops dispatch, drains, detaches, parks, spins down and unclamps. -/
  | unload (dr : Door) (st : Nat) (force : Bool)
  /-- STOW (R121): Station command 0x04 does as UNLOAD without the unclamp stroke, ending CLAMPED. -/
  | stow (dr : Door) (st : Nat) (force : Bool)
  /-- POWER_DOWN (R109): Station command 0x05 lowers PSEN and gates motor I/O and station core. -/
  | powerDown (dr : Door) (st : Nat)
  /-- ENTER_MAINT (R109): Station command 0x06 stops dispatch, waits for in-flight operations and enters MAINT. -/
  | enterMaint (dr : Door) (st : Nat)
  /-- EXIT_MAINT (R109): Station command 0x07 aborts running orders and runs the LOAD steps back to the entry state. -/
  | exitMaint (dr : Door) (st : Nat)
  /-- CLEAR_FAULT (R122): Station command 0x08 checks the store, runs the wiring test and probes the clamp, leaving FAULT if all pass. -/
  | clearFault (dr : Door) (st : Nat)
  /-- STATION_STOP (R113): Writing STOP ends the running station command at its next step boundary with 0x0F53_0002. -/
  | stationStop (dr : Door) (st : Nat) (v : Nat)
  /-- STATION_COMMAND_STEP_DONE (R109): A step of a running station command completes and the next step is issued or the command ends. -/
  | stationCommandStepDone (st : Nat) (out : StepOut)
  /-- SCHEDULING_POINT (R107): The station processor recomputes the station state, applies at most one transition and takes up orders and writes. -/
  | schedulingPoint (st : Nat) (orders : (List OrderReq))
  /-- STATION_WATCHDOG (R122): Expiry of the station processor watchdog puts the station into FAULT with cause 0x0006. -/
  | stationWatchdog (st : Nat)
  /-- MEDIA_OP_DISPATCH (R107): A queued media operation is dispatched to the station, taking READY to ACTIVE on the first. -/
  | mediaOpDispatch (nsid : Nat) (cl : Nat)
  /-- MEDIA_OP_COMPLETE (R107): A media operation completes, taking ACTIVE to READY on the last. -/
  | mediaOpComplete (nsid : Nat) (cl : Nat)
  /-- STROBE_FIRE (R123): Writing STROBE_FIRE fires station strobes 1 to 7, starting the armed steps with the strobe instant as origin. -/
  | strobeFire (dr : Door) (st : Nat) (mask : Nat)
  /-- DSTROBE_FIRE (R123): Writing DSTROBE_FIRE fires device strobes 8 to 11 on every station. -/
  | dstrobeFire (dr : Door) (st : Nat) (mask : Nat)
  /-- STROBE_TIMEOUT (R124): An armed step not fired within STROBE_TIMEOUT ends its command or order FAILED with 0x0F53_0003. -/
  | strobeTimeout (st : Nat) (who : Nat)
  /-- DISC_PRES_CHANGE (R116): A debounced DISC_PRES change is noted, counted as a mismatch when clamped, and may start the AUTO_CLAMP delay. -/
  | discPresChange (st : Nat) (high : Bool)
  /-- AUTO_CLAMP_DELAY_EXPIRY (R116): DISC_PRES high for AUTO_CLAMP_DELAY in EMPTY with AUTO_CLAMP set starts a clamp stroke. -/
  | autoClampDelayExpiry (st : Nat)
  /-- IDLE_OFF_TIME_EXPIRY (R105): IDLE_OFF_TIME elapsed in EMPTY with DISC_PRES low takes the station to OFF. -/
  | idleOffTimeExpiry (st : Nat)
  /-- ILK_N_OPEN (R118): ILK_N opening switches the station's lasers off in hardware, inhibits writes and takes READY or ACTIVE to SPINNING. -/
  | ilkNOpen (st : Nat)
  /-- ILK_N_CLOSE (R118): ILK_N closing lets the station re-acquire its used heads if a LOAD waits or AUTO_RESUME is set. -/
  | ilkNClose (st : Nat)
  /-- HEAD_ACQ_TIMEOUT (R119): A used head not TRACKING within HEAD_ACQ_TIMEOUT of SPINNING is set to HEAD_FAULT. -/
  | headAcqTimeout (h : Nat)
  /-- DIRECT_ORDER (R233): A REQUEST to 0x3s03 sends a servo order to a Lathe sequencer and maps its status into the result object. -/
  | directOrder (dr : Door) (st : Nat) (v : Nat)
  /-- LOOP_SAMPLE (R130): At each loop sample the engine applies pending writes and computes the biquad chain, limits and drive. -/
  | loopSample (e : Nat) (l : Nat) (det : (List Int)) (u : Int) (ang : Nat)
  /-- LOOP_CMD_OFF (R134): LOOP_CMD 0, in MAINT, takes the loop to OFF with zero drive. -/
  | loopCmdOff (dr : Door) (e : Nat) (l : Nat)
  /-- LOOP_CMD_OPEN (R134): LOOP_CMD 1, in MAINT, takes the loop to OPEN at OPEN_DRIVE. -/
  | loopCmdOpen (dr : Door) (e : Nat) (l : Nat)
  /-- LOOP_CMD_HOLD (R134): LOOP_CMD 3, in MAINT, holds the loop with cause COMMAND. -/
  | loopCmdHold (dr : Door) (e : Nat) (l : Nat)
  /-- LOOP_CMD_CLOSE (R136): LOOP_CMD 4, in MAINT, clears COMMAND or closes the loop from OPEN with PRESET loaded. -/
  | loopCmdClose (dr : Door) (e : Nat) (l : Nat)
  /-- DEFECT_SET (R178): DEF_COUNT samples of SUM outside the band set DEFECT on FOC and TRK within 1 µs. -/
  | defectSet (h : Nat)
  /-- DEFECT_CLEAR (R178): DEF_RELEASE samples inside the band clear DEFECT. -/
  | defectClear (h : Nat)
  /-- RESIDUAL_HOLD (R147): |r| above RES_LIMIT for RES_COUNT samples holds the loop with cause RESIDUAL. -/
  | residualHold (e : Nat) (l : Nat)
  /-- RESIDUAL_CLEAR (R149): RETURN_COUNT samples with |r| within RES_LIMIT clear RESIDUAL. -/
  | residualClear (e : Nat) (l : Nat)
  /-- VARIANCE_WINDOW_END (R148): At the end of a VAR_WIN window FROZEN is set or cleared from the error variance and drive movement. -/
  | varianceWindowEnd (e : Nat) (l : Nat)
  /-- HOLD_EXPIRED (R150): HOLD_WINDOW passing before the loop leaves HOLD raises the micro-trap and requires a command to leave HOLD. -/
  | holdExpired (e : Nat) (l : Nat)
  /-- COEF_HOLD_OVERRUN (R140): LATHE still set COEF_HOLD_MAX samples after setting is cleared by the engine, which raises the micro-trap. -/
  | coefHoldOverrun (e : Nat) (l : Nat)
  /-- APPLY (R139): Writing APPLY checks the staged set and copies it into the target loop's active set, through a two-sample HOLD if CLOSED. -/
  | apply (dr : Door) (e : Nat)
  /-- FF_BIN_UPDATE (R144): At the end of each bin in LEARN the feed-forward table entry LEAD_BINS earlier is updated. -/
  | ffBinUpdate (h : Nat) (table : Nat) (bin : Nat)
  /-- INJ_ENABLE (R151): A write of INJ_ENABLE in MAINT takes the injector and starts or stops injection on INJ_LOOP. -/
  | injEnable (dr : Door) (e : Nat) (v : Nat)
  /-- CAPTURE_REQUEST (R152): REQUEST 1 of +0x0C arms a capture of two taps. -/
  | captureRequest (dr : Door) (e : Nat) (v : Nat)
  /-- CAPTURE_TRIGGER (R152): The selected trigger fires and the capture keeps PRE_TRIGGER samples and records the trigger count. -/
  | captureTrigger (e : Nat)
  /-- CAPTURE_DONE (R152): The capture buffer fills and the capture ends DONE. -/
  | captureDone (e : Nat)
  /-- CAPTURE_TIMEOUT (R152): No trigger within CAP_TIMEOUT ends the capture FAILED with 0x0F56_0006. -/
  | captureTimeout (e : Nat)
  /-- MEASURE_LOOP (R153): A loop measurement by order or by REQUEST of +0x0E sweeps a sine through POINTS frequencies. -/
  | measureLoop (dr : Door) (e : Nat) (req : Nat)
  /-- MEASURE_LOOP_DONE (R153): The sweep ends and crossover and margins are posted, or it fails with a code of R154. -/
  | measureLoopDone (e : Nat)
  /-- FOCUS_ON (R164): Head order 0x01 lights beam 0, sends the SA word and searches focus onto the target layer. -/
  | focusOn (h : Nat) (ev : FocusEvent)
  /-- TRACK_ON (R167): Head order 0x02 measures TE_PEAK, checks polarity, closes TRK and lights the other beams. -/
  | trackOn (h : Nat) (ev : TrackEvent)
  /-- LAYER_JUMP (R169): Head order 0x03 steps focus layer by layer to the target with kicks and brakes, then recloses tracking. -/
  | layerJump (h : Nat) (ev : LayerEvent)
  /-- TRACK_JUMP (R171): Head order 0x04 kicks, counts crossings, brakes and closes TRK n tracks away. -/
  | trackJump (h : Nat) (ev : JumpEvent)
  /-- FOLLOW (R168): Head order 0x05 reads the pilot address, corrects the track sign or position and enters FOLLOWING. -/
  | follow (h : Nat) (ev : FollowEvent)
  /-- PARK (R163): Head order 0x06 aborts the running order, closes gates, turns lasers off and ramps focus to PARK_LEVEL. -/
  | park (h : Nat)
  /-- CALIBRATE_LOOP (R185): Head order 0x0A injects a PRBS and fits the supervisor model, writing it through a LATHE hold if accepted. -/
  | calibrateLoop (h : Nat) (ev : CalEvent)
  /-- RECOVERY_CONFIRM_EXPIRY (R182): A recovery with the head FOLLOWING and no expiry for RECOVERY_CONFIRM succeeds. -/
  | recoveryConfirmExpiry (h : Nat)
  /-- SA_SETTLED (R161): The pickup reports spherical-aberration settling over the PKL and SA_STATUS reads settled. -/
  | saSettled (h : Nat)
  /-- SA_SETTLE_TIMEOUT (R161): No settling report within SA_SETTLE_TIMEOUT ends the order FAILED with 0x0F57_0014. -/
  | saSettleTimeout (h : Nat)
  /-- ADDRESS_TIMEOUT (R168): No pilot address read within ADDRESS_TIMEOUT ends FOLLOW FAILED with 0x0F57_0015. -/
  | addressTimeout (h : Nat)
  /-- TRK_CAPTURE_TIMEOUT (R167): No suitable TE crossing within TRK_CAPTURE ends the order FAILED with 0x0F57_0017. -/
  | trkCaptureTimeout (h : Nat)
  /-- LAYER_TIMEOUT (R170): A layer step not closed within LAYER_TIMEOUT stops the jump and runs a focus search for the target. -/
  | layerTimeout (h : Nat)
  /-- OVERPOWER (R176): P_mon above OVERPOWER for 4 LPW samples turns the beam off, closes its gate and sets it in BEAMS_OUT. -/
  | overpower (h : Nat) (b : Nat)
  /-- PKL_LOSS (R177): Four LPW samples without a valid monitor frame declare the PKL lost and drop the head to LASER_OFF. -/
  | pklLoss (h : Nat)
  /-- PKL_RETRAIN (R177): The PKL is retrained up to three times 10 ms apart and the head re-acquired or set HEAD_FAULT. -/
  | pklRetrain (h : Nat) (ok : Bool)
  /-- WRITE_GUARD_INHIBIT (R179): A sample beyond the TRK, FOC or shock guard closes every write gate of the head within 2 samples. -/
  | writeGuardInhibit (h : Nat) (guard : Nat)
  /-- BEAM_OFFTRACK (R180): A reading beam's |o_b| above BEAM_OT_LIMIT holds its write gate closed. -/
  | beamOfftrack (h : Nat) (b : Nat) (o : Int)
  /-- SPIN_UP (R198): Station order 0x10 measures the spindle, takes grant and slot as needed and accelerates to AT_SPEED. -/
  | spinUp (st : Nat) (ev : SpinEvent)
  /-- START_MEASURE_END (R201): After START_MEASURE without driving, the spin-up continues by the case of Table 8.3. -/
  | startMeasureEnd (st : Nat)
  /-- SPIN_DOWN (R199): Station order 0x11 ramps to rest, short-brakes below 30 rpm and freewheels. -/
  | spinDown (st : Nat)
  /-- STOP_BRAKE_END (R199): STOP_BRAKE_TIME ends and the bridge freewheels with the spindle STOPPED. -/
  | stopBrakeEnd (st : Nat)
  /-- SET_SPEED (R200): Station order 0x15 writes TARGET_RPM for Blu-ray Disc operation and ends at AT_SPEED. -/
  | setSpeed (st : Nat)
  /-- TARGET_RPM_WRITE (R200): A dictionary write of TARGET_RPM moves n_set, first taking a slot if the target is well above the speed. -/
  | targetRpmWrite (dr : Door) (st : Nat) (rpm : Nat)
  /-- SPEED_LOOP_TICK (R197): Every 125 µs n_set moves toward TARGET_RPM at the accel or decel rate. -/
  | speedLoopTick (st : Nat)
  /-- AT_SPEED (R197): Speed within SPEED_TOL for SPEED_SETTLE ends SPIN_UP DONE and frees the inrush slot. -/
  | atSpeed (st : Nat)
  /-- SPIN_UP_TIMEOUT (R198): AT_SPEED not reached within 15 s of the slot fails the order and enters FAULT cause 0x0007. -/
  | spinUpTimeout (st : Nat)
  /-- HALL_EDGE (R195): A filtered Hall transition is stamped and advances the observer, locking or declaring loss. -/
  | hallEdge (st : Nat) (code : Nat) (stamp : Nat)
  /-- OBSERVER_MISSED_EDGE (R195): No Hall edge within LOSS_MISS predicted intervals declares observer loss. -/
  | observerMissedEdge (st : Nat)
  /-- ENCODER_Z_EDGE (R194): An encoder Z edge checks the quadrature count and, with ENC_USE bit 0, marks angle 0. -/
  | encoderZEdge (st : Nat)
  /-- COAST_STOP_TIMEOUT (R206): Coasting for COAST_STOP_TIME without re-acquisition enters FAULT cause 0x0002 and treats the spindle as stopped. -/
  | coastStopTimeout (st : Nat)
  /-- LOCKED_ROTOR (R207): No commutation event for LR_START_TIME or LR_RUN_INTERVALS freewheels the bridge, parks the heads and starts retries. -/
  | lockedRotor (st : Nat)
  /-- LOCKED_ROTOR_RETRY (R207): After LR_RETRY_DELAY the station starts from rest again, or enters FAULT 0x0003 when retries are exhausted. -/
  | lockedRotorRetry (st : Nat)
  /-- VBUS_SAMPLE (R202): Every 10 µs VBUS is sampled, braking torque limited and BRK driven with hysteresis. -/
  | vbusSample (st : Nat) (mv : Nat) (amps : Nat)
  /-- VBUS_FAULT_TIMEOUT (R203): VBUS outside limits for VBUS_FAULT_TIME with PSEN high puts the station into FAULT cause 0x0005. -/
  | vbusFaultTimeout (st : Nat)
  /-- SLED_SET_POINT (R209): Every 50 µs each sled receives a position, velocity and acceleration set-point and drive phasor. -/
  | sledSetPoint (h : Nat) (rotor : Nat)
  /-- SLED_STALL (R211): Load angle above STALL_ANGLE for STALL_COUNT set-points stops the sled, clears POS_VALID and fails the order. -/
  | sledStall (h : Nat)
  /-- SLED_HOME (R214): Head order 0x08 drives inward to a stall and sets POSITION to HOME_POS. -/
  | sledHome (h : Nat) (ev : HomeEvent)
  /-- SLED_PARK (R214): Head order 0x09 moves the sled to PARK_POS. -/
  | sledPark (h : Nat)
  /-- SEEK (R215): Head order 0x07 runs a sled profile to the target track, optionally jumps layer, and fine-jumps to FOLLOWING. -/
  | seek (h : Nat) (ev : SeekEvent)
  /-- SLED_PROFILE_END (R213): A sled or spindle profile reaches its target. -/
  | sledProfileEnd (h : Nat)
  /-- CLAMP_STROKE (R217): Station order 0x12 drives the clamp from the open end and ends by the stall position of Table 8.6. -/
  | clampStroke (st : Nat)
  /-- UNCLAMP_STROKE (R217): Station order 0x13 drives the clamp to the open end. -/
  | unclampStroke (st : Nat)
  /-- CLAMP_PROBE (R218): Station order 0x14 drives toward the open end for PROBE_STEPS to find the clamp open or closed. -/
  | clampProbe (st : Nat)
  /-- CLAMP_STALL (R216): A clamp BEMF stall ends the stroke at its position, seated, closed-empty or repeated. -/
  | clampStall (st : Nat) (run : Nat) (bemf : (List Nat))
  /-- CLAMP_STROKE_LIMIT (R217): Reaching STROKE_LIMIT with no stall fails the stroke and enters FAULT cause 0x0004. -/
  | clampStrokeLimit (st : Nat)
  /-- ORDER_DISPATCH (R231): A pending order is dispatched through the dispatch table with M registers initialised. -/
  | orderDispatch (q : Nat)
  /-- ORDER_TIMEOUT (R232): ORDER_TIMEOUT expiry of a customer order raises ORDER_ABORT and ends it FAILED with 0x0F59_0006. -/
  | orderTimeout (q : Nat)
  /-- TRAP_ENTRY (R235): A pending micro-trap is taken at a microword boundary, saving the frame and starting its vector. -/
  | trapEntry (q : Nat)
  /-- NOP (R227): Microword 0x00 does nothing for one cycle. -/
  | nop (q : Nat) (imm : Nat)
  /-- JMP (R227): Microword 0x01 jumps if its condition holds. -/
  | jmp (q : Nat) (imm : Nat)
  /-- CALL (R239): Microword 0x02 pushes the return address and jumps, or runs a vendor order from the customer region. -/
  | call (q : Nat) (imm : Nat)
  /-- RET (R227): Microword 0x03 pops and jumps. -/
  | ret (q : Nat) (imm : Nat)
  /-- LDI (R227): Microword 0x04 loads a sign-extended immediate. -/
  | ldi (q : Nat) (d : Nat) (imm : Nat)
  /-- LUI (R227): Microword 0x05 loads bits 31..14 of a register. -/
  | lui (q : Nat) (d : Nat) (imm : Nat)
  /-- MOV (R227): Microword 0x06 copies a register. -/
  | mov (q : Nat) (d : Nat) (r : Nat) (imm : Nat)
  /-- ADD (R227): Microword 0x07 adds registers and sets flags. -/
  | add (q : Nat) (d : Nat) (r : Nat) (imm : Nat)
  /-- SUB (R227): Microword 0x08 subtracts registers and sets flags. -/
  | sub (q : Nat) (d : Nat) (r : Nat) (imm : Nat)
  /-- ADDI (R227): Microword 0x09 adds an immediate and sets flags. -/
  | addi (q : Nat) (d : Nat) (imm : Nat)
  /-- AND (R227): Microword 0x0A ANDs registers. -/
  | and (q : Nat) (d : Nat) (r : Nat) (imm : Nat)
  /-- OR (R227): Microword 0x0B ORs registers. -/
  | or (q : Nat) (d : Nat) (r : Nat) (imm : Nat)
  /-- XOR (R227): Microword 0x0C XORs registers. -/
  | xor (q : Nat) (d : Nat) (r : Nat) (imm : Nat)
  /-- SHIFT (R227): Microword 0x0D shifts a register. -/
  | shift (q : Nat) (d : Nat) (imm : Nat)
  /-- MUL (R227): Microword 0x0E multiplies, integer or saturated Q1.23. -/
  | mul (q : Nat) (d : Nat) (r : Nat) (imm : Nat)
  /-- CMP (R227): Microword 0x0F sets flags from a register difference. -/
  | cmp (q : Nat) (d : Nat) (r : Nat) (imm : Nat)
  /-- CMPI (R227): Microword 0x10 sets flags from a register minus an immediate. -/
  | cmpi (q : Nat) (d : Nat) (imm : Nat)
  /-- FLD (R228): Microword 0x11 reads a station block field into a register. -/
  | fld (q : Nat) (d : Nat) (r : Nat) (imm : Nat)
  /-- FST (R229): Microword 0x12 writes an owned field, rejecting the order if refused. -/
  | fst (q : Nat) (d : Nat) (r : Nat) (imm : Nat)
  /-- LCMD (R227): Microword 0x13 issues a loop command OFF, OPEN, SEARCH or CLOSE. -/
  | lcmd (q : Nat) (d : Nat) (imm : Nat)
  /-- HOLD (R140): Microword 0x14 sets or clears cause LATHE on the masked loops. -/
  | hold (q : Nat) (imm : Nat)
  /-- GATE (R227): Microword 0x15 opens or closes write gates of the masked beams. -/
  | gate (q : Nat) (imm : Nat)
  /-- LASER (R175): Microword 0x16 switches masked beams on with a ramp or off. -/
  | laser (q : Nat) (imm : Nat)
  /-- PKL (R227): Microword 0x17 sends a register to the pickup as a PKL message kind. -/
  | pkl (q : Nat) (r : Nat) (imm : Nat)
  /-- WAIT (R227): Microword 0x18 starts a wait of a count of units. -/
  | wait (q : Nat) (imm : Nat)
  /-- WAIT_EXPIRY (R236): A WAIT or WAITE deadline passes and execution continues at the next word. -/
  | waitExpiry (q : Nat)
  /-- WAITE (R227): Microword 0x19 waits for a masked condition of Table 9.3 or a timeout. -/
  | waite (q : Nat) (r : Nat) (imm : Nat)
  /-- WAITE_CONDITION (R227): A masked condition fires, sets EV and resumes the waiting sequencer. -/
  | waiteCondition (q : Nat) (n : Nat)
  /-- EVT (R227): Microword 0x1A reads and clears the latched conditions. -/
  | evt (q : Nat) (d : Nat) (imm : Nat)
  /-- STRB (R227): Microword 0x1B waits for a strobe and latches its instant as time origin. -/
  | strb (q : Nat) (imm : Nat)
  /-- PROF (R227): Microword 0x1C starts a profile on a sled, spindle or clamp axis. -/
  | prof (q : Nat) (d : Nat) (r : Nat) (imm : Nat)
  /-- POST (R227): Microword 0x1D reports an event code to the station processor. -/
  | post (q : Nat) (r : Nat) (imm : Nat)
  /-- ODONE (R227): Microword 0x1E ends the order DONE. -/
  | odone (q : Nat) (r : Nat) (imm : Nat)
  /-- OFAIL (R227): Microword 0x1F ends the order FAILED. -/
  | ofail (q : Nat) (r : Nat) (imm : Nat)
  /-- OREJ (R227): Microword 0x20 ends the order REJECTED with a reason. -/
  | orej (q : Nat) (imm : Nat)
  /-- TRAPRET (R236): Microword 0x21 restores the trap frame and resumes, rejects, aborts, or aborts and queues an order. -/
  | trapret (q : Nat) (imm : Nat)
  /-- STORE_PATROL (R224): Every 1 µs patrol reads one control-store word in phase 3 and corrects single-bit errors. -/
  | storePatrol (st : Nat) (single : Bool)
  /-- STORE_UNCORRECTABLE (R225): An uncorrectable store word is rewritten from HBM, the digest rechecked, and the head or station dropped. -/
  | storeUncorrectable (st : Nat) (addr : Nat) (fetch : Bool) (owner : Nat) (same : Bool)
  /-- CUSTOMER_IMAGE_INSTALL (R243): REQUEST 1 of 0x5401 checks, stores and loads the customer Lathe image into every awake store. -/
  | customerImageInstall (dr : Door) (v : Nat)
  /-- CUSTOMER_IMAGE_ERASE (R243): REQUEST 2 of 0x5401, under authorisation, erases the customer region to OREJ. -/
  | customerImageErase (dr : Door) (v : Nat)
  /-- SECTOR_START (R256): At a predicted sector start the format engine searches the SSM window and starts the frame or a flywheel start. -/
  | sectorStart (h : Nat) (b : Nat) (det : (List Int)) (fr : (Option FrameIn)) (ask : (Option SectorAsk))
  /-- HUNT_END (R257): Two SSMs one frame apart anchor the flywheel and end HUNT. -/
  | huntEnd (h : Nat) (b : Nat) (gap : Nat)
  /-- LBA_TRANSLATE (R255): REQUEST 1 of 0x3sC4 translates T_LBA to its place on the medium. -/
  | lbaTranslate (dr : Door) (st : Nat) (v : Nat)
  /-- RESYNC_BLOCK (R19): At a resync-block boundary channel settings, AGC and canceller estimates are applied and o_b and c_b delivered. -/
  | resyncBlock (h : Nat) (blocks : (List BeamBlock))
  /-- ADC_HANDOVER (R271): A handover of an RF input between its ADC and the spare ends after the overlap with a switch or abandonment. -/
  | adcHandover (h : Nat) (b : Nat) (toSpare : Bool) (rms : Nat)
  /-- FIRST_PASS_DONE (R286): A first-pass LDPC decode ends successful or the sector rises to ring retry. -/
  | firstPassDone (nsid : Nat) (cl : Nat) (idx : Nat) (snr : Int) (out : DecodeOut)
  /-- RETRY_GLOBAL_END (R288): A retry global iteration ends: success, stall, exhaustion or preemption moves the sector on the ladder. -/
  | retryGlobalEnd (nsid : Nat) (cl : Nat) (idx : Nat) (off : Int) (out : DecodeOut)
  /-- LDPC_LANE_GRANT (R287): A free LDPC lane is granted to the oldest waiting first-pass sector or highest-priority retry. -/
  | ldpcLaneGrant
  /-- OUTER_CODE_REPAIR (R290): A cluster whose sectors have all settled is repaired by RS(18,16) erasures or sent to re-read. -/
  | outerCodeRepair (nsid : Nat) (cl : Nat) (ok : Bool)
  /-- RING_FRAME_DUMP (R295): REQUEST 1 of H+0x0D copies a ring frame to DUMP_DATA or fails 0x0F5B_0001. -/
  | ringFrameDump (dr : Door) (h : Nat) (v : Nat)
  /-- WRITE_START (R307): Head order 0x0C sends strategy and levels, locks the lanes and opens the gates at BAND_START. -/
  | writeStart (h : Nat) (ev : WriteEvent)
  /-- WRITE_STOP (R307): Head order 0x0D closes every gate at its beam's next cluster boundary. -/
  | writeStop (h : Nat) (closed : Bool)
  /-- POWER_CAL (R312): Head order 0x0E writes and reads a test cluster at stepped power and sets PW_OPT and BETA_REF. -/
  | powerCal (h : Nat) (ev : PowerCalEvent)
  /-- PKL_ACK_TIMEOUT (R305): No PKL acknowledgement within 200 µs fails the running order with 0x0F5C_0002. -/
  | pklAckTimeout (h : Nat)
  /-- CLUSTER_BUFFERED (R298): A beam's next cluster is read from HBM into a free buffer, with PI and poison checks. -/
  | clusterBuffered (h : Nat) (b : Nat) (nsid : Nat) (cl : Nat) (late : Bool)
  /-- BAND_END (R309): The band's last postamble returns lanes to IDLE and the verify jump back is issued. -/
  | bandEnd (h : Nat)
  /-- VERIFY_RESULT (R310): A cluster's verify decode passes, freeing its line, or fails and re-places it. -/
  | verifyResult (h : Nat) (b : Nat) (nsid : Nat) (cl : Nat) (bits : (List Nat)) (beta : Int)
  /-- GATE_REOPEN (R316): Causes cleared and guards quiet for REOPEN_TIME let the band resume at the next cluster boundary. -/
  | gateReopen (h : Nat)
  /-- COMMAND_FETCH (R26): A submission entry is fetched when a context is free and given a fetch sequence number. -/
  | commandFetch (c : Nat) (sq : Nat) (cid : Nat)
  /-- CONTROLLER_RESET (R326): CC.EN to 0, abrupt shutdown, FLR, hot reset, link down or PERST_N in mode 1 resets the controller and discards staged data. -/
  | controllerReset (c : Nat) (cause : ResetCause)
  /-- NVM_SUBSYSTEM_RESET (R325): NVM Subsystem Reset, or PERST_N in mode 0, resets the device as RESET_N low. -/
  | nvmSubsystemReset (perst : Bool)
  /-- CC_EN_SET (R327): CC.EN set lets CSTS.RDY follow within 500 ms once reset steps have ended. -/
  | ccEnSet (c : Nat)
  /-- NORMAL_SHUTDOWN (R325): CC.SHN normal stops fetching, flushes every attached namespace and reports shutdown complete. -/
  | normalShutdown (c : Nat)
  /-- KEEP_ALIVE_EXPIRY (R324): A fabric controller's keep-alive expiry tears it down as Table 13.3 states. -/
  | keepAliveExpiry (c : Nat)
  /-- CONNECT (R323): A Fabrics Connect creates a dynamic controller or admin/IO queue, up to MAX_FABRIC_CONTROLLERS. -/
  | connect (c : Nat) (req : ConnectReq)
  /-- DISCONNECT (R325): A Fabrics Disconnect tears down the association as a keep-alive expiry does. -/
  | disconnect (c : Nat)
  /-- PROPERTY_GET (R336): A Fabrics Property Get returns a controller property. -/
  | propertyGet (c : Nat) (cid : Nat) (off : Nat)
  /-- PROPERTY_SET (R510): A Fabrics Property Set writes a controller property, such as CC.EN. -/
  | propertySet (c : Nat) (cid : Nat) (off : Nat) (v : Nat)
  /-- READ (R359): An I/O Read is served from Granary in hardware on a hit, or fills through a media operation on a miss. -/
  | read (c : Nat) (cid : Nat) (nsid : Nat) (lba : Nat) (n : Nat) (pi : PiArgs)
  /-- WRITE (R333): An I/O Write is checked in global fetch order, reserves lines and completes once staged. -/
  | write (c : Nat) (cid : Nat) (nsid : Nat) (lba : Nat) (data : (List Block)) (fua : Bool) (pi : PiArgs)
  /-- ZONE_APPEND (R333): Zone Append takes the write pointer in fetch order and returns the first LBA written. -/
  | zoneAppend (c : Nat) (cid : Nat) (nsid : Nat) (lba : Nat) (data : (List Block)) (fua : Bool) (pi : PiArgs)
  /-- FLUSH (R343): Flush writes, verifies and records every covered write fetched before it, then completes. -/
  | flush (c : Nat) (cid : Nat) (nsid : Nat)
  /-- ZONE_OPEN (R332): Zone Management Send Open opens a zone explicitly. -/
  | zoneOpen (c : Nat) (cid : Nat) (nsid : Nat) (lba : Nat) (everyZone : Bool)
  /-- ZONE_CLOSE (R332): Zone Management Send Close closes an open zone. -/
  | zoneClose (c : Nat) (cid : Nat) (nsid : Nat) (lba : Nat) (everyZone : Bool)
  /-- ZONE_FINISH (R332): Zone Management Send Finish moves the write pointer to the zone end after flushing and recording FULL. -/
  | zoneFinish (c : Nat) (cid : Nat) (nsid : Nat) (lba : Nat) (everyZone : Bool)
  /-- ZONE_RESET (R332): Zone Management Send Reset fails with Invalid Zone State Transition. -/
  | zoneReset (c : Nat) (cid : Nat) (nsid : Nat) (lba : Nat) (everyZone : Bool)
  /-- ZONE_OFFLINE (R332): Zone Management Send Offline fails with Invalid Zone State Transition. -/
  | zoneOffline (c : Nat) (cid : Nat) (nsid : Nat) (lba : Nat) (everyZone : Bool)
  /-- ZONE_MANAGEMENT_RECEIVE (R332): Report Zones returns zone descriptors with any filter and partial reports. -/
  | zoneManagementReceive (c : Nat) (cid : Nat) (nsid : Nat) (lba : Nat) (filter : Nat) (limit : Nat) (part : Bool)
  /-- GET_LOG_PAGE (R350): Get Log Page returns a supported page or fails with Invalid Log Page. -/
  | getLogPage (c : Nat) (cid : Nat) (page : Nat) (nsid : Nat) (off : Nat) (len : Nat) (retain : Bool)
  /-- IDENTIFY (R351): Identify returns the controller, namespace or zoned structures of the CNS given. -/
  | identify (c : Nat) (cid : Nat) (cns : Nat) (csi : Nat) (nsid : Nat)
  /-- ABORT (R346): Abort ends an undispatched command with Command Abort Requested, else declines. -/
  | abort (c : Nat) (cid : Nat) (sq : Nat) (target : Nat)
  /-- SET_FEATURES_ARBITRATION (R337): Set Features 0x01 sets the round-robin burst. -/
  | setFeaturesArbitration (c : Nat) (cid : Nat) (v : Nat)
  /-- SET_FEATURES_POWER_MANAGEMENT (R337): Set Features 0x02 selects power state PS0. -/
  | setFeaturesPowerManagement (c : Nat) (cid : Nat) (v : Nat)
  /-- SET_FEATURES_TEMPERATURE_THRESHOLD (R337): Set Features 0x04 sets the composite temperature threshold. -/
  | setFeaturesTemperatureThreshold (c : Nat) (cid : Nat) (v : Nat)
  /-- SET_FEATURES_VOLATILE_WRITE_CACHE (R337): Set Features 0x06 sets WCE; with WCE 0 every write acts as FUA. -/
  | setFeaturesVolatileWriteCache (c : Nat) (cid : Nat) (v : Nat)
  /-- SET_FEATURES_NUMBER_OF_QUEUES (R338): Set Features 0x07 grants I/O queue pairs from the shared pool. -/
  | setFeaturesNumberOfQueues (c : Nat) (cid : Nat) (v : Nat)
  /-- SET_FEATURES_INTERRUPT_COALESCING (R337): Set Features 0x08 sets interrupt coalescing on the PCIe controller. -/
  | setFeaturesInterruptCoalescing (c : Nat) (cid : Nat) (v : Nat)
  /-- SET_FEATURES_INTERRUPT_VECTOR_CONFIG (R337): Set Features 0x09 configures an interrupt vector on the PCIe controller. -/
  | setFeaturesInterruptVectorConfig (c : Nat) (cid : Nat) (v : Nat)
  /-- SET_FEATURES_ASYNC_EVENT_CONFIG (R337): Set Features 0x0B enables asynchronous events. -/
  | setFeaturesAsyncEventConfig (c : Nat) (cid : Nat) (v : Nat)
  /-- SET_FEATURES_TIMESTAMP (R404): Set Features 0x0E sets the calendar clock, or fails while following the ring. -/
  | setFeaturesTimestamp (c : Nat) (cid : Nat) (v : Nat)
  /-- SET_FEATURES_KEEP_ALIVE_TIMER (R337): Set Features 0x0F sets a fabric controller's keep-alive timeout. -/
  | setFeaturesKeepAliveTimer (c : Nat) (cid : Nat) (v : Nat)
  /-- GET_FEATURES (R337): Get Features returns a supported feature's value. -/
  | getFeatures (c : Nat) (cid : Nat) (fid : Nat) (v : Nat)
  /-- ASYNC_EVENT_REQUEST (R350): An Asynchronous Event Request is held until an event completes it, up to AERL. -/
  | asyncEventRequest (c : Nat) (cid : Nat)
  /-- KEEP_ALIVE (R324): Keep Alive restarts the fabric controller's keep-alive timer. -/
  | keepAlive (c : Nat) (cid : Nat)
  /-- CREATE_IO_SQ (R338): Create I/O Submission Queue on the PCIe controller. -/
  | createIoSq (c : Nat) (cid : Nat) (qid : Nat) (size : Nat) (cq : Nat)
  /-- CREATE_IO_CQ (R338): Create I/O Completion Queue on the PCIe controller. -/
  | createIoCq (c : Nat) (cid : Nat) (qid : Nat) (size : Nat)
  /-- DELETE_IO_SQ (R346): Delete I/O Submission Queue discards undispatched commands and completes after dispatched ones. -/
  | deleteIoSq (c : Nat) (cid : Nat) (qid : Nat)
  /-- DELETE_IO_CQ (R338): Delete I/O Completion Queue on the PCIe controller. -/
  | deleteIoCq (c : Nat) (cid : Nat) (qid : Nat)
  /-- FORMAT_NVM (R329): Format NVM changes the LBA format of an all-EMPTY DAF side until detach. -/
  | formatNvm (c : Nat) (cid : Nat) (nsid : Nat) (lbaf : Nat) (pi : Nat) (ses : Nat)
  /-- FIRMWARE_IMAGE_DOWNLOAD (R347): Firmware Image Download stores a dword-aligned piece of an image. -/
  | firmwareImageDownload (c : Nat) (cid : Nat) (off : Nat) (data : (List Byte))
  /-- FIRMWARE_COMMIT_REPLACE (R347): Commit action 0 verifies and writes the image to the slot. -/
  | firmwareCommitReplace (c : Nat) (cid : Nat) (slot : Nat)
  /-- FIRMWARE_COMMIT_ACTIVATE_ON_RESET (R347): Commit action 1 writes the slot and sets the bank-select record for the next reset. -/
  | firmwareCommitActivateOnReset (c : Nat) (cid : Nat) (slot : Nat)
  /-- FIRMWARE_COMMIT_SELECT (R347): Commit action 2 sets the bank-select record for the next reset. -/
  | firmwareCommitSelect (c : Nat) (cid : Nat) (slot : Nat)
  /-- FIRMWARE_COMMIT_ACTIVATE_NOW (R348): Commit action 3 drains, starts the new firmware without reset and resumes fetching. -/
  | firmwareCommitActivateNow (c : Nat) (cid : Nat) (slot : Nat)
  /-- ACT_DRAIN_TIMEOUT (R348): ACT_DRAIN_MAX ending with commands running resumes the old firmware and completes as needing reset. -/
  | actDrainTimeout
  /-- DEVICE_SELF_TEST_SHORT (R349): Device Self-test code 0x1 runs the short segments in scope. -/
  | deviceSelfTestShort (c : Nat) (cid : Nat) (nsid : Nat)
  /-- DEVICE_SELF_TEST_EXTENDED (R349): Device Self-test code 0x2 runs all segments including pool BIST. -/
  | deviceSelfTestExtended (c : Nat) (cid : Nat) (nsid : Nat)
  /-- DEVICE_SELF_TEST_ABORT (R476): Device Self-test code 0xF ends the running test at the next boundary with result 1h. -/
  | deviceSelfTestAbort (c : Nat) (cid : Nat)
  /-- SELFTEST_IDLE_EXPIRY (R474): SELFTEST_IDLE with no host operation lets a loop check start. -/
  | selftestIdleExpiry (st : Nat)
  /-- SELFTEST_TIME_LIMIT (R475): The test's time limit passes and its remaining steps are recorded SKIPPED. -/
  | selftestTimeLimit
  /-- PIN (R370): Vendor admin 0xC2 fills and locks a cluster range and returns a PIN_ID. -/
  | pin (c : Nat) (cid : Nat) (nsid : Nat) (lba : Nat) (n : Nat)
  /-- UNPIN (R370): Vendor admin 0xC3 frees a pin record and unlocks its lines. -/
  | unpin (c : Nat) (cid : Nat) (id : Nat)
  /-- ATTESTATION_QUOTE (R432): Vendor admin 0xC4 signs a quote over the nonce and returns it. -/
  | attestationQuote (c : Nat) (cid : Nat) (nonce : (List Byte))
  /-- FILL_COMMIT (R359): The first decoded block of a miss commits the tag, taking over the victim or bypassing. -/
  | fillCommit (nsid : Nat) (cl : Nat)
  /-- BLOCK_PLACED (R359): A decoded block is PI-checked, set VALID and sent to every read waiting on it. -/
  | blockPlaced (nsid : Nat) (cl : Nat) (b : Nat) (blk : Block)
  /-- FILL_END (R360): A fill ends when every data sector has decoded or been given up, leaving the line VALID. -/
  | fillEnd (nsid : Nat) (cl : Nat)
  /-- WRITE_LINE_RESERVED (R364): A waiting write gets its lines reserved, is accepted and staged. -/
  | writeLineReserved (c : Nat) (cid : Nat)
  /-- MERGE_FILL_DONE (R365): A merge fill completes the medium blocks of a dirty line so it can be buffered. -/
  | mergeFillDone (nsid : Nat) (cl : Nat)
  /-- TAG_PROBE (R356): REQUEST 1 of 0x4403 reports set, way, state and masks for a cluster. -/
  | tagProbe (dr : Door) (v : Nat)
  /-- SCRUB_STEP (R381): A scrub step reads and corrects one 256-byte chunk under its channel token. -/
  | scrubStep (pass : Bool) (words : (List Nat)) (sram : (Option SramRow))
  /-- HBM_UNCORRECTABLE_ERROR (R380): An uncorrectable HBM word or failing chunk is handled by region as Table 15.4 states. -/
  | hbmUncorrectableError (a : Nat) (use : HbmUse)
  /-- SOFT_REPAIR (R382): A row reaching REPAIR_THRESHOLD is copied, soft-repaired under its token and recorded pending hard repair. -/
  | softRepair (a : Nat)
  /-- HARD_REPAIR_WINDOW (R383): At the daily window with no station READY or ACTIVE, pending hard repairs are applied. -/
  | hardRepairWindow (oks : (List Bool))
  /-- HBM_ADDRESS_DECODE (R388): REQUEST 1 of 0x4603 decodes ADDRESS into region, stack, channel, bank and row. -/
  | hbmAddressDecode (dr : Door) (v : Nat)
  /-- HBM_INJECT_ARM (R388): REQUEST 2 of 0x4603, under authorisation, arms an error injection at the next write of ADDRESS. -/
  | hbmInjectArm (dr : Door) (v : Nat)
  /-- REPAIR_MAP_CLEAR (R386): Writing 1, under authorisation, clears the NOR repair map from the next start-up. -/
  | repairMapClear (dr : Door) (v : Nat)
  /-- RING_ENABLE_WRITE (R395): RING_ENABLE 1 wakes the ring domains; 0 takes the ports down unless a spread namespace is attached. -/
  | ringEnableWrite (dr : Door) (v : Nat)
  /-- RING_LINK_BROKEN (R391): A ring port declares its link broken and the device folds, sending FOLD_NOTICE. -/
  | ringLinkBroken (p : Nat)
  /-- RING_LINK_RETRAIN (R391): A broken link retrains every 100 ms. -/
  | ringLinkRetrain (p : Nat) (peer : Nat)
  /-- RING_FORMATION (R392): Ports coming up or a re-form trigger run discovery, election and position assignment. -/
  | ringFormation
  /-- SYNC_INTERVAL_TICK (R403): Every SYNC_INTERVAL the master sends TIME_SYNC and RING_PROBE and links probe their delays. -/
  | syncIntervalTick
  /-- IDLE_FRAME (R390): A ring IDLE frame acknowledges LINK_SEQ. -/
  | idleFrame (p : Nat) (ack : Nat) (again : Bool)
  /-- DELAY_PROBE (R403): A DELAY_PROBE frame from a neighbour is answered with DELAY_ECHO. -/
  | delayProbe (p : Nat) (hd : FrameHead) (crc : Bool) (t : Nat)
  /-- DELAY_ECHO (R403): A DELAY_ECHO frame gives the link delay measurement. -/
  | delayEcho (p : Nat) (hd : FrameHead) (crc : Bool) (delay : Nat)
  /-- DISCOVER (R392): A DISCOVER frame contributes a candidate to master election. -/
  | discover (p : Nat) (hd : FrameHead) (crc : Bool) (c : Candidate)
  /-- ROSTER (R393): A ROSTER frame sets positions and fold ends and ends formation. -/
  | roster (p : Nat) (hd : FrameHead) (crc : Bool) (r : RosterIn)
  /-- TIME_SYNC (R403): A TIME_SYNC frame corrects ring time and, when following, calendar time. -/
  | timeSync (p : Nat) (hd : FrameHead) (crc : Bool) (t : Nat) (cal : Nat) (delay : Nat)
  /-- RING_PROBE (R397): A returning RING_PROBE gives the round trip, setting RING, FOLDED or OVER_BUDGET. -/
  | ringProbe (p : Nat) (hd : FrameHead) (crc : Bool) (rtt : Nat)
  /-- FOLD_NOTICE (R398): A FOLD_NOTICE at the master enters FOLDED and issues a ROSTER naming the fold ends. -/
  | foldNotice (p : Nat) (hd : FrameHead) (crc : Bool) (serial : Nat) (east : Bool)
  /-- REJOIN (R400): A REJOIN frame schedules removal of loopbacks at a ring time. -/
  | rejoin (p : Nat) (hd : FrameHead) (crc : Bool) (t : Nat)
  /-- REJOIN_TIME_REACHED (R400): At the REJOIN ring time both ends remove their loopbacks and the ring returns to RING. -/
  | rejoinTimeReached
  /-- STROBE_SET (R405): A STROBE_SET frame schedules a ring strobe, or is counted missed if late. -/
  | strobeSet (p : Nat) (hd : FrameHead) (crc : Bool) (n : Nat) (t : Nat)
  /-- RING_STROBE_TIME_REACHED (R405): Local ring time reaches RS_TIME and the ring strobe fires. -/
  | ringStrobeTimeReached (n : Nat)
  /-- GRANT_REQ (R408): A GRANT_REQ at the master queues a spin-up for a grant. -/
  | grantReq (p : Nat) (hd : FrameHead) (crc : Bool) (serial : Nat) (st : Nat) (ask : Bool)
  /-- GRANT (R408): A GRANT frame lets a waiting spin-up take its local slot, or releases a grant. -/
  | grant (p : Nat) (hd : FrameHead) (crc : Bool) (serial : Nat) (st : Nat) (give : Bool)
  /-- GRANT_EXPIRY (R408): A grant held 20 s is released by the master. -/
  | grantExpiry (serial : Nat) (st : Nat)
  /-- MEMBER_READ (R414): A MEMBER_READ frame asks a member for a column's blocks. -/
  | memberRead (p : Nat) (hd : FrameHead) (crc : Bool) (v : Nat) (col : Nat) (lba : Nat) (n : Nat)
  /-- MEMBER_DATA (R414): A MEMBER_DATA frame delivers member blocks to the master. -/
  | memberData (p : Nat) (hd : FrameHead) (crc : Bool) (v : Nat) (row : Nat) (col : Nat) (ok : Bool) (blocks : (List Block))
  /-- MEMBER_WRITE (R412): A MEMBER_WRITE frame stages a row cluster at the member zone's write pointer. -/
  | memberWrite (p : Nat) (hd : FrameHead) (crc : Bool) (v : Nat) (col : Nat) (lba : Nat) (data : (List Block))
  /-- MEMBER_ACK (R413): A MEMBER_ACK frame reports a member write's status, marking columns owed on failure. -/
  | memberAck (p : Nat) (hd : FrameHead) (crc : Bool) (v : Nat) (col : Nat) (flush : Bool) (n : Nat) (ok : Bool)
  /-- MEMBER_FLUSH (R412): A MEMBER_FLUSH frame flushes a member zone. -/
  | memberFlush (p : Nat) (hd : FrameHead) (crc : Bool) (v : Nat) (col : Nat) (zone : Nat)
  /-- VOLUME_TABLE (R409): A VOLUME_TABLE frame stores the volume definitions in NOR. -/
  | volumeTable (p : Nat) (hd : FrameHead) (crc : Bool) (vols : (List Volume))
  /-- RS_FIRE (R405): Writing RS_FIRE on the master sends STROBE_SET for RS_NUMBER at RS_TIME. -/
  | rsFire (dr : Door) (v : Nat)
  /-- CALENDAR_TIME_WRITE (R404): A write of CALENDAR_TIME sets the calendar clock, stepping it with a record. -/
  | calendarTimeWrite (dr : Door) (v : Nat)
  /-- VOLUME_CREATE (R409): Action 1 of 0x4A01 creates a spread volume, claiming member zones. -/
  | volumeCreate (dr : Door) (v : Nat) (far : Nat)
  /-- VOLUME_DELETE (R409): Action 2 of 0x4A01 deletes a volume with no staged data. -/
  | volumeDelete (dr : Door) (v : Nat)
  /-- REPLACE_COLUMN (R415): Action 3 of 0x4A01 moves an unreachable column to new zones, all its rows owed. -/
  | replaceColumn (dr : Door) (v : Nat) (far : Bool)
  /-- ROW_ENCODE (R412): A complete row of k data clusters is encoded and sent to the members. -/
  | rowEncode (v : Nat) (row : Nat)
  /-- ROW_REBUILD (R413): An owed row of a reachable column is rebuilt at REBUILD_RATE. -/
  | rowRebuild (v : Nat) (col : Nat) (parts : (List MemberPart))
  /-- LIFE_CYCLE_TRANSITION (R421): REQUEST of 0x5001 programs a permitted transition's effects and state, then resets the device. -/
  | lifeCycleTransition (dr : Door) (v : Nat) (prog : ProgramEnd)
  /-- CUSTOMER_KEY_FUSE (R434): REQUEST 1 of 0x5002 fuses the customer key hash, once, in PROVISIONED. -/
  | customerKeyFuse (dr : Door) (v : Nat) (ok : Bool)
  /-- QUOTE_REQUEST (R432): REQUEST 1 of 0x5011 signs a quote with the nonce held. -/
  | quoteRequest (dr : Door) (v : Nat)
  /-- QUOTE_SIGNED (R432): The signer completes a quote and ends its request. -/
  | quoteSigned
  /-- AUTH_RESPONSE (R433): A RESPONSE write is verified against the challenge and opens authorisation for DURATION. -/
  | authResponse (dr : Door) (data : (List Byte))
  /-- AUTH_CLOSE (R433): Writing CLOSE closes the authorisation object. -/
  | authClose (dr : Door) (v : Nat)
  /-- AUTH_DURATION_EXPIRY (R433): DURATION ends and the authorisation object closes. -/
  | authDurationExpiry
  /-- AUTH_LOCKOUT_EXPIRY (R433): The 600 s lockout after five failures ends and responses are accepted again. -/
  | authLockoutExpiry
  /-- DEBUG_RESPONSE (R435): A DEBUG_RESPONSE in RETURN, signed by the debug key, unlocks JTAG until reset. -/
  | debugResponse (dr : Door) (data : (List Byte))
  /-- ID_CERT_WRITE (R429): A segmented write of ID_CERT is accepted if its key matches and stored in NOR. -/
  | idCertWrite (dr : Door) (data : (List Byte))
  /-- RECOVERY_INSTALL (R436): REQUEST 1 of 0x5031 checks the recovery image, writes both banks and restarts. -/
  | recoveryInstall (dr : Door) (v : Nat)
  /-- LEDGER_POST (R438): A posted record is rate-limited, stamped, given a SEQ and stored, or side-buffered while frozen. -/
  | ledgerPost (code : Nat) (source : Nat) (payload : (List Byte))
  /-- LEDGER_FLUSH (R444): A flush starts on threshold, ERROR severity or FLUSH_NOW and copies unflushed records to NOR. -/
  | ledgerFlush
  /-- FLUSH_INTERVAL_EXPIRY (R444): FLUSH_INTERVAL since the last flush starts a flush. -/
  | flushIntervalExpiry
  /-- FLUSH_NOW (R444): Writing 1 to FLUSH_NOW starts a flush. -/
  | flushNow (dr : Door) (v : Nat)
  /-- LEDGER_FLUSH_DONE (R444): A flush completes programming its frames to NOR. -/
  | ledgerFlushDone (bad : Bool)
  /-- FREEZE_WRITE (R449): Setting FREEZE diverts records to the side buffer; clearing it stores them after 0x0C03. -/
  | freezeWrite (dr : Door) (v : Nat)
  /-- CURSOR_WRITE (R450): A write to CURSOR loads the path's window with the lowest stored record at or above it. -/
  | cursorWrite (dr : Door) (v : Nat)
  /-- ADVANCE (R450): Writing 1 to ADVANCE moves the cursor past the loaded record and loads the next. -/
  | advance (dr : Door) (v : Nat)
  /-- LEDGER_CLEAR (R451): Writing 1 to CLEAR, under authorisation, makes all records unreadable and posts 0x0C02. -/
  | ledgerClear (dr : Door) (v : Nat)
  /-- CLEAR_ERASE_STEP (R451): A background clear erases the next sector every 100 ms and advances CLEAR_PROGRESS. -/
  | clearEraseStep
  /-- REXT_MEASURE (R454): Every 10 s REXT is measured, setting or clearing REXT_FAULT. -/
  | rextMeasure (v : Nat)
  /-- RF_CAL_VISIT (R456): A scheduled visit calibrates the spare and a beam ADC with handovers, or is skipped. -/
  | rfCalVisit (h : Nat) (b : Nat) (sp : CalFit) (ad : CalFit) (there : Nat) (back : Nat)
  /-- SERVO_ADC_CAL (R457): After 4,096 gap conversions of each reference a servo ADC fits offset and gain. -/
  | servoAdcCal (h : Nat) (a : Nat) (f : CalFit)
  /-- DAC_CAL (R458): Every DAC_CAL_PERIOD actuator DACs and motor sense inputs are trimmed against REXT. -/
  | dacCal (e : Nat) (vals : (List CalFit))
  /-- CAL_RF_VISIT_ROUND (R455): Kind 1 of 0x2441 requests an RF visit round of a head. -/
  | calRfVisitRound (dr : Door) (v : Nat)
  /-- CAL_HEAD_DACS (R455): Kind 2 of 0x2441 requests calibration of a head's DACs. -/
  | calHeadDacs (dr : Door) (v : Nat)
  /-- CAL_MOTOR_SENSE (R455): Kind 3 of 0x2441 requests calibration of a station's motor sense. -/
  | calMotorSense (dr : Door) (v : Nat)
  /-- TOKEN_GRANT (R462): The maintenance arbiter grants a waiting request all of its tokens in arrival order. -/
  | tokenGrant
  /-- BIST_STATION_CORE (R467): Kind 1 of 0x2501 runs class A BIST of a station core. -/
  | bistStationCore (dr : Door) (v : Nat)
  /-- BIST_MOTOR_IO (R467): Kind 2 of 0x2501 runs class A BIST of motor I/O. -/
  | bistMotorIo (dr : Door) (v : Nat)
  /-- BIST_HEAD_FRONT_END (R467): Kind 3 of 0x2501 runs class A BIST of a head front end. -/
  | bistHeadFrontEnd (dr : Door) (v : Nat)
  /-- BIST_HEAD_CHANNEL (R467): Kind 4 of 0x2501 runs class A BIST of a head channel. -/
  | bistHeadChannel (dr : Door) (v : Nat)
  /-- BIST_LDPC_SLICE (R469): Kind 5 of 0x2501 runs class B BIST of an LDPC slice. -/
  | bistLdpcSlice (dr : Door) (v : Nat)
  /-- BIST_CONTEXT_SEGMENT (R469): Kind 6 of 0x2501 runs class B BIST of a context segment. -/
  | bistContextSegment (dr : Door) (v : Nat)
  /-- BIST_EC_ENGINE (R469): Kind 7 of 0x2501 runs class B BIST of an erasure-coding engine. -/
  | bistEcEngine (dr : Door) (v : Nat)
  /-- BIST_WHOLE_CHIP (R471): Kind 8 of 0x2501 runs whole-chip BIST and then resets as RESET_N. -/
  | bistWholeChip (dr : Door) (v : Nat)
  /-- BIST_PATTERN_BLOCK (R465): A block of 256 scan patterns ends, at which the partition may be aborted or suspended. -/
  | bistPatternBlock (kind : Nat) (inst : Nat)
  /-- BIST_PARTITION_END (R465): A partition's MISR is compared, rerun once on mismatch, and the partition re-initialised. -/
  | bistPartitionEnd (kind : Nat) (inst : Nat) (sig : Nat) (first : Nat) (rows : (List SramRow))
  /-- POOL_BIST_TICK (R469): The POOL_BIST_INTERVAL schedule starts the next class B partition test. -/
  | poolBistTick
  /-- SEGMENT_WAIT_EXPIRY (R469): A context segment not free within SEGMENT_WAIT is skipped and recorded DEFERRED. -/
  | segmentWaitExpiry (j : Nat)
  /-- CLASS_B_TIME_EXCEEDED (R469): A class B test not ended 5 ms after leaving the pool is stopped and recorded INCOMPLETE. -/
  | classBTimeExceeded
  /-- WIRING_TEST (R480): Order 0x18 runs the station and head wiring test steps of Table 20.1. -/
  | wiringTest (st : Nat)
  /-- WIRING_TEST_REQUEST (R479): A REQUEST to 0x3sE2 runs an on-demand wiring test of the scope given. -/
  | wiringTestRequest (dr : Door) (st : Nat) (v : Nat)
  /-- WIRING_TEST_END (R483): A wiring test part ends and its connection faults take the reactions of Table 20.4. -/
  | wiringTestEnd (st : Nat) (part : Nat) (meas : (List WireMeas))
  /-- SENSE_CHECK (R483): Every SENSE_CHECK_PERIOD class A station inputs are bias-tested and any fault reacted to at once. -/
  | senseCheck (st : Nat) (n : Nat) (src : Int) (snk : Int) (afe : Int)
  /-- EVENT_OVERRIDE_WRITE (R486): A write of an OVERRIDE entry changes the record and EMCY outcome of a code and posts 0x0E05. -/
  | eventOverrideWrite (dr : Door) (ix : Nat) (v : Nat)
  /-- THERMAL_READ (R504): Every 100 ms die and stack temperatures are read, warning or shutting down as PFW_N. -/
  | thermalRead (tj : Int) (temps : (List Int))
  /-- VHEARTH_LOSS (R96): VHEARTH leaving its limits without a preceding PFW_N loses Hearth, its Ledger SRAM, calendar time and every kept state. -/
  | vhearthLoss
  /-- RAIL_DOWN_STEP (R87): During power-down each enable falls after its PG input has fallen, or 5 ms after the previous enable fell, in the reverse order of Table 4.2. -/
  | railDownStep
  /-- CAN_ERROR_PASSIVE (R50): A CAN controller entering or leaving error passive changes BUS_STATE and raises EMCY 0x8120. -/
  | canErrorPassive (bus : Nat) (passive : Bool)
  /-- ETHERNET_LINK_CHANGE (R91): A host Ethernet port gains or loses link, updating LINK_STATE and the host-ready condition. -/
  | ethernetLinkChange (p : Nat) (up : Bool)
  /-- PCIE_LINK_UP (R321): PCIe link training completes, setting LINK_SPEED, LINK_WIDTH and LTSSM_STATE at the trained rate and width. -/
  | pcieLinkUp (speed : Nat) (width : Nat)
  /-- ENCODER_EDGE (R194): An ENC_A or ENC_B quadrature edge advances the encoder count, detects quadrature errors that degrade the encoder, and drives commutation under takeover. -/
  | encoderEdge (st : Nat) (fwd : Bool) (valid : Bool) (stamp : Nat)
  /-- SECURITY_IDLE_GATE (R81): The security domain gates after 1 s with no signing, verification or attestation request. -/
  | securityIdleGate
  /-- EYE_MEASURE (R455): Every EYE_PERIOD the receiver eye monitor measures each SerDes lane and updates EYE_HEIGHT and EYE_WIDTH. -/
  | eyeMeasure (heights : (List Nat)) (widths : (List Nat))
  /-- PERST_N_RELEASE (R325): PERST_N deasserting after a PERST_MODE 0 reset releases the device as RESET_N release does. -/
  | perstNRelease
  /-- SEG_WINDOW_REGISTER_WRITE (R55): A write to SEG_OBJECT, SEG_LENGTH or SEG_APERTURE sets the transfer's object, length or data bytes, ignoring aperture bytes beyond SEG_LENGTH and restarting the window idle timer. -/
  | segWindowRegisterWrite (off : Nat) (v : Nat)
  /-- SEG_CTRL_INVALID_OP (R55): A write of OP 0, 5, 6 or 7 to SEG_CTRL is discarded with STATE unchanged and SEG_ABORT set to 0x0504_0001. -/
  | segCtrlInvalidOp
  deriving DecidableEq, Repr

end Sys2Proof
end

