-- ==== Sys2Proof/Decode.lean ====
section
/-! DEFINITION. The words of the operation table. The table gives its rows no bits: no word spells a command. -/

namespace Sys2Proof

/-- The command that a word of the table spells: none, since no row of the table has bits. -/
def decodeTableWord (_nbits _w : Nat) : Option Instr := none

end Sys2Proof
end

