-- ==== Sys2Proof/Config.lean ====
section
/-! DEFINITION. What an implementation fixes and the spec does not give: opaque constants with no body, so that a
statement which mentions one holds whatever it is. -/

namespace Sys2Proof.Config

/-- The release number of the running firmware, object 0x1018:03 bits 15..0 and 0x100A (the spec gives none). -/
opaque releaseNumber : Nat

/-- A value the spec leaves open, by the number of its use (State.free counts the uses; log entry 3). -/
opaque freeValue : Nat → Nat

/-- The fields of CAP that the manual does not list (R327 and R338 give MQES and TO alone). -/
opaque capOther : Nat

/-! The cryptography of chapter 17, which the manual takes from FIPS 204 and from SHAKE256 (log entry 45). A public key
is 1,952 bytes, a signature 3,309, a hash 64; byte 0 is lowest. -/

/-- SHAKE256 with a 64-byte output. -/
opaque hash : List Byte → BitVec 512
/-- Whether a signature over a message is valid under a public key (ML-DSA-65). -/
opaque verifies (key : BitVec 15616) (msg : List Byte) (sig : BitVec 26472) : Bool
/-- The sealed identity seed of a device, drawn from the TRNG at Golalmoux (R427). -/
opaque idSeed (serial : Nat) : BitVec 256
/-- The public key of the ML-DSA-65 key pair that a 32-byte seed generates. -/
opaque publicKey (seed : List Byte) : BitVec 15616
/-- A signature by the key pair of a seed, randomised by `n`. -/
opaque sign (seed msg : List Byte) (n : Nat) : BitVec 26472
/-- The hashes in the fuses: the root key's, the vendor return key's, the vendor debug key's. -/
opaque rootHash : BitVec 512
opaque returnHash : BitVec 512
opaque debugHash : BitVec 512
/-- The digests of the mask ROM and of an unlock (Table 17.5, KIND 1 and 9). -/
opaque romDigest : BitVec 512
opaque unlockDigest : BitVec 512
/-- The digest of a persistent-parameter copy (KIND 8), whose layout in the NOR the manual does not give. -/
opaque copyDigest : List (Nat × Nat) → List (Nat × List Byte) → BitVec 512
/-- The digest of the 16,384 words of the Lathe image: the vendor section's digest and the customer words (R241). -/
opaque storeDigest : BitVec 512 → List Nat → BitVec 512
/-- The TAG that this device sets in a frame of its own (Table 16.1), by its LINK_SEQ. -/
opaque frameTag (seq : Nat) : Nat
/-- The application tag of protection information that the master generates for a member block (R411). -/
opaque memberTag (lba : Nat) : Nat
/-- Spare rows of an SRAM macro that the fuse map of a device uses, 0 to 2 after reduction (R385). -/
opaque fusedSpares (serial mac : Nat) : Nat
/-- The 32 bytes of a repair-map record, whose layout the manual does not give (R386): kind, row, time, events. -/
opaque repairRecord (kind row time events : Nat) : BitVec 256
/-- The ABI and the version that a vendor Lathe section declares (R242). -/
opaque latheAbi : List Byte → Nat
opaque latheVersion : List Byte → Nat
/-- The number of the PCIe Base LTSSM state L0 (object 0x4000:07). -/
opaque ltssmL0 : BitVec 8
/-- The vendor loop table of a firmware image (R137): release, actuator class that the pickup's identity declares (a free
value; for a station's loops 0), loop of Table 6.1 (FOC, TRK, TLT, BLR, LPW, SPD, SLU, SLL), sub-index of Table 6.9. -/
opaque vendorSet (release cls loop sub : Nat) : Nat
/-- A chip of a PRBS of an order, by its place in the period of 2^order − 1 (R151, R185: the manual gives no polynomial). -/
opaque prbsChip (order place : Nat) : Bool
/-- A detector quotient whose divisor is 0 (R156: the manual states no result), of the dividend. -/
opaque openQuotient : Int → Int
/-- The SUM that a head's detector is expected to give in focus (R164, CAPTURE_SUM and SURFACE_SUM). -/
opaque expectedSum : Nat → Nat
/-- FE_SLOPE at a crossing, from a head's change of FE and of the drive between two samples (R164: the lens's travel for a drive
is not in the manual). -/
opaque feSlope (head : Nat) (fe drive : Int) : Int
/-- The spherical-aberration word of highest RF amplitude that a load's sweep finds (R161), and the tilt drive of highest RF
amplitude of a band of a Blu-ray Disc (R186): head, layer or entry, the value it starts from, the number of the use. -/
opaque saBest (head layer start use : Nat) : Nat
opaque tiltBest (head entry start use : Nat) : Nat
/-- The expected MISR signature of a BIST partition, by its number in object 0x2502 (R465). -/
opaque expectedSignature : Nat → BitVec 64

/-- The MAC address of Ethernet port p, derived from SERIAL in a way the manual does not give (object 0x4100:03 to :06). -/
opaque macAddress (serial port : Nat) : BitVec 48
/-- The release's text in object 0x100A, such as "3.2.0", of a release number (Table 2.10). -/
opaque releaseText : Nat → List Byte
/-- LDPC_BASE, object 0x3sCF: the shifts of the parity-check matrix that the manual does not list (R252). -/
opaque ldpcBase : List Byte
/-- The 5,120 parity bits of 33,280 information bits, which the matrix of LDPC_BASE fixes (R252). -/
opaque ldpcParity : List Bool → List Bool

end Sys2Proof.Config
end

