-- ==== Sys2Proof/Machine/State.lean ====
section
/-! DEFINITION. Everything the block holds, as plain data: the registers of the object dictionary in one sparse table,
and beside them the state the manual gives its engines that no object shows. -/

namespace Sys2Proof.Machine

/-! ### The part and the dictionary's lines -/

/-- What the fuses and the package fix of one part (R2, R62, R64): the model runs any of the twelve variants. -/
structure Part where
  /-- stations present: 8, 4 or 2 -/
  stations : Nat
  /-- W part: eight beams per head; otherwise four -/
  wide : Bool
  /-- Q part: 400 GbE, ring and erasure coding; otherwise D -/
  q : Bool
  /-- object 0x2000:0A -/
  serial : Nat
  deriving DecidableEq, Repr

/-- The data types of the dictionary (CiA 301 types the SX7 uses; chapter 2). A string or DOMAIN carries its greatest
length in bytes. -/
inductive Ty where
  | bool | u8 | u16 | u32 | u64 | i8 | i16 | i32
  | vstr (n : Nat) | oct (n : Nat) | dom (n : Nat)
  deriving DecidableEq, Repr

/-- The named states in which an rws object accepts a write; each is one phrase of an object table. -/
inductive Cond where
  | clampStill | maint | headNotWriting | noFabric | loopNotClosed | ffTable | headLoopsOff | beamLoopNotClosed
  | notReadyActive | dafInactive | allInactive | notFollowing | ringOff | allMaint | stopped | setUnlocked
  | convergedOff
  deriving DecidableEq, Repr

/-- The access classes of Table 2.2 (R32). -/
inductive Access where
  | const | ro | wo | rw
  | rws (c : Cond)
  deriving DecidableEq, Repr

/-- The range or coded set of an object (R33, check step 4 of R507). -/
inductive Dom where
  /-- every value of the type -/
  | any
  | rng (lo hi : Int)
  /-- 0, or a range -/
  | zeroOr (lo hi : Int)
  /-- either of two ranges -/
  | rng2 (lo hi lo' hi' : Int)
  | oneOf (l : List Nat)
  /-- bits outside the mask are reserved and ignored (R11) -/
  | mask (m : Nat)
  /-- bits outside the mask are refused -/
  | bits (m : Nat)
  deriving DecidableEq, Repr

/-- One line of an object table: the index (repeated `nIdx` times, `stIdx` apart), the sub-index (likewise), type,
access class, default and range. -/
structure Obj where
  idx : Nat
  nIdx : Nat
  stIdx : Nat
  sub : Nat
  nSub : Nat
  stSub : Nat
  ty : Ty
  acc : Access
  dflt : Nat
  dom : Dom
  deriving DecidableEq, Repr

/-! ### The Ledger (chapter 18) -/

/-- One record (Table 18.1, R438) with the SEQ it took. -/
structure Rec where
  seq : Nat
  code : Nat
  source : Nat
  severity : Nat
  flags : Nat
  suppressed : Nat
  time : Nat
  payload : List Byte
  deriving DecidableEq, Repr

/-- A frame of the NOR partition (R448): a record with its SEQ, and whether its CRC passes. -/
structure NorFrame where
  recd : Rec
  crcOk : Bool
  deriving DecidableEq, Repr

/-- One 64 KiB sector of the NOR partition (R448). -/
structure NorSector where
  bad : Bool
  frames : List NorFrame
  deriving DecidableEq, Repr

/-- A token bucket (R442): tokens in 10^-9 token, the instant it was last brought up to date, and the suppressed
count of the code (R443). A code with no entry has a full bucket and count 0. -/
structure Bucket where
  code : Nat
  nano : Nat
  at_ : Nat
  suppressed : Nat
  deriving DecidableEq, Repr

/-- The read window of one path (R450). -/
structure LedgerWindow where
  cursor : Nat
  recSeq : Nat
  bytes : List Byte
  deriving DecidableEq, Repr

/-- The Ledger's state that no object shows whole. -/
structure Ledger where
  /-- the SEQ the next record takes (R439) -/
  nextSeq : Nat
  /-- records in the retained SRAM, in SEQ order (R444) -/
  sram : List Rec
  /-- records of lower or equal SEQ are in NOR -/
  flushed : Nat
  /-- the SEQ up to which the running flush copies, if one runs (R444) -/
  flushTo : Option Nat
  /-- the 256 sectors of the partition (R448) -/
  nor : List NorSector
  /-- the sector of the write point -/
  norSector : Nat
  buckets : List Bucket
  /-- the side buffer while FREEZE is set (R449) -/
  side : List Rec
  /-- side-buffer overflows of the present freeze -/
  sideLost : Nat
  /-- an open episode of R445: first SEQ discarded, and the count -/
  episode : Option (Nat × Nat)
  /-- a power-fail flush whose gap record the next start-up posts: the records it counted as lost, and the first missing SEQ
  (R446 reason 0, R447) -/
  pfw : Option (Nat × Nat)
  /-- records of lower SEQ are unreadable (R451) -/
  floor : Nat
  /-- sectors a running clear still has to erase, and how many it had at the start (R451) -/
  clearing : List Nat
  clearTotal : Nat
  /-- the four read windows: CAN 0, CAN 1, BAR2, NVMe (R450) -/
  windows : List LedgerWindow
  /-- the instant of the last flush (R444) -/
  lastFlush : Nat
  deriving DecidableEq, Repr

/-! ### CAN (chapter 2) -/

/-- The NMT states (R44). -/
inductive Nmt where
  | initialising | preOperational | operational | stopped
  deriving DecidableEq, Repr

/-- The state of one CAN controller, object 0x2010:09; a bus-off controller also counts its recovery wait (R47). -/
inductive BusState where
  | active | passive | busOff | disabled
  deriving DecidableEq, Repr

/-- An EMCY frame (Table 2.5). -/
structure Emcy where
  code : Nat
  errReg : Nat
  source : Nat
  place : Nat
  event : Nat
  detail : Nat
  deriving DecidableEq, Repr

/-- A standing condition of R508: the EMCY code, byte 3 and byte 4. -/
structure Standing where
  code : Nat
  source : Nat
  place : Nat
  deriving DecidableEq, Repr

/-- A segmented SDO or USDO transfer (R48, R38, R40). -/
inductive Xfer where
  | idle
  /-- a read: the snapshot's bytes still to send, and the next toggle bit -/
  | upload (idx sub : Nat) (rest : List Byte) (toggle : Bool)
  /-- a write: the bytes received, the length announced, and the next toggle bit -/
  | download (idx sub : Nat) (got : List Byte) (total : Nat) (toggle : Bool)
  deriving DecidableEq, Repr

/-- The state of one PDO in each direction (R49, R46). -/
structure Pdo where
  /-- a first discard of this RPDO has been recorded since boot -/
  discarded : Bool
  /-- a synchronous RPDO received and waiting for the next SYNC -/
  waiting : Option (List Byte)
  /-- the bus and the instant of the last RPDO applied (redundant mode) -/
  lastBus : Nat
  lastAt : Nat
  /-- the TPDO has a change to send, and its inhibit time runs -/
  pending : Bool
  inhibit : Bool
  /-- SYNCs counted since the TPDO was last sent -/
  syncs : Nat
  /-- the bytes of its mapped values when Watchman last compared them -/
  last : List Byte
  deriving DecidableEq, Repr

/-- CAN state that no object shows (chapter 2). -/
structure Can where
  nmt : Nmt
  /-- the node has sent its boot-up message -/
  booted : Bool
  /-- values applied at the last NMT reset communication (R63) -/
  mode : Nat
  nominal : Nat
  dataRate : Nat
  buses : List BusState
  /-- SDO channel of bus 0, USDO of bus 0, SDO of bus 1, USDO of bus 1 (R48) -/
  channels : List Xfer
  pdos : List Pdo
  /-- EMCY frames held before boot-up or for the inhibit time (R508) -/
  held : List Emcy
  emcyInhibit : Bool
  standing : List Standing
  /-- which consumer heartbeat timers run (0x1016:01 to :04) -/
  consumers : List Bool
  deriving DecidableEq, Repr

/-- STATE of SEG_STATUS (Table 2.7). -/
inductive SegState where
  | idle | openRead | openWrite | busy | error
  deriving DecidableEq, Repr

/-- The BAR2 window's own registers (Table 2.7, R54). -/
structure Bar2 where
  segObject : Nat
  /-- the object of the transfer that is open, as SEG_OBJECT read when it was opened -/
  openObject : Nat
  segLength : Nat
  segOffset : Nat
  state : SegState
  segAbort : Nat
  winAbort : Nat
  winAbortObject : Nat
  winPending : Nat
  winRefused : Nat
  /-- the object bytes of the transfer: the snapshot of a read, or what the host wrote -/
  data : List Byte
  /-- the answer of the commit in progress, once its write has been applied or refused -/
  result : Option Nat
  deriving DecidableEq, Repr

/-- One copy of the persistent-parameter area (R60): the values stored, by object, numbers and byte strings. -/
structure Copy where
  valid : Bool
  nums : List (Nat × Nat)
  raws : List (Nat × List Byte)
  deriving DecidableEq, Repr

/-- A store or restore in progress (R59): the door that asked, the object written, and what it programs. -/
structure Store where
  door : Door
  ix : Nat
  sub : Nat
  nums : List (Nat × Nat)
  raws : List (Nat × List Byte)
  deriving DecidableEq, Repr

/-- The NOR: persistent parameters (R59, R60), firmware banks and bank-select record (R92, R347), and the images held
for start-up. -/
structure Nor where
  copies : List Copy
  /-- the copy written last -/
  newer : Nat
  /-- the background erase of the older copy's sector is running -/
  erasing : Bool
  store : Option Store
  /-- bank-select record: 0 A, 1 B -/
  bankSelect : Nat
  /-- the images in banks A and B, as last read or written; none: not known, or not an image -/
  banks : List (Option FirmwareImage)
  deriving DecidableEq, Repr

/-! ### Power (chapter 4) -/

/-- Who holds an inrush slot (R100): the spin-up of a station, or a class A BIST partition. -/
inductive SlotHolder where
  | spin (s : Nat)
  | bist (kind inst : Nat)
  deriving DecidableEq, Repr

/-- What follows a latched power-fail response (R99, R86, R89, R504). -/
inductive AfterPfw where
  | startUp | restart | failed | hearth | stay | recovery
  deriving DecidableEq, Repr

/-- A dictionary write that waits for the domains of its owners to wake (R16). -/
structure WaitingWrite where
  door : Door
  idx : Nat
  sub : Nat
  data : List Byte
  domains : List Nat
  world : World
  deriving DecidableEq, Repr

/-- Power, clock and start-up state that no object shows (chapters 3 and 4). -/
structure Power where
  fuseFailed : Bool
  /-- RESET_N is low -/
  resetLow : Bool
  /-- the PFW_N latch of R99 and what follows it -/
  latched : Bool
  after : AfterPfw
  /-- the response is still lowering enables -/
  lowering : Bool
  /-- the PG time-out's one retry has been used in this start-up (R85) -/
  pgRetried : Bool
  /-- the PG time-out's retry, or a PG-loss restart, waits its second -/
  retryWait : Bool
  restartWait : Bool
  /-- instants of the PG-loss restarts (R86) -/
  restarts : List Nat
  /-- t = 0 of the last start-up -/
  startAt : Nat
  /-- how far start-up has come: 0 rails rising, 1 the first three rails and the system PLL, 2 every rail on, 3 HBM
  trained -/
  phase : Nat
  /-- steps of Table 4.5 done: the bank verified, HBM stacks trained, Ethernet link up -/
  bankOk : Bool
  hbmOk : Bool
  /-- wake causes held while the crystal is lost in HEARTH (R89) -/
  heldWakes : Nat
  /-- domains that will wake once their gating completes (R82) -/
  wakeWaits : List Nat
  /-- LDPC slices awake beyond the minimum of R83 -/
  slices : List Nat
  /-- domains held by a temporary wake (R81) -/
  tempWakes : List Nat
  writes : List WaitingWrite
  /-- inrush slots (R100) -/
  slots : List SlotHolder
  spinWaits : List Nat
  bistSuspended : List (Nat × Nat)
  bistWaits : List (Nat × Nat)
  /-- successive over-temperature readings (R504) -/
  hotRun : Nat
  /-- VHEARTH is out of its limits; a reset by PERST_N holds the device (R325) -/
  dark : Bool
  perstLow : Bool
  /-- causes of R504 that stand: the warning, and the shutdown that keeps the device in HEARTH -/
  warm : Bool
  hot : Bool
  /-- the calendar: its offset from `now`, in µs (R404) -/
  calOffset : Int
  /-- references that are lost (R89): bit 0 QA_REFCLK, 1 QB_REFCLK, 2 PE_REFCLK -/
  refLost : Nat
  deriving DecidableEq, Repr

/-- Levels at input pins (R77, R81): by station, ILK_N open and DISC_PRES high after its debounce. -/
structure Pins where
  ilkOpen : Nat
  discPres : Nat
  deriving DecidableEq, Repr

/-! ### Lathe sequencers (chapter 9) -/

/-- Who issued an order; the order of R231's priorities. -/
inductive Origin where
  | trapret
  | park
  | station
  | direct
  deriving DecidableEq, Repr

/-- An order to a sequencer (R230): code, PARAM, STROBE and its origin. -/
structure Order where
  code : Nat
  param : Nat
  strobe : Nat
  origin : Origin
  deriving DecidableEq, Repr

/-- What a sequencer waits for (WAIT, WAITE, STRB of Table 9.1): a deadline in µs, a condition mask with its deadline
(none: no time-out), or a strobe. -/
inductive Wait where
  | none
  | time (until_ : Nat)
  | cond (mask : Nat) (until_ : Option Nat)
  | strobe (n : Nat)
  deriving DecidableEq, Repr

/-- The trap frame of R235, with the wait it interrupted (R236). -/
structure TrapFrame where
  pc : Nat
  stack : List Nat
  z : Bool
  n : Bool
  c : Bool
  v : Bool
  ev : Bool
  m : List (BitVec 32)
  wait : Wait
  deriving DecidableEq, Repr

/-- The caller of a vendor order run as a subroutine (R239): return address, its micro-stack, M0 to M13, and the vendor
order's code. -/
structure SubFrame where
  ret : Nat
  stack : List Nat
  m : List (BitVec 32)
  code : Nat
  deriving DecidableEq, Repr

/-- One Lathe sequencer (R226, R231, R235): heads 0 to 15 are sequencers 0 to 15, station s is sequencer 16 + s. -/
structure Seq where
  m : List (BitVec 32)
  pc : Nat
  stack : List Nat
  z : Bool
  n : Bool
  c : Bool
  v : Bool
  ev : Bool
  /-- conditions latched by the last WAITE (EVT) -/
  latched : Nat
  wait : Wait
  running : Option Order
  slot : Option Order
  frame : Option TrapFrame
  /-- pending micro-traps: kind and information (R237) -/
  traps : List (Nat × Nat)
  sub : Option SubFrame
  /-- the time origin latched by STRB (R124) -/
  origin : Nat
  /-- conditions of Table 9.3 that stand now (levels: SA settled, AT_SPEED, ...) -/
  started : Nat
  /-- orders waiting in the station processor for this sequencer, first to go first (R231) -/
  waiting : List Order
  deriving DecidableEq, Repr

/-- A sequencer that holds nothing. -/
def Seq.init : Seq :=
  { m := List.replicate 16 0, pc := 0, stack := [], z := false, n := false, c := false, v := false, ev := false
    latched := 0, wait := .none, running := none, slot := none, frame := none, traps := [], sub := none, origin := 0
    started := 0, waiting := [] }

/-- The customer image installed (Table 9.8): version, ABI and words. -/
structure CustImage where
  version : Nat
  abi : Nat
  words : List Nat
  deriving DecidableEq, Repr

/-- The Lathe stores (R222 to R225, R241 to R243): every store holds the one image, so the words are held once. -/
structure Store9 where
  image : Option CustImage
  /-- the customer image failed its check at start-up, or another ABI runs (R238, R241) -/
  abiOk : Bool
  /-- stations whose store has been written and checked since its core woke (R91) -/
  loaded : List Nat
  /-- the patrol address of each station's store -/
  patrol : List (Nat × Nat)
  deriving DecidableEq, Repr

/-! ### Servo engines (chapter 6) -/

/-- What one loop holds beside its objects: the delay lines of its eight sections, the anti-windup memory, the drive
ramp of R142, R163 and R164, the supervisor's model and runs, the variance window, the hold window, the LATHE count and
a pending APPLY. -/
structure Loop where
  x1 : List Int
  x2 : List Int
  y1 : List Int
  y2 : List Int
  /-- the previous sample's w was clamped: 1 at LIM_HI, -1 at LIM_LO -/
  clamp : Int
  /-- a ramp of the drive: from, to, samples done, samples in all -/
  ramp : Option (Int × Int × Nat × Nat)
  e1 : Int
  e2 : Int
  u1 : Int
  u2 : Int
  xh1 : Int
  xh2 : Int
  resRun : Nat
  retRun : Nat
  winN : Nat
  winSum : Int
  winSq : Int
  winLo : Int
  winHi : Int
  /-- the hold window runs; it has expired (R150) -/
  window : Bool
  expired : Bool
  /-- samples since cause LATHE was set (R140) -/
  lathe : Nat
  /-- an APPLY waits (1: to copy at the next boundary; 2: copied, to clear APPLY at the next) -/
  apply : Nat
  /-- the HOLD couples the loops after it (R138); the engine has cleared an overdue LATHE (R140) -/
  coupling : Bool
  overrun : Bool
  /-- samples since the loop entered its state without a HOLD; the spindle's angle at the last sample, and the angle passed since
  the entry, in 1/65,536 revolution (R164, R169, R184) -/
  age : Nat
  ang : Nat
  turn : Nat
  /-- an LPW loop's samples in succession beyond OVERPOWER (R176) -/
  hot : Nat
  deriving DecidableEq, Repr

/-- A loop that has not run. -/
def Loop.init : Loop :=
  { x1 := List.replicate 8 0, x2 := List.replicate 8 0, y1 := List.replicate 8 0, y2 := List.replicate 8 0, clamp := 0
    ramp := none, e1 := 0, e2 := 0, u1 := 0, u2 := 0, xh1 := 0, xh2 := 0, resRun := 0, retRun := 0, winN := 0, winSum := 0
    winSq := 0, winLo := 0, winHi := 0, window := false, expired := false, lathe := 0, apply := 0, coupling := false
    overrun := false, age := 0, ang := 0, turn := 0, hot := 0 }

/-- Who holds an engine's injector (R151, R185). -/
inductive Injector where
  | free | dict
  | measure (loop : Nat)
  | cal (loop : Nat)
  deriving DecidableEq, Repr

/-- A loop measurement (R153): the loop, POINTS and CYCLES, the FF mode to restore, whether the object's REQUEST started it; the
point under way and its samples so far; the sums of v and of v + d against cosine and sine; of the points made, frequency and
L(f) with 2^24 for 1; and the cause of a failure (R154). -/
structure Meas where
  loop : Nat
  points : Nat
  cycles : Nat
  ff : Nat
  object : Bool
  k : Nat
  n : Nat
  acc : List Int
  resp : List (Nat × Int × Int)
  fail : Nat
  deriving DecidableEq, Repr

/-- A run of CALIBRATE_LOOP (R185): the loop, its samples so far, the error's and the sense return's second differences at the
last two, the sums of products of the least-squares fit, and whether a HOLD has come. -/
structure CalRun where
  loop : Nat
  n : Nat
  a : List Int
  w : List Int
  sums : List Int
  held : Bool
  deriving DecidableEq, Repr

/-- The settings of a capture as it was armed (R152, Table 6.14). -/
structure CapSet where
  loop : Nat
  tapA : Nat
  tapB : Nat
  decim : Nat
  trigger : Nat
  level : Int
  pre : Nat
  strobe : Nat
  deriving DecidableEq, Repr

def CapSet.init : CapSet :=
  { loop := 0, tapA := 0, tapB := 0, decim := 1, trigger := 0, level := 0, pre := 0, strobe := 0 }

/-- Where a capture stands (R152). -/
inductive CapState where
  | idle | armed | triggered
  deriving DecidableEq, Repr

/-- One control engine (chapter 6): head h is engine h, station s is engine 16 + s. -/
structure Engine where
  inj : Injector
  cap : CapState
  /-- the samples of the capture, tap A and tap B in turn, and the decimation count -/
  capBuf : List (Int × Int)
  capN : Nat
  /-- the device sample count of the trigger -/
  capAt : Nat
  /-- the settings of the capture, and whether what it waits for has come: a HOLD, a strobe, tap A above the level (R152) -/
  capSet : CapSet
  capEvent : Bool
  /-- samples injected so far (R151); a measurement; a calibration run -/
  injN : Nat
  meas : Option Meas
  calRun : Option CalRun
  /-- trims of the actuator DACs FOC, TRK, TLT and BLR as applied, in 0.01 % (R458) -/
  trims : List Int
  /-- loop groups whose vendor set is loaded (R137) -/
  loaded : List Nat
  /-- feed-forward per table (R144): the running bin's error sum, sample count and skip flag -/
  ffSum : List Int
  ffN : List Nat
  ffSkip : List Bool
  /-- FF is ramped out after observer loss (R146), the scale each table's output has, in 1/4,800, and the bins each table's
  learning still waits for -/
  ffLost : Bool
  ffScale : List Nat
  ffWait : List Nat
  /-- a table written by the dictionary takes effect at bin 0 (R145) -/
  ffNew : List (Option (List Byte))
  /-- registers a Lathe sequencer has written since the last sample boundary of their loop group (R130) -/
  latheW : List (Nat × Nat)
  deriving DecidableEq, Repr

/-- An engine at rest. -/
def Engine.init : Engine :=
  { inj := .free, cap := .idle, capBuf := [], capN := 0, capAt := 0, capSet := CapSet.init, capEvent := false, injN := 0
    meas := none, calRun := none, trims := [0, 0, 0, 0], loaded := [], ffSum := [0, 0], ffN := [0, 0]
    ffSkip := [false, false], ffLost := false, ffScale := [4800, 4800], ffWait := [0, 0], ffNew := [none, none]
    latheW := [] }

/-! ### Heads and beams (chapters 7, 11 and 12) -/

/-- The write gate and the format engine's two cluster buffers of one beam (R179 to R181, R298, R315). A cluster is
named by NSID * 2^40 + CLUSTER_LBA. -/
structure Gate where
  open_ : Bool
  /-- held closed by the beam's own off-track (R180) -/
  offTrack : Bool
  /-- the cluster being written: its sector 0 has begun -/
  cur : Option Nat
  /-- the cluster buffered after it -/
  next : Option Nat
  /-- the clusters in the buffers: VALID_BLOCKS and the 16 blocks as buffered -/
  data : List (Nat × Nat × List Block)
  deriving DecidableEq, Repr

/-- A gate that is closed with nothing buffered. -/
def Gate.init : Gate := { open_ := false, offTrack := false, cur := none, next := none, data := [] }

/-- A band being written or read back (R297, R309). -/
structure Band where
  start : Nat
  sectors : Nat
  mask : Nat
  /-- a direct WRITE_START writes KIND 3 test clusters (R307) -/
  test : Bool
  /-- WRITE_STOP has been ordered -/
  stopping : Bool
  /-- WRITE_START has opened the gates -/
  opened : Bool
  /-- clusters whose gate closed after their last postamble -/
  written : List Nat
  deriving DecidableEq, Repr

/-- What a focus search has seen (R164, R166): whether it runs back; the sign of the lobe under way and which of its S-curve it
is; the sign of the first lobe of the pass; the largest SUM of the curve; the entrance surface has passed; curves or crossings
counted; the axis answers reversed; the last sample was the crossing to close at; FE and the drive one sample before. -/
structure Scan where
  back : Bool
  lobe : Int
  half : Nat
  first : Int
  peak : Int
  surface : Bool
  n : Nat
  reversed : Bool
  cross : Bool
  goal : Nat
  fe : Int
  drive : Int
  slope : Int
  deriving DecidableEq, Repr

def Scan.init : Scan :=
  { back := false, lobe := 0, half := 0, first := 0, peak := 0, surface := false, n := 0, reversed := false, cross := false
    goal := 0, fe := 0, drive := 0, slope := 0 }

/-- A kick of FOC or TRK under way (R169, R171): its direction, the drive before it, samples since it began, whether the lobe of
the layer left has passed, the largest error of the curve or crossing under way and of all of them, the error one sample before,
crossings counted and to be counted, the sample at which the brake began, and whether the last sample was the crossing to close
at. -/
structure Kick where
  dir : Int
  base : Int
  n : Nat
  left : Bool
  peak : Int
  top : Int
  prev : Int
  count : Nat
  goal : Nat
  brake : Option Nat
  cross : Bool
  deriving DecidableEq, Repr

/-- What the servo detector of a head has given (R156, R164, R177 to R179). -/
structure Sense where
  /-- SUM of the last sample, at the last focus closure, and its running average times 65,536 -/
  sum : Int
  sumRef : Int
  avg : Int
  /-- samples in succession outside the band of the defect detector, and inside it; DEFECT stands, since when -/
  defOut : Nat
  defIn : Nat
  defect : Bool
  defAt : Nat
  /-- defects that have ended: device sample counts of start and end, the last 16 (the defect flag path) -/
  spans : List (Nat × Nat)
  /-- the push-pull signal at the last two TRK samples, before TRACK_SIGN and offset; the largest |TE| since TRK opened -/
  pp : Int
  pp1 : Int
  tePeak : Int
  /-- the TRK polarity check: 0 not begun, 1 pulse, 2 right, 3 reversed; its samples, TE and the drive before it -/
  chk : Nat
  chkN : Nat
  chkTe : Int
  chkDrive : Int
  /-- the checks of TLT and BLR that run: the estimate before the step and the samples held -/
  steps : List (Option (Int × Nat))
  /-- the window of FOCUS_CONFIRM: samples and the sum of FE²; the last window was below CONFIRM_FE_RMS -/
  confN : Nat
  confSq : Int
  confOk : Bool
  /-- LPW samples in succession without a valid monitor frame -/
  noFrame : Nat
  /-- the shock inputs after the low-pass, in mg times 65,536; guards that a sample was beyond while WRITING -/
  shock : List Int
  beyond : Nat
  deriving DecidableEq, Repr

def Sense.init : Sense :=
  { sum := 0, sumRef := 0, avg := 0, defOut := 0, defIn := 0, defect := false, defAt := 0, spans := [], pp := 0, pp1 := 0
    tePeak := 0, chk := 0, chkN := 0, chkTe := 0, chkDrive := 0, steps := [none, none], confN := 0, confSq := 0, confOk := false
    noFrame := 0, shock := [0, 0], beyond := 0 }

/-- What one head holds beside its objects (chapters 7 and 12). -/
structure Head where
  /-- the pickup identity was read and is valid; the PKL is up (R162) -/
  identity : Bool
  pklUp : Bool
  /-- a recovery runs: 0 none, 1 focus, 2 tracking (R182, R183) -/
  recovery : Nat
  /-- tracking recoveries failed in succession -/
  trkFails : Nat
  /-- RECOVERY_CONFIRM runs -/
  confirm : Bool
  /-- beam 0 has overpowered within RECOVERY_CONFIRM (R176) -/
  over0 : Bool
  /-- HEAD_FAULT is held by a wiring fault (R483) -/
  wired : Bool
  /-- PKL retrains made since the loss; 0 with the link up (R177) -/
  retrains : Nat
  lost : Bool
  /-- searches repeated by the running order (R165) -/
  tries : Nat
  /-- the last jump's target track (R168), and the corrections the running FOLLOW has made -/
  jumpTarget : Nat
  corrected : Bool
  signRead : Bool
  /-- the layer the running LAYER_JUMP has reached -/
  atLayer : Nat
  /-- TLT or BLR waits to be CLOSED for a revolution before a gate opens (R184) -/
  gateWait : Bool
  /-- BLR was opened for want of beams in service and has not closed again (R173) -/
  blrOut : Bool
  /-- causes of a gate closure that REOPEN_TIME still has to follow (R316) -/
  inhibited : Bool
  gates : List Gate
  band : Option Band
  /-- clusters written and not yet verified, clusters to write again (R310, R315), and those of them that have
  their replacement place (R311) -/
  toVerify : List Nat
  redo : List Nat
  repls : List Nat
  /-- replacements made per cluster (R311) -/
  places : List (Nat × Nat)
  /-- a POWER_CAL's or a CALIBRATE_LOOP's request came through the result object -/
  calObject : Bool
  /-- the address flywheel of each beam: flywheel starts in succession, the last start against its prediction, and the
  beams in HUNT (R257) -/
  fly : List Nat
  align : List Int
  hunt : Nat
  /-- the read channel (chapter 11): blocks in a row below CONV_LIMIT and the coma estimate c_b (a fraction) by beam; the
  last A_REF (a fraction); the coefficients saved at the last first-pass success, by beam; frames each beam has begun -/
  conv : List Nat
  coma : List (Int × Nat)
  aref : Int × Nat
  saved : List (List Byte)
  frames : List Nat
  /-- the write path (chapter 12): the number of the running band; Pw planned for a band, by band number; β sums and
  counts by beam; the worst sector of the running verify; a PKL message waits for its acknowledgement; what the pickup
  holds of levels and tables; TLT and BLR close again after the next resync block -/
  bandNo : Nat
  plans : List (Nat × List Nat)
  betas : List (Int × Nat)
  worst : Nat
  pklWait : Bool
  levels : List Nat
  tables : List Byte
  pwLayer : Nat
  tiltBack : Bool
  /-- the servo detector (chapter 7), a search, and kicks of FOC and TRK that run -/
  sense : Sense
  scan : Scan
  kickF : Option Kick
  kickT : Option Kick
  /-- beams whose flywheel is anchored (R257); the last two frame starts of each beam, newest first: PSA and device sample count -/
  anchored : Nat
  starts : List (List (Nat × Nat))
  /-- MSE of the last 64 sectors, and SNR, PRE_BER and inner iterations (0: no first-pass success) of the last 64 decoded, by beam -/
  mses : List (List Nat)
  figs : List (List (Int × Nat × Nat))
  /-- WRITE_SERIAL of clusters written and not yet recorded; LANE_DELAY of the pickup (R302); when a gate last closed for a cause -/
  serials : List (Nat × Nat)
  laneDelay : Nat
  quietFrom : Nat
  /-- layers calibrated since the load, with the instant; bands in succession that each beam's Pw has stood at its limit (R313) -/
  opcDone : List (Nat × Nat)
  atLimit : List Nat
  deriving DecidableEq, Repr

/-- A head before its first acquisition. -/
def Head.init : Head :=
  { identity := false, pklUp := false, recovery := 0, trkFails := 0, confirm := false, over0 := false, wired := false, retrains := 0
    lost := false, tries := 0, jumpTarget := 0, corrected := false, signRead := false, atLayer := 0, gateWait := false, blrOut := false
    inhibited := false, gates := List.replicate 8 Gate.init, band := none, toVerify := [], redo := [], repls := [], places := []
    calObject := false, fly := List.replicate 8 0, align := List.replicate 8 0, hunt := 0, conv := List.replicate 8 0
    coma := List.replicate 8 (0, 0), aref := (0, 0), saved := List.replicate 8 [], frames := List.replicate 8 0, bandNo := 0
    plans := [], betas := List.replicate 8 (0, 0), worst := 0, pklWait := false, levels := [], tables := [], pwLayer := 0xFF
    tiltBack := false, sense := Sense.init, scan := Scan.init, kickF := none, kickT := none, anchored := 0
    starts := List.replicate 8 [], mses := List.replicate 8 [], figs := List.replicate 8 [], serials := [], laneDelay := 0
    quietFrom := 0, opcDone := [], atLimit := List.replicate 8 0 }

/-! ### Stations, spindle, sleds and clamp (chapters 5 and 8) -/

/-- The steps of the station commands (Table 5.4), and the ones they are made of. -/
inductive StnStep where
  | bistEnds | wakeCore | checkStore | raisePsen | wiringTest | readClamp | homeSleds
  | clampStroke | spinUp | acquire | attach
  | stopDispatch | drain | detach | parkHeads | spinDown | unclamp
  | lowerPsen | gate
  | waitInflight | enterMaint | abortOrders | leaveMaint | clearFault
  deriving DecidableEq, Repr

/-- The running station command (R109): its code, TARGET, STROBE, FORCE, the steps still to run (the first is the one
running), and the instant of acceptance. -/
structure StnCmd where
  code : Nat
  target : Nat
  strobe : Nat
  force : Bool
  steps : List StnStep
  start : Nat
  /-- STOP has been written (R113) -/
  stop : Bool
  /-- the code the command will end with, where it is not 0 (R119: a medium not recognised is stowed first) -/
  fail : Nat
  /-- the station processor has taken the command up, at the scheduling point after its acceptance (R14, R19) -/
  taken : Bool
  deriving DecidableEq, Repr

/-- What a clamp stroke is (R217, R218). -/
inductive Stroke where
  | none | clamp | unclamp | probe | reopen
  deriving DecidableEq, Repr

/-- What one sled holds beside its object (R209 to R215). -/
structure Sled where
  /-- the target of the running profile, in nm (R213) -/
  target : Option Int
  /-- commanded acceleration, in 1/400 µm/s per set-point; position beyond POSITION, in 1/20 nm -/
  acc : Int
  frac : Int
  /-- the follow generator's low-passed TRK drive (R212), in 1/65,536 raw -/
  lowpass : Int
  /-- set-points since the commanded position last changed, to 400 (20 ms) -/
  still : Nat
  /-- set-points in a row beyond STALL_ANGLE; the instant of the last stall (R211) -/
  beyond : Nat
  lastStall : Option Nat
  /-- SLED_HOME drives inward (R214) -/
  homing : Bool
  /-- a full drive until the commanded position stops (R211) -/
  full : Bool
  /-- profiles a SEEK has made beyond its first; the instant at which the last profile ended (R215) -/
  tries : Nat
  endedAt : Nat
  deriving DecidableEq, Repr

def Sled.init : Sled :=
  { target := none, acc := 0, frac := 0, lowpass := 0, still := 400, beyond := 0, lastStall := none, homing := false, full := false
    tries := 0, endedAt := 0 }

/-- A wiring test of a station (R479, R480): its scope, the parts still running (bit 0 station, 1 head U, 2 head L), the
counts so far, the first fault found, its start, and whether it was asked for on demand. -/
structure Wiring where
  scope : Nat
  parts : Nat
  tested : Nat
  faults : Nat
  first : Nat
  start : Nat
  demand : Bool
  /-- the connection code that stops the station, or 0 -/
  stop : Nat
  /-- PSEN before the test, which holds it high (R479) -/
  psen : Bool
  deriving DecidableEq, Repr

/-- What one station holds beside its objects (chapters 5 and 8). -/
structure Stn where
  cmd : Option StnCmd
  /-- the state MAINT was entered from -/
  maintFrom : Nat
  /-- instant of the last state change -/
  since : Nat
  /-- dispatch of host media operations is stopped (R121, ENTER_MAINT) -/
  noDispatch : Bool
  /-- media operations held until READY returns (R112) -/
  heldOps : Nat
  /-- an UNLOAD from FAULT left the clamp at its open end (R115, R122) -/
  faultOpen : Bool
  psen : Bool
  /-- PSEN falls once the spindle is below 30 rpm (R122) -/
  psenDrop : Bool
  /-- scheduling points passed (Table 5.9 cause 0x0006) -/
  points : Nat
  /-- where a spin-up stands: 0 none, 1 measuring, 2 waits for a grant, 3 waits for a slot, 4 learning or checking the
  map, 5 driving, 6 waits through a coast, 7 braking backward motion, 8 short brake before the start from rest, 9 waits
  to fall below 30 rpm -/
  spinPhase : Nat
  /-- the catch, or the start from rest, that follows the slot: the speed at which SPD closes, in 0.01 rpm -/
  catchAt : Int
  /-- n_set in 1/8,000 rpm, so that a rate in rpm/s moves it by the rate every 125 µs (R197) -/
  nSet : Int
  /-- a ring grant is held or asked for (R101) -/
  grant : Bool
  asked : Bool
  /-- locked-rotor retries made in this episode, and the wait between them (R207) -/
  lrMade : Nat
  lrWait : Bool
  coastSince : Option Nat
  /-- coasted to COAST_STOP_TIME: the spindle counts as stopped until the next lock (R206) -/
  stopped : Bool
  /-- observer: consistent edges in a row, the last edge's stamp and interval in 10 ns, edges since angle 0 -/
  edgeRun : Nat
  edgeStamp : Nat
  edgeInterval : Nat
  edgeCount : Nat
  /-- angle 0 has been set since the clamp was seated (R196) -/
  angleSet : Bool
  /-- the step of R204 in force after a loss: 0 none, 1 raw Hall, 3 encoder, 4 freewheel -/
  lossStep : Nat
  /-- transitions against the driven direction in this electrical cycle (R192) -/
  backEdges : Nat
  /-- sector crossings checked against the map in this spin-up (R193) -/
  crossings : Nat
  /-- Hall edges of the first spin-up and Z revolutions judged (R194) -/
  encEdges : Nat
  encRevs : Nat
  encCount : Int
  encSeen : Bool
  /-- the encoder's count at the last Hall edge entering sector 0 (R194) -/
  encZero : Nat
  /-- SPIN_DOWN: 0 none, 1 ramping, 2 short brake, 3 waits through a coast (R199) -/
  down : Nat
  /-- the AT_SPEED of a dictionary write of TARGET_RPM is awaited with a slot (R200) -/
  retarget : Bool
  brk : Bool
  brkSamples : Nat
  /-- VBUS above VBUS_MAX put the bridge to freewheel until it falls below VBUS_HI (R203) -/
  vbusOver : Bool
  /-- SPD: set-points until it closes again (R208), and the instants of its hold-window expiries (R207) -/
  reclose : Nat
  expiries : List Nat
  sleds : List Sled
  /-- the clamp stroke in progress, its start and its repeats (R217, R218) -/
  stroke : Stroke
  strokeAt : Nat
  strokeTries : Nat
  /-- the clamp's leg: where it began, in microsteps from the open end (for a probe, from its own start), and when -/
  strokeFrom : Nat
  legAt : Nat
  /-- START_MEASURE: net quadrature counts seen (R201); the stamp of the last quadrature edge in 10 ns (R194) -/
  measCount : Int
  encStamp : Nat
  /-- a wiring test of the station runs (R479) -/
  wiring : Option Wiring
  /-- re-acquisition of the used heads is under way with no command (R106, R118) -/
  resuming : Bool
  /-- loop measurements accepted in ACTIVE that run at the next scheduling point (Table 5.5): engine and REQUEST -/
  measWait : List (Nat × Nat)
  /-- direct MEASURE_LOOP orders accepted in ACTIVE that reach the slot at the next scheduling point (Table 5.5) -/
  orderWait : List (Nat × Order)
  /-- the instant of the strobe that fired the spin-up, 0 for none, and the origin its profile takes with its slot (R125) -/
  fired : Nat
  origin : Nat
  /-- the orders of the present acquisition have been issued (R119) -/
  offered : Bool
  deriving DecidableEq, Repr

/-- A station at reset: OFF. -/
def Stn.init : Stn :=
  { cmd := none, maintFrom := 0, since := 0, noDispatch := false, heldOps := 0, faultOpen := false, psen := false
    psenDrop := false, points := 0, spinPhase := 0, catchAt := 0, nSet := 0, grant := false, asked := false, lrMade := 0
    lrWait := false, coastSince := none, stopped := false, edgeRun := 0, edgeStamp := 0, edgeInterval := 0
    edgeCount := 0, angleSet := false, lossStep := 0, backEdges := 0, crossings := 0, encEdges := 0, encRevs := 0
    encCount := 0, encSeen := false, encZero := 0, down := 0, retarget := false, brk := false, brkSamples := 0, vbusOver := false
    reclose := 0, expiries := [], sleds := [Sled.init, Sled.init], stroke := .none, strokeAt := 0, strokeTries := 0, strokeFrom := 0, legAt := 0, measCount := 0, encStamp := 0
    wiring := none, resuming := false, measWait := [], orderWait := [], fired := 0, origin := 0, offered := false }

/-! ### Media (chapter 10) -/

/-- An entry of a record cluster of the LIA (Table 10.13): TYPE, STATE, FIRST, SECOND, WRITE_SERIAL. -/
structure LiaEntry where
  kind : Nat
  state : Nat
  first : Nat
  second : Nat
  serial : Nat
  deriving DecidableEq, Repr

/-- The rebuilt state of one side (R263 to R265), by place: layer * 8 + spiral names a spiral, and that times 2^18 plus a
physical cluster names a place. -/
structure Side where
  /-- replacements in use: place and replacement place -/
  repl : List (Nat × Nat)
  /-- clusters used of the inner spare area, the outer one and the inner test area, by spiral -/
  inner : List (Nat × Nat)
  outer : List (Nat × Nat)
  test : List (Nat × Nat)
  /-- LIA record clusters written, by layer -/
  lia : List (Nat × Nat)
  /-- clusters of the namespace whose last recorded copy is a tail cluster (R264) -/
  tails : List Nat
  /-- places treated as defective that no replacement names, and those not yet in an LIA record (R262, R265) -/
  defects : List Nat
  newDefects : List Nat
  /-- replacements and zones not yet in an LIA record (R262): place, replacement place and WRITE_SERIAL; zone and the WRITE_SERIAL
  of the last cluster written to it -/
  newRepl : List (Nat × Nat × Nat)
  newZones : List (Nat × Nat)
  deriving DecidableEq, Repr

def Side.init : Side := { repl := [], inner := [], outer := [], test := [], lia := [], tails := [], defects := [], newDefects := [], newRepl := [], newZones := [] }


/-! ### Sample ring and LDPC pool (chapter 11) -/

/-- One frame in the sample ring with its directory entry (R283): head, beam, its number on that beam, PSA, the device
sample count of bit 0, the revolution index, angle epoch and angle bin of its station's spindle, FRAME_FLAGS (Table 11.9), the erasure
spans and the samples. -/
structure RingFrame where
  h : Nat
  b : Nat
  n : Nat
  psa : Nat
  count : Nat
  rev : Nat
  epoch : Nat
  bin : Nat
  flags : Nat
  spans : List (Nat × Nat)
  samples : List Byte
  deriving DecidableEq, Repr

/-- Where a sector stands on the decoding ladder (Table 11.3). -/
inductive Stage where
  | firstWait | first | ringWait | ring | probing | fullWait | full | lost | good
  /-- lost, and a re-read of its cluster has been placed -/
  | await
  deriving DecidableEq, Repr

/-- A probe of rung 2 at one offset: globals done, unsatisfied checks at its end so far, the slice it runs on, and whether
it has ended. -/
structure Probe where
  off : Int
  done : Nat
  unsat : Nat
  slice : Option Nat
  ended : Bool
  deriving DecidableEq, Repr

/-- A sector in the LDPC pool (R285 to R292). -/
structure Sector where
  h : Nat
  b : Nat
  nsid : Nat
  cl : Nat
  idx : Nat
  psa : Nat
  /-- its frame's number on the beam, and the offset that places the frame at the flywheel prediction -/
  frame : Nat
  early : Int
  verify : Bool
  /-- when it began to wait -/
  since : Nat
  stage : Stage
  slice : Option Nat
  /-- RETRY_ENABLE, RETRY_GLOBALS, STALL_GLOBALS, RETRY_PARALLEL, RETRY_OFFSET_MAX and REREAD_MAX when its first pass started (R292) -/
  enable : Bool
  maxGlobals : Nat
  maxStall : Nat
  parallel_ : Nat
  offMax : Nat
  maxReread : Nat
  /-- inner iterations of the first pass, of a retry's global and of a probe's (Table 11.10) -/
  innerFirst : Nat
  innerRetry : Nat
  innerProbe : Nat
  /-- the soft values of its frame (R281), and the bytes it has decoded to -/
  soft : List Int
  data : List Byte
  /-- global-1 hard decisions that differ from the codeword (R310) -/
  errs : Nat
  /-- the ring frames have been copied to the lane buffer (R284) -/
  copied : Bool
  /-- the offset of the run, its globals, its lowest count and the globals without a fall -/
  off : Int
  globals : Nat
  best : Option Nat
  stall : Nat
  probes : List Probe
  /-- offsets not probed yet (R289) -/
  offs : List Int
  /-- re-reads of its cluster made so far -/
  reread : Nat
  /-- the decode counter that its success counted in (Table 11.8); 0 before -/
  rung : Nat
  deriving DecidableEq, Repr


/-! ### Host interface and Granary (chapters 13 and 14) -/

/-- The status of an NVMe completion, by the name the manual gives it. -/
inductive Status where
  | success
  | commandAbortRequested | abortedSqDeletion | invalidOpcode | invalidField | invalidNamespaceOrFormat
  | namespaceNotReady | lbaOutOfRange | zoneBoundary | zoneFull | zoneReadOnly | zoneInvalidWrite | tooManyOpenZones
  | invalidZoneTransition | writeFault | unrecoveredRead | guardCheck | appTagCheck | refTagCheck | commandSequence | invalidFormat
  | invalidSlot | invalidImage | activationProhibited | needsSubsystemReset | selfTestInProgress | invalidLogPage
  | connectInvalid | invalidQueue | aerLimit
  /-- a status the manual gives by its numbers: Status Code Type and Status Code -/
  | code (sct sc : Nat)
  deriving DecidableEq, Repr

/-- A completion: status, Do Not Retry, dwords 0 and 1. -/
structure Cpl where
  status : Status
  dnr : Bool
  dw0 : Nat
  dw1 : Nat
  deriving DecidableEq, Repr

/-- The asynchronous events of Table 13.8. -/
inductive Event where
  | error | temperature | spare | readOnlyLayer | firmwareStarting | namespaceChanged | zoneChanged
  | station | integrity | pinLost
  deriving DecidableEq, Repr

/-- A controller of the subsystem: 0 is the PCIe controller, the others are fabric controllers (R323, R338). -/
structure Ctrl where
  id : Nat
  /-- CC.EN, CSTS.RDY, and CSTS.SHST: 0 none, 1 under way, 2 complete -/
  en : Bool
  rdy : Bool
  shst : Nat
  fetching : Bool
  /-- I/O queue pairs granted (R338) -/
  granted : Nat
  /-- I/O submission queues, each with its completion queue; I/O completion queues -/
  sqs : List (Nat × Nat)
  cqs : List Nat
  /-- feature values that differ from their defaults (Table 13.6) -/
  features : List (Nat × Nat)
  /-- asynchronous event requests held (R350), events that wait for one, and events masked until their page is read -/
  aers : List Nat
  waiting : List Event
  masked : List Event
  /-- NSIDs of the Changed Namespace List, and zones (NSID and zone) of the Changed Zone List -/
  changed : List Nat
  zonesChanged : List (Nat × Nat)
  /-- a controller reset waits for the end of an activation (R348) -/
  resetWaits : Bool
  /-- CC as last written -/
  cc : Nat
  deriving DecidableEq, Repr

/-- What a flush covers (R342, R343): namespaces, one zone, or the clusters of one write. -/
inductive Scope where
  | all (nsids : List Nat)
  | zone (nsid z : Nat)
  | clusters (nsid first n : Nat)
  deriving DecidableEq, Repr

/-- The command a context holds, as far as it has come. -/
inductive HostOp where
  /-- fetched, not yet executed -/
  | fetched
  /-- a read: the blocks it has taken so far by LBA, and what it asks of protection information -/
  | read (nsid lba n : Nat) (got : List (Nat × Block)) (pi : PiArgs)
  /-- a write that waits for its lines (R364) -/
  | write (nsid lba : Nat) (data : List Block) (fua append : Bool)
  /-- a flush of the writes of lower fetch sequence number than `upto`; `dw` is the result of the write or append that
  it completes -/
  | flush (scope : Scope) (upto dw : Nat)
  /-- the flush of a normal shutdown (Table 13.3) -/
  | shutdown (nsids : List Nat) (upto : Nat)
  /-- a Pin whose lines are being filled -/
  | pin (id : Nat)
  /-- Delete I/O Submission Queue waiting for its dispatched commands -/
  | sqDelete (sq : Nat)
  /-- a Firmware Commit of action 3: its slot -/
  | activate (slot : Nat)
  /-- the signing of an attestation quote, a device self-test that waits, a dictionary write that waits -/
  | quote
  | dictionary
  deriving DecidableEq, Repr

/-- A command context (R339). -/
structure Ctx where
  seq : Nat
  ctrl : Nat
  sq : Nat
  cid : Nat
  op : HostOp
  /-- its completion will be dropped (R325, R326, R346) -/
  dropped : Bool
  deriving DecidableEq, Repr

/-- A zone that is not EMPTY at its start (R332): 0 EMPTY, 1 IMPLICITLY OPENED, 2 EXPLICITLY OPENED, 3 CLOSED, 4 FULL,
5 READ ONLY; the write pointer as an offset within the zone. -/
structure Zone where
  idx : Nat
  state : Nat
  wp : Nat
  deriving DecidableEq, Repr

/-- An active namespace (R328, R329). -/
structure Ns where
  nsid : Nat
  /-- Zoned command set; a DAF side; BD-RE -/
  zoned : Bool
  daf : Bool
  nsze : Nat
  lbaf : Nat
  zones : List Zone
  /-- clusters verified whose zone and LIA records are not on the medium yet (R262) -/
  lia : Bool
  /-- blocks of a zone; data columns of a spread volume's namespace, 0 for a local one (R331, R410) -/
  zsize : Nat := 65536
  cols : Nat := 0
  deriving DecidableEq, Repr

/-- The state of a Granary line (Table 14.2); a line in INVALID is not listed. -/
inductive LineState where
  | filling | valid | evicting | dirty | writing
  deriving DecidableEq, Repr

/-- A line with its tag (R353, R354, R357). -/
structure Line where
  set : Nat
  way : Nat
  nsid : Nat
  cluster : Nat
  state : LineState
  valid : Nat
  dirty : Nat
  poison : Nat
  /-- LOCK: 0 no, 1 metadata, 2 host pin (R368) -/
  lock : Nat
  flushSeq : Option Nat
  /-- the lowest sequence number, and the blocks, of the writes since the line was buffered (R366) -/
  later : Option Nat
  laterMask : Nat
  /-- filled by a prefetch that no demand has hit (R363) -/
  prefetch : Bool
  /-- a controller reset left its data to the read-back (R318, R374) -/
  discard : Bool
  /-- the 16 blocks -/
  blocks : List Block
  deriving DecidableEq, Repr

/-- Why a cluster is read from or a record written to the medium. -/
inductive OpKind where
  | demand | prefetch | merge | metadata | refill | lia
  /-- the tables of a side, rebuilt from the medium (Table 15.4) -/
  | tables
  /-- a read of a self-test (R472) -/
  | test
  deriving DecidableEq, Repr

/-- A media operation of a station's queue (R28, R359). -/
structure MediaOp where
  nsid : Nat
  cluster : Nat
  kind : OpKind
  dispatched : Bool
  /-- the tag has been committed; the blocks bypass Granary (R361) -/
  committed : Bool
  bypass : Bool
  /-- its fill has ended; the station still counts it in flight -/
  ended : Bool
  /-- the way of the line marked EVICTING for it -/
  victim : Option Nat
  /-- the sectors of its cluster that have decoded: number and bytes -/
  got : List (Nat × List Byte)
  /-- the sectors of its cluster that have been given up (R291) -/
  lost : List Nat
  /-- the outer code, rung 4, has repaired a sector of it (Table 11.3, R473) -/
  outer : Bool
  deriving DecidableEq, Repr

/-- A host pin record (Table 14.4). -/
structure Pin where
  id : Nat
  nsid : Nat
  /-- 1 ACTIVE, 2 PARTIAL, 3 LOST -/
  state : Nat
  slba : Nat
  clusters : Nat
  /-- clusters not locked -/
  refused : List Nat
  created : Nat
  deriving DecidableEq, Repr

/-- A segmented write over NVMe (R57): its controller, its object, and the bytes that have come. -/
structure SetXfer where
  ctrl : Nat
  idx : Nat
  sub : Nat
  got : List Byte
  deriving DecidableEq, Repr

/-- The host interface's state (chapter 13). -/
structure Nvme where
  ctrls : List Ctrl
  ctxs : List Ctx
  /-- the next fetch sequence number (R27) -/
  seq : Nat
  namespaces : List Ns
  /-- log pages: Error Information (NSID, LBA), the integrity log (NSID, LBA, cause), self-test results, newest first -/
  errorLog : List (Nat × Nat)
  integrity : List (Nat × Nat × Nat)
  selfTests : List (List Nat)
  /-- since reset: blocks read and written, unrecovered reads, Error Information entries made (log page 0x02) -/
  blocksRead : Nat
  blocksWritten : Nat
  mediaErrors : Nat
  errors : Nat
  /-- pieces of a firmware image being downloaded -/
  download : List (Nat × List Byte)
  /-- an activation without reset: the slot, once fetching has stopped (R348) -/
  activating : Option Nat
  /-- segmented Set Objects in progress (R57) -/
  objects : List SetXfer
  deriving DecidableEq, Repr

/-- Granary's state (chapter 14): the lines, the replacement trees that are not 0, the media queues, the pin records and
the next PIN_ID. -/
structure Granary where
  lines : List Line
  trees : List (Nat × Nat)
  ops : List MediaOp
  pins : List Pin
  nextPin : Nat
  deriving DecidableEq, Repr

/-! ### HBM (chapter 15) -/

/-- A record of the NOR repair map (R386): kind, row, calendar time, number of events. -/
structure RepairRec where
  kind : Nat
  row : Nat
  time : Nat
  events : Nat
  deriving DecidableEq, Repr

/-- What the HBM controllers hold beside their objects. A row is named by its decoded fields (R377). -/
structure Hbm where
  /-- events of rows with their instants (R382), and failing STREAM chunks not yet counted as one -/
  events : List (Nat × Nat)
  stream : List (Nat × Nat)
  /-- rows that wait for their soft repair, by an address in each -/
  wants : List Nat
  map : List RepairRec
  /-- the map is cleared at the next start-up (R386) -/
  clearMap : Bool
  /-- ways retired, set and way (R383) -/
  retired : List (Nat × Nat)
  /-- an injection armed: address and kind -/
  armed : Option (Nat × Nat)
  /-- words written with an injected error, not read since: address and kind (object 0x4602) -/
  planted : List (Nat × Nat)
  /-- corrections of SRAM rows with their instants (R384), rows whose field repair waits for their domain's next wake, and macros with no
  spare left (R385), each by its code -/
  sramEvents : List (Nat × Nat)
  sramWaits : List Nat
  noSpare : List Nat
  /-- Granary ways retired until reset with both copies of their tag lost (R384), set and way -/
  lostWays : List (Nat × Nat)
  /-- a firmware reload found a mismatch: CSTS.CFS is set (Table 15.4) -/
  cfs : Bool
  deriving DecidableEq, Repr

/-! ### Ring and spread volumes (chapter 16) -/

/-- A frame in a replay buffer (R390), with its LINK_SEQ in its header. -/
structure SentFrame where
  kind : Nat
  head : FrameHead
  fields : List Nat
  data : List Block
  deriving DecidableEq, Repr

/-- What the ring engines and Reeve 3 hold beside their objects. -/
structure Ring where
  /-- the last roster, and the devices heard in the running formation -/
  roster : List RosterEntry
  found : List Candidate
  /-- of each port: the replay buffer of frames not yet acknowledged, the next LINK_SEQ to send, how often the oldest frame has been
  replayed running, and the LINK_SEQ expected next -/
  sent : List (List SentFrame)
  seqs : List Nat
  replays : List Nat
  rx : List Nat
  /-- ring time less the local count, in ns; whether it is kept; the instant of the last TIME_SYNC (R403, R404) -/
  offset : Int
  synced : Bool
  lastSync : Nat
  /-- ring strobes to fire: number and ring time (R405) -/
  strobes : List (Nat × Nat)
  /-- the ring time of a REJOIN -/
  rejoin : Option Nat
  /-- on the master: grants held (serial, station, instant given), and those asked for, in order of arrival (R408) -/
  grants : List (Nat × Nat × Nat)
  asks : List (Nat × Nat)
  deriving DecidableEq, Repr

/-- A row on its way to the members (R412, R413): columns sent to, written, flushed, and owed. -/
structure SpreadRow where
  v : Nat
  row : Nat
  sent : List Nat
  wrote : List Nat
  done : List Nat
  owed : List Nat
  deriving DecidableEq, Repr

/-- A row being read from members (R414): the data slots wanted, the columns asked, what came, what failed. -/
structure SpreadGet where
  v : Nat
  row : Nat
  want : List Nat
  asked : List Nat
  got : List (Nat × List Block)
  failed : List Nat
  degraded : Bool
  deriving DecidableEq, Repr

/-- The master's spread volumes: the table (kept in NOR), staged clusters, rows in flight, rows being read, and the zones
(volume and zone) whose MEMBER_FLUSH is out. -/
structure Spread where
  volumes : List Volume
  staged : List Line
  rows : List SpreadRow
  gets : List SpreadGet
  flushing : List (Nat × Nat)
  deriving DecidableEq, Repr

/-! ### Security (chapter 17) -/

/-- A quote that waits for the signer (R432): its nonce, and the fetch sequence number of its Attestation Quote command;
none: the request of object 0x5011. -/
structure QuoteJob where
  nonce : List Byte
  ask : Option Nat
  deriving DecidableEq, Repr

/-- What the security block holds beside its objects. -/
structure Security where
  /-- measurement log, KIND and DIGEST by entry, and the AGGREGATE (R430) -/
  log : List (Nat × BitVec 512)
  aggregate : BitVec 512
  /-- QUOTE_COUNT, and the quotes waiting, first to sign first -/
  quotes : Nat
  signer : List QuoteJob
  /-- the instant the authorisation closes; consecutive failures; the instant a lockout ends (R433) -/
  openUntil : Option Nat
  failures : Nat
  lockUntil : Option Nat
  /-- CHALLENGE and DEBUG_CHALLENGE, each as the number of the free value that was drawn -/
  challenge : Nat
  debugChallenge : Nat
  /-- the free value that randomised the statement signature (R428) -/
  statement : Nat
  /-- transitions that were interrupted: the target, and how many of its effects are programmed (R421) -/
  interrupted : List (Nat × Nat)
  /-- the sealed identity seed has been overwritten -/
  seedGone : Bool
  /-- debug was unlocked since start-up (Table 17.6) -/
  unlocked : Bool
  /-- the image that runs -/
  running : Option FirmwareImage
  deriving DecidableEq, Repr

/-! ### Calibration, arbiter and self-test (chapter 19) -/

/-- An activity that holds tokens over time (Table 19.5): a calibration asked for by object 0x2441 (kind 1 to 3, head or
station), a BIST partition, a part of a wiring test (16 + s the station part, h a head part). -/
inductive Activity where
  | cal (kind n : Nat)
  | bist (kind inst : Nat)
  | wiring (e : Nat)
  deriving DecidableEq, Repr

/-- A request for tokens (R461, R462). -/
structure TokenReq where
  act : Activity
  tokens : List Nat
  since : Nat
  held : Bool
  deriving DecidableEq, Repr

/-- The calibration that object 0x2441 asked for: the beams still to visit, and the results so far. -/
structure CalRound where
  kind : Nat
  n : Nat
  left : List Nat
  accepted : Nat
  rejected : Nat
  /-- a step could not run -/
  deferred : Bool
  deriving DecidableEq, Repr

/-- Calibration state no object shows: the running request, and the visits each RF ADC has missed in succession. -/
structure Cal where
  round : Option CalRound
  missed : List (Nat × Nat)
  /-- crossover at the last passing self-test check, by engine * 16 + loop, in 0.1 Hz (R473) -/
  xo : List (Nat × Nat)
  deriving DecidableEq, Repr

/-- Who asked for a BIST run. -/
inductive BistFor where
  | object | selfTest | pool
  deriving DecidableEq, Repr

/-- Where a BIST run stands. -/
inductive BistStage where
  | tokens | slot | pool | running | suspended
  deriving DecidableEq, Repr

/-- A BIST run of one partition (R465 to R469). -/
structure BistRun where
  kind : Nat
  inst : Nat
  who : BistFor
  stage : BistStage
  since : Nat
  /-- the first signature did not match: the partition runs once more -/
  again : Bool
  /-- it ends as ABORTED at the next pattern block -/
  stop : Bool
  deriving DecidableEq, Repr

/-- What the BIST controller holds: the partition table (partition number, outcome, time) and the partitions that have
failed and not passed since (both kept in Hearth), those out of service until device reset (R470), and the runs. -/
structure Bist where
  table : List (Nat × Nat × Nat)
  failed : List Nat
  out : List Nat
  runs : List BistRun
  deriving DecidableEq, Repr

/-- Where a station stands in a self-test (Table 19.8). -/
structure StTest where
  st : Nat
  /-- partitions of segment 1 still to run -/
  parts : List (Nat × Nat)
  /-- loops of segment 2 still to measure (head, loop), and those being measured -/
  loops : List (Nat × Nat)
  running : List (Nat × Nat)
  /-- the SPD check is still to make, since when; the read segments, 3 and 5, still to run, and whether the reads of the first are
  queued -/
  spd : Bool
  since : Nat
  segs : List Nat
  reading : Bool
  /-- STATION_RESULT as far as it is known; 0 while nothing but passing steps has ended -/
  result : Nat
  deriving DecidableEq, Repr

/-- A running device self-test (R472): code, NSID, controller, stations, pool partitions left, first failing segment. -/
structure SelfTest where
  code : Nat
  nsid : Nat
  ctrl : Nat
  stations : List StTest
  pool : List (Nat × Nat)
  segment : Nat
  deriving DecidableEq, Repr

/-! ### What the block gives out -/

/-- A gate of the bridge is on from one instant of the period to another, in 10 ns; equal instants: it stays off. -/
structure Leg where
  hiFrom : Nat
  hiTo : Nat
  loFrom : Nat
  loTo : Nat
  deriving DecidableEq, Repr

/-- What leaves the block: a frame, an answer, a completion or an order to the pickup. The outputs wait in `State.out`
in order of giving. -/
inductive Out where
  /-- the CAN boot-up message of a bus (R508) -/
  | bootUp (bus : Nat)
  /-- a heartbeat with the NMT state (R61) -/
  | heartbeat (bus : Nat) (nmt : Nmt)
  | emcy (bus cob : Nat) (f : Emcy)
  | tpdo (bus n : Nat) (data : List Byte)
  /-- an SDO or USDO abort frame that ends a transfer (R48) -/
  | sdoAbort (bus : Nat) (usdo : Bool) (abort : Nat)
  /-- the answer to a dictionary access: the abort code, or 0 and the data read -/
  | answer (d : Door) (idx sub abort : Nat) (data : List Byte)
  /-- the word a BAR2 read returns -/
  | word (v : Nat)
  /-- an NVMe completion: controller, queue, command identifier, status and result; the data moved goes before it. Controller
  65,536 stands for the ring: the answer to a member operation, its port as the queue and its TAG as the identifier -/
  | completion (ctrl sq cid : Nat) (c : Cpl)
  /-- blocks sent to the host by a read, and bytes sent by an admin command -/
  | blocks (ctrl sq cid : Nat) (data : List Block)
  | bytes (ctrl sq cid : Nat) (data : List Byte)
  /-- the fields the manual names for a log page, an Identify structure, a feature or a report, in its order -/
  | fields (ctrl sq cid page : Nat) (f : List Nat)
  /-- an Asynchronous Event Request completes with an event (R350) -/
  | asyncEvent (ctrl cid : Nat) (ev : Event)
  /-- a message on a pickup link: head, kind, data (Table 9.4) -/
  | pkl (h kind data : Nat)
  /-- the code an engine latches for a loop: the DAC code of R133, or the power word of a laser-power loop -/
  | drive (e l : Nat) (code : Int)
  /-- the trim in use of an actuator DAC moves: head, DAC, 0.01 % (R458) -/
  | trim (h d : Nat) (v : Int)
  /-- the overlap of a handover of a calibration visit: head, beam, to the spare, resync blocks (R456) -/
  | overlap (h b : Nat) (toSpare : Bool) (blocks : Nat)
  /-- a WD lane (R301 to R303): head, beam, the angle in 1/65,536 of a turn at which the first frame begins (none: it joins the frame
  before), the channel bits by which the lane is ahead of the spot, and the lane bits -/
  | lane (h b : Nat) (angle : Option Nat) (early : Nat) (bits : List Bool)
  /-- a record cluster of the LIA: NSID, place and bytes (R262) -/
  | record (nsid place : Nat) (data : List Byte)
  /-- a channel's front end (R270): amplifier gain in 0.25 dB and corner of the anti-alias filter in Hz -/
  | frontEnd (h b gain corner : Nat)
  /-- a sled's set-point (R209, R213): position in nm, velocity in µm/s, acceleration, phasor current in mA -/
  | sled (h : Nat) (pos vel acc cur : Int)
  /-- one PWM period of the spindle's bridge (R189 to R191): its length in 10 ns, the current in mA that ends its on-time, and the
  legs U, V, W -/
  | bridge (st period limit : Nat) (legs : List Leg)
  /-- the duties of a sled's windings A and B, Q1.23 of VBUS (R209) -/
  | windings (h : Nat) (a b : Int)
  /-- the clamp's chopper (R216): the set currents of A and B in mA, and in ns the blanking, the fast and the slow decay -/
  | chopper (st : Nat) (a b : Int) (blank fast slow : Nat)
  /-- blocks on the ring: port, kind, header, fields, data (MEMBER_WRITE) -/
  | ringData (port kind : Nat) (head : FrameHead) (fields : List Nat) (data : List Block)
  /-- a ring frame: port (0 east, 1 west, which FLAGS.DIR gives), kind, header, fields (Tables 16.1 and 16.2) -/
  | ring (port kind : Nat) (head : FrameHead) (fields : List Nat)
  deriving DecidableEq, Repr

/-! ### The whole state -/

/-- The state of the block. -/
structure State where
  part : Part
  /-- µs since Hearth was last powered up -/
  now : Nat
  /-- registers of the dictionary by `index * 256 + sub`, sparse over their defaults, keys rising -/
  regs : List (Nat × Nat)
  /-- strings and DOMAINs of the dictionary, likewise -/
  raws : List (Nat × List Byte)
  /-- the model's own counter of free values used so far (log entry 3) -/
  free : Nat
  ledger : Ledger
  can : Can
  bar2 : Bar2
  nor : Nor
  power : Power
  /-- the stations, sparse over `Stn.init` -/
  stns : List (Nat × Stn)
  /-- the heads, sparse over `Head.init` -/
  heads : List (Nat × Head)
  /-- the loops by engine * 16 + loop, sparse over `Loop.init` -/
  loops : List (Nat × Loop)
  /-- the control engines, sparse over `Engine.init` -/
  engines : List (Nat × Engine)
  /-- the Lathe sequencers, sparse over `Seq.init` -/
  seqs : List (Nat × Seq)
  stores : Store9
  /-- levels at the pins, which no reset of the device changes -/
  pins : Pins
  /-- the sides by NSID less one, sparse over `Side.init` -/
  sides : List (Nat × Side)
  /-- the sample ring, oldest frame first (R283) -/
  ring : List RingFrame
  /-- sectors in the LDPC pool, oldest first -/
  pool : List Sector
  nvme : Nvme
  granary : Granary
  sec : Security
  hbm : Hbm
  fabric : Ring
  spread : Spread
  arb : List TokenReq
  cal : Cal
  bist : Bist
  selfTest : Option SelfTest
  /-- what the block has given out, oldest first -/
  out : List Out
  /-- commands that wait, first in first out -/
  pending : List Instr
  deriving DecidableEq, Repr

/-- Why a step can stop for good. No command of this block stops it: every effect of the manual is a next state. -/
inductive Fault where
  /-- reserved: raised by no command (safe) -/
  | none_
  deriving DecidableEq, Repr

/-- Why a command has no meaning. -/
inductive Refusal where
  /-- the command's row is not modelled yet: raised by `exec` alone (safe) -/
  | notModelled (mnemonic : String)
  deriving DecidableEq, Repr

/-! ### Reset -/

/-- The Ledger with no record anywhere (R447: a partition that holds no frame starts SEQ at 1). -/
def Ledger.empty : Ledger :=
  { nextSeq := 1, sram := [], flushed := 0, flushTo := none, nor := List.replicate 256 ⟨false, []⟩, norSector := 0
    buckets := [], side := [], sideLost := 0, episode := none, pfw := none, floor := 0, clearing := [], clearTotal := 0
    windows := List.replicate 4 ⟨0, 0, []⟩, lastFlush := 0 }

/-- CAN before the boot-up message (R43, R44, R63 with the defaults of Table 2.13). -/
def Can.initial : Can :=
  { nmt := .initialising, booted := false, mode := 0, nominal := 1000, dataRate := 5000, buses := [.active, .active]
    channels := List.replicate 4 .idle
    pdos := List.replicate 8 ⟨false, none, 0, 0, false, false, 0, []⟩, held := [], emcyInhibit := false, standing := []
    consumers := List.replicate 4 false }

/-- The BAR2 window at reset (R54). -/
def Bar2.initial : Bar2 :=
  { segObject := 0, openObject := 0, segLength := 0, segOffset := 0, state := .idle, segAbort := 0, winAbort := 0, winAbortObject := 0
    winPending := 0, winRefused := 0, data := [], result := none }

/-- A NOR with no stored parameters and no image known yet (R60, R92). -/
def Nor.initial : Nor :=
  { copies := List.replicate 2 ⟨false, [], []⟩, newer := 0, erasing := false, store := none, bankSelect := 0
    banks := [none, none] }

/-- Power at t = 0 of a start-up (R91). -/
def Power.initial : Power :=
  { fuseFailed := false, resetLow := false, latched := false, after := .startUp, lowering := false, pgRetried := false
    retryWait := false, restartWait := false, restarts := [], startAt := 0, phase := 0, bankOk := false, hbmOk := false
    heldWakes := 0, wakeWaits := [], slices := [], tempWakes := [], writes := [], slots := [], spinWaits := [], bistSuspended := []
    bistWaits := [], hotRun := 0, dark := false, perstLow := false, warm := false, hot := false, calOffset := 0, refLost := 0 }

/-- The Lathe stores before any image is loaded. -/
def Store9.initial : Store9 := { image := none, abiOk := true, loaded := [], patrol := [] }

/-- The levels at the pins when the model starts: every interlock closed and no disc before any sensor (log entry 110). -/
def Pins.initial : Pins := { ilkOpen := 0, discPres := 0 }

/-- The host interface at reset: the PCIe controller, not enabled. -/
def Nvme.initial : Nvme :=
  { ctrls := [⟨0, false, false, 0, false, 0, [], [], [], [], [], [], [], [], false, 0⟩], ctxs := [], seq := 0
    namespaces := [], errorLog := [], integrity := [], selfTests := [], blocksRead := 0, blocksWritten := 0
    mediaErrors := 0, errors := 0, download := [], activating := none, objects := [] }

/-- Granary at reset: every line INVALID, every tree 0, no pin (R367, R374). -/
def Granary.initial : Granary := { lines := [], trees := [], ops := [], pins := [], nextPin := 1 }

/-- The security block at reset: the challenges are the first two free values (R433). -/
def Security.initial : Security :=
  { log := [], aggregate := 0, quotes := 0, signer := [], openUntil := none, failures := 0, lockUntil := none, challenge := 0
    debugChallenge := 1, statement := 0, interrupted := [], seedGone := false, unlocked := false, running := none }

/-- The HBM controllers before any event. -/
def Hbm.initial : Hbm :=
  { events := [], stream := [], wants := [], map := [], clearMap := false, retired := [], armed := none
    planted := [], sramEvents := [], sramWaits := [], noSpare := [], lostWays := [], cfs := false }

/-- The ring before it has formed. -/
def Ring.initial : Ring :=
  { roster := [], found := [], sent := [[], []], seqs := [0, 0], replays := [0, 0], rx := [0, 0], offset := 0, synced := false, lastSync := 0, strobes := []
    rejoin := none, grants := [], asks := [] }

/-- No spread volume. -/
def Spread.initial : Spread := { volumes := [], staged := [], rows := [], gets := [], flushing := [] }

/-- The block at t = 0 of its first start-up (R91): Hearth powered with RESET_N high and every strap at 0, on the 16 MHz
oscillator (CLOCK_STATUS bit 9), POWER_STATE BOOT, every station OFF, every register at its default. -/
def State.reset : State :=
  { part := ⟨8, true, true, 1⟩, now := 0, regs := [(0x2100 * 256 + 0x0D, 0x200)], raws := [], free := 2
    ledger := Ledger.empty, can := Can.initial, bar2 := Bar2.initial, nor := Nor.initial, power := Power.initial
    stns := [], heads := [], loops := [], engines := [], seqs := [], stores := Store9.initial, pins := Pins.initial
    sides := []
    ring := [], pool := []
    nvme := Nvme.initial, granary := Granary.initial
    sec := Security.initial
    hbm := Hbm.initial, fabric := Ring.initial, spread := Spread.initial
    arb := [], cal := ⟨none, [], []⟩, bist := ⟨[], [], [], []⟩, selfTest := none
    out := [], pending := [] }

end Sys2Proof.Machine
end

