-- ==== Sys2Proof/Machine/Objects.lean ====
section
/-! DEFINITION. The object dictionary's tables, line by line as the spec's object tables give them (chapter 2 Table
2.1 and each chapter's own object tables), with the lookup of a line by index and sub-index (R30). -/

namespace Sys2Proof.Machine

/-- The objects of Table 2.10 (R61). -/
def objs10Part0 : List Obj :=
  [
⟨0x1000, 1, 1, 0x0, 1, 1, .u32, .const, 0, .any⟩,  -- Device type
   ⟨0x1001, 1, 1, 0x0, 1, 1, .u8, .ro, 0, .any⟩,  -- Error register
   ⟨0x1003, 1, 1, 0x0, 1, 1, .u8, .rw, 0, (.oneOf [0])⟩,  -- Number of errors
   ⟨0x1003, 1, 1, 0x1, 16, 1, .u32, .ro, 0, .any⟩,  -- Error entry
   ⟨0x1005, 1, 1, 0x0, 1, 1, .u32, .rw, 128, .any⟩,  -- COB-ID SYNC
   ⟨0x1008, 1, 1, 0x0, 1, 1, (.vstr 16), .const, 0, .any⟩,  -- Manufacturer device name
   ⟨0x1009, 1, 1, 0x0, 1, 1, (.vstr 16), .const, 0, .any⟩,  -- Manufacturer hardware version
   ⟨0x100A, 1, 1, 0x0, 1, 1, (.vstr 16), .const, 0, .any⟩,  -- Manufacturer software version
   ⟨0x1010, 1, 1, 0x0, 1, 1, .u8, .const, 4, .any⟩,  -- Highest sub-index
   ⟨0x1010, 1, 1, 0x1, 4, 1, .u32, .rw, 1, .any⟩,  -- Store parameters
   ⟨0x1011, 1, 1, 0x0, 1, 1, .u8, .const, 4, .any⟩,  -- Highest sub-index
   ⟨0x1011, 1, 1, 0x1, 4, 1, .u32, .rw, 1, .any⟩,  -- Restore default parameters
   ⟨0x1014, 1, 1, 0x0, 1, 1, .u32, .rw, 255, .any⟩,  -- COB-ID EMCY
   ⟨0x1015, 1, 1, 0x0, 1, 1, .u16, .rw, 0, (.rng (0) (65535))⟩,  -- Inhibit time EMCY
   ⟨0x1016, 1, 1, 0x1, 4, 1, .u32, .rw, 0, .any⟩,  -- Consumer heartbeat time
   ⟨0x1017, 1, 1, 0x0, 1, 1, .u16, .rw, 100, (.zeroOr 10 65535)⟩,  -- Producer heartbeat time
   ⟨0x1018, 1, 1, 0x1, 1, 1, .u32, .const, 0x474C58, .any⟩,  -- Vendor-ID
   ⟨0x1018, 1, 1, 0x2, 1, 1, .u32, .const, 0, .any⟩,  -- Product code
   ⟨0x1018, 1, 1, 0x3, 1, 1, .u32, .const, 0, .any⟩,  -- Revision number
   ⟨0x1018, 1, 1, 0x4, 1, 1, .u32, .const, 0, .any⟩,  -- Serial number
   ⟨0x1029, 1, 1, 0x1, 1, 1, .u8, .rw, 1, (.oneOf [0, 1, 2])⟩,  -- Communication error behaviour
   ⟨0x1016, 1, 1, 0x0, 1, 1, .u8, .const, 4, .any⟩,  -- highest
   ⟨0x1018, 1, 1, 0x0, 1, 1, .u8, .const, 4, .any⟩,  -- highest
   ⟨0x1029, 1, 1, 0x0, 1, 1, .u8, .const, 1, .any⟩,  -- highest
   ⟨0x1200, 1, 1, 0x1, 1, 1, .u32, .ro, 0x67F, .any⟩,  -- SDO server COB-IDs
   ⟨0x1200, 1, 1, 0x2, 1, 1, .u32, .ro, 0x5FF, .any⟩,  -- SDO server COB-IDs
   ⟨0x1200, 1, 1, 0x0, 1, 1, .u8, .const, 2, .any⟩,  -- highest
   ⟨0x1400, 1, 1, 0x1, 1, 1, .u32, .rw, 0x8000027F, .any⟩,  -- RPDO COB-ID
   ⟨0x1401, 1, 1, 0x1, 1, 1, .u32, .rw, 0x8000037F, .any⟩,  -- RPDO COB-ID
   ⟨0x1402, 1, 1, 0x1, 1, 1, .u32, .rw, 0x8000047F, .any⟩,  -- RPDO COB-ID
   ⟨0x1403, 1, 1, 0x1, 1, 1, .u32, .rw, 0x8000057F, .any⟩,  -- RPDO COB-ID
   ⟨0x1404, 4, 1, 0x1, 1, 1, .u32, .rw, 0x80000000, .any⟩,  -- RPDO COB-ID
   ⟨0x1400, 8, 1, 0x2, 1, 1, .u8, .rw, 255, (.rng2 0 240 254 255)⟩,  -- RPDO transmission type
   ⟨0x1400, 8, 1, 0x0, 1, 1, .u8, .const, 2, .any⟩,  -- highest
   ⟨0x1600, 8, 1, 0x0, 1, 1, .u8, .rw, 0, (.rng 0 16)⟩,  -- RPDO mapping count
   ⟨0x1600, 8, 1, 0x1, 16, 1, .u32, .rw, 0, .any⟩,  -- RPDO mapping entry
   ⟨0x1800, 1, 1, 0x1, 1, 1, .u32, .rw, 0x800001FF, .any⟩,  -- TPDO COB-ID
   ⟨0x1801, 1, 1, 0x1, 1, 1, .u32, .rw, 0x800002FF, .any⟩,  -- TPDO COB-ID
   ⟨0x1802, 1, 1, 0x1, 1, 1, .u32, .rw, 0x800003FF, .any⟩,  -- TPDO COB-ID
   ⟨0x1803, 1, 1, 0x1, 1, 1, .u32, .rw, 0x800004FF, .any⟩]  -- TPDO COB-ID

/-- The objects of Table 2.10 (R61). -/
def objs10Part1 : List Obj :=
  [
⟨0x1804, 4, 1, 0x1, 1, 1, .u32, .rw, 0x80000000, .any⟩,  -- TPDO COB-ID
   ⟨0x1800, 8, 1, 0x2, 1, 1, .u8, .rw, 254, (.rng2 0 240 254 255)⟩,  -- TPDO transmission type
   ⟨0x1800, 8, 1, 0x3, 1, 1, .u16, .rw, 0, (.rng (0) (65535))⟩,  -- TPDO inhibit time
   ⟨0x1800, 8, 1, 0x5, 1, 1, .u16, .rw, 0, (.zeroOr 1 65535)⟩,  -- TPDO event timer
   ⟨0x1800, 8, 1, 0x0, 1, 1, .u8, .const, 5, .any⟩,  -- highest
   ⟨0x1A00, 8, 1, 0x0, 1, 1, .u8, .rw, 0, (.rng 0 16)⟩,  -- TPDO mapping count
   ⟨0x1A00, 8, 1, 0x1, 16, 1, .u32, .rw, 0, .any⟩]  -- TPDO mapping entry

/-- Table 2.10 (R61). -/
def objs10 : List Obj :=
  objs10Part0 ++ objs10Part1

/-- The objects of Table 2.11 (R62), Table 2.13 (R63). -/
def objs20 : List Obj :=
  [
⟨0x2000, 1, 1, 0x0, 1, 1, .u8, .const, 10, .any⟩,  -- Highest sub-index
   ⟨0x2000, 1, 1, 0x1, 1, 1, (.vstr 16), .const, 0, .any⟩,  -- PART_NUMBER
   ⟨0x2000, 1, 1, 0x2, 1, 1, .u8, .const, 0, .any⟩,  -- STATIONS
   ⟨0x2000, 1, 1, 0x3, 1, 1, .u8, .const, 0, .any⟩,  -- BEAMS
   ⟨0x2000, 1, 1, 0x4, 1, 1, .u8, .const, 0, .any⟩,  -- NETWORK
   ⟨0x2000, 1, 1, 0x5, 1, 1, .u8, .const, 0, .any⟩,  -- PACKAGE
   ⟨0x2000, 1, 1, 0x6, 1, 1, .u8, .const, 0, .any⟩,  -- HBM_SIZE
   ⟨0x2000, 1, 1, 0x7, 1, 1, .u8, .const, 176, .any⟩,  -- STEPPING
   ⟨0x2000, 1, 1, 0x8, 1, 1, .u64, .const, 0, .any⟩,  -- FUSE_MAP
   ⟨0x2000, 1, 1, 0x9, 1, 1, .u16, .const, 0, .any⟩,  -- HOST_ETH_MAX
   ⟨0x2000, 1, 1, 0xA, 1, 1, .u64, .const, 0, .any⟩,  -- SERIAL
   ⟨0x2010, 1, 1, 0x0, 1, 1, .u8, .const, 11, .any⟩,  -- Highest sub-index
   ⟨0x2010, 1, 1, 0x1, 1, 1, .u8, .ro, 0, .any⟩,  -- NODE_ID_STRAP
   ⟨0x2010, 1, 1, 0x2, 1, 1, .u8, .rw, 127, (.rng (1) (127))⟩,  -- NODE_ID
   ⟨0x2010, 1, 1, 0x3, 1, 1, .u8, .ro, 0, .any⟩,  -- ACTIVE_NODE_ID
   ⟨0x2010, 1, 1, 0x4, 1, 1, .u8, .rw, 0, (.oneOf [0, 1, 2, 3])⟩,  -- CAN_MODE
   ⟨0x2010, 1, 1, 0x5, 1, 1, .u16, .rw, 0x3E8, (.oneOf [125, 250, 500, 800, 1000])⟩,  -- NOMINAL_RATE
   ⟨0x2010, 1, 1, 0x6, 1, 1, .u16, .rw, 0x1388, (.oneOf [0, 1000, 2000, 4000, 5000])⟩,  -- DATA_RATE
   ⟨0x2010, 1, 1, 0x7, 1, 1, .u16, .ro, 0, .any⟩,  -- STRAP_RAW
   ⟨0x2010, 1, 1, 0x8, 1, 1, .u16, .rw, 0x3E8, (.rng (100) (10000))⟩,  -- SDO_TIMEOUT
   ⟨0x2010, 1, 1, 0x9, 1, 1, .u8, .ro, 0, .any⟩,  -- BUS_STATE
   ⟨0x2010, 1, 1, 0xA, 1, 1, .u16, .rw, 0x3E8, (.rng (0) (60000))⟩,  -- BUS_OFF_DELAY
   ⟨0x2010, 1, 1, 0xB, 1, 1, .u32, .ro, 0, .any⟩]  -- RPDO_DISCARDED

/-- The objects of Table 4.10 (R103), Table 21.10 (R505). -/
def objs21 : List Obj :=
  [
⟨0x2100, 1, 1, 0x0, 1, 1, .u8, .const, 13, .any⟩,  -- Highest sub-index
   ⟨0x2100, 1, 1, 0x1, 1, 1, .u8, .ro, 0, .any⟩,  -- POWER_STATE
   ⟨0x2100, 1, 1, 0x2, 1, 1, .u8, .wo, 0, (.oneOf [1, 2, 3])⟩,  -- POWER_CMD
   ⟨0x2100, 1, 1, 0x3, 1, 1, .bool, .ro, 0, .any⟩,  -- HOST_READY
   ⟨0x2100, 1, 1, 0x4, 1, 1, .u8, .ro, 0, .any⟩,  -- BOOT_BANK
   ⟨0x2100, 1, 1, 0x5, 1, 1, .u8, .ro, 0, .any⟩,  -- BOOT_FLAGS
   ⟨0x2100, 1, 1, 0x6, 1, 1, .u16, .ro, 0, .any⟩,  -- BOOT_TIME
   ⟨0x2100, 1, 1, 0x7, 1, 1, .u16, .ro, 0, .any⟩,  -- RAIL_STATUS
   ⟨0x2100, 1, 1, 0x8, 1, 1, .u16, .rw, 20, (.rng (1) (100))⟩,  -- PG_TIMEOUT
   ⟨0x2100, 1, 1, 0x9, 1, 1, .u8, .rw, 2, (.rng (1) (8))⟩,  -- INRUSH_SLOTS
   ⟨0x2100, 1, 1, 0xA, 1, 1, .u16, .rw, 0, (.mask 0x3FF)⟩,  -- WAKE_ENABLE
   ⟨0x2100, 1, 1, 0xB, 1, 1, .u16, .ro, 0, .any⟩,  -- WAKE_CAUSE
   ⟨0x2100, 1, 1, 0xC, 1, 1, .u16, .rw, 100, (.rng (10) (10000))⟩,  -- SLICE_IDLE_GATE
   ⟨0x2100, 1, 1, 0xD, 1, 1, .u16, .ro, 0, .any⟩,  -- CLOCK_STATUS
   ⟨0x2101, 1, 1, 0x0, 1, 1, .u8, .const, 96, .any⟩,  -- Highest sub-index
   ⟨0x2101, 1, 1, 0x1, 96, 1, .u8, .rw, 0, (.oneOf [0, 1])⟩,  -- DOMAIN_MODE
   ⟨0x2102, 1, 1, 0x0, 1, 1, .u8, .const, 96, .any⟩,  -- Highest sub-index
   ⟨0x2102, 1, 1, 0x1, 96, 1, .u8, .ro, 1, .any⟩,  -- DOMAIN_STATE
   ⟨0x2103, 1, 1, 0x0, 1, 1, .u8, .const, 6, .any⟩,  -- Highest sub-index
   ⟨0x2103, 1, 1, 0x1, 1, 1, .i16, .ro, 0, .any⟩,  -- TJ_NOW
   ⟨0x2103, 1, 1, 0x2, 1, 1, .i16, .ro, 0, .any⟩,  -- TJ_PEAK
   ⟨0x2103, 1, 1, 0x3, 1, 1, .u8, .rw, 100, (.rng (70) (105))⟩,  -- TJ_WARN
   ⟨0x2103, 1, 1, 0x4, 1, 1, .u8, .const, 115, .any⟩,  -- TJ_CRIT
   ⟨0x2103, 1, 1, 0x5, 1, 1, .u32, .ro, 0, .any⟩,  -- WARN_COUNT
   ⟨0x2103, 1, 1, 0x6, 1, 1, .u32, .ro, 0, .any⟩]  -- THERMAL_SHUTDOWNS

/-- The objects of Table 18.4 (R452). -/
def objs22 : List Obj :=
  [
⟨0x2200, 1, 1, 0x0, 1, 1, .u8, .const, 18, .any⟩,  -- Highest sub-index
   ⟨0x2200, 1, 1, 0x1, 1, 1, .u64, .ro, 0, .any⟩,  -- NEWEST_SEQ
   ⟨0x2200, 1, 1, 0x2, 1, 1, .u64, .ro, 0, .any⟩,  -- OLDEST_SEQ
   ⟨0x2200, 1, 1, 0x3, 1, 1, .u32, .ro, 0, .any⟩,  -- UNFLUSHED
   ⟨0x2200, 1, 1, 0x4, 1, 1, .u32, .rw, 0x2000, (.rng (1024) (131072))⟩,  -- FLUSH_THRESHOLD
   ⟨0x2200, 1, 1, 0x5, 1, 1, .u32, .rw, 0xE10, (.rng (60) (86400))⟩,  -- FLUSH_INTERVAL
   ⟨0x2200, 1, 1, 0x6, 1, 1, .u8, .wo, 0, (.oneOf [1])⟩,  -- FLUSH_NOW
   ⟨0x2200, 1, 1, 0x7, 1, 1, .u8, .rw, 16, (.rng (1) (255))⟩,  -- RATE_BURST
   ⟨0x2200, 1, 1, 0x8, 1, 1, .u32, .rw, 0x3E8, (.rng (10) (100000))⟩,  -- RATE_REFILL
   ⟨0x2200, 1, 1, 0x9, 1, 1, .bool, .rw, 0, .any⟩,  -- FREEZE
   ⟨0x2200, 1, 1, 0xA, 1, 1, .u16, .ro, 0, .any⟩,  -- SIDE_USED
   ⟨0x2200, 1, 1, 0xB, 1, 1, .u32, .ro, 0, .any⟩,  -- SIDE_OVERFLOW
   ⟨0x2200, 1, 1, 0xC, 1, 1, .u32, .ro, 0, .any⟩,  -- SUPPRESSED_TOTAL
   ⟨0x2200, 1, 1, 0xD, 1, 1, .u8, .wo, 0, (.oneOf [1])⟩,  -- CLEAR
   ⟨0x2200, 1, 1, 0xE, 1, 1, .u8, .ro, 100, .any⟩,  -- CLEAR_PROGRESS
   ⟨0x2200, 1, 1, 0xF, 1, 1, .u16, .ro, 0, .any⟩,  -- NOR_BAD_SECTORS
   ⟨0x2200, 1, 1, 0x10, 1, 1, .u32, .ro, 0, .any⟩,  -- NOR_CRC_FAILED
   ⟨0x2200, 1, 1, 0x11, 1, 1, .u32, .ro, 0, .any⟩,  -- FLUSHES
   ⟨0x2200, 1, 1, 0x12, 1, 1, .u32, .ro, 0, .any⟩,  -- LOST_TOTAL
   ⟨0x2201, 1, 1, 0x0, 1, 1, .u8, .const, 4, .any⟩,  -- Highest sub-index
   ⟨0x2201, 1, 1, 0x1, 1, 1, .u64, .rw, 0, .any⟩,  -- CURSOR
   ⟨0x2201, 1, 1, 0x2, 1, 1, (.dom 256), .ro, 0, .any⟩,  -- RECORD
   ⟨0x2201, 1, 1, 0x3, 1, 1, .u64, .ro, 0, .any⟩,  -- RECORD_SEQ
   ⟨0x2201, 1, 1, 0x4, 1, 1, .u8, .wo, 0, (.oneOf [1])⟩]  -- ADVANCE

/-- The objects of Table 16.4 (R417). -/
def objs23 : List Obj :=
  [
⟨0x2300, 1, 1, 0x0, 1, 1, .u8, .const, 8, .any⟩,  -- Highest sub-index
   ⟨0x2300, 1, 1, 0x1, 1, 1, .u64, (.rws .notFollowing), 0, .any⟩,  -- CALENDAR_TIME
   ⟨0x2300, 1, 1, 0x2, 1, 1, .bool, .ro, 0, .any⟩,  -- TIME_VALID
   ⟨0x2300, 1, 1, 0x3, 1, 1, .u8, .ro, 0, .any⟩,  -- TIME_SOURCE
   ⟨0x2300, 1, 1, 0x4, 1, 1, .bool, .rw, 1, .any⟩,  -- FOLLOW_RING
   ⟨0x2300, 1, 1, 0x5, 1, 1, .u64, .ro, 0, .any⟩,  -- RING_TIME
   ⟨0x2300, 1, 1, 0x6, 1, 1, .i32, .ro, 0, .any⟩,  -- TIME_ERROR
   ⟨0x2300, 1, 1, 0x7, 1, 1, .u64, .rw, 0, .any⟩,  -- ALARM
   ⟨0x2300, 1, 1, 0x8, 1, 1, .u32, .ro, 0, .any⟩]  -- CAL_STEPS

/-- The objects of Table 19.11 (R477), Table 19.12 (R477). -/
def objs24Part0 : List Obj :=
  [
⟨0x2400, 1, 1, 0x0, 1, 1, .u8, .const, 12, .any⟩,  -- Highest sub-index
   ⟨0x2400, 1, 1, 0x1, 1, 1, .u16, .ro, 0, .any⟩,  -- REXT_MEASURED
   ⟨0x2400, 1, 1, 0x2, 1, 1, .bool, .ro, 0, .any⟩,  -- REXT_FAULT
   ⟨0x2400, 1, 1, 0x3, 1, 1, .u8, (.rws .allMaint), 7, (.mask 0x7)⟩,  -- CAL_ENABLE
   ⟨0x2400, 1, 1, 0x4, 1, 1, .u16, .rw, 200, (.rng (50) (10000))⟩,  -- RF_CAL_PERIOD
   ⟨0x2400, 1, 1, 0x5, 1, 1, .u16, .rw, 10, (.rng (1) (600))⟩,  -- DAC_CAL_PERIOD
   ⟨0x2400, 1, 1, 0x6, 1, 1, .u16, .rw, 10, (.rng (1) (600))⟩,  -- EYE_PERIOD
   ⟨0x2400, 1, 1, 0x7, 1, 1, .u8, .rw, 3, (.rng (1) (10))⟩,  -- REJECT_LIMIT
   ⟨0x2400, 1, 1, 0x8, 4, 1, .u32, .ro, 0, .any⟩,  -- Counters
   ⟨0x2400, 1, 1, 0xC, 1, 1, .u16, .ro, 0, .any⟩,  -- DEGRADED_UNITS
   ⟨0x2441, 1, 1, 0x0, 1, 1, .u8, .const, 6, .any⟩,  -- highest
   ⟨0x2441, 1, 1, 0x1, 1, 1, .u32, .wo, 0, .any⟩,  -- REQUEST
   ⟨0x2441, 1, 1, 0x2, 1, 1, .u8, .ro, 0, .any⟩,  -- STATUS
   ⟨0x2441, 1, 1, 0x3, 1, 1, .u32, .ro, 0, .any⟩,  -- SEQUENCE
   ⟨0x2441, 1, 1, 0x4, 1, 1, .u32, .ro, 0, .any⟩,  -- RESULT_CODE
   ⟨0x2441, 1, 1, 0x5, 1, 1, .u16, .ro, 0, .any⟩,  -- ACCEPTED
   ⟨0x2441, 1, 1, 0x6, 1, 1, .u16, .ro, 0, .any⟩,  -- REJECTED
   ⟨0x2440, 1, 1, 0x0, 1, 1, .u8, .const, 32, .any⟩,  -- Highest sub-index
   ⟨0x2440, 1, 1, 0x1, 16, 1, .u16, .ro, 0, .any⟩,  -- EYE_HEIGHT
   ⟨0x2440, 1, 1, 0x11, 16, 1, .u16, .ro, 0, .any⟩,  -- EYE_WIDTH
   ⟨0x2410, 16, 1, 0x0, 1, 1, .u8, .const, 45, .any⟩,  -- Highest sub-index
   ⟨0x2410, 16, 1, 0x1, 9, 1, .i16, .ro, 0, .any⟩,  -- OFFSET
   ⟨0x2410, 16, 1, 0xA, 9, 1, .u16, .ro, 0x8000, .any⟩,  -- GAIN
   ⟨0x2410, 16, 1, 0x13, 9, 1, .u16, .ro, 0, .any⟩,  -- RESIDUAL
   ⟨0x2410, 16, 1, 0x1C, 9, 1, .u16, .ro, 0, .any⟩,  -- ENOB
   ⟨0x2410, 16, 1, 0x25, 9, 1, .u8, .ro, 0, .any⟩,  -- UNIT_STATE
   ⟨0x2420, 16, 1, 0x0, 1, 1, .u8, .const, 42, .any⟩,  -- Highest sub-index
   ⟨0x2420, 16, 1, 0x1, 9, 1, .i16, .ro, 0, .any⟩,  -- OFFSET
   ⟨0x2420, 16, 1, 0xA, 9, 1, .u16, .ro, 0x8000, .any⟩,  -- GAIN
   ⟨0x2420, 16, 1, 0x13, 9, 1, .u8, .ro, 0, .any⟩,  -- UNIT_STATE
   ⟨0x2420, 16, 1, 0x1C, 4, 2, .i16, .ro, 0, .any⟩,  -- TRIM
   ⟨0x2420, 16, 1, 0x1D, 4, 2, .u8, .ro, 0, .any⟩,  -- UNIT_STATE
   ⟨0x2420, 16, 1, 0x24, 3, 1, .u16, .ro, 0, .any⟩,  -- COIL_R
   ⟨0x2420, 16, 1, 0x27, 1, 1, .u32, .ro, 0, .any⟩,  -- CROSSOVER
   ⟨0x2420, 16, 1, 0x28, 1, 1, .u32, .ro, 0, .any⟩,  -- CROSSOVER
   ⟨0x2420, 16, 1, 0x29, 1, 1, .i16, .ro, 0, .any⟩,  -- PHASE_MARGIN
   ⟨0x2420, 16, 1, 0x2A, 1, 1, .i16, .ro, 0, .any⟩,  -- PHASE_MARGIN
   ⟨0x2430, 8, 1, 0x0, 1, 1, .u8, .const, 36, .any⟩,  -- Highest sub-index
   ⟨0x2430, 8, 1, 0x1, 12, 1, .i16, .ro, 0, .any⟩,  -- OFFSET
   ⟨0x2430, 8, 1, 0xD, 12, 1, .u16, .ro, 0x8000, .any⟩]  -- GAIN

/-- The objects of Table 19.12 (R477). -/
def objs24Part1 : List Obj :=
  [
⟨0x2430, 8, 1, 0x19, 12, 1, .u8, .ro, 0, .any⟩]  -- UNIT_STATE

/-- Table 19.11 (R477), Table 19.12 (R477). -/
def objs24 : List Obj :=
  objs24Part0 ++ objs24Part1

/-- The objects of Table 19.13 (R477). -/
def objs25 : List Obj :=
  [
⟨0x2500, 1, 1, 0x0, 1, 1, .u8, .const, 13, .any⟩,  -- Highest sub-index
   ⟨0x2500, 1, 1, 0x1, 1, 1, .u16, .rw, 24, (.zeroOr 1 720)⟩,  -- POOL_BIST_INTERVAL
   ⟨0x2500, 1, 1, 0x2, 1, 1, .u16, .rw, 0x3E8, (.rng (10) (10000))⟩,  -- SEGMENT_WAIT
   ⟨0x2500, 1, 1, 0x3, 1, 1, .u16, .rw, 100, (.rng (10) (10000))⟩,  -- SELFTEST_IDLE
   ⟨0x2500, 1, 1, 0x4, 1, 1, .u16, .rw, 0xBB8, (.rng 1000 6000)⟩,  -- LOOP_PM_MIN
   ⟨0x2500, 1, 1, 0x5, 1, 1, .u16, .rw, 0x258, (.rng 200 2000)⟩,  -- LOOP_GM_MIN
   ⟨0x2500, 1, 1, 0x6, 1, 1, .u8, .rw, 20, (.rng (5) (50))⟩,  -- LOOP_XO_TOL
   ⟨0x2500, 1, 1, 0x7, 1, 1, .u8, .ro, 0, .any⟩,  -- SELFTEST_STATE
   ⟨0x2500, 1, 1, 0x8, 1, 1, .u8, .ro, 0, .any⟩,  -- SELFTEST_PROGRESS
   ⟨0x2500, 1, 1, 0x9, 1, 1, .u32, .ro, 0, .any⟩,  -- WHOLE_CHIP_LAST
   ⟨0x2500, 1, 1, 0xA, 4, 1, .u32, .ro, 0, .any⟩,  -- Counters
   ⟨0x2501, 1, 1, 0x0, 1, 1, .u8, .const, 8, .any⟩,  -- highest
   ⟨0x2501, 1, 1, 0x1, 1, 1, .u32, .wo, 0, .any⟩,  -- REQUEST
   ⟨0x2501, 1, 1, 0x2, 1, 1, .u8, .ro, 0, .any⟩,  -- STATUS
   ⟨0x2501, 1, 1, 0x3, 1, 1, .u32, .ro, 0, .any⟩,  -- SEQUENCE
   ⟨0x2501, 1, 1, 0x4, 1, 1, .u32, .ro, 0, .any⟩,  -- RESULT_CODE
   ⟨0x2501, 1, 1, 0x5, 1, 1, .u16, .ro, 0, .any⟩,  -- PARTITION
   ⟨0x2501, 1, 1, 0x6, 1, 1, .u64, .ro, 0, .any⟩,  -- SIGNATURE
   ⟨0x2501, 1, 1, 0x7, 1, 1, .u64, .ro, 0, .any⟩,  -- EXPECTED
   ⟨0x2501, 1, 1, 0x8, 1, 1, .u32, .ro, 0, .any⟩,  -- DURATION
   ⟨0x2502, 1, 1, 0x0, 1, 1, (.dom 2224), .ro, 0, .any⟩,  -- PARTITION_TABLE
   ⟨0x2504, 1, 1, 0x0, 1, 1, .u8, .const, 8, .any⟩,  -- Highest sub-index
   ⟨0x2504, 1, 1, 0x1, 8, 1, .u8, .ro, 0, .any⟩]  -- STATION_RESULT

/-- The objects of Table 19.14 (R477). -/
def objs26 : List Obj :=
  [
⟨0x2600, 1, 1, 0x0, 1, 1, .u8, .const, 6, .any⟩,  -- Highest sub-index
   ⟨0x2600, 1, 1, 0x1, 1, 1, .u16, .ro, 0, .any⟩,  -- WAITING
   ⟨0x2600, 1, 1, 0x2, 1, 1, .u16, .ro, 0, .any⟩,  -- TOKENS_HELD
   ⟨0x2600, 1, 1, 0x3, 1, 1, .u32, .ro, 0, .any⟩,  -- GRANTS
   ⟨0x2600, 1, 1, 0x4, 1, 1, .u32, .ro, 0, .any⟩,  -- REFUSED_BUSY
   ⟨0x2600, 1, 1, 0x5, 1, 1, .u32, .ro, 0, .any⟩,  -- LONGEST_WAIT
   ⟨0x2600, 1, 1, 0x6, 1, 1, .u8, .ro, 0, .any⟩,  -- LONGEST_WAIT_TOKEN
   ⟨0x2601, 1, 1, 0x0, 1, 1, (.dom 162), .ro, 0, .any⟩]  -- TOKEN_HOLDERS

/-- The objects of Table 5.10 (R126). -/
def objs30 : List Obj :=
  [
⟨0x3000, 1, 1, 0x0, 1, 1, .u8, .const, 15, .any⟩,  -- Highest sub-index
   ⟨0x3000, 1, 1, 0x1, 1, 1, .u8, .ro, 0, .any⟩,  -- STATE
   ⟨0x3000, 1, 1, 0x2, 1, 1, .u8, .ro, 0, .any⟩,  -- PREV_STATE
   ⟨0x3000, 1, 1, 0x3, 1, 1, .u8, .ro, 0, .any⟩,  -- HEAD_U
   ⟨0x3000, 1, 1, 0x4, 1, 1, .u8, .ro, 0, .any⟩,  -- HEAD_L
   ⟨0x3000, 1, 1, 0x5, 1, 1, .u32, .ro, 0, .any⟩,  -- FLAGS
   ⟨0x3000, 1, 1, 0x6, 1, 1, .u8, .ro, 0, .any⟩,  -- MEDIUM
   ⟨0x3000, 1, 1, 0x7, 1, 1, .u16, .ro, 0, .any⟩,  -- INFLIGHT
   ⟨0x3000, 1, 1, 0x8, 1, 1, .u32, .ro, 0, .any⟩,  -- STATE_TIME
   ⟨0x3000, 1, 1, 0x9, 1, 1, .bool, .rw, 0, .any⟩,  -- AUTO_CLAMP
   ⟨0x3000, 1, 1, 0xA, 1, 1, .u16, .rw, 0x1F4, (.rng (100) (10000))⟩,  -- AUTO_CLAMP_DELAY
   ⟨0x3000, 1, 1, 0xB, 1, 1, .bool, .rw, 1, .any⟩,  -- AUTO_RESUME
   ⟨0x3000, 1, 1, 0xC, 1, 1, .u32, .rw, 0, (.zeroOr 10 86400)⟩,  -- IDLE_OFF_TIME
   ⟨0x3000, 1, 1, 0xD, 1, 1, .u16, .rw, 0x1388, (.rng (500) (30000))⟩,  -- HEAD_ACQ_TIMEOUT
   ⟨0x3000, 1, 1, 0xE, 1, 1, .u8, .wo, 0, (.oneOf [1])⟩,  -- STOP
   ⟨0x3000, 1, 1, 0xF, 1, 1, .u32, .ro, 0, .any⟩,  -- LOAD_COUNT
   ⟨0x3001, 1, 1, 0x0, 1, 1, .u8, .const, 7, .any⟩,  -- highest
   ⟨0x3001, 1, 1, 0x1, 1, 1, .u32, .wo, 0, .any⟩,  -- REQUEST
   ⟨0x3001, 1, 1, 0x2, 1, 1, .u8, .ro, 0, .any⟩,  -- STATUS
   ⟨0x3001, 1, 1, 0x3, 1, 1, .u32, .ro, 0, .any⟩,  -- SEQUENCE
   ⟨0x3001, 1, 1, 0x4, 1, 1, .u32, .ro, 0, .any⟩,  -- RESULT_CODE
   ⟨0x3001, 1, 1, 0x5, 1, 1, .u8, .ro, 0, .any⟩,  -- END_STATE
   ⟨0x3001, 1, 1, 0x6, 1, 1, .u32, .ro, 0, .any⟩,  -- ELAPSED
   ⟨0x3001, 1, 1, 0x7, 1, 1, .u8, .ro, 0, .any⟩,  -- COMMAND
   ⟨0x3002, 1, 1, 0x0, 1, 1, .u8, .const, 5, .any⟩,  -- Highest sub-index
   ⟨0x3002, 1, 1, 0x1, 1, 1, .u16, .wo, 0, (.bits 0xFE)⟩,  -- STROBE_FIRE
   ⟨0x3002, 1, 1, 0x2, 1, 1, .u16, .wo, 0, (.bits 0xF00)⟩,  -- DSTROBE_FIRE
   ⟨0x3002, 1, 1, 0x3, 1, 1, .u16, .ro, 0, .any⟩,  -- ARMED
   ⟨0x3002, 1, 1, 0x4, 1, 1, .u32, .rw, 0x2710, (.rng (10) (600000))⟩,  -- STROBE_TIMEOUT
   ⟨0x3002, 1, 1, 0x5, 1, 1, .u64, .ro, 0, .any⟩,  -- LAST_FIRE
   ⟨0x3003, 1, 1, 0x0, 1, 1, .u8, .const, 6, .any⟩,  -- highest
   ⟨0x3003, 1, 1, 0x1, 1, 1, .u32, .wo, 0, .any⟩,  -- REQUEST
   ⟨0x3003, 1, 1, 0x2, 1, 1, .u8, .ro, 0, .any⟩,  -- STATUS
   ⟨0x3003, 1, 1, 0x3, 1, 1, .u32, .ro, 0, .any⟩,  -- SEQUENCE
   ⟨0x3003, 1, 1, 0x4, 1, 1, .u32, .ro, 0, .any⟩,  -- RESULT_CODE
   ⟨0x3003, 1, 1, 0x5, 1, 1, .u16, .ro, 0, .any⟩,  -- LATHE_STATUS
   ⟨0x3003, 1, 1, 0x6, 1, 1, .u32, .ro, 0, .any⟩]  -- RETURN

/-- The objects of Table 8.9 (R221), Table 8.10 (R221), Table 8.11 (R221). -/
def objs31Part0 : List Obj :=
  [
⟨0x3010, 1, 1, 0x0, 1, 1, .u8, .const, 13, .any⟩,  -- Highest sub-index
   ⟨0x3010, 1, 1, 0x1, 1, 1, .u8, .ro, 0, .any⟩,  -- SPINDLE_STATE
   ⟨0x3010, 1, 1, 0x2, 1, 1, .i32, .ro, 0, .any⟩,  -- SPEED
   ⟨0x3010, 1, 1, 0x3, 1, 1, .u8, .ro, 0, .any⟩,  -- COMM_SOURCE
   ⟨0x3010, 1, 1, 0x4, 1, 1, .u8, .ro, 0, .any⟩,  -- OBSERVER
   ⟨0x3010, 1, 1, 0x5, 1, 1, .u16, .ro, 0, .any⟩,  -- ANGLE
   ⟨0x3010, 1, 1, 0x6, 1, 1, .u32, .ro, 0, .any⟩,  -- REV_INDEX
   ⟨0x3010, 1, 1, 0x7, 1, 1, .u16, .ro, 0, .any⟩,  -- ANGLE_EPOCH
   ⟨0x3010, 1, 1, 0x8, 1, 1, .u8, .ro, 0, .any⟩,  -- HALL_CODE
   ⟨0x3010, 1, 1, 0x9, 1, 1, .u16, .ro, 0, .any⟩,  -- VBUS
   ⟨0x3010, 1, 1, 0xA, 1, 1, .u16, .ro, 0, .any⟩,  -- PHASE_CURRENT
   ⟨0x3010, 1, 1, 0xB, 1, 1, .u16, .ro, 0, .any⟩,  -- ADVANCE
   ⟨0x3010, 1, 1, 0xC, 1, 1, .u8, .ro, 0, .any⟩,  -- ENC_STATE
   ⟨0x3010, 1, 1, 0xD, 1, 1, .bool, .ro, 0, .any⟩,  -- HOLDS_SLOT
   ⟨0x3011, 1, 1, 0x0, 1, 1, .u8, .const, 10, .any⟩,  -- Highest sub-index
   ⟨0x3011, 1, 1, 0x1, 1, 1, .u8, (.rws .stopped), 4, (.rng (1) (12))⟩,  -- POLE_PAIRS
   ⟨0x3011, 1, 1, 0x2, 1, 1, .u8, (.rws .stopped), 40, (.rng (20) (100))⟩,  -- PWM_FREQ
   ⟨0x3011, 1, 1, 0x3, 1, 1, .u16, (.rws .stopped), 200, (.rng (50) (2000))⟩,  -- DEAD_TIME
   ⟨0x3011, 1, 1, 0x4, 1, 1, .u8, (.rws .stopped), 15, (.rng (5) (30))⟩,  -- EDGE_WIDTH
   ⟨0x3011, 1, 1, 0x5, 1, 1, .u16, (.rws .stopped), 0, (.rng (0) (300))⟩,  -- ADV_BASE
   ⟨0x3011, 1, 1, 0x6, 1, 1, .u16, (.rws .stopped), 20, (.rng (0) (100))⟩,  -- ADV_SLOPE
   ⟨0x3011, 1, 1, 0x7, 1, 1, .u16, (.rws .stopped), 0xBB8, (.rng (100) (20000))⟩,  -- I_LIMIT
   ⟨0x3011, 1, 1, 0x8, 1, 1, .u16, (.rws .stopped), 100, (.rng (10) (2000))⟩,  -- ISENSE_SCALE
   ⟨0x3011, 1, 1, 0x9, 1, 1, .u16, (.rws .stopped), 0x5DC, (.rng (100) (20000))⟩,  -- KE
   ⟨0x3011, 1, 1, 0xA, 1, 1, .u16, (.rws .stopped), 0x3E8, (.rng (100) (10000))⟩,  -- HALL_FILTER
   ⟨0x3013, 1, 1, 0x0, 1, 1, .u8, .const, 8, .any⟩,  -- Highest sub-index
   ⟨0x3013, 1, 1, 0x1, 1, 1, .u8, .rw, 30, (.rng (10) (60))⟩,  -- LOSS_ANGLE
   ⟨0x3013, 1, 1, 0x2, 1, 1, .u8, .rw, 15, (.rng (11) (40))⟩,  -- LOSS_MISS
   ⟨0x3013, 1, 1, 0x3, 1, 1, .u8, .rw, 12, (.rng (6) (48))⟩,  -- REACQ_EDGES
   ⟨0x3013, 1, 1, 0x4, 1, 1, .u16, .rw, 50, (.rng (5) (500))⟩,  -- OBS_BW
   ⟨0x3013, 1, 1, 0x5, 1, 1, .u32, (.rws .stopped), 0, (.mask 0x3FFFF)⟩,  -- HALL_MAP
   ⟨0x3013, 1, 1, 0x6, 1, 1, .u8, .rw, 7, (.mask 0x7)⟩,  -- ENC_USE
   ⟨0x3013, 1, 1, 0x7, 1, 1, .u16, .ro, 0, .any⟩,  -- ENC_COMM_OFFSET
   ⟨0x3013, 1, 1, 0x8, 1, 1, .u16, (.rws .stopped), 0x3E8, (.rng (100) (10000))⟩,  -- ALIGN_CURRENT
   ⟨0x3012, 1, 1, 0x0, 1, 1, .u8, .const, 18, .any⟩,  -- Highest sub-index
   ⟨0x3012, 1, 1, 0x1, 1, 1, .u16, (.rws .notReadyActive), 0x1C20, (.rng (600) (7200))⟩,  -- TARGET_RPM
   ⟨0x3012, 1, 1, 0x2, 1, 1, .u16, .rw, 0x9C4, (.rng (100) (10000))⟩,  -- ACCEL_RATE
   ⟨0x3012, 1, 1, 0x3, 1, 1, .u16, .rw, 0x9C4, (.rng (100) (10000))⟩,  -- DECEL_RATE
   ⟨0x3012, 1, 1, 0x4, 1, 1, .u16, .rw, 50, (.rng (5) (500))⟩,  -- SPEED_TOL
   ⟨0x3012, 1, 1, 0x5, 1, 1, .u16, .rw, 100, (.rng (10) (2000))⟩]  -- SPEED_SETTLE

/-- The objects of Table 8.11 (R221). -/
def objs31Part1 : List Obj :=
  [
⟨0x3012, 1, 1, 0x6, 1, 1, .u16, (.rws .stopped), 0x3E8, (.rng (100) (10000))⟩,  -- VBUS_DIV
   ⟨0x3012, 1, 1, 0x7, 1, 1, .u16, (.rws .stopped), 0x2710, (.rng (3000) (60000))⟩,  -- VBUS_LO
   ⟨0x3012, 1, 1, 0x8, 1, 1, .u16, (.rws .stopped), 0x36B0, (.rng (3000) (60000))⟩,  -- VBUS_HI
   ⟨0x3012, 1, 1, 0x9, 1, 1, .u16, (.rws .stopped), 0x3A98, (.rng (3000) (60000))⟩,  -- VBUS_MAX
   ⟨0x3012, 1, 1, 0xA, 1, 1, .u16, .rw, 0x12C, (.rng (50) (2000))⟩,  -- BRK_HYST
   ⟨0x3012, 1, 1, 0xB, 1, 1, .u16, .rw, 10, (.rng (1) (1000))⟩,  -- VBUS_FAULT_TIME
   ⟨0x3012, 1, 1, 0xC, 1, 1, .u16, .rw, 0x1F4, (.rng (0) (5000))⟩,  -- STOP_BRAKE_TIME
   ⟨0x3012, 1, 1, 0xD, 1, 1, .u16, .rw, 100, (.rng (20) (1000))⟩,  -- START_MEASURE
   ⟨0x3012, 1, 1, 0xE, 1, 1, .u16, .rw, 250, (.rng (50) (2000))⟩,  -- LR_START_TIME
   ⟨0x3012, 1, 1, 0xF, 1, 1, .u8, .rw, 6, (.rng (3) (32))⟩,  -- LR_RUN_INTERVALS
   ⟨0x3012, 1, 1, 0x10, 1, 1, .u8, .rw, 3, (.rng (0) (10))⟩,  -- LR_RETRIES
   ⟨0x3012, 1, 1, 0x11, 1, 1, .u16, .rw, 0x7D0, (.rng (200) (30000))⟩,  -- LR_RETRY_DELAY
   ⟨0x3012, 1, 1, 0x12, 1, 1, .u16, .rw, 120, (.rng (10) (600))⟩]  -- COAST_STOP_TIME

/-- Table 8.9 (R221), Table 8.10 (R221), Table 8.11 (R221). -/
def objs31 : List Obj :=
  objs31Part0 ++ objs31Part1

/-- The objects of Table 8.12 (R221), Table 8.13 (R221). -/
def objs32Part0 : List Obj :=
  [
⟨0x3020, 2, 1, 0x0, 1, 1, .u8, .const, 30, .any⟩,  -- Highest sub-index
   ⟨0x3020, 2, 1, 0x1, 1, 1, .u16, (.rws .stopped), 0x3A98, (.rng (1000) (50000))⟩,  -- UM_PER_STEP
   ⟨0x3020, 2, 1, 0x2, 1, 1, .u8, (.rws .stopped), 40, (.rng (20) (100))⟩,  -- PWM_FREQ
   ⟨0x3020, 2, 1, 0x3, 1, 1, .u16, .ro, 0, .any⟩,  -- COIL_R
   ⟨0x3020, 2, 1, 0x4, 1, 1, .u16, .rw, 0x4B0, (.rng (0) (10000))⟩,  -- KE_SLED
   ⟨0x3020, 2, 1, 0x5, 1, 1, .u16, .rw, 150, (.rng (0) (2000))⟩,  -- HOLD_CURRENT
   ⟨0x3020, 2, 1, 0x6, 1, 1, .u16, .rw, 200, (.rng (50) (3000))⟩,  -- RUN_MIN
   ⟨0x3020, 2, 1, 0x7, 1, 1, .u16, .rw, 0x320, (.rng (50) (3000))⟩,  -- RUN_MAX
   ⟨0x3020, 2, 1, 0x8, 1, 1, .u32, .rw, 0xF4240, (.rng (10000) (1500000))⟩,  -- VMAX
   ⟨0x3020, 2, 1, 0x9, 1, 1, .u32, .rw, 0xC350, (.rng (1000) (100000))⟩,  -- AMAX
   ⟨0x3020, 2, 1, 0xA, 1, 1, .u32, .rw, 0x2710, (.rng (100) (50000))⟩,  -- JMAX
   ⟨0x3020, 2, 1, 0xB, 1, 1, .u16, .rw, 50, (.rng (5) (500))⟩,  -- FOLLOW_CORNER
   ⟨0x3020, 2, 1, 0xC, 1, 1, .u32, .rw, 0x66666, (.rng (0) (4194304))⟩,  -- FOLLOW_DEADBAND
   ⟨0x3020, 2, 1, 0xD, 1, 1, .u32, .rw, 0x4E20, (.rng (1000) (200000))⟩,  -- FOLLOW_GAIN
   ⟨0x3020, 2, 1, 0xE, 1, 1, .u16, .rw, 200, (.rng (50) (2000))⟩,  -- BEMF_MIN_SPEED
   ⟨0x3020, 2, 1, 0xF, 1, 1, .u8, .rw, 80, (.rng (30) (120))⟩,  -- STALL_ANGLE
   ⟨0x3020, 2, 1, 0x10, 1, 1, .u8, .rw, 4, (.rng (1) (64))⟩,  -- STALL_COUNT
   ⟨0x3020, 2, 1, 0x11, 1, 1, .u32, (.rws .stopped), 0x55F0, (.rng (15000) (30000))⟩,  -- HOME_POS
   ⟨0x3020, 2, 1, 0x12, 1, 1, .u32, .rw, 0xC350, (.rng (5000) (200000))⟩,  -- HOME_SPEED
   ⟨0x3020, 2, 1, 0x13, 1, 1, .u32, .rw, 0x5FB4, .any⟩,  -- PARK_POS
   ⟨0x3020, 2, 1, 0x14, 1, 1, .u32, (.rws .stopped), 0x5CF8, (.rng (15000) (62000))⟩,  -- MIN_POS
   ⟨0x3020, 2, 1, 0x15, 1, 1, .u32, (.rws .stopped), 0xE358, (.rng (15000) (62000))⟩,  -- MAX_POS
   ⟨0x3020, 2, 1, 0x16, 1, 1, .u32, .rw, 0, .any⟩,  -- SEEK_TARGET
   ⟨0x3020, 2, 1, 0x17, 1, 1, .u8, .rw, 255, (.rng2 0 7 255 255)⟩,  -- SEEK_LAYER
   ⟨0x3020, 2, 1, 0x18, 1, 1, .u8, .rw, 2, (.rng (0) (5))⟩,  -- SEEK_RETRIES
   ⟨0x3020, 2, 1, 0x19, 1, 1, .u16, .rw, 0x1F4, (.rng (100) (5000))⟩,  -- SEEK_SETTLE
   ⟨0x3020, 2, 1, 0x1A, 1, 1, .u8, .ro, 0, .any⟩,  -- SLED_STATE
   ⟨0x3020, 2, 1, 0x1B, 1, 1, .i32, .ro, 0, .any⟩,  -- POSITION
   ⟨0x3020, 2, 1, 0x1C, 1, 1, .bool, .ro, 0, .any⟩,  -- POS_VALID
   ⟨0x3020, 2, 1, 0x1D, 1, 1, .i32, .ro, 0, .any⟩,  -- VELOCITY
   ⟨0x3020, 2, 1, 0x1E, 1, 1, .i16, .ro, 0, .any⟩,  -- LOAD_ANGLE
   ⟨0x3022, 1, 1, 0x0, 1, 1, .u8, .const, 15, .any⟩,  -- Highest sub-index
   ⟨0x3022, 1, 1, 0x1, 1, 1, .u16, (.rws .clampStill), 0x258, (.rng 50 2000)⟩,  -- RUN_CURRENT
   ⟨0x3022, 1, 1, 0x2, 1, 1, .u16, (.rws .clampStill), 200, (.rng 0 1000)⟩,  -- HOLD_CURRENT
   ⟨0x3022, 1, 1, 0x3, 1, 1, .u16, (.rws .clampStill), 250, (.rng (50) (2000))⟩,  -- SPEED
   ⟨0x3022, 1, 1, 0x4, 1, 1, .u8, (.rws .clampStill), 20, (.rng (2) (100))⟩,  -- T_OFF
   ⟨0x3022, 1, 1, 0x5, 1, 1, .u8, (.rws .clampStill), 25, (.rng (0) (100))⟩,  -- FAST_DECAY
   ⟨0x3022, 1, 1, 0x6, 1, 1, .u16, (.rws .clampStill), 0x3E8, (.rng (200) (5000))⟩,  -- BLANK_TIME
   ⟨0x3022, 1, 1, 0x7, 1, 1, .u8, (.rws .clampStill), 30, (.rng (5) (80))⟩,  -- STALL_BEMF
   ⟨0x3022, 1, 1, 0x8, 1, 1, .u32, (.rws .clampStill), 0x5000, .any⟩]  -- SEAT_MIN

/-- The objects of Table 8.13 (R221). -/
def objs32Part1 : List Obj :=
  [
⟨0x3022, 1, 1, 0x9, 1, 1, .u32, (.rws .clampStill), 0x5A00, .any⟩,  -- SEAT_MAX
   ⟨0x3022, 1, 1, 0xA, 1, 1, .u32, (.rws .clampStill), 0x6400, .any⟩,  -- STROKE_LIMIT
   ⟨0x3022, 1, 1, 0xB, 1, 1, .u16, .rw, 0x200, (.rng (64) (4096))⟩,  -- PROBE_STEPS
   ⟨0x3022, 1, 1, 0xC, 1, 1, .u8, .ro, 0, .any⟩,  -- CLAMP_STATE
   ⟨0x3022, 1, 1, 0xD, 1, 1, .u32, .ro, 0xFFFFFFFF, .any⟩,  -- POSITION
   ⟨0x3022, 1, 1, 0xE, 1, 1, .u32, .ro, 0, .any⟩,  -- LAST_STALL_POS
   ⟨0x3022, 1, 1, 0xF, 1, 1, .u16, .ro, 0, .any⟩]  -- LAST_STROKE_TIME

/-- Table 8.12 (R221), Table 8.13 (R221). -/
def objs32 : List Obj :=
  objs32Part0 ++ objs32Part1

/-- The objects of Table 8.13 (R221), Table 6.7 (R155), Table 6.9 (R155), Table 6.10 (R155), Table 6.11 (R155). -/
def objs33Part0 : List Obj :=
  [
⟨0x303F, 1, 1, 0x0, 1, 1, .u8, .const, 16, .any⟩,  -- Highest sub-index
   ⟨0x303F, 1, 1, 0x1, 16, 1, .u32, .ro, 0, .any⟩,  -- Counters
   ⟨0x3030, 1, 1, 0x0, 1, 1, .u8, .const, 15, .any⟩,  -- highest
   ⟨0x3030, 1, 1, 0x1, 3, 1, .u8, .ro, 0, .any⟩,  -- STATE
   ⟨0x3030, 1, 1, 0x4, 3, 1, .u8, (.rws .maint), 0, (.oneOf [0, 1, 3, 4])⟩,  -- LOOP_CMD
   ⟨0x3030, 1, 1, 0x7, 3, 1, .u8, .ro, 0, .any⟩,  -- HOLD_CAUSE
   ⟨0x3030, 1, 1, 0xA, 3, 1, .i32, .rw, 0, .any⟩,  -- OPEN_DRIVE
   ⟨0x3030, 1, 1, 0xD, 3, 1, .i32, .ro, 0, .any⟩,  -- DRIVE
   ⟨0x3031, 3, 1, 0x0, 1, 1, .u8, .const, 48, .any⟩,  -- highest
   ⟨0x3031, 3, 1, 0x1, 1, 1, .u8, (.rws .setUnlocked), 1, (.rng 0 8)⟩,  -- NSEC
   ⟨0x3031, 3, 1, 0x2, 1, 1, .u8, (.rws .setUnlocked), 255, (.rng2 0 7 255 255)⟩,  -- INT_SEC
   ⟨0x3031, 3, 1, 0x3, 1, 1, .i32, (.rws .setUnlocked), 0x1000000, .any⟩,  -- LOOP_GAIN
   ⟨0x3031, 3, 1, 0x4, 1, 1, .i32, (.rws .setUnlocked), 0, .any⟩,  -- OFFSET
   ⟨0x3031, 3, 1, 0x5, 1, 1, .i32, (.rws .setUnlocked), 0x7FFFFF, .any⟩,  -- LIM_HI
   ⟨0x3031, 3, 1, 0x6, 1, 1, .i32, (.rws .setUnlocked), 0xFF800000, .any⟩,  -- LIM_LO
   ⟨0x3031, 3, 1, 0x7, 1, 1, .u32, (.rws .setUnlocked), 0, (.zeroOr 1 16777215)⟩,  -- SLEW
   ⟨0x3031, 3, 1, 0x8, 1, 1, .i32, (.rws .setUnlocked), 0, .any⟩,  -- PRESET
   ⟨0x3031, 3, 1, 0x9, 8, 5, .i32, (.rws .setUnlocked), 0x40000000, .any⟩,  -- b0
   ⟨0x3031, 3, 1, 0xA, 8, 5, .i32, (.rws .setUnlocked), 0, .any⟩,  -- b1
   ⟨0x3031, 3, 1, 0xB, 8, 5, .i32, (.rws .setUnlocked), 0, .any⟩,  -- b2
   ⟨0x3031, 3, 1, 0xC, 8, 5, .i32, (.rws .setUnlocked), 0, .any⟩,  -- a1
   ⟨0x3031, 3, 1, 0xD, 8, 5, .i32, (.rws .setUnlocked), 0, .any⟩,  -- a2
   ⟨0x3036, 1, 1, 0x0, 1, 1, .u8, .const, 50, .any⟩,  -- highest
   ⟨0x3036, 1, 1, 0x1, 1, 1, .u8, .rw, 1, .any⟩,  -- NSEC
   ⟨0x3036, 1, 1, 0x2, 1, 1, .u8, .rw, 255, .any⟩,  -- INT_SEC
   ⟨0x3036, 1, 1, 0x3, 1, 1, .i32, .rw, 0x1000000, .any⟩,  -- LOOP_GAIN
   ⟨0x3036, 1, 1, 0x4, 1, 1, .i32, .rw, 0, .any⟩,  -- OFFSET
   ⟨0x3036, 1, 1, 0x5, 1, 1, .i32, .rw, 0x7FFFFF, .any⟩,  -- LIM_HI
   ⟨0x3036, 1, 1, 0x6, 1, 1, .i32, .rw, 0xFF800000, .any⟩,  -- LIM_LO
   ⟨0x3036, 1, 1, 0x7, 1, 1, .u32, .rw, 0, .any⟩,  -- SLEW
   ⟨0x3036, 1, 1, 0x8, 1, 1, .i32, .rw, 0, .any⟩,  -- PRESET
   ⟨0x3036, 1, 1, 0x9, 8, 5, .i32, .rw, 0x40000000, .any⟩,  -- b0
   ⟨0x3036, 1, 1, 0xA, 8, 5, .i32, .rw, 0, .any⟩,  -- b1
   ⟨0x3036, 1, 1, 0xB, 8, 5, .i32, .rw, 0, .any⟩,  -- b2
   ⟨0x3036, 1, 1, 0xC, 8, 5, .i32, .rw, 0, .any⟩,  -- a1
   ⟨0x3036, 1, 1, 0xD, 8, 5, .i32, .rw, 0, .any⟩,  -- a2
   ⟨0x3036, 1, 1, 0x31, 1, 1, .u8, .rw, 0, (.rng 0 2)⟩,  -- TARGET
   ⟨0x3036, 1, 1, 0x32, 1, 1, .u8, .wo, 0, (.oneOf [1])⟩,  -- APPLY
   ⟨0x3037, 1, 1, 0x0, 1, 1, .u8, .const, 76, .any⟩,  -- highest
   ⟨0x3037, 1, 1, 0x1, 1, 1, .u8, .rw, 3, (.mask 0x3)⟩]  -- ENABLE

/-- The objects of Table 6.11 (R155), Table 6.14 (R155). -/
def objs33Part1 : List Obj :=
  [
⟨0x3037, 1, 1, 0x2, 1, 1, .u32, .rw, 0x80000, (.rng 1 8388607)⟩,  -- RES_LIMIT
   ⟨0x3037, 1, 1, 0x3, 1, 1, .u8, .rw, 4, (.rng 1 255)⟩,  -- RES_COUNT
   ⟨0x3037, 1, 1, 0x4, 1, 1, .u16, .rw, 64, (.oneOf [64, 128, 256, 512, 1024])⟩,  -- VAR_WIN
   ⟨0x3037, 1, 1, 0x5, 1, 1, .u32, .rw, 16, .any⟩,  -- VAR_FLOOR
   ⟨0x3037, 1, 1, 0x6, 1, 1, .u32, .rw, 0x10000, (.rng 1 16777215)⟩,  -- DRIVE_MOVE
   ⟨0x3037, 1, 1, 0x7, 1, 1, .u8, .rw, 8, (.rng 1 255)⟩,  -- RETURN_COUNT
   ⟨0x3037, 1, 1, 0x8, 1, 1, .u32, .rw, 0x4E20, (.rng 2000 200000)⟩,  -- HOLD_WINDOW
   ⟨0x3037, 1, 1, 0x9, 1, 1, .u8, .rw, 3, (.mask 0x3)⟩,  -- ENABLE
   ⟨0x3037, 1, 1, 0xA, 1, 1, .u32, .rw, 0x80000, (.rng 1 8388607)⟩,  -- RES_LIMIT
   ⟨0x3037, 1, 1, 0xB, 1, 1, .u8, .rw, 8, (.rng 1 255)⟩,  -- RES_COUNT
   ⟨0x3037, 1, 1, 0xC, 1, 1, .u16, .rw, 128, (.oneOf [64, 128, 256, 512, 1024])⟩,  -- VAR_WIN
   ⟨0x3037, 1, 1, 0xD, 1, 1, .u32, .rw, 16, .any⟩,  -- VAR_FLOOR
   ⟨0x3037, 1, 1, 0xE, 1, 1, .u32, .rw, 0x10000, (.rng 1 16777215)⟩,  -- DRIVE_MOVE
   ⟨0x3037, 1, 1, 0xF, 1, 1, .u8, .rw, 16, (.rng 1 255)⟩,  -- RETURN_COUNT
   ⟨0x3037, 1, 1, 0x10, 1, 1, .u32, .rw, 0x1388, (.rng 500 50000)⟩,  -- HOLD_WINDOW
   ⟨0x3037, 1, 1, 0x11, 1, 1, .u8, .rw, 3, (.mask 0x3)⟩,  -- ENABLE
   ⟨0x3037, 1, 1, 0x12, 1, 1, .u32, .rw, 0x80000, (.rng 1 8388607)⟩,  -- RES_LIMIT
   ⟨0x3037, 1, 1, 0x13, 1, 1, .u8, .rw, 8, (.rng 1 255)⟩,  -- RES_COUNT
   ⟨0x3037, 1, 1, 0x14, 1, 1, .u16, .rw, 128, (.oneOf [64, 128, 256, 512, 1024])⟩,  -- VAR_WIN
   ⟨0x3037, 1, 1, 0x15, 1, 1, .u32, .rw, 16, .any⟩,  -- VAR_FLOOR
   ⟨0x3037, 1, 1, 0x16, 1, 1, .u32, .rw, 0x10000, (.rng 1 16777215)⟩,  -- DRIVE_MOVE
   ⟨0x3037, 1, 1, 0x17, 1, 1, .u8, .rw, 16, (.rng 1 255)⟩,  -- RETURN_COUNT
   ⟨0x3037, 1, 1, 0x18, 1, 1, .u32, .rw, 0x1388, (.rng 500 50000)⟩,  -- HOLD_WINDOW
   ⟨0x3037, 1, 1, 0x29, 12, 1, .i32, (.rws .loopNotClosed), 0, .any⟩,  -- model coefficient
   ⟨0x3037, 1, 1, 0x3D, 1, 1, .u8, .rw, 8, (.rng 1 64)⟩,  -- COEF_HOLD_MAX
   ⟨0x3037, 1, 1, 0x3E, 9, 1, .u32, .ro, 0, .any⟩,  -- counter
   ⟨0x303B, 1, 1, 0x0, 1, 1, .u8, .const, 20, .any⟩,  -- highest
   ⟨0x303B, 1, 1, 0x1, 1, 1, .bool, (.rws .maint), 0, .any⟩,  -- INJ_ENABLE
   ⟨0x303B, 1, 1, 0x2, 1, 1, .u8, .rw, 0, (.rng 0 2)⟩,  -- INJ_LOOP
   ⟨0x303B, 1, 1, 0x3, 1, 1, .u8, .rw, 1, (.oneOf [0, 1])⟩,  -- INJ_POINT
   ⟨0x303B, 1, 1, 0x4, 1, 1, .u8, .rw, 1, (.oneOf [1, 2, 3])⟩,  -- INJ_KIND
   ⟨0x303B, 1, 1, 0x5, 1, 1, .u32, .rw, 0x10000, (.rng 1 4194304)⟩,  -- INJ_AMPL
   ⟨0x303B, 1, 1, 0x6, 1, 1, .u32, .rw, 0x2710, .any⟩,  -- INJ_FREQ
   ⟨0x303B, 1, 1, 0x7, 1, 1, .u32, .rw, 0x2710, .any⟩,  -- SWEEP_START
   ⟨0x303B, 1, 1, 0x8, 1, 1, .u32, .rw, 0x927C0, .any⟩,  -- SWEEP_STOP
   ⟨0x303B, 1, 1, 0x9, 1, 1, .u32, .rw, 0x3E8, (.rng 10 60000)⟩,  -- SWEEP_TIME
   ⟨0x303B, 1, 1, 0xA, 1, 1, .u8, .rw, 15, (.rng 7 23)⟩,  -- PRBS_ORDER
   ⟨0x303B, 1, 1, 0xB, 1, 1, .u16, .rw, 1, (.rng 1 256)⟩,  -- PRBS_HOLD
   ⟨0x303B, 1, 1, 0xC, 1, 1, .u8, .rw, 0, (.rng 0 2)⟩,  -- CAP_LOOP
   ⟨0x303B, 1, 1, 0xD, 1, 1, .u8, .rw, 0, (.rng 0 15)⟩]  -- TAP_A

/-- The objects of Table 6.14 (R155), Table 6.15 (R155). -/
def objs33Part2 : List Obj :=
  [
⟨0x303B, 1, 1, 0xE, 1, 1, .u8, .rw, 12, (.rng 0 15)⟩,  -- TAP_B
   ⟨0x303B, 1, 1, 0xF, 1, 1, .u16, .rw, 1, (.rng 1 256)⟩,  -- CAP_DECIM
   ⟨0x303B, 1, 1, 0x10, 1, 1, .u8, .rw, 0, (.oneOf [0, 1, 2, 3])⟩,  -- CAP_TRIGGER
   ⟨0x303B, 1, 1, 0x11, 1, 1, .i32, .rw, 0, .any⟩,  -- CAP_LEVEL
   ⟨0x303B, 1, 1, 0x12, 1, 1, .u16, .rw, 0, (.rng 0 16383)⟩,  -- PRE_TRIGGER
   ⟨0x303B, 1, 1, 0x13, 1, 1, .u8, .rw, 1, (.rng 1 15)⟩,  -- CAP_STROBE
   ⟨0x303B, 1, 1, 0x14, 1, 1, .u32, .rw, 0x2710, (.rng 10 600000)⟩,  -- CAP_TIMEOUT
   ⟨0x303C, 1, 1, 0x0, 1, 1, .u8, .const, 8, .any⟩,  -- highest
   ⟨0x303C, 1, 1, 0x1, 1, 1, .u32, .wo, 0, .any⟩,  -- REQUEST
   ⟨0x303C, 1, 1, 0x2, 1, 1, .u8, .ro, 0, .any⟩,  -- STATUS
   ⟨0x303C, 1, 1, 0x3, 1, 1, .u32, .ro, 0, .any⟩,  -- SEQUENCE
   ⟨0x303C, 1, 1, 0x4, 1, 1, .u32, .ro, 0, .any⟩,  -- RESULT_CODE
   ⟨0x303C, 1, 1, 0x5, 1, 1, .u64, .ro, 0, .any⟩,  -- TRIGGER_COUNT
   ⟨0x303C, 1, 1, 0x6, 1, 1, .u16, .ro, 0, .any⟩,  -- TAPS
   ⟨0x303C, 1, 1, 0x7, 1, 1, .u8, .ro, 0, .any⟩,  -- LOOP
   ⟨0x303C, 1, 1, 0x8, 1, 1, .u16, .ro, 0, .any⟩,  -- DECIM
   ⟨0x303D, 1, 1, 0x0, 1, 1, (.dom 131072), .ro, 0, .any⟩,  -- CAPTURE_DATA
   ⟨0x303E, 1, 1, 0x0, 1, 1, .u8, .const, 11, .any⟩,  -- highest
   ⟨0x303E, 1, 1, 0x1, 1, 1, .u32, .wo, 0, .any⟩,  -- REQUEST
   ⟨0x303E, 1, 1, 0x2, 1, 1, .u8, .ro, 0, .any⟩,  -- STATUS
   ⟨0x303E, 1, 1, 0x3, 1, 1, .u32, .ro, 0, .any⟩,  -- SEQUENCE
   ⟨0x303E, 1, 1, 0x4, 1, 1, .u32, .ro, 0, .any⟩,  -- RESULT_CODE
   ⟨0x303E, 1, 1, 0x5, 1, 1, .u8, .ro, 0, .any⟩,  -- LOOP
   ⟨0x303E, 1, 1, 0x6, 1, 1, .u32, .ro, 0, .any⟩,  -- CROSSOVER
   ⟨0x303E, 1, 1, 0x7, 1, 1, .i16, .ro, 0, .any⟩,  -- PHASE_MARGIN
   ⟨0x303E, 1, 1, 0x8, 1, 1, .i16, .ro, 0, .any⟩,  -- GAIN_MARGIN
   ⟨0x303E, 1, 1, 0x9, 1, 1, .u32, .ro, 0, .any⟩,  -- PHASE_CROSS
   ⟨0x303E, 1, 1, 0xA, 1, 1, .u8, .ro, 0, .any⟩,  -- POINTS_USED
   ⟨0x303E, 1, 1, 0xB, 1, 1, (.dom 768), .ro, 0, .any⟩]  -- RESPONSE

/-- Table 8.13 (R221), Table 6.7 (R155), Table 6.9 (R155), Table 6.10 (R155), Table 6.11 (R155), Table 6.14 (R155), Table 6.15 (R155). -/
def objs33 : List Obj :=
  objs33Part0 ++ objs33Part1 ++ objs33Part2

/-- The objects of Table 6.13 (R155), Table 7.4 (R187), Table 6.7 (R155), Table 6.9 (R155), Table 6.10 (R155). -/
def objs34Part0 : List Obj :=
  [
⟨0x3048, 1, 1, 0x0, 1, 1, .u8, .const, 12, .any⟩,  -- Highest sub-index
   ⟨0x3048, 1, 1, 0x1, 1, 1, .u8, .rw, 1, (.oneOf [0, 1, 2])⟩,  -- FF_MODE
   ⟨0x3048, 1, 1, 0x2, 1, 1, .u8, .rw, 1, (.oneOf [0, 1, 2])⟩,  -- FF_MODE
   ⟨0x3048, 1, 1, 0x3, 1, 1, .u16, .rw, 0x1000, (.rng (0) (32768))⟩,  -- LEARN_GAIN
   ⟨0x3048, 1, 1, 0x4, 1, 1, .u16, .rw, 0x1000, (.rng (0) (32768))⟩,  -- LEARN_GAIN
   ⟨0x3048, 1, 1, 0x5, 1, 1, .u16, .rw, 0xFFC0, (.rng (32768) (65535))⟩,  -- FORGET
   ⟨0x3048, 1, 1, 0x6, 1, 1, .u16, .rw, 0xFFC0, (.rng (32768) (65535))⟩,  -- FORGET
   ⟨0x3048, 1, 1, 0x7, 1, 1, .u8, .rw, 3, (.rng (0) (31))⟩,  -- LEAD_BINS
   ⟨0x3048, 1, 1, 0x8, 1, 1, .u8, .rw, 3, (.rng (0) (31))⟩,  -- LEAD_BINS
   ⟨0x3048, 1, 1, 0x9, 1, 1, .u32, .ro, 0, .any⟩,  -- REVS_LEARNED
   ⟨0x3048, 1, 1, 0xA, 1, 1, .u32, .ro, 0, .any⟩,  -- REVS_LEARNED
   ⟨0x3048, 1, 1, 0xB, 1, 1, .u32, .ro, 0, .any⟩,  -- FF_SATURATIONS
   ⟨0x3048, 1, 1, 0xC, 1, 1, .u32, .ro, 0, .any⟩,  -- FF_SATURATIONS
   ⟨0x3049, 2, 1, 0x0, 1, 1, (.dom 4096), (.rws .ffTable), 0, .any⟩,  -- FF_TABLE, FOC and TRK
   ⟨0x304F, 1, 1, 0x0, 1, 1, .u8, .const, 3, .any⟩,  -- Highest sub-index
   ⟨0x304F, 1, 1, 0x1, 1, 1, .u8, (.rws .headLoopsOff), 0, (.mask 0xF)⟩,  -- POLARITY_OVERRIDE
   ⟨0x304F, 1, 1, 0x2, 1, 1, .u8, .ro, 0, .any⟩,  -- POLARITY_FOUND
   ⟨0x304F, 1, 1, 0x3, 1, 1, .u32, .ro, 0, .any⟩,  -- POLARITY_REFUSALS
   ⟨0x3040, 1, 1, 0x0, 1, 1, .u8, .const, 60, .any⟩,  -- highest
   ⟨0x3040, 1, 1, 0x1, 12, 1, .u8, .ro, 0, .any⟩,  -- STATE
   ⟨0x3040, 1, 1, 0xD, 12, 1, .u8, (.rws .maint), 0, (.oneOf [0, 1, 3, 4])⟩,  -- LOOP_CMD
   ⟨0x3040, 1, 1, 0x19, 12, 1, .u8, .ro, 0, .any⟩,  -- HOLD_CAUSE
   ⟨0x3040, 1, 1, 0x25, 12, 1, .i32, .rw, 0, .any⟩,  -- OPEN_DRIVE
   ⟨0x3040, 1, 1, 0x31, 12, 1, .i32, .ro, 0, .any⟩,  -- DRIVE
   ⟨0x3041, 5, 1, 0x0, 1, 1, .u8, .const, 48, .any⟩,  -- highest
   ⟨0x3041, 5, 1, 0x1, 1, 1, .u8, (.rws .setUnlocked), 1, (.rng 0 8)⟩,  -- NSEC
   ⟨0x3041, 5, 1, 0x2, 1, 1, .u8, (.rws .setUnlocked), 255, (.rng2 0 7 255 255)⟩,  -- INT_SEC
   ⟨0x3041, 5, 1, 0x3, 1, 1, .i32, (.rws .setUnlocked), 0x1000000, .any⟩,  -- LOOP_GAIN
   ⟨0x3041, 5, 1, 0x4, 1, 1, .i32, (.rws .setUnlocked), 0, .any⟩,  -- OFFSET
   ⟨0x3041, 5, 1, 0x5, 1, 1, .i32, (.rws .setUnlocked), 0x7FFFFF, .any⟩,  -- LIM_HI
   ⟨0x3041, 5, 1, 0x6, 1, 1, .i32, (.rws .setUnlocked), 0xFF800000, .any⟩,  -- LIM_LO
   ⟨0x3041, 5, 1, 0x7, 1, 1, .u32, (.rws .setUnlocked), 0, (.zeroOr 1 16777215)⟩,  -- SLEW
   ⟨0x3041, 5, 1, 0x8, 1, 1, .i32, (.rws .setUnlocked), 0, .any⟩,  -- PRESET
   ⟨0x3041, 5, 1, 0x9, 8, 5, .i32, (.rws .setUnlocked), 0x40000000, .any⟩,  -- b0
   ⟨0x3041, 5, 1, 0xA, 8, 5, .i32, (.rws .setUnlocked), 0, .any⟩,  -- b1
   ⟨0x3041, 5, 1, 0xB, 8, 5, .i32, (.rws .setUnlocked), 0, .any⟩,  -- b2
   ⟨0x3041, 5, 1, 0xC, 8, 5, .i32, (.rws .setUnlocked), 0, .any⟩,  -- a1
   ⟨0x3041, 5, 1, 0xD, 8, 5, .i32, (.rws .setUnlocked), 0, .any⟩,  -- a2
   ⟨0x3046, 1, 1, 0x0, 1, 1, .u8, .const, 50, .any⟩,  -- highest
   ⟨0x3046, 1, 1, 0x1, 1, 1, .u8, .rw, 1, .any⟩]  -- NSEC

/-- The objects of Table 6.10 (R155), Table 6.11 (R155). -/
def objs34Part1 : List Obj :=
  [
⟨0x3046, 1, 1, 0x2, 1, 1, .u8, .rw, 255, .any⟩,  -- INT_SEC
   ⟨0x3046, 1, 1, 0x3, 1, 1, .i32, .rw, 0x1000000, .any⟩,  -- LOOP_GAIN
   ⟨0x3046, 1, 1, 0x4, 1, 1, .i32, .rw, 0, .any⟩,  -- OFFSET
   ⟨0x3046, 1, 1, 0x5, 1, 1, .i32, .rw, 0x7FFFFF, .any⟩,  -- LIM_HI
   ⟨0x3046, 1, 1, 0x6, 1, 1, .i32, .rw, 0xFF800000, .any⟩,  -- LIM_LO
   ⟨0x3046, 1, 1, 0x7, 1, 1, .u32, .rw, 0, .any⟩,  -- SLEW
   ⟨0x3046, 1, 1, 0x8, 1, 1, .i32, .rw, 0, .any⟩,  -- PRESET
   ⟨0x3046, 1, 1, 0x9, 8, 5, .i32, .rw, 0x40000000, .any⟩,  -- b0
   ⟨0x3046, 1, 1, 0xA, 8, 5, .i32, .rw, 0, .any⟩,  -- b1
   ⟨0x3046, 1, 1, 0xB, 8, 5, .i32, .rw, 0, .any⟩,  -- b2
   ⟨0x3046, 1, 1, 0xC, 8, 5, .i32, .rw, 0, .any⟩,  -- a1
   ⟨0x3046, 1, 1, 0xD, 8, 5, .i32, .rw, 0, .any⟩,  -- a2
   ⟨0x3046, 1, 1, 0x31, 1, 1, .u8, .rw, 0, (.rng 0 4)⟩,  -- TARGET
   ⟨0x3046, 1, 1, 0x32, 1, 1, .u8, .wo, 0, (.oneOf [1])⟩,  -- APPLY
   ⟨0x3047, 1, 1, 0x0, 1, 1, .u8, .const, 76, .any⟩,  -- highest
   ⟨0x3047, 1, 1, 0x1, 1, 1, .u8, .rw, 3, (.mask 0x3)⟩,  -- ENABLE
   ⟨0x3047, 1, 1, 0x2, 1, 1, .u32, .rw, 0x80000, (.rng 1 8388607)⟩,  -- RES_LIMIT
   ⟨0x3047, 1, 1, 0x3, 1, 1, .u8, .rw, 24, (.rng 1 255)⟩,  -- RES_COUNT
   ⟨0x3047, 1, 1, 0x4, 1, 1, .u16, .rw, 0x100, (.oneOf [64, 128, 256, 512, 1024])⟩,  -- VAR_WIN
   ⟨0x3047, 1, 1, 0x5, 1, 1, .u32, .rw, 16, .any⟩,  -- VAR_FLOOR
   ⟨0x3047, 1, 1, 0x6, 1, 1, .u32, .rw, 0x10000, (.rng 1 16777215)⟩,  -- DRIVE_MOVE
   ⟨0x3047, 1, 1, 0x7, 1, 1, .u8, .rw, 48, (.rng 1 255)⟩,  -- RETURN_COUNT
   ⟨0x3047, 1, 1, 0x8, 1, 1, .u32, .rw, 0x190, (.rng 50 4000)⟩,  -- HOLD_WINDOW
   ⟨0x3047, 1, 1, 0x9, 1, 1, .u8, .rw, 3, (.mask 0x3)⟩,  -- ENABLE
   ⟨0x3047, 1, 1, 0xA, 1, 1, .u32, .rw, 0x80000, (.rng 1 8388607)⟩,  -- RES_LIMIT
   ⟨0x3047, 1, 1, 0xB, 1, 1, .u8, .rw, 24, (.rng 1 255)⟩,  -- RES_COUNT
   ⟨0x3047, 1, 1, 0xC, 1, 1, .u16, .rw, 0x100, (.oneOf [64, 128, 256, 512, 1024])⟩,  -- VAR_WIN
   ⟨0x3047, 1, 1, 0xD, 1, 1, .u32, .rw, 16, .any⟩,  -- VAR_FLOOR
   ⟨0x3047, 1, 1, 0xE, 1, 1, .u32, .rw, 0x10000, (.rng 1 16777215)⟩,  -- DRIVE_MOVE
   ⟨0x3047, 1, 1, 0xF, 1, 1, .u8, .rw, 48, (.rng 1 255)⟩,  -- RETURN_COUNT
   ⟨0x3047, 1, 1, 0x10, 1, 1, .u32, .rw, 0x190, (.rng 50 4000)⟩,  -- HOLD_WINDOW
   ⟨0x3047, 1, 1, 0x11, 1, 1, .u8, .rw, 3, (.mask 0x3)⟩,  -- ENABLE
   ⟨0x3047, 1, 1, 0x12, 1, 1, .u32, .rw, 0x80000, (.rng 1 8388607)⟩,  -- RES_LIMIT
   ⟨0x3047, 1, 1, 0x13, 1, 1, .u8, .rw, 4, (.rng 1 255)⟩,  -- RES_COUNT
   ⟨0x3047, 1, 1, 0x14, 1, 1, .u16, .rw, 64, (.oneOf [64, 128, 256, 512, 1024])⟩,  -- VAR_WIN
   ⟨0x3047, 1, 1, 0x15, 1, 1, .u32, .rw, 16, .any⟩,  -- VAR_FLOOR
   ⟨0x3047, 1, 1, 0x16, 1, 1, .u32, .rw, 0x10000, (.rng 1 16777215)⟩,  -- DRIVE_MOVE
   ⟨0x3047, 1, 1, 0x17, 1, 1, .u8, .rw, 8, (.rng 1 255)⟩,  -- RETURN_COUNT
   ⟨0x3047, 1, 1, 0x18, 1, 1, .u32, .rw, 0x2710, (.rng 1000 100000)⟩,  -- HOLD_WINDOW
   ⟨0x3047, 1, 1, 0x19, 1, 1, .u8, .rw, 3, (.mask 0x3)⟩]  -- ENABLE

/-- The objects of Table 6.11 (R155), Table 6.14 (R155), Table 6.15 (R155). -/
def objs34Part2 : List Obj :=
  [
⟨0x3047, 1, 1, 0x1A, 1, 1, .u32, .rw, 0x80000, (.rng 1 8388607)⟩,  -- RES_LIMIT
   ⟨0x3047, 1, 1, 0x1B, 1, 1, .u8, .rw, 2, (.rng 1 255)⟩,  -- RES_COUNT
   ⟨0x3047, 1, 1, 0x1C, 1, 1, .u16, .rw, 64, (.oneOf [64, 128, 256, 512, 1024])⟩,  -- VAR_WIN
   ⟨0x3047, 1, 1, 0x1D, 1, 1, .u32, .rw, 16, .any⟩,  -- VAR_FLOOR
   ⟨0x3047, 1, 1, 0x1E, 1, 1, .u32, .rw, 0x10000, (.rng 1 16777215)⟩,  -- DRIVE_MOVE
   ⟨0x3047, 1, 1, 0x1F, 1, 1, .u8, .rw, 4, (.rng 1 255)⟩,  -- RETURN_COUNT
   ⟨0x3047, 1, 1, 0x20, 1, 1, .u32, .rw, 0x4E20, (.rng 2000 200000)⟩,  -- HOLD_WINDOW
   ⟨0x3047, 1, 1, 0x21, 1, 1, .u8, .rw, 3, (.mask 0x3)⟩,  -- ENABLE
   ⟨0x3047, 1, 1, 0x22, 1, 1, .u32, .rw, 0x80000, (.rng 1 8388607)⟩,  -- RES_LIMIT
   ⟨0x3047, 1, 1, 0x23, 1, 1, .u8, .rw, 8, (.rng 1 255)⟩,  -- RES_COUNT
   ⟨0x3047, 1, 1, 0x24, 1, 1, .u16, .rw, 128, (.oneOf [64, 128, 256, 512, 1024])⟩,  -- VAR_WIN
   ⟨0x3047, 1, 1, 0x25, 1, 1, .u32, .rw, 16, .any⟩,  -- VAR_FLOOR
   ⟨0x3047, 1, 1, 0x26, 1, 1, .u32, .rw, 0x10000, (.rng 1 16777215)⟩,  -- DRIVE_MOVE
   ⟨0x3047, 1, 1, 0x27, 1, 1, .u8, .rw, 16, (.rng 1 255)⟩,  -- RETURN_COUNT
   ⟨0x3047, 1, 1, 0x28, 1, 1, .u32, .rw, 50, (.rng 10 1000)⟩,  -- HOLD_WINDOW
   ⟨0x3047, 1, 1, 0x29, 20, 1, .i32, (.rws .loopNotClosed), 0, .any⟩,  -- model coefficient
   ⟨0x3047, 1, 1, 0x3D, 1, 1, .u8, .rw, 8, (.rng 1 64)⟩,  -- COEF_HOLD_MAX
   ⟨0x3047, 1, 1, 0x3E, 15, 1, .u32, .ro, 0, .any⟩,  -- counter
   ⟨0x304B, 1, 1, 0x0, 1, 1, .u8, .const, 20, .any⟩,  -- highest
   ⟨0x304B, 1, 1, 0x1, 1, 1, .bool, (.rws .maint), 0, .any⟩,  -- INJ_ENABLE
   ⟨0x304B, 1, 1, 0x2, 1, 1, .u8, .rw, 0, (.rng 0 11)⟩,  -- INJ_LOOP
   ⟨0x304B, 1, 1, 0x3, 1, 1, .u8, .rw, 1, (.oneOf [0, 1])⟩,  -- INJ_POINT
   ⟨0x304B, 1, 1, 0x4, 1, 1, .u8, .rw, 1, (.oneOf [1, 2, 3])⟩,  -- INJ_KIND
   ⟨0x304B, 1, 1, 0x5, 1, 1, .u32, .rw, 0x10000, (.rng 1 4194304)⟩,  -- INJ_AMPL
   ⟨0x304B, 1, 1, 0x6, 1, 1, .u32, .rw, 0x2710, .any⟩,  -- INJ_FREQ
   ⟨0x304B, 1, 1, 0x7, 1, 1, .u32, .rw, 0x2710, .any⟩,  -- SWEEP_START
   ⟨0x304B, 1, 1, 0x8, 1, 1, .u32, .rw, 0x927C0, .any⟩,  -- SWEEP_STOP
   ⟨0x304B, 1, 1, 0x9, 1, 1, .u32, .rw, 0x3E8, (.rng 10 60000)⟩,  -- SWEEP_TIME
   ⟨0x304B, 1, 1, 0xA, 1, 1, .u8, .rw, 15, (.rng 7 23)⟩,  -- PRBS_ORDER
   ⟨0x304B, 1, 1, 0xB, 1, 1, .u16, .rw, 1, (.rng 1 256)⟩,  -- PRBS_HOLD
   ⟨0x304B, 1, 1, 0xC, 1, 1, .u8, .rw, 0, (.rng 0 11)⟩,  -- CAP_LOOP
   ⟨0x304B, 1, 1, 0xD, 1, 1, .u8, .rw, 0, (.rng 0 15)⟩,  -- TAP_A
   ⟨0x304B, 1, 1, 0xE, 1, 1, .u8, .rw, 12, (.rng 0 15)⟩,  -- TAP_B
   ⟨0x304B, 1, 1, 0xF, 1, 1, .u16, .rw, 1, (.rng 1 256)⟩,  -- CAP_DECIM
   ⟨0x304B, 1, 1, 0x10, 1, 1, .u8, .rw, 0, (.oneOf [0, 1, 2, 3])⟩,  -- CAP_TRIGGER
   ⟨0x304B, 1, 1, 0x11, 1, 1, .i32, .rw, 0, .any⟩,  -- CAP_LEVEL
   ⟨0x304B, 1, 1, 0x12, 1, 1, .u16, .rw, 0, (.rng 0 16383)⟩,  -- PRE_TRIGGER
   ⟨0x304B, 1, 1, 0x13, 1, 1, .u8, .rw, 1, (.rng 1 15)⟩,  -- CAP_STROBE
   ⟨0x304B, 1, 1, 0x14, 1, 1, .u32, .rw, 0x2710, (.rng 10 600000)⟩,  -- CAP_TIMEOUT
   ⟨0x304C, 1, 1, 0x0, 1, 1, .u8, .const, 8, .any⟩]  -- highest

/-- The objects of Table 6.15 (R155). -/
def objs34Part3 : List Obj :=
  [
⟨0x304C, 1, 1, 0x1, 1, 1, .u32, .wo, 0, .any⟩,  -- REQUEST
   ⟨0x304C, 1, 1, 0x2, 1, 1, .u8, .ro, 0, .any⟩,  -- STATUS
   ⟨0x304C, 1, 1, 0x3, 1, 1, .u32, .ro, 0, .any⟩,  -- SEQUENCE
   ⟨0x304C, 1, 1, 0x4, 1, 1, .u32, .ro, 0, .any⟩,  -- RESULT_CODE
   ⟨0x304C, 1, 1, 0x5, 1, 1, .u64, .ro, 0, .any⟩,  -- TRIGGER_COUNT
   ⟨0x304C, 1, 1, 0x6, 1, 1, .u16, .ro, 0, .any⟩,  -- TAPS
   ⟨0x304C, 1, 1, 0x7, 1, 1, .u8, .ro, 0, .any⟩,  -- LOOP
   ⟨0x304C, 1, 1, 0x8, 1, 1, .u16, .ro, 0, .any⟩,  -- DECIM
   ⟨0x304D, 1, 1, 0x0, 1, 1, (.dom 131072), .ro, 0, .any⟩,  -- CAPTURE_DATA
   ⟨0x304E, 1, 1, 0x0, 1, 1, .u8, .const, 11, .any⟩,  -- highest
   ⟨0x304E, 1, 1, 0x1, 1, 1, .u32, .wo, 0, .any⟩,  -- REQUEST
   ⟨0x304E, 1, 1, 0x2, 1, 1, .u8, .ro, 0, .any⟩,  -- STATUS
   ⟨0x304E, 1, 1, 0x3, 1, 1, .u32, .ro, 0, .any⟩,  -- SEQUENCE
   ⟨0x304E, 1, 1, 0x4, 1, 1, .u32, .ro, 0, .any⟩,  -- RESULT_CODE
   ⟨0x304E, 1, 1, 0x5, 1, 1, .u8, .ro, 0, .any⟩,  -- LOOP
   ⟨0x304E, 1, 1, 0x6, 1, 1, .u32, .ro, 0, .any⟩,  -- CROSSOVER
   ⟨0x304E, 1, 1, 0x7, 1, 1, .i16, .ro, 0, .any⟩,  -- PHASE_MARGIN
   ⟨0x304E, 1, 1, 0x8, 1, 1, .i16, .ro, 0, .any⟩,  -- GAIN_MARGIN
   ⟨0x304E, 1, 1, 0x9, 1, 1, .u32, .ro, 0, .any⟩,  -- PHASE_CROSS
   ⟨0x304E, 1, 1, 0xA, 1, 1, .u8, .ro, 0, .any⟩,  -- POINTS_USED
   ⟨0x304E, 1, 1, 0xB, 1, 1, (.dom 768), .ro, 0, .any⟩]  -- RESPONSE

/-- Table 6.13 (R155), Table 7.4 (R187), Table 6.7 (R155), Table 6.9 (R155), Table 6.10 (R155), Table 6.11 (R155), Table 6.14 (R155), Table 6.15 (R155). -/
def objs34 : List Obj :=
  objs34Part0 ++ objs34Part1 ++ objs34Part2 ++ objs34Part3

/-- The objects of Table 7.4 (R187), Table 7.5 (R187), Table 7.6 (R187). -/
def objs35Part0 : List Obj :=
  [
⟨0x3050, 1, 1, 0x0, 1, 1, .u8, .const, 7, .any⟩,  -- Highest sub-index
   ⟨0x3050, 1, 1, 0x1, 1, 1, .u16, .rw, 0x4000, (.rng (0) (65535))⟩,  -- DPP_K
   ⟨0x3050, 1, 1, 0x2, 1, 1, .i32, .rw, 0, .any⟩,  -- FE_OFFSET
   ⟨0x3050, 1, 1, 0x3, 1, 1, .i32, .rw, 0, .any⟩,  -- TE_OFFSET
   ⟨0x3050, 1, 1, 0x4, 1, 1, .u8, .rw, 10, (.rng (1) (50))⟩,  -- SUM_MIN
   ⟨0x3050, 1, 1, 0x5, 1, 1, .i32, .ro, 0, .any⟩,  -- FE_SLOPE
   ⟨0x3050, 1, 1, 0x6, 1, 1, .u32, .ro, 0, .any⟩,  -- TE_PEAK
   ⟨0x3050, 1, 1, 0x7, 1, 1, .i8, .ro, 1, .any⟩,  -- TRACK_SIGN
   ⟨0x3051, 1, 1, 0x0, 1, 1, .u8, .const, 11, .any⟩,  -- Highest sub-index
   ⟨0x3051, 1, 1, 0x1, 1, 1, .i32, .rw, 0xFFA00000, .any⟩,  -- SEARCH_START
   ⟨0x3051, 1, 1, 0x2, 1, 1, .i32, .rw, 0x600000, .any⟩,  -- SEARCH_END
   ⟨0x3051, 1, 1, 0x3, 1, 1, .u16, .rw, 40, (.rng (10) (200))⟩,  -- SEARCH_TIME
   ⟨0x3051, 1, 1, 0x4, 1, 1, .u8, .rw, 3, (.rng (0) (10))⟩,  -- SEARCH_RETRIES
   ⟨0x3051, 1, 1, 0x5, 1, 1, .u8, .rw, 30, (.rng (5) (90))⟩,  -- CAPTURE_SUM
   ⟨0x3051, 1, 1, 0x6, 1, 1, .u8, .rw, 15, (.rng (1) (50))⟩,  -- SURFACE_SUM
   ⟨0x3051, 1, 1, 0x7, 1, 1, .u16, .rw, 0x3E8, (.rng (100) (10000))⟩,  -- FOCUS_CONFIRM
   ⟨0x3051, 1, 1, 0x8, 1, 1, .u16, .rw, 20, (.rng (5) (100))⟩,  -- CONFIRM_FE_RMS
   ⟨0x3051, 1, 1, 0x9, 1, 1, .i32, .rw, 0xFFA00000, .any⟩,  -- PARK_LEVEL
   ⟨0x3051, 1, 1, 0xA, 1, 1, .u8, .rw, 3, (.rng (1) (16))⟩,  -- TE_MEAS_REVS
   ⟨0x3051, 1, 1, 0xB, 1, 1, .u8, .ro, 0, .any⟩,  -- N_FOUND
   ⟨0x3052, 1, 1, 0x0, 1, 1, .u8, .const, 11, .any⟩,  -- Highest sub-index
   ⟨0x3052, 1, 1, 0x1, 1, 1, .u32, .rw, 0x133333, (.rng (1) (8388607))⟩,  -- FOC_KICK
   ⟨0x3052, 1, 1, 0x2, 1, 1, .u16, .rw, 60, (.rng (5) (500))⟩,  -- FOC_KICK_TIME
   ⟨0x3052, 1, 1, 0x3, 1, 1, .u8, .rw, 50, (.rng (10) (90))⟩,  -- FOC_BRAKE_LEVEL
   ⟨0x3052, 1, 1, 0x4, 1, 1, .u16, .rw, 200, (.rng (50) (5000))⟩,  -- LAYER_SETTLE
   ⟨0x3052, 1, 1, 0x5, 1, 1, .u16, .rw, 0x7D0, (.rng (200) (20000))⟩,  -- LAYER_TIMEOUT
   ⟨0x3052, 1, 1, 0x6, 1, 1, .u32, .rw, 0xCCCCD, (.rng (1) (8388607))⟩,  -- TRK_KICK
   ⟨0x3052, 1, 1, 0x7, 1, 1, .u16, .rw, 8, (.rng (1) (100))⟩,  -- TRK_KICK_TIME
   ⟨0x3052, 1, 1, 0x8, 1, 1, .u16, .rw, 64, (.rng (1) (256))⟩,  -- FINE_MAX
   ⟨0x3052, 1, 1, 0x9, 1, 1, .u16, .rw, 150, (.rng (20) (2000))⟩,  -- TRACK_SETTLE
   ⟨0x3052, 1, 1, 0xA, 1, 1, .u16, .rw, 0x3E8, (.rng (200) (20000))⟩,  -- ADDRESS_TIMEOUT
   ⟨0x3052, 1, 1, 0xB, 1, 1, .u16, .rw, 20, (.rng (2) (200))⟩,  -- TRK_CAPTURE
   ⟨0x3053, 1, 1, 0x0, 1, 1, .u8, .const, 6, .any⟩,  -- Highest sub-index
   ⟨0x3053, 1, 1, 0x1, 1, 1, .u8, .ro, 255, .any⟩,  -- LAYER
   ⟨0x3053, 1, 1, 0x2, 1, 1, .u32, .ro, 0, .any⟩,  -- TRACK
   ⟨0x3053, 1, 1, 0x3, 1, 1, .u8, .ro, 0, .any⟩,  -- PILOT_SPIRAL
   ⟨0x3053, 1, 1, 0x4, 1, 1, .u64, .ro, 0, .any⟩,  -- ADDRESS
   ⟨0x3053, 1, 1, 0x5, 1, 1, .u64, .ro, 0, .any⟩,  -- ADDRESS_COUNT
   ⟨0x3053, 1, 1, 0x6, 1, 1, .u8, .ro, 0, .any⟩,  -- PASS
   ⟨0x3054, 1, 1, 0x0, 1, 1, .u8, .const, 29, .any⟩]  -- Highest sub-index

/-- The objects of Table 7.6 (R187), Table 7.7 (R187), Table 7.8 (R187). -/
def objs35Part1 : List Obj :=
  [
⟨0x3054, 1, 1, 0x1, 1, 1, .u8, .rw, 0, (.oneOf [0, 1])⟩,  -- TLT_SOURCE
   ⟨0x3054, 1, 1, 0x2, 1, 1, .i32, .ro, 0, .any⟩,  -- TILT_EST
   ⟨0x3054, 1, 1, 0x3, 1, 1, .i32, .ro, 0, .any⟩,  -- BLR_EST
   ⟨0x3054, 1, 1, 0x4, 1, 1, .u8, .ro, 0, .any⟩,  -- BEAM_SERVICE
   ⟨0x3054, 1, 1, 0x5, 1, 1, .u16, .rw, 150, (.rng (50) (400))⟩,  -- BEAM_OT_LIMIT
   ⟨0x3054, 1, 1, 0x6, 8, 1, .i16, .ro, 0, .any⟩,  -- OFFTRACK b
   ⟨0x3054, 1, 1, 0xE, 16, 1, .i32, .rw, 0, .any⟩,  -- TILT_TABLE i
   ⟨0x3055, 1, 1, 0x0, 1, 1, .u8, .const, 12, .any⟩,  -- Highest sub-index
   ⟨0x3055, 1, 1, 0x1, 8, 1, .i16, .rw, 0, .any⟩,  -- SA_LAYER
   ⟨0x3055, 1, 1, 0x9, 1, 1, .bool, .rw, 1, .any⟩,  -- SA_CAL
   ⟨0x3055, 1, 1, 0xA, 1, 1, .i16, .ro, 0, .any⟩,  -- SA_NOW
   ⟨0x3055, 1, 1, 0xB, 1, 1, .u16, .rw, 5, (.rng (1) (50))⟩,  -- SA_SETTLE_TIMEOUT
   ⟨0x3055, 1, 1, 0xC, 1, 1, .u8, .ro, 0, .any⟩,  -- SA_STATUS
   ⟨0x3056, 1, 1, 0x0, 1, 1, .u8, .const, 20, .any⟩,  -- Highest sub-index
   ⟨0x3056, 1, 1, 0x1, 8, 1, .u16, (.rws .beamLoopNotClosed), 0x4B0, (.rng (100) (3000))⟩,  -- READ_POWER
   ⟨0x3056, 1, 1, 0x9, 8, 1, .u16, .ro, 0, .any⟩,  -- POWER_NOW
   ⟨0x3056, 1, 1, 0x11, 1, 1, .u16, .rw, 100, (.rng (10) (1000))⟩,  -- LASER_RAMP
   ⟨0x3056, 1, 1, 0x12, 1, 1, .u16, .rw, 150, (.rng (110) (300))⟩,  -- OVERPOWER
   ⟨0x3056, 1, 1, 0x13, 1, 1, .u8, .ro, 0, .any⟩,  -- BEAMS_ON
   ⟨0x3056, 1, 1, 0x14, 1, 1, .u8, .ro, 0, .any⟩,  -- BEAMS_OUT
   ⟨0x3057, 1, 1, 0x0, 1, 1, .u8, .const, 7, .any⟩,  -- Highest sub-index
   ⟨0x3057, 1, 1, 0x1, 1, 1, .u8, .rw, 60, (.rng (10) (95))⟩,  -- DEF_LO
   ⟨0x3057, 1, 1, 0x2, 1, 1, .u8, .rw, 140, (.rng (105) (250))⟩,  -- DEF_HI
   ⟨0x3057, 1, 1, 0x3, 1, 1, .u8, .rw, 2, (.rng (1) (2))⟩,  -- DEF_COUNT
   ⟨0x3057, 1, 1, 0x4, 1, 1, .u8, .rw, 12, (.rng (1) (255))⟩,  -- DEF_RELEASE
   ⟨0x3057, 1, 1, 0x5, 1, 1, .u16, .rw, 0x3E8, (.rng (100) (10000))⟩,  -- DEF_AVG
   ⟨0x3057, 1, 1, 0x6, 1, 1, .u32, .ro, 0, .any⟩,  -- DEFECTS
   ⟨0x3057, 1, 1, 0x7, 1, 1, .u32, .ro, 0, .any⟩,  -- LONGEST_DEFECT
   ⟨0x3058, 1, 1, 0x0, 1, 1, .u8, .const, 11, .any⟩,  -- Highest sub-index
   ⟨0x3058, 1, 1, 0x1, 1, 1, .u16, .rw, 100, (.rng (20) (250))⟩,  -- TRK_GUARD
   ⟨0x3058, 1, 1, 0x2, 1, 1, .u16, .rw, 40, (.rng (10) (200))⟩,  -- FOC_GUARD
   ⟨0x3058, 1, 1, 0x3, 1, 1, .u16, .rw, 0x15E, (.rng (50) (2000))⟩,  -- SHOCK_GUARD
   ⟨0x3058, 1, 1, 0x4, 1, 1, .u16, .rw, 100, (.rng (10) (2000))⟩,  -- SHOCK_SCALE
   ⟨0x3058, 1, 1, 0x5, 1, 1, .u16, .rw, 0x7D0, (.rng (200) (20000))⟩,  -- SHOCK_CORNER
   ⟨0x3058, 1, 1, 0x6, 1, 1, .u8, (.rws .maint), 7, (.mask 0x7)⟩,  -- GUARD_ENABLE
   ⟨0x3058, 1, 1, 0x7, 4, 1, .u32, .ro, 0, .any⟩,  -- Inhibit counters
   ⟨0x3058, 1, 1, 0xB, 1, 1, .u16, .ro, 0, .any⟩,  -- PEAK_SHOCK
   ⟨0x3059, 1, 1, 0x0, 1, 1, .u8, .const, 9, .any⟩,  -- Highest sub-index
   ⟨0x3059, 1, 1, 0x1, 1, 1, .u16, .rw, 100, (.rng (10) (2000))⟩,  -- RECOVERY_CONFIRM
   ⟨0x3059, 1, 1, 0x2, 1, 1, .u32, .ro, 0, .any⟩]  -- FOC_RECOVERIES

/-- The objects of Table 7.8 (R187). -/
def objs35Part2 : List Obj :=
  [
⟨0x3059, 1, 1, 0x3, 1, 1, .u32, .ro, 0, .any⟩,  -- TRK_RECOVERIES
   ⟨0x3059, 1, 1, 0x4, 1, 1, .u8, .ro, 0, .any⟩,  -- FOC_FAIL_RUN
   ⟨0x3059, 1, 1, 0x5, 1, 1, .u32, .ro, 0, .any⟩,  -- PKL_LOSSES
   ⟨0x3059, 1, 1, 0x6, 1, 1, .u32, .ro, 0, .any⟩,  -- LOOPS_OPENED
   ⟨0x3059, 1, 1, 0x7, 1, 1, .u32, .rw, 0xA3D7, (.rng (1) (838861))⟩,  -- CAL_AMPL
   ⟨0x3059, 1, 1, 0x8, 1, 1, .u32, .rw, 0x10000, (.rng (4096) (1048576))⟩,  -- CAL_SAMPLES
   ⟨0x3059, 1, 1, 0x9, 1, 1, .u16, .rw, 200, (.rng (10) (900))⟩,  -- CAL_FIT_MAX
   ⟨0x305E, 1, 1, 0x0, 1, 1, .u8, .const, 11, .any⟩,  -- highest
   ⟨0x305E, 1, 1, 0x1, 1, 1, .u32, .wo, 0, .any⟩,  -- REQUEST
   ⟨0x305E, 1, 1, 0x2, 1, 1, .u8, .ro, 0, .any⟩,  -- STATUS
   ⟨0x305E, 1, 1, 0x3, 1, 1, .u32, .ro, 0, .any⟩,  -- SEQUENCE
   ⟨0x305E, 1, 1, 0x4, 1, 1, .u32, .ro, 0, .any⟩,  -- RESULT_CODE
   ⟨0x305E, 1, 1, 0x5, 1, 1, .u8, .ro, 0, .any⟩,  -- LOOP
   ⟨0x305E, 1, 1, 0x6, 4, 1, .i32, .ro, 0, .any⟩,  -- P1, P2, Q1, Q2
   ⟨0x305E, 1, 1, 0xA, 1, 1, .u16, .ro, 0, .any⟩,  -- FIT_RESIDUAL
   ⟨0x305E, 1, 1, 0xB, 1, 1, .bool, .ro, 0, .any⟩]  -- WRITTEN

/-- Table 7.4 (R187), Table 7.5 (R187), Table 7.6 (R187), Table 7.7 (R187), Table 7.8 (R187). -/
def objs35 : List Obj :=
  objs35Part0 ++ objs35Part1 ++ objs35Part2

/-- The objects of Table 11.6 (R295), Table 11.7 (R295), Table 11.8 (R295). -/
def objs36Part0 : List Obj :=
  [
⟨0x3060, 1, 1, 0x0, 1, 1, .u8, .const, 6, .any⟩,  -- Highest sub-index
   ⟨0x3060, 1, 1, 0x1, 1, 1, .u8, .ro, 0, .any⟩,  -- CHANNEL_STATE
   ⟨0x3060, 1, 1, 0x2, 1, 1, .u8, .ro, 0, .any⟩,  -- CONVERGED
   ⟨0x3060, 1, 1, 0x3, 1, 1, .u8, .ro, 0, .any⟩,  -- INNER_AVAIL
   ⟨0x3060, 1, 1, 0x4, 1, 1, .u8, .ro, 0, .any⟩,  -- OUTER_AVAIL
   ⟨0x3060, 1, 1, 0x5, 1, 1, .u8, .ro, 0, .any⟩,  -- BEAM_DEGRADED
   ⟨0x3060, 1, 1, 0x6, 1, 1, .u8, .ro, 0, .any⟩,  -- REC_ZONE
   ⟨0x3061, 1, 1, 0x0, 1, 1, .u8, .const, 2, .any⟩,  -- Highest sub-index
   ⟨0x3061, 1, 1, 0x1, 1, 1, .u8, .rw, 40, (.rng (16) (80))⟩,  -- AGC_TARGET
   ⟨0x3061, 1, 1, 0x2, 1, 1, .u8, .rw, 55, (.rng (30) (80))⟩,  -- AA_RATIO
   ⟨0x3062, 1, 1, 0x0, 1, 1, .u8, .const, 2, .any⟩,  -- Highest sub-index
   ⟨0x3062, 1, 1, 0x1, 1, 1, .u16, .rw, 50, (.rng (10) (200))⟩,  -- TR_BW_ACQ
   ⟨0x3062, 1, 1, 0x2, 1, 1, .u16, .rw, 10, (.rng (2) (50))⟩,  -- TR_BW_TRK
   ⟨0x3063, 1, 1, 0x0, 1, 1, .u8, .const, 6, .any⟩,  -- Highest sub-index
   ⟨0x3063, 1, 1, 0x1, 1, 1, .u16, .rw, 64, (.rng (0) (1024))⟩,  -- EQ_MU
   ⟨0x3063, 1, 1, 0x2, 1, 1, .u16, .rw, 32, (.rng (0) (1024))⟩,  -- CANC_MU
   ⟨0x3063, 1, 1, 0x3, 1, 1, .u16, .rw, 8, (.rng (0) (1024))⟩,  -- TGT_MU
   ⟨0x3063, 1, 1, 0x4, 1, 1, .u16, .rw, 16, (.rng (1) (1024))⟩,  -- CONV_LIMIT
   ⟨0x3063, 1, 1, 0x5, 1, 1, .u16, .rw, 48, (.rng (8) (1024))⟩,  -- CONV_BLOCKS
   ⟨0x3063, 1, 1, 0x6, 1, 1, .u16, .rw, 0x1F4, (.rng (100) (2000))⟩,  -- OT_SCALE
   ⟨0x3064, 1, 1, 0x0, 1, 1, (.dom 240), (.rws .convergedOff), 0, .any⟩,  -- EQ_COEF
   ⟨0x3065, 1, 1, 0x0, 1, 1, (.dom 160), (.rws .convergedOff), 0, .any⟩,  -- CANC_WEIGHTS
   ⟨0x3066, 1, 1, 0x0, 1, 1, (.dom 16384), (.rws .convergedOff), 0, .any⟩,  -- TARGET_TABLE
   ⟨0x3067, 1, 1, 0x0, 1, 1, .u8, .const, 3, .any⟩,  -- Highest sub-index
   ⟨0x3067, 1, 1, 0x1, 1, 1, .u8, .rw, 50, (.rng (10) (90))⟩,  -- ENV_LO
   ⟨0x3067, 1, 1, 0x2, 1, 1, .u16, .rw, 160, (.rng (110) (300))⟩,  -- ENV_HI
   ⟨0x3067, 1, 1, 0x3, 1, 1, .u16, .rw, 64, (.rng (0) (512))⟩,  -- ENV_GUARD
   ⟨0x3068, 1, 1, 0x0, 1, 1, .u8, .const, 7, .any⟩,  -- Highest sub-index
   ⟨0x3068, 1, 1, 0x1, 1, 1, .u16, .rw, 64, (.rng (16) (1024))⟩,  -- HANDOVER_OVERLAP
   ⟨0x3068, 1, 1, 0x2, 1, 1, .u16, .rw, 50, (.rng (10) (400))⟩,  -- HANDOVER_TOL
   ⟨0x3068, 1, 1, 0x3, 1, 1, .u8, .ro, 255, .any⟩,  -- SPARE_INPUT
   ⟨0x3068, 1, 1, 0x4, 1, 1, .u16, .ro, 0, .any⟩,  -- ADC_DEGRADED
   ⟨0x3068, 1, 1, 0x5, 1, 1, .bool, .ro, 0, .any⟩,  -- CAL_SUSPENDED
   ⟨0x3068, 1, 1, 0x6, 1, 1, .u32, .ro, 0, .any⟩,  -- HANDOVERS
   ⟨0x3068, 1, 1, 0x7, 1, 1, .u32, .ro, 0, .any⟩,  -- HANDOVER_ABANDONED
   ⟨0x3069, 1, 1, 0x0, 1, 1, .u8, .const, 56, .any⟩,  -- Highest sub-index
   ⟨0x3069, 1, 1, 0x1, 8, 1, .i16, .ro, 0, .any⟩,  -- SNR
   ⟨0x3069, 1, 1, 0x9, 8, 1, .u16, .ro, 0, .any⟩,  -- MSE
   ⟨0x3069, 1, 1, 0x11, 8, 1, .u32, .ro, 0, .any⟩,  -- PRE_BER
   ⟨0x3069, 1, 1, 0x19, 8, 1, .u16, .ro, 0, .any⟩]  -- MEAN_ITER

/-- The objects of Table 11.8 (R295), Table 11.9 (R295). -/
def objs36Part1 : List Obj :=
  [
⟨0x3069, 1, 1, 0x21, 8, 1, .i16, .ro, 0, .any⟩,  -- SKEW
   ⟨0x3069, 1, 1, 0x29, 8, 1, .i16, .ro, 0, .any⟩,  -- FREQ_OFFSET
   ⟨0x3069, 1, 1, 0x31, 8, 1, .u8, .ro, 0, .any⟩,  -- VGA_GAIN
   ⟨0x306A, 1, 1, 0x0, 1, 1, .u8, .const, 64, .any⟩,  -- Highest sub-index
   ⟨0x306A, 1, 1, 0x1, 8, 1, .u32, .ro, 0, .any⟩,  -- Decode counters j=0
   ⟨0x306A, 1, 1, 0x9, 8, 1, .u32, .ro, 0, .any⟩,  -- Decode counters j=1
   ⟨0x306A, 1, 1, 0x11, 8, 1, .u32, .ro, 0, .any⟩,  -- Decode counters j=2
   ⟨0x306A, 1, 1, 0x19, 8, 1, .u32, .ro, 0, .any⟩,  -- Decode counters j=3
   ⟨0x306A, 1, 1, 0x21, 8, 1, .u32, .ro, 0, .any⟩,  -- Decode counters j=4
   ⟨0x306A, 1, 1, 0x29, 8, 1, .u32, .ro, 0, .any⟩,  -- Decode counters j=5
   ⟨0x306A, 1, 1, 0x31, 8, 1, .u32, .ro, 0, .any⟩,  -- Decode counters j=6
   ⟨0x306A, 1, 1, 0x39, 8, 1, .u32, .ro, 0, .any⟩,  -- Decode counters j=7
   ⟨0x306B, 1, 1, 0x0, 1, 1, .u8, .const, 40, .any⟩,  -- Highest sub-index
   ⟨0x306B, 1, 1, 0x1, 8, 1, .u32, .ro, 0, .any⟩,  -- Channel counters j=0
   ⟨0x306B, 1, 1, 0x9, 8, 1, .u32, .ro, 0, .any⟩,  -- Channel counters j=1
   ⟨0x306B, 1, 1, 0x11, 8, 1, .u32, .ro, 0, .any⟩,  -- Channel counters j=2
   ⟨0x306B, 1, 1, 0x19, 8, 1, .u32, .ro, 0, .any⟩,  -- Channel counters j=3
   ⟨0x306B, 1, 1, 0x21, 8, 1, .u32, .ro, 0, .any⟩,  -- Channel counters j=4
   ⟨0x306C, 1, 1, 0x0, 1, 1, .u8, .const, 2, .any⟩,  -- Highest sub-index
   ⟨0x306C, 1, 1, 0x1, 1, 1, .u32, .rw, 0, .any⟩,  -- DUMP_PSA
   ⟨0x306C, 1, 1, 0x2, 1, 1, .u8, .rw, 0, .any⟩,  -- DUMP_BEAM
   ⟨0x306D, 1, 1, 0x0, 1, 1, .u8, .const, 6, .any⟩,  -- highest
   ⟨0x306D, 1, 1, 0x1, 1, 1, .u32, .wo, 0, .any⟩,  -- REQUEST
   ⟨0x306D, 1, 1, 0x2, 1, 1, .u8, .ro, 0, .any⟩,  -- STATUS
   ⟨0x306D, 1, 1, 0x3, 1, 1, .u32, .ro, 0, .any⟩,  -- SEQUENCE
   ⟨0x306D, 1, 1, 0x4, 1, 1, .u32, .ro, 0, .any⟩,  -- RESULT_CODE
   ⟨0x306D, 1, 1, 0x5, 1, 1, .u64, .ro, 0, .any⟩,  -- DEVICE_COUNT
   ⟨0x306D, 1, 1, 0x6, 1, 1, .u16, .ro, 0, .any⟩,  -- FRAME_FLAGS
   ⟨0x306E, 1, 1, 0x0, 1, 1, (.dom 41584), .ro, 0, .any⟩]  -- DUMP_DATA

/-- Table 11.6 (R295), Table 11.7 (R295), Table 11.8 (R295), Table 11.9 (R295). -/
def objs36 : List Obj :=
  objs36Part0 ++ objs36Part1

/-- The objects of Table 10.9 (R269). -/
def objs37 : List Obj :=
  [
⟨0x307C, 1, 1, 0x0, 1, 1, .u8, .const, 16, .any⟩,  -- Highest sub-index
   ⟨0x307C, 1, 1, 0x1, 8, 1, .u32, .ro, 0, .any⟩,  -- SSM_MISSED
   ⟨0x307C, 1, 1, 0x9, 8, 1, .u32, .ro, 0, .any⟩,  -- FLYWHEEL_STARTS
   ⟨0x307D, 1, 1, 0x0, 1, 1, .u8, .const, 16, .any⟩,  -- Highest sub-index
   ⟨0x307D, 1, 1, 0x1, 8, 1, .u32, .ro, 0, .any⟩,  -- OVERRULED
   ⟨0x307D, 1, 1, 0x9, 8, 1, .u32, .ro, 0, .any⟩,  -- RSM_MISSED
   ⟨0x307E, 1, 1, 0x0, 1, 1, .u8, .const, 16, .any⟩,  -- Highest sub-index
   ⟨0x307E, 1, 1, 0x1, 8, 1, .u32, .ro, 0, .any⟩,  -- HUNTS
   ⟨0x307E, 1, 1, 0x9, 8, 1, .u32, .ro, 0, .any⟩,  -- HUNT_SECTORS
   ⟨0x307F, 1, 1, 0x0, 1, 1, .u8, .const, 8, .any⟩,  -- Highest sub-index
   ⟨0x307F, 1, 1, 0x1, 8, 1, .u32, .ro, 0, .any⟩]  -- OFFSET_RECOVERED

/-- The objects of Table 10.6 (R268), Table 10.7 (R268), Table 10.8 (R268). -/
def objs3CPart0 : List Obj :=
  [
⟨0x30C0, 1, 1, 0x0, 1, 1, .u8, .const, 10, .any⟩,  -- Highest sub-index
   ⟨0x30C0, 1, 1, 0x1, 1, 1, .u8, .ro, 0, .any⟩,  -- MEDIUM_KIND
   ⟨0x30C0, 1, 1, 0x2, 1, 1, .u8, .ro, 0, .any⟩,  -- LAYERS_A
   ⟨0x30C0, 1, 1, 0x3, 1, 1, .u8, .ro, 0, .any⟩,  -- LAYERS_B
   ⟨0x30C0, 1, 1, 0x4, 1, 1, .u64, .ro, 0, .any⟩,  -- DISC_ID
   ⟨0x30C0, 1, 1, 0x5, 1, 1, .u16, .ro, 0, .any⟩,  -- FORMAT_VERSION
   ⟨0x30C0, 1, 1, 0x6, 1, 1, .u8, .ro, 0, .any⟩,  -- SIDES_RECOGNISED
   ⟨0x30C0, 1, 1, 0x7, 1, 1, .u16, .ro, 0, .any⟩,  -- MEDIUM_ANGLE_OFFSET
   ⟨0x30C0, 1, 1, 0x8, 1, 1, (.vstr 16), .ro, 0, .any⟩,  -- MANUFACTURER
   ⟨0x30C0, 1, 1, 0x9, 1, 1, .u16, .ro, 0, .any⟩,  -- ZONES_PER_LAYER
   ⟨0x30C0, 1, 1, 0xA, 1, 1, .u16, .rw, 0x18C, (.rng (66) (396))⟩,  -- BD_MAX_RATE
   ⟨0x30C3, 1, 1, 0x0, 1, 1, .u8, .const, 7, .any⟩,  -- Highest sub-index
   ⟨0x30C3, 1, 1, 0x1, 1, 1, .u8, .rw, 48, (.rng (16) (128))⟩,  -- SSM_WINDOW
   ⟨0x30C3, 1, 1, 0x2, 1, 1, .u8, .rw, 8, (.rng (0) (16))⟩,  -- SSM_MAX_MISMATCH
   ⟨0x30C3, 1, 1, 0x3, 1, 1, .u8, .rw, 6, (.rng (2) (12))⟩,  -- RSM_WINDOW
   ⟨0x30C3, 1, 1, 0x4, 1, 1, .u8, .rw, 3, (.rng (0) (6))⟩,  -- RSM_MAX_MISMATCH
   ⟨0x30C3, 1, 1, 0x5, 1, 1, .u8, .rw, 8, (.rng (0) (16))⟩,  -- EARLY_CHECK
   ⟨0x30C3, 1, 1, 0x6, 1, 1, .u8, .rw, 8, (.rng (1) (64))⟩,  -- FLYWHEEL_MAX
   ⟨0x30C3, 1, 1, 0x7, 1, 1, .u8, .rw, 8, (.rng (0) (16))⟩,  -- RETRY_OFFSET_MAX
   ⟨0x30C1, 2, 1, 0x0, 1, 1, .u8, .const, 22, .any⟩,  -- Highest sub-index
   ⟨0x30C1, 2, 1, 0x1, 8, 1, .u32, .ro, 0, .any⟩,  -- SPARE_FREE
   ⟨0x30C1, 2, 1, 0x9, 8, 1, .u32, .ro, 0, .any⟩,  -- LIA_FREE
   ⟨0x30C1, 2, 1, 0x11, 1, 1, .u32, .ro, 0, .any⟩,  -- REPLACEMENTS
   ⟨0x30C1, 2, 1, 0x12, 1, 1, .u32, .ro, 0, .any⟩,  -- TAIL_CLUSTERS
   ⟨0x30C1, 2, 1, 0x13, 1, 1, .u32, .ro, 0, .any⟩,  -- LIA_RECORDS
   ⟨0x30C1, 2, 1, 0x14, 1, 1, .u32, .ro, 0, .any⟩,  -- NEXT_WRITE_SERIAL
   ⟨0x30C1, 2, 1, 0x15, 1, 1, .u8, .ro, 0, .any⟩,  -- READ_ONLY_LAYERS
   ⟨0x30C1, 2, 1, 0x16, 1, 1, .u32, .ro, 0, .any⟩,  -- REBUILD_TIME
   ⟨0x30C5, 1, 1, 0x0, 1, 1, .u8, .const, 2, .any⟩,  -- Highest sub-index
   ⟨0x30C5, 1, 1, 0x1, 1, 1, .u64, .rw, 0, .any⟩,  -- T_LBA
   ⟨0x30C5, 1, 1, 0x2, 1, 1, .u8, .rw, 0, (.oneOf [0, 1])⟩,  -- T_SIDE
   ⟨0x30C4, 1, 1, 0x0, 1, 1, .u8, .const, 15, .any⟩,  -- highest
   ⟨0x30C4, 1, 1, 0x1, 1, 1, .u32, .wo, 0, .any⟩,  -- REQUEST
   ⟨0x30C4, 1, 1, 0x2, 1, 1, .u8, .ro, 0, .any⟩,  -- STATUS
   ⟨0x30C4, 1, 1, 0x3, 1, 1, .u32, .ro, 0, .any⟩,  -- SEQUENCE
   ⟨0x30C4, 1, 1, 0x4, 1, 1, .u32, .ro, 0, .any⟩,  -- RESULT_CODE
   ⟨0x30C4, 1, 1, 0x5, 1, 1, .u8, .ro, 0, .any⟩,  -- LAYER
   ⟨0x30C4, 1, 1, 0x6, 1, 1, .u32, .ro, 0, .any⟩,  -- NS_ZONE
   ⟨0x30C4, 1, 1, 0x7, 1, 1, .u8, .ro, 0, .any⟩,  -- SPIRAL
   ⟨0x30C4, 1, 1, 0x8, 1, 1, .u32, .ro, 0, .any⟩]  -- PHYS_CLUSTER

/-- The objects of Table 10.8 (R268). -/
def objs3CPart1 : List Obj :=
  [
⟨0x30C4, 1, 1, 0x9, 1, 1, .u8, .ro, 0, .any⟩,  -- REC_ZONE
   ⟨0x30C4, 1, 1, 0xA, 1, 1, .u32, .ro, 0, .any⟩,  -- TRACK
   ⟨0x30C4, 1, 1, 0xB, 1, 1, .u8, .ro, 0, .any⟩,  -- SECTOR
   ⟨0x30C4, 1, 1, 0xC, 1, 1, .u32, .ro, 0, .any⟩,  -- RADIUS
   ⟨0x30C4, 1, 1, 0xD, 1, 1, .u32, .ro, 0, .any⟩,  -- PSA
   ⟨0x30C4, 1, 1, 0xE, 1, 1, .bool, .ro, 0, .any⟩,  -- REPLACED
   ⟨0x30C4, 1, 1, 0xF, 1, 1, .bool, .ro, 0, .any⟩,  -- WRITTEN
   ⟨0x30CF, 1, 1, 0x0, 1, 1, (.dom 24000), .const, 0, .any⟩]  -- LDPC_BASE

/-- Table 10.6 (R268), Table 10.7 (R268), Table 10.8 (R268). -/
def objs3C : List Obj :=
  objs3CPart0 ++ objs3CPart1

/-- The objects of Table 12.5 (R320), Table 12.6 (R320), Table 12.7 (R320), Table 12.8 (R320). -/
def objs3DPart0 : List Obj :=
  [
⟨0x30D0, 1, 1, 0x0, 1, 1, .u8, .const, 14, .any⟩,  -- Highest sub-index
   ⟨0x30D0, 1, 1, 0x1, 1, 1, .bool, .rw, 1, .any⟩,  -- VERIFY
   ⟨0x30D0, 1, 1, 0x2, 1, 1, .u8, .rw, 4, (.rng (1) (8))⟩,  -- WRITE_REVS
   ⟨0x30D0, 1, 1, 0x3, 1, 1, .u16, .rw, 0x12C, (.rng (100) (2000))⟩,  -- VERIFY_GAP
   ⟨0x30D0, 1, 1, 0x4, 1, 1, .u16, .rw, 0x258, (.rng (0) (4000))⟩,  -- VERIFY_BER_MAX
   ⟨0x30D0, 1, 1, 0x5, 1, 1, .u32, .rw, 0x3E8, (.rng (100) (100000))⟩,  -- REOPEN_TIME
   ⟨0x30D0, 1, 1, 0x6, 1, 1, .u16, .rw, 0x1000, (.rng (1024) (32768))⟩,  -- LOCK_BITS
   ⟨0x30D0, 1, 1, 0x7, 1, 1, .u8, .rw, 3, (.rng (1) (8))⟩,  -- REPLACE_MAX
   ⟨0x30D0, 1, 1, 0x8, 1, 1, .u8, .rw, 5, (.rng (1) (30))⟩,  -- OPC_TEMP_DELTA
   ⟨0x30D0, 1, 1, 0x9, 1, 1, .u32, .rw, 0xE10, (.rng (60) (604800))⟩,  -- OPC_INTERVAL
   ⟨0x30D0, 1, 1, 0xA, 1, 1, .u16, .rw, 150, (.rng (110) (400))⟩,  -- OPC_WINDOW
   ⟨0x30D0, 1, 1, 0xB, 1, 1, .u16, .rw, 0x320, (.rng (50) (10000))⟩,  -- OPC_ERR_MAX
   ⟨0x30D0, 1, 1, 0xC, 1, 1, .bool, .rw, 1, .any⟩,  -- WPA_ENABLE
   ⟨0x30D0, 1, 1, 0xD, 1, 1, .u16, .rw, 50, (.rng (0) (1000))⟩,  -- WPA_GAIN
   ⟨0x30D0, 1, 1, 0xE, 1, 1, .u8, .rw, 8, (.rng (1) (25))⟩,  -- WPA_LIMIT
   ⟨0x30D1, 2, 1, 0x0, 1, 1, .u8, .const, 19, .any⟩,  -- Highest sub-index
   ⟨0x30D1, 2, 1, 0x1, 1, 1, .u8, .ro, 0, .any⟩,  -- WRITE_STATE
   ⟨0x30D1, 2, 1, 0x2, 1, 1, .u16, .ro, 0, .any⟩,  -- LANE_STATE
   ⟨0x30D1, 2, 1, 0x3, 1, 1, .u32, (.rws .maint), 0, .any⟩,  -- BAND_START
   ⟨0x30D1, 2, 1, 0x4, 1, 1, .u16, (.rws .maint), 18, (.rng (18) (2048))⟩,  -- BAND_SECTORS
   ⟨0x30D1, 2, 1, 0x5, 1, 1, .u8, (.rws .maint), 255, .any⟩,  -- BEAM_MASK
   ⟨0x30D1, 2, 1, 0x6, 10, 1, .u32, .ro, 0, .any⟩,  -- Counters
   ⟨0x30D1, 2, 1, 0x10, 1, 1, .u16, .ro, 0, .any⟩,  -- LAST_VERIFY_BER
   ⟨0x30D1, 2, 1, 0x11, 1, 1, .u8, .ro, 255, .any⟩,  -- PKL_TABLE_LAYER
   ⟨0x30D1, 2, 1, 0x12, 1, 1, .i16, .ro, 0, .any⟩,  -- PICKUP_TEMP
   ⟨0x30D1, 2, 1, 0x13, 1, 1, .u32, .ro, 0, .any⟩,  -- VERIFY_REJUMPS
   ⟨0x30D3, 2, 1, 0x0, 1, 1, .u8, .const, 154, .any⟩,  -- Highest sub-index
   ⟨0x30D3, 2, 1, 0x1, 64, 1, .u16, (.rws .headNotWriting), 0, (.rng (1000) (16000))⟩,  -- PW_OPT
   ⟨0x30D3, 2, 1, 0x41, 8, 1, .u16, .ro, 0, .any⟩,  -- PW_NOW
   ⟨0x30D3, 2, 1, 0x49, 8, 1, .u16, (.rws .headNotWriting), 0, (.rng (50) (900))⟩,  -- PB_RATIO
   ⟨0x30D3, 2, 1, 0x51, 8, 1, .i16, .ro, 0, .any⟩,  -- BETA_NOW
   ⟨0x30D3, 2, 1, 0x59, 1, 1, .i16, .ro, 0, .any⟩,  -- OPC_TEMP
   ⟨0x30D3, 2, 1, 0x5A, 1, 1, .u64, .ro, 0, .any⟩,  -- OPC_TIME
   ⟨0x30D3, 2, 1, 0x5B, 64, 1, .i16, (.rws .headNotWriting), 0, .any⟩,  -- BETA_REF
   ⟨0x30D7, 2, 1, 0x0, 1, 1, (.dom 5120), (.rws .headNotWriting), 0, .any⟩,  -- STRATEGY, head U and head L
   ⟨0x30D9, 1, 1, 0x0, 1, 1, .u8, .const, 24, .any⟩,  -- highest
   ⟨0x30D9, 1, 1, 0x1, 1, 1, .u32, .wo, 0, .any⟩,  -- REQUEST
   ⟨0x30D9, 1, 1, 0x2, 1, 1, .u8, .ro, 0, .any⟩,  -- STATUS
   ⟨0x30D9, 1, 1, 0x3, 1, 1, .u32, .ro, 0, .any⟩,  -- SEQUENCE
   ⟨0x30D9, 1, 1, 0x4, 1, 1, .u32, .ro, 0, .any⟩]  -- RESULT_CODE

/-- The objects of Table 12.8 (R320). -/
def objs3DPart1 : List Obj :=
  [
⟨0x30D9, 1, 1, 0x5, 1, 1, .u8, .ro, 0, .any⟩,  -- HEAD
   ⟨0x30D9, 1, 1, 0x6, 1, 1, .u8, .ro, 0, .any⟩,  -- LAYER
   ⟨0x30D9, 1, 1, 0x7, 1, 1, .u32, .ro, 0, .any⟩,  -- TEST_CLUSTER
   ⟨0x30D9, 1, 1, 0x8, 1, 1, .u8, .ro, 0, .any⟩,  -- BEAMS_DONE
   ⟨0x30D9, 1, 1, 0x9, 8, 1, .u16, .ro, 0, .any⟩,  -- PW_FOUND
   ⟨0x30D9, 1, 1, 0x11, 8, 1, .u16, .ro, 0, .any⟩]  -- ERR_MIN

/-- Table 12.5 (R320), Table 12.6 (R320), Table 12.7 (R320), Table 12.8 (R320). -/
def objs3D : List Obj :=
  objs3DPart0 ++ objs3DPart1

/-- The objects of Table 5.11 (R127), Table 20.8 (R488). -/
def objs3E : List Obj :=
  [
⟨0x30E0, 1, 1, 0x0, 1, 1, .u8, .const, 7, .any⟩,  -- Highest sub-index
   ⟨0x30E0, 1, 1, 0x1, 1, 1, .u16, .ro, 0, .any⟩,  -- FAULT_CAUSE
   ⟨0x30E0, 1, 1, 0x2, 1, 1, .u32, .ro, 0, .any⟩,  -- FAULT_DETAIL
   ⟨0x30E0, 1, 1, 0x3, 1, 1, .u64, .ro, 0, .any⟩,  -- FAULT_TIME
   ⟨0x30E0, 1, 1, 0x4, 1, 1, .u16, .ro, 0, .any⟩,  -- DEGRADED
   ⟨0x30E0, 1, 1, 0x5, 1, 1, .u32, .ro, 0, .any⟩,  -- FAULT_COUNT
   ⟨0x30E0, 1, 1, 0x6, 1, 1, .u32, .ro, 0, .any⟩,  -- ILK_OPEN_COUNT
   ⟨0x30E0, 1, 1, 0x7, 1, 1, .u32, .ro, 0, .any⟩,  -- DISC_PRES_MISMATCH_COUNT
   ⟨0x30E1, 1, 1, 0x0, 1, 1, .u8, .ro, 0, .any⟩,  -- Number of entries
   ⟨0x30E1, 1, 1, 0x1, 8, 1, .u32, .ro, 0, .any⟩,  -- Fault entry
   ⟨0x30E2, 1, 1, 0x0, 1, 1, .u8, .const, 8, .any⟩,  -- highest
   ⟨0x30E2, 1, 1, 0x1, 1, 1, .u32, .wo, 0, .any⟩,  -- REQUEST
   ⟨0x30E2, 1, 1, 0x2, 1, 1, .u8, .ro, 0, .any⟩,  -- STATUS
   ⟨0x30E2, 1, 1, 0x3, 1, 1, .u32, .ro, 0, .any⟩,  -- SEQUENCE
   ⟨0x30E2, 1, 1, 0x4, 1, 1, .u32, .ro, 0, .any⟩,  -- RESULT_CODE
   ⟨0x30E2, 1, 1, 0x5, 1, 1, .u16, .ro, 0, .any⟩,  -- TESTED
   ⟨0x30E2, 1, 1, 0x6, 1, 1, .u16, .ro, 0, .any⟩,  -- FAULTS_FOUND
   ⟨0x30E2, 1, 1, 0x7, 1, 1, .u32, .ro, 0, .any⟩,  -- FIRST_FAULT
   ⟨0x30E2, 1, 1, 0x8, 1, 1, .u32, .ro, 0, .any⟩,  -- DURATION
   ⟨0x30E3, 2, 1, 0x0, 1, 1, .u8, .const, 29, .any⟩,  -- Highest sub-index
   ⟨0x30E3, 2, 1, 0x1, 28, 1, .u8, .ro, 10, .any⟩,  -- CONN_STATUS
   ⟨0x30E3, 2, 1, 0x1D, 1, 1, .bool, .ro, 0, .any⟩,  -- WIRING_FAULT
   ⟨0x30E5, 1, 1, 0x0, 1, 1, .u8, .const, 23, .any⟩,  -- Highest sub-index
   ⟨0x30E5, 1, 1, 0x1, 23, 1, .u8, .ro, 10, .any⟩,  -- CONN_STATUS
   ⟨0x30E6, 1, 1, 0x0, 1, 1, .u8, .const, 11, .any⟩,  -- Highest sub-index
   ⟨0x30E6, 1, 1, 0x1, 1, 1, .u16, .rw, 20, (.rng (5) (100))⟩,  -- COIL_TEST_CURRENT
   ⟨0x30E6, 1, 1, 0x2, 1, 1, .u8, .rw, 10, (.rng (2) (50))⟩,  -- COIL_OPEN_FRACTION
   ⟨0x30E6, 1, 1, 0x3, 1, 1, .u16, .rw, 200, (.rng (10) (2000))⟩,  -- COIL_SHORT_R
   ⟨0x30E6, 1, 1, 0x4, 1, 1, .u32, .rw, 0x3E8, (.rng (100) (100000))⟩,  -- COIL_R_MIN
   ⟨0x30E6, 1, 1, 0x5, 1, 1, .u32, .rw, 0x4E20, (.rng (100) (100000))⟩,  -- COIL_R_MAX
   ⟨0x30E6, 1, 1, 0x6, 1, 1, .u16, .rw, 50, (.rng (5) (500))⟩,  -- PD_OFFSET_MAX
   ⟨0x30E6, 1, 1, 0x7, 1, 1, .u8, .rw, 10, (.rng (2) (50))⟩,  -- WINDING_OPEN_FRACTION
   ⟨0x30E6, 1, 1, 0x8, 1, 1, .u16, .rw, 0x12C, (.rng (10) (5000))⟩,  -- WINDING_SHORT_R
   ⟨0x30E6, 1, 1, 0x9, 1, 1, .u16, .rw, 50, (.rng (10) (500))⟩,  -- PHASE_PULSE
   ⟨0x30E6, 1, 1, 0xA, 1, 1, .u16, .rw, 0x7D0, (.rng (200) (20000))⟩,  -- PHASE_SHORT_TIME
   ⟨0x30E6, 1, 1, 0xB, 1, 1, .u16, .rw, 1, (.rng (1) (100))⟩]  -- SENSE_CHECK_PERIOD

/-- The objects of Table 13.10 (R352). -/
def objs40 : List Obj :=
  [
⟨0x4000, 1, 1, 0x0, 1, 1, .u8, .const, 12, .any⟩,  -- Highest sub-index
   ⟨0x4000, 1, 1, 0x1, 1, 1, .u8, .ro, 0, .any⟩,  -- LINK_SPEED
   ⟨0x4000, 1, 1, 0x2, 1, 1, .u8, .ro, 0, .any⟩,  -- LINK_WIDTH
   ⟨0x4000, 1, 1, 0x3, 1, 1, .u8, .rw, 5, (.rng (1) (5))⟩,  -- MAX_SPEED
   ⟨0x4000, 1, 1, 0x4, 1, 1, .u8, .rw, 8, (.oneOf [1, 2, 4, 8])⟩,  -- MAX_WIDTH
   ⟨0x4000, 1, 1, 0x5, 1, 1, .u8, .rw, 0, (.oneOf [0, 1])⟩,  -- PERST_MODE
   ⟨0x4000, 1, 1, 0x6, 1, 1, .bool, .rw, 0, .any⟩,  -- ASPM_L1
   ⟨0x4000, 1, 1, 0x7, 1, 1, .u8, .ro, 0, .any⟩,  -- LTSSM_STATE
   ⟨0x4000, 1, 1, 0x8, 1, 1, .u16, .const, 0x800, .any⟩,  -- MSIX_VECTORS
   ⟨0x4000, 1, 1, 0x9, 1, 1, .u32, .ro, 0, .any⟩,  -- CORRECTABLE_ERRORS
   ⟨0x4000, 1, 1, 0xA, 1, 1, .u32, .ro, 0, .any⟩,  -- UNCORRECTABLE_ERRORS
   ⟨0x4000, 1, 1, 0xB, 1, 1, .u32, .ro, 0, .any⟩,  -- ECRC_ERRORS
   ⟨0x4000, 1, 1, 0xC, 1, 1, .u32, .ro, 0, .any⟩]  -- LINK_DOWNS

/-- The objects of Table 13.11 (R352). -/
def objs41 : List Obj :=
  [
⟨0x4100, 1, 1, 0x0, 1, 1, .u8, .const, 26, .any⟩,  -- Highest sub-index
   ⟨0x4100, 1, 1, 0x1, 1, 1, .u8, (.rws .noFabric), 0, .any⟩,  -- PORT_CONFIG
   ⟨0x4100, 1, 1, 0x2, 1, 1, .u8, .ro, 0, .any⟩,  -- LINK_STATE
   ⟨0x4100, 1, 1, 0x3, 4, 1, .u64, .rw, 0, (.mask 0xFFFFFFFFFFFF)⟩,  -- MAC
   ⟨0x4100, 1, 1, 0x7, 4, 1, .u32, .rw, 0, .any⟩,  -- IPV4
   ⟨0x4100, 1, 1, 0xB, 4, 1, (.oct 16), .rw, 0, .any⟩,  -- IPV6
   ⟨0x4100, 1, 1, 0xF, 1, 1, .u16, .rw, 0, (.zeroOr 1 4094)⟩,  -- VLAN
   ⟨0x4100, 1, 1, 0x10, 1, 1, .u8, .rw, 3, (.rng (0) (7))⟩,  -- RDMA_PRIORITY
   ⟨0x4100, 1, 1, 0x11, 1, 1, .bool, .rw, 1, .any⟩,  -- PFC_ENABLE
   ⟨0x4100, 1, 1, 0x12, 1, 1, .bool, .rw, 1, .any⟩,  -- ECN_ENABLE
   ⟨0x4100, 1, 1, 0x13, 1, 1, .u16, .rw, 0x1000, (.oneOf [1024, 2048, 4096])⟩,  -- RDMA_MTU
   ⟨0x4100, 1, 1, 0x14, 1, 1, .u16, (.rws .noFabric), 0x1144, (.rng (1) (65535))⟩,  -- SERVICE_PORT
   ⟨0x4100, 1, 1, 0x15, 1, 1, .u8, .rw, 64, (.rng (1) (64))⟩,  -- MAX_FABRIC_CONTROLLERS
   ⟨0x4100, 1, 1, 0x16, 1, 1, .u16, .ro, 0, .any⟩,  -- RDMA_QPS_USED
   ⟨0x4100, 1, 1, 0x17, 1, 1, .u32, .ro, 0, .any⟩,  -- FCS_ERRORS
   ⟨0x4100, 1, 1, 0x18, 1, 1, .u32, .ro, 0, .any⟩,  -- ICRC_ERRORS
   ⟨0x4100, 1, 1, 0x19, 1, 1, .u32, .ro, 0, .any⟩,  -- RETRANSMITS
   ⟨0x4100, 1, 1, 0x1A, 1, 1, .u32, .ro, 0, .any⟩]  -- FEC_UNCORRECTED

/-- The objects of Table 13.12 (R352). -/
def objs42 : List Obj :=
  [
⟨0x4200, 1, 1, 0x0, 1, 1, .u8, .const, 16, .any⟩,  -- Highest sub-index
   ⟨0x4200, 1, 1, 0x1, 1, 1, .u8, .ro, 0, .any⟩,  -- CONTROLLERS
   ⟨0x4200, 1, 1, 0x2, 1, 1, .u16, .ro, 0, .any⟩,  -- QUEUE_PAIRS_GRANTED
   ⟨0x4200, 1, 1, 0x3, 1, 1, .u32, .ro, 0, .any⟩,  -- CONTEXTS_IN_USE
   ⟨0x4200, 1, 1, 0x4, 1, 1, .u32, .ro, 0, .any⟩,  -- CONTEXTS_PEAK
   ⟨0x4200, 1, 1, 0x5, 1, 1, .u64, .ro, 0, .any⟩,  -- FETCH_SEQUENCE
   ⟨0x4200, 1, 1, 0x6, 1, 1, .u8, (.rws .dafInactive), 1, (.rng (1) (3))⟩,  -- PI_TYPE
   ⟨0x4200, 1, 1, 0x7, 1, 1, .u8, .rw, 1, (.oneOf [0, 1])⟩,  -- BLANK_LBAF
   ⟨0x4200, 1, 1, 0x8, 1, 1, .u16, .rw, 0x3E8, (.rng (100) (1500))⟩,  -- ACT_DRAIN_MAX
   ⟨0x4200, 1, 1, 0x9, 1, 1, .u32, .ro, 0, .any⟩,  -- FLUSHES
   ⟨0x4200, 1, 1, 0xA, 1, 1, .u32, .ro, 0, .any⟩,  -- FLUSH_FAILED
   ⟨0x4200, 1, 1, 0xB, 1, 1, .u32, .ro, 0, .any⟩,  -- UNDISPATCHED_DISCARDED
   ⟨0x4200, 1, 1, 0xC, 1, 1, .u32, .ro, 0, .any⟩,  -- STAGED_DISCARDED
   ⟨0x4200, 1, 1, 0xD, 1, 1, .u32, .ro, 0, .any⟩,  -- ABORTS_SUCCEEDED
   ⟨0x4200, 1, 1, 0xE, 1, 1, .u32, .ro, 0, .any⟩,  -- ABORTS_DECLINED
   ⟨0x4200, 1, 1, 0xF, 1, 1, .u8, .ro, 0, .any⟩,  -- LAST_RESET
   ⟨0x4200, 1, 1, 0x10, 1, 1, .u32, .ro, 0, .any⟩]  -- ACTIVATIONS

/-- The objects of Table 14.7 (R375), Table 14.8 (R375), Table 14.9 (R375). -/
def objs44Part0 : List Obj :=
  [
⟨0x4400, 1, 1, 0x0, 1, 1, .u8, .const, 13, .any⟩,  -- Highest sub-index
   ⟨0x4400, 1, 1, 0x1, 1, 1, .u16, .const, 0, .any⟩,  -- SETS
   ⟨0x4400, 1, 1, 0x2, 1, 1, .u8, .const, 16, .any⟩,  -- WAYS
   ⟨0x4400, 1, 1, 0x3, 1, 1, .u32, .const, 0, .any⟩,  -- LINES
   ⟨0x4400, 1, 1, 0x4, 1, 1, .u8, .rw, 1, (.rng (0) (7))⟩,  -- PREFETCH_DEPTH
   ⟨0x4400, 1, 1, 0x5, 1, 1, .u32, .rw, 0, .any⟩,  -- DIRTY_MAX
   ⟨0x4400, 1, 1, 0x6, 1, 1, .u32, .rw, 0, .any⟩,  -- DIRTY_MAX_STATION
   ⟨0x4400, 1, 1, 0x7, 1, 1, .u8, .rw, 75, (.rng (10) (100))⟩,  -- DIRTY_HIGH
   ⟨0x4400, 1, 1, 0x8, 1, 1, .u8, (.rws .allInactive), 16, (.rng (4) (64))⟩,  -- META_LINES
   ⟨0x4400, 1, 1, 0x9, 1, 1, .u8, .const, 3, .any⟩,  -- HOST_LOCK_WAYS
   ⟨0x4400, 1, 1, 0xA, 1, 1, .u32, .ro, 0, .any⟩,  -- LINES_VALID
   ⟨0x4400, 1, 1, 0xB, 1, 1, .u32, .ro, 0, .any⟩,  -- LINES_DIRTY
   ⟨0x4400, 1, 1, 0xC, 1, 1, .u32, .ro, 0, .any⟩,  -- LINES_LOCKED
   ⟨0x4400, 1, 1, 0xD, 1, 1, .u16, .ro, 0, .any⟩,  -- PINS
   ⟨0x4401, 1, 1, 0x0, 1, 1, .u8, .const, 17, .any⟩,  -- Highest sub-index
   ⟨0x4401, 1, 1, 0x1, 1, 1, .u64, .ro, 0, .any⟩,  -- HITS
   ⟨0x4401, 1, 1, 0x2, 1, 1, .u64, .ro, 0, .any⟩,  -- MISSES
   ⟨0x4401, 1, 1, 0x3, 14, 1, .u32, .ro, 0, .any⟩,  -- Counters
   ⟨0x4401, 1, 1, 0x11, 1, 1, .u32, .ro, 0, .any⟩,  -- META_UNLOCKED
   ⟨0x4410, 1, 1, 0x0, 1, 1, (.dom 8192), .ro, 0, .any⟩,  -- PIN_RECORDS
   ⟨0x4402, 1, 1, 0x0, 1, 1, .u8, .const, 2, .any⟩,  -- Highest sub-index
   ⟨0x4402, 1, 1, 0x1, 1, 1, .u16, .rw, 0, (.rng (0) (511))⟩,  -- P_NSID
   ⟨0x4402, 1, 1, 0x2, 1, 1, .u64, .rw, 0, (.mask 0xFFFFFFFFFF)⟩,  -- P_CLUSTER
   ⟨0x4403, 1, 1, 0x0, 1, 1, .u8, .const, 14, .any⟩,  -- highest
   ⟨0x4403, 1, 1, 0x1, 1, 1, .u32, .wo, 0, .any⟩,  -- REQUEST
   ⟨0x4403, 1, 1, 0x2, 1, 1, .u8, .ro, 0, .any⟩,  -- STATUS
   ⟨0x4403, 1, 1, 0x3, 1, 1, .u32, .ro, 0, .any⟩,  -- SEQUENCE
   ⟨0x4403, 1, 1, 0x4, 1, 1, .u32, .ro, 0, .any⟩,  -- RESULT_CODE
   ⟨0x4403, 1, 1, 0x5, 1, 1, .u16, .ro, 0, .any⟩,  -- SET
   ⟨0x4403, 1, 1, 0x6, 1, 1, .u8, .ro, 0, .any⟩,  -- BANK
   ⟨0x4403, 1, 1, 0x7, 1, 1, .u8, .ro, 255, .any⟩,  -- WAY
   ⟨0x4403, 1, 1, 0x8, 1, 1, .u8, .ro, 0, .any⟩,  -- STATE
   ⟨0x4403, 1, 1, 0x9, 1, 1, .u16, .ro, 0, .any⟩,  -- VALID
   ⟨0x4403, 1, 1, 0xA, 1, 1, .u16, .ro, 0, .any⟩,  -- DIRTY
   ⟨0x4403, 1, 1, 0xB, 1, 1, .u16, .ro, 0, .any⟩,  -- POISON
   ⟨0x4403, 1, 1, 0xC, 1, 1, .u8, .ro, 0, .any⟩,  -- LOCKED
   ⟨0x4403, 1, 1, 0xD, 1, 1, .u64, .ro, 0, .any⟩,  -- FLUSH_SEQ
   ⟨0x4403, 1, 1, 0xE, 1, 1, .u16, .ro, 0, .any⟩,  -- TREE
   ⟨0x4420, 8, 1, 0x0, 1, 1, .u8, .const, 5, .any⟩,  -- Highest sub-index
   ⟨0x4420, 8, 1, 0x1, 1, 1, .u32, .ro, 0, .any⟩]  -- DIRTY_LINES

/-- The objects of Table 14.9 (R375). -/
def objs44Part1 : List Obj :=
  [
⟨0x4420, 8, 1, 0x2, 1, 1, .u32, .ro, 0, .any⟩,  -- WRITING_LINES
   ⟨0x4420, 8, 1, 0x3, 1, 1, .u64, .ro, 0, .any⟩,  -- HITS
   ⟨0x4420, 8, 1, 0x4, 1, 1, .u64, .ro, 0, .any⟩,  -- MISSES
   ⟨0x4420, 8, 1, 0x5, 1, 1, .u32, .ro, 0, .any⟩]  -- ALLOC_WAITS

/-- Table 14.7 (R375), Table 14.8 (R375), Table 14.9 (R375). -/
def objs44 : List Obj :=
  objs44Part0 ++ objs44Part1

/-- The objects of Table 11.10 (R296), Table 15.7 (R388), Table 15.8 (R388). -/
def objs46Part0 : List Obj :=
  [
⟨0x4680, 1, 1, 0x0, 1, 1, .u8, .const, 4, .any⟩,  -- Highest sub-index
   ⟨0x4680, 1, 1, 0x1, 1, 1, .u16, .const, 0, .any⟩,  -- SLICE_SIZE
   ⟨0x4680, 1, 1, 0x2, 1, 1, .u16, .const, 0, .any⟩,  -- FRAMES_HELD
   ⟨0x4680, 1, 1, 0x3, 1, 1, .u32, .ro, 0, .any⟩,  -- STREAM_FAILED_WRITES
   ⟨0x4680, 1, 1, 0x4, 1, 1, .u32, .ro, 0, .any⟩,  -- EXPIRED
   ⟨0x4681, 1, 1, 0x0, 1, 1, .u8, .const, 9, .any⟩,  -- Highest sub-index
   ⟨0x4681, 1, 1, 0x1, 1, 1, .u8, .rw, 10, (.rng (4) (10))⟩,  -- FP_INNER_G1
   ⟨0x4681, 1, 1, 0x2, 1, 1, .u8, .rw, 10, (.rng (4) (10))⟩,  -- FP_INNER_G2
   ⟨0x4681, 1, 1, 0x3, 1, 1, .bool, .rw, 1, .any⟩,  -- RETRY_ENABLE
   ⟨0x4681, 1, 1, 0x4, 1, 1, .u8, .rw, 8, (.rng (1) (8))⟩,  -- RETRY_GLOBALS
   ⟨0x4681, 1, 1, 0x5, 1, 1, .u8, .rw, 20, (.rng (4) (20))⟩,  -- RETRY_INNER
   ⟨0x4681, 1, 1, 0x6, 1, 1, .u8, .rw, 2, (.rng (1) (8))⟩,  -- STALL_GLOBALS
   ⟨0x4681, 1, 1, 0x7, 1, 1, .u8, .rw, 10, (.rng (4) (20))⟩,  -- PROBE_INNER
   ⟨0x4681, 1, 1, 0x8, 1, 1, .u8, .rw, 4, (.rng (1) (8))⟩,  -- RETRY_PARALLEL
   ⟨0x4681, 1, 1, 0x9, 1, 1, .u8, .rw, 2, (.rng (0) (8))⟩,  -- REREAD_MAX
   ⟨0x4682, 1, 1, 0x0, 1, 1, .u8, .const, 28, .any⟩,  -- Highest sub-index
   ⟨0x4682, 1, 1, 0x1, 24, 1, .u8, .ro, 0, .any⟩,  -- SLICE_STATE
   ⟨0x4682, 1, 1, 0x19, 1, 1, .u16, .ro, 0, .any⟩,  -- FIRST_PASS_MAX_WAIT
   ⟨0x4682, 1, 1, 0x1A, 1, 1, .u32, .ro, 0, .any⟩,  -- PREEMPTIONS
   ⟨0x4682, 1, 1, 0x1B, 1, 1, .u32, .ro, 0, .any⟩,  -- RETRIES_CANCELLED
   ⟨0x4682, 1, 1, 0x1C, 1, 1, .u16, .ro, 0, .any⟩,  -- LANES_ON
   ⟨0x4600, 1, 1, 0x0, 1, 1, .u8, .const, 13, .any⟩,  -- Highest sub-index
   ⟨0x4600, 1, 1, 0x1, 1, 1, .u16, .rw, 24, (.rng (4) (168))⟩,  -- KEEP_SCRUB
   ⟨0x4600, 1, 1, 0x2, 1, 1, .u16, .rw, 72, (.rng (4) (336))⟩,  -- PASS_SCRUB
   ⟨0x4600, 1, 1, 0x3, 1, 1, .u8, .rw, 3, (.rng (1) (16))⟩,  -- REPAIR_THRESHOLD
   ⟨0x4600, 1, 1, 0x4, 1, 1, .u16, .rw, 0xFFFF, (.rng2 0 1439 0xFFFF 0xFFFF)⟩,  -- HARD_WINDOW_START
   ⟨0x4600, 1, 1, 0x5, 1, 1, .u16, .rw, 60, (.rng (10) (720))⟩,  -- HARD_WINDOW_LENGTH
   ⟨0x4600, 1, 1, 0x6, 1, 1, .u16, .ro, 0, .any⟩,  -- RELOCATIONS_USED
   ⟨0x4600, 1, 1, 0x7, 1, 1, .u16, .ro, 0, .any⟩,  -- HARD_PENDING
   ⟨0x4600, 1, 1, 0x8, 1, 1, .u16, .ro, 0, .any⟩,  -- RETIRED_WAYS
   ⟨0x4600, 1, 1, 0x9, 1, 1, .u16, .ro, 0, .any⟩,  -- LANES_REMAPPED
   ⟨0x4600, 1, 1, 0xA, 1, 1, .i16, .ro, 0, .any⟩,  -- STACK_TEMP
   ⟨0x4600, 1, 1, 0xB, 1, 1, .u32, .ro, 0, .any⟩,  -- TAG_LOST
   ⟨0x4600, 1, 1, 0xC, 1, 1, .u32, .ro, 0, .any⟩,  -- SRAM_NO_SPARE
   ⟨0x4600, 1, 1, 0xD, 1, 1, .u8, .wo, 0, (.oneOf [1])⟩,  -- REPAIR_MAP_CLEAR
   ⟨0x4601, 1, 1, 0x0, 1, 1, .u8, .const, 37, .any⟩,  -- Highest sub-index
   ⟨0x4601, 1, 1, 0x1, 35, 1, .u32, .ro, 0, .any⟩,  -- region counters
   ⟨0x4601, 1, 1, 0x24, 1, 1, .u64, .ro, 0, .any⟩,  -- SCRUB_POSITION_KEEP
   ⟨0x4601, 1, 1, 0x25, 1, 1, .u64, .ro, 0, .any⟩,  -- SCRUB_POSITION_PASS
   ⟨0x4602, 1, 1, 0x0, 1, 1, .u8, .const, 2, .any⟩]  -- Highest sub-index

/-- The objects of Table 15.8 (R388). -/
def objs46Part1 : List Obj :=
  [
⟨0x4602, 1, 1, 0x1, 1, 1, .u64, .rw, 0, .any⟩,  -- ADDRESS
   ⟨0x4602, 1, 1, 0x2, 1, 1, .u8, .rw, 0, (.oneOf [0, 1, 2])⟩,  -- INJECT
   ⟨0x4603, 1, 1, 0x0, 1, 1, .u8, .const, 11, .any⟩,  -- highest
   ⟨0x4603, 1, 1, 0x1, 1, 1, .u32, .wo, 0, .any⟩,  -- REQUEST
   ⟨0x4603, 1, 1, 0x2, 1, 1, .u8, .ro, 0, .any⟩,  -- STATUS
   ⟨0x4603, 1, 1, 0x3, 1, 1, .u32, .ro, 0, .any⟩,  -- SEQUENCE
   ⟨0x4603, 1, 1, 0x4, 1, 1, .u32, .ro, 0, .any⟩,  -- RESULT_CODE
   ⟨0x4603, 1, 1, 0x5, 1, 1, .u8, .ro, 0, .any⟩,  -- REGION
   ⟨0x4603, 1, 1, 0x6, 5, 1, .u8, .ro, 0, .any⟩,  -- STACK, CHANNEL, PSEUDO, BANK, ROW
   ⟨0x4603, 1, 1, 0xB, 1, 1, .u8, .ro, 0, .any⟩,  -- ROW_EVENTS
   ⟨0x4690, 1, 1, 0x0, 1, 1, (.dom 65536), .ro, 0, .any⟩]  -- REPAIR_MAP

/-- Table 11.10 (R296), Table 15.7 (R388), Table 15.8 (R388). -/
def objs46 : List Obj :=
  objs46Part0 ++ objs46Part1

/-- The objects of Table 16.5 (R417), Table 16.6 (R417), Table 16.7 (R417). -/
def objs48 : List Obj :=
  [
⟨0x4800, 1, 1, 0x0, 1, 1, .u8, .const, 18, .any⟩,  -- Highest sub-index
   ⟨0x4800, 1, 1, 0x1, 1, 1, .bool, .rw, 0, .any⟩,  -- RING_ENABLE
   ⟨0x4800, 1, 1, 0x2, 1, 1, .u8, (.rws .ringOff), 0, (.oneOf [0, 1, 2])⟩,  -- ROLE
   ⟨0x4800, 1, 1, 0x3, 1, 1, .u8, .ro, 0, .any⟩,  -- RING_STATE
   ⟨0x4800, 1, 1, 0x4, 1, 1, .u8, .ro, 255, .any⟩,  -- POSITION
   ⟨0x4800, 1, 1, 0x5, 1, 1, .u8, .ro, 0, .any⟩,  -- DEVICES
   ⟨0x4800, 1, 1, 0x6, 1, 1, .u64, .ro, 0, .any⟩,  -- MASTER_SERIAL
   ⟨0x4800, 1, 1, 0x7, 1, 1, .u32, .rw, 0x9C40, (.rng (10000) (100000))⟩,  -- RING_BUDGET
   ⟨0x4800, 1, 1, 0x8, 1, 1, .u32, .ro, 0, .any⟩,  -- RTT
   ⟨0x4800, 1, 1, 0x9, 1, 1, .u64, .ro, 0, .any⟩,  -- FOLD_EAST_END
   ⟨0x4800, 1, 1, 0xA, 1, 1, .u64, .ro, 0, .any⟩,  -- FOLD_WEST_END
   ⟨0x4800, 1, 1, 0xB, 1, 1, .u16, .rw, 10, (.rng (1) (100))⟩,  -- SYNC_INTERVAL
   ⟨0x4800, 1, 1, 0xC, 1, 1, .u32, .rw, 0x3E8, (.rng (200) (1000000))⟩,  -- STROBE_LEAD
   ⟨0x4800, 1, 1, 0xD, 1, 1, .u8, .rw, 8, (.rng (1) (254))⟩,  -- SPINUP_MAX
   ⟨0x4800, 1, 1, 0xE, 1, 1, .u8, .ro, 0, .any⟩,  -- GRANTS_HELD
   ⟨0x4800, 1, 1, 0xF, 1, 1, .bool, .ro, 0, .any⟩,  -- MASTER_CONFLICT
   ⟨0x4800, 1, 1, 0x10, 1, 1, .u32, .ro, 0, .any⟩,  -- REFORMS
   ⟨0x4800, 1, 1, 0x11, 1, 1, .u32, .ro, 0, .any⟩,  -- FOLDS
   ⟨0x4800, 1, 1, 0x12, 1, 1, .u32, .ro, 0, .any⟩,  -- TTL_DROPS
   ⟨0x4801, 1, 1, 0x0, 1, 1, .u8, .const, 16, .any⟩,  -- Highest sub-index
   ⟨0x4801, 1, 1, 0x1, 2, 8, .u8, .ro, 0, .any⟩,  -- LINK_STATE
   ⟨0x4801, 1, 1, 0x2, 2, 8, .u16, .ro, 0, .any⟩,  -- LINK_DELAY
   ⟨0x4801, 1, 1, 0x3, 2, 8, .u64, .ro, 0, .any⟩,  -- PEER_SERIAL
   ⟨0x4801, 1, 1, 0x4, 2, 8, .u32, .ro, 0, .any⟩,  -- CRC_ERRORS
   ⟨0x4801, 1, 1, 0x5, 2, 8, .u32, .ro, 0, .any⟩,  -- REPLAYS
   ⟨0x4801, 1, 1, 0x6, 2, 8, .u32, .ro, 0, .any⟩,  -- FEC_CORRECTED
   ⟨0x4801, 1, 1, 0x7, 2, 8, .u32, .ro, 0, .any⟩,  -- FEC_UNCORRECTED
   ⟨0x4801, 1, 1, 0x8, 2, 8, .u32, .ro, 0, .any⟩,  -- BREAKS
   ⟨0x4802, 1, 1, 0x0, 1, 1, (.dom 4064), .ro, 0, .any⟩,  -- ROSTER
   ⟨0x4803, 1, 1, 0x0, 1, 1, .u8, .const, 4, .any⟩,  -- Highest sub-index
   ⟨0x4803, 1, 1, 0x1, 1, 1, .u8, .rw, 12, (.rng (12) (15))⟩,  -- RS_NUMBER
   ⟨0x4803, 1, 1, 0x2, 1, 1, .u64, .rw, 0, .any⟩,  -- RS_TIME
   ⟨0x4803, 1, 1, 0x3, 1, 1, .u8, .wo, 0, (.oneOf [1])⟩,  -- RS_FIRE
   ⟨0x4803, 1, 1, 0x4, 1, 1, .u32, .ro, 0, .any⟩]  -- RS_MISSED

/-- The objects of Table 16.7 (R417), Table 16.8 (R417). -/
def objs4A : List Obj :=
  [
⟨0x4A00, 1, 1, 0x0, 1, 1, .u8, .const, 7, .any⟩,  -- Highest sub-index
   ⟨0x4A00, 1, 1, 0x1, 1, 1, .u16, .ro, 0, .any⟩,  -- VOLUMES
   ⟨0x4A00, 1, 1, 0x2, 1, 1, .u64, .ro, 0, .any⟩,  -- ENCODED_BYTES
   ⟨0x4A00, 1, 1, 0x3, 1, 1, .u32, .ro, 0, .any⟩,  -- DEGRADED_READS
   ⟨0x4A00, 1, 1, 0x4, 1, 1, .u32, .ro, 0, .any⟩,  -- RECONSTRUCT_FAILED
   ⟨0x4A00, 1, 1, 0x5, 1, 1, .u32, .ro, 0, .any⟩,  -- ROWS_OWED
   ⟨0x4A00, 1, 1, 0x6, 1, 1, .u16, .rw, 0x7D0, (.rng (100) (25000))⟩,  -- REBUILD_RATE
   ⟨0x4A00, 1, 1, 0x7, 1, 1, .u32, .ro, 0, .any⟩,  -- FLUSH_PAD_CLUSTERS
   ⟨0x4A01, 1, 1, 0x0, 1, 1, .u8, .const, 5, .any⟩,  -- highest
   ⟨0x4A01, 1, 1, 0x1, 1, 1, .u32, .wo, 0, .any⟩,  -- REQUEST
   ⟨0x4A01, 1, 1, 0x2, 1, 1, .u8, .ro, 0, .any⟩,  -- STATUS
   ⟨0x4A01, 1, 1, 0x3, 1, 1, .u32, .ro, 0, .any⟩,  -- SEQUENCE
   ⟨0x4A01, 1, 1, 0x4, 1, 1, .u32, .ro, 0, .any⟩,  -- RESULT_CODE
   ⟨0x4A01, 1, 1, 0x5, 1, 1, .u8, .ro, 0, .any⟩,  -- VOLUME
   ⟨0x4A02, 1, 1, 0x0, 1, 1, (.dom 488), .rw, 0, .any⟩,  -- VOLUME_DEF
   ⟨0x4A10, 1, 1, 0x0, 1, 1, (.dom 124928), .ro, 0, .any⟩]  -- VOLUME_TABLE

/-- The objects of Table 17.7 (R437), Table 17.8 (R437). -/
def objs50Part0 : List Obj :=
  [
⟨0x5000, 1, 1, 0x0, 1, 1, .u8, .const, 7, .any⟩,  -- Highest sub-index
   ⟨0x5000, 1, 1, 0x1, 1, 1, .u8, .ro, 3, .any⟩,  -- LC_STATE
   ⟨0x5000, 1, 1, 0x2, 1, 1, .u8, .ro, 0, .any⟩,  -- LC_FLAGS
   ⟨0x5000, 1, 1, 0x3, 1, 1, .u8, .ro, 0, .any⟩,  -- ROLLBACK_COUNTER
   ⟨0x5000, 1, 1, 0x4, 1, 1, .u32, .ro, 1, .any⟩,  -- ATTEST_EPOCH
   ⟨0x5000, 1, 1, 0x5, 1, 1, (.oct 64), .ro, 0, .any⟩,  -- ROOT_KEY_HASH
   ⟨0x5000, 1, 1, 0x6, 1, 1, (.oct 64), .ro, 0, .any⟩,  -- CUSTOMER_KEY_HASH
   ⟨0x5000, 1, 1, 0x7, 1, 1, (.dom 5184), .ro, 0, .any⟩,  -- LOG
   ⟨0x5001, 1, 1, 0x0, 1, 1, .u8, .const, 6, .any⟩,  -- highest
   ⟨0x5001, 1, 1, 0x1, 1, 1, .u32, .wo, 0, .any⟩,  -- REQUEST
   ⟨0x5001, 1, 1, 0x2, 1, 1, .u8, .ro, 0, .any⟩,  -- STATUS
   ⟨0x5001, 1, 1, 0x3, 1, 1, .u32, .ro, 0, .any⟩,  -- SEQUENCE
   ⟨0x5001, 1, 1, 0x4, 1, 1, .u32, .ro, 0, .any⟩,  -- RESULT_CODE
   ⟨0x5001, 1, 1, 0x5, 1, 1, .u8, .ro, 0, .any⟩,  -- FROM
   ⟨0x5001, 1, 1, 0x6, 1, 1, .u8, .ro, 0, .any⟩,  -- TO
   ⟨0x5002, 1, 1, 0x0, 1, 1, .u8, .const, 5, .any⟩,  -- highest
   ⟨0x5002, 1, 1, 0x1, 1, 1, .u32, .wo, 0, .any⟩,  -- REQUEST
   ⟨0x5002, 1, 1, 0x2, 1, 1, .u8, .ro, 0, .any⟩,  -- STATUS
   ⟨0x5002, 1, 1, 0x3, 1, 1, .u32, .ro, 0, .any⟩,  -- SEQUENCE
   ⟨0x5002, 1, 1, 0x4, 1, 1, .u32, .ro, 0, .any⟩,  -- RESULT_CODE
   ⟨0x5002, 1, 1, 0x5, 1, 1, (.oct 64), .rw, 0, .any⟩,  -- CUSTOMER_KEY_HASH_IN
   ⟨0x5010, 1, 1, 0x0, 1, 1, (.oct 24), .rw, 0, .any⟩,  -- ATTEST_NONCE
   ⟨0x5011, 1, 1, 0x0, 1, 1, .u8, .const, 6, .any⟩,  -- highest
   ⟨0x5011, 1, 1, 0x1, 1, 1, .u32, .wo, 0, .any⟩,  -- REQUEST
   ⟨0x5011, 1, 1, 0x2, 1, 1, .u8, .ro, 0, .any⟩,  -- STATUS
   ⟨0x5011, 1, 1, 0x3, 1, 1, .u32, .ro, 0, .any⟩,  -- SEQUENCE
   ⟨0x5011, 1, 1, 0x4, 1, 1, .u32, .ro, 0, .any⟩,  -- RESULT_CODE
   ⟨0x5011, 1, 1, 0x5, 1, 1, .u16, .ro, 0, .any⟩,  -- QUOTE_LENGTH
   ⟨0x5011, 1, 1, 0x6, 1, 1, (.dom 13818), .ro, 0, .any⟩,  -- QUOTE
   ⟨0x5012, 1, 1, 0x0, 1, 1, .u8, .const, 5, .any⟩,  -- Highest sub-index
   ⟨0x5012, 1, 1, 0x1, 1, 1, (.oct 1952), .ro, 0, .any⟩,  -- ID_PUBLIC_KEY
   ⟨0x5012, 1, 1, 0x2, 1, 1, (.dom 16384), .ro, 0, .any⟩,  -- ID_CSR
   ⟨0x5012, 1, 1, 0x3, 1, 1, (.dom 16384), .rw, 0, .any⟩,  -- ID_CERT
   ⟨0x5012, 1, 1, 0x4, 1, 1, (.oct 1952), .ro, 0, .any⟩,  -- ATTEST_PUBLIC_KEY
   ⟨0x5012, 1, 1, 0x5, 1, 1, (.oct 3309), .ro, 0, .any⟩,  -- STATEMENT_SIG
   ⟨0x5020, 1, 1, 0x0, 1, 1, .u8, .const, 8, .any⟩,  -- Highest sub-index
   ⟨0x5020, 1, 1, 0x1, 1, 1, (.oct 32), .ro, 0, .any⟩,  -- CHALLENGE
   ⟨0x5020, 1, 1, 0x2, 1, 1, .u32, .rw, 0x258, (.rng (10) (3600))⟩,  -- DURATION
   ⟨0x5020, 1, 1, 0x3, 1, 1, (.dom 5261), .wo, 0, .any⟩,  -- RESPONSE
   ⟨0x5020, 1, 1, 0x4, 1, 1, .u8, .ro, 0, .any⟩]  -- AUTH_STATE

/-- The objects of Table 17.8 (R437). -/
def objs50Part1 : List Obj :=
  [
⟨0x5020, 1, 1, 0x5, 1, 1, .u32, .ro, 0, .any⟩,  -- REMAINING
   ⟨0x5020, 1, 1, 0x6, 1, 1, .u8, .wo, 0, (.oneOf [1])⟩,  -- CLOSE
   ⟨0x5020, 1, 1, 0x7, 1, 1, .u32, .ro, 0, .any⟩,  -- AUTH_FAILURES
   ⟨0x5020, 1, 1, 0x8, 1, 1, .u32, .ro, 0, .any⟩,  -- AUTH_RESULT
   ⟨0x5030, 1, 1, 0x0, 1, 1, (.dom 25165824), .wo, 0, .any⟩,  -- RECOVERY_IMAGE
   ⟨0x5031, 1, 1, 0x0, 1, 1, .u8, .const, 4, .any⟩,  -- highest
   ⟨0x5031, 1, 1, 0x1, 1, 1, .u32, .wo, 0, .any⟩,  -- REQUEST
   ⟨0x5031, 1, 1, 0x2, 1, 1, .u8, .ro, 0, .any⟩,  -- STATUS
   ⟨0x5031, 1, 1, 0x3, 1, 1, .u32, .ro, 0, .any⟩,  -- SEQUENCE
   ⟨0x5031, 1, 1, 0x4, 1, 1, .u32, .ro, 0, .any⟩,  -- RESULT_CODE
   ⟨0x5040, 1, 1, 0x0, 1, 1, .u8, .const, 3, .any⟩,  -- Highest sub-index
   ⟨0x5040, 1, 1, 0x1, 1, 1, (.oct 32), .ro, 0, .any⟩,  -- DEBUG_CHALLENGE
   ⟨0x5040, 1, 1, 0x2, 1, 1, (.dom 5261), .wo, 0, .any⟩,  -- DEBUG_RESPONSE
   ⟨0x5040, 1, 1, 0x3, 1, 1, .u8, .ro, 0, .any⟩]  -- DEBUG_STATE

/-- Table 17.7 (R437), Table 17.8 (R437). -/
def objs50 : List Obj :=
  objs50Part0 ++ objs50Part1

/-- The objects of Table 9.9 (R244). -/
def objs54 : List Obj :=
  [
⟨0x5400, 1, 1, 0x0, 1, 1, .u8, .const, 8, .any⟩,  -- Highest sub-index
   ⟨0x5400, 1, 1, 0x1, 1, 1, .u32, .ro, 0, .any⟩,  -- VENDOR_VERSION
   ⟨0x5400, 1, 1, 0x2, 1, 1, (.oct 64), .ro, 0, .any⟩,  -- STORE_DIGEST
   ⟨0x5400, 1, 1, 0x3, 1, 1, .bool, .ro, 0, .any⟩,  -- CUSTOMER_KEY_FUSED
   ⟨0x5400, 1, 1, 0x4, 1, 1, .u32, .ro, 0, .any⟩,  -- CUSTOMER_VERSION
   ⟨0x5400, 1, 1, 0x5, 1, 1, .u16, .ro, 0, .any⟩,  -- CUSTOMER_WORDS
   ⟨0x5400, 1, 1, 0x6, 1, 1, .u32, .ro, 0, .any⟩,  -- CUSTOMER_VERSION_MIN
   ⟨0x5400, 1, 1, 0x7, 1, 1, .u16, .const, 1, .any⟩,  -- CUSTOMER_ABI_SUPPORTED
   ⟨0x5400, 1, 1, 0x8, 1, 1, .u32, .rw, 0x2710, (.rng (1) (600000))⟩,  -- ORDER_TIMEOUT
   ⟨0x5401, 1, 1, 0x0, 1, 1, .u8, .const, 6, .any⟩,  -- highest
   ⟨0x5401, 1, 1, 0x1, 1, 1, .u32, .wo, 0, .any⟩,  -- REQUEST
   ⟨0x5401, 1, 1, 0x2, 1, 1, .u8, .ro, 0, .any⟩,  -- STATUS
   ⟨0x5401, 1, 1, 0x3, 1, 1, .u32, .ro, 0, .any⟩,  -- SEQUENCE
   ⟨0x5401, 1, 1, 0x4, 1, 1, .u32, .ro, 0, .any⟩,  -- RESULT_CODE
   ⟨0x5401, 1, 1, 0x5, 1, 1, .u32, .ro, 0, .any⟩,  -- VERSION
   ⟨0x5401, 1, 1, 0x6, 1, 1, .u16, .ro, 0, .any⟩,  -- WORDS
   ⟨0x5402, 1, 1, 0x0, 1, 1, (.dom 13517), .wo, 0, .any⟩,  -- CUSTOMER_IMAGE
   ⟨0x5410, 8, 1, 0x0, 1, 1, .u8, .const, 20, .any⟩,  -- Highest sub-index
   ⟨0x5410, 8, 1, 0x1, 3, 1, .u8, .ro, 0, .any⟩,  -- SEQ_STATE
   ⟨0x5410, 8, 1, 0x4, 3, 1, .u16, .ro, 0, .any⟩,  -- MPC
   ⟨0x5410, 8, 1, 0x7, 3, 1, .u32, .ro, 0, .any⟩,  -- TRAPS_TAKEN
   ⟨0x5410, 8, 1, 0xA, 3, 1, .u32, .ro, 0, .any⟩,  -- TRAPS_MERGED
   ⟨0x5410, 8, 1, 0xD, 3, 1, .u32, .ro, 0, .any⟩,  -- TRAP_REFUSALS
   ⟨0x5410, 8, 1, 0x10, 1, 1, .u32, .ro, 0, .any⟩,  -- STORE_CORRECTED
   ⟨0x5410, 8, 1, 0x11, 1, 1, .u32, .ro, 0, .any⟩,  -- STORE_UNCORRECTABLE
   ⟨0x5410, 8, 1, 0x12, 1, 1, .u32, .ro, 0, .any⟩,  -- LAST_FAULT
   ⟨0x5410, 8, 1, 0x13, 1, 1, .u16, .ro, 0, .any⟩,  -- LAST_FAULT_MPC
   ⟨0x5410, 8, 1, 0x14, 1, 1, .u8, .ro, 0, .any⟩]  -- LAST_FAULT_SEQ

/-- The objects of Table 20.9 (R489). -/
def objs58 : List Obj :=
  [
⟨0x5800, 1, 1, 0x0, 1, 1, .u8, .const, 2, .any⟩,  -- Highest sub-index
   ⟨0x5800, 1, 1, 0x1, 1, 1, .u8, .ro, 0, .any⟩,  -- OVERRIDES_IN_USE
   ⟨0x5800, 1, 1, 0x2, 1, 1, .u32, .ro, 0, .any⟩,  -- EMCY_ADDED
   ⟨0x5801, 1, 1, 0x0, 1, 1, .u8, .const, 64, .any⟩,  -- Highest sub-index
   ⟨0x5801, 1, 1, 0x1, 64, 1, .u32, .rw, 0, (.mask 0xFFFF0007)⟩]  -- OVERRIDE

/-- The table that holds an index, after `normIndex` (Table 2.1, R7). -/
def objTable (i : Nat) : List Obj :=
  if i < 0x2000 then objs10
  else if i < 0x2100 then objs20
  else if i < 0x2200 then objs21
  else if i < 0x2300 then objs22
  else if i < 0x2400 then objs23
  else if i < 0x2500 then objs24
  else if i < 0x2600 then objs25
  else if i < 0x3000 then objs26
  else if i < 0x3010 then objs30
  else if i < 0x3020 then objs31
  else if i < 0x3030 then objs32
  else if i < 0x3040 then objs33
  else if i < 0x3050 then objs34
  else if i < 0x3060 then objs35
  else if i < 0x3070 then objs36
  else if i < 0x3080 then objs37
  else if i < 0x30D0 then objs3C
  else if i < 0x30E0 then objs3D
  else if i < 0x3100 then objs3E
  else if i < 0x4100 then objs40
  else if i < 0x4200 then objs41
  else if i < 0x4400 then objs42
  else if i < 0x4600 then objs44
  else if i < 0x4800 then objs46
  else if i < 0x4A00 then objs48
  else if i < 0x5000 then objs4A
  else if i < 0x5400 then objs50
  else if i < 0x5800 then objs54
  else objs58

/-- The stations' blocks share one layout (R7), and the head L parts of a block repeat the head U parts: an index of
0x3000 to 0x37FF is looked up under station 0 and head U. -/
def normIndex (i : Nat) : Nat :=
  if 0x3000 ≤ i ∧ i < 0x3800 then
    let o := i % 0x100
    0x3000 + (if 0x80 ≤ o ∧ o < 0xC0 then o - 0x40 else o)
  else i

/-- Whether a repeated field that starts at `base` and has `n` places `st` apart holds `x`. -/
def repeatHas (base n st x : Nat) : Bool :=
  base ≤ x && (x - base) % st == 0 && (x - base) / st < n

/-- Whether an object line covers (index, sub). -/
def Obj.covers (o : Obj) (i sub : Nat) : Bool :=
  repeatHas o.idx o.nIdx o.stIdx i && repeatHas o.sub o.nSub o.stSub sub

/-- The line of (index, sub), if the manual defines one (R30). -/
def findObj (idx sub : Nat) : Option Obj :=
  let i := normIndex idx
  (objTable i).find? fun o => o.covers i sub

/-- Whether any line has this index (R30). -/
def indexDefined (idx : Nat) : Bool :=
  let i := normIndex idx
  (objTable i).any fun o => repeatHas o.idx o.nIdx o.stIdx i

end Sys2Proof.Machine
end

