-- ==== Sys2Proof/Machine/Ops.lean ====
section
/-! DEFINITION. The named operations every meaning is built from: the registers of the dictionary, their byte
strings, the outputs, and the modification of one station, head, beam or sequencer. -/

namespace Sys2Proof.Machine

/-! ### Sparse tables in canonical form -/

/-- An association list without the key `k`. -/
def eraseKey {α : Type} (k : Nat) : List (Nat × α) → List (Nat × α)
  | [] => []
  | (a, v) :: r => if a = k then eraseKey k r else (a, v) :: eraseKey k r

/-- A sorted association list with `k` at `v`. -/
def insertKey {α : Type} (k : Nat) (v : α) : List (Nat × α) → List (Nat × α)
  | [] => [(k, v)]
  | (a, w) :: r =>
    if k < a then (k, v) :: (a, w) :: r
    else if a = k then (k, v) :: r
    else (a, w) :: insertKey k v r

/-- The value at `k`, if the list has one. -/
def findKey {α : Type} (k : Nat) : List (Nat × α) → Option α
  | [] => none
  | (a, v) :: r => if a = k then some v else findKey k r

/-- Write `v` at `k` in a list that lists no entry equal to what an unlisted key reads as (`d`). -/
def putKey {α : Type} [DecidableEq α] (k : Nat) (v d : α) (l : List (Nat × α)) : List (Nat × α) :=
  if v = d then eraseKey k l else insertKey k v l

/-! ### The registers of the dictionary -/

/-- The address of a register: index and sub-index. -/
def key (idx sub : Nat) : Nat := idx * 256 + sub

/-- Whether a switched domain is fused off or unbonded (R66): an absent station's six, and on D parts quad B, the
erasure-coding engines and the ring engines. -/
def domainAbsent (p : Part) (d : Nat) : Bool :=
  if d < 48 then p.stations ≤ d / 6 else !p.q && [73, 86, 87, 92, 93].contains d

/-- What the fuses make of a constant or of a default (R64, Tables 2.11, 2.12, 3.1, 11.2, 14.1). -/
def partDefault (p : Part) (k : Nat) : Option Nat :=
  let beams := if p.wide then 8 else 4
  let sets := if p.stations = 8 then 16384 else 8192
  if k = key 0x2000 0x02 then some p.stations
  else if k = key 0x2000 0x03 then some beams
  else if k = key 0x2000 0x04 then some (if p.q then 1 else 0)
  else if k = key 0x2000 0x05 then some (if p.stations = 8 then 0 else 1)
  else if k = key 0x2000 0x06 then some (if p.stations = 8 then 32 else 16)
  else if k = key 0x2000 0x08 then
    some ((2 ^ (2 * p.stations) - 1) * 2 ^ 32 + 0x00B0_0000
      + (if p.stations = 8 then 0 else 0x1000) + (if p.q then 0x0E00 else 0)
      + (if p.wide then 0x0100 else 0) + (2 ^ p.stations - 1))
  else if k = key 0x2000 0x09 then some (if p.q then 400 else 200)
  else if k = key 0x2000 0x0A then some p.serial
  else if k = key 0x1018 0x02 then
    some (0x5307_0000 + p.stations * 0x100 + beams * 0x10 + (if p.q then 1 else 0))
  else if k = key 0x1018 0x03 then some (0x00B0_0000 + Config.releaseNumber % 0x1_0000)
  else if k = key 0x1018 0x04 then some (p.serial % 2 ^ 32)
  else if k = key 0x4400 0x01 then some sets
  else if k = key 0x4400 0x03 then some (sets * 16)
  else if k = key 0x4400 0x05 then some (sets * 16 / 2)
  else if k = key 0x4400 0x06 then some (sets * 16 / 8)
  else if k / 256 = 0x4100 ∧ 3 ≤ k % 256 ∧ k % 256 ≤ 6 then some ((Config.macAddress p.serial (k % 256 - 3)).toNat)
  else if k / 256 = 0x2102 ∧ k % 256 ≠ 0 then some (if domainAbsent p (k % 256 - 1) then 0 else 1)
  else none

/-- What a register reads before anything has written it: the default of its table line (R10). -/
def regDefault (p : Part) (k : Nat) : Nat :=
  match partDefault p k with
  | some v => v
  | none =>
    match findObj (k / 256) (k % 256) with
    | some o => o.dflt
    | none => 0

/-- The value a register holds. -/
def State.reg (s : State) (k : Nat) : Nat := (findKey k s.regs).getD (regDefault s.part k)

/-- Write a register. -/
def State.setReg (s : State) (k v : Nat) : State :=
  { s with regs := putKey k v (regDefault s.part k) s.regs }

/-- Write several registers, first to last. -/
def State.setRegs (s : State) : List (Nat × Nat) → State
  | [] => s
  | (k, v) :: r => (s.setReg k v).setRegs r

/-- Add to a counter of `w` bits that saturates (R155, R268 and each chapter's "counters saturate"). -/
def State.addReg (s : State) (w k n : Nat) : State :=
  s.setReg k (min (s.reg k + n) (2 ^ w - 1))

/-- Count one in a saturating 32-bit counter. -/
def State.bump (s : State) (k : Nat) : State := s.addReg 32 k 1

/-- The signed reading of a register of `w` bits. -/
def State.regI (s : State) (w k : Nat) : Int := toSigned w (s.reg k)

/-- Write a signed value to a register of `w` bits. -/
def State.setRegI (s : State) (w k : Nat) (v : Int) : State := s.setReg k (ofSigned w v)

/-- Set or clear one bit of a register. -/
def State.setRegBit (s : State) (k i : Nat) (b : Bool) : State := s.setReg k (putBit (s.reg k) i b)

/-! ### Byte strings and DOMAINs -/

/-- What a string or DOMAIN reads before anything has written it: zeros of its fixed length, or the defaults of
Table 11.7 (an equaliser's centre tap at 16,384; the target gains 8,192, 8,192, 8,192, 4,096). -/
def rawDefault (k : Nat) : List Byte :=
  let i := normIndex (k / 256)
  if i = 0x3064 then (List.range 8).flatMap fun _ => (List.range 15).flatMap fun j => leBytes 2 (if j = 7 then 16384 else 0)
  else if i = 0x3066 then
    (List.range 2048).flatMap fun _ => leBytes 2 8192 ++ leBytes 2 8192 ++ leBytes 2 8192 ++ leBytes 2 4096
  else
    match findObj i (k % 256) with
    | some o =>
      match o.ty with
      | .oct n => List.replicate n 0
      | .dom n => if o.dflt = 0 ∧ n ≤ 8192 ∧ ¬ (k = key 0x5012 0x03 ∨ k = key 0x5012 0x02 ∨ (k % 256 = 0x0B ∧ k < 0x400000)) then List.replicate n 0 else []
      | _ => []
    | none => []

/-- The bytes an object holds. -/
def State.raw (s : State) (k : Nat) : List Byte := (findKey k s.raws).getD (rawDefault k)

/-- Write the bytes of an object. -/
def State.setRaw (s : State) (k : Nat) (b : List Byte) : State :=
  { s with raws := putKey k b (rawDefault k) s.raws }

/-! ### Outputs -/

/-- Give an output. -/
def State.emit (s : State) (o : Out) : State := { s with out := s.out ++ [o] }

/-- The next free value's number: it is used once and stepped over. -/
def State.fresh (s : State) : Nat × State := (s.free, { s with free := s.free + 1 })

/-- The outcome of a meaning that goes on. -/
abbrev Res := Host.Outcome State Fault Refusal

end Sys2Proof.Machine
end

