-- ==== Sys2Proof/Machine/Ledger.lean ====
section
/-! DEFINITION. The Ledger (chapter 18), the EMCY frames, the error register and the error history (R50, R508), and
the one operation by which every other meaning reports an event (R23, R438 to R449, R486). -/

namespace Sys2Proof.Machine

/-! ### Records -/

/-- Bytes a record takes (R438). -/
def Rec.size (r : Rec) : Nat := 16 + r.payload.length

/-- The record's bytes (Table 18.1). -/
def Rec.bytes (r : Rec) : List Byte :=
  leBytes 1 r.payload.length ++ leBytes 2 r.code ++ leBytes 1 r.source ++ leBytes 1 r.severity ++ leBytes 1 r.flags
    ++ leBytes 2 r.suppressed ++ leBytes 8 r.time ++ r.payload

/-- Bytes a frame takes in the NOR: SEQ, record, CRC-32, padded to a multiple of 4 (R448). -/
def Rec.frameSize (r : Rec) : Nat := (8 + r.size + 4 + 3) / 4 * 4

/-- Severity of an event code (Tables 18.3, 19.15 and 20.10); any other code reads as INFO. -/
def severityOf (c : Nat) : Nat :=
  if c ∈ [0x0103, 0x0106, 0x0107, 0x0905, 0x0B03] then 4
  else if c ∈ [0x0101, 0x0102, 0x0302, 0x0304, 0x0405, 0x0504, 0x0506, 0x0601, 0x0701, 0x0702, 0x0703, 0x0704, 0x0903,
    0x0904, 0x0B02, 0x0C04, 0x0D02, 0x0D03, 0x0D04, 0x0E01] then 3
  else if c ∈ [0x0104, 0x0105, 0x0201, 0x0202, 0x0203, 0x0303, 0x0401, 0x0402, 0x0403, 0x0404, 0x0501, 0x0503, 0x0505,
    0x0507, 0x0602, 0x0901, 0x0902, 0x0A02, 0x0C01, 0x0D01, 0x0E02] then 2
  else if c ∈ [0x0204, 0x0508, 0x0801, 0x0802, 0x0A01, 0x0A03, 0x0B01, 0x0C02, 0x0C03, 0x0D05, 0x0D06, 0x0E03, 0x0E05]
    then 1
  else 0

/-- Whether an event code is defined in the manual (R441, R486). -/
def codeDefined (c : Nat) : Bool :=
  severityOf c != 0 || [0x0108, 0x0301, 0x0502, 0x0E04].contains c

/-- Calendar time in µs (R404); below zero it reads 0. -/
def State.calendar (s : State) : Nat := ((s.now : Int) + s.power.calOffset).toNat

/-- Whether TIME_VALID (object 0x2300:02) is set. -/
def State.timeValid (s : State) : Bool := s.reg (key 0x2300 2) == 1

/-- Bytes of records that are not in NOR yet (R444). -/
def Ledger.unflushed (l : Ledger) : Nat := ((l.sram.filter fun r => l.flushed < r.seq).map Rec.size).sum

/-- Bytes waiting in the side buffer (R449). -/
def Ledger.sideUsed (l : Ledger) : Nat := (l.side.map Rec.size).sum

/-- Every record that can be read: at or above the clear floor, in SRAM or in a NOR frame whose CRC passes. -/
def Ledger.readable (l : Ledger) : List Rec :=
  (l.sram ++ (l.nor.flatMap fun x => (x.frames.filter (·.crcOk)).map (·.recd))).filter fun r => l.floor ≤ r.seq

/-- The readable record of lowest SEQ at or above `c` (R450). -/
def Ledger.atOrAbove (l : Ledger) (c : Nat) : Option Rec :=
  (l.readable.filter fun r => c ≤ r.seq).foldl
    (fun m r => match m with | none => some r | some x => if r.seq < x.seq then some r else some x) none

/-- The highest SEQ of a NOR frame whose CRC passes; 0 with none (R439). -/
def Ledger.norTop (l : Ledger) : Nat :=
  ((l.nor.flatMap fun x => (x.frames.filter (·.crcOk)).map (·.recd.seq)).foldl max 0)

/-- The objects that show the Ledger's extent: NEWEST_SEQ, OLDEST_SEQ, UNFLUSHED, SIDE_USED (Table 18.4). -/
def State.ledgerView (s : State) : State :=
  s.setRegs [(key 0x2200 1, s.ledger.nextSeq - 1),
    (key 0x2200 2, match s.ledger.atOrAbove 0 with | some r => r.seq | none => 0),
    (key 0x2200 3, s.ledger.unflushed), (key 0x2200 0x0A, s.ledger.sideUsed)]

/-! ### EMCY -/

/-- The category bit of the error register of an EMCY code (R508). Its table does not list 0x8210 (DESIGN CHOICE: bit 7,
device-specific; log entry 106). -/
def emcyCategory (c : Nat) : Nat :=
  if 0x3000 ≤ c ∧ c ≤ 0x3FFF then 2
  else if 0x4000 ≤ c ∧ c ≤ 0x4FFF then 3
  else if 0x8100 ≤ c ∧ c ≤ 0x81FF then 4
  else 7

/-- The error register that a set of standing conditions makes (R508). -/
def errRegOf (l : List Standing) : Nat :=
  l.foldl (fun a c => a ||| 2 ^ emcyCategory c.code ||| 1) 0

/-- The buses that carry heartbeat, EMCY, SDO and USDO in a CAN mode (R46). -/
def serviceBuses (mode : Nat) : List Nat := if mode = 0 then [0, 1] else if mode = 3 then [1] else [0]

/-- The buses that carry PDOs in a CAN mode (R46). -/
def pdoBuses (mode : Nat) : List Nat := if mode = 0 then [0, 1] else if mode = 1 then [1] else if mode = 3 then [1] else [0]

/-- Whether a controller transmits now (R47). -/
def State.busUp (s : State) (b : Nat) : Bool :=
  match s.can.buses[b]? with
  | some .active => true
  | some .passive => true
  | _ => false

/-- Send one output per bus of a list that is up. -/
def State.emitOn (s : State) (bs : List Nat) (f : Nat → Out) : State :=
  { s with out := s.out ++ (bs.filter s.busUp).map f }

/-- Transmit an EMCY frame, or hold it before boot-up and while the inhibit time runs; a stopped node or COB-ID bit 31
sends nothing (R44, R508). -/
def State.sendEmcy (s : State) (f : Emcy) : State :=
  let cob := s.reg (key 0x1014 0)
  if !s.can.booted then { s with can := { s.can with held := s.can.held ++ [f] } }
  else if bitOf cob 31 then s
  else if s.can.nmt = .preOperational ∨ s.can.nmt = .operational then
    if s.can.emcyInhibit then { s with can := { s.can with held := s.can.held ++ [f] } }
    else
      let s := s.emitOn (serviceBuses s.can.mode) fun b => .emcy b cob f
      if s.reg (key 0x1015 0) = 0 then s else { s with can := { s.can with emcyInhibit := true } }
  else s

/-- Enter an EMCY in the error history (object 0x1003): newest first, 16 entries. -/
def State.enterHistory (s : State) (code event : Nat) : State :=
  let old := (List.range 15).map fun i => s.reg (key 0x1003 (i + 1))
  let s := (List.range 15).foldl (fun s i => s.setReg (key 0x1003 (i + 2)) (old.getD i 0)) s
  (s.setReg (key 0x1003 1) (code + event * 65536)).setReg (key 0x1003 0) (min 16 (s.reg (key 0x1003 0) + 1))

/-- Byte 4 of an EMCY frame: station and head side of the source, or 0x0F for none (Table 2.5, Table 18.2). -/
def placeOf (source : Nat) : Nat :=
  if 0x40 ≤ source then (source - 0x40) / 2 + (source - 0x40) % 2 * 16
  else if 0x30 ≤ source then source - 0x30
  else if 0x20 ≤ source then source - 0x20
  else 0x0F

/-- Raise an EMCY (R50, R440, R508): the history, the standing conditions and 0x1001, and the frame. Code 0 is an
error reset, which ends every standing condition of the same byte 3 and byte 4. -/
def State.raiseEmcy (s : State) (code source event detail : Nat) (standing : Bool) : State :=
  let place := placeOf source
  if code = 0 then
    let rest := s.can.standing.filter fun c => !(c.source == source && c.place == place)
    let s := ({ s with can := { s.can with standing := rest } }).setReg (key 0x1001 0) (errRegOf rest)
    s.sendEmcy ⟨0, errRegOf rest, source, place, event, detail⟩
  else
    let s := s.enterHistory code event
    if standing then
      let st := if s.can.standing.contains ⟨code, source, place⟩ then s.can.standing
        else s.can.standing ++ [⟨code, source, place⟩]
      let s := ({ s with can := { s.can with standing := st } }).setReg (key 0x1001 0) (errRegOf st)
      s.sendEmcy ⟨code, errRegOf st, source, place, event, detail⟩
    else
      s.sendEmcy ⟨code, s.reg (key 0x1001 0) ||| 2 ^ emcyCategory code ||| 1, source, place, event, detail⟩

/-- What an EMCY that a rule states looks like: its code, and whether the rule also states its error reset. -/
structure EmcyUse where
  code : Nat
  standing : Bool
  deriving DecidableEq, Repr

/-- Entries of object 0x5801 in use. -/
def State.overrides (s : State) : List (Nat × Nat) :=
  ((List.range 64).map fun j => (j + 1, s.reg (key 0x5801 (j + 1)))).filter fun p => bitOf p.2 2

/-- The override in use for a code (object 0x5801, R486): RECORD and EMCY. -/
def State.override (s : State) (code : Nat) : Option (Bool × Bool) :=
  ((List.range 64).map fun i => s.reg (key 0x5801 (i + 1))).findSome? fun v =>
    if bitOf v 2 && v / 65536 == code then some (bitOf v 0, bitOf v 1) else none

/-- The EMCY of an event (R23, R440, R486): the one its chapter states, unless an override in 0x5801 changes it. The state after
it, whether one was raised, and whether the record is wanted. -/
def State.announce (s : State) (code source : Nat) (payload : List Byte) (em : Option EmcyUse) : State × Bool × Bool :=
  let ov := s.override code
  let detail := match payload with | [] => 0 | b :: _ => b.toNat
  let send : Option EmcyUse :=
    match ov with
    | none => em
    | some (_, true) => match em with | some e => some e | none => some ⟨0xFF00, false⟩
    | some (_, false) => none
  let s := if ov = some (true, true) ∨ ov = some (false, true) then
      (match em with | none => s.bump (key 0x5800 2) | some _ => s) else s
  let s := match send with
    | none => s
    | some e => s.raiseEmcy e.code source code detail e.standing
  (s, send.isSome, match ov with | some (r, _) => r | none => true)

/-! ### Storing -/

/-- Drop the oldest SRAM records until 256 KiB hold the rest; the discarded unflushed ones open or lengthen an episode
(R444, R445). -/
def Ledger.trim (l : Ledger) : Nat → Ledger
  | 0 => l
  | n + 1 =>
    if (l.sram.map Rec.size).sum ≤ 262144 then l
    else
      match l.sram with
      | [] => l
      | r :: rest =>
        let ep := if r.seq ≤ l.flushed then l.episode
          else match l.episode with
            | none => some (r.seq, 1)
            | some (f, c) => some (f, c + 1)
        ({ l with sram := rest, episode := ep }).trim n

/-- Start a flush of every record not yet in NOR; one that runs already takes it in (R444). -/
def State.startFlush (s : State) : State :=
  match s.ledger.flushTo with
  | some _ => s
  | none =>
    if s.ledger.flushed + 1 < s.ledger.nextSeq then
      { s with ledger := { s.ledger with flushTo := some (s.ledger.nextSeq - 1) } }
    else s

/-- Give a record its SEQ and store it in the SRAM (R439, R444). -/
def State.storeRaw (s : State) (r : Rec) : State :=
  let l := s.ledger
  let l := { l with sram := l.sram ++ [{ r with seq := l.nextSeq }], nextSeq := l.nextSeq + 1 }
  { s with ledger := l.trim l.sram.length }

/-- A record of `code`, stamped now (R438, R439). -/
def State.mkRec (s : State) (code source flags : Nat) (payload : List Byte) : Rec :=
  { seq := 0, code := code, source := source, severity := severityOf code
    flags := flags ||| (if s.timeValid then 0 else 1), suppressed := 0
    time := if s.timeValid then s.calendar else s.now, payload := payload.take 240 }

/-- A gap record (R446) with LOST_TOTAL, which sums the exact counts; an override acts on it as on any event (R486). -/
def State.storeGap (s : State) (reason count first : Nat) : State :=
  let pay := leBytes 1 reason ++ leBytes 4 count ++ leBytes 8 first
  match s.announce 0x0C01 0 pay none with
  | (s, sent, recorded) =>
    let s := if recorded then s.storeRaw (s.mkRec 0x0C01 0 (if sent then 4 else 0) pay) else s
    if count = 0xFFFF_FFFF then s else s.addReg 32 (key 0x2200 0x12) count

/-- Store a record in the readable store; the first record stored without a discard ends an episode with its gap
record, and an ERROR, a CRITICAL or enough unflushed bytes start a flush (R444, R445). -/
def State.store (s : State) (r : Rec) : State :=
  let before := s.ledger.episode
  let s := s.storeRaw r
  let s :=
    match before, s.ledger.episode with
    | some (f, c), some (_, c') =>
      if c' = c then
        ({ s with ledger := { s.ledger with episode := none } }).storeGap 1 c f
      else s
    | _, _ => s
  let s := if 3 ≤ r.severity ∨ s.reg (key 0x2200 4) ≤ s.ledger.unflushed then s.startFlush else s
  s.ledgerView

/-! ### Rate limit -/

/-- The bucket of a code, brought up to date (R442): RATE_REFILL is in 0.001 token per second, which is 10^-9 token
per µs. -/
def State.bucket (s : State) (code : Nat) : Bucket :=
  let cap := s.reg (key 0x2200 7) * 1000000000
  match s.ledger.buckets.find? (fun b => b.code == code) with
  | none => ⟨code, cap, s.now, 0⟩
  | some b => ⟨code, min cap (b.nano + s.reg (key 0x2200 8) * (s.now - b.at_)), s.now, b.suppressed⟩

/-- Put a bucket back. -/
def State.setBucket (s : State) (b : Bucket) : State :=
  { s with ledger := { s.ledger with
      buckets := s.ledger.buckets.filter (fun x => x.code != b.code) ++ [b] } }

/-- Whether a record takes a token at all (R443). -/
def Rec.limited (r : Rec) : Bool := r.severity < 3 && r.code != 0x0C01 && r.source != 0x08

/-- Take the token of a record, or count it suppressed (R442, R443): the record to go on with, if any. -/
def State.rateLimit (s : State) (r : Rec) : Option Rec × State :=
  let b := s.bucket r.code
  if r.limited then
    if b.nano < 1000000000 then
      (none, (s.setBucket { b with suppressed := b.suppressed + 1 }).bump (key 0x2200 0x0C))
    else
      (some { r with suppressed := min b.suppressed 65535 },
        s.setBucket { b with nano := b.nano - 1000000000, suppressed := 0 })
  else
    (some { r with suppressed := min b.suppressed 65535 }, s.setBucket { b with suppressed := 0 })

/-- Store a record, or put it into the side buffer while FREEZE is set (R449). -/
def State.place (s : State) (r : Rec) : State :=
  if s.reg (key 0x2200 9) = 1 then
    if s.ledger.sideUsed + r.size ≤ 16384 then
      ({ s with ledger := { s.ledger with side := s.ledger.side ++ [{ r with flags := r.flags ||| 2 }] } }).ledgerView
    else
      ({ s with ledger := { s.ledger with sideLost := s.ledger.sideLost + 1 } }).bump (key 0x2200 0x0B)
  else s.store r

/-! ### Events -/

/-- Report an event (R23, R438, R486): the EMCY its chapter states, unless an override changes it, and its record,
unless an override stops it, through the rate limit and the freeze. -/
def State.post (s : State) (code source : Nat) (payload : List Byte) (em : Option EmcyUse) : State :=
  match s.announce code source payload em with
  | (s, sent, recorded) =>
    if recorded then
      match s.rateLimit (s.mkRec code source (if sent then 4 else 0) payload) with
      | (none, s) => s
      | (some r, s) => s.place r
    else s

/-- Report an event with no EMCY. -/
def State.note (s : State) (code source : Nat) (payload : List Byte) : State := s.post code source payload none

/-! ### Flushing to NOR -/

/-- Mark a sector bad and post record 0x0C04 (R448). -/
def State.sectorFailed (s : State) (n : Nat) : State :=
  let l := s.ledger
  let s := { s with ledger := { l with nor := l.nor.modify n (fun x => { x with bad := true, frames := [] }) } }
  (s.addReg 16 (key 0x2200 0x0F) 1).note 0x0C04 0 (leBytes 2 n)

/-- The next good sector after `n` (R448): bad ones are skipped. -/
def Ledger.nextGood (l : Ledger) (n : Nat) : Nat → Nat
  | 0 => n
  | k + 1 =>
    let m := (n + 1) % 256
    match l.nor[m]? with
    | some x => if x.bad then l.nextGood m k else m
    | none => m

/-- Program one record at the write point (R448): a frame that does not fit begins the next good sector, and entering
a sector erases the one after it. -/
def Ledger.program (l : Ledger) (r : Rec) : Ledger :=
  let used := match l.nor[l.norSector]? with
    | some x => 16 + (x.frames.map fun f => f.recd.frameSize).sum
    | none => 16
  if used + r.frameSize ≤ 65536 then
    { l with nor := l.nor.modify l.norSector fun x => { x with frames := x.frames ++ [⟨r, true⟩] } }
  else
    let n := l.nextGood l.norSector 256
    let nor := (l.nor.modify n fun x => { x with frames := [⟨r, true⟩] }).modify ((n + 1) % 256) fun x => { x with frames := [] }
    { l with nor := nor, norSector := n }

/-- The end of a running flush (R444): its records are in NOR, FLUSHES counts it. -/
def State.flushDone (s : State) : State :=
  match s.ledger.flushTo with
  | none => s
  | some top =>
    let l := s.ledger
    let l := (l.sram.filter fun r => l.flushed < r.seq && r.seq ≤ top).foldl Ledger.program l
    let s := { s with ledger := { l with flushed := max l.flushed top, flushTo := none, lastFlush := s.now } }
    (s.bump (key 0x2200 0x11)).ledgerView

/-- The newest records, from the newest on, that fit into `room` bytes (R447). -/
def newestWithin : Nat → List Rec → List Rec
  | _, [] => []
  | room, r :: rest => if r.size ≤ room then r :: newestWithin (room - r.size) rest else []

/-- The Ledger's steps on PFW_N and on every event that acts as it (R447): FREEZE clears, an open episode's gap record
and the power-fail record are stored, the side buffer is appended, and the power-fail record and the newest others, 16 KiB in all,
go to NOR with PFW_FLUSH. -/
def State.ledgerPowerFail (s : State) : State :=
  let s := match s.ledger.episode with
    | some (f, c) => ({ s with ledger := { s.ledger with episode := none } }).storeGap 1 c f
    | none => s
  let l := s.ledger
  let side := l.side
  let unfl := (l.sram.filter fun r => l.flushed < r.seq)
  let lost := unfl.length + side.length - (newestWithin (16384 - 20) (unfl ++ side).reverse).length
  let first := l.flushed + 1
  let s := (s.setReg (key 0x2200 9) 0)
  let a := s.announce 0x0106 0 (leBytes 4 lost) none
  let recorded := a.2.2
  let s := if recorded then a.1.storeRaw (a.1.mkRec 0x0106 0 (if a.2.1 then 12 else 8) (leBytes 4 lost)) else a.1
  let own := s.ledger.nextSeq - 1
  let s := side.foldl State.storeRaw { s with ledger := { s.ledger with side := [] } }
  let l := s.ledger
  let open_ := l.sram.filter fun r => l.flushed < r.seq
  let tail := open_.drop lost
  let tail := if lost ≤ unfl.length ∨ !recorded then tail else open_.filter (·.seq == own) ++ open_.drop (lost + 1)
  let l := (tail.map fun r => { r with flags := r.flags ||| 8 }).foldl Ledger.program l
  ({ s with ledger := { l with flushed := l.nextSeq - 1, flushTo := none, pfw := if recorded then some (lost, first) else l.pfw } }).ledgerView

/-- Release of FREEZE (R449): record 0x0C03, a gap record of reason 3 if any record overflowed, then the side buffer in
order. -/
def State.freezeRelease (s : State) : State :=
  let side := s.ledger.side
  let lost := s.ledger.sideLost
  let s := { s with ledger := { s.ledger with side := [], sideLost := 0 } }
  let s := (s.setReg (key 0x2200 9) 0).note 0x0C03 0 (leBytes 1 0)
  let s := if lost = 0 then s else s.storeGap 3 lost 0
  (side.foldl State.store s).ledgerView

/-- The gap records of a start-up: of reason 0 for a power-fail record with a non-zero count, also where a flush has run since
(R446, R447); of reason 3 for a side buffer that overflowed before the power-fail cleared FREEZE (DEDUCED, log entry 128). -/
def State.lostGap (s : State) : State :=
  let n := s.ledger.sideLost
  let s := if n = 0 then s else (({ s with ledger := { s.ledger with sideLost := 0 } }).storeGap 3 n 0).ledgerView
  match s.ledger.pfw with
  | some (n, f) =>
    let s := { s with ledger := { s.ledger with pfw := none } }
    if n = 0 then s else (s.storeGap 0 n f).ledgerView
  | none => s

/-- The frames of these SEQs fail their CRC at the scan of a start-up (R448): they are not readable, and the write point is behind
the last one of the newest sector that passes. -/
def Ledger.scan (l : Ledger) (bad : List Nat) : Ledger :=
  let nor := l.nor.map fun x => { x with frames := x.frames.map fun f => { f with crcOk := f.crcOk && !bad.contains f.recd.seq } }
  { l with nor := nor.modify l.norSector fun x => { x with frames := (x.frames.reverse.dropWhile fun f => !f.crcOk).reverse } }

/-- The frames that a scan finds to fail. -/
def Ledger.failing (l : Ledger) (bad : List Nat) : Nat :=
  (l.nor.flatMap fun x => x.frames.filter fun f => !f.crcOk || bad.contains f.recd.seq).length

/-- The highest SEQ of the frames that pass and of which `p` holds. -/
def Ledger.topOf (l : Ledger) (p : Rec → Bool) : Nat :=
  (l.nor.flatMap fun x => (x.frames.filter fun f => f.crcOk && p f.recd).map (·.recd.seq)).foldl max 0

/-- The Ledger at Hearth power-up (R439, R447, R448, R449, R450): SRAM, side buffer and windows are lost; SEQ goes on above the
highest in NOR; the gap record of a power-fail that lost records, or of reason 4 where no power-fail record is newer than the
newest flushed one. -/
def State.ledgerHearthUp (s : State) (bad : List Nat) : State :=
  let s := s.addReg 32 (key 0x2200 0x10) (s.ledger.failing bad)
  let anyFrame := s.ledger.nor.any fun x => !x.frames.isEmpty
  let l := s.ledger.scan bad
  let top := l.norTop
  let cut := l.topOf fun r => r.code == 0x0106 && bitOf r.flags 3
  let w : LedgerWindow := ⟨0, 0, []⟩
  let s := { s with ledger := { l with
      nextSeq := top + 1, sram := [], flushed := top, flushTo := none, buckets := [], side := [], sideLost := 0
      episode := none, pfw := if cut = 0 then none else l.pfw, clearing := [], windows := [w, w, w, w], lastFlush := s.now } }
  let s := s.lostGap
  let s := if anyFrame ∧ (cut = 0 ∨ cut < l.topOf fun r => !bitOf r.flags 3) then s.storeGap 4 0xFFFF_FFFF (top + 1) else s
  s.ledgerView

/-- The Ledger at any later start-up (R447, R442): the gap record of a power-fail that lost records, and every bucket is
full; what has been suppressed stays to be told (R443). -/
def State.ledgerStartUp (s : State) : State :=
  ({ s with ledger := { s.ledger with buckets := s.ledger.buckets.map fun (b : Bucket) => { b with nano := 255000000000 } } }).lostGap

end Sys2Proof.Machine
end

