-- ==== Sys2Proof/Machine/Operands.lean ====
section
/-! DEFINITION. Where things are: the objects of a station, head, channel, engine and sequencer, the records that hold
their engines' state, result objects (R35, R36), and which units a part has (R2, R4). -/

namespace Sys2Proof.Machine

/-! ### Objects of a station and of a head -/

/-- Index of an object of station `s` (R7). -/
def stIx (s off : Nat) : Nat := 0x3000 + 0x100 * s + off
def stKey (s off sub : Nat) : Nat := key (stIx s off) sub
/-- Index of an object of head `h` at offset `off` of its B range (chapter 6, "Objects"). -/
def hdIx (h off : Nat) : Nat := stIx (h / 2) (0x40 + 0x40 * (h % 2) + off)
def hdKey (h off sub : Nat) : Nat := key (hdIx h off) sub
/-- Objects of a head's read channel and write path: H = B + 0x20. -/
def chIx (h off : Nat) : Nat := hdIx h (0x20 + off)
def chKey (h off sub : Nat) : Nat := key (chIx h off) sub
/-- The sled object of head `h`. -/
def sledKey (h sub : Nat) : Nat := stKey (h / 2) (0x20 + h % 2) sub

/-! ### Control engines and their loops: engine h of head h, engine 16 + s of station s -/

def isHead (e : Nat) : Bool := e < 16
def engStation (e : Nat) : Nat := if e < 16 then e / 2 else e - 16
def engIx (e off : Nat) : Nat := if e < 16 then hdIx e off else stIx (e - 16) (0x30 + off)
def engKey (e off sub : Nat) : Nat := key (engIx e off) sub
/-- How many loops an engine has (R128). -/
def loopCount (e : Nat) : Nat := if e < 16 then 12 else 3
/-- Column `n` of loop `l` in the loop-state object (Table 6.7): 0 STATE, 1 LOOP_CMD, 2 HOLD_CAUSE, 3 OPEN_DRIVE,
4 DRIVE. -/
def loopKey (e l n : Nat) : Nat := engKey e 0 (1 + l + n * loopCount e)
/-- The group of a loop: every laser-power loop is group 4 (Table 6.11). -/
def grpOf (e l : Nat) : Nat := if e < 16 then min l 4 else l
/-- Sub-index `sub` of the active set of a loop (Table 6.9). -/
def setKey (e l sub : Nat) : Nat := engKey e (1 + grpOf e l) sub
/-- Column `j` (1 to 8) of the supervisor's settings for a loop (Table 6.11). -/
def supKey (e l j : Nat) : Nat := engKey e 7 (8 * grpOf e l + j)
/-- Counter `j` of a loop's group: 0 HOLD_ENTRIES, 1 WINDOW_EXPIRIES, 2 SATURATIONS. -/
def cntKey (e l j : Nat) : Nat := engKey e 7 (0x3E + 3 * grpOf e l + j)
/-- SOURCE of an engine's or sequencer's records (Table 18.2). -/
def engSource (e : Nat) : Nat := if e < 16 then 0x40 + e else 0x30 + (e - 16)
/-- The sequencer number within its station: 0 head U, 1 head L, 2 station. -/
def seqNo (e : Nat) : Nat := if e < 16 then e % 2 else 2
/-- Object 0x5410 + s of a sequencer's station. -/
def latheKey (e sub : Nat) : Nat := key (0x5410 + engStation e) sub

/-- The newer stored copy that passes its CRC (R60). -/
def Nor.stored (n : Nor) : Option Copy :=
  let c := n.copies.getD n.newer ⟨false, [], []⟩
  if c.valid then some c
  else
    let d := n.copies.getD (1 - n.newer) ⟨false, [], []⟩
    if d.valid then some d else none

/-! ### What the part has (R2, R64) -/

def State.beams (s : State) : Nat := if s.part.wide then 8 else 4
def State.stationPresent (s : State) (i : Nat) : Bool := i < s.part.stations
def State.enginePresent (s : State) (e : Nat) : Bool := s.stationPresent (engStation e)
def State.loopPresent (s : State) (e l : Nat) : Bool :=
  s.enginePresent e && (if e < 16 then l < 4 + s.beams else l < 3)

/-! ### The records of the engines -/

def State.stn (s : State) (i : Nat) : Stn := (findKey i s.stns).getD Stn.init
def State.modStn (s : State) (i : Nat) (f : Stn → Stn) : State :=
  { s with stns := putKey i (f (s.stn i)) Stn.init s.stns }
def State.hd (s : State) (h : Nat) : Head := (findKey h s.heads).getD Head.init
def State.modHd (s : State) (h : Nat) (f : Head → Head) : State :=
  { s with heads := putKey h (f (s.hd h)) Head.init s.heads }
def State.lp (s : State) (e l : Nat) : Loop := (findKey (e * 16 + l) s.loops).getD Loop.init
def State.modLp (s : State) (e l : Nat) (f : Loop → Loop) : State :=
  { s with loops := putKey (e * 16 + l) (f (s.lp e l)) Loop.init s.loops }
def State.eng (s : State) (e : Nat) : Engine := (findKey e s.engines).getD Engine.init
def State.modEng (s : State) (e : Nat) (f : Engine → Engine) : State :=
  { s with engines := putKey e (f (s.eng e)) Engine.init s.engines }
def State.sq (s : State) (e : Nat) : Seq := (findKey e s.seqs).getD Seq.init
def State.modSq (s : State) (e : Nat) (f : Seq → Seq) : State :=
  { s with seqs := putKey e (f (s.sq e)) Seq.init s.seqs }

/-- Fold a state change over a list. -/
def State.forEach {α : Type} (s : State) (l : List α) (f : State → α → State) : State := l.foldl f s

/-- Do a change only under a condition. -/
def State.when (s : State) (b : Bool) (f : State → State) : State := if b then f s else s

/-! ### Result objects (R35, R36) -/

/-- Whether a result object's request runs. -/
def State.busy (s : State) (ix : Nat) : Bool := s.reg (key ix 2) == 1

/-- A request starts: STATUS BUSY, everything else kept. -/
def State.beginResult (s : State) (ix : Nat) : State := s.setReg (key ix 2) 1

/-- A request ends: data, RESULT_CODE, SEQUENCE and STATUS change together; code 0 is DONE. -/
def State.endResult (s : State) (ix : Nat) (data : List (Nat × Nat)) (code : Nat) : State :=
  let q := s.reg (key ix 3)
  (s.setRegs (data.map fun d => (key ix d.1, d.2))).setRegs
    [(key ix 4, code), (key ix 3, if q = 0xFFFF_FFFF then 1 else q + 1), (key ix 2, if code = 0 then 2 else 3)]

/-! ### Station fields -/

def stOff : Nat := 0
def stEmpty : Nat := 1
def stClamped : Nat := 2
def stSpinning : Nat := 3
def stReady : Nat := 4
def stActive : Nat := 5
def stMaint : Nat := 6
def stFault : Nat := 7

/-- The station state (Table 5.1). -/
def State.stState (s : State) (i : Nat) : Nat := s.reg (stKey i 0 1)
def State.stFlag (s : State) (i b : Nat) : Bool := bitOf (s.reg (stKey i 0 5)) b
def State.setStFlag (s : State) (i b : Nat) (v : Bool) : State := s.setRegBit (stKey i 0 5) b v
/-- ILK_N of the station stands open: the level at the pin, sensed whatever state its domains are in (R77, R81). -/
def State.ilkOpen (s : State) (i : Nat) : Bool := bitOf s.pins.ilkOpen i
/-- DISC_PRES of the station is high. -/
def State.discHigh (s : State) (i : Nat) : Bool := bitOf s.pins.discPres i
/-- The pins' bits in FLAGS of a station: DISC_PRES and ILK_OPEN (Table 5.10). -/
def State.pinView (s : State) (i : Nat) : State := (s.setStFlag i 0 (s.discHigh i)).setStFlag i 1 (s.ilkOpen i)

/-- The head's substate (Table 5.3). -/
def hsOff : Nat := 0
def hsSearch : Nat := 1
def hsFocused : Nat := 2
def hsTracking : Nat := 3
def hsFollowing : Nat := 4
def hsWriting : Nat := 5
def hdStKey (h : Nat) : Nat := stKey (h / 2) 0 (3 + h % 2)
def State.substate (s : State) (h : Nat) : Nat := s.reg (hdStKey h) % 8
def State.setSubstate (s : State) (h v : Nat) : State := s.setReg (hdStKey h) (s.reg (hdStKey h) / 8 * 8 + v % 8)
/-- The head reaches TRACKING: the flywheels of its beams wait for their first SSM (R257). -/
def State.enterTracking (s : State) (h : Nat) : State :=
  (s.setSubstate h hsTracking).modHd h fun d => { d with
    anchored := 0, hunt := 0, fly := List.replicate 8 0, align := List.replicate 8 0, starts := List.replicate 8 [] }
def State.headFault (s : State) (h : Nat) : Bool := bitOf (s.reg (hdStKey h)) 7
def State.headUnused (s : State) (h : Nat) : Bool := bitOf (s.reg (hdStKey h)) 6
/-- A head the loaded medium uses (R104). -/
def State.usedHeads (s : State) (i : Nat) : List Nat :=
  [2 * i, 2 * i + 1].filter fun h => !s.headUnused h

/-- The device sample count of the present instant (R18): the 1.2 GHz sample clock counted from Hearth's power-up (log
entry 12). -/
def State.sampleCount (s : State) : Nat := s.now * 1200 % 2 ^ 64

/-- The bits set in a mask of `n`, lowest first. -/
def bitsIn (n m : Nat) : List Nat := (List.range n).filter (bitOf m)

end Sys2Proof.Machine
end

