-- ==== Sys2Proof/Machine/Lathe.lean ====
section
/-! DEFINITION. The Lathe sequencers' orders and micro-traps (R226, R230 to R240): the slot, dispatch, the end of an
order, Lathe faults and traps. The microwords are in Microwords.lean. -/

namespace Sys2Proof.Machine

/-- The code of the order whose routine runs: a vendor order run as a subroutine stands before its caller (R239). -/
def Seq.code (q : Seq) : Option Nat :=
  match q.sub with
  | some f => some f.code
  | none => q.running.map (·.code)

/-- The PARAM of the running order: a vendor subroutine takes M0 as its caller left it. -/
def Seq.param (q : Seq) : Nat :=
  match q.sub with
  | some _ => ((q.m.getD 0 0).toNat) % 65536
  | none => match q.running with | some o => o.param | none => 0

/-- A sequencer executes words: an order or a trap routine runs and does not wait. -/
def Seq.live (q : Seq) : Bool := (q.running.isSome || q.frame.isSome) && q.wait == .none

/-- Whether the word at the micro-PC lies in the customer region (R223). -/
def Seq.inCustomer (q : Seq) : Bool := 0x3800 ≤ q.pc

/-- SEQ_STATE and MPC show the sequencer (Table 9.9). -/
def State.seqView (s : State) (e : Nat) : State :=
  let q := s.sq e
  let st := if q.frame.isSome then 2 else if q.wait != .none then 3 else if q.running.isSome then 1 else 0
  s.setRegs [(latheKey e (1 + seqNo e), st), (latheKey e (4 + seqNo e), q.pc)]

/-! ### The slot (R231) -/

def Origin.prio : Origin → Nat
  | .trapret => 1
  | .park => 2
  | .station => 3
  | .direct => 3

/-- Take the first order of the highest priority from a waiting list. -/
def takeFirst (l : List Order) : Option (Order × List Order) :=
  match l.find? (fun o => l.all fun p => o.origin.prio ≤ p.origin.prio) with
  | some o => some (o, l.erase o)
  | none => none

/-- Offer an order to the slot (R231): it takes a free slot or one of lower priority, whose order goes back to the front
of the waiting ones; otherwise it waits. -/
def State.offerOrder (s : State) (e : Nat) (o : Order) : State :=
  s.modSq e fun q =>
    match q.slot with
    | none => { q with slot := some o }
    | some p =>
      if o.origin.prio < p.origin.prio then { q with slot := some o, waiting := p :: q.waiting }
      else { q with waiting := q.waiting ++ [o] }

/-- Whether the slot would turn a direct order away (R231: refused with 0x0800_0021). -/
def State.slotHeld (s : State) (e : Nat) : Bool :=
  match (s.sq e).slot with
  | some _ => true
  | none => false

/-! ### Direct orders' result object 0x3s03 (R233) -/

/-- LATHE_STATUS: status and reject reason. -/
def State.setLathe (s : State) (e status reason : Nat) : State :=
  s.setReg (stKey (engStation e) 3 5) (status + reason * 256)

def latheDone : Nat := 4
def latheFailed : Nat := 5
def latheRejected : Nat := 6
def latheAborted : Nat := 7
def codeRejected : Nat := 0x0F59_0001
def codeAborted : Nat := 0x0F59_0002

/-- RETURN as an order's end leaves it. -/
def returnOf (status ret : Nat) : Nat :=
  if status = latheRejected then codeRejected else if status = latheAborted then codeAborted else ret

/-- The result object of a direct order takes its end (R233). -/
def State.endDirect (s : State) (e status reason ret : Nat) : State :=
  let code := if status = latheDone then 0 else returnOf status ret
  (s.setLathe e status reason).endResult (stIx (engStation e) 3) [(6, returnOf status ret)] code

/-- A measurement ends: the injector is free and the learning mode is restored (R153). -/
def State.measureStop (s : State) (e : Nat) : State :=
  match (s.eng e).meas with
  | none => s
  | some m =>
    let s := s.modEng e fun g => { g with inj := .free, meas := none }
    if e < 16 ∧ m.loop ≤ 1 then s.setReg (hdKey e 8 (1 + m.loop)) m.ff else s

/-- Whether a measurement that REQUEST asked for runs or waits on an engine (R153). -/
def State.objectMeasures (s : State) (e : Nat) : Bool :=
  match (s.eng e).meas with
  | some m => m.object
  | none => (s.stn (engStation e)).measWait.any fun p => p.1 == e

/-- An order that posts to a result object of its own ends before its work does (CALIBRATE_LOOP, MEASURE_LOOP, POWER_CAL): the
injector is free, and the object, if BUSY, takes the order's code (R36, R153, R185, R233). -/
def State.closeResult (s : State) (e c code : Nat) : State :=
  if code = 0 then s
  else if c = 0x0A ∧ s.busy (hdIx e 0x1E) then
    (s.modEng e fun g => { g with inj := if g.meas.isNone && g.inj != .dict then .free else g.inj, calRun := none }).endResult (hdIx e 0x1E) [] code
  else if c = 0x0B ∧ s.busy (engIx e 0x0E) ∧ ¬ s.objectMeasures e then (s.measureStop e).endResult (engIx e 0x0E) [] code
  else if c = 0x0E ∧ (s.hd e).calObject then
    ((s.modHd e fun d => { d with pklWait := false, calObject := false }).setReg (stKey (e / 2) (0xD1 + e % 2) 1) 0).endResult (stIx (e / 2) 0xD9) [] code
  else s

/-- A strobe wait ends: ARMED and WAIT_STROBE show the remaining ones of the station (R124). -/
def State.armedView (s : State) (st : Nat) : State :=
  let ns := ([2 * st, 2 * st + 1, 16 + st].filterMap fun e =>
      match (s.sq e).wait with | .strobe n => some n | _ => none)
    ++ (match (s.stn st).cmd with
        | some c => if c.taken ∧ c.strobe ≠ 0 ∧ c.steps.head? = some .spinUp ∧ (s.stn st).spinPhase = 0 then [c.strobe] else []
        | none => [])
  (s.setReg (stKey st 2 3) (ns.foldl setBit 0)).setStFlag st 8 (!ns.isEmpty)

/-- End the running order (R233), or return to the customer routine that called it (R239): M14 takes the status, M15
RETURN, M0 to M13 what they were at the CALL. -/
def State.endOrder (s : State) (e status reason ret : Nat) : State :=
  let q := s.sq e
  match q.sub with
  | some f =>
    let s := s.closeResult e f.code (if status = latheDone then 0 else returnOf status ret)
    (s.modSq e fun q => { q with
      m := f.m.take 14 ++ [BitVec.ofNat 32 status, BitVec.ofNat 32 (returnOf status ret)]
      pc := f.ret, stack := f.stack, sub := none, wait := .none, started := 0 }).seqView e
  | none =>
    match q.running with
    | none => s
    | some o =>
      let s := s.modSq e fun q => { q with running := none, wait := .none, frame := none, stack := [], started := 0 }
      let s := s.closeResult e o.code (if status = latheDone then 0 else returnOf status ret)
      let s := if o.origin = .direct then s.endDirect e status reason ret else s
      (s.armedView (engStation e)).seqView e

/-- End the customer order itself, not the vendor order it called. -/
def State.endWhole (s : State) (e status reason ret : Nat) : State :=
  (s.modSq e fun q => { q with sub := none }).endOrder e status reason ret

def State.orderDone (s : State) (e ret : Nat) : State := s.endOrder e latheDone 0 ret
def State.orderFailed (s : State) (e code : Nat) : State := s.endOrder e latheFailed 0 code
def State.orderRejected (s : State) (e reason : Nat) : State := s.endOrder e latheRejected reason 0

/-- Whether order `c` runs on sequencer `e`. -/
def State.runs (s : State) (e c : Nat) : Bool := (s.sq e).code == some c && (s.sq e).wait == .none

/-- Whether an order of a code is running or waits on a sequencer. -/
def State.hasOrder (s : State) (e c : Nat) : Bool :=
  let q := s.sq e
  let is := fun (o : Order) => o.code == c
  q.running.any is || q.slot.any is || q.waiting.any is

/-- A protective decision is refused an order's action (R20, R229): the running order ends REJECTED, or inside a trap
routine the refusal is counted and the routine goes on. -/
def State.latheRefuse (s : State) (e reason : Nat) : State :=
  if (s.sq e).frame.isSome then
    ((s.bump (latheKey e (0x0D + seqNo e))).modSq e fun q => { q with pc := (q.pc + 1) % 0x4000 }).seqView e
  else s.orderRejected e reason

/-- A Lathe fault (R240). -/
def State.latheFault (s : State) (e code : Nat) : State :=
  let pc := (s.sq e).pc
  let s := s.setRegs [(latheKey e 0x12, code), (latheKey e 0x13, pc), (latheKey e 0x14, seqNo e)]
  let s := s.modSq e fun q => { q with stack := [] }
  let s := s.endWhole e latheFailed 0 code
  let s := (s.modSq e fun q => { q with frame := none, wait := .none, stack := [] }).seqView e
  s.note 0x0601 (engSource e) (leBytes 1 (seqNo e) ++ leBytes 4 code ++ leBytes 2 pc)

/-! ### Traps (R234 to R237) -/

def trapAbort : Nat := 0
def trapHoldExpired : Nat := 1
def trapObserverLoss : Nat := 2
def trapLockedRotor : Nat := 3
def trapShock : Nat := 4
def trapGuard : Nat := 5
def trapOverpower : Nat := 6
def trapPklLoss : Nat := 7
def trapSupervisor : Nat := 8
def trapDefect : Nat := 9
def trapSledStall : Nat := 10
def trapVbusHigh : Nat := 11
def trapCoefOverrun : Nat := 12
def trapEncTakeover : Nat := 13
def trapStrobe : Nat := 14

/-- Whether a sequencer receives a kind of trap (Table 9.4). -/
def trapFor (e kind : Nat) : Bool :=
  if isHead e then [0, 1, 4, 5, 6, 7, 8, 9, 10, 12, 14].contains kind
  else [0, 1, 2, 3, 8, 11, 12, 13, 14].contains kind

/-- The trap information of M15 (R235). -/
def trapInfo (kind mask detail : Nat) : Nat := kind * 2 ^ 24 + mask % 4096 * 4096 + detail % 256

/-- Raise a micro-trap (R237): a kind that is pending already is merged. -/
def State.raiseTrap (s : State) (e kind mask detail : Nat) : State :=
  if trapFor e kind then
    match (s.sq e).traps.find? (fun t => t.1 == kind) with
    | some (_, i) =>
      (s.modSq e fun q => { q with traps := q.traps.map fun t =>
          if t.1 = kind then (kind, i ||| (mask % 4096 * 4096)) else t }).bump (latheKey e (0x0A + seqNo e))
    | none => s.modSq e fun q => { q with traps := q.traps ++ [(kind, trapInfo kind mask detail)] }
  else s

/-- The pending trap of lowest number. -/
def Seq.nextTrap (q : Seq) : Option (Nat × Nat) :=
  q.traps.find? fun t => q.traps.all fun u => t.1 ≤ u.1

/-- The state at the entry of a routine: micro-registers and flags as R226 dispatches them. -/
def dispatchRegs (e : Nat) (o : Order) : List (BitVec 32) :=
  (List.range 16).map fun i =>
    if i = 0 then BitVec.ofNat 32 (o.param % 65536)
    else if i = 1 then BitVec.ofNat 32 (o.code % 256 + o.strobe % 16 * 256)
    else if i = 13 then BitVec.ofNat 32 (seqNo e)
    else 0

/-- Whether an order code is one the sequencer has (Table 9.5): none if the code is reserved. -/
def orderFor (e c : Nat) : Option Bool :=
  if 1 ≤ c ∧ c ≤ 0x0A then some (isHead e)
  else if c = 0x0B ∨ c = 0x18 then some true
  else if 0x0C ≤ c ∧ c ≤ 0x0E then some (isHead e)
  else if 0x10 ≤ c ∧ c ≤ 0x15 then some (!isHead e)
  else if 0x30 ≤ c ∧ c ≤ 0x3F then some true
  else none

/-- Whether customer orders run at all (R238). -/
def State.customerRuns (s : State) : Bool :=
  bitOf (s.reg (key 0x5000 2)) 2 && s.stores.image.isSome && s.stores.abiOk

/-- Why an order ends REJECTED at its dispatch before its routine runs (R230, R238). -/
def State.dispatchReject (s : State) (e c : Nat) : Option Nat :=
  match orderFor e c with
  | none => some 3
  | some false => some 2
  | some true => if 0x30 ≤ c && !s.customerRuns then some 3 else none

/-- Dispatch an order into the sequencer (R226, R231): with a STROBE it first waits for it (R124). -/
def State.startOrder (s : State) (e : Nat) (o : Order) : State :=
  let s := s.modSq e fun q => { q with
    m := dispatchRegs e o, stack := [], z := false, n := false, c := false, v := false, ev := false, latched := 0
    pc := if 0x30 ≤ o.code ∧ o.code ≤ 0x3F then 0x3800 + 0x80 * (o.code - 0x30) else o.code
    running := some o, sub := none, started := 0
    wait := if o.strobe = 0 then .none else .strobe o.strobe }
  let s := if o.origin = .direct then s.setLathe e (if o.strobe = 0 then 2 else 3) 0 else s
  match s.dispatchReject e o.code with
  | some r => s.orderRejected e r
  | none => (s.armedView (engStation e)).seqView e

/-- Move the pending order to the idle sequencer and refill the slot from the waiting orders (R231); a pending trap is
taken first (R237). -/
def State.dispatch (s : State) (e : Nat) : State :=
  let q := s.sq e
  if q.running.isSome || q.frame.isSome || !q.traps.isEmpty then s
  else
    match q.slot with
    | none => s
    | some o =>
      let s := s.modSq e fun q =>
        match takeFirst q.waiting with
        | some (p, r) => { q with slot := some p, waiting := r }
        | none => { q with slot := none }
      s.startOrder e o

/-- Take the pending trap of lowest number (R235). The vendor routine of ORDER_ABORT ends the running order, ABORTED or,
after ORDER_TIMEOUT (detail 1), FAILED, discards its frame and dispatches the pending order (R232). -/
def State.takeTrap (s : State) (e : Nat) : State :=
  let q := s.sq e
  if q.frame.isSome then s
  else
    match q.nextTrap with
    | none => s
    | some (k, i) =>
      let s := s.bump (latheKey e (7 + seqNo e))
      let s := s.modSq e fun q => { q with traps := q.traps.filter fun t => t.1 != k }
      if k = trapAbort then
        let s := if i % 256 = 1 then s.endWhole e latheFailed 0 0x0F59_0006 else s.endWhole e latheAborted 0 0
        s.dispatch e
      else
        (s.modSq e fun q => { q with
          frame := some ⟨q.pc, q.stack, q.z, q.n, q.c, q.v, q.ev, q.m, q.wait⟩
          stack := [], wait := .none, pc := 0x40 + k
          m := q.m.take 15 ++ [BitVec.ofNat 32 i] }).seqView e

/-- A station's sequencers take ORDER_ABORT (R232). -/
def State.abortStation (s : State) (st : Nat) : State :=
  ((s.raiseTrap (2 * st) trapAbort 0 0).raiseTrap (2 * st + 1) trapAbort 0 0).raiseTrap (16 + st) trapAbort 0 0

/-- The row of 0x3s03's order: sequencer of SEQ. -/
def seqOf (st q : Nat) : Nat := if q = 2 then 16 + st else 2 * st + q

/-- Every order held or running on a sequencer ends ABORTED (R122). -/
def State.dropOrders (s : State) (e : Nat) : State :=
  let s := s.endWhole e latheAborted 0 0
  let held := (s.sq e).slot.toList ++ (s.sq e).waiting ++ ((s.stn (engStation e)).orderWait.filter (·.1 == e)).map (·.2)
  let s := s.modStn (engStation e) fun t => { t with orderWait := t.orderWait.filter (·.1 != e) }
  let s := s.modSq e fun q => { q with slot := none, waiting := [], traps := [], frame := none }
  s.forEach held fun s o =>
    let s := s.closeResult e o.code codeAborted
    if o.origin = .direct then s.endDirect e latheAborted 0 0 else s

/-- The station processor issues an order to a sequencer (R15); PARK also raises ORDER_ABORT (R232). -/
def State.issue (s : State) (e code param : Nat) : State :=
  if code = 6 then (s.offerOrder e ⟨6, param, 0, .park⟩).raiseTrap e trapAbort 0 0
  else s.offerOrder e ⟨code, param, 0, .station⟩

end Sys2Proof.Machine
end

