-- ==== Sys2Proof/Machine/Trig.lean ====
section
/-! DEFINITION. Fixed-point sines and square roots: what the microstep weights (R209, R216), the injector (R151), the loop
measurement (R153) and the write guard (R179) compute with. The manual gives no word length for them; the model's are
2^30 for 1, with the series cut far below the last bit used (DESIGN CHOICE, log entry 116). -/

namespace Sys2Proof.Machine

/-- Nearest integer to `n / d`, ties away from zero. -/
def roundDiv (n : Int) (d : Nat) : Int :=
  let m := (2 * n.natAbs + d) / (2 * d)
  if n < 0 then -(m : Int) else m

/-- Product of two numbers that count 2^30 for 1. -/
def mul30 (a b : Int) : Int := a * b / 2 ^ 30

/-- Sine of `q` quarters of a right angle, 2^30 for the whole one, by its series to the 13th power. -/
def quarterSine (q : Nat) : Int :=
  let x : Int := (q : Int) * 1686629713 / 2 ^ 30
  let y := mul30 x x
  let t3 := mul30 x y / 6
  let t5 := mul30 t3 y / 20
  let t7 := mul30 t5 y / 42
  let t9 := mul30 t7 y / 72
  let t11 := mul30 t9 y / 110
  let t13 := mul30 t11 y / 156
  x - t3 + t5 - t7 + t9 - t11 + t13

/-- Sine of `n` of `d` parts of a turn, 2^30 for 1. -/
def sinTurn (n d : Nat) : Int :=
  let m := 4 * (n % d)
  let q := m % d * 2 ^ 30 / d
  if m / d = 0 then quarterSine q
  else if m / d = 1 then quarterSine (2 ^ 30 - q)
  else if m / d = 2 then -quarterSine q
  else -quarterSine (2 ^ 30 - q)

/-- Cosine of `n` of `d` parts of a turn. -/
def cosTurn (n d : Nat) : Int := sinTurn (4 * n + d) (4 * d)

/-- The whole part of a square root, bit by bit from bit 39. -/
def isqrt (n : Nat) : Nat :=
  (List.range 40).foldr (fun k r => if (r + 2 ^ k) * (r + 2 ^ k) ≤ n then r + 2 ^ k else r) 0

/-- log2 of a positive number in 1/2^24, bit by bit by squaring. -/
def lg2 (n : Nat) : Nat :=
  let k := n.log2
  let step := fun (x : Nat × Nat) (_ : Nat) =>
    let m := x.1 * x.1 / 2 ^ 30
    if 2 ^ 31 ≤ m then (m / 2, 2 * x.2 + 1) else (m, 2 * x.2)
  k * 2 ^ 24 + ((List.range 24).foldl step (n * 2 ^ 30 / 2 ^ k, 0)).2

/-- 2 to the power of `x` / 2^24, 2^30 for 1, by the series of the exponential to the 11th power. -/
def exp2 (x : Nat) : Nat :=
  let t := x % 2 ^ 24 * 744261118 / 2 ^ 24
  let terms := (List.range 11).foldl (fun (a : Nat × Nat) k => let u := a.1 * t / 2 ^ 30 / (k + 1); (u, a.2 + u)) (2 ^ 30, 2 ^ 30)
  terms.2 * 2 ^ (x / 2 ^ 24)

/-- The angle of the vector (x, y) in 1/2^24 of a turn, bit by bit in its quarter. -/
def atanTurn (x y : Int) : Nat :=
  let (q, u, v) : Nat × Int × Int :=
    if 0 < x ∧ 0 ≤ y then (0, x, y) else if x ≤ 0 ∧ 0 < y then (1, y, -x) else if x < 0 ∧ y ≤ 0 then (2, -x, -y) else (3, -y, x)
  q * 2 ^ 22 + (List.range 22).foldr
    (fun k r => if u * sinTurn (r + 2 ^ k) (2 ^ 24) ≤ v * cosTurn (r + 2 ^ k) (2 ^ 24) then r + 2 ^ k else r) 0

/-- The determinant of the first `n` rows and columns of a matrix, by its first row. -/
def det : Nat → List (List Int) → Int
  | 0, _ => 1
  | n + 1, m =>
    let row := m.headD []
    let rest := m.drop 1
    ((List.range (n + 1)).map fun j =>
      (if j % 2 = 0 then 1 else -1) * row.getD j 0 * det n (rest.map fun r => r.take j ++ r.drop (j + 1))).sum

end Sys2Proof.Machine
end

