-- ==== Sys2Proof/Machine/Tuning.lean ====
section
/-! DEFINITION. The arithmetic of the tuning tools (chapter 6 and R185): frequencies spaced logarithmically, the phase of a sweep,
the loop gain of a point and what a measurement gives, and the least-squares fit of a supervisor's model. -/

namespace Sys2Proof.Machine

/-- Frequency `k` of `n` + 1 spaced logarithmically from `f0` to `f1`, both included (R153). -/
def freqAt (f0 f1 k n : Nat) : Nat :=
  if k = 0 then f0 else if n ≤ k then f1 else (f0 * exp2 ((lg2 f1 - lg2 f0) * k / n) + 2 ^ 29) / 2 ^ 30

/-- The phase, in 1/2^30 of a turn, of a logarithmic sweep (R151) from `f0` to `f1` in 0.1 Hz over `total` samples, at sample `n`. -/
def sweepTurn (f0 f1 n total rate : Nat) : Nat :=
  let l := lg2 f1 - lg2 f0
  let ln := l * 744261118 / 2 ^ 24
  if ln = 0 then n * f0 * 2 ^ 30 / (10 * rate)
  else f0 * total * (exp2 (l * n / total) - 2 ^ 30) * 2 ^ 30 / (10 * rate * ln)

/-! ### A loop measurement (R153) -/

/-- L = −V / (V + D) of a point, 2^24 for 1, from the sums of v and of v + d against cosine and sine; none where V + D is 0. -/
def loopGain (acc : List Int) : Option (Int × Int) :=
  let vr := acc.getD 0 0; let vi := acc.getD 1 0; let wr := acc.getD 2 0; let wi := acc.getD 3 0
  let m := wr * wr + wi * wi
  if m = 0 then none else some (roundDiv (-(vr * wr + vi * wi) * 2 ^ 24) m.toNat, roundDiv ((vi * wr - vr * wi) * 2 ^ 24) m.toNat)

/-- How a loop measurement ends (R153, R154): crossover in 0.1 Hz, margins in 0.01, phase crossover, and the RESPONSE
bytes; or the failure of R154: 1 no crossover, 2 a HOLD, 5 the drive at a limit. -/
inductive MeasureEnd where
  | done (cross : Nat) (pm gm : Int) (pcross : Nat) (resp : List Byte)
  | failed (cause : Nat)
  deriving DecidableEq, Repr

/-- A point as R153 reads it: log2 of the frequency in 1/2^24, |L| in 0.001 dB, ∠L in 0.001° from above −360° to 0; where L is 0
it has no level and no angle, and both are the free value `free`. -/
def responsePoint (free : Nat) (p : Nat × Int × Int) : Nat × Int × Int :=
  let q := (p.2.1 * p.2.1 + p.2.2 * p.2.2).toNat
  let t := atanTurn p.2.1 p.2.2
  (lg2 p.1,
    if q = 0 then toSigned 32 free else roundDiv (((lg2 q : Int) - 48 * 2 ^ 24) * 301029996) (100000 * 2 ^ 24),
    if q = 0 then toSigned 32 free else if t = 0 then 0 else (t : Int) * 360000 / 2 ^ 24 - 360000)

/-- An angle's change taken the short way, in 0.001°. -/
def shortWay (d : Int) : Int := (d + 180000) % 360000 - 180000

/-- `a` of `b` parts of the way from a point to the next, with the angle unwrapped (R153: linear in dB against log frequency). -/
def between (p q : Nat × Int × Int) (a b : Int) : Nat × Int × Int :=
  ((p.1 + Int.tdiv (((q.1 : Int) - p.1) * a) b).toNat, p.2.1 + Int.tdiv ((q.2.1 - p.2.1) * a) b,
    p.2.2 + Int.tdiv (shortWay (q.2.2 - p.2.2) * a) b)

/-- The gain crossover, and it with the points after it. -/
def gainCross : List (Nat × Int × Int) → Option ((Nat × Int × Int) × List (Nat × Int × Int))
  | p :: q :: r => if 0 ≤ p.2.1 ∧ q.2.1 < 0 then some (between p q p.2.1 (p.2.1 - q.2.1), q :: r) else gainCross (q :: r)
  | _ => none

/-- The phase crossover above a point: where ∠L, followed on from it, reaches −180°. -/
def phaseCross (p : Nat × Int × Int) : List (Nat × Int × Int) → Option (Nat × Int × Int)
  | [] => none
  | q :: r =>
    let q := (q.1, q.2.1, p.2.2 + shortWay (q.2.2 - p.2.2))
    let a := p.2.2 + 180000
    let b := q.2.2 + 180000
    if (0 < a ∧ b ≤ 0) ∨ (a < 0 ∧ 0 ≤ b) then some (between p q a (a - b)) else phaseCross q r

/-- The frequency in 0.1 Hz of a log2 in 1/2^24. -/
def hzOf (l : Nat) : Nat := (exp2 l + 2 ^ 29) / 2 ^ 30

/-- What the points of a measurement give (R153 steps 5 to 7, R154): crossover, margins, the bytes of RESPONSE. -/
def measureResult (free : Nat) (resp : List (Nat × Int × Int)) : MeasureEnd :=
  let pts := resp.map (responsePoint free)
  match gainCross pts with
  | none => .failed 1
  | some (c, rest) =>
    let ph := if 0 < c.2.2 then c.2.2 - 360000 else c.2.2
    let x := phaseCross c rest
    .done (hzOf c.1) (clampInt (-32768) 32767 (roundDiv (180000 + ph) 10))
      (match x with | some q => clampInt (-32768) 32766 (roundDiv (-q.2.1) 10) | none => 0x7FFF)
      (match x with | some q => hzOf q.1 | none => 0)
      ((resp.zip pts).flatMap fun p => leBytes 4 p.1.1 ++ leBytes 4 (ofSigned 32 p.2.2.1) ++ leBytes 4 (ofSigned 32 p.2.2.2))

/-! ### The fit of a model (R185) -/

/-- The products of four regressors and the fitted quantity, each with each, added to the sums. -/
def addProducts (sums x : List Int) : List Int :=
  let p := x.flatMap fun a => x.map (a * ·)
  if sums.isEmpty then p else List.zipWith (· + ·) sums p

/-- P1, P2, Q1, Q2 in Q2.30 by least squares, and the root of the residual's share of the whole, in 0.1 %; none where the sums
fix no such four. -/
def fitModel (sums : List Int) : Option (List Int × Nat) :=
  let at_ := fun i j => sums.getD (5 * i + j) 0
  let mat := fun (c : Option Nat) => (List.range 4).map fun i => (List.range 4).map fun j => if c = some j then at_ i 4 else at_ i j
  let d := det 4 (mat none)
  if d = 0 then none
  else
    let p := (List.range 4).map fun k =>
      clampInt (-(2 ^ 31)) (2 ^ 31 - 1) (roundDiv ((if d < 0 then -1 else 1) * det 4 (mat (some k)) * 2 ^ 30) d.natAbs)
    let rest := at_ 4 4 * 2 ^ 30 - ((List.range 4).map fun k => p.getD k 0 * at_ k 4).sum
    some (p, isqrt (rest.toNat * 1000000 / ((at_ 4 4).toNat * 2 ^ 30)))

end Sys2Proof.Machine
end

