-- ==== Sys2Proof/Machine/Servo.lean ====
section
/-! DEFINITION. The servo control engines (chapter 6): the arithmetic of a loop, its states and holds, the plausibility
supervisor, learning feed-forward, capture and loop measurement. -/

namespace Sys2Proof.Machine

/-! ### Arithmetic (R131) -/

/-- `n / d` truncated toward minus infinity: a product's cut to 31 fractional bits. -/
def truncDiv (n : Int) (d : Nat) : Int := Int.fdiv n d

/-- Limit to Q1.23. -/
def sat24 (x : Int) : Int := clampInt (-8388608) 8388607 x

/-- Whether `sat24` changes a value. -/
def sats (x : Int) : Bool := sat24 x != x

/-- One product of a Q2.30 coefficient with a Q1.23 signal, cut to 31 fractional bits. -/
def cutProduct (c x : Int) : Int := truncDiv (c * x) (2 ^ 22)

/-- The value before saturation of a section: the sum of five products in Q9.31, rounded to Q1.23. -/
def sectionSum (b0 b1 b2 a1 a2 x x1 x2 y1 y2 : Int) : Int :=
  roundDiv (cutProduct b0 x + cutProduct b1 x1 + cutProduct b2 x2 - cutProduct a1 y1 - cutProduct a2 y2) (2 ^ 8)

/-- DAC code of a drive (R133): 24 bits rounded to 16, saturated. -/
def dacCode (d : Int) : Int := clampInt (-32768) 32767 (roundDiv d 256)

/-! ### Loop states (R134) -/

def lsOff : Nat := 0
def lsOpen : Nat := 1
def lsSearch : Nat := 2
def lsHold : Nat := 3
def lsClosed : Nat := 4

/-- Bits of HOLD_CAUSE (Table 6.8). -/
def hcDefect : Nat := 0
def hcResidual : Nat := 1
def hcFrozen : Nat := 2
def hcCoupled : Nat := 3
def hcLathe : Nat := 4
def hcApply : Nat := 5
def hcCommand : Nat := 6

def State.loopState (s : State) (e l : Nat) : Nat := s.reg (loopKey e l 0)
def State.holdCause (s : State) (e l : Nat) : Nat := s.reg (loopKey e l 2)
def State.drive (s : State) (e l : Nat) : Int := s.regI 32 (loopKey e l 4)
def State.setDrive (s : State) (e l : Nat) (v : Int) : State := s.setRegI 32 (loopKey e l 4) v

/-- A loop enters a state other than HOLD: its causes, its window and any ramp end; an APPLY that waits still copies at its
boundary (R139). -/
def State.enterLoop (s : State) (e l st : Nat) : State :=
  ((s.setReg (loopKey e l 0) st).setReg (loopKey e l 2) 0).modLp e l fun p =>
    { p with window := false, expired := false, ramp := none, lathe := 0, coupling := false, overrun := false, turn := 0, hot := 0 }

/-- Objects 0x3sD1 and 0x3sD2, the band and its counters (Table 12.6). -/
def wrKey (h sub : Nat) : Nat := stKey (h / 2) (0xD1 + h % 2) sub

/-- LANE_STATE of a beam: 0 IDLE, 1 LOCK, 2 WRITE. -/
def State.setLane (s : State) (h b v : Nat) : State :=
  let r := s.reg (wrKey h 2)
  s.setReg (wrKey h 2) (r - r / 4 ^ b % 4 * 4 ^ b + v % 4 * 4 ^ b)

/-- A beam's gate closes at once (R301, R315): its lane goes IDLE, and a cluster whose sector 0 had begun is interrupted
and will be written again as a replacement; a cluster only buffered stays ready. -/
def State.cutBeam (s : State) (h b : Nat) : State :=
  match (s.hd h).gates[b]? with
  | none => s
  | some g =>
    if g.open_ then
      let s := (s.setLane h b 0).modHd h fun d => { d with
        inhibited := true, quietFrom := s.now, gates := d.gates.set b { g with open_ := false, cur := none, next := none, data := [] }
        redo := match g.cur with | some c => d.redo ++ [c] | none => d.redo }
      match g.cur with
      | some _ => s.bump (wrKey h 0x0A)
      | none => s
    else s

/-- Whether any write gate of the head is open. -/
def State.anyGateOpen (s : State) (h : Nat) : Bool := (s.hd h).gates.any (·.open_)

/-- A head whose last gate has closed is FOLLOWING again (Table 5.3). -/
def State.gatesView (s : State) (h : Nat) : State :=
  if s.anyGateOpen h then s
  else if s.substate h = hsWriting then (s.setSubstate h hsFollowing).setReg (wrKey h 1) 0 else s

/-- Every write gate of the head closes (R141, R181). -/
def State.closeGates (s : State) (h : Nat) : State :=
  (s.forEach (List.range 8) fun s b => s.cutBeam h b).gatesView h

/-- A hold that couples the loops after it (R138): one that a cause other than LATHE, APPLY or COMMAND has set, until the loop
leaves HOLD. -/
def State.couples (s : State) (e l : Nat) : Bool := s.loopState e l == lsHold && (s.lp e l).coupling

/-- Set or clear one cause without passing it on: CLOSED enters HOLD, HOLD collects causes. A capture that waits for a HOLD of
the loop sees its entry (R152). -/
def State.causeHere (s : State) (e l bit : Nat) (on : Bool) : State :=
  if on then
    if s.loopState e l = lsClosed ∨ s.loopState e l = lsHold then
      let s := if s.loopState e l = lsClosed then
          s.modEng e fun g => { g with capEvent := g.capEvent || (g.capSet.trigger == 1 && g.capSet.loop == l) } else s
      ((s.setReg (loopKey e l 0) lsHold).setRegBit (loopKey e l 2) bit true).modLp e l fun p =>
        { p with coupling := p.coupling || decide (bit ≤ hcCoupled), overrun := p.overrun && bit != hcLathe }
    else s
  else if s.loopState e l = lsHold then s.setRegBit (loopKey e l 2) bit false
  else s

/-- COUPLED follows the loop that causes it (R138): FOC couples TRK, TLT and BLR; TRK couples TLT, BLR and the sled loop
of the head. -/
def State.recouple (s : State) (h : Nat) : State :=
  let s := s.causeHere h 1 hcCoupled (s.couples h 0)
  let c := s.couples h 0 || s.couples h 1
  let s := (s.causeHere h 2 hcCoupled c).causeHere h 3 hcCoupled c
  s.causeHere (16 + h / 2) (1 + h % 2) hcCoupled (s.couples h 1)

/-- Return to CLOSED at a sample boundary when no cause is left and the window has not expired (R138, R150). -/
def State.releaseIfFree (s : State) (e l : Nat) : State :=
  if s.loopState e l = lsHold ∧ s.holdCause e l = 0 ∧ (s.lp e l).expired = false then
    let s := s.enterLoop e l lsClosed
    if isHead e then s.recouple e else s
  else s

/-- Whether setting this cause starts the hold window (R150). -/
def startsWindow (bit : Nat) : Bool := bit ≤ hcFrozen

/-- Set a hold cause (R138, R141, R147, R148, R150): on a loop in CLOSED a DEFECT, RESIDUAL or FROZEN counts the entry
and starts the window; any hold of a head loop closes the head's write gates. -/
def State.setCause (s : State) (e l bit : Nat) : State :=
  let fresh := s.loopState e l == lsClosed
  let s := s.causeHere e l bit true
  let s := if fresh && startsWindow bit then
      (s.bump (cntKey e l 0)).modLp e l fun p => { p with window := true } else s
  if isHead e then ((if s.loopState e l = lsHold then s.closeGates e else s)).recouple e else s

/-- Clear a hold cause: the loop returns at its next sample boundary. -/
def State.clearCause (s : State) (e l bit : Nat) : State := s.causeHere e l bit false

/-- TRACK_SIGN of a spiral (R158, chapter 10): the even spirals are grooves, +1, the odd ones lands, −1; on Blu-ray Disc +1
(R186). -/
def State.signOf (s : State) (h p : Nat) : Int := if s.reg (stKey (h / 2) 0 6) ≠ 1 ∧ p % 2 = 1 then -1 else 1

/-- TRK closes: TRACK_SIGN is loaded for spiral p, at that sample alone (R158). -/
def State.loadTrackSign (s : State) (h : Nat) : State := s.setRegI 8 (hdKey h 0x10 7) (s.signOf h (s.reg (hdKey h 0x13 3)))

/-- FOC closes: SUM there is what SUM_MIN and the defect detector's average start from (R156, R178), and the window of
FOCUS_CONFIRM begins (R164). -/
def State.focusClosed (s : State) (h : Nat) : State :=
  s.modHd h fun d => { d with sense := { d.sense with
    sumRef := d.sense.sum, avg := d.sense.sum * 65536, defOut := 0, defIn := 0, confN := 0, confSq := 0, confOk := false } }

/-- OFF: zero drive, sections cleared. -/
def State.loopOff (s : State) (e l : Nat) : State :=
  let s := (s.enterLoop e l lsOff).setDrive e l 0
  let s := s.modLp e l fun p => { p with x1 := Loop.init.x1, x2 := Loop.init.x2, y1 := Loop.init.y1, y2 := Loop.init.y2 }
  if isHead e then s.recouple e else s

/-- OPEN at OPEN_DRIVE. -/
def State.loopOpen (s : State) (e l : Nat) : State :=
  let s := (s.enterLoop e l lsOpen).setDrive e l (s.regI 32 (loopKey e l 3))
  if isHead e then s.recouple e else s

/-- OPEN with OPEN_DRIVE ramping from the present drive to `v` in `n` samples (R142, R163). -/
def State.loopRamp (s : State) (e l : Nat) (v : Int) (n : Nat) : State :=
  let d := s.drive e l
  let s := ((s.enterLoop e l lsOpen).setRegI 32 (loopKey e l 3) v).modLp e l fun p => { p with ramp := some (d, v, 0, n) }
  if isHead e then s.recouple e else s

/-- Close from OPEN or SEARCH, and from no other state (R134, R136): delay lines cleared, PRESET in the integrator's y1 and y2. FOC
takes SUM at its closure (R156), TRK loads TRACK_SIGN (R158). -/
def State.loopClose (s : State) (e l : Nat) : State :=
  if s.loopState e l = lsOpen ∨ s.loopState e l = lsSearch then
    let i := s.reg (setKey e l 2)
    let pre := s.regI 32 (setKey e l 8)
    let ys := (List.range 8).map fun k => if k = i then pre else (0 : Int)
    let s := (s.enterLoop e l lsClosed).modLp e l fun p =>
      { p with x1 := Loop.init.x1, x2 := Loop.init.x2, y1 := ys, y2 := ys, clamp := 0, resRun := 0, retRun := 0, age := 0 }
    if isHead e ∧ l = 0 then s.focusClosed e else if isHead e ∧ l = 1 then s.loadTrackSign e else s
  else s

/-- The forward ramp of the focus search (R164 step 2), at which FOC is OPEN at SEARCH_START and then in SEARCH: SEARCH_TIME at
2.4 MS/s. -/
def State.searchRamp (s : State) (h : Nat) : State :=
  let a := s.regI 32 (hdKey h 0x11 1)
  let b := s.regI 32 (hdKey h 0x11 2)
  let s := ((s.setRegI 32 (loopKey h 0 3) a).enterLoop h 0 lsSearch).setDrive h 0 a
  (s.modLp h 0 fun p => { p with ramp := some (a, b, 0, 2400 * s.reg (hdKey h 0x11 3)) }).modHd h fun d => { d with scan := Scan.init }

/-- Whether a close is refused for LOOP_GAIN 0 (R136). -/
def State.noGain (s : State) (e l : Nat) : Bool := s.reg (setKey e l 3) == 0

/-- Whether a loop may close (R136): LOOP_GAIN is not 0, and a laser-power loop's laser is on. -/
def State.mayClose (s : State) (e l : Nat) : Bool :=
  !s.noGain e l && (!(isHead e && 4 ≤ l) || bitOf (s.reg (hdKey e 0x16 0x13)) (l - 4))

/-- A loop command of LOOP_CMD or LCMD (R134, R136): the state after it, or none if Table 6.4 has no such change. -/
def State.loopCommand (s : State) (e l c : Nat) : Option State :=
  let st := s.loopState e l
  if c = 0 then some (s.loopOff e l)
  else if c = 1 then some (s.loopOpen e l)
  else if c = 2 then
    if isHead e && l == 0 && (st == lsOpen) then some (s.searchRamp e) else none
  else if c = 3 then
    if st = lsClosed ∨ st = lsHold then some (s.setCause e l hcCommand) else none
  else if c = 4 then
    if st = lsHold then
      some (((s.modLp e l fun p => { p with expired := false })).clearCause e l hcCommand)
    else if st = lsClosed then some s
    else if (st = lsOpen ∨ st = lsSearch) ∧ s.mayClose e l then
      some (s.loopClose e l)
    else none
  else none

/-- TLT and BLR go OFF; the drive they had stays as their OPEN_DRIVE (R167). -/
def State.tiltOff (s : State) (h : Nat) : State :=
  s.forEach [2, 3] fun s l =>
    if s.loopState h l = lsOff then s else (s.setRegI 32 (loopKey h l 3) (s.drive h l)).loopOff h l

/-- A loop is dropped on PFW_N, RESET_N, clock loss and, for the head loops, ILK_N (R142): laser-power loops OFF, FOC
ramps to the park level in 1 ms, TRK, TLT and BLR OFF. -/
def State.dropHeadLoops (s : State) (h : Nat) : State :=
  let s := s.forEach (List.range 8) fun s b => s.loopOff h (4 + b)
  let s := s.loopRamp h 0 (s.regI 32 (hdKey h 0x11 9)) 2400
  (s.loopOff h 1).tiltOff h

/-- The motor loops of a station are dropped (R142). -/
def State.dropStationLoops (s : State) (i : Nat) : State :=
  ((s.loopOff (16 + i) 0).loopOff (16 + i) 1).loopOff (16 + i) 2

/-! ### Coefficient sets (R135, R137, R139) -/

/-- Whether INT_SEC and the limits of a set agree (R135): `f` reads its sub-indices. -/
def setOk (nsec isec : Nat) (hi lo : Int) : Bool := (isec < nsec || isec == 0xFF) && decide (lo < hi)

/-- The loops that use an active set: the laser-power set serves every laser-power loop. -/
def setLoops (e g : Nat) : List Nat := if e < 16 ∧ g = 4 then [4, 5, 6, 7, 8, 9, 10, 11] else [g]

/-- Whether the staged set may be copied (R139): ranges of Table 6.9, the rules of R135 and a LOOP_GAIN of R136. -/
def State.stagedOk (s : State) (e : Nat) : Bool :=
  let r := fun j => s.reg (engKey e 6 j)
  let i := fun j => s.regI 32 (engKey e 6 j)
  let q := fun (v : Int) => decide (-8388608 ≤ v) && decide (v ≤ 8388607)
  r 1 ≤ 8 && (r 2 ≤ 7 || r 2 == 0xFF) && r 3 != 0 && r 7 ≤ 16777215
    && q (i 4) && q (i 5) && q (i 6) && q (i 8) && setOk (r 1) (r 2) (i 5) (i 6)

/-- The fields that the vendor loop table gives a set (R137): NSEC of at least 1, INT_SEC below it or none, a LOOP_GAIN that is
not 0, the coefficients of the sections used; the other sections pass their input on. -/
def vendorFields (release cls loop : Nat) : List (Nat × Nat) :=
  let v := Config.vendorSet release cls loop
  let n := 1 + v 1 % 8
  let i := v 2 % 256
  let g := v 3 % 2 ^ 32
  [(1, n), (2, if i < n then i else 0xFF), (3, if g = 0 then 1 else g)]
    ++ (List.range 8).flatMap fun k => (List.range 5).map fun j =>
      (9 + 5 * k + j, if k < n then v (9 + 5 * k + j) % 2 ^ 32 else if j = 0 then 0x4000_0000 else 0)

/-- Load the vendor set of group `g` (R137): values stored through object 0x1010:03 replace it; never while one of its loops is
CLOSED, SEARCH or HOLD. The staged set, whose defaults are those of its TARGET's set (Table 6.10), takes it where nothing has
been written (log entry 50). -/
def State.loadVendor (s : State) (e g cls : Nat) : State :=
  let release := match s.sec.running with | some f => f.release | none => Config.releaseNumber
  if (setLoops e g).any fun l => lsSearch ≤ s.loopState e l then s
  else
    let fields := vendorFields release cls (if e < 16 then g else 5 + g)
    let own := fields.map fun p => (engKey e (1 + g) p.1, p.2)
    let staged := if s.reg (engKey e 6 0x31) = g then
        (fields.map fun p => (engKey e 6 p.1, p.2)).filter fun p => (findKey p.1 s.regs).isNone else []
    let kept := match s.nor.stored with
      | some c => c.nums.filter fun p => own.any (·.1 == p.1) || staged.any (·.1 == p.1)
      | none => []
    ((s.setRegs (own ++ staged)).setRegs kept).modEng e fun v => { v with loaded := if v.loaded.contains g then v.loaded else v.loaded ++ [g] }

/-- Copy the staged set into the active set of group `g`. -/
def State.copyStaged (s : State) (e g : Nat) : State :=
  s.setRegs ((List.range 48).map fun j => (engKey e (1 + g) (j + 1), s.reg (engKey e 6 (j + 1))))

/-- Start an APPLY to group `g` (R139): CLOSED loops take cause APPLY; the copy is made at the next boundary. -/
def State.startApply (s : State) (e g : Nat) : State :=
  s.forEach (setLoops e g) fun s l =>
    let s := if s.loopState e l = lsClosed then s.setCause e l hcApply else s
    s.modLp e l fun p => { p with apply := 1 }

/-- What a sample boundary does to a pending APPLY. -/
def State.applyBoundary (s : State) (e l : Nat) : State :=
  let a := (s.lp e l).apply
  if a = 0 then s
  else if a = 1 then
    let s := s.copyStaged e (grpOf e l)
    s.modLp e l fun p => { p with apply := if bitOf (s.holdCause e l) hcApply then 2 else 0 }
  else if a = 2 then s.modLp e l fun p => { p with apply := 3 }
  else (s.modLp e l fun p => { p with apply := 0 }).clearCause e l hcApply

/-! ### Feed-forward (R143 to R146) -/

/-- The object of a feed-forward table: 0 FOC, 1 TRK. -/
def ffKey (h t : Nat) : Nat := hdKey h (9 + t) 0

/-- Entry `i` of a table's bytes. -/
def ffEntry (b : List Byte) (i : Nat) : Int := toSigned 32 (leNat ((b.drop (4 * (i % 1024))).take 4))

/-- The table with entry `i` at `v`. -/
def ffPut (b : List Byte) (i : Nat) (v : Int) : List Byte :=
  b.take (4 * (i % 1024)) ++ leBytes 4 (ofSigned 32 v) ++ b.drop (4 * (i % 1024) + 4)

/-- The feed-forward output at an angle in 1/65,536 revolution (R143): linear between the two bins that enclose it, zero
in mode OFF, scaled while it ramps (R146). -/
def State.ffOut (s : State) (h t ang : Nat) : Int :=
  if s.reg (hdKey h 8 (1 + t)) = 0 then 0
  else
    let b := s.raw (ffKey h t)
    let j := ang / 64
    let a := ffEntry b j
    let v := a + roundDiv ((ffEntry b (j + 1) - a) * ((ang % 64 : Nat) : Int)) 64
    roundDiv (v * (((s.eng h).ffScale.getD t 0 : Nat) : Int)) 4800

/-- A table is cleared to zero (R145). -/
def State.ffClear (s : State) (h t : Nat) : State :=
  (s.setRaw (ffKey h t) (List.replicate 4096 0)).setReg (hdKey h 8 (9 + t)) 0

/-- Whether a loop's table learns now (R144, R146). -/
def State.ffLearns (s : State) (h t : Nat) : Bool :=
  s.reg (hdKey h 8 (1 + t)) == 1 && !(s.eng h).ffLost && (s.eng h).ffWait.getD t 0 == 0

/-- A sample of the error enters the running bin (R144). -/
def State.ffSample (s : State) (h t : Nat) (e : Int) (held : Bool) : State :=
  s.modEng h fun g => { g with
    ffSum := g.ffSum.modify t (· + e), ffN := g.ffN.modify t (· + 1), ffSkip := g.ffSkip.modify t (· || held)
    ffScale := g.ffScale.modify t fun k => if g.ffLost then k - 1 else min 4800 (k + 1) }

/-- Bin `j` of a table ends (R144, R145, R146). -/
def State.ffBinEnd (s : State) (h t j : Nat) : State :=
  let g := s.eng h
  let n := g.ffN.getD t 0
  let s :=
    if s.ffLearns h t && n != 0 && !(g.ffSkip.getD t false) then
      let i := (j + 1024 - s.reg (hdKey h 8 (7 + t))) % 1024
      let b := s.raw (ffKey h t)
      let mean := roundDiv (g.ffSum.getD t 0) n
      let v := roundDiv ((s.reg (hdKey h 8 (5 + t)) : Int) * ffEntry b i + (s.reg (hdKey h 8 (3 + t)) : Int) * mean) 65536
      let s := s.setRaw (ffKey h t) (ffPut b i (sat24 v))
      if sats v then s.bump (hdKey h 8 (0x0B + t)) else s
    else s
  let learns := s.ffLearns h t
  let s := s.modEng h fun g => { g with
    ffSum := g.ffSum.set t 0, ffN := g.ffN.set t 0, ffSkip := g.ffSkip.set t false, ffWait := g.ffWait.modify t (· - 1) }
  if j = 1023 then
    let s := if learns then s.bump (hdKey h 8 (9 + t)) else s
    match (s.eng h).ffNew.getD t none with
    | some b => (s.setRaw (ffKey h t) b).modEng h fun g => { g with ffNew := g.ffNew.set t none }
    | none => s
  else s

/-- Observer loss and re-acquisition as feed-forward sees them (R146): learning resumes after the bin under way and a full
revolution's 1,024. -/
def State.ffLoss (s : State) (st : Nat) : State :=
  s.forEach [2 * st, 2 * st + 1] fun s h => s.modEng h fun g => { g with ffLost := true }
def State.ffReturn (s : State) (st : Nat) : State :=
  s.forEach [2 * st, 2 * st + 1] fun s h => s.modEng h fun g =>
    if g.ffLost then { g with ffLost := false, ffWait := [1025, 1025] } else g

/-! ### The sample (R128 to R134, R147 to R149) -/

/-- What the chain of sections gives: outputs of the sections, the new delay lines, and whether any saturated. -/
structure ChainOut where
  x : Int
  taps : List Int
  x1 : List Int
  x2 : List Int
  y1 : List Int
  y2 : List Int
  sat : Bool
  deriving DecidableEq, Repr

/-- One section of the chain (chapter 6, "Arithmetic of a loop"; R132 for the anti-windup of the integrator). -/
def chainStep (coef : Nat → Nat → Int) (isec : Nat) (clampDir : Int) (c : ChainOut) (k : Nat) : ChainOut :=
  let x1 := c.x1.getD k 0; let x2 := c.x2.getD k 0; let y1 := c.y1.getD k 0; let y2 := c.y2.getD k 0
  if k = isec ∧ ((clampDir = 1 ∧ 0 < c.x) ∨ (clampDir = -1 ∧ c.x < 0)) then
    { c with x := y1, taps := c.taps ++ [y1] }
  else
    let v := sectionSum (coef k 0) (coef k 1) (coef k 2) (coef k 3) (coef k 4) c.x x1 x2 y1 y2
    let y := sat24 v
    { x := y, taps := c.taps ++ [y], x1 := c.x1.set k c.x, x2 := c.x2.set k x1, y1 := c.y1.set k y
      y2 := c.y2.set k y1, sat := c.sat || sats v }

/-- The chain over the sections in use. -/
def State.chain (s : State) (e l : Nat) (x : Int) : ChainOut :=
  let p := s.lp e l
  let coef := fun k j => s.regI 32 (setKey e l (9 + 5 * k + j))
  (List.range (s.reg (setKey e l 1))).foldl (chainStep coef (s.reg (setKey e l 2)) p.clamp)
    ⟨x, [], p.x1, p.x2, p.y1, p.y2, false⟩

/-- Limits and slew (R132). -/
def limitDrive (hi lo w prev : Int) (slew : Nat) : Int :=
  let c := clampInt lo hi w
  if slew = 0 then c else clampInt (prev - slew) (prev + slew) c

/-- The supervisor's model and residual (chapter 6, "Plausibility supervisor"): xh, eh and r. -/
def State.supervise (s : State) (e l : Nat) (err : Int) : Int × Int × Int :=
  let p := s.lp e l
  let m := fun j => s.regI 32 (engKey e 7 (0x29 + 4 * grpOf e l + j))
  let xh := roundDiv (cutProduct (m 0) p.xh1 + cutProduct (m 1) p.xh2 + cutProduct (m 2) p.u1 + cutProduct (m 3) p.u2)
    (2 ^ 8)
  let eh := 2 * p.e1 - p.e2 - ((xh - p.xh1) - (p.xh1 - p.xh2))
  (xh, eh, err - eh)

/-- Whether the loop has a sense return (tap 13; chapter 6, "Plausibility supervisor"). -/
def hasSense (e l : Nat) : Bool := if e < 16 then l ≤ 2 else true

/-- Loop sample rates in Hz (Table 6.1). -/
def loopRate (e l : Nat) : Nat :=
  if e < 16 then (if l ≤ 1 then 2400000 else if l = 2 then 48000 else if l = 3 then 12000 else 192000)
  else if l = 0 then 8000 else 20000

/-- Whether the injector drives this loop (R151, R153, R185). -/
def State.injects (s : State) (e l : Nat) : Bool :=
  match (s.eng e).inj with
  | .free => false
  | .dict => s.reg (engKey e 0x0B 2) == l
  | .measure m => m == l
  | .cal m => m == l

/-- The injection point in use: a measurement and a calibration inject at the output summing point (R153, R185). -/
def State.injPoint (s : State) (e : Nat) : Nat :=
  match (s.eng e).inj with
  | .dict => s.reg (engKey e 0x0B 3)
  | _ => 1

/-- A sine of amplitude `a` at a phase in `d` parts of a turn. -/
def sineOf (a n d : Nat) : Int := roundDiv ((a : Int) * sinTurn n d) (2 ^ 30)

/-- A PRBS of an order and amplitude, `hold` samples a chip (R151); the chips are free values. -/
def prbsOf (a order hold n : Nat) : Int :=
  if Config.prbsChip order (n / max 1 hold % (2 ^ order - 1)) then (a : Int) else -(a : Int)

/-- The signal d of sample `n` (R151): a sine at INJ_FREQ, a logarithmic sweep, which begins again when SWEEP_TIME has passed, or a
PRBS, of amplitude INJ_AMPL; a measurement's sine at the frequency of its point; a calibration's PRBS of order 11. -/
def State.injSignal (s : State) (e l n : Nat) : Int :=
  let r := fun j => s.reg (engKey e 0x0B j)
  let rate := loopRate e l
  match (s.eng e).inj with
  | .free => 0
  | .dict =>
    if r 4 = 1 then sineOf (r 5) (n * r 6) (10 * rate)
    else if r 4 = 2 then
      let total := rate * r 9 / 1000
      sineOf (r 5) (sweepTurn (r 7) (r 8) (n % total) total rate) (2 ^ 30)
    else prbsOf (r 5) (r 0x0A) (r 0x0B) n
  | .measure _ =>
    match (s.eng e).meas with
    | some m => sineOf (r 5) (m.n * freqAt (r 7) (r 8) m.k (m.points - 1)) (10 * rate)
    | none => 0
  | .cal _ => prbsOf (s.reg (hdKey e 0x19 7)) 11 1 n

/-- One sample of a running loop measurement (R153 steps 3 and 4, R154): four cycles of the point pass, then v and v + d are taken
against cosine and sine over CYCLES cycles; a HOLD or a drive at a limit fails it. -/
def State.measSample (s : State) (e l : Nat) (held atLimit : Bool) (v d : Int) : State :=
  match (s.eng e).meas with
  | none => s
  | some m =>
    if m.loop ≠ l ∨ m.fail ≠ 0 ∨ m.points ≤ m.k then s
    else if held ∨ atLimit then s.modEng e fun g => { g with meas := some { m with fail := if held then 2 else 5 } }
    else
      let f := freqAt (s.reg (engKey e 0x0B 7)) (s.reg (engKey e 0x0B 8)) m.k (m.points - 1)
      let unit := 10 * loopRate e l
      let x := m.n * f
      if x < 4 * unit then s.modEng e fun g => { g with meas := some { m with n := m.n + 1 } }
      else if x < (4 + m.cycles) * unit then
        let c := cosTurn x unit
        let q := -sinTurn x unit
        s.modEng e fun g => { g with meas := some { m with
          n := m.n + 1, acc := List.zipWith (· + ·) m.acc [v * c, v * q, (v + d) * c, (v + d) * q] } }
      else
        let (lf, s) := match loopGain m.acc with
          | some y => (y, s)
          | none => let n := s.fresh; ((toSigned 32 (Config.freeValue n.1), toSigned 32 (Config.freeValue n.1)), n.2)
        s.modEng e fun g => { g with meas := some { m with k := m.k + 1, n := 0, acc := [0, 0, 0, 0], resp := m.resp ++ [(f, lf)] } }

/-- One sample of a running CALIBRATE_LOOP (R185 step 3): the error's second difference, negated, is fitted from its own last two
values and the last two second differences of the sense return. -/
def State.calSample (s : State) (e l : Nat) (held : Bool) (err u : Int) : State :=
  match (s.eng e).calRun with
  | none => s
  | some c =>
    if c.loop ≠ l ∨ s.reg (hdKey e 0x19 8) ≤ c.n then s
    else
      let p := s.lp e l
      let a := -(err - 2 * p.e1 + p.e2)
      let w := u - 2 * p.u1 + p.u2
      s.modEng e fun g => { g with calRun := some { c with
        n := c.n + 1, a := [a, c.a.getD 0 0], w := [w, c.w.getD 0 0], held := c.held || held
        sums := if 4 ≤ c.n then addProducts c.sums (c.a ++ c.w ++ [a]) else c.sums } }

/-- A captured tap (Table 6.14); a section at or beyond NSEC passes its input on (R129). -/
def tapValue (t : Nat) (err : Int) (secs : List Int) (x v ff d drive u r eh : Int) : Int :=
  if t = 0 then err else if t ≤ 8 then secs.getD (t - 1) x else if t = 9 then v else if t = 10 then ff
  else if t = 11 then d else if t = 12 then drive else if t = 13 then u else if t = 14 then r else eh

/-- Put one sample of the captured loop into the buffer (R152); an armed capture keeps the last PRE_TRIGGER samples, and sees
whether tap A lies above CAP_LEVEL. -/
def State.capSample (s : State) (e l : Nat) (tap : Nat → Int) : State :=
  let g := s.eng e
  let c := g.capSet
  if g.cap = .idle ∨ c.loop ≠ l ∨ 16384 ≤ g.capBuf.length then s
  else
    let a := tap c.tapA
    s.modEng e fun g =>
      let buf := if g.capN % c.decim = 0 then g.capBuf ++ [(a, tap c.tapB)] else g.capBuf
      { g with capN := (g.capN + 1) % c.decim
               capBuf := if g.cap = .armed then buf.drop (buf.length - c.pre) else buf
               capEvent := if c.trigger = 3 then decide (c.level < a) else g.capEvent }

/-- The supervisor's running counts after a sample. -/
def State.superviseStep (s : State) (e l : Nat) (err u drive xh r : Int) : State :=
  let lim := (s.reg (supKey e l 2) : Int)
  let vw := s.reg (supKey e l 4)
  s.modLp e l fun p =>
    let fresh := p.winN = 0 ∨ vw ≤ p.winN
    { p with
      xh1 := xh, xh2 := p.xh1, e1 := err, e2 := p.e1, u1 := u, u2 := p.u1
      resRun := if lim < r.natAbs then p.resRun + 1 else 0
      retRun := if lim < r.natAbs then 0 else p.retRun + 1
      winN := if fresh then 1 else p.winN + 1
      winSum := if fresh then err else p.winSum + err
      winSq := if fresh then err * err else p.winSq + err * err
      winLo := if fresh then drive else min p.winLo drive
      winHi := if fresh then drive else max p.winHi drive
      lathe := if bitOf (s.holdCause e l) hcLathe then p.lathe + 1 else 0 }

/-- The drive of a ramp after one more sample. -/
def rampAt (from_ to_ : Int) (k n : Nat) : Int := from_ + roundDiv ((to_ - from_) * (k : Int)) n

/-- The word or code that a drive leaves the engine with (R133, R175): a laser's power word, or a DAC code after
POLARITY_OVERRIDE. -/
def State.driveCode (s : State) (e l : Nat) (drv : Int) : Int :=
  if e < 16 ∧ 4 ≤ l then min 65535 (max 0 drv / 128)
  else dacCode (if e < 16 && l ≤ 3 && bitOf (s.reg (hdKey e 0x0F 1)) l then -drv else drv)

/-- The drive of a loop at a sample (R132, R134): computed in CLOSED, with the chain's new delay lines; OPEN_DRIVE or a ramp in
OPEN and SEARCH; frozen in HOLD. -/
def State.driveSample (s : State) (e l : Nat) (c : ChainOut) (w d : Int) : State :=
  let st := s.loopState e l
  let hi := s.regI 32 (setKey e l 5)
  let lo := s.regI 32 (setKey e l 6)
  if st = lsClosed then
    let drv := limitDrive hi lo w (s.drive e l) (s.reg (setKey e l 7))
    (s.modLp e l fun p =>
      { p with x1 := c.x1, x2 := c.x2, y1 := c.y1, y2 := c.y2, clamp := if hi < w then 1 else if w < lo then -1 else 0 }).setDrive e l drv
  else if st = lsOpen ∨ st = lsSearch then
    match (s.lp e l).ramp with
    | some (a, b, k, n) =>
      let s := s.modLp e l fun p => { p with ramp := if n ≤ k + 1 then none else some (a, b, k + 1, n) }
      s.setDrive e l (rampAt a b (k + 1) n)
    | none => if st = lsOpen then s.setDrive e l (s.regI 32 (loopKey e l 3) + (if s.injPoint e = 1 then d else 0)) else s
  else if st = lsOff then s.setDrive e l 0
  else s

/-- A new trim of an actuator DAC is applied in steps of 0.01 % per loop sample (R458). -/
def State.trimStep (s : State) (e l : Nat) : State :=
  if e < 16 ∧ l < 4 then
    let dst := s.regI 16 (key (0x2420 + e) (0x1C + 2 * l))
    let at_ := (s.eng e).trims.getD l 0
    if at_ = dst then s
    else
      let v := if at_ < dst then at_ + 1 else at_ - 1
      (s.modEng e fun g => { g with trims := g.trims.set l v }).emit (.trim e l v)
  else s

/-- One sample of a loop (R128 to R134, R143, R147): `err` is the error input, `u` the sense return, `ang` the spindle's fine angle
in 1/65,536 revolution. SATURATIONS counts a sample of CLOSED in which a section or v saturates (R131), and any sample whose
drive lies at a limit (R132): twice where both hold (DESIGN CHOICE, log entry 48). -/
def State.loopSample (s : State) (e l : Nat) (err u : Int) (ang : Nat) : State :=
  let s := s.modEng e fun g => { g with latheW := g.latheW.filter fun w => w.1 != grpOf e l }
  let s := (s.applyBoundary e l).releaseIfFree e l
  let st := s.loopState e l
  let on := s.injects e l
  let d := if on && (st == lsClosed || st == lsOpen) then s.injSignal e l (s.eng e).injN else 0
  let s := if on then s.modEng e fun g => { g with injN := g.injN + 1 } else s
  let ff := if e < 16 ∧ l ≤ 1 then s.ffOut e l ang else 0
  let c := if st = lsClosed then s.chain e l (if s.injPoint e = 0 then sat24 (err + d) else err)
    else ⟨0, [], [], [], [], [], false⟩
  let v0 := roundDiv (s.regI 32 (setKey e l 3) * c.x) (2 ^ 24) + s.regI 32 (setKey e l 4)
  let v := if st = lsClosed then sat24 v0 else 0
  let s := if st = lsClosed ∧ (c.sat ∨ sats v0) then s.bump (cntKey e l 2) else s
  let s := s.driveSample e l c (v + ff + (if s.injPoint e = 1 then d else 0)) d
  let drv := s.drive e l
  let lim := drv == s.regI 32 (setKey e l 5) || drv == s.regI 32 (setKey e l 6)
  let s := if lim then s.bump (cntKey e l 2) else s
  let um := if hasSense e l then u else drv
  let (xh, eh, r) := s.supervise e l err
  let s := (s.measSample e l (st == lsHold) lim v d).calSample e l (st == lsHold) err um
  let s := s.superviseStep e l err um drv xh r
  let s := s.modLp e l fun p => { p with
    age := if st = lsHold then 0 else p.age + 1, ang := ang, turn := p.turn + (ang + 65536 - p.ang) % 65536 }
  let s := if e < 16 ∧ l ≤ 1 then s.ffSample e l err (st == lsHold || (s.hd e).sense.defect) else s
  let s := s.capSample e l fun t => tapValue t err c.taps c.x v ff d drv um r eh
  (s.trimStep e l).emit (.drive e l (s.driveCode e l drv))

/-! ### Supervisor decisions -/

/-- The sequencer that receives a loop's traps (Table 9.4): a sled loop's go to its head's sequencer. -/
def trapSeq (e l : Nat) : Nat := if e < 16 then e else if l = 0 then e else 2 * (e - 16) + (l - 1)

/-- RESIDUAL or FROZEN sets a hold, raises SUPERVISOR_ALARM and posts a record (R147, R148, Table 6.5). -/
def State.superviseHold (s : State) (e l bit : Nat) : State :=
  let s := s.setCause e l bit
  let cause := s.holdCause e l
  let s := s.raiseTrap (trapSeq e l) trapSupervisor (2 ^ l) cause
  s.note 0x0401 (engSource e) (leBytes 1 l ++ leBytes 1 cause)

/-- The end of a variance window (R148, R149): N²·variance = N·Σe² − (Σe)². -/
def State.windowEnd (s : State) (e l : Nat) : State :=
  let p := s.lp e l
  let n := (p.winN : Int)
  let low := decide (n * p.winSq - p.winSum * p.winSum < (s.reg (supKey e l 5) : Int) * n * n)
  let moved := decide ((s.reg (supKey e l 6) : Int) < p.winHi - p.winLo)
  let s := s.modLp e l fun p => { p with winN := 0 }
  if s.reg (supKey e l 4) ≤ p.winN then
    if low && moved && bitOf (s.reg (supKey e l 1)) 1 && s.loopState e l == lsClosed then s.superviseHold e l hcFrozen
    else if !low then s.clearCause e l hcFrozen
    else s
  else s

/-- A hold window passes (R150). -/
def State.windowExpired (s : State) (e l : Nat) : State :=
  let cause := s.holdCause e l
  let s := (s.modLp e l fun p => { p with window := false, expired := true }).bump (cntKey e l 1)
  (s.raiseTrap (trapSeq e l) trapHoldExpired (2 ^ l) cause).note 0x0402 (engSource e) (leBytes 1 l ++ leBytes 1 cause)

/-! ### Capture and measurement (R151 to R154) -/

/-- Whether a loop has a tap (Table 6.14). -/
def tapExists (e l t : Nat) : Bool := t ≤ 15 && (t != 13 || hasSense e l)

/-- A capture is armed (R152) with the settings that stand now. -/
def State.capArm (s : State) (e : Nat) : State :=
  let r := fun j => s.reg (engKey e 0x0B j)
  (s.beginResult (engIx e 0x0C)).modEng e fun g => { g with
    cap := .armed, capBuf := [], capN := 0, capEvent := false
    capSet := ⟨r 0x0C, r 0x0D, r 0x0E, r 0x0F, r 0x10, s.regI 32 (engKey e 0x0B 0x11), r 0x12, r 0x13⟩ }

/-- The bytes of the capture data object. -/
def capBytes (b : List (Int × Int)) : List Byte :=
  b.flatMap fun p => leBytes 4 (ofSigned 32 p.1) ++ leBytes 4 (ofSigned 32 p.2)

/-- A measurement starts, or the code with which it fails at once (R153, R154). -/
def State.measureStart (s : State) (e l points cycles : Nat) (object : Bool) : State × Nat :=
  if (s.eng e).inj ≠ .free then (s, 0x0F56_0004)
  else if s.loopState e l ≠ lsClosed then (s, 0x0F56_0003)
  else
    let ff := if e < 16 ∧ l ≤ 1 then s.reg (hdKey e 8 (1 + l)) else 0
    let s := s.modEng e fun g => { g with
      inj := .measure l, injN := 0
      meas := some ⟨l, if points = 0 then 32 else points, if cycles = 0 then 16 else cycles, ff, object, 0, 0, [0, 0, 0, 0], [], 0⟩ }
    (if e < 16 ∧ l ≤ 1 ∧ ff = 1 then s.setReg (hdKey e 8 (1 + l)) 2 else s, 0)

end Sys2Proof.Machine
end

