-- ==== Sys2Proof/Machine/Head.lean ====
section
/-! DEFINITION. The head's Lathe routines and protections (chapter 7): lasers, focus and tracking acquisition, jumps,
park, write guards, defects, the PKL and the recoveries. -/

namespace Sys2Proof.Machine

/-! ### Lasers (R175, R20, R21) -/

/-- Whether a laser of the head may be on: ILK_N closed, no power-fail, no RESET_N (R21). -/
def State.laserAllowed (s : State) (h : Nat) : Bool :=
  !s.ilkOpen (h / 2) && !s.power.latched && !s.power.resetLow

/-- A message to the pickup over the PKL (Table 9.1, R305). -/
def State.sendPkl (s : State) (h kind data : Nat) : State := s.emit (.pkl h kind data)

/-- Beams of Blu-ray Disc operation (R186) or of the part. -/
def State.litMask (s : State) (h : Nat) : Nat :=
  if s.reg (stKey (h / 2) 0 6) = 1 then 1 else 2 ^ s.beams - 1

/-- Switch a beam on (R175): its loop closes with PRESET at zero, and P_set ramps to READ_POWER over LASER_RAMP at 192
kS/s. A beam that is lit stays as it is; one whose loop has LOOP_GAIN 0 does not close, and stays off (R136). -/
def State.laserOn (s : State) (h b : Nat) : State :=
  if s.laserAllowed h && b < s.beams && !s.noGain h (4 + b) && !(bitOf (s.reg (hdKey h 0x16 0x13)) b && lsHold ≤ s.loopState h (4 + b)) then
    let s := s.setRegBit (hdKey h 0x16 0x13) b true
    let n := max 1 (s.reg (hdKey h 0x16 0x11) * 192 / 1000)
    ((s.loopOpen h (4 + b)).loopClose h (4 + b)).modLp h (4 + b) fun p => { p with
      y1 := Loop.init.y1, y2 := Loop.init.y2, ramp := some (0, (s.reg (hdKey h 0x16 (1 + b)) : Int), 0, n) }
  else s

/-- Switch a beam off (R175): its loop goes to OFF and sends power word 0; its write gate closes with it. -/
def State.laserOff (s : State) (h b : Nat) : State :=
  let s := ((s.cutBeam h b).gatesView h).loopOff h (4 + b)
  (s.setRegBit (hdKey h 0x16 0x13) b false).emit (.drive h (4 + b) 0)

def State.lasersOff (s : State) (h : Nat) (bs : List Nat) : State := s.forEach bs fun s b => s.laserOff h b

/-! ### Substates and faults (R108) -/

/-- What waits to be read back once the running band ends where it stands (R316): its clusters written so far as well. -/
def Head.written (d : Head) : List Nat :=
  match d.band with
  | some b => d.toVerify ++ b.written
  | none => d.toVerify

/-- The orders of a recovery that wait go with it (R184). -/
def State.dropRecovery (s : State) (h : Nat) : State :=
  s.modSq h fun q =>
    let w := q.waiting.filter fun o => o.origin != .trapret
    match q.slot with
    | some o => if o.origin = .trapret then { q with slot := w.head?, waiting := w.drop 1 } else { q with waiting := w }
    | none => { q with waiting := w }

/-- What takes a head to LASER_OFF by hardware (R142, R118, R177): gates close, lasers go off, loops drop, a recovery
ends at once (R184). -/
def State.headDrop (s : State) (h : Nat) : State :=
  let s := (((s.closeGates h).lasersOff h (List.range 8)).dropHeadLoops h).dropRecovery h
  let k := s.reg (hdKey h 0x13 1)
  let s := s.modHd h fun d => { d with
    recovery := 0, confirm := false, band := none, toVerify := d.written, atLayer := if k = 0xFF then d.atLayer else k
    kickF := none, kickT := none }
  (s.setReg (hdKey h 0x13 1) 0xFF).setSubstate h hsOff

/-- A head is set to HEAD_FAULT (R108): LASER_OFF, record 0x0405 with the cause (0 focus recovery, 1 overpower, 2 PKL,
3 acquisition), its bit in DEGRADED. -/
def State.setHeadFault (s : State) (h cause : Nat) : State :=
  let s := s.headDrop h
  let s := (s.setRegBit (hdStKey h) 7 true).setRegBit (stKey (h / 2) 0xE0 4) (h % 2) true
  s.note 0x0405 (engSource h) (leBytes 1 cause)

/-- PARK's effect (R163). -/
def State.parkHead (s : State) (h : Nat) : State := s.headDrop h

/-! ### Recoveries (R182 to R184) -/

/-- Send the spherical-aberration word of a layer (R161); the layers are 0 to 7. -/
def State.sendSa (s : State) (h layer : Nat) : State :=
  if layer < 8 then
    let w := s.reg (hdKey h 0x15 (1 + layer))
    ((s.setReg (hdKey h 0x15 0x0A) w).setReg (hdKey h 0x15 0x0C) 1).sendPkl h 1 w
  else s

/-- Start a focus recovery: the interrupted order ends ABORTED and the search for the layer the head was on is queued at priority
1 (R182, R236). -/
def State.focusRecovery (s : State) (h : Nat) : State :=
  let layer := if s.reg (hdKey h 0x13 1) = 0xFF then (s.hd h).atLayer else s.reg (hdKey h 0x13 1)
  let s := (s.closeGates h).lasersOff h [1, 2, 3, 4, 5, 6, 7]
  let s := s.loopRamp h 0 (s.regI 32 (hdKey h 0x11 9)) 2400
  let s := (s.loopOff h 1).tiltOff h
  let s := (s.bump (hdKey h 0x19 2)).setSubstate h hsSearch
  let s := s.endWhole h latheAborted 0 0
  let s := s.modHd h fun d => { d with
    recovery := 1, confirm := false, band := none, toVerify := d.written, atLayer := layer, kickF := none, kickT := none }
  s.offerOrder h ⟨1, layer, 0, .trapret⟩

/-- The station processor re-acquires a head that hardware dropped, as after a focus recovery (R177, R225): the search
for the layer it was on, then TRACK_ON and FOLLOW. -/
def State.reacquire (s : State) (h : Nat) : State :=
  let s := s.modHd h fun d => { d with recovery := 1, confirm := false }
  s.offerOrder h ⟨1, (s.hd h).atLayer, 0, .station⟩

/-- A focus recovery fails: it runs again, and after three failures in succession the head is faulted (R182). -/
def State.focusRecoveryFailed (s : State) (h : Nat) : State :=
  let n := s.reg (hdKey h 0x19 4) + 1
  let s := s.setReg (hdKey h 0x19 4) (min n 3)
  if 3 ≤ n then s.setHeadFault h 0 else s.focusRecovery h

/-- Start a tracking recovery (R183): FOLLOW with PARAM 1 is to return the pilot to the track it was on. -/
def State.trackRecovery (s : State) (h : Nat) : State :=
  let s := (s.closeGates h).loopOpen h 1
  let s := (s.bump (hdKey h 0x19 3)).setSubstate h hsFocused
  let s := s.endWhole h latheAborted 0 0
  let s := s.modHd h fun d => { d with
    recovery := 2, confirm := false, band := none, toVerify := d.written, jumpTarget := s.reg (hdKey h 0x13 2), kickT := none }
  s.offerOrder h ⟨5, 1, 0, .trapret⟩

/-- A recovery in progress fails (R182, R183). -/
def State.recoveryFailed (s : State) (h : Nat) : State :=
  let d := s.hd h
  if d.recovery = 1 then s.focusRecoveryFailed h
  else if d.recovery = 2 then
    let s := s.modHd h fun d => { d with trkFails := d.trkFails + 1 }
    if 3 ≤ d.trkFails + 1 then (s.modHd h fun d => { d with trkFails := 0 }).focusRecovery h else s.trackRecovery h
  else s

/-- An order of the head ends FAILED; in a recovery that is the recovery's failure. -/
def State.headFail (s : State) (h code : Nat) : State := (s.orderFailed h code).recoveryFailed h

/-- What a failed FOCUS_ON leaves (R165): laser off, FOC ramps to the park level, LASER_OFF. -/
def State.focusParked (s : State) (h : Nat) : State :=
  let s := s.lasersOff h (List.range 8)
  let s := s.loopRamp h 0 (s.regI 32 (hdKey h 0x11 9)) 2400
  (s.setReg (hdKey h 0x13 1) 0xFF).setSubstate h hsOff

/-- A failed FOCUS_ON (R165). -/
def State.focusFail (s : State) (h code : Nat) : State := (s.focusParked h).headFail h code

/-- FOC would close with LOOP_GAIN 0 (R136): the order ends REJECTED; the search has nothing to hold. -/
def State.focusUnclosed (s : State) (h : Nat) : State := ((s.focusParked h).orderRejected h 4).recoveryFailed h

/-- An axis responds reversed (R166). -/
def State.polarityRefused (s : State) (h axis : Nat) : State :=
  let s := (s.setRegBit (hdKey h 0x0F 2) axis true).bump (hdKey h 0x0F 3)
  let s := (s.loopOff h 1).tiltOff h
  s.focusFail h 0x0F57_0011

/-! ### FOCUS_ON (R164, R165) -/

/-- Whether FOCUS_ON is accepted now (R162, Table 7.1, R108): a recovery's starts from FOCUS_SEARCH, which its focus recovery has
set. -/
def State.focusOk (s : State) (h : Nat) : Bool :=
  let st := s.stState (h / 2)
  let own := (s.hd h).recovery == 1 && s.substate h == hsSearch && (s.sq h).running.any fun o => o.origin != .direct
  (s.substate h == hsOff || own) && !s.headFault h && !s.headUnused h
    && stSpinning ≤ st && st ≤ stMaint && !s.ilkOpen (h / 2) && (s.hd h).pklUp && (s.hd h).identity

/-- The sign of a number. -/
def signInt (x : Int) : Int := if 0 < x then 1 else if x < 0 then -1 else 0

/-- An S-curve of the forward pass is complete (R164 step 3, R166): the first tells the polarity; the first whose SUM stays below
SURFACE_SUM is the entrance surface; those after it count. -/
def Scan.curveDone (c : Scan) (dark : Bool) : Scan :=
  { c with
    reversed := c.reversed || (c.first == -1), surface := c.surface || dark, n := if c.surface then c.n + 1 else c.n
    half := 0, lobe := 0 }

/-- One sample of the search (R164): a lobe is a run of samples of one sign (DESIGN CHOICE, log entry 118). Forward, curves are
counted as their second lobe ends; back, a curve's first lobe is negative, and FOC is to close at the zero crossing of curve
`goal` + 1 if SUM is at least CAPTURE_SUM there. -/
def Scan.step (c : Scan) (surf capt expected : Nat) (fe sum drive slope : Int) : Scan :=
  let g := signInt fe
  let c := { c with cross := false, fe := fe, drive := drive }
  let dark := decide (c.peak * 100 < ((surf * expected : Nat) : Int))
  let begin_ := fun (c : Scan) =>
    if g = 0 then c else { c with lobe := g, half := 1, peak := sum, first := if c.first = 0 then g else c.first }
  if c.half = 0 then begin_ c
  else if g = c.lobe then { c with peak := max c.peak sum }
  else if c.half = 1 then
    if c.back then
      if c.lobe = -1 ∧ g = 1 then
        { c with n := c.n + 1, lobe := g, half := 2, slope := slope
                 cross := decide (c.n = c.goal) && decide (((capt * expected : Nat) : Int) ≤ sum * 100) }
      else if g = 0 then c else { c with lobe := g, half := 1 }
    else if g = 0 then c else { c with lobe := g, half := 2, peak := max c.peak sum }
  else if c.back then begin_ { c with half := 0, lobe := 0 }
  else begin_ (c.curveDone dark)

/-- The count of a finished forward pass: a last curve whose second lobe has begun is one of it. -/
def Scan.counted (c : Scan) : Nat := if c.half = 2 ∧ c.surface then c.n + 1 else c.n

/-- One sample of FE and SUM in a search. -/
def State.scanSample (s : State) (h : Nat) (fe : Int) : State :=
  if s.loopState h 0 = lsSearch then
    let d := s.hd h
    let slope := Config.feSlope h (fe - d.scan.fe) (s.drive h 0 - d.scan.drive)
    let c := d.scan.step (s.reg (hdKey h 0x11 6)) (s.reg (hdKey h 0x11 5)) (Config.expectedSum h) fe d.sense.sum (s.drive h 0) slope
    s.modHd h fun d => { d with scan := c }
  else s

/-- Whether an age of a loop of 2.4 MS/s is at least a time in µs. -/
def State.aged (s : State) (h l us : Nat) : Bool := s.loopState h l == lsClosed && decide (us * 24 ≤ (s.lp h l).age * 10)

/-- FOC closes at the drive of this instant, which is PRESET (R136, R164, R169), with the slope measured. -/
def State.focusClose (s : State) (h : Nat) (slope : Int) : State :=
  let d := s.drive h 0
  (((s.setRegI 32 (setKey h 0 8) (sat24 d)).loopClose h 0).setDrive h 0 d).setRegI 32 (hdKey h 0x10 5) slope

/-- One event of a focus search for layer `k`; `fin` ends the order that searches. Each acts only when the samples bear it out: the
ramp has ended, the crossing is the last sample's, the window of FOCUS_CONFIRM has passed quietly. -/
def State.focusSearch (s : State) (h k : Nat) (ev : FocusEvent) (fin : State → State) : State :=
  let c := (s.hd h).scan
  let ended := s.loopState h 0 == lsSearch && (s.lp h 0).ramp.isNone
  match ev with
  | .begin => s
  | .reversed => if s.loopState h 0 = lsSearch ∧ c.reversed then s.polarityRefused h 0 else s
  | .forward =>
    if ended ∧ ¬ c.back then
      let n := c.counted
      let s := (s.setReg (hdKey h 0x11 0x0B) n).setRegBit (hdKey h 0x0F 2) 0 false
      if n ≤ k then s.focusFail h 0x0F57_0012
      else
        let a := s.regI 32 (hdKey h 0x11 1)
        let b := s.regI 32 (hdKey h 0x11 2)
        (s.modLp h 0 fun p => { p with ramp := some (b, a, 0, 4 * 2400 * s.reg (hdKey h 0x11 3)) }).modHd h fun d => { d with
          scan := { Scan.init with back := true, goal := k } }
    else s
  | .passEnd =>
    if ended ∧ c.back then
      if s.reg (hdKey h 0x11 4) ≤ (s.hd h).tries then s.focusFail h 0x0F57_0010
      else (s.modHd h fun d => { d with tries := d.tries + 1 }).searchRamp h
    else s
  | .closed =>
    if s.loopState h 0 = lsSearch ∧ c.cross then
      (if s.noGain h 0 then s.focusUnclosed h else s.focusClose h c.slope)
    else s
  | .confirmed =>
    if s.aged h 0 (s.reg (hdKey h 0x11 7)) ∧ (s.hd h).sense.confOk then
      fin ((s.setSubstate h hsFocused).setReg (hdKey h 0x13 1) k)
    else s

/-- RETURN of a search (R164 step 5): N_found in bits 7..0, the layer in bits 15..8. -/
def State.searchReturn (s : State) (h k : Nat) : Nat := s.reg (hdKey h 0x11 0x0B) % 256 + k * 256

/-- FOCUS_ON ends DONE; a recovery goes on with TRACK_ON. -/
def State.focusDone (s : State) (h k : Nat) : State :=
  let s := s.orderDone h (s.searchReturn h k)
  if (s.hd h).recovery = 1 then s.offerOrder h ⟨2, 0, 0, .trapret⟩ else s

/-- FOCUS_ON (R162, R164). -/
def State.focusOn (s : State) (h : Nat) (ev : FocusEvent) : State :=
  if !s.runs h 1 then s
  else
    let k := (s.sq h).param % 16
    if (s.sq h).started = 0 then
      if !s.focusOk h then s.orderRejected h 1
      else if s.noGain h 4 then s.orderRejected h 4
      else
        let s := s.modSq h fun q => { q with started := 1 }
        let s := (s.modHd h fun d => { d with tries := 0 }).setRegBit (hdKey h 0x16 0x14) 0 false
        ((s.laserOn h 0).sendSa h k).searchRamp h |>.setSubstate h hsSearch
    else s.focusSearch h k ev fun s => s.focusDone h k

/-! ### TRACK_ON (R167) -/

/-- The lasers of the other beams come on, and beams 1 to 7 leave BEAMS_OUT (R167, R176, R184, R186). -/
def State.lightBeams (s : State) (h : Nat) : State :=
  let s := s.setReg (hdKey h 0x16 0x14) (s.reg (hdKey h 0x16 0x14) % 2)
  s.forEach ((bitsIn 8 (s.litMask h)).filter (0 < ·)) fun s b => s.laserOn h b

/-- Whether the last TRK sample was a crossing at which TRK may close (R167 step 3): the push-pull signal, with the sign of the
track the pilot's spiral is, falls through zero (R157; DEDUCED, log entry 119). -/
def State.validCrossing (s : State) (h : Nat) : Bool :=
  let g := s.signOf h (s.reg (hdKey h 0x13 3))
  let d := (s.hd h).sense
  decide (0 < g * d.pp1) && decide (g * d.pp ≤ 0)

/-- The loops of the tilt and the rotation that the medium has: BLR stays OFF on Blu-ray Disc (R186). -/
def State.tiltLoops (s : State) (h : Nat) : List Nat := if s.reg (stKey (h / 2) 0 6) = 1 then [2] else [2, 3]

/-- Loops enter OPEN at their present drive. -/
def State.openAtDrive (s : State) (h : Nat) (ls : List Nat) : State :=
  s.forEach ls fun s l => (s.setRegI 32 (loopKey h l 3) (s.drive h l)).loopOpen h l

/-- TLT and BLR stay OPEN at their last drive after an acquisition (R167): those that are OFF open at it. -/
def State.tiltOpen (s : State) (h : Nat) : State :=
  s.forEach (s.tiltLoops h) fun s l => if s.loopState h l = lsOff then s.loopOpen h l else s

/-- One sample of TE in TRACK_ON (R166, R167): TE_PEAK's measurement, then the pulse of TRK_KICK and what TE does under it: a
positive drive moves the pilot outward, which lowers TE (R157). -/
def State.trackSample (s : State) (h : Nat) (te : Int) : State :=
  if s.loopState h 1 ≠ lsOpen then s
  else
    let d := (s.hd h).sense
    let s := s.modHd h fun x => { x with sense := { x.sense with tePeak := max x.sense.tePeak te.natAbs } }
    if d.chk ≠ 1 then s
    else if (d.chkN + 1) * 10 < s.reg (hdKey h 0x12 7) * 24 then s.modHd h fun x => { x with sense := { x.sense with chkN := x.sense.chkN + 1 } }
    else
      (s.setRegI 32 (loopKey h 1 3) d.chkDrive).modHd h fun x => { x with sense := { x.sense with chk := if d.chkTe < te then 3 else 2 } }

def State.trackOn (s : State) (h : Nat) (ev : TrackEvent) : State :=
  if !s.runs h 2 then s
  else if (s.sq h).started = 0 then
    if s.substate h = hsFocused then
      ((s.loopOpen h 1).modHd h fun d => { d with sense := { d.sense with tePeak := 0, chk := 0 } }).modSq h fun q => { q with started := 1 }
    else s.orderRejected h 1
  else
    let d := (s.hd h).sense
    match ev with
    | .begin => s
    | .measured =>
      if d.chk = 0 ∧ s.loopState h 1 = lsOpen ∧ s.reg (hdKey h 0x11 0x0A) * 65536 ≤ (s.lp h 1).turn then
        let base := s.drive h 1
        let s := s.modHd h fun x => { x with sense := { x.sense with chk := 1, chkN := 0, chkTe := (s.lp h 1).e1, chkDrive := base } }
        (s.setReg (hdKey h 0x10 6) d.tePeak.toNat).setRegI 32 (loopKey h 1 3) (sat24 (base + s.reg (hdKey h 0x12 6)))
      else s
    | .reversed => if d.chk = 3 then s.polarityRefused h 1 else s
    | .closed =>
      if d.chk = 2 ∧ s.loopState h 1 = lsOpen ∧ s.validCrossing h then
        if s.noGain h 1 then s.orderRejected h 4
        else
          let s := ((s.loopClose h 1).setRegBit (hdKey h 0x0F 2) 1 false).tiltOpen h
          let s := ((s.lightBeams h).enterTracking h).orderDone h 0
          if (s.hd h).recovery = 1 then s.offerOrder h ⟨5, 0, 0, .trapret⟩ else s
      else s

/-! ### TLT and BLR (R166, R167, R173, R184) -/

/-- Whether TLT (2) or BLR (3) may close: TLT_SOURCE 1 keeps TLT open, which Blu-ray Disc forces and where BLR stays OFF; BLR needs
three beams in service. -/
def State.tiltMay (s : State) (h l : Nat) : Bool :=
  s.reg (stKey (h / 2) 0 6) != 1 && s.mayClose h l
    && (if l = 2 then s.reg (hdKey h 0x14 1) == 0 else decide (3 ≤ popCount 8 (s.reg (hdKey h 0x14 4))))

/-- The check of R166 begins on TLT or BLR: a step of 1 % of full scale. -/
def State.tiltStep (s : State) (h l : Nat) : State :=
  if s.loopState h l = lsOpen ∧ s.tiltMay h l ∧ (s.hd h).sense.steps.getD (l - 2) none = none then
    let est := s.regI 32 (hdKey h 0x14 l)
    (s.setRegI 32 (loopKey h l 3) (sat24 (s.regI 32 (loopKey h l 3) + 83886))).modHd h fun d => { d with
      sense := { d.sense with steps := d.sense.steps.set (l - 2) (some (est, 0)) } }
  else s

/-- TLT and BLR close where they may (R167, R169, R171, R173): each after its check. -/
def State.closeTilt (s : State) (h : Nat) : State := (s.tiltStep h 2).tiltStep h 3

/-- The fourth sample of the step (R166): the estimate tells the direction. A positive TLT drive lowers the coma; a positive BLR
drive moves beams 1 to 7 inward, which raises their o_b (R157, R277; DEDUCED, log entry 119). The loop closes from its drive, or
the axis is refused. -/
def State.tiltJudge (s : State) (h l : Nat) (before est : Int) : State :=
  let s := (s.setRegI 32 (loopKey h l 3) (sat24 (s.regI 32 (loopKey h l 3) - 83886))).modHd h fun d => { d with
    sense := { d.sense with steps := d.sense.steps.set (l - 2) none } }
  if (l = 2 ∧ before < est) ∨ (l = 3 ∧ est < before) then s.polarityRefused h l
  else
    let d := s.regI 32 (loopKey h l 3)
    ((((s.setRegBit (hdKey h 0x0F 2) l false).setRegI 32 (setKey h l 8) (sat24 d)).loopClose h l).setDrive h l d)

/-- A full revolution of a tilt loop in CLOSED, or no need of it. -/
def State.tiltSteady (s : State) (h l : Nat) : Bool :=
  s.reg (stKey (h / 2) 0 6) == 1 || (l == 2 && s.reg (hdKey h 0x14 1) == 1)
    || (s.loopState h l == lsClosed && decide (65536 ≤ (s.lp h l).turn))

/-- A sample of TLT or BLR (R166, R173, R184): the check under way; once per revolution a try to close a loop that an expiry or
missing beams opened; gates may open again after a full revolution CLOSED, or once BLR is closed again. -/
def State.tiltSample (s : State) (h l : Nat) (est : Int) : State :=
  let s :=
    match (s.hd h).sense.steps.getD (l - 2) none with
    | some (b, n) =>
      if s.loopState h l ≠ lsOpen then s.modHd h fun d => { d with sense := { d.sense with steps := d.sense.steps.set (l - 2) none } }
      else if 3 ≤ n then s.tiltJudge h l b est
      else s.modHd h fun d => { d with sense := { d.sense with steps := d.sense.steps.set (l - 2) (some (b, n + 1)) } }
    | none =>
      if ((s.hd h).gateWait || (l == 3 && (s.hd h).blrOut)) && s.loopState h l == lsOpen && decide (65536 ≤ (s.lp h l).turn) then
        (s.modLp h l fun p => { p with turn := 0 }).tiltStep h l
      else s
  s.modHd h fun d => { d with
    gateWait := d.gateWait && !(s.tiltSteady h 2 && s.tiltSteady h 3), blrOut := d.blrOut && s.loopState h 3 != lsClosed }

/-- Whether TLT or BLR keeps the head's gates closed (R173, R184). -/
def State.tiltWait (s : State) (h : Nat) : Bool := (s.hd h).gateWait || (s.hd h).blrOut

/-! ### LAYER_JUMP and TRACK_JUMP (R169 to R171) -/

/-- Samples of 2.4 MS/s in a time of `us`, against a count. -/
def withinUs (n us : Nat) : Bool := decide (n * 10 < us * 24)

/-- The drive of a kick at its sample (R169, R171): the pulse, the coast, the equal and opposite brake. -/
def Kick.drive (k : Kick) (kick us : Nat) : Int :=
  if withinUs k.n us then sat24 (k.base + k.dir * kick)
  else match k.brake with
    | some b => if withinUs (k.n - b) us then sat24 (k.base - k.dir * kick) else k.base
    | none => k.base

/-- One sample of FE under a kick (R169): once the lobe of the layer left has passed, the next layer's first lobe rises to its peak;
as FE falls to FOC_BRAKE_LEVEL of it the brake begins (DEDUCED, log entry 119), and the curve's zero crossing is where FOC closes. -/
def Kick.focStep (k : Kick) (level : Nat) (fe : Int) : Kick :=
  let g := fe * k.dir
  let left := k.left || decide (g < 0)
  let near := left && decide (0 < g)
  let peak := if near then max k.peak g else k.peak
  let brake := match k.brake with
    | some b => some b
    | none => if near && decide (g < peak) && decide (g * 100 ≤ level * peak) then some k.n else none
  { k with n := k.n + 1, left := left, peak := peak, brake := brake, prev := fe, cross := left && decide (0 < peak) && decide (g ≤ 0) }

/-- One sample of TE under a kick (R171): zero crossings count one a track; after the last but one the brake begins once TE has passed
its peak; TRK closes at the last. -/
def Kick.trkStep (k : Kick) (te : Int) : Kick :=
  let zero := decide (k.prev * te < 0) || (te == 0 && k.prev != 0)
  let count := if zero then k.count + 1 else k.count
  let peak := if zero then (te.natAbs : Int) else max k.peak te.natAbs
  let brake := match k.brake with
    | some b => some b
    | none => if k.goal ≤ count + 1 && !zero && decide ((te.natAbs : Int) < k.peak) then some k.n else none
  { k with n := k.n + 1, count := count, peak := peak, top := max k.top peak, brake := brake, prev := te, cross := zero && k.goal == count }

/-- A sample of FE or TE under the kicks that run; the drive of OPEN follows. -/
def State.kickSample (s : State) (h l : Nat) (err : Int) : State :=
  if l = 0 then
    match (s.hd h).kickF with
    | some k =>
      let k := k.focStep (s.reg (hdKey h 0x12 3)) err
      (s.modHd h fun d => { d with kickF := some k }).setRegI 32 (loopKey h 0 3) (k.drive (s.reg (hdKey h 0x12 1)) (s.reg (hdKey h 0x12 2)))
    | none => s
  else
    match (s.hd h).kickT with
    | some k =>
      let k := k.trkStep err
      (s.modHd h fun d => { d with kickT := some k }).setRegI 32 (loopKey h 1 3) (k.drive (s.reg (hdKey h 0x12 6)) (s.reg (hdKey h 0x12 7)))
    | none => s

/-- The kick of a layer step (R169): negative toward shallower layers, which have the higher numbers (R160). -/
def State.layerKick (s : State) (h k : Nat) : State :=
  let d := s.drive h 0
  let x : Kick := ⟨if (s.hd h).atLayer < k then -1 else 1, d, 0, false, 0, 0, 0, 0, 1, none, false⟩
  ((s.setRegI 32 (loopKey h 0 3) (x.drive (s.reg (hdKey h 0x12 1)) (s.reg (hdKey h 0x12 2)))).loopOpen h 0).modHd h fun d => { d with kickF := some x }

/-- FOC closes on the next layer at the crossing of the kick's last sample, whose two samples give the slope (R169). -/
def State.layerStep (s : State) (h : Nat) (k : Nat) (x : Kick) : State :=
  let n := if (s.hd h).atLayer < k then (s.hd h).atLayer + 1 else (s.hd h).atLayer - 1
  let s := s.focusClose h (Config.feSlope h (x.prev - (s.lp h 0).e2) 1)
  (s.modHd h fun d => { d with atLayer := n, kickF := none }).setReg (hdKey h 0x13 1) n

/-- Whether a layer step has settled (R169): LAYER_SETTLE since the close, and |FE| below three times CONFIRM_FE_RMS. -/
def State.layerSettled (s : State) (h : Nat) : Bool :=
  s.aged h 0 (s.reg (hdKey h 0x12 4))
    && decide ((s.lp h 0).e1.natAbs * 1000 < 3 * s.reg (hdKey h 0x11 8) * (s.regI 32 (hdKey h 0x10 5)).natAbs)

/-- An event of the layer steps of a LAYER_JUMP or a SEEK (R169 step 2) toward layer `k`; `fin` is what follows the last. -/
def State.layerSteps (s : State) (h k : Nat) (ev : LayerEvent) (fin : State → State) : State :=
  match ev with
  | .stepClosed =>
    match (s.hd h).kickF with
    | some x => if x.cross ∧ s.loopState h 0 = lsOpen then (if s.noGain h 0 then s.focusUnclosed h else s.layerStep h k x) else s
    | none => s
  | .stepSettled =>
    if (s.hd h).kickF.isNone ∧ s.layerSettled h then (if (s.hd h).atLayer = k then fin s else s.layerKick h k) else s
  | _ => s

def State.layerJump (s : State) (h : Nat) (ev : LayerEvent) : State :=
  if !s.runs h 3 then s
  else
    let k := (s.sq h).param % 16
    let st := (s.sq h).started
    if st = 0 then
      let sub := s.substate h
      if sub = hsFocused ∨ sub = hsTracking ∨ sub = hsFollowing then
        let s := s.modSq h fun q => { q with started := 1 }
        let s := s.modHd h fun d => { d with atLayer := s.reg (hdKey h 0x13 1), tries := 0 }
        let s := ((s.openAtDrive h (1 :: s.tiltLoops h)).sendSa h k).enterTracking h
        if (s.hd h).atLayer = k then s.setSubstate h hsFocused else s.layerKick h k
      else s.orderRejected h 1
    else
      match ev with
      | .trkClosed =>
        if st = 1 ∧ s.substate h = hsFocused ∧ s.reg (hdKey h 0x15 0x0C) = 0 ∧ s.loopState h 1 = lsOpen ∧ s.validCrossing h then
          if s.noGain h 1 then s.orderRejected h 4
          else ((s.loopClose h 1).enterTracking h).modSq h fun q => { q with started := 2 }
        else s
      | .settled => if st = 2 ∧ s.aged h 1 (s.reg (hdKey h 0x12 9)) then (s.closeTilt h).orderDone h k else s
      | .search e => if st = 3 then s.focusSearch h k e fun s => s.orderDone h (s.searchReturn h k) else s
      | e => if st = 1 ∧ s.substate h ≠ hsFocused then s.layerSteps h k e fun s => s.setSubstate h hsFocused else s

/-- A layer step is late (R170): while it has not closed, the search for the target layer takes the jump's place, in a LAYER_JUMP or
a SEEK. -/
def State.layerTimeout (s : State) (h : Nat) : State :=
  let search := fun (s : State) (n : Nat) =>
    let s := s.modHd h fun d => { d with kickF := none, tries := 0 }
    ((s.modSq h fun q => { q with started := n }).searchRamp h).setSubstate h hsSearch
  if (s.hd h).kickF.isNone then s
  else if s.runs h 3 ∧ (s.sq h).started = 1 then search s 3
  else if s.runs h 7 ∧ (s.sq h).started = 2 then search s 5
  else s

/-- The kick of a track jump by `n` (R171): TRK OPEN with a drive in the direction of `n`. -/
def State.trackKick (s : State) (h : Nat) (n : Int) : State :=
  let d := s.drive h 1
  let x : Kick := ⟨if 0 < n then 1 else -1, d, 0, false, 0, 0, (s.lp h 1).e1, 0, n.natAbs, none, false⟩
  ((s.setRegI 32 (loopKey h 1 3) (x.drive (s.reg (hdKey h 0x12 6)) (s.reg (hdKey h 0x12 7)))).loopOpen h 1).modHd h fun d => { d with kickT := some x }

/-- Whether the last TRK sample was the crossing at which a jump closes. -/
def State.jumpCrossing (s : State) (h : Nat) : Bool :=
  s.loopState h 1 == lsOpen && (match (s.hd h).kickT with | some k => k.cross | none => false)

/-- TRK closes at the end of a jump by `n` (R171): TRACK_SIGN of spiral (p + n) mod 8; TE_PEAK from the crossings. -/
def State.jumpClose (s : State) (h : Nat) (n : Int) : State :=
  let p : Int := s.reg (hdKey h 0x13 3)
  let top := match (s.hd h).kickT with | some k => k.top | none => 0
  let s := (s.loopClose h 1).setRegI 8 (hdKey h 0x10 7) (s.signOf h ((p + n) % 8).toNat)
  (s.modHd h fun d => { d with kickT := none }).setReg (hdKey h 0x10 6) top.toNat

def State.trackJump (s : State) (h : Nat) (ev : JumpEvent) : State :=
  if !s.runs h 4 then s
  else
    let n := toSigned 16 (s.sq h).param
    let st := (s.sq h).started
    if st = 0 then
      let sub := s.substate h
      if (sub = hsTracking ∨ sub = hsFollowing) ∧ n ≠ 0 ∧ n.natAbs ≤ s.reg (hdKey h 0x12 8) then
        let t := ((s.reg (hdKey h 0x13 2) : Int) + n).toNat
        let s := s.modHd h fun d => { d with jumpTarget := t }
        ((s.trackKick h n).enterTracking h).modSq h fun q => { q with started := 1 }
      else s.orderRejected h 1
    else
      match ev with
      | .begin => s
      | .closed =>
        if st = 1 ∧ s.jumpCrossing h then
          if s.noGain h 1 then s.orderRejected h 4
          else (s.jumpClose h n).modSq h fun q => { q with started := 2 }
        else s
      | .settled => if st = 2 ∧ s.aged h 1 (s.reg (hdKey h 0x12 9)) then (s.setSubstate h hsTracking).orderDone h 0 else s

/-! ### FOLLOW (R168) -/

/-- A sector address is confirmed: its objects, and the sled's POSITION (R214); the spiral is the track's (R158), 0 on Blu-ray Disc. -/
def State.addressRead (s : State) (h : Nat) (r : PilotRead) : State :=
  let bd := s.reg (stKey (h / 2) 0 6) == 1
  s.setRegs [(hdKey h 0x13 2, r.track), (hdKey h 0x13 3, if bd then 0 else r.track % 8), (hdKey h 0x13 4, r.addr),
    (hdKey h 0x13 5, s.sampleCount), (sledKey h 0x1B, r.radius)]

/-- FOLLOW ends DONE: FOLLOWING, TLT and BLR close once the canceller has converged (R167), a recovery waits for its
confirmation (R182). -/
def State.followDone (s : State) (h : Nat) : State :=
  let s := s.setSubstate h hsFollowing
  let svc := s.reg (hdKey h 0x14 4)
  let s := if svc &&& s.reg (chKey h 0 2) = svc then s.closeTilt h else s
  let s := if (s.hd h).recovery ≠ 0 then s.modHd h fun d => { d with confirm := true } else s
  s.orderDone h (s.reg (hdKey h 0x13 2))

/-- FOLLOW fails with the head TRACKING. -/
def State.followFail (s : State) (h code : Nat) : State := (s.enterTracking h).headFail h code

/-- The station processor places a SEEK to a track (R168, R215). -/
def State.placeSeek (s : State) (h track : Nat) : State :=
  (s.setRegs [(sledKey h 0x16, track), (sledKey h 0x17, 0xFF)]).offerOrder h ⟨7, 0, 0, .station⟩

/-- What FOLLOW does with one address (R168): TRK closes again for the spiral read where TRACK_SIGN is another's; a miss by 1 to
FINE_MAX tracks is corrected by one track jump; a farther one ends the order, and a SEEK is placed. -/
def State.followRead (s : State) (h : Nat) (r : PilotRead) : State :=
  let s := s.addressRead h r
  let d := s.hd h
  let step := fun (s : State) n => s.modSq h fun q => { q with started := n }
  let diff := ((d.jumpTarget : Int) - (r.track : Int))
  if s.regI 8 (hdKey h 0x10 7) ≠ s.signOf h (s.reg (hdKey h 0x13 3)) then
    if d.signRead then s.followFail h 0x0F57_0013
    else step ((s.openAtDrive h [1]).modHd h fun d => { d with signRead := true }) 2
  else if (s.sq h).param % 2 = 0 ∨ diff = 0 then s.followDone h
  else if s.reg (hdKey h 0x12 8) < diff.natAbs then (s.followFail h 0x0F57_0013).placeSeek h d.jumpTarget
  else if d.corrected then s.followFail h 0x0F57_0013
  else step (((s.trackKick h diff).enterTracking h).modHd h fun d => { d with corrected := true }) 3

/-- FOLLOW: the order reads (1), closes TRK at a valid crossing (2), jumps (3) or settles after a jump (4). A tracking recovery's
begins with TRK OPEN (R183). -/
def State.follow (s : State) (h : Nat) (ev : FollowEvent) : State :=
  if !s.runs h 5 then s
  else
    let st := (s.sq h).started
    let step := fun (s : State) n => s.modSq h fun q => { q with started := n }
    if st = 0 then
      let sub := s.substate h
      let s := s.modHd h fun d => { d with corrected := false, signRead := false }
      if (s.hd h).recovery = 2 ∧ sub = hsFocused ∧ s.loopState h 1 = lsOpen then step s 2
      else if sub = hsTracking ∨ sub = hsFollowing then
        match ev with
        | .read r => (step s 1).followRead h r
        | _ => step s 1
      else s.orderRejected h 1
    else
      match ev with
      | .read r => if st = 1 then s.followRead h r else s
      | .closed =>
        if st = 2 ∧ s.loopState h 0 = lsClosed ∧ s.loopState h 1 = lsOpen ∧ s.validCrossing h then
          if s.noGain h 1 then s.orderRejected h 4 else step ((s.loopClose h 1).enterTracking h) 1
        else if st = 3 ∧ s.jumpCrossing h then
          if s.noGain h 1 then s.orderRejected h 4
          else step (s.jumpClose h ((s.hd h).jumpTarget - s.reg (hdKey h 0x13 2) : Int)) 4
        else s
      | .settled => if st = 4 ∧ s.aged h 1 (s.reg (hdKey h 0x12 9)) then step s 1 else s

/-! ### Protections -/

/-- An overpower (R176). -/
def State.overpower (s : State) (h b : Nat) : State :=
  let s := (s.laserOff h b).setRegBit (hdKey h 0x16 0x14) b true
  let s := s.raiseTrap h trapOverpower (2 ^ (4 + b)) b
  if b = 0 then
    if (s.hd h).over0 then s.setHeadFault h 1
    else (s.focusRecovery h).modHd h fun d => { d with over0 := true }
  else s

/-- The PKL is lost (R177). -/
def State.pklLoss (s : State) (h : Nat) : State :=
  let s := s.headDrop h
  let s := (s.modHd h fun d => { d with pklUp := false, lost := true, retrains := 0 }).raiseTrap h trapPklLoss 0 0
  s.headFail h 0x0F57_0016

/-- A write guard stops the head (R179, R181): every gate closes, the guard counts, posts and traps. -/
def State.guardInhibit (s : State) (h guard beam : Nat) : State :=
  let s := (s.closeGates h).modHd h fun d => { d with sense := { d.sense with beyond := 0 } }
  let s := s.bump (hdKey h 0x18 (7 + guard))
  let s := s.raiseTrap h (if guard = 2 then trapShock else trapGuard) (if guard = 1 then 1 else 2) guard
  s.note 0x0404 (engSource h) (leBytes 1 guard ++ leBytes 1 beam)

/-- HOLD_EXPIRED of a head loop (R182 to R184): FOC starts a focus recovery, TRK alone a tracking recovery, and an expiry while one
runs or is to be confirmed is its failure. -/
def State.headExpired (s : State) (h l : Nat) : State :=
  let d := s.hd h
  let s := s.modHd h fun d => { d with confirm := false }
  if l = 0 ∨ (l = 1 ∧ (s.lp h 0).expired) then (if d.recovery = 1 then s.focusRecoveryFailed h else s.focusRecovery h)
  else if l = 1 then (if d.recovery ≠ 0 then s.recoveryFailed h else s.trackRecovery h)
  else if l ≤ 3 then
    let s := (s.openAtDrive h [l]).bump (hdKey h 0x19 6) |>.modHd h fun d => { d with gateWait := true }
    if d.confirm then s.recoveryFailed h else s
  else
    let s := (s.laserOff h (l - 4)).setRegBit (hdKey h 0x16 0x14) (l - 4) true
    if l = 4 then (if d.recovery = 1 then s.focusRecoveryFailed h else s.focusRecovery h)
    else if d.confirm then s.recoveryFailed h else s

/-! ### CALIBRATE_LOOP (R185) -/

/-- Whether the poles of z² − P1·z − P2 lie inside the unit circle, in Q2.30. -/
def polesInside (p1 p2 : Int) : Bool := decide (p2.natAbs < 2 ^ 30) && decide ((p1.natAbs : Int) < 2 ^ 30 - p2)

/-- The run ends: the injector is free, and the result object takes its end. -/
def State.calEnd (s : State) (h code : Nat) (data : List (Nat × Nat)) : State :=
  let s := s.modEng h fun g => { g with inj := .free, calRun := none }
  let s := s.endResult (hdIx h 0x1E) data code
  if code = 0 then s.orderDone h 0 else s.orderFailed h code

/-- The fit of a finished run (R185); where the sums fix none, what it gives is open, and its five figures are free values. -/
def State.calFit (s : State) (sums : List Int) : (List Int × Nat) × State :=
  match fitModel sums with
  | some f => (f, s)
  | none =>
    let n := s.fresh
    (((List.range 4).map fun k => toSigned 32 (Config.freeValue n.1 / 2 ^ (32 * k)), Config.freeValue n.1 / 2 ^ 128 % 65536), n.2)

def State.calibrate (s : State) (h : Nat) (ev : CalEvent) : State :=
  if !s.runs h 0x0A then s
  else
    let l := (s.sq h).param % 16
    if (s.sq h).started = 0 then
      let sub := s.substate h
      if l ≤ 3 ∧ (sub = hsTracking ∨ sub = hsFollowing) then
        let s := s.beginResult (hdIx h 0x1E)
        if (s.eng h).inj ≠ .free then (s.endResult (hdIx h 0x1E) [] 0x0F57_0004).orderFailed h 0x0F57_0004
        else if s.loopState h l ≠ lsClosed then (s.endResult (hdIx h 0x1E) [] 0x0F57_0005).orderFailed h 0x0F57_0005
        else (s.modEng h fun g => { g with inj := .cal l, injN := 0, calRun := some ⟨l, 0, [0, 0], [0, 0], [], false⟩ }).modSq h
          fun q => { q with started := 1 }
      else s.orderRejected h 1
    else
      match ev, (s.eng h).calRun with
      | .ended, some c =>
        if c.held then s.calEnd h 0x0F57_0003 []
        else if c.n < s.reg (hdKey h 0x19 8) then s
        else
          let f := s.calFit c.sums
          let s := f.2
          let p := fun k => f.1.1.getD k 0
          let data := [(5, l), (6, ofSigned 32 (p 0)), (7, ofSigned 32 (p 1)), (8, ofSigned 32 (p 2)), (9, ofSigned 32 (p 3)),
            (0x0A, min 65535 f.1.2), (0x0B, 1)]
          if s.reg (hdKey h 0x19 9) < f.1.2 then s.calEnd h 0x0F57_0001 []
          else if !polesInside (p 0) (p 1) then s.calEnd h 0x0F57_0002 []
          else
            let s := s.setCause h l hcLathe
            let s := s.setRegs ((List.range 4).map fun j => (engKey h 7 (0x29 + 4 * l + j), ofSigned 32 (p j)))
            (s.clearCause h l hcLathe).calEnd h 0 data
      | _, _ => s

/-! ### Blu-ray Disc settings at load (R186) -/

/-- A medium's settings reach its heads (R186, R108): a Blu-ray Disc uses head U alone, on spiral 0. -/
def State.mediumHeads (s : State) (st medium : Nat) : State :=
  let s := s.setRegBit (hdStKey (2 * st + 1)) 6 (medium = 1)
  if medium = 1 then s.setReg (hdKey (2 * st) 0x13 3) 0 else s

/-- What a load calibrates in the test zones (R161, R186): the spherical-aberration word of each used layer, if SA_CAL is set, and
on Blu-ray Disc TILT_TABLE; what gives the highest RF amplitude is a free value. -/
def State.loadSweep (s : State) (i : Nat) : State :=
  let bd := s.reg (stKey i 0 6) == 1
  let n := s.fresh
  n.2.forEach (n.2.usedHeads i) fun s h =>
    let layers := s.reg (stKey i 0xC0 (2 + h % 2))
    let s := if s.reg (hdKey h 0x15 9) = 1 then
        s.forEach (List.range (min layers 8)) fun s l =>
          s.setReg (hdKey h 0x15 (1 + l)) (Config.saBest h l (s.reg (hdKey h 0x15 (1 + l))) n.1 % 65536)
      else s
    if bd then
      s.forEach (List.range 16) fun s j => s.setRegI 32 (hdKey h 0x14 (0x0E + j)) (sat24 (toSigned 32 (Config.tiltBest h j (s.reg (hdKey h 0x14 (0x0E + j))) n.1)))
    else s

end Sys2Proof.Machine
end

