-- ==== Sys2Proof/Machine/Drive.lean ====
section
/-! DEFINITION. The drive stages of chapter 8: the six-step bridge of a spindle with its soft edges (R189 to R191), the duties of
a sled's windings (R209) and the set currents of the clamp's chopper (R216). -/

namespace Sys2Proof.Machine

/-! ### The spindle's bridge -/

def spdKey (i sub : Nat) : Nat := stKey i 0x10 sub
def State.spinState (s : State) (i : Nat) : Nat := s.reg (spdKey i 1)

/-- The sector of a Hall code by HALL_MAP, if it stands there (R189, R193). -/
def State.hallSector (s : State) (i c : Nat) : Option Nat :=
  let m := s.reg (stKey i 0x13 5)
  (List.range 6).find? fun k => m / 8 ^ k % 8 == c

/-- Table 8.2: the phase with the high-side PWM and the phase with the low side on, of each sector; the third floats. -/
def sectorPhases (k : Nat) : Nat × Nat := [(0, 1), (0, 2), (1, 2), (1, 0), (2, 0), (2, 1)].getD (k % 6) (0, 1)

/-- The duty of a phase across a sector boundary (R190): `f` of 2^16 of the edge is passed; a phase common to both sectors keeps
its duty, the outgoing one falls from D, the incoming one rises to D. -/
def edgeDuty (full d : Nat) (out inn : Bool) (f : Nat) : Nat :=
  if out && inn then full else if out then d * (65536 - f) / 65536 else if inn then d * f / 65536 else 0

/-- The duties of the high and the low side of a phase between sectors `a` and `b` (Table 8.2, R191): a positive drive motors, a
negative one holds the high sides off and switches the low side of the pair at D. -/
def phaseDuty (drive : Int) (a b f p : Nat) : Nat × Nat :=
  let d := min drive.natAbs 8388608
  let x := sectorPhases a
  let y := sectorPhases b
  let full := if 0 ≤ drive then 8388608 else d
  (if 0 ≤ drive then edgeDuty d d (x.1 == p) (y.1 == p) f else 0, edgeDuty full d (x.2 == p) (y.2 == p) f)

/-- A leg's switches in a period of `n` units of 10 ns, centre-aligned; the low side, where both are used, follows the high one
by the dead time (R191). -/
def legOf (n dead : Nat) (duty : Nat × Nat) : Leg :=
  let hi := duty.1 * n / 8388608
  let lo := duty.2 * n / 8388608
  let h0 := (n - hi) / 2
  let l0 := (n - lo) / 2
  if hi = 0 then ⟨0, 0, l0, l0 + lo⟩
  else if lo = 0 then ⟨h0, h0 + hi, 0, 0⟩
  else ⟨h0, h0 + hi, min n (h0 + hi + dead), max (min n (h0 + hi + dead)) (l0 + lo)⟩

/-- The commutation angle θc in 1/65,536 of an electrical revolution (R189, R190, R196): POLE_PAIRS times the angle from the
edge into sector 0, with ADVANCE; where the encoder's Z is angle 0, that edge lies ENC_COMM_OFFSET counts after it. -/
def State.commAngle (s : State) (i ang : Nat) : Nat :=
  let z := s.reg (spdKey i 0x0C) == 2 && bitOf (s.reg (stKey i 0x13 6)) 0
  let off := if z then 16 * s.reg (stKey i 0x13 7) else 0
  (s.reg (stKey i 0x11 1) * (ang + 65536 - off) + s.reg (spdKey i 0x0B) * 65536 / 3600) % 65536

/-- The two sectors between which the bridge stands, and how far, of 2^16, the edge between them has passed (R189, R190): hard at
the Hall transition in raw Hall mode, else over EDGE_WIDTH centred on the boundary. -/
def State.commSectors (s : State) (i ang : Nat) : Option (Nat × Nat × Nat) :=
  let src := s.reg (spdKey i 3)
  if src = 2 then (s.hallSector i (s.reg (spdKey i 8))).map fun k => (k, k, 0)
  else if src = 1 ∨ src = 3 then
    let x := s.commAngle i ang * 360
    let w := s.reg (stKey i 0x11 4) * 65536
    let k := x / (60 * 65536)
    let p := x % (60 * 65536)
    if p < w / 2 then some ((k + 5) % 6, k, (p + w / 2) * 65536 / w)
    else if 60 * 65536 - w / 2 < p then some (k, (k + 1) % 6, (p - (60 * 65536 - w / 2)) * 65536 / w)
    else some (k, k, 0)
  else none

/-- Every gate low. -/
def legsOff : List Leg := List.replicate 3 ⟨0, 0, 0, 0⟩

/-- The legs of the bridge now (R189 to R191, R199): the short brake has every low side on; with SPD OFF or no commutation source
every gate is low. -/
def State.legs (s : State) (i ang : Nat) : List Leg :=
  let n := 100000 / s.reg (stKey i 0x11 2)
  if s.spinState i = 6 then List.replicate 3 ⟨0, 0, 0, n⟩
  else if s.loopState (16 + i) 0 = lsOff then legsOff
  else
    match s.commSectors i ang with
    | some (a, b, f) => (List.range 3).map fun p => legOf n (s.reg (stKey i 0x11 3) / 10) (phaseDuty (s.drive (16 + i) 0) a b f p)
    | none => legsOff

/-- The bridge's next period, at a fine angle in 1/65,536 of a revolution. -/
def State.emitBridge (s : State) (i ang : Nat) : State :=
  s.emit (.bridge i (100000 / s.reg (stKey i 0x11 2)) (s.reg (stKey i 0x11 7)) (s.legs i ang))

/-- A phase current above I_LIMIT ends the on-time of this period (R191). -/
def State.limitCurrent (s : State) (i amps : Nat) : State :=
  if s.reg (stKey i 0x11 7) < amps then
    s.emit (.bridge i (100000 / s.reg (stKey i 0x11 2)) (s.reg (stKey i 0x11 7)) legsOff)
  else s

/-- The six sector vectors of the learning, at ALIGN_CURRENT (R193 step 1). -/
def State.emitVectors (s : State) (i : Nat) : State :=
  let n := 100000 / s.reg (stKey i 0x11 2)
  s.forEach (List.range 6) fun s k => s.emit (.bridge i n (s.reg (stKey i 0x13 8))
    ((List.range 3).map fun p => legOf n (s.reg (stKey i 0x11 3) / 10) (phaseDuty 8388607 k k 0 p)))

/-! ### The sleds' windings (R209) -/

/-- Full steps per second of a velocity in µm/s. -/
def State.stepsPerSec (s : State) (h : Nat) (v : Int) : Nat := v.natAbs * 100 / s.reg (sledKey h 1)

/-- The electrical angle θs of a position in nm, in 1/1,024 of a cycle: 256 microsteps a full step, four full steps a cycle. -/
def State.sledTheta (s : State) (h : Nat) (pos : Int) : Nat :=
  (Int.fdiv (pos * 256) (s.reg (sledKey h 1) * 10) % 1024).toNat

/-- The duty of a voltage in µV against VBUS in mV, Q1.23. -/
def dutyOf (uv : Int) (mv : Nat) : Int := if mv = 0 then 0 else sat24 (roundDiv (uv * 8388608) (mv * 1000))

/-- The windings at a set-point: the phasor I_cmd × COIL_R plus KE_SLED × v at θs, as duties against the measured VBUS (R209). -/
def State.emitWindings (s : State) (h : Nat) (pos v cur : Int) : State :=
  let th := s.sledTheta h pos
  let steps : Int := (s.stepsPerSec h v : Int) * (if v < 0 then -1 else 1)
  let uv := cur * s.reg (sledKey h 3) + (s.reg (sledKey h 4) : Int) * steps
  let mv := s.reg (spdKey (h / 2) 9)
  s.emit (.windings h (dutyOf (mul30 uv (cosTurn th 1024)) mv) (dutyOf (mul30 uv (sinTurn th 1024)) mv))

/-! ### The clamp's chopper (R216) -/

def clampKey (i sub : Nat) : Nat := stKey i 0x22 sub

/-- Microsteps the present leg of a stroke has made: SPEED full steps of 256 microsteps per second, in set-points of 50 µs. -/
def State.clampTravel (s : State) (i : Nat) : Nat :=
  s.reg (clampKey i 3) * 256 * ((s.now - (s.stn i).legAt) / 50) / 20000

/-- The microstep position the stroke commands now. -/
def State.clampNow (s : State) (i : Nat) : Nat :=
  match (s.stn i).stroke with
  | .clamp => (s.stn i).strokeFrom + s.clampTravel i
  | _ => (s.stn i).strokeFrom - s.clampTravel i

/-- The chopper of the two windings: the set current weighted by the cosine and the sine of the microstep angle, on until it is
reached after BLANK_TIME, then off for T_OFF, the first FAST_DECAY per cent of it in fast decay. -/
def State.emitChopper (s : State) (i pos cur : Nat) : State :=
  let off := s.reg (clampKey i 4) * 1000
  let fast := off * s.reg (clampKey i 5) / 100
  s.emit (.chopper i (mul30 cur (cosTurn pos 1024)) (mul30 cur (sinTurn pos 1024)) (s.reg (clampKey i 6)) fast (off - fast))

/-- At rest the set current is HOLD_CURRENT. -/
def State.clampHold (s : State) (i : Nat) : State :=
  let p := s.reg (clampKey i 0x0D)
  s.emitChopper i (if p = 0xFFFF_FFFF then 0 else p) (s.reg (clampKey i 2))

/-- One set-point of a stroke that moves: the commanded position, and the windings at RUN_CURRENT. -/
def State.clampPoint (s : State) (i : Nat) : State :=
  if (s.stn i).stroke = .none ∨ (s.now - (s.stn i).legAt) % 50 ≠ 0 then s
  else
    let p := s.clampNow i
    let s := if s.reg (clampKey i 0x0D) = 0xFFFF_FFFF then s else s.setReg (clampKey i 0x0D) p
    s.emitChopper i p (s.reg (clampKey i 1))

/-- The clamp's motor stalls (R216): four set-points in a row whose BEMF lies below STALL_BEMF per cent of its running value. -/
def State.clampStalls (s : State) (i run : Nat) (bemf : List Nat) : Bool :=
  bemf.length == 4 && bemf.all fun b => decide (b * 100 < s.reg (clampKey i 7) * run)

end Sys2Proof.Machine
end

