-- ==== Sys2Proof/Machine/Host.lean ====
section
/-! DEFINITION. The host interface's shared operations (chapter 13): controllers, contexts and completions, asynchronous
events and logs, namespaces and zones, the Granary lines as a table, and what a station's change of state does to its
media operations (R112). -/

namespace Sys2Proof.Machine

def nvKey (sub : Nat) : Nat := key 0x4200 sub

/-! ### Completions -/

def cplOk (dw0 dw1 : Nat) : Cpl := ⟨.success, false, dw0, dw1⟩
def cplFail (st : Status) (dnr : Bool) : Cpl := ⟨st, dnr, 0, 0⟩
/-- Namespace Not Ready, DNR clear. -/
def cplNotReady : Cpl := cplFail .namespaceNotReady false

/-! ### Controllers (R323, R338, R510) -/

def State.ctrl (s : State) (c : Nat) : Option Ctrl := s.nvme.ctrls.find? fun x => x.id == c
def State.modNvme (s : State) (f : Nvme → Nvme) : State := { s with nvme := f s.nvme }
def State.modCtrl (s : State) (c : Nat) (f : Ctrl → Ctrl) : State :=
  s.modNvme fun n => { n with ctrls := n.ctrls.map fun x => if x.id = c then f x else x }

/-- CONTROLLERS, object 0x4200:01: the controllers with CC.EN set (R510). -/
def State.enabledCtrls (s : State) : Nat := (s.nvme.ctrls.filter (·.en)).length

/-- Whether any fabric controller is connected (R322). -/
def State.fabricConnected (s : State) : Bool := s.nvme.ctrls.any fun x => x.id != 0

/-- A feature's value (Table 13.6), its default where nothing has set it: WCE is 1; the others are 0. -/
def Ctrl.feature (c : Ctrl) (f : Nat) : Nat :=
  match c.features.find? (fun p => p.1 == f) with
  | some p => p.2
  | none => if f = 6 then 1 else 0

def Ctrl.setFeature (c : Ctrl) (f v : Nat) : Ctrl :=
  { c with features := (c.features.filter fun p => p.1 != f) ++ [(f, v)] }

/-! ### Contexts (R26, R27, R339) -/

def State.ctx (s : State) (q : Nat) : Option Ctx := s.nvme.ctxs.find? fun x => x.seq == q
def State.modCtx (s : State) (q : Nat) (f : Ctx → Ctx) : State :=
  s.modNvme fun n => { n with ctxs := n.ctxs.map fun x => if x.seq = q then f x else x }

/-- The context frees with its completion posted, or dropped. -/
def State.complete (s : State) (q : Nat) (c : Cpl) : State :=
  match s.ctx q with
  | none => s
  | some x =>
    let s := s.modNvme fun n => { n with ctxs := n.ctxs.filter fun y => y.seq != q }
    if x.dropped then s else s.emit (.completion x.ctrl x.sq x.cid c)

/-- The next command to execute: the fetched one of lowest fetch sequence number (R27), if it is `cid` of controller
`c`. While an activation drains, fetched commands stay held in their contexts (R348). -/
def State.turn (s : State) (c cid : Nat) : Option Ctx :=
  if s.nvme.activating.isSome then none
  else
    match s.nvme.ctxs.find? (fun x => x.op == .fetched) with
    | some x => if x.ctrl = c ∧ x.cid = cid then some x else none
    | none => none

/-! ### Answers to dictionary accesses (R41, R52, R56, R58) -/

/-- Do Not Retry of a refused Get Object or Set Object (R58). -/
def abortFinal (a : Nat) : Bool := a != 0x0800_0021 && a != 0x0800_0022 && a != 0x0504_0005

/-- The context of an admin command of controller `c`. -/
def State.adminCtx (s : State) (c cid : Nat) : Option Ctx :=
  s.nvme.ctxs.find? fun x => x.ctrl == c && x.cid == cid && x.sq == 0 && (x.op == .fetched || x.op == .dictionary)

/-- A write of RPDO `n` is discarded (R49): object 0x2010:0B counts it, and the first of each RPDO since boot posts record
0x0201. -/
def State.pdoDiscard (s : State) (n abort : Nat) : State :=
  let s := s.bump (key 0x2010 0x0B)
  match s.can.pdos[n]? with
  | some p =>
    if p.discarded then s
    else
      let s : State := { s with can := { s.can with pdos := s.can.pdos.set n { p with discarded := true } } }
      s.note 0x0201 0 (leBytes 1 n ++ leBytes 4 abort)
  | none => s

/-- Whether a CAN bus takes and sends SDO and USDO frames now (R44, R46, R47). -/
def State.sdoServed (s : State) (bus : Nat) : Bool :=
  s.can.booted && (s.can.nmt == .preOperational || s.can.nmt == .operational) && (serviceBuses s.can.mode).contains bus && s.busUp bus

/-- Answer a dictionary access: an SDO response or abort; WIN_ABORT and the pending count of BAR2; the outcome of the
commit in progress; the completion of Get Object or Set Object, `total` being the object's length; the discard of an RPDO's
write (R49); nothing for an internal access. A bus that is off or STOPPED since the request came carries no answer (R44, R47). -/
def State.reply (s : State) (d : Door) (idx sub abort total : Nat) (data : List Byte) : State :=
  match d with
  | .sdo bus _ => if s.sdoServed bus then s.emit (.answer d idx sub abort data) else s
  | .pdo _ n => if abort = 0 then s else s.pdoDiscard n abort
  | .inner => s
  | .bar2 =>
    let s := { s with bar2 := { s.bar2 with winPending := s.bar2.winPending - 1 } }
    if abort = 0 then s
    else { s with bar2 := { s.bar2 with
      winAbort := abort, winAbortObject := sub * 65536 + idx, winRefused := min (s.bar2.winRefused + 1) (2 ^ 32 - 1) } }
  | .seg => if s.bar2.state = .busy then { s with bar2 := { s.bar2 with result := some abort } } else s
  | .nvme c cid =>
    match s.adminCtx c cid with
    | none => s
    | some x =>
      if abort = 0 then (if data.isEmpty then s else s.emit (.bytes c 0 cid data)).complete x.seq (cplOk total 0)
      else s.complete x.seq ⟨.code 1 0xC0, abortFinal abort, abort, 0⟩

/-! ### Events and logs (R350) -/

/-- Whether an event is enabled on a controller: notices by the bits of feature 0x0B, errors and vendor events always. -/
def Ctrl.enabled (c : Ctrl) (e : Event) : Bool :=
  let v := c.feature 0x0B
  match e with
  | .temperature => bitOf v 1
  | .spare => bitOf v 0
  | .readOnlyLayer => bitOf v 3
  | .namespaceChanged => bitOf v 8
  | .firmwareStarting => bitOf v 9
  | .zoneChanged => bitOf v 27
  | _ => true

/-- Raise an event on one controller: a held request completes with it, otherwise it waits; a masked one is not
repeated. -/
def State.eventOn (s : State) (c : Nat) (e : Event) : State :=
  match s.ctrl c with
  | none => s
  | some x =>
    if !x.en || !x.enabled e || x.masked.contains e || x.waiting.contains e then s
    else
      match x.aers with
      | [] => s.modCtrl c fun x => { x with waiting := x.waiting ++ [e] }
      | cid :: r => (s.modCtrl c fun x => { x with aers := r, masked := x.masked ++ [e] }).emit (.asyncEvent c cid e)

/-- Raise an event on every controller. -/
def State.event (s : State) (e : Event) : State := s.forEach (s.nvme.ctrls.map (·.id)) fun s c => s.eventOn c e

/-- An Error Information entry (R345): 64 are kept. -/
def State.errorEntry (s : State) (nsid lba : Nat) : State :=
  (s.modNvme fun n => { n with errorLog := ((nsid, lba) :: n.errorLog).take 64, errors := n.errors + 1 }).event .error

/-- An entry of the integrity log (R345, Table 13.8): 256 are kept, the oldest overwritten. -/
def State.integrityEntry (s : State) (nsid lba cause : Nat) : State :=
  (s.modNvme fun n => { n with integrity := ((nsid, lba, cause) :: n.integrity).take 256 }).event .integrity

/-! ### Namespaces and zones (R328 to R335) -/

def State.ns (s : State) (n : Nat) : Option Ns := s.nvme.namespaces.find? fun x => x.nsid == n
def State.modNs (s : State) (n : Nat) (f : Ns → Ns) : State :=
  s.modNvme fun v => { v with namespaces := v.namespaces.map fun x => if x.nsid = n then f x else x }
/-- The station of a side's namespace (R6). -/
def nsStation (n : Nat) : Nat := (n - 1) / 2
/-- A namespace on a spread volume. -/
def nsSpread (n : Nat) : Bool := 256 ≤ n
/-- The NSIDs of a station's two sides. -/
def sideNs (i : Nat) : List Nat := [1 + 2 * i, 2 + 2 * i]

def Ns.zone (n : Ns) (z : Nat) : Zone := (n.zones.find? fun x => x.idx == z).getD ⟨z, 0, 0⟩
def Ns.setZone (n : Ns) (z : Zone) : Ns :=
  let rest := n.zones.filter fun x => x.idx != z.idx
  { n with zones := if z = ⟨z.idx, 0, 0⟩ then rest else rest ++ [z] }
/-- Zones in all: of 65,536 blocks (R331), or of 1,048,576 (R410). -/
def Ns.zoneCount (n : Ns) : Nat := (n.nsze + n.zsize - 1) / n.zsize
/-- The capacity of a zone (R331, R410): 64,000 blocks on DAF media, per data column on a spread volume; the blocks there
are on BD-R. -/
def Ns.zcap (n : Ns) (z : Nat) : Nat :=
  if n.cols ≠ 0 then 64000 * n.cols else if n.daf then 64000 else min 65536 (n.nsze - 65536 * z)
/-- Whether a zone is open. -/
def Zone.isOpen (z : Zone) : Bool := z.state == 1 || z.state == 2
def Ns.openZones (n : Ns) : Nat := (n.zones.filter (·.isOpen)).length
/-- Whether a block lies at or above its zone's write pointer (R334). -/
def Ns.above (n : Ns) (lba : Nat) : Bool :=
  n.zoned && (let z := n.zone (lba / n.zsize)
    decide (z.wp ≤ lba % n.zsize) && (z.state != 4 || n.zcap (lba / n.zsize) ≤ lba % n.zsize))
/-- NUSE (R328): blocks below the write pointers, every block of a FULL zone; NSZE for BD-RE. -/
def Ns.nuse (n : Ns) : Nat :=
  if n.zoned then (n.zones.map fun z => if z.state = 4 then n.zcap z.idx else z.wp).sum else n.nsze

/-! ### The lines as a table (R353, R354) -/

def State.modGr (s : State) (f : Granary → Granary) : State := { s with granary := f s.granary }
def State.modSpread (s : State) (f : Spread → Spread) : State := { s with spread := f s.spread }
/-- The line of a cluster; what a spread volume has staged lies in the staging region (R412), a line by itself. -/
def State.line (s : State) (nsid cl : Nat) : Option Line :=
  (if nsSpread nsid then s.spread.staged else s.granary.lines).find? fun l => l.nsid == nsid && l.cluster == cl
def State.modLine (s : State) (nsid cl : Nat) (f : Line → Line) : State :=
  let g := fun (l : Line) => if l.nsid = nsid ∧ l.cluster = cl then f l else l
  if nsSpread nsid then s.modSpread fun p => { p with staged := p.staged.map g }
  else s.modGr fun x => { x with lines := x.lines.map g }
/-- Clusters of a zone of a namespace. -/
def zoneClusters (nsid : Nat) : Nat := if nsSpread nsid then 65536 else 4096
/-- The ring as a controller number: member operations run as commands of it. -/
def ringCtrl : Nat := 65536
/-- Whether a local zone is claimed by a spread volume of this device's table (R409). -/
def State.claimed (s : State) (nsid z : Nat) : Bool :=
  s.spread.volumes.any fun v => v.cols.any fun c =>
    c.serial == s.part.serial && c.nsid == nsid && decide (c.first ≤ z) && decide (z < c.first + v.zones)
/-- A line in INVALID is not listed. -/
def State.dropLine (s : State) (nsid cl : Nat) : State :=
  let keep := fun (l : Line) => !(l.nsid == nsid && l.cluster == cl)
  if nsSpread nsid then s.modSpread fun p => { p with staged := p.staged.filter keep }
  else s.modGr fun g => { g with lines := g.lines.filter keep }
/-- DIRTY or WRITING. -/
def Line.isDirty (l : Line) : Bool := l.state == .dirty || l.state == .writing
/-- Dirty lines of a station; of every station for the device. -/
def State.dirtyLines (s : State) (i : Nat) : List Line :=
  s.granary.lines.filter fun l => l.isDirty && !nsSpread l.nsid && nsStation l.nsid == i
/-- A media operation as it is queued. -/
def newOp (nsid cl : Nat) (k : OpKind) (victim : Option Nat) : MediaOp :=
  { nsid := nsid, cluster := cl, kind := k, dispatched := false, committed := false, bypass := false, ended := false, victim := victim, got := [], lost := [], outer := false }
def State.op (s : State) (nsid cl : Nat) : Option MediaOp :=
  s.granary.ops.find? fun o => o.nsid == nsid && o.cluster == cl && !o.ended
/-- Change the operation of a cluster, the oldest that has not ended. -/
def State.modOp (s : State) (nsid cl : Nat) (f : MediaOp → MediaOp) : State :=
  s.modGr fun g => { g with ops := match s.op nsid cl with
    | some o => (g.ops.takeWhile (· != o)) ++ f o :: (g.ops.dropWhile (· != o)).drop 1
    | none => g.ops }
def State.dropOp (s : State) (nsid cl : Nat) : State :=
  match s.op nsid cl with
  | some o => s.modGr fun g => { g with ops := g.ops.erase o }
  | none => s
def MediaOp.station (o : MediaOp) : Nat := nsStation o.nsid

/-! ### A station leaves READY or ACTIVE (R112, R344) -/

/-- Whether a context waits on a station's media. -/
def Ctx.waitsOn (x : Ctx) (i : Nat) : Bool :=
  match x.op with
  | .read n _ _ _ _ => !nsSpread n && nsStation n == i
  | .write n _ _ _ _ => !nsSpread n && nsStation n == i
  | .flush (.all ns) _ _ => ns.any fun n => !nsSpread n && nsStation n == i
  | .flush (.zone n _) _ _ => !nsSpread n && nsStation n == i
  | .flush (.clusters n _ _) _ _ => !nsSpread n && nsStation n == i
  | _ => false

/-- A fill ends where it stands: the line keeps the blocks it has (R360), and is INVALID with none. -/
def Line.settled (l : Line) : Option Line :=
  match l.state with
  | .filling => if l.valid = 0 ∧ l.dirty = 0 then none else some { l with state := .valid }
  | .evicting => some { l with state := .valid }
  | .writing => some { l with state := .dirty }
  | _ => some l

/-- The media operations of a station end with Namespace Not Ready: the station is CLAMPED, EMPTY, OFF or in FAULT. -/
def State.failOps (s : State) (i : Nat) : State :=
  let failed := (s.nvme.ctxs.filter fun x => x.waitsOn i)
  let s := s.forEach failed fun s x =>
    let s := match x.op with
      | .flush (.all _) _ _ => s.bump (nvKey 0x0A)
      | .read n lba _ _ _ => s.errorEntry n lba
      | _ => s
    s.complete x.seq cplNotReady
  let s := s.modGr fun g => { g with
    ops := g.ops.filter fun o => o.station != i || nsSpread o.nsid
    lines := g.lines.filterMap fun l => if !nsSpread l.nsid && nsStation l.nsid == i then l.settled else some l }
  (s.setReg (stKey i 0 7) 0).modStn i fun t => { t with heldOps := 0 }

/-- What a change of the station's state does to its media operations (R112). -/
def State.leaveMedia (s : State) (i new : Nat) : State :=
  if new = stSpinning then s.modStn i fun t => { t with heldOps := s.reg (stKey i 0 7) }
  else if new = stReady ∨ new = stActive then s.modStn i fun t => { t with heldOps := 0 }
  else if new = stMaint then s
  else s.failOps i

end Sys2Proof.Machine
end

