-- ==== Sys2Proof/Machine/Domains.lean ====
section
/-! DEFINITION. The switched domains (R81 to R83), the PLL bits (R90), the inrush slots (R100, R101) and the station
state's change (R105, R107, R112) with the entry to FAULT (R122), which every other chapter calls. -/

namespace Sys2Proof.Machine

/-! ### Device power state -/

def psBoot : Nat := 0
def psRun : Nat := 1
def psHearth : Nat := 2
def psShutdown : Nat := 3
def psRecovery : Nat := 4
def psFailed : Nat := 5

def State.powerState (s : State) : Nat := s.reg (key 0x2100 1)

/-- Post record 0x0108 and change the power state (Table 18.3). -/
def State.setPower (s : State) (v : Nat) : State :=
  let old := s.powerState
  if old = v then s
  else (s.setReg (key 0x2100 1) v).note 0x0108 0 (leBytes 1 old ++ leBytes 1 v ++ leBytes 2 (s.reg (key 0x2100 0x0B)))

/-! ### Domains (Table 4.1) -/

/-- A condition written RUN holds for a domain (R81): in RUN, and in BOOT from the domain's step of Table 4.5: the PCIe
quads and controller and the HBM interfaces once every rail is up and the firmware runs; the Reeves, and with them what the
table does not name (log entry 111), once the HBM is in service. -/
def State.runCond (s : State) (d : Nat) : Bool :=
  let early := d == 74 || d == 75 || d == 77 || (80 ≤ d && d ≤ 83)
  s.powerState == psRun || (s.powerState == psBoot && 2 ≤ s.power.phase && s.power.bankOk && (early || s.power.hbmOk))

/-- The security domain may be on: from the step of Table 4.5 that starts it, in RUN, and in RECOVERY, where an install is
verified (R436). -/
def State.secMay (s : State) : Bool :=
  s.powerState == psRun || (s.powerState == psBoot && 1 ≤ s.power.phase) || s.powerState == psRecovery

def State.ringOn (s : State) : Bool := s.part.q && s.reg (key 0x4800 1) == 1

/-- The slices R83 keeps on: three for each ACTIVE station, at most 24. -/
def State.minSlices (s : State) : Nat :=
  min 24 (3 * ((List.range s.part.stations).filter fun i => s.stState i == stActive).length)

/-- Whether the condition of Table 4.1 holds for a domain in mode AUTO. -/
def State.domainCond (s : State) (d : Nat) : Bool :=
  if d < 48 then
    let i := d / 6
    let st := s.stState i
    let r := d % 6
    if r = 0 ∨ r = 5 then st != stOff
    else if r ≤ 2 then (stSpinning ≤ st && st ≤ stActive) || (st == stMaint && s.substate (2 * i + (r - 1)) != hsOff)
    else st == stReady || st == stActive || (st == stMaint && s.substate (2 * i + (r - 3)) != hsOff)
  else if d < 72 then d - 48 < s.minSlices || s.power.slices.contains (d - 48)
  else if d = 72 ∨ d = 76 then s.runCond d && s.reg (key 0x4100 1) != 0
  else if d = 73 ∨ d = 86 ∨ d = 87 ∨ d = 92 ∨ d = 93 then s.ringOn && s.runCond d
  else if d = 75 then s.runCond d && 4 < s.reg (key 0x4000 4)
  else if d = 89 ∨ d = 90 ∨ d = 91 then
    s.runCond d && (((List.range s.part.stations).any fun i => i % 4 == d - 88 && s.stState i != stOff)
      || (d == 91 && s.ringOn))
  else if d = 94 then s.powerState == psBoot && 1 ≤ s.power.phase
  else if d = 95 then bitOf (s.reg (key 0x5000 2)) 3
  else s.runCond d

/-- Whether a domain is to be on (R81, R82). -/
def State.domainWanted (s : State) (d : Nat) : Bool :=
  !domainAbsent s.part d
    && (s.domainCond d || (s.power.tempWakes.contains d && (s.runCond d || (d == 94 && s.secMay))) || (s.reg (key 0x2101 (d + 1)) == 1 && s.powerState == psRun))

/-- State of a domain (object 0x2102): 0 absent, 1 off, 2 waking, 3 on, 4 gating. -/
def State.domState (s : State) (d : Nat) : Nat := s.reg (key 0x2102 (d + 1))
def State.setDom (s : State) (d v : Nat) : State := s.setReg (key 0x2102 (d + 1)) v

/-- Bring a domain's state toward what it is to be (R81, R82): a request that finds it gating waits. -/
def State.updDomain (s : State) (d : Nat) : State :=
  let v := s.domState d
  if s.domainWanted d then
    if v = 1 then s.setDom d 2
    else if v = 4 then
      { s with power := { s.power with wakeWaits := if s.power.wakeWaits.contains d then s.power.wakeWaits
          else s.power.wakeWaits ++ [d] } }
    else s
  else if v = 3 then s.setDom d 4
  else s

def State.updDomains (s : State) (l : List Nat) : State := s.forEach l State.updDomain

/-- The PLL bits of CLOCK_STATUS (R90): the HBM PLLs lock in training, a quad's PLL while its reference stands (R89); bit 9
and bit 0 are the Hearth clock's own. -/
def State.clockView (s : State) : State :=
  let up := s.powerState == psRun || s.powerState == psBoot
  let run := up && (s.powerState == psRun || 1 ≤ s.power.phase)
  let above := up && (List.range s.part.stations).any fun i => s.stState i != stOff
  let hbm := up && s.power.hbmOk
  let on := fun d r => s.domState d == 3 && !bitOf s.power.refLost r
  let bits := [(1, run), (2, above), (3, hbm), (4, hbm), (5, on 72 0), (6, on 73 1), (7, on 74 2), (8, on 75 2)]
  s.setReg (key 0x2100 0x0D) (bits.foldl (fun v b => putBit v b.1 b.2) (s.reg (key 0x2100 0x0D)))

/-- Every domain follows its condition now. -/
def State.updAll (s : State) : State := (s.updDomains (List.range 96)).clockView

/-- The domains a station's state bears on. -/
def State.updStation (s : State) (i : Nat) : State :=
  (s.updDomains (((List.range 6).map (6 * i + ·)) ++ (List.range 24).map (48 + ·) ++ [89, 90, 91])).clockView

/-- A temporary wake (R81). -/
def State.tempWake (s : State) (d : Nat) : State :=
  let s := if s.power.tempWakes.contains d then s
    else { s with power := { s.power with tempWakes := s.power.tempWakes ++ [d] } }
  s.updDomain d
def State.endTempWake (s : State) (d : Nat) : State :=
  ({ s with power := { s.power with tempWakes := s.power.tempWakes.filter (· != d) } }).updDomain d

/-! ### Ring frames as they leave the block (R390) -/

def State.modRing (s : State) (f : Ring → Ring) : State := { s with fabric := f s.fabric }

def ringKey (sub : Nat) : Nat := key 0x4800 sub
/-- Sub-index `j` of a port in object 0x4801. -/
def portKey (p j : Nat) : Nat := key 0x4801 (j + 8 * p)
def State.linkState (s : State) (p : Nat) : Nat := s.reg (portKey p 1)

/-- The position of a device in the roster, 0xFF where it has none. -/
def State.posOf (s : State) (serial : Nat) : Nat :=
  match s.fabric.roster.findIdx? (fun e => e.serial == serial) with
  | some i => if i < 254 then i else 0xFF
  | none => 0xFF

/-- DEST of a frame of this device's own (Table 16.2): the neighbour, every device, a member, or the master. -/
def State.frameDest (s : State) (kind : Nat) (f : List Nat) : Nat :=
  if kind ≤ 2 then 0xFF
  else if [3, 4, 5, 8, 9, 0x15].contains kind then 0xFE
  else if kind = 0x0B then s.posOf (f.headD 0)
  else if kind = 0x10 ∨ kind = 0x12 ∨ kind = 0x14 then
    match s.spread.volumes.find? (fun v => v.v == f.headD 0) with
    | some v => match v.cols[f.getD 1 0]? with | some c => s.posOf c.serial | none => 0xFF
    | none => 0xFF
  else 0

/-- The header of a frame of this device's own, but for its LINK_SEQ. -/
def State.ownHead (s : State) (p kind : Nat) (f : List Nat) : FrameHead :=
  ⟨s.frameDest kind f, s.reg (ringKey 4), 254, false, 0, Config.frameTag (s.fabric.seqs.getD p 0) % 2 ^ 32⟩

/-- A frame leaves by a port (R390): it takes the next LINK_SEQ of its link and waits in the 64-frame replay buffer until it is
acknowledged; one for this device itself uses no link. -/
def State.frameOut (s : State) (p kind : Nat) (h : FrameHead) (f : List Nat) (d : List Block) : State :=
  let own := s.reg (ringKey 4)
  let out := fun (h : FrameHead) => if d.isEmpty then Out.ring p kind h f else Out.ringData p kind h f d
  if h.dest = own ∧ own ≠ 0xFF then s.emit (out h)
  else
    let h := { h with seq := s.fabric.seqs.getD p 0 % 2 ^ 32 }
    (s.emit (out h)).modRing fun r =>
      { r with seqs := r.seqs.modify p (· + 1), sent := r.sent.modify p fun l => (l ++ [(⟨kind, h, f, d⟩ : SentFrame)]).drop ((l.length + 1) - 64) }

def State.ringSend (s : State) (p kind : Nat) (fields : List Nat) : State := s.frameOut p kind (s.ownHead p kind fields) fields []

/-- The port a frame for the whole ring or for the master leaves by: east where its link is up, else west. -/
def State.ringPort (s : State) : Nat := if s.linkState 0 = 2 then 0 else 1

/-! ### Inrush slots (R100) and ring grants (R101) -/

def State.freeSlots (s : State) : Bool := s.power.slots.length < s.reg (key 0x2100 9)
def State.holdsSlot (s : State) (i : Nat) : Bool := s.power.slots.contains (SlotHolder.spin i)

/-- A station takes a slot; its profile's time origin is that moment (R125). -/
def State.takeSlot (s : State) (i : Nat) : State :=
  ((({ s with power := { s.power with
      slots := s.power.slots ++ [SlotHolder.spin i], spinWaits := s.power.spinWaits.filter (· != i) } }).setReg
    (stKey i 0x10 0x0D) 1).setStFlag i 5 false).modStn i fun t => { t with origin := s.sampleCount }

/-- Put a spin-up among the waiting ones: before those of higher stations that the same strobe fired, else last. -/
def waitPlace (fired : Nat → Nat) (i : Nat) : List Nat → List Nat
  | [] => [i]
  | j :: r => if fired i ≠ 0 ∧ fired j = fired i ∧ i < j then i :: j :: r else j :: waitPlace fired i r

/-- A spin-up waits for a slot, in order of arrival (R100); those that one strobe fired stand in ascending order (R125). -/
def State.waitSlot (s : State) (i : Nat) : State :=
  let w := s.power.spinWaits
  let l := if w.contains i then w else waitPlace (fun j => (s.stn j).fired) i w
  ({ s with power := { s.power with spinWaits := l } }).setStFlag i 5 true

/-- A lower station fired by the same strobe has not yet come to ask for its slot (R125): its spin-up is ordered or measures. -/
def State.firedBefore (s : State) (i : Nat) : Bool :=
  (s.stn i).fired != 0 && (List.range i).any fun j =>
    (s.stn j).fired == (s.stn i).fired && ((s.stn j).spinPhase == 1 || ((s.stn j).spinPhase == 0 && s.hasOrder (16 + j) 0x10))

/-- A GRANT_REQ frame to the master: SERIAL, station, ask (1) or release (0) (Table 16.2). The master sends its own to itself
(log entry 70). -/
def State.sendGrantReq (s : State) (i : Nat) (ask : Bool) : State :=
  s.ringSend s.ringPort 0x0A [s.part.serial, i, if ask then 1 else 0]

/-- Whether spin-ups need a ring grant: a Q part whose ring is RING or FOLDED. -/
def State.ringRuns (s : State) : Bool := s.part.q && (s.reg (key 0x4800 3) == 3 || s.reg (key 0x4800 3) == 4)

/-- A spin-up's slot and grant are freed, and its waits withdrawn (R100, R113, R408). -/
def State.freeSlot (s : State) (i : Nat) : State :=
  let g := (s.stn i).grant || (s.stn i).asked
  let s := (({ s with power := { s.power with
      slots := s.power.slots.filter (· != SlotHolder.spin i), spinWaits := s.power.spinWaits.filter (· != i) } }).setReg
    (stKey i 0x10 0x0D) 0).setStFlag i 5 false
  let s := (s.modStn i fun t => { t with grant := false, asked := false, fired := 0 }).setStFlag i 6 false
  if g then s.sendGrantReq i false else s

/-- The minimum of R83 has fallen from `least`: the slices that it no longer keeps on stay on until they have been idle for
SLICE_IDLE_GATE. -/
def State.keepSlices (s : State) (least : Nat) : State :=
  let freed := (List.range least).filter fun k => s.minSlices ≤ k && s.domState (48 + k) != 1 && !s.power.slices.contains k
  { s with power := { s.power with slices := s.power.slices ++ freed } }

/-! ### Station state (R105) -/

/-- A station changes state: record 0x0301 with the old state, the new one and the trigger of Table 5.7. Every guard is enabled again
as it leaves MAINT (R181). -/
def State.setStation (s : State) (i new trig : Nat) : State :=
  let old := s.stState i
  if old = new then s
  else
    let least := s.minSlices
    let s := (s.setReg (stKey i 0 2) old).setReg (stKey i 0 1) new
    let s := if old = stMaint then s.setRegs [(hdKey (2 * i) 0x18 6, 7), (hdKey (2 * i + 1) 0x18 6, 7)] else s
    let s := (s.keepSlices least).modStn i fun t => { t with since := s.now }
    let s := s.note 0x0301 (0x20 + i) (leBytes 1 old ++ leBytes 1 new ++ leBytes 1 trig)
    let s := (s.leaveMedia i new).updStation i
    if old = stFault ∨ new = stFault then s.event .station else s

/-- HANDOFF_FREE as R115 defines it: read, not stored. -/
def State.handoffFree (s : State) (i : Nat) : Bool :=
  let t := s.stn i
  (s.stState i == stEmpty || (s.stState i == stFault && t.faultOpen)) && s.reg (stKey i 0x22 0x0C) == 1
    && t.stroke == .none && s.reg (stKey i 0x22 0x0D) == 0 && !s.busy (stIx i 1)
    && (t.stopped || (s.regI 32 (stKey i 0x10 2)).natAbs < 3000)

/-- FLAGS as it reads: HANDOFF_FREE and DIRTY are made up (Table 5.10). -/
def State.stFlags (s : State) (i : Nat) : Nat :=
  putBit (putBit (s.reg (stKey i 0 5)) 4 (s.handoffFree i)) 13 (!(s.dirtyLines i).isEmpty)

/-- The spindle counts as below 30 rpm (R206). -/
def State.below30 (s : State) (i : Nat) : Bool :=
  (s.stn i).stopped || decide ((s.regI 32 (stKey i 0x10 2)).natAbs < 3000)

/-! ### Station command result (R109) -/

/-- The core and motor I/O domains that a command woke gate again unless the state holds them or a write waits (R111). -/
def State.dropWake (s : State) (i : Nat) : State :=
  s.forEach [6 * i, 6 * i + 5] fun s d =>
    if s.power.writes.any fun w => w.domains.contains d then s else s.endTempWake d

/-- The running station command ends: END_STATE, ELAPSED and COMMAND, with the result code; an UNLOAD's end, whatever it is,
clears the mismatch of DISC_PRES (R116). -/
def State.endCommand (s : State) (i code : Nat) : State :=
  match (s.stn i).cmd with
  | none => s
  | some c =>
    let s := s.modStn i fun t => { t with cmd := none, noDispatch := t.noDispatch && s.stState i == stMaint, offered := false }
    let s := (s.setStFlag i 7 false).dropWake i
    let s := ((s.setStFlag i 7 false).setStFlag i 14 false).armedView i
    let s := if c.code = 3 then s.setStFlag i 15 false else s
    s.endResult (stIx i 1) [(5, s.stState i), (6, min ((s.now - c.start) / 1000) (2 ^ 32 - 1)), (7, c.code)] code

/-! ### The spindle's end states -/

/-- The bridge freewheels: SPD OFF, no commutation source (R191). -/
def State.freewheel (s : State) (i : Nat) : State := ((s.loopOff (16 + i) 0).setReg (stKey i 0x10 3) 0).emitBridge i 0

/-- A spin-up ends before AT_SPEED: slot and grant freed, SPD OFF, bridge freewheeling (R100). -/
def State.dropSpin (s : State) (i : Nat) : State :=
  let s := ((s.freeSlot i).freewheel i).modStn i fun t => { t with spinPhase := 0, retarget := false, lrWait := false }
  s.setReg (stKey i 0x10 1) (if s.below30 i then 0 else 7)

/-- A SPIN_UP that ran on a station's sequencer in `s0` and runs no more, with its spin-up unfinished, has ended before AT_SPEED:
slot and grant are freed and the bridge freewheels (R100), however the order ended. -/
def State.spinLeft (s s0 : State) (e : Nat) : State :=
  if 16 ≤ e ∧ (s0.sq e).code = some 0x10 ∧ (s.sq e).code ≠ some 0x10 ∧ (s.stn (e - 16)).spinPhase ≠ 0 then s.dropSpin (e - 16) else s

/-- A sled's profile starts toward a target in nm (R213). -/
def State.sledProfile (s : State) (h : Nat) (target : Int) : State :=
  (s.modStn (h / 2) fun t => { t with sleds := t.sleds.modify (h % 2) fun d => { d with target := some target, homing := false } }).setReg
    (sledKey h 0x1A) 3

/-- A sled that knows its position parks (R214). -/
def State.sledParkNow (s : State) (h : Nat) : State :=
  if s.reg (sledKey h 0x1C) = 1 then s.sledProfile h ((s.reg (sledKey h 0x13) : Int) * 1000) else s

/-- A station enters FAULT (R122): lasers off, heads parked, the spindle ramps down under control where it can or
freewheels, PSEN falls below 30 rpm, cause, detail and time are written and pushed, record 0x0302 and EMCY 0xFF10; the
running command ends FAILED with 0x0F53_0005, and orders of the station end. -/
def State.stnFault (s : State) (i cause detail : Nat) : State :=
  let old := s.stState i
  let hs := [2 * i, 2 * i + 1]
  let s := s.forEach (hs ++ [16 + i]) fun s e => s.dropOrders e
  let s := s.forEach hs fun s h => (s.parkHead h).sledParkNow h
  let driven := s.loopState (16 + i) 0 == lsClosed && s.reg (stKey i 0x10 3) != 0
  let s := s.freeSlot i
  let s := if driven ∧ ¬ s.below30 i then
      (s.modStn i fun t => { t with spinPhase := 0, down := 1 }).setReg (stKey i 0x10 1) 5
    else s.dropSpin i
  let s := s.modStn i fun t => { t with
    psenDrop := true, coastSince := none, stroke := .none, resuming := false, faultOpen := false, noDispatch := false }
  let s := s.setStFlag i 10 false
  let s := if s.below30 i then s.modStn i fun t => { t with psen := false, psenDrop := false } else s
  let s := s.setRegs [(stKey i 0xE0 1, cause), (stKey i 0xE0 2, detail),
    (stKey i 0xE0 3, if s.timeValid then s.calendar else 0)]
  let s := s.bump (stKey i 0xE0 5)
  let olds := (List.range 7).map fun j => s.reg (stKey i 0xE1 (j + 1))
  let s := s.setRegs ((List.range 7).map fun j => (stKey i 0xE1 (j + 2), olds.getD j 0))
  let s := s.setRegs [(stKey i 0xE1 1, cause * 65536 + old * 256), (stKey i 0xE1 0, min 8 (s.reg (stKey i 0xE1 0) + 1))]
  let s := s.setStation i stFault 0x28
  let s := s.post 0x0302 (0x20 + i) (leBytes 2 cause ++ leBytes 4 detail) (some ⟨0xFF10, true⟩)
  s.endCommand i 0x0F53_0005

end Sys2Proof.Machine
end

