-- ==== Sys2Proof/Machine/Frame.lean ====
section
/-! DEFINITION. A sector between its bytes and its channel bits (R250 to R254): the header and its CRC, the outer code, the
scrambler, the modulation, the frame and the lane's bits, and the layouts of the identity cluster (R261) and of a record
cluster of the layer information area (R262). -/

namespace Sys2Proof.Machine

/-! ### Bits -/

/-- The `n` lowest bits of a number, bit 0 first. -/
def lowBits (n v : Nat) : List Bool := (List.range n).map v.testBit
/-- The `n` lowest bits of a number, the highest first. -/
def highBits (n v : Nat) : List Bool := (lowBits n v).reverse
/-- The bits of bytes, byte 0 and bit 0 first (R252). -/
def bitsOfBytes (l : List Byte) : List Bool := l.flatMap fun b => lowBits 8 b.toNat

/-- Cut a list into pieces of `n`, on fuel. -/
def pieces {α : Type} (n : Nat) : Nat → List α → List (List α)
  | 0, _ => []
  | f + 1, l => l.take n :: pieces n f (l.drop n)

/-- Bytes of `n` bits as a list of so many bytes. -/
def bytesOfBits (n : Nat) (l : List Bool) : List Byte :=
  (pieces 8 n l).map fun b => BitVec.ofNat 8 (b.foldr (fun x a => 2 * a + (if x then 1 else 0)) 0)

/-! ### SECTOR_CRC (R253) -/

/-- The register of the reflected CRC-32 after one bit more. -/
def crcBit (c : Nat) : Nat := if c % 2 = 1 then (c / 2) ^^^ 0xEDB8_8320 else c / 2
def crcByte (c : Nat) (b : Byte) : Nat := (List.range 8).foldl (fun c _ => crcBit c) (c ^^^ b.toNat)
def crc32 (l : List Byte) : Nat := l.foldl crcByte 0xFFFF_FFFF ^^^ 0xFFFF_FFFF

/-- SECTOR_CRC of a sector: over bytes 0 to 43 and 48 to 4,159. -/
def sectorCrc (b : List Byte) : Nat := crc32 (b.take 44 ++ (b.drop 48).take 4112)
/-- The field of a byte list: `n` bytes from byte `at_`, the lowest first. -/
def field (b : List Byte) (at_ n : Nat) : Nat := leNat ((b.drop at_).take n)
/-- Whether a sector passes its SECTOR_CRC. -/
def sectorOk (b : List Byte) : Bool := field b 44 4 == sectorCrc b

/-! ### Protection information (R253, R299, R330)

The 64b Guard format is NVMe's, which the manual does not repeat (PRESUMED, log entry 121): 8 bytes of guard, 2 of application tag
and 6 of reference tag, big-endian; the guard is the reflected CRC-64 of polynomial 0xAD93_D235_94C9_3659, all ones in and out. -/

def crc64Byte (c : Nat) (b : Byte) : Nat :=
  (List.range 8).foldl (fun c _ => if c % 2 = 1 then (c / 2) ^^^ 0x9A6C_9329_AC4B_C9B5 else c / 2) (c ^^^ b.toNat)
def crc64 (l : List Byte) : Nat := l.foldl crc64Byte (2 ^ 64 - 1) ^^^ (2 ^ 64 - 1)

/-- The guard computed over a block's data. -/
def guardOf (b : Block) : Nat := crc64 (leBytes 4096 b.data)
/-- A field of protection information, `n` bytes from byte `at_`, big-endian. -/
def piField (pi at_ n : Nat) : Nat := leNat (((leBytes 16 pi).drop at_).take n).reverse
/-- Protection information of a guard, an application tag and a reference tag. -/
def piOf (guard app ref : Nat) : Nat := leNat ((leBytes 8 guard).reverse ++ (leBytes 2 app).reverse ++ (leBytes 6 ref).reverse)

/-- How a check of protection information comes out. -/
inductive PiCheck where
  | ok | guard | appTag | refTag
  deriving DecidableEq, Repr

/-- The checks of a block at an LBA (R299, R330): the guard, and for PI types 1 and 2 the reference tag. -/
def piCheck (type lba : Nat) (b : Block) : PiCheck :=
  if piField b.pi 0 8 ≠ guardOf b then .guard
  else if type ≤ 2 ∧ piField b.pi 10 6 ≠ lba % 2 ^ 48 then .refTag
  else .ok

/-- Protection information carried as it is, with no check asked for. -/
def piPlain : PiArgs := ⟨false, 0, 0, 0, 0⟩

/-- The checks that PRCHK of a command asks for on its block number `i` (R330): an application tag of all ones, for type 3 with a
reference tag of all ones, turns them off, as the NVMe format has it (log entry 121). -/
def piVerify (a : PiArgs) (type i : Nat) (b : Block) : PiCheck :=
  let app := piField b.pi 8 2
  let ref := piField b.pi 10 6
  if app = 0xFFFF ∧ (type ≠ 3 ∨ ref = 2 ^ 48 - 1) then .ok
  else if bitOf a.chk 2 ∧ piField b.pi 0 8 ≠ guardOf b then .guard
  else if bitOf a.chk 1 ∧ app &&& a.mask ≠ a.app &&& a.mask then .appTag
  else if bitOf a.chk 0 ∧ type ≤ 2 ∧ ref ≠ (a.ref + i) % 2 ^ 48 then .refTag
  else .ok

/-- The first check that fails over a run of blocks. -/
def piVerifyAll (a : PiArgs) (type : Nat) (l : List Block) : PiCheck :=
  (l.zipIdx.map fun p => piVerify a type p.2 p.1).foldl (fun c x => if c = .ok then x else c) .ok

/-- PRACT of a write makes the protection information (R330): the guard, the application tag given, the reference tag counted up from
the initial one (of type 3, the initial one). -/
def piGenerate (a : PiArgs) (type : Nat) (l : List Block) : List Block :=
  l.zipIdx.map fun p => { p.1 with pi := piOf (guardOf p.1) a.app ((a.ref + (if type = 3 then 0 else p.2)) % 2 ^ 48) }

/-- The same with another reference tag. -/
def blockRef (b : Block) (ref : Nat) : Block := { b with pi := piOf (piField b.pi 0 8) (piField b.pi 8 2) (ref % 2 ^ 48) }

/-! ### The sector (R253, Table 10.5) -/

/-- The fields of a sector's header. -/
structure SectorHead where
  psa : Nat
  location : Nat
  lba : Nat
  disc : Nat
  serial : Nat
  index : Nat
  blocks : Nat
  flags : Nat
  format : Nat
  kind : Nat
  origin : Nat
  deriving DecidableEq, Repr

/-- The header as far as its CRC. -/
def SectorHead.bytes (x : SectorHead) : List Byte :=
  leBytes 4 x.psa ++ leBytes 4 x.location ++ leBytes 8 x.lba ++ leBytes 8 x.disc ++ leBytes 4 x.serial ++ leBytes 1 x.index
    ++ leBytes 1 x.blocks ++ leBytes 2 x.flags ++ leBytes 1 x.format ++ leBytes 1 x.kind ++ leBytes 2 0 ++ leBytes 4 x.origin ++ leBytes 4 0

/-- The 4,160 bytes of a sector from its header and its body: the block and its protection information. -/
def sectorBytes (x : SectorHead) (body : List Byte) : List Byte := x.bytes ++ leBytes 4 (crc32 (x.bytes ++ body)) ++ body

/-- The body of a sector that carries a block. -/
def blockBody (b : Block) : List Byte := leBytes 4096 b.data ++ leBytes 16 b.pi
/-- The block a sector carries. -/
def sectorBlock (b : List Byte) : Block := ⟨field b 48 4096, field b 4144 16⟩

/-- LOCATION of a sector (Table 10.5). -/
def locationOf (sector zone track : Nat) : Nat := sector * 2 ^ 24 + zone * 2 ^ 18 + track

/-! ### The outer code RS(18,16) (R254) -/

/-- Twice an element of GF(2^8) with polynomial 0x11D. -/
def gfTwice (a : Nat) : Nat := if 128 ≤ a then (2 * a) ^^^ 0x11D else 2 * a
/-- A product, on the bits of `b`. -/
def gfMul : Nat → Nat → Nat → Nat
  | 0, _, _ => 0
  | n + 1, a, b => (if b % 2 = 1 then a else 0) ^^^ gfMul n (gfTwice a) (b / 2)
def gfPow (a : Nat) : Nat → Nat
  | 0 => 1
  | n + 1 => gfMul 8 a (gfPow a n)
/-- The inverse: the 254th power. -/
def gfInv (a : Nat) : Nat := gfPow a 254

/-- The two parity bytes at one byte position: the remainder of the data by (x − α^0)(x − α^1), sector 0 highest. -/
def rsParity (d : List Nat) : Nat × Nat :=
  d.foldl (fun (p : Nat × Nat) x => let f := x ^^^ p.1; (p.2 ^^^ gfMul 8 3 f, gfMul 8 2 f)) (0, 0)

/-- The bytes at each position of a list of bodies. -/
def columnAt (l : List (List Byte)) (i : Nat) : List Nat := l.map fun b => (b.getD i 0).toNat

/-- The bodies of sectors 16 and 17 from those of sectors 0 to 15. -/
def outerParity (l : List (List Byte)) : List (List Byte) :=
  let p := (List.range 4112).map fun i => rsParity (columnAt l i)
  [p.map fun x => BitVec.ofNat 8 x.1, p.map fun x => BitVec.ofNat 8 x.2]

/-- Repair of at most two erasures at one position: the 18 bytes with 0 at the places lost, and what stands there. -/
def rsRepair (c : List Nat) (lost : List Nat) : List Nat :=
  let s0 := c.foldl (· ^^^ ·) 0
  let s1 := (c.zipIdx.map fun p => gfMul 8 p.1 (gfPow 2 (17 - p.2))).foldl (· ^^^ ·) 0
  match lost with
  | [_] => [s0]
  | [i, j] =>
    let x := gfPow 2 (17 - i)
    let e := gfMul 8 (s1 ^^^ gfMul 8 s0 x) (gfInv (x ^^^ gfPow 2 (17 - j)))
    [s0 ^^^ e, e]
  | _ => []

/-- The bodies of the lost sectors of a cluster, in their order: `l` the 18 bodies, empty where lost. -/
def outerRepaired (l : List (List Byte)) (lost : List Nat) : List (List Byte) :=
  let r := (List.range 4112).map fun i => rsRepair (columnAt l i) lost
  (List.range lost.length).map fun k => r.map fun x => BitVec.ofNat 8 (x.getD k 0)

/-- A lost sector's header, rebuilt from that of a good sector `g` (R254, R290): its own PSA, LOCATION and INDEX, and the rest as
there. -/
def rebuiltHead (g : List Byte) (psa loc idx : Nat) : SectorHead :=
  ⟨psa, loc, field g 8 8, field g 16 8, field g 24 4, idx, field g 29 1, field g 30 2, field g 32 1, field g 33 1, field g 36 4⟩

/-! ### The LDPC code and the scrambler (R252) -/

/-- The shift of circulant (m, n); none for a zero circulant. -/
def circulant (base : List Byte) (m n : Nat) : Option Nat :=
  let v := field base (2 * (300 * m + n)) 2
  if v < 128 then some v else none

/-- The checks of the code that a word of 38,400 bits fails: row r of block row m adds, from each circulant of shift v, bit
(r + v) mod 128 of its block column. -/
def unsatisfied (base : List Byte) (w : List Bool) : Nat :=
  let cols := pieces 128 300 w
  ((List.range 40).map fun m =>
    let cs := cols.zipIdx.filterMap fun p => (circulant base m p.2).map fun v => (p.1, v)
    ((List.range 128).filter fun r => cs.foldl (fun x p => xor x (p.1.getD ((r + p.2) % 128) false)) false).length).sum

/-- The codeword of a sector: its 33,280 bits and the 5,120 parity bits. -/
def codeword (b : List Byte) : List Bool := let i := bitsOfBytes b; i ++ Config.ldpcParity i

/-- `n` bits of the 16-bit register of x^16 + x^14 + x^13 + x^11 + 1. -/
def lfsr : Nat → Nat → List Bool
  | 0, _ => []
  | n + 1, r =>
    let b := Nat.xor (Nat.xor (r % 2) (r / 4 % 2)) (Nat.xor (r / 8 % 2) (r / 32 % 2))
    (r % 2 == 1) :: lfsr n (r / 2 + b * 32768)

/-- The register's output seeded with bits 15..0 of a PSA XOR a constant, a seed of 0 replaced by the constant. -/
def seeded (n psa c : Nat) : List Bool := let v := (psa % 65536) ^^^ c; lfsr n (if v = 0 then c else v)
def scrambled (psa : Nat) (w : List Bool) : List Bool := List.zipWith xor w (seeded w.length psa 0xACE1)

/-! ### Modulation and frame (R250, R251) -/

/-- The 16/17 code: b15 to b8, NOT b8, b7 to b0. -/
def modulate : List Bool → List Bool
  | a :: b :: c :: d :: e :: f :: g :: h :: i :: j :: k :: l :: m :: n :: o :: p :: r =>
    a :: b :: c :: d :: e :: f :: g :: h :: (!h) :: i :: j :: k :: l :: m :: n :: o :: p :: modulate r
  | _ => []

/-- Soft values demodulated (R281): the value of x is added, negated, to that of b8. -/
def demodulate : List Int → List Int
  | a :: b :: c :: d :: e :: f :: g :: h :: x :: i :: j :: k :: l :: m :: n :: o :: p :: r =>
    a :: b :: c :: d :: e :: f :: g :: (h - x) :: i :: j :: k :: l :: m :: n :: o :: p :: demodulate r
  | _ => []

/-- The LDPC input values of a frame's 40,800 data values (R281): demodulated, the sign turned where the scrambler bit is 1. -/
def ldpcInput (psa : Nat) (v : List Int) : List Int :=
  let d := demodulate v
  List.zipWith (fun (x : Int) (f : Bool) => if f then -x else x) d (seeded d.length psa 0xACE1)

def ssmBits : List Bool := highBits 64 0x0000_0FFF_FF96_C35A
def rsmBits : List Bool := highBits 24 0xFF_FFF2

/-- The 41,584 channel bits of a sector's frame (Table 10.4). -/
def frameBits (psa : Nat) (b : List Byte) : List Bool :=
  (List.replicate 32 (highBits 4 0xC)).flatten ++ ssmBits
    ++ ((pieces 1700 24 (modulate (scrambled psa (codeword b)))).flatMap fun d => rsmBits ++ d) ++ highBits 16 0xCCCC

/-- The body of a test cluster's data sector (R312). -/
def testBody (psa : Nat) : List Byte := bytesOfBits 4096 (seeded 32768 psa 0x5A5A) ++ leBytes 16 0

/-- The delimiter that opens a band on a lane (R301). -/
def delimiter : List Bool := true :: List.replicate 32 false

/-- Lane bits of recorded levels (chapter 12): each level XOR the one before, the first against `last`. -/
def laneBits : Bool → List Bool → List Bool
  | _, [] => []
  | last, x :: r => xor x last :: laneBits x r

/-! ### The identity cluster (R261, Tables 10.10 and 10.11) -/

/-- The write-strategy data of a layer of a side. -/
def identityLayer (b : List Byte) (side l : Nat) : LayerData :=
  let at_ := 64 + 1024 * l
  ⟨side, l, field b at_ 2, field b (at_ + 2) 2, (b.drop (at_ + 16)).take 80⟩

/-- Whether an identity cluster is recognised: MAGIC and IDENTITY_CRC. -/
def identityOk (b : List Byte) : Bool := field b 0 4 == 0x4449_4144 && field b 65532 4 == crc32 (b.take 65532)

/-! ### Record clusters of the LIA (R262, Tables 10.12 and 10.13) -/

/-- The 16 bytes of an entry. -/
def LiaEntry.bytes (e : LiaEntry) : List Byte :=
  leBytes 1 e.kind ++ leBytes 1 e.state ++ leBytes 2 0 ++ leBytes 4 e.first ++ leBytes 4 e.second ++ leBytes 4 e.serial

/-- The 65,536 bytes of a record cluster. -/
def recordBytes (serial layer : Nat) (es : List LiaEntry) : List Byte :=
  let b := leBytes 4 0x524C_4941 ++ leBytes 4 serial ++ leBytes 1 layer ++ leBytes 1 0 ++ leBytes 2 es.length ++ leBytes 4 0
    ++ es.flatMap LiaEntry.bytes ++ List.replicate (65516 - 16 * es.length) 0
  b ++ leBytes 4 (crc32 b)

/-- The entries of a record cluster with its RECORD_SERIAL; none where MAGIC or RECORD_CRC fails. -/
def recordRead (b : List Byte) : Option (Nat × List LiaEntry) :=
  if field b 0 4 == 0x524C_4941 && field b 65532 4 == crc32 (b.take 65532) then
    some (field b 4 4, (List.range (min 4092 (field b 10 2))).map fun e =>
      let a := 16 + 16 * e
      ⟨field b a 1, field b (a + 1) 1, field b (a + 4) 4, field b (a + 8) 4, field b (a + 12) 4⟩)
  else none

end Sys2Proof.Machine
end

