-- ==== Sys2Proof/Machine/Spread.lean ====
section
/-! DEFINITION. Ring frames as they leave the block (R390), and the spread volumes on their master (R409 to R416): layout,
Cauchy Reed-Solomon code, staging, padding, and reads from members. -/

namespace Sys2Proof.Machine

def State.isMaster (s : State) : Bool := s.ringRuns && s.reg (ringKey 4) == 0

/-! ### The code of a row (R411) -/

/-- Every byte of a block times a constant. -/
def gfScale (c : Nat) : Nat → Nat → Nat
  | 0, _ => 0
  | n + 1, x => gfMul 8 c (x % 256) + 256 * gfScale c n (x / 256)

/-- Row of the code for a slot: the unit of data slot d, or the coefficients 1 / (j XOR (m + d)) of parity j. -/
def codeRow (k m slot : Nat) : List Nat :=
  (List.range k).map fun d => if slot < k then (if d = slot then 1 else 0) else gfInv ((slot - k) ^^^ (m + d))

/-- A cluster as the data of its 16 blocks. -/
abbrev Clust := List Nat

def clustXor (a b : Clust) : Clust := a.zipWith (· ^^^ ·) b
def clustScale (c : Nat) (a : Clust) : Clust := a.map (gfScale c 4096)
def clustZero : Clust := List.replicate 16 0
/-- The sum of coefficients times clusters. -/
def clustSum (cs : List Nat) (ds : List Clust) : Clust := (cs.zipWith clustScale ds).foldl clustXor clustZero

/-- Take a multiple of the pivot row away. -/
def eliminate (p : Nat) (piv x : List Nat × Clust) : List Nat × Clust :=
  let f := x.1.getD p 0
  (x.1.zipWith (fun a b => a ^^^ gfMul 8 f b) piv.1, clustXor x.2 (clustScale f piv.2))

/-- Gauss-Jordan elimination: column p onward, `n` columns left; `done` holds the rows of the columns before. -/
def solveRows : Nat → Nat → List (List Nat × Clust) → List (List Nat × Clust) → Option (List Clust)
  | 0, _, done, _ => some (done.map (·.2))
  | n + 1, p, done, rest =>
    match rest.find? fun x => x.1.getD p 0 != 0 with
    | none => none
    | some x =>
      let c := gfInv (x.1.getD p 0)
      let piv := (x.1.map (gfMul 8 c), clustScale c x.2)
      solveRows n (p + 1) (done.map (eliminate p piv) ++ [piv]) ((rest.erase x).map (eliminate p piv))

/-- The data clusters of a row from any k of its slots. -/
def decodeRow (k m : Nat) (parts : List (Nat × Clust)) : Option (List Clust) :=
  solveRows k 0 [] ((parts.take k).map fun p => (codeRow k m p.1, p.2))

/-! ### Layout (R411) -/

end Sys2Proof.Machine

namespace Sys2Proof

def Volume.n (v : Volume) : Nat := v.k + v.m
/-- The column of a slot of a row, and the slot that a column holds. -/
def Volume.colOf (v : Volume) (row slot : Nat) : Nat := (slot + row % 4000) % v.n
def Volume.slotOf (v : Volume) (row col : Nat) : Nat := (col + v.n - row % 4000 % v.n) % v.n
/-- The row and the data slot of a cluster of the spread namespace, and back. -/
def Volume.rowOf (v : Volume) (cl : Nat) : Nat × Nat := (4000 * (cl / 65536) + cl % 65536 / v.k, cl % 65536 % v.k)
def Volume.clusterOf (v : Volume) (row d : Nat) : Nat := row / 4000 * 65536 + row % 4000 * v.k + d
/-- The first member LBA of a row in a column. -/
def Volume.memberLba (v : Volume) (row col : Nat) : Nat :=
  (((v.cols[col]?).map (·.first)).getD 0 + row / 4000) * 65536 + 16 * (row % 4000)
def Volume.zoneRows (v : Volume) (z : Nat) : Nat := (Machine.findKey z v.rows).getD 0
def Volume.modCol (v : Volume) (i : Nat) (f : Column → Column) : Volume := { v with cols := v.cols.modify i f }

end Sys2Proof

namespace Sys2Proof.Machine

def State.volume (s : State) (v : Nat) : Option Volume := s.spread.volumes.find? fun x => x.v == v
def State.modVolume (s : State) (v : Nat) (f : Volume → Volume) : State :=
  s.modSpread fun p => { p with volumes := p.volumes.map fun x => if x.v = v then f x else x }
/-! ### Reachability (R410, R413) -/

/-- A column is reachable: its device in the master's segment, its station READY or ACTIVE, its writes served. -/
def State.colUp (s : State) (c : Column) : Bool :=
  if c.serial = s.part.serial then (let st := s.stState (nsStation c.nsid); c.up && (st == stReady || st == stActive))
  else c.up && s.fabric.roster.any fun e => e.serial == c.serial

def State.upCols (s : State) (v : Volume) : List Nat :=
  (List.range v.n).filter fun i => match v.cols[i]? with | some c => s.colUp c | none => false

/-- A spread namespace serves I/O: at least k columns are reachable, and an erasure-coding engine is in service. -/
def State.spreadReady (s : State) (nsid : Nat) : Bool :=
  !(s.bist.out.contains 136 && s.bist.out.contains 137)
    && match s.volume (nsid - 256) with
      | some v => v.k ≤ (s.upCols v).length
      | none => false

/-! ### Staging (R412) -/

/-- Clusters the staging region holds (Table 15.1). -/
def State.stagingClusters (s : State) : Nat := if s.part.stations = 8 then 32768 else 16384

/-- Staged data and rows in flight are lost: each zone's write pointer falls back to the rows encoded (R416). -/
def State.dropStaged (s : State) : State :=
  let s := s.forEach s.spread.volumes fun s v =>
    s.modNs (256 + v.v) fun n => n.zones.foldl (fun n z =>
      let w := 16 * v.k * v.zoneRows z.idx
      n.setZone { z with wp := min z.wp w, state := if z.state = 4 ∧ z.wp ≤ w then 4 else if min z.wp w = 0 then 0 else 3 }) n
  s.modSpread fun p => { p with staged := [], rows := [], flushing := [] }

/-- A row of a flush's zone is filled with zero clusters, and the write pointer moves to the next row (R412). -/
def State.padRow (s : State) (v : Volume) (z : Nat) : State :=
  let nsid := 256 + v.v
  match s.ns nsid with
  | none => s
  | some n =>
    let w := (n.zone z).wp
    if w % (16 * v.k) = 0 ∨ n.zcap z ≤ w then s
    else
      let r := w / (16 * v.k)
      let s := s.forEach (List.range v.k) fun s d =>
        let cl := v.clusterOf (4000 * z + r) d
        let at_ := 16 * (r * v.k + d)
        if at_ + 16 ≤ w then s
        else if at_ < w then s.modLine nsid cl fun l => { l with dirty := 65535 }
        else
          let l : Line := { set := 0, way := 0, nsid := nsid, cluster := cl, state := .dirty, valid := 0, dirty := 65535, poison := 0
                            lock := 0, flushSeq := some 0, later := none, laterMask := 0, prefetch := false, discard := false
                            blocks := List.replicate 16 ⟨0, 0⟩ }
          (s.modSpread fun p => { p with staged := p.staged ++ [l] }).bump (key 0x4A00 7)
      s.modNs nsid fun n =>
        let w := (r + 1) * (16 * v.k)
        n.setZone { n.zone z with wp := w, state := if n.zcap z ≤ w then 4 else (n.zone z).state }

/-- The member flushes of a zone go out once every staged row of it is encoded (R412). -/
def State.memberFlush (s : State) (v : Volume) (z : Nat) : State :=
  let rows := s.spread.rows.filter fun r => r.v == v.v && r.row / 4000 == z
  let waiting := s.spread.staged.any fun l => l.nsid == 256 + v.v && l.cluster / 65536 == z
    && !rows.any fun r => r.row == (v.rowOf l.cluster).1
  let cols := (List.range v.n).filter fun i => rows.any fun r => r.sent.contains i || r.wrote.contains i
  if waiting || cols.isEmpty || s.spread.flushing.contains (v.v, z) then s
  else
    let s := s.modSpread fun p => { p with flushing := p.flushing ++ [(v.v, z)] }
    s.forEach cols fun s i =>
      s.ringSend s.ringPort 0x14 [v.v, i, ((v.cols[i]?).map (·.first)).getD 0 + z]

/-- The zones of a volume with staged data. -/
def State.stagedZones (s : State) (v : Volume) : List Nat :=
  ((s.spread.staged.filter fun l => l.nsid == 256 + v.v).map fun l => l.cluster / 65536).eraseDups

/-- A flush reaches the spread volumes it covers: `only` restricts it to one zone. -/
def State.spreadFlush (s : State) (nsids : List Nat) (only : Option Nat) : State :=
  s.forEach (s.spread.volumes.filter fun v => nsids.contains (256 + v.v)) fun s v =>
    let zs := match only with | some z => [z] | none => s.stagedZones v
    s.forEach zs fun s z => (s.padRow v z).memberFlush v z

/-! ### Reads from members (R414) -/

/-- Reads that want a cluster fail: fewer than k columns can deliver its row. -/
def State.failSpread (s : State) (nsid cl : Nat) : State :=
  let s := s.bump (key 0x4A00 4)
  s.forEach s.nvme.ctxs fun s x =>
    match x.op with
    | .read n lba k _ _ =>
      if n = nsid ∧ lba / 16 ≤ cl ∧ cl ≤ (lba + k - 1) / 16 then
        ((s.modNvme fun v => { v with mediaErrors := v.mediaErrors + 1 }).errorEntry nsid lba).complete x.seq (cplFail .unrecoveredRead false)
      else s
    | _ => s

/-- Whether a column can give a row: reachable, the row not owed, and no failure of it in this read. -/
def State.canGive (s : State) (v : Volume) (g : SpreadGet) (i : Nat) : Bool :=
  match v.cols[i]? with
  | some c => s.colUp c && !c.owed.contains g.row && !g.failed.contains i
  | none => false

/-- Ask a column for its cluster of a row. -/
def State.askMember (s : State) (v : Volume) (row i : Nat) : State :=
  s.ringSend s.ringPort 0x10 [v.v, i, v.memberLba row i, 16]

/-- The read of a row asks what it still needs: the wanted columns, or, once one cannot give, any k columns. -/
def State.askRow (s : State) (v : Volume) (g : SpreadGet) : State :=
  let rest := s.spread.gets.filter fun x => !(x.v == g.v && x.row == g.row)
  let wantCols := g.want.map (v.colOf g.row)
  let deg := g.degraded || wantCols.any fun i => !s.canGive v g i && !g.got.any (·.1 == i)
  let able := (List.range v.n).filter fun i => s.canGive v g i
  if deg ∧ able.length < v.k then
    let s := s.modSpread fun p => { p with gets := rest }
    s.forEach g.want fun s d => s.failSpread (256 + v.v) (v.clusterOf g.row d)
  else
    let need := if deg then able.take v.k else wantCols
    let new := need.filter fun i => !g.asked.contains i
    let s := s.modSpread fun p => { p with gets := rest ++ [{ g with asked := g.asked ++ new, degraded := deg }] }
    s.forEach new fun s i => s.askMember v g.row i

/-- A spread read wants a cluster from its column. -/
def State.wantCluster (s : State) (nsid cl : Nat) : State :=
  match s.volume (nsid - 256) with
  | none => s
  | some v =>
    let (row, d) := v.rowOf cl
    match s.spread.gets.find? (fun (g : SpreadGet) => g.v == v.v && g.row == row) with
    | some g => if g.want.contains d then s else s.askRow v { g with want := g.want ++ [d] }
    | none => s.askRow v ⟨v.v, row, [d], [], [], [], false⟩

/-! ### Rows as they are sent (R411, R412) -/

def Line.block (l : Line) (b : Nat) : Block := l.blocks.getD b ⟨0, 0⟩

/-- A member block's protection information (R411): a guard over its own data, the host's or generated; the reference tag of an LBA. -/
def retag (gen : Bool) (x : Block) (lba : Nat) : Block :=
  ⟨x.data, piOf (if gen then guardOf x else piField x.pi 0 8) (if gen then Config.memberTag lba % 2 ^ 16 else piField x.pi 8 2) (lba % 2 ^ 32)⟩

/-- A cluster of the volume as staged, complete. -/
def State.stagedCluster (s : State) (nsid cl : Nat) : Option Line :=
  s.spread.staged.find? fun l => l.nsid == nsid && l.cluster == cl && l.dirty == 65535

/-- The staged data clusters of a row, if all k are complete. -/
def State.rowData (s : State) (v : Volume) (row : Nat) : Option (List Line) :=
  (List.range v.k).mapM fun d => s.stagedCluster (256 + v.v) (v.clusterOf row d)

/-- The 16 blocks of slot `slot` as the member stores them: guards kept for data, generated for parity. -/
def memberBlocks (v : Volume) (lines : List Line) (slot lba : Nat) : List Block :=
  if slot < v.k then
    match lines[slot]? with
    | some l => (List.range 16).map fun b => let x := l.block b; retag (v.lbaf == 0) x (lba + b)
    | none => []
  else
    let sum := clustSum (codeRow v.k v.m slot) (lines.map fun l => l.blocks.map (·.data))
    (List.range 16).map fun b => retag true ⟨sum.getD b 0, 0⟩ (lba + b)

/-- MEMBER_WRITE of a row's cluster to a column. -/
def State.sendRow (s : State) (v : Volume) (row i : Nat) (blocks : List Block) : State :=
  let f := [v.v, i, v.memberLba row i]
  s.frameOut s.ringPort 0x12 (s.ownHead s.ringPort 0x12 f) f blocks

/-- The same of a row that is still staged. -/
def State.sendStaged (s : State) (v : Volume) (row i : Nat) : State :=
  match s.rowData v row with
  | some lines => s.sendRow v row i (memberBlocks v lines (v.slotOf row i) (v.memberLba row i))
  | none => s

end Sys2Proof.Machine
end

