-- ==== Sys2Proof/Machine/Granary.lean ====
section
/-! DEFINITION. The Granary sector cache (chapter 14): the set index, replacement, reads, fills, writes, flushes, pins,
invalidation and the discard of a controller reset. -/

namespace Sys2Proof.Machine

def grKey (sub : Nat) : Nat := key 0x4401 sub
/-- Count in a 64-bit counter. -/
def State.bump64 (s : State) (k : Nat) : State := s.addReg 64 k 1

/-! ### The set index (R356) -/

/-- The folding of a number into `w` bits, on fuel. -/
def foldBits (w : Nat) : Nat → Nat → Nat
  | 0, _ => 0
  | f + 1, x => if x = 0 then 0 else (x % 2 ^ w) ^^^ foldBits w f (x / 2 ^ w)

/-- The index width of the package (Table 14.1). -/
def State.setWidth (s : State) : Nat := if s.part.stations = 8 then 14 else 13

/-- The set of a cluster. -/
def State.setOf (s : State) (nsid cl : Nat) : Nat :=
  foldBits s.setWidth 64 cl ^^^ foldBits s.setWidth 64 (nsid * 0x9E37)

/-! ### Replacement (R367, R368) -/

def State.tree (s : State) (x : Nat) : Nat := (findKey x s.granary.trees).getD 0
def State.setTree (s : State) (x v : Nat) : State := s.modGr fun g => { g with trees := putKey x v 0 g.trees }

/-- The tree with the bits along a way's path pointing away from it: node `n`, `k` levels left. -/
def pointAway (way : Nat) : Nat → Nat → Nat → Nat
  | 0, _, t => t
  | k + 1, n, t =>
    let b := bitOf way k
    pointAway way k (2 * n + (if b then 1 else 0)) (putBit t (n - 1) !b)

/-- The walk among the candidate ways: at each node the side its bit points to, unless that side holds none. -/
def treeWalk (cand : List Nat) (t : Nat) : Nat → Nat → Nat → Nat
  | 0, _, w => w
  | k + 1, n, w =>
    let b := bitOf t (n - 1)
    let has := fun (d : Bool) => cand.any fun c => c / 2 ^ (k + 1) == w && bitOf c k == d
    let d := if has b then b else !b
    treeWalk cand t k (2 * n + (if d then 1 else 0)) (2 * w + (if d then 1 else 0))

def State.setLines (s : State) (x : Nat) : List Line := s.granary.lines.filter fun l => l.set == x

/-- A way takes tags: neither retired with its row (R383) nor with its tag (R384). -/
def State.wayServes (s : State) (x w : Nat) : Bool := !s.hbm.retired.contains (x, w) && !s.hbm.lostWays.contains (x, w)

/-- The victim way of a set: the lowest INVALID way, else the walk's way among the unlocked VALID ones. -/
def State.victim (s : State) (x : Nat) : Option Nat :=
  let ls := s.setLines x
  match (List.range 16).find? (fun w => (ls.all fun l => l.way != w) && s.wayServes x w) with
  | some w => some w
  | none =>
    let cand := (ls.filter fun l => l.state == .valid && l.lock == 0 && s.wayServes x l.way).map (·.way)
    if cand.isEmpty then none else some (treeWalk cand (s.tree x) 4 1 0)

/-- An access to an unlocked way turns the tree away from it. -/
def State.touch (s : State) (l : Line) : State :=
  if l.lock = 0 then s.setTree l.set (pointAway l.way 4 1 (s.tree l.set)) else s

/-- Locked ways of a set, and those of host pins. -/
def State.lockedWays (s : State) (x : Nat) : Nat := ((s.setLines x).filter fun l => l.lock != 0).length
def State.pinnedWays (s : State) (x : Nat) : Nat := ((s.setLines x).filter fun l => l.lock == 2).length

/-! ### Reading a line -/

/-- Whether a block can be read from a line (R357). -/
def Line.has (l : Line) (b : Nat) : Bool := bitOf (l.valid ||| l.dirty) b
def emptyBlocks : List Block := List.replicate 16 ⟨0, 0⟩

/-- Clusters of a run of blocks. -/
def clustersOf (lba n : Nat) : List Nat :=
  if n = 0 then [] else (List.range ((lba + n - 1) / 16 + 1 - lba / 16)).map (lba / 16 + ·)

/-- Whether an earlier write that has not staged its data holds a block: a read behind it takes the block from it (R340). -/
def State.blockAwaited (s : State) (q nsid a : Nat) : Bool :=
  s.nvme.ctxs.any fun x => x.seq < q && match x.op with
    | .write n b d _ _ => n == nsid && b ≤ a && a < b + d.length
    | _ => false

/-- Whether an earlier write that has not staged its data touches a cluster (R340). -/
def State.earlierWrite (s : State) (q nsid cl : Nat) : Bool :=
  s.nvme.ctxs.any fun x => x.seq < q && match x.op with
    | .write n a d _ _ => n == nsid && (clustersOf a d.length).contains cl
    | _ => false

/-- Whether an earlier read that has not taken its data touches a cluster (R340). -/
def State.earlierRead (s : State) (q nsid cl : Nat) : Bool :=
  s.nvme.ctxs.any fun x => x.seq < q && match x.op with
    | .read n a k got _ => n == nsid && (clustersOf a k).contains cl && got.length < k
    | _ => false

/-! ### Fills (R359 to R363) -/

def linesOpen (l : Line) : Bool := l.state == .filling

/-- Queue a media operation for a cluster, with its victim marked EVICTING; one that is queued already is joined. -/
def State.queueFill (s : State) (nsid cl : Nat) (k : OpKind) : State :=
  match s.op nsid cl with
  | some o =>
    if o.bypass then
      s.modGr fun g => { g with ops := g.ops ++ [newOp nsid cl k none] }
    else if k = .demand then
      let s := s.bump (grKey 3)
      if o.kind = .prefetch then
        (s.modOp nsid cl fun o => { o with kind := .demand }).modLine nsid cl fun l => { l with prefetch := false }
      else s
    else s
  | none =>
    let v := match s.line nsid cl with
      | some _ => none
      | none => s.victim (s.setOf nsid cl)
    let x := s.setOf nsid cl
    let s : State := match v with
      | none => s
      | some w => s.modGr fun g => { g with lines := g.lines.map fun (l : Line) =>
          if l.set = x ∧ l.way = w ∧ l.state = LineState.valid then { l with state := LineState.evicting } else l }
    s.modGr fun g => { g with ops := g.ops ++ [newOp nsid cl k v] }

/-- Whether a cluster lies wholly at or above its zone's write pointer. -/
def Ns.clusterAbove (n : Ns) (cl : Nat) : Bool := n.above (16 * cl)

/-- Prefetches after a demand miss on cluster `cl` (R363). -/
def State.prefetchAfter (s : State) (nsid cl : Nat) : State :=
  match s.ns nsid with
  | none => s
  | some n => s.forEach (List.range (s.reg (key 0x4400 4))) fun s j =>
    let a := cl + 1 + j
    if (s.line nsid a).isSome || (s.op nsid a).isSome || n.nsze ≤ 16 * a || n.clusterAbove a then s
    else (s.queueFill nsid a .prefetch).bump (grKey 4)

/-- A hit on a line by a host read or write (R358, R362, R363, R373). -/
def State.hitLine (s : State) (l : Line) : State :=
  if nsSpread l.nsid then s
  else
  let s := if l.state = .writing then s.bump (grKey 8) else s
  let s := if l.prefetch then s.bump (grKey 5) else s
  let s := if l.state = .evicting then
      (s.bump (grKey 7)).modGr fun g => { g with ops := g.ops.map fun o =>
        if (s.setOf o.nsid o.cluster == l.set) && o.victim == some l.way then { o with victim := none } else o }
    else s
  (s.modLine l.nsid l.cluster fun l => { l with
    prefetch := false, state := if l.state = .evicting then .valid else l.state }).touch l

/-- The blocks a read can take now from one cluster. -/
def State.takeBlocks (s : State) (n : Ns) (q lba k : Nat) (got : List (Nat × Block)) (cl : Nat) : List (Nat × Block) :=
  if s.earlierWrite q n.nsid cl then []
  else
    (List.range 16).filterMap fun b =>
      let a := 16 * cl + b
      if a < lba ∨ lba + k ≤ a ∨ got.any (·.1 == a) then none
      else if n.above a then some (a, ⟨0, if n.lbaf = 1 then 2 ^ 128 - 1 else 0⟩)
      else match s.line n.nsid cl with
        | some l => if l.has b && !bitOf l.poison b then some (a, l.block b) else none
        | none => none

/-- Whether a wanted block of a cluster is poisoned in its line. -/
def State.poisoned (s : State) (nsid lba k cl : Nat) : Bool :=
  match s.line nsid cl with
  | some l => (List.range 16).any fun b => lba ≤ 16 * cl + b && 16 * cl + b < lba + k && bitOf l.poison b
  | none => false

/-- The blocks of a read in order. -/
def readOut (lba k : Nat) (got : List (Nat × Block)) : List Block :=
  (List.range k).map fun j =>
    match got.find? (fun g => g.1 == lba + j) with
    | some g => g.2
    | none => ⟨0, 0⟩

/-- The status of a failed check of protection information. -/
def PiCheck.status : PiCheck → Status
  | .ok => .success
  | .guard => .guardCheck
  | .appTag => .appTagCheck
  | .refTag => .refTagCheck

/-- Whether a namespace carries protection information (R328, R330). -/
def State.carriesPi (s : State) (nsid : Nat) : Bool := match s.ns nsid with | some n => n.lbaf == 1 | none => false

/-- A read whose context holds every block completes (R359): with the checks of PRCHK in LBA format 1, and the protection
information stripped with PRACT (R330). -/
def State.finishRead (s : State) (q : Nat) : State :=
  match s.ctx q with
  | some x =>
    match x.op with
    | .read nsid lba k got pi =>
      if k ≤ got.length then
        let l := readOut lba k got
        let c := if s.carriesPi nsid then piVerifyAll pi (s.reg (nvKey 6)) l else .ok
        if c ≠ .ok then (s.errorEntry nsid lba).complete q (cplFail c.status true)
        else
          let l := if pi.act then l.map fun b => { b with pi := 0 } else l
          let s := s.modNvme fun n => { n with blocksRead := n.blocksRead + k }
          (if x.dropped then s else s.emit (.blocks x.ctrl x.sq x.cid l)).complete q (cplOk 0 0)
      else s
    | _ => s
  | none => s

/-- A read that waits takes what it can now. -/
def State.serveRead (s : State) (q : Nat) : State :=
  match s.ctx q with
  | some x =>
    match x.op with
    | .read nsid lba k got pi =>
      match s.ns nsid with
      | none => s.complete q (cplFail .invalidNamespaceOrFormat true)
      | some n =>
        let got := (clustersOf lba k).foldl (fun g cl => g ++ s.takeBlocks n q lba k g cl) got
        (s.modCtx q fun x => { x with op := .read nsid lba k got pi }).finishRead q
    | _ => s
  | none => s

/-- Clusters of a read that need a media operation: blocks that are not taken yet, in no line, and not awaited from an earlier write. -/
def State.readMisses (s : State) (n : Ns) (q lba k : Nat) (got : List (Nat × Block)) : List Nat :=
  (clustersOf lba k).filter fun cl => (List.range 16).any fun b =>
    let a := 16 * cl + b
    lba ≤ a && a < lba + k && !n.above a && !got.any (·.1 == a) && !s.blockAwaited q n.nsid a && match s.line n.nsid cl with
      | some l => !l.has b
      | none => true

/-- Reads that waited for data of a write which is gone ask the medium (R340, R359). -/
def State.refetch (s : State) : State :=
  s.forEach s.nvme.ctxs fun s x =>
    match x.op with
    | .read nsid lba k got _ =>
      match s.ns nsid with
      | some n => if nsSpread nsid then s
          else s.forEach ((s.readMisses n x.seq lba k got).filter fun cl => (s.op nsid cl).isNone) fun s cl => s.queueFill nsid cl .demand
      | none => s
    | _ => s

/-- Every waiting read takes what it can. -/
def State.pumpReads (s : State) : State := s.forEach (s.nvme.ctxs.map (·.seq)) State.serveRead

/-! ### Flushes (R343, R344, R366) -/

def Scope.covers (c : Scope) (nsid cl : Nat) : Bool :=
  match c with
  | .all ns => ns.contains nsid
  | .zone n z => n == nsid && cl / zoneClusters nsid == z
  | .clusters n a k => n == nsid && a ≤ cl && cl < a + k

/-- The namespaces a scope touches. -/
def Scope.nsids : Scope → List Nat
  | .all ns => ns
  | .zone n _ => [n]
  | .clusters n _ _ => [n]

/-- Whether every covered write is in a verified copy (R366). -/
def State.flushData (s : State) (c : Scope) (upto : Nat) : Bool :=
  ((s.granary.lines ++ s.spread.staged).all fun l => !(l.isDirty && c.covers l.nsid l.cluster)
      || (match l.flushSeq with | some f => upto ≤ f | none => true))
    && (s.nvme.ctxs.all fun x => !(x.seq < upto) || match x.op with
      | .write n a d _ _ => (clustersOf a d.length).all fun cl => !c.covers n cl
      | _ => true)

/-- The DAF namespaces of a scope whose zone and LIA records are still to be written (R262). -/
def State.flushLia (s : State) (c : Scope) : List Nat :=
  c.nsids.filter fun n => match s.ns n with | some x => x.lia | none => false

/-- The cluster numbers by which media operations name a record write, and the rebuild of a side's tables. -/
def liaCluster : Nat := 2 ^ 40
def tableCluster : Nat := 2 ^ 40 + 1
/-- A side's tables are being rebuilt from the medium (Table 15.4). -/
def State.rebuilding (s : State) (nsid : Nat) : Bool := (s.op nsid tableCluster).isSome

/-- A flush whose data is on the medium asks for its records, and completes once they are there. -/
def State.serveFlush (s : State) (q : Nat) : State :=
  match s.ctx q with
  | some x =>
    match x.op with
    | .flush c upto dw =>
      if s.flushData c upto then
        match s.flushLia c with
        | [] =>
          let s := match c with | .all _ => s.bump (nvKey 9) | _ => s
          s.complete q (cplOk (dw % 2 ^ 32) (dw / 2 ^ 32))
        | ns => s.forEach ns fun s n =>
          if (s.op n liaCluster).isSome then s
          else s.modGr fun g => { g with ops := g.ops ++ [newOp n liaCluster .lia none] }
      else s
    | _ => s
  | none => s

/-- The flush of a normal shutdown: with everything on the medium CSTS.SHST reads complete. -/
def State.serveShutdown (s : State) (q : Nat) : State :=
  match s.ctx q with
  | some x =>
    match x.op with
    | .shutdown ns upto =>
      if s.flushData (.all ns) upto then
        match s.flushLia (.all ns) with
        | [] => (s.complete q (cplOk 0 0)).modCtrl x.ctrl fun c => { c with shst := 2 }
        | l => s.forEach l fun s n =>
          if (s.op n liaCluster).isSome then s
          else s.modGr fun g => { g with ops := g.ops ++ [newOp n liaCluster .lia none] }
      else s
    | _ => s
  | none => s

def State.pumpFlushes (s : State) : State := s.forEach (s.nvme.ctxs.map (·.seq)) fun s q => (s.serveFlush q).serveShutdown q

/-! ### Pins (R368 to R371) -/

def Pin.covers (p : Pin) (nsid cl : Nat) : Bool :=
  p.nsid == nsid && p.state != 3 && p.slba / 16 ≤ cl && cl < p.slba / 16 + p.clusters
/-- Whether a pin record holds a cluster locked. -/
def Pin.locks (p : Pin) (nsid cl : Nat) : Bool := p.covers nsid cl && !p.refused.contains cl
def State.modPin (s : State) (id : Nat) (f : Pin → Pin) : State :=
  s.modGr fun g => { g with pins := g.pins.map fun p => if p.id = id then f p else p }

/-- Clusters a pin record holds locked now. -/
def State.pinLocked (s : State) (p : Pin) : Nat :=
  (s.granary.lines.filter fun l => l.lock == 2 && p.locks l.nsid l.cluster).length

/-- The 256 pin records in order of PIN_ID, a free one of zeros (R371, Table 14.4). -/
def State.pinBytes (s : State) : List Byte :=
  ((s.granary.pins.mergeSort fun p r => p.id ≤ r.id).flatMap fun p =>
    leBytes 4 p.id ++ leBytes 2 p.nsid ++ leBytes 1 p.state ++ leBytes 1 0 ++ leBytes 8 p.slba ++ leBytes 4 p.clusters
      ++ leBytes 4 (s.pinLocked p) ++ leBytes 8 p.created) ++ List.replicate (32 * (256 - s.granary.pins.length)) 0

/-- A cluster cannot be locked for the pins that cover it: the records are PARTIAL (R370). -/
def State.refuseLock (s : State) (nsid cl : Nat) : State :=
  s.forEach (s.granary.pins.filter fun p => p.locks nsid cl) fun s p =>
    (s.modPin p.id fun p => { p with state := 2, refused := p.refused ++ [cl] }).bump (grKey 0x0E)

/-- A line that a pin covers is locked where its set allows one more host lock. -/
def State.lockLine (s : State) (nsid cl : Nat) : State :=
  if s.granary.pins.any fun p => p.locks nsid cl then
    match s.line nsid cl with
    | some l =>
      if l.lock != 0 then s
      else if 3 ≤ s.pinnedWays l.set ∨ 4 ≤ s.lockedWays l.set then s.refuseLock nsid cl
      else s.modLine nsid cl fun l => { l with lock := 2 }
    | none => s
  else s

/-- Whether every cluster of a pin is filled, or was found unlockable. -/
def State.pinReady (s : State) (p : Pin) : Bool :=
  (List.range p.clusters).all fun j =>
    let cl := p.slba / 16 + j
    p.refused.contains cl || match s.line p.nsid cl with
      | some l => l.state != LineState.filling && l.lock != 0 && (s.op p.nsid cl).isNone
      | none => false

/-- Pins whose last line is filled complete with their PIN_ID. -/
def State.pumpPins (s : State) : State :=
  s.forEach s.nvme.ctxs fun s x =>
    match x.op with
    | .pin id =>
      match s.granary.pins.find? (fun p => p.id == id) with
      | some p =>
        if p.state = 3 then s.complete x.seq cplNotReady
        else if s.pinReady p then s.complete x.seq (cplOk id 0) else s
      | none => s.complete x.seq cplNotReady
    | _ => s

/-- What waits on the lines goes on. -/
def State.pump (s : State) : State := (s.pumpReads.pumpFlushes).pumpPins

/-! ### The fill (R359 to R361, R369) -/

def freshLine (x w nsid cl : Nat) : Line :=
  ⟨x, w, nsid, cl, .filling, 0, 0, 0, 0, none, none, 0, false, false, emptyBlocks⟩

/-- The tag is committed on way `w` of its set: the victim is taken over (R359). -/
def State.commitLine (s : State) (o : MediaOp) (w lock : Nat) : State :=
  let x := s.setOf o.nsid o.cluster
  let s := if (s.setLines x).any fun l => l.way == w then s.bump (grKey 6) else s
  let l := { freshLine x w o.nsid o.cluster with lock := lock, prefetch := o.kind == .prefetch }
  let s := s.modGr fun g => { g with lines := (g.lines.filter fun y => !(y.set == x && y.way == w)) ++ [l] }
  let s := s.modOp o.nsid o.cluster fun o => { o with committed := true, victim := none }
  let s := if o.kind = .prefetch then s else s.touch l
  if lock = 0 then s.lockLine o.nsid o.cluster else s

/-- The host pin with the highest PIN_ID among a set's pinned ways gives its way to a metadata line (R369); a way that holds staged data
or is being filled is passed over (DESIGN CHOICE, log entry 122). -/
def State.pinToGive (s : State) (x : Nat) : Option Line :=
  let owner := fun (l : Line) => (s.granary.pins.filter fun p => p.locks l.nsid l.cluster).foldl (fun m p => max m p.id) 0
  (s.setLines x).foldl (fun m l =>
    if l.lock = 2 ∧ !l.isDirty ∧ l.state ≠ .filling then match m with
      | none => some l
      | some k => if owner k < owner l then some l else some k
    else m) none

/-- Whether a media operation's blocks come from the sectors of the LDPC pool: every one of a DAF namespace but its metadata lines. -/
def State.fromPool (s : State) (o : MediaOp) : Bool :=
  o.kind != .metadata && match s.ns o.nsid with | some n => n.daf | none => false

/-- FILL_COMMIT: the first decoded block is ready; the line is FILLING, or the fill bypasses or is dropped. -/
def State.fillCommit (s : State) (nsid cl : Nat) : State :=
  match s.op nsid cl with
  | none => s
  | some o =>
    if !o.dispatched || o.committed || (o.kind == .lia || o.kind == .tables || o.kind == .test) || (s.fromPool o && o.got.isEmpty) then s
    else
      match s.line nsid cl with
      | some l =>
        let s := if l.state = .valid ∨ l.state = .evicting then s.modLine nsid cl fun l => { l with state := .filling } else s
        s.modOp nsid cl fun o => { o with committed := true }
      | none =>
        let x := s.setOf nsid cl
        let held := match o.victim with
          | some w => if (s.setLines x).all fun l => l.way != w || l.state == .evicting then some w else none
          | none => none
        let w := match held with | some w => some w | none => s.victim x
        if o.kind = .metadata then
          if s.lockedWays x < 4 then
            match w with
            | some w => s.commitLine o w 1
            | none => s.modOp nsid cl fun o => { o with committed := true, bypass := true }
          else
            match s.pinToGive x with
            | some l =>
              let s := s.forEach (s.granary.pins.filter fun p => p.locks l.nsid l.cluster) fun s p =>
                s.modPin p.id fun p => { p with state := 2, refused := p.refused ++ [l.cluster] }
              s.commitLine o l.way 1
            | none =>
              match w with
              | some w => (s.commitLine o w 0).bump (grKey 0x11)
              | none => s.bump (grKey 0x11)
        else
          match w with
          | some w => s.commitLine o w 0
          | none =>
            if o.kind = .prefetch ∨ o.kind = .refill then s.dropOp nsid cl
            else (s.modOp nsid cl fun o => { o with committed := true, bypass := true }).bump (grKey 9)

/-- Reads waiting on a block fail with a status (R345); each posts an Error Information entry. -/
def State.failReads (s : State) (nsid : Nat) (want : Nat → Bool) (st : Status) (dnr : Bool) : State :=
  s.forEach s.nvme.ctxs fun s x =>
    match x.op with
    | .read n lba k got _ =>
      if n == nsid && (List.range k).any fun j => want (lba + j) && !got.any (·.1 == lba + j) then
        (s.errorEntry nsid lba).complete x.seq (cplFail st dnr)
      else s
    | _ => s

/-- A block that bypasses Granary goes to the reads that wait for it (R361). -/
def State.sendBlock (s : State) (nsid a : Nat) (blk : Block) : State :=
  s.forEach s.nvme.ctxs fun s x =>
    match x.op with
    | .read n lba k got pi =>
      if n == nsid && lba ≤ a && a < lba + k && !got.any (·.1 == a) then
        (s.modCtx x.seq fun x => { x with op := .read n lba k (got ++ [(a, blk)]) pi }).finishRead x.seq
      else s
    | _ => s

/-- Block `b` of a line is written to HBM: an injection armed for one of its words goes with it (object 0x4602). -/
def State.hbmWrite (s : State) (l : Line) (b : Nat) : State :=
  let a := (16 * l.set + l.way) * 65536 + 4096 * b
  match s.hbm.armed with
  | some (x, k) =>
    if a ≤ x ∧ x < a + 4096 ∧ ¬ nsSpread l.nsid then { s with hbm := { s.hbm with armed := none, planted := s.hbm.planted ++ [(x, k)] } } else s
  | none => s

/-- The same of some blocks of a cluster's line. -/
def State.hbmWrites (s : State) (nsid cl : Nat) (bs : List Nat) : State :=
  match s.line nsid cl with
  | some l => s.forEach bs fun s b => s.hbmWrite l b
  | none => s

/-- BLOCK_PLACED: a decoded block passes its check and is placed (R330, R359). -/
def State.placeBlock (s : State) (nsid cl b : Nat) (blk : Block) : State :=
  match s.op nsid cl with
  | none => s
  | some o =>
    if !o.committed then s
    else if o.bypass then s.sendBlock nsid (16 * cl + b) blk
    else
      let s := s.modLine nsid cl fun l =>
        if bitOf l.dirty b then l
        else { l with valid := setBit l.valid b, poison := clrBit l.poison b, blocks := l.blocks.set b blk }
      (s.hbmWrites nsid cl [b]).pumpReads

/-- A block fails its check at placement (R330, R345). -/
def State.rejectBlock (s : State) (nsid cl b : Nat) (st : Status) : State :=
  match s.op nsid cl with
  | none => s
  | some o => if o.committed then s.failReads nsid (· == 16 * cl + b) st true else s

/-- A block reaches placement with its protection information checked (R330). -/
def State.checkedBlock (s : State) (nsid cl b : Nat) (blk : Block) : State :=
  let c := if s.carriesPi nsid then piCheck (s.reg (nvKey 6)) (16 * cl + b) blk else .ok
  if c = .ok then s.placeBlock nsid cl b blk else s.rejectBlock nsid cl b c.status

/-- The blocks of a fill's decoded sectors that its line does not hold yet are placed (R359). -/
def State.placeRest (s : State) (nsid cl : Nat) : State :=
  match s.op nsid cl with
  | none => s
  | some o =>
    if !s.fromPool o then s
    else s.forEach (o.got.filter fun p => p.1 < 16) fun s p =>
      if (match s.line nsid cl with | some l => l.has p.1 && !o.bypass | none => false) then s
      else s.checkedBlock nsid cl p.1 (sectorBlock p.2)

/-- Whether every data sector of an operation's cluster has decoded or been given up (R360); the blocks its line holds need no
sector. -/
def State.fillOver (s : State) (nsid cl : Nat) : Bool :=
  match s.op nsid cl with
  | none => false
  | some o => !s.fromPool o || (List.range 16).all fun b => o.got.any (·.1 == b) || o.lost.contains b
      || (match s.line nsid cl with | some l => l.has b && !o.bypass | none => false)

/-- A fill ends: the reads still waiting on its cluster fail, and the line becomes VALID (R360, R345). -/
def State.fillEnd (s : State) (nsid cl : Nat) : State :=
  match s.op nsid cl with
  | none => s
  | some o =>
    if !o.dispatched || (o.kind == .lia || o.kind == .tables || o.kind == .test) then s
    else
      let s := s.placeRest nsid cl
      let lost := fun a => a / 16 == cl && match s.line nsid cl with
        | some l => o.bypass || !l.has (a % 16)
        | none => true
      let waits := s.nvme.ctxs.filter fun x => match x.op with
        | .read n lba k got _ => n == nsid && (List.range k).any fun j => lost (lba + j) && !got.any (·.1 == lba + j)
        | _ => false
      let s := s.forEach waits fun s x => match x.op with
        | .read _ lba _ _ _ => s.integrityEntry nsid lba 2
        | _ => s
      let s := s.modNvme fun n => { n with mediaErrors := n.mediaErrors + waits.length }
      let s := s.failReads nsid lost .unrecoveredRead false
      let s := s.modOp nsid cl fun o => { o with ended := true }
      let s := match s.line nsid cl with
        | some l =>
          if l.state = LineState.filling then
            if l.valid = 0 ∧ l.dirty = 0 ∧ l.lock = 0 then s.dropLine nsid cl
            else s.modLine nsid cl fun l => { l with state := if l.dirty = 0 then .valid else .dirty }
          else s
        | none => s
      let s := if (s.line nsid cl).isNone then s.refuseLock nsid cl else s
      s.pump

/-! ### Writes (R364 to R366) -/

/-- Whether a line of this cluster can take a write, as it is or by a victim (R364). -/
def State.hasWay (s : State) (nsid cl : Nat) : Bool :=
  match s.line nsid cl with
  | some l => l.state != .filling || l.dirty != 0
  | none => nsSpread nsid || (s.victim (s.setOf nsid cl)).isSome

/-- Whether the lines of a write's clusters can all be reserved (R364): each has a way, and those not dirty yet stay within the limits
of the device and of the station, those of a spread volume within the staging region. -/
def State.reservable (s : State) (nsid : Nat) (cls : List Nat) : Bool :=
  let new := (cls.filter fun cl => match s.line nsid cl with | some l => !l.isDirty | none => true).length
  cls.all (s.hasWay nsid) && (new == 0
    || (if nsSpread nsid then decide (s.spread.staged.length + new ≤ s.stagingClusters)
      else decide ((s.granary.lines.filter Line.isDirty).length + new ≤ s.reg (key 0x4400 5))
        && decide ((s.dirtyLines (nsStation nsid)).length + new ≤ s.reg (key 0x4400 6))))

/-- Reserve the line of a cluster: an existing one, or the victim. -/
def State.reserve (s : State) (nsid cl : Nat) : State :=
  match s.line nsid cl with
  | some l => s.hitLine l
  | none =>
    let x := s.setOf nsid cl
    if nsSpread nsid then s.modSpread fun p => { p with staged := p.staged ++ [{ freshLine 0 0 nsid cl with state := .dirty }] }
    else match s.victim x with
    | none => s
    | some w =>
      let s := if (s.setLines x).any fun l => l.way == w then s.bump (grKey 6) else s
      let l := { freshLine x w nsid cl with state := .dirty }
      let s := s.modGr fun g => { g with lines := (g.lines.filter fun y => !(y.set == x && y.way == w)) ++ [l] }
      (s.touch l).lockLine nsid cl

/-- The blocks of a write that lie in a cluster, by block number. -/
def blocksIn (lba : Nat) (d : List Block) (cl : Nat) : List (Nat × Block) :=
  (List.range 16).filterMap fun b =>
    let a := 16 * cl + b
    if lba ≤ a ∧ a < lba + d.length then (d[a - lba]?).map fun x => (b, x) else none

/-- A write's data is in a line: its blocks are dirty, and the sequence numbers of R364 and R366 are kept. -/
def Line.stage (l : Line) (q : Nat) (bs : List (Nat × Block)) : Line :=
  let m := bs.foldl (fun m (b : Nat × Block) => setBit m b.1) 0
  let l := { l with
    dirty := l.dirty ||| m
    poison := bs.foldl (fun p (b : Nat × Block) => clrBit p b.1) l.poison
    blocks := bs.foldl (fun (x : List Block) (b : Nat × Block) => x.set b.1 b.2) l.blocks
    discard := false
    flushSeq := match l.flushSeq with | none => some q | some f => some f }
  if l.state = .writing then
    { l with laterMask := l.laterMask ||| m
             later := match l.later with | none => some q | some f => some (min f q) }
  else { l with state := .dirty }

def State.stage (s : State) (q nsid lba : Nat) (d : List Block) : State :=
  s.forEach (clustersOf lba d.length) fun s cl =>
    let bs := blocksIn lba d cl
    ((s.reserve nsid cl).modLine nsid cl fun l => l.stage q bs).hbmWrites nsid cl (bs.map (·.1))

/-! ### Verified copies (R310, R311, R366) -/

/-- A verify pass completes on a line's buffered copy. -/
def State.verified (s : State) (nsid cl : Nat) : State :=
  match s.line nsid cl with
  | none => s
  | some l =>
    if l.state != .writing then s
    else
      let s := s.modLine nsid cl fun l => { l with
        state := if l.laterMask = 0 then .valid else .dirty
        valid := l.valid ||| (l.dirty &&& (65535 - l.laterMask)), dirty := l.laterMask
        flushSeq := l.later, later := none, laterMask := 0, discard := false }
      let s := s.modNs nsid fun n => { n with lia := n.lia || n.daf }
      s.pump

/-- A verify fails, or the cluster cannot be placed: the line is DIRTY again; one left by a controller reset is
INVALID. -/
def State.unverified (s : State) (nsid cl : Nat) : State :=
  match s.line nsid cl with
  | none => s
  | some l =>
    if l.state != .writing then s
    else if l.discard then s.dropLine nsid cl
    else s.modLine nsid cl fun l => { l with state := .dirty, later := none, laterMask := 0 }

/-! ### Invalidation and discard (R372, R326, R374) -/

/-- Every line of a namespace is invalidated (R372): the state, and how many dirty clusters went with it. -/
def State.invalidate (s : State) (nsid : Nat) : State × Nat :=
  let mine := s.granary.lines.filter fun l => l.nsid == nsid
  let dirty := (mine.filter Line.isDirty).length
  let locked := (mine.filter fun l => l.lock != 0).length
  let filling := fun (p : Pin) => s.nvme.ctxs.any fun x => x.op == .pin p.id
  let lost := s.granary.pins.filter fun p => p.state != 3
    && ((p.nsid == nsid && filling p) || mine.any fun l => l.lock == 2 && p.locks nsid l.cluster)
  let s := s.modGr fun g => { g with
    lines := g.lines.filter (fun l => l.nsid != nsid), ops := g.ops.filter fun o => o.nsid != nsid }
  let s := (s.bump (grKey 0x0C)).addReg 32 (grKey 0x0D) locked
  let s := s.forEach lost fun s p =>
    ((s.modPin p.id fun p => { p with state := 3 }).note 0x0901 0 (leBytes 4 p.id)).event .pinLost
  (s.pumpPins, dirty)

/-- The write pointers fall back to the first block of each discarded cluster (R326 step 6). -/
def Ns.fallBack (n : Ns) (lbas : List Nat) : Ns :=
  n.zones.foldl (fun n z =>
    let w := (lbas.filter fun a => a / n.zsize == z.idx).foldl (fun w a => min w (a % n.zsize)) z.wp
    if w < z.wp then n.setZone { z with wp := w, state := if w = 0 then 0 else if z.state = 5 then 5 else 3 }
    else n.setZone { z with state := if z.isOpen then (if z.wp = 0 then 0 else 3) else z.state }) n

/-- The first dirty LBA of a line. -/
def Line.firstDirty (l : Line) : Nat := 16 * l.cluster + ((List.range 16).find? fun b => bitOf l.dirty b).getD 0

/-- Staged data not yet on the medium is discarded (R326 steps 5 to 7, R374): the count of clusters. A WRITING line waits
for its read-back. -/
def State.discardStaged (s : State) : State × Nat :=
  let gone := s.granary.lines.filter fun l => l.state == .dirty
  let s := s.forEach (s.nvme.namespaces.map (·.nsid)) fun s n =>
    s.modNs n fun v => v.fallBack ((gone.filter fun l => l.nsid == n).map Line.firstDirty)
  let s := s.modGr fun g => { g with
    lines := (g.lines.filter fun l => l.state != .dirty).map fun l =>
      if l.state = .writing then
        { l with discard := true, dirty := l.dirty &&& (65535 - l.laterMask), later := none, laterMask := 0 } else l }
  let s := s.forEach (gone.filter fun l => l.lock != 0) fun s l => s.queueFill l.nsid l.cluster .refill
  let n := gone.length + s.spread.staged.length
  ((s.dropStaged).addReg 32 (nvKey 0x0C) n, n)

/-- What Granary loses at a device reset, a power-fail or HEARTH (R374): everything. -/
def State.clearGranary (s : State) : State :=
  { s with granary := Granary.initial, spread := { s.spread with staged := [], rows := [], gets := [], flushing := [] } }

end Sys2Proof.Machine
end

