-- ==== Sys2Proof/Machine/Security.lean ====
section
/-! DEFINITION. The security block's shared operations (chapter 17): what the life-cycle states permit, the authorisation
object, the measurement log, the checks of a firmware image, and what a start-up does to them. -/

namespace Sys2Proof.Machine

def State.modSec (s : State) (f : Security → Security) : State := { s with sec := f s.sec }

/-! ### Life cycle (R418, R419) -/

def lcBlank : Nat := 0
def lcVendorTest : Nat := 1
def lcProvisioned : Nat := 2
def lcField : Nat := 3
def lcReturn : Nat := 4
def lcScrapped : Nat := 5

def State.lc (s : State) : Nat := s.reg (key 0x5000 1)
/-- LC_FLAGS holds these bits; the first three outlast a reset. -/
def State.secFlag (s : State) (b : Nat) : Bool := bitOf (s.reg (key 0x5000 2)) b
def State.setSecFlag (s : State) (b : Nat) (v : Bool) : State := s.setRegBit (key 0x5000 2) b v
def State.identityValid (s : State) : Bool := s.secFlag 1
def State.keyFused (s : State) : Bool := s.secFlag 2
/-- Identity, quotes and authorisation under the customer key: PROVISIONED, FIELD and RETURN. -/
def State.lcOwned (s : State) : Bool := lcProvisioned ≤ s.lc && s.lc ≤ lcReturn

/-- The debug objects are refused outside BLANK, VENDOR_TEST and RETURN (R435). -/
def State.debugBarred (s : State) : Bool := s.lc == lcProvisioned || s.lc == lcField || s.lc == lcScrapped

/-! ### Authorisation (R433) -/

def State.authState (s : State) : Nat := s.reg (key 0x5020 4)

/-- Whether the authorisation serves an action other than a transition request. -/
def State.authorised (s : State) : Bool := s.authState == 1 || (s.authState == 2 && s.lc == lcReturn)

/-- A new CHALLENGE is drawn. -/
def State.drawChallenge (s : State) : State :=
  let (n, s) := s.fresh
  s.modSec fun g => { g with challenge := n }

def State.drawDebugChallenge (s : State) : State :=
  let (n, s) := s.fresh
  s.modSec fun g => { g with debugChallenge := n }

/-- The authorisation object closes, with a new CHALLENGE. -/
def State.authClose (s : State) : State :=
  (((s.setReg (key 0x5020 4) 0).setSecFlag 4 false).modSec fun g => { g with openUntil := none }).drawChallenge

/-- The path of a door in record 0x0204 (Table 18.3) and in record 0x0C02. -/
def doorPath : Door → Nat
  | .sdo b _ => b
  | .pdo b _ => b
  | .nvme _ _ => 3
  | _ => 2

/-- An action taken under the authorisation posts its record. -/
def State.authAction (s : State) (d : Door) (idx sub : Nat) : State :=
  s.note 0x0204 0 (leBytes 1 (doorPath d) ++ leBytes 2 idx ++ leBytes 1 sub)

/-! ### Measurements (R430) -/

def hashBytes (h : BitVec 512) : List Byte := leBytes 64 h.toNat

/-- The 80 bytes of a log entry. -/
def logEntry (i : Nat) (e : Nat × BitVec 512) : List Byte := leBytes 2 i ++ leBytes 2 e.1 ++ leBytes 12 0 ++ hashBytes e.2

/-- A new entry; a full log folds entries 8 to 63 first. -/
def State.measure (s : State) (kind : Nat) (d : BitVec 512) : State :=
  s.modSec fun g =>
    let l := if g.log.length < 64 then g.log else g.log.take 8 ++ [(15, g.aggregate)]
    { g with log := l ++ [(kind, d)], aggregate := Config.hash (hashBytes g.aggregate ++ logEntry l.length (kind, d)) }

/-- The log as bytes, in index order. -/
def Security.logBytes (g : Security) : List Byte :=
  ((List.range g.log.length).zip g.log).flatMap fun p => logEntry p.1 p.2

/-- KIND 6: the customer Lathe image's words. -/
def Store9.digest (t : Store9) : BitVec 512 :=
  match t.image with
  | none => 0
  | some m => Config.hash (m.words.flatMap (leBytes 4))

/-- KIND 7: FUSE_MAP, life-cycle state, ROLLBACK_COUNTER, root and customer key hashes, ATTEST_EPOCH. -/
def State.fuseDigest (s : State) : BitVec 512 :=
  Config.hash (leBytes 8 (s.reg (key 0x2000 8)) ++ leBytes 1 s.lc ++ leBytes 1 (s.reg (key 0x5000 3)) ++ hashBytes Config.rootHash
    ++ s.raw (key 0x5000 6) ++ leBytes 4 (s.reg (key 0x5000 4)))

/-- KIND 8: the persistent-parameter copy in use. -/
def Nor.digest (n : Nor) : BitVec 512 :=
  match n.stored with
  | some c => Config.copyDigest c.nums c.raws
  | none => Config.copyDigest [] []

/-- The section digests of the running image: KIND 2 to 5. -/
def State.measureImage (s : State) : State :=
  match s.sec.running with
  | none => s
  | some f => s.forEach ((List.range 4).zip f.digests) fun s p => s.measure (2 + p.1) p.2

/-- The log of a start-up (Table 17.5). -/
def State.rebuildLog (s : State) : State :=
  let s := s.modSec fun g => { g with log := [], aggregate := 0, quotes := 0, unlocked := false }
  let s := (s.measure 1 Config.romDigest).measureImage
  ((s.measure 6 s.stores.digest).measure 7 s.fuseDigest).measure 8 s.nor.digest

/-! ### Keys, statement (R426 to R428) -/

/-- The 32-byte seed of the identity key pair. -/
def State.idSeed (s : State) : List Byte := leBytes 32 (Config.idSeed s.part.serial).toNat

/-- The seed of the attestation key pair: SHAKE256 of the identity seed, "ATTEST" and ATTEST_EPOCH, truncated to 32 bytes. -/
def State.attestSeed (s : State) : List Byte :=
  (hashBytes (Config.hash (s.idSeed ++ [0x41, 0x54, 0x54, 0x45, 0x53, 0x54] ++ leBytes 4 (s.reg (key 0x5000 4))))).take 32

def State.idPublicKey (s : State) : BitVec 15616 := Config.publicKey s.idSeed
def State.attestKey (s : State) : BitVec 15616 := Config.publicKey s.attestSeed

/-- The statement message of R428. -/
def State.statement (s : State) : List Byte :=
  leBytes 4 0x4B41_5853 ++ leBytes 8 s.part.serial ++ leBytes 4 (s.reg (key 0x5000 4)) ++ leBytes 1952 s.attestKey.toNat

/-- The statement signature. -/
def State.statementSig (s : State) : BitVec 26472 := Config.sign s.idSeed s.statement s.sec.statement

/-- The identity at start-up (R427): the seed is unsealed and the statement signed, or the identity is unavailable. -/
def State.unseal (s : State) (ok : Bool) : State :=
  let ok := ok && s.lcOwned && !s.sec.seedGone
  if ok then
    let (n, s) := s.fresh
    (s.modSec fun g => { g with statement := n }).setSecFlag 1 true
  else
    let s := s.setSecFlag 1 false
    if s.lcOwned then s.post 0x0B03 8 [] (some ⟨0xFF40, false⟩) else s

/-! ### Certificate request and certificate (R429)

The rule names PKCS #10, DER and X.509; their encodings and the object identifiers are those of the standards (PRESUMED, log
entry 125). -/

/-- A DER element: tag, length, contents. -/
def der (tag : Nat) (c : List Byte) : List Byte :=
  let n := c.length
  leBytes 1 tag ++ (if n < 128 then leBytes 1 n else if n < 256 then leBytes 1 0x81 ++ leBytes 1 n
    else leBytes 1 0x82 ++ (leBytes 2 n).reverse) ++ c

/-- The algorithm identifier of ML-DSA-65, 2.16.840.1.101.3.4.3.18. -/
def derAlgorithm : List Byte := der 0x30 (der 6 [0x60, 0x86, 0x48, 0x01, 0x65, 0x03, 0x04, 0x03, 0x12])
def derBits (c : List Byte) : List Byte := der 3 (0 :: c)
def derKey (k : BitVec 15616) : List Byte := der 0x30 (derAlgorithm ++ derBits (leBytes 1952 k.toNat))

/-- A subject whose one attribute is its serial number (2.5.4.5), as a printable string. -/
def derSubject (serial : List Byte) : List Byte := der 0x30 (der 0x31 (der 0x30 (der 6 [0x55, 0x04, 0x05] ++ der 0x13 serial)))

/-- ID_CSR: version 0, SERIAL in decimal, the identity public key, no attributes, signed with the identity key. -/
def State.csr (s : State) : List Byte :=
  let digits := (Nat.toDigits 10 s.part.serial).map fun c => BitVec.ofNat 8 c.toNat
  let info := der 0x30 (der 2 [0] ++ derSubject digits ++ derKey s.idPublicKey ++ der 0xA0 [])
  der 0x30 (info ++ derAlgorithm ++ derBits (leBytes 3309 (Config.sign s.idSeed info s.sec.statement).toNat))

/-- The first element of a DER string: its tag, its contents and the rest. -/
def derFirst : List Byte → Option (Nat × List Byte × List Byte)
  | t :: l :: r =>
    let n := l.toNat
    let k := if n < 128 then 0 else n - 128
    let len := if n < 128 then n else leNat (r.take k).reverse
    let r := r.drop k
    if 3 < k ∨ r.length < len then none else some (t.toNat, r.take len, r.drop len)
  | _ => none

/-- Up to `n` elements that follow each other. -/
def derList : Nat → List Byte → List (Nat × List Byte)
  | 0, _ => []
  | n + 1, b => match derFirst b with | some (t, c, r) => (t, c) :: derList n r | none => []

/-- The subject public key of an X.509 certificate; none where it cannot be read. -/
def certKey (b : List Byte) : Option (BitVec 15616) :=
  match derList 1 b with
  | [(0x30, c)] =>
    match derList 1 c with
    | [(0x30, tbs)] =>
      let l := derList 8 tbs
      let l := if (l.map (·.1)).head? = some 0xA0 then l.drop 1 else l
      match l[5]? with
      | some (0x30, info) =>
        match derList 2 info with
        | [_, (3, 0 :: k)] => if k.length = 1952 then some (BitVec.ofNat 15616 (leNat k)) else none
        | _ => none
      | _ => none
    | _ => none
  | _ => none

/-! ### What a reset does (R433, R435, Table 17.8) -/

/-- At a device reset the authorisation closes, debug locks, the signer and the failure counts empty. -/
def State.secReset (s : State) : State :=
  let s := ((s.setSecFlag 3 false).modSec fun g => { g with signer := [], failures := 0, lockUntil := none }).authClose
  s.drawDebugChallenge

/-- At a wake the signer is empty; the rest stays. -/
def State.secWake (s : State) : State := s.modSec fun g => { g with signer := [] }

/-! ### Firmware images (R423, R424) -/

def bytesAt (b : List Byte) (off n : Nat) : List Byte := (b.drop off).take n
def allZero (b : List Byte) : Bool := b.all (· == 0)

/-- Section entry i: KIND, OFFSET, SIZE, DIGEST. -/
def sectionAt (b : List Byte) (i : Nat) : Nat × Nat × Nat × Nat :=
  let o := 64 + 80 * i
  (field b o 1, field b (o + 4) 4, field b (o + 8) 4, field b (o + 16) 64)

/-- Sections stand at rising offsets from 704 with no overlap, below the public key. -/
def sectionsInOrder (from_ top : Nat) : List (Nat × Nat × Nat × Nat) → Bool
  | [] => true
  | (_, off, size, _) :: r => decide (from_ ≤ off) && decide (off + size ≤ top) && sectionsInOrder (off + size) top r

/-- What the checks of R424 find in the bytes of an image (Table 17.4); bytes beyond LENGTH, which a download in whole words may
carry, are no part of it (DEDUCED, log entry 126). -/
def imageOf (b : List Byte) : FirmwareImage :=
  let len := field b 12 4
  let n := field b 9 1
  let secs := (List.range n).map (sectionAt b)
  let keyBytes := bytesAt b (len - 5261) 1952
  let pk := BitVec.ofNat 15616 (leNat keyBytes)
  let find := fun k => secs.find? fun e => e.1 == k
  let bytesOf := fun (k : Nat) => match find k with | some e => bytesAt b e.2.1 e.2.2.1 | none => []
  { wellFormed :=
      field b 0 4 == 0x3146_5853 && decide (5965 ≤ len) && decide (len ≤ b.length) && decide (len ≤ 25165824)
        && decide (4 ≤ n) && decide (n ≤ 8) && allZero (bytesAt b 10 2) && allZero (bytesAt b 16 48)
        && (List.range 8).all (fun i => let o := 64 + 80 * i
              if i < n then decide (1 ≤ field b o 1) && decide (field b o 1 ≤ 5) && allZero (bytesAt b (o + 1) 3) && allZero (bytesAt b (o + 12) 4)
              else allZero (bytesAt b o 80))
        && sectionsInOrder 704 (len - 5261) secs && [1, 2, 3, 4].all (fun k => (secs.filter fun e => e.1 == k).length == 1)
    keyOk := Config.hash keyBytes == Config.rootHash
    signed := Config.verifies pk (b.take (len - 3309)) (BitVec.ofNat 26472 (field b (len - 3309) 3309))
    sectionsOk := secs.all fun e => (Config.hash (bytesAt b e.2.1 e.2.2.1)).toNat == e.2.2.2
    release := field b 4 4
    security := field b 8 1
    vendor := Config.latheVersion (bytesOf 4) % 2 ^ 32
    abi := Config.latheAbi (bytesOf 4) % 2 ^ 16
    digests := [1, 2, 3, 4].map fun k => match find k with | some e => BitVec.ofNat 512 e.2.2.2 | none => 0 }

/-- The first check of R424 that an image fails; 0 when every one passes. -/
def State.imageCode (s : State) (f : FirmwareImage) : Nat :=
  if !f.wellFormed then 0x0F5E_0004
  else if !f.keyOk then 0x0F5E_0002
  else if !f.signed then 0x0F5E_0001
  else if f.security < s.reg (key 0x5000 3) then 0x0F5E_0003
  else if !f.sectionsOk then 0x0F5E_0002
  else 0

/-- The same for a bank as read: one that cannot be read fails before every check. -/
def State.bankCode (s : State) : BankRead → Nat
  | .unreadable => 0x0F5E_0008
  | .image f => s.imageCode f

/-- ROLLBACK_COUNTER rises to the SECURITY_VERSION of an image, in FIELD only (R425). -/
def State.raiseRollback (s : State) (f : FirmwareImage) : State :=
  if s.lc = lcField ∧ s.reg (key 0x5000 3) < f.security then
    let s := s.setReg (key 0x5000 3) f.security
    s.measure 7 s.fuseDigest
  else s

/-- An image runs; a customer image of another ABI is kept and not run (R238, R242). -/
def State.runImage (s : State) (f : FirmwareImage) : State :=
  let s := s.modSec fun g => { g with running := some f }
  match s.stores.image with
  | some m => if m.abi = f.abi then s else { s with stores := { s.stores with abiOk := false } }
  | none => s

end Sys2Proof.Machine
end

