-- ==== Sys2Proof/Machine/Arbiter.lean ====
section
/-! DEFINITION. The maintenance arbiter (R461 to R464, Tables 19.4, 19.5 and 19.14): tokens, requests in order of arrival,
grants and releases. Steps that end within the command that makes them (scrub and repair steps, calibration visits) only
check their tokens and count as a grant (log entry 60). -/

namespace Sys2Proof.Machine

/-! ### Tokens (Table 19.4) -/

def tokAfe (h : Nat) : Nat := h
def tokChannel (h : Nat) : Nat := 16 + h
def tokStation (i : Nat) : Nat := 32 + i
def tokHbm (stack ch : Nat) : Nat := 40 + 16 * stack + ch
def tokSlice (i : Nat) : Nat := 72 + i
def tokSegment (j : Nat) : Nat := 96 + j
def tokEc (e : Nat) : Nat := 160 + e

/-- What TOKEN_HOLDERS shows for a holder (Table 19.14). -/
def Activity.holder : Activity → Nat
  | .cal 1 _ => 1
  | .cal _ _ => 2
  | .bist k _ => if k ≤ 4 then 3 else 4
  | .wiring _ => 5

/-- The request that holds a token. -/
def State.tokenHolder (s : State) (t : Nat) : Option TokenReq := s.arb.find? fun r => r.held && r.tokens.contains t

/-- TOKEN_HOLDERS, object 0x2601. -/
def State.tokenBytes (s : State) : List Byte :=
  (List.range 162).map fun t => match s.tokenHolder t with | some r => BitVec.ofNat 8 r.act.holder | none => 0

/-- Every token of a list is free, and no waiting request of `before` needs any of them (R462). -/
def State.grantable (s : State) (ts : List Nat) (before : List TokenReq) : Bool :=
  ts.all fun t => (s.tokenHolder t).isNone && before.all fun r => r.held || !r.tokens.contains t

/-- Tokens that a step of a moment needs are free of holders and of earlier requests. -/
def State.tokensFree (s : State) (ts : List Nat) : Bool := s.grantable ts s.arb

/-- WAITING and TOKENS_HELD. -/
def State.arbView (s : State) : State :=
  s.setRegs [(key 0x2600 1, (s.arb.filter fun r => !r.held).length),
    (key 0x2600 2, ((s.arb.filter (·.held)).map (·.tokens.length)).sum)]

/-- A grant to a step that is over within its command. -/
def State.stepGrant (s : State) : State := s.bump (key 0x2600 3)

/-- A request is granted: GRANTS, and the longest wait with the first token of the request (log entry 61). -/
def State.grantReq (s : State) (r : TokenReq) : State :=
  let s := { s with arb := s.arb.map fun x => if x = r then { x with held := true } else x }
  let w := min (s.now - r.since) (2 ^ 32 - 1)
  let s := s.bump (key 0x2600 3)
  let s := if s.reg (key 0x2600 5) < w then s.setRegs [(key 0x2600 5, w), (key 0x2600 6, r.tokens.headD 0)] else s
  s.arbView

/-- An activity asks for all of its tokens in one request: granted at once, or it waits (R461, R462). -/
def State.askTokens (s : State) (a : Activity) (ts : List Nat) : State :=
  let r : TokenReq := ⟨a, ts, s.now, false⟩
  let ok := s.tokensFree ts
  let s := { s with arb := s.arb ++ [r] }
  if ok then s.grantReq r else s.arbView

def State.holdsTokens (s : State) (a : Activity) : Bool := s.arb.any fun r => r.held && r.act == a

/-- A holder releases its tokens, or a waiting request is withdrawn. -/
def State.dropTokens (s : State) (a : Activity) : State := { s with arb := s.arb.filter fun r => r.act != a }.arbView

/-- The first waiting request that can be granted now, in order of arrival among those that conflict (R462). -/
def State.nextGrant (s : State) : Option TokenReq :=
  (List.range s.arb.length).findSome? fun n =>
    match s.arb[n]? with
    | some r => if !r.held && s.grantable r.tokens (s.arb.take n) then some r else none
    | none => none

/-- An immediate request that cannot be granted at once is refused (R463): the state with it counted. -/
def State.refuseBusy (s : State) : State := s.bump (key 0x2600 4)

end Sys2Proof.Machine
end

