-- ==== Sys2Proof/Machine/Motion.lean ====
section
/-! DEFINITION. Spindle, sleds and clamp (chapter 8): spin-up and spin-down, the observer and its loss, VBUS, locked
rotor, sled profiles and seeks, clamp strokes. -/

namespace Sys2Proof.Machine

/-! ### The spindle's registers -/

/-- Speed in 0.01 rpm; backward is negative. -/
def State.speed (s : State) (i : Nat) : Int := s.regI 32 (spdKey i 2)
def State.target (s : State) (i : Nat) : Int := s.reg (stKey i 0x12 1)
/-- SPEED_TOL in 0.01 rpm: 0.01 % of TARGET_RPM. -/
def State.speedTol (s : State) (i : Nat) : Int := s.target i * (s.reg (stKey i 0x12 4) : Int) / 100
def State.setSpin (s : State) (i v : Nat) : State := s.setReg (spdKey i 1) v
def State.motion (s : State) (i c : Nat) : State := s.bump (stKey i 0x3F c)

/-- The connection code of the Hall inputs with kind 8, the detail of cause 0x0002 (R198, R482). -/
def hallDetail (i : Nat) : Nat := i * 2 ^ 24 + 41 * 2 ^ 16 + 8

/-- A Hall code is valid (R192). -/
def hallValid (c : Nat) : Bool := c != 0 && c != 7

/-- Two Hall codes are adjacent when they differ in one bit. -/
def hallAdjacent (a b : Nat) : Bool := popCount 3 (a ^^^ b) == 1

/-- Six codes that form a Hall sequence: distinct, valid, each adjacent to the next (R193). -/
def hallSequence (l : List Nat) : Bool :=
  l.length == 6 && l.all hallValid && decide l.Nodup
    && (List.range 6).all fun k => hallAdjacent (l.getD k 0) (l.getD ((k + 1) % 6) 0)

/-- HALL_MAP of six codes. -/
def hallMapOf (l : List Nat) : Nat := (List.range 6).foldl (fun a k => a + l.getD k 0 * 8 ^ k) 0

/-- ADVANCE in 0.1 degree (R190). -/
def State.advance (s : State) (i : Nat) : Nat :=
  if s.reg (spdKey i 3) = 1 ∨ s.reg (spdKey i 3) = 3 then
    min 300 (s.reg (stKey i 0x11 5) + s.reg (stKey i 0x11 6) * (s.speed i).natAbs / 100000)
  else 0

/-- The commutation source changes, and ADVANCE with it. -/
def State.setComm (s : State) (i v : Nat) : State :=
  let s := s.setReg (spdKey i 3) v
  s.setReg (spdKey i 0x0B) (s.advance i)

/-! ### Ending the spin orders -/

/-- Whether a spin-up order (SPIN_UP or SET_SPEED) runs on the station's sequencer. -/
def State.spinOrder (s : State) (i : Nat) : Bool :=
  (s.sq (16 + i)).code == some 0x10 || (s.sq (16 + i)).code == some 0x15

/-- A spin-up order fails. -/
def State.spinFail (s : State) (i code : Nat) : State :=
  let s := s.dropSpin i
  if s.spinOrder i then s.orderFailed (16 + i) code else s

/-- Halls invalid or against the map: the spin-up fails and the station enters FAULT (R193, R198). -/
def State.hallFail (s : State) (i : Nat) : State := (s.spinFail i 0x0F58_0007).stnFault i 2 (hallDetail i)

/-! ### Driving (R198, R201) -/

/-- SPD closes at speed `n` (0.01 rpm) with PRESET = KE × n / VBUS and n_set at `n` (Table 8.3, R136); with LOOP_GAIN 0 the order
ends REJECTED and the spin-up is given up. -/
def State.closeSpd (s : State) (i : Nat) (n : Int) : State :=
  let v := s.reg (spdKey i 9)
  let pre := if v = 0 then 0 else sat24 (roundDiv ((s.reg (stKey i 0x11 9) : Int) * n * 8388608) (100000 * v))
  if s.noGain (16 + i) 0 then (if s.spinOrder i then s.orderRejected (16 + i) 4 else s).dropSpin i
  else
    let s := (((s.loopOpen (16 + i) 0).setRegI 32 (setKey (16 + i) 0 8) pre)).loopClose (16 + i) 0
    s.modStn i fun t => { t with nSet := n * 80, spinPhase := 5, stopped := false }

/-- Start from rest (R198): raw Hall commutation from the present code, or the encoder's; implausible Halls without an
encoder fail. -/
def State.startRest (s : State) (i : Nat) : State :=
  if hallValid (s.reg (spdKey i 8)) then
    let s := ((s.setComm i 2).closeSpd i 0).setSpin i 3
    s.modStn i fun t => { t with crossings := 0 }
  else if s.reg (spdKey i 0x0C) = 2 then ((s.setComm i 3).closeSpd i 0).setSpin i 3
  else s.hallFail i

/-- Catch a turning spindle (Table 8.3). -/
def State.catchSpin (s : State) (i : Nat) (n : Int) : State :=
  let s := ((s.setReg (spdKey i 4) 1).setComm i 1).closeSpd i n
  let s := s.motion i 5
  s.setSpin i (if s.target i * 100 + s.speedTol i < n then 5 else 3)

/-- What a spin-up does once it has what it waited for: learn the map, start from rest, catch, or follow a new target. -/
def State.spinGo (s : State) (i : Nat) : State :=
  let t := s.stn i
  if t.retarget then (s.modStn i fun t => { t with spinPhase := 5 }).setSpin i 3
  else if t.catchAt ≠ 0 then s.catchSpin i t.catchAt
  else if s.reg (stKey i 0x13 5) = 0 then ((s.modStn i fun t => { t with spinPhase := 4 }).setSpin i 1).emitVectors i
  else s.startRest i

/-- Take a slot now or wait for one (R100): behind the spin-ups that wait already, and behind those of lower stations that the
same strobe fired (R125). -/
def State.needSlot (s : State) (i : Nat) : State :=
  if s.holdsSlot i then s.spinGo i
  else if s.freeSlots ∧ s.power.spinWaits.isEmpty ∧ ¬ s.firedBefore i then (s.takeSlot i).spinGo i
  else (s.waitSlot i).modStn i fun t => { t with spinPhase := 3 }

/-- A spin-up that accelerates takes the ring grant first, where a ring runs, then a slot (R101). -/
def State.needPower (s : State) (i : Nat) (catchAt : Int) : State :=
  let s := s.modStn i fun t => { t with catchAt := catchAt }
  if s.ringRuns && !(s.stn i).grant then
    ((s.modStn i fun t => { t with spinPhase := 2, asked := true }).setStFlag i 6 true).sendGrantReq i true
  else s.needSlot i

/-- SPIN_UP begins (R201, Table 8.7): the spindle is measured without being driven. -/
def State.spinUp (s : State) (i : Nat) (ev : SpinEvent) : State :=
  let e := 16 + i
  if !s.runs e 0x10 then s
  else if (s.sq e).started = 0 then
    if s.reg (stKey i 0x22 0x0C) = 3 ∧ s.spinState i ≠ 4 then
      let s := (s.freewheel i).modSq e fun q => { q with started := 1 }
      (s.modStn i fun t => { t with spinPhase := 1, crossings := 0, measCount := 0, lrMade := 0, retarget := false }).setSpin i 2
    else s.orderRejected e 1
  else
    match ev with
    | .begin => s
    | .learned codes =>
      if (s.stn i).spinPhase = 4 then
        if hallSequence codes then
          let m := hallMapOf codes
          let s := (s.setReg (stKey i 0x13 5) m).note 0x0508 (0x30 + i) (leBytes 4 m)
          (s.setReg (spdKey i 8) (codes.getD 5 0)).startRest i
        else s.hallFail i
      else s

/-- The speed that START_MEASURE gives, in 0.01 rpm (R194, R201): a present encoder's with ENC_USE bit 1, from the net quadrature
counts, 4,096 a revolution; else that of the Hall edges. -/
def State.measuredSpeed (s : State) (i : Nat) : Int :=
  if s.reg (spdKey i 0x0C) = 2 ∧ bitOf (s.reg (stKey i 0x13 6)) 1 then
    roundDiv ((s.stn i).measCount * 6000000) (4096 * s.reg (stKey i 0x12 0x0D))
  else s.speed i

/-- START_MEASURE ends: fewer than two Hall edges with no encoder motion count as stopped; then the case of Table 8.3. -/
def State.measured (s : State) (i : Nat) : State :=
  if (s.stn i).spinPhase ≠ 1 then s
  else
    let n := if (s.stn i).crossings < 2 ∧ (s.stn i).measCount = 0 then 0 else s.measuredSpeed i
    let s := s.setRegI 32 (spdKey i 2) n
    let t := s.target i * 100
    if n.natAbs < 3000 then s.needPower i 0
    else if s.reg (stKey i 0x13 5) = 0 ∧ s.reg (spdKey i 0x0C) ≠ 2 then
      (s.modStn i fun t => { t with spinPhase := 9 }).setSpin i 7
    else if n < 0 then
      let s := ((s.catchSpin i n).motion i 6).setSpin i 5
      s.modStn i fun t => { t with spinPhase := 7 }
    else if n < t - s.speedTol i then s.needPower i n
    else s.catchSpin i n

/-! ### Braking and stopping (R199) -/

/-- The short brake below 30 rpm: every low side on for STOP_BRAKE_TIME. -/
def State.shortBrake (s : State) (i : Nat) : State := (((s.loopOff (16 + i) 0).setReg (spdKey i 3) 0).setSpin i 6).emitBridge i 0

/-- The spindle falls below 30 rpm: a station that unloads or stows is CLAMPED (Table 5.2), and in FAULT PSEN falls
(R122). -/
def State.slowed (s : State) (i : Nat) : State :=
  let s := if (s.stn i).psenDrop then s.modStn i fun t => { t with psen := false, psenDrop := false } else s
  match (s.stn i).cmd with
  | some c => if s.stState i = stSpinning ∧ (s.stn i).down ≠ 0 then s.setStation i stClamped c.code else s
  | none => s

/-- SPIN_DOWN (R199, Table 8.7). -/
def State.spinDown (s : State) (i : Nat) : State :=
  let e := 16 + i
  if !s.runs e 0x11 || (s.sq e).started != 0 then s
  else if s.substate (2 * i) = hsOff ∧ s.substate (2 * i + 1) = hsOff then
    let s := s.modSq e fun q => { q with started := 1 }
    let s := (s.freeSlot i).modStn i fun t => { t with spinPhase := 0, retarget := false, lrWait := false }
    let s := (s.sledParkNow (2 * i)).sledParkNow (2 * i + 1)
    if s.stFlag i 10 ∧ ¬ s.below30 i then (s.modStn i fun t => { t with down := 3 }).setSpin i 7
    else if s.below30 i then ((s.modStn i fun t => { t with down := 2 }).slowed i).shortBrake i
    else (s.modStn i fun t => { t with down := 1 }).setSpin i 5
  else s.orderRejected e 1

/-- STOP_BRAKE_TIME ends: the bridge freewheels, STOPPED; after backward motion the start from rest follows. -/
def State.brakeEnd (s : State) (i : Nat) : State :=
  if s.spinState i ≠ 6 then s
  else
    let s := ((s.freewheel i).setSpin i 0).setRegs [(spdKey i 2, 0), (spdKey i 4, 0)]
    if (s.stn i).spinPhase = 8 then s.needPower i 0
    else
      let s := s.modStn i fun t => { t with down := 0 }
      if (s.sq (16 + i)).code = some 0x11 then s.orderDone (16 + i) 0 else s

/-- SET_SPEED (R200, Table 8.7): Blu-ray Disc operation, no slot and no grant. -/
def State.setSpeed (s : State) (i : Nat) : State :=
  let e := 16 + i
  if !s.runs e 0x15 || (s.sq e).started != 0 then s
  else
    let p := (s.sq e).param
    if !(3 ≤ s.spinState i && s.spinState i ≤ 5 && s.reg (stKey i 0 6) == 1) then s.orderRejected e 1
    else if p < 600 ∨ 7200 < p then s.orderRejected e 4
    else
      let s := (s.setReg (stKey i 0x12 1) p).modSq e fun q => { q with started := 1 }
      (s.modStn i fun t => { t with spinPhase := 5 }).setSpin i (if s.speed i < (p : Int) * 100 then 3 else 5)

/-- A dictionary write of TARGET_RPM has been applied (R200): under speed control a target well above the speed takes a
slot first; a lower one takes none, and gives up one that a higher target took or waits for (R100). -/
def State.retarget (s : State) (i : Nat) : State :=
  if 3 ≤ s.spinState i ∧ s.spinState i ≤ 5 ∧ (s.stn i).down = 0 then
    if s.speed i + s.speedTol i < s.target i * 100 then
      (s.modStn i fun t => { t with retarget := true }).needSlot i
    else ((s.freeSlot i).modStn i fun t => { t with spinPhase := 5, retarget := false }).setSpin i 5
  else s

/-! ### The speed loop's tick (R197, R208) -/

/-- n_set moves toward its end at the rate in use. -/
def approach (cur goal up dn : Int) : Int :=
  if cur < goal then min goal (cur + up) else max goal (cur - dn)

def State.speedTick (s : State) (i : Nat) : State :=
  let t := s.stn i
  let up := (s.reg (stKey i 0x12 2) : Int)
  let dn := (s.reg (stKey i 0x12 3) : Int)
  let goal : Int := if t.down = 1 ∨ t.spinPhase = 7 then 0 else s.target i * 8000
  let moving := t.down == 1 || t.spinPhase == 5 || t.spinPhase == 7 || (t.spinPhase == 0 && s.spinState i == 4)
  let s := if moving then
      s.modStn i fun t => { t with nSet := if t.spinPhase = 7 then approach t.nSet 0 dn dn else approach t.nSet goal up dn }
    else s
  let s := if t.reclose = 0 then s
    else if t.reclose = 1 then
      let d := s.drive (16 + i) 0
      let s := (s.setRegI 32 (setKey (16 + i) 0 8) d).modStn i fun t => { t with reclose := 0 }
      if s.loopState (16 + i) 0 = lsOpen ∧ s.mayClose (16 + i) 0 then s.loopClose (16 + i) 0 else s
    else s.modStn i fun t => { t with reclose := t.reclose - 1 }
  if s.below30 i then
    if t.down = 1 then ((s.modStn i fun t => { t with down := 2 }).slowed i).shortBrake i
    else if t.spinPhase = 7 then (s.modStn i fun t => { t with spinPhase := 8 }).shortBrake i
    else if t.spinPhase = 9 then s.needPower i 0
    else s.slowed i
  else s

/-- SPD's error (R197): (n_set − n) / 7,200 rpm in Q1.23. -/
def State.spdError (s : State) (i : Nat) : Int :=
  sat24 (roundDiv (((s.stn i).nSet - s.speed i * 80) * 8388608) (7200 * 8000))

/-- AT_SPEED (R197, R105, R106, R207): the slot is freed, the order ends DONE, a CLAMPED station is SPINNING. -/
def State.atSpeed (s : State) (i : Nat) : State :=
  let t := s.target i * 100
  if (s.stn i).spinPhase = 5 ∧ (s.stn i).down = 0 ∧ ((s.speed i) - t).natAbs ≤ (s.speedTol i).natAbs then
    let s := ((s.freeSlot i).setSpin i 4).modStn i fun t => { t with spinPhase := 0, lrMade := 0, retarget := false }
    let s := s.setStFlag i 10 false
    let s := if s.stState i = stClamped then
        s.setStation i stSpinning (match (s.stn i).cmd with | some c => c.code | none => 0x02) else s
    if s.spinOrder i then s.orderDone (16 + i) 0 else s
  else s

/-- AT_SPEED not reached 15 s after the slot, or the SET_SPEED (R198, Table 8.7). -/
def State.spinTimeout (s : State) (i : Nat) : State :=
  if (s.stn i).spinPhase = 5 ∧ (s.holdsSlot i ∨ (s.sq (16 + i)).code = some 0x15) then
    let rpm := (s.speed i).natAbs / 100
    (s.spinFail i 0x0F58_0002).stnFault i 7 rpm
  else s

/-! ### Observer loss and re-acquisition (R204 to R206) -/

/-- Both heads park, the sleds park and a station in READY or ACTIVE is SPINNING (R204 step 4, R207). -/
def State.coast (s : State) (i trig : Nat) : State :=
  let s := s.forEach [2 * i, 2 * i + 1] fun s h =>
    ((s.endWhole h latheAborted 0 0).parkHead h).sledParkNow h
  let st := s.stState i
  let s := (s.setStFlag i 10 true).modStn i fun t => { t with
    coastSince := some s.now, offered := false, resuming := t.resuming || decide (stSpinning ≤ st ∧ st ≤ stActive) }
  if s.stState i = stReady ∨ s.stState i = stActive then s.setStation i stSpinning trig else s

/-- Neither source is valid (R204 step 4). -/
def State.lossFreewheel (s : State) (i : Nat) : State :=
  let s := ((s.freewheel i).motion i 4).modStn i fun t => { t with lossStep := 4 }
  let waits := s.spinOrder i && (s.stn i).spinPhase != 0
  let s := (s.freeSlot i).setSpin i 7
  let s := s.modStn i fun t => { t with
    spinPhase := if waits then 6 else 0, down := if t.down = 1 then 3 else t.down }
  s.coast i 0x27

/-- The observer is lost (R195, R204). -/
def State.observerLoss (s : State) (i : Nat) (plausible : Bool) : State :=
  let enc := s.reg (spdKey i 0x0C) == 2 && bitOf (s.reg (stKey i 0x13 6)) 2
  let step := if plausible then 1 else if enc then 3 else 4
  let s := ((s.setReg (spdKey i 4) 2).motion i 1).modStn i fun t => { t with lossStep := step, edgeRun := 0 }
  let s := ((s.closeGates (2 * i)).closeGates (2 * i + 1)).ffLoss i
  let s := s.raiseTrap (16 + i) trapObserverLoss 0 step
  let s := s.post 0x0501 (0x30 + i) (leBytes 1 step) (some ⟨0xFF20, true⟩)
  if step = 1 then (s.setComm i 2).emitBridge i 0
  else if step = 3 then
    (((s.setComm i 3).motion i 3).raiseTrap (16 + i) trapEncTakeover 0 0).note 0x0503 (0x30 + i) []
  else s.lossFreewheel i

/-- Both feed-forward tables of both heads are cleared (R145, R196). -/
def State.ffClearStation (s : State) (i : Nat) : State :=
  s.forEach [2 * i, 2 * i + 1] fun s h => (s.ffClear h 0).ffClear h 1

/-- Whether the encoder's Z edge defines angle 0 (R194, R196). -/
def State.zAngle (s : State) (i : Nat) : Bool := s.reg (spdKey i 0x0C) == 2 && bitOf (s.reg (stKey i 0x13 6)) 0

/-- Angle 0 at a lock (R196): the first after a clamp stroke sets it; one after implausible Halls re-establishes it. -/
def State.angleLock (s : State) (i : Nat) : State :=
  let t := s.stn i
  if s.zAngle i then s
  else if !t.angleSet then (s.setReg (spdKey i 5) 0).modStn i fun t => { t with angleSet := true, edgeCount := 0 }
  else if 3 ≤ t.lossStep then
    let s := s.setRegs [(spdKey i 7, (s.reg (spdKey i 7) + 1) % 2 ^ 16), (spdKey i 6, (s.reg (spdKey i 6) + 1) % 2 ^ 32),
      (spdKey i 5, 0)]
    (s.ffClearStation i).modStn i fun t => { t with edgeCount := 0 }
  else s

/-- The observer locks; after a loss it re-acquires (R195, R205). -/
def State.observerLock (s : State) (i : Nat) : State :=
  let was := s.reg (spdKey i 4)
  let s := (s.angleLock i).setReg (spdKey i 4) 1
  let step := (s.stn i).lossStep
  let s := s.modStn i fun t => { t with lossStep := 0, stopped := false, coastSince := none }
  if was = 2 then
    let n := s.speed i
    let s := (s.motion i 2).ffReturn i
    let s := s.post 0x0502 (0x30 + i) (leBytes 2 (n.natAbs / 100)) (some ⟨0, false⟩)
    if step = 4 then
      let s := s.setStFlag i 10 false
      if (s.stn i).down = 3 then
        ((s.catchSpin i n).modStn i fun t => { t with down := 1, spinPhase := 0 }).setSpin i 5
      else if n < s.target i * 100 - s.speedTol i then s.needPower i n
      else s.catchSpin i n
    else s.setComm i 1
  else if s.reg (spdKey i 3) = 2 ∨ s.reg (spdKey i 3) = 3 then s.setComm i 1
  else s

/-- The speed of one Hall interval, in 0.01 rpm: 10 ns units, 6 intervals per electrical cycle (R195). -/
def hallSpeed (interval pp : Nat) : Nat := if interval = 0 then 0 else 600000000000 / (interval * 6 * pp)

/-- The observer's estimate of the Hall interval after one more (R195): a first-order loop of bandwidth OBS_BW in Hz, which takes
2π × OBS_BW × interval of the difference, and never more than all of it. The manual names the estimator and its bandwidth
only (DESIGN CHOICE, log entry 117). -/
def observe (old new bw : Nat) : Nat :=
  let k := min 1000000000 (new * bw * 62832 / 1000)
  (((old : Int) + roundDiv (((new : Int) - old) * k) 1000000000)).toNat

/-- Whether an edge comes within LOSS_ANGLE of its prediction, one interval being 60 degrees (R195). -/
def nearEdge (interval predicted lossAngle : Nat) : Bool :=
  decide ((((interval : Int) - predicted).natAbs) * 60 ≤ lossAngle * predicted)

/-- Angle 0 passes (R196). -/
def State.angleZero (s : State) (i : Nat) : State :=
  (s.setRegs [(spdKey i 6, (s.reg (spdKey i 6) + 1) % 2 ^ 32), (spdKey i 5, 0)]).modStn i fun t => { t with edgeCount := 0 }

/-- One filtered Hall transition (R192 to R196, R203 to R205); below 300 rpm a present encoder with ENC_USE bit 1 gives the speed
(R194), and in raw Hall mode the bridge takes its next sector (R190). -/
def State.hallEdge (s : State) (i code stamp : Nat) : State :=
  let t := s.stn i
  let old := s.reg (spdKey i 8)
  let code := code % 8
  let pp := s.reg (stKey i 0x11 1)
  let pair := (s.hallSector i old, s.hallSector i code)
  let back := if t.spinPhase = 1 then (match pair with | (some x, some y) => (y + 1) % 6 == x | _ => false) else decide (t.nSet < 0)
  let interval := stamp - t.edgeStamp
  let s := s.setReg (spdKey i 8) code
  let s := if hallValid code then s else s.motion i 8
  let a := s.hallSector i old
  let b := s.hallSector i code
  let next := match a, b with
    | some x, some y => if back then (y + 1) % 6 == x else (x + 1) % 6 == y
    | _, _ => false
  let prev := match a, b with
    | some x, some y => if back then (x + 1) % 6 == y else (y + 1) % 6 == x
    | _, _ => false
  let backs := if prev then t.backEdges + 1 else if t.edgeCount % 6 = 0 then 0 else t.backEdges
  let plausible := hallValid code && (next || prev) && backs < 2
  let mapped := s.reg (stKey i 0x13 5) != 0
  let near := t.edgeInterval == 0 || nearEdge interval t.edgeInterval (s.reg (stKey i 0x13 1))
  let good := next && near
  let zero := next && b == some 0
  let est := if s.reg (spdKey i 4) = 1 ∧ t.edgeInterval ≠ 0 then observe t.edgeInterval interval (s.reg (stKey i 0x13 4)) else interval
  let slow := s.reg (spdKey i 0x0C) == 2 && bitOf (s.reg (stKey i 0x13 6)) 1 && decide ((s.speed i).natAbs < 30000)
  let s := s.modStn i fun t => { t with
    edgeStamp := stamp, edgeInterval := if next ∨ ¬ mapped then est else t.edgeInterval
    edgeRun := if good then t.edgeRun + 1 else 0, edgeCount := t.edgeCount + 1, backEdges := backs
    crossings := t.crossings + 1, encEdges := t.encEdges + 1
    encZero := if zero then (t.encCount % 4096).toNat else t.encZero }
  let sp := (hallSpeed est pp : Int)
  let s := if (next ∨ ¬ mapped) ∧ ¬ slow then s.setRegI 32 (spdKey i 2) (if back then -sp else sp) else s
  let s := if t.encEdges + 1 = 12 ∧ s.reg (spdKey i 0x0C) = 0 ∧ ¬ t.encSeen then s.setReg (spdKey i 0x0C) 1 else s
  let s := s.setReg (spdKey i 0x0B) (s.advance i)
  let s := if (s.stn i).angleSet ∧ ¬ s.zAngle i then
      if 6 * pp ≤ (s.stn i).edgeCount then s.angleZero i
      else s.setReg (spdKey i 5) ((s.stn i).edgeCount * 65536 / (6 * pp))
    else s
  let s := if s.reg (spdKey i 3) = 2 then s.emitBridge i 0 else s
  if t.spinPhase = 5 ∧ t.crossings < 6 ∧ mapped ∧ ¬ next ∧ s.reg (spdKey i 4) ≠ 1 ∧ s.reg (spdKey i 3) = 2 then s.hallFail i
  else if s.reg (spdKey i 4) = 1 then if good then s else s.observerLoss i plausible
  else if s.reg (stKey i 0x13 3) ≤ (s.stn i).edgeRun then s.observerLock i
  else s

/-- No edge within LOSS_MISS intervals (R195): the Halls' last code decides. -/
def State.missedEdge (s : State) (i : Nat) : State :=
  if s.reg (spdKey i 4) = 1 then s.observerLoss i (hallValid (s.reg (spdKey i 8))) else s

/-- The encoder is degraded (R194): not used any more; a takeover that it carried falls to freewheel. -/
def State.encDegrade (s : State) (i : Nat) : State :=
  let s := (s.setReg (spdKey i 0x0C) 3).setRegBit (stKey i 0xE0 4) 2 true
  if s.reg (spdKey i 3) = 3 then s.lossFreewheel i else s

/-- The speed of one quadrature count, in 0.01 rpm: 10 ns units, 4,096 counts a revolution. -/
def countSpeed (interval : Nat) : Nat := if interval = 0 then 0 else 600000000000 / (interval * 4096)

/-- One quadrature edge (R194): it counts, also for START_MEASURE, and below 300 rpm gives the speed of a present encoder with
ENC_USE bit 1. -/
def State.encEdge (s : State) (i : Nat) (fwd valid : Bool) (stamp : Nat) : State :=
  let t := s.stn i
  let one : Int := if fwd then 1 else -1
  let sp := one * (countSpeed (stamp - t.encStamp) : Int)
  let s := s.modStn i fun t => { t with
    encSeen := true, encCount := t.encCount + one, measCount := t.measCount + one, encStamp := stamp }
  if valid then
    (if s.reg (spdKey i 0x0C) = 2 ∧ bitOf (s.reg (stKey i 0x13 6)) 1 ∧ sp.natAbs < 30000 then s.setRegI 32 (spdKey i 2) sp else s)
  else if s.reg (spdKey i 0x0C) = 2 ∨ s.reg (spdKey i 0x0C) = 0 then s.encDegrade i
  else s

/-- One Z edge (R194, R196). -/
def State.encZ (s : State) (i : Nat) : State :=
  let t := s.stn i
  let ok := decide (4092 ≤ t.encCount.natAbs) && decide (t.encCount.natAbs ≤ 4100)
  let st := s.reg (spdKey i 0x0C)
  let s := s.modStn i fun t => { t with encSeen := true, encCount := 0, encRevs := t.encRevs + 1 }
  if t.encRevs = 0 then s
  else if !ok then if st = 0 ∨ st = 2 then s.encDegrade i else s
  else
    let s := if st = 0 ∧ 4 ≤ t.encRevs then s.setRegs [(spdKey i 0x0C, 2), (stKey i 0x13 7, t.encZero)] else s
    if s.zAngle i then s.angleZero i else s

/-- COAST_STOP_TIME passes without re-acquisition (R206, R199, R204). -/
def State.coastTimeout (s : State) (i : Nat) : State :=
  if s.stFlag i 10 ∧ (s.stn i).lrWait = false then
    let s := s.modStn i fun t => { t with stopped := true }
    let s := s.setRegs [(spdKey i 1, 0), (spdKey i 2, 0)]
    let s := if (s.stn i).down = 3 then
        let s := s.modStn i fun t => { t with down := 0 }
        if (s.sq (16 + i)).code = some 0x11 then s.orderDone (16 + i) 0 else s
      else s
    let s := if s.spinOrder i then s.spinFail i 0x0F58_0002 else s
    s.stnFault i 2 (hallDetail i)
  else s

/-! ### Locked rotor (R207) -/

def State.lockedRotor (s : State) (i : Nat) : State :=
  let n := (s.stn i).lrMade
  let s := ((s.freewheel i).motion i 7).raiseTrap (16 + i) trapLockedRotor 0 n
  let s := s.post 0x0504 (0x30 + i) (leBytes 1 n) (some ⟨0xFF21, false⟩)
  if s.reg (stKey i 0x12 0x10) ≤ n then
    let s := if s.spinOrder i then s.spinFail i 0x0F58_0001 else s
    s.stnFault i 3 n
  else
    let s := (s.modStn i fun t => { t with lrWait := true, spinPhase := 0 }).setSpin i 8
    s.coast i 0x29

def State.lockedRetry (s : State) (i : Nat) : State :=
  if (s.stn i).lrWait then
    let s := s.modStn i fun t => { t with lrWait := false, lrMade := t.lrMade + 1, coastSince := none }
    s.needPower i 0
  else s

/-! ### VBUS (R202, R203) -/

def State.vbusSample (s : State) (i mv amps : Nat) : State :=
  let old := s.reg (spdKey i 9)
  let hi := s.reg (stKey i 0x12 8)
  let mx := s.reg (stKey i 0x12 9)
  let s := s.setRegs [(spdKey i 9, mv), (spdKey i 0x0A, amps), (stKey i 0x3F 0x0B, max (s.reg (stKey i 0x3F 0x0B)) mv)]
  let s := s.modStn i fun t => { t with
    vbusOver := t.vbusOver && decide (hi ≤ mv)
    brk := if hi < mv then true else if mv + s.reg (stKey i 0x12 0x0A) < hi ∧ ¬ (t.vbusOver ∧ hi ≤ mv) then false else t.brk }
  let s := if (s.stn i).brk then
      let n := (s.stn i).brkSamples + 1
      let s := s.modStn i fun t => { t with brkSamples := n % 100 }
      if n % 100 = 0 then s.motion i 0x0A else s
    else s
  let s := s.limitCurrent i amps
  let d := s.drive (16 + i) 0
  let k : Int := if mv ≤ hi then 8388608 else if mx ≤ mv then 0 else ((mx - mv : Nat) : Int) * 8388608 / ((mx - hi : Nat) : Int)
  let s := if d < -k then (s.setDrive (16 + i) 0 (-k)).modLp (16 + i) 0 fun p => { p with clamp := -1 } else s
  let s := if hi < mv ∧ old ≤ hi then
      ((s.motion i 9).raiseTrap (16 + i) trapVbusHigh 0 0).note 0x0505 (0x30 + i) (leBytes 2 mv) else s
  if mx ≤ mv ∧ old < mx then
    ((s.motion i 9).raiseTrap (16 + i) trapVbusHigh 0 1).post 0x0506 (0x30 + i) (leBytes 2 mv) (some ⟨0xFF23, false⟩)
  else s

/-- VBUS has been outside its limits for its time while PSEN is high (R203). A fault while POWER_UP holds PSEN high in OFF takes
the station to FAULT as well (DESIGN CHOICE, log entry 115: R203 says while PSEN is high, Table 5.2 any state but OFF). -/
def State.vbusFault (s : State) (i : Nat) : State :=
  let v := s.reg (spdKey i 9)
  let hi := s.reg (stKey i 0x12 9) < v
  if (s.stn i).psen ∧ (hi ∨ v < s.reg (stKey i 0x12 7)) then
    let s := if hi then (s.freewheel i).modStn i fun t => { t with vbusOver := true, brk := true } else s
    s.stnFault i 5 v
  else s

/-! ### Sleds (R209 to R215) -/

def State.sled (s : State) (h : Nat) : Sled := (s.stn (h / 2)).sleds.getD (h % 2) Sled.init
def State.modSled (s : State) (h : Nat) (f : Sled → Sled) : State :=
  s.modStn (h / 2) fun t => { t with sleds := t.sleds.modify (h % 2) f }

/-- The follow generator's velocity in µm/s (R212). -/
def State.followVelocity (s : State) (h : Nat) (l : Int) : Int :=
  let dead := (s.reg (sledKey h 0x0C) : Int)
  let gain := (s.reg (sledKey h 0x0D) : Int)
  if (l.natAbs : Int) ≤ dead then 0
  else gain * (if 0 < l then l - dead else l + dead) / 8388608

/-- The sled loop's input (R210): the load angle over 180°, 0 below BEMF_MIN_SPEED. -/
def State.sledError (s : State) (h : Nat) : Int :=
  if s.stepsPerSec h (s.regI 32 (sledKey h 0x1D)) < s.reg (sledKey h 0x0E) then 0
  else sat24 (roundDiv (s.regI 16 (sledKey h 0x1E) * 8388608) 1800)

/-- The way in which a sled at velocity `v` and acceleration `a`, both toward its target, comes to rest with jerk `j` and
acceleration `am` at most (R213); all in the unit of a set-point, in which a velocity is what one of them adds. -/
def stopWay (v a : Int) (am j : Nat) : Int :=
  let jj : Int := j
  let a3 := Int.fdiv (a * a * a) (3 * jj * jj)
  let (top, way) : Int × Int :=
    if 0 ≤ a then (v + Int.fdiv (a * a) (2 * jj), Int.fdiv (v * a) jj + a3)
    else (let u := v + Int.fdiv (a * a) (2 * jj); (u, -(Int.fdiv (u * -a) jj + Int.fdiv (a * a * a) (6 * jj * jj))))
  let t := top.toNat
  if t * j ≤ am * am then way + (t * isqrt (t * 1000000 / j) / 1000 : Nat)
  else way + (t * (t * 1000 / am + am * 1000 / j) / 2000 : Nat)

/-- The acceleration of the next set-point of an S-curve (R213): toward VMAX while after that set-point the way left is still the
way to stop or more, else toward rest; each within JMAX and AMAX, and easing so that the end of either is met without a step. -/
def curveStep (v a left : Int) (vm am j : Nat) : Int :=
  let b := min (a + j) (min (am : Int) (isqrt (2 * j * ((vm : Int) - v).toNat)))
  if stopWay (v + b) b am j ≤ left - (v + b) then b
  else max (a - j) (max (-(am : Int)) (-(isqrt (2 * j * v.toNat) : Int)))

/-- The profile's next acceleration, in 1/400 µm/s per set-point (R213). -/
def State.profileStep (s : State) (h : Nat) (p : Int) : Int :=
  let d := s.sled h
  let left := (p - s.regI 32 (sledKey h 0x1B)) * 8000 - d.frac * 400
  let dir : Int := if left < 0 then -1 else 1
  dir * curveStep (dir * s.regI 32 (sledKey h 0x1D) * 400) (dir * d.acc) (dir * left) (s.reg (sledKey h 8) * 400)
    (s.reg (sledKey h 9) * 20) (s.reg (sledKey h 0x0A))

/-- θs less the rotor's angle that the BEMF gives, both in 0.1° electrical, as a load angle from −180° to 180° (R210). -/
def State.loadAngle (s : State) (h rotor : Nat) : Int :=
  let th := s.sledTheta h (s.regI 32 (sledKey h 0x1B)) * 3600 / 1024
  ((th : Int) - rotor + 1800) % 3600 - 1800

/-- One 50 µs set-point (R209 to R213): the follow generator, a profile's S-curve, or the way home; `rotor` is the rotor's
electrical angle estimated from the BEMF, in 0.1°. -/
def State.sledPoint (s : State) (h rotor : Nat) : State :=
  let angle := s.loadAngle h rotor
  let d := s.sled h
  let i := h / 2
  let l := 1 + h % 2
  let held := s.loopState (16 + i) l == lsHold && bitOf (s.holdCause (16 + i) l) hcCoupled
  let v0 := s.regI 32 (sledKey h 0x1D)
  let lp := d.lowpass + (s.drive h 1 * 65536 - d.lowpass) * (s.reg (sledKey h 0x0B) * 314159 : Nat) / 1000000000
  let a := match d.target with | some p => s.profileStep h p | none => 0
  let following := s.substate h == hsFollowing && d.target.isNone && !d.homing
  let v := if d.homing then -(s.reg (sledKey h 0x12) : Int)
    else if d.target.isSome then v0 + Int.tdiv a 400
    else if following && !held then s.followVelocity h (lp / 65536)
    else 0
  let tot := s.regI 32 (sledKey h 0x1B) * 20 + d.frac + v
  let pos := tot / 20
  let known := !d.homing && s.reg (sledKey h 0x1C) == 1
  let beyond := decide ((s.reg (sledKey h 0x0F) : Int) * 10 < angle.natAbs) && decide (s.reg (sledKey h 0x0E) < s.stepsPerSec h v)
  let s := s.modSled h fun d => { d with
    lowpass := lp, acc := if d.target.isSome then a else 0, frac := if known then tot % 20 else 0
    still := if v = 0 then min 400 (d.still + 1) else 0, beyond := if beyond then d.beyond + 1 else 0 }
  let s := if known then s.setRegI 32 (sledKey h 0x1B) pos else s
  let s := (s.setRegI 32 (sledKey h 0x1D) v).setRegI 16 (sledKey h 0x1E) angle
  let s := if d.full ∧ v = 0 then
      let s := s.modSled h fun d => { d with full := false }
      if s.loopState (16 + i) l = lsOpen ∧ s.mayClose (16 + i) l then s.loopClose (16 + i) l else s
    else s
  let st := s.reg (sledKey h 0x1A)
  let s := if st = 1 ∨ st = 2 then s.setReg (sledKey h 0x1A) (if following then 2 else 1) else s
  let mn := (s.reg (sledKey h 6) : Int)
  let cur := if 400 ≤ (s.sled h).still then (s.reg (sledKey h 5) : Int)
    else mn + max 0 (s.drive (16 + i) l) * ((s.reg (sledKey h 7) : Int) - mn) / 8388608
  (s.emit (.sled h (s.regI 32 (sledKey h 0x1B)) v (s.sled h).acc cur)).emitWindings h (s.regI 32 (sledKey h 0x1B)) v cur

/-- A stall (R211), or the inner stop of a SLED_HOME (R214). -/
def State.sledStall (s : State) (h : Nat) : State :=
  let d := s.sled h
  if d.homing then
    let s := s.modSled h fun d => { d with homing := false, beyond := 0, frac := 0 }
    let s := s.setRegs [(sledKey h 0x1B, s.reg (sledKey h 0x11) * 1000), (sledKey h 0x1C, 1), (sledKey h 0x1D, 0), (sledKey h 0x1A, 1)]
    if (s.sq h).code = some 8 then s.orderDone h 0 else s
  else if s.reg (sledKey h 0x10) ≤ d.beyond then
    let again := match d.lastStall with | some t => decide (s.now < t + 10000000) | none => false
    let pos := s.reg (sledKey h 0x1B)
    let s := s.modSled h fun d => { d with target := none, beyond := 0, lastStall := some s.now }
    let s := s.setRegs [(sledKey h 0x1C, 0), (sledKey h 0x1D, 0), (sledKey h 0x1A, 5)]
    let s := if again then s.setRegBit (stKey (h / 2) 0xE0 4) (3 + h % 2) true else s
    let s := (s.motion (h / 2) (0x0C + h % 2)).raiseTrap h trapSledStall 0 0
    let s := s.post 0x0507 (0x30 + h / 2) (leBytes 1 (h % 2) ++ leBytes 4 pos) (some ⟨0xFF22, false⟩)
    s.orderFailed h 0x0F58_0003
  else s

/-- SLED_HOME (R214). -/
def State.sledHome (s : State) (h : Nat) (ev : HomeEvent) : State :=
  if !s.runs h 8 then s
  else if (s.sq h).started = 0 then
    if s.substate h = hsOff then
      ((s.modSled h fun d => { d with homing := true, target := none }).setReg (sledKey h 0x1A) 4).modSq h
        fun q => { q with started := 1 }
    else s.orderRejected h 1
  else
    match ev with
    | .begin => s
    | .noStop =>
      ((s.modSled h fun d => { d with homing := false }).setRegs [(sledKey h 0x1A, 1), (sledKey h 0x1D, 0)]).orderFailed h 0x0F58_0008

/-- SLED_PARK (R214). -/
def State.sledPark (s : State) (h : Nat) : State :=
  if !s.runs h 9 || (s.sq h).started != 0 then s
  else if s.substate h = hsOff ∧ s.reg (sledKey h 0x1C) = 1 then
    (s.sledParkNow h).modSq h fun q => { q with started := 1 }
  else s.orderRejected h 1

/-- Whether a target in nm lies in MIN_POS to MAX_POS. -/
def State.sledReach (s : State) (h : Nat) (t : Int) : Bool :=
  decide ((s.reg (sledKey h 0x14) : Int) * 1000 ≤ t) && decide (t ≤ (s.reg (sledKey h 0x15) : Int) * 1000)

/-- Radius of a track in nm (chapter 10): 24.000 mm + t × 0.200 µm on DAF media, 0.320 µm on Blu-ray Disc. -/
def State.trackRadius (s : State) (h t : Nat) : Int :=
  24000000 + (t : Int) * (if s.reg (stKey (h / 2) 0 6) = 1 then 320 else 200)

/-- An address that a SEEK has read (R215 steps 4 to 6): TRK closes again for the spiral read where TRACK_SIGN is another's, as in
FOLLOW; one track jump corrects a miss within FINE_MAX; a further profile runs else, up to SEEK_RETRIES times. -/
def State.seekRead (s : State) (h : Nat) (r : PilotRead) : State :=
  let step := fun (s : State) n => s.modSq h fun q => { q with started := n }
  let goal := s.reg (sledKey h 0x16)
  let s := s.addressRead h r
  let diff := (goal : Int) - r.track
  if s.regI 8 (hdKey h 0x10 7) ≠ s.signOf h (s.reg (hdKey h 0x13 3)) then
    if (s.hd h).signRead then s.headFail h 0x0F57_0013
    else step ((s.openAtDrive h [1]).modHd h fun d => { d with signRead := true }) 2
  else if diff = 0 then step s 4
  else if diff.natAbs ≤ s.reg (hdKey h 0x12 8) ∧ (s.hd h).corrected = false then
    step (((s.motion (h / 2) 0x0F).trackKick h diff).modHd h fun d => { d with corrected := true }) 6
  else if (s.sled h).tries < s.reg (sledKey h 0x18) then
    let s := (s.motion (h / 2) 0x0F).modSled h fun d => { d with tries := d.tries + 1 }
    let s := ((s.setRegI 32 (loopKey h 1 3) 0).loopOpen h 1).sledProfile h (s.trackRadius h goal)
    step (s.modHd h fun d => { d with corrected := false, signRead := false }) 1
  else s.headFail h 0x0F58_0004

/-- SEEK (R215): a profile runs (1), the layer jumps and TRK is to close (2), the address is read (3), the pilot is on its track
(4), a search replaces a late layer step (5), a corrective jump runs (6). -/
def State.seek (s : State) (h : Nat) (ev : SeekEvent) : State :=
  if !s.runs h 7 then s
  else
    let st := (s.sq h).started
    let step := fun (s : State) n => s.modSq h fun q => { q with started := n }
    let goal := s.reg (sledKey h 0x16)
    let layer := s.reg (sledKey h 0x17)
    let done := fun (s : State) => s.setSubstate h hsFocused
    if st = 0 then
      let sub := s.substate h
      if (sub = hsTracking ∨ sub = hsFollowing) ∧ s.reg (sledKey h 0x1C) = 1 then
        if s.sledReach h (s.trackRadius h goal) then
          let s := ((s.setRegI 32 (loopKey h 1 3) 0).loopOpen h 1).openAtDrive h (s.tiltLoops h)
          let s := (s.motion (h / 2) 0x0E).enterTracking h
          let s := (s.sledProfile h (s.trackRadius h goal)).modSled h fun d => { d with tries := 0 }
          step (s.modHd h fun d => { d with corrected := false, signRead := false, jumpTarget := goal, kickF := none, kickT := none }) 1
        else s.orderRejected h 4
      else s.orderRejected h 1
    else
      match ev with
      | .begin => s
      | .layer .begin =>
        if st = 2 ∧ layer ≠ 0xFF ∧ (s.hd h).kickF.isNone ∧ s.substate h ≠ hsFocused ∧ s.loopState h 0 = lsClosed then
          (if (s.hd h).atLayer = layer then done s else (s.sendSa h layer).layerKick h layer)
        else s
      | .layer (.search e) => if st = 5 then s.focusSearch h layer e fun s => step s 2 else s
      | .layer e => if st = 2 ∧ layer ≠ 0xFF ∧ s.substate h ≠ hsFocused then s.layerSteps h layer e done else s
      | .trkClosed =>
        if st = 2 ∧ (layer = 0xFF ∨ (s.substate h = hsFocused ∧ s.reg (hdKey h 0x13 1) = layer ∧ s.reg (hdKey h 0x15 0x0C) = 0))
            ∧ (s.sled h).endedAt + s.reg (sledKey h 0x19) ≤ s.now ∧ s.loopState h 1 = lsOpen ∧ s.validCrossing h then
          if s.noGain h 1 then s.orderRejected h 4 else step ((s.loopClose h 1).enterTracking h) 3
        else s
      | .address r => if st = 3 then s.seekRead h r else s
      | .jumpClosed =>
        if st = 6 ∧ s.jumpCrossing h then
          if s.noGain h 1 then s.orderRejected h 4 else step (s.jumpClose h ((goal : Int) - s.reg (hdKey h 0x13 2))) 3
        else s
      | .settled =>
        if st = 4 ∧ s.aged h 1 (s.reg (hdKey h 0x12 9)) then ((s.closeTilt h).setSubstate h hsFollowing).orderDone h (s.reg (hdKey h 0x13 2))
        else s

/-- A profile reaches its target (R213): a sled's order goes on or ends. -/
def State.profileEnd (s : State) (h : Nat) : State :=
  match (s.sled h).target with
  | none => s
  | some p =>
    let s := s.modSled h fun d => { d with target := none, acc := 0, frac := 0, endedAt := s.now }
    let s := (s.setRegI 32 (sledKey h 0x1B) p).setRegs [(sledKey h 0x1D, 0), (sledKey h 0x1A, 1)]
    if (s.sq h).code = some 9 then s.orderDone h 0
    else if (s.sq h).code = some 7 ∧ (s.sq h).started = 1 then
      (s.modSq h fun q => { q with started := 2 }).modHd h fun d => { d with atLayer := s.reg (hdKey h 0x13 1) }
    else s

/-! ### Clamp (R216 to R218) -/

/-- A mismatch of DISC_PRES (R116). -/
def State.discMismatch (s : State) (i : Nat) : State := (s.bump (stKey i 0xE0 7)).setStFlag i 15 true

/-- A stroke starts, with the state of the clamp while it moves. -/
def State.startStroke (s : State) (i : Nat) (k : Stroke) (st : Nat) : State :=
  let p := s.reg (clampKey i 0x0D)
  let s := s.modStn i fun t => { t with
    stroke := k, strokeAt := s.now, legAt := s.now, strokeFrom := if p = 0xFFFF_FFFF then 0 else p, strokeTries := 0, faultOpen := false }
  ((s.setReg (clampKey i 0x0C) st).motion i 0x10).emitChopper i (s.stn i).strokeFrom (s.reg (clampKey i 1))

/-- The clamp orders begin (Table 8.7). -/
def State.clampOrder (s : State) (i code : Nat) (k : Stroke) (st : Nat) (ok : Bool) : State :=
  let e := 16 + i
  if !s.runs e code || (s.sq e).started != 0 then s
  else if s.spinState i = 0 ∧ (s.stn i).stroke = .none ∧ ok then
    (s.startStroke i k st).modSq e fun q => { q with started := 1 }
  else s.orderRejected e 1

/-- The station's clamp order, if one runs, ends. -/
def State.clampDone (s : State) (i ret : Nat) : State :=
  match (s.sq (16 + i)).code with
  | some c => if 0x12 ≤ c ∧ c ≤ 0x14 then s.orderDone (16 + i) ret else s
  | none => s
def State.clampFailed (s : State) (i code : Nat) : State :=
  match (s.sq (16 + i)).code with
  | some c => if 0x12 ≤ c ∧ c ≤ 0x14 then s.orderFailed (16 + i) code else s
  | none => s

/-- The stroke ends: its time is written, and the chopper holds (R216). -/
def State.strokeOver (s : State) (i : Nat) : State :=
  let t := min ((s.now - (s.stn i).strokeAt) / 1000) 65535
  ((s.setReg (clampKey i 0x0F) t).modStn i fun t => { t with stroke := .none }).clampHold i

/-- The clamp is open: position 0, found-clamped and closed flags clear (R217, R218). -/
def State.clampOpen (s : State) (i : Nat) : State :=
  let s := (s.strokeOver i).setRegs [(clampKey i 0x0C, 1), (clampKey i 0x0D, 0)]
  (s.setStFlag i 2 false).setStFlag i 3 false

/-- A stroke fault (Table 8.6, R217): cause 0x0004 with the position. -/
def State.strokeFault (s : State) (i p : Nat) : State :=
  let s := (s.strokeOver i).setRegs [(clampKey i 0x0C, 6), (clampKey i 0x0D, p)]
  let s := s.clampFailed i 0x0F58_0006
  if s.stState i = stFault then (s.setReg (stKey i 0xE0 2) p).endCommand i 0x0F53_0005 else s.stnFault i 4 p

/-- The channel coefficients and target tables of both heads return to their defaults (R279). -/
def State.coefDefaults (s : State) (i : Nat) : State :=
  s.forEach [2 * i, 2 * i + 1] fun s h => s.forEach [4, 5, 6] fun s o => s.setRaw (chKey h o 0) (rawDefault (chKey h o 0))

/-- A clamp stall ends the stroke at its position (R216 to R218, Table 8.6); a reading that is no stall changes nothing. -/
def State.clampStall (s : State) (i run : Nat) (bemf : List Nat) : State :=
  let p := s.clampNow i
  match (if s.clampStalls i run bemf then (s.stn i).stroke else .none) with
  | .none => s
  | .clamp =>
    let s := s.setRegs [(clampKey i 0x0E, p), (clampKey i 0x0D, p)]
    if s.reg (clampKey i 8) ≤ p ∧ p ≤ s.reg (clampKey i 9) then
      let s := (s.strokeOver i).setReg (clampKey i 0x0C) 3
      let s := ((s.setStFlag i 2 true).bump (stKey i 0 0x0F)).ffClearStation i
      let s := (s.modStn i fun t => { t with angleSet := false }).coefDefaults i
      let s := if s.discHigh i then s else s.discMismatch i
      let trig := match (s.stn i).cmd with | some c => c.code | none => 0x22
      let s := s.clampDone i p
      if s.stState i = stEmpty then s.setStation i stClamped trig else s
    else if s.reg (clampKey i 9) < p then
      let s := if s.discHigh i then s.discMismatch i else s
      (s.setReg (clampKey i 0x0C) 5).modStn i fun t => { t with stroke := .reopen, legAt := s.now, strokeFrom := p }
    else if (s.stn i).strokeTries = 0 then
      (s.setReg (clampKey i 0x0D) (p - 512)).modStn i fun t => { t with strokeTries := 1, legAt := s.now, strokeFrom := p - 512 }
    else s.strokeFault i p
  | .unclamp =>
    let s := s.clampOpen i
    let s := s.clampDone i 0
    if s.stState i = stFault then s.modStn i fun t => { t with faultOpen := true }
    else if s.stState i = stClamped then s.setStation i stEmpty 0x03 else s
  | .reopen => (s.clampOpen i).clampFailed i 0x0F58_0005
  | .probe => (s.clampOpen i).clampDone i 1

/-- The way of the stroke's leg is made: PROBE_STEPS of a probe, else STROKE_LIMIT (R217, R218). -/
def State.clampFar (s : State) (i : Nat) : Bool :=
  match (s.stn i).stroke with
  | .none => false
  | .probe => decide (s.reg (clampKey i 0x0B) ≤ s.clampTravel i)
  | .clamp => decide (s.reg (clampKey i 0x0A) ≤ s.clampNow i)
  | _ => decide (s.reg (clampKey i 0x0A) ≤ s.clampTravel i)

/-- The end of a stroke's way without a stall (R217, R218): a probe takes the clamp as closed, any other stroke fails. -/
def State.clampLimit (s : State) (i : Nat) : State :=
  match (if s.clampFar i then (s.stn i).stroke else .none) with
  | .none => s
  | .probe =>
    let s := (s.strokeOver i).setRegs [(clampKey i 0x0C, 3), (clampKey i 0x0D, 0xFFFF_FFFF)]
    ((s.setStFlag i 3 true).setStFlag i 2 true).clampDone i 2
  | _ => s.strokeFault i (s.reg (clampKey i 0x0A))

/-- A stroke cut short by PFW_N, RESET_N or clock loss (R217). -/
def State.cutStroke (s : State) (i : Nat) : State :=
  match (s.stn i).stroke with
  | .none => s
  | _ => ((s.modStn i fun t => { t with stroke := .none }).setRegs [(clampKey i 0x0C, 0), (clampKey i 0x0D, 0xFFFF_FFFF)]).emit
    (.chopper i 0 0 0 0 0)

end Sys2Proof.Machine
end

