-- ==== Sys2Proof/Machine/Bist.lean ====
section
/-! DEFINITION. Scan BIST (R465 to R471, Tables 19.6 and 19.7): partitions, their tokens, slots and pools, the end of a run
and what it leaves; and the state of a device self-test (R472 to R476) as its steps end. -/

namespace Sys2Proof.Machine

def bistKey (sub : Nat) : Nat := key 0x2500 sub
def State.modBist (s : State) (f : Bist → Bist) : State := { s with bist := f s.bist }

/-! ### Partitions (Table 19.6) -/

def oPassed : Nat := 1
def oFailed : Nat := 2
def oAborted : Nat := 3
def oIncomplete : Nat := 4
def oRunning : Nat := 5
def oSuspended : Nat := 6
def oDeferred : Nat := 7

/-- The number of a partition in object 0x2502. -/
def partNumber (kind inst : Nat) : Nat :=
  if kind = 1 then inst else if kind = 2 then 8 + inst else if kind = 3 then 16 + inst else if kind = 4 then 32 + inst
  else if kind = 5 then 48 + inst else if kind = 6 then 72 + inst else if kind = 7 then 136 + inst else 138

/-- Instances of a kind in the largest variant. -/
def partLimit (kind : Nat) : Nat :=
  if kind ≤ 2 then 8 else if kind ≤ 4 then 16 else if kind = 5 then 24 else if kind = 6 then 64 else if kind = 7 then 2 else 1

def classA (kind : Nat) : Bool := 1 ≤ kind && kind ≤ 4
def classB (kind : Nat) : Bool := 5 ≤ kind && kind ≤ 7

/-- The station of a class A partition. -/
def partStation (kind inst : Nat) : Nat := if kind ≤ 2 then inst else inst / 2

/-- The switched domain of a partition, if it has one of its own (Table 4.1). -/
def partDomain (kind inst : Nat) : Option Nat :=
  if kind = 1 then some (6 * inst) else if kind = 2 then some (6 * inst + 5)
  else if kind = 3 then some (6 * (inst / 2) + 1 + inst % 2)
  else if kind = 4 then some (6 * (inst / 2) + 3 + inst % 2)
  else if kind = 5 then some (48 + inst) else if kind = 7 then some (86 + inst) else none

/-- Whether the part has the partition (R4, R66). -/
def State.partPresent (s : State) (kind inst : Nat) : Bool :=
  if classA kind then s.stationPresent (partStation kind inst) else if kind = 7 then s.part.q else true

/-- The class A partitions of a station, in the order of Table 19.6. -/
def stationParts (i : Nat) : List (Nat × Nat) := [(1, i), (2, i), (3, 2 * i), (3, 2 * i + 1), (4, 2 * i), (4, 2 * i + 1)]
/-- The pool partitions (class B). -/
def State.poolParts (s : State) : List (Nat × Nat) :=
  (List.range 24).map ((5, ·)) ++ (List.range 64).map ((6, ·)) ++ (if s.part.q then [(7, 0), (7, 1)] else [])

/-- Tokens of a partition (Table 19.4); the whole chip takes those of every present one. -/
def partTokens (kind inst : Nat) : List Nat :=
  if kind ≤ 2 then [tokStation inst] else if kind = 3 then [tokAfe inst] else if kind = 4 then [tokChannel inst]
  else if kind = 5 then [tokSlice inst] else if kind = 6 then [tokSegment inst] else if kind = 7 then [tokEc inst] else []
def State.tokensOf (s : State) (kind inst : Nat) : List Nat :=
  if kind = 8 then
    (List.range s.part.stations).flatMap (fun i => (stationParts i).flatMap fun p => partTokens p.1 p.2)
      ++ s.poolParts.flatMap fun p => partTokens p.1 p.2
  else partTokens kind inst

/-! ### Runs -/

def State.bistRun (s : State) (kind inst : Nat) : Option BistRun := s.bist.runs.find? fun r => r.kind == kind && r.inst == inst
def State.modRun (s : State) (kind inst : Nat) (f : BistRun → BistRun) : State :=
  s.modBist fun b => { b with runs := b.runs.map fun r => if r.kind = kind ∧ r.inst = inst then f r else r }

/-- A partition is under test: isolated, its patterns running or suspended. -/
def BistRun.active (r : BistRun) : Bool := r.stage == .running || r.stage == .suspended
/-- Runs of a station's partitions. -/
def State.stationRuns (s : State) (i : Nat) : List BistRun :=
  s.bist.runs.filter fun r => classA r.kind && partStation r.kind r.inst == i
/-- FLAGS.BIST_ACTIVE. -/
def State.bistView (s : State) (i : Nat) : State := s.setStFlag i 9 ((s.stationRuns i).any BistRun.active)

/-- The outcome of a partition in object 0x2502 with the calendar time; FAILED stays until a later passing test (R470). -/
def State.setOutcome (s : State) (kind inst o : Nat) : State :=
  let k := partNumber kind inst
  let o := if s.bist.failed.contains k ∧ (o = oAborted ∨ o = oIncomplete ∨ o = oDeferred) then oFailed else o
  s.modBist fun b => { b with table := insertKey k (o, if s.timeValid then s.calendar else 0) b.table }

/-- A class A partition may be tested: its station is OFF, EMPTY or CLAMPED with the spindle stopped (R467). -/
def State.classAMay (s : State) (i : Nat) : Bool := decide (s.stState i ≤ stClamped) && s.spinState i == 0

/-- The life-cycle states of in-field and of whole-chip BIST (R466). -/
def State.bistState (s : State) (kind : Nat) : Bool :=
  s.lc == lcReturn || s.lc == (if kind = 8 then lcVendorTest else lcField)

/-! ### The self-test as its BIST steps end -/

def State.modTest (s : State) (f : SelfTest → SelfTest) : State := { s with selfTest := s.selfTest.map f }

/-- A step of segment `g` fails: the first failing segment is kept (R475). -/
def SelfTest.fails (t : SelfTest) (g : Nat) : SelfTest := { t with segment := if t.segment = 0 then g else min t.segment g }

/-- What the outcome of a self-test's partition means for it: a failure, or the end of the station's segment 1. -/
def SelfTest.partEnded (t : SelfTest) (r : BistRun) (o : Nat) : SelfTest :=
  let t := if o = oFailed then t.fails (if classA r.kind then 1 else 4) else t
  if classA r.kind then
    { t with stations := t.stations.map fun x =>
        if x.st = partStation r.kind r.inst then
          (if o = oFailed then { x with result := 2 }
           else if o = oAborted then { x with parts := [], result := if x.result = 2 then 2 else 6 } else x)
        else x }
  else t

/-! ### The end of a run (R465, R470) -/

/-- Re-initialisation: the adaptive state of the partition returns to its defaults. -/
def State.reinit (s : State) (kind inst : Nat) : State :=
  if kind = 3 then (s.ffClear inst 0).ffClear inst 1
  else if kind = 4 then s.forEach [4, 5, 6] fun s o => s.setRaw (chKey inst o 0) (rawDefault (chKey inst o 0))
  else s

/-- The result code of an outcome of object 0x2501. -/
def bistCode (o : Nat) : Nat :=
  if o = oPassed then 0 else if o = oFailed then 0x0F5F_0002 else if o = oAborted then 0x0F5F_0001
  else if o = oIncomplete then 0x0F5F_0003 else 0x0F5F_0004

/-- SIGNATURE as it reads after an outcome. -/
def bistSignature (o k sig : Nat) : Nat :=
  if o = oPassed then (Config.expectedSignature k).toNat else if o = oFailed then sig else 0

/-- A run ends with an outcome; `wake` keeps the domains that were woken for it (R467). -/
def State.bistEnd (s : State) (r : BistRun) (o sig : Nat) (wake : Bool) : State :=
  let k := partNumber r.kind r.inst
  let s := s.modBist fun b => { b with
    runs := b.runs.filter fun x => !(x.kind == r.kind && x.inst == r.inst)
    failed := if o = oFailed then (if b.failed.contains k then b.failed else b.failed ++ [k])
      else if o = oPassed then b.failed.filter (· != k) else b.failed
    out := if o = oFailed ∧ classB r.kind ∧ ¬ b.out.contains k then b.out ++ [k] else b.out }
  let s := { s with power := { s.power with
    slots := s.power.slots.filter (· != SlotHolder.bist r.kind r.inst)
    bistWaits := s.power.bistWaits.filter (· != (r.kind, r.inst))
    bistSuspended := s.power.bistSuspended.filter (· != (r.kind, r.inst)) } }
  let s := s.dropTokens (.bist r.kind r.inst)
  let s := if r.active then s.reinit r.kind r.inst else s
  let s := match partDomain r.kind r.inst with
    | some d => if r.active && !wake && !s.power.writes.any (fun w => w.domains.contains d) then s.endTempWake d else s
    | none => s
  let s := if classA r.kind then s.bistView (partStation r.kind r.inst) else s
  let s := s.setOutcome r.kind r.inst o
  let s := if o = oFailed then s.bump (bistKey 0x0B) else if o = oAborted then s.bump (bistKey 0x0C)
    else if o = oDeferred then s.bump (bistKey 0x0D) else s
  let who := leBytes 1 r.kind ++ leBytes 1 r.inst
  let s := if o = oFailed then s.post 0x0D04 9 (who ++ leBytes 8 sig) (some ⟨0xFF51, false⟩)
    else if o = oPassed then s else s.note 0x0D05 9 (who ++ leBytes 1 o)
  let s := match r.who with
    | .selfTest => s.modTest fun t => t.partEnded r o
    | _ => s
  if r.who = .object then
    s.endResult 0x2501 [(5, k), (6, bistSignature o k sig), (7, (Config.expectedSignature k).toNat),
      (8, min (s.now - r.since) (2 ^ 32 - 1))] (bistCode o)
  else s

/-! ### Pools (R469) -/

/-- A sector that runs on a lane of slice `k`, by lanes. -/
def Sector.lanesOn (x : Sector) (k : Nat) : Nat :=
  (if x.slice = some k then 1 else 0) + (x.probes.filter fun p => p.slice == some k).length

def State.lanesOn (s : State) (k : Nat) : Nat := (s.pool.map fun x => x.lanesOn k).sum

/-- A pool partition that takes no new work: failed, or marked for its test. -/
def State.partOut (s : State) (kind inst : Nat) : Bool :=
  s.bist.out.contains (partNumber kind inst)
    || s.bist.runs.any fun r => r.kind == kind && r.inst == inst && r.stage != .tokens

/-- Whether a slice is out of the pool for self-test (Table 11.10). -/
def State.sliceOut (s : State) (k : Nat) : Bool := s.partOut 5 k

/-- Contexts there are: 65,536, less 1,024 for each segment out or marked for test (R26, R469, R470). -/
def State.contextLimit (s : State) : Nat := 65536 - 1024 * ((List.range 64).filter fun j => s.partOut 6 j).length

/-- Command contexts in use (object 0x4200:03): each command fetched and not completed, held event requests among them. -/
def State.contextsUsed (s : State) : Nat := s.nvme.ctxs.length + (s.nvme.ctrls.map fun k => k.aers.length).sum

/-- Whether a marked partition can leave its pool now. -/
def State.poolReady (s : State) (kind inst : Nat) : Bool :=
  if kind = 5 then
    s.lanesOn inst == 0
      && decide (s.minSlices ≤ ((List.range 24).filter fun k => s.domState (48 + k) == 3 && !s.sliceOut k).length)
  else if kind = 6 then s.contextsUsed ≤ s.contextLimit
  else true

/-! ### Progress of a run -/

/-- A partition goes under test: RUN, outcome running, its domain awake, its slot taken. -/
def State.bistStart (s : State) (r : BistRun) : State :=
  let s := s.modRun r.kind r.inst fun r => { r with stage := .running, since := s.now }
  let s := ((s.setOutcome r.kind r.inst oRunning).bump (bistKey 0x0A))
  let s := match partDomain r.kind r.inst with | some d => s.tempWake d | none => s
  if classA r.kind then
    ({ s with power := { s.power with
        slots := s.power.slots ++ [SlotHolder.bist r.kind r.inst]
        bistWaits := s.power.bistWaits.filter (· != (r.kind, r.inst)) } }).bistView (partStation r.kind r.inst)
  else s

/-- Whether a waiting class A partition may start but for its slot: no partition of its station is under test, and none that
stands before it in Table 19.6 waits for its slot. -/
def State.ownTurn (s : State) (kind inst : Nat) : Bool :=
  let i := partStation kind inst
  (s.stationRuns i).all fun x =>
    !x.active && (x.stage != .slot || partNumber kind inst ≤ partNumber x.kind x.inst)

/-- A run has its tokens: it starts, or waits for its slot or its pool. -/
def State.bistGo (s : State) (kind inst : Nat) : State :=
  match s.bistRun kind inst with
  | none => s
  | some r =>
    if classA kind then
      if !s.classAMay (partStation kind inst) then s.bistEnd r oAborted 0 false
      else if s.freeSlots && s.power.spinWaits.isEmpty && s.power.bistSuspended.isEmpty && s.power.bistWaits.isEmpty
          && s.ownTurn kind inst then s.bistStart r
      else
        ({ s with power := { s.power with bistWaits := s.power.bistWaits ++ [(kind, inst)] } }).modRun kind inst
          fun r => { r with stage := .slot }
    else if classB kind then
      let s := s.modRun kind inst fun r => { r with stage := .pool }
      if s.poolReady kind inst && !(s.bist.runs.any fun x => classB x.kind && x.stage == .running) then s.bistStart r else s
    else s.bistStart r

/-- A partition's test is asked for: its tokens in one request. -/
def State.bistAsk (s : State) (kind inst : Nat) (who : BistFor) : State :=
  let s := s.modBist fun b => { b with runs := b.runs ++ [⟨kind, inst, who, .tokens, s.now, false, false⟩] }
  let s := s.askTokens (.bist kind inst) (s.tokensOf kind inst)
  if s.holdsTokens (.bist kind inst) then s.bistGo kind inst else s

/-- A class B partition that waits to leave its pool does so if it can. -/
def State.poolGo (s : State) : State :=
  match s.bist.runs.find? fun r => r.stage == .pool && s.poolReady r.kind r.inst with
  | some r => if s.bist.runs.any fun x => classB x.kind && x.stage == .running then s else s.bistStart r
  | none => s

/-- The next class A partition takes a free slot: the earliest suspended one, else the first waiting one whose turn it is in
its station (R100, R467). -/
def State.bistSlot (s : State) : State :=
  match s.power.bistSuspended with
  | p :: rest =>
    let s := { s with power := { s.power with bistSuspended := rest, slots := s.power.slots ++ [SlotHolder.bist p.1 p.2] } }
    (s.modRun p.1 p.2 fun r => { r with stage := .running }).setOutcome p.1 p.2 oRunning
  | [] =>
    match s.power.bistWaits.find? fun p => s.ownTurn p.1 p.2 with
    | some p =>
      match s.bistRun p.1 p.2 with
      | some r => if s.classAMay (partStation p.1 p.2) then s.bistStart r else s.bistEnd r oAborted 0 false
      | none => s
    | none => s

/-- LOAD, POWER_UP or SPIN_UP of a station (R114, R467): a partition whose patterns run stops at its next block; one that is
suspended or still waits ends at once. -/
def State.bistLeave (s : State) (i : Nat) : State :=
  s.forEach (s.stationRuns i) fun s r =>
    if r.stage = .running then s.modRun r.kind r.inst fun r => { r with stop := true } else s.bistEnd r oAborted 0 true

end Sys2Proof.Machine
end

