-- ==== Sys2Proof/Machine/Places.lean ====
section
/-! DEFINITION. Places on the media (R247 to R249, R255): geometry of the formats, names of places, the way from a block of a namespace
to its place and to its PSA and track. -/

namespace Sys2Proof.Machine

/-! ### Geometry (R247 to R249) -/

/-- Sectors per track of a recording zone (Table 10.2): DAF-2, then DAF-1. -/
def spt (daf2 : Bool) (z : Nat) : Nat :=
  if daf2 then 91 + 4 * z
  else [75, 78, 81, 85, 88, 91, 95, 98, 101, 105, 108, 111, 115, 118, 121, 125, 128, 131, 135, 138, 141, 145, 148, 151, 155,
    158, 161, 165, 168, 171, 175, 178].getD z 0

/-- S(z): the index of the first sector of zone z on a spiral (R248). -/
def zoneStart (daf2 : Bool) (z : Nat) : Nat := 664 * ((List.range z).map (spt daf2)).sum

/-- The zone of a sector index. -/
def zoneOf (daf2 : Bool) (q : Nat) : Nat :=
  (((List.range 32).filter fun z => zoneStart daf2 z ≤ q).foldl max 0)

/-- Track and sector of index q on spiral p (R255). -/
def trackOf (daf2 : Bool) (p q : Nat) : Nat × Nat :=
  let z := zoneOf daf2 q
  let u := q - zoneStart daf2 z
  (8 * (664 * z + u / spt daf2 z) + p, u % spt daf2 z)

/-- Areas of one spiral (Table 10.3): DATA_START, and the bounds of the spare areas. -/
def dataStart (daf2 : Bool) : Nat := if daf2 then 14000 else 12000
def outerStart (daf2 : Bool) : Nat := if daf2 then 166500 else 134000
def outerEnd (daf2 : Bool) : Nat := if daf2 then 178631 else 147161
def innerCount (daf2 : Bool) : Nat := dataStart daf2 - 4000
def outerCount (daf2 : Bool) : Nat := outerEnd daf2 - outerStart daf2
/-- Spare clusters of a layer as made, and LIA record clusters (2,001 to 3,999 of each spiral). -/
def spareTotal (daf2 : Bool) : Nat := 8 * (innerCount daf2 + outerCount daf2)
def liaTotal : Nat := 8 * 1999
/-- Namespace zones per layer (R255). -/
def zpl (daf2 : Bool) : Nat := if daf2 then 305 else 244

/-! ### A side's state -/

def State.side (s : State) (n : Nat) : Side := (findKey (n - 1) s.sides).getD Side.init
def State.modSide (s : State) (n : Nat) (f : Side → Side) : State :=
  { s with sides := putKey (n - 1) (f (s.side n)) Side.init s.sides }
/-- Object 0x3sC1 or 0x3sC2 of the side of NSID `n`. -/
def sideKey (n sub : Nat) : Nat := stKey (nsStation n) (0xC1 + (n - 1) % 2) sub
/-- MEDIUM_KIND of a station. -/
def State.mediumKind (s : State) (i : Nat) : Nat := s.reg (stKey i 0xC0 1)
def State.daf2 (s : State) (i : Nat) : Bool := s.mediumKind i == 4

/-- A Blu-ray Disc is loaded. -/
def State.bdIn (s : State) (i : Nat) : Bool := s.reg (stKey i 0 6) == 1

/-- The name of a place: layer, spiral, physical cluster. -/
def placeName (layer p c : Nat) : Nat := (layer * 8 + p) * 2 ^ 18 + c
def placeSpiral (n : Nat) : Nat := n / 2 ^ 18
def placeCluster (n : Nat) : Nat := n % 2 ^ 18

/-- Clusters used of a table by spiral. -/
def usedOf (l : List (Nat × Nat)) (k : Nat) : Nat := (findKey k l).getD 0

/-! ### From block to place (R255) -/

/-- The place of a cluster of a namespace (LBA / 16), before replacement. -/
def ownPlace (daf2 : Bool) (cl : Nat) : Nat :=
  let z := cl / 4096
  let lc := 4000 * (z % zpl daf2) + cl % 4096
  placeName (z / zpl daf2) (lc % 8) (dataStart daf2 + lc / 8)

/-- A cluster that a self-test reads by its place (R472), as the clusters of a namespace are numbered. -/
def testCluster (place : Nat) : Nat := 2 ^ 41 + place

/-- The place after replacement (R263). -/
def Side.place (d : Side) (own : Nat) : Nat := (findKey own d.repl).getD own

/-- PSA of sector i of a place (Table 10.5). -/
def psaOf (pl i : Nat) : Nat :=
  placeSpiral pl / 8 * 2 ^ 29 + placeSpiral pl % 8 * 2 ^ 26 + (18 * placeCluster pl + i)

/-- The place a PSA lies in, and its sector index on the spiral. -/
def psaIndex (psa : Nat) : Nat := psa % 2 ^ 22
def psaPlace (psa : Nat) : Nat := placeName (psa / 2 ^ 29 % 8) (psa / 2 ^ 26 % 8) (psaIndex psa / 18)
/-- Track and sector of a PSA. -/
def psaTrack (daf2 : Bool) (psa : Nat) : Nat × Nat := trackOf daf2 (psa / 2 ^ 26 % 8) (psaIndex psa)
/-- The PSA of sector `n` of a track on a layer (R255 backwards). -/
def psaAt (daf2 : Bool) (layer t n : Nat) : Nat :=
  let z := min 31 (t / 8 / 664)
  layer * 2 ^ 29 + t % 8 * 2 ^ 26 + (zoneStart daf2 z + (t / 8 - 664 * z) * spt daf2 z + n)
/-- The recording zone of a track. -/
def trackZone (t : Nat) : Nat := min 31 (t / 8 / 664)

/-- The channel rate in bit/s at a recording zone and the spindle's speed (R248): SPT × 41,584 × n / 60, n in 0.01 rpm. -/
def State.channelRate (s : State) (i z : Nat) : Nat := spt (s.daf2 i) z * 41584 * s.reg (stKey i 0x10 2) / 6000

end Sys2Proof.Machine
end

