-- ==== Sys2Proof/Machine/SelfTest.lean ====
section
/-! DEFINITION. The device self-test (R472 to R476, Tables 19.8 and 19.9): its segments per station, loop checks, reads,
yielding to host I/O, and its end. -/

namespace Sys2Proof.Machine

/-! ### Steps of a station -/

/-- Nothing is left of a station's part. -/
def State.stTestDone (s : State) (x : StTest) : Bool :=
  x.parts.isEmpty && x.loops.isEmpty && x.running.isEmpty && !x.spd && x.segs.isEmpty
    && !(s.stationRuns x.st).any fun r => r.who == .selfTest

def State.modStTest (s : State) (i : Nat) (f : StTest → StTest) : State :=
  s.modTest fun t => { t with stations := t.stations.map fun x => if x.st = i then f x else x }

def State.stTest (s : State) (i : Nat) : Option StTest :=
  match s.selfTest with
  | some t => t.stations.find? fun x => x.st == i
  | none => none

/-- What a station takes part in (Tables 5.5 and 19.8). -/
def State.stTestOf (s : State) (i code : Nat) : StTest :=
  let st := s.stState i
  let none_ : StTest := ⟨i, [], [], [], false, s.now, [], false, 0⟩
  if st ≤ stClamped then
    if s.bistState 1 then { none_ with parts := stationParts i } else { none_ with result := 5 }
  else if st ≤ stActive then
    let hs := (s.usedHeads i).filter fun h => s.substate h == hsFollowing || s.substate h == hsWriting
    { none_ with
      loops := hs.map ((·, 0)) ++ hs.map ((·, 1)), spd := true
      segs := if hs.isEmpty then [] else if code = 2 ∧ ¬ s.bdIn i then [3, 5] else [3] }
  else { none_ with result := 3 }

/-- The measurements of a station's running loop checks stop; the checks are to be made again. -/
def State.stopChecks (s : State) (i : Nat) (again : Bool) : State :=
  match s.stTest i with
  | none => s
  | some x =>
    let s := s.forEach x.running fun s p => s.measureStop p.1
    s.modStTest i fun x => { x with running := [], loops := if again then x.running ++ x.loops else x.loops }

/-! ### The end of a test (R475, R476) -/

/-- STATION_RESULT of a station as a test with NVMe result `res` ends: steps not run are SKIPPED (time) at the end of a test
that ran its time, and ABORTED when the test was ended (log entry 71). -/
def State.stationResult (s : State) (x : StTest) (res : Nat) : Nat :=
  if x.result ≠ 0 then x.result
  else if s.stTestDone x then 1
  else if res = 0 ∨ res = 7 then 4 else 6

/-- The test ends: partitions in progress stop, measurements end, results, log entry and record. -/
def State.endTest (s : State) (res : Nat) : State :=
  match s.selfTest with
  | none => s
  | some t =>
    let results := (List.range 8).map fun i =>
      match t.stations.find? fun x => x.st == i with
      | some x => s.stationResult x res
      | none => 0
    let s := s.forEach (t.stations.map (·.st)) fun s i => s.stopChecks i false
    let s := { s with selfTest := none }
    let s := s.modGr fun g => { g with ops := g.ops.filter fun o => o.kind != .test || o.dispatched }
    let s := s.forEach (s.bist.runs.filter fun r => r.who == .selfTest) fun s r =>
      if r.stage = .running then s.modRun r.kind r.inst fun r => { r with stop := true } else s.bistEnd r oAborted 0 false
    let s := s.setRegs ((List.range 8).map fun i => (key 0x2504 (1 + i), results.getD i 0))
    let s := s.setReg (bistKey 7) 0
    let s := s.modNvme fun n => { n with selfTests := ([t.code, res, t.segment, t.nsid] :: n.selfTests).take 20 }
    s.note 0x0D06 9 (leBytes 1 t.code ++ leBytes 1 res ++ leBytes 1 t.segment ++ results.flatMap fun r => leBytes 1 r)

/-! ### Progress -/

/-- A station in MAINT or FAULT takes no further step (Table 19.9). -/
def State.stTestLeave (s : State) (i : Nat) : State :=
  match s.stTest i with
  | none => s
  | some x =>
    if stMaint ≤ s.stState i ∧ ¬ s.stTestDone x then
      ((s.stopChecks i false).modGr fun g => { g with
          ops := g.ops.filter fun o => o.kind != .test || o.station != i || o.dispatched }).modStTest i fun x => { x with
        parts := [], loops := [], spd := false, segs := [], result := if x.result = 0 then 3 else x.result }
    else s

/-- The next partition of a station's segment 1 is asked for. -/
def State.stTestPart (s : State) (i : Nat) : State :=
  match s.stTest i with
  | none => s
  | some x =>
    match x.parts with
    | [] => s
    | p :: rest =>
      if (s.stationRuns i).any fun r => r.who == .selfTest then s
      else if (s.bistRun p.1 p.2).isSome then s
      else if s.classAMay i then (s.modStTest i fun x => { x with parts := rest }).bistAsk p.1 p.2 .selfTest
      else s.modStTest i fun x => { x with parts := [], result := if x.result = 0 then 6 else x.result }

/-- The next pool partition of segment 4 is asked for. -/
def State.testPool (s : State) : State :=
  match s.selfTest with
  | none => s
  | some t =>
    match t.pool with
    | [] => s
    | p :: rest =>
      if s.bist.runs.any fun r => r.who == .selfTest && classB r.kind then s
      else if (s.bistRun p.1 p.2).isSome then s
      else (s.modTest fun t => { t with pool := rest }).bistAsk p.1 p.2 .selfTest

/-! ### Reads (Table 19.8, R473, R474) -/

/-- The clusters that a read segment of a station reads, by NSID: of segment 3 the identity cluster of the present layer on every spiral
of each FOLLOWING head's pass, on Blu-ray Disc the disc information cluster; of segment 5 the identity cluster and every recorded LIA
cluster of every layer of each used side. -/
def State.testReads (s : State) (i g : Nat) : List (Nat × Nat) :=
  let hs := s.usedHeads i
  if g = 3 then
    (hs.filter fun h => hsFollowing ≤ s.substate h).flatMap fun h =>
      if s.bdIn i then [(1 + h, testCluster 0)]
      else (List.range s.beams).map fun b =>
        (1 + h, testCluster (placeName (s.reg (hdKey h 0x13 1)) ((s.reg (hdKey h 0x13 3) + b) % 8) 2000))
  else
    hs.flatMap fun h => (List.range (s.reg (stKey i 0xC0 (2 + h % 2)))).flatMap fun layer =>
      (List.range 8).map (fun p => (1 + h, testCluster (placeName layer p 2000)))
        ++ (List.range (usedOf (s.side (1 + h)).lia layer)).map fun k =>
          (1 + h, testCluster (placeName layer (k % 8) (2001 + k / 8)))

/-- Test reads of a station that are queued or dispatched. -/
def State.readsTest (s : State) (i : Nat) : Bool := s.granary.ops.any fun o => o.kind == .test && o.station == i

/-- The next read segment of a station begins when its loop checks are over, or ends with its last read (R472, R474). -/
def State.stTestRead (s : State) (i : Nat) : State :=
  match s.stTest i with
  | none => s
  | some x =>
    match x.segs with
    | [] => s
    | g :: rest =>
      if x.reading then (if s.readsTest i then s else s.modStTest i fun x => { x with segs := rest, reading := false })
      else if !x.loops.isEmpty || !x.running.isEmpty then s
      else
        (s.modGr fun r => { r with ops := r.ops ++ (s.testReads i g).map fun p => newOp p.1 p.2 .test none }).modStTest i
          fun x => { x with reading := true }

/-- What the end of a step, or the start, sets going; with every step done the test ends. The manual gives no rule for
SELFTEST_PROGRESS: it is a free value. -/
def State.testAdvance (s : State) : State :=
  match s.selfTest with
  | none => s
  | some t =>
    let is := t.stations.map (·.st)
    let s := s.forEach is State.stTestLeave
    let s := (s.forEach is State.stTestPart).testPool
    let s := s.forEach (is ++ is ++ is) State.stTestRead
    let n := s.fresh
    let s := n.2.setReg (bistKey 8) (Config.freeValue n.1 % 256)
    match s.selfTest with
    | none => s
    | some t =>
      if t.stations.all (fun x => s.stTestDone x) && t.pool.isEmpty && !(s.bist.runs.any fun r => r.who == .selfTest) then
        s.endTest (if t.segment = 0 then 0 else 7)
      else s

/-! ### Loop checks (R473, R474) -/

/-- The station has no host media operation in flight or queued. -/
def State.stIdle (s : State) (i : Nat) : Bool :=
  s.reg (stKey i 0 7) == 0
    && !(s.granary.ops.any fun o => !nsSpread o.nsid && nsStation o.nsid == i && o.kind == .demand)

/-- The next batch of loop checks starts: FOC of every FOLLOWING head, then TRK. A head below FOLLOWING is skipped; a loop
that cannot be measured now is tried again after the next idle time. -/
def State.startChecks (s : State) (i : Nat) : State :=
  match s.stTest i with
  | none => s
  | some x =>
    let l := x.loops.foldl (fun m p => min m p.2) 1
    let s := s.modStTest i fun x => { x with loops := x.loops.filter fun p => hsFollowing ≤ s.substate p.1 }
    s.forEach (x.loops.filter fun p => p.2 == l && hsFollowing ≤ s.substate p.1) fun s p =>
      let r := s.measureStart p.1 p.2 0 0 false
      if r.2 = 0 then
        r.1.modStTest i fun x => { x with loops := x.loops.filter (· != p), running := x.running ++ [p] }
      else s

/-- A host operation goes to a station: its loop checks stop (R474). -/
def State.testYield (s : State) (i : Nat) : State := s.stopChecks i true

/-- A step of a station fails in segment `g`. -/
def State.stTestFail (s : State) (i g : Nat) : State :=
  (s.modStTest i fun x => { x with result := 2 }).modTest fun t => t.fails g

/-- A read of a test segment ends (R473): it passes when every sector was delivered without the outer code, rung 4. -/
def State.testReadEnds (s : State) (o : MediaOp) : State :=
  match s.stTest o.station with
  | none => s
  | some x =>
    let whole := (List.range 16).all fun b => o.got.any (·.1 == b)
    let s := if whole && o.lost.isEmpty && !o.outer then s else s.stTestFail o.station (x.segs.headD 3)
    s.testAdvance

/-- The SPD check of a station (R473): |n − TARGET_RPM| within SPEED_TOL for 1 s from the start of the test. -/
def State.testSpeed (s : State) (i : Nat) : State :=
  match s.stTest i with
  | none => s
  | some x =>
    if !x.spd then s
    else if (s.speedTol i).natAbs < (s.speed i - s.target i * 100).natAbs then
      ((s.modStTest i fun x => { x with spd := false }).stTestFail i 2).testAdvance
    else if x.since + 1000000 ≤ s.now then (s.modStTest i fun x => { x with spd := false }).testAdvance
    else s

/-- The idle time of a station passes: its loop checks start (R474). -/
def State.testIdle (s : State) (i : Nat) : State :=
  match s.stTest i with
  | none => s
  | some x => if !x.running.isEmpty || !s.stIdle i || stMaint ≤ s.stState i || x.loops.isEmpty then s.testAdvance else s.startChecks i

/-- Whether a measured loop passes its check (R473), figures in 0.1 Hz, 0.01° and 0.01 dB. -/
def State.checkPasses (s : State) (e l c : Nat) (pm gm : Int) : Bool :=
  decide ((s.reg (bistKey 4) : Int) ≤ pm) && decide ((s.reg (bistKey 5) : Int) ≤ gm)
    && match findKey (e * 16 + l) s.cal.xo with
      | some old => decide (100 * ((c : Int) - old).natAbs ≤ old * s.reg (bistKey 6))
      | none => true

/-- CROSSOVER and PHASE_MARGIN of a head's FOC or TRK loop (Table 19.12). -/
def State.loopFigures (s : State) (e l c : Nat) (pm : Int) : State :=
  if e < 16 ∧ l ≤ 1 then
    s.setRegs [(key (0x2420 + e) (0x27 + l), c), (key (0x2420 + e) (0x29 + l), ofSigned 16 pm)]
  else s

/-- A loop check of the running self-test ends. -/
def State.checkEnds (s : State) (e l : Nat) (out : MeasureEnd) : State :=
  let i := e / 2
  let s := s.modStTest i fun x => { x with running := x.running.filter (· != (e, l)) }
  let s := match out with
    | .done c pm gm _ _ =>
      if s.checkPasses e l c pm gm then
        let s := { s with cal := { s.cal with xo := insertKey (e * 16 + l) c s.cal.xo } }
        s.loopFigures e l c pm
      else s.stTestFail i 2
    | .failed _ => s.stTestFail i 2
  let more : Bool := match s.stTest i with | some x => x.running.isEmpty && !x.loops.isEmpty | none => false
  (if more && s.stIdle i then s.startChecks i else s).testAdvance

/-- Whether a measurement is a loop check of the running self-test. -/
def State.isCheck (s : State) (e l : Nat) : Bool :=
  match s.stTest (e / 2) with
  | some x => x.running.contains (e, l)
  | none => false

/-- How a measurement has ended (R153, R154): by its failure, or with all its points made; none while it runs. A point whose L is 0
has no level: one free value serves. -/
def Meas.outcome (m : Meas) (free : Nat) : Option MeasureEnd :=
  if m.fail ≠ 0 then some (.failed m.fail)
  else if m.points ≤ m.k then some (measureResult free m.resp)
  else none

/-- The result of an ended measurement goes to its object, and to the order or the self-test that started it. -/
def State.measureEnds (s : State) (e : Nat) (m : Meas) (out : MeasureEnd) : State :=
  let l := m.loop
  let (code, data, resp) : Nat × List (Nat × Nat) × Option (List Byte) := match out with
    | .done c pm gm pc r => (0, [(5, l), (6, c), (7, ofSigned 16 pm), (8, ofSigned 16 gm), (9, pc), (0x0A, m.points)], some r)
    | .failed c => (0x0F56_0000 + c, [], none)
  let check := !m.object && isHead e && s.isCheck e l
  let s := s.measureStop e
  let s := match resp with | some r => s.setRaw (engKey e 0x0E 0x0B) r | none => s
  let s := s.endResult (engIx e 0x0E) data code
  if check then s.checkEnds e l out
  else
    let s := match out with | .done c pm _ _ _ => s.loopFigures e l c pm | .failed _ => s
    if m.object then s
    else if s.runs e 0x0B then (if code = 0 then s.orderDone e 0 else s.orderFailed e code) else s

/-- MEASURE_LOOP_DONE (R153, R154, R473): a measurement with its last point made, or failed, ends. -/
def execMeasureLoopDone (e : Nat) (s : State) : Res :=
  .next (match (s.eng e).meas with
    | none => s
    | some m =>
      let n := s.fresh
      match m.outcome (Config.freeValue n.1) with
      | none => s
      | some out => (if m.resp.any fun p => p.2 == (0, 0) then n.2 else s).measureEnds e m out)

/-- SELFTEST_IDLE_EXPIRY (R474). -/
def execSelftestIdleExpiry (st : Nat) (s : State) : Res := .next (s.testIdle st)

/-- SELFTEST_TIME_LIMIT (R475). -/
def execSelftestTimeLimit (s : State) : Res :=
  .next (match s.selfTest with
    | some t => s.endTest (if t.segment = 0 then 0 else 7)
    | none => s)

end Sys2Proof.Machine
end

