-- ==== Sys2Proof/Machine/Wiring.lean ====
section
/-! DEFINITION. Wiring faults (R479 to R484, Tables 20.1 to 20.4): connections, their status and codes, what a measurement
says, and which faults stop a head. -/

namespace Sys2Proof.Machine

/-! ### Connections (Tables 20.2 and 20.3) -/

/-- The status object of connection `n` at station `i` (head `h` for connections below 32). -/
def connKey (i h n : Nat) : Nat := if n < 32 then stKey i (0xE3 + h % 2) (1 + n) else stKey i 0xE5 (1 + (n - 32))
/-- The connection code. -/
def connCode (i h n kind : Nat) : Nat := (if n < 32 then h else i) * 2 ^ 24 + n * 2 ^ 16 + kind

/-- A status that is a fault: not 0, absent or not tested. -/
def isFaultKind (k : Nat) : Bool := k != 0 && k != 9 && k != 10
def State.connFault (s : State) (i h n : Nat) : Bool := isFaultKind (s.reg (connKey i h n))

/-- The connections that a part of the test measures: 0 the station's, 1 head U's, 2 head L's. -/
def State.partConns (s : State) (part : Nat) : List Nat :=
  if part = 0 then (List.range 23).map (32 + ·) |>.filter (· != 42)
  else (List.range 28).filter fun n =>
    !(decide (11 ≤ n) && decide (n ≤ 18) && decide (s.beams ≤ n - 11)) && !(decide (19 ≤ n) && decide (n ≤ 26) && decide (s.beams ≤ n - 19))

/-- Any winding or BEMF of a head's sled has a fault. -/
def State.sledFault (s : State) (h : Nat) : Bool :=
  (if h % 2 = 0 then [43, 44, 45] else [46, 47, 48]).any fun n => s.connFault (h / 2) h n

/-- Whether a fault of a kind stops a head or the station, rather than degrades (Table 20.4). -/
def wireStops (n kind : Nat) : Bool :=
  if n ≤ 2 then kind == 1 || kind == 4 || kind == 5
  else if n ≤ 10 ∨ n = 27 then true
  else if n ≤ 26 then false
  else !(n == 39 || n == 41 || n == 42 || n == 52 || n == 53)

/-- Whether a fault of the station's connections puts the station into FAULT by itself. -/
def stationStops (n : Nat) : Bool := (decide (32 ≤ n) && decide (n ≤ 38)) || n == 40 || (decide (49 ≤ n) && decide (n ≤ 51)) || n == 54

/-- A wiring fault keeps the head in HEAD_FAULT (R483). -/
def State.wiringHolds (s : State) (h : Nat) : Bool :=
  s.sledFault h || (List.range 28).any fun n =>
    s.connFault (h / 2) h n && wireStops n (s.reg (connKey (h / 2) h n))

/-- A WD lane of the head has a fault: the head writes nothing. -/
def State.wdFault (s : State) (h : Nat) : Bool := (List.range 8).any fun b => s.connFault (h / 2) h (19 + b)

/-- Both shock inputs of the station have a fault. -/
def State.shockOut (s : State) (i : Nat) : Bool := s.connFault i 0 52 && s.connFault i 0 53

/-! ### Judging (Table 20.1, R481) -/

def wireKey (i sub : Nat) : Nat := stKey i 0xE6 sub

/-- The bias test of a class A input (R495), in mV: open, short to ground, short to supply, or none. -/
def biasKind (src snk afe : Int) : Nat :=
  if 1100 < src ∧ snk < 100 then 1
  else if src < 20 ∧ snk < 20 then 2
  else if afe - 20 < src ∧ afe - 20 < snk then 3
  else 0

/-- Whether a measurement is one that a connection's step makes (Table 20.1). -/
def wireFits (n : Nat) : WireMeas → Bool
  | .coil _ _ => n ≤ 2
  | .limit _ _ _ => n == 3 || (19 ≤ n && n ≤ 26)
  | .dark _ _ _ _ => 4 ≤ n && n ≤ 9
  | .bias _ _ _ => n == 10 || (35 ≤ n && n ≤ 38) || n == 45 || n == 48 || (51 ≤ n && n ≤ 54)
  | .legs _ _ => 11 ≤ n && n ≤ 18
  | .link _ _ => n == 27
  | .phase _ => 32 ≤ n && n ≤ 34
  | .pad _ _ _ => n == 39 || n == 40
  | .hall _ => n == 41
  | .winding _ _ => n == 43 || n == 44 || n == 46 || n == 47 || n == 49 || n == 50

/-- The pairs of phases a phase belongs to, of UV, VW, WU. -/
def phasePairs (p : Nat) : List Nat := if p = 0 then [0, 2] else if p = 1 then [0, 1] else [1, 2]

/-- A spindle phase (S4): open where both its pairs carry no current, shorted where a pulse of one reached I_LIMIT in the short time. -/
def State.phaseJudge (s : State) (i p : Nat) (l : List (Nat × Nat)) : Nat × Nat :=
  let of_ := fun (j : Nat) => [l.getD (2 * j) (0, 0), l.getD (2 * j + 1) (0, 0)]
  let dead := fun (j : Nat) => (of_ j).all fun x => 20 * x.1 ≤ s.reg (stKey i 0x11 7)
  let short := fun (j : Nat) => (of_ j).any fun x => 0 < x.2 && x.2 ≤ s.reg (stKey i 0xE6 0x0A)
  let top := (((phasePairs p).flatMap of_).map (·.1)).foldl max 0 * 1000
  (if (phasePairs p).all dead then 1 else if (phasePairs p).any short then 4 else 0, top)

/-- HOLD_CURRENT of a winding's axis in mA: a sled's, or the clamp's. -/
def State.windingHold (s : State) (i n : Nat) : Nat :=
  if n ≤ 44 then s.reg (sledKey (2 * i) 5) else if n ≤ 47 then s.reg (sledKey (2 * i + 1) 5) else s.reg (stKey i 0x22 2)

/-- A coil's resistance in mΩ from its return pair (R497): I is ISx_N over 1 Ω, V is 10 ISx_P − ISx_N. -/
def coilR (p n : Int) : Nat := ((10 * p - n).natAbs * 1000) / n.natAbs

/-- The fault kind of a measurement of connection `n` and its measured value. -/
def State.wireJudge (s : State) (i n : Nat) (m : WireMeas) : Nat × Nat :=
  match m with
  | .pad hi lo v => (if !hi then 2 else if lo then 3 else 0, v)
  | .limit hi lo v => (if hi then 2 else if lo then 3 else 0, v)
  | .coil p c =>
    let cmd := s.reg (wireKey i 1) * 1000
    let r := coilR p c
    if c.natAbs * 100 < cmd * s.reg (wireKey i 2) then (1, c.natAbs)
    else if r < s.reg (wireKey i 3) then (4, r)
    else if c < 0 then (5, r)
    else if r < s.reg (wireKey i 4) ∨ s.reg (wireKey i 5) < r then (6, r)
    else (0, r)
  | .winding a r =>
    if a.natAbs < s.windingHold i n * 10 * s.reg (wireKey i 7) then (1, r) else if r < s.reg (wireKey i 8) then (4, r) else (0, r)
  | .bias a b c => (biasKind a b c, ofSigned 32 a)
  | .dark a b c d =>
    let k := biasKind a b c
    if k ≠ 0 then (k, ofSigned 32 a) else if s.reg (wireKey i 6) < d.natAbs then (7, ofSigned 32 d) else (0, ofSigned 32 d)
  | .legs p n => if 45 ≤ p ∨ 45 ≤ n then (1, max p n) else if p ≤ 5 ∨ n ≤ 5 then (2, min p n) else (0, p)
  | .hall c => (if hallValid c then 0 else 8, c)
  | .phase l => s.phaseJudge i (n - 32) l
  | .link up ok => (if up && ok then 0 else 11, 0)

/-- What a fault does beyond HEAD_FAULT and the station's FAULT (Table 20.4). -/
def State.wireEffect (s : State) (i h n kind : Nat) : State :=
  let bit := fun (b : Nat) => s.setRegBit (stKey i 0xE0 4) b true
  if n ≤ 2 then
    if kind = 5 then s.setRegBit (hdKey h 0x0F 2) n true
    else if kind = 6 then bit (h % 2) else s
  else if 11 ≤ n ∧ n ≤ 18 then s.setRegBit (chKey h 0 5) (n - 11) true
  else if 43 ≤ n ∧ n ≤ 45 then bit 3
  else if 46 ≤ n ∧ n ≤ 48 then bit 4
  else if n = 52 then bit 5
  else if n = 53 then bit 6
  else s

/-- A connection fault is reported: record 0x0E01 with EMCY 0xFF60 where it stops a head or the station, else 0x0E02. -/
def State.wireReport (s : State) (i h n kind v : Nat) : State :=
  let src := if n < 32 then 0x40 + h else 0x20 + i
  let pay := leBytes 4 (connCode i h n kind) ++ leBytes 4 v
  if wireStops n kind then s.post 0x0E01 src pay (some ⟨0xFF60, true⟩) else s.note 0x0E02 src pay

end Sys2Proof.Machine
end

