-- ==== Sys2Proof/Machine/Nvme.lean ====
section
/-! DEFINITION. What the NVMe commands do (chapter 13): reads, writes, flushes, zones, queues, aborts, shutdown and
controller reset. -/

namespace Sys2Proof.Machine

/-- Invalid Namespace or Format. -/
def cplInvalidNs : Cpl := cplFail .invalidNamespaceOrFormat true

/-- The state of the station behind a namespace lets its media be used (Table 5.5): READY or ACTIVE. A spread volume needs k
reachable columns (R410). -/
def State.mediaReady (s : State) (nsid : Nat) : Bool :=
  (nsSpread nsid && s.spreadReady nsid) || !nsSpread nsid && (let st := s.stState (nsStation nsid); st == stReady || st == stActive)

/-- The namespace as Table 5.5 lets media commands reach it: attached, and its station neither OFF, EMPTY nor CLAMPED. -/
def State.nsIo (s : State) (nsid : Nat) : Option Ns :=
  match s.ns nsid with
  | some n => if nsSpread nsid || decide (stSpinning ≤ s.stState (nsStation nsid)) then some n else none
  | none => none

/-- New media operations of the namespace are dispatched (R121 stops them), and its tables stand (Table 15.4). -/
def State.mediaOpen (s : State) (nsid : Nat) : Bool :=
  s.mediaReady nsid && !s.rebuilding nsid && (nsSpread nsid || !(s.stn (nsStation nsid)).noDispatch)

/-- Count hits or misses of commands, for the device and for the station (R358, R359). -/
def State.countHit (s : State) (nsid : Nat) (hit : Bool) : State :=
  let j := if hit then 0 else 1
  let s := s.bump64 (grKey (1 + j))
  if nsSpread nsid then s else s.bump64 (key (0x4420 + nsStation nsid) (3 + j))

/-! ### Reads (R334, R340, R345, R358, R359) -/

/-- A read of a context `q` (R330, R331, R334, R345, R358, R359, Table 5.5): its blocks above the write pointer do not touch Granary. A
block that an earlier write has yet to stage is taken from that write (R340), and needs no media operation. -/
def State.doRead (s : State) (q nsid lba k : Nat) (pi : PiArgs) : State :=
  match s.nsIo nsid with
  | none => s.complete q cplInvalidNs
  | some n =>
    if k = 0 ∨ 256 < k then s.complete q (cplFail .invalidField true)
    else if n.nsze < lba + k then (s.errorEntry nsid lba).complete q (cplFail .lbaOutOfRange true)
    else if n.zoned ∧ lba / n.zsize ≠ (lba + k - 1) / n.zsize then s.complete q (cplFail .zoneBoundary true)
    else if (clustersOf lba k).any fun cl => s.poisoned nsid lba k cl then
      ((s.modNvme fun v => { v with mediaErrors := v.mediaErrors + 1 }).errorEntry nsid lba).complete q
        (cplFail .unrecoveredRead false)
    else
      let wait := fun (s : State) => (s.modCtx q fun x => { x with op := .read nsid lba k [] pi }).serveRead q
      let misses := s.readMisses n q lba k []
      if s.rebuilding nsid then (s.errorEntry nsid lba).complete q cplNotReady
      else if misses.isEmpty then
        let below := (clustersOf lba k).filter fun cl => (List.range 16).any fun b =>
          lba ≤ 16 * cl + b && 16 * cl + b < lba + k && !n.above (16 * cl + b)
        let s := if below.isEmpty then s else s.countHit nsid true
        wait (s.forEach (below.filterMap fun cl => s.line nsid cl) fun s l => s.hitLine l)
      else if !s.mediaOpen nsid then (s.errorEntry nsid lba).complete q cplNotReady
      else
        let s := s.countHit nsid false
        let s := s.forEach misses fun s cl =>
          if nsSpread nsid then s.wantCluster nsid cl else (s.queueFill nsid cl .demand).prefetchAfter nsid cl
        wait s

/-! ### Writes (R331, R333, R340, R364) -/

/-- Why a zoned write fails as the write pointer now stands (R333), if it does. -/
def Ns.writeRefused (n : Ns) (lba k : Nat) (append : Bool) : Option Status :=
  let z := n.zone (lba / n.zsize)
  let a := if append then z.wp else lba % n.zsize
  if z.state = 4 then some .zoneFull
  else if z.state = 5 then some .zoneReadOnly
  else if append ∧ lba % n.zsize ≠ 0 then some .invalidField
  else if !append ∧ lba % n.zsize ≠ z.wp then some .zoneInvalidWrite
  else if n.zcap (lba / n.zsize) < a + k then some .zoneBoundary
  else if !z.isOpen ∧ 16 ≤ n.openZones then some .tooManyOpenZones
  else none

/-- The zone after an accepted write of `k` blocks. -/
def Ns.advance (n : Ns) (zi k : Nat) : Ns :=
  let z := n.zone zi
  let w := z.wp + k
  n.setZone { z with wp := w, state := if n.zcap zi ≤ w then 4 else if z.isOpen then z.state else 1 }

/-- Whether an earlier write waits for lines in the same zone (R364 step 2). -/
def State.zoneBusy (s : State) (q nsid zi : Nat) : Bool :=
  s.nvme.ctxs.any fun x => x.seq < q && match x.op with
    | .write n a _ _ _ => n == nsid && a / (16 * zoneClusters n) == zi
    | _ => false

/-- A write completes with its data staged; with FUA it becomes the flush of its scope (R342). -/
def State.writeDone (s : State) (q nsid first k : Nat) (zoned fua append : Bool) : State :=
  let dw := if append then first else 0
  let s := s.modNvme fun v => { v with blocksWritten := v.blocksWritten + k }
  if fua then
    let c := if zoned then Scope.zone nsid (first / (16 * zoneClusters nsid))
      else Scope.clusters nsid (first / 16) ((first + k - 1) / 16 + 1 - first / 16)
    let s := if nsSpread nsid then s.spreadFlush [nsid] (some (first / (16 * zoneClusters nsid))) else s
    (s.modCtx q fun x => { x with op := .flush c (q + 1) dw }).serveFlush q
  else s.complete q (cplOk (dw % 2 ^ 32) (dw / 2 ^ 32))

/-- Protection information as it is staged: none in LBA format 0 (R353); a Zone Append of type 1, whose reference tags count from its
zone's start, has them counted from the LBA it is given (PRESUMED, as the Zoned Namespace Command Set remaps them, log entry 121). -/
def State.placedPi (s : State) (n : Ns) (append : Bool) (first : Nat) (d : List Block) : List Block :=
  if n.lbaf ≠ 1 then d.map fun b => { b with pi := 0 }
  else if append ∧ s.reg (nvKey 6) = 1 then d.zipIdx.map fun p => blockRef p.1 (first + p.2)
  else d

/-- Whether a write waits for its lines, or behind one of its zone that does (R364 step 2). -/
def State.waitsForLines (s : State) (q nsid lba : Nat) (d : List Block) (append : Bool) : Bool :=
  match s.ns nsid with
  | some n =>
    let first := if append then lba + (n.zone (lba / n.zsize)).wp else lba
    (n.zoned && s.zoneBusy q nsid (lba / n.zsize)) || !s.reservable nsid (clustersOf first d.length)
  | none => false

/-- Try to accept and stage the write of a context: its lines must be reservable and its turn come. -/
def State.tryWrite (s : State) (q : Nat) : State :=
  match s.ctx q with
  | some x =>
    match x.op with
    | .write nsid lba d fua append =>
      match s.ns nsid with
      | none => s.complete q cplInvalidNs
      | some n =>
        let k := d.length
        if n.zoned ∧ s.zoneBusy q nsid (lba / n.zsize) then s
        else
          match (if x.ctrl ≠ ringCtrl ∧ s.claimed nsid (lba / n.zsize) then some .zoneReadOnly
              else if n.zoned then n.writeRefused lba k append else none : Option Status) with
          | some e => s.complete q (cplFail e true)
          | none =>
            let first := if append then lba + (n.zone (lba / n.zsize)).wp else lba
            let cls := clustersOf first k
            if cls.any (fun cl => s.earlierRead q nsid cl || s.earlierWrite q nsid cl) then s
            else if s.reservable nsid cls then
              let s := if n.zoned then s.modNs nsid fun n => n.advance (lba / n.zsize) k else s
              let s := s.stage q nsid first (s.placedPi n append first d)
              (s.writeDone q nsid first k n.zoned fua append).pumpReads
            else s
    | _ => s
  | none => s

/-- A Write or Zone Append (R333, R336, R364, Table 5.5). -/
def State.doWrite (s : State) (q nsid lba : Nat) (d : List Block) (fua append : Bool) (pi : PiArgs) : State :=
  match s.nsIo nsid with
  | none => s.complete q cplInvalidNs
  | some n =>
    if d = [] ∨ 256 < d.length ∨ (append ∧ !n.zoned) then
      s.complete q (cplFail (if append && !n.zoned then .invalidOpcode else .invalidField) true)
    else if n.nsze < lba + d.length then s.complete q (cplFail .lbaOutOfRange true)
    else if n.lbaf = 1 ∧ ¬ pi.act ∧ piVerifyAll pi (s.reg (nvKey 6)) d ≠ .ok then
      s.complete q (cplFail (piVerifyAll pi (s.reg (nvKey 6)) d).status true)
    else if nsSpread nsid ∧ n.lbaf = 1 ∧ ¬ pi.act ∧ ¬ append ∧ s.reg (nvKey 6) ≤ 2
        ∧ (d.zipIdx.any fun p => piField p.1.pi 10 6 != (lba + p.2) % 2 ^ 48) then s.complete q (cplFail .refTagCheck true)
    else if !s.mediaOpen nsid then s.complete q cplNotReady
    else
      let wce := match s.ctx q with
        | some x => match s.ctrl x.ctrl with | some c => c.feature 6 % 2 == 1 | none => true
        | none => true
      let d := if n.lbaf = 1 ∧ pi.act then piGenerate pi (s.reg (nvKey 6)) d else d
      let s := (s.modCtx q fun x => { x with op := .write nsid lba d (fua || !wce) append }).tryWrite q
      match s.ctx q with
      | some x =>
        match x.op with
        | .write _ _ _ _ _ =>
          if s.waitsForLines q nsid lba d append then
            let s := s.bump (grKey 0x0A)
            if nsSpread nsid then s else s.bump (key (0x4420 + nsStation nsid) 5)
          else s
        | _ => s
      | none => s

/-! ### Flush (R343, R344) -/

def State.doFlush (s : State) (q nsid : Nat) : State :=
  let all := nsid = 0xFFFF_FFFF
  let ns := if all then s.nvme.namespaces.map (·.nsid) else [nsid]
  if !all ∧ (s.nsIo nsid).isNone then s.complete q cplInvalidNs
  else if ns.any fun n => (!s.mediaReady n || s.rebuilding n) && (!all || s.granary.lines.any fun l => l.nsid == n && l.isDirty) then
    (s.bump (nvKey 0x0A)).complete q cplNotReady
  else ((s.spreadFlush ns none).modCtx q fun x => { x with op := .flush (.all ns) q 0 }).serveFlush q

/-- A covered cluster cannot be placed, or lies in a read-only layer (R344): flushes that cover it complete with Write
Fault, and an Error Information entry gives the first LBA. -/
def State.failFlushes (s : State) (nsid cl : Nat) : State :=
  s.forEach s.nvme.ctxs fun s x =>
    match x.op with
    | .flush c _ _ =>
      if c.covers nsid cl then
        let s := match c with | .all _ => s.bump (nvKey 0x0A) | _ => s
        (s.errorEntry nsid (16 * cl)).complete x.seq (cplFail .writeFault false)
      else s
    | _ => s

/-! ### Zone management (R332) -/

inductive ZoneAct where
  | open_ | close | finish
  deriving DecidableEq, Repr

/-- One action on one zone: the zone after it, or the status it fails with. -/
def Ns.zoneAct (n : Ns) (a : ZoneAct) (zi : Nat) : Except Status Ns :=
  let z := n.zone zi
  match a with
  | .open_ =>
    if z.state = 4 ∨ z.state = 5 then .error .invalidZoneTransition
    else if z.isOpen then .ok (n.setZone { z with state := 2 })
    else if 16 ≤ n.openZones then .error .tooManyOpenZones
    else .ok (n.setZone { z with state := 2 })
  | .close =>
    if z.isOpen ∨ z.state = 3 then .ok (n.setZone { z with state := 3 }) else .error .invalidZoneTransition
  | .finish =>
    if z.state = 5 then .error .invalidZoneTransition
    else .ok { n.setZone { z with state := 4, wp := n.zcap zi } with lia := n.lia || n.daf }

/-- The zones that Select All of an action permits. -/
def Ns.zonesFor (n : Ns) (a : ZoneAct) : List Nat :=
  let ok := fun (z : Zone) => match a with
    | .open_ => z.state == 3
    | .close => z.isOpen
    | .finish => z.isOpen || z.state == 3
  (n.zones.filter ok).map (·.idx)

def State.zoneManage (s : State) (q nsid lba : Nat) (a : ZoneAct) (everyZone : Bool) : State :=
  match s.nsIo nsid with
  | none => s.complete q cplInvalidNs
  | some n =>
    if !n.zoned then s.complete q (cplFail .invalidOpcode true)
    else if !s.mediaOpen nsid then s.complete q cplNotReady
    else if !everyZone ∧ n.nsze ≤ lba then s.complete q (cplFail .lbaOutOfRange true)
    else if !everyZone ∧ lba % n.zsize ≠ 0 then s.complete q (cplFail .invalidField true)
    else
      let zs := if everyZone then (n.zonesFor a).filter (fun z => !s.claimed nsid z) else [lba / n.zsize]
      let r := if zs.any (s.claimed nsid) then (.error .zoneReadOnly : Except Status Ns) else zs.foldl (fun r z => match r with | .ok n => n.zoneAct a z | .error e => .error e)
        (.ok n : Except Status Ns)
      match r with
      | .error e => s.complete q (cplFail e true)
      | .ok n' =>
        let s := s.modNs nsid fun _ => n'
        match a with
        | .finish =>
          let c := match zs with | [z] => Scope.zone nsid z | _ => Scope.all [nsid]
          let s := if nsSpread nsid then s.spreadFlush [nsid] (match zs with | [z] => some z | _ => none) else s
          (s.modCtx q fun x => { x with op := .flush c q 0 }).serveFlush q
        | _ => s.complete q (cplOk 0 0)

/-- Reset and Offline fail (R332). -/
def State.zoneRefuse (s : State) (q nsid : Nat) : State :=
  match s.ns nsid with
  | none => s.complete q cplInvalidNs
  | some n => s.complete q (cplFail (if n.zoned then .invalidZoneTransition else .invalidOpcode) true)

/-- Report Zones from the zone of `lba` (R332): filter 0 all, otherwise one state; a partial report counts the descriptors
it returns, another one all that match. -/
def State.zoneReport (s : State) (x : Ctx) (nsid lba filter limit : Nat) (part : Bool) : State :=
  match s.ns nsid with
  | none => s.complete x.seq cplInvalidNs
  | some n =>
    if !n.zoned then s.complete x.seq (cplFail .invalidOpcode true)
    else if n.nsze ≤ lba then s.complete x.seq (cplFail .lbaOutOfRange true)
    else if s.rebuilding nsid then s.complete x.seq cplNotReady
    else if 7 < filter then s.complete x.seq (cplFail .invalidField true)
    else
      let zs := ((List.range (n.zoneCount - lba / n.zsize)).map fun j => n.zone (lba / n.zsize + j)).filter fun z =>
        filter == 0 || z.state + 1 == filter
      let shown := zs.take limit
      (s.emit (.fields x.ctrl x.sq x.cid 0x7A ((if part then shown.length else zs.length) ::
        shown.flatMap fun z => [z.idx * n.zsize, z.state, n.zcap z.idx, z.idx * n.zsize + z.wp]))).complete x.seq (cplOk 0 0)

/-! ### Queues, abort, deletion (R338, R346) -/

/-- Whether a command has been dispatched to a station (R28, R346). -/
def State.isDispatched (s : State) (x : Ctx) : Bool :=
  match x.op with
  | .read n lba k got _ => (clustersOf lba k).any fun cl => match s.op n cl with
      | some o => o.dispatched && (List.range 16).any fun b =>
          lba ≤ 16 * cl + b && 16 * cl + b < lba + k && !got.any (·.1 == 16 * cl + b)
      | none => false
  | .pin id => s.granary.ops.any fun o => o.dispatched && s.granary.pins.any fun p => p.id == id && p.covers o.nsid o.cluster
  | .fetched | .write _ _ _ _ _ | .sqDelete _ => false
  | _ => true

/-- Queue deletions whose dispatched commands have all completed (R346). -/
def State.pumpDeletes (s : State) : State :=
  s.forEach s.nvme.ctxs fun s x =>
    match x.op with
    | .sqDelete sq =>
      if s.nvme.ctxs.any fun y => y.ctrl == x.ctrl && y.sq == sq && y.dropped then s
      else (s.modCtrl x.ctrl fun c => { c with sqs := c.sqs.filter fun p => p.1 != sq }).complete x.seq (cplOk 0 0)
    | _ => s

/-! ### Controller reset (R326) -/

/-- A controller's undispatched commands go with no completion and the completions of its others will be dropped. -/
def State.discardCommands (s : State) (c : Nat) : State :=
  let gone := s.nvme.ctxs.filter fun x => x.ctrl == c && !s.isDispatched x
  let s := s.modNvme fun n => { n with
    ctxs := (n.ctxs.filter fun x => !gone.any (·.seq == x.seq)).map fun x => if x.ctrl = c then { x with dropped := true } else x }
  s.addReg 32 (nvKey 0x0B) gone.length

/-- Every writing beam finishes its cluster in progress and closes its gate (R318, R326 step 4). -/
def State.stopWrites (s : State) : State :=
  s.forEach (List.range 16) fun s h =>
    if s.substate h = hsWriting then s.modHd h fun d => { d with
      band := match d.band with | some b => some { b with stopping := true } | none => none } else s

/-- A controller reset, on everything but the BAR2 window (R326). -/
def State.ctrlReset (s : State) (c : Nat) : State :=
  let s := (s.discardCommands c).endTest 2
  let s := s.modCtrl c fun k =>
    { k with en := false, rdy := false, shst := 0, fetching := false, granted := 0, sqs := [], cqs := [], features := []
             aers := [], waiting := [], masked := [], cc := 0, resetWaits := false }
  let s := s.stopWrites
  let r := s.discardStaged
  let s := r.1.setReg (nvKey 0x0F) 2
  (s.note 0x0801 0 (leBytes 1 2 ++ leBytes 4 r.2)).pump.pumpDeletes

/-! ### Activation without reset (R348) -/

/-- Whether a dispatched command still runs (step 3). -/
def State.draining (s : State) (q : Nat) : Bool := s.nvme.ctxs.any fun x => x.seq != q && s.isDispatched x

/-- The Firmware Commit of action 3 that is under way. -/
def State.activation (s : State) : Option (Nat × Nat) :=
  s.nvme.ctxs.findSome? fun x => match x.op with | .activate slot => some (x.seq, slot) | _ => none

/-- Fetching resumes; controller resets that came meanwhile are carried out (R348, the text after step 6). -/
def State.activationOver (s : State) : State :=
  let s := s.modNvme fun n => { n with activating := none }
  (s.forEach (s.nvme.ctrls.filter (·.resetWaits)) fun s k => s.ctrlReset k.id).pump.pumpDeletes

/-- Steps 5 and 6: the new image runs, the stores are rewritten where it changes them, the record is set, and the commit
completes. -/
def State.activate (s : State) (q slot : Nat) : State :=
  match s.nor.banks.getD (slot - 1) none with
  | none => (s.complete q (cplFail .invalidImage true)).activationOver
  | some f =>
    let old := match s.sec.running with | some g => g.release | none => 0
    let s := (s.runImage f).measureImage
    let up := (List.range s.part.stations).filter fun i => s.stState i != stOff
    let s := { s with stores := { s.stores with loaded := up }, nor := { s.nor with bankSelect := slot - 1 } }
    let s := ((s.setReg (key 0x2100 4) (slot - 1)).bump (nvKey 0x10)).note 0x0802 0 (leBytes 4 old ++ leBytes 4 f.release)
    (s.raiseRollback f).complete q (cplOk 0 0) |>.activationOver

/-- The activation goes on once nothing dispatched is left. -/
def State.pumpActivation (s : State) : State :=
  match s.activation with
  | some (q, slot) => if s.draining q then s else s.activate q slot
  | none => s

/-- What waits goes on. -/
def State.settle (s : State) : State := s.refetch.pump.pumpDeletes.pumpActivation

def State.doAbort (s : State) (q c sq target : Nat) : State :=
  match s.nvme.ctxs.find? (fun x => x.ctrl == c && x.sq == sq && x.cid == target && x.seq != q) with
  | some x =>
    if s.isDispatched x then (s.bump (nvKey 0x0E)).complete q (cplOk 1 0)
    else
      let s := s.complete x.seq (cplFail .commandAbortRequested false)
      ((s.bump (nvKey 0x0D)).complete q (cplOk 0 0)).settle
  | none => (s.bump (nvKey 0x0E)).complete q (cplOk 1 0)

def State.deleteSq (s : State) (q c sq : Nat) : State :=
  match s.ctrl c with
  | none => s
  | some k =>
    if c ≠ 0 then s.complete q (cplFail .invalidOpcode true)
    else if !k.sqs.any (·.1 == sq) then s.complete q (cplFail .invalidQueue true)
    else
      let s := s.forEach (s.nvme.ctxs.filter fun x => x.ctrl == c && x.sq == sq) fun s x =>
        if s.isDispatched x then s.modCtx x.seq fun x => { x with dropped := true }
        else s.complete x.seq (cplFail .abortedSqDeletion false)
      (s.modCtx q fun x => { x with op := .sqDelete sq }).settle

/-! ### Shutdown and teardown (R324, R325) -/

/-- A fabric controller is torn down (Table 13.3, third row). -/
def State.tearDown (s : State) (c : Nat) : State :=
  match s.ctrl c with
  | none => s
  | some k =>
    if c = 0 then s
    else
      let s := (s.discardCommands c).setReg (nvKey 0x0F) 3
      let qps := 1 + k.sqs.length
      let s := s.setReg (key 0x4100 0x16) (s.reg (key 0x4100 0x16) - qps)
      (s.modNvme fun n => { n with ctrls := n.ctrls.filter fun x => x.id != c }).settle

/-- A normal shutdown (Table 13.3, fourth row). -/
def State.shutdown (s : State) (c : Nat) : State :=
  match s.ctrl c with
  | none => s
  | some k =>
    if !k.en || k.shst != 0 then s
    else
      let s := (s.modCtrl c fun k => { k with fetching := false, shst := 1 }).setReg (nvKey 0x0F) 4
      let q := s.nvme.seq
      let s := s.modNvme fun n => { n with
        seq := q + 1, ctxs := n.ctxs ++ [⟨q, c, 0, 0, .shutdown (n.namespaces.map (·.nsid)) q, true⟩] }
      (s.spreadFlush (s.nvme.namespaces.map (·.nsid)) none).serveShutdown q

/-- CC.EN is set: fetching begins, CSTS.RDY follows once the device is in RUN (R327). -/
def State.enableCtrl (s : State) (c : Nat) : State :=
  s.modCtrl c fun k => { k with en := true, fetching := true, rdy := s.powerState == psRun, shst := 0, cc := k.cc / 2 * 2 + 1 }

end Sys2Proof.Machine
end

