-- ==== Sys2Proof/Machine/NvmeCmds.lean ====
section
/-! DEFINITION. The NVMe commands as the hosts send them (Table 13.5): each acts when it is the fetched command whose
turn it is in fetch order (R27), on an I/O queue or on the admin queue as its set says. -/

namespace Sys2Proof.Machine

/-- An I/O command: it runs when its turn has come. -/
def State.ioCmd (s : State) (c cid : Nat) (f : State → Ctx → State) : Res :=
  .next (match s.turn c cid with
    | some x => if x.sq = 0 then s else f s x
    | none => s)

/-- An admin command. -/
def State.adminCmd (s : State) (c cid : Nat) (f : State → Ctx → State) : Res :=
  .next (match s.turn c cid with
    | some x => if x.sq = 0 then f s x else s
    | none => s)

/-! ### Fetching (R26, R27, R339) -/

/-- Whether a controller fetches from a queue now: its admin queue, or an I/O queue it has. A fabric controller takes
Fabrics commands on its admin queue before CC.EN is set (R510). -/
def State.fetches (s : State) (c sq : Nat) : Bool :=
  match s.ctrl c with
  | none => false
  | some k => s.nvme.activating.isNone && s.contextsUsed < s.contextLimit
      && ((k.fetching && (sq == 0 || k.sqs.any (·.1 == sq))) || (c != 0 && sq == 0 && !k.en))

def State.fetch (s : State) (c sq cid : Nat) : State :=
  let q := s.nvme.seq
  let s := s.modNvme fun n => { n with seq := q + 1, ctxs := n.ctxs ++ [⟨q, c, sq, cid, .fetched, false⟩] }
  s.setReg (nvKey 4) (max (s.reg (nvKey 4)) s.contextsUsed)

/-- COMMAND_FETCH (R26). -/
def execCommandFetch (c sq cid : Nat) (s : State) : Res := .next (if s.fetches c sq then s.fetch c sq cid else s)

/-! ### Controllers (R323 to R327) -/

/-- CC_EN_SET (R327). -/
def execCcEnSet (c : Nat) (s : State) : Res :=
  .next (match s.ctrl c with
    | some k => if k.en then s else s.enableCtrl c
    | none => s)

/-- NORMAL_SHUTDOWN (R325). -/
def execNormalShutdown (c : Nat) (s : State) : Res := .next (s.shutdown c)

/-- KEEP_ALIVE_EXPIRY (R324): a controller with a keep-alive timer. -/
def execKeepAliveExpiry (c : Nat) (s : State) : Res :=
  .next (match s.ctrl c with
    | some k => if k.feature 0x0F = 0 then s else s.tearDown c
    | none => s)

/-- DISCONNECT (R325). -/
def execDisconnect (c : Nat) (s : State) : Res := .next (s.tearDown c)

/-- Fabric controllers there are. -/
def State.fabricCtrls (s : State) : Nat := (s.nvme.ctrls.filter fun k => k.id != 0).length

def freshCtrl (c : Nat) : Ctrl := ⟨c, false, false, 0, false, 0, [], [], [], [], [], [], [], [], false, 0⟩

/-- CONNECT (R323): controller `c` is created with its admin queue, or an I/O queue of it within the pairs granted. -/
def execConnect (c : Nat) (req : ConnectReq) (s : State) : Res :=
  let bad : State := s.emit (.completion c 0 0 (cplFail .connectInvalid true))
  .next (match req, s.ctrl c with
    | .admin, none =>
      if c = 0 ∨ s.reg (key 0x4100 0x15) ≤ s.fabricCtrls ∨ 4096 ≤ s.reg (key 0x4100 0x16) then bad
      else
        let s := s.modNvme fun n => { n with ctrls := n.ctrls ++ [freshCtrl c] }
        (s.addReg 16 (key 0x4100 0x16) 1).emit (.completion c 0 0 (cplOk c 0))
    | .admin, some _ => bad
    | .io _, none => bad
    | .io q, some k =>
      if c = 0 ∨ !k.en ∨ q = 0 ∨ k.sqs.any (·.1 == q) ∨ k.granted < q ∨ 4096 ≤ s.reg (key 0x4100 0x16) then bad
      else
        let s := s.modCtrl c fun k => { k with sqs := k.sqs ++ [(q, q)], cqs := k.cqs ++ [q] }
        (s.addReg 16 (key 0x4100 0x16) 1).emit (.completion c q 0 (cplOk c 0)))

/-- CSTS of a controller: RDY waits for the steps of a controller reset (R327), the stations that still finish a cluster and its own
dispatched commands. -/
def State.csts (s : State) (k : Ctrl) : Nat :=
  let ending := (List.range 16).any (fun h => match (s.hd h).band with | some b => b.stopping | none => false)
    || s.nvme.ctxs.any fun x => x.ctrl == k.id && x.dropped
  (if k.rdy && !ending then 1 else 0) + 4 * k.shst + (if s.hbm.cfs then 2 else 0) + (if s.nvme.activating.isSome then 32 else 0)

/-- CAP: MQES 16,383 and TO 12 (R327, R338); what the manual does not list is open. -/
def capValue : Nat := 16383 + Config.capOther % 256 * 2 ^ 16 + 12 * 2 ^ 24 + Config.capOther / 256 % 2 ^ 32 * 2 ^ 32

/-- PROPERTY_GET (R336): CAP, VS, CC, CSTS; NSSR reads 0. -/
def execPropertyGet (c cid off : Nat) (s : State) : Res :=
  s.adminCmd c cid fun s x =>
    match s.ctrl c with
    | none => s
    | some k =>
      if c = 0 then s.complete x.seq (cplFail .invalidOpcode true)
      else if off = 0 then s.complete x.seq (cplOk (capValue % 2 ^ 32) (capValue / 2 ^ 32))
      else if off = 8 then s.complete x.seq (cplOk 0x2_0000 0)
      else if off = 0x14 then s.complete x.seq (cplOk k.cc 0)
      else if off = 0x1C then s.complete x.seq (cplOk (s.csts k) 0)
      else if off = 0x20 then s.complete x.seq (cplOk 0 0)
      else s.complete x.seq (cplFail .invalidField true)

/-! ### I/O commands -/

/-- READ (R359). -/
def execRead (c cid nsid lba n : Nat) (pi : PiArgs) (s : State) : Res :=
  s.ioCmd c cid fun s x => s.doRead x.seq nsid lba n pi

/-- WRITE (R333). -/
def execWrite (c cid nsid lba : Nat) (data : List Block) (fua : Bool) (pi : PiArgs) (s : State) : Res :=
  s.ioCmd c cid fun s x => (s.doWrite x.seq nsid lba data fua false pi).settle

/-- ZONE_APPEND (R333). -/
def execZoneAppend (c cid nsid lba : Nat) (data : List Block) (fua : Bool) (pi : PiArgs) (s : State) : Res :=
  s.ioCmd c cid fun s x => (s.doWrite x.seq nsid lba data fua true pi).settle

/-- FLUSH (R343). -/
def execFlush (c cid nsid : Nat) (s : State) : Res := s.ioCmd c cid fun s x => s.doFlush x.seq nsid

/-- ZONE_OPEN (R332). -/
def execZoneOpen (c cid nsid lba : Nat) (everyZone : Bool) (s : State) : Res :=
  s.ioCmd c cid fun s x => s.zoneManage x.seq nsid lba .open_ everyZone

/-- ZONE_CLOSE (R332). -/
def execZoneClose (c cid nsid lba : Nat) (everyZone : Bool) (s : State) : Res :=
  s.ioCmd c cid fun s x => s.zoneManage x.seq nsid lba .close everyZone

/-- ZONE_FINISH (R332). -/
def execZoneFinish (c cid nsid lba : Nat) (everyZone : Bool) (s : State) : Res :=
  s.ioCmd c cid fun s x => s.zoneManage x.seq nsid lba .finish everyZone

/-- ZONE_RESET (R332). -/
def execZoneReset (c cid nsid _lba : Nat) (_everyZone : Bool) (s : State) : Res :=
  s.ioCmd c cid fun s x => s.zoneRefuse x.seq nsid

/-- ZONE_OFFLINE (R332). -/
def execZoneOffline (c cid nsid _lba : Nat) (_everyZone : Bool) (s : State) : Res :=
  s.ioCmd c cid fun s x => s.zoneRefuse x.seq nsid

/-- ZONE_MANAGEMENT_RECEIVE (R332). -/
def execZoneManagementReceive (c cid nsid lba filter limit : Nat) (part : Bool) (s : State) : Res :=
  s.ioCmd c cid fun s x => s.zoneReport x nsid lba filter limit part

/-- WRITE_LINE_RESERVED (R364): a waiting write tries again for its lines. -/
def execWriteLineReserved (c cid : Nat) (s : State) : Res :=
  .next (match s.nvme.ctxs.find? (fun x => x.ctrl == c && x.cid == cid && match x.op with
      | .write _ _ _ _ _ => true | _ => false) with
    | some x => (s.tryWrite x.seq).settle
    | none => s)

/-! ### Identify (R351, Table 13.9) -/

/-- Blocks of a namespace that can be written (NCAP, Table 13.4). -/
def Ns.ncap (n : Ns) : Nat := if n.zoned && n.daf then 64000 * max 1 n.cols * n.zoneCount else n.nsze

/-- DPS: PI_TYPE for a namespace in LBA format 1 (R330). -/
def State.dps (s : State) (n : Ns) : Nat := if n.lbaf = 1 then s.reg (nvKey 6) else 0

/-- Identify Namespace: NSZE, NCAP, NUSE, LBA format, DPS, NMIC; zeros for an inactive NSID (R328). -/
def State.identifyNs (s : State) (nsid : Nat) : List Nat :=
  match s.ns nsid with
  | some n => [n.nsze, n.ncap, n.nuse, n.lbaf, s.dps n, 1]
  | none => [0, 0, 0, 0, 0, 0]

/-- Identify Controller, the fields of Table 13.9 in its order (ONCS bit 6, SGLS as the bits data block and keyed data
block), with SERIAL and the running release. -/
def State.identifyCtrl (s : State) (c : Nat) : List Nat :=
  [0x2_0000, 1, 8, 2, 2 ^ 8 + 2 ^ 9 + 2 ^ 27, 15, 15, 0x14, 63, 20, 120, 0x66, 0x44, 16384, if s.part.q then 511 else 16,
    0x40, 7, if c = 0 then 1 else 5, if c = 0 then 0 else 1028, if c = 0 then 0 else 1, s.part.serial, Config.releaseNumber]

/-- The active NSIDs above one. -/
def State.nsAbove (s : State) (nsid : Nat) (p : Ns → Bool) : List Nat :=
  ((s.nvme.namespaces.filter fun n => nsid < n.nsid && p n).map (·.nsid)).mergeSort (· ≤ ·)

/-- What Identify returns for a CNS: none where it is not supported. CSI 0 is NVM and 2 Zoned. -/
def State.identifyData (s : State) (c cns csi nsid : Nat) : Option (List Nat) :=
  let set := fun (n : Ns) => (csi == 2) == n.zoned
  if cns = 0 ∨ cns = 8 then some (s.identifyNs nsid)
  else if cns = 1 then some (s.identifyCtrl c)
  else if cns = 2 then some (s.nsAbove nsid fun _ => true)
  else if cns = 3 then some (match s.ns nsid with | some n => [if n.zoned then 2 else 0] | none => [])
  else if cns = 5 then
    some (match s.ns nsid with
      | some n => if set n then (if n.zoned then [n.zsize, 15, 0xFFFF_FFFF, 0] else s.identifyNs nsid) else []
      | none => [])
  else if cns = 6 then some (if csi = 2 then [8] else s.identifyCtrl c)
  else if cns = 7 then some (s.nsAbove nsid set)
  else none

/-- IDENTIFY (R351). -/
def execIdentify (c cid cns csi nsid : Nat) (s : State) : Res :=
  s.adminCmd c cid fun s x =>
    match s.identifyData c cns csi nsid with
    | some f => (s.emit (.fields c 0 cid cns f)).complete x.seq (cplOk 0 0)
    | none => s.complete x.seq (cplFail .invalidField true)

/-! ### Abort, events, keep alive -/

/-- ABORT (R346); a held Asynchronous Event Request is not dispatched to a station, and ends. -/
def execAbort (c cid sq target : Nat) (s : State) : Res :=
  s.adminCmd c cid fun s x =>
    match s.ctrl c with
    | none => s
    | some k =>
      if sq = 0 ∧ k.aers.contains target then
        let s := s.modCtrl c fun k => { k with aers := k.aers.filter (· != target) }
        let s := s.emit (.completion c 0 target (cplFail .commandAbortRequested false))
        (s.bump (nvKey 0x0D)).complete x.seq (cplOk 0 0)
      else s.doAbort x.seq c sq target

/-- ASYNC_EVENT_REQUEST (R350): 16 are held (AERL 15); one completes at once where an event waits. -/
def execAsyncEventRequest (c cid : Nat) (s : State) : Res :=
  s.adminCmd c cid fun s x =>
    match s.ctrl c with
    | none => s
    | some k =>
      let s' := s.modNvme fun n => { n with ctxs := n.ctxs.filter fun y => y.seq != x.seq }
      match k.waiting with
      | e :: r =>
        (s'.modCtrl c fun k => { k with waiting := r, masked := k.masked ++ [e] }).emit (.asyncEvent c cid e)
      | [] =>
        if 16 ≤ k.aers.length then s.complete x.seq (cplFail .aerLimit true)
        else s'.modCtrl c fun k => { k with aers := k.aers ++ [cid] }

/-- KEEP_ALIVE (R324): the timer starts anew. -/
def execKeepAlive (c cid : Nat) (s : State) : Res := s.adminCmd c cid fun s x => s.complete x.seq (cplOk 0 0)

/-! ### Features (R337) -/

/-- Set a feature's value and complete. -/
def State.setFeature (s : State) (x : Ctx) (f v : Nat) : State :=
  (s.modCtrl x.ctrl fun k => k.setFeature f v).complete x.seq (cplOk 0 0)

/-- SET_FEATURES_ARBITRATION (R337): the burst is 2 to the power of bits 2..0; the weights have no meaning. -/
def execSetFeaturesArbitration (c cid v : Nat) (s : State) : Res :=
  s.adminCmd c cid fun s x => s.setFeature x 1 (v % 8)

/-- SET_FEATURES_POWER_MANAGEMENT (R337): PS0 alone. -/
def execSetFeaturesPowerManagement (c cid v : Nat) (s : State) : Res :=
  s.adminCmd c cid fun s x => if v % 32 = 0 then s.complete x.seq (cplOk 0 0) else s.complete x.seq (cplFail .invalidField true)

/-- SET_FEATURES_TEMPERATURE_THRESHOLD (R337): the composite temperature; other sensors are not there. -/
def execSetFeaturesTemperatureThreshold (c cid v : Nat) (s : State) : Res :=
  s.adminCmd c cid fun s x =>
    if bitsOf v 19 16 = 0 ∧ bitsOf v 21 20 ≤ 1 then s.setFeature x (0x400 + bitsOf v 21 20) (v % 65536)
    else s.complete x.seq (cplFail .invalidField true)

/-- SET_FEATURES_VOLATILE_WRITE_CACHE (R337, R342). -/
def execSetFeaturesVolatileWriteCache (c cid v : Nat) (s : State) : Res :=
  s.adminCmd c cid fun s x => s.setFeature x 6 (v % 2)

/-- Queue pairs granted to the other controllers. -/
def State.grantedOthers (s : State) (c : Nat) : Nat := ((s.nvme.ctrls.filter fun k => k.id != c).map (·.granted)).sum

/-- The result of Number of Queues: both counts, less one; a grant of none has no value the manual states. -/
def State.queuesResult (s : State) (n : Nat) : Nat × State :=
  if n = 0 then (let f := s.fresh; (Config.freeValue f.1 % 2 ^ 32, f.2)) else ((n - 1) * 65536 + (n - 1), s)

/-- SET_FEATURES_NUMBER_OF_QUEUES (R338): the larger of the two counts asked for is the request. -/
def execSetFeaturesNumberOfQueues (c cid v : Nat) (s : State) : Res :=
  s.adminCmd c cid fun s x =>
    let n := min (max (v % 65536) (v / 65536 % 65536) + 1) (4096 - s.grantedOthers c)
    let r := (s.modCtrl c fun k => { k with granted := n }).queuesResult n
    r.2.complete x.seq (cplOk r.1 0)

/-- SET_FEATURES_INTERRUPT_COALESCING (R337). -/
def execSetFeaturesInterruptCoalescing (c cid v : Nat) (s : State) : Res :=
  s.adminCmd c cid fun s x => if c = 0 then s.setFeature x 8 (v % 65536) else s.complete x.seq (cplFail .invalidField true)

/-- SET_FEATURES_INTERRUPT_VECTOR_CONFIG (R337): one of 2,048 vectors (Table 13.1). -/
def execSetFeaturesInterruptVectorConfig (c cid v : Nat) (s : State) : Res :=
  s.adminCmd c cid fun s x =>
    if c = 0 ∧ v % 65536 < 2048 then s.setFeature x (0x9_0000 + v % 65536) (v / 65536 % 2)
    else s.complete x.seq (cplFail .invalidField true)

/-- SET_FEATURES_ASYNC_EVENT_CONFIG (R337). -/
def execSetFeaturesAsyncEventConfig (c cid v : Nat) (s : State) : Res := s.adminCmd c cid fun s x => s.setFeature x 0x0B v

/-- SET_FEATURES_KEEP_ALIVE_TIMER (R324, R337): fabric controllers; the time is rounded up to the granularity of 100 ms (PRESUMED, as
NVMe Base 2.0 has it, log entry 121). -/
def execSetFeaturesKeepAliveTimer (c cid v : Nat) (s : State) : Res :=
  s.adminCmd c cid fun s x => if c = 0 then s.complete x.seq (cplFail .invalidField true) else s.setFeature x 0x0F ((v + 99) / 100 * 100)

/-- GET_FEATURES (R337): dword 0 of the feature, the Timestamp's eight bytes. -/
def execGetFeatures (c cid fid v : Nat) (s : State) : Res :=
  s.adminCmd c cid fun s x =>
    match s.ctrl c with
    | none => s
    | some k =>
      let give := fun d => s.complete x.seq (cplOk d 0)
      if fid = 1 ∨ fid = 6 ∨ fid = 0x0B then give (k.feature fid)
      else if fid = 2 then give 0
      else if fid = 4 then give (k.feature (0x400 + bitsOf v 21 20))
      else if fid = 7 then
        let r := s.queuesResult k.granted
        r.2.complete x.seq (cplOk r.1 0)
      else if fid = 8 ∧ c = 0 then give (k.feature 8)
      else if fid = 9 ∧ c = 0 ∧ v % 65536 < 2048 then give (v % 65536 + 65536 * k.feature (0x9_0000 + v % 65536))
      else if fid = 0x0E then (s.emit (.bytes c 0 cid (leBytes 8 (s.calendar / 1000)))).complete x.seq (cplOk 0 0)
      else if fid = 0x0F ∧ c ≠ 0 then give (k.feature 0x0F)
      else s.complete x.seq (cplFail .invalidField true)

/-! ### Queues (R336, R338, R346) -/

/-- CREATE_IO_CQ (R336). -/
def execCreateIoCq (c cid qid size : Nat) (s : State) : Res :=
  s.adminCmd c cid fun s x =>
    match s.ctrl c with
    | none => s
    | some k =>
      if c ≠ 0 then s.complete x.seq (cplFail .invalidOpcode true)
      else if qid = 0 ∨ k.granted < qid ∨ k.cqs.contains qid then s.complete x.seq (cplFail .invalidQueue true)
      else if size = 0 ∨ 16383 < size then s.complete x.seq (cplFail (.code 1 2) true)
      else (s.modCtrl c fun k => { k with cqs := k.cqs ++ [qid] }).complete x.seq (cplOk 0 0)

/-- CREATE_IO_SQ (R336). -/
def execCreateIoSq (c cid qid size cq : Nat) (s : State) : Res :=
  s.adminCmd c cid fun s x =>
    match s.ctrl c with
    | none => s
    | some k =>
      if c ≠ 0 then s.complete x.seq (cplFail .invalidOpcode true)
      else if qid = 0 ∨ k.granted < qid ∨ k.sqs.any (·.1 == qid) then s.complete x.seq (cplFail .invalidQueue true)
      else if !k.cqs.contains cq then s.complete x.seq (cplFail (.code 1 0) true)
      else if size = 0 ∨ 16383 < size then s.complete x.seq (cplFail (.code 1 2) true)
      else (s.modCtrl c fun k => { k with sqs := k.sqs ++ [(qid, cq)] }).complete x.seq (cplOk 0 0)

/-- DELETE_IO_SQ (R346). -/
def execDeleteIoSq (c cid qid : Nat) (s : State) : Res := s.adminCmd c cid fun s x => s.deleteSq x.seq c qid

/-- DELETE_IO_CQ (R336): not while a submission queue uses it. -/
def execDeleteIoCq (c cid qid : Nat) (s : State) : Res :=
  s.adminCmd c cid fun s x =>
    match s.ctrl c with
    | none => s
    | some k =>
      if c ≠ 0 then s.complete x.seq (cplFail .invalidOpcode true)
      else if !k.cqs.contains qid then s.complete x.seq (cplFail .invalidQueue true)
      else if k.sqs.any (·.2 == qid) then s.complete x.seq (cplFail (.code 1 0x0C) true)
      else (s.modCtrl c fun k => { k with cqs := k.cqs.filter (· != qid) }).complete x.seq (cplOk 0 0)

/-! ### Format, Pin and Unpin -/

/-- FORMAT_NVM (R329, R330): a successful one invalidates the namespace's lines (R372). -/
def execFormatNvm (c cid nsid lbaf pi ses : Nat) (s : State) : Res :=
  s.adminCmd c cid fun s x =>
    match s.ns nsid with
    | none => s.complete x.seq cplInvalidNs
    | some n =>
      if ses ≠ 0 then s.complete x.seq (cplFail .invalidField true)
      else if !n.daf ∨ 1 < lbaf ∨ (pi ≠ 0 ∧ pi ≠ s.reg (nvKey 6)) then s.complete x.seq (cplFail .invalidFormat true)
      else if n.zones.any (fun z => z.state != 0) ∨ s.granary.lines.any (fun l => l.nsid == nsid && l.isDirty)
        ∨ s.nvme.ctxs.any (fun y => match y.op with | .write m _ _ _ _ => m == nsid | _ => false) then
        s.complete x.seq (cplFail .commandSequence true)
      else
        let s : State := match s.selfTest with
          | some t => if t.nsid = nsid then s.endTest 4 else s
          | none => s
        (((s.modNs nsid fun n => { n with lbaf := lbaf }).invalidate nsid).1).complete x.seq (cplOk 0 0)

/-- The first PIN_ID at or after `id` that no record uses (R370), on fuel. -/
def freePinId (pins : List Pin) : Nat → Nat → Nat
  | 0, id => id
  | f + 1, id => if pins.any (·.id == id) then freePinId pins f (if id = 0xFFFF_FFFF then 1 else id + 1) else id

/-- PIN (R370, Table 14.3): `n` is the count of clusters less one; the range is every cluster it touches. -/
def State.pin (s : State) (q nsid lba n : Nat) : State :=
  match s.ns nsid with
  | none => s.complete q cplInvalidNs
  | some v =>
    if v.nsze < lba + 16 * (n + 1) then s.complete q (cplFail .lbaOutOfRange true)
    else if !s.mediaReady nsid then s.complete q cplNotReady
    else if 256 ≤ s.granary.pins.length then s.complete q (cplFail (.code 1 0xC1) false)
    else
      let cls := clustersOf lba (16 * (n + 1))
      let id := freePinId s.granary.pins 257 s.granary.nextPin
      let above := cls.filter v.clusterAbove
      let s := s.modGr fun g => { g with
        nextPin := if id = 0xFFFF_FFFF then 1 else id + 1
        pins := g.pins ++ [⟨id, nsid, if above.isEmpty then 1 else 2, lba, cls.length, above,
          if s.timeValid then s.calendar else 0⟩] }
      let s := s.addReg 32 (grKey 0x0E) above.length
      let s := s.forEach (cls.filter fun cl => !above.contains cl) fun s cl =>
        match s.line nsid cl with
        | some _ => s.lockLine nsid cl
        | none => if nsSpread nsid then s else s.queueFill nsid cl .demand
      (s.modCtx q fun x => { x with op := .pin id }).pumpPins

/-- PIN (R370). -/
def execPin (c cid nsid lba n : Nat) (s : State) : Res := s.adminCmd c cid fun s x => s.pin x.seq nsid lba n

/-- UNPIN (R370): the record is freed, and lines no other record covers are unlocked. -/
def execUnpin (c cid id : Nat) (s : State) : Res :=
  s.adminCmd c cid fun s x =>
    if s.granary.pins.any (·.id == id) then
      let s := s.modGr fun g =>
        let rest := g.pins.filter fun p => p.id != id
        { g with pins := rest
                 lines := g.lines.map fun l =>
                   if l.lock = 2 ∧ ¬ rest.any (fun p => p.locks l.nsid l.cluster) then { l with lock := 0 } else l }
      s.pumpPins.complete x.seq (cplOk 0 0)
    else s.complete x.seq (cplFail .invalidField true)

/-! ### Fills (R359, R360, R365) -/

/-- FILL_COMMIT (R359). -/
def execFillCommit (nsid cl : Nat) (s : State) : Res := .next (s.fillCommit nsid cl)

/-- BLOCK_PLACED (R330, R359): on DAF media the block of the sector that the pool decoded; `blk` is what Blu-ray Disc's decoder, or the
read of a metadata line, gives. -/
def execBlockPlaced (nsid cl b : Nat) (blk : Block) (s : State) : Res :=
  .next (match s.op nsid cl with
    | none => s
    | some o =>
      if s.fromPool o then
        match findKey b o.got with
        | some x => s.checkedBlock nsid cl b (sectorBlock x)
        | none => s
      else if o.kind = .test then s.modOp nsid cl fun o => { o with got := insertKey b (leBytes 4096 blk.data) o.got }
      else s.checkedBlock nsid cl b blk)

/-- FILL_END (R360): with every data sector decoded or given up. -/
def execFillEnd (nsid cl : Nat) (s : State) : Res :=
  .next (if s.fillOver nsid cl then (s.fillEnd nsid cl).settle else s)

/-- The blocks of a line that a merge fill had to bring and did not (R365): of a zoned cluster those below the write pointer. -/
def State.mergeLost (s : State) (nsid cl : Nat) : List Nat :=
  match s.line nsid cl with
  | some l => (List.range 16).filter fun b => !l.has b && match s.ns nsid with
      | some n => !n.above (16 * cl + b)
      | none => true
  | none => []

/-- MERGE_FILL_DONE (R365): with blocks it left unrecovered, flushes that cover the line complete with Write Fault and the line stays
DIRTY. -/
def execMergeFillDone (nsid cl : Nat) (s : State) : Res :=
  .next (match s.op nsid cl with
    | some o =>
      if o.kind = .merge ∧ o.dispatched ∧ s.fillOver nsid cl then
        let s := (s.bump (grKey 0x0B)).placeRest nsid cl
        let s := match s.mergeLost nsid cl with
          | [] => s
          | b :: _ => (s.integrityEntry nsid (16 * cl + b) 2).failFlushes nsid cl
        (s.fillEnd nsid cl).settle
      else s
    | none => s)

end Sys2Proof.Machine
end

