-- ==== Sys2Proof/Machine/Ranges.lean ====
section
/-! DEFINITION. The dictionary's types, ranges and absent objects (R4, R11, R31, R33): what the checks of steps 1, 3 and 4 of
Table 2.14 ask of a value, and what a stored value has to pass at start-up (R60). -/

namespace Sys2Proof.Machine

/-! ### Types (R31) -/

/-- Length in bytes; of a string or DOMAIN the greatest. -/
def Ty.bytes : Ty → Nat
  | .bool | .u8 | .i8 => 1
  | .u16 | .i16 => 2
  | .u32 | .i32 => 4
  | .u64 => 8
  | .vstr n | .oct n | .dom n => n

def Ty.number : Ty → Bool
  | .vstr _ | .oct _ | .dom _ => false
  | _ => true

def Ty.signed : Ty → Bool
  | .i8 | .i16 | .i32 => true
  | _ => false

/-- The value that a register of the type stands for. -/
def Ty.value (t : Ty) (v : Nat) : Int := if t.signed then toSigned (8 * t.bytes) v else v

/-- DOMAINs that take any length up to their greatest (Tables 9.9, 17.7, 17.8). -/
def anyLength (i sub : Nat) : Bool := i == 0x5402 || i == 0x5030 || (i == 0x5012 && sub == 3)

/-- Step 3: longer data is 0x0607_0012, shorter 0x0607_0013. -/
def lengthCheck (o : Obj) (i sub n : Nat) : Nat :=
  if o.ty.bytes < n then 0x0607_0012
  else if n < (if anyLength i sub then 1 else o.ty.bytes) then 0x0607_0013
  else 0

/-! ### Ranges (R33) -/

def tooMuch : Nat := 0x0609_0031
def tooLow : Nat := 0x0609_0032
def notInSet : Nat := 0x0609_0030

def rangeCheck (lo hi v : Int) : Nat := if hi < v then tooMuch else if v < lo then tooLow else 0

/-- The range or coded set of an object's line. -/
def Dom.check (d : Dom) (v : Int) : Nat :=
  match d with
  | .any | .mask _ => 0
  | .rng lo hi => rangeCheck lo hi v
  | .zeroOr lo hi => if v = 0 then 0 else rangeCheck lo hi v
  | .rng2 lo hi lo' hi' => if (lo ≤ v ∧ v ≤ hi) ∨ (lo' ≤ v ∧ v ≤ hi') then 0 else if v < lo then tooLow else tooMuch
  | .oneOf l => if l.contains v.toNat then 0 else notInSet
  | .bits m => if v.toNat ||| m = m then 0 else notInSet

/-- The bits of a value that the object keeps: reserved ones are ignored (R11). -/
def Obj.kept (o : Obj) (v : Nat) : Nat := match o.dom with | .mask m => v &&& m | _ => v

/-! ### Where an object of a station block stands -/

def ixStation (i : Nat) : Nat := (i - 0x3000) / 0x100
def ixOff (i : Nat) : Nat := i % 0x100
/-- The engine of an index in 0x3s30 to 0x3sBF, and the offset from its base. -/
def ixEngine (i : Nat) : Nat :=
  if ixOff i < 0x40 then 16 + ixStation i else if ixOff i < 0x80 then 2 * ixStation i else 2 * ixStation i + 1
def ixEngOff (i : Nat) : Nat :=
  if ixOff i < 0x40 then ixOff i - 0x30 else if ixOff i < 0x80 then ixOff i - 0x40 else ixOff i - 0x80
def inBlock (i : Nat) : Bool := 0x3000 ≤ i && i < 0x3800

/-- INTEGER32 objects that hold a Q1.23 signal, whose values lie from -1 to 1 - 2^-23 (Table 6.2): settings of a set, drives,
offsets and search levels, the capture level, the tilt table. -/
def isQ23 (i sub : Nat) : Bool :=
  let n := normIndex i
  if (0x3031 ≤ n ∧ n ≤ 0x3033) ∨ (0x3041 ≤ n ∧ n ≤ 0x3045) then [4, 5, 6, 8].contains sub
  else if n = 0x3030 then 0x0A ≤ sub && sub ≤ 0x0C
  else if n = 0x3040 then 0x25 ≤ sub && sub ≤ 0x30
  else if n = 0x3050 then sub == 2 || sub == 3
  else if n = 0x3051 then sub == 1 || sub == 2 || sub == 9
  else if n = 0x303B ∨ n = 0x304B then sub == 0x11
  else n == 0x3054 && 0x0E ≤ sub

/-- Ranges that depend on the part or on another object, and the coded sets of a table's text. -/
def State.ownRange (s : State) (i sub v : Nat) : Nat :=
  let n := normIndex i
  if isQ23 i sub then rangeCheck (-8388608) 8388607 (toSigned 32 v)
  else if n = 0x1005 then (if bitOf v 30 then notInSet else 0)
  else if n = 0x3011 ∧ sub = 3 then (if v % 10 = 0 then 0 else notInSet)
  else if (n = 0x3020 ∨ n = 0x3021) ∧ sub = 0x13 then rangeCheck (s.reg (key i 0x14)) (s.reg (key i 0x15)) v
  else if n = 0x3022 ∧ sub = 0x0A then (if 262144 < v then tooMuch else 0)
  else if n = 0x304B ∧ (sub = 2 ∨ sub = 0x0C) then (if 4 + s.beams ≤ v then tooMuch else 0)
  else if n = 0x4100 ∧ sub = 1 then (if 9 < v ∨ (¬ s.part.q ∧ 1 ≤ v ∧ v ≤ 3) then notInSet else 0)
  else if n = 0x4400 ∧ sub = 5 then rangeCheck 1024 (3 * s.reg (key 0x4400 3) / 4) v
  else if n = 0x4400 ∧ sub = 6 then (if v < 256 then tooLow else 0)
  else if n = 0x4602 ∧ sub = 1 then
    (if v % 32 ≠ 0 then notInSet else if s.reg (key 0x2000 6) * 2 ^ 30 ≤ v then tooMuch else 0)
  else if n = 0x4800 ∧ sub = 0x0C then (if v * 1000 < 2 * s.reg (key 0x4800 7) + 200000 then tooLow else 0)
  else 0

/-- Step 4 for a number: the line's range, then the object's own. -/
def State.valueCheck (s : State) (o : Obj) (i sub v : Nat) : Nat :=
  let a := if o.ty = .bool ∧ 1 < v then notInSet else o.dom.check (o.ty.value v)
  if a ≠ 0 then a else s.ownRange i sub v

/-! ### Absent objects (R4) -/

/-- A sub-index of beams 4 to 7. -/
def highBeam (i sub : Nat) : Bool :=
  let n := normIndex i
  let by8 := fun (base : Nat) => 4 ≤ (sub - base) % 8
  if sub = 0 then false
  else if n = 0x3040 then 8 ≤ (sub - 1) % 12
  else if n = 0x3054 then 0x0A ≤ sub && sub ≤ 0x0D
  else if n = 0x3056 then sub ≤ 0x10 && by8 1
  else if n = 0x3069 ∨ n = 0x306A ∨ n = 0x306B ∨ (0x307C ≤ n ∧ n ≤ 0x307F) then by8 1
  else if n = 0x30D3 ∨ n = 0x30D4 then
    (sub ≤ 0x48 && by8 1) || (0x51 ≤ sub && sub ≤ 0x58 && by8 0x51) || (0x5B ≤ sub && by8 0x5B)
  else if n = 0x30D9 then 9 ≤ sub && by8 9
  else if n = 0x30E3 ∨ n = 0x30E4 then 12 ≤ sub && sub ≤ 27 && by8 12
  else 0x2410 ≤ n && n < 0x2420 && 5 ≤ (sub - 1) % 9 + 1 && (sub - 1) % 9 < 8

/-- The station that an object outside the blocks belongs to. -/
def otherStation (i sub : Nat) : Option Nat :=
  if 0x2410 ≤ i ∧ i < 0x2420 then some ((i - 0x2410) / 2)
  else if 0x2420 ≤ i ∧ i < 0x2430 then some ((i - 0x2420) / 2)
  else if 0x2430 ≤ i ∧ i < 0x2438 then some (i - 0x2430)
  else if 0x4420 ≤ i ∧ i < 0x4428 then some (i - 0x4420)
  else if 0x5410 ≤ i ∧ i < 0x5418 then some (i - 0x5410)
  else if i = 0x2504 ∧ sub ≠ 0 then some (sub - 1)
  else none

/-- A defined object that the variant in hand does not have. -/
def State.objAbsent (s : State) (i sub : Nat) : Bool :=
  (inBlock i && s.part.stations ≤ ixStation i)
    || (match otherStation i sub with | some t => s.part.stations ≤ t | none => false)
    || (!s.part.wide && highBeam i sub)
    || (!s.part.q && ((0x4800 ≤ i && i < 0x5000) || (i == 0x2300 && 4 ≤ sub && sub ≤ 6)
        || (i == 0x2440 && (sub == 13 || sub == 14 || sub == 15 || sub == 16 || 29 ≤ sub))))
    || ((i == 0x2101 || i == 0x2102) && sub != 0 && domainAbsent s.part (sub - 1))
    || (inBlock i && ixOff i == 0xC2 && (s.reg (key (i / 256 * 256 + 0xC0) 1) == 1 || s.reg (key (i / 256 * 256 + 0xC0) 1) == 2))

/-! ### Stored values (R60) -/

/-- Whether a stored number is of a defined object that can be set, within its present range. -/
def State.storedOk (s : State) (k v : Nat) : Bool :=
  match findObj (k / 256) (k % 256) with
  | none => false
  | some o =>
    let may := match o.acc with | .rw | .rws _ => true | _ => false
    may && o.ty.number && decide (v < 256 ^ o.ty.bytes) && s.valueCheck o (k / 256) (k % 256) v == 0

/-- Whether a stored byte string is of a defined object that can be set, of its length. -/
def storedRawOk (k : Nat) (b : List Byte) : Bool :=
  match findObj (k / 256) (k % 256) with
  | none => false
  | some o =>
    let may := match o.acc with | .rw | .rws _ => true | _ => false
    may && !o.ty.number && lengthCheck o (k / 256) (k % 256) b.length == 0

end Sys2Proof.Machine
end

