-- ==== Sys2Proof/Machine/Media.lean ====
section
/-! DEFINITION. The media (chapter 10): geometry, the place of a block, replacements and spare areas, read-only layers, the
attach and detach of a side's namespace, and the address flywheel. -/

namespace Sys2Proof.Machine

/-! ### Translation (R255) -/

/-- LBA_TRANSLATE (R255, object 0x3sC4): the result's data and code. -/
def State.translate (s : State) (i : Nat) : List (Nat × Nat) × Nat :=
  let lba := s.reg (stKey i 0xC5 1)
  let side := s.reg (stKey i 0xC5 2)
  let n := 1 + 2 * i + side
  let d2 := s.daf2 i
  let layers := s.reg (stKey i 0xC0 (2 + side))
  if s.mediumKind i < 3 ∨ ¬ bitOf (s.reg (stKey i 0xC0 6)) side then ([], 0x0F5A_0003)
  else if 65536 * zpl d2 * layers ≤ lba then ([], 0x0F5A_0001)
  else if 64000 ≤ lba % 65536 then ([], 0x0F5A_0002)
  else
    let own := ownPlace d2 (lba / 16)
    let pl := (s.side n).place own
    let p := placeSpiral pl % 8
    let q := 18 * placeCluster pl + lba % 16
    let t := trackOf d2 p q
    let wr := match s.ns n with | some v => !v.above lba | none => false
    ([(5, placeSpiral pl / 8), (6, lba / 65536), (7, p), (8, placeCluster pl), (9, zoneOf d2 q), (0x0A, t.1), (0x0B, t.2),
      (0x0C, 24000000 + 200 * t.1), (0x0D, psaOf pl (lba % 16)), (0x0E, if pl = own then 0 else 1),
      (0x0F, if wr then 1 else 0)], 0)

/-! ### Spare clusters, the LIA and read-only layers (R263, R266) -/

/-- SPARE_FREE and LIA_FREE of a layer as the side stands. -/
def Side.spareFree (d : Side) (daf2 : Bool) (layer : Nat) : Nat :=
  spareTotal daf2 - ((List.range 8).map fun p => usedOf d.inner (8 * layer + p) + usedOf d.outer (8 * layer + p)).sum
def Side.liaFree (d : Side) (layer : Nat) : Nat := liaTotal - usedOf d.lia layer

/-- Every zone of a set of layers that is not FULL enters READ ONLY (R266), with the events of R335. -/
def State.zonesReadOnly (s : State) (n : Nat) (layers : Nat → Bool) : State :=
  match s.ns n with
  | none => s
  | some v =>
    let k := zpl (s.daf2 (nsStation n))
    let zs := (List.range v.zoneCount).filter fun z => layers (if v.daf then z / k else 0) && (v.zone z).state != 4
      && (v.zone z).state != 5
    if zs.isEmpty then s
    else
      let s := s.modNs n fun v => zs.foldl (fun v z => v.setZone { v.zone z with state := 5 }) v
      let s := s.modNvme fun m => { m with ctrls := m.ctrls.map fun c =>
        { c with zonesChanged := c.zonesChanged ++ (zs.map fun z => (n, z)).filter fun p => !c.zonesChanged.contains p } }
      (s.event .zoneChanged).event .readOnlyLayer

/-- SPARE_FREE, LIA_FREE and READ_ONLY_LAYERS of a layer follow its use; a layer that becomes read-only posts record
0x0702; spare clusters below a tenth of their count at format raise the SMART event (Table 13.8). -/
def State.layerView (s : State) (n layer : Nat) : State :=
  let d := s.side n
  let d2 := s.daf2 (nsStation n)
  let low := fun (v : Nat) => decide (10 * v < spareTotal d2)
  let s := if low (d.spareFree d2 layer) && !low (s.reg (sideKey n (1 + layer))) then s.event .spare else s
  let s := s.setRegs [(sideKey n (1 + layer), d.spareFree d2 layer), (sideKey n (9 + layer), d.liaFree layer)]
  let ro := s.reg (sideKey n 0x15)
  if bitOf ro layer then s
  else if d.spareFree d2 layer = 0 ∨ d.liaFree layer < 16 then
    let s := (s.setReg (sideKey n 0x15) (setBit ro layer)).note 0x0702 (0x20 + nsStation n)
      (leBytes 1 ((n - 1) % 2) ++ leBytes 1 layer)
    s.zonesReadOnly n (· == layer)
  else s

/-- A WD lane of the head has a fault (Table 20.4): every layer of its side is read-only, as R266 states. -/
def State.wdReadOnly (s : State) (h : Nat) : State :=
  let n := 1 + h
  let layers := s.reg (stKey (h / 2) 0xC0 (2 + h % 2))
  if (s.ns n).isNone then s
  else
    let s := s.forEach (List.range layers) fun s l =>
      if bitOf (s.reg (sideKey n 0x15)) l then s
      else (s.setRegBit (sideKey n 0x15) l true).note 0x0702 (0x20 + h / 2) (leBytes 1 (h % 2) ++ leBytes 1 l)
    s.zonesReadOnly n fun _ => true

/-- A spare area of a spiral with room: `inside` chooses the area nearer the spindle. -/
def Side.spareAt (d : Side) (daf2 : Bool) (k : Nat) (inside : Bool) : Option Nat :=
  if inside then
    if usedOf d.inner k < innerCount daf2 then some (k * 2 ^ 18 + 4000 + usedOf d.inner k) else none
  else if usedOf d.outer k < outerCount daf2 then some (k * 2 ^ 18 + outerStart daf2 + usedOf d.outer k) else none

/-- The spirals of a layer in order of distance from spiral p, the lower first. -/
def spiralsBy (p : Nat) : List Nat :=
  (List.range 8).flatMap fun d => if d = 0 then [p] else ((if d ≤ p then [p - d] else []) ++ (if p + d < 8 then [p + d] else []))

/-- The next spare cluster for a place (R263): the area nearer the original on its spiral, the other one, then any
spiral's. -/
def Side.nextSpare (d : Side) (daf2 : Bool) (own : Nat) : Option Nat :=
  let c := placeCluster own
  let near := decide (2 * c < dataStart daf2 + outerStart daf2)
  let k := placeSpiral own
  let try_ := fun (k : Nat) => match d.spareAt daf2 k near with
    | some x => some x
    | none => d.spareAt daf2 k !near
  match try_ k with
  | some x => some x
  | none =>
    match (spiralsBy (k % 8)).findSome? fun p => d.spareAt daf2 (k / 8 * 8 + p) near with
    | some x => some x
    | none => (spiralsBy (k % 8)).findSome? fun p => d.spareAt daf2 (k / 8 * 8 + p) !near

/-- Re-place a cluster (R263): the state, and whether a spare was left. -/
def State.replace (s : State) (n own : Nat) : State × Bool :=
  let d2 := s.daf2 (nsStation n)
  match (s.side n).nextSpare d2 own with
  | none => (s, false)
  | some x =>
    let k := placeSpiral x
    let inside := decide (placeCluster x < dataStart d2)
    let s := s.modSide n fun d =>
      let d := { d with repl := insertKey own x d.repl }
      if inside then { d with inner := insertKey k (usedOf d.inner k + 1) d.inner }
      else { d with outer := insertKey k (usedOf d.outer k + 1) d.outer }
    let s := s.setReg (sideKey n 0x11) (s.side n).repl.length
    (s.layerView n (k / 8), true)

/-- The entries that a layer's next record cluster takes (R262, Table 10.13): replacements, zones, defects, at most 4,092. -/
def State.liaEntries (s : State) (n layer : Nat) : List LiaEntry :=
  let d := s.side n
  let on := fun (pl : Nat) => placeSpiral pl / 8 == layer
  let z := (d.newZones.filter fun z => z.1 / zpl (s.daf2 (nsStation n)) == layer).map fun z =>
    match s.ns n with
    | some v =>
      let x := v.zone z.1
      (⟨2, if x.state = 4 then 2 else if x.wp = 0 then 0 else 1, z.1, x.wp, z.2⟩ : LiaEntry)
    | none => ⟨2, 0, z.1, 0, z.2⟩
  (((d.newRepl.filter fun r => on r.1).map fun r => (⟨1, 0, psaOf r.1 0, psaOf r.2.1 0, r.2.2⟩ : LiaEntry)) ++ z
    ++ (d.newDefects.filter on).map fun p => (⟨3, 0, psaOf p 0, 0, 0⟩ : LiaEntry)).take 4092

/-- A record cluster is written to a layer's LIA (R262): the next of physical clusters 2,001 to 3,999, dealt to the spirals in
turn; it takes a WRITE_SERIAL. -/
def State.liaWritten (s : State) (n layer : Nat) : State :=
  let k := usedOf (s.side n).lia layer
  let serial := s.reg (sideKey n 0x14)
  let s := s.emit (.record n (placeName layer (k % 8) (2001 + k / 8)) (recordBytes serial layer (s.liaEntries n layer)))
  let on := fun (pl : Nat) => placeSpiral pl / 8 == layer
  let zl := zpl (s.daf2 (nsStation n))
  let s := (s.addReg 32 (sideKey n 0x14) 1).modSide n fun d => { d with
    lia := insertKey layer (k + 1) d.lia, newRepl := d.newRepl.filter fun r => !on r.1
    newZones := d.newZones.filter fun z => z.1 / zl != layer, newDefects := d.newDefects.filter fun p => !on p }
  (s.bump (sideKey n 0x13)).layerView n layer

/-- The layers of a side that have something to record, and a record cluster to each. -/
def State.liaRecord (s : State) (n : Nat) : State :=
  s.forEach ((List.range 8).filter fun l => !(s.liaEntries n l).isEmpty) fun s l => s.liaWritten n l

/-- The places of a side that no zone's data reaches are treated as defective (R262, R265). -/
def State.markDefects (s : State) (n : Nat) (l : List Nat) : State :=
  s.modSide n fun d =>
    let l := l.filter fun p => !d.defects.contains p
    { d with defects := d.defects ++ l, newDefects := d.newDefects ++ l }

/-! ### The medium (R261, R119) -/

/-- The medium is recognised: its objects, the write-strategy data and the heads it uses; a side that is not recognised
faults its head. -/
def State.setMedium (s : State) (i : Nat) (m : Medium) : State :=
  let s := s.setRegs [(stKey i 0 6, if m.kind ≤ 2 then 1 else m.kind - 1), (stKey i 0xC0 1, m.kind), (stKey i 0xC0 2, m.layersA),
    (stKey i 0xC0 3, m.layersB), (stKey i 0xC0 4, m.discId), (stKey i 0xC0 5, m.version), (stKey i 0xC0 6, m.sides),
    (stKey i 0xC0 7, m.angle), (stKey i 0xC0 9, if m.kind = 4 then 305 else if m.kind = 3 then 244 else 0)]
  let s := s.setRaw (stKey i 0xC0 8) m.maker
  let s := s.forEach m.layers fun s l =>
    let h := 2 * i + l.side
    let s := s.setRegs ((List.range s.beams).map fun b => (stKey i (0xD3 + l.side) (1 + 8 * l.layer + b), l.pw))
    let s := s.setReg (stKey i (0xD3 + l.side) (0x49 + l.layer)) l.pb
    let k := stKey i (0xD7 + l.side) 0
    let old := s.raw k
    let new := (List.range s.beams).foldl (fun (x : List Byte) b =>
      x.take (640 * b + 80 * l.layer) ++ l.strategy ++ x.drop (640 * b + 80 * l.layer + 80)) old
    if h < 16 then s.setRaw k new else s
  let s := s.mediumHeads i (if m.kind ≤ 2 then 1 else m.kind - 1)
  s.forEach (s.usedHeads i) fun s h => if bitOf m.sides (h % 2) then s else s.setHeadFault h 3

/-- What the identity clusters of a DAF disc give (R261): of each side the first that is recognised, where its layer count equals
N_found of its head; with two different DISC_IDs side A alone. None: neither side is recognised. -/
def State.readIdentity (s : State) (i : Nat) (a b : List (List Byte)) (angle : Nat) : Option Medium :=
  let side := fun (n : Nat) (l : List (List Byte)) => (l.find? identityOk).filter fun x =>
    (field x 4 1 == 1 || field x 4 1 == 2) && field x 16 1 == n && field x 17 1 == 4 * field x 4 1
      && field x 17 1 == s.reg (hdKey (2 * i + n) 0x11 0x0B)
  let a := side 0 a
  let b := (side 1 b).filter fun y => match a with | some x => field x 8 8 == field y 8 8 | none => true
  let lay := fun (n : Nat) (x : Option (List Byte)) => match x with
    | some x => (List.range (field x 17 1)).map (identityLayer x n)
    | none => []
  let cnt := fun (x : Option (List Byte)) => match x with | some x => field x 17 1 | none => 0
  match (match a with | some x => some x | none => b) with
  | none => none
  | some x => some
    { kind := 2 + field x 4 1, sides := (if a.isSome then 1 else 0) + (if b.isSome then 2 else 0), layersA := cnt a, layersB := cnt b
      discId := field x 8 8, version := field x 6 2, angle := angle, maker := ((x.drop 20).take 16).takeWhile (· != 0), layers := lay 0 a ++ lay 1 b }

/-- The medium is gone, or not recognised. -/
def State.clearMedium (s : State) (i : Nat) : State :=
  let s := s.setRegs ((stKey i 0 6, 0) :: (List.range 7).map fun j => (stKey i 0xC0 (1 + j), 0))
  let s := (s.setReg (stKey i 0xC0 9) 0).setRaw (stKey i 0xC0 8) []
  (s.setRegBit (hdStKey (2 * i)) 6 false).setRegBit (hdStKey (2 * i + 1)) 6 false

/-! ### Attach and detach (R120, R328, R329) -/

/-- A change of the active namespaces is listed and raised on every controller. -/
def State.nsChanged (s : State) (n : Nat) : State :=
  (s.modNvme fun m => { m with ctrls := m.ctrls.map fun c =>
    { c with changed := if c.changed.contains n then c.changed else c.changed ++ [n] } }).event .namespaceChanged

/-- The entries of a side's record clusters in ascending RECORD_SERIAL (R262): one whose MAGIC or CRC fails is skipped. -/
def liaRead (l : List (List Byte)) : List LiaEntry :=
  ((l.filterMap recordRead).foldl (fun (m : List (Nat × List LiaEntry)) r =>
    m.takeWhile (fun x => x.1 ≤ r.1) ++ [r] ++ m.dropWhile (fun x => x.1 ≤ r.1)) []).flatMap (·.2)

/-- Replacements of a DAF side (R262, R265): those of the records, a later entry for a place superseding, and those that sectors
alone claim, of several the one with the highest WRITE_SERIAL. -/
def replOf (es : List LiaEntry) (claims : List (Nat × Nat × Nat)) : List (Nat × Nat) :=
  let listed := (es.filter fun e => e.kind == 1).foldl (fun m e => insertKey (psaPlace e.first) (psaPlace e.second) m) []
  let best := claims.foldl (fun (m : List (Nat × Nat × Nat)) c =>
    match findKey c.1 m with
    | some (_, w) => if w ≤ c.2.2 then insertKey c.1 c.2 m else m
    | none => insertKey c.1 c.2 m) []
  best.foldl (fun m c => if (findKey (psaPlace c.1) listed).isSome then m else insertKey (psaPlace c.1) (psaPlace c.2.1) m) listed

/-- Zones of a DAF side (R265): FULL as the latest record says, else the write boundary found. -/
def zonesOf (es : List LiaEntry) (bounds : List (Nat × Nat × Nat)) : List (Nat × Bool × Nat) :=
  let full := (es.filter fun e => e.kind == 2).foldl (fun m e => insertKey e.first (decide (e.state = 2)) m) ([] : List (Nat × Bool))
  (full.filter (·.2)).foldl (fun m z => insertKey z.1 (true, 64000) m)
    ((bounds.filter fun b => !(findKey b.1 full).getD false).foldl (fun m b => insertKey b.1 (false, 16 * b.2.1 + b.2.2) m) [])

/-- The namespace of a side becomes active, with what the rebuild found (R265). -/
def State.attach (s : State) (i side : Nat) (img : SideImage) : State :=
  let n := 1 + 2 * i + side
  let kind := s.mediumKind i
  let daf := decide (3 ≤ kind)
  let d2 := kind == 4
  let layers := s.reg (stKey i 0xC0 (2 + side))
  let es := if daf then liaRead img.records else []
  let found := if daf then zonesOf es img.bounds else img.zones
  let bad := ((es.filter fun e => e.kind == 3).map fun e => psaPlace e.first)
  let s := s.modSide n fun d => { d with
    repl := if daf then replOf es img.claims else img.repl, inner := img.inner, outer := img.outer, lia := img.lia
    defects := bad, newDefects := [], newRepl := [], newZones := []
    tails := if kind = 2 then [] else
      (found.filter fun z => !z.2.1 && z.2.2 % 16 != 0).map fun z => 4096 * z.1 + z.2.2 / 16 }
  let s := s.markDefects n (img.beyond.map psaPlace)
  let s := s.modHd (2 * i + side) fun d => { d with opcDone := [], atLimit := List.replicate 8 0, serials := [] }
  let lbaf := if !daf then 0 else match img.pi with | some p => (if p then 1 else 0) | none => s.reg (nvKey 7)
  let zones : List Zone := found.map fun z => ⟨z.1, if z.2.1 then 4 else if z.2.2 = 0 then 0 else 3, z.2.2⟩
  let v : Ns := { nsid := n, zoned := kind != 2, daf := daf, nsze := if daf then 65536 * zpl d2 * layers else img.sectors / 2
                  lbaf := lbaf, zones := if kind = 2 then [] else zones.filter fun z => z.state != 0, lia := false }
  let s := s.modNvme fun m => { m with namespaces := m.namespaces.filter (fun x => x.nsid != n) ++ [v] }
  let s := s.setRegs [(sideKey n 0x11, (s.side n).repl.length), (sideKey n 0x14, (img.serial + 1) % 2 ^ 32), (sideKey n 0x15, 0), (sideKey n 0x16, img.ms)]
  let s := if daf then s.forEach (List.range layers) fun s l => s.layerView n l else s
  let s := if s.wdFault (2 * i + side) then s.wdReadOnly (2 * i + side) else s
  (s.setStFlag i (11 + side) true).nsChanged n

/-- The namespace of a side is detached: open zones become CLOSED, its lines are invalidated (R372). The state, and how
many dirty clusters went. -/
def State.detach (s : State) (i side : Nat) : State × Nat :=
  let n := 1 + 2 * i + side
  match s.ns n with
  | none => (s, 0)
  | some _ =>
    let r := s.invalidate n
    let s := r.1.modNvme fun m => { m with namespaces := m.namespaces.filter fun x => x.nsid != n }
    let s := s.forEach (s.nvme.ctxs.filter fun x => match x.op with
        | .read m _ _ _ _ => m == n | .write m _ _ _ _ => m == n | .flush c _ _ => c.nsids == [n] | _ => false) fun s x =>
      s.complete x.seq cplNotReady
    let s : State := match s.selfTest with
      | some t => if t.nsid = n then s.endTest 3 else s
      | none => s
    ((s.setStFlag i (11 + side) false).nsChanged n, r.2)

/-! ### Finding a sector (R256 to R260) -/

/-- The better of two candidates (offset, mismatches): fewer mismatches, nearer the prediction, earlier. -/
def betterSync (a b : Int × Nat) : Int × Nat :=
  if b.2 < a.2 ∨ (b.2 = a.2 ∧ (b.1.natAbs < a.1.natAbs ∨ (b.1.natAbs = a.1.natAbs ∧ b.1 < a.1))) then b else a

/-- The candidate taken: inside the window, within the mismatches allowed (R256). -/
def pickSync (window most : Nat) : List (Int × Nat) → Option (Int × Nat)
  | [] => none
  | c :: r =>
    let ok := decide (c.1.natAbs ≤ window) && decide (c.2 ≤ most)
    match pickSync window most r with
    | none => if ok then some c else none
    | some b => if ok then some (betterSync c b) else some b

/-- The detector's values begin so many channel bits before a frame's predicted start; the SSM stands at bit 128 of a frame, RSM m at
bit 192 + 1,724m (Table 10.4). -/
def detLead : Nat := 160
def ssmAt : Nat := 128
def rsmAt (m : Nat) : Nat := 192 + 1724 * m

/-- Places at which the hard decisions (R281) from bit `n` of the values differ from a pattern; bits that are not there differ. -/
def mismatches (pat : List Bool) (det : List Int) (n : Nat) : Nat :=
  pat.length - ((List.zipWith (fun p v => p == decide (0 < v)) pat (det.drop n)).filter id).length

/-- The alignments within `w` of any of `at_`, with the mismatches of a pattern that stands at bit `pos` of the frame. -/
def candidates (pat : List Bool) (det : List Int) (pos w : Nat) (at_ : List Int) : List (Int × Nat) :=
  at_.flatMap fun a => (List.range (2 * w + 1)).map fun (i : Nat) =>
    let o : Int := a + i - w
    (o, mismatches pat det (pos + detLead + o).toNat)

/-- The alignment at which RSM m is found, searched within `w` of each of `at_` (R258, R259); nearness counts from `ref`. -/
def findRsm (det : List Int) (m w most : Nat) (at_ : List Int) (ref : Int) : Option Int :=
  (pickSync 1000 most ((candidates rsmBits det (rsmAt m) w at_).map fun c => (c.1 - ref, c.2))).map fun c => c.1 + ref

/-- The alignment two of the three votes agree on within one channel bit, other than `a` (R259). -/
def overruling (a : Int) (votes : List (Option Int)) : Option Int :=
  let vs := votes.filterMap id
  vs.find? fun v => decide (2 ≤ (vs.filter fun w => (v - w).natAbs ≤ 1).length) && decide (1 < (v - a).natAbs)

/-- The alignment of each of the 24 blocks of a frame aligned at `a`, with whether its RSM was found (R258). -/
def blockAligns (det : List Int) (w most : Nat) (a : Int) : List (Int × Bool) :=
  ((List.range 24).foldl (fun (x : List (Int × Bool) × Int) m =>
    match findRsm det m w most [a] a with
    | some v => (x.1 ++ [(v, true)], v)
    | none => (x.1 ++ [(x.2, false)], x.2)) ([], a)).1

/-- The alignment on which at least 12 of the RSMs found agree within one channel bit, the one most agree on (R257). -/
def agreed (l : List (Int × Bool)) : Option Int :=
  let vs := (l.filter (·.2)).map (·.1)
  let n := fun (v : Int) => (vs.filter fun w => (v - w).natAbs ≤ 1).length
  (vs.foldl (fun (m : Option Int) v => match m with
    | none => some v
    | some u => if n u < n v then some v else some u) none).filter fun v => 12 ≤ n v

/-- Realignments of ±1 channel bit from block to block (R273). -/
def slipsOf (a : Int) (l : List (Int × Bool)) : Nat :=
  ((l.foldl (fun (x : Nat × Int) v => (if (v.1 - x.2).natAbs = 1 then x.1 + 1 else x.1, v.1)) (0, a))).1

/-- The 40,800 values of a frame's data, each block at its own alignment. -/
def dataValues (det : List Int) (l : List (Int × Bool)) : List Int :=
  l.zipIdx.flatMap fun p => (det.drop ((rsmAt p.2 + 24 + detLead : Nat) + p.1.1 : Int).toNat).take 1700

/-- Set an element of a beam's list. -/
def State.setFly (s : State) (h b n : Nat) (a : Int) : State :=
  s.modHd h fun d => { d with fly := d.fly.set b n, align := d.align.set b a, anchored := setBit d.anchored b }

/-- The counters that a frame's RSMs move: those missed, and slips. -/
def State.countRsms (s : State) (h b : Nat) (a : Int) (l : List (Int × Bool)) : State :=
  (s.addReg 32 (chKey h 0x1D (9 + b)) (l.filter fun x => !x.2).length).addReg 32 (chKey h 0x0B (1 + 8 * 2 + b)) (slipsOf a l)

/-- One predicted sector start of a beam (R256 to R259): the values its blocks hold. -/
def State.sectorStart (s : State) (h b : Nat) (det : List Int) : State × List Int :=
  let i := h / 2
  let set := fun k => s.reg (stKey i 0xC3 k)
  let held := bitOf (s.hd h).anchored b
  let w := if held then set 1 else detLead
  if bitOf (s.hd h).hunt b then (s.bump (chKey h 0x1E (9 + b)), [])
  else
    match pickSync w (set 2) (candidates ssmBits det ssmAt w [0]) with
    | some (a, _) =>
      let beyond := if held ∧ a < 0 ∧ -(set 5 : Int) ≤ a then
          overruling a ((List.range 3).map fun m => findRsm det m (set 3) (set 4) [a, 0] 0) else none
      let at_ := beyond.getD a
      let l := blockAligns det (set 3) (set 4) at_
      let s := s.countRsms h b at_ l
      let s := match beyond with | some _ => s.bump (chKey h 0x1D (1 + b)) | none => s
      (s.setFly h b 0 at_, dataValues det l)
    | none =>
      if !held then (s, [])
      else
        let n := (s.hd h).fly.getD b 0 + 1
        let l := blockAligns det (set 3) (set 4) 0
        let s := ((s.bump (chKey h 0x1C (1 + b))).bump (chKey h 0x1C (9 + b))).countRsms h b 0 l
        let s := s.setFly h b n ((agreed l).getD 0)
        (if set 6 ≤ n then (s.bump (chKey h 0x1E (1 + b))).modHd h fun d => { d with hunt := setBit d.hunt b } else s, dataValues det l)

/-- HUNT_END (R257): two SSMs 41,584 ± SSM_WINDOW channel bits apart. -/
def execHuntEnd (h b gap : Nat) (s : State) : Res :=
  let w := s.reg (stKey (h / 2) 0xC3 1)
  .next (if bitOf (s.hd h).hunt b ∧ 41584 ≤ gap + w ∧ gap ≤ 41584 + w then
    (s.setFly h b 0 0).modHd h fun d => { d with hunt := clrBit d.hunt b }
  else s)

end Sys2Proof.Machine
end

