-- ==== Sys2Proof/Machine/Station.lean ====
section
/-! DEFINITION. The station's state machine (chapter 5): commands and their steps, scheduling points, media operations in
flight, strobes, the interlock and the disc sensor. -/

namespace Sys2Proof.Machine

/-- The outcome of a write to an object: refused with an abort code, or applied. -/
abbrev Applied := Except Nat State

/-! ### Heads and their acquisition (R119) -/

/-- Used heads that have not failed. -/
def State.goodHeads (s : State) (i : Nat) : List Nat := (s.usedHeads i).filter fun h => !s.headFault h
/-- Heads that are TRACKING or above. -/
def State.trackingHeads (s : State) (i : Nat) : List Nat := (s.goodHeads i).filter fun h => hsTracking ≤ s.substate h

/-- A sequencer that holds no order. -/
def State.seqIdle (s : State) (e : Nat) : Bool :=
  let q := s.sq e
  q.running.isNone && q.slot.isNone && q.waiting.isEmpty

/-- A head whose front end or channel has failed its BIST (R470, Table 19.7). -/
def State.bistBarred (s : State) (h : Nat) : Bool := s.bist.failed.contains (16 + h) || s.bist.failed.contains (32 + h)

/-- Issue the acquisition of the used heads: FOCUS_ON on layer 0, TRACK_ON, FOLLOW; with ILK_N open a LOAD waits with
WAIT_ILK; a barred head is in HEAD_FAULT. -/
def State.acquireHeads (s : State) (i : Nat) : State :=
  if s.ilkOpen i then s.setStFlag i 7 (s.stn i).cmd.isSome
  else
    let s := (s.setStFlag i 7 false).modStn i fun t => { t with offered := true }
    let s := s.forEach ((s.usedHeads i).filter s.bistBarred) fun s h => (s.setRegBit (hdStKey h) 7 true).setSubstate h hsOff
    s.forEach ((s.goodHeads i).filter fun h => s.substate h == hsOff && s.seqIdle h) fun s h =>
      ((s.issue h 1 0).issue h 2 0).issue h 5 0

/-- HEAD_FAULT ends (R108), unless a wiring fault of the head still stands (R483): then the wiring fault alone holds it. -/
def State.clearHeadFault (s : State) (h : Nat) : State :=
  if s.wiringHolds h || (s.hd h).wired then s.modHd h fun d => { d with wired := true }
  else (s.setRegBit (hdStKey h) 7 false).setReg (hdKey h 0x19 4) 0

/-! ### The steps of a station command (Table 5.4) -/

/-- Whether the operations in flight are over, as the drain asks (R121 step 2): those that SPINNING holds complete with NNR
when the station leaves for CLAMPED (R112), and the drain does not wait for them. -/
def State.opsOver (s : State) (i : Nat) : Bool := s.stState i == stSpinning || s.reg (stKey i 0 7) == 0

/-- Whether the station's dirty data and records are all on the medium (R121). -/
def State.drained (s : State) (i : Nat) : Bool :=
  (s.dirtyLines i).isEmpty && s.opsOver i
    && (sideNs i).all fun n => match s.ns n with | some v => !v.lia | none => true

/-- Ask for the LIA records of a station's sides that wait (R262). -/
def State.askLia (s : State) (i : Nat) : State :=
  s.forEach (sideNs i) fun s n =>
    match s.ns n with
    | some v =>
      if v.lia ∧ (s.op n liaCluster).isNone then
        s.modGr fun g => { g with ops := g.ops ++ [newOp n liaCluster .lia none] }
      else s
    | none => s

/-- FORCE, or FAULT, discards the dirty lines (R121 step 4): record 0x0303 with their number. -/
def State.discardDirty (s : State) (i : Nat) : State :=
  let n := (s.dirtyLines i).length
  let s := s.modGr fun g => { g with lines := g.lines.filter fun l =>
    !(l.isDirty && !nsSpread l.nsid && nsStation l.nsid == i) }
  let s := s.forEach (sideNs i) fun s n => s.modNs n fun v => { v with lia := false }
  if n = 0 then s else s.note 0x0303 (0x20 + i) (leBytes 4 n)

/-- The clamp is seated (Table 8.6). -/
def State.seated (s : State) (i : Nat) : Bool := s.reg (stKey i 0x22 0x0C) == 3

/-- The fault of the station ends with its checks passed (R122). -/
def State.faultCleared (s : State) (i : Nat) : State :=
  if s.reg (stKey i 0xE0 1) = 0 then s
  else (s.setRegs [(stKey i 0xE0 1, 0), (stKey i 0xE0 2, 0)]).raiseEmcy 0 (0x20 + i) 0 0 true

/-- The station has read its clamp: it leaves OFF or FAULT (Table 5.2). -/
def State.clampRead (s : State) (i code : Nat) : State :=
  let s := s.faultCleared i
  let s := s.modStn i fun t => { t with faultOpen := false }
  let s := if code = 8 then (s.clearHeadFault (2 * i)).clearHeadFault (2 * i + 1) else s
  if s.stState i = stOff ∨ s.stState i = stFault then
    (s.setStation i (if s.seated i then stClamped else stEmpty) code).dropWake i
  else s

/-- Issue an order to the station's sequencer. -/
def State.issueStation (s : State) (i code param : Nat) : State := s.issue (16 + i) code param

/-- Begin a step: the state, and whether the step is done at once. -/
def State.beginStep (s : State) (i : Nat) (c : StnCmd) : StnStep → State × Bool
  | .bistEnds => (s, !(s.stationRuns i).any BistRun.active)
  | .wakeCore => ((s.tempWake (6 * i)).tempWake (6 * i + 5), s.domState (6 * i) == 3 && s.domState (6 * i + 5) == 3)
  | .checkStore => (s, s.stores.loaded.contains i && s.stState i != stFault && s.reg (stKey i 0xE0 1) == 0)
  | .raisePsen => (s.modStn i fun t => { t with psen := true, psenDrop := false }, true)
  | .wiringTest => (s.issueStation i 0x18 4, false)
  | .readClamp => (s.issueStation i 0x14 0, false)
  | .homeSleds =>
    (s.forEach ([2 * i, 2 * i + 1].filter fun h => s.reg (sledKey h 0x1C) == 0 && !bitOf (s.reg (stKey i 0xE0 4)) (3 + h % 2))
      fun s h => s.issue h 8 0, false)
  | .clampStroke => if s.seated i then (s, true) else (s.issueStation i 0x12 0, false)
  | .spinUp =>
    if s.reg (stKey i 0x10 1) = 4 then (s, true)
    else if c.strobe = 0 then (s.issueStation i 0x10 0, false) else (s.armedView i, false)
  | .acquire => (s.acquireHeads i, false)
  | .attach => (s, false)
  | .stopDispatch => (s.modStn i fun t => { t with noDispatch := true }, true)
  | .drain =>
    if c.force ∨ s.stState i = stFault then (let s := s.discardDirty i; (s, s.drained i))
    else ((s.askLia i).setStFlag i 14 true, s.drained i)
  | .detach =>
    let s := (((s.detach i 0).1.detach i 1).1).modStn i fun t => { t with resuming := false }
    let s := (s.setStFlag i 14 false).settle
    (if s.stState i = stReady ∨ s.stState i = stActive then s.setStation i stSpinning c.code else s, true)
  | .parkHeads => (s.forEach [2 * i, 2 * i + 1] fun s h => if s.substate h = hsOff then s else s.issue h 6 0, false)
  | .spinDown => if s.stState i = stClamped ∧ s.reg (stKey i 0x10 1) = 0 then (s, true) else (s.issueStation i 0x11 0, false)
  | .unclamp => (s.issueStation i 0x13 0, false)
  | .lowerPsen => (s.modStn i fun t => { t with psen := false, psenDrop := false }, true)
  | .gate => (s.setStation i stOff c.code, true)
  | .waitInflight => (s, s.reg (stKey i 0 7) == 0)
  | .enterMaint =>
    let from_ := s.stState i
    ((s.modStn i fun t => { t with maintFrom := from_, resuming := false }).setStation i stMaint c.code, true)
  | .abortOrders => (s.abortStation i, true)
  | .leaveMaint =>
    let back := (s.stn i).maintFrom
    ((s.setStation i (if back = stActive then stReady else back) c.code).modStn i fun t => { t with noDispatch := false }, true)
  | .clearFault => (s, true)

/-- A wait that STOP withdraws at once (R113): a slot, a grant or a strobe; the wait for ILK_N and for the heads as well. -/
def State.withdraw (s : State) (i : Nat) : State :=
  if s.stFlag i 5 || s.stFlag i 6 then (s.endWhole (16 + i) latheAborted 0 0).dropSpin i else s

/-- With no disc any more after UNLOAD the medium's objects clear. -/
def State.commandEnds (s : State) (i : Nat) (c : StnCmd) : State :=
  let s := if c.code = 3 then s.clearMedium i else s
  let s := if c.code = 2 ∧ c.fail = 0 then s.loadSweep i else s
  s.endCommand i c.fail

/-- Begin steps until one has to be waited for, on fuel; a STOP ends the command at the step boundary, the last one too
(R113). -/
def State.runSteps (s : State) (i : Nat) : Nat → State
  | 0 => s
  | f + 1 =>
    match (s.stn i).cmd with
    | none => s
    | some c =>
      if c.stop then s.endCommand i 0x0F53_0002
      else
        match c.steps with
        | [] => s.commandEnds i c
        | st :: r =>
          let b := s.beginStep i c st
          if b.2 then (b.1.modStn i fun t => { t with cmd := some { c with steps := r } }).runSteps i f else b.1

/-- The step that runs is done; the next ones begin. -/
def State.stepOver (s : State) (i : Nat) : State :=
  match (s.stn i).cmd with
  | some c => (s.modStn i fun t => { t with cmd := some { c with steps := c.steps.drop 1 } }).runSteps i 32
  | none => s

/-- Whether the step that runs has come to its end. -/
def State.stepReady (s : State) (i : Nat) : StnStep → Bool
  | .bistEnds => !(s.stationRuns i).any BistRun.active
  | .wakeCore => s.domState (6 * i) == 3 && s.domState (6 * i + 5) == 3
  | .checkStore => true
  | .wiringTest => !s.hasOrder (16 + i) 0x18 && (s.stn i).wiring.isNone
  | .readClamp => !s.hasOrder (16 + i) 0x14 && (s.stn i).stroke == .none
  | .homeSleds => !s.hasOrder (2 * i) 8 && !s.hasOrder (2 * i + 1) 8
  | .clampStroke => !s.hasOrder (16 + i) 0x12 && (s.stn i).stroke == .none
  | .spinUp => s.reg (stKey i 0x10 1) == 4
  | .acquire => (s.goodHeads i).isEmpty || s.stState i == stReady || s.stState i == stActive
      || (s.stState i == stMaint && !(s.trackingHeads i).isEmpty && (s.goodHeads i).all fun h => hsTracking ≤ s.substate h)
  | .attach => (s.goodHeads i).all fun h => s.stFlag i (11 + h % 2)
  | .drain => s.drained i
  | .parkHeads => s.substate (2 * i) == hsOff && s.substate (2 * i + 1) == hsOff
  | .spinDown => !s.hasOrder (16 + i) 0x11 && s.below30 i && s.reg (stKey i 0x10 1) == 0
  | .unclamp => !s.hasOrder (16 + i) 0x13 && (s.stn i).stroke == .none
  | .waitInflight => s.reg (stKey i 0 7) == 0
  | _ => true

/-- The step ends as it should: what its end does. -/
def State.stepEnds (s : State) (i : Nat) (c : StnCmd) : StnStep → State
  | .checkStore => ({ s with stores := { s.stores with
      loaded := if s.stores.loaded.contains i then s.stores.loaded else s.stores.loaded ++ [i] } }).stepOver i
  | .readClamp => (s.clampRead i c.code).stepOver i
  | .clampStroke => if s.seated i then s.stepOver i else s.endCommand i 0x0F53_0001
  | .acquire => if (s.goodHeads i).isEmpty then s.endCommand i 0x0F53_0004 else s.stepOver i
  | .unclamp =>
    let s := (s.clearHeadFault (2 * i)).clearHeadFault (2 * i + 1)
    s.stepOver i
  | .spinDown =>
    let s := (s.clearHeadFault (2 * i)).clearHeadFault (2 * i + 1)
    let s := if s.stState i = stSpinning then s.setStation i stClamped c.code else s
    s.stepOver i
  | _ => s.stepOver i

/-- A control store differs from the digest recorded at start-up (R91): record 0x0304 and FAULT, cause 0x0001, with the first
word address that differs. -/
def State.storeMismatch (s : State) (i a : Nat) : State := (s.note 0x0304 (0x20 + i) (leBytes 2 a)).stnFault i 1 a

/-- A LOAD whose medium is not supported, or whose sides are not recognised, is stowed again (R119, R246, R261). -/
def State.unrecognised (s : State) (i : Nat) (c : StnCmd) : State :=
  let s := (s.clearMedium i).modStn i fun t => { t with cmd := some { c with steps := [.parkHeads, .spinDown], fail := 0x0F53_0007 } }
  s.runSteps i 32

/-- STATION_COMMAND_STEP_DONE: how the running step comes out (R91, R110 to R122). -/
def State.stepDone (s : State) (i : Nat) (o : StepOut) : State :=
  match (s.stn i).cmd with
  | none => s
  | some c =>
    match (if c.taken then c.steps else []) with
    | [] => s
    | st :: _ =>
      match o, st with
      | .ok, st => if s.stepReady i st then s.stepEnds i c st else s
      | .mismatch a, .checkStore => s.storeMismatch i a
      | .recognised m, .acquire => if m.kind ≤ 2 then s.setMedium i m else s
      | .identity a b g, .acquire =>
        match s.readIdentity i a b g with
        | some m => s.setMedium i m
        | none => s.unrecognised i c
      | .unknownMedium, .acquire => s.unrecognised i c
      | .metadata side cl, .attach =>
        let n := 1 + 2 * i + side
        let mine := (s.granary.lines.filter fun l => l.nsid == n && l.lock == 1).length
          + (s.granary.ops.filter fun o => o.nsid == n && o.kind == .metadata && !o.committed).length
        if mine < s.reg (key 0x4400 8) then s.queueFill n cl .metadata else s
      | .pinned side img, .attach =>
        let h := 2 * i + side
        if s.substate h = hsFollowing ∧ ¬ s.stFlag i (11 + side) ∧ (s.goodHeads i).contains h then
          let s := s.attach i side img
          if s.stepReady i .attach then s.stepOver i else s
        else s
      | .noPlace, .drain =>
        let s := (s.setStFlag i 14 false).modStn i fun t => { t with noDispatch := false }
        s.endCommand i 0x0F53_0006
      | _, _ => s

/-! ### Acceptance (R109, R110) -/

/-- The steps of LOAD from a state up to TARGET. -/
def loadSteps (target : Nat) : List StnStep :=
  [.clampStroke] ++ (if 3 ≤ target then [.spinUp] else []) ++ (if 4 ≤ target then [.acquire, .attach] else [])

def powerSteps : List StnStep := [.wakeCore, .checkStore, .raisePsen, .wiringTest, .readClamp, .homeSleds]

/-- A command is accepted: STATUS BUSY. The station processor takes it up at its next scheduling point (R14, R19); one whose
first steps wake the station's core has that wake begun, as its write has (R111). -/
def State.startCommand (s : State) (i code target strobe : Nat) (force : Bool) (steps : List StnStep) : State :=
  let s := (s.beginResult (stIx i 1)).modStn i fun t => { t with
    cmd := some ⟨code, target, strobe, force, steps, s.now, false, 0, false⟩, offered := false }
  if steps.contains .wakeCore then s.tempWake (6 * i) else s

/-- A command that ends DONE at once and changes nothing (D of Table 5.5). -/
def State.doneAtOnce (s : State) (i code : Nat) : State := s.endResult (stIx i 1) [(5, s.stState i), (6, 0), (7, code)] 0

/-- What Table 5.5 says of a LOAD: none for S, otherwise whether it is D. -/
def loadRow (st target : Nat) : Option Bool :=
  if st ≤ stEmpty then some false
  else if st = stClamped then some (target == 2)
  else if st = stSpinning then (if target = 2 then none else some (target == 3))
  else if st = stReady ∨ st = stActive then (if target = 4 then some true else none)
  else none

/-- Whether the ring lets a strobe be armed (R123): the abort code, or 0. -/
def State.strobeRefused (s : State) (n : Nat) : Nat :=
  if n < 12 then 0 else if !s.part.q then 0x0800_0030 else if s.ringRuns then 0 else 0x0800_0022

/-- A wiring test ends (R480): result object, record 0x0E04, the order, PSEN of a test on demand, and the fault that stops the station. -/
def State.wiringOver (s : State) (i code : Nat) : State :=
  match (s.stn i).wiring with
  | none => s
  | some w =>
    let s := s.modStn i fun t => { t with wiring := none, psen := if w.demand then w.psen else t.psen }
    let s := s.endResult (stIx i 0xE2) [(5, w.tested), (6, w.faults), (7, w.first), (8, min (s.now - w.start) (2 ^ 32 - 1))] code
    let s := s.note 0x0E04 (0x20 + i) (leBytes 1 w.scope ++ leBytes 2 w.tested ++ leBytes 2 w.faults)
    let s := if (s.sq (16 + i)).code = some 0x18 then
        (if code = 0 then s.orderDone (16 + i) 0 else s.endOrder (16 + i) latheAborted 0 0)
      else s
    if w.stop ≠ 0 then s.stnFault i 2 w.stop else s

/-- An on-demand test stops for POWER_UP, LOAD or POWER_DOWN (R484): what it has not tested reads kind 10. -/
def State.wiringAbort (s : State) (i : Nat) : State :=
  match (s.stn i).wiring with
  | none => s
  | some w =>
    let parts := (List.range 3).filter (bitOf w.parts)
    let s := s.forEach parts fun s p =>
      let h := if p = 2 then 2 * i + 1 else 2 * i
      let s := s.dropTokens (.wiring (if p = 0 then 16 + i else h))
      let s := if p = 0 then s else s.endTempWake (6 * i + p)
      s.setRegs ((s.partConns p).map fun n => (connKey i h n, 10))
    s.wiringOver i 0x0F60_0001

/-- A write of REQUEST of object 0x3s01 (R109, R110). -/
def State.stationRequest (s : State) (i v : Nat) : Applied :=
  let code := v % 256
  let target := bitsOf v 11 8
  let strobe := bitsOf v 15 12
  let force := bitOf v 16
  let st := s.stState i
  let no : Applied := .error 0x0800_0022
  let done : Applied := .ok (s.doneAtOnce i code)
  let slow := s.below30 i
  let go := fun steps =>
    (.ok (let s := if code = 1 ∨ code = 2 ∨ code = 5 then s.wiringAbort i else s
      if code = 1 ∨ code = 2 then (s.bistLeave i).startCommand i code target strobe force (.bistEnds :: steps)
      else s.startCommand i code target strobe force steps) : Applied)
  if code = 0 ∨ 8 < code then .error 0x0609_0030
  else if (code = 2 ∧ ¬ (2 ≤ target ∧ target ≤ 4)) ∨ (code ≠ 2 ∧ (target ≠ 0 ∨ strobe ≠ 0)) then .error 0x0609_0030
  else if force ∧ code ≠ 3 ∧ code ≠ 4 then .error 0x0609_0030
  else if s.strobeRefused strobe ≠ 0 then .error (s.strobeRefused strobe)
  else if code = 1 then (if st = stOff then go powerSteps else if st = stFault then no else done)
  else if code = 2 then
    match loadRow st target with
    | none => no
    | some true => done
    | some false => go ((if st = stOff then powerSteps else []) ++ loadSteps target)
  else if code = 3 then
    if st = stEmpty then done
    else if st = stFault then
      (if slow ∧ s.reg (stKey i 0x22 0x0C) ≠ 6 then go [.drain, .detach, .unclamp] else no)
    else if st = stOff ∨ st = stMaint then no
    else go [.stopDispatch, .drain, .detach, .parkHeads, .spinDown, .unclamp]
  else if code = 4 then
    if st = stClamped then done
    else if st = stSpinning ∨ st = stReady ∨ st = stActive then go [.stopDispatch, .drain, .detach, .parkHeads, .spinDown]
    else no
  else if code = 5 then
    if st = stOff then done
    else if st = stEmpty ∨ st = stClamped ∨ (st = stFault ∧ slow) then go [.lowerPsen, .gate]
    else no
  else if code = 6 then
    if st = stMaint then done
    else if st = stOff ∨ st = stFault then no
    else go [.stopDispatch, .waitInflight, .enterMaint]
  else if code = 7 then
    if st = stMaint then
      let from_ := (s.stn i).maintFrom
      go ([.abortOrders] ++ (if from_ ≤ stEmpty then [] else loadSteps (min from_ 4)) ++ [.leaveMaint])
    else no
  else if st = stFault ∧ slow then go [.wakeCore, .checkStore, .raisePsen, .wiringTest, .readClamp]
  else no

/-- A write of STOP (R113): it acts at the next step boundary; a wait for a slot, a grant or a strobe ends at once. -/
def State.stationStop (s : State) (i v : Nat) : Applied :=
  if v ≠ 1 then .error 0x0609_0030
  else
    match (s.stn i).cmd with
    | none => .ok s
    | some c =>
      let armed := c.taken ∧ c.strobe ≠ 0 ∧ c.steps.head? = some .spinUp
      if s.stFlag i 5 ∨ s.stFlag i 6 ∨ armed then .ok ((s.withdraw i).endCommand i 0x0F53_0002)
      else .ok (s.modStn i fun t => { t with cmd := some { c with stop := true } })

/-! ### Scheduling points (R107) -/

/-- A command is at its head acquisition, or at the attach that follows it. -/
def State.acquiring (s : State) (i : Nat) : Bool :=
  match (s.stn i).cmd with
  | some c => c.taken && (c.steps.head? == some .acquire || c.steps.head? == some .attach)
  | none => false

/-- The used heads are to be acquired again (R106, R118): the spindle is at speed, ILK_N closed, the observer in lock; a LOAD
waits for its heads, or AUTO_RESUME is set and they were lost to a coast or to ILK_N. -/
def State.resumeDue (s : State) (i : Nat) : Bool :=
  let t := s.stn i
  let load := s.acquiring i
  !t.offered && (s.stState i == stSpinning || (s.stState i == stMaint && load)) && !s.stFlag i 10 && !s.ilkOpen i
    && s.spinState i == 4 && (load || (t.resuming && t.cmd.isNone && s.reg (stKey i 0 0x0B) == 1))

/-- The state follows the heads: at most one transition. -/
def State.oneTransition (s : State) (i : Nat) : State :=
  let st := s.stState i
  let tracking := s.trackingHeads i
  let acq : Bool := (s.stn i).cmd.isNone || s.acquiring i
  if st = stSpinning then
    if acq ∧ !tracking.isEmpty ∧ tracking == s.goodHeads i ∧ !s.ilkOpen i ∧ !s.stFlag i 10 then
      let trig := match (s.stn i).cmd with | some c => c.code | none => 0x25
      (s.setStation i stReady trig).modStn i fun t => { t with resuming := false }
    else s
  else if st = stReady ∨ st = stActive then
    if tracking.isEmpty then s.setStation i stSpinning 0x26
    else if st = stReady ∧ s.reg (stKey i 0 7) ≠ 0 then s.setStation i stActive 0x20
    else s
  else s

/-- A measurement that REQUEST of an engine's object asked for starts, or its object takes the code it fails with (R153). -/
def State.measureObject (s : State) (e v : Nat) : State :=
  match s.measureStart e (v % 16) (bitsOf v 15 8) (bitsOf v 23 16) true with
  | (s, 0) => s
  | (s, c) => s.endResult (engIx e 0x0E) [] c

/-- The command that was accepted since the last point is taken up: its first steps begin (R14). -/
def State.takeUp (s : State) (i : Nat) : State :=
  match (s.stn i).cmd with
  | some c => if c.taken then s else (s.modStn i fun t => { t with cmd := some { c with taken := true } }).runSteps i 32
  | none => s

/-- One scheduling point: at most one transition, of the command taken up or as the heads and operations have it; the
measurements that waited for the point (Table 5.5), and a re-acquisition that is due. -/
def State.schedule (s : State) (i : Nat) : State :=
  let old := s.stState i
  let s := (s.modStn i fun t => { t with points := t.points + 1 }).takeUp i
  let s := if s.stState i = old then s.oneTransition i else s
  let waits := (s.stn i).measWait
  let orders := (s.stn i).orderWait
  let s : State := (s.modStn i fun t => { t with measWait := [], orderWait := [] }).forEach waits fun s m => s.measureObject m.1 m.2
  let s : State := s.forEach orders fun s o => s.offerOrder o.1 o.2
  if s.resumeDue i then s.acquireHeads i else s

/-! ### Media operations (R107, R112, R359) -/

/-- A station's dirty lines exceed DIRTY_HIGH per cent of their limit, and a DIRTY one waits for a band: its station processor places
write bands ahead of prefetches (R364). -/
def State.bandsFirst (s : State) (i : Nat) : Bool :=
  decide (s.reg (key 0x4400 7) * s.reg (key 0x4400 6) < 100 * (s.dirtyLines i).length)
    && (s.dirtyLines i).any fun l => l.state == .dirty

/-- A host operation of a station is queued: test reads stand behind it (R474). -/
def State.hostQueued (s : State) (i : Nat) : Bool :=
  s.granary.ops.any fun o => o.kind == .demand && o.station == i && !o.dispatched

/-- A queued operation is dispatched. -/
def State.dispatchOp (s : State) (nsid cl : Nat) : State :=
  match s.op nsid cl with
  | none => s
  | some o =>
    let i := o.station
    let st := s.stState i
    let free := !(s.stn i).noDispatch || o.kind == .lia || o.kind == .tables || o.kind == .merge
    if o.dispatched || nsSpread nsid || (s.nvme.activating.isSome && o.kind == .demand) || !(st == stReady || st == stActive) || !free || 256 ≤ s.reg (stKey i 0 7)
        || (o.kind == .prefetch && s.bandsFirst i) || (o.kind == .test && s.hostQueued i) then s
    else
      let s := (s.modOp nsid cl fun o => { o with dispatched := true }).setReg (stKey i 0 7) (s.reg (stKey i 0 7) + 1)
      let s := if o.kind = .demand then s.testYield i else s
      if st = stReady then s.setStation i stActive 0x20 else s

/-- A dispatched operation completes: its fill has ended, or its records are written. -/
def State.completeOp (s : State) (nsid cl : Nat) : State :=
  match s.granary.ops.find? (fun o => o.nsid == nsid && o.cluster == cl && o.dispatched) with
  | none => s
  | some o =>
    let i := o.station
    let st := s.stState i
    if nsSpread nsid || !(st == stReady || st == stActive || st == stMaint) then s
    else
      let s := if o.kind = .lia then
          (s.modNs nsid fun v => { v with lia := false }).liaRecord nsid
        else if o.ended || o.kind == .tables || o.kind == .test then s else s.fillEnd nsid cl
      let s := s.modGr fun g => { g with
        ops := match g.ops.find? (fun o => o.nsid == nsid && o.cluster == cl && o.dispatched) with
          | some o => g.ops.erase o
          | none => g.ops }
      let n := s.reg (stKey i 0 7) - 1
      let s := s.setReg (stKey i 0 7) n
      let s := if n = 0 ∧ s.stState i = stActive then s.setStation i stReady 0x21 else s
      (if o.kind = .test then s.testReadEnds o else s).settle

/-! ### Strobes (R123, R124) -/

/-- Strobe `n` acts on a station: what waits on it starts with the strobe's instant as origin; where nothing waits the
sequencers take the trap STROBE (Table 9.4). -/
def State.strobeStation (s : State) (i n : Nat) : State :=
  let at_ := s.sampleCount
  let es := [2 * i, 2 * i + 1, 16 + i]
  let hit := es.filter fun e => (s.sq e).wait == .strobe n
  let s := (s.setReg (stKey i 2 5) at_).forEach es fun s e => s.modEng e fun g => { g with
    capEvent := g.capEvent || (g.capSet.trigger == 2 && g.capSet.strobe == n) }
  let s := s.forEach hit fun s e => s.modSq e fun q => { q with wait := .none, origin := at_ }
  let s : State := s.forEach hit fun s e => s.seqView e
  let armed := match (s.stn i).cmd with
    | some c => c.taken && c.strobe == n && c.steps.head? == some .spinUp
    | none => false
  let s := if armed then
      (s.modStn i fun t => { t with cmd := t.cmd.map fun c => { c with strobe := 0 } }).issueStation i 0x10 0
    else s
  let s := if armed || hit.any fun e => (s.sq e).code == some 0x10 then s.modStn i fun t => { t with fired := at_ + 1 }
    else s
  let s := if hit.isEmpty && !armed then s.forEach es fun s e => s.raiseTrap e trapStrobe 0 n else s
  s.armedView i

/-- The strobes of a mask act on stations, the lowest station first (R125). -/
def State.fireStrobes (s : State) (stations : List Nat) (ns : List Nat) : State :=
  s.forEach ns fun s n => s.forEach stations fun s i => s.strobeStation i n

def State.strobeFire (s : State) (i mask : Nat) : Applied :=
  if mask % 2 = 1 ∨ 256 ≤ mask then .error 0x0609_0030 else .ok (s.fireStrobes [i] (bitsIn 8 mask))

def State.dstrobeFire (s : State) (mask : Nat) : Applied :=
  if mask % 256 ≠ 0 ∨ 4096 ≤ mask then .error 0x0609_0030
  else .ok (s.fireStrobes (List.range s.part.stations) (bitsIn 12 mask))

/-- An armed step's strobe is late (R124): 0 to 2 the sequencers, 3 the station command. -/
def State.strobeTimeout (s : State) (i who : Nat) : State :=
  if who = 3 then
    match (s.stn i).cmd with
    | some c => if c.taken ∧ c.strobe ≠ 0 ∧ c.steps.head? = some .spinUp then s.endCommand i 0x0F53_0003 else s
    | none => s
  else
    let e := seqOf i who
    match (s.sq e).wait with
    | .strobe _ => ((s.modSq e fun q => { q with wait := .none }).endWhole e latheFailed 0 0x0F53_0003).armedView i
    | _ => s

/-! ### The interlock and the disc sensor (R116, R118) -/

def State.modPins (s : State) (f : Pins → Pins) : State := { s with pins := f s.pins }

/-- The level at the pin of station `i` in a mask. -/
def pinSet (m i : Nat) (v : Bool) : Nat := if v then setBit m i else m - (if bitOf m i then 2 ^ i else 0)

/-- The station processors and their flags stand: the device has started up, or is starting up. -/
def State.coresUp (s : State) : Bool := s.powerState == psRun || s.powerState == psBoot

/-- ILK_N opens (R118): the lasers go off by hardware in every state (R21); where the station's state machine stands, READY or
ACTIVE become SPINNING and a LOAD that acquires its heads waits. -/
def State.ilkOpens (s : State) (i : Nat) : State :=
  if s.ilkOpen i then s
  else
    let s := s.modPins fun p => { p with ilkOpen := pinSet p.ilkOpen i true }
    let s := (s.headDrop (2 * i)).headDrop (2 * i + 1)
    if !s.coresUp then s
    else
      let st := s.stState i
      let s := s.pinView i
      let s := if st = stReady ∨ st = stActive then
          ((s.setStation i stSpinning 0x24).bump (stKey i 0xE0 6)).modStn i fun t => { t with resuming := true }
        else s
      (s.modStn i fun t => { t with offered := false }).when (s.acquiring i) fun s => s.setStFlag i 7 true

/-- ILK_N closes (R118): WAIT_ILK ends, and the next scheduling point acquires the heads where that is due. -/
def State.ilkCloses (s : State) (i : Nat) : State :=
  if s.ilkOpen i then
    let s := s.modPins fun p => { p with ilkOpen := pinSet p.ilkOpen i false }
    if s.coresUp then (s.pinView i).setStFlag i 7 false else s
  else s

/-- DISC_PRES changes (R116). A fall counts as a mismatch in CLAMPED, SPINNING, READY and ACTIVE, and in MAINT entered from
these; in FAULT it does not (DESIGN CHOICE, log entries 43 and 114: the spec does not say whether FAULT with a disc clamped is
"CLAMPED or above"). -/
def State.discPres (s : State) (i : Nat) (high : Bool) : State :=
  let was := s.discHigh i
  let st := s.stState i
  let clamped := decide (stClamped ≤ st ∧ st ≤ stActive) || (st == stMaint && decide (stClamped ≤ (s.stn i).maintFrom))
  let s := s.modPins fun p => { p with discPres := pinSet p.discPres i high }
  if !s.coresUp then s
  else
    let s := s.pinView i
    if was ∧ ¬ high ∧ clamped then s.discMismatch i else s

/-! ### The commands that are events -/

/-- STATION_COMMAND_STEP_DONE (R109). -/
def execStationCommandStepDone (st : Nat) (out : StepOut) (s : State) : Res := .next (s.stepDone st out)

/-- STATION_WATCHDOG (R122). -/
def execStationWatchdog (st : Nat) (s : State) : Res :=
  .next (if s.stState st = stOff then s else s.stnFault st 6 ((s.stn st).points % 2 ^ 32))

/-- MEDIA_OP_DISPATCH (R107). -/
def execMediaOpDispatch (nsid cl : Nat) (s : State) : Res := .next (s.dispatchOp nsid cl)

/-- MEDIA_OP_COMPLETE (R107). -/
def execMediaOpComplete (nsid cl : Nat) (s : State) : Res := .next (s.completeOp nsid cl)

/-- STROBE_TIMEOUT (R124). -/
def execStrobeTimeout (st who : Nat) (s : State) : Res := .next (s.strobeTimeout st who)

/-- DISC_PRES_CHANGE (R116). -/
def execDiscPresChange (st : Nat) (high : Bool) (s : State) : Res := .next (s.discPres st high)

/-- AUTO_CLAMP_DELAY_EXPIRY (R116): in EMPTY with AUTO_CLAMP set and DISC_PRES high. -/
def execAutoClampDelayExpiry (st : Nat) (s : State) : Res :=
  .next (if s.stState st = stEmpty ∧ s.reg (stKey st 0 9) = 1 ∧ s.stFlag st 0 ∧ (s.stn st).cmd.isNone
      ∧ ¬ s.hasOrder (16 + st) 0x12 then s.issueStation st 0x12 0 else s)

/-- IDLE_OFF_TIME_EXPIRY (R105): in EMPTY with DISC_PRES low and a time set. -/
def execIdleOffTimeExpiry (st : Nat) (s : State) : Res :=
  .next (if s.stState st = stEmpty ∧ s.reg (stKey st 0 0x0C) ≠ 0 ∧ ¬ s.stFlag st 0 ∧ (s.stn st).cmd.isNone then
    (s.modStn st fun t => { t with psen := false, psenDrop := false }).setStation st stOff 0x23 else s)

/-- ILK_N_OPEN (R118). -/
def execIlkNOpen (st : Nat) (s : State) : Res := .next (s.ilkOpens st)

/-- ILK_N_CLOSE (R118). -/
def execIlkNClose (st : Nat) (s : State) : Res := .next (s.ilkCloses st)

/-- HEAD_ACQ_TIMEOUT (R119): a used head of an acquisition under way that is below TRACKING. -/
def execHeadAcqTimeout (h : Nat) (s : State) : Res :=
  let i := h / 2
  .next (if (s.stState i = stSpinning ∨ s.stState i = stMaint) ∧ (s.stn i).offered ∧ (s.goodHeads i).contains h
      ∧ s.substate h < hsTracking then s.setHeadFault h 3 else s)

end Sys2Proof.Machine
end

