-- ==== Sys2Proof/Machine/RingState.lean ====
section
/-! DEFINITION. The ring's state (R394) and what hangs on it: the spread namespaces on the master (R410, R416), spin-ups that
wait for a grant (R408), and the ring engines going off and on (R395). -/

namespace Sys2Proof.Machine

def rsDisabled : Nat := 0
def rsAlone : Nat := 1
def rsForming : Nat := 2
def rsRing : Nat := 3
def rsFolded : Nat := 4
def rsOrphaned : Nat := 5
def rsOver : Nat := 6

def State.ringState (s : State) : Nat := s.reg (ringKey 3)

/-- The rows of a zone that at least k columns hold, each from the first on (R416). -/
def heldRows (v : Volume) (z : Nat) : Nat :=
  let n := v.zoneRows z
  let held := v.cols.map fun c => (c.owed.filter fun r => r / 4000 == z).foldl (fun m r => min m (r % 4000)) n
  ((held.mergeSort fun a b => b ≤ a)[v.k - 1]?).getD 0

/-- The write pointer a spread zone has: the rows that k columns hold, or beyond them what is staged (R416). -/
def State.spreadWp (s : State) (v : Volume) (z : Nat) : Nat :=
  let rows := 16 * v.k * heldRows v z
  (s.spread.staged.filter fun l => l.nsid == 256 + v.v && l.cluster / 65536 == z).foldl (fun w l =>
    let top := ((List.range 16).filter fun b => bitOf l.dirty b).foldl (fun m b => max m (b + 1)) 0
    max w (16 * (l.cluster % 65536) + top)) rows

/-- The namespace of a spread volume, as the master presents it (R410). -/
def State.spreadNs (s : State) (v : Volume) : Ns :=
  let zs : List Zone := (List.range v.zones).map fun z =>
    let w := s.spreadWp v z
    ⟨z, if w = 0 then 0 else if 64000 * v.k ≤ w then 4 else 3, w⟩
  { nsid := 256 + v.v, zoned := true, daf := false, nsze := v.zones * 1048576, lbaf := v.lbaf
    zones := zs.filter fun z => z.wp != 0, lia := false, zsize := 1048576, cols := v.k }

def State.attachVolume (s : State) (v : Volume) : State :=
  (s.modNvme fun n => { n with namespaces := (n.namespaces.filter fun x => x.nsid != 256 + v.v) ++ [s.spreadNs v] }).nsChanged (256 + v.v)

/-- A spread namespace is detached: what waits on it answers Namespace Not Ready. -/
def State.detachNs (s : State) (nsid : Nat) : State :=
  let waits := s.nvme.ctxs.filter fun x => match x.op with
    | .read n _ _ _ _ | .write n _ _ _ _ | .flush (.zone n _) _ _ | .flush (.clusters n _ _) _ _ => n == nsid
    | _ => false
  let s := s.forEach waits fun s x => s.complete x.seq cplNotReady
  let s := s.modSpread fun p => { p with gets := p.gets.filter fun g => 256 + g.v != nsid }
  (s.modNvme fun n => { n with namespaces := n.namespaces.filter fun x => x.nsid != nsid }).nsChanged nsid

/-- The spread namespaces of this device follow the ring: attached on the master of a RING or FOLDED ring (R410). -/
def State.spreadFollow (s : State) : State :=
  let have_ := (s.nvme.namespaces.map (·.nsid)).filter nsSpread
  if s.isMaster then
    s.forEach (s.spread.volumes.filter fun v => !have_.contains (256 + v.v)) fun s v => s.attachVolume v
  else s.forEach have_ fun s n => s.detachNs n

/-- A spin-up that waits for a grant takes a local slot only (R408). -/
def State.dropAsks (s : State) : State :=
  s.forEach ((List.range s.part.stations).filter fun i => (s.stn i).asked) fun s i =>
    let s := (s.modStn i fun t => { t with asked := false }).setStFlag i 6 false
    if (s.stn i).spinPhase = 2 then s.needSlot i else s

/-- RING_STATE changes: record 0x0A01, EMCY 0xFF30 into and out of FOLDED, ORPHANED and OVER_BUDGET (R394). -/
def State.setRingState (s : State) (v : Nat) : State :=
  let old := s.ringState
  let loud := fun (x : Nat) => decide (rsFolded ≤ x)
  let s : State := if old = v then s
    else
      let s := (s.setReg (ringKey 3) v).post 0x0A01 0x0F (leBytes 1 old ++ leBytes 1 v)
        (if loud old || loud v then some ⟨0xFF30, false⟩ else none)
      if s.ringRuns then s else s.dropAsks
  s.spreadFollow

/-- The ring engines go off: ports down, no position, no roster (R395). -/
def State.ringOff (s : State) : State :=
  let s := s.setRegs [(portKey 0 1, 0), (portKey 1 1, 0), (ringKey 4, 0xFF), (ringKey 5, 0), (ringKey 9, 0), (ringKey 0x0A, 0), (ringKey 0x0E, 0)]
  ({ s with fabric := Ring.initial }).setRingState rsDisabled

/-- The ring engines are awake: both ports train (R389, R395). -/
def State.ringWake (s : State) : State :=
  if s.ringOn then (s.setRegs [(portKey 0 1, 1), (portKey 1 1, 1)]).setRingState rsAlone else s

end Sys2Proof.Machine
end

