-- ==== Sys2Proof/Machine/HeadCmds.lean ====
section
/-! DEFINITION. The commands of a head (chapter 7): the order routines as their events arrive, the protections and the
time-outs. -/

namespace Sys2Proof.Machine

/-- FOCUS_ON (R162, R164 to R166). -/
def execFocusOn (h : Nat) (ev : FocusEvent) (s : State) : Res := .next (s.focusOn h ev)

/-- TRACK_ON (R162, R166, R167). -/
def execTrackOn (h : Nat) (ev : TrackEvent) (s : State) : Res := .next (s.trackOn h ev)

/-- LAYER_JUMP (R169, R170). -/
def execLayerJump (h : Nat) (ev : LayerEvent) (s : State) : Res := .next (s.layerJump h ev)

/-- TRACK_JUMP (R171). -/
def execTrackJump (h : Nat) (ev : JumpEvent) (s : State) : Res := .next (s.trackJump h ev)

/-- PARK's routine: the order that ran ends ABORTED first (R163, R232); PARK ends DONE. -/
def State.parkOrder (s : State) (h : Nat) : State :=
  let s := if (s.sq h).frame.isNone && (s.sq h).traps.any (·.1 == trapAbort) then s.takeTrap h else s
  let s := s.dispatch h
  if s.runs h 6 then (s.parkHead h).orderDone h 0 else s

/-- PARK (R163). -/
def execPark (h : Nat) (s : State) : Res := .next (s.parkOrder h)

/-- CALIBRATE_LOOP (R185). -/
def execCalibrateLoop (h : Nat) (ev : CalEvent) (s : State) : Res := .next (s.calibrate h ev)

/-- RECOVERY_CONFIRM_EXPIRY (R182): the recovery has succeeded. -/
def execRecoveryConfirmExpiry (h : Nat) (s : State) : Res :=
  if (s.hd h).confirm then
    let s := s.modHd h fun d => { d with recovery := 0, confirm := false, trkFails := 0, over0 := false }
    .next (s.setReg (hdKey h 0x19 4) 0)
  else .next s

/-- SA_SETTLED (R161). -/
def execSaSettled (h : Nat) (s : State) : Res := .next (s.setReg (hdKey h 0x15 0x0C) 0)

/-- SA_SETTLE_TIMEOUT (R161): only while the word is settling. -/
def execSaSettleTimeout (h : Nat) (s : State) : Res :=
  if s.reg (hdKey h 0x15 0x0C) = 1 then
    let s := s.setReg (hdKey h 0x15 0x0C) 2
    if s.runs h 1 then .next (s.focusFail h 0x0F57_0014)
    else if s.runs h 3 then .next (s.headFail h 0x0F57_0014)
    else .next s
  else .next s

/-- ADDRESS_TIMEOUT (R168): FOLLOW reads no address. -/
def execAddressTimeout (h : Nat) (s : State) : Res :=
  if s.runs h 5 then .next (s.followFail h 0x0F57_0015) else .next s

/-- TRK_CAPTURE_TIMEOUT (R167): no crossing at which TRK may close. -/
def execTrkCaptureTimeout (h : Nat) (s : State) : Res :=
  if (s.runs h 2 ∧ (s.sq h).started = 1) ∨ (s.runs h 3 ∧ (s.sq h).started = 1 ∧ s.substate h = hsFocused) then
    .next (s.headFail h 0x0F57_0017)
  else .next s

/-- LAYER_TIMEOUT (R170). -/
def execLayerTimeout (h : Nat) (s : State) : Res := .next (s.layerTimeout h)

/-- OVERPOWER (R176): of a lit beam, after four samples in succession beyond OVERPOWER per cent of P_set. -/
def execOverpower (h b : Nat) (s : State) : Res :=
  if bitOf (s.reg (hdKey h 0x16 0x13)) b ∧ 4 ≤ (s.lp h (4 + b)).hot then .next (s.overpower h b) else .next s

/-- PKL_LOSS (R177): of a link that is up, after four LPW samples in succession without a valid monitor frame. -/
def execPklLoss (h : Nat) (s : State) : Res := if (s.hd h).pklUp ∧ 4 ≤ (s.hd h).sense.noFrame then .next (s.pklLoss h) else .next s

/-- PKL_RETRAIN (R177): one of three retrains of a lost link; PKL_LOSSES counts when they end. -/
def execPklRetrain (h : Nat) (ok : Bool) (s : State) : Res :=
  if (s.hd h).lost then
    if ok then
      let s := (s.modHd h fun d => { d with pklUp := true, identity := true, lost := false, retrains := 0 }).bump
        (hdKey h 0x19 5)
      .next (if stSpinning ≤ s.stState (h / 2) ∧ s.stState (h / 2) ≤ stActive then s.reacquire h else s)
    else if (s.hd h).retrains < 2 then .next (s.modHd h fun d => { d with retrains := d.retrains + 1 })
    else
      let s := (s.modHd h fun d => { d with lost := false, retrains := 0 }).bump (hdKey h 0x19 5)
      .next (s.setHeadFault h 2)
  else .next s

/-- WRITE_GUARD_INHIBIT (R179, R181): guard 0 TRK, 1 FOC, 2 shock, while the head is WRITING, the guard enabled and a sample
beyond it. -/
def execWriteGuardInhibit (h guard : Nat) (s : State) : Res :=
  if s.substate h = hsWriting ∧ bitOf (s.reg (hdKey h 0x18 6)) guard ∧ bitOf (s.hd h).sense.beyond guard ∧ ¬ (guard = 2 ∧ s.shockOut (h / 2)) then
    .next (s.guardInhibit h guard 0)
  else .next s

/-- The off-track decision of a beam the part has (R67, R180): its gate is held closed beyond BEAM_OT_LIMIT, and no longer within it. -/
def State.offTrack (s : State) (h b : Nat) (o : Int) : State :=
  if s.beams ≤ b then s
  else
  let s := s.setRegI 16 (hdKey h 0x14 (6 + b)) o
  if s.substate h = hsWriting then s
  else if s.reg (hdKey h 0x14 5) < o.natAbs then
    let s := s.modHd h fun d => { d with gates := d.gates.modify b fun g => { g with offTrack := true } }
    let s := (s.bump (hdKey h 0x18 0x0A)).raiseTrap h trapGuard 2 3
    s.note 0x0404 (engSource h) (leBytes 1 3 ++ leBytes 1 b)
  else s.modHd h fun d => { d with gates := d.gates.modify b fun g => { g with offTrack := false } }

/-- BEAM_OFFTRACK (R180). -/
def execBeamOfftrack (h b : Nat) (o : Int) (s : State) : Res := .next (s.offTrack h b o)

end Sys2Proof.Machine
end

