-- ==== Sys2Proof/Machine/Channel.lean ====
section
/-! DEFINITION. The read channel (chapter 11): estimates of a resync block, the spare ADC, the sample ring, and the LDPC
pool with its decoding ladder. -/

namespace Sys2Proof.Machine

/-! ### Converters (R271, R272) -/

/-- Whether the DEFECT hold of the head stands (R178). -/
def State.defectHold (s : State) (h : Nat) : Bool :=
  bitOf (s.holdCause h 0) hcDefect || bitOf (s.holdCause h 1) hcDefect

/-- An ADC's calibration leaves it DEGRADED (R272). -/
def State.degradeAdc (s : State) (h a : Nat) : State :=
  let s := s.setRegBit (chKey h 8 4) a true
  let spare := s.reg (chKey h 8 3)
  let deg := s.reg (chKey h 8 4)
  if a = 8 then
    s.forEach (bitsIn 8 deg) fun s b => s.setRegBit (chKey h 0 5) b true
  else if spare = a then s.setReg (chKey h 8 5) 1
  else if spare = 0xFF ∧ ¬ bitOf deg 8 then s
  else s.setRegBit (chKey h 0 5) a true

/-- The end of a handover's overlap (R271): `rms` is the difference after trim, in 0.01 LSB. -/
def State.handover (s : State) (h b : Nat) (toSpare : Bool) (rms : Nat) : State :=
  let spare := s.reg (chKey h 8 3)
  let deg := s.reg (chKey h 8 4)
  let may := decide (b < s.beams) && (if toSpare then spare == 0xFF && !bitOf deg 8 else spare == b && !bitOf deg b)
  if !may then s
  else if s.substate h = hsWriting ∨ s.defectHold h ∨ s.reg (chKey h 8 2) < rms then s.bump (chKey h 8 7)
  else
    let s := (s.setReg (chKey h 8 3) (if toSpare then b else 0xFF)).bump (chKey h 8 6)
    if toSpare ∧ bitOf deg b then s.setReg (chKey h 8 5) 1 else s

/-- ADC_HANDOVER (R271). -/
def execAdcHandover (h b : Nat) (toSpare : Bool) (rms : Nat) (s : State) : Res := .next (s.handover h b toSpare rms)

/-! ### Estimates (R276, R277) -/

def absSum (w : List Int) : Int := (w.map fun v => (v.natAbs : Int)).sum
/-- Early taps less late ones of one side. -/
def asym (w : List Int) : Int := w.getD 0 0 + w.getD 1 0 - w.getD 3 0 - w.getD 4 0

/-- o_b as a fraction of OT_SCALE and c_b as a fraction (R277), of the sides whose neighbour is used; `r` is A_REF. None: no
estimate. -/
def estimate (win wout : Option (List Int)) (r : Int × Nat) : Option ((Int × Int) × (Int × Int)) :=
  match win, wout with
  | some i, some o => some ((absSum i - absSum o, absSum i + absSum o), (asym i + asym o, absSum i + absSum o))
  | some i, none => some ((absSum i * r.2 - r.1, 2 * r.1), (asym i, absSum i))
  | none, some o => some ((r.1 - absSum o * r.2, 2 * r.1), (asym o, absSum o))
  | none, none => none

/-! ### Neighbours (R274, R275) -/

/-- The last frame start of a beam. -/
def State.lastStart (s : State) (h b : Nat) : Option (Nat × Nat) := ((s.hd h).starts.getD b []).head?

/-- The PSA of the same sector on the track `d` outward, where that track lies in the same layer and recording zone (R274). -/
def State.besides (s : State) (h psa : Nat) (d : Int) : Option Nat :=
  let d2 := s.daf2 (h / 2)
  let p := psaTrack d2 psa
  let t : Int := p.1 + d
  if 0 ≤ t ∧ trackZone t.toNat = trackZone p.1 ∧ t < 170000 then some (psaAt d2 (psa / 2 ^ 29) t.toNat p.2) else none

/-- Whether a frame of a PSA that a beam did not read in HUNT is held in the ring (R274, R275: located by PSA). -/
def State.inRing (s : State) (h b psa : Nat) : Bool := s.ring.any fun f => f.h == h && f.b == b && f.psa == psa && !f.flags.testBit 2

/-- A frame start of a beam at a PSA that is being produced now, its alignment valid (R274): its device sample count. -/
def State.startOf (s : State) (h b psa : Nat) : Option Nat :=
  if bitOf (s.hd h).hunt b || !bitOf (s.hd h).anchored b || !bitOf (s.reg (hdKey h 0x16 0x13)) b then none
  else (((s.hd h).starts.getD b []).find? fun x => x.1 == psa).map (·.2)

/-- A time in device samples as channel bits of the head's zone. -/
def State.inBits (s : State) (h : Nat) (n : Int) : Int := roundDiv (n * s.channelRate (h / 2) (trackZone (s.reg (hdKey h 0x13 2)))) 1200000000

/-- The skew of a beam's spot to the neighbour `d` outward, measured at the frame starts of the same sector (R275). -/
def State.skewTo (s : State) (h b : Nat) (d : Int) : Option Int :=
  match s.lastStart h b with
  | none => none
  | some (psa, n) =>
    match s.besides h psa d with
    | none => none
    | some q => (s.startOf h ((b : Int) + d).toNat q).map fun m => s.inBits h ((m : Int) - n)

/-- Whether a beam's inner or outer neighbour is used (Table 11.1): the adjacent beam of the same revolution within 2,048 channel
bits; for beam 0 the last beam's frame in the ring. -/
def State.neighbour (s : State) (h b : Nat) (outer : Bool) : Bool :=
  if outer then b + 1 < s.beams && (match s.skewTo h b 1 with | some k => decide (k.natAbs ≤ 2048) | none => false)
  else if b = 0 then
    match s.lastStart h 0 with
    | some (psa, _) => (match s.besides h psa (-1) with | some q => s.inRing h (s.beams - 1) q | none => false)
    | none => false
  else match s.skewTo h b (-1) with | some k => decide (k.natAbs ≤ 2048) | none => false

/-- The delay of the head's canceller outputs: the largest skew in use (R275), in channel bits. -/
def State.headDelay (s : State) (h : Nat) : Nat :=
  (List.range s.beams).foldl (fun m b => match s.skewTo h b 1 with
    | some k => if k.natAbs ≤ 2048 then max m k.natAbs else m
    | none => m) 0

/-- The weights of the sides in use. -/
def State.sides2 (s : State) (h : Nat) (x : BeamBlock) : Option (List Int) × Option (List Int) :=
  (if s.neighbour h x.b false then some x.win else none, if s.neighbour h x.b true then some x.wout else none)

/-- A_REF of a block: the mean of half the sums over the beams that have both neighbours, else the last one (R277). -/
def State.blockRef (s : State) (h : Nat) (l : List BeamBlock) (last : Int × Nat) : Int × Nat :=
  let both := l.filterMap fun x => match s.sides2 h x with
    | (some i, some o) => if x.erased then none else some (absSum i + absSum o)
    | _ => none
  if both.isEmpty then last else (both.sum, 2 * both.length)

/-! ### A resync block (R276 to R279) -/

/-- Bytes of INTEGER16 values, and the values of bytes. -/
def i16Bytes (l : List Int) : List Byte := l.flatMap fun v => leBytes 2 (ofSigned 16 v)
def i16At (b : List Byte) (at_ n : Nat) : List Int := (List.range n).map fun j => toSigned 16 (field b (at_ + 2 * j) 2)

/-- Put bytes into an object at an offset. -/
def State.setRawAt (s : State) (k at_ : Nat) (b : List Byte) : State :=
  let old := s.raw k
  s.setRaw k (old.take at_ ++ b ++ old.drop (at_ + b.length))

/-- The recording zone of the pilot (Table 10.2); on Blu-ray Disc the band of equal radius, of 32 from 24.0 to 58.0 mm (R294). -/
def State.recZone (s : State) (h : Nat) : Nat :=
  if s.bdIn (h / 2) then min 31 ((s.regI 32 (sledKey h 0x1B) - 24000).toNat / 1063) else trackZone (s.reg (hdKey h 0x13 2))

/-- Adaptation is frozen (R279): erasure, a HOLD of FOC or TRK, the beam writes. -/
def State.frozen (s : State) (h : Nat) (x : BeamBlock) : Bool :=
  x.erased || s.loopState h 0 == lsHold || s.loopState h 1 == lsHold
    || (match (s.hd h).gates[x.b]? with | some g => g.open_ | none => false)

/-- The coefficients take a block's adaptation (R276, R278, R279); a side without its neighbour keeps its weights, and on Blu-ray Disc
the canceller is off (R294). -/
def State.adapt (s : State) (h : Nat) (x : BeamBlock) : State :=
  let b := x.b
  if s.frozen h x then s
  else
    let s := if s.reg (chKey h 3 1) = 0 then s else s.setRawAt (chKey h 4 0) (30 * b) (i16Bytes x.eq)
    let s := if s.reg (chKey h 3 2) = 0 ∨ s.bdIn (h / 2) then s
      else
        let w := s.sides2 h x
        let s := match w.1 with | some w => s.setRawAt (chKey h 5 0) (20 * b) (i16Bytes w) | none => s
        match w.2 with | some w => s.setRawAt (chKey h 5 0) (20 * b + 10) (i16Bytes w) | none => s
    let l := s.reg (hdKey h 0x13 1)
    if s.reg (chKey h 3 3) = 0 ∨ 8 ≤ l then s
    else s.setRawAt (chKey h 6 0) (2048 * b + 256 * l + 8 * s.recZone h) (i16Bytes x.tgt)

/-- The off-track estimate reaches BEAM_OFFTRACK's decision (R180); a quotient by zero is a free value (log entry 40). -/
def State.deliver (s : State) (h : Nat) (x : BeamBlock) (r : Int × Nat) : State :=
  let w := s.sides2 h x
  match if x.erased then none else estimate w.1 w.2 r with
  | none => s
  | some (o, c) =>
    let k : Int := s.reg (chKey h 3 6)
    let f := s.fresh
    let v := if o.2 = 0 then toSigned 16 (Config.freeValue f.1) else roundDiv (k * o.1) o.2.natAbs
    let s := if o.2 = 0 then f.2 else s
    let s := s.modHd h fun d => { d with coma := d.coma.set x.b (c.1, c.2.natAbs) }
    s.offTrack h x.b (clampInt (-32768) 32767 v)

/-- The digital AGC (R270): the gain, in 0.25 dB from 0 to 30 dB, that brings the rms of the samples to AGC_TARGET. -/
def State.agc (s : State) (h : Nat) (x : BeamBlock) : State :=
  let k := chKey h 9 (1 + 8 * 6 + x.b)
  let old : Int := s.reg k
  let step : Int := if x.rms = 0 then 120
    else roundDiv (((lg2 (100 * s.reg (chKey h 1 1)) : Int) - lg2 x.rms) * 24082) (1000 * 2 ^ 24)
  let new := (clampInt 0 120 (old + step)).toNat
  let rate := s.channelRate (h / 2) (trackZone (s.reg (hdKey h 0x13 2)))
  (s.setReg k new).emit (.frontEnd h x.b new (rate * s.reg (chKey h 1 2) / 100))

/-- The mean square of the change of the weights in use over a block stays below CONV_LIMIT (R276). -/
def State.steady (s : State) (h : Nat) (x : BeamBlock) (old : List Byte) : Bool :=
  let new := s.raw (chKey h 5 0)
  let one := fun (at_ : Nat) => (List.zipWith (fun (a b : Int) => (a - b) * (a - b)) (i16At old at_ 5) (i16At new at_ 5)).sum
  let w := s.sides2 h x
  let n := (if w.1.isSome then 5 else 0) + (if w.2.isSome then 5 else 0)
  let e := (if w.1.isSome then one (20 * x.b) else 0) + (if w.2.isSome then one (20 * x.b + 10) else 0)
  decide (0 < n) && decide (e < (s.reg (chKey h 3 4) : Int) * s.reg (chKey h 3 4) * n)

/-- One beam's block: AGC, adaptation, timing, skew, convergence, estimates. -/
def State.beamBlock (s : State) (h : Nat) (r : Int × Nat) (x : BeamBlock) : State :=
  let b := x.b
  let old := s.raw (chKey h 5 0)
  let s := (s.agc h x).adapt h x
  let s := s.setReg (chKey h 9 (1 + 8 * 5 + b)) (ofSigned 16 x.freq)
  if s.bdIn (h / 2) then s
  else
    let s := match s.skewTo h b 1 with | some k => s.setReg (chKey h 9 (1 + 8 * 4 + b)) (ofSigned 16 (clampInt (-32768) 32767 k)) | none => s
    let n := if s.steady h x old then (s.hd h).conv.getD b 0 + 1 else 0
    let s := s.modHd h fun d => { d with conv := d.conv.set b (min n 1024) }
    let s := s.setRegBit (chKey h 0 2) b (s.reg (chKey h 3 5) ≤ n)
    let s := (s.setRegBit (chKey h 0 3) b (s.neighbour h b false)).setRegBit (chKey h 0 4) b (s.neighbour h b true)
    s.deliver h x r

/-- Beams in service after a block (R173, R277). -/
def State.inService (s : State) (h : Nat) (l : List BeamBlock) : Nat :=
  l.foldl (fun m x =>
    if !x.erased && (s.neighbour h x.b false || s.neighbour h x.b true) && !bitOf (s.reg (chKey h 0 5)) x.b
      && !bitOf (s.reg (hdKey h 0x16 0x14)) x.b then setBit m x.b else m) 0

/-- RESYNC_BLOCK (R19, R276, R277): of a head that tracks, with its channel on. TLT and BLR close again after a band
once a full block's estimates have arrived (R174). On Blu-ray Disc beam 0 of head U alone reads, and gives no estimates (R294). -/
def execResyncBlock (h : Nat) (blocks : List BeamBlock) (s : State) : Res :=
  let bd := s.bdIn (h / 2)
  let l := blocks.filter fun x => x.b < s.beams && bitOf (s.reg (hdKey h 0x16 0x13)) x.b && (!bd || (x.b == 0 && h % 2 == 0))
  .next (if hsTracking ≤ s.substate h ∧ s.domState (6 * (h / 2) + 3 + h % 2) = 3 then
    let r := s.blockRef h l (s.hd h).aref
    let s := s.modHd h fun d => { d with aref := r }
    let s := s.forEach l fun s x => s.beamBlock h r x
    if bd then s
    else
      let s := s.setReg (hdKey h 0x14 4) (s.inService h l)
      if (s.hd h).tiltBack ∧ s.substate h ≠ hsWriting then (s.closeTilt h).modHd h fun d => { d with tiltBack := false }
      else s
  else s)

/-! ### The sample ring (R283, R284) -/

/-- Frames held per beam (Table 11.2). -/
def framesHeld (p : Part) : Nat :=
  match p.stations, p.wide with
  | 8, true => 1612
  | 4, true => 1612
  | 2, false => 6448
  | _, _ => 3224

/-- A frame is written to the ring; the oldest of its beam goes. -/
def State.ringWrite (s : State) (f : RingFrame) : State :=
  { s with ring := (s.ring.filter fun x => !(x.h == f.h && x.b == f.b && x.n + framesHeld s.part ≤ f.n)) ++ [f] }

/-- The channel bits that the envelope detector flags (R280): windows of 32 whose peak-to-peak lies outside ENV_LO to ENV_HI per cent
of its average over the 1,024 bits before, with ENV_GUARD bits on each side. -/
def envelope (samples : List Byte) (lo hi guard : Nat) : List (Nat × Nat) :=
  let pp := (pieces 32 (samples.length / 32) samples).map fun w =>
    let v := w.map BitVec.toInt
    (v.foldl max (v.headD 0) - v.foldl min (v.headD 0)).toNat
  (pp.foldl (fun (x : List (Nat × Nat) × List Nat × Nat) p =>
    let sum := x.2.1.sum
    let n := x.2.1.length
    let bad := decide (0 < n) && (decide (100 * p * n < lo * sum) || decide (hi * sum < 100 * p * n))
    (if bad then x.1 ++ [(32 * x.2.2 - guard, min 41584 (32 * x.2.2 + 32 + guard))] else x.1, (p :: x.2.1).take 32, x.2.2 + 1)) ([], [], 0)).1

/-- The head's defect spans that lie in a frame which began at a device sample count (R178, R280). -/
def State.defectSpans (s : State) (h count : Nat) : List (Nat × Nat) :=
  let d := (s.hd h).sense
  let all := d.spans ++ (if d.defect then [(d.defAt, s.sampleCount)] else [])
  all.filterMap fun x =>
    let a := s.inBits h ((x.1 : Int) - count)
    let z := s.inBits h ((x.2 : Int) - count)
    if z < 0 ∨ 41584 ≤ a then none else some (a.toNat, min 41584 (z.toNat + 1))

/-- The erasure map of a frame (R280). -/
def State.erasures (s : State) (h : Nat) (f : FrameIn) : List (Nat × Nat) :=
  envelope f.samples (s.reg (chKey h 7 1)) (s.reg (chKey h 7 2)) (s.reg (chKey h 7 3)) ++ (f.clips.map fun k => (k, k + 1))
    ++ s.defectSpans h s.sampleCount

/-- A sector whose mean squared error exceeds four times its average over the last 64 brings back the coefficients saved at the last
first-pass success (R279). -/
def State.watchMse (s : State) (h b mse : Nat) : State :=
  let l := (s.hd h).mses.getD b []
  let s := s.modHd h fun d => { d with mses := d.mses.set b ((mse :: l).take 64) }
  if l.isEmpty ∨ mse * l.length ≤ 4 * l.sum then s
  else
    let s := s.bump (chKey h 0x0B (1 + 8 * 4 + b))
    match (s.hd h).saved.getD b [] with
    | [] => s
    | v => (s.setRawAt (chKey h 4 0) (30 * b) (v.take 30)).setRawAt (chKey h 5 0) (20 * b) (v.drop 30)

/-- The frame of a sector start (R279, R282, R283): of a beam that reads. -/
def State.keepFrame (s : State) (h b : Nat) (flags : Nat) (fr : Option FrameIn) : State :=
  let open_ : Bool := match (s.hd h).gates[b]? with | some g => g.open_ | none => false
  match fr with
  | none => s
  | some f =>
    if open_ || !bitOf (s.reg (hdKey h 0x16 0x13)) b then s
    else
      let n := (s.hd h).frames.getD b 0 + 1
      let spans := s.erasures h f
      let s := s.modHd h fun d => { d with
        frames := d.frames.set b n, starts := d.starts.modify b fun l => ((f.psa, s.sampleCount) :: l).take 2 }
      let s := (s.addReg 32 (chKey h 0x0B (1 + 8 + b)) f.clips.length).watchMse h b f.mse
      let s := if f.streamFail then s.bump (key 0x4680 3) else s
      let fl := flags + (if s.reg (chKey h 8 3) = b then 8 else 0) + (if spans.isEmpty then 0 else 16) + (if f.streamFail then 32 else 0)
      let at_ := fun k => s.reg (stKey (h / 2) 0x10 k)
      s.ringWrite ⟨h, b, n, f.psa, s.sampleCount, at_ 6, at_ 7, at_ 1 / 64, fl, spans, f.samples⟩

/-- A write of REQUEST of H+0x0D (R295): the newest frame of the beam with that PSA. -/
def State.dumpRequest (s : State) (h v : Nat) : Applied :=
  if v ≠ 1 then .error 0x0609_0030
  else
    let psa := s.reg (chKey h 0x0C 1)
    let b := s.reg (chKey h 0x0C 2)
    match (s.ring.filter fun f => f.h == h && f.b == b && f.psa == psa).getLast? with
    | some f => .ok ((s.setRaw (chKey h 0x0E 0) f.samples).endResult (chIx h 0x0D) [(5, f.count), (6, f.flags)] 0)
    | none => .ok (s.endResult (chIx h 0x0D) [] 0x0F5B_0001)

/-! ### The LDPC pool (R285 to R292) -/

/-- The lowest slice that is on, in the pool and has a free lane. -/
def State.freeSlice (s : State) : Option Nat :=
  (List.range 24).find? fun k => s.domState (48 + k) == 3 && !s.sliceOut k && decide (s.lanesOn k < 12)

def State.sector (s : State) (nsid cl idx : Nat) : Option Sector :=
  s.pool.find? fun x => x.nsid == nsid && x.cl == cl && x.idx == idx
def State.modSector (s : State) (nsid cl idx : Nat) (f : Sector → Sector) : State :=
  { s with pool := s.pool.map fun x => if x.nsid = nsid ∧ x.cl = cl ∧ x.idx = idx then f x else x }
def State.dropSector (s : State) (nsid cl idx : Nat) : State :=
  { s with pool := s.pool.filter fun x => !(x.nsid == nsid && x.cl == cl && x.idx == idx) }

/-- Whether what a sector is decoded for still stands (R292): its media operation, or the read-back of its line. -/
def State.stillWanted (s : State) (x : Sector) : Bool :=
  if x.verify then (match s.line x.nsid x.cl with | some l => l.state == .writing | none => false)
  else (s.op x.nsid x.cl).isSome

/-- Whether a retry asks for a lane: a paused run, or a probe still to run within RETRY_PARALLEL (R288, R289). -/
def Sector.wantsLane (x : Sector) : Bool :=
  match x.stage with
  | .ringWait | .fullWait => true
  | .probing =>
    (x.probes.any fun p => !p.ended && p.slice.isNone)
      || (!x.offs.isEmpty && decide ((x.probes.filter fun p => !p.ended).length < x.parallel_))
  | _ => false

/-- Whether a host command waits for the sector's cluster (R287). -/
def State.hostWaits (s : State) (x : Sector) : Bool :=
  match s.op x.nsid x.cl with
  | some o => o.kind == .demand
  | none => false

/-- The class of a sector that asks for a lane, lowest first (R25, R287): first pass, verify, retry for a host command,
other retry. -/
def State.laneClass (s : State) (x : Sector) : Option Nat :=
  if x.stage = .firstWait then some (if x.verify then 1 else 0)
  else if x.wantsLane then some (if s.hostWaits x then 2 else 3)
  else none

/-- The sector that takes the next free lane: the lowest class, and in it the oldest. -/
def State.nextForLane (s : State) : Option Sector :=
  (List.range 4).findSome? fun c =>
    (s.pool.filter fun x => s.laneClass x == some c).foldl (fun m x =>
      match m with
      | none => some x
      | some y => if x.since < y.since then some x else some y) none

/-- The offsets of rung 2 in order (R289). -/
def probeOffsets (early : Int) (most : Nat) : List Int :=
  let first := if early ≠ 0 ∧ early.natAbs ≤ most then [early] else []
  first ++ ((List.range most).flatMap fun i => [((i + 1 : Nat) : Int), -((i + 1 : Nat) : Int)]).filter fun o => !first.contains o

/-- A sector is lost to rungs 1 and 2: it waits for the outer code. -/
def Sector.lose (x : Sector) : Sector := { x with stage := .lost, slice := none, probes := [], offs := [] }
/-- A sector succeeds. -/
def Sector.succeed (x : Sector) : Sector := { x with stage := .good, slice := none, probes := [], offs := [] }

/-- Rung 1 has failed (R288, R289). -/
def Sector.ringFailed (x : Sector) (now : Nat) : Sector :=
  let offs := probeOffsets x.early x.offMax
  if offs.isEmpty then x.lose
  else { x with stage := .probing, slice := none, offs := offs, probes := [], since := now }

/-- Every probe has ended: the full run at the best offset, ties to the earlier probe (R289). -/
def Sector.probesDone (x : Sector) (now : Nat) : Sector :=
  match x.probes.foldl (fun (m : Option Probe) p =>
      match m with
      | none => some p
      | some q => if p.unsat < q.unsat then some p else some q) none with
  | some p => { x with stage := .fullWait, off := p.off, probes := [], globals := 0, best := none, stall := 0, since := now }
  | none => x.lose

/-- Wake a further slice when a sector waits for a lane and none is free (R83). -/
def State.wakeSlice (s : State) : State :=
  if s.freeSlice.isSome then s
  else
    match (List.range 24).find? (fun k => s.domState (48 + k) == 1 && !s.power.slices.contains k) with
    | some k => ({ s with power := { s.power with slices := s.power.slices ++ [k] } }).updDomain (48 + k)
    | none => s

/-- The PSA expected of a sector: that of the place its cluster is read from (R255, R263, R286), or of the place a test read names. -/
def State.psaExpected (s : State) (nsid cl idx : Nat) : Nat :=
  if testCluster 0 ≤ cl then psaOf (cl - testCluster 0) idx
  else psaOf ((s.side nsid).place (ownPlace (s.daf2 (nsStation nsid)) cl)) idx

/-- A sector enters the pool, or decodes again after a re-read (R282, R285, R291): its soft values reach a lane 2 µs and the head's
delay after its last bit; a sector of a beam in HUNT is lost (R257). -/
def State.enterPool (s : State) (h b : Nat) (a : SectorAsk) (vals : List Int) (early : Int) (hunted : Bool) : State :=
  let i := h / 2
  let psa := s.psaExpected a.nsid a.cl a.idx
  let rate := s.channelRate i (trackZone (s.reg (hdKey h 0x13 2)))
  let delay := 2 + (s.headDelay h * 1000000 + rate) / (rate + 1)
  let new : Sector :=
    { h := h, b := b, nsid := a.nsid, cl := a.cl, idx := a.idx, psa := psa, frame := (s.hd h).frames.getD b 0, early := early
      verify := a.verify, since := s.now + delay, stage := if hunted then .lost else .firstWait, slice := none
      enable := s.reg (key 0x4681 3) == 1, maxGlobals := s.reg (key 0x4681 4), maxStall := s.reg (key 0x4681 6)
      parallel_ := s.reg (key 0x4681 8), offMax := s.reg (stKey i 0xC3 7), maxReread := s.reg (key 0x4681 9)
      innerFirst := s.reg (key 0x4681 1) + s.reg (key 0x4681 2), innerRetry := s.reg (key 0x4681 5), innerProbe := s.reg (key 0x4681 7)
      soft := ldpcInput psa vals, data := [], errs := 0, copied := false
      off := 0, globals := 0, best := none, stall := 0, probes := [], offs := [], reread := 0, rung := 0 }
  match s.sector a.nsid a.cl a.idx with
  | none => if s.stillWanted new then ({ s with pool := s.pool ++ [new] }).wakeSlice else s
  | some x =>
    if x.stage = .await then
      (s.modSector a.nsid a.cl a.idx fun x => { new with reread := x.reread }).wakeSlice
    else s

/-- SECTOR_START (R256, R282, R283): of a beam whose head has TRK closed; `det` are the detector's values from 160 channel bits
before the predicted start. The read-back of a band begins with its first sector (R309). On Blu-ray Disc beam 0 of head U keeps
its recording frames and has no sync search and no pool (R267, R294). -/
def execSectorStart (h b : Nat) (det : List Int) (fr : Option FrameIn) (ask : Option SectorAsk) (s : State) : Res :=
  .next (if hsTracking ≤ s.substate h ∧ b < s.beams then
    if s.bdIn (h / 2) then (if b = 0 ∧ h % 2 = 0 then s.keepFrame h b 0 fr else s)
    else
      let hunted := bitOf (s.hd h).hunt b
      let before := s.reg (chKey h 0x1C (1 + b))
      let beyond := s.reg (chKey h 0x1D (1 + b))
      let r := s.sectorStart h b det
      let s := r.1
      let fl := (if s.reg (chKey h 0x1C (1 + b)) = before then 0 else 1) + (if s.reg (chKey h 0x1D (1 + b)) = beyond then 0 else 2)
        + (if hunted then 4 else 0)
      let s := s.keepFrame h b fl fr
      match ask, fr with
      | some a, some f =>
        let s := if (s.erasures h f).isEmpty then s else s.bump (chKey h 0x0B (1 + b))
        let s := if a.verify ∧ s.reg (wrKey h 1) = 3 then s.setReg (wrKey h 1) 4 else s
        if nsStation a.nsid = h / 2 then s.enterPool h b a r.2 (-((s.hd h).align.getD b 0)) hunted else s
      | _, _ => s
  else s)

/-- LDPC_LANE_GRANT (R287): a free lane goes to the first in order; what no longer waits for anything leaves the pool. -/
def State.laneGrant (s : State) : State :=
  let s := { s with pool := s.pool.filter fun x => s.stillWanted x || x.slice.isSome || x.probes.any (·.slice.isSome) }
  match s.freeSlice, s.nextForLane with
  | some k, some x =>
    let set := fun (s : State) (f : Sector → Sector) => s.modSector x.nsid x.cl x.idx f
    if x.stage = .firstWait then
      let w := min 65535 (s.now - x.since)
      let s := if x.verify then s else s.setReg (key 0x4682 0x19) (max w (s.reg (key 0x4682 0x19)))
      set s fun x => { x with stage := .first, slice := some k }
    else if !x.copied && !(s.ring.any fun f => f.h == x.h && f.b == x.b && f.n == x.frame) then
      (set s Sector.lose).bump (key 0x4680 4)
    else
      let s := set s fun x => { x with copied := true }
      if x.stage = .ringWait then set s fun x => { x with stage := .ring, slice := some k }
      else if x.stage = .fullWait then set s fun x => { x with stage := .full, slice := some k }
      else
        match x.probes.find? (fun p => !p.ended && p.slice.isNone) with
        | some p => set s fun x => { x with probes := x.probes.map fun q => if q.off = p.off then { q with slice := some k } else q }
        | none =>
          match x.offs with
          | o :: r => set s fun x => { x with offs := r, probes := x.probes ++ [⟨o, 0, 0, some k, false⟩] }
          | [] => s
  | none, some _ => s.wakeSlice
  | _, none => s

def execLdpcLaneGrant (s : State) : Res := .next s.laneGrant

/-- How an attempt's checks come out (R286). -/
inductive Verdict where
  | ok | failed | miscorrected | wrongAddress
  deriving DecidableEq, Repr

/-- The three checks of a sector's attempt (R286), within the inner iterations its schedule has (Table 11.3): the syndrome, SECTOR_CRC,
the header's PSA. -/
def Sector.verdict (x : Sector) (most : Nat) (d : DecodeOut) : Verdict :=
  if 0 < d.unsat ∨ most < d.iters then .failed
  else if !sectorOk d.bytes then .miscorrected
  else if field d.bytes 0 4 ≠ x.psa then .wrongAddress
  else .ok

/-- Miscorrections and address mismatches are counted (Table 11.8). -/
def State.countVerdict (s : State) (x : Sector) : Verdict → State
  | .miscorrected => s.bump (chKey x.h 0x0A (1 + 8 * 7 + x.b))
  | .wrongAddress => s.bump (chKey x.h 0x0B (1 + 8 * 3 + x.b))
  | _ => s

/-- The quality figures of a beam (Table 11.8): averages over its last 64 decoded sectors. -/
def State.quality (s : State) (x : Sector) (snr : Int) (d : DecodeOut) (first : Bool) : State :=
  let k := fun j => chKey x.h 9 (1 + 8 * j + x.b)
  let l := ((snr, d.errs, if first then d.iters else 0) :: (s.hd x.h).figs.getD x.b []).take 64
  let n := l.length
  let m := ((s.hd x.h).mses.getD x.b [])
  let it := l.filter fun y => 0 < y.2.2
  let s := s.modHd x.h fun y => { y with figs := y.figs.set x.b l }
  s.setRegs [(k 0, ofSigned 16 (roundDiv (l.map (·.1)).sum n)), (k 1, if m.isEmpty then 0 else m.sum / m.length),
    (k 2, (l.map (·.2.1)).sum * 1000000000 / (38400 * n)), (k 3, if it.isEmpty then 0 else 100 * (it.map (·.2.2)).sum / it.length)]

/-- A decode counter of the beam: j of Table 11.8; after a re-read success counts at rung 4. -/
def State.countRung (s : State) (x : Sector) (j : Nat) : State :=
  let j := if 0 < x.reread then 5 else j
  let s := (s.bump (chKey x.h 0x0A (1 + x.b))).bump (chKey x.h 0x0A (1 + 8 * j + x.b))
  s.modSector x.nsid x.cl x.idx fun x => { x with rung := j }

/-- A sector has decoded: its bytes go to the media operation that asked for them (R359). -/
def State.decoded (s : State) (x : Sector) (b : List Byte) : State :=
  if x.verify then s else s.modOp x.nsid x.cl fun o => { o with got := insertKey x.idx b o.got }

/-- Save the coefficients a first-pass success leaves (R279). -/
def State.saveCoef (s : State) (x : Sector) : State :=
  let e := ((s.raw (chKey x.h 4 0)).drop (30 * x.b)).take 30
  let c := ((s.raw (chKey x.h 5 0)).drop (20 * x.b)).take 20
  s.modHd x.h fun d => { d with saved := d.saved.set x.b (e ++ c) }

/-- FIRST_PASS_DONE (R286, R288, R310). -/
def State.firstPass (s : State) (nsid cl idx : Nat) (snr : Int) (d : DecodeOut) : State :=
  match s.sector nsid cl idx with
  | none => s
  | some x =>
    if x.stage != .first then s
    else if !s.stillWanted x then s.dropSector nsid cl idx
    else
      let v := x.verdict x.innerFirst d
      let s := s.countVerdict x v
      if v = .ok then
        let s := (((s.countRung x 1).saveCoef x).quality x snr d true).decoded x d.bytes
        s.modSector nsid cl idx fun x => { x.succeed with data := d.bytes, errs := d.errs }
      else if x.verify || !x.enable then s.modSector nsid cl idx Sector.lose
      else s.modSector nsid cl idx fun x => { x with stage := .ringWait, slice := none, since := s.now, globals := 0, best := none, stall := 0 }

def execFirstPassDone (nsid cl idx : Nat) (snr : Int) (out : DecodeOut) (s : State) : Res := .next (s.firstPass nsid cl idx snr out)

/-- Whether a first pass or a verify waits while every lane is taken: a retry that ends a global iteration gives way, as it does on a
slice marked for its test (R469). -/
def State.preempts (s : State) : Bool :=
  s.freeSlice.isNone && s.pool.any fun x => x.stage == .firstWait

/-- One global of a full schedule ends unsuccessful: its new counts, and whether the run has stalled or is exhausted. -/
def Sector.globalEnds (x : Sector) (n : Nat) : Sector × Bool :=
  let fell : Bool := match x.best with | none => true | some m => decide (n < m)
  let y := { x with globals := x.globals + 1, best := if fell then some n else x.best, stall := if fell then 0 else x.stall + 1 }
  (y, decide (x.maxStall ≤ y.stall) || decide (x.maxGlobals ≤ y.globals))

/-- RETRY_GLOBAL_END (R288, R289, R292): a global of the run, or of the probe, at `off`. -/
def State.retryGlobal (s : State) (nsid cl idx : Nat) (off : Int) (d : DecodeOut) : State :=
  match s.sector nsid cl idx with
  | none => s
  | some x =>
    let set := fun (s : State) (f : Sector → Sector) => s.modSector nsid cl idx f
    let probe := x.probes.find? fun p => p.off == off && p.slice.isSome
    let runs := decide (x.stage = .ring ∧ off = 0) || decide (x.stage = .full ∧ off = x.off) || (x.stage == .probing && probe.isSome)
    if !runs then s
    else if !s.stillWanted x then (s.dropSector nsid cl idx).bump (key 0x4682 0x1B)
    else
      let v := x.verdict (if x.stage = .probing then x.innerProbe else x.innerRetry) d
      let s := s.countVerdict x v
      let n := d.unsat
      let lane := if x.stage = .probing then probe.bind (·.slice) else x.slice
      let give := s.preempts || lane.any s.sliceOut
      let pre := fun (s : State) => if give then s.bump (key 0x4682 0x1A) else s
      if v = .ok then
        let s := s.countRung x (if x.stage = .ring then 2 else 3)
        let s := (if x.stage = .ring then s else s.bump (chKey x.h 0x1F (1 + x.b))).decoded x d.bytes
        set s fun x => { x.succeed with data := d.bytes, errs := d.errs }
      else if x.stage = .probing then
        let s := set s fun x => { x with probes := x.probes.map fun p =>
          if p.off = off then
            (if p.done = 1 then { p with done := 2, unsat := n, slice := none, ended := true }
             else { p with done := p.done + 1, unsat := n, slice := if give then none else p.slice })
          else p }
        let last := probe.any fun p => p.done == 1
        let s := if last then s else pre s
        set s fun x => if x.offs.isEmpty && x.probes.all (·.ended) then x.probesDone s.now else x
      else
        let r := x.globalEnds n
        if r.2 then
          if x.stage = .ring then set s fun _ => r.1.ringFailed s.now else set s fun _ => r.1.lose
        else if give then
          pre (set s fun _ => { r.1 with stage := if x.stage = .ring then .ringWait else .fullWait, slice := none, since := s.now })
        else set s fun _ => r.1

def execRetryGlobalEnd (nsid cl idx : Nat) (off : Int) (out : DecodeOut) (s : State) : Res :=
  .next (s.retryGlobal nsid cl idx off out)

/-! ### The outer code and re-reads (R290, R291) -/

/-- The bytes of a cluster's lost sectors (R254, R290): bodies by erasure repair, headers rebuilt from a good sector. -/
def State.repaired (s : State) (xs lost : List Sector) : List (Sector × List Byte) :=
  let at_ := fun (i : Nat) => xs.find? fun x => x.idx == i && x.stage == .good
  let bodies := (List.range 18).map fun i => match at_ i with | some x => x.data.drop 48 | none => []
  let good := match xs.find? (fun x => x.stage == .good) with | some g => g.data | none => []
  let idxs := (List.range 18).filter fun i => (at_ i).isNone
  let made := outerRepaired bodies idxs
  lost.map fun x =>
    let d2 := s.daf2 (nsStation x.nsid)
    let t := psaTrack d2 x.psa
    (x, sectorBytes (rebuiltHead good x.psa (locationOf t.2 (trackZone t.1) t.1) x.idx) (made.getD (idxs.findIdx (· == x.idx)) []))

/-- OUTER_CODE_REPAIR: every sector of the cluster has succeeded or is lost; `ok` tells whether each repaired sector's CRC
passes. -/
def State.outerRepair (s : State) (nsid cl : Nat) (ok : Bool) : State :=
  let xs := s.pool.filter fun x => x.nsid == nsid && x.cl == cl && !x.verify
  let lost := xs.filter fun x => x.stage == .lost
  if !(List.range 18).all (fun i => xs.any fun x => x.idx == i) || !(xs.all fun x => x.stage == .good || x.stage == .lost) then s
  else
    let done := fun (s : State) => { s with pool := s.pool.filter fun x => !(x.nsid == nsid && x.cl == cl && !x.verify) }
    if lost.isEmpty then done s
    else if lost.length ≤ 2 ∧ ok then
      done ((s.forEach (s.repaired xs lost) fun s p => (s.countRung p.1 4).decoded p.1 p.2).modOp nsid cl fun o => { o with outer := true })
    else if lost.any fun x => x.reread < x.maxReread then
      s.forEach lost fun s x => s.modSector nsid cl x.idx fun x => { x with stage := .await, reread := x.reread + 1 }
    else
      let data := lost.filter fun x => x.idx < 16
      let s := s.forEach data fun s x =>
        (s.bump (chKey x.h 0x0A (1 + 8 * 6 + x.b))).modOp nsid cl fun o => { o with lost := o.lost ++ [x.idx] }
      match lost with
      | x :: _ =>
        let k := fun (j : Nat) => leBytes 1 (xs.filter fun y => y.rung == j).length
        done (s.note 0x0701 (engSource x.h) (leBytes 4 x.psa ++ leBytes 1 data.length ++ k 1 ++ k 2 ++ k 3 ++ k 4 ++ k 5))
      | [] => s

def execOuterCodeRepair (nsid cl : Nat) (ok : Bool) (s : State) : Res := .next (s.outerRepair nsid cl ok)

end Sys2Proof.Machine
end

