-- ==== Sys2Proof/Machine/LoopCmds.lean ====
section
/-! DEFINITION. The commands of the servo engines (chapter 6) that no dictionary write makes: samples, holds, windows,
feed-forward bins, captures and measurements. -/

namespace Sys2Proof.Machine

/-! ### The error inputs (R156, R173, R175, R197, R210) -/

/-- Objects 0x3sD3 and 0x3sD4, the levels (Table 12.7). -/
def lvKey (h sub : Nat) : Nat := stKey (h / 2) (0xD3 + h % 2) sub

/-- P_set of a beam in µW: READ_POWER, or PW_NOW while its lane writes; ramped while the beam comes on (R175). -/
def State.powerSet (s : State) (h b : Nat) : Int :=
  let p : Int := if s.reg (wrKey h 2) / 4 ^ b % 4 = 2 then s.reg (lvKey h (0x41 + b)) else s.reg (hdKey h 0x16 (1 + b))
  match (s.lp h (4 + b)).ramp with
  | some (a, t, k, n) => rampAt a t k n
  | none => p

/-- The sample of a laser's ramp: one more of LASER_RAMP has passed. -/
def State.powerRamp (s : State) (h b : Nat) : State :=
  s.modLp h (4 + b) fun p => { p with ramp := match p.ramp with
    | some (a, t, k, n) => if n ≤ k + 1 then none else some (a, t, k + 1, n)
    | none => none }

/-- The tilt table's value at a radius in nm (R173): linear between entries at 24.0 mm + 2.125 mm × (i + 0.5), and the
end entries beyond them. -/
def State.tiltAt (s : State) (h r : Nat) : Int :=
  let v := fun (i : Nat) => s.regI 32 (hdKey h 0x14 (0x0E + i))
  let x := (r : Int) - 25062500
  if x ≤ 0 then v 0
  else
    let i := x.toNat / 2125000
    if 15 ≤ i then v 15 else v i + roundDiv ((v (i + 1) - v i) * ((x.toNat % 2125000 : Nat) : Int)) 2125000

/-- Whether SUM lies below SUM_MIN per cent of what it was at the last focus closure (R156). -/
def State.sumLow (s : State) (h : Nat) : Bool :=
  decide ((s.hd h).sense.sum * 100 < s.reg (hdKey h 0x10 4) * (s.hd h).sense.sumRef)

/-- A quotient of detector readings in Q1.23, saturated (R156); rounded to nearest (DESIGN CHOICE, log entry 120), open where the
divisor is 0. -/
def quotient (n d : Int) : Int :=
  sat24 (if d = 0 then Config.openQuotient n else roundDiv ((if d < 0 then -n else n) * 8388608) d.natAbs)

/-- A reading of a list. -/
def rd (det : List Int) (k : Nat) : Int := det.getD k 0

/-- The push-pull signal before TRACK_SIGN and offset (R156). -/
def State.pushPull (s : State) (h : Nat) (det : List Int) : Int :=
  let pp := quotient (rd det 0 + rd det 3 - rd det 1 - rd det 2) (rd det 0 + rd det 1 + rd det 2 + rd det 3)
  pp - roundDiv (s.reg (hdKey h 0x10 1) * quotient (rd det 4 - rd det 5) (rd det 4 + rd det 5)) 16384

/-- The beams in service. -/
def State.serviceBeams (s : State) (h : Nat) : List Nat := bitsIn 8 (s.reg (hdKey h 0x14 4))

/-- TLT's error (R173): the mean of the latest c_b over the beams in service. -/
def State.tiltError (s : State) (h : Nat) : Int :=
  let bs := s.serviceBeams h
  let sum := (bs.map fun b => let c := (s.hd h).coma.getD b (0, 0); quotient c.1 c.2).sum
  if bs.isEmpty then (s.lp h 2).e1 else sat24 (roundDiv sum bs.length)

/-- BLR's error (R173): the least-squares slope of o_b over the beams in service, with one track pitch as full scale (DESIGN
CHOICE, log entry 120). -/
def State.slopeError (s : State) (h : Nat) : Int :=
  let bs := s.serviceBeams h
  let n := (bs.length : Int)
  let o := fun b => s.regI 16 (hdKey h 0x14 (6 + b))
  let sb := (bs.map Int.ofNat).sum
  let den := n * (bs.map fun b => Int.ofNat (b * b)).sum - sb * sb
  let num := n * (bs.map fun b => Int.ofNat b * o b).sum - sb * (bs.map o).sum
  if den ≤ 0 then (s.lp h 3).e1 else sat24 (roundDiv (num * 8388608) (1000 * den.toNat))

/-- The error input of a loop from a sample's readings: PDA to PDD, and PDA to PDF for TRK; the monitored power of a laser in µW;
the other loops form theirs from the state. -/
def State.errorInput (s : State) (e l : Nat) (det : List Int) : Int :=
  if e < 16 then
    if l = 0 then
      if s.sumLow e then (s.lp e 0).e1
      else sat24 (quotient (rd det 0 + rd det 2 - rd det 1 - rd det 3) (rd det 0 + rd det 1 + rd det 2 + rd det 3) + s.regI 32 (hdKey e 0x10 2))
    else if l = 1 then
      if s.sumLow e then (s.lp e 1).e1
      else sat24 (s.regI 8 (hdKey e 0x10 7) * (s.hd e).sense.pp + s.regI 32 (hdKey e 0x10 3))
    else if l = 2 then s.tiltError e
    else if l = 3 then s.slopeError e
    else sat24 (roundDiv ((s.powerSet e (l - 4) - (s.reg (hdKey e 0x16 (9 + (l - 4))) : Int)) * 8388608) 8000)
  else if l = 0 then s.spdError (e - 16)
  else s.sledError (2 * (e - 16) + (l - 1))

/-- One sample of the defect detector (R178): SUM against its running average, of time constant DEF_AVG, frozen while DEFECT
stands. -/
def State.defectSample (s : State) (h : Nat) : State :=
  let d := (s.hd h).sense
  let x := d.sum * 6553600
  let out := decide (x < s.reg (hdKey h 0x17 1) * d.avg) || decide ((s.reg (hdKey h 0x17 2) : Int) * d.avg < x)
  s.modHd h fun y => { y with sense := { d with
    defOut := if out then d.defOut + 1 else 0, defIn := if out then 0 else d.defIn + 1
    avg := if d.defect then d.avg else d.avg + (d.sum * 65536 - d.avg) * 10 / (24 * s.reg (hdKey h 0x17 5)) } }

/-- The shock inputs of a sample in mV after the low-pass of SHOCK_CORNER, in mg times 65,536 (R179). -/
def State.shockSample (s : State) (h : Nat) (det : List Int) : State :=
  let f := fun (old x : Int) =>
    let now := x * 1000 * 65536 / s.reg (hdKey h 0x18 4)
    old + (now - old) * (s.reg (hdKey h 0x18 5) : Int) * 628319 / 240000000000
  let l := [f ((s.hd h).sense.shock.getD 0 0) (rd det 4), f ((s.hd h).sense.shock.getD 1 0) (rd det 5)]
  let peak := l.foldl (fun m x => max m (x.natAbs / 65536)) (s.reg (hdKey h 0x18 0x0B))
  (s.modHd h fun d => { d with sense := { d.sense with shock := l } }).setReg (hdKey h 0x18 0x0B) (min 65535 peak)

/-- A guard that a sample is beyond, while the head is WRITING (R179): 0 TRK, 1 FOC, 2 shock. -/
def State.guardSample (s : State) (h g : Nat) (err : Int) : State :=
  let r := fun j => (s.reg (hdKey h 0x18 j) : Int)
  let out : Bool :=
    if g = 0 then decide ((s.reg (hdKey h 0x10 6) : Int) * sinTurn (s.reg (hdKey h 0x18 1)) 2000 < err.natAbs * 2 ^ 30)
    else if g = 1 then decide ((s.regI 32 (hdKey h 0x10 5)).natAbs * r 2 < err.natAbs * 1000)
    else (s.hd h).sense.shock.any fun x => decide (r 3 * 65536 < x.natAbs)
  if s.substate h = hsWriting ∧ out then s.modHd h fun d => { d with sense := { d.sense with beyond := setBit d.sense.beyond g } } else s

/-- The window of FOCUS_CONFIRM (R164 step 5): samples of FE in CLOSED; as the window ends its rms is held against
CONFIRM_FE_RMS at FE_SLOPE, and another begins. -/
def State.confirmSample (s : State) (h : Nat) (fe : Int) : State :=
  let d := (s.hd h).sense
  if s.loopState h 0 ≠ lsClosed then s.modHd h fun y => { y with sense := { d with confN := 0, confSq := 0, confOk := false } }
  else
    let n := d.confN + 1
    let sq := d.confSq + fe * fe
    let lim := (s.reg (hdKey h 0x11 8) : Int) * s.regI 32 (hdKey h 0x10 5)
    if n * 10 < s.reg (hdKey h 0x11 7) * 24 then s.modHd h fun y => { y with sense := { d with confN := n, confSq := sq } }
    else s.modHd h fun y => { y with sense := { d with confN := 0, confSq := 0, confOk := decide (sq * 1000000 < n * lim * lim) } }

/-- What a head's sample brings before its error is formed: SUM and the push-pull signal, the defect detector, the shock inputs; the
monitored power and the frames of the PKL, of which an empty sample is the want (R177). -/
def State.senseSample (s : State) (e l : Nat) (det : List Int) : State :=
  if l ≤ 1 then
    let sum := rd det 0 + rd det 1 + rd det 2 + rd det 3
    let pp := s.pushPull e det
    let s := s.modHd e fun d => { d with sense := { d.sense with
      sum := sum, pp := if l = 1 then pp else d.sense.pp, pp1 := if l = 1 then d.sense.pp else d.sense.pp1 } }
    if l = 0 then (s.defectSample e).shockSample e det else s
  else if 4 ≤ l then
    match det with
    | [] => if l = 4 then s.modHd e fun d => { d with sense := { d.sense with noFrame := d.sense.noFrame + 1 } } else s
    | p :: _ =>
      let s := s.modHd e fun d => { d with sense := { d.sense with noFrame := 0 } }
      let s := s.setReg (hdKey e 0x16 (9 + (l - 4))) (min p.toNat 65535)
      let beyond := decide ((s.reg (hdKey e 0x16 0x12) : Int) * s.powerSet e (l - 4) < p * 100)
      (s.modLp e l fun x => { x with hot := if beyond then x.hot + 1 else 0 }).powerRamp e (l - 4)
  else s

/-- What a head's sample does with its error before the loop computes (R164, R169, R171, R173, R179): guards, the search, kicks; the
estimates, TLT's drive from its table with TLT_SOURCE 1, BLR open for want of beams. -/
def State.headSample (s : State) (e l : Nat) (err : Int) : State :=
  if l = 0 then ((((s.guardSample e 1 err).guardSample e 2 0).confirmSample e err).scanSample e err).kickSample e 0 err
  else if l = 1 then ((s.guardSample e 0 err).trackSample e err).kickSample e 1 err
  else if l = 2 then
    let s := s.setRegI 32 (hdKey e 0x14 2) err
    if (s.reg (hdKey e 0x14 1) = 1 ∨ s.reg (stKey (e / 2) 0 6) = 1) ∧ s.loopState e 2 ≠ lsOff then
      let s := if s.loopState e 2 = lsOpen then s else s.loopOpen e 2
      s.setRegI 32 (loopKey e 2 3) (s.tiltAt e (s.reg (sledKey e 0x1B)))
    else s.tiltSample e 2 err
  else if l = 3 then
    let s := s.setRegI 32 (hdKey e 0x14 3) err
    let s := if (s.loopState e 3 = lsClosed ∨ s.loopState e 3 = lsHold) ∧ popCount 8 (s.reg (hdKey e 0x14 4)) < 3 then
        (s.openAtDrive e [3]).modHd e fun d => { d with blrOut := true }
      else s
    s.tiltSample e 3 err
  else s

/-- LOOP_SAMPLE (R128 to R134): one sample of a loop the part has. -/
def execLoopSample (e l : Nat) (det : List Int) (u : Int) (ang : Nat) (s : State) : Res :=
  if s.loopPresent e l then
    let s := if e < 16 then s.senseSample e l det else s
    let err := s.errorInput e l det
    let s := (if e < 16 then s.headSample e l err else s).loopSample e l err u ang
    .next (if 16 ≤ e ∧ l = 0 then s.emitBridge (e - 16) ang else s)
  else .next s

/-! ### Holds -/

/-- DEFECT_SET (R178): after DEF_COUNT samples outside the band DEFECT is set on TRK and FOC together; the head's DEFECT micro-trap
and counter. -/
def execDefectSet (h : Nat) (s : State) : Res :=
  let d := (s.hd h).sense
  if d.defect ∨ d.defOut < s.reg (hdKey h 0x17 3) then .next s
  else
    let s := s.modHd h fun x => { x with sense := { x.sense with defect := true, defAt := s.sampleCount } }
    let s := (s.setCause h 1 hcDefect).setCause h 0 hcDefect
    .next ((s.bump (hdKey h 0x17 6)).raiseTrap h trapDefect 3 hcDefect)

/-- DEFECT_CLEAR (R178): after DEF_RELEASE samples inside the band; the defect's span goes to the flag path. -/
def execDefectClear (h : Nat) (s : State) : Res :=
  let d := (s.hd h).sense
  if d.defect ∧ s.reg (hdKey h 0x17 4) ≤ d.defIn then
    let s := (s.clearCause h 0 hcDefect).clearCause h 1 hcDefect
    let spans := (d.spans ++ [(d.defAt, s.sampleCount)])
    let s := s.modHd h fun x => { x with sense := { x.sense with defect := false, spans := spans.drop (spans.length - 16) } }
    .next (s.setReg (hdKey h 0x17 7) (max (s.reg (hdKey h 0x17 7)) (min ((s.sampleCount - d.defAt) / 1200) (2 ^ 32 - 1))))
  else .next s

/-- RESIDUAL_HOLD (R147). -/
def execResidualHold (e l : Nat) (s : State) : Res :=
  if s.loopState e l = lsClosed ∧ bitOf (s.reg (supKey e l 1)) 0 ∧ s.reg (supKey e l 3) ≤ (s.lp e l).resRun then
    .next (s.superviseHold e l hcResidual)
  else .next s

/-- RESIDUAL_CLEAR (R149). -/
def execResidualClear (e l : Nat) (s : State) : Res :=
  if s.reg (supKey e l 7) ≤ (s.lp e l).retRun then .next (s.clearCause e l hcResidual) else .next s

/-- VARIANCE_WINDOW_END (R148, R149). -/
def execVarianceWindowEnd (e l : Nat) (s : State) : Res := .next (s.windowEnd e l)

/-- HOLD_EXPIRED of SPD (R208): OPEN at its frozen drive for 10 ms, 80 set-points; three expiries in 10 s are a locked
rotor (R207). -/
def State.spdExpired (s : State) (i : Nat) : State :=
  let d := s.drive (16 + i) 0
  let recent := ((s.stn i).expiries.filter fun t => s.now < t + 10000000) ++ [s.now]
  if 3 ≤ recent.length then (s.modStn i fun t => { t with expiries := [] }).lockedRotor i
  else
    let s := (s.setRegI 32 (loopKey (16 + i) 0 3) d).loopOpen (16 + i) 0
    s.modStn i fun t => { t with expiries := recent, reclose := 80 }

/-- HOLD_EXPIRED of a sled loop (R211): OPEN at full scale until the commanded position stops. -/
def State.sledExpired (s : State) (h : Nat) : State :=
  let l := 1 + h % 2
  let s := (s.setRegI 32 (loopKey (16 + h / 2) l 3) 8388607).loopOpen (16 + h / 2) l
  s.modSled h fun d => { d with full := true }

/-- HOLD_EXPIRED (R150, R182 to R184, R208, R211): only while the loop's hold window runs. -/
def execHoldExpired (e l : Nat) (s : State) : Res :=
  if (s.lp e l).window ∧ s.loopState e l = lsHold then
    let s := s.windowExpired e l
    .next (if e < 16 then s.headExpired e l
      else if l = 0 then s.spdExpired (e - 16) else s.sledExpired (2 * (e - 16) + (l - 1)))
  else .next s

/-- COEF_HOLD_OVERRUN (R140, Table 6.5). -/
def execCoefHoldOverrun (e l : Nat) (s : State) : Res :=
  if bitOf (s.holdCause e l) hcLathe ∧ s.reg (engKey e 7 0x3D) ≤ (s.lp e l).lathe then
    let s := (s.clearCause e l hcLathe).modLp e l fun p => { p with lathe := 0, overrun := true }
    .next ((s.raiseTrap (trapSeq e l) trapCoefOverrun (2 ^ l) 0).note 0x0403 (engSource e) (leBytes 1 l))
  else .next s

/-! ### Feed-forward, capture, measurement -/

/-- FF_BIN_UPDATE (R144): the end of a bin of a head's table. -/
def execFfBinUpdate (h table bin : Nat) (s : State) : Res := .next (s.ffBinEnd h table bin)

/-- CAPTURE_TRIGGER (R152): an armed capture triggers where CAP_TRIGGER's condition has come; TRIGGER_COUNT takes the device sample
count. -/
def execCaptureTrigger (e : Nat) (s : State) : Res :=
  let g := s.eng e
  if g.cap = .armed ∧ (g.capSet.trigger = 0 ∨ g.capEvent) then
    .next (s.modEng e fun g => { g with cap := .triggered, capAt := s.sampleCount })
  else .next s

/-- CAPTURE_DONE (R152): the triggered capture holds its 16,384 samples. -/
def execCaptureDone (e : Nat) (s : State) : Res :=
  let g := s.eng e
  if g.cap = .triggered ∧ 16384 ≤ g.capBuf.length then
    let s := (s.setRaw (engKey e 0x0D 0) (capBytes g.capBuf)).modEng e fun g => { g with cap := .idle }
    .next (s.endResult (engIx e 0x0C)
      [(5, g.capAt), (6, g.capSet.tapB * 256 + g.capSet.tapA), (7, g.capSet.loop), (8, g.capSet.decim)] 0)
  else .next s

/-- CAPTURE_TIMEOUT (R152): no trigger within CAP_TIMEOUT. -/
def execCaptureTimeout (e : Nat) (s : State) : Res :=
  if (s.eng e).cap = .armed then
    .next ((s.modEng e fun g => { g with cap := .idle }).endResult (engIx e 0x0C) [] 0x0F56_0006)
  else .next s

end Sys2Proof.Machine
end

