-- ==== Sys2Proof/Machine/Flags.lean ====
section
/-! DEFINITION. The flags of the Lathe microwords (R226) and the results they come with: sums, differences, shifts and
products of 32-bit micro-registers. -/

namespace Sys2Proof.Machine

/-- A result with Z, N, C and V. -/
structure FlagsOut where
  res : BitVec 32
  z : Bool
  n : Bool
  c : Bool
  v : Bool
  deriving DecidableEq, Repr

/-- Z and N of a result. -/
def withZN (r : BitVec 32) (c v : Bool) : FlagsOut := ⟨r, r == 0, r.msb, c, v⟩

/-- ADD, ADDI: C is the carry out of bit 31, V the signed overflow. -/
def addFlags (a b : BitVec 32) : FlagsOut :=
  let t := a.toInt + b.toInt
  withZN (a + b) (decide (2 ^ 32 ≤ a.toNat + b.toNat)) (decide (t < -(2 ^ 31) ∨ 2 ^ 31 ≤ t))

/-- SUB, CMP, CMPI: C is the borrow, V the signed overflow. -/
def subFlags (a b : BitVec 32) : FlagsOut :=
  let t := a.toInt - b.toInt
  withZN (a - b) (decide (a.toNat < b.toNat)) (decide (t < -(2 ^ 31) ∨ 2 ^ 31 ≤ t))

/-- AND, OR, XOR, SHIFT: C and V clear. -/
def logicFlags (r : BitVec 32) : FlagsOut := withZN r false false

/-- SHIFT (Table 9.1): bit 5 right, bit 6 arithmetic, by bits 4..0. -/
def shiftResult (a : BitVec 32) (imm : Nat) : BitVec 32 :=
  let k := imm % 32
  if bitOf imm 5 then (if bitOf imm 6 then a.sshiftRight k else a >>> k) else a <<< k

/-- MUL: the integer product's low 32 bits with V on signed overflow, or the Q1.23 product rounded as R131 with V on
saturation; C stays as it is. -/
def mulFlags (a b : BitVec 32) (q : Bool) (c : Bool) : FlagsOut :=
  let t := a.toInt * b.toInt
  if q then
    let r := roundDiv t (2 ^ 23)
    withZN (BitVec.ofInt 32 (sat24 r)) c (sats r)
  else withZN (a * b) c (decide (t < -(2 ^ 31) ∨ 2 ^ 31 ≤ t))

/-- The condition of a JMP (Table 9.2); 14 and 15 are reserved. -/
def jumpCond (z n c v ev : Bool) (k : Nat) : Bool :=
  if k = 0 then true
  else if k = 1 then z else if k = 2 then !z
  else if k = 3 then n else if k = 4 then !n
  else if k = 5 then c else if k = 6 then !c
  else if k = 7 then v
  else if k = 8 then n != v else if k = 9 then n == v
  else if k = 10 then z || n != v else if k = 11 then !z && n == v
  else if k = 12 then ev
  else !ev

end Sys2Proof.Machine
end

