-- ==== Sys2Proof/Machine/Microwords.lean ====
section
/-! DEFINITION. The sequencers' orders from outside (R231 to R233, object 0x3s03) and the microwords that touch only the
sequencer (R226, R227, R235 to R240). Each microword acts at the micro-PC of a sequencer that executes words; from the
customer region it acts where the installed image holds that very word (Table 9.8). -/

namespace Sys2Proof.Machine

/-! ### Direct orders (R110, R126, R231) -/

/-- A write of REQUEST of object 0x3s03; a MEASURE_LOOP in ACTIVE reaches the slot at the next scheduling point (Table 5.5). -/
def State.directRequest (s : State) (i v : Nat) : Applied :=
  let code := v % 256
  let sel := bitsOf v 9 8
  let strobe := bitsOf v 15 12
  let e := seqOf i sel
  let st := s.stState i
  if sel = 3 then .error 0x0609_0030
  else if 0x3F < code then .error 0x0609_0031
  else if s.strobeRefused strobe ≠ 0 then .error (s.strobeRefused strobe)
  else if !(st = stMaint ∨ (code = 0x0B ∧ (st = stReady ∨ st = stActive))) then .error 0x0800_0022
  else if code ≠ 6 ∧ s.slotHeld e then .error 0x0800_0021
  else if code = 6 ∧ (s.sq e).slot.any (fun o => o.origin.prio ≤ 2) then .error 0x0800_0021
  else
    let o : Order := ⟨code, v / 65536 % 65536, strobe, .direct⟩
    let s := (s.beginResult (stIx i 3)).setLathe e 1 0
    let s := if st = stActive then s.modStn i fun t => { t with orderWait := t.orderWait ++ [(e, o)] } else s.offerOrder e o
    .ok (if code = 6 then s.raiseTrap e trapAbort 0 0 else s)

/-- ORDER_DISPATCH (R231). -/
def execOrderDispatch (q : Nat) (s : State) : Res := .next (s.dispatch q)

/-- ORDER_TIMEOUT (R232): of a running customer order. -/
def execOrderTimeout (q : Nat) (s : State) : Res :=
  .next (match (s.sq q).running with
    | some o => if 0x30 ≤ o.code then s.raiseTrap q trapAbort 0 1 else s
    | none => s)

/-- TRAP_ENTRY (R235). -/
def execTrapEntry (q : Nat) (s : State) : Res := .next ((s.takeTrap q).spinLeft s q)

/-! ### Executing a microword -/

/-- The word a store address of the customer region holds: OREJ where no image fills it (R223). -/
def State.customerWord (s : State) (pc : Nat) : Nat :=
  match s.stores.image with
  | some i => i.words.getD (pc - 0x3800) 0x8000_0000
  | none => 0x8000_0000

/-- A microword's encoding. -/
def microword (op d r imm : Nat) : Nat := op * 2 ^ 26 + d * 2 ^ 22 + r * 2 ^ 18 + imm

/-- Whether the word can be the one at the micro-PC. -/
def State.holds (s : State) (e op d r imm : Nat) : Bool :=
  let q := s.sq e
  !q.inCustomer || s.customerWord q.pc == microword op d r imm

/-- Execute one microword: on a sequencer that executes words, whose reserved fields are 0; otherwise the Lathe fault of
R227. -/
def State.micro (s : State) (e op d r imm : Nat) (reserved : Bool) (f : State → State) : Res :=
  .next (if (s.sq e).live && s.holds e op d r imm then
    ((if reserved then s.latheFault e 0x0F59_0005 else f s).spinLeft s e) else s)

/-- Go to a micro-PC. -/
def State.goTo (s : State) (e pc : Nat) : State := (s.modSq e fun q => { q with pc := pc % 0x4000 }).seqView e
/-- The next word. -/
def State.nextWord (s : State) (e : Nat) : State := s.goTo e ((s.sq e).pc + 1)

def Seq.reg (q : Seq) (i : Nat) : BitVec 32 := q.m.getD i 0
def Seq.setM (q : Seq) (i : Nat) (v : BitVec 32) : Seq := { q with m := q.m.set i v }
/-- IMM as an 18-bit two's-complement value. -/
def imm18 (imm : Nat) : BitVec 32 := BitVec.ofInt 32 (toSigned 18 imm)

/-- A register takes a value, no flag changes. -/
def State.putM (s : State) (e d : Nat) (v : BitVec 32) : State := (s.modSq e fun q => q.setM d v).nextWord e

/-- A result with its flags; CMP and CMPI keep the register. -/
def State.putFlags (s : State) (e : Nat) (d : Option Nat) (o : FlagsOut) : State :=
  (s.modSq e fun q =>
    let q := { q with z := o.z, n := o.n, c := o.c, v := o.v }
    match d with | some d => q.setM d o.res | none => q).nextWord e

/-- NOP (R227). -/
def execNop (q imm : Nat) (s : State) : Res := s.micro q 0 0 0 imm (imm != 0) fun s => s.nextWord q

/-- JMP (R227, R238). -/
def execJmp (q imm : Nat) (s : State) : Res :=
  s.micro q 1 0 0 imm (14 ≤ bitsOf imm 17 14) fun s =>
    let x := s.sq q
    let t := imm % 0x4000
    if jumpCond x.z x.n x.c x.v x.ev (bitsOf imm 17 14) then
      (if x.inCustomer ∧ t < 0x3800 then s.latheFault q 0x0F59_0004 else s.goTo q t)
    else s.nextWord q

/-- Push a return address and go on at `t`. -/
def State.push (s : State) (e t : Nat) : State :=
  let q := s.sq e
  if 8 ≤ q.stack.length then s.latheFault e 0x0F59_0003
  else (s.modSq e fun q => { q with stack := (q.pc + 1) % 0x4000 :: q.stack }).goTo e t

/-- A vendor order begins as a subroutine of a customer order (R239): rejected at its dispatch, it returns at once. -/
def State.callOrder (s : State) (e c : Nat) : State :=
  let q := s.sq e
  if 8 ≤ q.stack.length then s.latheFault e 0x0F59_0003
  else if c = 6 then (s.issue e 6 (q.reg 0).toNat).nextWord e
  else
    let s := s.modSq e fun q => { q with
      sub := some ⟨(q.pc + 1) % 0x4000, q.stack, q.m, c⟩, started := 0, stack := (q.pc + 1) % 0x4000 :: q.stack }
    match s.dispatchReject e c with
    | some r => s.orderRejected e r
    | none => s.goTo e c

/-- CALL (R227, R238, R239): the words 0x30 to 0x3F lead back into the customer region. -/
def execCall (q imm : Nat) (s : State) : Res :=
  s.micro q 2 0 0 imm (bitsOf imm 17 14 != 0) fun s =>
    let x := s.sq q
    let t := imm % 0x4000
    if x.inCustomer ∧ t < 0x3800 then
      (if 0x40 ≤ t then s.latheFault q 0x0F59_0004 else if 0x30 ≤ t then s.push q t else s.callOrder q t)
    else s.push q t

/-- RET (R227, R239). -/
def execRet (q imm : Nat) (s : State) : Res :=
  s.micro q 3 0 0 imm (imm != 0) fun s =>
    match (s.sq q).stack with
    | [] => s.latheFault q 0x0F59_0003
    | a :: r => (s.modSq q fun x => { x with stack := r }).goTo q a

/-- LDI (R227). -/
def execLdi (q d imm : Nat) (s : State) : Res := s.micro q 4 d 0 imm false fun s => s.putM q d (imm18 imm)

/-- LUI (R227): bits 13..0 are kept. -/
def execLui (q d imm : Nat) (s : State) : Res :=
  s.micro q 5 d 0 imm false fun s => s.putM q d (BitVec.ofNat 32 (imm * 2 ^ 14 + ((s.sq q).reg d).toNat % 2 ^ 14))

/-- MOV (R227). -/
def execMov (q d r imm : Nat) (s : State) : Res := s.micro q 6 d r imm (imm != 0) fun s => s.putM q d ((s.sq q).reg r)

/-- ADD (R227). -/
def execAdd (q d r imm : Nat) (s : State) : Res :=
  s.micro q 7 d r imm (imm != 0) fun s => s.putFlags q (some d) (addFlags ((s.sq q).reg d) ((s.sq q).reg r))

/-- SUB (R227). -/
def execSub (q d r imm : Nat) (s : State) : Res :=
  s.micro q 8 d r imm (imm != 0) fun s => s.putFlags q (some d) (subFlags ((s.sq q).reg d) ((s.sq q).reg r))

/-- ADDI (R227). -/
def execAddi (q d imm : Nat) (s : State) : Res :=
  s.micro q 9 d 0 imm false fun s => s.putFlags q (some d) (addFlags ((s.sq q).reg d) (imm18 imm))

/-- AND (R227). -/
def execAnd (q d r imm : Nat) (s : State) : Res :=
  s.micro q 0x0A d r imm (imm != 0) fun s => s.putFlags q (some d) (logicFlags ((s.sq q).reg d &&& (s.sq q).reg r))

/-- OR (R227). -/
def execOr (q d r imm : Nat) (s : State) : Res :=
  s.micro q 0x0B d r imm (imm != 0) fun s => s.putFlags q (some d) (logicFlags ((s.sq q).reg d ||| (s.sq q).reg r))

/-- XOR (R227). -/
def execXor (q d r imm : Nat) (s : State) : Res :=
  s.micro q 0x0C d r imm (imm != 0) fun s => s.putFlags q (some d) (logicFlags ((s.sq q).reg d ^^^ (s.sq q).reg r))

/-- SHIFT (R227). -/
def execShift (q d imm : Nat) (s : State) : Res :=
  s.micro q 0x0D d 0 imm (128 ≤ imm) fun s => s.putFlags q (some d) (logicFlags (shiftResult ((s.sq q).reg d) imm))

/-- MUL (R227). -/
def execMul (q d r imm : Nat) (s : State) : Res :=
  s.micro q 0x0E d r imm (2 ≤ imm) fun s =>
    s.putFlags q (some d) (mulFlags ((s.sq q).reg d) ((s.sq q).reg r) (imm % 2 == 1) (s.sq q).c)

/-- CMP (R227). -/
def execCmp (q d r imm : Nat) (s : State) : Res :=
  s.micro q 0x0F d r imm (imm != 0) fun s => s.putFlags q none (subFlags ((s.sq q).reg d) ((s.sq q).reg r))

/-- CMPI (R227). -/
def execCmpi (q d imm : Nat) (s : State) : Res :=
  s.micro q 0x10 d 0 imm false fun s => s.putFlags q none (subFlags ((s.sq q).reg d) (imm18 imm))

/-! ### Waiting (R227, R236) -/

/-- A wait begins; execution goes on at the next word. -/
def State.waitFor (s : State) (e : Nat) (w : Wait) : State :=
  let s := s.modSq e fun q => { q with wait := w, pc := (q.pc + 1) % 0x4000 }
  (s.armedView (engStation e)).seqView e

/-- The microseconds of WAIT's units, rounded up: cycles of 5 ns, samples of 2.4 MS/s, set-points of 50 µs, µs. -/
def waitMicros (unit n : Nat) : Nat :=
  if unit = 0 then (n * 5 + 999) / 1000 else if unit = 1 then (n * 10 + 23) / 24 else if unit = 2 then 50 * n else n

/-- WAIT (R227). -/
def execWait (q imm : Nat) (s : State) : Res :=
  s.micro q 0x18 0 0 imm false fun s => s.waitFor q (.time (s.now + waitMicros (bitsOf imm 17 16) (imm % 65536)))

/-- WAIT_EXPIRY (R236): the deadline of a WAIT or a WAITE has passed; EV is clear after a WAITE. -/
def execWaitExpiry (q : Nat) (s : State) : Res :=
  .next (match (s.sq q).wait with
    | .time _ => (s.modSq q fun x => { x with wait := .none }).seqView q
    | .cond _ (some _) => (s.modSq q fun x => { x with wait := .none, ev := false }).seqView q
    | _ => s)

/-- Reserved conditions of Table 9.3. -/
def waiteReserved (e imm : Nat) : Bool := 0x1000 ≤ imm || (!isHead e && (bitOf imm 9 || bitOf imm 11))

/-- WAITE (R227). -/
def execWaite (q r imm : Nat) (s : State) : Res :=
  s.micro q 0x19 0 r imm (waiteReserved q imm) fun s =>
    let t := ((s.sq q).reg r).toNat
    (s.modSq q fun x => { x with latched := 0, ev := false }).waitFor q (.cond imm (if t = 0 then none else some (s.now + t)))

/-- WAITE_CONDITION (R227): a condition of the mask fires. -/
def execWaiteCondition (q n : Nat) (s : State) : Res :=
  .next (match (s.sq q).wait with
    | .cond m _ =>
      if bitOf m n then (s.modSq q fun x => { x with wait := .none, ev := true, latched := setBit x.latched n }).seqView q else s
    | _ => s)

/-- EVT (R227). -/
def execEvt (q d imm : Nat) (s : State) : Res :=
  s.micro q 0x1A d 0 imm (imm != 0) fun s =>
    (s.putM q d (BitVec.ofNat 32 (s.sq q).latched)).modSq q fun x => { x with latched := 0 }

/-- STRB (R124, R227): the strobe fires with STROBE_FIRE, DSTROBE_FIRE or a ring strobe. -/
def execStrb (q imm : Nat) (s : State) : Res :=
  s.micro q 0x1B 0 0 imm (16 ≤ imm) fun s => s.waitFor q (.strobe imm)

/-! ### Ends and reports -/

/-- POST (R227, R23): the event code with the value of M[S]. -/
def execPost (q r imm : Nat) (s : State) : Res :=
  s.micro q 0x1D 0 r imm (0x1_0000 ≤ imm) fun s =>
    (s.note imm (engSource q) (leBytes 4 ((s.sq q).reg r).toNat)).nextWord q

/-- ODONE (R227, R233). -/
def execOdone (q r imm : Nat) (s : State) : Res :=
  s.micro q 0x1E 0 r imm (imm != 0) fun s => s.orderDone q ((s.sq q).reg r).toNat

/-- OFAIL (R227, R233). -/
def execOfail (q r imm : Nat) (s : State) : Res :=
  s.micro q 0x1F 0 r imm (imm != 0) fun s => s.orderFailed q ((s.sq q).reg r).toNat

/-- OREJ (R227, Table 9.6): 0 means reason 7. -/
def execOrej (q imm : Nat) (s : State) : Res :=
  s.micro q 0x20 0 0 imm (256 ≤ imm) fun s => s.orderRejected q (if imm = 0 then 7 else imm)

/-- TRAPRET restores the frame and acts by its form (R236). -/
def State.trapReturn (s : State) (e form code : Nat) : State :=
  match (s.sq e).frame with
  | none => s.latheFault e 0x0F59_0005
  | some f =>
    let w : Wait := match f.wait with
      | .time t => if t ≤ s.now then .none else .time t
      | .cond m (some t) => if t ≤ s.now then .none else .cond m (some t)
      | w => w
    let late := match f.wait with | .cond _ (some t) => decide (t ≤ s.now) | _ => false
    let s := s.modSq e fun q => { q with
      frame := none, pc := f.pc, stack := f.stack, z := f.z, n := f.n, c := f.c, v := f.v, ev := f.ev && !late, m := f.m, wait := w }
    let s := s.seqView e
    if form = 0 then s
    else if form = 1 then s.endWhole e latheRejected 6 0
    else if form = 2 then s.endWhole e latheAborted 0 0
    else (s.endWhole e latheAborted 0 0).offerOrder e ⟨code, 0, 0, .trapret⟩

/-- TRAPRET (R236, R238). -/
def execTrapret (q imm : Nat) (s : State) : Res :=
  s.micro q 0x21 0 0 imm (imm / 64 % 4 != 0 || 0x400 ≤ imm) fun s =>
    if (s.sq q).inCustomer then s.latheFault q 0x0F59_0005 else s.trapReturn q (bitsOf imm 9 8) (imm % 64)

/-! ### Loops, lasers and the pickup -/

/-- A microword that a sequencer's axis does not own (R229): only a head sequencer has gates, lasers and a pickup. -/
def State.headOnly (s : State) (e : Nat) (f : State → State) : State := if isHead e then f s else s.latheRefuse e 5

/-- A protective decision stands on a loop (R20): a defect or plausibility HOLD whose window has not expired, or a coast of the
spindle. -/
def State.shielded (s : State) (e l : Nat) : Bool :=
  (s.loopState e l == lsHold && s.holdCause e l % 8 != 0 && !(s.lp e l).expired) || (!isHead e && l == 0 && s.stFlag (engStation e) 10)

/-- LCMD (R134, R227): OFF, OPEN, SEARCH, CLOSE. Against a protective decision CLOSE ends the order with reason 6, and another
mode waits: the word acts once the protective state has ended (R20). -/
def execLcmd (q d imm : Nat) (s : State) : Res :=
  s.micro q 0x13 d 0 imm (8 ≤ imm || imm == 3 || 5 ≤ imm) fun s =>
    let l := d
    if ¬ s.loopPresent q l ∨ (¬ isHead q ∧ l ≠ 0) then s.latheRefuse q 5
    else if s.shielded q l then (if imm = 4 then s.latheRefuse q 6 else s)
    else
      match s.loopCommand q l imm with
      | some s => s.nextWord q
      | none => s.latheRefuse q 4

/-- HOLD (R140, R227): cause LATHE on the loops of the mask. -/
def execHold (q imm : Nat) (s : State) : Res :=
  s.micro q 0x14 0 0 imm (bitsOf imm 16 12 != 0) fun s =>
    let ls := (bitsIn 12 imm).filter fun l => s.loopPresent q l && (isHead q || l == 0)
    let s := s.forEach ls fun s l =>
      if bitOf imm 17 then
        (if s.loopState q l = lsClosed ∨ s.loopState q l = lsHold then
          (s.setCause q l hcLathe).modLp q l fun p => { p with lathe := 0 } else s)
      else s.clearCause q l hcLathe
    s.nextWord q

/-- LASER (R175, R227). -/
def execLaser (q imm : Nat) (s : State) : Res :=
  s.micro q 0x16 0 0 imm (bitsOf imm 16 8 != 0) fun s => s.headOnly q fun s =>
    let bs := (bitsIn 8 imm).filter (· < s.beams)
    if bitOf imm 17 then
      (if bs.any fun b => s.noGain q (4 + b) then s.latheRefuse q 4
       else if s.laserAllowed q then (s.forEach bs fun s b => s.laserOn q b).nextWord q else s.latheRefuse q 6)
    else (s.lasersOff q bs).nextWord q

/-- PKL (R227, R238). -/
def execPkl (q r imm : Nat) (s : State) : Res :=
  s.micro q 0x17 0 r imm (256 ≤ imm || imm == 0 || 15 < imm) fun s => s.headOnly q fun s =>
    if (s.sq q).inCustomer ∧ imm ≠ 1 then s.orderRejected q 7
    else (s.sendPkl q imm ((s.sq q).reg r).toNat).nextWord q

/-- PROF (R213, R227): axis 0 is the head's sled in µm, or the spindle's n_set in rpm on the station sequencer; axis 1 the
clamp in microsteps. -/
def execProf (q d r imm : Nat) (s : State) : Res :=
  s.micro q 0x1C d r imm (imm != 0) fun s =>
    let t := ((s.sq q).reg r).toInt
    let i := engStation q
    if isHead q then
      if d ≠ 0 then s.latheRefuse q 5
      else if s.reg (sledKey q 0x1C) = 1 ∧ s.sledReach q (t * 1000) then (s.sledProfile q (t * 1000)).nextWord q
      else s.latheRefuse q 4
    else if d = 0 then
      if 0 ≤ t ∧ t < 65536 then (s.setReg (stKey i 0x12 1) t.toNat).nextWord q else s.latheRefuse q 4
    else if d = 1 then
      if 0 ≤ t ∧ t.toNat ≤ s.reg (clampKey i 0x0A) ∧ s.spinState i = 0 then
        (s.startStroke i (if (s.reg (clampKey i 0x0D) : Int) < t then .clamp else .unclamp)
          (if (s.reg (clampKey i 0x0D) : Int) < t then 2 else 5)).nextWord q
      else s.latheRefuse q 4
    else s.latheRefuse q 5

/-! ### The control stores (R222 to R225) -/

/-- STORE_PATROL (R224): one word is read; a single-bit error is corrected and counted. -/
def execStorePatrol (st : Nat) (single : Bool) (s : State) : Res :=
  .next (if s.stores.loaded.contains st then
    let a := (findKey st s.stores.patrol).getD 0
    let s := { s with stores := { s.stores with patrol := putKey st ((a + 1) % 16384) 0 s.stores.patrol } }
    if single then s.bump (key (0x5410 + st) 0x10) else s
  else s)

/-- An uncorrectable word at `addr` (R225): `fetch` says that sequencer `by` fetched it for execution, `same` that the
store's digest agrees after the word is rewritten. -/
def State.storeLost (s : State) (st addr : Nat) (fetch : Bool) (by_ : Nat) (same : Bool) : State :=
  let s := s.bump (key (0x5410 + st) 0x11)
  let e := seqOf st by_
  let s := if fetch then (s.latheFault e 0x0F59_0007).spinLeft s e else s
  if !same then s.storeMismatch st addr
  else if fetch then
    (if by_ = 2 then s.lossFreewheel st else (s.headDrop e).reacquire e)
  else s

/-- STORE_UNCORRECTABLE (R225). -/
def execStoreUncorrectable (st addr : Nat) (fetch : Bool) (by_ : Nat) (same : Bool) (s : State) : Res :=
  .next (if s.stores.loaded.contains st then s.storeLost st addr fetch by_ same else s)

end Sys2Proof.Machine
end

