-- ==== Sys2Proof/Machine/Write.lean ====
section
/-! DEFINITION. The write path (chapter 12): bands, buffers and gates, power calibration, verify and replacement. -/

namespace Sys2Proof.Machine

/-! ### Clusters by name -/

def clusterId (nsid cl : Nat) : Nat := nsid * 2 ^ 40 + cl
def idNs (c : Nat) : Nat := c / 2 ^ 40
def idCl (c : Nat) : Nat := c % 2 ^ 40

/-- The NSID of a head's side. -/
def headNs (h : Nat) : Nat := 1 + h
/-- The place a cluster is written to (R255, R263). -/
def State.placeOfCluster (s : State) (n cl : Nat) : Nat := (s.side n).place (ownPlace (s.daf2 (nsStation n)) cl)

/-- Whether a head holds a cluster in its buffers, its band, its read-back or its replacements. -/
def Head.holds (d : Head) (c : Nat) : Bool :=
  d.gates.any (fun g => g.cur == some c || g.next == some c) || d.written.contains c || d.redo.contains c || d.repls.contains c

/-! ### Read-only layers and failed places (R311, R344) -/

/-- A cluster finds no place: PLACE_FAILED, the line stays dirty, flushes that cover it fail. -/
def State.placeFailed (s : State) (h c : Nat) : State :=
  let s := (s.bump (wrKey h 0x0D)).unverified (idNs c) (idCl c)
  let s := s.modHd h fun d => { d with places := d.places.filter fun p => p.1 != c }
  (s.failFlushes (idNs c) (idCl c)).settle

/-- Give a cluster its replacement place (R263, R311), unless it has been re-placed REPLACE_MAX times or no spare is
left; one that a controller reset left is not re-placed (R318). -/
def State.replaceCluster (s : State) (h c : Nat) : State :=
  let n := idNs c
  let made := (findKey c (s.hd h).places).getD 0
  let left : Bool := match s.line n (idCl c) with | some l => l.discard | none => true
  if left then
    let s := s.unverified n (idCl c)
    (s.modNs n fun v => v.fallBack [16 * idCl c]).settle
  else if s.reg (stKey (h / 2) 0xD0 7) ≤ made then s.placeFailed h c
  else
    let r := if s.bdIn (h / 2) then (s, true) else s.replace n (ownPlace (s.daf2 (h / 2)) (idCl c))
    if r.2 then r.1.modHd h fun d => { d with places := insertKey c (made + 1) d.places, repls := d.repls ++ [c] }
    else r.1.placeFailed h c

/-- Interrupted clusters get their replacement places (R315). -/
def State.allocRedo (s : State) (h : Nat) : State :=
  let l := (s.hd h).redo
  s.forEach l fun s c => (s.modHd h fun d => { d with redo := d.redo.filter (· != c) }).replaceCluster h c

/-! ### Bands (R297, R307, R309) -/

/-- R of a band (R309). -/
def State.writeRevs (s : State) (h : Nat) : Nat :=
  let r := s.reg (stKey (h / 2) 0xD0 2)
  let f := s.reg (hdKey h 0x12 8)
  if 8 * r ≤ f then r else max 1 (f / 8)

/-- The most sectors of a verified band that starts at a PSA (R309). -/
def State.bandLimit (s : State) (h start : Nat) : Nat :=
  let d2 := s.daf2 (h / 2)
  let t := spt d2 (zoneOf d2 (start % 2 ^ 26))
  let gap := s.reg (stKey (h / 2) 0xD0 3)
    + (if s.reg (hdKey h 0x12 8) < 8 then s.reg (sledKey h 0x19) + s.reg (hdKey h 0x12 9) else 0)
  let n := (s.speed (h / 2)).natAbs
  let g := (gap * t * n + 5999999999) / 6000000000
  max 18 (18 * ((s.writeRevs h * t - g) / 18))

/-- Pw of the beams for a band (R304, R314): planned by adaptation, as before, or PW_OPT of the layer. -/
def State.bandLevels (s : State) (h layer : Nat) : List Nat :=
  let d := s.hd h
  match d.plans.find? (fun p => p.1 == d.bandNo + 1) with
  | some p => if d.pwLayer = layer then p.2 else (List.range 8).map fun b => s.reg (lvKey h (1 + 8 * layer + b))
  | none => (List.range 8).map fun b =>
      if d.pwLayer = layer then s.reg (lvKey h (0x41 + b)) else s.reg (lvKey h (1 + 8 * layer + b))

/-- The strategy table of a beam and layer (R304). -/
def State.strategy (s : State) (h b layer : Nat) : List Byte :=
  ((s.raw (stKey (h / 2) (0xD7 + h % 2) 0)).drop (640 * b + 80 * layer)).take 80

/-- Kinds 2 and 3 go to the pickup where what it holds differs (R305). -/
def State.sendLevels (s : State) (h layer mask : Nat) : State :=
  let pws := s.bandLevels h layer
  let ratio := s.reg (lvKey h (0x49 + layer))
  let s := s.setRegs ((List.range 8).map fun b => (lvKey h (0x41 + b), pws.getD b 0))
  let msg := (List.range 8).flatMap fun b => leBytes 2 (pws.getD b 0) ++ leBytes 2 (pws.getD b 0 * ratio / 1000)
  let tabs := (bitsIn 8 mask).flatMap fun b => s.strategy h b layer
  let newTabs := decide (s.reg (wrKey h 0x11) ≠ layer) || (s.hd h).tables != tabs
  let newLev := (s.hd h).levels != pws
  let s := if newTabs then
      (s.forEach (bitsIn 8 mask) fun s b => s.sendPkl h 2 (leNat (leBytes 1 b ++ leBytes 1 layer ++ s.strategy h b layer))).setReg
        (wrKey h 0x11) layer
    else s
  let s := if newLev then s.sendPkl h 3 (leNat msg) else s
  s.modHd h fun d => { d with
    levels := pws, tables := tabs, pwLayer := layer, pklWait := newTabs || newLev
    bandNo := d.bandNo + 1, plans := d.plans.filter fun p => d.bandNo + 1 < p.1 }

/-- No loop of the head stands in HOLD, and its engine does not inject (R141, R181). -/
def State.gatesFree (s : State) (h : Nat) : Bool :=
  ((List.range 12).all fun l => s.loopState h l != lsHold) && (s.eng h).inj == .free

/-- Beams of a head that can write: lit, not DEGRADED, not out of service, not held off-track (R173, R180, R272); no HOLD or
injection (R141, R181). -/
def State.canWrite (s : State) (h b : Nat) : Bool :=
  s.gatesFree h && bitOf (s.reg (hdKey h 0x16 0x13)) b && !bitOf (s.reg (chKey h 0 5)) b && !bitOf (s.reg (hdKey h 0x16 0x14)) b && !s.wdFault h
    && (match (s.hd h).gates[b]? with | some g => !g.offTrack | none => false)

/-- Whether a PSA lies in a test area (Table 10.3). -/
def inTest (daf2 : Bool) (psa : Nat) : Bool :=
  let c := psa % 2 ^ 26 / 18
  c < 2000 || (outerEnd daf2 ≤ c && c < outerEnd daf2 + 2000)

/-- Whether the head's running order came from object 0x3s03. -/
def State.directOrder (s : State) (h : Nat) : Bool := ((s.sq h).running.map (·.origin)) == some .direct

/-- The pilot stands where gates may open (R159). -/
def State.pilotOk (s : State) (h : Nat) : Bool :=
  let p := s.reg (hdKey h 0x13 3)
  p == 0 || (!s.part.wide && p == 4)

/-- BAND_START lies ahead of the pilot by LOCK_BITS and 40 µs (Table 12.2); on Blu-ray Disc addresses count no channel bits, and it lies
ahead. -/
def State.aheadOk (s : State) (h start : Nat) : Bool :=
  let i := h / 2
  let at_ := s.reg (hdKey h 0x13 4)
  let need := s.reg (stKey i 0xD0 6) + (s.channelRate i (zoneOf (s.daf2 i) (psaIndex start)) * 40 + 999999) / 1000000
  if s.bdIn i then decide (at_ < start) else decide (psaIndex at_ * 41584 + need ≤ psaIndex start * 41584)

/-- Acceptance of WRITE_START (Table 12.2); on Blu-ray Disc, where TLT and BLR take no estimates and one beam is lit, the
conditions on them do not apply (R319). -/
def State.writeOk (s : State) (h start : Nat) : Bool :=
  let bd := s.bdIn (h / 2)
  s.substate h == hsFollowing && s.pilotOk h
    && (bd || (s.loopState h 2 == lsClosed && s.loopState h 3 == lsClosed && !s.tiltWait h
      && decide (3 ≤ popCount 8 (s.reg (hdKey h 0x14 4)))))
    && (s.eng h).inj == .free && s.aheadOk h start

/-- Every lane of the head IDLE. -/
def State.lanesIdle (s : State) (h : Nat) : State := s.setReg (wrKey h 2) 0

/-- The band is given up before its gates open. -/
def State.dropBand (s : State) (h code : Nat) : State :=
  let s := (s.lanesIdle h).setReg (wrKey h 1) 0
  (s.modHd h fun d => { d with band := none, pklWait := false }).orderFailed h code

/-- The 18 sectors of a cluster at a place, with their PSAs (R254, R300): `own` the place it replaces, `bodies` those of the data sectors. -/
def State.clusterSectors (s : State) (n pl own lba serial valid kind : Nat) (bodies : List (List Byte)) : List (Nat × List Byte) :=
  let i := nsStation n
  let d2 := s.daf2 i
  let pi := match s.ns n with | some v => v.lbaf == 1 && kind == 0 | none => false
  (bodies ++ outerParity bodies).zipIdx.map fun p =>
    let psa := psaOf pl p.2
    let t := psaTrack d2 psa
    (psa, sectorBytes
      { psa := psa, location := locationOf t.2 (trackZone t.1) t.1, lba := lba, disc := s.reg (stKey i 0xC0 4), serial := serial, index := p.2
        blocks := valid, flags := (if pl = own then 0 else 1) + (if valid < 16 then 2 else 0) + (if pi then 4 else 0)
        format := s.mediumKind i - 2, kind := kind, origin := if pl = own then 0 else psaOf own 0 } p.1)

/-- The angle at which a band's first frame on a beam begins (R303), in 1/65,536 of a turn: its sector's medium angle; none where the
beam read the frame before it, which it joins. -/
def State.joinAngle (s : State) (h b psa : Nat) : Option Nat :=
  let d2 := s.daf2 (h / 2)
  if (s.lastStart h b).any fun x => x.1 + 1 == psa then none
  else
    let t := psaTrack d2 psa
    some ((t.2 * 65536 / spt d2 (trackZone t.1) + s.reg (stKey (h / 2) 0xC0 7)) % 65536)

/-- A cluster goes out on its lane (R301, R302): with the delimiter where the lane was not in WRITE. -/
def State.layDown (s : State) (h b : Nat) (l : List (Nat × List Byte)) : State :=
  if s.bdIn (h / 2) then s
  else
    let on := s.reg (wrKey h 2) / 4 ^ b % 4 == 2
    let bits := laneBits false (l.flatMap fun x => frameBits x.1 x.2)
    s.emit (.lane h b (if on then none else s.joinAngle h b (l.headD (0, [])).1) (s.hd h).laneDelay (if on then bits else delimiter ++ bits))

/-- A KIND 3 test cluster goes out on a beam (R307, R312); its side's WRITE_SERIAL is taken. -/
def State.layTest (s : State) (h b pl : Nat) : State :=
  let n := headNs h
  let s := s.layDown h b (s.clusterSectors n pl pl (2 ^ 64 - 1) (s.reg (sideKey n 0x14)) 16 3 ((List.range 16).map fun i => testBody (psaOf pl i)))
  s.addReg 32 (sideKey n 0x14) 1

/-- A beam's buffered cluster becomes the one being written: WRITE_SERIAL is taken, and its sectors go out (R300). -/
def State.beginCluster (s : State) (h b : Nat) (c : Option Nat) : State :=
  let data := (s.hd h).gates.getD b Gate.init |>.data
  let s := s.modHd h fun d => { d with gates := d.gates.modify b fun g => { g with open_ := true, cur := c, next := none } }
  match c with
  | some c =>
    let n := idNs c
    let serial := s.reg (sideKey n 0x14)
    let s := match findKey c data with
      | some (v, l) =>
        let own := ownPlace (s.daf2 (nsStation n)) (idCl c)
        s.layDown h b (s.clusterSectors n ((s.side n).place own) own (16 * idCl c) serial v 0 (l.map blockBody))
      | none => s
    ((s.setLane h b 2).addReg 32 (sideKey n 0x14) 1).modHd h fun d => { d with serials := insertKey c serial d.serials }
  | none => s.setLane h b 2

/-- The head is WRITING (R174): TLT and BLR open at their present drives. -/
def State.beginWriting (s : State) (h : Nat) : State :=
  if s.substate h = hsWriting then s
  else
    let s := ((s.setSubstate h hsWriting).setReg (wrKey h 1) 2)
    let s := if s.bdIn (h / 2) then s else s.openAtDrive h [2, 3]
    s.modHd h fun d => { d with tiltBack := true }

/-- WRITE_START (R307). -/
def State.writeStart (s : State) (h : Nat) (ev : WriteEvent) : State :=
  if !s.runs h 0x0C then s
  else if (s.sq h).started = 0 then
    match ev with
    | .begin start sectors mask =>
      let direct := s.directOrder h
      let start := if direct then s.reg (wrKey h 3) else start
      let mask := (if direct then s.reg (wrKey h 5) else mask) % 2 ^ s.beams
      let sectors := if direct then s.reg (wrKey h 4) else max 18 (min (sectors / 18 * 18) (s.bandLimit h start))
      let placeOk := if direct then s.stState (h / 2) == stMaint && inTest (s.daf2 (h / 2)) start else start % 2 ^ 26 % 18 == 0
      if s.shockOut (h / 2) then s.orderRejected h 6
      else if s.writeOk h start && placeOk then
        let s := s.allocRedo h
        let s := s.setRegs [(wrKey h 3, start), (wrKey h 4, sectors), (wrKey h 1, 1)]
        let s := s.sendLevels h (s.reg (hdKey h 0x13 1)) mask
        let s := s.forEach ((bitsIn 8 mask).filter (s.canWrite h)) fun s b => s.setLane h b 1
        let s := s.modHd h fun d => { d with
          band := some ⟨start, sectors, mask, direct, false, false, []⟩, inhibited := false
          gates := d.gates.map fun g => { g with open_ := false, cur := none, next := none, data := [] } }
        s.modSq h fun q => { q with started := 1 }
      else s.orderRejected h 1
    | _ => s
  else
    match ev with
    | .begin _ _ _ => s
    | .passed => s.dropBand h 0x0F5C_0001
    | .opened =>
      match (s.hd h).band with
      | none => s.orderRejected h 1
      | some d =>
        let go := (bitsIn 8 d.mask).filter fun b => s.canWrite h b
          && (d.test || match (s.hd h).gates[b]? with | some g => g.next.isSome | none => false)
        let s := s.modHd h fun x => { x with band := some { d with opened := true }, pklWait := false }
        let p := s.reg (hdKey h 0x13 3)
        let s := if d.test then s.forEach go fun s b => s.forEach (List.range (d.sectors / 18)) fun s j =>
            s.layTest h b (placeName (d.start / 2 ^ 29 % 8) ((p + b) % 8) (psaIndex d.start / 18 + j))
          else s
        let s := s.forEach go fun s b => s.beginCluster h b (match (s.hd h).gates[b]? with | some g => g.next | none => none)
        let s := if go.isEmpty then s else s.beginWriting h
        s.orderDone h 0

def execWriteStart (h : Nat) (ev : WriteEvent) (s : State) : Res := .next (s.writeStart h ev)

/-! ### Buffers (R298 to R300) -/

/-- A cluster of a zone that was written without all of its 16 blocks is a tail cluster (R264): TAIL_CLUSTERS counts it. -/
def State.tailWritten (s : State) (c : Nat) : State :=
  let n := idNs c
  match s.line n (idCl c), s.ns n with
  | some l, some v =>
    if v.zoned ∧ (l.valid ||| l.dirty) &&& (65535 - l.laterMask) ≠ 65535 then
      (s.bump (sideKey n 0x12)).modSide n fun d => { d with tails := d.tails.filter (· != idCl c) ++ [idCl c] }
    else s
  | _, _ => s

/-- A cluster is on the medium in its final place (R262): its zone, and its replacement where it was re-placed, go to the next record of
the LIA. -/
def State.recorded (s : State) (h c : Nat) : State :=
  let n := idNs c
  let serial := (findKey c (s.hd h).serials).getD 0
  let own := ownPlace (s.daf2 (nsStation n)) (idCl c)
  let again := ((s.hd h).places.any fun p => p.1 == c) && !s.bdIn (h / 2)
  let s := s.modSide n fun d => { d with
    newZones := insertKey (idCl c / 4096) serial d.newZones
    newRepl := if again then insertKey own (d.place own, serial) d.newRepl else d.newRepl }
  s.modHd h fun d => { d with serials := eraseKey c d.serials, places := d.places.filter fun p => p.1 != c }

/-- One cluster has its last postamble written: on the medium with VERIFY clear, else to be read back (R309). -/
def State.clusterWritten (s : State) (h c : Nat) : State :=
  let s := (s.tailWritten c).bump (wrKey h 7)
  let s := if ((s.hd h).places.any fun p => p.1 == c) then s.bump (wrKey h 0x0C) else s
  if s.reg (stKey (h / 2) 0xD0 1) = 0 then
    ((s.recorded h c).verified (idNs c) (idCl c)).settle
  else s.modHd h fun d => { d with band := d.band.map fun b => { b with written := b.written ++ [c] } }

/-- Whether the blocks of a line fill its cluster, or all of a tail cluster below the write pointer (R264, R297). -/
def State.fullLine (s : State) (l : Line) : Bool :=
  let have_ := l.valid ||| l.dirty
  let tail := match s.ns l.nsid with
    | some v =>
      let w := (v.zone (l.cluster / 4096)).wp
      v.zoned && w / 16 == l.cluster % 4096 && w % 16 != 0 && have_ &&& (2 ^ (w % 16) - 1) == 2 ^ (w % 16) - 1
    | none => false
  have_ == 65535 || tail

/-- Whether a cluster can be buffered by beam `b` of the running band (R297): its line, its place in the band, its layer. -/
def State.readyFor (s : State) (h b : Nat) (d : Band) (l : Line) : Bool :=
  let c := clusterId l.nsid l.cluster
  let redo := (s.hd h).repls.contains c
  let pl := s.placeOfCluster l.nsid l.cluster
  let layer := placeSpiral pl / 8
  let p := s.reg (hdKey h 0x13 3)
  let first := d.start % 2 ^ 26 / 18
  let here := s.bdIn (h / 2) || (decide (placeSpiral pl % 8 = (p + b) % 8) && decide (layer = s.reg (hdKey h 0x13 1))
    && decide (first ≤ placeCluster pl) && decide (placeCluster pl < first + d.sectors / 18))
  let free := redo || (!(s.hd h).holds c && (l.state == .dirty || l.state == .writing))
  here && free && l.isDirty && !bitOf (s.reg (sideKey l.nsid 0x15)) layer && l.nsid == headNs h

/-- The blocks of a line as they are buffered (R299), each with its fault: 1 poisoned, 2 protection information that fails. A poisoned
block with protection information takes the complement of its guard. -/
def State.bufferedBlocks (s : State) (l : Line) : List (Block × Nat) :=
  let pi : Bool := match s.ns l.nsid with | some v => v.lbaf == 1 | none => false
  (List.range 16).map fun b =>
    let x := l.block b
    if bitOf l.poison b then (if pi then { x with pi := piOf (2 ^ 64 - 1 - guardOf x) (piField x.pi 8 2) (piField x.pi 10 6) } else x, 1)
    else (x, if pi && piCheck (s.reg (nvKey 6)) (16 * l.cluster + b) x != .ok then 2 else 0)

/-- What the checks of buffered blocks count and report (R299). -/
def State.bufferChecks (s : State) (h : Nat) (l : Line) : State :=
  s.forEach (s.bufferedBlocks l).zipIdx fun s p =>
    let lba := 16 * l.cluster + p.2
    if p.1.2 = 1 then ((s.bump (wrKey h 0x0F)).note 0x0704 (engSource h) (leBytes 2 l.nsid ++ leBytes 8 lba)).integrityEntry l.nsid lba 1
    else if p.1.2 = 2 then (s.bump (wrKey h 0x0E)).note 0x0703 (engSource h) (leBytes 2 l.nsid ++ leBytes 8 lba)
    else s

/-- VALID_BLOCKS of a line's cluster (R264): the blocks below the write pointer of a tail cluster, else 16. -/
def State.validBlocks (s : State) (l : Line) : Nat :=
  if (l.valid ||| l.dirty) = 65535 then 16
  else match s.ns l.nsid with | some v => (v.zone (l.cluster / 4096)).wp % 16 | none => 16

/-- A cluster is read into a free buffer of its beam; the one written before it is over when both were taken. -/
def State.takeBuffer (s : State) (h b c : Nat) (l : Line) : State :=
  let v := (s.validBlocks l, (s.bufferedBlocks l).map (·.1))
  let s := s.modHd h fun d => { d with
    repls := d.repls.filter (· != c)
    gates := d.gates.modify b fun g => { g with data := insertKey c v (g.data.filter fun x => g.cur == some x.1 || g.next == some x.1) } }
  match (s.hd h).gates[b]?, (s.hd h).band with
  | some g, some d =>
    if g.open_ then
      match g.cur, g.next with
      | some x, some y => ((s.clusterWritten h x).beginCluster h b (some y)).modHd h fun d => { d with
          gates := d.gates.modify b fun g => { g with next := some c } }
      | some _, none => s.modHd h fun d => { d with gates := d.gates.modify b fun g => { g with next := some c } }
      | none, _ => s.beginCluster h b (some c)
    else if d.opened then (s.beginCluster h b (some c)).beginWriting h
    else s.modHd h fun d => { d with gates := d.gates.modify b fun g => { g with next := some c } }
  | _, _ => s

/-- A tail cluster whose line has more to write is written as a replacement (R264, R263): it gets its place when a band of its
head would take it. -/
def State.retail (s : State) (h nsid cl : Nat) : State :=
  match (s.hd h).band, s.line nsid cl with
  | some d, some l =>
    if nsid = headNs h ∧ ¬ d.test ∧ ¬ d.stopping ∧ (s.side nsid).tails.contains cl ∧ l.state = .dirty ∧ ¬ l.discard ∧ s.fullLine l
        ∧ ¬ (s.hd h).holds (clusterId nsid cl) then
      (s.modSide nsid fun d => { d with tails := d.tails.filter (· != cl) }).replaceCluster h (clusterId nsid cl)
    else s
  | _, _ => s

/-- A cluster whose own place is treated as defective is written as a replacement (R265): it gets its place when a band would take it. -/
def State.avoidDefect (s : State) (h nsid cl : Nat) : State :=
  let own := ownPlace (s.daf2 (h / 2)) cl
  match (s.hd h).band, s.line nsid cl with
  | some d, some l =>
    if nsid = headNs h ∧ ¬ d.test ∧ ¬ d.stopping ∧ (s.side nsid).defects.contains own ∧ (findKey own (s.side nsid).repl).isNone ∧ l.state = .dirty
        ∧ ¬ l.discard ∧ s.fullLine l ∧ ¬ (s.hd h).holds (clusterId nsid cl) then s.replaceCluster h (clusterId nsid cl)
    else s
  | _, _ => s

/-- CLUSTER_BUFFERED (R297, R298): `late` when it is not wholly buffered at its sector 0. -/
def State.clusterBuffered (s : State) (h b nsid cl : Nat) (late : Bool) : State :=
  let s := ((s.allocRedo h).retail h nsid cl).avoidDefect h nsid cl
  match (s.hd h).band, s.line nsid cl with
  | some d, some l =>
    let gate := (s.hd h).gates.getD b Gate.init
    let room := gate.open_ || gate.next.isNone
    let held := d.opened && (s.hd h).inhibited && !gate.open_
    if d.test || d.stopping || !bitOf d.mask b || !s.canWrite h b || !s.readyFor h b d l || !room || held then s
    else if !s.fullLine l then (if (s.op nsid cl).isNone then s.queueFill nsid cl .merge else s)
    else if late then s.bump (wrKey h 0x0B)
    else
      let s := if l.state = .writing then s.unverified nsid cl else s
      let s := s.modLine nsid cl fun l => { l with state := .writing, later := none, laterMask := 0 }
      (s.bufferChecks h l).takeBuffer h b (clusterId nsid cl) l
  | _, _ => s

def execClusterBuffered (h b nsid cl : Nat) (late : Bool) (s : State) : Res :=
  .next (s.clusterBuffered h b nsid cl late)

/-! ### The end of a band (R307, R309) -/

/-- Test clusters of a head's spiral: used of the inner or the outer test area (Table 10.3). -/
def testKey (layer p : Nat) (outer : Bool) : Nat := (layer * 8 + p) * 2 + (if outer then 1 else 0)

/-- Every gate closes at a cluster boundary: `all` writes the buffered cluster of each beam as well. -/
def State.closeBand (s : State) (h : Nat) (every : Bool) : State :=
  let s := s.forEach (List.range 8) fun s b =>
    match (s.hd h).gates[b]? with
    | none => s
    | some g =>
      let s := if g.open_ then match g.cur with | some c => s.clusterWritten h c | none => s else s
      let s := match g.next with
        | some c => if every && g.open_ then (s.addReg 32 (sideKey (idNs c) 0x14) 1).clusterWritten h c else s.unverified (idNs c) (idCl c)
        | none => s
      s.modHd h fun d => { d with gates := d.gates.set b { g with open_ := false, cur := none, next := none, data := [] } }
  (s.lanesIdle h).bump (wrKey h 6)

/-- The station processor moves the pilot back by `n` tracks: TRACK_JUMP where FINE_MAX allows it, else SEEK, then FOLLOW with PARAM
1 (R172, R309). -/
def State.moveBack (s : State) (h n : Nat) : State :=
  let s := if s.reg (hdKey h 0x12 8) < n then
      (s.setRegs [(sledKey h 0x16, s.reg (hdKey h 0x13 2) - n), (sledKey h 0x17, 0xFF)]).issue h 7 0
    else s.issue h 4 (ofSigned 16 (-(n : Int)))
  s.issue h 5 1

/-- The jump back to the first sector of the band (R309): −8R tracks, on Blu-ray Disc −R; as SEEK where FINE_MAX is below
8. -/
def State.jumpBack (s : State) (h tracks : Nat) : State := s.moveBack h (if s.bdIn (h / 2) then tracks / 8 else tracks)

/-- The pass change of an N part after a pass's cycle (R172, R309): pass 1 starts 8R − 4 tracks back, with p = 4; the next band's pass
0 starts 4 tracks back from where pass 1 ended. -/
def State.passChange (s : State) (h : Nat) : State :=
  if s.part.wide ∨ s.bdIn (h / 2) then s
  else if s.reg (hdKey h 0x13 3) = 0 then s.moveBack h (8 * s.writeRevs h - 4)
  else if s.reg (hdKey h 0x13 3) = 4 then s.moveBack h 4
  else s

/-- The band has come to its end. -/
def State.endBand (s : State) (h : Nat) (every : Bool) : State :=
  match (s.hd h).band with
  | none => s
  | some d =>
    let s := s.closeBand h every
    let layer := s.reg (hdKey h 0x13 1)
    let p := s.reg (hdKey h 0x13 3)
    let outer := decide (2000 ≤ d.start % 2 ^ 26 / 18)
    let s := if d.test then
        s.forEach (bitsIn 8 d.mask) fun s b => s.modSide (headNs h) fun x =>
          let k := testKey layer ((p + b) % 8) outer
          { x with test := insertKey k (min 2000 (usedOf x.test k + d.sectors / 18)) x.test }
      else s
    let s := s.modHd h fun x => { x with band := none, toVerify := x.written }
    let s := if s.substate h = hsWriting then s.setSubstate h hsFollowing else s
    let s := s.allocRedo h
    if (s.hd h).toVerify.isEmpty then (let s := s.setReg (wrKey h 1) 0; if d.test then s else s.passChange h)
    else (s.setReg (wrKey h 1) 3).jumpBack h (8 * s.writeRevs h)

/-- BAND_END (R309): of a band whose gates have opened; a stopped band ends after its clusters in progress. -/
def execBandEnd (h : Nat) (s : State) : Res :=
  .next (match (s.hd h).band with
    | some d => if d.opened then s.endBand h (!d.stopping) else s
    | none => s)

/-- WRITE_STOP (R307): `closed` when every gate has closed at its beam's next cluster boundary. -/
def execWriteStop (h : Nat) (closed : Bool) (s : State) : Res :=
  .next (if !s.runs h 0x0D then s
  else if s.substate h ≠ hsWriting then s.orderDone h 0
  else if (s.sq h).started = 0 then
    (s.modHd h fun d => { d with band := d.band.map fun b => { b with stopping := true } }).modSq h fun q => { q with started := 1 }
  else if closed then (s.endBand h false).orderDone h 0
  else s)

/-- GATE_REOPEN (R316): the head is FOLLOWING with FOC and TRK free of holds and no expiry to wait for; the band goes on
at each beam's next cluster boundary. -/
def execGateReopen (h : Nat) (s : State) : Res :=
  .next (match (s.hd h).band with
    | some d =>
      if d.opened && !d.stopping && (s.hd h).inhibited && s.substate h == hsFollowing && s.loopState h 0 == lsClosed
          && s.loopState h 1 == lsClosed && !s.tiltWait h && (s.hd h).quietFrom + s.reg (stKey (h / 2) 0xD0 5) ≤ s.now then
        let s := s.forEach ((bitsIn 8 d.mask).filter (s.canWrite h)) fun s b => s.setLane h b 1
        (s.modHd h fun d => { d with inhibited := false }).setReg (wrKey h 1) 1
      else s
    | none => s)

/-- FOLLOW (R168): a jump back that an address confirms only after s0 has passed is followed by another (R309). -/
def execFollow (h : Nat) (ev : FollowEvent) (s : State) : Res :=
  let was := s.runs h 5
  let s := s.follow h ev
  let late := match ev with | .read r => decide (s.reg (wrKey h 3) % 2 ^ 26 < r.addr % 2 ^ 26) | _ => false
  .next (if was && s.substate h == hsFollowing && !s.runs h 5 && s.reg (wrKey h 1) == 3 && late then (s.bump (wrKey h 0x13)).jumpBack h 8
  else s)

/-- GATE (R227, R159, R181): a beam mask. Customer code opens no gate (REJECTED, reason 7); an opening that a protective decision
or the pilot's spiral forbids is refused. -/
def execGate (q imm : Nat) (s : State) : Res :=
  s.micro q 0x15 0 0 imm (bitsOf imm 16 8 != 0) fun s =>
    let bs := bitsIn 8 (imm % 256)
    if !isHead q then s.nextWord q
    else if bitOf imm 17 then
      if (s.sq q).inCustomer then s.orderRejected q 7
      else
        let may := s.substate q == hsFollowing || s.substate q == hsWriting
        if !may || !s.pilotOk q || (s.hd q).inhibited || s.tiltWait q || s.loopState q 0 != lsClosed || s.loopState q 1 != lsClosed
            || bs.any (fun b => !s.canWrite q b) then s.latheRefuse q 6
        else
          let s := s.forEach bs fun s b => match (s.hd q).gates[b]? with
            | some g => if g.open_ then s else s.beginCluster q b g.next
            | none => s
          (if bs.isEmpty then s else s.beginWriting q).nextWord q
    else ((s.forEach bs fun s b => s.cutBeam q b).gatesView q).nextWord q

/-! ### Power calibration (R312 to R314) -/

/-- The lowest error count with its step (the first of equals), and the window around it (R312). -/
def calWindow (errs : List Nat) (pct : Nat) : Nat × Nat × Nat × Nat :=
  let low := errs.foldl min (errs.headD 0)
  let at_ := (errs.findIdx? (· == low)).getD 0
  let ok := fun i => decide (errs.getD i 0 * 100 ≤ pct * low) && decide (i < errs.length)
  let a := at_ - ((List.range at_).reverse.takeWhile ok).length
  let z := at_ + (((List.range errs.length).drop (at_ + 1)).takeWhile ok).length
  (low, at_, a, z)

/-- One beam's result: PW_OPT and BETA_REF, or nothing (R312). -/
def State.calBeam (s : State) (h layer : Nat) (x : BeamCal) : State × Bool :=
  let w := calWindow x.errs (s.reg (stKey (h / 2) 0xD0 0x0A))
  let a := w.2.2.1
  let z := w.2.2.2
  let res := stKey (h / 2) 0xD9
  let s := s.setReg (res (0x11 + x.b)) w.1
  if w.1 ≤ s.reg (stKey (h / 2) 0xD0 0x0B) ∧ 3 ≤ z + 1 - a then
    let k := lvKey h (1 + 8 * layer + x.b)
    let pw := (roundDiv ((s.reg k : Int) * (1600 + 25 * (a + z : Nat))) 2000).toNat
    let s := s.setRegs [(k, pw), (lvKey h (0x5B + 8 * layer + x.b), ofSigned 16 (x.betas.getD ((a + z) / 2) 0)),
      (res (9 + x.b), pw), (res 8, setBit (s.reg (res 8)) x.b)]
    (s, true)
  else (s, false)

/-- Beams of a mask whose spiral has a test cluster free where the pilot stands (R312). -/
def State.calBeams (s : State) (h mask : Nat) : List Nat :=
  let layer := s.reg (hdKey h 0x13 1)
  let p := s.reg (hdKey h 0x13 3)
  let outer := decide (2000 ≤ s.reg (hdKey h 0x13 4) % 2 ^ 26 / 18)
  (bitsIn 8 (mask % 2 ^ s.beams)).filter fun b =>
    decide (usedOf (s.side (headNs h)).test (testKey layer ((p + b) % 8) outer) < 2000)

/-- The result object takes POWER_CAL's end, with its data (R36): `place` the physical cluster used, `done` the beams calibrated. The
layer counts as calibrated at this instant (R313). -/
def State.calResult (s : State) (h code place done : Nat) : State :=
  let layer := s.reg (hdKey h 0x13 1)
  let s := (s.setReg (wrKey h 1) 0).modHd h fun d => { d with
    pklWait := false, calObject := false, opcDone := insertKey layer s.now d.opcDone, atLimit := List.replicate 8 0 }
  let s := s.endResult (stIx (h / 2) 0xD9) [(5, h % 2), (6, layer), (7, place), (8, done)] code
  if code = 0 then s.orderDone h 0 else s.orderFailed h code

/-- POWER_CAL (R307, R312). -/
def State.powerCal (s : State) (h : Nat) (ev : PowerCalEvent) : State :=
  if !s.runs h 0x0E then s
  else
    let i := h / 2
    let layer := s.reg (hdKey h 0x13 1)
    let p := s.reg (hdKey h 0x13 3)
    let addr := s.reg (hdKey h 0x13 4)
    let bs := s.calBeams h (s.sq h).param
    let outer := decide (2000 ≤ addr % 2 ^ 26 / 18)
    let place := fun (b : Nat) => placeName layer ((p + b) % 8)
      ((if outer then outerEnd (s.daf2 i) else 0) + usedOf (s.side (headNs h)).test (testKey layer ((p + b) % 8) outer))
    let at_ := match bs with | b :: _ => placeCluster (place b) | [] => 0
    if (s.sq h).started = 0 then
      if s.substate h = hsFollowing ∧ (s.bdIn i ∨ inTest (s.daf2 i) addr) ∧ (s.eng h).inj = .free then
        let s := s.beginResult (stIx i 0xD9)
        if bs.isEmpty then s.calResult h 0x0F5C_0003 (s.reg (stKey i 0xD9 7)) 0
        else
          let s := (s.sendLevels h layer (bs.foldl setBit 0)).sendPkl h 4 (leNat ((List.range 18).flatMap fun k => leBytes 2 (800 + 25 * k)))
          let s := s.forEach bs fun s b => s.layTest h b (place b)
          ((s.modHd h fun d => { d with pklWait := true, calObject := true, bandNo := d.bandNo - 1 }).setReg (wrKey h 1) 5).modSq h fun q => { q with started := 1 }
      else
        let s := if (s.hd h).calObject then
            (s.endResult (stIx i 0xD9) [(5, h % 2), (6, layer)] codeRejected).modHd h fun d => { d with calObject := false }
          else s
        s.orderRejected h 1
    else
      match ev with
      | .begin => s
      | .read l =>
        let l := l.filter fun x => bs.contains x.b
        let s := s.setReg (stKey i 0xD9 8) 0
        let s := s.forEach l fun s x => s.modSide (headNs h) fun d =>
          let k := testKey layer ((p + x.b) % 8) outer
          { d with test := insertKey k (usedOf d.test k + 1) d.test }
        let r := l.foldl (fun (r : State × Bool) x => let q := r.1.calBeam h layer x; (q.1, r.2 || q.2)) (s, false)
        if r.2 then
          (r.1.setRegs [(lvKey h 0x59, r.1.reg (wrKey h 0x12)), (lvKey h 0x5A, r.1.calendar)]).calResult h 0 at_ (r.1.reg (stKey i 0xD9 8))
        else r.1.calResult h 0x0F5C_0004 at_ 0

def execPowerCal (h : Nat) (ev : PowerCalEvent) (s : State) : Res := .next (s.powerCal h ev)

/-- PKL_ACK_TIMEOUT (R305): the write order that sent the message fails. -/
def execPklAckTimeout (h : Nat) (s : State) : Res :=
  .next (if (s.hd h).pklWait then
    (if s.runs h 0x0C then s.dropBand h 0x0F5C_0002
     else if s.runs h 0x0E then s.calResult h 0x0F5C_0002 (s.reg (stKey (h / 2) 0xD9 7)) 0
     else s)
  else s)

/-- The beams of a head whose spiral has a test cluster free in an area, with the pilot on spiral `p` (R312, R313). -/
def State.testBeams (s : State) (h layer p : Nat) (outer : Bool) : List Nat :=
  (bitsIn s.beams (s.reg (hdKey h 0x16 0x13))).filter fun b =>
    decide (usedOf (s.side (headNs h)).test (testKey layer ((p + b) % 8) outer) < 2000)

/-- The test area a calibration takes for a band that starts at a cluster: the nearer one with a free cluster of some lit beam; none
where both are full on every spiral (R312, R313). -/
def State.testArea (s : State) (h layer at_ : Nat) : Option Bool :=
  let p := s.reg (hdKey h 0x13 3)
  let far := decide (outerEnd (s.daf2 (h / 2)) < 2 * at_)
  [far, !far].find? fun o => !(s.testBeams h layer p o).isEmpty

/-- A layer's calibration is due before the next band (R313): none since the load, the pickup's temperature has moved, the interval has
passed, or a beam's Pw stood at its limit for three bands. -/
def State.opcDue (s : State) (h : Nat) : Bool :=
  let i := h / 2
  match findKey (s.reg (hdKey h 0x13 1)) (s.hd h).opcDone with
  | none => true
  | some t =>
    decide (10 * s.reg (stKey i 0xD0 8) < (s.regI 16 (wrKey h 0x12) - s.regI 16 (lvKey h 0x59)).natAbs)
      || decide (t + 1000000 * s.reg (stKey i 0xD0 9) ≤ s.now) || (s.hd h).atLimit.any (3 ≤ ·)

/-- The station processor calibrates before a band (R313): POWER_CAL of every beam, in the nearer test area with a free cluster; Blu-ray
Disc, which has no test areas of this format, is calibrated where the pilot stands (R319). -/
def State.opcRun (s : State) (h : Nat) : State :=
  let i := h / 2
  let layer := s.reg (hdKey h 0x13 1)
  let p := s.reg (hdKey h 0x13 3)
  if s.bdIn i then s.issue h 0x0E 0xFF
  else
    match s.testArea h layer (psaIndex (s.reg (hdKey h 0x13 4)) / 18) with
    | none => s
    | some o =>
      let c := (if o then outerEnd (s.daf2 i) else 0) + usedOf (s.side (headNs h)).test (testKey layer p o)
      let track := (psaTrack (s.daf2 i) (psaOf (placeName layer p c) 0)).1
      (((s.setRegs [(sledKey h 0x16, track), (sledKey h 0x17, 0xFF)]).issue h 7 0).issue h 5 1).issue h 0x0E 0xFF

/-- The station processor issues an order of its media work (R15, log entry 41); in place of a band on a layer whose calibration is due
it calibrates first, and asks for the band again at a later point (R313). -/
def State.mediaOrder (s : State) (e code param : Nat) : State :=
  let layer := s.reg (hdKey e 0x13 1)
  let full := !s.bdIn (e / 2) && (s.testArea e layer 0).isNone
  if e < 16 ∧ code = 0x0C ∧ s.opcDue e ∧ ¬ full then
    if s.hasOrder e 0x0E then s else s.opcRun e
  else s.issue e code param

/-- SCHEDULING_POINT (R14, R107): of a station whose core runs; in READY or ACTIVE the station processor issues the orders it
has chosen for its media work (R15, log entry 41). -/
def execSchedulingPoint (st : Nat) (orders : List OrderReq) (s : State) : Res :=
  .next (if s.stState st = stOff ∧ s.domState (6 * st) ≠ 3 then s
    else
      let s := s.schedule st
      if s.stState st = stReady ∨ s.stState st = stActive then
        s.forEach orders fun s o => s.mediaOrder (seqOf st o.seq) o.code o.param
      else s)

/-- The levels of the band after next from a verified band (R314). -/
def State.adaptPower (s : State) (h : Nat) : State :=
  let d := s.hd h
  let layer := d.pwLayer
  let set := fun k => s.reg (stKey (h / 2) 0xD0 k)
  let mean := fun (b : Nat) => let x := d.betas.getD b (0, 0); if x.2 = 0 then none else some (roundDiv x.1 x.2)
  let s := s.setRegs ((List.range 8).filterMap fun b => (mean b).map fun m => (lvKey h (0x51 + b), ofSigned 16 m))
  let pws : List Nat := (List.range 8).map fun b =>
    let now : Int := s.reg (lvKey h (0x41 + b))
    let opt : Int := s.reg (lvKey h (1 + 8 * layer + b))
    match mean b with
    | none => now.toNat
    | some m =>
      let w := roundDiv (now * (100000 + (set 0x0D : Int) * (s.regI 16 (lvKey h (0x5B + 8 * layer + b)) - m))) 100000
      (clampInt (roundDiv (opt * (100 - (set 0x0E : Int))) 100) (roundDiv (opt * (100 + (set 0x0E : Int))) 100) w).toNat
  let atLim := (List.range 8).map fun b =>
    let opt : Int := s.reg (lvKey h (1 + 8 * layer + b))
    let w : Int := ((pws.getD b 0 : Nat) : Int)
    decide (w = roundDiv (opt * (100 - (set 0x0E : Int))) 100) || decide (w = roundDiv (opt * (100 + (set 0x0E : Int))) 100)
  let s := if set 0x0C = 1 ∧ layer < 8 then s.modHd h fun d => { d with
      atLimit := List.zipWith (fun n (x : Bool × Bool) => if x.2 then (if x.1 then n + 1 else 0) else n) d.atLimit
        (atLim.zip ((List.range 8).map fun b => (mean b).isSome)) } else s
  let s := if set 0x0C = 1 ∧ layer < 8 then s.modHd h fun d => { d with plans := d.plans ++ [((if d.band.isSome then d.bandNo + 1 else d.bandNo + 2), pws)] } else s
  s.modHd h fun d => { d with betas := List.replicate 8 (0, 0) }

/-- VERIFY_RESULT (R310, R311, R318, R319): the counts of the 18 sectors and the cluster's β. -/
def State.verifyResult (s : State) (h b nsid cl : Nat) (bits : List Nat) (beta : Int) : State :=
  let c := clusterId nsid cl
  if !(s.hd h).toVerify.contains c then s
  else
    let mine := s.pool.filter fun x => x.nsid == nsid && x.cl == cl && x.verify
    if mine.any fun x => x.stage == .firstWait || x.stage == .first then s
    else
      let most := s.reg (stKey (h / 2) 0xD0 4)
      let good := s.bdIn (h / 2) || (List.range 18).all fun i => mine.any fun x => x.idx == i && x.stage == .good
      let bits := if s.bdIn (h / 2) then bits else mine.map (·.errs)
      let pass := good && bits.all (· ≤ most)
      let s := { s with pool := s.pool.filter fun x => !(x.nsid == nsid && x.cl == cl && x.verify) }
      let s := s.modHd h fun d => { d with
        toVerify := d.toVerify.filter (· != c), worst := max d.worst (bits.foldl max 0) }
      let s : State := if pass then
          let s := (s.bump (wrKey h 8)).modHd h fun d => { d with betas := d.betas.modify b fun x => (x.1 + beta, x.2 + 1) }
          ((s.recorded h c).verified nsid cl).settle
        else
          let u := (s.bump (wrKey h 9)).replaceCluster h c
          if (s.line nsid cl).all (·.discard) then u else (u.unverified nsid cl).settle
      if (s.hd h).toVerify.isEmpty then
        let s := (s.setReg (wrKey h 0x10) (s.hd h).worst).adaptPower h
        let s := s.modHd h fun d => { d with worst := 0 }
        if s.reg (wrKey h 1) = 3 ∨ s.reg (wrKey h 1) = 4 then (s.setReg (wrKey h 1) 0).passChange h else s
      else s

def execVerifyResult (h b nsid cl : Nat) (bits : List Nat) (beta : Int) (s : State) : Res :=
  .next (s.verifyResult h b nsid cl bits beta)

end Sys2Proof.Machine
end

