-- ==== Sys2Proof/Machine/Power.lean ====
section
/-! DEFINITION. Power, clocks and start-up (chapter 4, R65, R325, R504): what a reset and a power-fail take away, the rails,
the wake causes, the switched domains and the temperatures. -/

namespace Sys2Proof.Machine

/-! ### What is kept (Table 4.6) -/

/-- Indices of the result objects (R35). -/
def isResultIx (i : Nat) : Bool :=
  if 0x3000 ≤ i ∧ i < 0x4000 then [0x01, 0x03, 0x3C, 0x3E, 0x4C, 0x4E, 0x5E, 0x6D, 0xC4, 0xD9, 0xE2].contains (normIndex i % 256)
  else [0x2441, 0x2501, 0x4403, 0x4603, 0x4A01, 0x5001, 0x5002, 0x5011, 0x5031, 0x5401].contains i

/-- Registers that a device reset leaves as they stand: the Ledger's status and counters (R452), the calendar, the strap
sample, the boot and rail status, the peak temperature (R505), the fuses' life cycle and keys, and the BIST outcomes that
Hearth keeps (R470). -/
def keptKey (k : Nat) : Bool :=
  let i := k / 256
  let sub := k % 256
  if i = 0x2100 then [0x01, 0x04, 0x05, 0x06, 0x07, 0x0B, 0x0D].contains sub
  else if i = 0x2103 then sub == 2 || sub == 6
  else if i = 0x2200 then !([0x04, 0x05, 0x06, 0x07, 0x08, 0x09].contains sub)
  else if i = 0x2300 then 1 ≤ sub && sub ≤ 3
  else if i = 0x2010 then sub == 1 || sub == 7
  else i == 0x5000 || k == key 0x5400 6 || k == key 0x2500 9

/-- Byte strings that a device reset leaves: what the NOR and the fuses hold. -/
def keptRaw (k : Nat) : Bool := k / 256 == 0x5000 || k == key 0x5012 3

/-- A stored value that is ignored is recorded: the object's index and sub-index (R60). -/
def State.noteIgnored (s : State) (k : Nat) : State := s.note 0x0105 0 (leBytes 2 (k / 256) ++ leBytes 1 (k % 256))

/-- Stored values replace the defaults (R10); one of an object that is not defined or cannot be set, or beyond its present
range, is ignored and recorded (R60). OVERRIDES_IN_USE follows the entries of object 0x5801 (R489). -/
def State.applyStored (s : State) (want : Nat → Bool) : State :=
  match s.nor.stored with
  | none => s
  | some c =>
    let nums := c.nums.filter fun p => want p.1
    let raws := c.raws.filter fun p => want p.1
    let t := s.setRegs nums
    let good := nums.filter fun p => t.storedOk p.1 p.2
    let bad := (nums.filter fun p => !t.storedOk p.1 p.2).map (·.1) ++ (raws.filter fun p => !storedRawOk p.1 p.2).map (·.1)
    let s := ((raws.filter fun p => storedRawOk p.1 p.2).foldl (fun (s : State) p => s.setRaw p.1 p.2) (s.setRegs good))
    let s := s.setReg (key 0x5800 1) s.overrides.length
    s.forEach bad State.noteIgnored

/-- What has begun in the NVMe engine, in Granary, in the contexts and in the ring is lost (R374, Table 4.6). -/
def State.loseData (s : State) : State :=
  { s.clearGranary with
    ring := [], pool := []
    nvme := { Nvme.initial with selfTests := s.nvme.selfTests, seq := s.nvme.seq } }

/-- What the stations, heads, engines and sequencers hold. -/
def State.loseStations (s : State) : State :=
  { s with stns := [], heads := [], loops := [], engines := [], seqs := [], sides := [], stores := { s.stores with loaded := [], patrol := [] } }

/-- The registers after a device reset: kept ones, then stored values, else defaults (R10, Table 4.6). -/
def State.resetRegs (s : State) : State :=
  ({ s with regs := s.regs.filter fun p => keptKey p.1, raws := s.raws.filter fun p => keptRaw p.1 }).applyStored fun _ => true

def State.modHbm (s : State) (f : Hbm → Hbm) : State := { s with hbm := f s.hbm }

/-- The field repairs of a domain's SRAM macros are applied as it wakes (R385). -/
def State.sramWake (s : State) (d : Nat) : State :=
  s.modHbm fun h => { h with sramWaits := h.sramWaits.filter fun c => c / 2 ^ 32 != d }

/-- What a start-up does to the HBM controllers, the ring engines, the arbiter, calibration and tests: nothing of a window, a
wait or a run is left, every field repair is in force (R385); a cleared repair map is empty, and its retired ways serve again (R386); BIST outcomes and the volume
table stay. -/
def State.unitsReset (s : State) : State :=
  { s.modHbm fun h =>
      let h := { h with events := [], stream := [], wants := [], armed := none, cfs := false, planted := [], sramEvents := [], sramWaits := [], noSpare := [], lostWays := [] }
      if h.clearMap then { h with map := [], retired := [], clearMap := false } else h with
    fabric := Ring.initial, arb := [], cal := ⟨none, [], []⟩, bist := { s.bist with runs := [], out := [] }, selfTest := none }

/-- Registers that show a station, its heads, loops, sleds and spindle, and are neither a setting nor a count: they follow the
stations to OFF (Table 4.6). -/
def stationView (k : Nat) : Bool :=
  let i := k / 256
  let sub := k % 256
  inBlock i &&
    (if ixOff i = 0 then 1 ≤ sub && sub ≤ 8
     else if ixOff i = 2 then sub == 3
     else if ixOff i = 0x10 then [1, 2, 3, 0x0D].contains sub
     else if ixOff i = 0x20 ∨ ixOff i = 0x21 then [0x1A, 0x1B, 0x1C].contains sub
     else if ixOff i = 0x22 then sub == 0x0C || sub == 0x0D
     else if ixOff i = 0x53 ∨ ixOff i = 0x93 then 1 ≤ sub && sub ≤ 5
     else if ixOff i = 0x30 ∨ ixOff i = 0x40 ∨ ixOff i = 0x80 then
       (match findObj i sub with | some o => o.acc == .ro | none => false)
     else false)

/-- Stations are OFF and result objects IDLE with SEQUENCE 0 (Table 4.6); every setting stays. -/
def State.stationsOff (s : State) : State :=
  { s with regs := s.regs.filter fun p => !(isResultIx (p.1 / 256) && 2 ≤ p.1 % 256) && !stationView p.1 }

/-- COB-IDs whose defaults hold the node-ID (Table 2.10), with what it is added to. -/
def cobBases : List (Nat × Nat) :=
  [(key 0x1014 0, 0x80), (key 0x1200 1, 0x600), (key 0x1200 2, 0x580)]
    ++ (List.range 4).flatMap fun n => [(key (0x1400 + n) 1, 0x8000_0200 + 0x100 * n), (key (0x1800 + n) 1, 0x8000_0180 + 0x100 * n)]

/-- The node-ID is applied (R45): it stands in object 0x2010:03 and in the COB-IDs that nothing stored replaces. -/
def State.applyNode (s : State) (node : Nat) : State :=
  let has := fun (k : Nat) => match s.nor.stored with | some c => c.nums.any (fun p => p.1 == k) | none => false
  (s.setReg (key 0x2010 3) node).setRegs ((cobBases.filter fun p => !has p.1).map fun p => (p.1, p.2 + node))

/-- The PDO length in bytes under the DATA_RATE in force (R49). -/
def State.pdoLength (s : State) : Nat := if s.can.dataRate = 0 then 8 else 64

/-- The bits that the first `n` entries of a mapping take. -/
def State.mappedBits (s : State) (ix n : Nat) : Nat := ((List.range n).map fun e => s.reg (key ix (e + 1)) % 256).sum

/-- A stored mapping that no longer fits is loaded with count 0, and recorded (R49, R60). -/
def State.dropLongMappings (s : State) : State :=
  s.forEach ((List.range 8).map (0x1600 + ·) ++ (List.range 8).map (0x1A00 + ·)) fun s ix =>
    if 8 * s.pdoLength < s.mappedBits ix (s.reg (key ix 0)) then (s.setReg (key ix 0) 0).noteIgnored (key ix 0) else s

/-- A controller's bits in BUS_STATE (Table 2.13). -/
def BusState.bits : BusState → Nat
  | .active => 0
  | .passive => 1
  | .busOff => 2
  | .disabled => 3

/-- Bit timing, CAN mode and node-ID are applied anew with the values now in object 0x2010 (R43, R45, R46, R63). A controller
that is passive or bus-off stays so: it returns as R47 states. -/
def State.canApply (s : State) : State :=
  let mode := s.reg (key 0x2010 4)
  let bus := fun b =>
    if !(serviceBuses mode ++ pdoBuses mode).contains b then BusState.disabled
    else match s.can.buses.getD b .active with | .disabled => .active | x => x
  let strap := s.reg (key 0x2010 1)
  let s := { s with can := { s.can with
      mode := mode, nominal := s.reg (key 0x2010 5), dataRate := s.reg (key 0x2010 6), buses := [bus 0, bus 1] } }
  let s := s.setReg (key 0x2010 9) ((bus 0).bits + 4 * (bus 1).bits)
  s.dropLongMappings.applyNode (if strap = 0 then s.reg (key 0x2010 2) else strap)

/-- CAN begins anew: what stood is cleared (R508), and nothing is sent before the boot-up message; the values of object
0x2010 are applied once the stored ones stand. -/
def State.canAnew (s : State) (load : State → State) : State := (load { s with can := Can.initial }).canApply

/-- The boot-up message, PRE-OPERATIONAL, and the EMCY frames held for it (R44, R508). -/
def State.canBoot (s : State) : State :=
  if s.can.booted then s
  else
    let held := s.can.held
    let s := { s with can := { s.can with nmt := .preOperational, booted := true, held := [] } }
    (s.emitOn (serviceBuses s.can.mode) .bootUp).forEach held fun s f => s.sendEmcy f

/-- CAN from mask ROM: under the strapped node-ID, or 127 (R93, R422). -/
def State.canRom (s : State) : State :=
  let strap := s.reg (key 0x2010 1)
  (s.applyNode (if strap = 0 then 127 else strap)).canBoot

/-- Each strap's bit takes the majority of its three samples (R78). -/
def majority (t : Straps) : Nat := ((t.a &&& t.b) ||| (t.b &&& t.c) ||| (t.a &&& t.c)) % 128

/-- The strap sample (R45, R78). -/
def State.sampleStraps (s : State) (t : Straps) : State := s.setRegs [(key 0x2010 1, majority t), (key 0x2010 7, majority t)]

def State.modPower (s : State) (f : Power → Power) : State := { s with power := f s.power }
/-- On the 16 MHz oscillator: CLOCK_STATUS bit 9. -/
def State.on16 (s : State) : Bool := bitOf (s.reg (key 0x2100 0x0D)) 9
def State.rails (s : State) : Nat := s.reg (key 0x2100 7)
/-- RESET_N or PERST_N holds the device. -/
def State.held (s : State) : Bool := s.power.resetLow || s.power.perstLow

/-! ### Rails (R84, R85, R87) -/

/-- The first enable rises, in BOOT with every rail low, on the 25 MHz clock. -/
def State.beginRails (s : State) : State :=
  if s.powerState = psBoot ∧ s.rails = 0 ∧ ¬ s.on16 ∧ ¬ s.held ∧ ¬ s.power.fuseFailed ∧ ¬ s.power.dark then
    s.setReg (key 0x2100 7) 256
  else s

/-- No stored copy passes its check: every object takes its default, with record 0x0105 (R60; its payload is open). -/
def State.noteNoCopy (s : State) : State :=
  match s.nor.stored with
  | some _ => s
  | none => let (k, s) := s.fresh; s.note 0x0105 0 (leBytes 3 (Config.freeValue k))

/-- The Ledger's windows return to CURSOR 0 with nothing loaded (R10, R450). -/
def State.windowsAnew (s : State) : State := { s with ledger := { s.ledger with windows := List.replicate 4 ⟨0, 0, []⟩ } }

/-- Start-up begins: `anew` with the losses of a device reset, `keepBank` with the bank already chosen (R86, R91, R95, R99). The
BAR2 window is at its reset values; a commit that waited for its owner has no effect that outlasts the loss of the values
(R54). With the fuses unread CAN goes on from mask ROM and nothing else starts (R65). -/
def State.startUp (s : State) (anew keepBank : Bool) : State :=
  let s := { s.loseData.loseStations.unitsReset with bar2 := Bar2.initial }
  let s := if anew then
      (let s := if s.reg (key 0x2200 9) = 1 ∨ ¬ s.ledger.side.isEmpty then s.freezeRelease else s
       let s := s.windowsAnew.canAnew State.resetRegs
       if keepBank then s.noteNoCopy else s)
    else s.stationsOff
  let s := s.modPower fun p => { p with
    latched := false, lowering := false, after := .startUp, pgRetried := false, retryWait := false, restartWait := false
    startAt := s.now, phase := 0, bankOk := p.bankOk && keepBank, hbmOk := false, wakeWaits := [], slices := []
    tempWakes := if anew then [] else p.writes.flatMap (·.domains), writes := if anew then [] else p.writes, slots := [], spinWaits := [], bistSuspended := [], bistWaits := [], hotRun := 0 }
  let s := s.setReg (key 0x2100 3) 0
  let s := if keepBank then s else s.setReg (key 0x2100 5) 0
  let s := if anew then s.secReset else s.secWake
  if s.lc = lcScrapped then ((s.setPower psHearth).updAll).ledgerStartUp.canRom
  else if s.lc = lcBlank then (s.setPower psBoot).updAll
  else if s.power.fuseFailed then ((s.setPower psBoot).updAll).ledgerStartUp.canRom
  else
    let s := (s.setPower psBoot).updAll.ledgerStartUp
    let s := if s.power.bankOk then s.rebuildLog.canBoot else s
    s.beginRails

/-- Every enable is low: the domains are off, the fast PLLs stopped, and what follows the response begins (R86, R87, R94,
R96, R99). -/
def State.railsDown (s : State) : State :=
  if s.power.after = .recovery then s.modPower fun p => { p with lowering := false }
  else
  let s := s.forEach (List.range 96) fun s d => if s.domState d = 0 then s else s.setDom d 1
  let s := s.setReg (key 0x2100 0x0D) (s.reg (key 0x2100 0x0D) &&& 0x201)
  let s := (s.modPower fun p => { p with lowering := false }).ringOff
  match s.power.after with
  | .hearth =>
    ({ s.loseData.loseStations.stationsOff with bar2 := Bar2.initial }).setPower psHearth
  | .startUp => if s.power.latched ∨ s.held ∨ s.power.retryWait then s else s.startUp true false
  | _ => s

/-- The highest enable that is high and is to go down: in RECOVERY the first three stay (R87, R93). -/
def State.nextRail (s : State) : Option Nat :=
  (List.range 8).reverse.find? fun k => bitOf s.rails (8 + k) && (s.power.after != .recovery || 3 ≤ k)

/-- The rails begin to go down. -/
def State.lowerRails (s : State) (after : AfterPfw) : State :=
  let s := s.modPower fun p => { p with lowering := true, after := after }
  if s.nextRail.isNone then s.railsDown else s

/-- RAIL_DOWN_STEP (R87): the highest enable falls, its PG input with it. -/
def execRailDownStep (s : State) : Res :=
  .next (if s.power.lowering then
    (match s.nextRail with
     | some k =>
       let s := s.setReg (key 0x2100 7) (clrBit (clrBit s.rails (8 + k)) k)
       if s.nextRail.isNone then s.railsDown else s
     | none => s.railsDown)
  else s)

/-- RAIL_STEP_ADVANCE (R85): PG `k` has been high for 100 µs. -/
def execRailStepAdvance (k : Nat) (s : State) : Res :=
  .next (if s.powerState = psBoot ∧ bitOf s.rails (8 + k) ∧ ¬ bitOf s.rails k ∧ ¬ s.power.lowering ∧ ¬ s.held then
    let v := setBit s.rails k
    let s := s.setReg (key 0x2100 7) (if k < 7 then setBit v (9 + k) else v)
    if k = 2 then (s.modPower fun p => { p with phase := max p.phase 1 }).updAll
    else if k = 7 then (s.modPower fun p => { p with phase := max p.phase 2 }).updAll
    else s
  else s)

/-- Lasers, gates and actuators act as on PFW_N (Table 4.7): every laser off, gates closed, coils parked, bridges
freewheeling, sleds and clamps stopped, PSEN low. -/
def State.dropActuators (s : State) : State :=
  s.forEach (List.range s.part.stations) fun s i =>
    let s := (s.headDrop (2 * i)).headDrop (2 * i + 1)
    let s := ((s.dropSpin i).dropStationLoops i).cutStroke i
    s.modStn i fun t => { t with psen := false, psenDrop := false, down := 0, sleds := t.sleds.map fun d => { d with target := none, homing := false } }

/-- A store to the NOR is cut short by the power-fail (R59): the copy it was programming fails its CRC, and the request is
answered 0x0800_0020; an NVMe command receives nothing. -/
def State.abandonStore (s : State) : State :=
  match s.nor.store with
  | none => s
  | some x =>
    let s := { s with nor := { s.nor with
        store := none, erasing := true, copies := s.nor.copies.modify (1 - s.nor.newer) fun c => { c with valid := false } } }
    match x.door with
    | .nvme _ _ => s
    | d => s.reply d x.ix x.sub 0x0800_0020 0 []

/-- The power-fail response begins (R97, R99, R447): what follows it, and the state shown meanwhile. -/
def State.powerFail (s : State) (after : AfterPfw) (shown : Nat) : State :=
  let s := s.dropActuators.abandonStore.loseData
  let s := (s.modPower fun p => { p with latched := true, tempWakes := [], slots := [], spinWaits := [], bistSuspended := [], bistWaits := [] })
  let s := (s.setPower shown).setReg (key 0x2100 3) 0
  let s := s.ledgerPowerFail
  (s.lowerRails after).updAll

/-- PFW_N_ASSERT (R97, R99): in HEARTH and FAILED only the Ledger's steps run. -/
def execPfwNAssert (s : State) : Res :=
  .next (if s.power.latched ∨ s.power.dark then s
  else if s.powerState = psHearth ∨ s.powerState = psFailed then
    (s.modPower fun p => { p with latched := true, after := .stay }).ledgerPowerFail
  else s.powerFail .startUp psShutdown)

/-- PFW_LATCH_CLEAR (R99): PFW_N has been high for 100 ms with every PG input low. -/
def execPfwLatchClear (s : State) : Res :=
  .next (if s.power.latched ∧ ¬ s.power.lowering ∧ s.rails = 0 then
    (if s.power.after = .startUp ∧ s.powerState ≠ psHearth then (if s.held then s else s.startUp true false)
     else if s.powerState = psHearth ∨ s.powerState = psFailed then s.modPower fun p => { p with latched := false }
     else s)
  else s)

/-- PG_TIMEOUT (R85): an enabled rail whose PG input has not risen in time; the first time repeats after 1 s, the second
leaves FAILED. -/
def execPgTimeout (s : State) : Res :=
  .next (match (List.range 8).find? fun k => bitOf s.rails (8 + k) && !bitOf s.rails k with
  | some k =>
    if s.powerState = psBoot ∧ ¬ s.power.lowering ∧ ¬ s.held then
      let again := !s.power.pgRetried
      let s := s.post 0x0101 0 (leBytes 1 (k + 1)) (some ⟨0x3100, false⟩)
      let s := s.modPower fun p => { p with pgRetried := true, retryWait := again, phase := 0 }
      let s := if again then s else s.setPower psFailed
      (s.lowerRails (if again then .stay else .failed)).updAll
    else s
  | none => s)

/-- RAIL_RETRY (R85): 1 s after the first time-out. -/
def execRailRetry (s : State) : Res :=
  .next (if s.power.retryWait ∧ s.rails = 0 ∧ s.powerState = psBoot then
    (s.modPower fun p => { p with retryWait := false, after := .startUp }).beginRails
  else s)

/-- PG_LOSS (R86): acts as PFW_N; a fourth within 10 minutes ends in FAILED. -/
def execPgLoss (k : Nat) (s : State) : Res :=
  .next (if bitOf s.rails (8 + k) ∧ bitOf s.rails k ∧ ¬ s.power.lowering ∧ ¬ s.power.latched ∧ ¬ s.held then
    let recent := s.power.restarts.filter fun t => s.now < t + 600000000
    let fail := decide (3 ≤ recent.length)
    let s := s.note 0x0102 0 (leBytes 1 k)
    let s := s.setReg (key 0x2100 7) (clrBit s.rails k)
    let s := s.modPower fun p => { p with restarts := recent, restartWait := !fail }
    s.powerFail (if fail then .failed else .restart) (if fail then psFailed else psShutdown)
  else s)

/-- PG_LOSS_RESTART (R86): 1 s with every enable low; the restart is counted as it is made. -/
def execPgLossRestart (s : State) : Res :=
  .next (if s.power.restartWait ∧ s.rails = 0 ∧ ¬ s.power.lowering ∧ ¬ s.held then
    (s.modPower fun p => { p with restarts := p.restarts ++ [s.now] }).startUp true false else s)

/-! ### Clocks (R88, R89) -/

/-- The Hearth clock is on 25 MHz: bit 0 locked, bit 9 clear. -/
def State.clockGood (s : State) : State :=
  s.setReg (key 0x2100 0x0D) (setBit (clrBit (s.reg (key 0x2100 0x0D)) 9) 0)

/-- The 25 MHz clock is lost (R89). -/
def State.crystalLoss (s : State) : State :=
  if s.on16 ∨ s.power.dark then s
  else
    let s := s.setReg (key 0x2100 0x0D) (setBit (clrBit (s.reg (key 0x2100 0x0D)) 0) 9)
    let s := s.post 0x0103 0 [] (some ⟨0x5000, false⟩)
    if s.powerState = psHearth then s.ledgerPowerFail
    else if s.powerState = psFailed then (s.modPower fun p => { p with latched := true }).ledgerPowerFail
    else s.powerFail .failed psFailed

/-! ### Wake and POWER_CMD (R86, R94, R95, R509) -/

/-- A wake from HEARTH: WAKE_CAUSE, and start-up from RAIL_EN0. -/
def State.wake (s : State) (cause : Nat) : State :=
  let s := (s.setReg (key 0x2100 0x0B) cause).modPower fun p => { p with heldWakes := 0 }
  s.startUp false true

/-- Whether a wake is ignored: HEARTH with the thermal shutdown's cause still standing (R504). -/
def State.mayWake (s : State) : Bool := s.powerState == psHearth && !(s.power.hot && s.power.warm)

/-- A wake cause of R95 by its bit: held on the 16 MHz oscillator. -/
def State.wakeBy (s : State) (bit : Nat) : State :=
  if s.mayWake && !s.held then
    if s.on16 then s.modPower fun p => { p with heldWakes := setBit p.heldWakes bit }
    else s.wake (2 ^ bit)
  else s

def execWakeGpio (n : Nat) (s : State) : Res := .next (if bitOf (s.reg (key 0x2100 0x0A)) n then s.wakeBy n else s)

/-- WAKE_CALENDAR_ALARM (R95): the alarm of object 0x2300:07 is set and its time has come. -/
def execWakeCalendarAlarm (s : State) : Res :=
  let a := s.reg (key 0x2300 7)
  .next (if bitOf (s.reg (key 0x2100 0x0A)) 8 ∧ a ≠ 0 ∧ s.timeValid ∧ a ≤ s.calendar then s.wakeBy 8 else s)

def execWakeI2c (s : State) : Res := .next (if bitOf (s.reg (key 0x2100 0x0A)) 9 then s.wakeBy 9 else s)

/-- Hearth returns to the 25 MHz clock; a held wake acts, and a start-up that waited goes on. -/
def State.clockBack (s : State) : State :=
  let s := s.clockGood
  if s.powerState = psHearth ∧ s.power.heldWakes ≠ 0 then s.wake s.power.heldWakes else s.beginRails

/-- CRYSTAL_STABLE (R88). -/
def execCrystalStable (s : State) : Res := .next (if s.on16 ∧ s.powerState = psBoot ∧ ¬ s.power.dark then s.clockBack else s)

/-- Whether any line is dirty. -/
def State.anyDirty (s : State) : Bool := s.granary.lines.any Line.isDirty

/-- A write of POWER_CMD (R509, Table 4.11). -/
def State.powerCmd (s : State) (v : Nat) : Applied :=
  let no : Applied := .error 0x0800_0022
  if v = 1 then
    if s.powerState = psRun ∧ (List.range s.part.stations).all (fun i => s.stState i == stOff) ∧ ¬ s.anyDirty
        ∧ s.enabledCtrls = 0 ∧ ¬ s.power.latched then
      .ok (((s.setReg (key 0x2100 3) 0).setPower psShutdown).lowerRails .hearth).updAll
    else no
  else if v = 2 then
    if s.mayWake && !s.on16 && !s.held then .ok (s.wake 0x400) else no
  else if v = 3 then
    if s.powerState = psFailed ∧ ¬ s.on16 ∧ s.rails = 0 ∧ ¬ s.power.lowering ∧ ¬ s.held then
      .ok ((s.modPower fun p => { p with restarts := [] }).startUp true true)
    else no
  else .error 0x0609_0030

/-! ### Resets (R91, R96, R325) -/

/-- A reset holds the device: lasers and actuators as on PFW_N, the data path lost, the rails down (R96). POWER_STATE reads
SHUTDOWN until the release, with the rails down as well (DESIGN CHOICE, log entry 112); a store of parameters is cut short as
by PFW_N (DESIGN CHOICE, log entry 113). -/
def State.resetAssert (s : State) : State :=
  let s := s.dropActuators.abandonStore.loseData
  let s := if s.powerState = psFailed then s else (s.setPower psShutdown)
  let s := (s.setReg (key 0x2100 3) 0).modPower fun p => { p with tempWakes := [], slots := [], spinWaits := [] }
  (s.lowerRails (if s.powerState = psFailed then .failed else .startUp)).updAll

/-- A reset is released (R86, R91): FAILED clears unless Hearth still runs on the 16 MHz oscillator. -/
def State.resetRelease (s : State) : State :=
  if s.held then s
  else if s.powerState = psFailed ∧ s.on16 then s
  else
    let s := s.modPower fun p => { p with restarts := [], after := .startUp }
    if s.rails = 0 ∧ ¬ s.power.lowering ∧ ¬ s.power.latched then s.startUp true false else s

/-- RESET_N_ASSERT (R96). -/
def execResetNAssert (s : State) : Res :=
  .next (if s.power.resetLow ∨ s.power.dark then s else (s.modPower fun p => { p with resetLow := true }).resetAssert)

/-- RESET_N_RELEASE (R86, R91). -/
def execResetNRelease (straps : Straps) (s : State) : Res :=
  .next (if s.power.resetLow then ((s.modPower fun p => { p with resetLow := false }).sampleStraps straps).resetRelease else s)

/-- NVM_SUBSYSTEM_RESET (R325): by NSSR it is over at once, by PERST_N with PERST_MODE 0 it holds the device. -/
def execNvmSubsystemReset (perst : Bool) (s : State) : Res :=
  .next (if s.power.dark ∨ s.held ∨ s.rails = 0 then s
  else if perst then
    if s.reg (key 0x4000 5) = 0 then (s.modPower fun p => { p with perstLow := true }).resetAssert else s
  else s.resetAssert.resetRelease)

/-- PERST_N_RELEASE (R325). -/
def execPerstNRelease (s : State) : Res :=
  .next (if s.power.perstLow then (s.modPower fun p => { p with perstLow := false }).resetRelease else s)

/-- VHEARTH_LOSS (R96): nothing but the NOR and the fuses keeps its contents. A store of parameters is cut short as by PFW_N,
and its answer given as Hearth goes (DESIGN CHOICE, log entry 113). -/
def execVhearthLoss (s : State) : Res :=
  .next (if s.power.dark then s
  else
    let s := s.abandonStore.loseData.loseStations.unitsReset
    { s with
      regs := s.regs.filter fun p => 0x5000 ≤ p.1 / 256 && keptKey p.1
      raws := s.raws.filter fun p => keptRaw p.1
      power := { Power.initial with dark := true, resetLow := s.power.resetLow }
      bist := ⟨[], [], [], []⟩, arb := [], selfTest := none
      sec := { Security.initial with interrupted := s.sec.interrupted, seedGone := s.sec.seedGone }
      can := Can.initial, bar2 := Bar2.initial })

/-- HEARTH_POWER_UP (R65, R91): VHEARTH enters its limits with RESET_N high; a fuse word that fails its check stops
start-up. `crc` are the SEQs of the Ledger frames that fail their CRC (R448). -/
def execHearthPowerUp (straps : Straps) (fuse : Option Nat) (crc : List Nat) (s : State) : Res :=
  .next (if s.power.dark ∧ ¬ s.power.resetLow then
    let s := ({ s with now := 0, power := Power.initial }).setReg (key 0x2100 0x0D) 0x200
    let s := (s.canAnew fun s => ((s.ledgerHearthUp crc).applyStored fun _ => true).sampleStraps straps).secReset
    match fuse with
    | some w => ((s.modPower fun p => { p with fuseFailed := true }).post 0x0107 0 (leBytes 1 w) (some ⟨0x5000, false⟩)).canRom
    | none => s
  else s)

/-! ### Host-ready (R91) -/

/-- Whether the host Ethernet port is up, or not enabled. -/
def State.ethernetOk (s : State) : Bool := s.reg (key 0x4100 1) == 0 || s.reg (key 0x4100 2) != 0

/-- The NVMe controllers that were enabled before become ready (R327). -/
def State.ctrlsReady (s : State) : State := s.modNvme fun n => { n with ctrls := n.ctrls.map fun c => { c with rdy := c.en } }

/-! ### The boot bank (R92, R93) -/

/-- A bank is rejected: BOOT_FLAGS, record 0x0104 and EMCY 0xFF01. -/
def State.bankRejected (s : State) (n code : Nat) : State :=
  (s.setRegBit (key 0x2100 5) (1 + n) true).post 0x0104 0 (leBytes 1 n ++ leBytes 4 code) (some ⟨0xFF01, false⟩)

/-- A bank passes: its image runs, persistent parameters are loaded (R60), the identity is unsealed, the customer image is
checked again (R241; `cust` is the code of the check it fails), the measurement log begins, and CAN starts. -/
def State.bankPassed (s : State) (n : Nat) (f : FirmwareImage) (sealOk : Bool) (cust : Nat) : State :=
  let s := (s.setReg (key 0x2100 4) n).modPower fun p => { p with bankOk := true }
  let s := { s with stores := { s.stores with abiOk := true } }
  let s := s.runImage f
  let s := s.noteNoCopy.unseal sealOk
  let s := if s.stores.image.isSome ∧ cust ≠ 0 then
      ({ s with stores := { s.stores with abiOk := false } }).note 0x0602 0 (leBytes 4 cust)
    else s
  s.updAll.rebuildLog.canBoot

/-- RECOVERY (R93): the enables but the first three go down in the order of R87, and CAN is served from mask ROM. -/
def State.enterRecovery (s : State) : State :=
  (((s.modPower fun p => { p with phase := 1 }).setPower psRecovery).lowerRails .recovery).updAll.canRom

/-- BOOT_BANK_VERIFY: `a` and `b` are what the reads of the two banks give, `sel` whether the bank-select record passes its
check: one that fails it names bank A (R92). -/
def execBootBankVerify (sel : Bool) (a b : BankRead) (sealOk : Bool) (cust : Nat) (s : State) : Res :=
  .next (if s.powerState = psBoot ∧ 1 ≤ s.power.phase ∧ ¬ s.power.bankOk ∧ ¬ s.power.lowering ∧ ¬ s.held then
    let kept : BankRead → Option FirmwareImage := fun r => match r with | .image f => some f | .unreadable => none
    let s := { s with nor := { s.nor with banks := [kept a, kept b] } }
    let n := if sel then s.nor.bankSelect else 0
    let first := if n = 0 then a else b
    let other := if n = 0 then b else a
    match first, s.bankCode first with
    | .image f, 0 => s.bankPassed n f sealOk cust
    | _, c =>
      let s := s.bankRejected n c
      match other, s.bankCode other with
      | .image f, 0 => (s.setRegBit (key 0x2100 5) 0 true).bankPassed (1 - n) f sealOk cust
      | _, d => (s.bankRejected (1 - n) d).enterRecovery
  else s)

/-- HOST_READY (R91, R425): firmware, HBM, every rail, Reeve 0, the PCIe controller and the Ethernet link stand. In RUN the
DISC_PRES and ILK_N receivers are sensed (R81). -/
def execHostReady (s : State) : Res :=
  .next (if s.powerState = psBoot ∧ s.power.bankOk ∧ s.power.hbmOk ∧ 2 ≤ s.power.phase ∧ ¬ s.power.lowering ∧ ¬ s.held
      ∧ s.domState 88 = 3 ∧ s.domState 77 = 3 ∧ s.ethernetOk then
    let s := (s.setPower psRun).setRegs [(key 0x2100 3, 1), (key 0x2100 6, min ((s.now - s.power.startAt) / 1000) 65535)]
    let s := s.ctrlsReady
    let s := match s.sec.running with | some f => s.raiseRollback f | none => s
    ((s.forEach (List.range s.part.stations) State.pinView).tempWake 94).updAll
  else s)

/-! ### Switched domains (R81 to R83) -/

/-- What a station's block leaves as it goes off (R76, R163): a core its control store; a front end its head's loops and
lasers, at zero drive; motor I/O the spindle's and sleds' loops, with PSEN low. -/
def State.blockOff (s : State) (d : Nat) : State :=
  let i := d / 6
  let r := d % 6
  if 48 ≤ d then s
  else if r = 0 then { s with stores := { s.stores with loaded := s.stores.loaded.filter (· != i) } }
  else if r ≤ 2 then
    let h := 2 * i + (r - 1)
    s.forEach (List.range (4 + s.beams)) fun s l => if 4 ≤ l then s.laserOff h (l - 4) else s.loopOff h l
  else if r = 5 then (s.dropStationLoops i).modStn i fun t => { t with psen := false, psenDrop := false }
  else s

/-- A domain has gated: what it held goes; a wake request that waited wakes it (R82, R91). -/
def State.domainGated (s : State) (d : Nat) : State :=
  let s := ((s.setDom d 1).clockView).blockOff d
  let waits := s.power.wakeWaits.contains d
  let s := s.modPower fun p => { p with wakeWaits := p.wakeWaits.filter (· != d) }
  if waits && s.domainWanted d then s.setDom d 2 else s

/-- DOMAIN_GATE_DONE. -/
def execDomainGateDone (d : Nat) (s : State) : Res := .next (if s.domState d = 4 then s.domainGated d else s)

/-- SLICE_IDLE_GATE (R83). -/
def execSliceIdleGate (k : Nat) (s : State) : Res :=
  .next (if s.power.slices.contains k ∧ s.lanesOn k = 0 then
    (s.modPower fun p => { p with slices := p.slices.filter (· != k) }).updDomain (48 + k)
  else s)

/-- SECURITY_IDLE_GATE (R81): one second without a request. -/
def execSecurityIdleGate (s : State) : Res := .next (if s.sec.signer.isEmpty then s.endTempWake 94 else s)

/-! ### Temperatures (R504) -/

/-- The SMART / Health temperature event of a controller whose threshold is crossed (R504, feature 0x04, in kelvin): over,
TJ_WARN where the host set none, or under. -/
def State.thresholds (s : State) (was now : Int) : State :=
  s.forEach s.nvme.ctrls fun s c =>
    let find := fun (f : Nat) => (c.features.find? fun p => p.1 == f).map (·.2)
    let hi : Int := match find 0x400 with | some v => v | none => s.reg (key 0x2103 3) + 273
    let lo : Int := match find 0x401 with | some v => v | none => 0
    let a := was / 10 + 273
    let b := now / 10 + 273
    if (a < hi ∧ hi ≤ b) ∨ (lo < a ∧ b ≤ lo) then s.eventOn c.id .temperature else s

/-- THERMAL_READ: the die and the two stacks, in 0.1 °C. -/
def execThermalRead (tj : Int) (temps : List Int) (s : State) : Res :=
  .next (if s.power.dark then s
  else
    let k := fun n => key 0x2103 n
    let was := s.regI 16 (k 1)
    let s := (s.setRegI 16 (k 1) tj).setRegI 16 (k 2) (max tj (s.regI 16 (k 2)))
    let warnAt : Int := 10 * s.reg (k 3)
    let stackMax := temps.foldl max (-32768)
    let s := s.setRegI 16 (key 0x4600 0x0A) stackMax
    let enter := decide (warnAt ≤ tj) || decide (950 ≤ stackMax)
    let leave := decide (tj ≤ warnAt - 50) && decide (stackMax ≤ 900)
    let s : State := if enter ∧ ¬ s.can.standing.contains ⟨0x4200, 0, placeOf 0⟩ then
        ((s.bump (k 5)).raiseEmcy 0x4200 0 0 0 true)
      else if leave ∧ s.can.standing.contains ⟨0x4200, 0, placeOf 0⟩ then s.raiseEmcy 0 0 0 0 true
      else s
    let s := s.thresholds was tj
    let s := s.modPower fun p => { p with warm := decide (warnAt ≤ tj) }
    let beyond := decide (1150 ≤ tj) || decide (1050 ≤ stackMax)
    let n := if beyond then s.power.hotRun + 1 else 0
    let s := s.modPower fun p => { p with hotRun := min n 2, hot := p.hot && p.warm }
    if 2 ≤ n ∧ ¬ s.power.latched ∧ s.powerState ≠ psHearth ∧ s.powerState ≠ psFailed then
      ((s.bump (k 6)).modPower fun p => { p with hot := true }).powerFail .hearth psShutdown
    else s)

end Sys2Proof.Machine
end

