-- ==== Sys2Proof/Machine/Ring.lean ====
section
/-! DEFINITION. The Paluz ring (chapter 16, R389 to R408): links, formation and election, the round trip, folding and rejoin,
ring time and calendar time, ring strobes and spin-up grants. -/

namespace Sys2Proof.Machine

/-! ### Small reads -/

def State.serial (s : State) : Nat := s.part.serial
def State.enabledRing (s : State) : Bool := s.ringOn && s.domState 92 == 3
/-- The device stands at position 0. -/
def State.atZero (s : State) : Bool := s.reg (ringKey 4) == 0
/-- Link up in both directions, with a loopback or without. -/
def State.linkUp (s : State) (p : Nat) : Bool := s.linkState p == 2
/-- Ring time in ns (R403). -/
def State.ringTime (s : State) : Nat := ((s.now : Int) * 1000 + s.fabric.offset).toNat % 2 ^ 64
/-- A frame to every device goes round a closed ring once, eastward; along a chain it leaves by each port that is up. -/
def State.ringAll (s : State) (kind : Nat) (f : List Nat) : State :=
  let ports := (List.range 2).filter s.linkUp
  s.forEach (if s.ringState = rsRing ∧ s.linkUp 0 then [0] else ports) fun s p => s.ringSend p kind f

/-! ### Frames from a link (R390, Table 16.1) -/

/-- A frame for others goes on by the other port with its TTL less one (Table 16.1), or, one for a single device, is turned back
where that port is looped back (R398). -/
def State.forward (s : State) (p kind : Nat) (h : FrameHead) (f : List Nat) (d : List Block) : State :=
  if h.ttl ≤ 1 then s.bump (ringKey 0x12)
  else
    let h := { h with ttl := h.ttl - 1 }
    if s.linkUp (1 - p) then s.frameOut (1 - p) kind h f d
    else if s.linkState (1 - p) = 4 ∧ h.dest ≠ 0xFE then s.frameOut p kind { h with turned := true } f d
    else s

/-- A frame comes in by a port (R390): one whose CRC fails or whose LINK_SEQ is out of order is left to be replayed; one for others is
forwarded; one that has come round to its source ends. -/
def State.frameIn (s : State) (p kind : Nat) (h : FrameHead) (crc : Bool) (f : List Nat) (d : List Block) (act : State → State) : State :=
  let own := s.reg (ringKey 4)
  let mine := h.dest == 0xFF || h.dest == 0xFE || (h.dest == own && own != 0xFF)
  if !s.enabledRing then s
  else if h.src = own ∧ own ≠ 0xFF then (if h.dest = own then act s else s)
  else if !s.linkUp p then s
  else if !crc then s.bump (portKey p 4)
  else if h.seq ≠ s.fabric.rx.getD p 0 then s
  else
    let s := s.modRing fun r => { r with rx := r.rx.modify p fun n => (n + 1) % 2 ^ 32 }
    let s := if h.dest = 0xFF ∨ (mine ∧ h.dest ≠ 0xFE) then s else s.forward p kind h f d
    if mine then act s else s

/-- The RTT bound of R397. -/
def State.rttBound (s : State) (folded : Bool) : Nat :=
  if folded then 2 * s.reg (ringKey 7) + 200 else s.reg (ringKey 7)
/-- Whether the roster stands folded: a fold end is named. -/
def State.folded (s : State) : Bool := s.reg (ringKey 9) != 0 || s.reg (ringKey 0x0A) != 0

/-! ### Rosters (R393, Table 16.6) -/

/-- ROSTER, object 0x4802. -/
def State.rosterBytes (s : State) : List Byte :=
  let ends := fun (e : RosterEntry) => (if e.master then 1 else 0)
    + (if s.reg (ringKey 9) = e.serial then 2 else 0) + (if s.reg (ringKey 0x0A) = e.serial then 4 else 0)
  let b := (s.fabric.roster.take 254).flatMap fun e =>
    leBytes 8 e.serial ++ leBytes 2 e.thop ++ leBytes 2 e.tlink ++ leBytes 1 e.stations ++ leBytes 1 (ends e) ++ leBytes 2 0
  b ++ List.replicate (4064 - b.length) 0

/-- The fields of a ROSTER frame: state, fold ends, and each device. -/
def State.rosterFields (s : State) : List Nat :=
  [s.ringState, s.reg (ringKey 9), s.reg (ringKey 0x0A)] ++ s.fabric.roster.flatMap fun e =>
    [e.serial, e.thop, e.tlink, e.stations, if e.master then 1 else 0]

def State.sendRoster (s : State) : State := s.ringAll 0x04 s.rosterFields
/-- The volume table as a frame's fields: each volume's header and columns. -/
def State.volumeFields (s : State) : List Nat :=
  s.spread.volumes.flatMap fun v => [v.v, v.k, v.m, v.lbaf, v.zones] ++ v.cols.flatMap fun c => [c.serial, c.nsid, c.first, c.owed.length]
def State.sendVolumes (s : State) : State := s.ringAll 0x15 s.volumeFields

/-- GRANTS_HELD, and the grants of devices that left the roster are released (R408). -/
def State.grantView (s : State) : State :=
  let s := s.modRing fun r => { r with
    grants := r.grants.filter fun g => r.roster.any fun e => e.serial == g.1
    asks := r.asks.filter fun a => r.roster.any fun e => e.serial == a.1 }
  s.setReg (ringKey 0x0E) s.fabric.grants.length

/-- A roster is taken over: position, devices, master; the fold ends. -/
def State.takeRoster (s : State) (es : List RosterEntry) (east west : Nat) : State :=
  let s := s.modRing fun r => { r with roster := es }
  let pos := ((List.range es.length).find? fun i => match es[i]? with | some e => e.serial == s.serial | none => false).getD 255
  let master := match es.find? (fun e => e.master) with | some e => e.serial | none => 0
  (s.setRegs [(ringKey 4, if pos < 254 then pos else 0xFF), (ringKey 5, min 254 es.length), (ringKey 6, master), (ringKey 9, east),
    (ringKey 0x0A, west)]).grantView

/-! ### Formation and election (R392, R401, R402) -/

/-- Formation begins: FORMING, what was heard forgotten, ring strobes cancelled, DISCOVER sent (R392, R401, R407). -/
def State.startForming (s : State) : State :=
  let s := if s.fabric.roster.isEmpty then s else s.bump (ringKey 0x10)
  let s := s.modRing fun r => { r with found := [], strobes := [], rejoin := none }
  let s := (s.setRegs [(ringKey 9, 0), (ringKey 0x0A, 0)]).setRingState rsForming
  let s := s.forEach ((List.range 2).filter fun p => s.linkState p == 4) fun s p => s.setReg (portKey p 1) 3
  s.ringAll 0x03 [s.serial, s.reg (ringKey 2)]

/-- The device that becomes master among those heard (R392, R402), if one does. -/
def electMaster (roster : List RosterEntry) (cands : List Candidate) : Option Nat :=
  let ones := cands.filter fun c => c.role == 1
  let pool := if ones.isEmpty then cands.filter fun c => c.role == 0 else ones
  let least := pool.foldl (fun (m : Option Nat) c => match m with | none => some c.serial | some x => some (min x c.serial)) none
  let here := fun (x : Nat) => cands.any fun c => c.serial == x
  let seg := (roster.filter fun e => here e.serial).length
  let lowest := roster.foldl (fun (m : Option Nat) (e : RosterEntry) => match m with | none => some e.serial | some x => some (min x e.serial)) none
  let oldMaster := match roster.find? (fun e => e.master) with | some e => here e.serial | none => true
  let may := oldMaster || !ones.isEmpty || decide (roster.length < 2 * seg)
    || (2 * seg == roster.length && match lowest with | some x => here x | none => true)
  if may then least else none

/-- Candidates by their place eastward. -/
def insertHop (c : Candidate) : List Candidate → List Candidate
  | [] => [c]
  | d :: r => if c.hops < d.hops then c :: d :: r else d :: insertHop c r

/-- RING_FORMATION (R392, R393): the devices heard elect; a master numbers the roster from itself eastward, measures the round
trip, and the ROSTER follows the measurement. -/
def execRingFormation (s : State) : Res :=
  .next (if s.enabledRing ∧ s.ringState = rsForming ∧ (s.linkUp 0 ∨ s.linkUp 1) then
    let (n, s) := s.fresh
    let self : Candidate :=
      ⟨s.serial, s.reg (ringKey 2), 0, Config.freeValue n % 65536, s.reg (portKey 0 2), s.part.stations⟩
    let cands := self :: (s.fabric.found.filter fun c => c.serial != s.serial)
    match electMaster s.fabric.roster cands with
    | none => (s.setReg (ringKey 4) 0xFF).setRingState rsOrphaned
    | some m =>
      let conflict := s.reg (ringKey 2) == 1 && m != s.serial
      let s := s.setReg (ringKey 0x0F) (if conflict then 1 else 0)
      let s := if conflict then s.post 0x0A02 0x0F (leBytes 8 m) (some ⟨0xFF31, false⟩) else s
      let s := s.setReg (ringKey 6) m
      if m = s.serial then
        let es := (cands.foldl (fun l c => insertHop c l) []).map fun c =>
          (⟨c.serial, c.thop, c.tlink, c.stations, c.serial == m, false, false⟩ : RosterEntry)
        let east := if s.linkUp 0 then s.reg (ringKey 9) else s.serial
        let west := if s.linkUp 1 then s.reg (ringKey 0x0A) else s.serial
        let s := s.takeRoster es east west
        let s := s.modRing fun r => if r.synced then r else { r with synced := true, offset := -((s.now : Int) * 1000) }
        s.ringSend s.ringPort 0x06 []
      else
        s.forEach ((List.range 2).filter fun p => !s.linkUp p) fun s p =>
          (s.setReg (portKey p 1) 4).ringSend (1 - p) 0x07 [s.serial, p]
  else s)

/-- DISCOVER (R392, R401): one device heard; one the roster does not have starts a re-form, and one it has, heard while the ring
is folded, asks its master for a rejoin (R400). -/
def State.discover (s : State) (c : Candidate) : State :=
  if c.serial = s.serial then s
  else
    let known := s.fabric.roster.any fun e => e.serial == c.serial
    let add := fun (s : State) => s.modRing fun r => { r with found := (r.found.filter fun x => x.serial != c.serial) ++ [c] }
    if s.ringState = rsForming then add s
    else if !known || s.ringState == rsOrphaned then add s.startForming
    else if s.ringState = rsFolded ∧ s.atZero ∧ s.fabric.rejoin.isNone then
      let t := s.ringTime + 2 * s.reg (ringKey 8)
      (s.modRing fun r => { r with rejoin := some t }).ringAll 0x08 [t]
    else s

def execDiscover (p : Nat) (hd : FrameHead) (crc : Bool) (c : Candidate) (s : State) : Res :=
  .next (s.frameIn p 0x03 hd crc [c.serial, c.role] [] fun s => s.discover c)

/-- ROSTER on a member (R393, R398): positions, fold ends and state; formation ends with it. -/
def State.rosterIn (s : State) (r : RosterIn) : State :=
  if s.atZero && s.ringRuns then s
  else
    let s := s.takeRoster r.entries r.foldEast r.foldWest
    if s.reg (ringKey 4) = 0xFF then s.setRingState rsOrphaned
    else
      let v := if r.state = rsRing ∨ r.state = rsFolded ∨ r.state = rsOver then r.state else rsOrphaned
      s.setRingState v

def execRoster (p : Nat) (hd : FrameHead) (crc : Bool) (r : RosterIn) (s : State) : Res :=
  .next (s.frameIn p 0x04 hd crc ([r.state, r.foldEast, r.foldWest] ++ r.entries.flatMap fun e =>
    [e.serial, e.thop, e.tlink, e.stations, if e.master then 1 else 0]) [] fun s => s.rosterIn r)

/-- Grants go out in order of arrival while fewer than SPINUP_MAX are held. -/
def State.pumpGrants (s : State) : State :=
  let s := s.grantView
  let give := s.fabric.asks.take (s.reg (ringKey 0x0D) - s.fabric.grants.length)
  let s := s.modRing fun r => { r with asks := r.asks.drop give.length, grants := r.grants ++ give.map fun a => (a.1, a.2, s.now) }
  (s.forEach give fun s a => s.ringSend s.ringPort 0x0B [a.1, a.2, 1]).grantView

/-- After a re-form the member operations that wait are sent again (R401): the rows on their way, and the reads. -/
def State.resendMembers (s : State) : State :=
  let s := s.forEach s.spread.volumes fun s v =>
    s.forEach (s.spread.rows.filter fun r => r.v == v.v) fun s r => s.forEach r.sent fun s i => s.sendStaged v r.row i
  s.forEach s.spread.gets fun s g =>
    match s.volume g.v with
    | some v => s.forEach (g.asked.filter fun i => !g.got.any (·.1 == i) && !g.failed.contains i) fun s i => s.askMember v g.row i
    | none => s

/-- RING_PROBE comes back to the master (R396, R397): RTT, the state it allows, and the ROSTER (with the volume table after a
formation). -/
def State.probeBack (s : State) (rtt : Nat) : State :=
  if s.atZero ∧ s.ringState ≠ rsAlone ∧ s.ringState ≠ rsOrphaned then
    let old := s.ringState
    let s := s.setReg (ringKey 8) rtt
    let v := if s.rttBound s.folded < rtt then rsOver else if s.folded then rsFolded else rsRing
    if old = v then s
    else
      let s := (s.setRingState v).sendRoster
      if old = rsForming then (s.sendVolumes.resendMembers).pumpGrants else s
  else s

def execRingProbe (p : Nat) (hd : FrameHead) (crc : Bool) (rtt : Nat) (s : State) : Res :=
  .next (s.frameIn p 0x06 hd crc [] [] fun s => s.probeBack rtt)

/-! ### Links (R390, R391, R398 to R401) -/

/-- The master learns of a fold end (R398): FOLDED and a ROSTER naming the ends; a second break is a re-form (R401). -/
def State.foldNotice (s : State) (serial : Nat) (east : Bool) : State :=
  let k := ringKey (if east then 9 else 0x0A)
  let old := s.reg k
  if s.ringState = rsForming then s.setReg k serial
  else if old ≠ 0 ∧ old ≠ serial then s.startForming
  else if old = serial then s
  else
    let s := s.setReg k serial
    let s := if s.ringState = rsRing then (s.bump (ringKey 0x11)).setRingState rsFolded else s
    s.sendRoster

def execFoldNotice (p : Nat) (hd : FrameHead) (crc : Bool) (serial : Nat) (east : Bool) (s : State) : Res :=
  .next (s.frameIn p 0x07 hd crc [serial, if east then 0 else 1] [] fun s =>
    if s.atZero ∧ (s.ringRuns ∨ s.ringState = rsOver ∨ s.ringState = rsForming) then s.foldNotice serial east else s)

/-- RING_LINK_BROKEN (R391, R398): the frames that waited go the other way, and the master is told; with both links lost the
device is alone. -/
def State.ringLinkLost (s : State) (p : Nat) : State :=
  if s.enabledRing ∧ s.linkUp p then
    let s := s.bump (portKey p 8)
    if s.linkUp (1 - p) then
      let turned := s.fabric.sent.getD p []
      let again := s.ringState == rsFolded
      let s := (s.setReg (portKey p 1) 4).modRing fun r => { r with sent := r.sent.set p [] }
      let s := s.forEach (turned.filter fun f => f.head.dest != 0xFF && f.head.dest != 0xFE) fun s f =>
        s.frameOut (1 - p) f.kind { f.head with turned := true } f.fields f.data
      if again then s.startForming
      else if s.atZero && (s.ringRuns || s.ringState == rsOver) then s.foldNotice s.serial (p == 0)
      else (s.bump (ringKey 0x11)).ringSend (1 - p) 0x07 [s.serial, p]
    else
      let s := s.setRegs [(portKey p 1, 3), (portKey (1 - p) 1, if s.linkState (1 - p) = 4 then 3 else s.linkState (1 - p))]
      s.setRingState rsAlone
  else s

/-- RING_LINK_BROKEN. -/
def execRingLinkBroken (p : Nat) (s : State) : Res := .next (s.ringLinkLost p)

/-- A link that has trained counts its frames anew (LINK_SEQ, log entry 124). -/
def State.linkFresh (s : State) (p : Nat) : State :=
  s.modRing fun r => { r with sent := r.sent.set p [], seqs := r.seqs.set p 0, replays := r.replays.set p 0, rx := r.rx.set p 0 }

/-- RING_LINK_RETRAIN: the link of a port comes up. Between two devices of a folded roster it waits for the rejoin (R400);
otherwise the ring forms (R392). -/
def execRingLinkRetrain (p peer : Nat) (s : State) : Res :=
  .next (if s.enabledRing ∧ s.linkState p ≠ 0 ∧ s.linkState p ≠ 2 ∧ ¬ bitOf s.power.refLost 1 then
    let known := s.fabric.roster.any fun e => e.serial == peer
    let s := s.setReg (portKey p 3) peer
    if s.linkState p = 4 ∧ s.ringState = rsFolded ∧ known then
      if s.atZero then
        let t := s.ringTime + 2 * s.reg (ringKey 8)
        (s.modRing fun r => { r with rejoin := some t }).ringAll 0x08 [t]
      else s.ringSend (1 - p) 0x03 [s.serial, s.reg (ringKey 2)]
    else ((s.linkFresh p).setReg (portKey p 1) 2).startForming
  else s)

/-- REJOIN names the ring time at which loopbacks are removed. -/
def execRejoin (p : Nat) (hd : FrameHead) (crc : Bool) (t : Nat) (s : State) : Res :=
  .next (s.frameIn p 0x08 hd crc [t] [] fun s =>
    if s.ringState = rsFolded then s.modRing fun r => { r with rejoin := some t } else s)

/-- REJOIN_TIME_REACHED: loopbacks go, and the state is RING again. -/
def execRejoinTimeReached (s : State) : Res :=
  .next (if s.fabric.rejoin.isSome ∧ s.ringState = rsFolded then
    let s := s.modRing fun r => { r with rejoin := none }
    let s := s.forEach ((List.range 2).filter fun p => s.linkState p == 4) fun s p => (s.linkFresh p).setReg (portKey p 1) 2
    (s.setRegs [(ringKey 9, 0), (ringKey 0x0A, 0)]).setRingState rsRing
  else s)

/-- The frames that wait on a port are replayed (R390); the eighth running replay of one frame breaks the link (R391). -/
def State.replay (s : State) (p : Nat) : State :=
  let l := s.fabric.sent.getD p []
  if l.isEmpty then s
  else
    let n := s.fabric.replays.getD p 0 + 1
    if 8 ≤ n then s.ringLinkLost p
    else
      let s := s.modRing fun r => { r with replays := r.replays.set p n }
      s.forEach l fun s f =>
        (s.emit (if f.data.isEmpty then .ring p f.kind f.head f.fields else .ringData p f.kind f.head f.fields f.data)).bump (portKey p 5)

/-- IDLE_FRAME acknowledges every frame of its link up to a LINK_SEQ (R390); `again` says that the neighbour has taken a frame whose CRC
or LINK_SEQ failed, so that what it has not acknowledged is replayed (DESIGN CHOICE, log entry 124). -/
def execIdleFrame (p ack : Nat) (again : Bool) (s : State) : Res :=
  .next (if s.linkUp p then
    let old := (s.fabric.sent.getD p []).length
    let s := s.modRing fun r => { r with sent := r.sent.modify p fun l => l.filter fun f => 2 ^ 31 ≤ (ack + 2 ^ 32 - f.head.seq) % 2 ^ 32 }
    let s := if (s.fabric.sent.getD p []).length < old then s.modRing fun r => { r with replays := r.replays.set p 0 } else s
    if again then s.replay p else s
  else s)

/-! ### Ring time (R403) -/

/-- SYNC_INTERVAL_TICK: every link probes its delay; the master sends TIME_SYNC and RING_PROBE. -/
def execSyncIntervalTick (s : State) : Res :=
  .next (if s.enabledRing then
    let s := s.forEach ((List.range 2).filter s.linkUp) fun s p => s.ringSend p 0x01 [s.ringTime]
    if s.atZero ∧ (s.ringRuns ∨ s.ringState = rsOver ∨ s.ringState = rsForming) then
      (s.ringAll 0x05 [s.ringTime, s.calendar, 0]).ringSend s.ringPort 0x06 []
    else s
  else s)

/-- DELAY_PROBE is answered with its timestamp, the local ring time and a residence time of 0. -/
def execDelayProbe (p : Nat) (hd : FrameHead) (crc : Bool) (t : Nat) (s : State) : Res :=
  .next (s.frameIn p 0x01 hd crc [t] [] fun s =>
    s.frameOut p 0x02 { s.ownHead p 0x02 [] with tag := hd.tag } [t, s.ringTime, 0] [])

/-- DELAY_ECHO gives the link's delay. -/
def execDelayEcho (p : Nat) (hd : FrameHead) (crc : Bool) (delay : Nat) (s : State) : Res :=
  .next (s.frameIn p 0x02 hd crc [delay] [] fun s => s.setReg (portKey p 2) delay)

/-! ### Calendar time (R404) -/

/-- The calendar is set: a step, with CAL_STEPS and record 0x0A03. -/
def State.calendarSet (s : State) (v source : Nat) : State :=
  let old := if s.timeValid then s.calendar else 0
  let s := s.modPower fun p => { p with calOffset := (v : Int) - s.now }
  let s := s.setRegs [(key 0x2300 2, 1), (key 0x2300 3, source)]
  (s.bump (key 0x2300 8)).note 0x0A03 0 (leBytes 8 old ++ leBytes 8 v)

/-- Whether calendar time follows the ring's master. -/
def State.following (s : State) : Bool := s.ringRuns && !s.atZero && s.reg (key 0x2300 4) == 1

def State.calendarWrite (s : State) (v : Nat) : Applied :=
  if s.following then .error 0x0800_0022 else .ok (s.calendarSet v 2)

/-- TIME_SYNC (R403, R404): ring time at the frame's origin, calendar time there, and the delay accumulated, in ns. -/
def State.timeSync (s : State) (t cal delay : Nat) : State :=
  if s.ringRuns ∧ ¬ s.atZero then
    let want : Int := ((t : Int) + delay) - (s.now : Int) * 1000
    let err := if s.fabric.synced then want - s.fabric.offset else 0
    let since := s.now - s.fabric.lastSync
    let s := (s.setRegI 32 (key 0x2300 6) (max (-2147483648) (min 2147483647 err))).modRing fun r =>
      { r with offset := want, synced := true, lastSync := s.now }
    if s.reg (key 0x2300 4) = 1 then
      let aim := cal + delay / 1000
      let e : Int := (aim : Int) - s.calendar
      if !s.timeValid || decide (1000 < e.natAbs) then s.calendarSet aim 3
      else
        let top : Int := since / 10000
        (s.modPower fun q => { q with calOffset := q.calOffset + max (-top) (min top e) }).setReg (key 0x2300 3) 3
    else s
  else s

/-- TIME_SYNC: the delay of the link it came by, and for the next device this one's residence time, which no rule fixes, are added to
what it has accumulated (R403). -/
def execTimeSync (p : Nat) (hd : FrameHead) (crc : Bool) (t cal delay : Nat) (s : State) : Res :=
  let d := delay + s.reg (portKey p 2)
  let n := s.fresh
  .next (n.2.frameIn p 0x05 hd crc [t, cal, d + Config.freeValue n.1 % 2 ^ 16] [] fun s => s.timeSync t cal d)

/-! ### Ring strobes (R405 to R407) -/

def State.addStrobe (s : State) (n t : Nat) : State :=
  s.modRing fun r => { r with strobes := (r.strobes.filter fun x => x.1 != n) ++ [(n, t)] }

/-- RS_FIRE on the master. -/
def State.rsFire (s : State) (v : Nat) : Applied :=
  let t := s.reg (key 0x4803 2)
  let n := s.reg (key 0x4803 1)
  if !s.isMaster then .error 0x0800_0022
  else if v ≠ 1 then .error 0x0609_0030
  else if t < s.ringTime + 1000 * s.reg (ringKey 0x0C) then .error 0x0609_0032
  else .ok ((s.addStrobe n t).ringAll 0x09 [n, t])

/-- STROBE_SET: one that comes late is missed. -/
def execStrobeSet (p : Nat) (hd : FrameHead) (crc : Bool) (n t : Nat) (s : State) : Res :=
  .next (s.frameIn p 0x09 hd crc [n, t] [] fun s =>
    if s.ringRuns ∧ 12 ≤ n then (if t < s.ringTime then s.bump (key 0x4803 4) else s.addStrobe n t) else s)

/-- RING_STROBE_TIME_REACHED: the strobe fires on every station, the lowest first (R405, R124). -/
def execRingStrobeTimeReached (n : Nat) (s : State) : Res :=
  .next (if s.fabric.strobes.any (fun x => x.1 == n) then
    let s := s.modRing fun r => { r with strobes := r.strobes.filter fun x => x.1 != n }
    s.fireStrobes (List.range s.part.stations) [n]
  else s)

/-! ### Spin-up grants (R408) -/

/-- GRANT_REQ at the master: device `serial` asks for its station's spin-up, or releases. -/
def State.spinAsked (s : State) (serial st : Nat) (ask : Bool) : State :=
  if s.isMaster then
    (if ask then
      if s.fabric.asks.contains (serial, st) || s.fabric.grants.any (fun g => g.1 == serial && g.2.1 == st) then s
      else (s.modRing fun r => { r with asks := r.asks ++ [(serial, st)] }).pumpGrants
    else
      (s.modRing fun r => { r with
        asks := r.asks.filter (· != (serial, st)), grants := r.grants.filter fun g => !(g.1 == serial && g.2.1 == st) }).pumpGrants)
  else s

def execGrantReq (p : Nat) (hd : FrameHead) (crc : Bool) (serial st : Nat) (ask : Bool) (s : State) : Res :=
  .next (s.frameIn p 0x0A hd crc [serial, st, if ask then 1 else 0] [] fun s => s.spinAsked serial st ask)

/-- GRANT at a member: the spin-up takes its local slot, or the grant has been released. -/
def State.granted (s : State) (st : Nat) (give : Bool) : State :=
  if !s.stationPresent st || !s.ringRuns then s
  else if give then
    if (s.stn st).asked then
      let s := (s.modStn st fun t => { t with asked := false, grant := true }).setStFlag st 6 false
      if (s.stn st).spinPhase = 2 then s.needSlot st else s
    else s
  else s.modStn st fun t => { t with grant := false }

def execGrant (p : Nat) (hd : FrameHead) (crc : Bool) (serial st : Nat) (give : Bool) (s : State) : Res :=
  .next (s.frameIn p 0x0B hd crc [serial, st, if give then 1 else 0] [] fun s => if serial = s.serial then s.granted st give else s)

/-- GRANT_EXPIRY: 20 s after it was given. -/
def execGrantExpiry (serial st : Nat) (s : State) : Res :=
  .next (if s.isMaster ∧ s.fabric.grants.any (fun g => g.1 == serial && g.2.1 == st) then
    let s := s.modRing fun r => { r with grants := r.grants.filter fun g => !(g.1 == serial && g.2.1 == st) }
    (s.ringSend s.ringPort 0x0B [serial, st, 0]).pumpGrants
  else s)

/-! ### RING_ENABLE (R395) -/

def State.ringEnable (s : State) (v : Nat) : Applied :=
  if v = s.reg (ringKey 1) then .ok s
  else if v = 1 then .ok (((s.setReg (ringKey 1) 1).setRingState rsAlone).updAll)
  else if s.nvme.namespaces.any fun n => nsSpread n.nsid then .error 0x0800_0022
  else .ok ((s.setReg (ringKey 1) 0).ringOff.updAll)

end Sys2Proof.Machine
end

