-- ==== Sys2Proof/Machine/Admin.lean ====
section
/-! DEFINITION. The admin commands that need more than the host interface: controller resets, properties, log pages, the
Timestamp feature, and firmware download, commit and activation (R325 to R327, R337, R347, R348, R350, R510). -/

namespace Sys2Proof.Machine

/-! ### Controller reset (R325, R326) -/

/-- The BAR2 window's registers return to their reset values (R54). A commit that waits for its owner has its effect all the
same, and its outcome is lost. -/
def State.bar2Reset (s : State) : State := { s with bar2 := Bar2.initial }

/-- A controller reset as Table 13.3 states it; during an activation it waits for its end (R348). -/
def State.resetCtrl (s : State) (c : Nat) : State :=
  let s := if c = 0 then s.bar2Reset else s
  if s.nvme.activating.isSome then s.modCtrl c fun k => { k with resetWaits := true } else s.ctrlReset c

/-- The PCIe link goes down: its width, speed and LTSSM state go, and it is counted (object 0x4000). -/
def State.linkDown (s : State) : State :=
  (s.setRegs [(key 0x4000 1, 0), (key 0x4000 2, 0), (key 0x4000 7, 0)]).bump (key 0x4000 0x0C)

/-- CONTROLLER_RESET: a fabric controller has no reset but CC.EN and an abrupt shutdown; PERST_N is one in PERST_MODE 1. -/
def execControllerReset (c : Nat) (cause : ResetCause) (s : State) : Res :=
  .next (match s.ctrl c, cause with
    | none, _ => s
    | some k, .ccEn | some k, .abruptShutdown => if k.en then s.resetCtrl c else s
    | some _, .functionLevel | some _, .hotReset => if c = 0 then s.resetCtrl 0 else s
    | some _, .linkDown => if c = 0 then s.linkDown.resetCtrl 0 else s
    | some _, .perst => if c = 0 ∧ s.reg (key 0x4000 5) = 1 then s.resetCtrl 0 else s)

/-- PROPERTY_SET (R510): CC of a fabric controller. CC.EN falls: controller reset; CC.SHN 01: normal, 10: abrupt shutdown;
CC.EN rises: the controller is enabled. -/
def execPropertySet (c cid off v : Nat) (s : State) : Res :=
  s.adminCmd c cid fun s x =>
    match s.ctrl c with
    | none => s
    | some k =>
      if c = 0 then s.complete x.seq (cplFail .invalidOpcode true)
      else if off ≠ 0x14 then s.complete x.seq (cplFail .invalidField true)
      else
        let s := (s.complete x.seq (cplOk 0 0)).modCtrl c fun k => { k with cc := v % 2 ^ 32 }
        let shn := bitsOf v 15 14
        if k.en ∧ v % 2 = 0 then s.resetCtrl c
        else if k.en ∧ shn = 1 then s.shutdown c
        else if k.en ∧ shn = 2 then s.resetCtrl c
        else if ¬ k.en ∧ v % 2 = 1 then s.enableCtrl c
        else s

/-! ### Log pages (R350) -/

/-- The events that a page's read unmasks (Table 13.8). -/
def pageEvents (page : Nat) : List Event :=
  if page = 1 then [.error]
  else if page = 2 then [.temperature, .spare, .readOnlyLayer]
  else if page = 3 then [.firmwareStarting]
  else if page = 4 then [.namespaceChanged]
  else if page = 0xBF then [.zoneChanged]
  else if page = 0xC0 then [.station]
  else if page = 0xC1 then [.integrity]
  else if page = 0xC2 then [.pinLost]
  else []

/-- Available spare: the least over attached DAF namespaces of the spare clusters as a percentage of their count at format;
100 with none attached. -/
def State.spareLeft (s : State) : Nat :=
  (s.nvme.namespaces.filter fun n => n.daf && !nsSpread n.nsid).foldl (fun m n =>
    let d2 := s.daf2 (nsStation n.nsid)
    (List.range 8).foldl (fun m l => min m ((s.side n.nsid).spareFree d2 l * 100 / spareTotal d2)) m) 100

/-- The fields of a page (Table 13.8), in its order; none for a page that is not supported. -/
def State.logPage (s : State) (k : Ctrl) (page : Nat) : Option (List Nat) :=
  if page = 1 then some (s.nvme.errorLog.flatMap fun e => [e.1, e.2])
  else if page = 2 then
    some [ofSigned 16 (s.regI 16 (key 0x2103 1)), s.spareLeft, 10, 0, (8 * s.nvme.blocksRead + 999) / 1000, (8 * s.nvme.blocksWritten + 999) / 1000, s.nvme.mediaErrors, s.nvme.errors]
  else if page = 3 then
    let rel := fun (j : Nat) => match s.nor.banks.getD j none with | some f => f.release | none => 0
    some [s.reg (key 0x2100 4) + 1, s.nor.bankSelect + 1, rel 0, rel 1]
  else if page = 4 then some k.changed
  else if page = 5 then
    some ([0x02, 0x06, 0x08, 0x09, 0x0A, 0x0C, 0x18, 0x14, 0x80, 0x11, 0x10] ++ (if k.id = 0 then [0x00, 0x01, 0x04, 0x05] else [])
      ++ [0xC0, 0xC1, 0xC2, 0xC3, 0xC4] ++ [0x00, 0x01, 0x02, 0x7D, 0x79, 0x7A])
  else if page = 6 then
    let run := match s.selfTest with | some t => t.code | none => 0
    some (run :: s.nvme.selfTests.flatMap id)
  else if page = 0xBF then some (k.zonesChanged.flatMap fun z => [z.1, z.2])
  else if page = 0xC0 then
    some ((List.range s.part.stations).flatMap fun i => [s.stState i, s.reg (stKey i 0 6), s.stFlags i, s.reg (stKey i 0xE0 1)])
  else if page = 0xC1 then some (s.nvme.integrity.flatMap fun e => [e.1, e.2.1, e.2.2])
  else if page = 0xC2 then
    some (s.pinBytes.map (·.toNat))
  else none

/-- A page is read without Retain Asynchronous Event: its events may come again, its list of changes is empty. -/
def Ctrl.pageRead (k : Ctrl) (page : Nat) : Ctrl :=
  { k with
    masked := k.masked.filter fun e => !(pageEvents page).contains e
    changed := if page = 4 then [] else k.changed
    zonesChanged := if page = 0xBF then [] else k.zonesChanged }

/-- GET_LOG_PAGE: the fields are given whole; `off` and `len` say which of the page's bytes go to the host. -/
def execGetLogPage (c cid page nsid off len : Nat) (retain : Bool) (s : State) : Res :=
  s.adminCmd c cid fun s x =>
    match s.ctrl c with
    | none => s
    | some k =>
      match s.logPage k page with
      | none => s.complete x.seq (cplFail .invalidLogPage true)
      | some f =>
        let s := s.emit (.fields c 0 cid page (nsid :: off :: len :: f))
        let s := if retain then s else s.modCtrl c fun k => k.pageRead page
        s.complete x.seq (cplOk 0 0)

/-- SET_FEATURES_TIMESTAMP (R337, R404): the calendar is set, in ms; not while it follows the ring. -/
def execSetFeaturesTimestamp (c cid v : Nat) (s : State) : Res :=
  s.adminCmd c cid fun s x =>
    if s.following then s.complete x.seq (cplFail .commandSequence true)
    else (s.calendarSet (v % 2 ^ 48 * 1000) 1).complete x.seq (cplOk 0 0)

/-! ### Firmware (R347, R348) -/

/-- FIRMWARE_IMAGE_DOWNLOAD: a piece at a byte offset. -/
def execFirmwareImageDownload (c cid off : Nat) (data : List Byte) (s : State) : Res :=
  s.adminCmd c cid fun s x =>
    if off % 4 ≠ 0 ∨ off % 4096 ≠ 0 ∨ data.length % 4 ≠ 0 ∨ data.isEmpty ∨ 25165824 < off + data.length then
      s.complete x.seq (cplFail .invalidField true)
    else (s.modNvme fun n => { n with download := insertKey off data n.download }).complete x.seq (cplOk 0 0)

/-- The pieces in order, if they follow each other from 0. -/
def gather (at_ : Nat) : List (Nat × List Byte) → List Byte
  | [] => []
  | (o, b) :: r => if o = at_ then b ++ gather (at_ + b.length) r else []

/-- The image that a commit uses: the downloaded one, or for action 3 with none the slot's. -/
def State.commitImage (s : State) (slot : Nat) (now : Bool) : Option FirmwareImage :=
  if s.nvme.download.isEmpty then (if now then s.nor.banks.getD (slot - 1) none else none)
  else some (imageOf (gather 0 s.nvme.download))

/-- The slot a commit names; slot 0 leaves the choice to the device: the one that does not run. -/
def State.commitSlot (s : State) (slot : Nat) : Nat := if slot = 0 then 2 - s.reg (key 0x2100 4) else slot

/-- The image goes into the slot. -/
def State.writeSlot (s : State) (slot : Nat) (f : FirmwareImage) : State :=
  ({ s with nor := { s.nor with banks := s.nor.banks.set (slot - 1) (some f) } }).modNvme fun n => { n with download := [] }
def State.selectBank (s : State) (slot : Nat) : State := { s with nor := { s.nor with bankSelect := slot - 1 } }

/-- A commit that names a slot which is not there or runs fails; else `f`. -/
def State.commit (s : State) (q slot : Nat) (f : State → Nat → State) : State :=
  let n := s.commitSlot slot
  if n = 0 ∨ 2 < n ∨ n = s.reg (key 0x2100 4) + 1 then s.complete q (cplFail .invalidSlot true) else f s n

/-- A commit that writes its slot verifies the image first, as R92 does, in the security domain, which wakes (Table 4.1);
else `f`. -/
def State.commitWrite (s : State) (q slot : Nat) (now : Bool) (f : State → Nat → FirmwareImage → State) : State :=
  s.commit q slot fun s n =>
    match s.commitImage n now with
    | none => s.complete q (cplFail .invalidImage true)
    | some i =>
      let s := s.tempWake 94
      let c := s.imageCode i
      if c = 0x0F5E_0003 then s.complete q (cplFail .activationProhibited true)
      else if c ≠ 0 then s.complete q (cplFail .invalidImage true)
      else f (s.writeSlot n i) n i

/-- FIRMWARE_COMMIT_REPLACE: action 0. -/
def execFirmwareCommitReplace (c cid slot : Nat) (s : State) : Res :=
  s.adminCmd c cid fun s x => s.commitWrite x.seq slot false fun s _ _ => s.complete x.seq (cplOk 0 0)

/-- FIRMWARE_COMMIT_ACTIVATE_ON_RESET: action 1. -/
def execFirmwareCommitActivateOnReset (c cid slot : Nat) (s : State) : Res :=
  s.adminCmd c cid fun s x => s.commitWrite x.seq slot false fun s n _ =>
    (s.selectBank n).complete x.seq (cplFail .needsSubsystemReset false)

/-- FIRMWARE_COMMIT_SELECT: action 2. -/
def execFirmwareCommitSelect (c cid slot : Nat) (s : State) : Res :=
  s.adminCmd c cid fun s x => s.commit x.seq slot fun s n => (s.selectBank n).complete x.seq (cplFail .needsSubsystemReset false)

/-- Step 1 of R348: another vendor Lathe section, with a station SPINNING or above, in MAINT or in FAULT (Table 5.5). -/
def State.mustReset (s : State) (f : FirmwareImage) : Bool :=
  let old := match s.sec.running with | some g => g.digests.getD 3 0 | none => 0
  decide (f.digests.getD 3 0 ≠ old) && (List.range s.part.stations).any fun i =>
    decide (stSpinning ≤ s.stState i)

/-- FIRMWARE_COMMIT_ACTIVATE_NOW: action 3. -/
def execFirmwareCommitActivateNow (c cid slot : Nat) (s : State) : Res :=
  s.adminCmd c cid fun s x => s.commitWrite x.seq slot true fun s n f =>
    if s.mustReset f then (s.selectBank n).complete x.seq (cplFail .needsSubsystemReset false)
    else
      let s := (s.event .firmwareStarting).modNvme fun m => { m with activating := some n }
      ((s.modCtx x.seq fun x => { x with op := .activate n }).endTest 8).settle

/-- ACT_DRAIN_TIMEOUT: with a dispatched command still running, the running firmware goes on and the commit completes as in
step 1. -/
def execActDrainTimeout (s : State) : Res :=
  .next (match s.activation with
    | some (q, slot) =>
      if s.draining q then ((s.selectBank slot).complete q (cplFail .needsSubsystemReset false)).activationOver
      else s.activate q slot
    | none => s)

end Sys2Proof.Machine
end

