-- ==== Sys2Proof/Machine/Hbm.lean ====
section
/-! DEFINITION. The HBM controllers (chapter 15): regions and address decode, patrol scrub, what an uncorrectable word does,
soft and hard row repair, training, and the requests of object 0x4603. A row is named by its lowest address. -/

namespace Sys2Proof.Machine

/-! ### Regions and decode (R376, R377) -/

/-- The end of the package's addresses. -/
def State.hbmTop (s : State) : Nat := if s.part.stations = 8 then 0x8_0000_0000 else 0x4_0000_0000

/-- The first address of each region on package L, and the end; package M has half of each (Table 15.1). -/
def regionBases : List Nat :=
  [0, 0x4_0000_0000, 0x6_0000_0000, 0x6_8000_0000, 0x7_0000_0000, 0x7_4000_0000, 0x7_C000_0000, 0x8_0000_0000]

def State.regionBase (s : State) (r : Nat) : Nat :=
  let b := regionBases.getD r 0
  if s.part.stations = 8 then b else b / 2

/-- The region of an address. -/
def State.regionOf (s : State) (a : Nat) : Option Nat :=
  (List.range 7).find? fun r => decide (s.regionBase r ≤ a) && decide (a < s.regionBase (r + 1))

def adStack (a : Nat) : Nat := a / 2 ^ 8 % 2
def adChannel (a : Nat) : Nat := a / 2 ^ 9 % 16
def adPseudo (a : Nat) : Nat := a / 2 ^ 13 % 2
def adBank (a : Nat) : Nat := a / 2 ^ 16 % 16
def adRow (a : Nat) : Nat := a / 2 ^ 20 % 2 ^ 15
/-- The row of an address: its columns and byte at 0. -/
def rowOfAddr (a : Nat) : Nat := a / 65536 * 65536 + a % 16384 / 256 * 256

/-- Counter `j` of a region: 0 CORRECTED, 1 UNCORRECTABLE, 2 SCRUB_PASSES, 3 SOFT_REPAIRS, 4 HARD_REPAIRS. -/
def regionKey (r j : Nat) : Nat := key 0x4601 (1 + 5 * r + j)
def State.bumpRegion (s : State) (a j : Nat) : State :=
  match s.regionOf a with | some r => s.bump (regionKey r j) | none => s

/-- HBM is trained and its rails stand. -/
def State.hbmUp (s : State) : Bool :=
  s.power.hbmOk && !s.power.lowering && (s.powerState == psRun || s.powerState == psBoot)

/-! ### Row events and repair (R382, R383) -/

def dayUs : Nat := 86400000000

/-- Events of a row in the 24 h window. -/
def State.rowEvents (s : State) (row : Nat) : Nat := (s.hbm.events.filter fun e => e.1 == row && decide (s.now < e.2 + dayUs)).length
/-- Repairs of a row on the repair map. -/
def State.rowRepairs (s : State) (row : Nat) : Nat := (s.hbm.map.filter fun (r : RepairRec) => r.row == row && (r.kind == 1 || r.kind == 2)).length
def State.relocations (s : State) : Nat := (s.hbm.map.filter (·.kind == 3)).length
def State.hardPending (s : State) : Nat := (s.hbm.map.filter (·.kind == 1)).length

/-- The payload that names a row (Table 18.3). -/
def rowPayload (row : Nat) : List Byte :=
  leBytes 1 (adStack row) ++ leBytes 1 (adChannel row) ++ leBytes 1 (adPseudo row) ++ leBytes 1 (adBank row) ++ leBytes 2 (adRow row)

/-- A record of the repair map; a full map keeps what it has (R386). -/
def State.mapRecord (s : State) (kind row : Nat) : State :=
  let n := s.rowEvents row
  s.modHbm fun h => { h with map := (h.map ++ [(⟨kind, row, s.calendar, n⟩ : RepairRec)]).take 2048 }

/-- Record 0x0903; its outcome byte is not given. -/
def State.noteRow (s : State) (row : Nat) (em : Option EmcyUse) : State :=
  let (n, s) := s.fresh
  s.post 0x0903 0x0A (rowPayload row ++ leBytes 1 (Config.freeValue n)) em

/-- A row is relocated for good; with every relocation row in use its way is retired, or it stays in use (R383). -/
def State.relocate (s : State) (row : Nat) : State :=
  let s := s.modHbm fun h => { h with events := h.events.filter fun e => e.1 != row, wants := h.wants.filter (· != row) }
  if s.relocations < 1024 then (s.mapRecord 3 row).noteRow row none
  else if s.regionOf row = some 0 then
    let w := (row / 2 ^ 20, row / 65536 % 16)
    let s := s.modHbm fun h => { h with retired := if h.retired.contains w then h.retired else h.retired ++ [w] }
    (s.modGr fun g => { g with lines := g.lines.filter fun l => !(l.set == w.1 && l.way == w.2 && l.state == .valid) }).noteRow row none
  else s.noteRow row (some ⟨0x5000, false⟩)

/-- One event counts for a row; at REPAIR_THRESHOLD it asks for its soft repair, or is relocated after two repairs. -/
def State.rowEvent (s : State) (row : Nat) : State :=
  let s := s.modHbm fun h => { h with events := (h.events.filter fun e => s.now < e.2 + dayUs) ++ [(row, s.now)] }
  if s.rowEvents row < s.reg (key 0x4600 3) ∨ s.hbm.wants.contains row then s
  else if 2 ≤ s.rowRepairs row then s.relocate row
  else s.modHbm fun h => { h with wants := h.wants ++ [row] }

/-- A failing STREAM chunk not stored failing on purpose: 64 of a row within the window make one event. -/
def State.streamEvent (s : State) (row : Nat) : State :=
  let s := s.modHbm fun h => { h with stream := (h.stream.filter fun e => s.now < e.2 + dayUs) ++ [(row, s.now)] }
  if (s.hbm.stream.filter fun e => e.1 == row).length < 64 then s
  else (s.modHbm fun h => { h with stream := h.stream.filter fun e => e.1 != row }).rowEvent row

/-- The status with which a command ends whose context or data is lost. -/
def Ctx.lostStatus (x : Ctx) (rd : Bool) : Status :=
  if x.sq = 0 then .code 0 6
  else match x.op with
    | .read _ _ _ _ _ | .pin _ => .unrecoveredRead
    | .fetched => if rd then .unrecoveredRead else .writeFault
    | _ => .writeFault

def State.failCtx (s : State) (q : Nat) (st : Ctx → Status) : State :=
  match s.ctx q with
  | some x => (s.complete q (cplFail (st x) false)).settle
  | none => s

/-! ### On-die SRAMs (R384, R385) -/

/-- The macro of an SRAM row, and the row, as codes. -/
def macCode (r : SramRow) : Nat := r.dom * 2 ^ 16 + r.mac
def sramCode (r : SramRow) : Nat := macCode r * 2 ^ 16 + r.row

/-- An SRAM row receives a field repair (R385): a kind 4 record at once, in force from its domain's next wake; with the macro's two spare
rows in use, it is counted in SRAM_NO_SPARE and its partition is DEGRADED. -/
def State.sramRepair (s : State) (r : SramRow) : State :=
  let mine := s.hbm.map.filter fun (x : RepairRec) => x.kind == 4 && x.row / 2 ^ 16 == macCode r
  let n := (s.hbm.sramEvents.filter fun e => e.1 == sramCode r && decide (s.now < e.2 + dayUs)).length
  if s.hbm.sramWaits.contains (sramCode r) then s
  else if mine.length + Config.fusedSpares s.part.serial (macCode r) % 3 < 2 then
    s.modHbm fun h => { h with
      map := (h.map ++ [(⟨4, sramCode r, s.calendar, n⟩ : RepairRec)]).take 2048
      sramWaits := h.sramWaits ++ [sramCode r], sramEvents := h.sramEvents.filter fun e => e.1 != sramCode r }
  else s.modHbm fun h => { h with noSpare := if h.noSpare.contains (macCode r) then h.noSpare else h.noSpare ++ [macCode r] }

/-- A correction of an SRAM row counts as one of an HBM row does (R384); at REPAIR_THRESHOLD the row is repaired (R385). -/
def State.sramEvent (s : State) (r : SramRow) : State :=
  let s := s.modHbm fun h => { h with sramEvents := (h.sramEvents.filter fun e => s.now < e.2 + dayUs) ++ [(sramCode r, s.now)] }
  if (s.hbm.sramEvents.filter fun e => e.1 == sramCode r).length < s.reg (key 0x4600 3) then s else s.sramRepair r

/-- Both copies of a Granary tag are lost (R384): the way is retired until reset, and what it held is gone. -/
def State.tagLost (s : State) (x w : Nat) : State :=
  let s := (s.modGr fun g => { g with lines := g.lines.filter fun l => !(l.set == x && l.way == w) }).modHbm fun h =>
    { h with lostWays := if h.lostWays.contains (x, w) then h.lostWays else h.lostWays ++ [(x, w)] }
  ((s.bump (key 0x4600 0x0B)).post 0x0904 0x0A (leBytes 2 x ++ leBytes 1 w) (some ⟨0x5000, false⟩)).settle

/-- An uncorrectable SRAM word (Table 15.6). -/
def State.sramLost (s : State) : HbmUse → State
  | .context q rd => s.failCtx q fun x => x.lostStatus rd
  | .tag x w both => if both then s.tagLost x w else s
  | .record n =>
    if s.ledger.sram.any fun r => r.seq == n then
      ({ s with ledger := { s.ledger with sram := s.ledger.sram.filter fun r => r.seq != n } }).storeGap 2 1 n
    else s
  | .station i => if s.stState i = stOff then s else s.stnFault i 6 0
  | .reeve => s.modHbm fun h => { h with cfs := true }
  | _ => s

/-- SOFT_REPAIR (R382): the row that address `a` lies in waits for it, and the token of its channel is free. -/
def execSoftRepair (a : Nat) (s : State) : Res :=
  let row := rowOfAddr a
  .next (if s.hbmUp ∧ s.hbm.wants.contains row ∧ s.tokensFree [tokHbm (adStack a) (adChannel a)] then
    let s := s.stepGrant.mapRecord 1 row
    let s := s.modHbm fun h => { h with wants := h.wants.filter (· != row), events := h.events.filter fun e => e.1 != row }
    (s.bumpRegion row 3).note 0x0902 0x0A (rowPayload row)
  else s)

/-- The first pending record becomes done, or its row is relocated. -/
def State.hardRepair (s : State) (row : Nat) (ok : Bool) : State :=
  let s := s.stepGrant
  if ok then
    (s.modHbm fun h => { h with map := h.map.map fun r => if r.row = row ∧ r.kind = 1 then { r with kind := 2 } else r }).bumpRegion row 4
  else (s.modHbm fun h => { h with map := h.map.filter fun r => !(r.row == row && r.kind == 1) }).relocate row

/-- The rows that wait for their hard repair, in order of writing. -/
def State.pendingRows (s : State) (want : Nat → Bool) : List Nat :=
  (((s.hbm.map.filter fun r => r.kind == 1).map (·.row)).eraseDups).filter want

def State.hardRepairs (s : State) (want : Nat → Bool) (oks : List Bool) : State :=
  let rows := s.pendingRows want
  s.forEach ((List.range rows.length).zip rows) fun s p => s.hardRepair p.2 (oks.getD p.1 true)

/-- Whether the daily window is open (R383). -/
def State.inHardWindow (s : State) : Bool :=
  let a := s.reg (key 0x4600 4)
  a != 0xFFFF && s.timeValid && decide ((s.calendar / 60000000 + 1440 - a) % 1440 < s.reg (key 0x4600 5))

/-- HARD_REPAIR_WINDOW (R383): `oks` says for each pending row whether the stack had a repair resource left. -/
def execHardRepairWindow (oks : List Bool) (s : State) : Res :=
  .next (if s.powerState = psRun ∧ s.hbmUp ∧ s.inHardWindow
      ∧ (List.range s.part.stations).all (fun i => s.stState i != stReady && s.stState i != stActive) then
    s.hardRepairs (fun _ => true) oks
  else s)

/-- A block of a Granary line: a clean one is not VALID any more and is fetched again where a read waits for it, a dirty one
is poisoned. -/
def State.granaryHit (s : State) (a : Nat) : State :=
  match s.granary.lines.find? fun l => l.set == a / 2 ^ 20 && l.way == a / 65536 % 16 with
  | none => s
  | some l =>
    let b := a / 4096 % 16
    if bitOf l.dirty b then (s.modLine l.nsid l.cluster fun l => { l with poison := setBit l.poison b }).bump (grKey 0x10)
    else if bitOf l.valid b then
      let s := (s.modLine l.nsid l.cluster fun l => { l with valid := clrBit l.valid b }).bump (grKey 0x0F)
      let waits := s.nvme.ctxs.any fun x => match x.op with
        | .read n lba k got _ => n == l.nsid && decide (lba ≤ 16 * l.cluster + b) && decide (16 * l.cluster + b < lba + k)
          && !got.any (·.1 == 16 * l.cluster + b)
        | _ => false
      if waits then s.queueFill l.nsid l.cluster .demand else s
    else s

/-! ### Patrol scrub (R381) -/

def State.scrubRegions (_ : State) (pass : Bool) : List Nat := if pass then [3, 5] else [0, 2, 4, 6]
def scrubKey (pass : Bool) : Nat := key 0x4601 (if pass then 0x25 else 0x24)

/-- The next address of a walk: the position where it lies in a region of the walk, else the first region's start. -/
def State.scrubAt (s : State) (pass : Bool) : Nat :=
  let p := s.reg (scrubKey pass)
  let rs := s.scrubRegions pass
  match s.regionOf p with
  | some r => if rs.contains r then p else s.regionBase (rs.headD 0)
  | none => s.regionBase (rs.headD 0)

/-- Step past a chunk; at a region's end its pass counts and the walk goes to the next region. -/
def State.scrubNext (s : State) (pass : Bool) (a : Nat) : State :=
  let rs := s.scrubRegions pass
  let r := (s.regionOf a).getD 0
  if a + 256 < s.regionBase (r + 1) then s.setReg (scrubKey pass) (a + 256)
  else
    let n := (rs.find? fun x => r < x).getD (rs.headD 0)
    (s.bump (regionKey r 2)).setReg (scrubKey pass) (s.regionBase n)

/-- The injected errors of a chunk that is read (object 0x4602): a correctable one is corrected, an uncorrectable one loses its block. -/
def State.findPlanted (s : State) (a : Nat) : State :=
  let here := s.hbm.planted.filter fun p => p.1 / 256 == a / 256
  let s := s.modHbm fun h => { h with planted := h.planted.filter fun p => p.1 / 256 != a / 256 }
  s.forEach here fun s p =>
    if p.2 = 1 then (s.bumpRegion p.1 0).rowEvent (rowOfAddr p.1)
    else ((s.bumpRegion p.1 1).rowEvent (rowOfAddr p.1)).granaryHit p.1

/-- SCRUB_STEP (R379, R381): one 256-byte chunk; `words` are its words found correctable. `sram` is an SRAM row whose correction falls
into this step (R384), for which the table has no row of its own (DESIGN CHOICE, log entry 123). -/
def execScrubStep (pass : Bool) (words : List Nat) (sram : Option SramRow) (s : State) : Res :=
  let a := s.scrubAt pass
  .next (if s.hbmUp ∧ s.tokensFree [tokHbm (adStack a) (adChannel a)] then
    let s := (s.stepGrant).findPlanted a
    let s := s.forEach (words.filter (· < 8)).eraseDups fun s _ => (s.bumpRegion a 0).rowEvent (rowOfAddr a)
    let s := match sram with | some r => s.sramEvent r | none => s
    s.scrubNext pass a
  else s)

/-! ### Uncorrectable data (R380, Table 15.4) -/

/-- Whether an uncorrectable word lies in an SRAM. -/
def onDie : HbmUse → Bool
  | .context _ _ | .tag _ _ _ | .record _ | .station _ | .reeve => true
  | _ => false

/-- HBM_UNCORRECTABLE_ERROR at address `a`; `use` says what the word held. The uncorrectable words of on-die SRAMs (Table 15.6), for which
the table has no row of its own, come with it (DESIGN CHOICE, log entry 123). -/
def execHbmUncorrectableError (a : Nat) (use : HbmUse) (s : State) : Res :=
  .next (if onDie use then s.sramLost use
  else match (if s.hbmUp then s.regionOf a else none) with
  | none => s
  | some r =>
    let scratch := r == 5 || (r == 3 && !s.part.q)
    let marked := match use with | .frame n => (s.ring[n]?).any fun (f : RingFrame) => bitOf f.flags 5 | _ => false
    if marked then s
    else
      let s := s.bump (regionKey r 1)
      let s := if r = 1 then s.streamEvent (rowOfAddr a) else s.rowEvent (rowOfAddr a)
      match use with
      | .plain => if r = 0 then s.granaryHit a else s
      | .command q rd => if r = 2 then s.failCtx q fun x => x.lostStatus rd else s
      | .tables n =>
        if r = 2 then
          let waits := s.nvme.ctxs.filter fun x => match x.op with
            | .read m _ _ _ _ | .write m _ _ _ _ | .flush (.zone m _) _ _ | .flush (.clusters m _ _) _ _ => m == n
            | _ => false
          let s := s.forEach waits fun s x => s.complete x.seq cplNotReady
          let s := if (s.ns n).isNone ∨ nsSpread n ∨ s.rebuilding n then s
            else s.modGr fun g => { g with ops := g.ops ++ [newOp n tableCluster .tables none] }
          s.settle
        else s
      | .firmware same =>
        if r = 4 ∧ ¬ same then (s.modHbm fun h => { h with cfs := true }).raiseEmcy 0x5000 0x0A 0 0 false else s
      | .bypass q => if scratch then s.failCtx q fun _ => .unrecoveredRead else s
      | .segment =>
        if scratch ∧ s.bar2.state ≠ .idle then
          { s with bar2 := { s.bar2 with state := .error, segAbort := 0x0606_0000, data := [] } }
        else s
      | .frame n =>
        if r = 1 then { s with ring := s.ring.modify n fun f => { f with flags := setBit f.flags 5 } } else s
      | _ => s)

/-! ### Training (R387) -/

/-- Training fails for good: FAILED, record 0x0905 with the step, EMCY 0x5000. -/
def State.trainFailed (s : State) (stack step : Nat) : State :=
  let s := s.post 0x0905 0x0A (leBytes 1 stack ++ leBytes 1 step) (some ⟨0x5000, false⟩)
  ((s.setPower psFailed).lowerRails .failed).updAll

/-- HBM_TRAINING: what both stacks' training comes to. -/
def execHbmTraining (a b : StackTraining) (s : State) : Res :=
  .next (if s.powerState = psBoot ∧ 2 ≤ s.power.phase ∧ s.power.bankOk ∧ ¬ s.power.hbmOk ∧ ¬ s.power.lowering ∧ ¬ s.held then
    match a.fail, b.fail with
    | some n, _ => s.trainFailed 0 n
    | none, some n => s.trainFailed 1 n
    | none, none =>
      let s := s.setRegs [(key 0x4600 9, min a.lanes 255 + 256 * min b.lanes 255), (scrubKey false, 0), (scrubKey true, 0)]
      let s := (s.hardRepairs (fun r => adStack r == 0) a.hard).hardRepairs (fun r => adStack r == 1) b.hard
      (s.modPower fun p => { p with hbmOk := true }).updAll
  else s)

/-! ### Objects (R386, R388) -/

/-- REQUEST of object 0x4603. -/
def State.hbmRequest (s : State) (d : Door) (v : Nat) : Applied :=
  let a := s.reg (key 0x4602 1)
  if v = 1 then
    .ok (s.endResult 0x4603 [(5, (s.regionOf a).getD 0), (6, adStack a), (7, adChannel a), (8, adPseudo a), (9, adBank a),
      (10, adRow a), (11, min 255 (s.rowEvents (rowOfAddr a)))] 0)
  else if v = 2 then
    if s.authorised then
      let k := s.reg (key 0x4602 2)
      .ok (((s.modHbm fun h => { h with armed := if k = 0 then none else some (a, k) }).authAction d 0x4603 1).endResult 0x4603 [] 0)
    else .error 0x0800_0031
  else .error 0x0609_0030

/-- A write of REPAIR_MAP_CLEAR. -/
def State.mapClear (s : State) (d : Door) (v : Nat) : Applied :=
  if v ≠ 1 then .error 0x0609_0030
  else if s.authorised then .ok ((s.modHbm fun h => { h with clearMap := true }).authAction d 0x4600 0x0D)
  else .error 0x0800_0031

/-- REPAIR_MAP, object 0x4690. -/
def State.mapBytes (s : State) : List Byte :=
  let b := s.hbm.map.flatMap fun r => leBytes 32 (Config.repairRecord r.kind r.row r.time r.events).toNat
  b ++ List.replicate (65536 - b.length) 0

/-- REQUEST of object 0x4403 (R356, Table 14.9). -/
def State.tagProbe (s : State) (v : Nat) : Applied :=
  if v ≠ 1 then .error 0x0609_0030
  else
    let nsid := s.reg (key 0x4402 1)
    let cl := s.reg (key 0x4402 2) % 2 ^ 40
    let x := s.setOf nsid cl
    let d : List (Nat × Nat) := [(5, x), (6, x % 2)]
    let rest : List (Nat × Nat) := match (if nsSpread nsid then none else s.line nsid cl) with
      | none => [(7, 0xFF), (8, 0), (9, 0), (10, 0), (11, 0), (12, 0), (13, 2 ^ 64 - 1)]
      | some l =>
        let st := match l.state with | .filling => 1 | .valid => 2 | .evicting => 3 | .dirty => 4 | .writing => 5
        [(7, l.way), (8, st), (9, l.valid), (10, l.dirty), (11, l.poison), (12, l.lock), (13, l.flushSeq.getD (2 ^ 64 - 1))]
    .ok (s.endResult 0x4403 (d ++ rest ++ [(14, s.tree x)]) 0)

end Sys2Proof.Machine
end

