-- ==== Sys2Proof/Machine/BistCmds.lean ====
section
/-! DEFINITION. The commands of BIST, of the device self-test and of the inrush slots (R100, R349, R465 to R476), but for
the grants of the arbiter and the dictionary requests. -/

namespace Sys2Proof.Machine

/-! ### Requests of object 0x2501 (R466, R467, R471) -/

/-- Whether a partition may be tested now: power and life-cycle state, station state, and for the whole chip every station
OFF, no controller enabled and no dirty line. -/
def State.bistMay (s : State) (kind inst : Nat) : Bool :=
  s.powerState == psRun && s.bistState kind
    && (if classA kind then s.classAMay (partStation kind inst)
      else if kind = 8 then
        (List.range s.part.stations).all (fun i => s.stState i == stOff) && s.enabledCtrls == 0 && !s.anyDirty
          && s.spread.staged.isEmpty
      else true)

/-- A write of REQUEST of object 0x2501. -/
def State.bistRequest (s : State) (v : Nat) : Applied :=
  let kind := v % 256
  let inst := bitsOf v 15 8
  if kind = 0 ∨ 8 < kind ∨ partLimit kind ≤ inst then .error 0x0609_0030
  else if ¬ s.partPresent kind inst then .error 0x0800_0030
  else if ¬ s.bistMay kind inst then .error 0x0800_0022
  else if (s.bistRun kind inst).isSome ∨ (bitOf v 16 ∧ ¬ s.tokensFree (s.tokensOf kind inst)) then .error 0x0800_0021
  else .ok ((s.beginResult 0x2501).bistAsk kind inst .object)

/-! ### Blocks and ends (R465, R469) -/

/-- What the end of a run sets going: the station command that waited for it, the next pool partition, the self-test. -/
def State.bistAfter (s : State) (r : BistRun) : State :=
  let s := if classA r.kind then
      (let i := partStation r.kind r.inst
       match (s.stn i).cmd with
       | some c => if c.steps.head? = some .bistEnds ∧ ¬ (s.stationRuns i).any BistRun.active then s.stepOver i else s
       | none => s)
    else s.poolGo
  s.testAdvance

/-- Patterns run only while the partition is powered. -/
def State.partOn (s : State) (kind inst : Nat) : Bool :=
  s.powerState == psRun && match partDomain kind inst with | some d => s.domState d == 3 | none => true

/-- BIST_PATTERN_BLOCK (R465, R467): a partition that is to stop is ABORTED; one that waits to leave its pool does so if it
can. -/
def execBistPatternBlock (kind inst : Nat) (s : State) : Res :=
  .next (match s.bistRun kind inst with
    | none => s
    | some r =>
      if r.stage = .running ∧ r.stop then (s.bistEnd r oAborted 0 true).bistAfter r
      else if r.stage = .pool then s.poolGo
      else s)

/-- The whole chip ends (R471): WHOLE_CHIP_LAST, its record, and a reset as RESET_N does, with the straps as they are. The
first failing partition of a chip that passes, and the code, result and segment of its record 0x0D06, are not in the
manual: free values. -/
def State.wholeChipEnd (s : State) (r : BistRun) (passed : Bool) (sig first : Nat) : State :=
  let n := s.fresh
  let free := Config.freeValue n.1
  let s := n.2.bistEnd r (if passed then oPassed else oFailed) sig true
  let s := s.setReg (bistKey 9) (if passed then oPassed + 256 * (free % 2 ^ 24) else oFailed + 256 * first)
  let s := if passed then
      s.note 0x0D06 9 (leBytes 3 free ++ (List.range 8).flatMap fun i => leBytes 1 (s.reg (key 0x2504 (1 + i))))
    else s
  s.resetAssert.resetRelease

/-- BIST_PARTITION_END (R465, R470): the signature against the expected one; a first mismatch runs the partition again. Of
the whole chip `first` is the first partition that failed twice; `rows` are the rows of the partition's SRAM macros that fail
memory BIST, which are field-repaired (R385). -/
def execBistPartitionEnd (kind inst sig first : Nat) (rows : List SramRow) (s : State) : Res :=
  .next (match s.bistRun kind inst with
    | none => s
    | some r =>
      if r.stage ≠ .running ∨ ¬ s.partOn kind inst then s
      else
        let s := s.forEach (rows.filter fun x => kind == 8 || some x.dom == partDomain kind inst || (x.dom == 95 && (partDomain kind inst).isNone)) State.sramRepair
        let ok := decide (sig = (Config.expectedSignature (partNumber kind inst)).toNat)
        if kind = 8 then s.wholeChipEnd r ok sig first
        else if ok then (s.bistEnd r oPassed sig false).bistAfter r
        else if r.again then (s.bistEnd r oFailed sig false).bistAfter r
        else s.modRun kind inst fun r => { r with again := true })

/-! ### Pool tests (R469) -/

/-- When a partition was last tested, 0 if never. -/
def State.lastTested (s : State) (p : Nat × Nat) : Nat :=
  match findKey (partNumber p.1 p.2) s.bist.table with
  | some o => o.2
  | none => 0

/-- POOL_BIST_TICK: runs of the schedule that have waited through an interval are DEFERRED, and the pool partition tested
longest ago is asked for. -/
def execPoolBistTick (s : State) : Res :=
  let n := s.reg (bistKey 1)
  .next (if n = 0 ∨ s.powerState ≠ psRun ∨ ¬ s.bistState 5 then s
  else
    let late := s.bist.runs.filter fun r => r.who == .pool && !r.active && decide (r.since + n * 3600000000 ≤ s.now)
    let s := s.forEach late fun s r => s.bistEnd r oDeferred 0 false
    let free := s.poolParts.filter fun p => !s.bist.out.contains (partNumber p.1 p.2) && (s.bistRun p.1 p.2).isNone
    match free.foldl (fun (m : Option (Nat × Nat)) p =>
        match m with
        | none => some p
        | some q => if s.lastTested p < s.lastTested q then some p else some q) none with
    | some p => s.bistAsk p.1 p.2 .pool
    | none => s)

/-- SEGMENT_WAIT_EXPIRY: a segment that has not become free is DEFERRED. -/
def execSegmentWaitExpiry (j : Nat) (s : State) : Res :=
  .next (match s.bistRun 6 j with
    | some r => if r.active then s else (s.bistEnd r oDeferred 0 false).bistAfter r
    | none => s)

/-- CLASS_B_TIME_EXCEEDED: the pool partition under test is INCOMPLETE and returns to its pool. -/
def execClassBTimeExceeded (s : State) : Res :=
  .next (match s.bist.runs.find? fun r => classB r.kind && r.stage == .running with
    | some r => (s.bistEnd r oIncomplete 0 false).bistAfter r
    | none => s)

/-! ### Inrush slots (R100) -/

/-- INRUSH_SLOT_GRANT: a free slot goes to the earliest waiting spin-up, else to class A BIST. -/
def execInrushSlotGrant (s : State) : Res :=
  .next (if s.freeSlots then
    (match s.power.spinWaits with
     | i :: _ => if s.firedBefore i then s else (s.takeSlot i).spinGo i
     | [] => s.bistSlot)
  else s)

/-- BIST_SLOT_PREEMPT: with every slot held, a partition of station `st` suspends, and the earliest spin-up of another
station takes its slot. -/
def execBistSlotPreempt (st : Nat) (s : State) : Res :=
  .next (if s.freeSlots then s
  else
    match (s.stationRuns st).find? (fun r => r.stage == .running), s.power.spinWaits with
    | some r, i :: _ =>
      if i = st then s
      else
        let s := { s with power := { s.power with
          slots := s.power.slots.filter (· != SlotHolder.bist r.kind r.inst)
          bistSuspended := s.power.bistSuspended ++ [(r.kind, r.inst)] } }
        let s := (s.modRun r.kind r.inst fun r => { r with stage := .suspended }).setOutcome r.kind r.inst oSuspended
        (s.takeSlot i).spinGo i
    | _, _ => s)

/-! ### Device Self-test (R349, R472) -/

/-- Start a test: one at a time; NSID 0 and 0xFFFF_FFFF name the whole subsystem. -/
def State.selfTestCmd (s : State) (x : Ctx) (nsid code : Nat) : State :=
  let all := nsid = 0 ∨ nsid = 0xFFFF_FFFF
  if s.selfTest.isSome then s.complete x.seq (cplFail .selfTestInProgress false)
  else if ¬ all ∧ (s.ns nsid).isNone then s.complete x.seq cplInvalidNs
  else
    let is := if all then List.range s.part.stations else if nsSpread nsid then [] else [nsStation nsid]
    let s := s.complete x.seq (cplOk 0 0)
    let t : SelfTest := { code := code, nsid := nsid, ctrl := x.ctrl, stations := is.map fun i => s.stTestOf i code
                          pool := if code = 2 ∧ s.bistState 5 then s.poolParts else [], segment := 0 }
    ({ s with selfTest := some t }).setReg (bistKey 7) code |>.testAdvance

/-- DEVICE_SELF_TEST_SHORT. -/
def execDeviceSelfTestShort (c cid nsid : Nat) (s : State) : Res := s.adminCmd c cid fun s x => s.selfTestCmd x nsid 1

/-- DEVICE_SELF_TEST_EXTENDED. -/
def execDeviceSelfTestExtended (c cid nsid : Nat) (s : State) : Res := s.adminCmd c cid fun s x => s.selfTestCmd x nsid 2

/-- DEVICE_SELF_TEST_ABORT (Table 19.9): result 1h. -/
def execDeviceSelfTestAbort (c cid : Nat) (s : State) : Res :=
  s.adminCmd c cid fun s x => (s.endTest 1).complete x.seq (cplOk 0 0)

end Sys2Proof.Machine
end

