-- ==== Sys2Proof/Machine/Calibration.lean ====
section
/-! DEFINITION. Background calibration (R453 to R460, Tables 19.1 to 19.3): the reference resistor, visits of the RF ADCs,
servo ADCs, DACs and motor sense inputs, and the acceptance of their results. -/

namespace Sys2Proof.Machine

def calKey (sub : Nat) : Nat := key 0x2400 sub
def rfKey (h sub : Nat) : Nat := key (0x2410 + h) sub
def figKey (h sub : Nat) : Nat := key (0x2420 + h) sub
def senseKey (i sub : Nat) : Nat := key (0x2430 + i) sub

def State.modCal (s : State) (f : Cal → Cal) : State := { s with cal := f s.cal }

/-! ### Plausibility (R459, R460) -/

/-- One quantity of a result: the register of the value in use, its width if signed (0 unsigned), the result, its plausible
range and the largest step from the value in use (none: any). -/
structure CalQty where
  reg : Nat
  signed : Bool
  val : Int
  lo : Int
  hi : Int
  step : Option Nat
  deriving DecidableEq, Repr

/-- Whether a quantity may be true: inside its range and within its largest step (Table 19.2). -/
def State.plausible (s : State) (q : CalQty) : Bool :=
  let cur : Int := if q.signed then s.regI 16 q.reg else s.reg q.reg
  decide (q.lo ≤ q.val) && decide (q.val ≤ q.hi)
    && (match q.step with | some n => decide ((q.val - cur).natAbs ≤ n) | none => true)

/-- Which unit a result is of: the kind of record 0x0D01, head or station, unit number, and its UNIT_STATE register. -/
structure CalUnit where
  kind : Nat
  place : Nat
  unit : Nat
  state : Nat
  deriving DecidableEq, Repr

/-- SOURCE of a unit's records: its head's engine, or its station's servo engine. -/
def CalUnit.source (u : CalUnit) : Nat := if u.kind ≤ 3 then 0x40 + u.place else 0x30 + u.place

/-- Payload of records 0x0D01 and 0x0D02; the code of a quantity is not in the manual, so it is a free value. -/
def CalUnit.payload (u : CalUnit) (quantity : Nat) (v : Int) : List Byte :=
  leBytes 1 u.kind ++ leBytes 1 u.place ++ leBytes 1 u.unit ++ leBytes 1 quantity ++ leBytes 4 (ofSigned 32 v)

/-- What DEGRADED does beyond the mark (Table 19.3): the spare of R272, a bit of object 0x3sE0:04, or nothing. -/
def State.degraded (s : State) (u : CalUnit) : State :=
  let bit := fun (i n : Nat) => s.setRegBit (stKey i 0xE0 4) n true
  if u.kind = 1 then s.degradeAdc u.place u.unit
  else if u.kind = 2 ∨ u.kind = 3 then bit (u.place / 2) (u.place % 2)
  else if u.unit = 4 ∨ u.unit = 5 then bit u.place (u.unit + 1)
  else if u.unit = 6 ∨ u.unit = 7 then bit u.place 3
  else if u.unit = 8 ∨ u.unit = 9 then bit u.place 4
  else s

/-- Judge a result (R459, R460): the state after it and whether it was accepted (none: the unit is DEGRADED, its values
frozen). `extra` are figures written with an accepted result. -/
def State.judgeCal (s : State) (u : CalUnit) (qs : List CalQty) (extra : List (Nat × Nat)) : State × Option Bool :=
  if bitOf (s.reg u.state) 7 then (s, none)
  else
    match qs.find? fun q => !s.plausible q with
    | none =>
      let s := s.setRegs ((qs.map fun q => (q.reg, ofSigned 16 q.val)) ++ extra)
      ((s.setReg u.state 0).bump (calKey 8), some true)
    | some q =>
      let run := s.reg u.state % 16 + 1
      let n := s.fresh
      let pay := u.payload (Config.freeValue n.1) q.val
      let s := ((n.2.setReg u.state (min run 15)).bump (calKey 9)).note 0x0D01 u.source pay
      if s.reg (calKey 7) ≤ run then
        let s := (s.setRegBit u.state 7 true).addReg 16 (calKey 0x0C) 1
        ((s.post 0x0D02 u.source pay (some ⟨0xFF50, false⟩)).degraded u, some false)
      else (s, some false)

/-! ### The units of Table 19.1 -/

/-- ENOB in 0.01 bit of a residual in 0.01 LSB rms (R456): SINAD is the full-scale sine's 90.51 LSB rms over the residual. -/
def enobOf (residual : Nat) : Nat :=
  (roundDiv (roundDiv (602059991 * ((lg2 9051 : Int) - lg2 residual)) (2 ^ 24) - 176000000) 6020000).toNat

/-- RF ADC `a` of a head: offset in 0.01 LSB, gain in 1/32,768, residual in 0.01 LSB rms, ENOB in 0.01 bit; a residual of 0 has no
SINAD, and its ENOB is a free value. -/
def State.judgeRf (s : State) (h a : Nat) (f : CalFit) : State × Option Bool :=
  let n := s.fresh
  let s := if f.residual = 0 then n.2 else s
  let enob := if f.residual = 0 then Config.freeValue n.1 % 65536 else enobOf f.residual
  s.judgeCal ⟨1, h, a, rfKey h (0x25 + a)⟩
    [⟨rfKey h (1 + a), true, f.offset, -800, 800, some 100⟩, ⟨rfKey h (0x0A + a), false, f.gain, 27853, 38666, some 655⟩,
      ⟨rfKey h (0x13 + a), false, f.residual, 0, 120, none⟩]
    [(rfKey h (0x1C + a), enob)]

/-- Servo ADC `a` of a head: offset in LSB, gain in 1/32,768. -/
def State.judgeServo (s : State) (h a : Nat) (f : CalFit) : State × Option Bool :=
  s.judgeCal ⟨2, h, a, figKey h (0x13 + a)⟩
    [⟨figKey h (1 + a), true, f.offset, -64, 64, some 4⟩, ⟨figKey h (0x0A + a), false, f.gain, 29492, 36044, some 163⟩] []

/-- Actuator DAC `d` of a head: trim in 0.01 %. -/
def State.judgeDac (s : State) (h d : Nat) (f : CalFit) : State × Option Bool :=
  s.judgeCal ⟨3, h, d, figKey h (0x1D + 2 * d)⟩ [⟨figKey h (0x1C + 2 * d), true, f.offset, -1000, 1000, some 25⟩] []

/-- Motor sense input `u` of a station: offset in 0.01 % of full scale, gain in 1/32,768. -/
def State.judgeSense (s : State) (i u : Nat) (f : CalFit) : State × Option Bool :=
  s.judgeCal ⟨4, i, u, senseKey i (0x19 + u)⟩
    [⟨senseKey i (1 + u), true, f.offset, -200, 200, some 25⟩, ⟨senseKey i (0x0D + u), false, f.gain, 26215, 40960, some 327⟩] []

/-- Whether calibration may run: RUN, its enable bit in CAL_ENABLE, and no REXT_FAULT (R454, R455). -/
def State.calOn (s : State) (bit : Nat) : Bool :=
  s.powerState == psRun && bitOf (s.reg (calKey 3)) bit && s.reg (calKey 2) == 0

/-- The front end of a head, its read channel, and the motor I/O of a station are on (Table 4.1). -/
def State.afeOn (s : State) (h : Nat) : Bool := s.domState (6 * (h / 2) + 1 + h % 2) == 3
def State.channelOn (s : State) (h : Nat) : Bool := s.domState (6 * (h / 2) + 3 + h % 2) == 3
def State.motorOn (s : State) (i : Nat) : Bool := s.domState (6 * i + 5) == 3

/-! ### Calibrations asked for by object 0x2441 -/

/-- Tokens of a calibration (Table 19.1): kind 1 to 3. -/
def calTokens (kind n : Nat) : List Nat :=
  if kind = 1 then [tokAfe n, tokChannel n] else if kind = 2 then [tokAfe n] else [tokStation n]

/-- Whether a step of a kind may take its tokens now: those its request holds, or free ones (log entry 60). -/
def State.calMay (s : State) (kind n : Nat) : Bool :=
  s.holdsTokens (.cal kind n) || s.tokensFree (Sys2Proof.Machine.calTokens kind n)

/-- The domains that a calibration uses (R81, Table 4.1). -/
def calDomains (kind n : Nat) : List Nat :=
  if kind = 1 then [6 * (n / 2) + 1 + n % 2, 6 * (n / 2) + 3 + n % 2] else if kind = 2 then [6 * (n / 2) + 1 + n % 2] else [6 * n + 5]

/-- The temporary wakes of a request end with it, but for those that something else uses. -/
def State.calSleep (s : State) (kind n : Nat) (ended : Bool) : State :=
  if ended then
    s.forEach (calDomains kind n) fun s d =>
      if s.power.writes.any (fun w => w.domains.contains d) || s.bist.runs.any (fun r => partDomain r.kind r.inst == some d)
          || s.busy (stIx (d / 6) 0xE2) then s
      else s.endTempWake d
  else s

/-- What a step of a running request leaves: its count, and at the last step the result (Table 19.11). -/
def State.roundStep (s : State) (kind n item : Nat) (rs : List (Option Bool)) (missed : Bool) : State :=
  match s.cal.round with
  | none => s
  | some r =>
    if r.kind = kind ∧ r.n = n ∧ r.left.contains item then
      let r := { r with
        left := r.left.filter (· != item), deferred := r.deferred || missed
        accepted := r.accepted + (rs.filter (· == some true)).length
        rejected := r.rejected + (rs.filter (· == some false)).length }
      let s := (s.dropTokens (.cal kind n)).calSleep kind n r.left.isEmpty
      if r.left.isEmpty then
        let code := if r.rejected ≠ 0 then 0x0F5F_0005 else if r.deferred then 0x0F5F_0004 else 0
        (s.modCal fun c => { c with round := none }).endResult 0x2441 [(5, min r.accepted 65535), (6, min r.rejected 65535)] code
      else s.modCal fun c => { c with round := some r }
    else s

/-- A write of REQUEST of object 0x2441 (R455, R463): the steps wake the domains they use (R81). -/
def State.calRequest (s : State) (v : Nat) : Applied :=
  let kind := v % 256
  let n := bitsOf v 15 8
  let i := if kind = 3 then n else n / 2
  if kind = 0 ∨ 3 < kind ∨ (kind = 3 ∧ 8 ≤ n) ∨ 16 ≤ n then .error 0x0609_0030
  else if ¬ s.stationPresent i then .error 0x0800_0030
  else if s.powerState ≠ psRun ∨ s.reg (calKey 2) = 1 then .error 0x0800_0022
  else if bitOf v 16 ∧ ¬ s.tokensFree (calTokens kind n) then .error 0x0800_0021
  else
    let s := (s.beginResult 0x2441).modCal fun c => { c with
      round := some ⟨kind, n, if kind = 1 then List.range s.beams else [0], 0, 0, false⟩ }
    let s := s.forEach (calDomains kind n) State.tempWake
    .ok (if s.tokensFree (calTokens kind n) then s else s.askTokens (.cal kind n) (calTokens kind n))

/-! ### RF visits (R456) -/

/-- A visit of an ADC is skipped: CAL_DEFERRED, and CAL_LATE at the second in succession. -/
def State.visitSkipped (s : State) (h b : Nat) : State :=
  let k := h * 16 + b
  let n := ((findKey k s.cal.missed).getD 0) + 1
  let s := (s.modCal fun c => { c with missed := putKey k n 0 c.missed }).bump (calKey 0x0A)
  let s := if n = 2 then s.bump (calKey 0x0B) else s
  s.roundStep 1 h b [] true

/-- A visit ends: the ADC is not late, if it was calibrated. -/
def State.visitDone (s : State) (h b : Nat) (rs : List (Option Bool)) (done : Bool) : State :=
  let s := if done then s.modCal fun c => { c with missed := putKey (h * 16 + b) 0 0 c.missed } else s
  s.stepGrant.roundStep 1 h b rs (!done)

/-- The overlap of a visit's handover in resync blocks of 1,724 channel bits (R456): HANDOVER_OVERLAP, or the largest number that lasts
at most 3.9 ms at the channel rate of the present zone, and at least 16. -/
def State.visitOverlap (s : State) (h : Nat) : Nat :=
  let rate := s.channelRate (h / 2) (trackZone (s.reg (hdKey h 0x13 2)))
  max 16 (min (s.reg (chKey h 8 1)) (39 * rate / (1724 * 10000)))

/-- A handover of a visit, at the end of its overlap. -/
def State.visitHandover (s : State) (h b : Nat) (toSpare : Bool) (rms : Nat) : State :=
  (s.emit (.overlap h b toSpare (s.visitOverlap h))).handover h b toSpare rms

/-- A visit to ADC `b`: the spare's fit, ADC b's, and the rms differences of the two handovers. -/
def State.rfVisit (s : State) (h b : Nat) (sp ad : CalFit) (there back : Nat) : State :=
  let spare := s.reg (chKey h 8 3)
  let suspended := s.reg (chKey h 8 5) == 1
  let reading := decide (hsFollowing ≤ s.substate h)
  let free := spare == 0xFF && !bitOf (s.reg (chKey h 8 4)) 8
  if suspended && reading || bitOf (s.reg (chKey h 8 4)) b then s.roundStep 1 h b [] true
  else if !s.calMay 1 h then s.visitSkipped h b
  else if spare = b ∧ ¬ suspended then
    let a := s.judgeRf h b ad
    (if s.substate h = hsWriting ∨ s.defectHold h then a.1 else a.1.visitHandover h b false back).visitDone h b [a.2] true
  else if reading then
    if !free then s.roundStep 1 h b [] true
    else if s.substate h = hsWriting ∨ s.defectHold h then s.visitSkipped h b
    else
      let a := s.judgeRf h 8 sp
      let s := a.1.visitHandover h b true there
      if s.reg (chKey h 8 3) = b then
        let c := s.judgeRf h b ad
        (c.1.visitHandover h b false back).visitDone h b [a.2, c.2] true
      else s.visitDone h b [a.2] false
  else
    let a := if free then s.judgeRf h 8 sp else (s, none)
    let c := a.1.judgeRf h b ad
    c.1.visitDone h b [a.2, c.2] true

/-! ### The commands -/

/-- REXT_MEASURE (R454), in 0.1 Ω: every reading outside 19,000 to 21,000 sets REXT_FAULT with its record and EMCY; one
within clears it with the error reset. -/
def execRextMeasure (v : Nat) (s : State) : Res :=
  .next (if s.powerState = psRun ∨ (s.powerState = psBoot ∧ 1 ≤ s.power.phase) then
    let s := s.setReg (calKey 1) v
    if v < 19000 ∨ 21000 < v then (s.setReg (calKey 2) 1).post 0x0D03 0 (leBytes 2 v) (some ⟨0xFF52, true⟩)
    else if s.reg (calKey 2) = 1 then (s.setReg (calKey 2) 0).raiseEmcy 0 0 0 0 true
    else s
  else s)

/-- RF_CAL_VISIT (R456). -/
def execRfCalVisit (h b : Nat) (sp ad : CalFit) (there back : Nat) (s : State) : Res :=
  .next (if b < s.beams ∧ s.stationPresent (h / 2) then
    (if s.calOn 0 && s.afeOn h && s.channelOn h then s.rfVisit h b sp ad there back else s.roundStep 1 h b [] true)
  else s)

/-- SERVO_ADC_CAL (R457): discarded while the head's AFE token is held. -/
def execServoAdcCal (h a : Nat) (f : CalFit) (s : State) : Res :=
  .next (if s.calOn 1 && s.afeOn h && (s.tokenHolder (tokAfe h)).isNone then (s.judgeServo h a f).1 else s)

/-- DAC_CAL (R458): the four DACs of a head, or the twelve sense inputs of a station. -/
def execDacCal (e : Nat) (vals : List CalFit) (s : State) : Res :=
  let kind := if e < 16 then 2 else 3
  let n := if e < 16 then e else e - 16
  .next (if s.calOn 2 && (if e < 16 then s.afeOn e else s.motorOn n) && s.calMay kind n then
    let r := (List.range (min vals.length (if e < 16 then 4 else 12))).foldl
      (fun (a : State × List (Option Bool)) k =>
        let f := vals.getD k ⟨0, 0, 0⟩
        let b := if e < 16 then a.1.judgeDac e k f else a.1.judgeSense n k f
        (b.1, a.2 ++ [b.2])) (s, [])
    (r.1.stepGrant).roundStep kind n 0 r.2 false
  else if s.enginePresent e then s.roundStep kind n 0 [] true else s)

end Sys2Proof.Machine
end

