-- ==== Sys2Proof/Machine/LedgerCmds.lean ====
section
/-! DEFINITION. The Ledger's commands (chapter 18): posting, flushes, freeze, the read windows and the clear. -/

namespace Sys2Proof.Machine

def State.modLedger (s : State) (f : Ledger → Ledger) : State := { s with ledger := f s.ledger }

/-- The EMCY that the chapter of a code states for its event (R23, R440): the codes whose EMCY depends on more than the code take
it from the payload (the ring's new state, the outcome of a row's repair). -/
def codeEmcy (code : Nat) (payload : List Byte) : Option EmcyUse :=
  match code with
  | 0x0101 => some ⟨0x3100, false⟩
  | 0x0103 => some ⟨0x5000, false⟩
  | 0x0104 => some ⟨0xFF01, false⟩
  | 0x0107 => some ⟨0x5000, false⟩
  | 0x0202 => some ⟨0x8130, false⟩
  | 0x0302 => some ⟨0xFF10, true⟩
  | 0x0501 => some ⟨0xFF20, true⟩
  | 0x0502 => some ⟨0, false⟩
  | 0x0504 => some ⟨0xFF21, false⟩
  | 0x0506 => some ⟨0xFF23, false⟩
  | 0x0507 => some ⟨0xFF22, false⟩
  | 0x0905 => some ⟨0x5000, false⟩
  | 0x0A01 => if payload.any fun b => decide (4 ≤ b.toNat) then some ⟨0xFF30, false⟩ else none
  | 0x0A02 => some ⟨0xFF31, false⟩
  | 0x0B01 => some ⟨0xFF41, false⟩
  | 0x0B02 => some ⟨0xFF42, false⟩
  | 0x0B03 => some ⟨0xFF40, false⟩
  | 0x0D02 => some ⟨0xFF50, false⟩
  | 0x0D03 => some ⟨0xFF52, true⟩
  | 0x0D04 => some ⟨0xFF51, false⟩
  | 0x0E01 => some ⟨0xFF60, true⟩
  | _ => none

/-- LEDGER_POST (R438, R23): a block posts a record of a defined code, with the EMCY that the code's chapter states. -/
def execLedgerPost (code source : Nat) (payload : List Byte) (s : State) : Res :=
  .next (if codeDefined code then s.post code source payload (codeEmcy code payload) else s)

/-- Whether a flush is due (R444): the threshold, or an unflushed record of severity ERROR or CRITICAL. -/
def State.flushDue (s : State) : Bool :=
  decide (s.reg (key 0x2200 4) ≤ s.ledger.unflushed)
    || s.ledger.sram.any fun r => decide (s.ledger.flushed < r.seq) && decide (3 ≤ r.severity)

def execLedgerFlush (s : State) : Res := .next (if s.flushDue then s.startFlush else s)

/-- FLUSH_INTERVAL_EXPIRY (R444). -/
def execFlushIntervalExpiry (s : State) : Res :=
  .next (if s.ledger.lastFlush + s.reg (key 0x2200 5) * 1000000 ≤ s.now then s.startFlush else s)

def State.flushNow (s : State) (v : Nat) : Applied := if v = 1 then .ok s.startFlush else .error 0x0609_0030

/-- LEDGER_FLUSH_DONE; `bad` says that the sector at the write point failed a program or an erase (R448). -/
def execLedgerFlushDone (bad : Bool) (s : State) : Res :=
  .next (if s.ledger.flushTo.isNone then s
  else
    let s := if bad then
        let n := s.ledger.norSector
        let m := s.ledger.nextGood n 256
        (s.modLedger fun l => { l with
          norSector := m, nor := (l.nor.modify m fun x => { x with frames := [] }).modify ((m + 1) % 256) fun x => { x with frames := [] } }).sectorFailed n
      else s
    s.flushDone)

/-- A write of FREEZE (R449). -/
def State.freezeWrite (s : State) (v : Nat) : Applied :=
  if 1 < v then .error 0x0609_0030
  else if v = s.reg (key 0x2200 9) then .ok s
  else if v = 1 then .ok ((s.note 0x0C03 0 (leBytes 1 1)).setReg (key 0x2200 9) 1)
  else .ok s.freezeRelease

/-! ### Read windows (R450) -/

def State.window (s : State) (d : Door) : LedgerWindow := s.ledger.windows.getD (doorPath d) ⟨0, 0, []⟩

/-- Load the window of a path from a cursor. -/
def State.loadWindow (s : State) (d : Door) (c : Nat) : State :=
  let w : LedgerWindow := match s.ledger.atOrAbove c with
    | some r => ⟨c, r.seq, r.bytes⟩
    | none => ⟨c, 0, []⟩
  s.modLedger fun l => { l with windows := l.windows.set (doorPath d) w }

/-- RECORD as it reads: 256 bytes. -/
def LedgerWindow.record (w : LedgerWindow) : List Byte := (w.bytes ++ List.replicate 256 0).take 256

def State.ledgerAdvance (s : State) (d : Door) (v : Nat) : Applied :=
  if v = 1 then .ok (s.loadWindow d (((s.window d).recSeq + 1) % 2 ^ 64)) else .error 0x0609_0030

/-! ### Clear (R451) -/

def State.ledgerClear (s : State) (d : Door) (v : Nat) : Applied :=
  if v ≠ 1 then .error 0x0609_0030
  else if !s.authorised then .error 0x0800_0031
  else if s.power.latched then .error 0x0800_0020
  else if s.reg (key 0x2200 9) = 1 ∨ ¬ s.ledger.clearing.isEmpty then .error 0x0800_0022
  else
    let floor := s.ledger.nextSeq
    let held := (List.range 256).filter fun n => match s.ledger.nor[n]? with | some x => !x.frames.isEmpty | none => false
    let s := (s.modLedger fun l => { l with
      floor := floor, clearing := held, clearTotal := held.length, sram := l.sram.filter fun r => floor ≤ r.seq
      flushed := floor - 1, flushTo := none, episode := none }).setReg (key 0x2200 0x0E) (if held.isEmpty then 100 else 0)
    let s := s.note 0x0C02 0 (leBytes 1 (doorPath d) ++ leBytes 8 floor)
    .ok (s.authAction d 0x2200 0x0D).ledgerView

/-- CLEAR_ERASE_STEP: the next sector is erased; what was stored since the clear stays. -/
def execClearEraseStep (s : State) : Res :=
  .next (match s.ledger.clearing with
  | [] => s
  | n :: rest =>
    let s := s.modLedger fun l => { l with
      clearing := rest
      nor := l.nor.modify n fun x => { x with frames := x.frames.filter fun f => l.floor ≤ f.recd.seq } }
    (s.setReg (key 0x2200 0x0E) (100 * (s.ledger.clearTotal - rest.length) / max 1 s.ledger.clearTotal)).ledgerView)

end Sys2Proof.Machine
end

