-- ==== Sys2Proof/Machine/SecurityCmds.lean ====
section
/-! DEFINITION. What the security objects do (chapter 17): life-cycle transitions, the customer key, quotes, authorisation,
debug unlock, the identity certificate, recovery, and the customer Lathe image (R243). -/

namespace Sys2Proof.Machine

/-! ### Life cycle (R420, R421, Table 17.3) -/

/-- Whether Table 17.3 lists a transition and its requirement is met. -/
def State.transitionMet (s : State) (dst : Nat) : Bool :=
  let a := s.authState
  let from_ := s.lc
  if from_ = lcProvisioned ∧ dst = lcField then a == 1 || !s.keyFused
  else if (from_ = lcProvisioned ∨ from_ = lcField) ∧ dst = lcReturn then a == 1 || (a == 2 && !s.keyFused)
  else if lcProvisioned ≤ from_ ∧ from_ ≤ lcReturn ∧ dst = lcScrapped then a == 1 || (a == 2 && (from_ == lcReturn || !s.keyFused))
  else false

def State.bumpEpoch (s : State) : State := s.setReg (key 0x5000 4) ((s.reg (key 0x5000 4) + 1) % 2 ^ 32)
def State.dropCustomer (s : State) : State := { s with stores := { s.stores with image := none, abiOk := true } }

/-- The effects of a transition, in the order the table lists them. -/
def transitionEffects (dst : Nat) : List (State → State) :=
  if dst = lcReturn then [State.dropCustomer, State.bumpEpoch]
  else if dst = lcScrapped then [fun s => s.modSec fun g => { g with seedGone := true }, State.bumpEpoch]
  else [id]

/-- Effects `a` to `b` are programmed. -/
def State.program (s : State) (dst a b : Nat) : State := (((transitionEffects dst).take b).drop a).foldl (fun s f => f s) s

/-- REQUEST of object 0x5001. -/
def State.lifeCycle (s : State) (d : Door) (v : Nat) (prog : ProgramEnd) : Applied :=
  let dst := v % 256
  let from_ := s.lc
  if v / 65536 ≠ 0x4C43 ∨ v / 256 % 256 ≠ 0 then .error 0x0609_0030
  else if s.power.latched ∨ (List.range s.part.stations).any (fun i => stSpinning ≤ s.stState i && s.stState i ≤ stActive)
      ∨ s.anyDirty ∨ s.enabledCtrls ≠ 0 then .error 0x0800_0022
  else if !s.transitionMet dst then .ok (s.endResult 0x5001 [(5, from_), (6, dst)] 0x0F5E_0005)
  else
    let s := if s.authState = 0 then s else s.authAction d 0x5001 1
    let done := ((s.sec.interrupted.find? fun p => p.1 == dst).map (·.2)).getD 0
    let keep := fun (n : Nat) (s : State) => s.modSec fun g => { g with
      interrupted := (dst, max done n) :: g.interrupted.filter fun p => p.1 != dst }
    match prog with
    | .failed n =>
      let s := keep n (s.program dst done n)
      let s := if dst = lcReturn ∧ done = 0 ∧ 0 < n then s.measure 6 s.stores.digest else s
      .ok (s.endResult 0x5001 [(5, from_), (6, dst)] 0x0F5E_0007)
    | .cut n =>
      let s := (s.program dst done n).setSecFlag 0 true
      .ok ((keep n s).powerFail .startUp psShutdown)
    | .done =>
      let s := (s.program dst done 2).setReg (key 0x5000 1) dst
      let s := (s.setSecFlag 0 false).modSec fun g => { g with interrupted := [] }
      let s := s.post 0x0B01 8 (leBytes 1 from_ ++ leBytes 1 dst) (some ⟨0xFF41, false⟩)
      let s := s.endResult 0x5001 [(5, from_), (6, dst)] 0
      .ok (s.resetAssert.resetRelease)

/-- REQUEST of object 0x5002 (R434). An interrupted transition to FIELD that has closed the key slot keeps it closed (R421). -/
def State.fuseKey (s : State) (v : Nat) (ok : Bool) : Applied :=
  if v ≠ 1 then .error 0x0609_0030
  else if s.lc ≠ lcProvisioned ∨ s.keyFused ∨ s.sec.interrupted.any (fun p => p.1 == lcField && 0 < p.2) then .error 0x0800_0022
  else if !ok then .ok (s.endResult 0x5002 [] 0x0F5E_0007)
  else .ok (((s.setRaw (key 0x5000 6) (s.raw (key 0x5002 5))).setSecFlag 2 true).endResult 0x5002 [] 0)

/-! ### Quotes (R431, R432) -/

/-- The bytes of a quote before its signature. -/
def State.quoteBody (s : State) (count : Nat) (nonce : List Byte) : List Byte :=
  let flags := (if s.sec.unlocked then 1 else 0) + (if s.authState = 0 then 0 else 2) + (if s.secFlag 0 then 4 else 0)
  leBytes 4 0x3151_5853 ++ leBytes 2 1 ++ leBytes 2 s.sec.log.length ++ leBytes 8 s.part.serial ++ leBytes 1 s.lc ++ leBytes 1 flags
    ++ leBytes 2 0 ++ leBytes 4 count ++ nonce ++ leBytes 8 (if s.timeValid then s.calendar else 0) ++ leBytes 8 0
    ++ hashBytes s.sec.aggregate ++ s.sec.logBytes ++ leBytes 1952 s.attestKey.toNat ++ leBytes 3309 s.statementSig.toNat

/-- The signer finishes a quote: QUOTE_COUNT, and the bytes. -/
def State.signQuote (s : State) (nonce : List Byte) : List Byte × State :=
  let (n, s) := s.fresh
  let c := s.sec.quotes + 1
  let b := s.quoteBody c nonce
  let sig := Config.sign s.attestSeed b n
  (b ++ leBytes 3309 sig.toNat, s.modSec fun g => { g with quotes := c })

/-- A request for a quote reaches the signer, and the security domain wakes. -/
def State.askQuote (s : State) (j : QuoteJob) : State := (s.modSec fun g => { g with signer := g.signer ++ [j] }).tempWake 94

/-- REQUEST of object 0x5011. -/
def State.quoteRequest (s : State) (v : Nat) : Applied :=
  if v ≠ 1 then .error 0x0609_0030
  else if !s.lcOwned then .error 0x0800_0022
  else if !s.identityValid then .ok (s.endResult 0x5011 [] 0x0F5E_0006)
  else .ok ((s.beginResult 0x5011).askQuote ⟨s.raw (key 0x5010 0), none⟩)

/-- QUOTE_SIGNED: the first request at the signer ends. -/
def execQuoteSigned (s : State) : Res :=
  .next (match s.sec.signer with
  | [] => s
  | j :: rest =>
    if s.domState 94 ≠ 3 then s
    else
      let s := s.modSec fun g => { g with signer := rest }
      let (b, s) := s.signQuote j.nonce
      match j.ask with
      | none => (s.setRaw (key 0x5011 6) b).endResult 0x5011 [(5, b.length)] 0
      | some q =>
        match s.ctx q with
        | some x => ((if x.dropped then s else s.emit (.bytes x.ctrl x.sq x.cid b)).complete q (cplOk b.length 0)).settle
        | none => s)

/-- ATTESTATION_QUOTE, vendor admin command 0xC4: one that cannot be served fails with 0xC2 and its code in DW0. -/
def execAttestationQuote (c cid : Nat) (nonce : List Byte) (s : State) : Res :=
  s.adminCmd c cid fun s x =>
    if !s.lcOwned || !s.identityValid then s.complete x.seq ⟨.code 1 0xC2, true, 0x0F5E_0006, 0⟩
    else (s.modCtx x.seq fun y => { y with op := .quote }).askQuote ⟨nonce, some x.seq⟩

/-! ### Authorisation (R433) -/

/-- The message that a response signs. -/
def State.authMessage (s : State) (challenge kind : Nat) : List Byte :=
  leBytes 4 0x5541_5853 ++ leBytes 8 s.part.serial ++ leBytes 32 (Config.freeValue challenge) ++ leBytes 4 (s.reg (key 0x5020 2))
    ++ leBytes 1 kind ++ leBytes 3 0

def responseKey (b : List Byte) : List Byte := b.take 1952
def responseSig (b : List Byte) : BitVec 26472 := BitVec.ofNat 26472 (leNat ((b.drop 1952).take 3309))
def keyBits (k : List Byte) : BitVec 15616 := BitVec.ofNat 15616 (leNat k)

/-- A response fails: AUTH_RESULT, AUTH_FAILURES, a new CHALLENGE; the fifth in succession locks responses out for 600 s. -/
def State.authFailed (s : State) (code : Nat) : State :=
  let s := ((s.bump (key 0x5020 7)).setReg (key 0x5020 8) code).drawChallenge
  let n := s.sec.failures + 1
  let s := s.modSec fun g => { g with failures := n }
  if n < 5 then s
  else
    (s.modSec fun g => { g with lockUntil := some (s.now + 600000000) }).post 0x0B02 8 (leBytes 4 (s.reg (key 0x5020 7)))
      (some ⟨0xFF42, false⟩)

/-- A write of RESPONSE. -/
def State.authResponse (s : State) (b : List Byte) : Applied :=
  let h := hashBytes (Config.hash (responseKey b))
  let kind := if s.keyFused ∧ h = s.raw (key 0x5000 6) then 1 else if h = hashBytes Config.returnHash then 2 else 0
  if !s.lcOwned || s.sec.lockUntil.isSome then .error 0x0800_0022
  else if kind = 2 ∧ s.lc ≠ lcReturn ∧ s.keyFused then .error 0x0800_0022
  else
    let s := s.tempWake 94
    if kind = 0 then .ok (s.authFailed 0x0F5E_0002)
    else if !Config.verifies (keyBits (responseKey b)) (s.authMessage s.sec.challenge kind) (responseSig b) then
      .ok (s.authFailed 0x0F5E_0001)
    else
      let s := (s.setRegs [(key 0x5020 4, kind), (key 0x5020 8, 0)]).setSecFlag 4 true
      .ok ((s.modSec fun g => { g with failures := 0, openUntil := some (s.now + s.reg (key 0x5020 2) * 1000000) }).drawChallenge)

/-- A write of CLOSE. -/
def State.authCloseWrite (s : State) (v : Nat) : Applied := if v ≠ 1 then .error 0x0609_0030 else .ok s.authClose

/-- AUTH_DURATION_EXPIRY. -/
def execAuthDurationExpiry (s : State) : Res := .next (if s.sec.openUntil.isSome then s.authClose else s)

/-- AUTH_LOCKOUT_EXPIRY. -/
def execAuthLockoutExpiry (s : State) : Res :=
  .next (if s.sec.lockUntil.isSome then s.modSec fun g => { g with lockUntil := none, failures := 0 } else s)

/-- REMAINING, in s. -/
def State.authRemaining (s : State) : Nat := match s.sec.openUntil with | some t => (t - s.now) / 1000000 | none => 0

/-- A write of DEBUG_RESPONSE (R435). In BLANK and VENDOR_TEST, where JTAG is open without it, it draws a new challenge and no
more (DESIGN CHOICE, log entry 127). -/
def State.debugResponse (s : State) (b : List Byte) : Applied :=
  if s.debugBarred then .error 0x0800_0022
  else if s.lc ≠ lcReturn then .ok s.drawDebugChallenge
  else
    let good := Config.hash (responseKey b) == Config.debugHash
      && Config.verifies (keyBits (responseKey b)) (s.authMessage s.sec.debugChallenge 3) (responseSig b)
    let s := s.drawDebugChallenge.tempWake 94
    if good then
      let s := (s.setSecFlag 3 true).modSec fun g => { g with unlocked := true }
      .ok ((s.measure 9 Config.unlockDigest).updDomain 95)
    else .ok s

/-! ### Identity certificate (R429) -/

/-- A write of ID_CERT. -/
def State.certWrite (s : State) (d : Door) (b : List Byte) : Applied :=
  let held := !(s.raw (key 0x5012 3)).isEmpty
  if held && !s.authorised then .error 0x0800_0031
  else if !s.lcOwned then .error 0x0800_0022
  else if certKey b ≠ some s.idPublicKey then .error 0x0604_0043
  else .ok ((if held then s.authAction d 0x5012 3 else s).setRaw (key 0x5012 3) b |>.tempWake 94)

/-! ### Recovery (R436) -/

/-- REQUEST of object 0x5031. -/
def State.recoveryInstall (s : State) (v : Nat) : Applied :=
  if v ≠ 1 then .error 0x0609_0030
  else if s.powerState ≠ psRecovery then .error 0x0602_0000
  else
    let s := s.tempWake 94
    let f := imageOf (s.raw (key 0x5030 0))
    let c := s.imageCode f
    if c ≠ 0 then .ok (s.endResult 0x5031 [] c)
    else
      let s := { s with nor := { s.nor with banks := [some f, some f], bankSelect := 0 } }
      .ok ((s.endResult 0x5031 [] 0).lowerRails .startUp)

/-! ### The customer Lathe image (R243) -/

/-- The fields of the image held in object 0x5402 (Table 9.8). -/
def customerFields (b : List Byte) : CustImage :=
  ⟨field b 4 4, field b 10 2, (List.range (field b 8 2)).map fun i => field b (64 + 4 * i) 4⟩

/-- The code of the first check that an install fails; 0 with none. -/
def State.customerCode (s : State) (b : List Byte) : Nat :=
  let n := field b 8 2
  let len := 64 + 4 * n + 5261
  let pk := bytesAt b (64 + 4 * n) 1952
  if !(field b 0 4 == 0x314D_434C && decide (1 ≤ n) && decide (n ≤ 2048) && b.length == len && allZero (bytesAt b 12 52)) then 0x0F59_0014
  else if !s.keyFused then 0x0F59_0010
  else if hashBytes (Config.hash pk) ≠ s.raw (key 0x5000 6) then 0x0F59_0011
  else if !Config.verifies (keyBits pk) (b.take (len - 3309)) (BitVec.ofNat 26472 (field b (len - 3309) 3309)) then 0x0F59_0012
  else if field b 4 4 < s.reg (key 0x5400 6) then 0x0F59_0013
  else 0

/-- The ABI the running vendor image declares. -/
def State.vendorAbi (s : State) : Nat := match s.sec.running with | some f => f.abi | none => 1

/-- REQUEST of object 0x5401. -/
def State.customerRequest (s : State) (d : Door) (v : Nat) : Applied :=
  let still := (List.range s.part.stations).all fun i =>
    let st := s.stState i
    (st ≤ stClamped || st == stFault) && !s.busy (stIx i 1)
  if v ≠ 1 ∧ v ≠ 2 then .error 0x0609_0030
  else if v = 2 ∧ ¬ s.authorised then .error 0x0800_0031
  else if v = 1 ∧ s.lc ≠ lcProvisioned ∧ s.lc ≠ lcField then .error 0x0800_0022
  else if !still then .error 0x0800_0022
  else if v = 1 then
    let s := s.tempWake 94
    let b := s.raw (key 0x5402 0)
    let c := s.customerCode b
    if c ≠ 0 then .ok (s.endResult 0x5401 [] c)
    else
      let m := customerFields b
      let s := { s with stores := { s.stores with image := some m, abiOk := m.abi == s.vendorAbi } }
      let s := s.setReg (key 0x5400 6) (max (s.reg (key 0x5400 6)) m.version)
      .ok ((s.measure 6 s.stores.digest).endResult 0x5401 [(5, m.version), (6, m.words.length)] 0)
  else
    let s := (s.authAction d 0x5401 1).dropCustomer
    .ok ((s.measure 6 s.stores.digest).endResult 0x5401 [(5, 0), (6, 0)] 0)

end Sys2Proof.Machine
end

