-- ==== Sys2Proof/Machine/SpreadCmds.lean ====
section
/-! DEFINITION. Spread volumes (R409 to R416): their definition, rows encoded and sent, what members answer, degraded reads and
rebuilds on the master, and the member's own side of each operation. -/

namespace Sys2Proof.Machine

/-! ### Views and tables -/

/-- VOLUMES and ROWS_OWED. -/
def State.volumeView (s : State) : State :=
  s.setRegs [(key 0x4A00 1, s.spread.volumes.length),
    (key 0x4A00 5, (s.spread.volumes.map fun v => (v.cols.map fun c => c.owed.length).sum).sum)]

/-- STATE of a column (Table 16.8). -/
def State.colState (s : State) (c : Column) : Nat :=
  if !s.colUp c then 3 else if c.owed.isEmpty then 1 else if c.rebuilding then 4 else 2

/-- A volume's record of 488 bytes. -/
def State.volumeBytes (s : State) (v : Volume) : List Byte :=
  let head := leBytes 1 v.v ++ leBytes 1 v.k ++ leBytes 1 v.m ++ leBytes 1 v.lbaf ++ leBytes 2 v.zones ++ leBytes 2 0
  let cols := v.cols.flatMap fun c =>
    leBytes 8 c.serial ++ leBytes 2 c.nsid ++ leBytes 2 0 ++ leBytes 4 c.first ++ leBytes 1 (s.colState c) ++ leBytes 3 0
      ++ leBytes 4 c.owed.length
  (head ++ cols ++ List.replicate 480 0).take 488

/-- VOLUME_TABLE, object 0x4A10. -/
def State.volumeTableBytes (s : State) : List Byte :=
  (List.range 256).flatMap fun v => match s.volume v with | some x => s.volumeBytes x | none => List.replicate 488 0

/-- The definition written to object 0x4A02. -/
def volumeOf (b : List Byte) : Volume :=
  let k := field b 1 1
  let m := field b 2 1
  { v := field b 0 1, k := k, m := m, lbaf := field b 3 1, zones := field b 4 2, rows := []
    cols := (List.range (min 20 (k + m))).map fun i =>
      ⟨field b (8 + 24 * i) 8, field b (16 + 24 * i) 2, field b (20 + 24 * i) 4, true, [], false⟩ }

/-! ### Create, delete, replace (R409, R415) -/

/-- The column of this device stands on an attached DAF zoned namespace in LBA format 1, its zones EMPTY. -/
def State.zonesEmpty (s : State) (c : Column) (zones : Nat) : Bool :=
  match s.ns c.nsid with
  | some n => n.zoned && n.daf && n.lbaf == 1 && c.first + zones ≤ n.zoneCount
      && (List.range zones).all fun z => (n.zone (c.first + z)).state == 0
  | none => false

/-- Two runs of zones of one namespace meet. -/
def runsMeet (a b : Column) (na nb : Nat) : Bool :=
  a.serial == b.serial && a.nsid == b.nsid && a.first < b.first + nb && b.first < a.first + na

def State.zonesClaimed (s : State) (c : Column) (zones : Nat) : Bool :=
  s.spread.volumes.any fun v => v.cols.any fun d => runsMeet c d zones v.zones

def distinct : List Nat → Bool
  | [] => true
  | a :: r => !r.contains a && distinct r

/-- The code a create fails with; 0 where it is accepted. `far` marks columns on other devices that fail their check. -/
def State.createCode (s : State) (v : Volume) (far : Nat) : Nat :=
  let own := fun (c : Column) => c.serial == s.serial
  if !(1 ≤ v.k && v.k ≤ 16 && 1 ≤ v.m && v.m ≤ 4 && 1 ≤ v.zones && v.lbaf < 2) then 0x0F5D_0002
  else if !distinct (v.cols.map (·.serial)) then 0x0F5D_0001
  else if !v.cols.all (fun c => s.fabric.roster.any fun e => e.serial == c.serial) then 0x0F5D_0004
  else if (List.range v.cols.length).any (fun i => match v.cols[i]? with
      | some c => if own c then !s.zonesEmpty c v.zones else bitOf far i
      | none => false) then 0x0F5D_0003
  else if v.cols.any (fun c => s.zonesClaimed c v.zones) then 0x0F5D_0005
  else 0

/-- REQUEST of object 0x4A01. -/
def State.volumeRequest (s : State) (v far : Nat) : Applied :=
  let act := v % 256
  let n := v / 256 % 256
  let i := v / 65536 % 256
  let data := [(5, n)]
  if act = 0 ∨ 3 < act then .error 0x0609_0030
  else if !s.isMaster then .error 0x0800_0022
  else if act = 1 then
    if (s.volume n).isSome then .error 0x0800_0022
    else
      let d := { volumeOf (s.raw (key 0x4A02 0)) with v := n }
      let c := s.createCode d far
      if c ≠ 0 then .ok (s.endResult 0x4A01 data c)
      else
        let s := s.modSpread fun p => { p with volumes := p.volumes ++ [d] }
        .ok (((s.volumeView.sendVolumes).spreadFollow).endResult 0x4A01 data 0)
  else if act = 2 then
    if (s.volume n).isNone ∨ s.spread.staged.any (fun l => l.nsid == 256 + n) then .error 0x0800_0022
    else
      let s := s.modSpread fun p => { p with volumes := p.volumes.filter fun x => x.v != n }
      .ok (((s.volumeView.sendVolumes).detachNs (256 + n)).endResult 0x4A01 data 0)
  else if act = 3 then
    match s.volume n with
    | none => .error 0x0800_0022
    | some x =>
      match x.cols[i]? with
      | none => .ok (s.endResult 0x4A01 data 0x0F5D_0002)
      | some old =>
        let d := volumeOf (s.raw (key 0x4A02 0))
        match d.cols[i]? with
        | none => .ok (s.endResult 0x4A01 data 0x0F5D_0002)
        | some c =>
          let rest := (x.cols.eraseIdx i).map (·.serial)
          let code :=
            if s.colUp old then 0x0F5D_0006
            else if rest.contains c.serial then 0x0F5D_0001
            else if !s.fabric.roster.any (fun e => e.serial == c.serial) then 0x0F5D_0004
            else if (if c.serial = s.serial then !s.zonesEmpty c x.zones else far != 0) then 0x0F5D_0003
            else if s.zonesClaimed c x.zones then 0x0F5D_0005
            else 0
          if code ≠ 0 then .ok (s.endResult 0x4A01 data code)
          else
            let owed := (List.range x.zones).flatMap fun z => (List.range (x.zoneRows z)).map (4000 * z + ·)
            let s := s.modVolume n fun v => v.modCol i fun _ => { c with owed := owed, rebuilding := true }
            .ok ((s.volumeView.sendVolumes).endResult 0x4A01 data 0)
  else .error 0x0609_0030

/-! ### Rows (R411 to R413) -/

/-- Whether an erasure-coding engine is in service (R470). -/
def State.ecUp (s : State) : Bool :=
  s.part.q && !(s.bist.out.contains 136 && s.bist.out.contains 137)

/-- Whether a flush covers a zone of a volume. -/
def State.flushWaits (s : State) (v : Volume) (z : Nat) : Bool :=
  s.nvme.ctxs.any fun x => match x.op with
    | .flush c _ _ => c.covers (256 + v.v) (65536 * z)
        || (match c with | .clusters n a _ => n == 256 + v.v && a / 65536 == z | _ => false)
    | .shutdown ns _ => ns.contains (256 + v.v)
    | _ => false

/-- ROW_ENCODE (R412): the next row of its zone, complete, is encoded and sent; columns that cannot be reached are owed. -/
def execRowEncode (v row : Nat) (s : State) : Res :=
  .next (match (if s.isMaster && s.ecUp then s.volume v else none) with
  | none => s
  | some x =>
    let z := row / 4000
    match (if row % 4000 = x.zoneRows z then s.rowData x row else none) with
    | none => s
    | some lines =>
      let up := s.upCols x
      let sent := (List.range x.n).filter up.contains
      let owed := (List.range x.n).filter fun i => !up.contains i
      let s := s.forEach sent fun s i => s.sendRow x row i (memberBlocks x lines (x.slotOf row i) (x.memberLba row i))
      let s := s.modVolume v fun y => { y with
        rows := putKey z (row % 4000 + 1) 0 y.rows
        cols := (List.range y.cols.length).zip y.cols |>.map fun p => if owed.contains p.1 then { p.2 with owed := p.2.owed ++ [row] } else p.2 }
      let s := s.modSpread fun p => { p with rows := p.rows ++ [⟨v, row, sent, [], [], owed⟩] }
      let s := (s.addReg 64 (key 0x4A00 2) (65536 * x.k)).volumeView
      match s.volume v with
      | some y => if s.flushWaits y z then s.memberFlush y z else s
      | none => s)

/-- A row whose columns have all answered: with k of them on the medium its staged data goes; else its flush fails (R413). -/
def State.rowSettle (s : State) (x : Volume) (r : SpreadRow) : State :=
  if !r.sent.isEmpty || !r.wrote.isEmpty then s
  else
    let cls := (List.range x.k).map (x.clusterOf r.row)
    if x.k ≤ r.done.length then
      let s := s.forEach cls fun s cl => s.dropLine (256 + x.v) cl
      s.modSpread fun p => { p with rows := p.rows.filter fun q => !(q.v == r.v && q.row == r.row) }
    else s.forEach cls fun s cl => s.failFlushes (256 + x.v) cl

/-- A column's write or flush of a row failed: the row is owed to it. -/
def State.owe (s : State) (v row col : Nat) : State :=
  s.modVolume v fun x => x.modCol col fun c => { c with owed := if c.owed.contains row then c.owed else c.owed ++ [row], up := false }

/-- MEMBER_ACK (R413): of a write, where `n` is the row, or of a flush, where `n` is the zone. -/
def State.memberAck (s : State) (v col : Nat) (flush : Bool) (n : Nat) (ok : Bool) : State :=
  match s.volume v with
  | none => s
  | some x =>
    let mine := s.spread.rows.filter fun r => r.v == v && (if flush then r.row / 4000 == n && r.wrote.contains col else r.row == n && r.sent.contains col)
    let move := fun (r : SpreadRow) =>
      let r := { r with sent := if flush then r.sent else r.sent.filter (· != col), wrote := if flush then r.wrote.filter (· != col) else r.wrote }
      if !ok then { r with owed := r.owed ++ [col] }
      else if flush then { r with done := r.done ++ [col] } else { r with wrote := r.wrote ++ [col] }
    let s := s.modSpread fun p => { p with
      rows := p.rows.map fun r => if mine.contains r then move r else r
      flushing := if flush then p.flushing.filter (· != (v, n)) else p.flushing }
    let s := if ok then s
      else if mine.isEmpty then (if flush then s else s.owe v n col)
      else s.forEach mine fun s r => s.owe v r.row col
    let s := s.forEach mine fun s r => s.rowSettle x (move r)
    let s := s.volumeView.settle
    if !flush && s.flushWaits x (n / 4000) then s.memberFlush x (n / 4000) else s

def execMemberAck (p : Nat) (hd : FrameHead) (crc : Bool) (v col : Nat) (flush : Bool) (n : Nat) (ok : Bool) (s : State) : Res :=
  .next (s.frameIn p 0x13 hd crc [v, col, if flush then 1 else 0, n, if ok then 1 else 0] [] fun s => s.memberAck v col flush n ok)

/-! ### Reads on the master (R414) -/

/-- Give a cluster of the spread namespace to the reads that wait for it. -/
def State.giveCluster (s : State) (x : Volume) (row d : Nat) (blocks : List Block) : State :=
  let cl := x.clusterOf row d
  s.forEach (List.range 16) fun s b =>
    let y := blocks.getD b ⟨0, 0⟩
    s.sendBlock (256 + x.v) (16 * cl + b) (if x.lbaf = 0 then ⟨y.data, 0⟩ else Sys2Proof.Machine.blockRef y (16 * cl + b))

/-- A row being read goes on with what has come. -/
def State.serveRow (s : State) (x : Volume) (g : SpreadGet) : State :=
  let rest := s.spread.gets.filter fun y => !(y.v == g.v && y.row == g.row)
  if g.degraded then
    if g.got.length < x.k then s.askRow x g
    else
      let parts := g.got.map fun p => (x.slotOf g.row p.1, p.2.map (·.data))
      match decodeRow x.k x.m parts with
      | none => s.askRow x g
      | some ds =>
        let s := s.modSpread fun p => { p with gets := rest }
        s.forEach g.want fun s d =>
          match g.got.find? (fun p => x.slotOf g.row p.1 == d) with
          | some p => s.giveCluster x g.row d p.2
          | none =>
            let blocks := (ds.getD d []).map fun y => retag true ⟨y, 0⟩ 0
            (s.bump (key 0x4A00 3)).giveCluster x g.row d blocks
  else
    let have_ := fun d => g.got.any fun p => x.slotOf g.row p.1 == d
    let s := s.forEach (g.want.filter have_) fun s d =>
      match g.got.find? (fun p => x.slotOf g.row p.1 == d) with
      | some p => s.giveCluster x g.row d p.2
      | none => s
    let left := g.want.filter fun d => !have_ d
    if left.isEmpty then s.modSpread fun p => { p with gets := rest } else s.askRow x { g with want := left }

/-- MEMBER_DATA (R414): a column's cluster of a row, or its failure. -/
def State.memberData (s : State) (v row col : Nat) (ok : Bool) (blocks : List Block) : State :=
  match s.volume v, s.spread.gets.find? (fun (g : SpreadGet) => g.v == v && g.row == row && g.asked.contains col) with
  | some x, some g =>
    let g := if ok && blocks.length == 16 then { g with got := g.got ++ [(col, blocks)] } else { g with failed := g.failed ++ [col] }
    (s.serveRow x g).settle
  | _, _ => s

def execMemberData (p : Nat) (hd : FrameHead) (crc : Bool) (v row col : Nat) (ok : Bool) (blocks : List Block) (s : State) : Res :=
  .next (s.frameIn p 0x11 hd crc [v, row, col, if ok then 1 else 0] blocks fun s => s.memberData v row col ok blocks)

/-! ### Rebuild (R413) -/

/-- A complete row waits to be encoded: the engines take encodes before rebuilds (R25, Table 1.6). -/
def State.encodeWaits (s : State) : Bool :=
  s.spread.volumes.any fun v => (List.range v.zones).any fun z =>
    decide (v.zoneRows z < 4000) && s.spread.staged.any (fun l => l.nsid == 256 + v.v && l.cluster / 65536 == z)
      && (s.rowData v (4000 * z + v.zoneRows z)).isSome

/-- ROW_REBUILD: the first row owed to a column whose device is in the roster again, from its staged clusters or from k other
columns. -/
def execRowRebuild (v col : Nat) (parts : List MemberPart) (s : State) : Res :=
  .next (match (if s.isMaster && s.ecUp && !s.encodeWaits then s.volume v else none) with
  | none => s
  | some x =>
    match x.cols[col]? with
    | none => s
    | some c =>
      match c.owed with
      | [] => s
      | row :: left =>
        let s0 := s.modVolume v fun y => y.modCol col fun c => { c with up := true }
        if !s0.colUp { c with up := true } then s
        else
          let slot := x.slotOf row col
          let lba := x.memberLba row col
          let others := (parts.filter fun p => p.col != col && p.col < x.n).map fun p => (x.slotOf row p.col, p.blocks.map (·.data))
          let blocks : Option (List Block) := match s.rowData x row with
            | some lines => some (memberBlocks x lines slot lba)
            | none =>
              if others.length < x.k then none
              else (decodeRow x.k x.m others).map fun ds =>
                let d := clustSum (codeRow x.k x.m slot) ds
                (List.range 16).map fun b => retag true ⟨d.getD b 0, 0⟩ (lba + b)
          match blocks with
          | none => s
          | some bs =>
            let s := (s0.modVolume v fun y => y.modCol col fun c => { c with owed := left, rebuilding := !left.isEmpty }).modSpread fun p =>
              { p with rows := p.rows.map fun r => if r.v = v ∧ r.row = row then
                  { r with owed := r.owed.filter (· != col), sent := r.sent ++ [col] } else r }
            (s.sendRow x row col bs).volumeView)

/-! ### The member's side (R412, R414) -/

/-- A member operation becomes a command of the ring. -/
def State.memberCtx (s : State) (p tag : Nat) : Nat × State :=
  let q := s.nvme.seq
  (q, s.modNvme fun n => { n with seq := q + 1, ctxs := n.ctxs ++ [⟨q, ringCtrl, p, tag, .fetched, false⟩] })

/-- The local namespace of a column of this device, as its copy of the volume table has it (R409, R416). -/
def State.ownColumn (s : State) (v col : Nat) : Option Nat :=
  match s.volume v with
  | some x => match x.cols[col]? with | some c => if c.serial = s.serial then some c.nsid else none | none => none
  | none => none

/-- A member operation on a column of this device runs as a command of the ring; `f` gets its context and its namespace. -/
def State.memberOp (s : State) (p tag v col : Nat) (f : State → Nat → Nat → State) : State :=
  if !s.ringRuns then s
  else
    match s.ownColumn v col with
    | none => s
    | some nsid =>
      let c := s.memberCtx p tag
      (f c.2 c.1 nsid).settle

/-- MEMBER_READ: blocks of a column of this device. -/
def execMemberRead (p : Nat) (hd : FrameHead) (crc : Bool) (v col lba n : Nat) (s : State) : Res :=
  .next (s.frameIn p 0x10 hd crc [v, col, lba, n] [] fun s =>
    s.memberOp p hd.tag v col fun s q nsid => s.doRead q nsid lba n piPlain)

/-- MEMBER_WRITE: a cluster at the member zone's write pointer. -/
def execMemberWrite (p : Nat) (hd : FrameHead) (crc : Bool) (v col lba : Nat) (data : List Block) (s : State) : Res :=
  .next (s.frameIn p 0x12 hd crc [v, col, lba] data fun s =>
    s.memberOp p hd.tag v col fun s q nsid => s.doWrite q nsid lba data false false piPlain)

/-- MEMBER_FLUSH: one zone of a column of this device. -/
def execMemberFlush (p : Nat) (hd : FrameHead) (crc : Bool) (v col zone : Nat) (s : State) : Res :=
  .next (s.frameIn p 0x14 hd crc [v, col, zone] [] fun s =>
    s.memberOp p hd.tag v col fun s q nsid =>
      if (s.nsIo nsid).isNone then s.complete q cplInvalidNs
      else if !s.mediaReady nsid then s.complete q cplNotReady
      else (s.modCtx q fun x => { x with op := .flush (.zone nsid zone) q 0 }).serveFlush q)

/-- VOLUME_TABLE on a member: the definitions are stored in NOR. -/
def execVolumeTable (p : Nat) (hd : FrameHead) (crc : Bool) (vols : List Volume) (s : State) : Res :=
  .next (s.frameIn p 0x15 hd crc (vols.flatMap fun v => [v.v, v.k, v.m, v.lbaf, v.zones] ++ v.cols.flatMap fun c =>
      [c.serial, c.nsid, c.first, c.owed.length]) [] fun s =>
    if s.ringRuns ∧ ¬ s.atZero then (s.modSpread fun p => { p with volumes := vols }).volumeView else s)

end Sys2Proof.Machine
end

