-- ==== Sys2Proof/Machine/WiringCmds.lean ====
section
/-! DEFINITION. The commands of the wiring test, of the arbiter's grants and of the event overrides (R462, R479 to R486). -/

namespace Sys2Proof.Machine

/-! ### The test starts (R479) -/

/-- The parts of a scope, as bits: 0 station, 1 head U, 2 head L. -/
def scopeParts (scope : Nat) : Nat := if scope = 1 then 1 else if scope = 2 then 2 else if scope = 3 then 4 else 7
/-- The holder of a part's token: 16 + s for the station part, h for a head part. -/
def partHolder (i p : Nat) : Nat := if p = 0 then 16 + i else 2 * i + (p - 1)
def partToken (i p : Nat) : Nat := if p = 0 then tokStation i else tokAfe (2 * i + (p - 1))

/-- The order WIRING_TEST of the station processor begins: each part asks for its token, a head part's domain wakes. -/
def State.wiringStart (s : State) (i scope : Nat) : State :=
  let demand : Bool := match (s.stn i).cmd with | some c => c.steps.head? != some .wiringTest | none => true
  let s := if s.busy (stIx i 0xE2) then s else s.beginResult (stIx i 0xE2)
  let s := (s.modSq (16 + i) fun q => { q with started := 1 }).modStn i fun t => { t with
    wiring := some ⟨scope, scopeParts scope, 0, 0, 0, s.now, demand, 0, t.psen⟩, psen := t.psen || bitOf (scopeParts scope) 0 }
  s.forEach (bitsIn 3 (scopeParts scope)) fun s p =>
    (s.askTokens (.wiring (partHolder i p)) [partToken i p]).when (p != 0) fun s => s.tempWake (6 * i + p)

/-- WIRING_TEST (R479, R480): the running order; a direct one ends REJECTED, reason 1. -/
def execWiringTest (st : Nat) (s : State) : Res :=
  .next (s.forEach [2 * st, 2 * st + 1, 16 + st] fun s e =>
    let q := s.sq e
    if s.runs e 0x18 ∧ q.started = 0 then
      (match q.running with
       | some o =>
         if o.origin = .direct ∨ e < 16 then s.orderRejected e 1
         else if (s.stn st).wiring.isNone then s.wiringStart st q.param else s
       | none => s)
    else s)

/-- A write of REQUEST of object 0x3sE2 (Table 5.5, R463, R484). -/
def State.wiringRequest (s : State) (i v : Nat) : Applied :=
  let scope := v % 256
  let st := s.stState i
  if scope = 0 ∨ 4 < scope then .error 0x0609_0030
  else if ¬ (st = stEmpty ∨ st = stClamped ∨ (st = stFault ∧ s.below30 i)) ∨ (s.stn i).wiring.isSome
      ∨ s.hasOrder (16 + i) 0x18 then .error 0x0800_0022
  else if bitOf v 16 ∧ ¬ s.tokensFree ((bitsIn 3 (scopeParts scope)).map (partToken i)) then .error 0x0800_0021
  else .ok ((s.beginResult (stIx i 0xE2)).issueStation i 0x18 scope)

/-! ### A part ends (R483) -/

/-- Step H4 (R137, R162): the pickup's identity is valid and its link up, and the head's loops take the vendor sets of the
actuator class that the identity declares; or it is not. -/
def State.pickupRead (s : State) (h : Nat) (ok : Bool) : State :=
  let s := s.modHd h fun d => { d with pklUp := ok, identity := ok, lost := d.lost && !ok }
  if ok then
    let (n, s) := s.fresh
    let (k, s) := s.fresh
    let s := s.modHd h fun d => { d with laneDelay := Config.freeValue k }
    s.forEach (List.range 5) fun s g => s.loadVendor h g (Config.freeValue n)
  else s

/-- One connection's result: its status, its effect and its reports, a clear included; a coil's resistance, and POLARITY_FOUND cleared
where its axis is right. The counts go to the test. A measurement that is not of the connection's step tests nothing. -/
def State.wireResult (s : State) (i h n : Nat) (m : WireMeas) : State :=
  if !wireFits n m then s.setReg (connKey i h n) 10
  else
  let j := s.wireJudge i n m
  let old := s.reg (connKey i h n)
  let s := s.setReg (connKey i h n) j.1
  let s := match m with
    | .coil _ _ =>
      let s := if j.1 = 0 ∨ j.1 = 5 ∨ j.1 = 6 then s.setReg (figKey h (0x24 + n)) (min j.2 65535) else s
      if j.1 = 0 ∨ j.1 = 6 then s.setRegBit (hdKey h 0x0F 2) n false else s
    | _ => s
  let bad := isFaultKind j.1
  let s : State := if n = 27 then s.pickupRead h (!bad) else s
  let s := s.modStn i fun t => { t with wiring := t.wiring.map fun w => { w with
    tested := w.tested + 1, faults := w.faults + (if bad then 1 else 0)
    first := if bad ∧ w.first = 0 then connCode i h n j.1 else w.first
    stop := if bad ∧ stationStops n ∧ w.stop = 0 then connCode i h n j.1 else w.stop } }
  if bad then (s.wireEffect i h n j.1).wireReport i h n j.1 j.2
  else if isFaultKind old then s.note 0x0E03 (if n < 32 then 0x40 + h else 0x20 + i) (leBytes 4 (connCode i h n old))
  else s

/-- Every connection that a head depends on has been tested. -/
def State.headTested (s : State) (h : Nat) : Bool :=
  (s.partConns (1 + h % 2) ++ (if h % 2 = 0 then [43, 44, 45] else [46, 47, 48])).all fun n => s.reg (connKey (h / 2) h n) != 10

/-- HEAD_FAULT and WIRING_FAULT follow the statuses of a head's connections and its sled's (R483): the HEAD_FAULT that a wiring fault
caused ends with a test that passes; a WD fault makes its side read-only. -/
def State.wiringHead (s : State) (h : Nat) : State :=
  let i := h / 2
  let k := stKey i (0xE3 + h % 2) 0x1D
  let any := s.sledFault h || (List.range 28).any fun n => s.connFault i h n
  let had := s.reg k == 1
  let ended := !any && s.headTested h
  let s := if any then s.setReg k 1 else if ended then s.setReg k 0 else s
  let s := if s.wiringHolds h then
      (if s.headFault h then s else ((s.headDrop h).setRegBit (hdStKey h) 7 true).modHd h fun d => { d with wired := true })
    else if (s.hd h).wired ∧ s.headTested h then (s.setRegBit (hdStKey h) 7 false).modHd h fun d => { d with wired := false }
    else s
  let s := if had ∧ ended then s.raiseEmcy 0 (0x40 + h) 0x0E03 0 true else s
  if s.wdFault h then s.wdReadOnly h else s

/-- Both sleds have a fault: the station stops. -/
def State.sledsStop (s : State) (i : Nat) : State :=
  if s.sledFault (2 * i) && s.sledFault (2 * i + 1) then
    let n := ([43, 44, 45, 46, 47, 48].find? fun n => s.connFault i 0 n).getD 43
    s.modStn i fun t => { t with wiring := t.wiring.map fun w => { w with
      stop := if w.stop = 0 then connCode i 0 n (s.reg (connKey i 0 n)) else w.stop } }
  else s

/-- WIRING_TEST_END: part `part` (0 station, 1 head U, 2 head L) ends with what its steps measured, in the order of Table
20.3; with the last part the test ends. -/
def execWiringTestEnd (st part : Nat) (meas : List WireMeas) (s : State) : Res :=
  .next (match (s.stn st).wiring with
    | none => s
    | some w =>
      let e := partHolder st part
      if ¬ bitOf w.parts part ∨ ¬ s.holdsTokens (.wiring e) ∨ (part ≠ 0 ∧ s.domState (6 * st + part) ≠ 3) ∨ s.powerState ≠ psRun then s
      else
        let h := if part = 2 then 2 * st + 1 else 2 * st
        let base := if part = 0 then 32 else 0
        let s := s.forEach (s.partConns part) fun s n =>
          match meas[n - base]? with
          | some m => s.wireResult st h n m
          | none => s.setReg (connKey st h n) 10
        let s := (s.sledsStop st).dropTokens (.wiring e)
        let s := if part = 0 then s else s.endTempWake (6 * st + part)
        let s := s.modStn st fun t => { t with wiring := t.wiring.map fun w => { w with parts := clrBit w.parts part } }
        let s := s.forEach (if part = 0 then [2 * st, 2 * st + 1] else [h]) State.wiringHead
        match (s.stn st).wiring with
        | some w => if w.parts = 0 then s.wiringOver st 0 else s
        | none => s)

/-- SENSE_CHECK (R483): a class A input of the station tile is found with a fault it did not have; the reaction applies at
once. -/
def execSenseCheck (st n : Nat) (src snk afe : Int) (s : State) : Res :=
  let kind := biasKind src snk afe
  let v := ofSigned 32 src
  .next (if s.stState st = stOff ∨ ¬ [35, 36, 37, 38, 45, 48, 51, 52, 53, 54].contains n ∨ ¬ isFaultKind kind
      ∨ s.reg (connKey st 0 n) = kind then s
    else
      let s := ((s.setReg (connKey st 0 n) kind).wireEffect st 0 n kind).wireReport st 0 n kind v
      let s := s.forEach [2 * st, 2 * st + 1] State.wiringHead
      if stationStops n ∨ (s.sledFault (2 * st) && s.sledFault (2 * st + 1)) then s.stnFault st 2 (connCode st 0 n kind) else s)

/-! ### Grants (R462) -/

/-- TOKEN_GRANT: the first waiting request that can have its tokens has them, and its activity goes on. -/
def execTokenGrant (s : State) : Res :=
  .next (match s.nextGrant with
    | none => s
    | some r =>
      let s := s.grantReq r
      match r.act with
      | .bist k i => s.bistGo k i
      | .cal _ _ => s
      | .wiring _ => s)

/-! ### Event overrides (R486) -/

/-- A write of an OVERRIDE entry. -/
def State.overrideWrite (s : State) (sub v : Nat) : Applied :=
  let v := v / 65536 * 65536 + v % 8
  let code := v / 65536
  let use := bitOf v 2
  if use ∧ ¬ codeDefined code then .error 0x0609_0030
  else if use ∧ s.overrides.any (fun p => p.1 != sub && p.2 / 65536 == code) then .error 0x0604_0043
  else if use ∧ ¬ bitOf v 0 ∧ (3 ≤ severityOf code ∨ code = 0x0204 ∨ code = 0x0C01 ∨ code = 0x0C02 ∨ code / 256 = 0x0B) then
    .error 0x0604_0043
  else
    let old := s.reg (key 0x5801 sub)
    let s := s.setReg (key 0x5801 sub) v
    let s := s.setReg (key 0x5800 1) s.overrides.length
    .ok (if old = v then s else s.note 0x0E05 0 (leBytes 1 sub ++ leBytes 4 v))

end Sys2Proof.Machine
end

