-- ==== Sys2Proof/Machine/Dict.lean ====
section
/-! DEFINITION. Existence, owners and reads of the object dictionary (R4, R13, R16, R30 to R32, R37, R65, R91, R93, R422,
R507): what a read of an object answers through each door. -/

namespace Sys2Proof.Machine

/-! ### Existence (step 1 of Table 2.14) -/

/-- Objects that exist in RECOVERY (R93) and in SCRAPPED (R422). -/
def recoveryObjects : List Nat := [0x1000, 0x1001, 0x1017, 0x1018, 0x2000, 0x2010, 0x2100, 0x5030, 0x5031]
def scrappedObjects : List Nat := [0x1000, 0x1001, 0x1017, 0x1018, 0x2000, 0x2010, 0x5000]

/-- The line of an object, or the abort of one that does not exist (R30). The recovery objects exist in RECOVERY only. -/
def State.lookup (s : State) (i sub : Nat) : Except Nat Obj :=
  if s.lc = lcScrapped ∧ ¬ scrappedObjects.contains i then .error 0x0602_0000
  else if s.powerState = psRecovery ∧ ¬ recoveryObjects.contains i then .error 0x0602_0000
  else if (i = 0x5030 ∨ i = 0x5031) ∧ s.powerState ≠ psRecovery then .error 0x0602_0000
  else
    match findObj i sub with
    | some o => .ok o
    | none => .error (if indexDefined i then 0x0609_0011 else 0x0602_0000)

/-! ### Owners (R13, R16) -/

/-- The stations whose processors own an object outside the station blocks (Table 2.1: 0x2400 belongs to the station
processors, 0x2500 to them and Reeve 0), `v` being the value written: the settings of the calibration belong to every station
present, a REQUEST to the station of what it names, a unit's figures to its own (R13). -/
def otherOwners (p : Part) (i v : Nat) : List Nat :=
  if i = 0x2400 ∨ i = 0x2440 then List.range p.stations
  else if 0x2410 ≤ i ∧ i < 0x2440 then (otherStation i 0).toList
  else if i = 0x2441 then [if v % 256 = 3 then bitsOf v 15 8 else bitsOf v 15 8 / 2]
  else if i = 0x2501 ∧ classA (v % 256) then [partStation (v % 256) (bitsOf v 15 8)]
  else []

/-- The switched domains that the processors of an object's owners run in; none: Watchman, who runs always. The polarity override
wakes its head's AFE domain as well (R163). -/
def ownerDomains (p : Part) (i v : Nat) : List Nat :=
  let others := (otherOwners p i v).filter (· < p.stations)
  if inBlock i ∧ (ixOff i = 0x4F ∨ ixOff i = 0x8F) then [6 * ixStation i, 6 * ixStation i + (if ixOff i = 0x4F then 1 else 2)]
  else if inBlock i then [6 * ixStation i]
  else if !others.isEmpty then others.map (6 * ·)
  else if 0x2500 ≤ i ∧ i < 0x2600 then [88]
  else if 0x4000 ≤ i ∧ i < 0x4800 then [88]
  else if 0x4800 ≤ i ∧ i < 0x5000 then [91]
  else []

/-- Every owner of an object runs. -/
def State.ownerOn (s : State) (i v : Nat) : Bool := (ownerDomains s.part i v).all fun d => s.domState d == 3

/-- The owner has not started yet: a start-up is in progress (R91). -/
def State.notStarted (s : State) (i : Nat) : Bool := s.powerState == psBoot && !s.ownerOn i 0

/-- Objects of the master alone (R417), and the debug objects outside the states that have them (R435). -/
def State.barred (s : State) (i : Nat) : Bool :=
  ((i == 0x4803 || i == 0x4A01 || i == 0x4A02) && !s.isMaster)
    || (i == 0x5040 && s.debugBarred)

/-! ### Values that an object computes when it is read -/

def textBytes (t : String) : List Byte := t.toList.map fun c => BitVec.ofNat 8 c.toNat

/-- The part's name: stations, width and network (R3). -/
def partName (p : Part) : List Byte :=
  textBytes "SX7-" ++ textBytes (toString p.stations) ++ textBytes (if p.wide then "W" else "N") ++ textBytes (if p.q then "Q" else "D")

/-- The release of the running firmware. -/
def State.release (s : State) : Nat := match s.sec.running with | some f => f.release | none => Config.releaseNumber

def State.linesIn (s : State) (l : List LineState) : Nat := (s.granary.lines.filter fun x => l.contains x.state).length

/-- SLICE_STATE (Table 11.10). -/
def State.sliceState (s : State) (k : Nat) : Nat :=
  if s.sliceOut k then 4
  else if s.domState (48 + k) ≠ 3 then 0
  else if s.lanesOn k = 0 then 1
  else if s.pool.any fun x => x.lanesOn k != 0 && x.stage != .first then 3
  else 2

/-- Slice and frames of the sample ring by variant (Table 11.2). -/
def sliceSize (p : Part) : Nat :=
  if p.stations = 2 then (if p.wide then 128 else 256) else if p.wide then 64 else 128

/-- Station blocks: flags and times that run; the pass in progress of an N part (R172); the BD tilt estimates. -/
def State.readStation (s : State) (i sub : Nat) : Option Nat :=
  let t := ixStation i
  if ixOff i = 0 ∧ sub = 5 then some (s.stFlags t)
  else if ixOff i = 0 ∧ sub = 8 then some (min ((s.now - (s.stn t).since) / 1000) (2 ^ 32 - 1))
  else if (ixOff i = 0x53 ∨ ixOff i = 0x93) ∧ sub = 6 ∧ ¬ s.part.wide ∧ 3 ≤ s.mediumKind t ∧ s.reg (key i 3) = 4 then some 1
  else if (ixOff i = 0x54 ∨ ixOff i = 0x94) ∧ sub = 1 ∧ (s.mediumKind t = 1 ∨ s.mediumKind t = 2) then some 1
  else none

/-- Objects of the host interface, Granary, the HBM and the pools. -/
def State.readHost (s : State) (i sub : Nat) : Option Nat :=
  if i = 0x4200 then
    (if sub = 1 then some s.enabledCtrls
     else if sub = 2 then some ((s.nvme.ctrls.map (·.granted)).sum)
     else if sub = 3 then some s.contextsUsed
     else if sub = 5 then some s.nvme.seq else none)
  else if i = 0x4400 then
    (if sub = 0x0A then some (s.linesIn [.valid, .evicting])
     else if sub = 0x0B then some (s.linesIn [.dirty, .writing])
     else if sub = 0x0C then some ((s.granary.lines.filter fun l => l.lock != 0).length)
     else if sub = 0x0D then some s.granary.pins.length else none)
  else if 0x4420 ≤ i ∧ i < 0x4428 then
    let mine := fun (st : LineState) =>
      (s.granary.lines.filter fun l => l.state == st && !nsSpread l.nsid && nsStation l.nsid == i - 0x4420).length
    (if sub = 1 then some (mine .dirty) else if sub = 2 then some (mine .writing) else none)
  else if i = 0x4600 then
    (if sub = 6 then some s.relocations else if sub = 7 then some s.hardPending
     else if sub = 8 then some s.hbm.retired.length
     else if sub = 0x0C then some s.hbm.noSpare.length else none)
  else if i = 0x4680 then
    (if sub = 1 then some (sliceSize s.part) else if sub = 2 then some (framesHeld s.part) else none)
  else if i = 0x4682 then
    (if 1 ≤ sub ∧ sub ≤ 0x18 then some (s.sliceState (sub - 1))
     else if sub = 0x1C then some (12 * ((List.range 24).filter fun k => s.domState (48 + k) == 3).length) else none)
  else none

/-- Objects of Watchman. -/
def State.readWatch (s : State) (d : Door) (i sub : Nat) : Option Nat :=
  if (i = 0x1010 ∨ i = 0x1011) ∧ sub ≠ 0 then some 1
  else if i = 0x1018 ∧ sub = 3 then some (0x00B0_0000 + s.release % 0x1_0000)
  else if i = 0x2201 then
    (if sub = 1 then some (s.window d).cursor else if sub = 3 then some (s.window d).recSeq else none)
  else if i = 0x2300 then (if sub = 1 then some s.calendar else if sub = 5 then some s.ringTime else none)
  else if i = 0x5020 ∧ sub = 5 then some s.authRemaining
  else if i = 0x5040 ∧ sub = 3 then some (if s.secFlag 3 then 1 else 0)
  else if i = 0x5400 then
    (if sub = 1 then some (match s.sec.running with | some f => f.vendor | none => 0)
     else if sub = 3 then some (if s.keyFused then 1 else 0)
     else if sub = 4 then some (match s.stores.image with | some m => m.version | none => 0)
     else if sub = 5 then some (match s.stores.image with | some m => m.words.length | none => 0)
     else if sub = 7 then some s.vendorAbi else none)
  else none

/-- Whether the fuse words' failure makes an object read 0 or empty (R65). -/
def State.fuseHidden (s : State) (i sub : Nat) : Bool :=
  s.power.fuseFailed && ((i == 0x2000 && sub != 0) || (i == 0x1018 && 2 ≤ sub) || i == 0x1008 || i == 0x1009 || i == 0x100A)

/-- A number as it reads. -/
def State.readNum (s : State) (d : Door) (i sub : Nat) : Nat :=
  if s.objAbsent i sub || s.fuseHidden i sub then 0
  else
    let c := if inBlock i then s.readStation i sub
      else if 0x4000 ≤ i ∧ i < 0x5000 then s.readHost i sub
      else s.readWatch d i sub
    c.getD (s.reg (key i sub))

/-- PARTITION_TABLE (Table 19.13). -/
def State.partitionRow (s : State) (k kind inst : Nat) : List Byte :=
  let e := (s.bist.table.find? fun x => x.1 == k).map (·.2)
  let o := match s.bistRun kind inst with
    | some r => if r.stage = .running then oRunning else if r.stage = .suspended then oSuspended else (e.map (·.1)).getD 0
    | none => (e.map (·.1)).getD 0
  leBytes 1 kind ++ leBytes 1 inst ++ leBytes 1 o ++ leBytes 5 0 ++ leBytes 8 ((e.map (·.2)).getD 0)

def State.partitionTable (s : State) : List Byte :=
  ([1, 2, 3, 4, 5, 6, 7, 8].flatMap fun kind => (List.range (partLimit kind)).map (kind, ·)).flatMap fun p =>
    if s.partPresent p.1 p.2 then s.partitionRow (partNumber p.1 p.2) p.1 p.2 else List.replicate 16 0

/-- Strings and DOMAINs that are made up when they are read. -/
def State.readMade (s : State) (d : Door) (i sub : Nat) : Option (List Byte) :=
  if i = 0x1008 ∨ (i = 0x2000 ∧ sub = 1) then some (partName s.part)
  else if i = 0x1009 then some (textBytes "B0")
  else if i = 0x100A then some (Config.releaseText s.release ++ textBytes (if s.reg (key 0x2100 4) = 0 then " A" else " B"))
  else if i = 0x2201 then some (s.window d).record
  else if i = 0x2502 then some s.partitionTable
  else if i = 0x2601 then some s.tokenBytes
  else if inBlock i ∧ ixOff i = 0xCF then some Config.ldpcBase
  else if i = 0x4410 then some s.pinBytes
  else if i = 0x4690 then some s.mapBytes
  else if i = 0x4802 then some s.rosterBytes
  else if i = 0x4A10 then some s.volumeTableBytes
  else if i = 0x5000 ∧ sub = 5 then some (hashBytes Config.rootHash)
  else if i = 0x5000 ∧ sub = 7 then some (hashBytes s.sec.aggregate ++ s.sec.logBytes)
  else if i = 0x5012 then
    (if sub = 1 then some (leBytes 1952 s.idPublicKey.toNat)
     else if sub = 2 then some (s.csr)
     else if sub = 4 then some (leBytes 1952 s.attestKey.toNat)
     else if sub = 5 then some (leBytes 3309 s.statementSig.toNat) else none)
  else if i = 0x5020 ∧ sub = 1 then some (leBytes 32 (Config.freeValue s.sec.challenge))
  else if i = 0x5040 ∧ sub = 1 then some (leBytes 32 (Config.freeValue s.sec.debugChallenge))
  else if i = 0x5400 ∧ sub = 2 then
    some (hashBytes (Config.storeDigest (match s.sec.running with | some f => f.digests.getD 3 0 | none => 0)
      (match s.stores.image with | some m => m.words | none => [])))
  else none

/-- Objects whose length is not fixed: strings, RESPONSE, QUOTE, the certificate and its request. -/
def freeLength (o : Obj) (i sub : Nat) : Bool :=
  (match o.ty with | .vstr _ => true | _ => false) || (inBlock i && ixEngOff i == 0x0E && sub == 0x0B)
    || (i == 0x5011 && sub == 6) || (i == 0x5012 && (sub == 2 || sub == 3))

/-- A string or DOMAIN as it reads: a fixed length is filled with zeros. -/
def State.readRaw (s : State) (d : Door) (o : Obj) (i sub : Nat) : List Byte :=
  let b := if s.objAbsent i sub || s.fuseHidden i sub then [] else (s.readMade d i sub).getD (s.raw (key i sub))
  if freeLength o i sub then b else (b ++ List.replicate (o.ty.bytes - b.length) 0).take o.ty.bytes

/-! ### Reading (R32, R37) -/

/-- Data sub-indices of a result object, with CAPTURE_DATA and DUMP_DATA (Tables 6.15 and 11.9) and their result object. -/
def resultData (i sub : Nat) : Option Nat :=
  if isResultIx i then (if 5 ≤ sub then some i else none)
  else if inBlock i ∧ 0x30 ≤ ixOff i ∧ ixOff i < 0xC0 ∧ ixEngOff i = 0x0D ∧ ixOff i ≠ 0xAD ∧ ixOff i ≠ 0x6D then some (i - 1)
  else if inBlock i ∧ (ixOff i = 0x6E ∨ ixOff i = 0xAE) then some (i - 1)
  else none

/-- A read: the abort code, or the bytes and whether the object is a number. Over CAN a read of result data while the object
is BUSY is refused (R37). -/
def State.readObject (s : State) (d : Door) (i sub : Nat) : Except Nat (Obj × List Byte) :=
  match s.lookup i sub with
  | .error a => .error a
  | .ok o =>
    if s.objAbsent i sub then .ok (o, if o.ty.number then leBytes o.ty.bytes 0 else s.readRaw d o i sub)
    else if o.acc = .wo then .error 0x0601_0001
    else if s.notStarted i || s.barred i then .error 0x0800_0022
    else
      let can := match d with | .sdo _ _ | .pdo _ _ => true | _ => false
      let busy := match resultData i sub with | some r => s.busy r | none => false
      if can && busy then .error 0x0800_0022
      else .ok (o, if o.ty.number then leBytes o.ty.bytes (s.readNum d i sub) else s.readRaw d o i sub)

end Sys2Proof.Machine
end

