-- ==== Sys2Proof/Machine/Access.lean ====
section
/-! DEFINITION. What a dictionary write has to pass beyond its range, and what it does (steps 5 to 7 of Table 2.14, R34, R35,
R130, R135, R139, R145, R151 to R153 and each chapter's own objects). -/

namespace Sys2Proof.Machine

def noState : Nat := 0x0800_0022
def heldByOther : Nat := 0x0800_0021
def clash : Nat := 0x0604_0043

/-! ### The named states of an rws object (R32) -/

/-- "Stopped" (Table 8.9): OFF, EMPTY, CLAMPED or FAULT with the spindle STOPPED. -/
def State.stoppedStation (s : State) (t : Nat) : Bool :=
  (s.stState t ≤ stClamped || s.stState t == stFault) && s.spinState t == 0

/-- Writes to the active set of a group (R135). -/
def State.setState (s : State) (e g : Nat) : Nat :=
  let ls := setLoops e g
  if ls.any fun l => s.loopState e l == lsClosed || s.loopState e l == lsSearch then noState
  else if ls.any fun l => s.loopState e l == lsHold && (bitOf (s.holdCause e l) hcLathe || bitOf (s.holdCause e l) hcApply) then heldByOther
  else 0

/-- The head of an object at 0x3sD1 to 0x3sD8: the even ones of the pairs are head L's. -/
def wrHead (i : Nat) : Nat :=
  2 * ixStation i + (if ixOff i = 0xD2 ∨ ixOff i = 0xD4 ∨ ixOff i = 0xD8 then 1 else 0)

/-- Whether the named state of a condition holds for an object; the abort otherwise. -/
def State.condCheck (s : State) (c : Cond) (i sub : Nat) : Nat :=
  let t := ixStation i
  let e := ixEngine i
  let need := fun (b : Bool) => if b then 0 else noState
  match c with
  | .clampStill => need ((s.stn t).stroke == .none)
  | .maint => need (s.stState t == stMaint)
  | .headNotWriting => need (s.substate (wrHead i) != hsWriting)
  | .noFabric => need (!s.fabricConnected)
  | .loopNotClosed => need ((setLoops e ((sub - 0x29) / 4)).all fun l => s.loopState e l != lsClosed)
  | .ffTable => need (s.reg (hdKey e 8 (1 + (ixEngOff i - 9))) != 1)
  | .headLoopsOff => need ([0, 1, 2, 3].all fun l => s.loopState e l == lsOff)
  | .beamLoopNotClosed => need (s.loopState e (4 + (sub - 1)) != lsClosed)
  | .notReadyActive => need (s.stState t != stReady && s.stState t != stActive)
  | .dafInactive => need (s.nvme.namespaces.all fun n => !n.daf)
  | .allInactive => need s.nvme.namespaces.isEmpty
  | .notFollowing => need (!s.following)
  | .ringOff => need (s.reg (key 0x4800 1) == 0)
  | .allMaint => need ((List.range s.part.stations).all fun k => s.stState k == stMaint)
  | .stopped => need (s.stoppedStation t)
  | .setUnlocked => s.setState e (ixEngOff i - 1)
  | .convergedOff => need (s.stState t == stMaint || s.domState (6 * t + 3 + e % 2) != 3)

/-! ### State checks of single objects (step 6) -/

/-- A second segmented write of an object already being written on any path (R40). -/
def State.segmentHeld (s : State) (i sub : Nat) : Bool :=
  (s.can.channels.any fun x => match x with | .download a b _ _ _ => a == i && b == sub | _ => false)
    || (s.bar2.openObject == sub * 65536 + i && (s.bar2.state == .openWrite || s.bar2.state == .busy))
    || s.nvme.objects.any fun x => x.idx == i && x.sub == sub

/-- Whether the frequencies of an injection lie from 1 Hz to a quarter of the loop's sample rate (R151). -/
def State.injFrequency (s : State) (e : Nat) : Bool :=
  let r := fun j => s.reg (engKey e 0x0B j)
  let ok := fun f => 10 ≤ f && 4 * f ≤ 10 * loopRate e (r 2)
  if r 4 = 1 then ok (r 6) else if r 4 = 2 then ok (r 7) && ok (r 8) else true

/-- The stored COB-ID of a PDO, by the index of its mapping object. -/
def pdoCob (i : Nat) : Nat := key (i - 0x200) 1

/-- A PDO that is enabled changes only its COB-ID's bit 31, and no mapping (R49, Table 2.10). -/
def State.pdoState (s : State) (i sub v : Nat) : Nat :=
  if (0x1600 ≤ i ∧ i < 0x1608) ∨ (0x1A00 ≤ i ∧ i < 0x1A08) then (if bitOf (s.reg (pdoCob i)) 31 then 0 else noState)
  else if ((0x1400 ≤ i ∧ i < 0x1408) ∨ (0x1800 ≤ i ∧ i < 0x1808)) ∧ sub = 1 then
    let old := s.reg (key i 1)
    if bitOf old 31 || v % 2 ^ 31 == old % 2 ^ 31 then 0 else noState
  else 0

/-- Whether a mapping entry can stand (R49): the object's type and access, and its length in bits; an entry of 0 names no
object. A BOOLEAN is mapped with 8 bits (DESIGN CHOICE: the table gives no length; log entry 109). -/
def State.entryCheck (s : State) (i v : Nat) : Nat :=
  match s.lookup (v / 65536) (bitsOf v 15 8) with
  | .error _ => 0x0604_0041
  | .ok o =>
    let may := match o.acc with | .rw => true | .ro => 0x1A00 ≤ i | _ => false
    if !(may && o.ty.number && v % 256 == 8 * o.ty.bytes) then 0x0604_0041
    else if 8 * s.pdoLength < v % 256 then 0x0604_0042
    else 0

/-- The checks of a mapping's value (R49). -/
def State.mappingCheck (s : State) (i sub v : Nat) : Nat :=
  if (0x1600 ≤ i ∧ i < 0x1608) ∨ (0x1A00 ≤ i ∧ i < 0x1A08) then
    (if sub = 0 then (if 8 * s.pdoLength < s.mappedBits i v then 0x0604_0042 else 0) else s.entryCheck i v)
  else 0

/-- Every write to the block of a station under BIST is refused but POWER_UP and LOAD (R468). -/
def State.bistBars (s : State) (i sub v : Nat) : Bool :=
  inBlock i && s.stFlag (ixStation i) 9 && !(ixOff i == 1 && sub == 1 && (v % 256 == 1 || v % 256 == 2))

/-- Step 6 for any write. -/
def State.stateCheck (s : State) (o : Obj) (i sub v : Nat) : Nat :=
  if s.notStarted i || s.barred i || s.bistBars i sub v then noState
  else
    let c := match o.acc with | .rws c => s.condCheck c i sub | _ => 0
    if c ≠ 0 then c
    else if ixOff i = 1 ∧ inBlock i ∧ sub = 1 ∧ (v % 256 = 1 ∨ v % 256 = 2) ∧ s.busy 0x5401 then noState
    else s.pdoState i sub v

/-! ### Consistency with other values (step 7) -/

/-- A field of a set with a new value agrees with the rest (R135). -/
def State.setClash (s : State) (e g sub v : Nat) : Bool :=
  let r := fun j => if j = sub then v else s.reg (setKey e g j)
  let q := fun j => toSigned 32 (r j)
  !setOk (r 1) (r 2) (q 5) (q 6)

/-- Whether the values of `subs`, with `v` at `sub`, rise strictly. -/
def State.rising (s : State) (i sub v : Nat) (signed : Bool) : List Nat → Bool
  | a :: b :: l =>
    let r := fun j => if j = sub then v else s.reg (key i j)
    let x := fun j => if signed then toSigned 32 (r j) else (r j : Int)
    decide (x a < x b) && s.rising i sub v signed (b :: l)
  | _ => true

/-- Orders and dependencies that the object tables state. -/
def State.consistent (s : State) (i sub v : Nat) : Bool :=
  let n := normIndex i
  let r := fun j => if j = sub then v else s.reg (key i j)
  let up := fun l => !l.contains sub || s.rising i sub v false l
  if n = 0x2010 ∧ (sub = 5 ∨ sub = 6) then r 6 == 0 || r 5 ≤ r 6
  else if (0x3031 ≤ n ∧ n ≤ 0x3033) ∨ (0x3041 ≤ n ∧ n ≤ 0x3045) then !s.setClash (ixEngine i) (ixEngOff i - 1) sub v
  else if (n = 0x303B ∨ n = 0x304B) ∧ (sub = 0x0D ∨ sub = 0x0E) then tapExists (ixEngine i) (s.reg (key i 0x0C)) v
  else if n = 0x303B ∨ n = 0x304B then up [7, 8]
  else if n = 0x3051 then !(sub == 1 || sub == 2) || s.rising i sub v true [1, 2]
  else if n = 0x3012 then up [7, 8, 9]
  else if n = 0x3020 ∨ n = 0x3021 then
    if sub = 6 ∨ sub = 7 then up [6, 7]
    else if sub = 0x11 ∨ sub = 0x14 ∨ sub = 0x15 then r 0x11 ≤ r 0x14 && r 0x14 < r 0x15
    else true
  else if n = 0x3022 then up [8, 9, 0x0A]
  else if n = 0x3013 ∧ sub = 5 then
    let m := v % 2 ^ 18
    m == 0 || hallSequence ((List.range 6).map fun k => m / 8 ^ k % 8)
  else if n = 0x30C3 ∧ (sub = 1 ∨ sub = 5) then r 5 ≤ r 1
  else if n = 0x3062 then r 2 ≤ r 1
  else if (n = 0x30D1 ∨ n = 0x30D2) ∧ sub = 4 then v % 18 == 0
  else if n = 0x30E6 then up [4, 5]
  else if n = 0x4400 ∧ (sub = 5 ∨ sub = 6) then r 6 ≤ r 5
  else true

/-! ### Effects (steps 5 to 7 of the objects that act) -/

/-- A write of LOOP_CMD (R134, R136). -/
def State.loopCmd (s : State) (e l k v : Nat) : Applied :=
  if s.stState (engStation e) ≠ stMaint then .error noState
  else
    match s.loopCommand e l v with
    | some t => .ok (t.setReg k v)
    | none => .error (if v = 4 ∧ s.reg (setKey e l 3) = 0 then clash else noState)

/-- A write of APPLY (R139). -/
def State.applyWrite (s : State) (e v : Nat) : Applied :=
  let g := s.reg (engKey e 6 0x31)
  let bad := (setLoops e g).any fun l =>
    s.loopState e l == lsSearch || (s.loopState e l == lsHold && bitOf (s.holdCause e l) hcLathe)
  if v ≠ 1 then .error notInSet
  else if bad || (isHead e && s.substate e == hsWriting) then .error noState
  else if !s.stagedOk e then .error clash
  else .ok (s.startApply e g)

/-- A write of INJ_ENABLE (R151); one from a sequencer is not bound to MAINT (R229). -/
def State.injWrite (s : State) (e v : Nat) (lathe : Bool) : Applied :=
  let l := s.reg (engKey e 0x0B 2)
  let st := s.loopState e l
  if v = 0 then .ok ((s.setReg (engKey e 0x0B 1) 0).modEng e fun g => { g with inj := if g.inj = .dict then .free else g.inj })
  else if !s.injFrequency e then .error notInSet
  else if !lathe && s.stState (engStation e) != stMaint then .error noState
  else if (s.eng e).inj ≠ .free ∧ (s.eng e).inj ≠ .dict then .error heldByOther
  else if st ≠ lsOpen ∧ st ≠ lsClosed then .error noState
  else .ok ((s.setReg (engKey e 0x0B 1) 1).modEng e fun g => { g with inj := .dict, injN := 0 })

/-- A write of REQUEST of a loop measurement (R153, Table 5.5). -/
def State.measureRequest (s : State) (e v : Nat) : Applied :=
  let l := v % 16
  let points := bitsOf v 15 8
  let cycles := bitsOf v 23 16
  let st := s.stState (engStation e)
  let coded := s.loopPresent e l && (cycles == 0 || 4 ≤ cycles) && (points == 0 || (8 ≤ points && points ≤ 64))
  if !coded then .error notInSet
  else if st = stReady ∨ st = stMaint then .ok ((s.beginResult (engIx e 0x0E)).measureObject e v)
  else if st = stActive then
    .ok ((s.beginResult (engIx e 0x0E)).modStn (engStation e) fun t => { t with measWait := t.measWait ++ [(e, v)] })
  else .error noState

/-- REQUEST of CALIBRATE_LOOP's and POWER_CAL's objects: the order of their own (R185, R312), in MAINT. -/
def State.orderRequest (s : State) (h ix code param : Nat) : Applied :=
  if s.stState (h / 2) ≠ stMaint then .error noState else .ok ((s.beginResult ix).issue h code param)

/-- REQUEST of object 0x3sC4 (R255): the translation is there at once. -/
def State.translateWrite (s : State) (t v : Nat) : Applied :=
  if v ≠ 1 then .error notInSet
  else .ok (let r := s.translate t; s.endResult (stIx t 0xC4) r.1 r.2)

/-- Writes that act in a station block. -/
def State.stationEffect (s : State) (i sub v : Nat) : Option Applied :=
  let t := ixStation i
  let o := ixOff i
  let e := ixEngine i
  let f := ixEngOff i
  if o = 0x00 ∧ sub = 0x0E then some (s.stationStop t v)
  else if o = 0x01 then some (s.stationRequest t v)
  else if o = 0x02 ∧ sub = 1 then some (s.strobeFire t v)
  else if o = 0x02 ∧ sub = 2 then some (s.dstrobeFire v)
  else if o = 0x03 then some (s.directRequest t v)
  else if o = 0x12 ∧ sub = 1 then some (.ok ((s.setReg (key i 1) v).retarget t))
  else if o = 0xC4 then some (s.translateWrite t v)
  else if o = 0xD9 then
    let h := 2 * t + (if bitOf v 8 then 1 else 0)
    some (s.orderRequest h i 0x0E (v % 256) |>.map fun s => s.modHd h fun d => { d with calObject := true })
  else if o = 0xE2 then some (s.wiringRequest t v)
  else if o < 0x30 ∨ 0xC0 ≤ o then none
  else if f = 0 ∧ loopCount e < sub ∧ sub ≤ 2 * loopCount e then some (s.loopCmd e (sub - loopCount e - 1) (key i sub) v)
  else if f = 6 ∧ sub = 0x32 then some (s.applyWrite e v)
  else if f = 0x0B ∧ sub = 1 then some (s.injWrite e v false)
  else if f = 0x0C ∧ sub = 1 then some (if v = 1 then .ok (s.capArm e) else .error notInSet)
  else if f = 0x0E ∧ sub = 1 then some (s.measureRequest e v)
  else if f = 0x1E ∧ sub = 1 then some (if 3 < v % 16 then .error notInSet else s.orderRequest e i 0x0A (v % 16))
  else if f = 0x2D ∧ sub = 1 then some (s.dumpRequest e v)
  else none

/-- Writes of numbers that act. -/
def State.numEffect (s : State) (d : Door) (i sub v : Nat) (w : World) : Option Applied :=
  if inBlock i then s.stationEffect i sub v
  else if i = 0x2100 ∧ sub = 2 then some (s.powerCmd v)
  else if i = 0x2200 then
    (if sub = 6 then some (s.flushNow v) else if sub = 9 then some (s.freezeWrite v)
     else if sub = 0x0D then some (s.ledgerClear d v) else none)
  else if i = 0x2201 then
    (if sub = 1 then some (.ok (s.loadWindow d v)) else if sub = 4 then some (s.ledgerAdvance d v) else none)
  else if i = 0x2300 ∧ sub = 1 then some (s.calendarWrite v)
  else if i = 0x2441 then some (s.calRequest v)
  else if i = 0x2501 then some (s.bistRequest v)
  else if i = 0x4403 then some (s.tagProbe v)
  else if i = 0x4600 ∧ sub = 0x0D then some (s.mapClear d v)
  else if i = 0x4603 then some (s.hbmRequest d v)
  else if i = 0x4800 ∧ sub = 1 then some (s.ringEnable v)
  else if i = 0x4803 ∧ sub = 3 then some (s.rsFire v)
  else if i = 0x4A01 then some (s.volumeRequest v w.far)
  else if i = 0x5001 then some (s.lifeCycle d v w.prog)
  else if i = 0x5002 ∧ sub = 1 then some (s.fuseKey v w.ok)
  else if i = 0x5011 then some (s.quoteRequest v)
  else if i = 0x5020 ∧ sub = 6 then some (s.authCloseWrite v)
  else if i = 0x5031 then some (s.recoveryInstall v)
  else if i = 0x5401 then some (s.customerRequest d v)
  else if i = 0x5801 then some (s.overrideWrite sub v)
  else none

/-- The bytes of a TPDO's mapped values (R49). -/
def State.tpdoBytes (s : State) (n : Nat) : List Byte :=
  (List.range (s.reg (key (0x1A00 + n) 0))).flatMap fun e =>
    let v := s.reg (key (0x1A00 + n) (e + 1))
    leBytes (v % 256 / 8) (s.readNum (.pdo 0 0) (v / 65536) (bitsOf v 15 8))

/-- What Watchman compares a TPDO's values with (R49). -/
def State.tpdoMark (s : State) (n : Nat) : State :=
  match s.can.pdos[n]? with
  | some p => { s with can := { s.can with pdos := s.can.pdos.set n { p with last := s.tpdoBytes n } } }
  | none => s

/-- What follows a plain setting: the history cleared (R508), a consumer stopped until its next heartbeat (R51), a TPDO set up
anew (R49), domains and clocks (R82, R90), the link gone (R322), writes that waited for lines (R364). -/
def State.afterWrite (s : State) (i sub : Nat) : State :=
  if i = 0x1003 then s.setRegs ((List.range 16).map fun j => (key 0x1003 (j + 1), 0))
  else if i = 0x1016 then { s with can := { s.can with consumers := s.can.consumers.set (sub - 1) false } }
  else if (0x1800 ≤ i ∧ i < 0x1808) ∨ (0x1A00 ≤ i ∧ i < 0x1A08) then s.tpdoMark (i % 8)
  else if i = 0x2101 then (s.updDomain (sub - 1)).clockView
  else if i = 0x4000 ∧ sub = 4 then s.updDomain 75
  else if i = 0x4100 ∧ sub = 1 then (s.setReg (key 0x4100 2) 0).updAll
  else if i = 0x4400 ∧ (sub = 5 ∨ sub = 6) then s.settle
  else s

/-- An error of steps 1 to 5, which goes before the state checks. -/
def earlyAbort (a : Nat) : Bool :=
  a == notInSet || a == tooMuch || a == tooLow || a == 0x0800_0030 || a == 0x0800_0031 || a == 0x0602_0000

/-- The present value, for R34. -/
def State.sameValue (s : State) (d : Door) (o : Obj) (i sub v : Nat) : Bool :=
  (match o.acc with | .rw | .rws _ => true | _ => false) && s.readNum d i sub == v && i != 0x1010 && i != 0x1011

/-- Where a field of a loop stands in the list of R130: its group, and its place; none for a field of no loop. -/
def loopField (i sub : Nat) : Option (Nat × Nat) :=
  let e := ixEngine i
  let f := ixEngOff i
  let at_ := f * 256 + sub
  if !(inBlock i && 0x30 ≤ ixOff i && ixOff i < 0xC0) then none
  else if 1 ≤ f ∧ f ≤ (if e < 16 then 5 else 3) then some (f - 1, at_)
  else if f = 7 ∧ 1 ≤ sub ∧ sub ≤ 0x28 then some ((sub - 1) / 8, at_)
  else if f = 7 ∧ 0x29 ≤ sub ∧ sub ≤ 0x3C then some ((sub - 0x29) / 4, at_)
  else if f = 8 ∧ 1 ≤ sub ∧ sub ≤ 8 then some ((sub - 1) % 2, at_)
  else if f = 0 ∧ 1 ≤ sub then some (grpOf e ((sub - 1) % loopCount e), at_)
  else none

/-- Whether a sequencer has written the field since the last sample boundary of its loop (R130). -/
def State.latheWrote (s : State) (i sub : Nat) : Bool :=
  match loopField i sub with
  | some w => (s.eng (ixEngine i)).latheW.contains w
  | none => false

/-- A number whose length and range have passed is written (steps 5 to 7 of Table 2.14, R34, R36). -/
def State.putNum (s : State) (d : Door) (o : Obj) (i sub v : Nat) (w : World) : Applied :=
  let c := s.stateCheck o i sub v
  match s.numEffect d i sub v w with
  | some (.error a) =>
    if earlyAbort a then .error a
    else if c ≠ 0 then .error c
    else if isResultIx i ∧ sub = 1 ∧ s.busy i then .error noState
    else .error a
  | some (.ok t) =>
    if c ≠ 0 then .error c
    else if isResultIx i ∧ sub = 1 ∧ s.busy i then .error noState
    else .ok (if s.sameValue d o i sub v then s else t)
  | none =>
    if c ≠ 0 then .error c
    else
      let m := s.mappingCheck i sub v
      if m ≠ 0 then .error m
      else if !s.consistent i sub v then .error clash
      else if s.sameValue d o i sub v then .ok s
      else if s.latheWrote i sub then .ok s
      else .ok ((s.setReg (key i sub) v).afterWrite i sub)

/-- Bytes of VOLUME_DEF that are reserved (Table 16.8): two of the header, five of each column. -/
def volumeReserved (j : Nat) : Bool :=
  j == 6 || j == 7 || (8 ≤ j && [10, 11, 17, 18, 19].contains ((j - 8) % 24))

/-- A byte string as it is kept: reserved bytes are ignored and read 0 (R11). -/
def keptBytes (i : Nat) (b : List Byte) : List Byte :=
  if i = 0x4A02 then b.zipIdx.map fun p => if volumeReserved p.2 then 0 else p.1 else b

/-- A byte string whose length has passed is written. -/
def State.putRaw (s : State) (d : Door) (o : Obj) (i sub : Nat) (b : List Byte) : Applied :=
  let b := keptBytes i b
  let c := s.stateCheck o i sub 0
  let act := if i = 0x5020 then some (s.authResponse b) else if i = 0x5040 then some (s.debugResponse b)
    else if i = 0x5012 then some (s.certWrite d b) else none
  match act with
  | some (.error a) => .error (if earlyAbort a then a else if c ≠ 0 then c else a)
  | some (.ok t) => if c ≠ 0 then .error c else .ok t
  | none =>
    if c ≠ 0 then .error c
    else if b = s.raw (key i sub) ∧ o.acc ≠ .wo then .ok s
    else if inBlock i ∧ 0x40 ≤ ixOff i ∧ ixOff i < 0xC0 ∧ (ixEngOff i = 9 ∨ ixEngOff i = 0x0A) then
      .ok (s.modEng (ixEngine i) fun g => { g with ffNew := g.ffNew.set (ixEngOff i - 9) (some b) })
    else .ok (s.setRaw (key i sub) b)

/-- Data written to an object, past existence, access, length and range (steps 1 to 4): the value, or the abort. -/
def State.staticCheck (s : State) (i sub : Nat) (b : List Byte) : Except Nat Obj :=
  match s.lookup i sub with
  | .error a => .error a
  | .ok o =>
    if s.objAbsent i sub then .error 0x0800_0030
    else if o.acc = .const ∨ o.acc = .ro then .error 0x0601_0002
    else
      let n := lengthCheck o i sub b.length
      if n ≠ 0 then .error n
      else if o.ty.number then
        (let c := s.valueCheck o i sub (leNat b)
         if c ≠ 0 then .error c else .ok o)
      else .ok o

/-- The write takes effect, or is refused. -/
def State.putObject (s : State) (d : Door) (i sub : Nat) (b : List Byte) (w : World) : Applied :=
  match s.staticCheck i sub b with
  | .error a => .error a
  | .ok o => if o.ty.number then s.putNum d o i sub (o.kept (leNat b)) w else s.putRaw d o i sub b

end Sys2Proof.Machine
end

