-- ==== Sys2Proof/Machine/Serve.lean ====
section
/-! DEFINITION. Serving a dictionary access (R16, R41, R48, R53, R58, R95): the doors, the wake of a gated owner, stores and
restores (R59, R60), and the answer. -/

namespace Sys2Proof.Machine

/-! ### Transfers in segments (R40, R55, R507) -/

/-- The checks that the first frame of a segmented write, or its open, can make, in the order of Table 2.14: existence,
class, the length announced (none: not announced), the authorisation of a certificate that replaces one (R429, R433), and
another transfer that holds the object (R40). -/
def State.openCheck (s : State) (i sub : Nat) (n : Option Nat) : Nat :=
  match s.lookup i sub with
  | .error a => a
  | .ok o =>
    let len := match n with | some n => lengthCheck o i sub n | none => 0
    if s.objAbsent i sub then 0x0800_0030
    else if o.acc = .const ∨ o.acc = .ro then 0x0601_0002
    else if len ≠ 0 then len
    else if i = 0x5012 ∧ ¬ (s.raw (key 0x5012 3)).isEmpty ∧ ¬ s.authorised then 0x0800_0031
    else if s.segmentHeld i sub then heldByOther
    else 0

/-! ### Stores and restores (R59, R60) -/

/-- Objects that are never stored (R59). -/
def neverStored (i : Nat) : Bool := i == 0x1001 || i == 0x1003 || i == 0x1010 || i == 0x1011

/-- The objects of a scope (Table 2.9); those of 0x5000 to 0x53FF are the life-cycle and key objects. -/
def storeScope (sub i : Nat) : Bool :=
  let comm := (0x1000 ≤ i && i < 0x2000) || i == 0x2010
  let device := 0x2100 ≤ i && i < 0x5000
  let rest := 0x5400 ≤ i && i < 0x6000
  !neverStored i && (if sub = 1 then comm || device || rest else if sub = 2 then comm else if sub = 3 then device else rest)

/-- Whether the register or byte string at `k` belongs to an rw or rws object of a scope. -/
def storedKey (sub k : Nat) : Bool :=
  storeScope sub (k / 256)
    && (match findObj (k / 256) (k % 256) with
        | some o => (match o.acc with | .rw | .rws _ => true | _ => false)
        | none => false)

/-- The values of a scope as they stand. A COB-ID whose default holds the node-ID is listed at whatever value. -/
def State.present (s : State) (sub : Nat) : List (Nat × Nat) :=
  ((cobBases.map (·.1)).filter (storedKey sub)).foldl (fun l k => insertKey k (s.reg k) l) (s.regs.filter fun p => storedKey sub p.1)

/-- What a store or a restore of a scope programs: the values stored before in every other scope, and, for a store, the
present ones. -/
def State.storeJob (s : State) (d : Door) (ix sub : Nat) : Store :=
  let sets := (List.range 24).flatMap fun e => (s.eng e).loaded.flatMap fun g => (List.range 48).map fun j =>
    (engKey e (1 + g) (1 + j), s.reg (engKey e (1 + g) (1 + j)))
  let old := s.nor.stored.getD ⟨false, [], []⟩
  let restN := old.nums.filter fun p => !storedKey sub p.1
  let restR := old.raws.filter fun p => !storedKey sub p.1
  if ix = 0x1010 then
    ⟨d, ix, sub, (s.present sub ++ sets.filter fun p => storedKey sub p.1).foldl (fun l p => insertKey p.1 p.2 l) restN,
      (s.raws.filter fun p => storedKey sub p.1).foldl (fun l p => insertKey p.1 p.2 l) restR⟩
  else ⟨d, ix, sub, restN, restR⟩

/-- A write of object 0x1010 or 0x1011 (R59): its refusals in their order, or the store begins. -/
def State.storeRequest (s : State) (d : Door) (ix sub v : Nat) : Applied :=
  if s.power.latched then .error 0x0800_0020
  else if s.nor.store.isSome then .error 0x0800_0022
  else if v ≠ (if ix = 0x1010 then 0x6576_6173 else 0x6461_6F6C) then .error 0x0800_0020
  else .ok { s with nor := { s.nor with store := some (s.storeJob d ix sub) } }

/-- The copy is programmed: it becomes the newer, the other one's sector is erased in the background, and the request is
answered; the measurement log takes the copy in use after a store (Table 17.5). -/
def State.storeDone (s : State) (x : Store) : State :=
  let n := 1 - s.nor.newer
  let s : State := { s with nor := { s.nor with
      copies := (s.nor.copies.set n ⟨true, x.nums, x.raws⟩).modify (1 - n) fun c => { c with valid := false }
      newer := n, erasing := true, store := none } }
  (if x.ix = 0x1010 then s.measure 8 s.nor.digest else s).reply x.door x.ix x.sub 0 4 []

/-- STORE_NOR_DONE (R59, R60): a store waits for a background erase. -/
def execStoreNorDone (s : State) : Res :=
  .next (match s.nor.store with
    | some x => if s.nor.erasing then s else s.storeDone x
    | none => s)

/-- BACKGROUND_ERASE_DONE (R60). -/
def execBackgroundEraseDone (s : State) : Res := .next { s with nor := { s.nor with erasing := false } }

/-! ### A write reaches its owner (R16, R41, R95, R111) -/

/-- What a write that has been taken in has come to: whether it has been applied, or waits for a domain or for the NOR. -/
structure Taken where
  st : State
  applied : Bool

/-- The write waits for its owners' domains. -/
def State.waitOwner (s : State) (d : Door) (i sub : Nat) (b : List Byte) (w : World) (dms : List Nat) : State :=
  s.modPower fun p => { p with writes := p.writes ++ [⟨d, i, sub, b, dms, w⟩] }

/-- A write whose owner is gated: in RUN it wakes the owner's domain, in HEARTH the device (wake cause 0x800); in any other
state it is refused, as its owner does not run. -/
def State.wakeOwner (s : State) (d : Door) (i sub : Nat) (b : List Byte) (w : World) (dms : List Nat) : Except Nat Taken :=
  if s.powerState = psRun ∧ ¬ s.power.latched then .ok ⟨(s.waitOwner d i sub b w dms).forEach dms State.tempWake, false⟩
  else if s.mayWake && !s.on16 && !s.held then .ok ⟨(s.waitOwner d i sub b w dms).wake 0x800, false⟩
  else
    match s.putObject d i sub b w with
    | .error a => .error (if earlyAbort a then a else noState)
    | .ok _ => .error noState

/-- A write (R507): applied, waiting, or refused. -/
def State.take (s : State) (d : Door) (i sub : Nat) (b : List Byte) (w : World) : Except Nat Taken :=
  match s.staticCheck i sub b with
  | .error a => .error a
  | .ok _ =>
    if i = 0x1010 ∨ i = 0x1011 then (s.storeRequest d i sub (leNat b)).map fun t => ⟨t, false⟩
    else
      if s.ownerOn i (leNat b) ∨ s.powerState = psBoot then (s.putObject d i sub b w).map fun t => ⟨t, true⟩
      else s.wakeOwner d i sub b w (ownerDomains s.part i (leNat b))

/-- Whether a REQUEST of a calibration, a BIST partition or a wiring test is immediate and cannot have its tokens at once
(R463). -/
def State.deniedTokens (s : State) (i sub v : Nat) : Bool :=
  sub == 1 && bitOf v 16
    && (if i = 0x2441 then !s.tokensFree (calTokens (v % 256) (bitsOf v 15 8))
      else if i = 0x2501 then !s.tokensFree (s.tokensOf (v % 256) (bitsOf v 15 8))
      else inBlock i && ixOff i == 0xE2 && !s.tokensFree ((bitsIn 3 (scopeParts (v % 256))).map (partToken (ixStation i))))

/-- What a refusal leaves: nothing (R33), but that REFUSED_BUSY counts an immediate request that cannot be granted at once
(R463). -/
def State.refusal (s : State) (i sub : Nat) (b : List Byte) (a : Nat) : State :=
  if a = heldByOther ∧ s.deniedTokens i sub (leNat b) then s.refuseBusy else s

/-- A write, answered once its owner has applied it, or at once when it is refused (R41). -/
def State.serve (s : State) (d : Door) (i sub : Nat) (b : List Byte) (w : World) : State :=
  match s.take d i sub b w with
  | .error a => (s.refusal i sub b a).reply d i sub a 0 []
  | .ok t => if t.applied then t.st.reply d i sub 0 b.length [] else t.st

/-- A write that waited is applied by the owner that has woken. -/
def State.applyWaiting (s : State) (x : WaitingWrite) : State :=
  match s.putObject x.door x.idx x.sub x.data x.world with
  | .error a => (s.refusal x.idx x.sub x.data a).reply x.door x.idx x.sub a 0 []
  | .ok t => t.reply x.door x.idx x.sub 0 x.data.length []

/-! ### Domains wake (R81, R137, R395) -/

/-- What a block does as it wakes: a station core has its control store written and compared with the digest recorded at
start-up (R91; `bad` is the first word address that differs) and loads the vendor sets of its station loops; ring quad B
trains. -/
def State.blockWakes (s : State) (d : Nat) (bad : Option Nat) : State :=
  if d < 48 ∧ d % 6 = 0 then
    let i := d / 6
    let s := s.forEach [0, 1, 2] fun s g => s.loadVendor (16 + i) g 0
    match bad with
    | some a => s.storeMismatch i a
    | none => { s with stores := { s.stores with loaded := if s.stores.loaded.contains i then s.stores.loaded else s.stores.loaded ++ [i] } }
  else if d = 73 then s.ringWake
  else s

/-- DOMAIN_WAKE_DONE (R81, R82): the domain is on, and the writes that waited for it and for no other are applied in their
order; where what woke it has lapsed since, it gates. -/
def execDomainWakeDone (d : Nat) (bad : Option Nat) (s : State) : Res :=
  .next (if s.domState d = 2 ∧ ¬ s.power.lowering then
    let s := s.sramWake d
    let s := ((s.setDom d 3).clockView).blockWakes d bad
    let ready := fun (w : WaitingWrite) => w.domains.all fun x => s.domState x == 3
    let mine := s.power.writes.filter ready
    let s := s.modPower fun p => { p with writes := p.writes.filter fun w => !ready w }
    (s.forEach mine State.applyWaiting).updDomain d
  else s)

/-- Whether the access or activity of a temporary wake goes on (R81): a write that waits, a station command that woke the
domain, a BIST run of the partition, a wiring test of the station or head, the signer. -/
def State.wakeInUse (s : State) (d : Nat) : Bool :=
  (s.power.writes.any fun w => w.domains.contains d)
    || (d < 48 && ((s.stn (d / 6)).cmd.isSome || s.busy (stIx (d / 6) 0xE2)))
    || (s.bist.runs.any fun r => partDomain r.kind r.inst == some d)
    || (match s.cal.round with | some r => (calDomains r.kind r.n).contains d | none => false)
    || (d == 94 && !s.sec.signer.isEmpty)

/-- TEMPORARY_WAKE_END (R81): the access or activity that the wake served is over. -/
def execTemporaryWakeEnd (d : Nat) (s : State) : Res :=
  .next (if s.power.tempWakes.contains d ∧ ¬ s.wakeInUse d then s.endTempWake d else s)

/-! ### The doors -/

/-- Whether the node takes a frame of this kind now: FD frames while DATA_RATE in force is not 0 (Table 2.13), a bit-rate
switch while the data phase is on, which it is not on the 16 MHz oscillator (R89). -/
def State.frameOk (s : State) (fd brs : Bool) : Bool := (!fd || s.can.dataRate != 0) && (!brs || (fd && !s.on16))

/-- Whether a CAN bus carries PDOs now. -/
def State.pdoServed (s : State) (bus : Nat) : Bool :=
  s.can.booted && s.can.nmt == .operational && (pdoBuses s.can.mode).contains bus && s.busUp bus

/-- Whether the BAR2 window answers: the device is host-ready. -/
def State.windowOn (s : State) : Bool := s.reg (key 0x2100 3) == 1 && !s.power.dark

def State.modBar2 (s : State) (f : Bar2 → Bar2) : State := { s with bar2 := f s.bar2 }
def State.modCan (s : State) (f : Can → Can) : State := { s with can := f s.can }

/-- The number of a server channel (R48). -/
def chanNo (bus : Nat) (usdo : Bool) : Nat := 2 * bus + (if usdo then 1 else 0)
def State.setChan (s : State) (bus : Nat) (usdo : Bool) (x : Xfer) : State :=
  s.modCan fun c => { c with channels := c.channels.set (chanNo bus usdo) x }
def State.chan (s : State) (bus : Nat) (usdo : Bool) : Xfer := s.can.channels.getD (chanNo bus usdo) .idle

/-- What a write of a 32-bit word to the window carries to the object (R53). -/
def State.windowBytes (s : State) (i sub v : Nat) : Except Nat (List Byte) :=
  match s.lookup i sub with
  | .error a => .error a
  | .ok o =>
    if s.objAbsent i sub then .error 0x0800_0030
    else if o.acc = .const ∨ o.acc = .ro then .error 0x0601_0002
    else if o.ty.number ∧ o.ty.bytes ≤ 4 then .ok (leBytes o.ty.bytes v)
    else .error 0x0607_0010

/-- A direct write through the window: it counts as pending until it is applied or refused (R53, R56). -/
def State.windowWrite (s : State) (i sub v : Nat) (w : World) : State :=
  let s := s.modBar2 fun b => { b with winPending := min (b.winPending + 1) 65535 }
  match s.windowBytes i sub v with
  | .error a => s.reply .bar2 i sub a 0 []
  | .ok b => s.serve .bar2 i sub b w

/-- A write through a door, whole: an expedited or completed SDO, one mapped value of an RPDO, a direct word, the commit of the
open transfer that holds these bytes, a Set Object, or an internal access. Through a door that is shut nothing happens. -/
def State.access (s : State) (d : Door) (i sub : Nat) (b : List Byte) (w : World) : State :=
  match d with
  | .sdo bus usdo => if s.sdoServed bus then (s.setChan bus usdo .idle).serve d i sub b w else s
  | .pdo bus _ => if s.pdoServed bus then s.serve d i sub b w else s
  | .bar2 => if s.windowOn then s.windowWrite i sub (leNat b) w else s
  | .seg =>
    if s.windowOn ∧ s.bar2.state = .openWrite ∧ s.bar2.openObject = sub * 65536 + i ∧ s.bar2.data = b then
      (s.modBar2 fun x => { x with state := .busy, result := none }).serve d i sub b w
    else s
  | .nvme c cid =>
    match s.turn c cid with
    | some x => if x.sq = 0 then (s.modCtx x.seq fun y => { y with op := .dictionary }).serve d i sub b w else s
    | none => s
  | .inner => if s.power.dark then s else s.serve d i sub b w

/-- What the world decides where nothing is left to it: no column reachable, programming done, success. -/
def World.plain : World := ⟨0, .done, true⟩

/-- A write of a number in the type of its object. -/
def State.put (s : State) (d : Door) (i sub v : Nat) (w : World) : State :=
  s.access d i sub (leBytes (match findObj i sub with | some o => if o.ty.number then o.ty.bytes else 4 | none => 4) v) w

end Sys2Proof.Machine
end

