-- ==== Sys2Proof/Machine/Can.lean ====
section
/-! DEFINITION. CAN and CAN FD (R42 to R51, R61, R63, R508): SDO and USDO channels, NMT, PDOs, SYNC, heartbeats and the
states of the controllers. -/

namespace Sys2Proof.Machine

/-! ### SDO and USDO (R38, R40, R48) -/

/-- Data bytes of an expedited frame, and of a segment: 4 and 7 of an SDO (CiA 301); of a USDO 56 in both (log entry 31). -/
def expedited (usdo : Bool) : Nat := if usdo then 56 else 4
def segmentBytes (usdo : Bool) : Nat := if usdo then 56 else 7

/-- A read of result data of another channel of the bus holds the bus's one snapshot (R38). -/
def State.snapshotHeld (s : State) (bus i sub : Nat) : Bool :=
  (resultData i sub).isSome && [false, true].any fun u =>
    match s.chan bus u with
    | .upload a b _ _ => (resultData a b).isSome
    | _ => false

/-- An SDO or USDO read: answered in one frame, or begun as a segmented transfer from a snapshot, whose first frame gives the
length in four bytes. -/
def State.sdoRead (s : State) (bus : Nat) (usdo : Bool) (i sub : Nat) : State :=
  let d := Door.sdo bus usdo
  match s.readObject d i sub with
  | .error a => s.reply d i sub a 0 []
  | .ok (_, b) =>
    if b.length ≤ expedited usdo then s.reply d i sub 0 b.length b
    else if s.snapshotHeld bus i sub then s.reply d i sub 0x0504_0005 0 []
    else (s.setChan bus usdo (.upload i sub b false)).reply d i sub 0 b.length (leBytes 4 b.length)

/-- A segmented write begins (R40): existence, access and the length announced are checked (R507), and no path may hold the
object. A length of 0 announces none. -/
def State.sdoBegin (s : State) (bus : Nat) (usdo : Bool) (i sub total : Nat) : State :=
  let d := Door.sdo bus usdo
  let a := s.openCheck i sub (if total = 0 then none else some total)
  if a ≠ 0 then s.reply d i sub a 0 []
  else (s.setChan bus usdo (.download i sub [] total false)).reply d i sub 0 total []

/-- SDO_INITIATE (R48): a transfer in progress on the channel ends without a frame, and the request is served. -/
def execSdoInitiate (bus : Nat) (usdo : Bool) (i sub : Nat) (req : SdoReq) (brs : Bool) (w : World) (s : State) : Res :=
  .next (if s.sdoServed bus ∧ s.frameOk usdo brs then
    let s := s.setChan bus usdo .idle
    match req with
    | .read => s.sdoRead bus usdo i sub
    | .write b => s.serve (.sdo bus usdo) i sub b w
    | .begin_ total => s.sdoBegin bus usdo i sub total
    | .block => s.reply (.sdo bus usdo) i sub 0x0504_0001 0 []
  else s)

/-- An abort frame ends the transfer of a channel; nothing is applied. -/
def State.sdoEnd (s : State) (bus : Nat) (usdo : Bool) (a : Nat) : State :=
  (s.setChan bus usdo .idle).emit (.sdoAbort bus usdo a)

/-- A segment of a write: the last one applies the transfer in one step (R40); bytes that disagree with the length announced
are 0x0607_0010. -/
def State.sdoData (s : State) (bus : Nat) (usdo : Bool) (i sub : Nat) (got : List Byte) (total : Nat) (toggle last : Bool)
    (w : World) : State :=
  if last then
    let s := s.setChan bus usdo .idle
    if total ≠ 0 ∧ got.length ≠ total then s.reply (.sdo bus usdo) i sub 0x0607_0010 0 []
    else s.serve (.sdo bus usdo) i sub got w
  else (s.setChan bus usdo (.download i sub got total (!toggle))).reply (.sdo bus usdo) i sub 0 0 []

/-- SDO_SEGMENT (R48). -/
def execSdoSegment (bus : Nat) (usdo : Bool) (seg : SdoSeg) (brs : Bool) (w : World) (s : State) : Res :=
  .next (if s.sdoServed bus ∧ s.frameOk usdo brs then
    match s.chan bus usdo, seg with
    | .upload i sub rest t, .next u =>
      if t ≠ u then s.sdoEnd bus usdo 0x0503_0000
      else
        let n := segmentBytes usdo
        let s := s.setChan bus usdo (if rest.length ≤ n then .idle else .upload i sub (rest.drop n) (!t))
        s.reply (.sdo bus usdo) i sub 0 rest.length (rest.take n)
    | .download i sub got total t, .data u b last =>
      if t ≠ u then s.sdoEnd bus usdo 0x0503_0000 else s.sdoData bus usdo i sub (got ++ b) total t last w
    | _, _ => s.sdoEnd bus usdo 0x0504_0001
  else s)

/-- SDO_TIMEOUT (R48): in STOPPED the transfer ends without a frame (R44). -/
def execSdoTimeout (bus : Nat) (usdo : Bool) (s : State) : Res :=
  .next (if s.chan bus usdo = .idle then s
  else if s.sdoServed bus then s.sdoEnd bus usdo 0x0504_0000
  else s.setChan bus usdo .idle)

/-! ### PDOs (R46, R49) -/

def State.pdo (s : State) (n : Nat) : Pdo := s.can.pdos.getD n ⟨false, none, 0, 0, false, false, 0, []⟩
def State.modPdo (s : State) (n : Nat) (f : Pdo → Pdo) : State := s.modCan fun c => { c with pdos := c.pdos.modify n f }
def State.rpdoOn (s : State) (n : Nat) : Bool := !bitOf (s.reg (key (0x1400 + n) 1)) 31
def State.tpdoOn (s : State) (n : Nat) : Bool := !bitOf (s.reg (key (0x1800 + n) 1)) 31
def State.tpdoType (s : State) (n : Nat) : Nat := s.reg (key (0x1800 + n) 2)

/-- Send a TPDO on the buses that carry PDOs; its inhibit time begins. -/
def State.tpdoSend (s : State) (n : Nat) : State :=
  if s.can.nmt = .operational ∧ s.tpdoOn n then
    let b := s.tpdoBytes n
    let s := s.emitOn (pdoBuses s.can.mode) fun bus => .tpdo bus n b
    s.modPdo n fun p => { p with pending := false, inhibit := s.reg (key (0x1800 + n) 3) != 0, syncs := 0, last := b }
  else s

/-- A change to send, or an event time that is over: at once, or when the inhibit time ends. -/
def State.tpdoAsk (s : State) (n : Nat) : State :=
  if (s.pdo n).inhibit then s.modPdo n fun p => { p with pending := true } else s.tpdoSend n

/-- A change of a mapped value (R49): type 254 or 255 sends, type 0 waits for the next SYNC. -/
def State.tpdoChange (s : State) (n : Nat) : State :=
  if s.tpdoBytes n = (s.pdo n).last then s
  else
    let s := s.tpdoMark n
    let t := s.tpdoType n
    if ¬ s.tpdoOn n ∨ s.can.nmt ≠ .operational then s
    else if 254 ≤ t then s.tpdoAsk n
    else if t = 0 then s.modPdo n fun p => { p with pending := true }
    else s

/-- Watchman compares the mapped values as time passes. -/
def State.tpdoScan (s : State) : State := s.forEach ((List.range 8).filter s.tpdoOn) State.tpdoChange

/-- TPDO_EVENT_TIMER (R49). -/
def execTpdoEventTimer (n : Nat) (s : State) : Res :=
  .next (if s.reg (key (0x1800 + n) 5) ≠ 0 ∧ 254 ≤ s.tpdoType n ∧ s.can.nmt = .operational ∧ s.tpdoOn n then s.tpdoAsk n else s)

/-- TPDO_INHIBIT_EXPIRY (R49). -/
def execTpdoInhibitExpiry (n : Nat) (s : State) : Res :=
  .next (let p := s.pdo n
    let s := s.modPdo n fun p => { p with inhibit := false }
    if p.inhibit ∧ p.pending ∧ 254 ≤ s.tpdoType n then s.tpdoSend n else s)

/-- The writes that the bytes of an RPDO make: index, sub-index and data of each mapped entry. -/
def rpdoWrites : List Nat → List Byte → List (Nat × Nat × List Byte)
  | [], _ => []
  | v :: r, b =>
    let n := v % 256 / 8
    (if n = 0 then [] else [(v / 65536, bitsOf v 15 8, b.take n)]) ++ rpdoWrites r (b.drop n)

def State.rpdoEntries (s : State) (n : Nat) : List Nat :=
  (List.range (s.reg (key (0x1600 + n) 0))).map fun e => s.reg (key (0x1600 + n) (e + 1))

/-- The mapped writes of RPDO `n` in order, or the abort of the first that is refused. -/
def State.rpdoApply (s : State) (bus n : Nat) : List (Nat × Nat × List Byte) → Except Nat State
  | [] => .ok s
  | (i, sub, b) :: r =>
    match s.take (.pdo bus n) i sub b World.plain with
    | .error a => .error a
    | .ok t => t.st.rpdoApply bus n r

/-- An RPDO takes effect: its writes, or its discard as a whole; too few bytes raise EMCY 0x8210 (DESIGN CHOICE: no Ledger
record goes with it, so its event code is 0, and its detail is the number of the RPDO; log entry 106). -/
def State.rpdoTake (s : State) (bus n : Nat) (data : List Byte) : State :=
  let e := s.rpdoEntries n
  if 8 * data.length < (e.map (· % 256)).sum then s.raiseEmcy 0x8210 0 0 n false
  else
    match s.rpdoApply bus n (rpdoWrites e data) with
    | .ok t => t
    | .error a => s.pdoDiscard n a

/-- RPDO_RECEIVED (R46, R49): in redundant mode one that came on the other bus within one heartbeat period is not applied
again (DESIGN CHOICE: while object 0x1017 is 0 there is no period, and both are applied; log entry 107); a synchronous one
waits for the next SYNC. -/
def execRpdoReceived (bus n : Nat) (data : List Byte) (brs : Bool) (s : State) : Res :=
  .next (if s.pdoServed bus ∧ s.rpdoOn n ∧ s.frameOk (brs || decide (8 < data.length)) brs then
    let p := s.pdo n
    let period := s.reg (key 0x1017 0) * 1000
    if s.can.mode = 0 ∧ p.lastBus ≠ bus + 1 ∧ p.lastBus ≠ 0 ∧ s.now < p.lastAt + period then s
    else
      let s := s.modPdo n fun p => { p with lastBus := bus + 1, lastAt := s.now }
      if s.reg (key (0x1400 + n) 2) ≤ 240 then s.modPdo n fun p => { p with waiting := some data } else s.rpdoTake bus n data
  else s)

/-- A SYNC at one TPDO: type 0 sends a change, types 1 to 240 send at every n-th SYNC. -/
def State.tpdoSync (s : State) (n : Nat) : State :=
  let t := s.tpdoType n
  if ¬ s.tpdoOn n then s
  else if t = 0 then (if (s.pdo n).pending then s.tpdoSend n else s)
  else if t ≤ 240 then
    (if t ≤ (s.pdo n).syncs + 1 then s.tpdoSend n else s.modPdo n fun p => { p with syncs := p.syncs + 1 })
  else s

/-- A SYNC at one RPDO: what waited takes effect. -/
def State.rpdoSync (s : State) (bus n : Nat) : State :=
  match (s.pdo n).waiting with
  | none => s
  | some b => ((s.modPdo n fun p => { p with waiting := none })).rpdoTake bus n b

/-- SYNC_RECEIVED (R42, Table 2.4). -/
def execSyncReceived (bus : Nat) (s : State) : Res :=
  .next (if s.pdoServed bus then
    (s.forEach (List.range 8) fun s n => s.rpdoSync bus n).forEach (List.range 8) State.tpdoSync
  else s)

/-! ### NMT (R43, R44) -/

/-- An NMT command takes effect once the node has booted. -/
def State.nmtTo (s : State) (n : Nmt) : State := if s.can.booted then s.modCan fun c => { c with nmt := n } else s

/-- NMT_START (R44): the TPDOs compare from here. -/
def execNmtStart (s : State) : Res := .next ((s.nmtTo .operational).forEach (List.range 8) State.tpdoMark)
def execNmtStop (s : State) : Res := .next (s.nmtTo .stopped)
def execNmtEnterPreOperational (s : State) : Res := .next (s.nmtTo .preOperational)

/-- The settings that a reset communication reloads (R43). -/
def commKey (k : Nat) : Bool := storedKey 2 k

/-- Reset communication (R43): the settings from the stored set or the defaults, bit timing and node-ID anew, the boot-up
message. The error register, the history, what stands, and the frames held stay. -/
def State.resetComm (s : State) : State :=
  if !s.can.booted then s
  else
    let rom := s.powerState == psRecovery || s.power.fuseFailed || s.lc == lcScrapped
    let s := s.modCan fun c => { c with
      booted := false, channels := List.replicate 4 .idle, consumers := List.replicate 4 false
      pdos := c.pdos.map fun p => ⟨p.discarded, none, 0, 0, false, false, 0, []⟩ }
    let s := ({ s with regs := s.regs.filter fun p => !commKey p.1 }).applyStored commKey
    let s := s.canApply
    let strap := s.reg (key 0x2010 1)
    let s := if rom && strap == 0 then s.applyNode 127 else s
    s.canBoot

/-- NMT_RESET_COMMUNICATION. -/
def execNmtResetCommunication (s : State) : Res := .next s.resetComm
/-- NMT_RESET_NODE (R43): as reset communication. -/
def execNmtResetNode (s : State) : Res := .next s.resetComm

/-! ### Heartbeats (R46, R51, R61) -/

/-- HEARTBEAT_TIMER. -/
def execHeartbeatTimer (s : State) : Res :=
  .next (if s.can.booted ∧ s.reg (key 0x1017 0) ≠ 0 then
    s.emitOn (serviceBuses s.can.mode) fun bus => .heartbeat bus s.can.nmt
  else s)

/-- The node and the time in ms of consumer entry `j`. -/
def State.consumed (s : State) (j : Nat) : Nat × Nat :=
  let v := s.reg (key 0x1016 j)
  (bitsOf v 23 16, v % 65536)

/-- HEARTBEAT_RECEIVED: the timers of the node start anew. -/
def execHeartbeatReceived (node : Nat) (s : State) : Res :=
  .next (if s.can.booted then
    let on := fun j => s.can.consumers.getD j false || ((s.consumed (j + 1)).1 == node && (s.consumed (j + 1)).2 != 0)
    s.modCan fun c => { c with consumers := (List.range 4).map on }
  else s)

/-- HEARTBEAT_CONSUMER_TIMEOUT (R51) of entry `j`, 1 to 4: EMCY 0x8130, record 0x0202, and the reaction of object 0x1029. -/
def execHeartbeatConsumerTimeout (j : Nat) (s : State) : Res :=
  .next (if 1 ≤ j ∧ s.can.consumers.getD (j - 1) false then
    let s := s.modCan fun c => { c with consumers := c.consumers.set (j - 1) false }
    let s := s.post 0x0202 0 (leBytes 1 (s.consumed j).1) (some ⟨0x8130, false⟩)
    let r := s.reg (key 0x1029 1)
    if r = 0 then s.nmtTo .preOperational else if r = 2 then s.nmtTo .stopped else s
  else s)

/-! ### EMCY and the controllers (R47, R50, R508) -/

/-- EMCY_INHIBIT_EXPIRY (R508). -/
def execEmcyInhibitExpiry (s : State) : Res :=
  .next (if s.can.emcyInhibit then
    let held := s.can.held
    let s := s.modCan fun c => { c with held := [], emcyInhibit := false }
    s.forEach held State.sendEmcy
  else s)

/-- ERROR_HISTORY_CLEAR (R508): a write of 0 to 0x1003:00. -/
def execErrorHistoryClear (d : Door) (s : State) : Res := .next (s.put d 0x1003 0 0 World.plain)

def State.busState (s : State) (bus : Nat) : BusState := s.can.buses.getD bus .disabled

/-- A controller's state, with its bits of BUS_STATE. -/
def State.setBus (s : State) (bus : Nat) (b : BusState) : State :=
  let v := b.bits
  let old := s.reg (key 0x2010 9)
  let s := s.modCan fun c => { c with buses := c.buses.set bus b }
  s.setReg (key 0x2010 9) (if bus = 0 then old / 4 * 4 + v else old % 4 + 4 * v)

/-- CAN_BUS_OFF (R47): the controller stops transmitting; record 0x0203. -/
def execCanBusOff (bus : Nat) (s : State) : Res :=
  .next (if s.busUp bus ∧ ¬ s.power.dark then (s.setBus bus .busOff).note 0x0203 0 (leBytes 1 bus) else s)

/-- BUS_OFF_RECOVERY (R47): the controller rejoins and sends EMCY 0x8140 (DESIGN CHOICE: no Ledger record goes with it, so its
event code is 0, and its detail is the number of the bus; log entry 106). -/
def execBusOffRecovery (bus : Nat) (s : State) : Res :=
  .next (if s.busState bus = .busOff then (s.setBus bus .active).raiseEmcy 0x8140 0 0 bus false else s)

/-- CAN_ERROR_PASSIVE (R50): entering and leaving change BUS_STATE and raise EMCY 0x8120. -/
def execCanErrorPassive (bus : Nat) (passive : Bool) (s : State) : Res :=
  .next (if s.power.dark then s
  else
    match s.busState bus, passive with
    | .active, true => (s.setBus bus .passive).raiseEmcy 0x8120 0 0 bus false
    | .passive, false => (s.setBus bus .active).raiseEmcy 0x8120 0 0 bus false
    | _, _ => s)

end Sys2Proof.Machine
end

