-- ==== Sys2Proof/Machine/Clock.lean ====
section
/-! DEFINITION. The passing of time: on an empty queue the device clock goes on by one microsecond, and a clamp that moves takes its
set-point every 50 µs (R216), which no row of the table is. What a time-out does is a command of its own (the table's expiry
rows), so the clock changes nothing else (log entry 2). -/

namespace Sys2Proof.Machine

/-- One microsecond passes. -/
def State.tick (s : State) : State := ({ s with now := s.now + 1 }).forEach (List.range s.part.stations) State.clampPoint

end Sys2Proof.Machine
end

