-- ==== Sys2Proof/Machine/Window.lean ====
section
/-! DEFINITION. The BAR2 window (R53 to R56) and the NVMe Get Object and Set Object (R57, R58). -/

namespace Sys2Proof.Machine

/-! ### The segmented transfer (R55) -/

/-- The last segmented operation's abort code. -/
def State.segAbort (s : State) (a : Nat) : State := s.modBar2 fun b => { b with segAbort := a }

/-- The index and the sub-index in SEG_OBJECT. -/
def Bar2.ix (b : Bar2) : Nat := b.segObject % 65536
def Bar2.sx (b : Bar2) : Nat := bitsOf b.segObject 23 16
def Bar2.busyOrOpen (b : Bar2) : Bool := b.state == .openRead || b.state == .openWrite || b.state == .busy

/-- A refused open ends at ERROR. -/
def State.openFailed (s : State) (a : Nat) : State := s.modBar2 fun b => { b with state := .error, segAbort := a, data := [] }

/-- OP 1: the snapshot, SEG_LENGTH and STATE. -/
def State.openRead (s : State) : State :=
  if s.bar2.busyOrOpen then s.segAbort heldByOther
  else
    match s.readObject .seg s.bar2.ix s.bar2.sx with
    | .error a => s.openFailed a
    | .ok (_, d) => s.modBar2 fun b => { b with
        state := .openRead, segAbort := 0, segLength := d.length, data := d, openObject := b.segObject }

/-- OP 2: SEG_LENGTH is checked against the object, and no path may be writing it (R40). -/
def State.openWrite (s : State) : State :=
  let i := s.bar2.ix
  let sub := s.bar2.sx
  let n := s.bar2.segLength
  if s.bar2.busyOrOpen then s.segAbort heldByOther
  else
    let a := s.openCheck i sub (some n)
    if a ≠ 0 then s.openFailed a
    else s.modBar2 fun b => { b with
      state := .openWrite, segAbort := 0, data := List.replicate n 0, openObject := b.segObject }

/-- OP 3: the commit begins; a write that is not open is discarded. -/
def State.commitSeg (s : State) (w : World) : State :=
  if s.bar2.state = .openWrite then
    let b := s.bar2
    (s.modBar2 fun x => { x with state := .busy, result := none }).serve .seg (b.openObject % 65536) (b.openObject / 65536) b.data w
  else s.segAbort 0x0504_0001

/-- OP 4. -/
def State.closeSeg (s : State) : State :=
  if s.bar2.state = .busy then s.segAbort heldByOther
  else s.modBar2 fun b => { b with state := .idle, segAbort := 0, data := [] }

/-- A write of SEG_OFFSET. -/
def State.offsetWrite (s : State) (v : Nat) : State :=
  if v % 4 = 0 then s.modBar2 fun b => { b with segOffset := v } else s.segAbort 0x0609_0030

/-- A word written into the aperture at byte `o`: bytes beyond the transfer's length are ignored. -/
def State.apertureWrite (s : State) (o v : Nat) : State :=
  if s.bar2.state = .openWrite then
    let at_ := s.bar2.segOffset + o
    s.modBar2 fun b => { b with data := (List.range 4).foldl (fun d j => d.set (at_ + j) (BitVec.ofNat 8 (v / 256 ^ j))) b.data }
  else s

/-- The word of the aperture at byte `o`: bytes beyond the transfer's length read 0. -/
def State.apertureRead (s : State) (o : Nat) : Nat :=
  if s.bar2.state = .openRead ∨ s.bar2.state = .openWrite then
    leNat ((List.range 4).map fun j => s.bar2.data.getD (s.bar2.segOffset + o + j) 0)
  else 0

/-- A window command has an effect while the window answers. -/
def State.atWindow (s : State) (f : State → State) : Res := .next (if s.windowOn then f s else s)

def execSegOpenRead (s : State) : Res := s.atWindow State.openRead
def execSegOpenWrite (s : State) : Res := s.atWindow State.openWrite
def execSegCommitWrite (w : World) (s : State) : Res := s.atWindow fun s => s.commitSeg w
/-- SEG_COMMIT_DONE: the write has been applied or refused. -/
def execSegCommitDone (s : State) : Res :=
  .next (match s.bar2.state, s.bar2.result with
    | .busy, some a => s.modBar2 fun b => { b with
        state := if a = 0 then .idle else .error, segAbort := a, data := [], result := none }
    | _, _ => s)
def execSegClose (s : State) : Res := s.atWindow State.closeSeg
def execSegOffsetWrite (v : Nat) (s : State) : Res := s.atWindow fun s => s.offsetWrite v
/-- SEG_WINDOW_TIMEOUT: a transfer left open is closed. -/
def execSegWindowTimeout (s : State) : Res :=
  .next (if s.bar2.state = .openRead ∨ s.bar2.state = .openWrite then
    s.modBar2 fun b => { b with state := .idle, segAbort := 0x0504_0000, data := [] }
  else s)
def execSegCtrlInvalidOp (s : State) : Res := s.atWindow fun s => s.segAbort 0x0504_0001

/-- A write of a window register (Table 2.7); read-only and reserved ones ignore it. SEG_LENGTH rewritten while a transfer is
OPEN is what the register reads from then on (DESIGN CHOICE: the transfer keeps the length it took at its open, for the
aperture and the commit; log entry 108). -/
def State.windowReg (s : State) (off v : Nat) (w : World) : State :=
  if off = 0 then s.modBar2 fun b => { b with segObject := v % 2 ^ 24 }
  else if off = 4 then
    (match v % 8 with
     | 1 => s.openRead
     | 2 => s.openWrite
     | 3 => s.commitSeg w
     | 4 => s.closeSeg
     | _ => s.segAbort 0x0504_0001)
  else if off = 8 then s.modBar2 fun b => { b with segLength := v }
  else if off = 0x0C then s.offsetWrite v
  else if 0x100 ≤ off ∧ off < 0x200 ∧ off % 4 = 0 then s.apertureWrite (off - 0x100) v
  else s

/-- SEG_WINDOW_REGISTER_WRITE: SEG_OBJECT, SEG_LENGTH or SEG_APERTURE. -/
def execSegWindowRegisterWrite (off v : Nat) (s : State) : Res :=
  s.atWindow fun s => if off = 0 ∨ off = 8 ∨ 0x100 ≤ off then s.windowReg off v World.plain else s

/-- What a window register reads (R54, R56): WIN_ABORT is cleared by its read. -/
def State.windowRead (s : State) (off : Nat) : State :=
  let b := s.bar2
  let st := match b.state with | .idle => 0 | .openRead | .openWrite => 1 | .busy => 2 | .error => 3
  if off = 0x18 then (s.modBar2 fun b => { b with winAbort := 0 }).emit (.word b.winAbort)
  else
    s.emit (.word (if off = 0 then b.segObject else if off = 8 then b.segLength else if off = 0x0C then b.segOffset
      else if off = 0x10 then st else if off = 0x14 then b.segAbort else if off = 0x1C then b.winAbortObject
      else if off = 0x20 then b.winPending else if off = 0x24 then b.winRefused
      else if 0x100 ≤ off ∧ off < 0x200 then s.apertureRead (off - 0x100) else 0))

/-- WIN_ABORT_READ (R56). -/
def execWinAbortRead (s : State) : Res := s.atWindow fun s => s.windowRead 0x18

/-! ### Direct accesses (R53) -/

/-- A refused direct access: WIN_ABORT, its object and WIN_REFUSED. -/
def State.windowRefuse (s : State) (i sub a : Nat) : State :=
  s.modBar2 fun b => { b with
    winAbort := a, winAbortObject := sub * 65536 + i, winRefused := min (b.winRefused + 1) (2 ^ 32 - 1) }

/-- The abort of a direct access of another width than 32 bits: existence and class go before the width (R507). -/
def State.widthAbort (s : State) (i sub : Nat) (write : Bool) : Nat :=
  if i = 0 then 0x0601_0000
  else
    match s.lookup i sub with
    | .error a => a
    | .ok o =>
      if write then
        (if s.objAbsent i sub then 0x0800_0030 else if o.acc = .const ∨ o.acc = .ro then 0x0601_0002 else 0x0601_0000)
      else if o.acc = .wo ∧ ¬ s.objAbsent i sub then 0x0601_0001 else 0x0601_0000

/-- BAR2_DIRECT_WRITE: index 0 is the window's own registers, `sub` the word. -/
def execBar2DirectWrite (i sub width v : Nat) (w : World) (s : State) : Res :=
  s.atWindow fun s =>
    if width ≠ 4 then s.windowRefuse i sub (s.widthAbort i sub true)
    else if i = 0 then s.windowReg (4 * sub) v w
    else s.windowWrite i sub v w

/-- A number as a 32-bit word: INTEGER8 and INTEGER16 sign-extended. -/
def wordOf (t : Ty) (b : List Byte) : Nat := if t.signed then ofSigned 32 (toSigned (8 * t.bytes) (leNat b)) else leNat b

/-- Whether an object that can be read is wider than the window's word, or no number: step 3 of Table 2.14 (R53). -/
def State.tooWide (s : State) (i sub : Nat) : Bool :=
  match s.lookup i sub with
  | .error _ => false
  | .ok o => !s.objAbsent i sub && o.acc != .wo && !(o.ty.number && decide (o.ty.bytes ≤ 4))

/-- A direct read: a refused one returns 0. -/
def State.directRead (s : State) (i sub : Nat) : State :=
  if s.tooWide i sub then (s.windowRefuse i sub 0x0607_0010).emit (.word 0)
  else
    match s.readObject .bar2 i sub with
    | .error a => (s.windowRefuse i sub a).emit (.word 0)
    | .ok (o, b) => s.emit (.word (if s.objAbsent i sub then 0 else wordOf o.ty b))

/-- BAR2_DIRECT_READ. -/
def execBar2DirectRead (i sub width : Nat) (s : State) : Res :=
  s.atWindow fun s =>
    if width ≠ 4 then (s.windowRefuse i sub (s.widthAbort i sub false)).emit (.word 0)
    else if i = 0 then s.windowRead (4 * sub)
    else s.directRead i sub

/-! ### Get Object and Set Object (R57, R58) -/

/-- A refused Get Object or Set Object. -/
def objectRefused (a : Nat) : Cpl := ⟨.code 1 0xC0, abortFinal a, a, 0⟩

/-- What Get Object and Set Object check of LENGTH and OFFSET (Table 2.8), as step 3 of Table 2.14: LENGTH is 1 to 65,536,
and OFFSET 0 for an object of up to 64 bits (DEDUCED: the codes are the length codes of Table 2.6; log entry 29). -/
def pieceCheck (o : Obj) (off len : Nat) : Nat :=
  if len = 0 then 0x0607_0013
  else if 65536 < len then 0x0607_0012
  else if o.ty.number ∧ off ≠ 0 then 0x0607_0010
  else 0

/-- GET_OBJECT: the checks of steps 1 to 3, then what the read answers. -/
def execGetObject (c cid i sub off len : Nat) (s : State) : Res :=
  s.adminCmd c cid fun s x =>
    let early := match s.lookup i sub with
      | .error _ => 0
      | .ok o => if o.acc = .wo ∧ ¬ s.objAbsent i sub then 0 else pieceCheck o off len
    if early ≠ 0 then s.complete x.seq (objectRefused early)
    else
      match s.readObject (.nvme c cid) i sub with
      | .error a => s.complete x.seq (objectRefused a)
      | .ok (_, b) =>
        let d := (b.drop off).take len
        (if d.isEmpty then s else s.emit (.bytes c 0 cid d)).complete x.seq (cplOk b.length 0)

/-- A piece of a segmented write of an object of `n` bytes: it goes on where the last piece ended, and is applied when it
reaches the length. -/
def State.setPiece (s : State) (x : Ctx) (i sub off n : Nat) (data : List Byte) (w : World) : State :=
  let old := s.nvme.objects.find? fun y => y.idx == i && y.sub == sub
  let drop := fun (s : State) => s.modNvme fun v => { v with objects := v.objects.filter fun y => !(y.idx == i && y.sub == sub) }
  let got := (match old with | some y => y.got | none => []) ++ data
  if off = 0 ∧ s.segmentHeld i sub then s.complete x.seq (objectRefused heldByOther)
  else if off != 0 && (match old with | some y => y.ctrl != x.ctrl || y.got.length != off | none => true) then
    s.complete x.seq (objectRefused 0x0800_0000)
  else if n < got.length then s.complete x.seq (objectRefused 0x0607_0012)
  else if got.length = n then ((drop s).modCtx x.seq fun y => { y with op := .dictionary }).serve (.nvme x.ctrl x.cid) i sub got w
  else ((drop s).modNvme fun v => { v with objects := v.objects ++ [⟨x.ctrl, i, sub, got⟩] }).complete x.seq (cplOk n 0)

/-- What a further piece makes of an object of any length (Tables 9.9, 17.7, 17.8): it goes on where the last one ended, so
each piece leaves the object as long as has come (DEDUCED: such an object has no length to reach before its last piece;
log entry 29). -/
def State.setMore (s : State) (x : Ctx) (i sub off : Nat) (data : List Byte) (w : World) : State :=
  let old := s.raw (key i sub)
  if old.length ≠ off then s.complete x.seq (objectRefused 0x0800_0000)
  else (s.modCtx x.seq fun y => { y with op := .dictionary }).serve (.nvme x.ctrl x.cid) i sub (old ++ data) w

/-- SET_OBJECT: an object of up to 64 bits, one of free length, or one that comes whole, is written at once; a longer one in
pieces. -/
def execSetObject (c cid i sub off : Nat) (data : List Byte) (w : World) (s : State) : Res :=
  s.adminCmd c cid fun s x =>
    let whole := (s.modCtx x.seq fun y => { y with op := .dictionary }).serve (.nvme c cid) i sub data w
    match s.lookup i sub with
    | .error a => s.complete x.seq (objectRefused a)
    | .ok o =>
      let n := pieceCheck o off data.length
      if s.objAbsent i sub then s.complete x.seq (objectRefused 0x0800_0030)
      else if o.acc = .const ∨ o.acc = .ro then s.complete x.seq (objectRefused 0x0601_0002)
      else if n ≠ 0 then s.complete x.seq (objectRefused n)
      else if o.ty.number ∨ (off = 0 ∧ (anyLength i sub ∨ o.ty.bytes ≤ data.length)) then whole
      else if anyLength i sub then s.setMore x i sub off data w
      else s.setPiece x i sub off o.ty.bytes data w

end Sys2Proof.Machine
end

