-- ==== Sys2Proof/Machine/DictCmds.lean ====
section
/-! DEFINITION. The commands that are a write of one object through a door (R507 and each object's own rule): a write without a
row of its own, stores, power, stations, loops, and the requests of every chapter. -/

namespace Sys2Proof.Machine

/-- The bytes that the data of a write stand for. -/
def valBytes : Val → List Byte
  | .num n v => leBytes n v
  | .raw b => b

/-- DICT_WRITE (R507). -/
def execDictWrite (d : Door) (i sub : Nat) (v : Val) (w : World) (s : State) : Res := .next (s.access d i sub (valBytes v) w)

/-- A write of a number that leaves nothing to the world. -/
def State.write (s : State) (d : Door) (i sub v : Nat) : Res := .next (s.put d i sub v World.plain)

/-! ### Stores (R59) and power (R509) -/

def execStoreParameters (d : Door) (sub v : Nat) (s : State) : Res := s.write d 0x1010 sub v
def execRestoreDefaults (d : Door) (sub v : Nat) (s : State) : Res := s.write d 0x1011 sub v
def execEnterHearth (d : Door) (s : State) : Res := s.write d 0x2100 2 1
def execWake (d : Door) (s : State) : Res := s.write d 0x2100 2 2
def execClearFailed (d : Door) (s : State) : Res := s.write d 0x2100 2 3

/-! ### Stations (R109, R110, R113, R123, R125) -/

/-- A station command: its code, TARGET, STROBE and FORCE (Table 5.4). -/
def State.stationCmd (s : State) (d : Door) (st code target strobe : Nat) (force : Bool) : Res :=
  s.write d (stIx st 1) 1 (code + target * 256 + strobe * 4096 + (if force then 65536 else 0))

def execPowerUp (d : Door) (st : Nat) (s : State) : Res := s.stationCmd d st 1 0 0 false
def execLoad (d : Door) (st target strobe : Nat) (s : State) : Res := s.stationCmd d st 2 target strobe false
def execUnload (d : Door) (st : Nat) (force : Bool) (s : State) : Res := s.stationCmd d st 3 0 0 force
def execStow (d : Door) (st : Nat) (force : Bool) (s : State) : Res := s.stationCmd d st 4 0 0 force
def execPowerDown (d : Door) (st : Nat) (s : State) : Res := s.stationCmd d st 5 0 0 false
def execEnterMaint (d : Door) (st : Nat) (s : State) : Res := s.stationCmd d st 6 0 0 false
def execExitMaint (d : Door) (st : Nat) (s : State) : Res := s.stationCmd d st 7 0 0 false
def execClearFault (d : Door) (st : Nat) (s : State) : Res := s.stationCmd d st 8 0 0 false
def execStationStop (d : Door) (st v : Nat) (s : State) : Res := s.write d (stIx st 0) 0x0E v
def execStrobeFire (d : Door) (st mask : Nat) (s : State) : Res := s.write d (stIx st 2) 1 mask
def execDstrobeFire (d : Door) (st mask : Nat) (s : State) : Res := s.write d (stIx st 2) 2 mask
def execDirectOrder (d : Door) (st v : Nat) (s : State) : Res := s.write d (stIx st 3) 1 v
def execTargetRpmWrite (d : Door) (st rpm : Nat) (s : State) : Res := s.write d (stIx st 0x12) 1 rpm
def execLbaTranslate (d : Door) (st v : Nat) (s : State) : Res := s.write d (stIx st 0xC4) 1 v
def execWiringTestRequest (d : Door) (st v : Nat) (s : State) : Res := s.write d (stIx st 0xE2) 1 v

/-! ### Control engines (R134, R139, R151 to R153) -/

/-- A write of LOOP_CMD of loop `l` of engine `e`. -/
def State.loopWrite (s : State) (d : Door) (e l v : Nat) : Res := s.write d (engIx e 0) (1 + l + loopCount e) v

def execLoopCmdOff (d : Door) (e l : Nat) (s : State) : Res := s.loopWrite d e l 0
def execLoopCmdOpen (d : Door) (e l : Nat) (s : State) : Res := s.loopWrite d e l 1
def execLoopCmdHold (d : Door) (e l : Nat) (s : State) : Res := s.loopWrite d e l 3
def execLoopCmdClose (d : Door) (e l : Nat) (s : State) : Res := s.loopWrite d e l 4
def execApply (d : Door) (e : Nat) (s : State) : Res := s.write d (engIx e 6) 0x32 1
def execInjEnable (d : Door) (e v : Nat) (s : State) : Res := s.write d (engIx e 0x0B) 1 v
def execCaptureRequest (d : Door) (e v : Nat) (s : State) : Res := s.write d (engIx e 0x0C) 1 v

/-- MEASURE_LOOP of the running order 0x0B, whose PARAM names the loop: it uses POINTS and CYCLES 0 and answers in the same
object. -/
def State.measureOrdered (s : State) (e param : Nat) : State :=
  if ¬ (s.runs e 0x0B ∧ (s.sq e).started = 0) then s
  else if isHead e ∧ s.substate e = hsWriting then s.orderRejected e 1
  else if s.busy (engIx e 0x0E) then s.orderFailed e 0x0F56_0004
  else
    match (s.beginResult (engIx e 0x0E)).measureStart e (param % 16) 0 0 false with
    | (t, 0) => t.modSq e fun q => { q with started := 1 }
    | (t, code) => t.orderFailed e code

/-- MEASURE_LOOP (R153): a write of REQUEST, or, with no door, the order that runs. -/
def execMeasureLoop (d : Door) (e req : Nat) (s : State) : Res :=
  match d with
  | .inner => .next (s.measureOrdered e req)
  | d => s.write d (engIx e 0x0E) 1 req

/-! ### Read channel, Granary, HBM, ring and spread volumes -/

def execRingFrameDump (d : Door) (h v : Nat) (s : State) : Res := s.write d (chIx h 0x0D) 1 v
def execTagProbe (d : Door) (v : Nat) (s : State) : Res := s.write d 0x4403 1 v
def execHbmAddressDecode (d : Door) (v : Nat) (s : State) : Res := s.write d 0x4603 1 v
def execHbmInjectArm (d : Door) (v : Nat) (s : State) : Res := s.write d 0x4603 1 v
def execRepairMapClear (d : Door) (v : Nat) (s : State) : Res := s.write d 0x4600 0x0D v
def execRingEnableWrite (d : Door) (v : Nat) (s : State) : Res := s.write d 0x4800 1 v
def execRsFire (d : Door) (v : Nat) (s : State) : Res := s.write d 0x4803 3 v
def execCalendarTimeWrite (d : Door) (v : Nat) (s : State) : Res := s.write d 0x2300 1 v
def execVolumeCreate (d : Door) (v far : Nat) (s : State) : Res := .next (s.put d 0x4A01 1 v ⟨far, .done, true⟩)
def execVolumeDelete (d : Door) (v : Nat) (s : State) : Res := s.write d 0x4A01 1 v
def execReplaceColumn (d : Door) (v : Nat) (far : Bool) (s : State) : Res :=
  .next (s.put d 0x4A01 1 v ⟨if far then 1 else 0, .done, true⟩)

/-! ### Security and the Lathe image (chapters 9 and 17) -/

def execCustomerImageInstall (d : Door) (v : Nat) (s : State) : Res := s.write d 0x5401 1 v
def execCustomerImageErase (d : Door) (v : Nat) (s : State) : Res := s.write d 0x5401 1 v
def execLifeCycleTransition (d : Door) (v : Nat) (prog : ProgramEnd) (s : State) : Res :=
  .next (s.put d 0x5001 1 v ⟨0, prog, true⟩)
def execCustomerKeyFuse (d : Door) (v : Nat) (ok : Bool) (s : State) : Res := .next (s.put d 0x5002 1 v ⟨0, .done, ok⟩)
def execQuoteRequest (d : Door) (v : Nat) (s : State) : Res := s.write d 0x5011 1 v
def execAuthResponse (d : Door) (data : List Byte) (s : State) : Res := .next (s.access d 0x5020 3 data World.plain)
def execAuthClose (d : Door) (v : Nat) (s : State) : Res := s.write d 0x5020 6 v
def execDebugResponse (d : Door) (data : List Byte) (s : State) : Res := .next (s.access d 0x5040 2 data World.plain)
def execIdCertWrite (d : Door) (data : List Byte) (s : State) : Res := .next (s.access d 0x5012 3 data World.plain)
def execRecoveryInstall (d : Door) (v : Nat) (s : State) : Res := s.write d 0x5031 1 v

/-! ### Ledger and event configuration (chapters 18 and 20) -/

def execFlushNow (d : Door) (v : Nat) (s : State) : Res := s.write d 0x2200 6 v
def execFreezeWrite (d : Door) (v : Nat) (s : State) : Res := s.write d 0x2200 9 v
def execLedgerClear (d : Door) (v : Nat) (s : State) : Res := s.write d 0x2200 0x0D v
def execCursorWrite (d : Door) (v : Nat) (s : State) : Res := s.write d 0x2201 1 v
def execAdvance (d : Door) (v : Nat) (s : State) : Res := s.write d 0x2201 4 v
/-- EVENT_OVERRIDE_WRITE (R486) of the entry at sub-index `i`. -/
def execEventOverrideWrite (d : Door) (i v : Nat) (s : State) : Res := s.write d 0x5801 i v

/-! ### Calibration and BIST requests (R459, R466) -/

def execCalRfVisitRound (d : Door) (v : Nat) (s : State) : Res := s.write d 0x2441 1 v
def execCalHeadDacs (d : Door) (v : Nat) (s : State) : Res := s.write d 0x2441 1 v
def execCalMotorSense (d : Door) (v : Nat) (s : State) : Res := s.write d 0x2441 1 v
def execBistStationCore (d : Door) (v : Nat) (s : State) : Res := s.write d 0x2501 1 v
def execBistMotorIo (d : Door) (v : Nat) (s : State) : Res := s.write d 0x2501 1 v
def execBistHeadFrontEnd (d : Door) (v : Nat) (s : State) : Res := s.write d 0x2501 1 v
def execBistHeadChannel (d : Door) (v : Nat) (s : State) : Res := s.write d 0x2501 1 v
def execBistLdpcSlice (d : Door) (v : Nat) (s : State) : Res := s.write d 0x2501 1 v
def execBistContextSegment (d : Door) (v : Nat) (s : State) : Res := s.write d 0x2501 1 v
def execBistEcEngine (d : Door) (v : Nat) (s : State) : Res := s.write d 0x2501 1 v
def execBistWholeChip (d : Door) (v : Nat) (s : State) : Res := s.write d 0x2501 1 v

end Sys2Proof.Machine
end

