-- ==== Sys2Proof/Machine/Electrical.lean ====
section
/-! DEFINITION. Link state and receiver eyes (R91, R321, R322, R455, Table 19.11). -/

namespace Sys2Proof.Machine

/-- Ports of a host port configuration (Table 13.2). -/
def hostPorts (config : Nat) : Nat :=
  if config = 0 then 0 else if config = 1 ∨ config = 4 ∨ config = 6 then 1 else if config = 2 ∨ config = 5 then 2 else 4

/-- PCIE_LINK_UP (R321): training ends within MAX_SPEED and MAX_WIDTH, on the lanes whose domains are on. -/
def execPcieLinkUp (speed width : Nat) (s : State) : Res :=
  .next (if 1 ≤ speed ∧ speed ≤ s.reg (key 0x4000 3) ∧ [1, 2, 4, 8].contains width ∧ width ≤ s.reg (key 0x4000 4)
      ∧ s.domState 74 = 3 ∧ ¬ bitOf s.power.refLost 2 ∧ (width ≤ 4 ∨ s.domState 75 = 3) ∧ ¬ s.held then
    s.setRegs [(key 0x4000 1, speed), (key 0x4000 2, width), (key 0x4000 7, Config.ltssmL0.toNat)]
  else s)

/-- ETHERNET_LINK_CHANGE (R91, R322): of a port that the configuration has. -/
def execEthernetLinkChange (p : Nat) (up : Bool) (s : State) : Res :=
  .next (if p < hostPorts (s.reg (key 0x4100 1)) ∧ ((s.domState 72 = 3 ∧ ¬ bitOf s.power.refLost 0) ∨ ¬ up) then s.setRegBit (key 0x4100 2) p up else s)

/-- Lanes of quad A that a host port configuration uses (Table 13.2). -/
def hostLanes (config : Nat) : Nat := if config = 0 then 0 else if config = 4 ∨ config = 5 then 2 else if config = 6 then 1 else 4

/-- Whether a SerDes lane of object 0x2440 is in service: PCIe lanes of the trained width, quad A lanes of the host port, quad
B lanes on Q parts with the ring on. -/
def State.laneServes (s : State) (n : Nat) : Bool :=
  if n < 8 then decide (n < s.reg (key 0x4000 2)) && s.domState (if n < 4 then 74 else 75) == 3
  else if n < 12 then decide (n - 8 < hostLanes (s.reg (key 0x4100 1))) && s.domState 72 == 3
  else s.ringOn && s.domState 73 == 3

/-- EYE_MEASURE (R455): in RUN; a lane not in service reads 0. -/
def execEyeMeasure (heights widths : List Nat) (s : State) : Res :=
  .next (if s.powerState = psRun then
    s.forEach (List.range 16) fun s n =>
      let v := fun (l : List Nat) => if s.laneServes n then min (l.getD n 0) 65535 else 0
      s.setRegs [(key 0x2440 (1 + n), v heights), (key 0x2440 (0x11 + n), v widths)]
  else s)

/-! ### Clock references (R88, R89) -/

/-- The links of a quad whose reference is lost go down: the host ports, the ring's ports one after the other, or the PCIe
link (R89). -/
def State.refGone (s : State) (r : ClockRef) : State :=
  let lose := fun (s : State) (b : Nat) => (s.modPower fun p => { p with refLost := setBit p.refLost b }).clockView
  match r with
  | .crystal => s.crystalLoss
  | .quadA => (lose s 0).setReg (key 0x4100 2) 0
  | .quadB => ((lose s 1).ringLinkLost 0).ringLinkLost 1
  | .pcie =>
    let s := lose s 2
    if s.reg (key 0x4000 2) = 0 then s else s.linkDown.resetCtrl 0

/-- A reference is back: Hearth returns to the crystal; a quad's links train again by their own events. -/
def State.refBack (s : State) (r : ClockRef) : State :=
  let back := fun (s : State) (b : Nat) => (s.modPower fun p => { p with refLost := clrBit p.refLost b }).clockView
  match r with
  | .crystal => if s.on16 then s.clockBack else s
  | .quadA => back s 0
  | .quadB => back s 1
  | .pcie => back s 2

/-- CLOCK_LOSS (R89). -/
def execClockLoss (r : ClockRef) (s : State) : Res := .next (if s.power.dark then s else s.refGone r)

/-- CLOCK_RESTORE (R89). -/
def execClockRestore (r : ClockRef) (s : State) : Res := .next (if s.power.dark then s else s.refBack r)

end Sys2Proof.Machine
end

