-- ==== Sys2Proof/Machine/Fields.lean ====
section
/-! DEFINITION. The microwords that read and write fields of a station's block (R228, R229, R308). -/

namespace Sys2Proof.Machine

/-- The object index and the sub-index of a field address on a sequencer's station. -/
def fieldIx (e a : Nat) : Nat := stIx (engStation e) (bitsOf a 15 8)
def fieldSub (a : Nat) : Nat := a % 256

/-- What FLD reads: the low 32 bits, sign- or zero-extended; a DOMAIN reads 0. None: the address names no object. -/
def State.fieldRead (s : State) (i sub : Nat) : Option (BitVec 32) :=
  match findObj i sub with
  | none => none
  | some o =>
    match o.ty with
    | .dom _ => some 0
    | .vstr _ | .oct _ => some (BitVec.ofNat 32 (leNat ((s.readRaw .inner o i sub).take 4)))
    | t => some (BitVec.ofInt 32 (t.value (s.readNum .inner i sub)))

/-- FLD (R228): an address that names no object reads 0 and sets V. -/
def execFld (q d r imm : Nat) (s : State) : Res :=
  s.micro q 0x11 d r imm (bitOf imm 16) fun s =>
    let a := if bitOf imm 17 then ((s.sq q).reg r).toNat else imm
    match s.fieldRead (fieldIx q a) (fieldSub a) with
    | some v => s.putM q d v
    | none => (s.modSq q fun x => { x with v := true }).putM q d 0

/-- Whether a sequencer owns an object (R229, R308, Table 8.1): of a head, its B range, its sled object, its SLU or SLL set and
its write objects; of the station, the spindle, clamp and SPD objects. -/
def ownsField (e i : Nat) : Bool :=
  let o := ixOff i
  if e < 16 then
    let l := e % 2
    (0x40 + 0x40 * l ≤ o && o < 0x80 + 0x40 * l) || o == 0x20 + l || o == 0x32 + l || o == 0xD1 + l || o == 0xD3 + l || o == 0xD7 + l
  else (0x10 ≤ o && o ≤ 0x13) || o == 0x22 || o == 0x31

/-- LOOP_CMD and GUARD_ENABLE, which no sequencer writes. -/
def neverLathe (e i sub : Nat) : Bool :=
  let f := ixEngOff i
  0x30 ≤ ixOff i && ixOff i < 0xC0
    && ((f == 0 && loopCount e < sub && sub ≤ 2 * loopCount e) || (e < 16 && f == 0x18 && sub == 6))

/-- A value of 32 bits in the type of a field; none where the type does not hold it. -/
def Ty.fromWord (t : Ty) (v : BitVec 32) : Option Nat :=
  let n := 8 * t.bytes
  if !t.number then none
  else if t.signed then
    (if -(2 ^ (n - 1) : Int) ≤ v.toInt ∧ v.toInt < 2 ^ (n - 1) then some (ofSigned n v.toInt) else none)
  else if v.toNat < 2 ^ n then some v.toNat else none

/-- Whether a field is of the coefficients of a loop: an active set, or the supervisor's model. -/
def isCoefficient (i sub : Nat) : Bool :=
  let f := ixEngOff i
  (1 ≤ f && f ≤ (if ixEngine i < 16 then 5 else 3)) || (f == 7 && 0x29 ≤ sub && sub ≤ 0x3C)

/-- Whether a sequencer may write a coefficient now: an active set not while one of its loops is CLOSED or SEARCH (R135), none in a
HOLD whose overdue LATHE the engine has cleared (R140), and none while the head is WRITING (R141). -/
def State.setOpen (s : State) (o : Obj) (i sub : Nat) : Bool :=
  let e := ixEngine i
  let ls := setLoops e (if ixEngOff i = 7 then (sub - 0x29) / 4 else ixEngOff i - 1)
  !isCoefficient i sub
    || (!(isHead e && s.substate e == hsWriting) && !(ls.any fun l => (s.lp e l).overrun)
      && (match o.acc with
        | .rws .setUnlocked => !ls.any fun l => s.loopState e l == lsClosed || s.loopState e l == lsSearch
        | _ => true))

/-- A field takes a value from a sequencer: Table 9.6's reason when it is refused. -/
def State.fieldWrite (s : State) (e i sub : Nat) (v : BitVec 32) : Except Nat State :=
  match findObj i sub with
  | none => .error 5
  | some o =>
    let may := match o.acc with | .rw | .rws _ => true | _ => false
    if !may || !ownsField e i || neverLathe e i sub || s.objAbsent i sub then .error 5
    else
      match o.ty.fromWord v with
      | none => .error 4
      | some n =>
        if s.valueCheck o i sub n ≠ 0 || !s.setOpen o i sub || !s.consistent i sub n then .error 4
        else
          let act := if ixEngOff i = 0x0B ∧ sub = 1 ∧ 0x40 ≤ ixOff i then
              some (if n ≠ 0 ∧ isHead (ixEngine i) ∧ s.substate (ixEngine i) = hsWriting then .error noState else s.injWrite (ixEngine i) n true)
            else s.stationEffect i sub n
          match act with
          | some (.error _) => .error 4
          | some (.ok t) => .ok t
          | none =>
            let s := (s.setReg (key i sub) (o.kept n)).afterWrite i sub
            match loopField i sub with
            | some w => .ok (s.modEng (ixEngine i) fun g => { g with latheW := if g.latheW.contains w then g.latheW else g.latheW ++ [w] })
            | none => .ok s

/-- FST (R229): the field takes M[S]; a refused write ends the order REJECTED, or is counted inside a trap routine. -/
def execFst (q d r imm : Nat) (s : State) : Res :=
  s.micro q 0x12 d r imm (bitOf imm 16) fun s =>
    let a := if bitOf imm 17 then ((s.sq q).reg d).toNat else imm
    match s.fieldWrite q (fieldIx q a) (fieldSub a) ((s.sq q).reg r) with
    | .ok t => t.nextWord q
    | .error why => s.latheRefuse q why

end Sys2Proof.Machine
end

