-- ==== Sys2Proof/Machine/MotionCmds.lean ====
section
/-! DEFINITION. The commands of the spindle, the sleds and the clamp (chapter 8), but for the dictionary write of
TARGET_RPM. -/

namespace Sys2Proof.Machine

/-- SPIN_UP (R198, R201, R193); a BIST of the station ends (R467). -/
def execSpinUp (st : Nat) (ev : SpinEvent) (s : State) : Res :=
  .next (if s.runs (16 + st) 0x10 ∧ (s.sq (16 + st)).started = 0 then (s.bistLeave st).spinUp st ev else s.spinUp st ev)

/-- START_MEASURE_END (R201): what the Halls and the encoder showed in START_MEASURE decides. -/
def execStartMeasureEnd (st : Nat) (s : State) : Res := .next (s.measured st)

/-- SPIN_DOWN (R199). -/
def execSpinDown (st : Nat) (s : State) : Res := .next (s.spinDown st)

/-- STOP_BRAKE_END (R199). -/
def execStopBrakeEnd (st : Nat) (s : State) : Res := .next (s.brakeEnd st)

/-- SET_SPEED (R200). -/
def execSetSpeed (st : Nat) (s : State) : Res := .next (s.setSpeed st)

/-- SPEED_LOOP_TICK (R197, R208): every 125 µs; the SPD check of a self-test looks on (R473). -/
def execSpeedLoopTick (st : Nat) (s : State) : Res := .next ((s.speedTick st).testSpeed st)

/-- AT_SPEED (R197): the speed has stayed within SPEED_TOL for SPEED_SETTLE. -/
def execAtSpeed (st : Nat) (s : State) : Res := .next (s.atSpeed st)

/-- SPIN_UP_TIMEOUT (R198, Table 8.7). -/
def execSpinUpTimeout (st : Nat) (s : State) : Res := .next (s.spinTimeout st)

/-- HALL_EDGE (R192 to R196): the filtered code and its stamp in units of 10 ns. -/
def execHallEdge (st code stamp : Nat) (s : State) : Res := .next (s.hallEdge st (code % 8) stamp)

/-- OBSERVER_MISSED_EDGE (R195). -/
def execObserverMissedEdge (st : Nat) (s : State) : Res := .next (s.missedEdge st)

/-- ENCODER_Z_EDGE (R194, R196). -/
def execEncoderZEdge (st : Nat) (s : State) : Res := .next (s.encZ st)

/-- ENCODER_EDGE (R194): forward or backward, or an illegal quadrature step, and its stamp in units of 10 ns. -/
def execEncoderEdge (st : Nat) (fwd valid : Bool) (stamp : Nat) (s : State) : Res := .next (s.encEdge st fwd valid stamp)

/-- COAST_STOP_TIMEOUT (R206). -/
def execCoastStopTimeout (st : Nat) (s : State) : Res := .next (s.coastTimeout st)

/-- LOCKED_ROTOR (R207): only while the spindle is driven. -/
def execLockedRotor (st : Nat) (s : State) : Res :=
  if s.reg (spdKey st 3) ≠ 0 then .next (s.lockedRotor st) else .next s

/-- LOCKED_ROTOR_RETRY (R207). -/
def execLockedRotorRetry (st : Nat) (s : State) : Res := .next (s.lockedRetry st)

/-- VBUS_SAMPLE (R202, R203). -/
def execVbusSample (st mv amps : Nat) (s : State) : Res := .next (s.vbusSample st mv amps)

/-- VBUS_FAULT_TIMEOUT (R203). -/
def execVbusFaultTimeout (st : Nat) (s : State) : Res := .next (s.vbusFault st)

/-- SLED_SET_POINT (R209 to R213): the rotor's electrical angle that the BEMF gives, in 0.1°. -/
def execSledSetPoint (h rotor : Nat) (s : State) : Res := .next (s.sledPoint h rotor)

/-- SLED_STALL (R211, R214). -/
def execSledStall (h : Nat) (s : State) : Res := .next (s.sledStall h)

/-- SLED_HOME (R214). -/
def execSledHome (h : Nat) (ev : HomeEvent) (s : State) : Res := .next (s.sledHome h ev)

/-- SLED_PARK (R214). -/
def execSledPark (h : Nat) (s : State) : Res := .next (s.sledPark h)

/-- SEEK (R215). -/
def execSeek (h : Nat) (ev : SeekEvent) (s : State) : Res := .next (s.seek h ev)

/-- SLED_PROFILE_END (R213). -/
def execSledProfileEnd (h : Nat) (s : State) : Res := .next (s.profileEnd h)

/-- CLAMP_STROKE (R217): accepted with the spindle stopped and the clamp open. -/
def execClampStroke (st : Nat) (s : State) : Res :=
  .next (s.clampOrder st 0x12 .clamp 2 (s.reg (clampKey st 0x0C) == 1))

/-- UNCLAMP_STROKE (R217). -/
def execUnclampStroke (st : Nat) (s : State) : Res := .next (s.clampOrder st 0x13 .unclamp 5 true)

/-- CLAMP_PROBE (R218). -/
def execClampProbe (st : Nat) (s : State) : Res := .next (s.clampOrder st 0x14 .probe 5 true)

/-- CLAMP_STALL (R216, R217): the running value of the BEMF and its last four readings. -/
def execClampStall (st run : Nat) (bemf : List Nat) (s : State) : Res := .next (s.clampStall st run bemf)

/-- CLAMP_STROKE_LIMIT (R217, R218). -/
def execClampStrokeLimit (st : Nat) (s : State) : Res := .next (s.clampLimit st)

end Sys2Proof.Machine
end

