-- ==== Sys2Proof/Machine/Dispatch.lean ====
section
/-! DEFINITION. The effect of every command on everything but the queue: one arm per constructor, each one call. -/

namespace Sys2Proof.Machine

def exec (i : Instr) (s : State) : Host.Outcome State Fault Refusal :=
  match i with
  | .dictWrite dr ix sx v w => Sys2Proof.Machine.execDictWrite dr ix sx v w s
  | .sdoInitiate bus usdo ix sx req brs w => Sys2Proof.Machine.execSdoInitiate bus usdo ix sx req brs w s
  | .sdoSegment bus usdo seg brs w => Sys2Proof.Machine.execSdoSegment bus usdo seg brs w s
  | .sdoTimeout bus usdo => Sys2Proof.Machine.execSdoTimeout bus usdo s
  | .nmtStart => Sys2Proof.Machine.execNmtStart s
  | .nmtStop => Sys2Proof.Machine.execNmtStop s
  | .nmtEnterPreOperational => Sys2Proof.Machine.execNmtEnterPreOperational s
  | .nmtResetCommunication => Sys2Proof.Machine.execNmtResetCommunication s
  | .nmtResetNode => Sys2Proof.Machine.execNmtResetNode s
  | .syncReceived bus => Sys2Proof.Machine.execSyncReceived bus s
  | .rpdoReceived bus n data brs => Sys2Proof.Machine.execRpdoReceived bus n data brs s
  | .tpdoEventTimer n => Sys2Proof.Machine.execTpdoEventTimer n s
  | .tpdoInhibitExpiry n => Sys2Proof.Machine.execTpdoInhibitExpiry n s
  | .heartbeatTimer => Sys2Proof.Machine.execHeartbeatTimer s
  | .heartbeatReceived node => Sys2Proof.Machine.execHeartbeatReceived node s
  | .heartbeatConsumerTimeout j => Sys2Proof.Machine.execHeartbeatConsumerTimeout j s
  | .emcyInhibitExpiry => Sys2Proof.Machine.execEmcyInhibitExpiry s
  | .errorHistoryClear dr => Sys2Proof.Machine.execErrorHistoryClear dr s
  | .canBusOff bus => Sys2Proof.Machine.execCanBusOff bus s
  | .busOffRecovery bus => Sys2Proof.Machine.execBusOffRecovery bus s
  | .bar2DirectWrite ix sx width v w => Sys2Proof.Machine.execBar2DirectWrite ix sx width v w s
  | .bar2DirectRead ix sx width => Sys2Proof.Machine.execBar2DirectRead ix sx width s
  | .winAbortRead => Sys2Proof.Machine.execWinAbortRead s
  | .segOpenRead => Sys2Proof.Machine.execSegOpenRead s
  | .segOpenWrite => Sys2Proof.Machine.execSegOpenWrite s
  | .segCommitWrite w => Sys2Proof.Machine.execSegCommitWrite w s
  | .segCommitDone => Sys2Proof.Machine.execSegCommitDone s
  | .segClose => Sys2Proof.Machine.execSegClose s
  | .segOffsetWrite v => Sys2Proof.Machine.execSegOffsetWrite v s
  | .segWindowTimeout => Sys2Proof.Machine.execSegWindowTimeout s
  | .getObject c cid ix sx off len => Sys2Proof.Machine.execGetObject c cid ix sx off len s
  | .setObject c cid ix sx off data w => Sys2Proof.Machine.execSetObject c cid ix sx off data w s
  | .storeParameters dr sx v => Sys2Proof.Machine.execStoreParameters dr sx v s
  | .storeNorDone => Sys2Proof.Machine.execStoreNorDone s
  | .restoreDefaults dr sx v => Sys2Proof.Machine.execRestoreDefaults dr sx v s
  | .backgroundEraseDone => Sys2Proof.Machine.execBackgroundEraseDone s
  | .hearthPowerUp straps fuse crc => Sys2Proof.Machine.execHearthPowerUp straps fuse crc s
  | .resetNAssert => Sys2Proof.Machine.execResetNAssert s
  | .resetNRelease straps => Sys2Proof.Machine.execResetNRelease straps s
  | .crystalStable => Sys2Proof.Machine.execCrystalStable s
  | .railStepAdvance k => Sys2Proof.Machine.execRailStepAdvance k s
  | .pgTimeout => Sys2Proof.Machine.execPgTimeout s
  | .railRetry => Sys2Proof.Machine.execRailRetry s
  | .pgLoss k => Sys2Proof.Machine.execPgLoss k s
  | .pgLossRestart => Sys2Proof.Machine.execPgLossRestart s
  | .clockLoss r => Sys2Proof.Machine.execClockLoss r s
  | .clockRestore r => Sys2Proof.Machine.execClockRestore r s
  | .bootBankVerify sel a b sealOk cust => Sys2Proof.Machine.execBootBankVerify sel a b sealOk cust s
  | .hbmTraining a b => Sys2Proof.Machine.execHbmTraining a b s
  | .hostReady => Sys2Proof.Machine.execHostReady s
  | .enterHearth dr => Sys2Proof.Machine.execEnterHearth dr s
  | .wake dr => Sys2Proof.Machine.execWake dr s
  | .clearFailed dr => Sys2Proof.Machine.execClearFailed dr s
  | .wakeGpio n => Sys2Proof.Machine.execWakeGpio n s
  | .wakeCalendarAlarm => Sys2Proof.Machine.execWakeCalendarAlarm s
  | .wakeI2c => Sys2Proof.Machine.execWakeI2c s
  | .pfwNAssert => Sys2Proof.Machine.execPfwNAssert s
  | .pfwLatchClear => Sys2Proof.Machine.execPfwLatchClear s
  | .domainWakeDone d bad => Sys2Proof.Machine.execDomainWakeDone d bad s
  | .domainGateDone d => Sys2Proof.Machine.execDomainGateDone d s
  | .temporaryWakeEnd d => Sys2Proof.Machine.execTemporaryWakeEnd d s
  | .sliceIdleGate k => Sys2Proof.Machine.execSliceIdleGate k s
  | .inrushSlotGrant => Sys2Proof.Machine.execInrushSlotGrant s
  | .bistSlotPreempt st => Sys2Proof.Machine.execBistSlotPreempt st s
  | .powerUp dr st => Sys2Proof.Machine.execPowerUp dr st s
  | .load dr st target strobe => Sys2Proof.Machine.execLoad dr st target strobe s
  | .unload dr st force => Sys2Proof.Machine.execUnload dr st force s
  | .stow dr st force => Sys2Proof.Machine.execStow dr st force s
  | .powerDown dr st => Sys2Proof.Machine.execPowerDown dr st s
  | .enterMaint dr st => Sys2Proof.Machine.execEnterMaint dr st s
  | .exitMaint dr st => Sys2Proof.Machine.execExitMaint dr st s
  | .clearFault dr st => Sys2Proof.Machine.execClearFault dr st s
  | .stationStop dr st v => Sys2Proof.Machine.execStationStop dr st v s
  | .stationCommandStepDone st out => Sys2Proof.Machine.execStationCommandStepDone st out s
  | .schedulingPoint st orders => Sys2Proof.Machine.execSchedulingPoint st orders s
  | .stationWatchdog st => Sys2Proof.Machine.execStationWatchdog st s
  | .mediaOpDispatch nsid cl => Sys2Proof.Machine.execMediaOpDispatch nsid cl s
  | .mediaOpComplete nsid cl => Sys2Proof.Machine.execMediaOpComplete nsid cl s
  | .strobeFire dr st mask => Sys2Proof.Machine.execStrobeFire dr st mask s
  | .dstrobeFire dr st mask => Sys2Proof.Machine.execDstrobeFire dr st mask s
  | .strobeTimeout st who => Sys2Proof.Machine.execStrobeTimeout st who s
  | .discPresChange st high => Sys2Proof.Machine.execDiscPresChange st high s
  | .autoClampDelayExpiry st => Sys2Proof.Machine.execAutoClampDelayExpiry st s
  | .idleOffTimeExpiry st => Sys2Proof.Machine.execIdleOffTimeExpiry st s
  | .ilkNOpen st => Sys2Proof.Machine.execIlkNOpen st s
  | .ilkNClose st => Sys2Proof.Machine.execIlkNClose st s
  | .headAcqTimeout h => Sys2Proof.Machine.execHeadAcqTimeout h s
  | .directOrder dr st v => Sys2Proof.Machine.execDirectOrder dr st v s
  | .loopSample e l det u ang => Sys2Proof.Machine.execLoopSample e l det u ang s
  | .loopCmdOff dr e l => Sys2Proof.Machine.execLoopCmdOff dr e l s
  | .loopCmdOpen dr e l => Sys2Proof.Machine.execLoopCmdOpen dr e l s
  | .loopCmdHold dr e l => Sys2Proof.Machine.execLoopCmdHold dr e l s
  | .loopCmdClose dr e l => Sys2Proof.Machine.execLoopCmdClose dr e l s
  | .defectSet h => Sys2Proof.Machine.execDefectSet h s
  | .defectClear h => Sys2Proof.Machine.execDefectClear h s
  | .residualHold e l => Sys2Proof.Machine.execResidualHold e l s
  | .residualClear e l => Sys2Proof.Machine.execResidualClear e l s
  | .varianceWindowEnd e l => Sys2Proof.Machine.execVarianceWindowEnd e l s
  | .holdExpired e l => Sys2Proof.Machine.execHoldExpired e l s
  | .coefHoldOverrun e l => Sys2Proof.Machine.execCoefHoldOverrun e l s
  | .apply dr e => Sys2Proof.Machine.execApply dr e s
  | .ffBinUpdate h table bin => Sys2Proof.Machine.execFfBinUpdate h table bin s
  | .injEnable dr e v => Sys2Proof.Machine.execInjEnable dr e v s
  | .captureRequest dr e v => Sys2Proof.Machine.execCaptureRequest dr e v s
  | .captureTrigger e => Sys2Proof.Machine.execCaptureTrigger e s
  | .captureDone e => Sys2Proof.Machine.execCaptureDone e s
  | .captureTimeout e => Sys2Proof.Machine.execCaptureTimeout e s
  | .measureLoop dr e req => Sys2Proof.Machine.execMeasureLoop dr e req s
  | .measureLoopDone e => Sys2Proof.Machine.execMeasureLoopDone e s
  | .focusOn h ev => Sys2Proof.Machine.execFocusOn h ev s
  | .trackOn h ev => Sys2Proof.Machine.execTrackOn h ev s
  | .layerJump h ev => Sys2Proof.Machine.execLayerJump h ev s
  | .trackJump h ev => Sys2Proof.Machine.execTrackJump h ev s
  | .follow h ev => Sys2Proof.Machine.execFollow h ev s
  | .park h => Sys2Proof.Machine.execPark h s
  | .calibrateLoop h ev => Sys2Proof.Machine.execCalibrateLoop h ev s
  | .recoveryConfirmExpiry h => Sys2Proof.Machine.execRecoveryConfirmExpiry h s
  | .saSettled h => Sys2Proof.Machine.execSaSettled h s
  | .saSettleTimeout h => Sys2Proof.Machine.execSaSettleTimeout h s
  | .addressTimeout h => Sys2Proof.Machine.execAddressTimeout h s
  | .trkCaptureTimeout h => Sys2Proof.Machine.execTrkCaptureTimeout h s
  | .layerTimeout h => Sys2Proof.Machine.execLayerTimeout h s
  | .overpower h b => Sys2Proof.Machine.execOverpower h b s
  | .pklLoss h => Sys2Proof.Machine.execPklLoss h s
  | .pklRetrain h ok => Sys2Proof.Machine.execPklRetrain h ok s
  | .writeGuardInhibit h guard => Sys2Proof.Machine.execWriteGuardInhibit h guard s
  | .beamOfftrack h b o => Sys2Proof.Machine.execBeamOfftrack h b o s
  | .spinUp st ev => Sys2Proof.Machine.execSpinUp st ev s
  | .startMeasureEnd st => Sys2Proof.Machine.execStartMeasureEnd st s
  | .spinDown st => Sys2Proof.Machine.execSpinDown st s
  | .stopBrakeEnd st => Sys2Proof.Machine.execStopBrakeEnd st s
  | .setSpeed st => Sys2Proof.Machine.execSetSpeed st s
  | .targetRpmWrite dr st rpm => Sys2Proof.Machine.execTargetRpmWrite dr st rpm s
  | .speedLoopTick st => Sys2Proof.Machine.execSpeedLoopTick st s
  | .atSpeed st => Sys2Proof.Machine.execAtSpeed st s
  | .spinUpTimeout st => Sys2Proof.Machine.execSpinUpTimeout st s
  | .hallEdge st code stamp => Sys2Proof.Machine.execHallEdge st code stamp s
  | .observerMissedEdge st => Sys2Proof.Machine.execObserverMissedEdge st s
  | .encoderZEdge st => Sys2Proof.Machine.execEncoderZEdge st s
  | .coastStopTimeout st => Sys2Proof.Machine.execCoastStopTimeout st s
  | .lockedRotor st => Sys2Proof.Machine.execLockedRotor st s
  | .lockedRotorRetry st => Sys2Proof.Machine.execLockedRotorRetry st s
  | .vbusSample st mv amps => Sys2Proof.Machine.execVbusSample st mv amps s
  | .vbusFaultTimeout st => Sys2Proof.Machine.execVbusFaultTimeout st s
  | .sledSetPoint h rotor => Sys2Proof.Machine.execSledSetPoint h rotor s
  | .sledStall h => Sys2Proof.Machine.execSledStall h s
  | .sledHome h ev => Sys2Proof.Machine.execSledHome h ev s
  | .sledPark h => Sys2Proof.Machine.execSledPark h s
  | .seek h ev => Sys2Proof.Machine.execSeek h ev s
  | .sledProfileEnd h => Sys2Proof.Machine.execSledProfileEnd h s
  | .clampStroke st => Sys2Proof.Machine.execClampStroke st s
  | .unclampStroke st => Sys2Proof.Machine.execUnclampStroke st s
  | .clampProbe st => Sys2Proof.Machine.execClampProbe st s
  | .clampStall st run bemf => Sys2Proof.Machine.execClampStall st run bemf s
  | .clampStrokeLimit st => Sys2Proof.Machine.execClampStrokeLimit st s
  | .orderDispatch q => Sys2Proof.Machine.execOrderDispatch q s
  | .orderTimeout q => Sys2Proof.Machine.execOrderTimeout q s
  | .trapEntry q => Sys2Proof.Machine.execTrapEntry q s
  | .nop q imm => Sys2Proof.Machine.execNop q imm s
  | .jmp q imm => Sys2Proof.Machine.execJmp q imm s
  | .call q imm => Sys2Proof.Machine.execCall q imm s
  | .ret q imm => Sys2Proof.Machine.execRet q imm s
  | .ldi q d imm => Sys2Proof.Machine.execLdi q d imm s
  | .lui q d imm => Sys2Proof.Machine.execLui q d imm s
  | .mov q d r imm => Sys2Proof.Machine.execMov q d r imm s
  | .add q d r imm => Sys2Proof.Machine.execAdd q d r imm s
  | .sub q d r imm => Sys2Proof.Machine.execSub q d r imm s
  | .addi q d imm => Sys2Proof.Machine.execAddi q d imm s
  | .and q d r imm => Sys2Proof.Machine.execAnd q d r imm s
  | .or q d r imm => Sys2Proof.Machine.execOr q d r imm s
  | .xor q d r imm => Sys2Proof.Machine.execXor q d r imm s
  | .shift q d imm => Sys2Proof.Machine.execShift q d imm s
  | .mul q d r imm => Sys2Proof.Machine.execMul q d r imm s
  | .cmp q d r imm => Sys2Proof.Machine.execCmp q d r imm s
  | .cmpi q d imm => Sys2Proof.Machine.execCmpi q d imm s
  | .fld q d r imm => Sys2Proof.Machine.execFld q d r imm s
  | .fst q d r imm => Sys2Proof.Machine.execFst q d r imm s
  | .lcmd q d imm => Sys2Proof.Machine.execLcmd q d imm s
  | .hold q imm => Sys2Proof.Machine.execHold q imm s
  | .gate q imm => Sys2Proof.Machine.execGate q imm s
  | .laser q imm => Sys2Proof.Machine.execLaser q imm s
  | .pkl q r imm => Sys2Proof.Machine.execPkl q r imm s
  | .wait q imm => Sys2Proof.Machine.execWait q imm s
  | .waitExpiry q => Sys2Proof.Machine.execWaitExpiry q s
  | .waite q r imm => Sys2Proof.Machine.execWaite q r imm s
  | .waiteCondition q n => Sys2Proof.Machine.execWaiteCondition q n s
  | .evt q d imm => Sys2Proof.Machine.execEvt q d imm s
  | .strb q imm => Sys2Proof.Machine.execStrb q imm s
  | .prof q d r imm => Sys2Proof.Machine.execProf q d r imm s
  | .post q r imm => Sys2Proof.Machine.execPost q r imm s
  | .odone q r imm => Sys2Proof.Machine.execOdone q r imm s
  | .ofail q r imm => Sys2Proof.Machine.execOfail q r imm s
  | .orej q imm => Sys2Proof.Machine.execOrej q imm s
  | .trapret q imm => Sys2Proof.Machine.execTrapret q imm s
  | .storePatrol st single => Sys2Proof.Machine.execStorePatrol st single s
  | .storeUncorrectable st addr fetch owner same => Sys2Proof.Machine.execStoreUncorrectable st addr fetch owner same s
  | .customerImageInstall dr v => Sys2Proof.Machine.execCustomerImageInstall dr v s
  | .customerImageErase dr v => Sys2Proof.Machine.execCustomerImageErase dr v s
  | .sectorStart h b det fr ask => Sys2Proof.Machine.execSectorStart h b det fr ask s
  | .huntEnd h b gap => Sys2Proof.Machine.execHuntEnd h b gap s
  | .lbaTranslate dr st v => Sys2Proof.Machine.execLbaTranslate dr st v s
  | .resyncBlock h blocks => Sys2Proof.Machine.execResyncBlock h blocks s
  | .adcHandover h b toSpare rms => Sys2Proof.Machine.execAdcHandover h b toSpare rms s
  | .firstPassDone nsid cl idx snr out => Sys2Proof.Machine.execFirstPassDone nsid cl idx snr out s
  | .retryGlobalEnd nsid cl idx off out => Sys2Proof.Machine.execRetryGlobalEnd nsid cl idx off out s
  | .ldpcLaneGrant => Sys2Proof.Machine.execLdpcLaneGrant s
  | .outerCodeRepair nsid cl ok => Sys2Proof.Machine.execOuterCodeRepair nsid cl ok s
  | .ringFrameDump dr h v => Sys2Proof.Machine.execRingFrameDump dr h v s
  | .writeStart h ev => Sys2Proof.Machine.execWriteStart h ev s
  | .writeStop h closed => Sys2Proof.Machine.execWriteStop h closed s
  | .powerCal h ev => Sys2Proof.Machine.execPowerCal h ev s
  | .pklAckTimeout h => Sys2Proof.Machine.execPklAckTimeout h s
  | .clusterBuffered h b nsid cl late => Sys2Proof.Machine.execClusterBuffered h b nsid cl late s
  | .bandEnd h => Sys2Proof.Machine.execBandEnd h s
  | .verifyResult h b nsid cl bits beta => Sys2Proof.Machine.execVerifyResult h b nsid cl bits beta s
  | .gateReopen h => Sys2Proof.Machine.execGateReopen h s
  | .commandFetch c sq cid => Sys2Proof.Machine.execCommandFetch c sq cid s
  | .controllerReset c cause => Sys2Proof.Machine.execControllerReset c cause s
  | .nvmSubsystemReset perst => Sys2Proof.Machine.execNvmSubsystemReset perst s
  | .ccEnSet c => Sys2Proof.Machine.execCcEnSet c s
  | .normalShutdown c => Sys2Proof.Machine.execNormalShutdown c s
  | .keepAliveExpiry c => Sys2Proof.Machine.execKeepAliveExpiry c s
  | .connect c req => Sys2Proof.Machine.execConnect c req s
  | .disconnect c => Sys2Proof.Machine.execDisconnect c s
  | .propertyGet c cid off => Sys2Proof.Machine.execPropertyGet c cid off s
  | .propertySet c cid off v => Sys2Proof.Machine.execPropertySet c cid off v s
  | .read c cid nsid lba n pi => Sys2Proof.Machine.execRead c cid nsid lba n pi s
  | .write c cid nsid lba data fua pi => Sys2Proof.Machine.execWrite c cid nsid lba data fua pi s
  | .zoneAppend c cid nsid lba data fua pi => Sys2Proof.Machine.execZoneAppend c cid nsid lba data fua pi s
  | .flush c cid nsid => Sys2Proof.Machine.execFlush c cid nsid s
  | .zoneOpen c cid nsid lba everyZone => Sys2Proof.Machine.execZoneOpen c cid nsid lba everyZone s
  | .zoneClose c cid nsid lba everyZone => Sys2Proof.Machine.execZoneClose c cid nsid lba everyZone s
  | .zoneFinish c cid nsid lba everyZone => Sys2Proof.Machine.execZoneFinish c cid nsid lba everyZone s
  | .zoneReset c cid nsid lba everyZone => Sys2Proof.Machine.execZoneReset c cid nsid lba everyZone s
  | .zoneOffline c cid nsid lba everyZone => Sys2Proof.Machine.execZoneOffline c cid nsid lba everyZone s
  | .zoneManagementReceive c cid nsid lba filter limit part => Sys2Proof.Machine.execZoneManagementReceive c cid nsid lba filter limit part s
  | .getLogPage c cid page nsid off len retain => Sys2Proof.Machine.execGetLogPage c cid page nsid off len retain s
  | .identify c cid cns csi nsid => Sys2Proof.Machine.execIdentify c cid cns csi nsid s
  | .abort c cid sq target => Sys2Proof.Machine.execAbort c cid sq target s
  | .setFeaturesArbitration c cid v => Sys2Proof.Machine.execSetFeaturesArbitration c cid v s
  | .setFeaturesPowerManagement c cid v => Sys2Proof.Machine.execSetFeaturesPowerManagement c cid v s
  | .setFeaturesTemperatureThreshold c cid v => Sys2Proof.Machine.execSetFeaturesTemperatureThreshold c cid v s
  | .setFeaturesVolatileWriteCache c cid v => Sys2Proof.Machine.execSetFeaturesVolatileWriteCache c cid v s
  | .setFeaturesNumberOfQueues c cid v => Sys2Proof.Machine.execSetFeaturesNumberOfQueues c cid v s
  | .setFeaturesInterruptCoalescing c cid v => Sys2Proof.Machine.execSetFeaturesInterruptCoalescing c cid v s
  | .setFeaturesInterruptVectorConfig c cid v => Sys2Proof.Machine.execSetFeaturesInterruptVectorConfig c cid v s
  | .setFeaturesAsyncEventConfig c cid v => Sys2Proof.Machine.execSetFeaturesAsyncEventConfig c cid v s
  | .setFeaturesTimestamp c cid v => Sys2Proof.Machine.execSetFeaturesTimestamp c cid v s
  | .setFeaturesKeepAliveTimer c cid v => Sys2Proof.Machine.execSetFeaturesKeepAliveTimer c cid v s
  | .getFeatures c cid fid v => Sys2Proof.Machine.execGetFeatures c cid fid v s
  | .asyncEventRequest c cid => Sys2Proof.Machine.execAsyncEventRequest c cid s
  | .keepAlive c cid => Sys2Proof.Machine.execKeepAlive c cid s
  | .createIoSq c cid qid size cq => Sys2Proof.Machine.execCreateIoSq c cid qid size cq s
  | .createIoCq c cid qid size => Sys2Proof.Machine.execCreateIoCq c cid qid size s
  | .deleteIoSq c cid qid => Sys2Proof.Machine.execDeleteIoSq c cid qid s
  | .deleteIoCq c cid qid => Sys2Proof.Machine.execDeleteIoCq c cid qid s
  | .formatNvm c cid nsid lbaf pi ses => Sys2Proof.Machine.execFormatNvm c cid nsid lbaf pi ses s
  | .firmwareImageDownload c cid off data => Sys2Proof.Machine.execFirmwareImageDownload c cid off data s
  | .firmwareCommitReplace c cid slot => Sys2Proof.Machine.execFirmwareCommitReplace c cid slot s
  | .firmwareCommitActivateOnReset c cid slot => Sys2Proof.Machine.execFirmwareCommitActivateOnReset c cid slot s
  | .firmwareCommitSelect c cid slot => Sys2Proof.Machine.execFirmwareCommitSelect c cid slot s
  | .firmwareCommitActivateNow c cid slot => Sys2Proof.Machine.execFirmwareCommitActivateNow c cid slot s
  | .actDrainTimeout => Sys2Proof.Machine.execActDrainTimeout s
  | .deviceSelfTestShort c cid nsid => Sys2Proof.Machine.execDeviceSelfTestShort c cid nsid s
  | .deviceSelfTestExtended c cid nsid => Sys2Proof.Machine.execDeviceSelfTestExtended c cid nsid s
  | .deviceSelfTestAbort c cid => Sys2Proof.Machine.execDeviceSelfTestAbort c cid s
  | .selftestIdleExpiry st => Sys2Proof.Machine.execSelftestIdleExpiry st s
  | .selftestTimeLimit => Sys2Proof.Machine.execSelftestTimeLimit s
  | .pin c cid nsid lba n => Sys2Proof.Machine.execPin c cid nsid lba n s
  | .unpin c cid id => Sys2Proof.Machine.execUnpin c cid id s
  | .attestationQuote c cid nonce => Sys2Proof.Machine.execAttestationQuote c cid nonce s
  | .fillCommit nsid cl => Sys2Proof.Machine.execFillCommit nsid cl s
  | .blockPlaced nsid cl b blk => Sys2Proof.Machine.execBlockPlaced nsid cl b blk s
  | .fillEnd nsid cl => Sys2Proof.Machine.execFillEnd nsid cl s
  | .writeLineReserved c cid => Sys2Proof.Machine.execWriteLineReserved c cid s
  | .mergeFillDone nsid cl => Sys2Proof.Machine.execMergeFillDone nsid cl s
  | .tagProbe dr v => Sys2Proof.Machine.execTagProbe dr v s
  | .scrubStep pass words sram => Sys2Proof.Machine.execScrubStep pass words sram s
  | .hbmUncorrectableError a use => Sys2Proof.Machine.execHbmUncorrectableError a use s
  | .softRepair a => Sys2Proof.Machine.execSoftRepair a s
  | .hardRepairWindow oks => Sys2Proof.Machine.execHardRepairWindow oks s
  | .hbmAddressDecode dr v => Sys2Proof.Machine.execHbmAddressDecode dr v s
  | .hbmInjectArm dr v => Sys2Proof.Machine.execHbmInjectArm dr v s
  | .repairMapClear dr v => Sys2Proof.Machine.execRepairMapClear dr v s
  | .ringEnableWrite dr v => Sys2Proof.Machine.execRingEnableWrite dr v s
  | .ringLinkBroken p => Sys2Proof.Machine.execRingLinkBroken p s
  | .ringLinkRetrain p peer => Sys2Proof.Machine.execRingLinkRetrain p peer s
  | .ringFormation => Sys2Proof.Machine.execRingFormation s
  | .syncIntervalTick => Sys2Proof.Machine.execSyncIntervalTick s
  | .idleFrame p ack again => Sys2Proof.Machine.execIdleFrame p ack again s
  | .delayProbe p hd crc t => Sys2Proof.Machine.execDelayProbe p hd crc t s
  | .delayEcho p hd crc delay => Sys2Proof.Machine.execDelayEcho p hd crc delay s
  | .discover p hd crc c => Sys2Proof.Machine.execDiscover p hd crc c s
  | .roster p hd crc r => Sys2Proof.Machine.execRoster p hd crc r s
  | .timeSync p hd crc t cal delay => Sys2Proof.Machine.execTimeSync p hd crc t cal delay s
  | .ringProbe p hd crc rtt => Sys2Proof.Machine.execRingProbe p hd crc rtt s
  | .foldNotice p hd crc serial east => Sys2Proof.Machine.execFoldNotice p hd crc serial east s
  | .rejoin p hd crc t => Sys2Proof.Machine.execRejoin p hd crc t s
  | .rejoinTimeReached => Sys2Proof.Machine.execRejoinTimeReached s
  | .strobeSet p hd crc n t => Sys2Proof.Machine.execStrobeSet p hd crc n t s
  | .ringStrobeTimeReached n => Sys2Proof.Machine.execRingStrobeTimeReached n s
  | .grantReq p hd crc serial st ask => Sys2Proof.Machine.execGrantReq p hd crc serial st ask s
  | .grant p hd crc serial st give => Sys2Proof.Machine.execGrant p hd crc serial st give s
  | .grantExpiry serial st => Sys2Proof.Machine.execGrantExpiry serial st s
  | .memberRead p hd crc v col lba n => Sys2Proof.Machine.execMemberRead p hd crc v col lba n s
  | .memberData p hd crc v row col ok blocks => Sys2Proof.Machine.execMemberData p hd crc v row col ok blocks s
  | .memberWrite p hd crc v col lba data => Sys2Proof.Machine.execMemberWrite p hd crc v col lba data s
  | .memberAck p hd crc v col flush n ok => Sys2Proof.Machine.execMemberAck p hd crc v col flush n ok s
  | .memberFlush p hd crc v col zone => Sys2Proof.Machine.execMemberFlush p hd crc v col zone s
  | .volumeTable p hd crc vols => Sys2Proof.Machine.execVolumeTable p hd crc vols s
  | .rsFire dr v => Sys2Proof.Machine.execRsFire dr v s
  | .calendarTimeWrite dr v => Sys2Proof.Machine.execCalendarTimeWrite dr v s
  | .volumeCreate dr v far => Sys2Proof.Machine.execVolumeCreate dr v far s
  | .volumeDelete dr v => Sys2Proof.Machine.execVolumeDelete dr v s
  | .replaceColumn dr v far => Sys2Proof.Machine.execReplaceColumn dr v far s
  | .rowEncode v row => Sys2Proof.Machine.execRowEncode v row s
  | .rowRebuild v col parts => Sys2Proof.Machine.execRowRebuild v col parts s
  | .lifeCycleTransition dr v prog => Sys2Proof.Machine.execLifeCycleTransition dr v prog s
  | .customerKeyFuse dr v ok => Sys2Proof.Machine.execCustomerKeyFuse dr v ok s
  | .quoteRequest dr v => Sys2Proof.Machine.execQuoteRequest dr v s
  | .quoteSigned => Sys2Proof.Machine.execQuoteSigned s
  | .authResponse dr data => Sys2Proof.Machine.execAuthResponse dr data s
  | .authClose dr v => Sys2Proof.Machine.execAuthClose dr v s
  | .authDurationExpiry => Sys2Proof.Machine.execAuthDurationExpiry s
  | .authLockoutExpiry => Sys2Proof.Machine.execAuthLockoutExpiry s
  | .debugResponse dr data => Sys2Proof.Machine.execDebugResponse dr data s
  | .idCertWrite dr data => Sys2Proof.Machine.execIdCertWrite dr data s
  | .recoveryInstall dr v => Sys2Proof.Machine.execRecoveryInstall dr v s
  | .ledgerPost code source payload => Sys2Proof.Machine.execLedgerPost code source payload s
  | .ledgerFlush => Sys2Proof.Machine.execLedgerFlush s
  | .flushIntervalExpiry => Sys2Proof.Machine.execFlushIntervalExpiry s
  | .flushNow dr v => Sys2Proof.Machine.execFlushNow dr v s
  | .ledgerFlushDone bad => Sys2Proof.Machine.execLedgerFlushDone bad s
  | .freezeWrite dr v => Sys2Proof.Machine.execFreezeWrite dr v s
  | .cursorWrite dr v => Sys2Proof.Machine.execCursorWrite dr v s
  | .advance dr v => Sys2Proof.Machine.execAdvance dr v s
  | .ledgerClear dr v => Sys2Proof.Machine.execLedgerClear dr v s
  | .clearEraseStep => Sys2Proof.Machine.execClearEraseStep s
  | .rextMeasure v => Sys2Proof.Machine.execRextMeasure v s
  | .rfCalVisit h b sp ad there back => Sys2Proof.Machine.execRfCalVisit h b sp ad there back s
  | .servoAdcCal h a f => Sys2Proof.Machine.execServoAdcCal h a f s
  | .dacCal e vals => Sys2Proof.Machine.execDacCal e vals s
  | .calRfVisitRound dr v => Sys2Proof.Machine.execCalRfVisitRound dr v s
  | .calHeadDacs dr v => Sys2Proof.Machine.execCalHeadDacs dr v s
  | .calMotorSense dr v => Sys2Proof.Machine.execCalMotorSense dr v s
  | .tokenGrant => Sys2Proof.Machine.execTokenGrant s
  | .bistStationCore dr v => Sys2Proof.Machine.execBistStationCore dr v s
  | .bistMotorIo dr v => Sys2Proof.Machine.execBistMotorIo dr v s
  | .bistHeadFrontEnd dr v => Sys2Proof.Machine.execBistHeadFrontEnd dr v s
  | .bistHeadChannel dr v => Sys2Proof.Machine.execBistHeadChannel dr v s
  | .bistLdpcSlice dr v => Sys2Proof.Machine.execBistLdpcSlice dr v s
  | .bistContextSegment dr v => Sys2Proof.Machine.execBistContextSegment dr v s
  | .bistEcEngine dr v => Sys2Proof.Machine.execBistEcEngine dr v s
  | .bistWholeChip dr v => Sys2Proof.Machine.execBistWholeChip dr v s
  | .bistPatternBlock kind inst => Sys2Proof.Machine.execBistPatternBlock kind inst s
  | .bistPartitionEnd kind inst sig first rows => Sys2Proof.Machine.execBistPartitionEnd kind inst sig first rows s
  | .poolBistTick => Sys2Proof.Machine.execPoolBistTick s
  | .segmentWaitExpiry j => Sys2Proof.Machine.execSegmentWaitExpiry j s
  | .classBTimeExceeded => Sys2Proof.Machine.execClassBTimeExceeded s
  | .wiringTest st => Sys2Proof.Machine.execWiringTest st s
  | .wiringTestRequest dr st v => Sys2Proof.Machine.execWiringTestRequest dr st v s
  | .wiringTestEnd st part meas => Sys2Proof.Machine.execWiringTestEnd st part meas s
  | .senseCheck st n src snk afe => Sys2Proof.Machine.execSenseCheck st n src snk afe s
  | .eventOverrideWrite dr ix v => Sys2Proof.Machine.execEventOverrideWrite dr ix v s
  | .thermalRead tj temps => Sys2Proof.Machine.execThermalRead tj temps s
  | .vhearthLoss => Sys2Proof.Machine.execVhearthLoss s
  | .railDownStep => Sys2Proof.Machine.execRailDownStep s
  | .canErrorPassive bus passive => Sys2Proof.Machine.execCanErrorPassive bus passive s
  | .ethernetLinkChange p up => Sys2Proof.Machine.execEthernetLinkChange p up s
  | .pcieLinkUp speed width => Sys2Proof.Machine.execPcieLinkUp speed width s
  | .encoderEdge st fwd valid stamp => Sys2Proof.Machine.execEncoderEdge st fwd valid stamp s
  | .securityIdleGate => Sys2Proof.Machine.execSecurityIdleGate s
  | .eyeMeasure heights widths => Sys2Proof.Machine.execEyeMeasure heights widths s
  | .perstNRelease => Sys2Proof.Machine.execPerstNRelease s
  | .segWindowRegisterWrite off v => Sys2Proof.Machine.execSegWindowRegisterWrite off v s
  | .segCtrlInvalidOp => Sys2Proof.Machine.execSegCtrlInvalidOp s

end Sys2Proof.Machine
end

