-- ==== Sys2Proof/Safety.lean ====
section
/-! DEFINITION. What counts as a safe state and a safe run, in the terms that claims use: the tables' canonical form, a legal
part, and lasers that are off where the manual wants them off. -/

namespace Sys2Proof.Machine

/-- The keys of a table rise strictly. -/
def rising {α : Type} : List (Nat × α) → Bool
  | (a, _) :: (b, w) :: r => decide (a < b) && rising ((b, w) :: r)
  | _ => true

/-- A table in its one canonical form: keys rising, and no entry equal to what its key reads as unlisted. -/
def canonical {α : Type} [DecidableEq α] (dflt : Nat → α) (l : List (Nat × α)) : Bool :=
  rising l && l.all fun p => decide (p.2 ≠ dflt p.1)

/-- The registers and the byte strings of the dictionary are in canonical form: equal contents are equal data. -/
def State.regsWf (s : State) : Bool := canonical (regDefault s.part) s.regs
def State.rawsWf (s : State) : Bool := canonical rawDefault s.raws

/-- The engines' tables are in canonical form. -/
def State.tablesWf (s : State) : Bool :=
  canonical (fun _ => Stn.init) s.stns && canonical (fun _ => Head.init) s.heads && canonical (fun _ => Loop.init) s.loops
    && canonical (fun _ => Engine.init) s.engines && canonical (fun _ => Seq.init) s.seqs && canonical (fun _ => Side.init) s.sides

/-- One of the twelve variants: 8, 4 or 2 stations (R2). -/
def Part.legal (p : Part) : Bool := p.stations == 8 || p.stations == 4 || p.stations == 2

/-- A beam's laser is on: its laser-power loop is not OFF (R175). -/
def State.laserOnNow (s : State) (h b : Nat) : Bool := s.loopState h (4 + b) != lsOff

/-- Every laser of a station is off. -/
def State.stationDark (s : State) (i : Nat) : Bool :=
  (List.range 8).all fun b => !s.laserOnNow (2 * i) b && !s.laserOnNow (2 * i + 1) b

/-- Every laser of the device is off. -/
def State.allDark (s : State) : Bool := (List.range 8).all s.stationDark

/-- A run is safe while no step has stopped it and every station whose interlock stands open is dark (R21). -/
def SafeRun : Nat → State → Prop
  | 0, s => ∀ i, i < 8 → s.ilkOpen i = true → s.stationDark i = true
  | k + 1, s => (∀ i, i < 8 → s.ilkOpen i = true → s.stationDark i = true) ∧ ∃ t, step s = .next t ∧ SafeRun k t

/-! ### Terms that the statements use -/

/-- What SEQ_STATE shows of a sequencer (Table 9.9): 2 in a trap routine, 3 waiting, 1 running, 0 idle. -/
def Seq.shown (x : Seq) : Nat := if x.frame.isSome then 2 else if x.wait != .none then 3 else if x.running.isSome then 1 else 0

/-- From `s` to `t` sequencer `e` comes to be `x`, SEQ_STATE and MPC show it, and nothing else changes but, at most, the
registers `ks`. -/
def State.OnlySeq (s t : State) (e : Nat) (x : Seq) (ks : List Nat) : Prop :=
  t.sq e = x ∧ (∀ j, j ≠ e → t.sq j = s.sq j)
    ∧ t.reg (latheKey e (1 + seqNo e)) = x.shown ∧ t.reg (latheKey e (4 + seqNo e)) = x.pc
    ∧ (∀ k, k ∉ latheKey e (1 + seqNo e) :: latheKey e (4 + seqNo e) :: ks → t.reg k = s.reg k)
    ∧ { t with seqs := s.seqs, regs := s.regs } = s

/-- Sequencer `e` executes words and the word at its micro-PC can be this one: outside the customer region any word of the
vendor's stores, inside it the word the installed image holds (R223, Table 9.8). -/
def State.runsWord (s : State) (e op d r imm : Nat) : Bool := (s.sq e).live && s.holds e op d r imm

/-- The micro-PC after this one. -/
def Seq.nextPc (x : Seq) : Nat := (x.pc + 1) % 0x4000

/-! ### Frames of the ring -/

/-- What the frame command `c` does on port `p` (R390, Table 16.1): with the ring engines off, or on a link that is down, nothing; a
frame that has come round to its source ends, unless it is for this device; one whose CRC fails is counted, and one out of order
is left for the replay; one for this device, or over one link, acts; one for all is passed on and acts; any other is passed on. -/
def State.Arrives (s : State) (c : Instr) (p kind : Nat) (hd : FrameHead) (crc : Bool) (f : List Nat) (d : List Block)
    (act : State → State) : Prop :=
  let own := s.reg (ringKey 4)
  let round := hd.src = own ∧ own ≠ 0xFF
  let here := s.enabledRing = true ∧ ¬ round ∧ s.linkUp p = true
  let next := s.modRing fun r => { r with rx := r.rx.modify p fun n => (n + 1) % 2 ^ 32 }
  let good := here ∧ crc = true ∧ hd.seq = s.fabric.rx.getD p 0
  let single := hd.dest = 0xFF ∨ (hd.dest = own ∧ hd.dest ≠ 0xFE)
  (s.enabledRing = false → exec c s = .next s)
  ∧ (s.enabledRing = true → round → exec c s = .next (if hd.dest = own then act s else s))
  ∧ (¬ round → s.linkUp p = false → exec c s = .next s)
  ∧ (here → crc = false → exec c s = .next (s.bump (portKey p 4)))
  ∧ (here → crc = true → hd.seq ≠ s.fabric.rx.getD p 0 → exec c s = .next s)
  ∧ (good → single → exec c s = .next (act next))
  ∧ (good → hd.dest = 0xFE → exec c s = .next (act (next.forward p kind hd f d)))
  ∧ (good → ¬ single → hd.dest ≠ 0xFE → exec c s = .next (next.forward p kind hd f d))

/-! ### Writes that pass the general checks -/

/-- The state in which a door that is served takes a write of these bytes in: an SDO's channel is idle, a direct word of the
window counts as pending, a commit is BUSY, an NVMe command's turn has come; none where the door is shut. -/
def State.opened (s : State) (d : Door) (i sub : Nat) (b : List Byte) : Option State :=
  match d with
  | .sdo bus usdo => if s.sdoServed bus then some (s.setChan bus usdo .idle) else none
  | .pdo bus _ => if s.pdoServed bus then some s else none
  | .bar2 =>
    let u := s.modBar2 fun x => { x with winPending := min (x.winPending + 1) 65535 }
    match u.windowBytes i sub (leNat b) with
    | .ok c => if s.windowOn ∧ c = b then some u else none
    | .error _ => none
  | .seg =>
    if s.windowOn ∧ s.bar2.state = .openWrite ∧ s.bar2.openObject = sub * 65536 + i ∧ s.bar2.data = b then
      some (s.modBar2 fun x => { x with state := .busy, result := none })
    else none
  | .nvme c cid =>
    match s.turn c cid with
    | some x => if x.sq = 0 then some (s.modCtx x.seq fun y => { y with op := .dictionary }) else none
    | none => none
  | .inner => if s.power.dark then none else some s

/-- The bytes of a number in the type of its object. -/
def numberBytes (i sub v : Nat) : List Byte :=
  leBytes (match findObj i sub with | some o => if o.ty.number then o.ty.bytes else 4 | none => 4) v

/-- The state in which the owner takes a write of the number `v`: the door is served, the owner is awake, and every check of
R507 passes but the object's own rule; the value is not the present one of an rw object (R34). -/
def State.admitted (s : State) (d : Door) (i sub v : Nat) : Option State :=
  match s.opened d i sub (numberBytes i sub v) with
  | none => none
  | some u =>
    match u.staticCheck i sub (numberBytes i sub v) with
    | .error _ => none
    | .ok o =>
      if o.ty.number && o.kept (leNat (numberBytes i sub v)) == v && u.ownerOn i v && i != 0x1010 && i != 0x1011
          && u.stateCheck o i sub v == 0 && !(isResultIx i && sub == 1 && u.busy i) && !u.sameValue d o i sub v then some u
      else none

/-- The same of a byte string. -/
def State.admittedRaw (s : State) (d : Door) (i sub : Nat) (b : List Byte) : Option State :=
  match s.opened d i sub b with
  | none => none
  | some u =>
    match u.staticCheck i sub b with
    | .error _ => none
    | .ok o => if !o.ty.number && u.ownerOn i (leNat b) && i != 0x1010 && i != 0x1011 && u.stateCheck o i sub 0 == 0 then some u else none

/-- The answer of a write of a number that has taken effect (R41). -/
def State.answered (t : State) (d : Door) (i sub v : Nat) : State := t.reply d i sub 0 (numberBytes i sub v).length []

/-! ### Host commands whose turn has come -/

/-- The admin command `cid` of the controller `k` with number `c` is the next to execute, in the context `x` (R27). -/
abbrev State.adminTurn (s : State) (c cid : Nat) (x : Ctx) (k : Ctrl) : Prop :=
  s.turn c cid = some x ∧ x.sq = 0 ∧ s.ctrl c = some k

/-- The I/O command `cid` of controller `c` is the next to execute, in the context `x`, and names the active namespace `n`. -/
abbrev State.ioTurn (s : State) (c cid : Nat) (x : Ctx) (nsid : Nat) (n : Ns) : Prop :=
  s.turn c cid = some x ∧ x.sq ≠ 0 ∧ s.ns nsid = some n

end Sys2Proof.Machine
end

