-- ==== Sys2Proof/Certificates/Slice0/Obligations.lean ====
section
/-! DEFINITION. The statements for the provers: what the commands of each family do, what a step is, and the invariants that
every step keeps. -/

open Sys2Proof Sys2Proof.Machine

/-! ### Microwords (chapter 9) -/

/-- On a sequencer that executes words, ADD, SUB, ADDI, AND, OR, XOR, SHIFT and MUL write their result to M[D], set Z and N
from it, set C to the carry or the borrow (0 of a logic word or a shift; MUL keeps C) and V to the signed overflow (0 of a
logic word or a shift), and go on at the next word; CMP and CMPI set the flags of the difference and keep every register.
Nothing else changes. -/
def Obligations.ArithmeticMicrowords : Prop :=
  ∀ (s : State) (q d r imm : Nat),
    let x := s.sq q
    let a := x.reg d
    let b := x.reg r
    let i := BitVec.ofInt 32 (toSigned 18 imm)
    let sum := fun (u v : BitVec 32) => { x with
      pc := x.nextPc, z := u + v == 0, n := (u + v).msb, c := decide (2 ^ 32 ≤ u.toNat + v.toNat)
      v := decide (u.toInt + v.toInt < -2147483648 ∨ 2147483648 ≤ u.toInt + v.toInt) }
    let diff := fun (u v : BitVec 32) => { x with
      pc := x.nextPc, z := u - v == 0, n := (u - v).msb, c := decide (u.toNat < v.toNat)
      v := decide (u.toInt - v.toInt < -2147483648 ∨ 2147483648 ≤ u.toInt - v.toInt) }
    let bits := fun (u : BitVec 32) => { x with pc := x.nextPc, m := x.m.set d u, z := u == 0, n := u.msb, c := false, v := false }
    let p := a.toInt * b.toInt
    let low := BitVec.ofInt 32 p
    let frac := roundDiv p 8388608
    (s.runsWord q 7 d r 0 = true → ∃ t, exec (.add q d r 0) s = .next t ∧ s.OnlySeq t q { sum a b with m := x.m.set d (a + b) } [])
    ∧ (s.runsWord q 8 d r 0 = true → ∃ t, exec (.sub q d r 0) s = .next t ∧ s.OnlySeq t q { diff a b with m := x.m.set d (a - b) } [])
    ∧ (s.runsWord q 9 d 0 imm = true →
        ∃ t, exec (.addi q d imm) s = .next t ∧ s.OnlySeq t q { sum a i with m := x.m.set d (a + i) } [])
    ∧ (s.runsWord q 10 d r 0 = true → ∃ t, exec (.and q d r 0) s = .next t ∧ s.OnlySeq t q (bits (a &&& b)) [])
    ∧ (s.runsWord q 11 d r 0 = true → ∃ t, exec (.or q d r 0) s = .next t ∧ s.OnlySeq t q (bits (a ||| b)) [])
    ∧ (s.runsWord q 12 d r 0 = true → ∃ t, exec (.xor q d r 0) s = .next t ∧ s.OnlySeq t q (bits (a ^^^ b)) [])
    ∧ (s.runsWord q 13 d 0 imm = true → imm < 128 → ∃ t, exec (.shift q d imm) s = .next t
        ∧ s.OnlySeq t q (bits (if imm / 32 % 2 = 0 then a <<< (imm % 32)
            else if imm / 64 % 2 = 0 then a >>> (imm % 32) else a.sshiftRight (imm % 32))) [])
    ∧ (s.runsWord q 14 d r 0 = true → ∃ t, exec (.mul q d r 0) s = .next t ∧ s.OnlySeq t q
        { x with pc := x.nextPc, m := x.m.set d low, z := low == 0, n := low.msb
                 v := decide (p < -2147483648 ∨ 2147483648 ≤ p) } [])
    ∧ (s.runsWord q 14 d r 1 = true → ∃ t, exec (.mul q d r 1) s = .next t ∧ s.OnlySeq t q
        { x with pc := x.nextPc, m := x.m.set d (BitVec.ofInt 32 (sat24 frac)), z := BitVec.ofInt 32 (sat24 frac) == 0
                 n := (BitVec.ofInt 32 (sat24 frac)).msb, v := sats frac } [])
    ∧ (s.runsWord q 15 d r 0 = true → ∃ t, exec (.cmp q d r 0) s = .next t ∧ s.OnlySeq t q (diff a b) [])
    ∧ (s.runsWord q 16 d 0 imm = true → ∃ t, exec (.cmpi q d imm) s = .next t ∧ s.OnlySeq t q (diff a i) [])

/-- On a sequencer that executes words: NOP, LDI, LUI, MOV and EVT go on at the next word with no flag changed, LDI writing the
sign-extended IMM, LUI the upper 18 bits over the kept lower 14, MOV M[S], EVT the latched conditions, which clear; JMP goes to
IMM's 14 bits where its condition holds and on where it does not; CALL pushes the next micro-PC and RET pops one; WAIT, WAITE
and STRB wait, from the next word; a jump of the customer region into the vendor's, a CALL at depth 8 and a RET with nothing
pushed are Lathe faults. WAIT_EXPIRY and WAITE_CONDITION end the wait. Nothing else changes, but ARMED and WAIT_STROBE of a wait. -/
def Obligations.ControlMicrowords : Prop :=
  ∀ (s : State) (q d r imm n : Nat),
    let x := s.sq q
    let st := engStation q
    let next := { x with pc := x.nextPc }
    let armed := [stKey st 2 3, stKey st 0 5]
    (s.runsWord q 0 0 0 0 = true → ∃ t, exec (.nop q 0) s = .next t ∧ s.OnlySeq t q next [])
    ∧ (s.runsWord q 4 d 0 imm = true → ∃ t, exec (.ldi q d imm) s = .next t
        ∧ s.OnlySeq t q { next with m := x.m.set d (BitVec.ofInt 32 (toSigned 18 imm)) } [])
    ∧ (s.runsWord q 5 d 0 imm = true → ∃ t, exec (.lui q d imm) s = .next t
        ∧ s.OnlySeq t q { next with m := x.m.set d (BitVec.ofNat 32 (imm * 16384 + (x.reg d).toNat % 16384)) } [])
    ∧ (s.runsWord q 6 d r 0 = true → ∃ t, exec (.mov q d r 0) s = .next t ∧ s.OnlySeq t q { next with m := x.m.set d (x.reg r) } [])
    ∧ (s.runsWord q 26 d 0 0 = true → ∃ t, exec (.evt q d 0) s = .next t
        ∧ s.OnlySeq t q { next with m := x.m.set d (BitVec.ofNat 32 x.latched), latched := 0 } [])
    ∧ (s.runsWord q 1 0 0 imm = true → bitsOf imm 17 14 < 14 → jumpCond x.z x.n x.c x.v x.ev (bitsOf imm 17 14) = false →
        ∃ t, exec (.jmp q imm) s = .next t ∧ s.OnlySeq t q next [])
    ∧ (s.runsWord q 1 0 0 imm = true → bitsOf imm 17 14 < 14 → jumpCond x.z x.n x.c x.v x.ev (bitsOf imm 17 14) = true →
        (x.pc < 0x3800 ∨ 0x3800 ≤ imm % 0x4000) →
        ∃ t, exec (.jmp q imm) s = .next t ∧ s.OnlySeq t q { x with pc := imm % 0x4000 } [])
    ∧ (s.runsWord q 1 0 0 imm = true → bitsOf imm 17 14 < 14 → jumpCond x.z x.n x.c x.v x.ev (bitsOf imm 17 14) = true →
        0x3800 ≤ x.pc → imm % 0x4000 < 0x3800 → exec (.jmp q imm) s = .next ((s.latheFault q 0x0F590004).spinLeft s q))
    ∧ (s.runsWord q 2 0 0 imm = true → imm < 0x4000 → (x.pc < 0x3800 ∨ 0x3800 ≤ imm ∨ (0x30 ≤ imm ∧ imm < 0x40)) →
        x.stack.length < 8 →
        ∃ t, exec (.call q imm) s = .next t ∧ s.OnlySeq t q { x with stack := x.nextPc :: x.stack, pc := imm } [])
    ∧ (s.runsWord q 2 0 0 imm = true → imm < 0x4000 → (x.pc < 0x3800 ∨ 0x3800 ≤ imm ∨ (0x30 ≤ imm ∧ imm < 0x40)) →
        8 ≤ x.stack.length → exec (.call q imm) s = .next ((s.latheFault q 0x0F590003).spinLeft s q))
    ∧ (∀ a l, s.runsWord q 3 0 0 0 = true → x.stack = a :: l →
        ∃ t, exec (.ret q 0) s = .next t ∧ s.OnlySeq t q { x with stack := l, pc := a % 0x4000 } [])
    ∧ (s.runsWord q 3 0 0 0 = true → x.stack = [] → exec (.ret q 0) s = .next ((s.latheFault q 0x0F590003).spinLeft s q))
    ∧ (s.runsWord q 24 0 0 imm = true → ∃ t, exec (.wait q imm) s = .next t
        ∧ s.OnlySeq t q { next with wait := .time (s.now + waitMicros (bitsOf imm 17 16) (imm % 65536)) } armed)
    ∧ (s.runsWord q 25 0 r imm = true → waiteReserved q imm = false → ∃ t, exec (.waite q r imm) s = .next t
        ∧ s.OnlySeq t q { next with
            latched := 0, ev := false
            wait := .cond imm (if (x.reg r).toNat = 0 then none else some (s.now + (x.reg r).toNat)) } armed)
    ∧ (s.runsWord q 27 0 0 imm = true → imm < 16 → ∃ t, exec (.strb q imm) s = .next t
        ∧ s.OnlySeq t q { next with wait := .strobe imm } armed)
    ∧ (∀ u, x.wait = .time u → ∃ t, exec (.waitExpiry q) s = .next t ∧ s.OnlySeq t q { x with wait := .none } [])
    ∧ (∀ m u, x.wait = .cond m (some u) →
        ∃ t, exec (.waitExpiry q) s = .next t ∧ s.OnlySeq t q { x with wait := .none, ev := false } [])
    ∧ (∀ m u, x.wait = .cond m u → bitOf m n = true → ∃ t, exec (.waiteCondition q n) s = .next t
        ∧ s.OnlySeq t q { x with wait := .none, ev := true, latched := setBit x.latched n } [])

/-- ODONE, OFAIL and OREJ end the running order of a sequencer (no vendor order being called): it comes to hold no order, no
trap frame, no wait and an empty micro-stack, and a direct order's result object 0x3s03 takes LATHE_STATUS with the reason,
RETURN, the code, DONE or FAILED, and the next SEQUENCE. ORDER_DISPATCH moves the slot's order to an idle sequencer with no
trap pending: its registers are M0 = PARAM, M1 = code and strobe, M13 = the sequencer, the rest 0, its flags clear, its
micro-PC the code, or the customer entry. TRAP_ENTRY takes the pending trap of lowest number: the frame is saved, M15 takes
the information, and the routine starts at 0x40 plus the kind; TRAPS_TAKEN counts. TRAPRET 0 restores the frame.
ORDER_TIMEOUT of a customer order makes ORDER_ABORT pending. -/
def Obligations.SequencerOrders : Prop :=
  ∀ (s : State) (q r imm : Nat),
    let x := s.sq q
    let st := engStation q
    let ix := stIx st 3
    let ended := { x with running := none, wait := .none, frame := none, stack := [], started := 0 }
    let m := (x.reg r).toNat
    let again := if s.reg (key ix 3) = 0xFFFFFFFF then 1 else s.reg (key ix 3) + 1
    let ends := fun (t : State) (o : Order) (lathe ret code status : Nat) =>
      t.sq q = ended ∧ (∀ j, j ≠ q → t.sq j = s.sq j)
        ∧ (o.origin = .direct → t.reg (key ix 5) = lathe ∧ t.reg (key ix 6) = ret ∧ t.reg (key ix 4) = code
            ∧ t.reg (key ix 2) = status ∧ t.reg (key ix 3) = again)
    (∀ o, x.running = some o → x.sub = none → s.runsWord q 30 0 r 0 = true →
        ∃ t, exec (.odone q r 0) s = .next t ∧ ends t o 4 m 0 2)
    ∧ (∀ o, x.running = some o → x.sub = none → s.runsWord q 31 0 r 0 = true → m ≠ 0 →
        ∃ t, exec (.ofail q r 0) s = .next t ∧ ends t o 5 m m 3)
    ∧ (∀ o, x.running = some o → x.sub = none → s.runsWord q 32 0 0 imm = true → imm < 256 →
        ∃ t, exec (.orej q imm) s = .next t ∧ ends t o (6 + 256 * (if imm = 0 then 7 else imm)) 0x0F590001 0x0F590001 3)
    ∧ (∀ o, x.running = none → x.frame = none → x.traps = [] → x.slot = some o → s.dispatchReject q o.code = none →
        ∃ t, exec (.orderDispatch q) s = .next t ∧ (∀ j, j ≠ q → t.sq j = s.sq j) ∧ t.sq q =
          { x with
            slot := (takeFirst x.waiting).map (·.1), waiting := ((takeFirst x.waiting).map (·.2)).getD x.waiting
            m := dispatchRegs q o, stack := [], z := false, n := false, c := false, v := false, ev := false, latched := 0
            pc := if 0x30 ≤ o.code ∧ o.code ≤ 0x3F then 0x3800 + 0x80 * (o.code - 0x30) else o.code
            running := some o, sub := none, started := 0, wait := if o.strobe = 0 then .none else .strobe o.strobe })
    ∧ (∀ k i, x.frame = none → x.nextTrap = some (k, i) → k ≠ 0 →
        ∃ t, exec (.trapEntry q) s = .next t
          ∧ s.OnlySeq t q { x with
              traps := x.traps.filter (fun u => u.1 != k), stack := [], wait := .none, pc := 0x40 + k
              m := x.m.take 15 ++ [BitVec.ofNat 32 i], frame := some ⟨x.pc, x.stack, x.z, x.n, x.c, x.v, x.ev, x.m, x.wait⟩ }
            [latheKey q (7 + seqNo q)]
          ∧ t.reg (latheKey q (7 + seqNo q)) = min (s.reg (latheKey q (7 + seqNo q)) + 1) 4294967295)
    ∧ (∀ f : TrapFrame, x.frame = some f → x.pc < 0x3800 → f.wait = .none → s.runsWord q 33 0 0 0 = true →
        ∃ t, exec (.trapret q 0) s = .next t ∧ s.OnlySeq t q { x with
          frame := none, pc := f.pc, stack := f.stack, z := f.z, n := f.n, c := f.c, v := f.v, ev := f.ev, m := f.m, wait := .none } [])
    ∧ (∀ o, x.running = some o → 0x30 ≤ o.code → x.traps = [] → exec (.orderTimeout q) s
        = .next (s.modSq q fun y => { y with traps := [(0, 1)] }))

/-- On a sequencer that executes words, with reserved fields 0: FLD writes M[D] with the value of the addressed field (0 with V
set where the address names no object); FST writes a field or refuses it; LCMD gives the loop its command where Table 6.4 has
it, is refused with reason 4 where not and 5 on a loop that is not the axis's; against a protective state CLOSE is refused with
reason 6 and another mode waits (the word stays); HOLD sets or clears cause LATHE of the masked loops; GATE 0 closes gates,
GATE 1 opens them where a write may go on and is refused with reason 6 where not (7 from the customer region; without effect on
a station sequencer); LASER 0 switches beams off, LASER 1 on where lasers are allowed, refused with 6 where not and 4 where a
beam's loop has no gain; PKL sends the message (from the customer region only a read); LASER and PKL are refused with 5 on a
station sequencer; PROF writes the spindle's set speed, or starts the sled's or the clamp's profile in reach, refused with 4 out
of reach and 5 on another axis; POST posts M[S] under its code; then the next word follows. A SPIN_UP that the word ends frees
its slot and grant. -/
def Obligations.ActingMicrowords : Prop :=
  ∀ (s : State) (q d r imm : Nat),
    let x := s.sq q
    let v := x.reg r
    let st := engStation q
    let ends := fun (t : State) => t.spinLeft s q
    let from_ := if bitOf imm 17 then v.toNat else imm
    let dst := if bitOf imm 17 then (x.reg d).toNat else imm
    let set_ := 131072 + imm
    let bs := bitsIn 8 imm
    let lit := bs.filter (· < s.beams)
    let mine := (bitsIn 12 imm).filter fun l => s.loopPresent q l && (isHead q || l == 0)
    let going := (s.substate q == hsFollowing || s.substate q == hsWriting) && s.pilotOk q && !(s.hd q).inhibited && !s.tiltWait q
      && s.loopState q 0 == lsClosed && s.loopState q 1 == lsClosed && (bs.all fun b => s.canWrite q b)
    (∀ w, s.runsWord q 17 d r imm = true → bitOf imm 16 = false → s.fieldRead (fieldIx q from_) (fieldSub from_) = some w →
        ∃ t, exec (.fld q d r imm) s = .next t ∧ s.OnlySeq t q { x with pc := x.nextPc, m := x.m.set d w } [])
    ∧ (s.runsWord q 17 d r imm = true → bitOf imm 16 = false → s.fieldRead (fieldIx q from_) (fieldSub from_) = none →
        ∃ t, exec (.fld q d r imm) s = .next t ∧ s.OnlySeq t q { x with pc := x.nextPc, m := x.m.set d 0, v := true } [])
    ∧ (∀ u, s.runsWord q 18 d r imm = true → bitOf imm 16 = false → s.fieldWrite q (fieldIx q dst) (fieldSub dst) v = .ok u →
        exec (.fst q d r imm) s = .next (ends (u.nextWord q)))
    ∧ (∀ why, s.runsWord q 18 d r imm = true → bitOf imm 16 = false → s.fieldWrite q (fieldIx q dst) (fieldSub dst) v = .error why →
        exec (.fst q d r imm) s = .next (ends (s.latheRefuse q why)))
    ∧ (s.runsWord q 19 d 0 imm = true → imm < 5 → imm ≠ 3 →
        ((s.loopPresent q d = false ∨ (16 ≤ q ∧ d ≠ 0)) → exec (.lcmd q d imm) s = .next (ends (s.latheRefuse q 5)))
        ∧ (s.loopPresent q d = true → (q < 16 ∨ d = 0) →
            (∀ u, s.shielded q d = false → s.loopCommand q d imm = some u → exec (.lcmd q d imm) s = .next (ends (u.nextWord q)))
            ∧ (s.shielded q d = false → s.loopCommand q d imm = none → exec (.lcmd q d imm) s = .next (ends (s.latheRefuse q 4)))
            ∧ (s.shielded q d = true → imm = 4 → exec (.lcmd q d imm) s = .next (ends (s.latheRefuse q 6)))
            ∧ (s.shielded q d = true → imm ≠ 4 → exec (.lcmd q d imm) s = .next s)))
    ∧ (imm < 4096 →
        (s.runsWord q 20 0 0 imm = true → exec (.hold q imm) s
          = .next (ends ((s.forEach mine fun u l => u.clearCause q l hcLathe).nextWord q)))
        ∧ (s.runsWord q 20 0 0 set_ = true → exec (.hold q set_) s
          = .next (ends ((s.forEach mine fun u l =>
              if u.loopState q l = lsClosed ∨ u.loopState q l = lsHold then
                (u.setCause q l hcLathe).modLp q l fun p => { p with lathe := 0 }
              else u).nextWord q))))
    ∧ (imm < 256 → s.runsWord q 21 0 0 imm = true →
        exec (.gate q imm) s = .next (ends (if q < 16 then (((s.forEach bs fun u b => u.cutBeam q b).gatesView q).nextWord q)
          else s.nextWord q)))
    ∧ (imm < 256 → s.runsWord q 21 0 0 set_ = true →
        (16 ≤ q → exec (.gate q set_) s = .next (ends (s.nextWord q)))
        ∧ (q < 16 → 0x3800 ≤ x.pc → exec (.gate q set_) s = .next (ends (s.orderRejected q 7)))
        ∧ (q < 16 → x.pc < 0x3800 → going = false → exec (.gate q set_) s = .next (ends (s.latheRefuse q 6)))
        ∧ (q < 16 → x.pc < 0x3800 → going = true →
            let u := s.forEach bs fun u b => match (u.hd q).gates[b]? with
              | some g => if g.open_ then u else u.beginCluster q b g.next
              | none => u
            exec (.gate q set_) s = .next (ends ((if bs.isEmpty then u else u.beginWriting q).nextWord q))))
    ∧ (imm < 256 → s.runsWord q 22 0 0 imm = true →
        exec (.laser q imm) s = .next (ends (if q < 16 then (s.lasersOff q lit).nextWord q else s.latheRefuse q 5)))
    ∧ (imm < 256 → s.runsWord q 22 0 0 set_ = true →
        (16 ≤ q → exec (.laser q set_) s = .next (ends (s.latheRefuse q 5)))
        ∧ (q < 16 → (lit.any fun b => s.noGain q (4 + b)) = true → exec (.laser q set_) s = .next (ends (s.latheRefuse q 4)))
        ∧ (q < 16 → (lit.any fun b => s.noGain q (4 + b)) = false →
            (s.ilkOpen (q / 2) = true ∨ s.power.latched = true ∨ s.power.resetLow = true) →
            exec (.laser q set_) s = .next (ends (s.latheRefuse q 6)))
        ∧ (q < 16 → (lit.any fun b => s.noGain q (4 + b)) = false → s.ilkOpen (q / 2) = false → s.power.latched = false →
            s.power.resetLow = false →
            exec (.laser q set_) s = .next (ends ((s.forEach lit fun u b => u.laserOn q b).nextWord q))))
    ∧ (1 ≤ imm → imm ≤ 15 → s.runsWord q 23 0 r imm = true →
        (q < 16 → (x.pc < 0x3800 ∨ imm = 1) → exec (.pkl q r imm) s = .next (ends ((s.emit (.pkl q imm v.toNat)).nextWord q)))
        ∧ (q < 16 → 0x3800 ≤ x.pc → imm ≠ 1 → exec (.pkl q r imm) s = .next (ends (s.orderRejected q 7)))
        ∧ (16 ≤ q → exec (.pkl q r imm) s = .next (ends (s.latheRefuse q 5))))
    ∧ (s.runsWord q 28 d r 0 = true →
        (q < 16 → d = 0 → s.reg (sledKey q 0x1C) = 1 → s.sledReach q (v.toInt * 1000) = true →
          exec (.prof q d r 0) s = .next (ends ((s.sledProfile q (v.toInt * 1000)).nextWord q)))
        ∧ (q < 16 → d = 0 → (s.reg (sledKey q 0x1C) ≠ 1 ∨ s.sledReach q (v.toInt * 1000) = false) →
          exec (.prof q d r 0) s = .next (ends (s.latheRefuse q 4)))
        ∧ (((q < 16 ∧ d ≠ 0) ∨ (16 ≤ q ∧ 1 < d)) → exec (.prof q d r 0) s = .next (ends (s.latheRefuse q 5)))
        ∧ (16 ≤ q → d = 0 → v.toNat < 65536 →
          exec (.prof q d r 0) s = .next (ends ((s.setReg (stKey st 0x12 1) v.toNat).nextWord q)))
        ∧ (16 ≤ q → d = 0 → 65536 ≤ v.toNat → exec (.prof q d r 0) s = .next (ends (s.latheRefuse q 4)))
        ∧ (16 ≤ q → d = 1 → v.toInt ≥ 0 → v.toNat ≤ s.reg (clampKey st 0x0A) → s.spinState st = 0 →
          let out := decide ((s.reg (clampKey st 0x0D) : Int) < v.toInt)
          exec (.prof q d r 0) s = .next (ends ((s.startStroke st (if out then .clamp else .unclamp) (if out then 2 else 5)).nextWord q)))
        ∧ (16 ≤ q → d = 1 → (v.toInt < 0 ∨ s.reg (clampKey st 0x0A) < v.toNat ∨ s.spinState st ≠ 0) →
          exec (.prof q d r 0) s = .next (ends (s.latheRefuse q 4))))
    ∧ (imm < 65536 → s.runsWord q 29 0 r imm = true →
        exec (.post q r imm) s = .next (ends ((s.note imm (engSource q) (leBytes 4 v.toNat)).nextWord q)))

/-- STORE_PATROL of a loaded store reads one word and steps on, counting a corrected single-bit error in STORE_CORRECTED.
STORE_UNCORRECTABLE counts in STORE_UNCORRECTABLE and changes nothing else where the word was not fetched for execution and
the rewritten store's digest agrees; a fetched word is a Lathe fault, and a digest that disagrees is record 0x0304 and the
station's FAULT. -/
def Obligations.ControlStores : Prop :=
  ∀ (s : State) (st addr by_ : Nat),
    let corrected := key (0x5410 + st) 0x10
    let lost := key (0x5410 + st) 0x11
    let read := { s with stores := { s.stores with
      patrol := putKey st (((findKey st s.stores.patrol).getD 0 + 1) % 16384) 0 s.stores.patrol } }
    s.stores.loaded.contains st = true →
      exec (.storePatrol st false) s = .next read
      ∧ exec (.storePatrol st true) s = .next (read.setReg corrected (min (s.reg corrected + 1) 4294967295))
      ∧ exec (.storeUncorrectable st addr false by_ true) s = .next (s.setReg lost (min (s.reg lost + 1) 4294967295))
      ∧ exec (.storeUncorrectable st addr false by_ false) s
          = .next ((((s.setReg lost (min (s.reg lost + 1) 4294967295)).note 0x0304 (0x20 + st) (leBytes 2 addr))).stnFault st 1 addr)
      ∧ exec (.storeUncorrectable st addr true by_ false) s
          = .next ((((((s.setReg lost (min (s.reg lost + 1) 4294967295)).latheFault (seqOf st by_) 0x0F590007)).spinLeft
              (s.setReg lost (min (s.reg lost + 1) 4294967295)) (seqOf st by_)).note 0x0304 (0x20 + st) (leBytes 2 addr)).stnFault st 1 addr)

/-! ### CAN and CAN FD (chapter 2) -/

/-- Over a bus that serves SDO, in a frame whose rates are in force: a transfer in progress ends without a frame when an initiate
arrives; a read of at most 4 bytes (56 of a USDO, log entry 31) is answered with the value at once; a longer one begins a
segmented transfer from a snapshot of the value, answered with its length, or is 0x0504_0005 while another channel of the bus
holds the snapshot; a refused access is answered with its abort; a write that the owner applies is answered as `reply` says, one
that waits is not answered yet, a refused one is answered with its abort; a segmented write whose first checks pass begins, else
it is refused with their code; a block transfer is 0x0504_0001. A segment request with the right toggle gives the next 7 (56)
bytes; a segment of data is added, and the last one applies the transfer, whose bytes agree with the length announced (else
0x0607_0010); a wrong toggle ends the transfer with abort 0x0503_0000, any other segment with 0x0504_0001 and a time-out with
0x0504_0000, and none of these changes anything else. In a state where the bus does not serve SDO the time-out ends the transfer
without a frame. -/
def Obligations.SdoTransfers : Prop :=
  (∀ (s : State) (bus : Nat) (usdo brs : Bool) (i sub : Nat) (w : World), s.sdoServed bus = true → s.frameOk usdo brs = true →
    let d := Door.sdo bus usdo
    let u := s.setChan bus usdo .idle
    let n := if usdo then 56 else 7
    let small := if usdo then 56 else 4
    (∀ o b, u.readObject d i sub = .ok (o, b) → b.length ≤ small →
        exec (.sdoInitiate bus usdo i sub .read brs w) s = .next (u.emit (.answer d i sub 0 b)))
    ∧ (∀ o b, u.readObject d i sub = .ok (o, b) → small < b.length → u.snapshotHeld bus i sub = false →
        exec (.sdoInitiate bus usdo i sub .read brs w) s
          = .next ((u.setChan bus usdo (.upload i sub b false)).emit (.answer d i sub 0 (leBytes 4 b.length))))
    ∧ (∀ o b, u.readObject d i sub = .ok (o, b) → small < b.length → u.snapshotHeld bus i sub = true →
        exec (.sdoInitiate bus usdo i sub .read brs w) s = .next (u.emit (.answer d i sub 0x05040005 [])))
    ∧ (∀ a, u.readObject d i sub = .error a →
        exec (.sdoInitiate bus usdo i sub .read brs w) s = .next (u.emit (.answer d i sub a [])))
    ∧ (∀ b t, u.take d i sub b w = .ok ⟨t, true⟩ →
        exec (.sdoInitiate bus usdo i sub (.write b) brs w) s = .next (t.reply d i sub 0 b.length []))
    ∧ (∀ b t, u.take d i sub b w = .ok ⟨t, false⟩ → exec (.sdoInitiate bus usdo i sub (.write b) brs w) s = .next t)
    ∧ (∀ b a, u.take d i sub b w = .error a →
        exec (.sdoInitiate bus usdo i sub (.write b) brs w) s = .next ((u.refusal i sub b a).reply d i sub a 0 []))
    ∧ (∀ total, u.openCheck i sub (if total = 0 then none else some total) = 0 →
        exec (.sdoInitiate bus usdo i sub (.begin_ total) brs w) s
          = .next ((u.setChan bus usdo (.download i sub [] total false)).emit (.answer d i sub 0 [])))
    ∧ (∀ total a, u.openCheck i sub (if total = 0 then none else some total) = a → a ≠ 0 →
        exec (.sdoInitiate bus usdo i sub (.begin_ total) brs w) s = .next (u.emit (.answer d i sub a [])))
    ∧ exec (.sdoInitiate bus usdo i sub .block brs w) s = .next (u.emit (.answer d i sub 0x05040001 []))
    ∧ (∀ rest t, s.chan bus usdo = .upload i sub rest t → rest.length ≤ n →
        exec (.sdoSegment bus usdo (.next t) brs w) s = .next (u.emit (.answer d i sub 0 (rest.take n))))
    ∧ (∀ rest t, s.chan bus usdo = .upload i sub rest t → n < rest.length →
        exec (.sdoSegment bus usdo (.next t) brs w) s
          = .next ((s.setChan bus usdo (.upload i sub (rest.drop n) (!t))).emit (.answer d i sub 0 (rest.take n))))
    ∧ (∀ rest t, s.chan bus usdo = .upload i sub rest t →
        exec (.sdoSegment bus usdo (.next (!t)) brs w) s = .next (u.emit (.sdoAbort bus usdo 0x05030000)))
    ∧ (∀ got total t b last, s.chan bus usdo = .download i sub got total t →
        exec (.sdoSegment bus usdo (.data (!t) b last) brs w) s = .next (u.emit (.sdoAbort bus usdo 0x05030000)))
    ∧ (∀ got total t b, s.chan bus usdo = .download i sub got total t →
        exec (.sdoSegment bus usdo (.data t b false) brs w) s
          = .next ((s.setChan bus usdo (.download i sub (got ++ b) total (!t))).emit (.answer d i sub 0 [])))
    ∧ (∀ got total t b v, s.chan bus usdo = .download i sub got total t → (total = 0 ∨ (got ++ b).length = total) →
        u.take d i sub (got ++ b) w = .ok ⟨v, true⟩ →
        exec (.sdoSegment bus usdo (.data t b true) brs w) s = .next (v.reply d i sub 0 (got ++ b).length []))
    ∧ (∀ got total t b, s.chan bus usdo = .download i sub got total t → total ≠ 0 → (got ++ b).length ≠ total →
        exec (.sdoSegment bus usdo (.data t b true) brs w) s = .next (u.emit (.answer d i sub 0x06070010 [])))
    ∧ (exec (.sdoSegment bus usdo .other brs w) s = .next (u.emit (.sdoAbort bus usdo 0x05040001)))
    ∧ (s.chan bus usdo ≠ .idle →
        exec (.sdoTimeout bus usdo) s = .next (u.emit (.sdoAbort bus usdo 0x05040000))))
  ∧ (∀ (s : State) (bus : Nat) (usdo : Bool), s.sdoServed bus = false → s.chan bus usdo ≠ .idle →
        exec (.sdoTimeout bus usdo) s = .next (s.setChan bus usdo .idle))

/-- On a node that has booted, NMT STOP and ENTER PRE-OPERATIONAL set the NMT state and change nothing else; START sets it and
the TPDOs compare their values from there; the two resets do the same: they end every transfer of a channel, go to
PRE-OPERATIONAL with the boot-up message given on every bus of the services that is up, and leave every station, head, loop and
sequencer, the NVMe controllers, the ring, Granary and the spread volumes as they are. A heartbeat carries the NMT state on the
buses of the services while object 0x1017 is not 0. The end of the EMCY inhibit time sends the frames held, in order. -/
def Obligations.NetworkManagement : Prop :=
  ∀ (s : State), s.can.booted = true →
    exec .nmtStop s = .next { s with can := { s.can with nmt := .stopped } }
    ∧ exec .nmtEnterPreOperational s = .next { s with can := { s.can with nmt := .preOperational } }
    ∧ exec .nmtStart s = .next ({ s with can := { s.can with nmt := .operational } }.forEach (List.range 8) State.tpdoMark)
    ∧ (∃ t, exec .nmtResetCommunication s = .next t ∧ exec .nmtResetNode s = .next t
        ∧ t.can.nmt = .preOperational ∧ t.can.booted = true ∧ t.can.channels = List.replicate 4 .idle
        ∧ (∀ b, b ∈ serviceBuses t.can.mode → t.busUp b = true → Out.bootUp b ∈ t.out)
        ∧ t.stns = s.stns ∧ t.heads = s.heads ∧ t.loops = s.loops ∧ t.seqs = s.seqs ∧ t.nvme = s.nvme ∧ t.fabric = s.fabric
        ∧ t.granary = s.granary ∧ t.spread = s.spread)
    ∧ (s.reg (key 0x1017 0) ≠ 0 →
        exec .heartbeatTimer s = .next (s.emitOn (serviceBuses s.can.mode) fun b => .heartbeat b s.can.nmt))
    ∧ (s.can.emcyInhibit = true → exec .emcyInhibitExpiry s
        = .next ({ s with can := { s.can with held := [], emcyInhibit := false } }.forEach s.can.held State.sendEmcy))

/-- When the time of a heartbeat that a consumer entry waits for runs out, the event 0x0202 with EMCY 0x8130 is reported, the
entry waits no more, and the NMT state of a booted node follows 0x1029:01 (0: PRE-OPERATIONAL, 2: STOPPED, else unchanged);
no station, head, loop, sequencer or host command changes. -/
def Obligations.HeartbeatTimeout : Prop :=
  ∀ (s : State) (j : Nat), 1 ≤ j → s.can.consumers.getD (j - 1) false = true →
    let u := { s with can := { s.can with consumers := s.can.consumers.set (j - 1) false } }
    let p := u.post 0x0202 0 (leBytes 1 (u.consumed j).1) (some ⟨0x8130, false⟩)
    let r := p.reg (key 0x1029 1)
    ∃ t, exec (.heartbeatConsumerTimeout j) s = .next t
      ∧ t = (if r = 0 then p.nmtTo .preOperational else if r = 2 then p.nmtTo .stopped else p)
      ∧ t.stns = s.stns ∧ t.heads = s.heads ∧ t.loops = s.loops ∧ t.seqs = s.seqs ∧ t.nvme = s.nvme

/-- On a bus that carries PDOs, in a frame whose rates are in force, an enabled asynchronous RPDO takes effect as it arrives and
a synchronous one at the next SYNC; one received on the other bus within one heartbeat period in redundant mode changes nothing.
An RPDO that takes effect makes its mapped writes in order; one of too few bytes raises EMCY 0x8210 (event code 0 and the RPDO's
number are the model's choice, log entry 106); the first write refused discards it. A SYNC applies the RPDOs that wait and then
serves the synchronous TPDOs. The event timer sends an enabled asynchronous TPDO in OPERATIONAL, or marks it while its inhibit
time runs; the end of the inhibit time sends one that waited. -/
def Obligations.ProcessData : Prop :=
  ∀ (s : State) (bus n : Nat) (b : List Byte) (brs : Bool),
    let p := s.pdo n
    let seen := s.modPdo n fun p => { p with lastBus := bus + 1, lastAt := s.now }
    let again := s.can.mode = 0 ∧ p.lastBus ≠ bus + 1 ∧ p.lastBus ≠ 0 ∧ s.now < p.lastAt + s.reg (key 0x1017 0) * 1000
    let served := s.pdoServed bus = true ∧ s.rpdoOn n = true ∧ s.frameOk (brs || decide (8 < b.length)) brs = true
    (served → ¬ again → 240 < s.reg (key (0x1400 + n) 2) →
        exec (.rpdoReceived bus n b brs) s = .next (seen.rpdoTake bus n b))
    ∧ (served → ¬ again → s.reg (key (0x1400 + n) 2) ≤ 240 →
        exec (.rpdoReceived bus n b brs) s = .next (seen.modPdo n fun p => { p with waiting := some b }))
    ∧ (served → again → exec (.rpdoReceived bus n b brs) s = .next s)
    ∧ (8 * b.length < ((s.rpdoEntries n).map (· % 256)).sum → s.rpdoTake bus n b = s.raiseEmcy 0x8210 0 0 n false)
    ∧ (∀ t, ((s.rpdoEntries n).map (· % 256)).sum ≤ 8 * b.length →
        s.rpdoApply bus n (rpdoWrites (s.rpdoEntries n) b) = .ok t → s.rpdoTake bus n b = t)
    ∧ (∀ a, ((s.rpdoEntries n).map (· % 256)).sum ≤ 8 * b.length →
        s.rpdoApply bus n (rpdoWrites (s.rpdoEntries n) b) = .error a → s.rpdoTake bus n b = s.pdoDiscard n a)
    ∧ (s.pdoServed bus = true → exec (.syncReceived bus) s
        = .next ((s.forEach (List.range 8) fun u k => u.rpdoSync bus k).forEach (List.range 8) State.tpdoSync))
    ∧ (s.reg (key (0x1800 + n) 5) ≠ 0 → 254 ≤ s.tpdoType n → s.can.nmt = .operational → s.tpdoOn n = true → p.inhibit = false →
        exec (.tpdoEventTimer n) s = .next (s.tpdoSend n))
    ∧ (s.reg (key (0x1800 + n) 5) ≠ 0 → 254 ≤ s.tpdoType n → s.can.nmt = .operational → s.tpdoOn n = true → p.inhibit = true →
        exec (.tpdoEventTimer n) s = .next (s.modPdo n fun p => { p with pending := true }))
    ∧ (p.inhibit = true → p.pending = true → 254 ≤ s.tpdoType n →
        exec (.tpdoInhibitExpiry n) s = .next ((s.modPdo n fun p => { p with inhibit := false }).tpdoSend n))
    ∧ (p.pending = false → exec (.tpdoInhibitExpiry n) s = .next (s.modPdo n fun p => { p with inhibit := false }))

/-- A controller that goes bus-off stops (BUS_STATE) with record 0x0203; the recovery makes it active and raises EMCY 0x8140
(event code 0 and the bus number are the model's choice, log entry 106); entering and leaving error passive raises EMCY 0x8120. A
heartbeat received starts the consumer entries of its node. A write of 0 to 0x1003:00 that passes the checks at any door clears
the count and the sixteen entries of the history, and is answered. -/
def Obligations.CanControllers : Prop :=
  ∀ (s : State) (bus node : Nat),
    (s.busUp bus = true → s.power.dark = false →
        exec (.canBusOff bus) s = .next ((s.setBus bus .busOff).note 0x0203 0 (leBytes 1 bus)))
    ∧ (s.busState bus = .busOff →
        exec (.busOffRecovery bus) s = .next ((s.setBus bus .active).raiseEmcy 0x8140 0 0 bus false))
    ∧ (s.busState bus = .active → s.power.dark = false →
        exec (.canErrorPassive bus true) s = .next ((s.setBus bus .passive).raiseEmcy 0x8120 0 0 bus false))
    ∧ (s.busState bus = .passive → s.power.dark = false →
        exec (.canErrorPassive bus false) s = .next ((s.setBus bus .active).raiseEmcy 0x8120 0 0 bus false))
    ∧ (s.can.booted = true → exec (.heartbeatReceived node) s = .next { s with can := { s.can with
          consumers := (List.range 4).map fun j =>
            s.can.consumers.getD j false || ((s.consumed (j + 1)).1 == node && (s.consumed (j + 1)).2 != 0) } })
    ∧ (∀ d u, s.admitted d 0x1003 0 0 = some u → exec (.errorHistoryClear d) s
        = .next (((u.setReg (key 0x1003 0) 0).setRegs ((List.range 16).map fun j => (key 0x1003 (j + 1), 0))).answered d 0x1003 0 0))

/-! ### Stores and wakes -/

/-- With no background erase running, the NOR completes a store: the copy not in use takes the values, becomes the newer and
valid, the other one is no longer valid and its sector is erased in the background, and the write is answered. The end of a
background erase ends it and changes nothing else. A domain that wakes is on, its block does what it does on waking, and the
writes that waited for it and for no other domain are applied in their order; it gates again where nothing wants it. A temporary
wake whose use is over ends. -/
def Obligations.StoresAndWakes : Prop :=
  ∀ (s : State) (x : Store) (d : Nat) (bad : Option Nat),
    (s.nor.store = some x → s.nor.erasing = false → exec .storeNorDone s = .next (s.storeDone x))
    ∧ (x.ix = 0x1011 → s.storeDone x = State.reply { s with nor := { s.nor with
          copies := (s.nor.copies.set (1 - s.nor.newer) ⟨true, x.nums, x.raws⟩).modify (1 - (1 - s.nor.newer)) fun c => { c with valid := false }
          newer := 1 - s.nor.newer, erasing := true, store := none } } x.door x.ix x.sub 0 4 [])
    ∧ exec .backgroundEraseDone s = .next { s with nor := { s.nor with erasing := false } }
    ∧ (s.domState d = 2 → s.power.lowering = false →
        let on := (((s.sramWake d).setDom d 3).clockView).blockWakes d bad
        let ready := fun (w : WaitingWrite) => w.domains.all fun k => on.domState k == 3
        exec (.domainWakeDone d bad) s
          = .next (((on.modPower fun p => { p with writes := p.writes.filter fun w => !ready w }).forEach
              (on.power.writes.filter ready) State.applyWaiting).updDomain d))
    ∧ (s.power.tempWakes.contains d = true → s.wakeInUse d = false →
        exec (.temporaryWakeEnd d) s
          = .next ((s.modPower fun p => { p with tempWakes := p.tempWakes.filter (· != d) }).updDomain d))

/-! ### Writes through a door (chapter 2 and each request object's chapter) -/

/-- Through a door that is served, DICT_WRITE gives the state that the checks and the object's rule make (`take`), and its
answer; a write whose owners are gated waits, unanswered, while the owners' domains wake in RUN, or while the device wakes from
HEARTH (wake cause 0x800); a refused one gives the refusing answer, and REFUSED_BUSY counts one more where an immediate request
could not have its tokens (R463), and nothing else changes. Through a door that is shut nothing happens. -/
def Obligations.WritesThroughDoors : Prop :=
  (∀ (s u : State) (d : Door) (i sub : Nat) (v : Val) (w : World), s.opened d i sub (valBytes v) = some u →
    (∀ t, u.take d i sub (valBytes v) w = .ok ⟨t, true⟩ →
        exec (.dictWrite d i sub v w) s = .next (t.reply d i sub 0 (valBytes v).length []))
    ∧ (∀ t, u.take d i sub (valBytes v) w = .ok ⟨t, false⟩ → exec (.dictWrite d i sub v w) s = .next t)
    ∧ (∀ a, u.take d i sub (valBytes v) w = .error a → exec (.dictWrite d i sub v w) s
        = .next ((u.refusal i sub (valBytes v) a).reply d i sub a 0 []))
    ∧ (∀ a, u.refusal i sub (valBytes v) a = u
        ∨ u.refusal i sub (valBytes v) a = u.setReg (key 0x2600 4) (min (u.reg (key 0x2600 4) + 1) 4294967295))
    ∧ (∀ o, u.staticCheck i sub (valBytes v) = .ok o → i ≠ 0x1010 → i ≠ 0x1011 → u.ownerOn i (leNat (valBytes v)) = false →
        let dms := ownerDomains u.part i (leNat (valBytes v))
        let q := u.modPower fun p => { p with writes := p.writes ++ [⟨d, i, sub, valBytes v, dms, w⟩] }
        (u.powerState = psRun → u.power.latched = false → exec (.dictWrite d i sub v w) s = .next (q.forEach dms State.tempWake))
        ∧ (u.powerState ≠ psRun → u.powerState ≠ psBoot → u.mayWake = true → u.on16 = false → u.held = false →
            exec (.dictWrite d i sub v w) s = .next (q.wake 0x800))))
  ∧ (∀ (s : State) (bus i sub : Nat) (v : Val) (w : World),
      (∀ usdo, s.sdoServed bus = false → exec (.dictWrite (.sdo bus usdo) i sub v w) s = .next s)
      ∧ (∀ n, s.pdoServed bus = false → exec (.dictWrite (.pdo bus n) i sub v w) s = .next s)
      ∧ (s.windowOn = false → exec (.dictWrite .bar2 i sub v w) s = .next s ∧ exec (.dictWrite .seg i sub v w) s = .next s)
      ∧ (s.power.dark = true → exec (.dictWrite .inner i sub v w) s = .next s))

/-- A write of REQUEST of object 0x3s01 that every general check admits, in a state in which Table 5.5 accepts the command, makes the object BUSY and holds the command with its steps, which SCHEDULING_POINT takes up (POWER_UP and LOAD first end a running wiring test and BIST runs of the station, POWER_DOWN a wiring test); where Table 5.5 has the command done it ends DONE at once. UNLOAD and STOW run with and without FORCE, LOAD with any STROBE that may be armed, EXIT_MAINT back to where MAINT was entered. The write is answered. -/
def Obligations.StationCommands : Prop :=
  ∀ (s : State) (d : Door),
    (∀ st u, s.admitted d (stIx st 1) (1) (1) = some u → st < 8 → u.stState st = stOff →
        exec (.powerUp d st) s = .next ((((u.wiringAbort st).bistLeave st).startCommand st 1 0 0 false (.bistEnds :: powerSteps)).answered d (stIx st 1) (1) (1)))
    ∧ (∀ st u, s.admitted d (stIx st 1) (1) (1) = some u → st < 8 → u.stState st ≠ stOff → u.stState st ≠ stFault →
        exec (.powerUp d st) s = .next ((u.doneAtOnce st 1).answered d (stIx st 1) (1) (1)))
    ∧ (∀ st target strobe u, s.admitted d (stIx st 1) (1) (2 + target * 256 + strobe * 4096) = some u → st < 8 → 2 ≤ target → target ≤ 4 → strobe < 16 → u.strobeRefused strobe = 0 → loadRow (u.stState st) target = some false →
        exec (.load d st target strobe) s = .next ((((u.wiringAbort st).bistLeave st).startCommand st 2 target strobe false
          (.bistEnds :: ((if u.stState st = stOff then powerSteps else []) ++ loadSteps target))).answered d (stIx st 1) (1) (2 + target * 256 + strobe * 4096)))
    ∧ (∀ st target strobe u, s.admitted d (stIx st 1) (1) (2 + target * 256 + strobe * 4096) = some u → st < 8 → 2 ≤ target → target ≤ 4 → strobe < 16 → u.strobeRefused strobe = 0 → loadRow (u.stState st) target = some true →
        exec (.load d st target strobe) s = .next ((u.doneAtOnce st 2).answered d (stIx st 1) (1) (2 + target * 256 + strobe * 4096)))
    ∧ (∀ st f u, s.admitted d (stIx st 1) (1) (3 + (if f then 65536 else 0)) = some u → st < 8 → stClamped ≤ u.stState st → u.stState st ≤ stActive →
        exec (.unload d st f) s = .next ((u.startCommand st 3 0 0 f [.stopDispatch, .drain, .detach, .parkHeads, .spinDown, .unclamp]).answered d (stIx st 1) (1) (3 + (if f then 65536 else 0))))
    ∧ (∀ st f u, s.admitted d (stIx st 1) (1) (3 + (if f then 65536 else 0)) = some u → st < 8 → u.stState st = stFault → u.below30 st = true → u.reg (stKey st 0x22 12) ≠ 6 →
        exec (.unload d st f) s = .next ((u.startCommand st 3 0 0 f [.drain, .detach, .unclamp]).answered d (stIx st 1) (1) (3 + (if f then 65536 else 0))))
    ∧ (∀ st f u, s.admitted d (stIx st 1) (1) (3 + (if f then 65536 else 0)) = some u → st < 8 → u.stState st = stEmpty →
        exec (.unload d st f) s = .next ((u.doneAtOnce st 3).answered d (stIx st 1) (1) (3 + (if f then 65536 else 0))))
    ∧ (∀ st f u, s.admitted d (stIx st 1) (1) (4 + (if f then 65536 else 0)) = some u → st < 8 → stSpinning ≤ u.stState st → u.stState st ≤ stActive →
        exec (.stow d st f) s = .next ((u.startCommand st 4 0 0 f [.stopDispatch, .drain, .detach, .parkHeads, .spinDown]).answered d (stIx st 1) (1) (4 + (if f then 65536 else 0))))
    ∧ (∀ st f u, s.admitted d (stIx st 1) (1) (4 + (if f then 65536 else 0)) = some u → st < 8 → u.stState st = stClamped →
        exec (.stow d st f) s = .next ((u.doneAtOnce st 4).answered d (stIx st 1) (1) (4 + (if f then 65536 else 0))))
    ∧ (∀ st u, s.admitted d (stIx st 1) (1) (5) = some u → st < 8 → (u.stState st = stEmpty ∨ u.stState st = stClamped ∨ (u.stState st = stFault ∧ u.below30 st = true)) →
        exec (.powerDown d st) s = .next (((u.wiringAbort st).startCommand st 5 0 0 false [.lowerPsen, .gate]).answered d (stIx st 1) (1) (5)))
    ∧ (∀ st u, s.admitted d (stIx st 1) (1) (5) = some u → st < 8 → u.stState st = stOff →
        exec (.powerDown d st) s = .next ((u.doneAtOnce st 5).answered d (stIx st 1) (1) (5)))
    ∧ (∀ st u, s.admitted d (stIx st 1) (1) (6) = some u → st < 8 → stEmpty ≤ u.stState st → u.stState st ≤ stActive →
        exec (.enterMaint d st) s = .next ((u.startCommand st 6 0 0 false [.stopDispatch, .waitInflight, .enterMaint]).answered d (stIx st 1) (1) (6)))
    ∧ (∀ st u, s.admitted d (stIx st 1) (1) (6) = some u → st < 8 → u.stState st = stMaint →
        exec (.enterMaint d st) s = .next ((u.doneAtOnce st 6).answered d (stIx st 1) (1) (6)))
    ∧ (∀ st u, s.admitted d (stIx st 1) (1) (7) = some u → st < 8 → u.stState st = stMaint →
        exec (.exitMaint d st) s = .next ((u.startCommand st 7 0 0 false
          ([.abortOrders] ++ (if (u.stn st).maintFrom ≤ stEmpty then [] else loadSteps (min (u.stn st).maintFrom 4)) ++ [.leaveMaint])).answered d (stIx st 1) (1) (7)))
    ∧ (∀ st u, s.admitted d (stIx st 1) (1) (8) = some u → st < 8 → u.stState st = stFault → u.below30 st = true →
        exec (.clearFault d st) s = .next ((u.startCommand st 8 0 0 false [.wakeCore, .checkStore, .raisePsen, .wiringTest, .readClamp]).answered d (stIx st 1) (1) (8)))

/-- A write that every general check admits: STOP marks the running command, or withdraws a wait for a slot, a grant or a strobe and ends the command with 0x0F53_0002, or does nothing where none runs; STROBE_FIRE and DSTROBE_FIRE fire the strobes of the mask; a direct order takes the slot with its result object BUSY, in MAINT or, MEASURE_LOOP, in READY, waits for SCHEDULING_POINT in ACTIVE, and PARK also raises ORDER_ABORT; TARGET_RPM is set and followed; the LBA translation ends its result object at once; the wiring test's order is issued in EMPTY, CLAMPED, or FAULT below 30 rpm. -/
def Obligations.StationWrites : Prop :=
  ∀ (s : State) (d : Door),
    (∀ st c u, s.admitted d (stIx st 0) (14) (1) = some u → st < 8 → (u.stn st).cmd = some c → u.stFlag st 5 = false → u.stFlag st 6 = false → (c.taken = false ∨ c.strobe = 0 ∨ c.steps.head? ≠ some .spinUp) →
        exec (.stationStop d st 1) s = .next ((u.modStn st fun x => { x with cmd := some { c with stop := true } }).answered d (stIx st 0) (14) (1)))
    ∧ (∀ st c u, s.admitted d (stIx st 0) (14) (1) = some u → st < 8 → (u.stn st).cmd = some c → (u.stFlag st 5 = true ∨ u.stFlag st 6 = true ∨ (c.taken = true ∧ c.strobe ≠ 0 ∧ c.steps.head? = some .spinUp)) →
        exec (.stationStop d st 1) s = .next (((u.withdraw st).endCommand st 0x0F530002).answered d (stIx st 0) (14) (1)))
    ∧ (∀ st u, s.admitted d (stIx st 0) (14) (1) = some u → st < 8 → (u.stn st).cmd = none →
        exec (.stationStop d st 1) s = .next ((u).answered d (stIx st 0) (14) (1)))
    ∧ (∀ st mask u, s.admitted d (stIx st 2) (1) (mask) = some u → st < 8 → mask < 256 → mask % 2 = 0 →
        exec (.strobeFire d st mask) s = .next ((u.fireStrobes [st] (bitsIn 8 mask)).answered d (stIx st 2) (1) (mask)))
    ∧ (∀ st mask u, s.admitted d (stIx st 2) (2) (mask) = some u → st < 8 → mask < 4096 → mask % 256 = 0 →
        exec (.dstrobeFire d st mask) s = .next ((u.fireStrobes (List.range u.part.stations) (bitsIn 12 mask)).answered d (stIx st 2) (2) (mask)))
    ∧ (∀ st v u, s.admitted d (stIx st 3) (1) (v) = some u → st < 8 → v % 256 ≤ 63 → bitsOf v 9 8 ≠ 3 → u.strobeRefused (bitsOf v 15 12) = 0 → v % 256 ≠ 6 → (u.stState st = stMaint ∨ (v % 256 = 0x0B ∧ u.stState st = stReady)) → u.slotHeld (seqOf st (bitsOf v 9 8)) = false →
        exec (.directOrder d st v) s = .next ((((u.beginResult (stIx st 3)).setLathe (seqOf st (bitsOf v 9 8)) 1 0).offerOrder (seqOf st (bitsOf v 9 8))
          ⟨v % 256, v / 65536 % 65536, bitsOf v 15 12, .direct⟩).answered d (stIx st 3) (1) (v)))
    ∧ (∀ st v u, s.admitted d (stIx st 3) (1) (v) = some u → st < 8 → v % 256 ≤ 63 → bitsOf v 9 8 ≠ 3 → u.strobeRefused (bitsOf v 15 12) = 0 → v % 256 = 0x0B → u.stState st = stActive → u.slotHeld (seqOf st (bitsOf v 9 8)) = false →
        exec (.directOrder d st v) s = .next ((((u.beginResult (stIx st 3)).setLathe (seqOf st (bitsOf v 9 8)) 1 0).modStn st fun t => { t with orderWait := t.orderWait ++
          [(seqOf st (bitsOf v 9 8), ⟨v % 256, v / 65536 % 65536, bitsOf v 15 12, .direct⟩)] }).answered d (stIx st 3) (1) (v)))
    ∧ (∀ st v u, s.admitted d (stIx st 3) (1) (v) = some u → st < 8 → v % 256 ≤ 63 → bitsOf v 9 8 ≠ 3 → u.strobeRefused (bitsOf v 15 12) = 0 → v % 256 = 6 → u.stState st = stMaint → ((u.sq (seqOf st (bitsOf v 9 8))).slot.any fun o => o.origin.prio ≤ 2) = false →
        exec (.directOrder d st v) s = .next (((((u.beginResult (stIx st 3)).setLathe (seqOf st (bitsOf v 9 8)) 1 0).offerOrder (seqOf st (bitsOf v 9 8))
          ⟨v % 256, v / 65536 % 65536, bitsOf v 15 12, .direct⟩).raiseTrap (seqOf st (bitsOf v 9 8)) 0 0 0).answered d (stIx st 3) (1) (v)))
    ∧ (∀ st rpm u, s.admitted d (stIx st 18) (1) (rpm) = some u → st < 8 →
        exec (.targetRpmWrite d st rpm) s = .next (((u.setReg (key (stIx st 18) 1) rpm).retarget st).answered d (stIx st 18) (1) (rpm)))
    ∧ (∀ st u, s.admitted d (stIx st 196) (1) (1) = some u → st < 8 →
        exec (.lbaTranslate d st 1) s = .next ((u.endResult (stIx st 196) (u.translate st).1 (u.translate st).2).answered d (stIx st 196) (1) (1)))
    ∧ (∀ st v u, s.admitted d (stIx st 226) (1) (v) = some u → st < 8 → 1 ≤ v % 256 → v % 256 ≤ 4 → (u.stState st = stEmpty ∨ u.stState st = stClamped ∨ (u.stState st = stFault ∧ u.below30 st = true)) → (u.stn st).wiring = none → u.hasOrder (16 + st) 24 = false → (bitOf v 16 = false ∨ u.tokensFree ((bitsIn 3 (scopeParts (v % 256))).map (partToken st)) = true) →
        exec (.wiringTestRequest d st v) s = .next (((u.beginResult (stIx st 226)).issueStation st 24 (v % 256)).answered d (stIx st 226) (1) (v)))

/-- A write that every general check admits: LOOP_CMD in MAINT gives the loop its command (CLOSE also from HOLD and in CLOSED); APPLY starts the staged sets; INJ_ENABLE turns the injector on and off; the capture is armed; a measurement starts in READY or MAINT and waits for SCHEDULING_POINT in ACTIVE; a dump of a frame that the ring holds gives its samples, count and flags, of another it fails with 0x0F5B_0001. MEASURE_LOOP with no door is the running order's measurement. -/
def Obligations.LoopWrites : Prop :=
  ∀ (s : State) (d : Door),
    (∀ e l u, s.admitted d (engIx e 0) (1 + l + loopCount e) (0) = some u → e < 24 → l < loopCount e → u.stState (engStation e) = stMaint →
        exec (.loopCmdOff d e l) s = .next (((u.loopOff e l).setReg (key (engIx e 0) (1 + l + loopCount e)) 0).answered d (engIx e 0) (1 + l + loopCount e) (0)))
    ∧ (∀ e l u, s.admitted d (engIx e 0) (1 + l + loopCount e) (1) = some u → e < 24 → l < loopCount e → u.stState (engStation e) = stMaint →
        exec (.loopCmdOpen d e l) s = .next (((u.loopOpen e l).setReg (key (engIx e 0) (1 + l + loopCount e)) 1).answered d (engIx e 0) (1 + l + loopCount e) (1)))
    ∧ (∀ e l u, s.admitted d (engIx e 0) (1 + l + loopCount e) (3) = some u → e < 24 → l < loopCount e → u.stState (engStation e) = stMaint → (u.loopState e l = lsClosed ∨ u.loopState e l = lsHold) →
        exec (.loopCmdHold d e l) s = .next (((u.setCause e l hcCommand).setReg (key (engIx e 0) (1 + l + loopCount e)) 3).answered d (engIx e 0) (1 + l + loopCount e) (3)))
    ∧ (∀ e l u, s.admitted d (engIx e 0) (1 + l + loopCount e) (4) = some u → e < 24 → l < loopCount e → u.stState (engStation e) = stMaint → (u.loopState e l = lsOpen ∨ u.loopState e l = lsSearch) → u.mayClose e l = true →
        exec (.loopCmdClose d e l) s = .next (((u.loopClose e l).setReg (key (engIx e 0) (1 + l + loopCount e)) 4).answered d (engIx e 0) (1 + l + loopCount e) (4)))
    ∧ (∀ e l u, s.admitted d (engIx e 0) (1 + l + loopCount e) (4) = some u → e < 24 → l < loopCount e → u.stState (engStation e) = stMaint → u.loopState e l = lsHold →
        exec (.loopCmdClose d e l) s = .next ((((u.modLp e l fun p => { p with expired := false }).clearCause e l hcCommand).setReg (key (engIx e 0) (1 + l + loopCount e)) 4).answered d (engIx e 0) (1 + l + loopCount e) (4)))
    ∧ (∀ e l u, s.admitted d (engIx e 0) (1 + l + loopCount e) (4) = some u → e < 24 → l < loopCount e → u.stState (engStation e) = stMaint → u.loopState e l = lsClosed →
        exec (.loopCmdClose d e l) s = .next ((u.setReg (key (engIx e 0) (1 + l + loopCount e)) 4).answered d (engIx e 0) (1 + l + loopCount e) (4)))
    ∧ (∀ e u, s.admitted d (engIx e 6) (50) (1) = some u → e < 24 → ((setLoops e (u.reg (engKey e 6 49))).any fun l =>
          u.loopState e l == lsSearch || (u.loopState e l == lsHold && bitOf (u.holdCause e l) hcLathe)) = false → (isHead e && u.substate e == hsWriting) = false → u.stagedOk e = true →
        exec (.apply d e) s = .next ((u.startApply e (u.reg (engKey e 6 49))).answered d (engIx e 6) (50) (1)))
    ∧ (∀ e u, s.admitted d (engIx e 11) (1) (1) = some u → e < 24 → u.injFrequency e = true → u.stState (engStation e) = stMaint → ((u.eng e).inj = .free ∨ (u.eng e).inj = .dict) → (u.loopState e (u.reg (engKey e 11 2)) = lsOpen ∨ u.loopState e (u.reg (engKey e 11 2)) = lsClosed) →
        exec (.injEnable d e 1) s = .next (((u.setReg (engKey e 11 1) 1).modEng e fun g => { g with inj := .dict, injN := 0 }).answered d (engIx e 11) (1) (1)))
    ∧ (∀ e u, s.admitted d (engIx e 11) (1) (0) = some u → e < 24 →
        exec (.injEnable d e 0) s = .next (((u.setReg (engKey e 11 1) 0).modEng e fun g => { g with inj := if g.inj = .dict then .free else g.inj }).answered d (engIx e 11) (1) (0)))
    ∧ (∀ e u, s.admitted d (engIx e 12) (1) (1) = some u → e < 24 →
        exec (.captureRequest d e 1) s = .next ((u.capArm e).answered d (engIx e 12) (1) (1)))
    ∧ (∀ e v u, s.admitted d (engIx e 14) (1) (v) = some u → e < 24 → d ≠ .inner → u.loopPresent e (v % 16) = true → (bitsOf v 23 16 = 0 ∨ 4 ≤ bitsOf v 23 16) → (bitsOf v 15 8 = 0 ∨ (8 ≤ bitsOf v 15 8 ∧ bitsOf v 15 8 ≤ 64)) → (u.stState (engStation e) = stReady ∨ u.stState (engStation e) = stMaint) →
        exec (.measureLoop d e v) s = .next (((u.beginResult (engIx e 14)).measureObject e v).answered d (engIx e 14) (1) (v)))
    ∧ (∀ e v u, s.admitted d (engIx e 14) (1) (v) = some u → e < 24 → d ≠ .inner → u.loopPresent e (v % 16) = true → (bitsOf v 23 16 = 0 ∨ 4 ≤ bitsOf v 23 16) → (bitsOf v 15 8 = 0 ∨ (8 ≤ bitsOf v 15 8 ∧ bitsOf v 15 8 ≤ 64)) → u.stState (engStation e) = stActive →
        exec (.measureLoop d e v) s = .next (((u.beginResult (engIx e 14)).modStn (engStation e) fun t => { t with measWait := t.measWait ++ [(e, v)] }).answered d (engIx e 14) (1) (v)))
    ∧ (∀ hd u, s.admitted d (chIx hd 13) (1) (1) = some u → hd < 16 → (u.ring.filter fun f => f.h == hd && f.b == u.reg (chKey hd 12 2) && f.psa == u.reg (chKey hd 12 1)).getLast? = none →
        exec (.ringFrameDump d hd 1) s = .next ((u.endResult (chIx hd 13) [] 0x0F5B0001).answered d (chIx hd 13) (1) (1)))
    ∧ (∀ hd x u, s.admitted d (chIx hd 13) (1) (1) = some u → hd < 16 → (u.ring.filter fun f => f.h == hd && f.b == u.reg (chKey hd 12 2) && f.psa == u.reg (chKey hd 12 1)).getLast? = some x →
        exec (.ringFrameDump d hd 1) s = .next (((u.setRaw (chKey hd 14 0) x.samples).endResult (chIx hd 13) [(5, x.count), (6, x.flags)] 0).answered d (chIx hd 13) (1) (1)))
    ∧ (∀ e v, exec (.measureLoop .inner e v) s = .next (s.measureOrdered e v))

/-- A write that every general check admits: POWER_CMD 1, 2 and 3 where their conditions hold; a flush starts; FREEZE freezes and releases; CURSOR and ADVANCE load the window; the calendar is set where the device does not follow; the tag probe and the address decode end their result object at once; the ring is switched on, and off with no spread namespace; RS_FIRE on the master announces the strobe; an override that is off, or of a defined code that no other entry has and that it may take from the Ledger, takes its entry, is counted, and is recorded where it changed. -/
def Obligations.DeviceWrites : Prop :=
  ∀ (s : State) (d : Door),
    (∀ u, s.admitted d (0x2100) (2) (1) = some u → u.powerState = psRun → ((List.range u.part.stations).all fun i => u.stState i == stOff) = true → u.anyDirty = false → u.enabledCtrls = 0 → u.power.latched = false →
        exec (.enterHearth d) s = .next (((((u.setReg (key 0x2100 3) 0).setPower psShutdown).lowerRails .hearth).updAll).answered d (0x2100) (2) (1)))
    ∧ (∀ u, s.admitted d (0x2100) (2) (2) = some u → u.mayWake = true → u.on16 = false → u.held = false →
        exec (.wake d) s = .next ((u.wake 0x400).answered d (0x2100) (2) (2)))
    ∧ (∀ u, s.admitted d (0x2100) (2) (3) = some u → u.powerState = psFailed → u.on16 = false → u.rails = 0 → u.power.lowering = false → u.held = false →
        exec (.clearFailed d) s = .next (((u.modPower fun p => { p with restarts := [] }).startUp true true).answered d (0x2100) (2) (3)))
    ∧ (∀ u, s.admitted d (0x2200) (6) (1) = some u →
        exec (.flushNow d 1) s = .next ((u.startFlush).answered d (0x2200) (6) (1)))
    ∧ (∀ u, s.admitted d (0x2200) (9) (1) = some u → u.reg (key 0x2200 9) ≠ 1 →
        exec (.freezeWrite d 1) s = .next (((u.note 0x0C03 0 (leBytes 1 1)).setReg (key 0x2200 9) 1).answered d (0x2200) (9) (1)))
    ∧ (∀ u, s.admitted d (0x2200) (9) (0) = some u → u.reg (key 0x2200 9) ≠ 0 →
        exec (.freezeWrite d 0) s = .next ((u.freezeRelease).answered d (0x2200) (9) (0)))
    ∧ (∀ v u, s.admitted d (0x2201) (1) (v) = some u →
        exec (.cursorWrite d v) s = .next ((u.loadWindow d v).answered d (0x2201) (1) (v)))
    ∧ (∀ u, s.admitted d (0x2201) (4) (1) = some u →
        exec (.advance d 1) s = .next ((u.loadWindow d (((u.window d).recSeq + 1) % 18446744073709551616)).answered d (0x2201) (4) (1)))
    ∧ (∀ v u, s.admitted d (0x2300) (1) (v) = some u → u.following = false →
        exec (.calendarTimeWrite d v) s = .next ((u.calendarSet v 2).answered d (0x2300) (1) (v)))
    ∧ (∀ u, s.admitted d (0x4403) (1) (1) = some u → (nsSpread (u.reg (key 0x4402 1)) = true ∨ u.line (u.reg (key 0x4402 1)) (u.reg (key 0x4402 2) % 1099511627776) = none) →
        exec (.tagProbe d 1) s = .next ((let x := u.setOf (u.reg (key 0x4402 1)) (u.reg (key 0x4402 2) % 1099511627776)
          u.endResult 0x4403 [(5, x), (6, x % 2), (7, 0xFF), (8, 0), (9, 0), (10, 0), (11, 0), (12, 0), (13, 18446744073709551615),
            (14, u.tree x)] 0).answered d (0x4403) (1) (1)))
    ∧ (∀ l u, s.admitted d (0x4403) (1) (1) = some u → nsSpread (u.reg (key 0x4402 1)) = false → u.line (u.reg (key 0x4402 1)) (u.reg (key 0x4402 2) % 1099511627776) = some l →
        exec (.tagProbe d 1) s = .next ((let x := u.setOf (u.reg (key 0x4402 1)) (u.reg (key 0x4402 2) % 1099511627776)
          let st := match l.state with | .filling => 1 | .valid => 2 | .evicting => 3 | .dirty => 4 | .writing => 5
          u.endResult 0x4403 [(5, x), (6, x % 2), (7, l.way), (8, st), (9, l.valid), (10, l.dirty), (11, l.poison), (12, l.lock),
            (13, l.flushSeq.getD 18446744073709551615), (14, u.tree x)] 0).answered d (0x4403) (1) (1)))
    ∧ (∀ u, s.admitted d (0x4603) (1) (1) = some u →
        exec (.hbmAddressDecode d 1) s = .next ((let a := u.reg (key 0x4602 1)
          u.endResult 0x4603 [(5, (u.regionOf a).getD 0), (6, adStack a), (7, adChannel a), (8, adPseudo a), (9, adBank a), (10, adRow a),
            (11, min 255 (u.rowEvents (rowOfAddr a)))] 0).answered d (0x4603) (1) (1)))
    ∧ (∀ u, s.admitted d (0x4800) (1) (1) = some u → u.reg (ringKey 1) ≠ 1 →
        exec (.ringEnableWrite d 1) s = .next ((((u.setReg (ringKey 1) 1).setRingState rsAlone).updAll).answered d (0x4800) (1) (1)))
    ∧ (∀ u, s.admitted d (0x4800) (1) (0) = some u → u.reg (ringKey 1) ≠ 0 → (u.nvme.namespaces.any fun n => nsSpread n.nsid) = false →
        exec (.ringEnableWrite d 0) s = .next ((((u.setReg (ringKey 1) 0).ringOff).updAll).answered d (0x4800) (1) (0)))
    ∧ (∀ u, s.admitted d (0x4803) (3) (1) = some u → u.isMaster = true → u.ringTime + 1000 * u.reg (ringKey 12) ≤ u.reg (key 0x4803 2) →
        exec (.rsFire d 1) s = .next (((u.addStrobe (u.reg (key 0x4803 1)) (u.reg (key 0x4803 2))).ringAll 9 [u.reg (key 0x4803 1), u.reg (key 0x4803 2)]).answered d (0x4803) (3) (1)))
    ∧ (∀ i v u, s.admitted d (0x5801) (i) (v) = some u → v % 65536 < 8 → (v % 65536 < 4 ∨ (codeDefined (v / 65536) = true
          ∧ (u.overrides.any fun p => p.1 != i && p.2 / 65536 == v / 65536) = false ∧ (bitOf v 0 = true ∨ (severityOf (v / 65536) < 3
            ∧ v / 65536 ≠ 0x0204 ∧ v / 65536 ≠ 0x0C01 ∧ v / 65536 ≠ 0x0C02 ∧ v / 65536 / 256 ≠ 0x0B)))) →
        exec (.eventOverrideWrite d i v) s = .next ((let w := (u.setReg (key 0x5801 i) v).setReg (key 0x5800 1) (u.setReg (key 0x5801 i) v).overrides.length
          if u.reg (key 0x5801 i) = v then w else w.note 0x0E05 0 (leBytes 1 i ++ leBytes 4 v)).answered d (0x5801) (i) (v)))

/-- A write that every general check admits does what its rule says: with the authorisation open, the Ledger clear, the repair-map clear, the injection arm and the erase of the customer image; on the master, volume create, delete and replace where the definition passes its checks, and a create that fails them ends with their code; the install of a customer or recovery image, or the code of its checks; a life-cycle transition that is met, not interrupted and not authorised by an open authorisation, and one that is not met (0x0F5E_0005); the customer key, programmed or failed; a quote, or 0x0F5E_0006 without a valid identity; CLOSE. -/
def Obligations.SecurityWrites : Prop :=
  ∀ (s : State) (d : Door),
    (∀ u, s.admitted d (0x4600) (13) (1) = some u → u.authorised = true →
        exec (.repairMapClear d 1) s = .next (((u.modHbm fun h => { h with clearMap := true }).authAction d 0x4600 13).answered d (0x4600) (13) (1)))
    ∧ (∀ u, s.admitted d (0x4603) (1) (2) = some u → u.authorised = true →
        exec (.hbmInjectArm d 2) s = .next ((((u.modHbm fun h => { h with armed := if u.reg (key 0x4602 2) = 0 then none else some (u.reg (key 0x4602 1), u.reg (key 0x4602 2)) }).authAction
          d 0x4603 1).endResult 0x4603 [] 0).answered d (0x4603) (1) (2)))
    ∧ (∀ v far u, s.admitted d (0x4A01) (1) (v) = some u → v % 256 = 1 → u.isMaster = true → u.volume (v / 256 % 256) = none → u.createCode { volumeOf (u.raw (key 0x4A02 0)) with v := (v / 256 % 256) } far = 0 →
        exec (.volumeCreate d v far) s = .next ((let w := u.modSpread fun p => { p with volumes := p.volumes ++ [{ volumeOf (u.raw (key 0x4A02 0)) with v := (v / 256 % 256) }] }
          ((w.volumeView.sendVolumes).spreadFollow).endResult 0x4A01 [(5, (v / 256 % 256))] 0).answered d (0x4A01) (1) (v)))
    ∧ (∀ v far c u, s.admitted d (0x4A01) (1) (v) = some u → v % 256 = 1 → u.isMaster = true → u.volume (v / 256 % 256) = none → u.createCode { volumeOf (u.raw (key 0x4A02 0)) with v := (v / 256 % 256) } far = c → c ≠ 0 →
        exec (.volumeCreate d v far) s = .next ((u.endResult 0x4A01 [(5, (v / 256 % 256))] c).answered d (0x4A01) (1) (v)))
    ∧ (∀ v x u, s.admitted d (0x4A01) (1) (v) = some u → v % 256 = 2 → u.isMaster = true → u.volume (v / 256 % 256) = some x → (u.spread.staged.any fun l => l.nsid == 256 + (v / 256 % 256)) = false →
        exec (.volumeDelete d v) s = .next ((let w := u.modSpread fun p => { p with volumes := p.volumes.filter fun x => x.v != (v / 256 % 256) }
          ((w.volumeView.sendVolumes).detachNs (256 + (v / 256 % 256))).endResult 0x4A01 [(5, (v / 256 % 256))] 0).answered d (0x4A01) (1) (v)))
    ∧ (∀ v far x old c u, s.admitted d (0x4A01) (1) (v) = some u → v % 256 = 3 → u.isMaster = true → u.volume (v / 256 % 256) = some x → x.cols[v / 65536 % 256]? = some old → (volumeOf (u.raw (key 0x4A02 0))).cols[v / 65536 % 256]? = some c → u.colUp old = false → ((x.cols.eraseIdx (v / 65536 % 256)).map (·.serial)).contains c.serial = false → (u.fabric.roster.any fun e => e.serial == c.serial) = true → (if c.serial = u.serial then !u.zonesEmpty c x.zones else far) = false → u.zonesClaimed c x.zones = false →
        exec (.replaceColumn d v far) s = .next ((let w := u.modVolume (v / 256 % 256) fun y => y.modCol (v / 65536 % 256) fun _ => { c with
            owed := (List.range x.zones).flatMap fun z => (List.range (x.zoneRows z)).map (4000 * z + ·), rebuilding := true }
          (w.volumeView.sendVolumes).endResult 0x4A01 [(5, (v / 256 % 256))] 0).answered d (0x4A01) (1) (v)))
    ∧ (∀ u, s.admitted d (0x5002) (1) (1) = some u → u.lc = lcProvisioned → u.keyFused = false → (u.sec.interrupted.any fun p => p.1 == lcField && 0 < p.2) = false →
        exec (.customerKeyFuse d 1 true) s = .next ((((u.setRaw (key 0x5000 6) (u.raw (key 0x5002 5))).setSecFlag 2 true).endResult 0x5002 [] 0).answered d (0x5002) (1) (1)))
    ∧ (∀ u, s.admitted d (0x5002) (1) (1) = some u → u.lc = lcProvisioned → u.keyFused = false → (u.sec.interrupted.any fun p => p.1 == lcField && 0 < p.2) = false →
        exec (.customerKeyFuse d 1 false) s = .next ((u.endResult 0x5002 [] 0x0F5E0007).answered d (0x5002) (1) (1)))
    ∧ (∀ u, s.admitted d (0x5011) (1) (1) = some u → u.lcOwned = true → u.identityValid = true →
        exec (.quoteRequest d 1) s = .next (((u.beginResult 0x5011).askQuote ⟨u.raw (key 0x5010 0), none⟩).answered d (0x5011) (1) (1)))
    ∧ (∀ u, s.admitted d (0x5011) (1) (1) = some u → u.lcOwned = true → u.identityValid = false →
        exec (.quoteRequest d 1) s = .next ((u.endResult 0x5011 [] 0x0F5E0006).answered d (0x5011) (1) (1)))
    ∧ (∀ u, s.admitted d (0x5020) (6) (1) = some u →
        exec (.authClose d 1) s = .next ((u.authClose).answered d (0x5020) (6) (1)))
    ∧ (∀ u, s.admitted d (0x5401) (1) (1) = some u → (u.lc = lcProvisioned ∨ u.lc = lcField) → ((List.range u.part.stations).all fun i => (u.stState i ≤ stClamped || u.stState i == stFault) && !u.busy (stIx i 1)) = true →
        exec (.customerImageInstall d 1) s = .next ((let a := u.tempWake 94
          let b := a.raw (key 0x5402 0)
          let m := customerFields b
          if a.customerCode b ≠ 0 then a.endResult 0x5401 [] (a.customerCode b)
          else
            let w := { a with stores := { a.stores with image := some m, abiOk := m.abi == a.vendorAbi } }.setReg (key 0x5400 6)
              (max (a.reg (key 0x5400 6)) m.version)
            (w.measure 6 w.stores.digest).endResult 0x5401 [(5, m.version), (6, m.words.length)] 0).answered d (0x5401) (1) (1)))
    ∧ (∀ u, s.admitted d (0x5401) (1) (2) = some u → u.authorised = true → ((List.range u.part.stations).all fun i => (u.stState i ≤ stClamped || u.stState i == stFault) && !u.busy (stIx i 1)) = true →
        exec (.customerImageErase d 2) s = .next ((let w := (u.authAction d 0x5401 1).dropCustomer
          (w.measure 6 w.stores.digest).endResult 0x5401 [(5, 0), (6, 0)] 0).answered d (0x5401) (1) (2)))
    ∧ (∀ v u, s.admitted d (0x5001) (1) (v) = some u → v / 65536 = 0x4C43 → v / 256 % 256 = 0 → u.power.latched = false → ((List.range u.part.stations).any fun i => stSpinning ≤ u.stState i && u.stState i ≤ stActive) = false → u.anyDirty = false → u.enabledCtrls = 0 → u.transitionMet (v % 256) = true → u.authState = 0 → u.sec.interrupted = [] →
        exec (.lifeCycleTransition d v .done) s = .next ((let a := (((u.program (v % 256) 0 2).setReg (key 0x5000 1) (v % 256)).setSecFlag 0 false).modSec fun g => { g with interrupted := [] }
          let b := (a.post 0x0B01 8 (leBytes 1 u.lc ++ leBytes 1 (v % 256)) (some ⟨0xFF41, false⟩)).endResult 0x5001 [(5, u.lc), (6, v % 256)] 0
          b.resetAssert.resetRelease).answered d (0x5001) (1) (v)))
    ∧ (∀ v prog u, s.admitted d (0x5001) (1) (v) = some u → v / 65536 = 0x4C43 → v / 256 % 256 = 0 → u.power.latched = false → ((List.range u.part.stations).any fun i => stSpinning ≤ u.stState i && u.stState i ≤ stActive) = false → u.anyDirty = false → u.enabledCtrls = 0 → u.transitionMet (v % 256) = false →
        exec (.lifeCycleTransition d v prog) s = .next ((u.endResult 0x5001 [(5, u.lc), (6, v % 256)] 0x0F5E0005).answered d (0x5001) (1) (v)))
    ∧ (∀ u, s.admitted d (0x5031) (1) (1) = some u → u.powerState = psRecovery →
        exec (.recoveryInstall d 1) s = .next ((let a := u.tempWake 94
          let f := imageOf (a.raw (key 0x5030 0))
          if a.imageCode f ≠ 0 then a.endResult 0x5031 [] (a.imageCode f)
          else ({ a with nor := { a.nor with banks := [some f, some f], bankSelect := 0 } }.endResult 0x5031 [] 0).lowerRails .startUp).answered d (0x5031) (1) (1)))
    ∧ (∀ u, s.admitted d (0x2200) (13) (1) = some u → u.authorised = true → u.power.latched = false → u.reg (key 0x2200 9) ≠ 1 → u.ledger.clearing = [] →
        exec (.ledgerClear d 1) s = .next ((let f := u.ledger.nextSeq
          let held := (List.range 256).filter fun n => match u.ledger.nor[n]? with | some x => !x.frames.isEmpty | none => false
          let a := (u.modLedger fun l => { l with
            floor := f, clearing := held, clearTotal := held.length, sram := l.sram.filter fun r => f ≤ r.seq, flushed := f - 1
            flushTo := none, episode := none }).setReg (key 0x2200 14) (if held.isEmpty then 100 else 0)
          ((a.note 0x0C02 0 (leBytes 1 (doorPath d) ++ leBytes 8 f)).authAction d 0x2200 13).ledgerView).answered d (0x2200) (13) (1)))

/-- A store or restore of a scope that carries its signature, with no store running and the power-fail not latched, begins the programming of the copy; the answer waits for it (STORE_NOR_DONE). A write of REQUEST of object 0x2441 for a unit that is present, in RUN with no round running, makes the object BUSY, wakes the unit's domains and begins the round, or waits for its tokens. A write of REQUEST of object 0x2501 for a partition that is present and may run, with no run of it in progress, makes the object BUSY and asks for the run. With bit 16 set both need their tokens free: an RF visit round and a station-core run that cannot have them are refused with 0x0800_0021 and counted in REFUSED_BUSY, and nothing else changes. -/
def Obligations.MaintenanceRequests : Prop :=
  ∀ (s : State) (d : Door),
    (∀ sub o u, s.opened d 0x1010 sub (numberBytes 0x1010 sub 0x65766173) = some u →
        u.staticCheck 0x1010 sub (numberBytes 0x1010 sub 0x65766173) = .ok o → 1 ≤ sub → sub ≤ 4 → u.power.latched = false →
        u.nor.store = none → exec (.storeParameters d sub 0x65766173) s
          = .next { u with nor := { u.nor with store := some (u.storeJob d 0x1010 sub) } })
    ∧ (∀ sub o u, s.opened d 0x1011 sub (numberBytes 0x1011 sub 0x64616F6C) = some u →
        u.staticCheck 0x1011 sub (numberBytes 0x1011 sub 0x64616F6C) = .ok o → 1 ≤ sub → sub ≤ 4 → u.power.latched = false →
        u.nor.store = none → exec (.restoreDefaults d sub 0x64616F6C) s
          = .next { u with nor := { u.nor with store := some (u.storeJob d 0x1011 sub) } })
    ∧ (∀ n u, s.admitted d 0x2441 1 (65537 + 256 * n) = some u → n < 16 → u.stationPresent (n / 2) = true → u.powerState = psRun →
        u.reg (calKey 2) ≠ 1 → u.tokensFree (calTokens 1 n) = false →
        exec (.calRfVisitRound d (65537 + 256 * n)) s
          = .next ((u.setReg (key 0x2600 4) (min (u.reg (key 0x2600 4) + 1) 4294967295)).reply d 0x2441 1 0x08000021 0 []))
    ∧ (∀ n u, s.admitted d 0x2501 1 (65537 + 256 * n) = some u → n < 8 → u.partPresent 1 n = true → u.bistMay 1 n = true →
        u.tokensFree (u.tokensOf 1 n) = false → exec (.bistStationCore d (65537 + 256 * n)) s
          = .next ((u.setReg (key 0x2600 4) (min (u.reg (key 0x2600 4) + 1) 4294967295)).reply d 0x2501 1 0x08000021 0 []))
    ∧ (∀ v n u, s.admitted d (0x2441) (1) (v) = some u → v % 256 = 1 → bitsOf v 15 8 = n → n < 16 → u.stationPresent (n / 2) = true → u.powerState = psRun → u.reg (calKey 2) ≠ 1 → (bitOf v 16 = false ∨ u.tokensFree (calTokens 1 n) = true) →
        exec (.calRfVisitRound d v) s = .next ((let w := ((u.beginResult 0x2441).modCal fun c => { c with round := some ⟨1, n, List.range u.beams, 0, 0, false⟩ }).forEach (calDomains 1 n) State.tempWake
          (if w.tokensFree (calTokens 1 n) then w else w.askTokens (.cal 1 n) (calTokens 1 n))).answered d (0x2441) (1) (v)))
    ∧ (∀ v n u, s.admitted d (0x2441) (1) (v) = some u → v % 256 = 2 → bitsOf v 15 8 = n → n < 16 → u.stationPresent (n / 2) = true → u.powerState = psRun → u.reg (calKey 2) ≠ 1 → (bitOf v 16 = false ∨ u.tokensFree (calTokens 2 n) = true) →
        exec (.calHeadDacs d v) s = .next ((let w := ((u.beginResult 0x2441).modCal fun c => { c with round := some ⟨2, n, [0], 0, 0, false⟩ }).forEach (calDomains 2 n) State.tempWake
          (if w.tokensFree (calTokens 2 n) then w else w.askTokens (.cal 2 n) (calTokens 2 n))).answered d (0x2441) (1) (v)))
    ∧ (∀ v n u, s.admitted d (0x2441) (1) (v) = some u → v % 256 = 3 → bitsOf v 15 8 = n → n < 8 → u.stationPresent (n) = true → u.powerState = psRun → u.reg (calKey 2) ≠ 1 → (bitOf v 16 = false ∨ u.tokensFree (calTokens 3 n) = true) →
        exec (.calMotorSense d v) s = .next ((let w := ((u.beginResult 0x2441).modCal fun c => { c with round := some ⟨3, n, [0], 0, 0, false⟩ }).forEach (calDomains 3 n) State.tempWake
          (if w.tokensFree (calTokens 3 n) then w else w.askTokens (.cal 3 n) (calTokens 3 n))).answered d (0x2441) (1) (v)))
    ∧ (∀ v n u, s.admitted d (0x2501) (1) (v) = some u → v % 256 = 1 → bitsOf v 15 8 = n → n < partLimit 1 → u.partPresent 1 n = true → u.bistMay 1 n = true → u.bistRun 1 n = none → (bitOf v 16 = false ∨ u.tokensFree (u.tokensOf 1 n) = true) →
        exec (.bistStationCore d v) s = .next (((u.beginResult 0x2501).bistAsk 1 n .object).answered d (0x2501) (1) (v)))
    ∧ (∀ v n u, s.admitted d (0x2501) (1) (v) = some u → v % 256 = 2 → bitsOf v 15 8 = n → n < partLimit 2 → u.partPresent 2 n = true → u.bistMay 2 n = true → u.bistRun 2 n = none → (bitOf v 16 = false ∨ u.tokensFree (u.tokensOf 2 n) = true) →
        exec (.bistMotorIo d v) s = .next (((u.beginResult 0x2501).bistAsk 2 n .object).answered d (0x2501) (1) (v)))
    ∧ (∀ v n u, s.admitted d (0x2501) (1) (v) = some u → v % 256 = 3 → bitsOf v 15 8 = n → n < partLimit 3 → u.partPresent 3 n = true → u.bistMay 3 n = true → u.bistRun 3 n = none → (bitOf v 16 = false ∨ u.tokensFree (u.tokensOf 3 n) = true) →
        exec (.bistHeadFrontEnd d v) s = .next (((u.beginResult 0x2501).bistAsk 3 n .object).answered d (0x2501) (1) (v)))
    ∧ (∀ v n u, s.admitted d (0x2501) (1) (v) = some u → v % 256 = 4 → bitsOf v 15 8 = n → n < partLimit 4 → u.partPresent 4 n = true → u.bistMay 4 n = true → u.bistRun 4 n = none → (bitOf v 16 = false ∨ u.tokensFree (u.tokensOf 4 n) = true) →
        exec (.bistHeadChannel d v) s = .next (((u.beginResult 0x2501).bistAsk 4 n .object).answered d (0x2501) (1) (v)))
    ∧ (∀ v n u, s.admitted d (0x2501) (1) (v) = some u → v % 256 = 5 → bitsOf v 15 8 = n → n < partLimit 5 → u.partPresent 5 n = true → u.bistMay 5 n = true → u.bistRun 5 n = none → (bitOf v 16 = false ∨ u.tokensFree (u.tokensOf 5 n) = true) →
        exec (.bistLdpcSlice d v) s = .next (((u.beginResult 0x2501).bistAsk 5 n .object).answered d (0x2501) (1) (v)))
    ∧ (∀ v n u, s.admitted d (0x2501) (1) (v) = some u → v % 256 = 6 → bitsOf v 15 8 = n → n < partLimit 6 → u.partPresent 6 n = true → u.bistMay 6 n = true → u.bistRun 6 n = none → (bitOf v 16 = false ∨ u.tokensFree (u.tokensOf 6 n) = true) →
        exec (.bistContextSegment d v) s = .next (((u.beginResult 0x2501).bistAsk 6 n .object).answered d (0x2501) (1) (v)))
    ∧ (∀ v n u, s.admitted d (0x2501) (1) (v) = some u → v % 256 = 7 → bitsOf v 15 8 = n → n < partLimit 7 → u.partPresent 7 n = true → u.bistMay 7 n = true → u.bistRun 7 n = none → (bitOf v 16 = false ∨ u.tokensFree (u.tokensOf 7 n) = true) →
        exec (.bistEcEngine d v) s = .next (((u.beginResult 0x2501).bistAsk 7 n .object).answered d (0x2501) (1) (v)))
    ∧ (∀ v n u, s.admitted d (0x2501) (1) (v) = some u → v % 256 = 8 → bitsOf v 15 8 = n → n < partLimit 8 → u.partPresent 8 n = true → u.bistMay 8 n = true → u.bistRun 8 n = none → (bitOf v 16 = false ∨ u.tokensFree (u.tokensOf 8 n) = true) →
        exec (.bistWholeChip d v) s = .next (((u.beginResult 0x2501).bistAsk 8 n .object).answered d (0x2501) (1) (v)))

/-- A response that every general check admits, where the life cycle has an owner and no lock-out stands: an authorisation response
opens the authorisation under its key with the failures cleared, or counts as a failure with its code; a debug response in RETURN
unlocks under the debug key and draws the next challenge in any case, and in the other life-cycle states that have the object only
draws it; a certificate of the device's identity key is stored, with the authorisation where one is held already, and one of
another key is refused with 0x0604_0043. -/
def Obligations.SecurityResponses : Prop :=
  ∀ (s u : State) (d : Door) (b : List Byte),
    (s.admittedRaw d 0x5020 3 b = some u → u.lcOwned = true → u.sec.lockUntil = none →
        let k := responseKey b
        let h := hashBytes (Config.hash k)
        let kind := if u.keyFused = true ∧ h = u.raw (key 0x5000 6) then 1 else if h = hashBytes Config.returnHash then 2 else 0
        (kind ≠ 2 ∨ u.lc = lcReturn ∨ u.keyFused = false) →
        let a := u.tempWake 94
        let open_ := (a.setRegs [(key 0x5020 4, kind), (key 0x5020 8, 0)]).setSecFlag 4 true
        exec (.authResponse d b) s = .next ((if kind = 0 then a.authFailed 0x0F5E0002
          else if Config.verifies (keyBits k) (a.authMessage a.sec.challenge kind) (responseSig b) = false then a.authFailed 0x0F5E0001
          else (open_.modSec fun g => { g with
            failures := 0, openUntil := some (open_.now + open_.reg (key 0x5020 2) * 1000000) }).drawChallenge).reply d 0x5020 3 0 b.length []))
    ∧ (s.admittedRaw d 0x5040 2 b = some u → u.lc = lcReturn →
        let a := (u.drawDebugChallenge).tempWake 94
        exec (.debugResponse d b) s = .next ((if Config.hash (responseKey b) = Config.debugHash
            ∧ Config.verifies (keyBits (responseKey b)) (u.authMessage u.sec.debugChallenge 3) (responseSig b) = true then
          ((((a.setSecFlag 3 true).modSec fun g => { g with unlocked := true }).measure 9 Config.unlockDigest).updDomain 95)
          else a).reply d 0x5040 2 0 b.length []))
    ∧ (s.admittedRaw d 0x5040 2 b = some u → u.lc ≠ lcReturn →
        exec (.debugResponse d b) s = .next (u.drawDebugChallenge.reply d 0x5040 2 0 b.length []))
    ∧ (s.admittedRaw d 0x5012 3 b = some u → u.lcOwned = true → u.raw (key 0x5012 3) = [] →
        exec (.idCertWrite d b) s = .next (if certKey b = some u.idPublicKey then
          ((u.setRaw (key 0x5012 3) b).tempWake 94).reply d 0x5012 3 0 b.length [] else u.reply d 0x5012 3 0x06040043 0 []))
    ∧ (s.admittedRaw d 0x5012 3 b = some u → u.lcOwned = true → u.raw (key 0x5012 3) ≠ [] → u.authorised = true →
        exec (.idCertWrite d b) s = .next (if certKey b = some u.idPublicKey then
          (((u.authAction d 0x5012 3).setRaw (key 0x5012 3) b).tempWake 94).reply d 0x5012 3 0 b.length []
          else u.reply d 0x5012 3 0x06040043 0 []))

/-! ### The BAR2 window and the NVMe object commands (chapter 2) -/

/-- While the window answers and no transfer is open or BUSY: OP 1 opens the value's snapshot with its SEG_LENGTH; OP 2, of an
object that may be written, in a length it has, with the authorisation a certificate's replacement needs, and held by no other
transfer, opens SEG_LENGTH bytes of 0; a refused open ends at ERROR with its abort; with one open or BUSY an open is
0x0800_0021. A commit of an open write makes the transfer BUSY, serves the write and keeps its outcome, which SEG_COMMIT_DONE
shows; any other commit is 0x0504_0001. A close ends a transfer that is not BUSY; of a BUSY one it is 0x0800_0021. An aligned
SEG_OFFSET is taken and any other is 0x0609_0030; an invalid OP is 0x0504_0001; SEG_OBJECT and SEG_LENGTH take what is written,
the aperture of an open write its four bytes. A time-out closes an open transfer with 0x0504_0000. -/
def Obligations.SegmentedWindow : Prop :=
  ∀ (s : State) (w : World) (v off : Nat),
    let b := s.bar2
    let i := b.segObject % 65536
    let sub := bitsOf b.segObject 23 16
    let at_ := b.segOffset + (off - 0x100)
    (s.windowOn = true → b.busyOrOpen = false → ∀ o x, s.readObject .seg i sub = .ok (o, x) → exec .segOpenRead s
        = .next { s with bar2 := { b with state := .openRead, segAbort := 0, segLength := x.length, data := x, openObject := b.segObject } })
    ∧ (s.windowOn = true → b.busyOrOpen = false → ∀ a, s.readObject .seg i sub = .error a → exec .segOpenRead s
        = .next { s with bar2 := { b with state := .error, segAbort := a, data := [] } })
    ∧ (s.windowOn = true → b.busyOrOpen = true → exec .segOpenRead s = .next { s with bar2 := { b with segAbort := 0x08000021 } }
        ∧ exec .segOpenWrite s = .next { s with bar2 := { b with segAbort := 0x08000021 } })
    ∧ (s.windowOn = true → b.busyOrOpen = false → ∀ o, s.lookup i sub = .ok o → s.objAbsent i sub = false →
        o.acc ≠ .const → o.acc ≠ .ro → lengthCheck o i sub b.segLength = 0 → s.segmentHeld i sub = false →
        (i ≠ 0x5012 ∨ s.raw (key 0x5012 3) = [] ∨ s.authorised = true) → exec .segOpenWrite s
        = .next { s with bar2 := { b with
            state := .openWrite, segAbort := 0, data := List.replicate b.segLength 0, openObject := b.segObject } })
    ∧ (s.windowOn = true → b.busyOrOpen = false → ∀ a, s.openCheck i sub (some b.segLength) = a → a ≠ 0 → exec .segOpenWrite s
        = .next { s with bar2 := { b with state := .error, segAbort := a, data := [] } })
    ∧ (s.windowOn = true → b.state = .openWrite → exec (.segCommitWrite w) s
        = .next ({ s with bar2 := { b with state := .busy, result := none } }.serve .seg (b.openObject % 65536)
            (b.openObject / 65536) b.data w))
    ∧ (s.windowOn = true → b.state ≠ .openWrite → exec (.segCommitWrite w) s
        = .next { s with bar2 := { b with segAbort := 0x05040001 } })
    ∧ (∀ a, b.state = .busy → b.result = some a → exec .segCommitDone s
        = .next { s with bar2 := { b with state := if a = 0 then .idle else .error, segAbort := a, data := [], result := none } })
    ∧ (s.windowOn = true → b.state ≠ .busy → exec .segClose s
        = .next { s with bar2 := { b with state := .idle, segAbort := 0, data := [] } })
    ∧ (s.windowOn = true → b.state = .busy → exec .segClose s = .next { s with bar2 := { b with segAbort := 0x08000021 } })
    ∧ (s.windowOn = true → v % 4 = 0 → exec (.segOffsetWrite v) s = .next { s with bar2 := { b with segOffset := v } })
    ∧ (s.windowOn = true → v % 4 ≠ 0 → exec (.segOffsetWrite v) s = .next { s with bar2 := { b with segAbort := 0x06090030 } })
    ∧ ((b.state = .openRead ∨ b.state = .openWrite) → exec .segWindowTimeout s
        = .next { s with bar2 := { b with state := .idle, segAbort := 0x05040000, data := [] } })
    ∧ (s.windowOn = true → exec .segCtrlInvalidOp s = .next { s with bar2 := { b with segAbort := 0x05040001 } })
    ∧ (s.windowOn = true → exec (.segWindowRegisterWrite 0 v) s = .next { s with bar2 := { b with segObject := v % 16777216 } })
    ∧ (s.windowOn = true → exec (.segWindowRegisterWrite 8 v) s = .next { s with bar2 := { b with segLength := v } })
    ∧ (s.windowOn = true → b.state = .openWrite → 0x100 ≤ off → off < 0x200 → off % 4 = 0 →
        exec (.segWindowRegisterWrite off v) s = .next { s with bar2 := { b with
          data := (((b.data.set at_ (BitVec.ofNat 8 v)).set (at_ + 1) (BitVec.ofNat 8 (v / 256))).set (at_ + 2)
            (BitVec.ofNat 8 (v / 65536))).set (at_ + 3) (BitVec.ofNat 8 (v / 16777216)) } })

/-- While the window answers, a read of WIN_ABORT gives its value and clears it, and changes nothing else; a read of WIN_PENDING
gives the count of direct writes that are not answered yet, and changes nothing. The answer of a direct write takes one from
that count, leaves the registers as they are, and where it refuses puts its abort and its object into WIN_ABORT and
WIN_ABORT_OBJECT. -/
def Obligations.WindowAbortRead : Prop :=
  ∀ (s t : State) (i sub a : Nat),
    (s.windowOn = true → exec .winAbortRead s
        = .next { s with bar2 := { s.bar2 with winAbort := 0 }, out := s.out ++ [.word s.bar2.winAbort] })
    ∧ (s.windowOn = true → exec (.bar2DirectRead 0 6 4) s
        = .next { s with bar2 := { s.bar2 with winAbort := 0 }, out := s.out ++ [.word s.bar2.winAbort] })
    ∧ (s.windowOn = true → exec (.bar2DirectRead 0 8 4) s = .next { s with out := s.out ++ [.word s.bar2.winPending] })
    ∧ (t.reply .bar2 i sub a 4 []).bar2.winPending = t.bar2.winPending - 1
    ∧ (t.reply .bar2 i sub a 4 []).regs = t.regs
    ∧ (a ≠ 0 → (t.reply .bar2 i sub a 4 []).bar2.winAbort = a
        ∧ (t.reply .bar2 i sub a 4 []).bar2.winAbortObject = sub * 65536 + i)

/-- While the window answers, a 32-bit direct read gives the number (sign-extended for a signed type), or 0 with the refusal in
WIN_ABORT: its own, or 0x0607_0010 for an object that is wider than 32 bits or no number; a 32-bit direct write of a number of
at most 32 bits counts as pending and is served, and a refused one is answered; another width is refused (0x0601_0000 where the
object may be written or read). Get Object of a command whose turn has come moves up to LENGTH bytes from its offset and
completes with the object's length. Set Object of a number, of an object of any length, or of one that comes whole, is served; a
first piece of a longer object is kept, and a last one is served with the pieces before it. -/
def Obligations.ObjectAccesses : Prop :=
  ∀ (s : State) (c cid i sub v off len : Nat) (w : World),
    let counted := { s with bar2 := { s.bar2 with winPending := min (s.bar2.winPending + 1) 65535 } }
    let mine := fun (x : Ctx) (o : Obj) (data : List Byte) => s.turn c cid = some x ∧ x.sq = 0 ∧ 1 ≤ data.length ∧ data.length ≤ 65536
      ∧ s.lookup i sub = .ok o ∧ s.objAbsent i sub = false ∧ o.acc ≠ .const ∧ o.acc ≠ .ro
    (s.windowOn = true → i ≠ 0 → ∀ o b, s.readObject .bar2 i sub = .ok (o, b) → s.objAbsent i sub = false → o.ty.number = true →
        o.ty.bytes ≤ 4 → exec (.bar2DirectRead i sub 4) s = .next (s.emit (.word (wordOf o.ty b))))
    ∧ (s.windowOn = true → i ≠ 0 → ∀ o, s.lookup i sub = .ok o → s.objAbsent i sub = false → o.acc ≠ .wo →
        (o.ty.number = false ∨ 4 < o.ty.bytes) →
        exec (.bar2DirectRead i sub 4) s = .next ((s.windowRefuse i sub 0x06070010).emit (.word 0)))
    ∧ (s.windowOn = true → i ≠ 0 → ∀ a, s.tooWide i sub = false → s.readObject .bar2 i sub = .error a →
        exec (.bar2DirectRead i sub 4) s = .next ((s.windowRefuse i sub a).emit (.word 0)))
    ∧ (s.windowOn = true → i ≠ 0 → ∀ b, counted.windowBytes i sub v = .ok b →
        exec (.bar2DirectWrite i sub 4 v w) s = .next (counted.serve .bar2 i sub b w))
    ∧ (s.windowOn = true → i ≠ 0 → ∀ a, counted.windowBytes i sub v = .error a →
        exec (.bar2DirectWrite i sub 4 v w) s = .next (counted.reply .bar2 i sub a 0 []))
    ∧ (s.windowOn = true → i ≠ 0 → len ≠ 4 → ∀ o, s.lookup i sub = .ok o → s.objAbsent i sub = false →
        (o.acc ≠ .const → o.acc ≠ .ro →
          exec (.bar2DirectWrite i sub len v w) s = .next (s.windowRefuse i sub 0x06010000))
        ∧ (o.acc ≠ .wo → exec (.bar2DirectRead i sub len) s = .next ((s.windowRefuse i sub 0x06010000).emit (.word 0))))
    ∧ (∀ x o b, s.turn c cid = some x → x.sq = 0 → 1 ≤ len → len ≤ 65536 → s.readObject (.nvme c cid) i sub = .ok (o, b) →
        (o.ty.number = false ∨ off = 0) → off < b.length → exec (.getObject c cid i sub off len) s
          = .next ((s.emit (.bytes c 0 cid ((b.drop off).take len))).complete x.seq (cplOk b.length 0)))
    ∧ (∀ x o b, s.turn c cid = some x → x.sq = 0 → 1 ≤ len → len ≤ 65536 → s.readObject (.nvme c cid) i sub = .ok (o, b) →
        o.ty.number = false → b.length ≤ off → exec (.getObject c cid i sub off len) s
          = .next (s.complete x.seq (cplOk b.length 0)))
    ∧ (∀ x o data, mine x o data → (o.ty.number = true ∨ anyLength i sub = true ∨ o.ty.bytes ≤ data.length) →
        exec (.setObject c cid i sub 0 data w) s
          = .next ((s.modCtx x.seq fun y => { y with op := .dictionary }).serve (.nvme c cid) i sub data w))
    ∧ (∀ x o data, mine x o data → o.ty.number = false → anyLength i sub = false → data.length < o.ty.bytes →
        s.segmentHeld i sub = false → (s.nvme.objects.find? fun y => y.idx == i && y.sub == sub) = none →
        exec (.setObject c cid i sub 0 data w) s
          = .next ((s.modNvme fun n => { n with objects := (n.objects.filter fun y => !(y.idx == i && y.sub == sub))
              ++ [⟨x.ctrl, i, sub, data⟩] }).complete x.seq (cplOk o.ty.bytes 0)))
    ∧ (∀ x o data y, mine x o data → o.ty.number = false → anyLength i sub = false → off ≠ 0 →
        (s.nvme.objects.find? fun y => y.idx == i && y.sub == sub) = some y → y.ctrl = x.ctrl → y.got.length = off →
        off + data.length = o.ty.bytes → exec (.setObject c cid i sub off data w) s
          = .next (((s.modNvme fun n => { n with objects := n.objects.filter fun y => !(y.idx == i && y.sub == sub) }).modCtx x.seq
              fun y => { y with op := .dictionary }).serve (.nvme x.ctrl x.cid) i sub (y.got ++ data) w))
    ∧ (∀ x o data, mine x o data → o.ty.number = false → anyLength i sub = true → off ≠ 0 → (s.raw (key i sub)).length = off →
        exec (.setObject c cid i sub off data w) s
          = .next ((s.modCtx x.seq fun y => { y with op := .dictionary }).serve (.nvme x.ctrl x.cid) i sub
              (s.raw (key i sub) ++ data) w))

/-- A Get Object whose read, LENGTH or OFFSET is refused, a Set Object refused before its write (no such object or sub-index,
absent in the variant, read-only, a LENGTH or OFFSET it may not have, a piece that is held off, out of sequence or beyond the
length), and one whose write the owner refuses, at once or when its
domain has woken, completes with Status Code Type 1, Status Code 0xC0 and the abort in DW0; Do Not Retry is clear for 0x0800_0021,
0x0800_0022 and 0x0504_0005 and set otherwise. A completion leaves registers, byte strings, stations, heads, loops, sequencers, the
NOR and the Ledger as they are; what an owner's refusal counts is REFUSED_BUSY of an immediate request alone (`refusal`, R463). -/
def Obligations.RefusedObjectCommands : Prop :=
  ∀ (s : State) (c cid i sub off len a : Nat) (data : List Byte) (w : World) (x : Ctx) (o : Obj),
    let refused := fun (u : State) (a : Nat) =>
      u.complete x.seq ⟨.code 1 0xC0, !(a == 0x08000021 || a == 0x08000022 || a == 0x05040005), a, 0⟩
    let v := s.modCtx x.seq fun y => { y with op := .dictionary }
    let mine := s.turn c cid = some x ∧ x.sq = 0 ∧ 1 ≤ data.length ∧ data.length ≤ 65536
    let open_ := s.lookup i sub = .ok o ∧ s.objAbsent i sub = false ∧ o.acc ≠ .const ∧ o.acc ≠ .ro
    let piece := s.nvme.objects.find? fun y => y.idx == i && y.sub == sub
    (s.turn c cid = some x → x.sq = 0 → 1 ≤ len → len ≤ 65536 → (∀ o, s.lookup i sub = .ok o → o.acc = .wo ∨ pieceCheck o off len = 0) →
        s.readObject (.nvme c cid) i sub = .error a → exec (.getObject c cid i sub off len) s = .next (refused s a))
    ∧ (mine → s.lookup i sub = .error a → exec (.setObject c cid i sub off data w) s = .next (refused s a))
    ∧ (s.turn c cid = some x → x.sq = 0 → s.lookup i sub = .ok o → o.acc ≠ .wo → pieceCheck o off len = a → a ≠ 0 → exec (.getObject c cid i sub off len) s = .next (refused s a))
    ∧ (s.turn c cid = some x → x.sq = 0 → open_ → pieceCheck o off data.length = a → a ≠ 0 →
        exec (.setObject c cid i sub off data w) s = .next (refused s a))
    ∧ (mine → s.lookup i sub = .ok o → s.objAbsent i sub = true →
        exec (.setObject c cid i sub off data w) s = .next (refused s 0x08000030))
    ∧ (mine → s.lookup i sub = .ok o → s.objAbsent i sub = false → (o.acc = .const ∨ o.acc = .ro) → exec (.setObject c cid i sub off data w) s = .next (refused s 0x06010002))
    ∧ (mine → open_ → o.ty.number = false → anyLength i sub = false → data.length < o.ty.bytes → s.segmentHeld i sub = true →
        exec (.setObject c cid i sub 0 data w) s = .next (refused s 0x08000021))
    ∧ (mine → open_ → o.ty.number = false → anyLength i sub = false → off ≠ 0 → (∀ y, piece = some y → y.ctrl ≠ x.ctrl ∨ y.got.length ≠ off) →
        exec (.setObject c cid i sub off data w) s = .next (refused s 0x08000000))
    ∧ (mine → open_ → o.ty.number = false → anyLength i sub = true → off ≠ 0 → (s.raw (key i sub)).length ≠ off →
        exec (.setObject c cid i sub off data w) s = .next (refused s 0x08000000))
    ∧ (∀ y, mine → open_ → o.ty.number = false → anyLength i sub = false → off ≠ 0 → piece = some y → y.ctrl = x.ctrl → y.got.length = off →
        o.ty.bytes < off + data.length → exec (.setObject c cid i sub off data w) s = .next (refused s 0x06070012))
    ∧ (mine → open_ → (o.ty.number = true ∨ anyLength i sub = true ∨ o.ty.bytes ≤ data.length) →
        v.take (.nvme c cid) i sub data w = .error a → exec (.setObject c cid i sub 0 data w) s
          = .next ((v.refusal i sub data a).reply (.nvme c cid) i sub a 0 []))
    ∧ (s.adminCtx c cid = some x → a ≠ 0 → s.reply (.nvme c cid) i sub a len data = refused s a)
    ∧ ((refused s a).regs = s.regs ∧ (refused s a).raws = s.raws ∧ (refused s a).stns = s.stns ∧ (refused s a).heads = s.heads
        ∧ (refused s a).loops = s.loops ∧ (refused s a).seqs = s.seqs ∧ (refused s a).nor = s.nor
        ∧ (refused s a).ledger = s.ledger)

/-! ### NVMe (chapters 13 and 14) -/

/-- A controller that fetches takes a command into a context as the last in fetch order. CC.EN set enables a controller; CSTS.RDY
follows in RUN. A Connect creates a controller with its admin queue, or adds an I/O queue pair it was granted; the pairs in use
count in 0x4100:16; one beyond the limits or the grant, or of a pair that is there, fails: Connect Invalid Parameters. Disconnect and the keep-alive's expiry tear a fabric controller down: it is no longer connected, and
0x4200:0F reads 3. A normal shutdown stops fetching, shows SHST 1, and flushes. -/
def Obligations.NvmeControllers : Prop :=
  ∀ (s : State) (c sq cid q : Nat) (k : Ctrl),
    let pairs := key 0x4100 0x16
    (s.fetches c sq = true → ∃ t, exec (.commandFetch c sq cid) s = .next t
        ∧ t.nvme = { s.nvme with seq := s.nvme.seq + 1, ctxs := s.nvme.ctxs ++ [⟨s.nvme.seq, c, sq, cid, .fetched, false⟩] }
        ∧ t.reg (nvKey 4) = max (s.reg (nvKey 4)) (s.contextsUsed + 1) ∧ { t with nvme := s.nvme, regs := s.regs } = s)
    ∧ (s.ctrl c = some k → k.en = false → exec (.ccEnSet c) s = .next (s.modCtrl c fun k =>
        { k with en := true, fetching := true, rdy := s.powerState == psRun, shst := 0, cc := k.cc / 2 * 2 + 1 }))
    ∧ (c ≠ 0 → s.ctrl c = none → s.fabricCtrls < s.reg (key 0x4100 0x15) → s.reg pairs < 4096 →
        ∃ t, exec (.connect c .admin) s = .next t ∧ t.nvme = { s.nvme with ctrls := s.nvme.ctrls ++ [freshCtrl c] }
          ∧ t.reg pairs = s.reg pairs + 1 ∧ t.out = s.out ++ [.completion c 0 0 (cplOk c 0)]
          ∧ { t with nvme := s.nvme, regs := s.regs, out := s.out } = s)
    ∧ (c ≠ 0 → s.ctrl c = some k → k.en = true → 1 ≤ q → q ≤ k.granted → (∀ p ∈ k.sqs, p.1 ≠ q) → s.reg pairs < 4096 →
        ∃ t, exec (.connect c (.io q)) s = .next t
          ∧ t.nvme = (s.modCtrl c fun k => { k with sqs := k.sqs ++ [(q, q)], cqs := k.cqs ++ [q] }).nvme
          ∧ t.reg pairs = s.reg pairs + 1 ∧ t.out = s.out ++ [.completion c q 0 (cplOk c 0)]
          ∧ { t with nvme := s.nvme, regs := s.regs, out := s.out } = s)
    ∧ ((c = 0 ∨ s.ctrl c = some k ∨ s.reg (key 0x4100 0x15) ≤ s.fabricCtrls ∨ 4096 ≤ s.reg pairs) →
        exec (.connect c .admin) s = .next (s.emit (.completion c 0 0 (cplFail .connectInvalid true))))
    ∧ ((c = 0 ∨ s.ctrl c = none ∨ (s.ctrl c = some k ∧ (k.en = false ∨ q = 0 ∨ k.granted < q ∨ (∃ p ∈ k.sqs, p.1 = q)))
          ∨ 4096 ≤ s.reg pairs) →
        exec (.connect c (.io q)) s = .next (s.emit (.completion c 0 0 (cplFail .connectInvalid true))))
    ∧ (c ≠ 0 → s.ctrl c = some k → exec (.disconnect c) s = .next (s.tearDown c)
        ∧ (k.feature 0x0F ≠ 0 → exec (.keepAliveExpiry c) s = .next (s.tearDown c)))
    ∧ (s.ctrl c = some k → k.en = true → k.shst = 0 → exec (.normalShutdown c) s =
        .next (((((s.modCtrl c fun k => { k with fetching := false, shst := 1 }).setReg (nvKey 0x0F) 4).modNvme fun n =>
          { n with seq := n.seq + 1, ctxs := n.ctxs ++ [⟨n.seq, c, 0, 0, .shutdown (n.namespaces.map (·.nsid)) n.seq, true⟩] }).spreadFlush
            (s.nvme.namespaces.map (·.nsid)) none).serveShutdown s.nvme.seq))

/-- An I/O command whose turn has come. In a namespace that is not there, or whose station is OFF, EMPTY or CLAMPED, it fails:
Invalid Namespace or Format. A Read of 1 to 256 blocks in range, in one zone and not poisoned, with its tables there: where no
cluster misses it counts a hit (none above the write pointers), touches its lines and waits for its blocks; else, with the media
open, it counts a miss and queues a demand fill with its prefetches for each missing cluster (asks the columns for it on a
spread volume); it fails on each check it does not pass, and Namespace Not Ready without the media. A Write, or a Zone Append in
a zoned namespace, of 1 to 256 blocks in range, with its protection information passed or generated and the media open, takes its
place, with FUA where the write cache is off, is tried, and counts where it waits for lines; it fails on each check it does not
pass. A Flush of a namespace whose media are ready and whose tables are there waits for every write fetched before it, and fails
with Namespace Not Ready otherwise; of all namespaces it fails so where one of these with dirty lines is not. -/
def Obligations.ReadsAndWrites : Prop :=
  ∀ (s : State) (c cid nsid lba k : Nat) (fua append : Bool) (pi : PiArgs) (x : Ctx) (n : Ns) (d : List Block),
    s.turn c cid = some x → x.sq ≠ 0 →
    let q := x.seq
    let fail := fun e dnr => Host.Outcome.next (s.complete q (cplFail e dnr))
    let sized := 1 ≤ k ∧ k ≤ 256
    let whole := sized ∧ lba + k ≤ n.nsze ∧ (n.zoned = true → lba / n.zsize = (lba + k - 1) / n.zsize)
    let fits := whole ∧ (clustersOf lba k).all (fun cl => !s.poisoned nsid lba k cl) = true
    let misses := s.readMisses n q lba k []
    let waits := fun (u : State) => (u.modCtx q fun y => { y with op := .read nsid lba k [] pi }).serveRead q
    let below := (clustersOf lba k).filter fun cl => (List.range 16).any fun b =>
      lba ≤ 16 * cl + b && 16 * cl + b < lba + k && !n.above (16 * cl + b)
    let hit := if below.isEmpty then s else s.countHit nsid true
    let put := fun (t : State) => if append then exec (.zoneAppend c cid nsid lba d fua pi) s = .next t.settle
      else exec (.write c cid nsid lba d fua pi) s = .next t.settle
    let sizedW := d ≠ [] ∧ d.length ≤ 256 ∧ (append = true → n.zoned = true)
    let own := n.lbaf = 1 ∧ pi.act = false
    let verdict := piVerifyAll pi (s.reg (nvKey 6)) d
    let tags := nsSpread nsid = true ∧ own ∧ append = false ∧ s.reg (nvKey 6) ≤ 2
      ∧ (d.zipIdx.any fun p => piField p.1.pi 10 6 != (lba + p.2) % 2 ^ 48) = true
    let data := if n.lbaf = 1 ∧ pi.act then piGenerate pi (s.reg (nvKey 6)) d else d
    let through := match s.ctx q with
      | some y => (match s.ctrl y.ctrl with | some j => j.feature 6 % 2 == 0 | none => false)
      | none => false
    let every := s.nvme.namespaces.map (·.nsid)
    let barred := fun m => (!s.mediaReady m || s.rebuilding m) && s.granary.lines.any fun l => l.nsid == m && l.isDirty
    let counted := fun (t : State) => match t.ctx q with
      | some y => (match y.op with
        | .write _ _ _ _ _ => if t.waitsForLines q nsid lba data append then
            (let u := t.bump (key 0x4401 0x0A)
             if nsSpread nsid then u else u.bump (key (0x4420 + nsStation nsid) 5)) else t
        | _ => t)
      | none => t
    (s.nsIo nsid = none → exec (.read c cid nsid lba k pi) s = fail .invalidNamespaceOrFormat true
        ∧ put (s.complete q (cplFail .invalidNamespaceOrFormat true))
        ∧ (nsid ≠ 0xFFFFFFFF → exec (.flush c cid nsid) s = fail .invalidNamespaceOrFormat true))
    ∧ (s.nsIo nsid = some n →
        (¬ sized → exec (.read c cid nsid lba k pi) s = fail .invalidField true)
        ∧ (sized → n.nsze < lba + k → exec (.read c cid nsid lba k pi) s
            = .next ((s.errorEntry nsid lba).complete q (cplFail .lbaOutOfRange true)))
        ∧ (sized → lba + k ≤ n.nsze → n.zoned = true → lba / n.zsize ≠ (lba + k - 1) / n.zsize →
            exec (.read c cid nsid lba k pi) s = fail .zoneBoundary true)
        ∧ (whole → ((clustersOf lba k).any fun cl => s.poisoned nsid lba k cl) = true → exec (.read c cid nsid lba k pi) s
            = .next (((s.modNvme fun v => { v with mediaErrors := v.mediaErrors + 1 }).errorEntry nsid lba).complete q
                (cplFail .unrecoveredRead false)))
        ∧ (fits → (s.rebuilding nsid = true ∨ (misses ≠ [] ∧ s.mediaOpen nsid = false)) → exec (.read c cid nsid lba k pi) s
            = .next ((s.errorEntry nsid lba).complete q (cplFail .namespaceNotReady false)))
        ∧ (fits → s.rebuilding nsid = false → misses = [] → exec (.read c cid nsid lba k pi) s
            = .next (waits (hit.forEach (below.filterMap fun cl => hit.line nsid cl) fun u l => u.hitLine l)))
        ∧ (fits → s.rebuilding nsid = false → misses ≠ [] → s.mediaOpen nsid = true → exec (.read c cid nsid lba k pi) s
            = .next (waits ((s.countHit nsid false).forEach misses fun u cl =>
                if nsSpread nsid then u.wantCluster nsid cl else (u.queueFill nsid cl .demand).prefetchAfter nsid cl)))
        ∧ (¬ sizedW → put (s.complete q (cplFail (if append = true ∧ n.zoned = false then .invalidOpcode else .invalidField) true)))
        ∧ (sizedW → n.nsze < lba + d.length → put (s.complete q (cplFail .lbaOutOfRange true)))
        ∧ (sizedW → lba + d.length ≤ n.nsze → own → verdict ≠ .ok → put (s.complete q (cplFail verdict.status true)))
        ∧ (sizedW → lba + d.length ≤ n.nsze → (own → verdict = .ok) → tags → put (s.complete q (cplFail .refTagCheck true)))
        ∧ (sizedW → lba + d.length ≤ n.nsze → (own → verdict = .ok) → ¬ tags → s.mediaOpen nsid = false →
            put (s.complete q (cplFail .namespaceNotReady false)))
        ∧ (sizedW → lba + d.length ≤ n.nsze → (own → verdict = .ok) → ¬ tags → s.mediaOpen nsid = true →
            put (counted ((s.modCtx q fun y => { y with op := .write nsid lba data (fua || through) append }).tryWrite q)))
        ∧ (nsid ≠ 0xFFFFFFFF → s.mediaReady nsid = true → s.rebuilding nsid = false → exec (.flush c cid nsid) s
            = .next (((s.spreadFlush [nsid] none).modCtx q fun y => { y with op := .flush (.all [nsid]) q 0 }).serveFlush q))
        ∧ (nsid ≠ 0xFFFFFFFF → (s.mediaReady nsid = false ∨ s.rebuilding nsid = true) → exec (.flush c cid nsid) s
            = .next ((s.bump (nvKey 0x0A)).complete q (cplFail .namespaceNotReady false))))
    ∧ (every.any barred = false → exec (.flush c cid 0xFFFFFFFF) s
        = .next (((s.spreadFlush every none).modCtx q fun y => { y with op := .flush (.all every) q 0 }).serveFlush q))
    ∧ (every.any barred = true → exec (.flush c cid 0xFFFFFFFF) s
        = .next ((s.bump (nvKey 0x0A)).complete q (cplFail .namespaceNotReady false)))

/-- An I/O command whose turn has come, on a zoned namespace that can be reached. With the media open, from the first block of a
zone that no spread volume claims: Open makes an EMPTY or CLOSED zone EXPLICITLY OPENED where fewer than 16 are open, and an
open one too; Close makes an open or CLOSED zone CLOSED; Finish makes a zone that is not READ ONLY FULL with its write pointer
at the capacity, and flushes it; each completes. Select All acts so on the zones its action permits, one after another, but the
claimed. A zone in another state fails with Invalid Zone State Transition, the 17th open zone with Too Many Active or Open
Zones, a claimed one with Zone Is Read Only; media that are not open are Namespace Not Ready. Report Zones gives the zones of
the filter from the one named, and their count (those returned, of a partial report). Reset and Offline fail: Invalid Zone State
Transition. On a namespace with no zones each is Invalid Opcode. -/
def Obligations.ZoneManagement : Prop :=
  ∀ (s : State) (c cid nsid zi lba filter limit : Nat) (everyZone part : Bool) (x : Ctx) (n : Ns),
    s.turn c cid = some x → x.sq ≠ 0 → s.nsIo nsid = some n →
    let q := x.seq
    let a := zi * n.zsize
    let z := n.zone zi
    let fail := fun e => Host.Outcome.next (s.complete q (cplFail e true))
    let moved := fun (m : Ns) => Host.Outcome.next ((s.modNs nsid fun _ => m).complete q (cplOk 0 0))
    let usable := n.zoned = true ∧ 1 ≤ n.zsize ∧ s.mediaOpen nsid = true ∧ a < n.nsze ∧ s.claimed nsid zi = false
    let finished := fun (m : Ns) (sc : Scope) (one : Option Nat) =>
      let t := s.modNs nsid fun _ => m
      Host.Outcome.next (((if nsSpread nsid then t.spreadFlush [nsid] one else t).modCtx q fun y =>
        { y with op := .flush sc q 0 }).serveFlush q)
    let zones := fun act => (n.zonesFor act).filter fun z => !s.claimed nsid z
    let all := fun act => (zones act).foldl (fun r z => match r with | .ok n => n.zoneAct act z | .error e => .error e)
      (.ok n : Except Status Ns)
    let listed := ((List.range (n.zoneCount - lba / n.zsize)).map fun j => n.zone (lba / n.zsize + j)).filter fun y =>
      filter == 0 || y.state + 1 == filter
    let shown := listed.take limit
    (usable → (z.state = 1 ∨ z.state = 2 ∨ ((z.state = 0 ∨ z.state = 3) ∧ n.openZones < 16)) →
        exec (.zoneOpen c cid nsid a false) s = moved (n.setZone { z with state := 2 }))
    ∧ (usable → (z.state = 0 ∨ z.state = 3) → 16 ≤ n.openZones → exec (.zoneOpen c cid nsid a false) s = fail .tooManyOpenZones)
    ∧ (usable → (z.state = 4 ∨ z.state = 5) → exec (.zoneOpen c cid nsid a false) s = fail .invalidZoneTransition)
    ∧ (usable → (z.state = 1 ∨ z.state = 2 ∨ z.state = 3) →
        exec (.zoneClose c cid nsid a false) s = moved (n.setZone { z with state := 3 }))
    ∧ (usable → (z.state = 0 ∨ z.state = 4 ∨ z.state = 5) → exec (.zoneClose c cid nsid a false) s = fail .invalidZoneTransition)
    ∧ (usable → z.state ≠ 5 → exec (.zoneFinish c cid nsid a false) s
        = finished { n.setZone { z with state := 4, wp := n.zcap zi } with lia := n.lia || n.daf } (.zone nsid zi) (some zi))
    ∧ (usable → z.state = 5 → exec (.zoneFinish c cid nsid a false) s = fail .invalidZoneTransition)
    ∧ (n.zoned = true → s.mediaOpen nsid = true →
        (∀ m, all .open_ = .ok m → exec (.zoneOpen c cid nsid lba true) s = moved m)
        ∧ (∀ e, all .open_ = .error e → exec (.zoneOpen c cid nsid lba true) s = fail e)
        ∧ (∀ m, all .close = .ok m → exec (.zoneClose c cid nsid lba true) s = moved m)
        ∧ (∀ m, all .finish = .ok m → exec (.zoneFinish c cid nsid lba true) s
            = finished m (match zones .finish with | [y] => .zone nsid y | _ => .all [nsid])
                (match zones .finish with | [y] => some y | _ => none)))
    ∧ (n.zoned = true → 1 ≤ n.zsize → s.mediaOpen nsid = true → a < n.nsze → s.claimed nsid zi = true →
        exec (.zoneOpen c cid nsid a false) s = fail .zoneReadOnly ∧ exec (.zoneClose c cid nsid a false) s = fail .zoneReadOnly
        ∧ exec (.zoneFinish c cid nsid a false) s = fail .zoneReadOnly)
    ∧ (n.zoned = true → s.mediaOpen nsid = false →
        let no := Host.Outcome.next (s.complete q (cplFail .namespaceNotReady false))
        exec (.zoneOpen c cid nsid lba everyZone) s = no ∧ exec (.zoneClose c cid nsid lba everyZone) s = no
        ∧ exec (.zoneFinish c cid nsid lba everyZone) s = no)
    ∧ (n.zoned = true → lba < n.nsze → filter ≤ 7 → s.rebuilding nsid = false →
        exec (.zoneManagementReceive c cid nsid lba filter limit part) s
          = .next ((s.emit (.fields x.ctrl x.sq x.cid 0x7A ((if part then shown.length else listed.length) ::
              shown.flatMap fun y => [y.idx * n.zsize, y.state, n.zcap y.idx, y.idx * n.zsize + y.wp]))).complete q (cplOk 0 0)))
    ∧ (n.zoned = true → exec (.zoneReset c cid nsid lba everyZone) s = fail .invalidZoneTransition
        ∧ exec (.zoneOffline c cid nsid lba everyZone) s = fail .invalidZoneTransition)
    ∧ (n.zoned = false → exec (.zoneOpen c cid nsid lba everyZone) s = fail .invalidOpcode
        ∧ exec (.zoneClose c cid nsid lba everyZone) s = fail .invalidOpcode
        ∧ exec (.zoneFinish c cid nsid lba everyZone) s = fail .invalidOpcode
        ∧ exec (.zoneManagementReceive c cid nsid lba filter limit part) s = fail .invalidOpcode
        ∧ exec (.zoneReset c cid nsid lba everyZone) s = fail .invalidOpcode
        ∧ exec (.zoneOffline c cid nsid lba everyZone) s = fail .invalidOpcode)

/-- An admin command whose turn has come. Identify gives the structure of its CNS, or fails. Abort of a held event request or of a
command that is not dispatched completes it as aborted; of one that is dispatched, or is not there, it reports 1. An Asynchronous Event Request completes with an event that waits, is held
(16 at most), or fails. Keep Alive succeeds. Each Set Features stores its value where the controller has the feature, and Get
Features returns it; a value or a feature it does not have is Invalid Field; a keep-alive time is rounded up to 100 ms
(PRESUMED, log entry 121); Number of Queues grants what 4,096 pairs allow, and reports a free value where it grants none; a
Timestamp sets the calendar but while it follows the ring. Property Get serves a fabric controller. -/
def Obligations.AdminCommands : Prop :=
  ∀ (s : State) (c cid v cns csi nsid sq target : Nat) (x : Ctx) (k : Ctrl), s.adminTurn c cid x k →
    let q := x.seq
    let ok := Host.Outcome.next (s.complete q (cplOk 0 0))
    let bad := fun e => Host.Outcome.next (s.complete q (cplFail e true))
    let set := fun f w => Host.Outcome.next ((s.modCtrl x.ctrl fun k => k.setFeature f w).complete q (cplOk 0 0))
    let give := fun w => Host.Outcome.next (s.complete q (cplOk w 0))
    let grant := min (max (v % 65536) (v / 65536 % 65536) + 1) (4096 - s.grantedOthers c)
    let free := { s with nvme := { s.nvme with ctxs := s.nvme.ctxs.filter fun y => y.seq != q } }
    (∀ f, s.identifyData c cns csi nsid = some f →
        exec (.identify c cid cns csi nsid) s = .next ((s.emit (.fields c 0 cid cns f)).complete q (cplOk 0 0)))
    ∧ (s.identifyData c cns csi nsid = none → exec (.identify c cid cns csi nsid) s = bad .invalidField)
    ∧ (sq = 0 → target ∈ k.aers → exec (.abort c cid sq target) s
        = .next ((((s.modCtrl c fun k => { k with aers := k.aers.filter (· != target) }).emit
            (.completion c 0 target (cplFail .commandAbortRequested false))).bump (nvKey 0x0D)).complete q (cplOk 0 0)))
    ∧ (¬ (sq = 0 ∧ target ∈ k.aers) →
        s.nvme.ctxs.find? (fun z => z.ctrl == c && z.sq == sq && z.cid == target && z.seq != q) = none →
        exec (.abort c cid sq target) s = .next ((s.bump (nvKey 0x0E)).complete q (cplOk 1 0)))
    ∧ (∀ y, ¬ (sq = 0 ∧ target ∈ k.aers) →
        s.nvme.ctxs.find? (fun z => z.ctrl == c && z.sq == sq && z.cid == target && z.seq != q) = some y →
        exec (.abort c cid sq target) s = .next (if s.isDispatched y then (s.bump (nvKey 0x0E)).complete q (cplOk 1 0)
          else (((s.complete y.seq (cplFail .commandAbortRequested false)).bump (nvKey 0x0D)).complete q (cplOk 0 0)).settle))
    ∧ (k.waiting = [] → k.aers.length < 16 → exec (.asyncEventRequest c cid) s
        = .next (free.modCtrl c fun k => { k with aers := k.aers ++ [cid] }))
    ∧ (k.waiting = [] → 16 ≤ k.aers.length → exec (.asyncEventRequest c cid) s = bad .aerLimit)
    ∧ (∀ e r, k.waiting = e :: r → exec (.asyncEventRequest c cid) s
        = .next ((free.modCtrl c fun k => { k with waiting := r, masked := k.masked ++ [e] }).emit (.asyncEvent c cid e)))
    ∧ exec (.keepAlive c cid) s = ok
    ∧ exec (.setFeaturesArbitration c cid v) s = set 1 (v % 8)
    ∧ exec (.setFeaturesPowerManagement c cid v) s = (if v % 32 = 0 then ok else bad .invalidField)
    ∧ (bitsOf v 19 16 = 0 → bitsOf v 21 20 ≤ 1 →
        exec (.setFeaturesTemperatureThreshold c cid v) s = set (0x400 + bitsOf v 21 20) (v % 65536))
    ∧ ((bitsOf v 19 16 ≠ 0 ∨ 1 < bitsOf v 21 20) → exec (.setFeaturesTemperatureThreshold c cid v) s = bad .invalidField)
    ∧ exec (.setFeaturesVolatileWriteCache c cid v) s = set 6 (v % 2)
    ∧ (grant = 0 → let f := (s.modCtrl c fun k => { k with granted := 0 }).fresh
        exec (.setFeaturesNumberOfQueues c cid v) s = .next (f.2.complete q (cplOk (Config.freeValue f.1 % 4294967296) 0)))
    ∧ (1 ≤ grant → exec (.setFeaturesNumberOfQueues c cid v) s
        = .next ((s.modCtrl c fun k => { k with granted := grant }).complete q (cplOk ((grant - 1) * 65536 + (grant - 1)) 0)))
    ∧ exec (.setFeaturesInterruptCoalescing c cid v) s = (if c = 0 then set 8 (v % 65536) else bad .invalidField)
    ∧ exec (.setFeaturesInterruptVectorConfig c cid v) s
        = (if c = 0 ∧ v % 65536 < 2048 then set (0x90000 + v % 65536) (v / 65536 % 2) else bad .invalidField)
    ∧ exec (.setFeaturesAsyncEventConfig c cid v) s = set 0x0B v
    ∧ exec (.setFeaturesKeepAliveTimer c cid v) s
        = (if c = 0 then bad .invalidField else set 0x0F ((v + 99) / 100 * 100))
    ∧ exec (.setFeaturesTimestamp c cid v) s = (if s.following then bad .commandSequence
        else .next ((s.calendarSet (v % 2 ^ 48 * 1000) 1).complete q (cplOk 0 0)))
    ∧ (nsid = 1 ∨ nsid = 6 ∨ nsid = 11 → exec (.getFeatures c cid nsid v) s = give (k.feature nsid))
    ∧ exec (.getFeatures c cid 2 v) s = give 0
    ∧ exec (.getFeatures c cid 4 v) s = give (k.feature (0x400 + bitsOf v 21 20))
    ∧ (1 ≤ k.granted → exec (.getFeatures c cid 7 v) s = give ((k.granted - 1) * 65536 + (k.granted - 1)))
    ∧ exec (.getFeatures c cid 14 v) s = .next ((s.emit (.bytes c 0 cid (leBytes 8 (s.calendar / 1000)))).complete q (cplOk 0 0))
    ∧ (k.granted = 0 → exec (.getFeatures c cid 7 v) s
        = .next (s.fresh.2.complete q (cplOk (Config.freeValue s.fresh.1 % 4294967296) 0)))
    ∧ exec (.getFeatures c cid 8 v) s = (if c = 0 then give (k.feature 8) else bad .invalidField)
    ∧ exec (.getFeatures c cid 9 v) s = (if c = 0 ∧ v % 65536 < 2048
        then give (v % 65536 + 65536 * k.feature (0x90000 + v % 65536)) else bad .invalidField)
    ∧ exec (.getFeatures c cid 15 v) s = (if c = 0 then bad .invalidField else give (k.feature 15))
    ∧ (nsid ∉ [1, 2, 4, 6, 7, 8, 9, 11, 14, 15] → exec (.getFeatures c cid nsid v) s = bad .invalidField)
    ∧ (c ≠ 0 → exec (.propertyGet c cid 8) s = give 0x20000 ∧ exec (.propertyGet c cid 0x14) s = give k.cc
        ∧ exec (.propertyGet c cid 0x1C) s = give (s.csts k) ∧ exec (.propertyGet c cid 0x20) s = give 0
        ∧ exec (.propertyGet c cid 0) s = .next (s.complete q (cplOk (capValue % 4294967296) (capValue / 4294967296)))
        ∧ (v ∉ [0, 8, 0x14, 0x1C, 0x20] → exec (.propertyGet c cid v) s = bad .invalidField))
    ∧ (c = 0 → exec (.propertyGet c cid v) s = bad .invalidOpcode)

/-- For the PCIe controller: a completion queue within the grant, of a legal size and not there yet is created, a submission queue
too where its completion queue exists; a completion queue that none uses is deleted; the deletion of a submission queue ends its
undispatched commands, drops its dispatched ones, and waits for them; each fails on what it does not meet. For a fabric
controller these are not supported, and Property Set of CC resets, shuts down or enables the controller. A controller reset by
CC.EN or an abrupt shutdown of an enabled controller, or of controller 0 by a function-level, hot or link reset or by PERST_N in
PERST_MODE 1, discards commands and staged data, or waits for the end of an activation; for controller 0 the BAR2 window's
registers return to their reset values first. -/
def Obligations.QueuesAndResets : Prop :=
  ∀ (s : State) (c cid id size cq off v : Nat) (x : Ctx) (k : Ctrl), s.ctrl c = some k →
    let q := x.seq
    let mine := s.adminTurn c cid x k
    let bad := fun e => Host.Outcome.next (s.complete q (cplFail e true))
    let u := (s.complete q (cplOk 0 0)).modCtrl c fun k => { k with cc := v % 2 ^ 32 }
    let reset := fun (w : State) =>
      let w := if c = 0 then { w with bar2 := Bar2.initial } else w
      if w.nvme.activating.isSome then w.modCtrl c fun k => { k with resetWaits := true } else w.ctrlReset c
    let free := 1 ≤ id ∧ id ≤ k.granted
    (mine → c = 0 → free → id ∉ k.cqs → 1 ≤ size → size ≤ 16383 → exec (.createIoCq c cid id size) s
        = .next ((s.modCtrl c fun k => { k with cqs := k.cqs ++ [id] }).complete q (cplOk 0 0)))
    ∧ (mine → c = 0 → (¬ free ∨ id ∈ k.cqs) → exec (.createIoCq c cid id size) s = bad .invalidQueue)
    ∧ (mine → c = 0 → free → id ∉ k.cqs → (size = 0 ∨ 16383 < size) → exec (.createIoCq c cid id size) s = bad (.code 1 2))
    ∧ (mine → c = 0 → free → (∀ p ∈ k.sqs, p.1 ≠ id) → cq ∈ k.cqs → 1 ≤ size → size ≤ 16383 →
        exec (.createIoSq c cid id size cq) s
          = .next ((s.modCtrl c fun k => { k with sqs := k.sqs ++ [(id, cq)] }).complete q (cplOk 0 0)))
    ∧ (mine → c = 0 → (¬ free ∨ ∃ p ∈ k.sqs, p.1 = id) → exec (.createIoSq c cid id size cq) s = bad .invalidQueue)
    ∧ (mine → c = 0 → free → (∀ p ∈ k.sqs, p.1 ≠ id) → cq ∉ k.cqs → exec (.createIoSq c cid id size cq) s = bad (.code 1 0))
    ∧ (mine → c = 0 → free → (∀ p ∈ k.sqs, p.1 ≠ id) → cq ∈ k.cqs → (size = 0 ∨ 16383 < size) →
        exec (.createIoSq c cid id size cq) s = bad (.code 1 2))
    ∧ (mine → c = 0 → id ∈ k.cqs → (∀ p ∈ k.sqs, p.2 ≠ id) → exec (.deleteIoCq c cid id) s
        = .next ((s.modCtrl c fun k => { k with cqs := k.cqs.filter (· != id) }).complete q (cplOk 0 0)))
    ∧ (mine → c = 0 → id ∉ k.cqs → exec (.deleteIoCq c cid id) s = bad .invalidQueue)
    ∧ (mine → c = 0 → id ∈ k.cqs → (∃ p ∈ k.sqs, p.2 = id) → exec (.deleteIoCq c cid id) s = bad (.code 1 0x0C))
    ∧ (mine → c = 0 → (∃ p ∈ k.sqs, p.1 = id) → exec (.deleteIoSq c cid id) s
        = .next ((s.forEach (s.nvme.ctxs.filter fun y => y.ctrl == c && y.sq == id) fun t y =>
            if t.isDispatched y then t.modCtx y.seq fun z => { z with dropped := true }
            else t.complete y.seq (cplFail .abortedSqDeletion false)).modCtx q fun y => { y with op := .sqDelete id }).settle)
    ∧ (mine → c = 0 → (∀ p ∈ k.sqs, p.1 ≠ id) → exec (.deleteIoSq c cid id) s = bad .invalidQueue)
    ∧ (mine → c ≠ 0 → exec (.createIoCq c cid id size) s = bad .invalidOpcode
        ∧ exec (.createIoSq c cid id size cq) s = bad .invalidOpcode
        ∧ exec (.deleteIoCq c cid id) s = bad .invalidOpcode ∧ exec (.deleteIoSq c cid id) s = bad .invalidOpcode)
    ∧ (mine → c ≠ 0 → exec (.propertySet c cid 0x14 v) s = .next (
        if k.en ∧ v % 2 = 0 then reset u else if k.en ∧ bitsOf v 15 14 = 1 then u.shutdown c
        else if k.en ∧ bitsOf v 15 14 = 2 then reset u else if k.en = false ∧ v % 2 = 1 then u.enableCtrl c else u))
    ∧ (mine → c ≠ 0 → off ≠ 0x14 → exec (.propertySet c cid off v) s = bad .invalidField)
    ∧ (mine → c = 0 → exec (.propertySet c cid off v) s = bad .invalidOpcode)
    ∧ (k.en = true → exec (.controllerReset c .ccEn) s = .next (reset s) ∧ exec (.controllerReset c .abruptShutdown) s = .next (reset s))
    ∧ (k.en = false → exec (.controllerReset c .ccEn) s = .next s ∧ exec (.controllerReset c .abruptShutdown) s = .next s)
    ∧ (c = 0 → exec (.controllerReset c .hotReset) s = .next (reset s) ∧ exec (.controllerReset c .functionLevel) s = .next (reset s)
        ∧ exec (.controllerReset c .linkDown) s = .next (reset s.linkDown)
        ∧ exec (.controllerReset c .perst) s = .next (if s.reg (key 0x4000 5) = 1 then reset s else s))
    ∧ (c ≠ 0 → exec (.controllerReset c .hotReset) s = .next s ∧ exec (.controllerReset c .functionLevel) s = .next s
        ∧ exec (.controllerReset c .linkDown) s = .next s ∧ exec (.controllerReset c .perst) s = .next s)

/-- Format of a DAF namespace whose zones are EMPTY, with no dirty line and no write, sets its LBA format, invalidates its lines
and ends a self-test on it, and fails otherwise. Pin creates a record with a PIN_ID of its own, PARTIAL where a cluster lies
above the write pointer, locks the lines there are and queues fills of the others; Unpin frees it and unlocks the lines no other
record covers; each fails on what it does not meet. FILL_COMMIT makes the line of a dispatched fill FILLING, its own or a
victim's; with no way a prefetch or refill is dropped and another fill
bypasses; a metadata line is locked, with the way of a host pin where four ways are locked already. A decoded block is checked and placed. FILL_END
of a fill whose sectors have all decoded or been given up ends it, and leaves a full line VALID; MERGE_FILL_DONE of a merge fill
so ended counts, with the flushes failed that cover a block it left unrecovered. A waiting write tries again for its lines. -/
def Obligations.FormatsPinsAndFills : Prop :=
  ∀ (s : State) (c cid nsid a m p ses id cl b : Nat) (x y : Ctx) (k : Ctrl) (n : Ns) (o : MediaOp) (l : Line) (blk : Block),
    let q := x.seq
    let mine := s.adminTurn c cid x k
    let fail := fun e => Host.Outcome.next (s.complete q (cplFail e true))
    let rest := s.granary.pins.filter fun p => p.id != id
    let cls := clustersOf a (16 * (m + 1))
    let pin := freePinId s.granary.pins 257 s.granary.nextPin
    let above := cls.filter n.clusterAbove
    let fits := n.daf = true ∧ m ≤ 1 ∧ (p = 0 ∨ p = s.reg (nvKey 6))
    let written := (n.zones.any fun z => z.state != 0) || (s.granary.lines.any fun l => l.nsid == nsid && l.isDirty)
      || s.nvme.ctxs.any fun y => match y.op with | .write j _ _ _ _ => j == nsid | _ => false
    let tested := match s.selfTest with | some t => if t.nsid = nsid then s.endTest 4 else s | none => s
    let filling := o.dispatched = true ∧ o.committed = false ∧ (s.fromPool o = false ∨ o.got ≠ [])
      ∧ (o.kind = .demand ∨ o.kind = .prefetch ∨ o.kind = .refill ∨ o.kind = .merge)
    (mine → s.ns nsid = some n → fits → written = false → exec (.formatNvm c cid nsid m p 0) s
        = .next ((((tested.modNs nsid fun n => { n with lbaf := m }).invalidate nsid).1).complete q (cplOk 0 0)))
    ∧ (mine → s.ns nsid = some n → ses ≠ 0 → exec (.formatNvm c cid nsid m p ses) s = fail .invalidField)
    ∧ (mine → s.ns nsid = some n → ¬ fits → exec (.formatNvm c cid nsid m p 0) s = fail .invalidFormat)
    ∧ (mine → s.ns nsid = some n → fits → written = true → exec (.formatNvm c cid nsid m p 0) s = fail .commandSequence)
    ∧ (mine → s.ns nsid = none → exec (.formatNvm c cid nsid m p ses) s = fail .invalidNamespaceOrFormat
        ∧ exec (.pin c cid nsid a m) s = fail .invalidNamespaceOrFormat)
    ∧ (mine → s.ns nsid = some n → a + 16 * (m + 1) ≤ n.nsze → s.mediaReady nsid = true → s.granary.pins.length < 256 →
        exec (.pin c cid nsid a m) s = .next ((((((s.modGr fun g => { g with
            nextPin := if pin = 0xFFFFFFFF then 1 else pin + 1
            pins := g.pins ++ [⟨pin, nsid, if above.isEmpty then 1 else 2, a, cls.length, above,
              if s.timeValid then s.calendar else 0⟩] }).addReg 32 (key 0x4401 0x0E) above.length).forEach
            (cls.filter fun cl => !above.contains cl) fun u cl => match u.line nsid cl with
              | some _ => u.lockLine nsid cl
              | none => if nsSpread nsid then u else u.queueFill nsid cl .demand).modCtx q fun y => { y with op := .pin pin })).pumpPins))
    ∧ (mine → s.ns nsid = some n → n.nsze < a + 16 * (m + 1) → exec (.pin c cid nsid a m) s = fail .lbaOutOfRange)
    ∧ (mine → s.ns nsid = some n → a + 16 * (m + 1) ≤ n.nsze → s.mediaReady nsid = false →
        exec (.pin c cid nsid a m) s = .next (s.complete q (cplFail .namespaceNotReady false)))
    ∧ (mine → s.ns nsid = some n → a + 16 * (m + 1) ≤ n.nsze → s.mediaReady nsid = true → 256 ≤ s.granary.pins.length →
        exec (.pin c cid nsid a m) s = .next (s.complete q (cplFail (.code 1 0xC1) false)))
    ∧ (mine → (∃ p ∈ s.granary.pins, p.id = id) → exec (.unpin c cid id) s
        = .next (({ s with granary := { s.granary with
            pins := rest
            lines := s.granary.lines.map fun (l : Line) =>
              if l.lock = 2 ∧ ¬ rest.any (fun p => p.locks l.nsid l.cluster) then { l with lock := 0 } else l } }).pumpPins.complete q (cplOk 0 0)))
    ∧ (mine → (∀ p ∈ s.granary.pins, p.id ≠ id) → exec (.unpin c cid id) s = fail .invalidField)
    ∧ (s.op nsid cl = some o → filling → s.line nsid cl = some l → exec (.fillCommit nsid cl) s
          = .next ((if l.state = .valid ∨ l.state = .evicting then s.modLine nsid cl fun l => { l with state := .filling } else s).modOp
              nsid cl fun o => { o with committed := true }))
    ∧ (s.op nsid cl = some o → filling → s.line nsid cl = none → o.victim = none →
        (∀ w, s.victim (s.setOf nsid cl) = some w → exec (.fillCommit nsid cl) s = .next (s.commitLine o w 0))
        ∧ (s.victim (s.setOf nsid cl) = none → exec (.fillCommit nsid cl) s
            = .next (if o.kind = .prefetch ∨ o.kind = .refill then s.dropOp nsid cl
              else (s.modOp nsid cl fun o => { o with committed := true, bypass := true }).bump (key 0x4401 9))))
    ∧ (s.op nsid cl = some o → filling → s.line nsid cl = none → ∀ w, o.victim = some w →
        ((s.setLines (s.setOf nsid cl)).all fun l => l.way != w || l.state == .evicting) = true →
        exec (.fillCommit nsid cl) s = .next (s.commitLine o w 0))
    ∧ (s.op nsid cl = some o → o.dispatched = true → o.committed = false → o.kind = .metadata → o.victim = none → s.line nsid cl = none →
        let z := s.setOf nsid cl
        (s.lockedWays z < 4 → ∀ w, s.victim z = some w → exec (.fillCommit nsid cl) s = .next (s.commitLine o w 1))
        ∧ (s.lockedWays z < 4 → s.victim z = none → exec (.fillCommit nsid cl) s
            = .next (s.modOp nsid cl fun o => { o with committed := true, bypass := true }))
        ∧ (4 ≤ s.lockedWays z → ∀ j, s.pinToGive z = some j → exec (.fillCommit nsid cl) s
            = .next ((s.forEach (s.granary.pins.filter fun p => p.locks j.nsid j.cluster) fun u p =>
                u.modPin p.id fun p => { p with state := 2, refused := p.refused ++ [j.cluster] }).commitLine o j.way 1))
        ∧ (4 ≤ s.lockedWays z → s.pinToGive z = none → ∀ w, s.victim z = some w → exec (.fillCommit nsid cl) s
            = .next ((s.commitLine o w 0).bump (key 0x4401 0x11))))
    ∧ (s.op nsid cl = some o → s.fromPool o = true → (∀ d, findKey b o.got = some d →
          exec (.blockPlaced nsid cl b blk) s = .next (s.checkedBlock nsid cl b (sectorBlock d)))
        ∧ (findKey b o.got = none → exec (.blockPlaced nsid cl b blk) s = .next s))
    ∧ (s.op nsid cl = some o → s.fromPool o = false → o.kind ≠ .test →
        exec (.blockPlaced nsid cl b blk) s = .next (s.checkedBlock nsid cl b blk))
    ∧ (s.op nsid cl = some o → o.committed = true → o.bypass = false → s.carriesPi nsid = false →
        s.checkedBlock nsid cl b blk = ((s.modLine nsid cl fun l => if bitOf l.dirty b then l
            else { l with valid := setBit l.valid b, poison := clrBit l.poison b, blocks := l.blocks.set b blk }).hbmWrites
              nsid cl [b]).pumpReads)
    ∧ (s.op nsid cl = some o → o.committed = true → s.carriesPi nsid = true → piCheck (s.reg (nvKey 6)) (16 * cl + b) blk = .guard →
        s.checkedBlock nsid cl b blk = s.failReads nsid (· == 16 * cl + b) .guardCheck true)
    ∧ (s.fillOver nsid cl = true → exec (.fillEnd nsid cl) s = .next (s.fillEnd nsid cl).settle)
    ∧ (s.fillOver nsid cl = false → exec (.fillEnd nsid cl) s = .next s)
    ∧ ((s.granary.ops.filter fun y => y.nsid == nsid && y.cluster == cl && !y.ended) = [o] → o.dispatched = true → o.kind = .demand →
        s.line nsid cl = some l → l.state = .filling → l.valid = 65535 → l.dirty = 0 → o.bypass = false →
        (∀ y ∈ s.nvme.ctxs, y.op = .fetched) →
        ∃ t, exec (.fillEnd nsid cl) s = .next t ∧ t.line nsid cl = some { l with state := .valid } ∧ t.op nsid cl = none)
    ∧ (s.op nsid cl = some o → o.kind = .merge → o.dispatched = true → s.fillOver nsid cl = true →
        let u := (s.bump (key 0x4401 0x0B)).placeRest nsid cl
        exec (.mergeFillDone nsid cl) s = .next ((match u.mergeLost nsid cl with
            | [] => u
            | b :: _ => (u.integrityEntry nsid (16 * cl + b) 2).failFlushes nsid cl).fillEnd nsid cl).settle)
    ∧ (∀ a d f g, s.nvme.ctxs.find? (fun z => z.ctrl == c && z.cid == cid && match z.op with | .write _ _ _ _ _ => true | _ => false) = some y →
        y.op = .write nsid a d f g → exec (.writeLineReserved c cid) s = .next (s.tryWrite y.seq).settle)

/-- Get Log Page of a page of Table 13.8 gives its fields and, unless events are retained, lets its events come again; another
page fails with Invalid Log Page. An aligned piece of an image is kept, and any other fails. A commit to slot 0 takes the slot
that does not run; one to the slot that runs, or to no slot, fails. Actions 0, 1 and 3 wake the security domain, verify the image
(downloaded, or for action 3 with none the slot's) and fail where it is not there or does not verify; actions 0 and 1 write it
into the slot, actions 1 and 2 select the slot, and both need a reset; action 3 writes it and starts an activation, or needs a
reset. A drain timeout gives the activation up while a dispatched command still runs, and completes it where none does. -/
def Obligations.LogPagesAndFirmware : Prop :=
  ∀ (s : State) (c cid page nsid off len slot : Nat) (retain : Bool) (b : List Byte) (x : Ctx) (k : Ctrl) (i : FirmwareImage),
    let q := x.seq
    let mine := s.adminTurn c cid x k
    let bad := fun e => Host.Outcome.next (s.complete q (cplFail e true))
    let n := if slot = 0 then 2 - s.reg (key 0x2100 4) else slot
    let other := 1 ≤ n ∧ n ≤ 2 ∧ n ≠ s.reg (key 0x2100 4) + 1
    let w := s.tempWake 94
    let put := { w with nor := { w.nor with banks := w.nor.banks.set (n - 1) (some i) }, nvme := { w.nvme with download := [] } }
    let pick := fun (t : State) => { t with nor := { t.nor with bankSelect := n - 1 } }
    let reset := fun (t : State) => t.complete q (cplFail .needsSubsystemReset false)
    let code := w.imageCode i
    let no := fun e => Host.Outcome.next (w.complete q (cplFail e true))
    let loaded := s.nvme.download ≠ [] ∧ i = imageOf (gather 0 s.nvme.download)
    let aligned := off % 4096 = 0 ∧ b ≠ [] ∧ b.length % 4 = 0 ∧ off + b.length ≤ 25165824
    (∀ f, mine → s.logPage k page = some f → exec (.getLogPage c cid page nsid off len retain) s
        = .next ((if retain then s.emit (.fields c 0 cid page (nsid :: off :: len :: f))
            else (s.emit (.fields c 0 cid page (nsid :: off :: len :: f))).modCtrl c fun k => k.pageRead page).complete q (cplOk 0 0)))
    ∧ (mine → s.logPage k page = none → exec (.getLogPage c cid page nsid off len retain) s = bad .invalidLogPage)
    ∧ (mine → aligned → exec (.firmwareImageDownload c cid off b) s
        = .next (({ s with nvme := { s.nvme with download := insertKey off b s.nvme.download } }).complete q (cplOk 0 0)))
    ∧ (mine → ¬ aligned → exec (.firmwareImageDownload c cid off b) s = bad .invalidField)
    ∧ (mine → ¬ other → exec (.firmwareCommitReplace c cid slot) s = bad .invalidSlot
        ∧ exec (.firmwareCommitActivateOnReset c cid slot) s = bad .invalidSlot
        ∧ exec (.firmwareCommitSelect c cid slot) s = bad .invalidSlot
        ∧ exec (.firmwareCommitActivateNow c cid slot) s = bad .invalidSlot)
    ∧ (mine → other → exec (.firmwareCommitSelect c cid slot) s = .next (reset (pick s)))
    ∧ (mine → other → loaded →
        let e := if code = 0x0F5E0003 then .activationProhibited else .invalidImage
        exec (.firmwareCommitReplace c cid slot) s = (if code = 0 then .next (put.complete q (cplOk 0 0)) else no e)
        ∧ exec (.firmwareCommitActivateOnReset c cid slot) s = (if code = 0 then .next (reset (pick put)) else no e))
    ∧ (mine → other → (loaded ∨ (s.nvme.download = [] ∧ s.nor.banks.getD (n - 1) none = some i)) → code = 0 →
        exec (.firmwareCommitActivateNow c cid slot) s = (if put.mustReset i then .next (reset (pick put))
          else .next (((((put.event .firmwareStarting).modNvme fun m => { m with activating := some n }).modCtx q fun y =>
            { y with op := .activate n }).endTest 8).settle)))
    ∧ (mine → other → (loaded ∨ (s.nvme.download = [] ∧ s.nor.banks.getD (n - 1) none = some i)) → code ≠ 0 →
        exec (.firmwareCommitActivateNow c cid slot) s
          = no (if code = 0x0F5E0003 then .activationProhibited else .invalidImage))
    ∧ (mine → other → s.nvme.download = [] → exec (.firmwareCommitReplace c cid slot) s = bad .invalidImage
        ∧ exec (.firmwareCommitActivateOnReset c cid slot) s = bad .invalidImage
        ∧ (s.nor.banks.getD (n - 1) none = none → exec (.firmwareCommitActivateNow c cid slot) s = bad .invalidImage))
    ∧ (∀ m n, s.activation = some (m, n) → s.draining m = true → exec .actDrainTimeout s
        = .next ((({ s with nor := { s.nor with bankSelect := n - 1 } }).complete m (cplFail .needsSubsystemReset false)).activationOver))
    ∧ (∀ m n, s.activation = some (m, n) → s.draining m = false → exec .actDrainTimeout s = .next (s.activate m n))
    ∧ (s.activation = none → exec .actDrainTimeout s = .next s)

/-! ### BIST, self-tests, calibration, wiring, the arbiter (chapters 19 and 20) -/

/-- A pattern block does nothing without a run; a running partition told to stop is ABORTED at it, else it goes on. The end of a powered
partition's patterns repairs its failing SRAM rows; it is PASSED with its expected signature; a first mismatch runs it again and a second is
FAILED; the whole chip ends with a reset. A pool tick asks for the test of an untested pool partition, and does nothing with no interval,
outside RUN or outside the life-cycle states of in-field BIST. A segment that waits and does not become free is DEFERRED, a pool partition out of time
INCOMPLETE. A free inrush slot goes to the earliest spin-up, unless the strobe that fired it fired a lower station that still waits; with no
spin-up waiting, to BIST. With none free, a spin-up of another station takes the slot of a running partition, which is SUSPENDED. -/
def Obligations.BistRuns : Prop :=
  ∀ (s : State) (kind inst sig first i j : Nat) (rows : List SramRow) (r : BistRun) (l : List Nat),
    let good := sig = (Config.expectedSignature (partNumber kind inst)).toNat
    let mended := s.forEach (rows.filter fun x =>
      kind == 8 || some x.dom == partDomain kind inst || (x.dom == 95 && (partDomain kind inst).isNone)) State.sramRepair
    let ends := fun c => exec (.bistPartitionEnd kind inst sig first rows) s = .next c
    (s.bistRun kind inst = none → exec (.bistPatternBlock kind inst) s = .next s ∧ ends s)
    ∧ (s.bistRun kind inst = some r → r.stage = .running → r.stop = true →
        exec (.bistPatternBlock kind inst) s = .next ((s.bistEnd r oAborted 0 true).bistAfter r))
    ∧ (s.bistRun kind inst = some r → r.stage = .running → r.stop = false → exec (.bistPatternBlock kind inst) s = .next s)
    ∧ (s.bistRun kind inst = some r → r.stage = .pool → exec (.bistPatternBlock kind inst) s = .next s.poolGo)
    ∧ (s.bistRun kind inst = some r → (r.stage ≠ .running ∨ s.partOn kind inst = false) → ends s)
    ∧ (s.bistRun kind inst = some r → r.stage = .running → s.partOn kind inst = true →
        (kind ≠ 8 → good → ends ((mended.bistEnd r oPassed sig false).bistAfter r))
        ∧ (kind ≠ 8 → ¬ good → r.again = true → ends ((mended.bistEnd r oFailed sig false).bistAfter r))
        ∧ (kind ≠ 8 → ¬ good → r.again = false → ends (mended.modRun kind inst fun r => { r with again := true }))
        ∧ (kind = 8 → ends (mended.wholeChipEnd r (decide good) sig first)))
    ∧ (s.reg (key 0x2500 1) ≠ 0 → s.powerState = psRun → s.bistState 5 = true → s.bist.runs = [] → s.bist.out = [] → s.bist.table = [] →
        exec .poolBistTick s = .next (s.bistAsk 5 0 .pool))
    ∧ ((s.reg (key 0x2500 1) = 0 ∨ s.powerState ≠ psRun ∨ s.bistState 5 = false) → exec .poolBistTick s = .next s)
    ∧ (s.bistRun 6 j = some r → r.active = false → exec (.segmentWaitExpiry j) s = .next ((s.bistEnd r oDeferred 0 false).bistAfter r))
    ∧ (s.bistRun 6 j = some r → r.active = true → exec (.segmentWaitExpiry j) s = .next s)
    ∧ (s.bistRun 6 j = none → exec (.segmentWaitExpiry j) s = .next s)
    ∧ (s.bist.runs = [r] → (5 ≤ r.kind ∧ r.kind ≤ 7) → r.stage = .running →
        exec .classBTimeExceeded s = .next ((s.bistEnd r oIncomplete 0 false).bistAfter r))
    ∧ ((∀ x ∈ s.bist.runs, (5 ≤ x.kind ∧ x.kind ≤ 7) → x.stage ≠ .running) → exec .classBTimeExceeded s = .next s)
    ∧ (s.freeSlots = true → s.power.spinWaits = i :: l → s.firedBefore i = false → exec .inrushSlotGrant s = .next ((s.takeSlot i).spinGo i))
    ∧ (s.freeSlots = true → s.power.spinWaits = i :: l → s.firedBefore i = true → exec .inrushSlotGrant s = .next s)
    ∧ (s.freeSlots = true → s.power.spinWaits = [] → exec .inrushSlotGrant s = .next s.bistSlot)
    ∧ (s.freeSlots = false → exec .inrushSlotGrant s = .next s)
    ∧ (s.freeSlots = true → exec (.bistSlotPreempt j) s = .next s)
    ∧ (s.freeSlots = false → s.power.spinWaits = i :: l → i ≠ j →
        (s.stationRuns j).find? (fun r => r.stage == .running) = some r → exec (.bistSlotPreempt j) s
          = .next (((({ s with power := { s.power with
              slots := s.power.slots.filter (· != SlotHolder.bist r.kind r.inst)
              bistSuspended := s.power.bistSuspended ++ [(r.kind, r.inst)] } }).modRun r.kind r.inst fun r =>
                { r with stage := .suspended }).setOutcome r.kind r.inst oSuspended).takeSlot i |>.spinGo i))

/-- A Device Self-test command for the subsystem or for an existing namespace completes and starts the short or extended test of the stations it
names; with one running it fails, with no such namespace it is refused. Abort ends a test with result 1, the time limit with result 0, or 7 after a
failure; each end leaves no test, SELFTEST code 0, and a new result in front; with no test the limit does nothing. A station idle and below MAINT with
loops left starts its loop checks, else the test looks at what its steps allow. A measurement with points to make goes on; one that is over writes its
result object: loop, crossover, margins, peaking, points and response under the next SEQUENCE, or its failure code; one that an object asked
for does no more. With no measurement nothing happens. -/
def Obligations.SelfTests : Prop :=
  ∀ (s : State) (c cid nsid st e n b pc : Nat) (pm gm : Int) (x : Ctx) (k : Ctrl) (t : SelfTest) (y : StTest) (h : List Byte) (m : Meas),
    let q := x.seq
    let all := nsid = 0 ∨ nsid = 0xFFFFFFFF
    let stations := fun (u : State) code => (if nsid = 0 ∨ nsid = 0xFFFFFFFF then List.range s.part.stations
        else if nsSpread nsid then [] else [nsStation nsid]).map fun i => u.stTestOf i code
    let begin_ := fun (u : State) code => ((({ u with selfTest := some (⟨code, nsid, x.ctrl,
        stations u code, if code = 2 ∧ u.bistState 5 = true then u.poolParts else [], 0⟩ : SelfTest) } : State).setReg
          (key 0x2500 7) code)).testAdvance
    let ended := m.outcome (Config.freeValue s.fresh.1)
    let drawn := if m.resp.any (fun p => p.2 == (0, 0)) then s.fresh.2 else s
    (s.adminTurn c cid x k → s.selfTest = none → (all ∨ ∃ v, s.ns nsid = some v) →
        exec (.deviceSelfTestShort c cid nsid) s = .next (begin_ (s.complete q (cplOk 0 0)) 1)
        ∧ exec (.deviceSelfTestExtended c cid nsid) s = .next (begin_ (s.complete q (cplOk 0 0)) 2))
    ∧ (s.adminTurn c cid x k → s.selfTest = none → ¬ all → s.ns nsid = none →
        exec (.deviceSelfTestShort c cid nsid) s = .next (s.complete q cplInvalidNs)
        ∧ exec (.deviceSelfTestExtended c cid nsid) s = .next (s.complete q cplInvalidNs))
    ∧ (s.adminTurn c cid x k → s.selfTest = some t →
        exec (.deviceSelfTestShort c cid nsid) s = .next (s.complete q (cplFail .selfTestInProgress false))
        ∧ exec (.deviceSelfTestExtended c cid nsid) s = .next (s.complete q (cplFail .selfTestInProgress false)))
    ∧ (s.adminTurn c cid x k → exec (.deviceSelfTestAbort c cid) s = .next ((s.endTest 1).complete q (cplOk 0 0)))
    ∧ (s.selfTest = some t → ∃ u, exec .selftestTimeLimit s = .next u ∧ u.selfTest = none ∧ u.reg (key 0x2500 7) = 0
        ∧ u.nvme.selfTests.head? = some [t.code, if t.segment = 0 then 0 else 7, t.segment, t.nsid])
    ∧ (s.selfTest = none → exec .selftestTimeLimit s = .next s)
    ∧ (s.stTest st = none → exec (.selftestIdleExpiry st) s = .next s)
    ∧ (s.stTest st = some y → y.running = [] → s.stIdle st = true → s.stState st < stMaint → y.loops ≠ [] →
        exec (.selftestIdleExpiry st) s = .next (s.startChecks st))
    ∧ (s.stTest st = some y → (y.running ≠ [] ∨ s.stIdle st = false ∨ stMaint ≤ s.stState st ∨ y.loops = []) →
        exec (.selftestIdleExpiry st) s = .next s.testAdvance)
    ∧ ((s.eng e).meas = none → exec (.measureLoopDone e) s = .next s)
    ∧ ((s.eng e).meas = some m → ended = none → exec (.measureLoopDone e) s = .next s)
    ∧ ((s.eng e).meas = some m → m.object = true → ended = some (.done n pm gm pc h) → exec (.measureLoopDone e) s
        = .next ((((drawn.measureStop e).setRaw (engKey e 0x0E 0x0B) h).endResult (engIx e 0x0E)
            [(5, m.loop), (6, n), (7, ofSigned 16 pm), (8, ofSigned 16 gm), (9, pc), (0x0A, m.points)] 0).loopFigures e m.loop n pm))
    ∧ ((s.eng e).meas = some m → m.object = true → ended = some (.failed b) → exec (.measureLoopDone e) s
        = .next ((drawn.measureStop e).endResult (engIx e 0x0E) [] (0x0F560000 + b)))

/-- In RUN, or in BOOT from phase 1, a reading of the reference resistor goes to REXT; one outside 19,000 to 21,000 sets REXT_FAULT with
record 0x0D03 and EMCY 0xFF52, one within clears it with the error reset; at other times it is discarded. With calibration enabled, the unit on and
its tokens free, a fit is judged: a plausible one is written into the unit's registers, clears its count and counts as accepted; an implausible one, below
the limit of successive rejections, counts as rejected with record 0x0D01 and leaves the values. A servo ADC's fit is discarded while its AFE token is
held. A visit of an RF ADC that the part does not have does nothing; the four DACs of a head and the twelve sense inputs of a station are judged in turn. -/
def Obligations.BackgroundCalibration : Prop :=
  ∀ (s : State) (v h a : Nat) (f g : CalFit) (there back : Nat) (vals : List CalFit),
    let up := s.powerState = psRun ∨ (s.powerState = psBoot ∧ 1 ≤ s.power.phase)
    let fits := fun (k : Nat) (w lo hi : Int) (step : Nat) => lo ≤ w ∧ w ≤ hi ∧ (w - s.regI 16 k).natAbs ≤ step
    let unit := key (0x2420 + h) (0x13 + a)
    let judged := fun (n : Nat) (one : State → Nat → State) => (List.range (min vals.length n)).foldl one s
    (up → (v < 19000 ∨ 21000 < v) → exec (.rextMeasure v) s
        = .next (((s.setReg (key 0x2400 1) v).setReg (key 0x2400 2) 1).post 0x0D03 0 (leBytes 2 v) (some ⟨0xFF52, true⟩)))
    ∧ (up → 19000 ≤ v → v ≤ 21000 → s.reg (key 0x2400 2) = 1 → exec (.rextMeasure v) s
        = .next (((s.setReg (key 0x2400 1) v).setReg (key 0x2400 2) 0).raiseEmcy 0 0 0 0 true))
    ∧ (up → 19000 ≤ v → v ≤ 21000 → s.reg (key 0x2400 2) ≠ 1 → exec (.rextMeasure v) s = .next (s.setReg (key 0x2400 1) v))
    ∧ (¬ up → exec (.rextMeasure v) s = .next s)
    ∧ (s.calOn 1 = true → s.afeOn h = true → s.tokenHolder h = none → a < 9 → s.reg unit < 128 →
        fits (key (0x2420 + h) (1 + a)) f.offset (-64) 64 4 → (29492 ≤ f.gain ∧ f.gain ≤ 36044
          ∧ ((f.gain : Int) - s.reg (key (0x2420 + h) (0x0A + a))).natAbs ≤ 163) →
        exec (.servoAdcCal h a f) s = .next ((s.setRegs [(key (0x2420 + h) (1 + a), ofSigned 16 f.offset),
          (key (0x2420 + h) (0x0A + a), ofSigned 16 f.gain), (unit, 0)]).bump (key 0x2400 8)))
    ∧ (s.calOn 1 = true → s.afeOn h = true → s.tokenHolder h = none → a < 9 → s.reg unit < 128 → s.reg unit % 16 + 1 < s.reg (key 0x2400 7) →
        ¬ fits (key (0x2420 + h) (1 + a)) f.offset (-64) 64 4 → exec (.servoAdcCal h a f) s
          = .next (((s.fresh.2.setReg unit (min (s.reg unit % 16 + 1) 15)).bump (key 0x2400 9)).note 0x0D01 (0x40 + h)
              (leBytes 1 2 ++ leBytes 1 h ++ leBytes 1 a ++ leBytes 1 (Config.freeValue s.fresh.1) ++ leBytes 4 (ofSigned 32 f.offset))))
    ∧ (s.calOn 1 = true → s.afeOn h = true → s.tokenHolder h = none → 128 ≤ s.reg unit → s.reg unit < 256 → exec (.servoAdcCal h a f) s = .next s)
    ∧ ((s.calOn 1 = false ∨ s.afeOn h = false ∨ s.tokenHolder h ≠ none) → exec (.servoAdcCal h a f) s = .next s)
    ∧ (a < s.beams → s.stationPresent (h / 2) = true → s.calOn 0 = true → s.afeOn h = true → s.channelOn h = true →
        exec (.rfCalVisit h a f g there back) s = .next (s.rfVisit h a f g there back))
    ∧ ((s.beams ≤ a ∨ s.stationPresent (h / 2) = false) → exec (.rfCalVisit h a f g there back) s = .next s)
    ∧ (a < s.beams → s.stationPresent (h / 2) = true → (s.calOn 0 = false ∨ s.afeOn h = false ∨ s.channelOn h = false) →
        exec (.rfCalVisit h a f g there back) s = .next (s.roundStep 1 h a [] true))
    ∧ (h < 16 → s.calOn 2 = true → s.afeOn h = true → s.calMay 2 h = true → s.cal.round = none →
        exec (.dacCal h vals) s = .next (judged 4 fun u k => (u.judgeDac h k (vals.getD k ⟨0, 0, 0⟩)).1).stepGrant)
    ∧ (s.calOn 2 = true → s.motorOn h = true → s.calMay 3 h = true → s.cal.round = none →
        exec (.dacCal (16 + h) vals) s = .next (judged 12 fun u k => (u.judgeSense h k (vals.getD k ⟨0, 0, 0⟩)).1).stepGrant)
    ∧ (s.calOn 2 = false → s.cal.round = none → exec (.dacCal h vals) s = .next s)

/-- The order WIRING_TEST of the station processor starts the test; a direct one, or a head's, is rejected; a sequencer that does not run it does
nothing. A part that holds its tokens, with its domain on in RUN, ends: every connection takes its judged status, or 10 with no measurement, the
tokens are released, and the last part ends the test; a part not waiting ends nothing. A new fault of a class A input takes its effect, its report, and
stops the station where the connection does; a fault it had, none, or a station OFF changes nothing. A grant gives the first request that can have
its tokens them. -/
def Obligations.WiringAndGrants : Prop :=
  ∀ (s : State) (st part n : Nat) (src snk afe : Int) (meas : List WireMeas) (w : Wiring) (r : TokenReq),
    let e := partHolder st part
    let kind := biasKind src snk afe
    let judged := ((s.setReg (connKey st 0 n) kind).wireEffect st 0 n kind).wireReport st 0 n kind (ofSigned 32 src)
    let seen := judged.forEach [2 * st, 2 * st + 1] State.wiringHead
    let base := if part = 0 then 32 else 0
    let conns := s.forEach (s.partConns part) fun u n => match meas[n - base]? with
      | some m => u.wireResult st (if part = 2 then 2 * st + 1 else 2 * st) n m
      | none => u.setReg (connKey st (if part = 2 then 2 * st + 1 else 2 * st) n) 10
    let freed := (conns.sledsStop st).dropTokens (.wiring e)
    let ended := ((if part = 0 then freed else freed.endTempWake (6 * st + part)).modStn st fun t =>
        { t with wiring := t.wiring.map fun w => { w with parts := clrBit w.parts part } }).forEach
          (if part = 0 then [2 * st, 2 * st + 1] else [if part = 2 then 2 * st + 1 else 2 * st]) State.wiringHead
    let turn := fun (u : State) (j : Nat) => if u.runs j 0x18 = true ∧ (u.sq j).started = 0 then
        match (u.sq j).running with
        | some o => if o.origin = .direct ∨ j < 16 then u.orderRejected j 1
            else if (u.stn st).wiring = none then u.wiringStart st (u.sq j).param else u
        | none => u
      else u
    let may := n ∈ [35, 36, 37, 38, 45, 48, 51, 52, 53, 54]
    exec (.wiringTest st) s = .next (turn (turn (turn s (2 * st)) (2 * st + 1)) (16 + st))
    ∧ ((s.stn st).wiring = none → exec (.wiringTestEnd st part meas) s = .next s)
    ∧ ((s.stn st).wiring = some w → (bitOf w.parts part = false ∨ s.holdsTokens (.wiring e) = false
        ∨ (part ≠ 0 ∧ s.domState (6 * st + part) ≠ 3) ∨ s.powerState ≠ psRun) → exec (.wiringTestEnd st part meas) s = .next s)
    ∧ ((s.stn st).wiring = some w → bitOf w.parts part = true → s.holdsTokens (.wiring e) = true →
        (part ≠ 0 → s.domState (6 * st + part) = 3) → s.powerState = psRun → exec (.wiringTestEnd st part meas) s
          = .next (match (ended.stn st).wiring with
            | some w => if w.parts = 0 then ended.wiringOver st 0 else ended
            | none => ended))
    ∧ (s.stState st ≠ stOff → may → isFaultKind kind = true → s.reg (connKey st 0 n) ≠ kind →
        exec (.senseCheck st n src snk afe) s = .next (if stationStops n = true ∨ (seen.sledFault (2 * st) = true
            ∧ seen.sledFault (2 * st + 1) = true) then seen.stnFault st 2 (connCode st 0 n kind) else seen))
    ∧ ((s.stState st = stOff ∨ ¬ may ∨ isFaultKind kind = false ∨ s.reg (connKey st 0 n) = kind) →
        exec (.senseCheck st n src snk afe) s = .next s)
    ∧ (s.nextGrant = some r → exec .tokenGrant s = .next (match r.act with
        | .bist k i => (s.grantReq r).bistGo k i
        | _ => s.grantReq r))
    ∧ (s.nextGrant = none → exec .tokenGrant s = .next s)

/-! ### The read channel, links, HBM, the Ledger and the signer (chapters 10, 11, 13, 15, 17 and 18) -/

/-- A handover that may be made moves the beam to or from the spare ADC and counts; one beyond ADC_RMS_LIMIT, while the head writes or a defect holds it,
counts as refused; another changes nothing. A resync block of a tracking head serves each of its lit beams and, on DAF, puts those in service in
H+0x14:04 and closes TLT and BLR again after a band. A sector start looks for its syncs, keeps the frame and, asked for, enters the pool; on Blu-ray Disc
only beam 0 of head U keeps frames. A free lane goes to the first sector in order. An attempt is good when its syndrome, iterations, CRC and PSA
are: it counts its rung and its bytes are delivered; a first pass that fails waits for the ring, or is lost in a verify or with retries off; a global that fails
goes on, or hands a run that stalled or is exhausted to the probes. The outer code releases a cluster with nothing lost or repairs at most two sectors. The
hunt ends at two sync marks the right distance apart. -/
def Obligations.ReadChannel : Prop :=
  ∀ (s : State) (h b rms nsid cl idx n k : Nat) (v ok : Bool) (snr : Int) (blocks : List BeamBlock) (det : List Int) (fr : Option FrameIn)
    (ask : Option SectorAsk) (f : FrameIn) (a : SectorAsk) (x : Sector) (out : DecodeOut),
    let spare := s.reg (chKey h 8 3)
    let deg := s.reg (chKey h 8 4)
    let may := b < s.beams ∧ (if v then spare = 0xFF ∧ bitOf deg 8 = false else spare = b ∧ bitOf deg b = false)
    let turned := s.substate h = hsWriting ∨ s.defectHold h = true ∨ s.reg (chKey h 8 2) < rms
    let took := (s.setReg (chKey h 8 3) (if v then b else 0xFF)).bump (chKey h 8 6)
    let bd := s.bdIn (h / 2)
    let lit := blocks.filter fun x => x.b < s.beams && bitOf (s.reg (hdKey h 0x16 0x13)) x.b && (!bd || (x.b == 0 && h % 2 == 0))
    let ref := s.blockRef h lit (s.hd h).aref
    let seen := (s.modHd h fun d => { d with aref := ref }).forEach lit fun u x => u.beamBlock h ref x
    let put := seen.setReg (hdKey h 0x14 4) (seen.inService h lit)
    let on := hsTracking ≤ s.substate h ∧ s.domState (6 * (h / 2) + 3 + h % 2) = 3
    let starts := hsTracking ≤ s.substate h ∧ b < s.beams
    let found := (s.sectorStart h b det).1
    let fl := (if found.reg (chKey h 0x1C (1 + b)) = s.reg (chKey h 0x1C (1 + b)) then 0 else 1)
      + (if found.reg (chKey h 0x1D (1 + b)) = s.reg (chKey h 0x1D (1 + b)) then 0 else 2) + (if bitOf (s.hd h).hunt b then 4 else 0)
    let kept := found.keepFrame h b fl fr
    let marked := if (kept.erasures h f).isEmpty then kept else kept.bump (chKey h 0x0B (1 + b))
    let readBack := if a.verify = true ∧ marked.reg (wrKey h 1) = 3 then marked.setReg (wrKey h 1) 4 else marked
    let xs := s.pool.filter fun x => x.nsid == nsid && x.cl == cl && !x.verify
    let lost := xs.filter fun x => x.stage == .lost
    let left := fun (u : State) => { u with pool := u.pool.filter fun x => !(x.nsid == nsid && x.cl == cl && !x.verify) }
    let good := fun (u : State) => (u.decoded x out.bytes).modSector nsid cl idx fun x => { x.succeed with data := out.bytes, errs := out.errs }
    let first := x.verdict x.innerFirst out
    let again := x.verdict x.innerRetry out
    (¬ may → exec (.adcHandover h b v rms) s = .next s)
    ∧ (may → turned → exec (.adcHandover h b v rms) s = .next (s.bump (chKey h 8 7)))
    ∧ (may → ¬ turned → exec (.adcHandover h b v rms) s
        = .next (if v = true ∧ bitOf deg b = true then took.setReg (chKey h 8 5) 1 else took))
    ∧ (on → exec (.resyncBlock h blocks) s = .next (if bd then seen
        else if (put.hd h).tiltBack = true ∧ put.substate h ≠ hsWriting then (put.closeTilt h).modHd h fun d => { d with tiltBack := false } else put))
    ∧ (¬ on → exec (.resyncBlock h blocks) s = .next s)
    ∧ (¬ starts → exec (.sectorStart h b det fr ask) s = .next s)
    ∧ (starts → bd = true → exec (.sectorStart h b det fr ask) s = .next (if b = 0 ∧ h % 2 = 0 then s.keepFrame h b 0 fr else s))
    ∧ (starts → bd = false → (ask = none ∨ fr = none) → exec (.sectorStart h b det fr ask) s = .next kept)
    ∧ (starts → bd = false → ask = some a → fr = some f → exec (.sectorStart h b det fr ask) s
        = .next (if nsStation a.nsid = h / 2 then readBack.enterPool h b a (s.sectorStart h b det).2 (-((readBack.hd h).align.getD b 0)) (bitOf (s.hd h).hunt b)
            else readBack))
    ∧ exec .ldpcLaneGrant s = .next s.laneGrant
    ∧ (s.pool = [x] → x.stage = .firstWait → x.verify = true → s.stillWanted x = true → s.freeSlice = some k →
        exec .ldpcLaneGrant s = .next { s with pool := [{ x with stage := .first, slice := some k }] })
    ∧ (∀ most, x.verdict most out = .ok ↔ (out.unsat = 0 ∧ out.iters ≤ most ∧ sectorOk out.bytes = true ∧ field out.bytes 0 4 = x.psa))
    ∧ (s.sector nsid cl idx = none → exec (.firstPassDone nsid cl idx snr out) s = .next s
        ∧ exec (.retryGlobalEnd nsid cl idx 0 out) s = .next s)
    ∧ (s.sector nsid cl idx = some x → x.stage ≠ .first → exec (.firstPassDone nsid cl idx snr out) s = .next s)
    ∧ (s.sector nsid cl idx = some x → x.stage = .first → s.stillWanted x = false →
        exec (.firstPassDone nsid cl idx snr out) s = .next (s.dropSector nsid cl idx))
    ∧ (s.sector nsid cl idx = some x → x.stage = .first → s.stillWanted x = true →
        (first = .ok → exec (.firstPassDone nsid cl idx snr out) s = .next (good (((s.countRung x 1).saveCoef x).quality x snr out true)))
        ∧ (first ≠ .ok → x.verify = false → x.enable = true → exec (.firstPassDone nsid cl idx snr out) s
            = .next ((s.countVerdict x first).modSector nsid cl idx fun y =>
              { y with stage := .ringWait, slice := none, since := (s.countVerdict x first).now, globals := 0, best := none, stall := 0 }))
        ∧ (first ≠ .ok → (x.verify = true ∨ x.enable = false) → exec (.firstPassDone nsid cl idx snr out) s
            = .next ((s.countVerdict x first).modSector nsid cl idx Sector.lose)))
    ∧ (s.sector nsid cl idx = some x → x.stage = .ring → s.stillWanted x = true →
        (again = .ok → exec (.retryGlobalEnd nsid cl idx 0 out) s = .next (good (s.countRung x 2)))
        ∧ (again ≠ .ok → (x.globalEnds out.unsat).2 = true → exec (.retryGlobalEnd nsid cl idx 0 out) s
            = .next ((s.countVerdict x again).modSector nsid cl idx fun _ => (x.globalEnds out.unsat).1.ringFailed (s.countVerdict x again).now))
        ∧ (again ≠ .ok → (x.globalEnds out.unsat).2 = false → (s.countVerdict x again).preempts = false → x.slice = none →
            exec (.retryGlobalEnd nsid cl idx 0 out) s = .next ((s.countVerdict x again).modSector nsid cl idx fun _ => (x.globalEnds out.unsat).1)))
    ∧ (s.sector nsid cl idx = some x → x.stage = .full → s.stillWanted x = true → again = .ok → exec (.retryGlobalEnd nsid cl idx x.off out) s
        = .next (good ((s.countRung x 3).bump (chKey x.h 0x1F (1 + x.b)))))
    ∧ (xs = [] → exec (.outerCodeRepair nsid cl ok) s = .next s)
    ∧ ((∀ i < 18, ∃ y ∈ xs, y.idx = i) → (∀ y ∈ xs, y.stage = .good) → exec (.outerCodeRepair nsid cl ok) s = .next (left s))
    ∧ ((∀ i < 18, ∃ y ∈ xs, y.idx = i) → (∀ y ∈ xs, y.stage = .good ∨ y.stage = .lost) → lost ≠ [] → lost.length ≤ 2 →
        exec (.outerCodeRepair nsid cl true) s = .next (left
          ((s.forEach (s.repaired xs lost) fun u p => (u.countRung p.1 4).decoded p.1 p.2).modOp nsid cl fun o => { o with outer := true })))
    ∧ (bitOf (s.hd h).hunt b = true → 41584 ≤ n + s.reg (stKey (h / 2) 0xC3 1) → n ≤ 41584 + s.reg (stKey (h / 2) 0xC3 1) →
        exec (.huntEnd h b n) s = .next ((s.setFly h b 0 0).modHd h fun d => { d with hunt := clrBit d.hunt b }))
    ∧ ((bitOf (s.hd h).hunt b = false ∨ n + s.reg (stKey (h / 2) 0xC3 1) < 41584 ∨ 41584 + s.reg (stKey (h / 2) 0xC3 1) < n) →
        exec (.huntEnd h b n) s = .next s)

/-- PCIe training within its limits, on lanes that are on with their reference, sets speed, width and LTSSM; a port's link sets its bit; eyes are
measured of lanes in service; under other conditions nothing changes. A scrub step with a free token finds planted errors, counts its correctable words, the SRAM
row corrected with it, and steps on; without one it waits. A waiting row is soft repaired: its record, its count and record 0x0902; the hard repairs run in
their window. An uncorrectable SRAM word takes its own effect; one in HBM outside RUN or BOOT changes nothing; one of STREAM marks its frame once;
one of command data fails the command; another counts for its region and its row, and in the Granary loses or poisons its block. Training that passes makes HBM
ready; one that fails is FAILED. -/
def Obligations.LinksAndHbm : Prop :=
  ∀ (s : State) (speed width p a n q : Nat) (up pass rd : Bool) (hs ws words : List Nat) (oks : List Bool) (x y : StackTraining)
    (sram : Option SramRow) (use : HbmUse),
    let row := rowOfAddr a
    let at_ := s.scrubAt pass
    let trains := 1 ≤ speed ∧ speed ≤ s.reg (key 0x4000 3) ∧ width ∈ [1, 2, 4, 8] ∧ width ≤ s.reg (key 0x4000 4) ∧ s.domState 74 = 3
      ∧ bitOf s.power.refLost 2 = false ∧ (width ≤ 4 ∨ s.domState 75 = 3) ∧ s.held = false
    let port := p < hostPorts (s.reg (key 0x4100 1)) ∧ ((s.domState 72 = 3 ∧ bitOf s.power.refLost 0 = false) ∨ up = false)
    let scrubs := s.hbmUp = true ∧ s.tokensFree [tokHbm (adStack at_) (adChannel at_)] = true
    let read := (s.stepGrant.findPlanted at_).forEach (words.filter (· < 8)).eraseDups fun u _ => (u.bumpRegion at_ 0).rowEvent (rowOfAddr at_)
    let soft := s.hbmUp = true ∧ row ∈ s.hbm.wants ∧ s.tokensFree [tokHbm (adStack a) (adChannel a)] = true
    let window := s.powerState = psRun ∧ s.hbmUp = true ∧ s.inHardWindow = true ∧ (∀ i < s.part.stations, s.stState i ≠ stReady ∧ s.stState i ≠ stActive)
    let idle := s.powerState = psBoot ∧ 2 ≤ s.power.phase ∧ s.power.bankOk = true ∧ s.power.hbmOk = false ∧ s.power.lowering = false ∧ s.held = false
    (trains → exec (.pcieLinkUp speed width) s
        = .next (s.setRegs [(key 0x4000 1, speed), (key 0x4000 2, width), (key 0x4000 7, Config.ltssmL0.toNat)]))
    ∧ (¬ trains → exec (.pcieLinkUp speed width) s = .next s)
    ∧ (port → exec (.ethernetLinkChange p up) s = .next (s.setRegBit (key 0x4100 2) p up))
    ∧ (¬ port → exec (.ethernetLinkChange p up) s = .next s)
    ∧ (s.powerState = psRun → exec (.eyeMeasure hs ws) s = .next (s.forEach (List.range 16) fun u m => u.setRegs
        [(key 0x2440 (1 + m), if u.laneServes m then min (hs.getD m 0) 65535 else 0),
          (key 0x2440 (0x11 + m), if u.laneServes m then min (ws.getD m 0) 65535 else 0)]))
    ∧ (s.powerState ≠ psRun → exec (.eyeMeasure hs ws) s = .next s)
    ∧ (scrubs → exec (.scrubStep pass words sram) s = .next ((match sram with | some r => read.sramEvent r | none => read).scrubNext pass at_))
    ∧ (¬ scrubs → exec (.scrubStep pass words sram) s = .next s)
    ∧ (soft → exec (.softRepair a) s
        = .next ((((s.stepGrant.mapRecord 1 row).modHbm fun h => { h with
            wants := h.wants.filter (· != row), events := h.events.filter fun e => e.1 != row }).bumpRegion row 3).note 0x0902 0x0A
              (rowPayload row)))
    ∧ (¬ soft → exec (.softRepair a) s = .next s)
    ∧ (window → exec (.hardRepairWindow oks) s = .next (s.hardRepairs (fun _ => true) oks))
    ∧ (¬ window → exec (.hardRepairWindow oks) s = .next s)
    ∧ (onDie use = true → exec (.hbmUncorrectableError a use) s = .next (s.sramLost use))
    ∧ (onDie use = false → (s.hbmUp = false ∨ s.regionOf a = none) → exec (.hbmUncorrectableError a use) s = .next s)
    ∧ (s.hbmUp = true → s.regionOf a = some 1 → (∃ f, s.ring[n]? = some f ∧ bitOf f.flags 5 = true) →
        exec (.hbmUncorrectableError a (.frame n)) s = .next s)
    ∧ (s.hbmUp = true → s.regionOf a = some 1 → (∀ f, s.ring[n]? = some f → bitOf f.flags 5 = false) →
        exec (.hbmUncorrectableError a (.frame n)) s = .next (let u := (s.bump (key 0x4601 7)).streamEvent row
          { u with ring := u.ring.modify n fun f => { f with flags := setBit f.flags 5 } }))
    ∧ (s.hbmUp = true → s.regionOf a = some 0 → exec (.hbmUncorrectableError a .plain) s
        = .next (((s.bump (key 0x4601 2)).rowEvent row).granaryHit a))
    ∧ (s.hbmUp = true → s.regionOf a = some n → 2 ≤ n → exec (.hbmUncorrectableError a .plain) s
        = .next ((s.bump (key 0x4601 (2 + 5 * n))).rowEvent row))
    ∧ (s.hbmUp = true → s.regionOf a = some 2 → exec (.hbmUncorrectableError a (.command q rd)) s
        = .next (((s.bump (key 0x4601 12)).rowEvent row).failCtx q fun x => x.lostStatus rd))
    ∧ (idle → x.fail = none → y.fail = none → s.hbm.map = [] → exec (.hbmTraining x y) s
        = .next (((s.setRegs [(key 0x4600 9, min x.lanes 255 + 256 * min y.lanes 255), (key 0x4601 0x24, 0), (key 0x4601 0x25, 0)]).modPower
            fun p => { p with hbmOk := true }).updAll))
    ∧ (idle → x.fail = some n → exec (.hbmTraining x y) s
        = .next ((((s.post 0x0905 0x0A (leBytes 1 0 ++ leBytes 1 n) (some ⟨0x5000, false⟩)).setPower psFailed).lowerRails .failed).updAll))
    ∧ (idle → x.fail = none → y.fail = some n → exec (.hbmTraining x y) s
        = .next ((((s.post 0x0905 0x0A (leBytes 1 1 ++ leBytes 1 n) (some ⟨0x5000, false⟩)).setPower psFailed).lowerRails .failed).updAll))
    ∧ (¬ idle → exec (.hbmTraining x y) s = .next s)

/-- A block's record of a defined code is posted, with the EMCY its chapter states; another changes nothing. A flush starts when one is due or its
interval has passed, and ends; a bad sector moves the write point to the next good one, which is erased with the one after it. A clear erases its
sectors one at a time, keeping what came after it, and shows its progress. A signed quote goes to its object with its length, or to the command that
asked, if that still stands, which completes; with no request, or the domain gated, nothing is signed. A quote command waits for the signer, or fails with
0x0F5E_0006 in a state before FIELD or with no valid identity. The end of an authorisation closes it, and the end of a lock-out clears the failures. -/
def Obligations.LedgerAndQuotes : Prop :=
  ∀ (s : State) (code src c cid n q : Nat) (b nonce : List Byte) (rest : List Nat) (x : Ctx) (k : Ctrl) (j : QuoteJob) (js : List QuoteJob) (bad : Bool),
    let due := s.reg (key 0x2200 4) ≤ s.ledger.unflushed ∨ ∃ r ∈ s.ledger.sram, s.ledger.flushed < r.seq ∧ 3 ≤ r.severity
    let late := s.ledger.lastFlush + s.reg (key 0x2200 5) * 1000000 ≤ s.now
    let erased := { s with ledger := { s.ledger with
      clearing := rest
      nor := s.ledger.nor.modify n fun x => { x with frames := x.frames.filter fun f => s.ledger.floor ≤ f.recd.seq } } }
    let signed := { s with sec := { s.sec with signer := js } }.signQuote j.nonce
    let next_ := s.ledger.nextGood s.ledger.norSector 256
    (codeDefined code = true → exec (.ledgerPost code src b) s = .next (s.post code src b (codeEmcy code b)))
    ∧ (codeDefined code = false → exec (.ledgerPost code src b) s = .next s)
    ∧ (due → exec .ledgerFlush s = .next s.startFlush) ∧ (¬ due → exec .ledgerFlush s = .next s)
    ∧ (late → exec .flushIntervalExpiry s = .next s.startFlush) ∧ (¬ late → exec .flushIntervalExpiry s = .next s)
    ∧ (s.ledger.flushTo ≠ none → exec (.ledgerFlushDone false) s = .next s.flushDone)
    ∧ (s.ledger.flushTo ≠ none → exec (.ledgerFlushDone true) s = .next (({ s with ledger := { s.ledger with
        norSector := next_
        nor := (s.ledger.nor.modify next_ fun x => { x with frames := [] }).modify ((next_ + 1) % 256) fun x => { x with frames := [] } } }).sectorFailed
          s.ledger.norSector).flushDone)
    ∧ (s.ledger.flushTo = none → exec (.ledgerFlushDone bad) s = .next s)
    ∧ (s.ledger.clearing = n :: rest → exec .clearEraseStep s = .next (erased.setReg (key 0x2200 0x0E)
        (100 * (s.ledger.clearTotal - rest.length) / max 1 s.ledger.clearTotal)).ledgerView)
    ∧ (s.ledger.clearing = [] → exec .clearEraseStep s = .next s)
    ∧ (s.sec.signer = j :: js → s.domState 94 = 3 →
        (j.ask = none → exec .quoteSigned s = .next ((signed.2.setRaw (key 0x5011 6) signed.1).endResult 0x5011 [(5, signed.1.length)] 0))
        ∧ (j.ask = some q → signed.2.ctx q = some x → exec .quoteSigned s = .next (((if x.dropped = true then signed.2
            else signed.2.emit (.bytes x.ctrl x.sq x.cid signed.1)).complete q (cplOk signed.1.length 0)).settle))
        ∧ (j.ask = some q → signed.2.ctx q = none → exec .quoteSigned s = .next signed.2))
    ∧ ((s.sec.signer = [] ∨ s.domState 94 ≠ 3) → exec .quoteSigned s = .next s)
    ∧ (s.adminTurn c cid x k → s.lcOwned = true → s.identityValid = true → exec (.attestationQuote c cid nonce) s
        = .next ((s.modCtx x.seq fun y => { y with op := .quote }).askQuote ⟨nonce, some x.seq⟩))
    ∧ (s.adminTurn c cid x k → (s.lcOwned = false ∨ s.identityValid = false) → exec (.attestationQuote c cid nonce) s
        = .next (s.complete x.seq ⟨.code 1 0xC2, true, 0x0F5E0006, 0⟩))
    ∧ (s.sec.openUntil ≠ none → exec .authDurationExpiry s = .next s.authClose)
    ∧ (s.sec.openUntil = none → exec .authDurationExpiry s = .next s)
    ∧ (s.sec.lockUntil ≠ none → exec .authLockoutExpiry s
        = .next { s with sec := { s.sec with lockUntil := none, failures := 0 } })
    ∧ (s.sec.lockUntil = none → exec .authLockoutExpiry s = .next s)

/-! ### Heads, loops and motion (chapters 6 to 8) -/

/-- FOCUS_ON where it may begin lights beam 0, sends the layer's aberration word and searches; else it is REJECTED. Its forward pass counts the layers and
turns back, or fails for too few; a pass without a close is tried again up to its limit; a crossing of the layer closes FOC; a reversed axis is refused; a quiet window
confirms and enters FOCUSED. TRACK_ON from FOCUSED opens TRK, measures TE and kicks, and closes at a valid crossing. FOLLOW from TRACKING reads; a close puts TRK on
the spiral read, and an address read after s0 of a read-back jumps back again. A layer jump opens the loops and kicks toward its layer, or is at it; a track jump kicks TRK; each closes at its crossing, settles and ends; from any
other substate it is REJECTED. PARK drops the head. CALIBRATE_LOOP injects in a closed loop; held, it ends 0x0F57_0003, with too large a residual 0x0F57_0001. A
time-out fails the order that runs; a late layer step begins the search. What does not apply changes nothing. -/
def Obligations.HeadOrders : Prop :=
  ∀ (s : State) (h : Nat) (fe : FocusEvent) (te : TrackEvent) (le : LayerEvent) (je : JumpEvent) (ce : CalEvent) (ge : FollowEvent) (r : PilotRead)
    (c : CalRun) (fit : List Int × Nat),
    let x := s.sq h
    let sub := s.substate h
    let d := s.hd h
    let k := x.param % 16
    let n := toSigned 16 x.param
    let begun := fun (t : State) m => t.modSq h fun q => { q with started := m }
    let searching := s.loopState h 0 = lsSearch
    let ended := searching ∧ (s.lp h 0).ramp = none
    let counted := (s.setReg (hdKey h 0x11 0x0B) d.scan.counted).setRegBit (hdKey h 0x0F 2) 0 false
    let back := (counted.modLp h 0 fun p => { p with
        ramp := some (counted.regI 32 (hdKey h 0x11 2), counted.regI 32 (hdKey h 0x11 1), 0, 4 * 2400 * counted.reg (hdKey h 0x11 3)) }).modHd h fun d =>
      { d with scan := { Scan.init with back := true, goal := k } }
    let quiet := s.aged h 0 (s.reg (hdKey h 0x11 7)) = true ∧ d.sense.confOk = true
    let crossing := s.loopState h 1 = lsOpen ∧ s.validCrossing h = true
    let on := ((((((s.loopClose h 1).setRegBit (hdKey h 0x0F 2) 1 false).tiltOpen h).lightBeams h).enterTracking h)).orderDone h 0
    let jumps := sub = hsFocused ∨ sub = hsTracking ∨ sub = hsFollowing
    let tracks := sub = hsTracking ∨ sub = hsFollowing
    let left := ((begun s 1).modHd h fun d => { d with atLayer := s.reg (hdKey h 0x13 1), tries := 0 })
    let open_ := ((left.openAtDrive h (1 :: left.tiltLoops h)).sendSa h k).enterTracking h
    let settled := s.aged h 1 (s.reg (hdKey h 0x12 9)) = true
    let target := s.modHd h fun d => { d with jumpTarget := ((s.reg (hdKey h 0x13 2) : Int) + n).toNat }
    let fresh := s.modHd h fun d => { d with corrected := false, signRead := false }
    let busy := s.beginResult (hdIx h 0x1E)
    let search := fun m => .next ((begun (s.modHd h fun d => { d with kickF := none, tries := 0 }) m).searchRamp h |>.setSubstate h hsSearch)
    (s.runs h 1 = true → x.started = 0 →
        (s.focusOk h = false → exec (.focusOn h fe) s = .next (s.orderRejected h 1))
        ∧ (s.focusOk h = true → s.noGain h 4 = true → exec (.focusOn h fe) s = .next (s.orderRejected h 4))
        ∧ (s.focusOk h = true → s.noGain h 4 = false → exec (.focusOn h fe) s
            = .next ((((((begun s 1).modHd h fun d => { d with tries := 0 }).setRegBit (hdKey h 0x16 0x14) 0 false).laserOn h 0).sendSa h k).searchRamp h
                |>.setSubstate h hsSearch)))
    ∧ (s.runs h 1 = true → x.started ≠ 0 →
        (searching → d.scan.reversed = true → exec (.focusOn h .reversed) s = .next (s.polarityRefused h 0))
        ∧ (ended → d.scan.back = false → d.scan.counted ≤ k → exec (.focusOn h .forward) s = .next (counted.focusFail h 0x0F570012))
        ∧ (ended → d.scan.back = false → k < d.scan.counted → exec (.focusOn h .forward) s = .next back)
        ∧ (ended → d.scan.back = true → s.reg (hdKey h 0x11 4) ≤ d.tries → exec (.focusOn h .passEnd) s = .next (s.focusFail h 0x0F570010))
        ∧ (ended → d.scan.back = true → d.tries < s.reg (hdKey h 0x11 4) → exec (.focusOn h .passEnd) s
            = .next ((s.modHd h fun d => { d with tries := d.tries + 1 }).searchRamp h))
        ∧ (searching → d.scan.cross = true → exec (.focusOn h .closed) s
            = .next (if s.noGain h 0 = true then s.focusUnclosed h else s.focusClose h d.scan.slope))
        ∧ (quiet → exec (.focusOn h .confirmed) s = .next (((s.setSubstate h hsFocused).setReg (hdKey h 0x13 1) k).focusDone h k))
        ∧ (¬ searching → exec (.focusOn h .reversed) s = .next s ∧ exec (.focusOn h .closed) s = .next s ∧ exec (.focusOn h .forward) s = .next s
            ∧ exec (.focusOn h .passEnd) s = .next s)
        ∧ (¬ quiet → exec (.focusOn h .confirmed) s = .next s))
    ∧ (s.runs h 1 = false → exec (.focusOn h fe) s = .next s)
    ∧ (s.runs h 2 = true → x.started = 0 → sub = hsFocused → exec (.trackOn h te) s
        = .next (begun ((s.loopOpen h 1).modHd h fun d => { d with sense := { d.sense with tePeak := 0, chk := 0 } }) 1))
    ∧ (s.runs h 2 = true → x.started = 0 → sub ≠ hsFocused → exec (.trackOn h te) s = .next (s.orderRejected h 1))
    ∧ (s.runs h 2 = true → x.started ≠ 0 →
        (d.sense.chk = 0 → s.loopState h 1 = lsOpen → s.reg (hdKey h 0x11 0x0A) * 65536 ≤ (s.lp h 1).turn → exec (.trackOn h .measured) s
          = .next (((s.modHd h fun x => { x with sense := { x.sense with chk := 1, chkN := 0, chkTe := (s.lp h 1).e1, chkDrive := s.drive h 1 } }).setReg
              (hdKey h 0x10 6) d.sense.tePeak.toNat).setRegI 32 (loopKey h 1 3) (sat24 (s.drive h 1 + s.reg (hdKey h 0x12 6)))))
        ∧ (d.sense.chk = 3 → exec (.trackOn h .reversed) s = .next (s.polarityRefused h 1))
        ∧ (d.sense.chk = 2 → crossing → s.noGain h 1 = true → exec (.trackOn h .closed) s = .next (s.orderRejected h 4))
        ∧ (d.sense.chk = 2 → crossing → s.noGain h 1 = false → exec (.trackOn h .closed) s
            = .next (if (on.hd h).recovery = 1 then on.offerOrder h ⟨5, 0, 0, .trapret⟩ else on))
        ∧ (¬ crossing → exec (.trackOn h .closed) s = .next s))
    ∧ (s.runs h 2 = false → exec (.trackOn h te) s = .next s)
    ∧ (s.runs h 5 = true → x.started = 0 → d.recovery ≠ 2 → ¬ tracks → exec (.follow h .closed) s = .next (fresh.orderRejected h 1))
    ∧ (s.runs h 5 = true → x.started = 0 → d.recovery ≠ 2 → tracks → exec (.follow h .closed) s = .next (begun fresh 1))
    ∧ (s.runs h 5 = true → x.started = 1 → let u := s.followRead h r
        exec (.follow h (.read r)) s = .next (if u.substate h = hsFollowing ∧ u.runs h 5 = false ∧ u.reg (wrKey h 1) = 3
          ∧ u.reg (wrKey h 3) % 2 ^ 26 < r.addr % 2 ^ 26 then (u.bump (wrKey h 0x13)).jumpBack h 8 else u))
    ∧ (s.runs h 5 = true → x.started = 2 → s.loopState h 0 = lsClosed → crossing → s.noGain h 1 = false → exec (.follow h .closed) s
        = .next (begun ((s.loopClose h 1).enterTracking h) 1))
    ∧ (s.runs h 5 = true → x.started = 4 → settled → exec (.follow h .settled) s = .next (begun s 1))
    ∧ (s.runs h 5 = false → exec (.follow h ge) s = .next s)
    ∧ (s.runs h 3 = true → x.started = 0 → jumps → exec (.layerJump h le) s = .next (if (open_.hd h).atLayer = k then open_.setSubstate h hsFocused
          else open_.layerKick h k))
    ∧ (s.runs h 3 = true → x.started = 0 → ¬ jumps → exec (.layerJump h le) s = .next (s.orderRejected h 1))
    ∧ (s.runs h 3 = true → x.started = 1 → sub = hsFocused → s.reg (hdKey h 0x15 0x0C) = 0 → crossing → s.noGain h 1 = false →
        exec (.layerJump h .trkClosed) s = .next (begun ((s.loopClose h 1).enterTracking h) 2))
    ∧ (s.runs h 3 = true → x.started = 1 → sub ≠ hsFocused → exec (.layerJump h .stepClosed) s
        = .next (s.layerSteps h k .stepClosed fun s => s.setSubstate h hsFocused))
    ∧ (s.runs h 3 = true → x.started = 2 → settled → exec (.layerJump h .settled) s = .next ((s.closeTilt h).orderDone h k))
    ∧ (s.runs h 3 = false → exec (.layerJump h le) s = .next s)
    ∧ (s.runs h 4 = true → x.started = 0 → tracks → n ≠ 0 → n.natAbs ≤ s.reg (hdKey h 0x12 8) →
        exec (.trackJump h je) s = .next (begun ((target.trackKick h n).enterTracking h) 1))
    ∧ (s.runs h 4 = true → x.started = 0 → (¬ tracks ∨ n = 0 ∨ s.reg (hdKey h 0x12 8) < n.natAbs) → exec (.trackJump h je) s = .next (s.orderRejected h 1))
    ∧ (s.runs h 4 = true → x.started = 1 → s.jumpCrossing h = true → s.noGain h 1 = false → exec (.trackJump h .closed) s
        = .next (begun (s.jumpClose h n) 2))
    ∧ (s.runs h 4 = true → x.started = 2 → settled → exec (.trackJump h .settled) s = .next ((s.setSubstate h hsTracking).orderDone h 0))
    ∧ (s.runs h 4 = false → exec (.trackJump h je) s = .next s)
    ∧ (s.runs h 6 = true → x.frame = none → x.traps = [] → s.dispatch h = s →
        exec (.park h) s = .next ((s.headDrop h).orderDone h 0))
    ∧ (s.runs h 0x0A = true → x.started = 0 →
        ((3 < k ∨ ¬ tracks) → exec (.calibrateLoop h ce) s = .next (s.orderRejected h 1))
        ∧ (k ≤ 3 → tracks → (busy.eng h).inj ≠ .free → exec (.calibrateLoop h ce) s
            = .next ((busy.endResult (hdIx h 0x1E) [] 0x0F570004).orderFailed h 0x0F570004))
        ∧ (k ≤ 3 → tracks → (busy.eng h).inj = .free → busy.loopState h k ≠ lsClosed → exec (.calibrateLoop h ce) s
            = .next ((busy.endResult (hdIx h 0x1E) [] 0x0F570005).orderFailed h 0x0F570005))
        ∧ (k ≤ 3 → tracks → (busy.eng h).inj = .free → busy.loopState h k = lsClosed → exec (.calibrateLoop h ce) s
            = .next (begun (busy.modEng h fun g => { g with inj := .cal k, injN := 0, calRun := some ⟨k, 0, [0, 0], [0, 0], [], false⟩ }) 1)))
    ∧ (s.runs h 0x0A = true → x.started ≠ 0 → (s.eng h).calRun = some c →
        (c.held = true → exec (.calibrateLoop h .ended) s = .next (s.calEnd h 0x0F570003 []))
        ∧ (c.held = false → c.n < s.reg (hdKey h 0x19 8) → exec (.calibrateLoop h .ended) s = .next s)
        ∧ (c.held = false → s.reg (hdKey h 0x19 8) ≤ c.n → fitModel c.sums = some fit → s.reg (hdKey h 0x19 9) < fit.2 →
            exec (.calibrateLoop h .ended) s = .next (s.calEnd h 0x0F570001 [])))
    ∧ (s.runs h 0x0A = false → exec (.calibrateLoop h ce) s = .next s)
    ∧ exec (.saSettled h) s = .next (s.setReg (hdKey h 0x15 0x0C) 0)
    ∧ (s.reg (hdKey h 0x15 0x0C) = 1 → let late := s.setReg (hdKey h 0x15 0x0C) 2
        exec (.saSettleTimeout h) s = .next (if late.runs h 1 = true then late.focusFail h 0x0F570014
          else if late.runs h 3 = true then late.headFail h 0x0F570014 else late))
    ∧ (s.reg (hdKey h 0x15 0x0C) ≠ 1 → exec (.saSettleTimeout h) s = .next s)
    ∧ (s.runs h 5 = true → exec (.addressTimeout h) s = .next (s.followFail h 0x0F570015))
    ∧ (s.runs h 5 = false → exec (.addressTimeout h) s = .next s)
    ∧ (((s.runs h 2 = true ∧ x.started = 1) ∨ (s.runs h 3 = true ∧ x.started = 1 ∧ sub = hsFocused)) →
        exec (.trkCaptureTimeout h) s = .next (s.headFail h 0x0F570017))
    ∧ (¬ ((s.runs h 2 = true ∧ x.started = 1) ∨ (s.runs h 3 = true ∧ x.started = 1 ∧ sub = hsFocused)) → exec (.trkCaptureTimeout h) s = .next s)
    ∧ (d.kickF ≠ none → s.runs h 3 = true → x.started = 1 → exec (.layerTimeout h) s = search 3)
    ∧ (d.kickF ≠ none → s.runs h 3 = false → s.runs h 7 = true → x.started = 2 → exec (.layerTimeout h) s = search 5)
    ∧ ((d.kickF = none ∨ (s.runs h 3 = false ∧ s.runs h 7 = false)) → exec (.layerTimeout h) s = .next s)

/-- An overpower of a lit beam, after four samples beyond OVERPOWER, switches it off, puts it in BEAMS_OUT and traps; of beam 0 a focus recovery follows, or the
head fault at the second. A PKL lost for four samples drops the head and fails its order; it retrains, and the third failure is a head fault, while a good one brings the
link back and re-acquires a head of a spinning station. A write guard that is enabled and that a sample is beyond closes every gate of a writing head, counts, traps and
posts 0x0404. Beyond BEAM_OT_LIMIT a beam's gate is held closed, within it no longer; a beam the part lacks does nothing, and none is decided while the head writes.
A recovery that stands confirmed is over. -/
def Obligations.HeadProtections : Prop :=
  ∀ (s : State) (h b guard : Nat) (ok : Bool) (o : Int),
    let off := ((s.laserOff h b).setRegBit (hdKey h 0x16 0x14) b true).raiseTrap h trapOverpower (2 ^ (4 + b)) b
    let lit := bitOf (s.reg (hdKey h 0x16 0x13)) b = true ∧ 4 ≤ (s.lp h (4 + b)).hot
    let lost := (s.hd h).pklUp = true ∧ 4 ≤ (s.hd h).sense.noFrame
    let back := (s.modHd h fun d => { d with pklUp := true, identity := true, lost := false, retrains := 0 }).bump (hdKey h 0x19 5)
    let stops := s.substate h = hsWriting ∧ bitOf (s.reg (hdKey h 0x18 6)) guard = true ∧ bitOf (s.hd h).sense.beyond guard = true
      ∧ ¬ (guard = 2 ∧ s.shockOut (h / 2) = true)
    let est := s.setRegI 16 (hdKey h 0x14 (6 + b)) o
    let mark := fun (t : State) v => t.modHd h fun d => { d with gates := d.gates.modify b fun g => { g with offTrack := v } }
    (lit → b ≠ 0 → exec (.overpower h b) s = .next off)
    ∧ (lit → b = 0 → exec (.overpower h b) s = .next (if (off.hd h).over0 then off.setHeadFault h 1
        else (off.focusRecovery h).modHd h fun d => { d with over0 := true }))
    ∧ (¬ lit → exec (.overpower h b) s = .next s)
    ∧ (lost → exec (.pklLoss h) s = .next ((((s.headDrop h).modHd h fun d =>
        { d with pklUp := false, lost := true, retrains := 0 }).raiseTrap h trapPklLoss 0 0).headFail h 0x0F570016))
    ∧ (¬ lost → exec (.pklLoss h) s = .next s)
    ∧ ((s.hd h).lost = true → (s.hd h).retrains < 2 → exec (.pklRetrain h false) s
        = .next (s.modHd h fun d => { d with retrains := d.retrains + 1 }))
    ∧ ((s.hd h).lost = true → 2 ≤ (s.hd h).retrains → exec (.pklRetrain h false) s
        = .next (((s.modHd h fun d => { d with lost := false, retrains := 0 }).bump (hdKey h 0x19 5)).setHeadFault h 2))
    ∧ ((s.hd h).lost = true → exec (.pklRetrain h true) s
        = .next (if stSpinning ≤ back.stState (h / 2) ∧ back.stState (h / 2) ≤ stActive then back.reacquire h else back))
    ∧ ((s.hd h).lost = false → exec (.pklRetrain h ok) s = .next s)
    ∧ (stops → exec (.writeGuardInhibit h guard) s
        = .next ((((((s.closeGates h).modHd h fun d => { d with sense := { d.sense with beyond := 0 } }).bump (hdKey h 0x18 (7 + guard))).raiseTrap h
          (if guard = 2 then trapShock else trapGuard) (if guard = 1 then 1 else 2) guard)).note 0x0404 (engSource h) (leBytes 1 guard ++ leBytes 1 0)))
    ∧ (¬ stops → exec (.writeGuardInhibit h guard) s = .next s)
    ∧ (s.beams ≤ b → exec (.beamOfftrack h b o) s = .next s)
    ∧ (b < s.beams → est.substate h = hsWriting → exec (.beamOfftrack h b o) s = .next est)
    ∧ (b < s.beams → est.substate h ≠ hsWriting → est.reg (hdKey h 0x14 5) < o.natAbs → exec (.beamOfftrack h b o) s
        = .next ((((mark est true).bump (hdKey h 0x18 0x0A)).raiseTrap h trapGuard 2 3).note 0x0404 (engSource h)
            (leBytes 1 3 ++ leBytes 1 b)))
    ∧ (b < s.beams → est.substate h ≠ hsWriting → o.natAbs ≤ est.reg (hdKey h 0x14 5) → exec (.beamOfftrack h b o) s = .next (mark est false))
    ∧ ((s.hd h).confirm = true → exec (.recoveryConfirmExpiry h) s = .next ((s.modHd h fun d =>
        { d with recovery := 0, confirm := false, trkFails := 0, over0 := false }).setReg (hdKey h 0x19 4) 0))
    ∧ ((s.hd h).confirm = false → exec (.recoveryConfirmExpiry h) s = .next s)

/-- A sample of a present loop brings its readings, forms its error input, does what the head does with it and is computed; SPD's goes to the bridge; an absent loop takes
none. DEF_COUNT samples outside the band set cause DEFECT on TRK and FOC, count and trap; DEF_RELEASE samples inside clear the cause, note the span and keep the longest. A
residual over its run holds a closed loop, a return over its run clears the cause. The end of a variance window is judged. A hold that outlasts its window ends in the loop's
own way. A LATHE hold past COEF_HOLD is cleared with a trap and record 0x0403. A bin of the table is updated; an armed capture triggers when its condition has come, is read
out with its settings when it holds 16,384 samples, or ends 0x0F56_0006. What does not apply changes nothing. -/
def Obligations.LoopCommands : Prop :=
  ∀ (s : State) (e l h n : Nat) (det : List Int) (u : Int) (ang : Nat),
    let p := s.lp e l
    let g := s.eng e
    let d := (s.hd h).sense
    let sensed := if e < 16 then s.senseSample e l det else s
    let err := sensed.errorInput e l det
    let led := if e < 16 then sensed.headSample e l err else sensed
    let sampled := led.loopSample e l err u ang
    let sets := d.defect = false ∧ s.reg (hdKey h 0x17 3) ≤ d.defOut
    let found := s.modHd h fun x => { x with sense := { x.sense with defect := true, defAt := s.sampleCount } }
    let clears := d.defect = true ∧ s.reg (hdKey h 0x17 4) ≤ d.defIn
    let cleared := (s.clearCause h 0 hcDefect).clearCause h 1 hcDefect
    let spans := d.spans ++ [(d.defAt, cleared.sampleCount)]
    let ended := cleared.modHd h fun x => { x with sense := { x.sense with defect := false, spans := spans.drop (spans.length - 16) } }
    let residual := s.loopState e l = lsClosed ∧ bitOf (s.reg (supKey e l 1)) 0 = true ∧ s.reg (supKey e l 3) ≤ p.resRun
    let expires := p.window = true ∧ s.loopState e l = lsHold
    let overrun := bitOf (s.holdCause e l) hcLathe = true ∧ s.reg (engKey e 7 0x3D) ≤ p.lathe
    let triggers := g.cap = .armed ∧ (g.capSet.trigger = 0 ∨ g.capEvent = true)
    let fills := g.cap = .triggered ∧ 16384 ≤ g.capBuf.length
    let full := (s.setRaw (engKey e 0x0D 0) (capBytes g.capBuf)).modEng e fun g => { g with cap := .idle }
    (s.loopPresent e l = true → exec (.loopSample e l det u ang) s
        = .next (if 16 ≤ e ∧ l = 0 then sampled.emitBridge (e - 16) ang else sampled))
    ∧ (s.loopPresent e l = false → exec (.loopSample e l det u ang) s = .next s)
    ∧ (sets → exec (.defectSet h) s = .next ((((found.setCause h 1 hcDefect).setCause h 0 hcDefect).bump (hdKey h 0x17 6)).raiseTrap h trapDefect 3
        hcDefect))
    ∧ (¬ sets → exec (.defectSet h) s = .next s)
    ∧ (clears → exec (.defectClear h) s = .next (ended.setReg (hdKey h 0x17 7)
        (max (ended.reg (hdKey h 0x17 7)) (min ((ended.sampleCount - d.defAt) / 1200) (2 ^ 32 - 1)))))
    ∧ (¬ clears → exec (.defectClear h) s = .next s)
    ∧ (residual → exec (.residualHold e l) s = .next (s.superviseHold e l hcResidual))
    ∧ (¬ residual → exec (.residualHold e l) s = .next s)
    ∧ (s.reg (supKey e l 7) ≤ p.retRun → exec (.residualClear e l) s = .next (s.clearCause e l hcResidual))
    ∧ (p.retRun < s.reg (supKey e l 7) → exec (.residualClear e l) s = .next s)
    ∧ exec (.varianceWindowEnd e l) s = .next (s.windowEnd e l)
    ∧ (expires → exec (.holdExpired e l) s
        = .next (if e < 16 then (s.windowExpired e l).headExpired e l
          else if l = 0 then (s.windowExpired e l).spdExpired (e - 16) else (s.windowExpired e l).sledExpired (2 * (e - 16) + (l - 1))))
    ∧ (¬ expires → exec (.holdExpired e l) s = .next s)
    ∧ (overrun → exec (.coefHoldOverrun e l) s
        = .next ((((s.clearCause e l hcLathe).modLp e l fun p => { p with lathe := 0, overrun := true }).raiseTrap (trapSeq e l) trapCoefOverrun (2 ^ l)
            0).note 0x0403 (engSource e) (leBytes 1 l)))
    ∧ (¬ overrun → exec (.coefHoldOverrun e l) s = .next s)
    ∧ exec (.ffBinUpdate h l n) s = .next (s.ffBinEnd h l n)
    ∧ (triggers → exec (.captureTrigger e) s = .next (s.modEng e fun g => { g with cap := .triggered, capAt := s.sampleCount }))
    ∧ (¬ triggers → exec (.captureTrigger e) s = .next s)
    ∧ (g.cap = .armed → exec (.captureTimeout e) s
        = .next ((s.modEng e fun g => { g with cap := .idle }).endResult (engIx e 0x0C) [] 0x0F560006))
    ∧ (g.cap ≠ .armed → exec (.captureTimeout e) s = .next s)
    ∧ (fills → exec (.captureDone e) s = .next (full.endResult (engIx e 0x0C) [(5, g.capAt), (6, g.capSet.tapB * 256 + g.capSet.tapA),
        (7, g.capSet.loop), (8, g.capSet.decim)] 0))
    ∧ (¬ fills → exec (.captureDone e) s = .next s)

/-- SPIN_UP, after the end of the station's BIST, freewheels to measure with the clamp closed, else is REJECTED; learned codes that form a Hall sequence become the map and the
start from rest follows. The measured speed at rest or below target needs power, above it is caught, without a map waits, and backward is braked. SPIN_DOWN with
both heads in LASER_OFF frees the slot, parks the sleds and brakes; the brake's end stops the spindle and ends it. SET_SPEED of 600 to 7,200 rpm on a turning
Blu-ray Disc sets TARGET_RPM. A tick moves the loop. At speed the slot is freed, a CLAMPED station is SPINNING and the order ends; too late, the spin-up fails with cause 7. Edges are
taken; a missed one of a locked observer is a loss. A coast or a VBUS that lasts too long is a FAULT; above VBUS_HI BRK is on. A locked rotor freewheels, or is cause 3 after its
retries. What does not apply changes nothing. -/
def Obligations.SpindleCommands : Prop :=
  ∀ (s : State) (i mv amps code stamp : Nat) (fwd valid : Bool) (codes : List Nat) (ev : SpinEvent),
    let e := 16 + i
    let x := s.sq e
    let t := s.stn i
    let f := s.bistLeave i
    let begun := fun (u : State) => u.modSq e fun q => { q with started := 1 }
    let map := (((s.setReg (stKey i 0x13 5) (hallMapOf codes)).note 0x0508 (0x30 + i) (leBytes 4 (hallMapOf codes))).setReg (stKey i 0x10 8)
      (codes.getD 5 0)).startRest i
    let n := if t.crossings < 2 ∧ t.measCount = 0 then 0 else s.measuredSpeed i
    let m := s.setRegI 32 (stKey i 0x10 2) n
    let goal := m.target i * 100
    let v := ((((begun s).freeSlot i).modStn i fun t => { t with spinPhase := 0, retarget := false, lrWait := false }).sledParkNow
      (2 * i)).sledParkNow (2 * i + 1)
    let still := ((s.freewheel i).setSpin i 0).setRegs [(stKey i 0x10 2, 0), (stKey i 0x10 4, 0)]
    let rest := still.modStn i fun t => { t with down := 0 }
    let bd := 3 ≤ s.spinState i ∧ s.spinState i ≤ 5 ∧ s.reg (stKey i 0 6) = 1
    let near := t.spinPhase = 5 ∧ t.down = 0 ∧ (s.speed i - s.target i * 100).natAbs ≤ (s.speedTol i).natAbs
    let at_ := (((s.freeSlot i).setSpin i 4).modStn i fun t => { t with spinPhase := 0, lrMade := 0, retarget := false }).setStFlag i 10 false
    let there := if at_.stState i = stClamped then
      at_.setStation i stSpinning (match (at_.stn i).cmd with | some c => c.code | none => 0x02) else at_
    let late := t.spinPhase = 5 ∧ (s.holdsSlot i = true ∨ x.code = some 0x15)
    let one : Int := if fwd then 1 else -1
    let turned := s.modStn i fun t => { t with encSeen := true, encCount := t.encCount + one, measCount := t.measCount + one, encStamp := stamp }
    let speed := s.reg (stKey i 0x10 9)
    let high := s.reg (stKey i 0x12 9) < speed
    let wrong := t.psen = true ∧ (high ∨ speed < s.reg (stKey i 0x12 7))
    (s.runs e 0x10 = true → x.started = 0 → f.runs e 0x10 = true → (f.sq e).started = 0 →
        (f.reg (stKey i 0x22 0x0C) = 3 → f.spinState i ≠ 4 → exec (.spinUp i ev) s = .next (((begun (f.freewheel i)).modStn i fun t =>
            { t with spinPhase := 1, crossings := 0, measCount := 0, lrMade := 0, retarget := false }).setSpin i 2))
        ∧ ((f.reg (stKey i 0x22 0x0C) ≠ 3 ∨ f.spinState i = 4) → exec (.spinUp i ev) s = .next (f.orderRejected e 1)))
    ∧ (s.runs e 0x10 = true → x.started ≠ 0 → t.spinPhase = 4 →
        exec (.spinUp i (.learned codes)) s = .next (if hallSequence codes = true then map else s.hallFail i))
    ∧ (s.runs e 0x10 = true → x.started ≠ 0 → (t.spinPhase ≠ 4 ∨ ev = .begin) → exec (.spinUp i ev) s = .next s)
    ∧ (s.runs e 0x10 = false → exec (.spinUp i ev) s = .next s)
    ∧ (t.spinPhase = 1 → exec (.startMeasureEnd i) s = .next (
        if n.natAbs < 3000 then m.needPower i 0
        else if m.reg (stKey i 0x13 5) = 0 ∧ m.reg (stKey i 0x10 0x0C) ≠ 2 then (m.modStn i fun t => { t with spinPhase := 9 }).setSpin i 7
        else if n < 0 then (((m.catchSpin i n).motion i 6).setSpin i 5).modStn i fun t => { t with spinPhase := 7 }
        else if n < goal - m.speedTol i then m.needPower i n else m.catchSpin i n))
    ∧ (t.spinPhase ≠ 1 → exec (.startMeasureEnd i) s = .next s)
    ∧ (s.runs e 0x11 = true → x.started = 0 → (s.substate (2 * i) ≠ hsOff ∨ s.substate (2 * i + 1) ≠ hsOff) →
        exec (.spinDown i) s = .next (s.orderRejected e 1))
    ∧ (s.runs e 0x11 = true → x.started = 0 → s.substate (2 * i) = hsOff → s.substate (2 * i + 1) = hsOff →
        exec (.spinDown i) s = .next (if v.stFlag i 10 ∧ ¬ v.below30 i then (v.modStn i fun t => { t with down := 3 }).setSpin i 7
          else if v.below30 i then ((v.modStn i fun t => { t with down := 2 }).slowed i).shortBrake i
          else (v.modStn i fun t => { t with down := 1 }).setSpin i 5))
    ∧ ((s.runs e 0x11 = false ∨ x.started ≠ 0) → exec (.spinDown i) s = .next s)
    ∧ (s.spinState i = 6 → exec (.stopBrakeEnd i) s = .next (if (still.stn i).spinPhase = 8 then still.needPower i 0
        else if (rest.sq e).code = some 0x11 then rest.orderDone e 0 else rest))
    ∧ (s.spinState i ≠ 6 → exec (.stopBrakeEnd i) s = .next s)
    ∧ (s.runs e 0x15 = true → x.started = 0 → bd → 600 ≤ x.param → x.param ≤ 7200 → let u := begun (s.setReg (stKey i 0x12 1) x.param)
        exec (.setSpeed i) s = .next ((u.modStn i fun t => { t with spinPhase := 5 }).setSpin i (if u.speed i < (x.param : Int) * 100 then 3 else 5)))
    ∧ (s.runs e 0x15 = true → x.started = 0 → ¬ bd → exec (.setSpeed i) s = .next (s.orderRejected e 1))
    ∧ (s.runs e 0x15 = true → x.started = 0 → bd → (x.param < 600 ∨ 7200 < x.param) → exec (.setSpeed i) s = .next (s.orderRejected e 4))
    ∧ ((s.runs e 0x15 = false ∨ x.started ≠ 0) → exec (.setSpeed i) s = .next s)
    ∧ exec (.speedLoopTick i) s = .next ((s.speedTick i).testSpeed i)
    ∧ (near → exec (.atSpeed i) s = .next (if there.spinOrder i = true then there.orderDone e 0 else there))
    ∧ (¬ near → exec (.atSpeed i) s = .next s)
    ∧ (late → exec (.spinUpTimeout i) s = .next ((s.spinFail i 0x0F580002).stnFault i 7 ((s.speed i).natAbs / 100)))
    ∧ (¬ late → exec (.spinUpTimeout i) s = .next s)
    ∧ exec (.hallEdge i code stamp) s = .next (s.hallEdge i (code % 8) stamp)
    ∧ (s.reg (stKey i 0x13 5) = 0 → 1 ≤ s.reg (stKey i 0x10 8) → s.reg (stKey i 0x10 4) = 0 → s.reg (stKey i 0x10 0x0C) = 1 → 1 ≤ s.reg (stKey i 0x13 3) →
        1 ≤ code → code ≤ 6 → t.angleSet = false → t.spinPhase ≠ 1 → 0 ≤ t.nSet → ∃ u, exec (.hallEdge i code stamp) s = .next u
          ∧ u.reg (stKey i 0x10 8) = code ∧ (u.stn i).edgeStamp = stamp ∧ (u.stn i).edgeRun = 0
          ∧ u.reg (stKey i 0x10 2) = ofSigned 32 (hallSpeed (stamp - t.edgeStamp) (s.reg (stKey i 0x11 1))))
    ∧ (s.reg (stKey i 0x10 4) = 1 → exec (.observerMissedEdge i) s = .next (s.observerLoss i (hallValid (s.reg (stKey i 0x10 8)))))
    ∧ (s.reg (stKey i 0x10 4) ≠ 1 → exec (.observerMissedEdge i) s = .next s)
    ∧ exec (.encoderZEdge i) s = .next (s.encZ i)
    ∧ (t.encRevs = 0 → exec (.encoderZEdge i) s = .next (s.modStn i fun t => { t with encSeen := true, encCount := 0, encRevs := 1 }))
    ∧ (s.reg (stKey i 0x10 0x0C) ≠ 2 → exec (.encoderEdge i fwd true stamp) s = .next turned)
    ∧ (turned.reg (stKey i 0x10 0x0C) = 0 ∨ turned.reg (stKey i 0x10 0x0C) = 2 → exec (.encoderEdge i fwd false stamp) s = .next (turned.encDegrade i))
    ∧ exec (.encoderEdge i fwd valid stamp) s = .next (s.encEdge i fwd valid stamp)
    ∧ (s.stFlag i 10 = true → t.lrWait = false → t.down ≠ 3 → x.code = none → exec (.coastStopTimeout i) s
        = .next (((s.modStn i fun t => { t with stopped := true }).setRegs [(stKey i 0x10 1, 0), (stKey i 0x10 2, 0)]).stnFault i 2
            (hallDetail i)))
    ∧ ((s.stFlag i 10 = false ∨ t.lrWait = true) → exec (.coastStopTimeout i) s = .next s)
    ∧ (s.reg (stKey i 0x10 3) ≠ 0 → exec (.lockedRotor i) s = .next (s.lockedRotor i))
    ∧ (s.reg (stKey i 0x10 3) = 0 → exec (.lockedRotor i) s = .next s)
    ∧ (t.lrWait = true → exec (.lockedRotorRetry i) s = .next ((s.modStn i fun t =>
        { t with lrWait := false, lrMade := t.lrMade + 1, coastSince := none }).needPower i 0))
    ∧ (t.lrWait = false → exec (.lockedRotorRetry i) s = .next s)
    ∧ (t.brk = false → mv ≤ s.reg (stKey i 0x12 8) → mv < s.reg (stKey i 0x12 9) →
        let w := ((s.setRegs [(stKey i 0x10 9, mv), (stKey i 0x10 0x0A, amps), (stKey i 0x3F 0x0B, max (s.reg (stKey i 0x3F 0x0B)) mv)]).modStn i fun t =>
          { t with vbusOver := t.vbusOver && decide (s.reg (stKey i 0x12 8) ≤ mv), brk := false }).limitCurrent i amps
        w.drive (16 + i) 0 ≥ -8388608 → exec (.vbusSample i mv amps) s = .next w)
    ∧ (s.reg (stKey i 0x12 8) < mv → ∃ u, exec (.vbusSample i mv amps) s = .next u ∧ (u.stn i).brk = true)
    ∧ (wrong → ¬ high → exec (.vbusFaultTimeout i) s = .next (s.stnFault i 5 speed))
    ∧ (wrong → high → exec (.vbusFaultTimeout i) s
        = .next (((s.freewheel i).modStn i fun t => { t with vbusOver := true, brk := true }).stnFault i 5 speed))
    ∧ (¬ wrong → exec (.vbusFaultTimeout i) s = .next s)

/-- A set-point of a sled moves it, and one with nothing to move it stands; a stall while homing ends SLED_HOME at HOME_POS, one past its limit loses the position, posts 0x0507 and fails
the order. SLED_HOME and SLED_PARK begin from LASER_OFF, a park and a seek with a known position, else they are REJECTED; a home without a stop fails. A seek within reach opens the loops and
runs its profile; it reads its address, jumps back on and ends FOLLOWING. A profile's end leaves the sled at its target and its order goes on. A stroke begins with the spindle
stopped and no stroke under way, a clamp from an open clamp only, and counts; else it is REJECTED. A stall within the window clamps; one of an unclamp or a probe finds the clamp open; a
stroke's way without a stall is cause 4, a probe's finds it closed. A reading that is no stall, or a way not yet made, changes nothing. -/
def Obligations.SledsAndClamps : Prop :=
  ∀ (s : State) (h i run rotor : Nat) (bemf : List Nat) (p : Int) (he : HomeEvent) (se : SeekEvent) (r : PilotRead),
    let x := s.sq h
    let y := s.sq (16 + i)
    let d := s.sled h
    let t := s.stn i
    let begun := fun (u : State) e => u.modSq e fun q => { q with started := 1 }
    let still := s.spinState i = 0 ∧ t.stroke = .none
    let stalled := s.clampStalls i run bemf = true
    let pos := s.clampNow i
    let home := (s.modSled h fun d => { d with homing := false, beyond := 0, frac := 0 }).setRegs
      [(sledKey h 0x1B, s.reg (sledKey h 0x11) * 1000), (sledKey h 0x1C, 1), (sledKey h 0x1D, 0), (sledKey h 0x1A, 1)]
    let again := match d.lastStall with | some t => decide (s.now < t + 10000000) | none => false
    let lost := (s.modSled h fun d => { d with target := none, beyond := 0, lastStall := some s.now }).setRegs
      [(sledKey h 0x1C, 0), (sledKey h 0x1D, 0), (sledKey h 0x1A, 5)]
    let marked := if again then lost.setRegBit (stKey (h / 2) 0xE0 4) (3 + h % 2) true else lost
    let tracks := s.substate h = hsTracking ∨ s.substate h = hsFollowing
    let reach := s.sledReach h (s.trackRadius h (s.reg (sledKey h 0x16))) = true
    let at_ := ((s.modSled h fun d => { d with target := none, acc := 0, frac := 0, endedAt := s.now }).setRegI 32 (sledKey h 0x1B) p).setRegs
      [(sledKey h 0x1D, 0), (sledKey h 0x1A, 1)]
    exec (.sledSetPoint h rotor) s = .next (s.sledPoint h rotor)
    ∧ (d.target = none → d.homing = false → s.substate h ≠ hsFollowing → ∃ u, exec (.sledSetPoint h rotor) s = .next u ∧ u.regI 32 (sledKey h 0x1D) = 0)
    ∧ (d.homing = true → exec (.sledStall h) s = .next (if (home.sq h).code = some 8 then home.orderDone h 0 else home))
    ∧ (d.homing = false → d.beyond < s.reg (sledKey h 0x10) → exec (.sledStall h) s = .next s)
    ∧ (d.homing = false → s.reg (sledKey h 0x10) ≤ d.beyond → exec (.sledStall h) s
        = .next ((((marked.motion (h / 2) (0x0C + h % 2)).raiseTrap h trapSledStall 0 0).post 0x0507 (0x30 + h / 2)
            (leBytes 1 (h % 2) ++ leBytes 4 (s.reg (sledKey h 0x1B))) (some ⟨0xFF22, false⟩)).orderFailed h 0x0F580003))
    ∧ (s.runs h 8 = true → x.started = 0 → s.substate h = hsOff → exec (.sledHome h he) s
        = .next (begun ((s.modSled h fun d => { d with homing := true, target := none }).setReg (sledKey h 0x1A) 4) h))
    ∧ (s.runs h 8 = true → x.started = 0 → s.substate h ≠ hsOff → exec (.sledHome h he) s = .next (s.orderRejected h 1))
    ∧ (s.runs h 8 = true → x.started ≠ 0 → exec (.sledHome h .noStop) s
        = .next (((s.modSled h fun d => { d with homing := false }).setRegs [(sledKey h 0x1A, 1), (sledKey h 0x1D, 0)]).orderFailed h 0x0F580008))
    ∧ (s.runs h 8 = false → exec (.sledHome h he) s = .next s)
    ∧ (s.runs h 9 = true → x.started = 0 → s.substate h = hsOff → s.reg (sledKey h 0x1C) = 1 → exec (.sledPark h) s
        = .next (begun (s.sledParkNow h) h))
    ∧ (s.runs h 9 = true → x.started = 0 → (s.substate h ≠ hsOff ∨ s.reg (sledKey h 0x1C) ≠ 1) → exec (.sledPark h) s = .next (s.orderRejected h 1))
    ∧ ((s.runs h 9 = false ∨ x.started ≠ 0) → exec (.sledPark h) s = .next s)
    ∧ (s.runs h 7 = true → x.started = 0 → (¬ tracks ∨ s.reg (sledKey h 0x1C) ≠ 1) → exec (.seek h se) s = .next (s.orderRejected h 1))
    ∧ (s.runs h 7 = true → x.started = 0 → tracks → s.reg (sledKey h 0x1C) = 1 → ¬ reach → exec (.seek h se) s = .next (s.orderRejected h 4))
    ∧ (s.runs h 7 = true → x.started = 0 → tracks → s.reg (sledKey h 0x1C) = 1 → reach → (s.stn (h / 2)).sleds.length = 2 →
        ∃ u, exec (.seek h se) s = .next u ∧ (u.sq h).started = 1 ∧ (u.sled h).target ≠ none)
    ∧ (s.runs h 7 = true → x.started = 3 → exec (.seek h (.address r)) s = .next (s.seekRead h r))
    ∧ (s.runs h 7 = true → x.started = 6 → s.jumpCrossing h = true → s.noGain h 1 = false → exec (.seek h .jumpClosed) s
        = .next ((s.jumpClose h ((s.reg (sledKey h 0x16) : Int) - s.reg (hdKey h 0x13 2))).modSq h fun q => { q with started := 3 }))
    ∧ (s.runs h 7 = true → x.started = 4 → s.aged h 1 (s.reg (hdKey h 0x12 9)) = true → exec (.seek h .settled) s
        = .next (((s.closeTilt h).setSubstate h hsFollowing).orderDone h (s.reg (hdKey h 0x13 2))))
    ∧ (s.runs h 7 = false → exec (.seek h se) s = .next s)
    ∧ (d.target = some p → exec (.sledProfileEnd h) s = .next (if (at_.sq h).code = some 9 then at_.orderDone h 0
        else if (at_.sq h).code = some 7 ∧ (at_.sq h).started = 1 then
          (at_.modSq h fun q => { q with started := 2 }).modHd h fun d => { d with atLayer := at_.reg (hdKey h 0x13 1) }
        else at_))
    ∧ (d.target = none → exec (.sledProfileEnd h) s = .next s)
    ∧ (s.runs (16 + i) 0x12 = true → y.started = 0 → still → s.reg (stKey i 0x22 0x0C) = 1 → exec (.clampStroke i) s
        = .next (begun (s.startStroke i .clamp 2) (16 + i)))
    ∧ (s.runs (16 + i) 0x12 = true → y.started = 0 → (¬ still ∨ s.reg (stKey i 0x22 0x0C) ≠ 1) → exec (.clampStroke i) s
        = .next (s.orderRejected (16 + i) 1))
    ∧ (s.runs (16 + i) 0x13 = true → y.started = 0 → still → exec (.unclampStroke i) s = .next (begun (s.startStroke i .unclamp 5) (16 + i)))
    ∧ (s.runs (16 + i) 0x13 = true → y.started = 0 → ¬ still → exec (.unclampStroke i) s = .next (s.orderRejected (16 + i) 1))
    ∧ (s.runs (16 + i) 0x14 = true → y.started = 0 → still → exec (.clampProbe i) s = .next (begun (s.startStroke i .probe 5) (16 + i)))
    ∧ (s.runs (16 + i) 0x14 = true → y.started = 0 → ¬ still → exec (.clampProbe i) s = .next (s.orderRejected (16 + i) 1))
    ∧ (y.started ≠ 0 → exec (.clampStroke i) s = .next s ∧ exec (.unclampStroke i) s = .next s ∧ exec (.clampProbe i) s = .next s)
    ∧ ((t.stroke = .none ∨ ¬ stalled) → exec (.clampStall i run bemf) s = .next s)
    ∧ (t.stroke = .probe → stalled → exec (.clampStall i run bemf) s = .next ((s.clampOpen i).clampDone i 1))
    ∧ (t.stroke = .reopen → stalled → exec (.clampStall i run bemf) s = .next ((s.clampOpen i).clampFailed i 0x0F580005))
    ∧ (t.stroke = .unclamp → stalled → let u := (s.clampOpen i).clampDone i 0
        exec (.clampStall i run bemf) s = .next (if u.stState i = stFault then u.modStn i fun t => { t with faultOpen := true }
          else if u.stState i = stClamped then u.setStation i stEmpty 0x03 else u))
    ∧ (t.stroke = .clamp → stalled → s.reg (stKey i 0x22 8) ≤ pos → pos ≤ s.reg (stKey i 0x22 9) → y.code = none →
        s.stState i ≠ stEmpty → ∃ u, exec (.clampStall i run bemf) s = .next u ∧ u.reg (stKey i 0x22 0x0C) = 3 ∧ u.reg (stKey i 0x22 0x0D) = pos
          ∧ u.stFlag i 2 = true ∧ (u.stn i).stroke = .none ∧ (u.stn i).angleSet = false)
    ∧ (t.stroke = .probe → s.clampFar i = true → exec (.clampStrokeLimit i) s = .next ((((((s.strokeOver i).setRegs
        [(stKey i 0x22 0x0C, 3), (stKey i 0x22 0x0D, 0xFFFFFFFF)]).setStFlag i 3 true).setStFlag i 2 true).clampDone i 2)))
    ∧ ((t.stroke = .clamp ∨ t.stroke = .unclamp ∨ t.stroke = .reopen) → s.clampFar i = true → exec (.clampStrokeLimit i) s
        = .next (s.strokeFault i (s.reg (stKey i 0x22 0x0A))))
    ∧ (s.clampFar i = false → exec (.clampStrokeLimit i) s = .next s)

/-! ### Power, clocks and start-up (chapter 4) -/

/-- PFW_N begins the power-fail response; in HEARTH and FAILED it latches and runs the Ledger's steps; it is ignored while latched. The latch cleared with the rails down starts up, where
the response was to end in start-up and no reset holds the device; in HEARTH and FAILED it only clears the latch. While the rails go down, each step lowers the highest enable that is to go
down and its PG input, and after the last the response ends. PG k of an enabled rail in BOOT raises the next enable; PG2 and PG7 mark the phases. The first PG time-out posts 0x0101 with the
rail, lowers the rails and retries after 1 s; the second leaves FAILED. A lost PG input is recorded and acts as PFW_N: it is to restart, and with three restarts in 10 minutes behind it ends
in FAILED. The restart is counted as it is made. Out of its case an event changes nothing. -/
def Obligations.PowerFailAndRails : Prop :=
  ∀ (s : State) (k : Nat),
    let rails := fun (t : State) v => t.setReg (key 0x2100 7) v
    let recent := s.power.restarts.filter fun t => s.now < t + 600000000
    let lost := fun (u : State) => rails (u.note 0x0102 0 (leBytes 1 k)) (clrBit u.rails k)
    let idle := s.power.latched = false ∧ s.power.dark = false
    let down := s.power.latched = true ∧ s.power.lowering = false ∧ s.rails = 0
    let timed := s.post 0x0101 0 (leBytes 1 (k + 1)) (some ⟨0x3100, false⟩)
    let rises := s.powerState = psBoot ∧ bitOf s.rails (8 + k) = true ∧ bitOf s.rails k = false ∧ s.power.lowering = false ∧ s.held = false
    let late := fun j => bitOf s.rails (8 + j) = true ∧ bitOf s.rails j = false
    let loses := bitOf s.rails (8 + k) = true ∧ bitOf s.rails k = true ∧ s.power.lowering = false ∧ s.power.latched = false ∧ s.held = false
    let again := s.power.restartWait = true ∧ s.rails = 0 ∧ s.power.lowering = false ∧ s.held = false
    (idle → s.powerState ≠ psHearth → s.powerState ≠ psFailed → exec .pfwNAssert s = .next (s.powerFail .startUp psShutdown))
    ∧ (idle → (s.powerState = psHearth ∨ s.powerState = psFailed) → exec .pfwNAssert s
        = .next (s.modPower fun p => { p with latched := true, after := .stay }).ledgerPowerFail)
    ∧ (¬ idle → exec .pfwNAssert s = .next s)
    ∧ (down → s.power.after = .startUp → s.powerState ≠ psHearth → exec .pfwLatchClear s = .next (if s.held = true then s else s.startUp true false))
    ∧ (down → (s.power.after ≠ .startUp ∨ s.powerState = psHearth) → exec .pfwLatchClear s = .next (
        if s.powerState = psHearth ∨ s.powerState = psFailed then s.modPower fun p => { p with latched := false } else s))
    ∧ (¬ down → exec .pfwLatchClear s = .next s)
    ∧ (s.power.lowering = true → k < 8 → bitOf s.rails (8 + k) = true → (s.power.after ≠ .recovery ∨ 3 ≤ k) → (∀ j, k < j → j < 8 → bitOf s.rails (8 + j) = false) →
        let t := rails s (clrBit (clrBit s.rails (8 + k)) k)
        exec .railDownStep s = .next (if t.nextRail.isNone then t.railsDown else t))
    ∧ (s.power.lowering = true → s.nextRail = none → exec .railDownStep s = .next s.railsDown)
    ∧ (s.power.lowering = false → exec .railDownStep s = .next s)
    ∧ (rises →
        (k < 7 → k ≠ 2 → exec (.railStepAdvance k) s = .next (rails s (setBit (setBit s.rails k) (9 + k))))
        ∧ (k = 2 → exec (.railStepAdvance k) s
            = .next ((rails s (setBit (setBit s.rails 2) 11)).modPower fun p => { p with phase := max p.phase 1 }).updAll)
        ∧ (k = 7 → exec (.railStepAdvance k) s
            = .next ((rails s (setBit s.rails 7)).modPower fun p => { p with phase := max p.phase 2 }).updAll))
    ∧ (¬ rises → exec (.railStepAdvance k) s = .next s)
    ∧ (k < 8 → late k → (∀ j, j < k → ¬ late j) → s.powerState = psBoot → s.power.lowering = false → s.held = false →
        (s.power.pgRetried = false → exec .pgTimeout s = .next (((timed.modPower fun p =>
          { p with pgRetried := true, retryWait := true, phase := 0 }).lowerRails .stay).updAll))
        ∧ (s.power.pgRetried = true → exec .pgTimeout s = .next ((((timed.modPower fun p =>
          { p with pgRetried := true, retryWait := false, phase := 0 }).setPower psFailed).lowerRails .failed).updAll)))
    ∧ (((∀ j, j < 8 → ¬ late j) ∨ s.powerState ≠ psBoot ∨ s.power.lowering = true ∨ s.held = true) → exec .pgTimeout s = .next s)
    ∧ (s.power.retryWait = true → s.rails = 0 → s.powerState = psBoot → exec .railRetry s
        = .next (s.modPower fun p => { p with retryWait := false, after := .startUp }).beginRails)
    ∧ ((s.power.retryWait = false ∨ s.rails ≠ 0 ∨ s.powerState ≠ psBoot) → exec .railRetry s = .next s)
    ∧ (loses → recent.length < 3 → exec (.pgLoss k) s = .next (((lost s).modPower fun p =>
          { p with restarts := recent, restartWait := true }).powerFail .restart psShutdown))
    ∧ (loses → 3 ≤ recent.length → exec (.pgLoss k) s = .next (((lost s).modPower fun p =>
          { p with restarts := recent, restartWait := false }).powerFail .failed psFailed))
    ∧ (¬ loses → exec (.pgLoss k) s = .next s)
    ∧ (again → exec .pgLossRestart s = .next ((s.modPower fun p => { p with restarts := p.restarts ++ [s.now] }).startUp true false))
    ∧ (¬ again → exec .pgLossRestart s = .next s)

/-- A lost crystal sets CLOCK_STATUS to the 16 MHz oscillator, posts 0x0103 and is a power-fail that ends in FAILED; in HEARTH and FAILED the Ledger's steps run. The loss of a quad's
reference or the PCIe reference takes its links down; a reference that is back lets them train. An enabled wake in HEARTH starts up with its cause, held on the 16 MHz oscillator until the
clock is back; one that is not enabled, or with the thermal shutdown's cause standing or the device held, changes nothing. RESET_N, PERST_N with PERST_MODE 0 and NSSR reset the device;
releasing RESET_N samples the straps, each bit by the majority of three samples, and start-up follows once the rails are down. Losing VHEARTH leaves CAN, BAR2 and every register below
0x5000 at their initial values; its return begins anew at time 0, and a fuse word that fails its check stops start-up with record 0x0107. -/
def Obligations.ClocksWakesAndResets : Prop :=
  ∀ (s : State) (n : Nat) (straps : Straps) (w : Nat) (crc : List Nat) (r : ClockRef) (fuse : Option Nat),
    let idle := s.power.dark = false
    let mask := s.reg (key 0x2100 0x0A)
    let lost := (s.setReg (key 0x2100 0x0D) (setBit (clrBit (s.reg (key 0x2100 0x0D)) 0) 9)).post 0x0103 0 [] (some ⟨0x5000, false⟩)
    let gone := fun b => (s.modPower fun p => { p with refLost := setBit p.refLost b }).clockView
    let back := fun b => (s.modPower fun p => { p with refLost := clrBit p.refLost b }).clockView
    let link := (gone 2).reg (key 0x4000 2)
    let alarm := bitOf mask 8 = true ∧ s.reg (key 0x2300 7) ≠ 0 ∧ s.timeValid = true ∧ s.reg (key 0x2300 7) ≤ s.calendar
    let wakes := fun (c : Instr) bit => (s.mayWake = true → s.held = false → s.on16 = false → exec c s = .next (s.wake (2 ^ bit)))
      ∧ (s.mayWake = true → s.held = false → s.on16 = true → exec c s
          = .next (s.modPower fun p => { p with heldWakes := setBit p.heldWakes bit }))
      ∧ ((s.mayWake = false ∨ s.held = true) → exec c s = .next s)
    let freed := fun (t : State) => t.modPower fun p => { p with restarts := [], after := .startUp }
    let started := fun (t : State) => if t.rails = 0 ∧ t.power.lowering = false ∧ t.power.latched = false then t.startUp true false else t
    let most := ((straps.a &&& straps.b) ||| (straps.b &&& straps.c) ||| (straps.a &&& straps.c)) % 128
    let high := s.modPower fun p => { p with resetLow := false }
    let sampled := high.setRegs [(key 0x2010 1, most), (key 0x2010 7, most)]
    let up := let t := ({ s with now := 0, power := Power.initial }).setReg (key 0x2100 0x0D) 0x200
      (t.canAnew fun t => ((t.ledgerHearthUp crc).applyStored fun _ => true).sampleStraps straps).secReset
    (idle → s.on16 = false → exec (.clockLoss .crystal) s = .next (if lost.powerState = psHearth then lost.ledgerPowerFail
        else if lost.powerState = psFailed then (lost.modPower fun p => { p with latched := true }).ledgerPowerFail else lost.powerFail .failed psFailed))
    ∧ (idle → s.on16 = true → exec (.clockLoss .crystal) s = .next s)
    ∧ (idle → exec (.clockLoss .quadA) s = .next ((gone 0).setReg (key 0x4100 2) 0))
    ∧ (idle → exec (.clockLoss .quadB) s = .next (((gone 1).ringLinkLost 0).ringLinkLost 1))
    ∧ (idle → exec (.clockLoss .pcie) s = .next (if link = 0 then gone 2 else (gone 2).linkDown.resetCtrl 0))
    ∧ (idle → exec (.clockRestore .crystal) s = .next (if s.on16 = true then s.clockBack else s))
    ∧ (idle → exec (.clockRestore .quadA) s = .next (back 0) ∧ exec (.clockRestore .quadB) s = .next (back 1)
        ∧ exec (.clockRestore .pcie) s = .next (back 2))
    ∧ (s.power.dark = true → exec (.clockLoss r) s = .next s ∧ exec (.clockRestore r) s = .next s)
    ∧ (s.on16 = true → s.powerState = psBoot → idle → exec .crystalStable s = .next s.clockBack)
    ∧ ((s.on16 = false ∨ s.powerState ≠ psBoot ∨ s.power.dark = true) → exec .crystalStable s = .next s)
    ∧ (bitOf mask n = true → wakes (.wakeGpio n) n)
    ∧ (bitOf mask n = false → exec (.wakeGpio n) s = .next s)
    ∧ (alarm → wakes .wakeCalendarAlarm 8)
    ∧ (¬ alarm → exec .wakeCalendarAlarm s = .next s)
    ∧ (bitOf mask 9 = true → wakes .wakeI2c 9)
    ∧ (bitOf mask 9 = false → exec .wakeI2c s = .next s)
    ∧ (s.power.resetLow = false → idle → exec .resetNAssert s = .next (s.modPower fun p => { p with resetLow := true }).resetAssert)
    ∧ ((s.power.resetLow = true ∨ s.power.dark = true) → exec .resetNAssert s = .next s)
    ∧ (s.power.resetLow = true → (sampled.held = true ∨ (sampled.powerState = psFailed ∧ sampled.on16 = true)) →
        exec (.resetNRelease straps) s = .next sampled)
    ∧ (s.power.resetLow = true → sampled.held = false → (sampled.powerState ≠ psFailed ∨ sampled.on16 = false) →
        exec (.resetNRelease straps) s = .next (started (freed sampled)))
    ∧ (s.power.resetLow = false → exec (.resetNRelease straps) s = .next s)
    ∧ (idle → s.held = false → s.rails ≠ 0 →
        exec (.nvmSubsystemReset false) s = .next s.resetAssert.resetRelease
        ∧ (s.reg (key 0x4000 5) = 0 → exec (.nvmSubsystemReset true) s
            = .next (s.modPower fun p => { p with perstLow := true }).resetAssert)
        ∧ (s.reg (key 0x4000 5) ≠ 0 → exec (.nvmSubsystemReset true) s = .next s))
    ∧ ((s.power.dark = true ∨ s.held = true ∨ s.rails = 0) → exec (.nvmSubsystemReset false) s = .next s ∧ exec (.nvmSubsystemReset true) s = .next s)
    ∧ (s.power.perstLow = true → exec .perstNRelease s = .next (s.modPower fun p => { p with perstLow := false }).resetRelease)
    ∧ (s.power.perstLow = false → exec .perstNRelease s = .next s)
    ∧ (idle → ∃ t, exec .vhearthLoss s = .next t ∧ t.power.dark = true ∧ t.can = Can.initial ∧ t.bar2 = Bar2.initial
        ∧ t.selfTest = none ∧ t.arb = [] ∧ ∀ k, k / 256 < 0x5000 → t.reg k = regDefault t.part k)
    ∧ (s.power.dark = true → exec .vhearthLoss s = .next s)
    ∧ (s.power.dark = true → s.power.resetLow = false → exec (.hearthPowerUp straps none crc) s = .next up
        ∧ exec (.hearthPowerUp straps (some w) crc) s = .next ((up.modPower fun p => { p with fuseFailed := true }).post 0x0107 0
            (leBytes 1 w) (some ⟨0x5000, false⟩)).canRom)
    ∧ ((idle ∨ s.power.resetLow = true) → exec (.hearthPowerUp straps fuse crc) s = .next s)

/-- In BOOT with PG2 high the selected bank, A where its record fails its check, runs when it passes; else it is rejected and the other is tried, with BOOT_FLAGS bit 0; when neither passes the
device enters RECOVERY. With firmware, HBM, every rail, Reeve 0, the PCIe controller and Ethernet standing, BOOT becomes RUN and HOST_READY is 1, the running image's SECURITY_VERSION having
raised the rollback counter. A gating domain gates, and what its block held goes; an idle slice is judged, an idle signer's wake ends. A reading without a warning gives the die and the peak
temperature and ends a run of hot ones; with a hot one before it, a reading at or above 115.0 degrees counts and is a power-fail into HEARTH. Out of its case a command changes nothing. -/
def Obligations.BootBanksDomainsAndHeat : Prop :=
  ∀ (s : State) (sel : Bool) (a b : BankRead) (f : FirmwareImage) (sealOk : Bool) (cust d k : Nat) (tj : Int) (temps : List Int),
    let kept : BankRead → Option FirmwareImage := fun r => match r with | .image f => some f | .unreadable => none
    let read := { s with nor := { s.nor with banks := [kept a, kept b] } }
    let booting := s.powerState = psBoot ∧ 1 ≤ s.power.phase ∧ s.power.bankOk = false ∧ s.power.lowering = false ∧ s.held = false
    let n := if sel = true then read.nor.bankSelect else 0
    let first := if n = 0 then a else b
    let other := if n = 0 then b else a
    let out := read.bankRejected n (read.bankCode first)
    let ready := s.powerState = psBoot ∧ s.power.bankOk = true ∧ s.power.hbmOk = true ∧ 2 ≤ s.power.phase ∧ s.power.lowering = false
      ∧ s.held = false ∧ s.domState 88 = 3 ∧ s.domState 77 = 3 ∧ s.ethernetOk = true
    let run := ((s.setPower psRun).setRegs [(key 0x2100 3, 1), (key 0x2100 6, min ((s.now - s.power.startAt) / 1000) 65535)]).ctrlsReady
    let seen := match run.sec.running with | some f => run.raiseRollback f | none => run
    let off := (s.setDom d 1).clockView.blockOff d
    let gated := off.modPower fun p => { p with wakeWaits := p.wakeWaits.filter (· != d) }
    (booting → read.bankCode first = 0 → first = .image f → exec (.bootBankVerify sel a b sealOk cust) s
        = .next (read.bankPassed n f sealOk cust))
    ∧ (booting → read.bankCode first ≠ 0 → out.bankCode other = 0 → other = .image f → exec (.bootBankVerify sel a b sealOk cust) s
        = .next ((out.setRegBit (key 0x2100 5) 0 true).bankPassed (1 - n) f sealOk cust))
    ∧ (booting → read.bankCode first ≠ 0 → out.bankCode other ≠ 0 → exec (.bootBankVerify sel a b sealOk cust) s
        = .next (out.bankRejected (1 - n) (out.bankCode other)).enterRecovery)
    ∧ (¬ booting → exec (.bootBankVerify sel a b sealOk cust) s = .next s)
    ∧ (ready → exec .hostReady s = .next (((seen.forEach (List.range seen.part.stations) State.pinView).tempWake 94).updAll))
    ∧ (¬ ready → exec .hostReady s = .next s)
    ∧ (s.domState d = 4 → exec (.domainGateDone d) s = .next (
        if off.power.wakeWaits.contains d = true ∧ gated.domainWanted d = true then gated.setDom d 2 else gated))
    ∧ (s.domState d ≠ 4 → exec (.domainGateDone d) s = .next s)
    ∧ (s.power.slices.contains k = true → s.lanesOn k = 0 → exec (.sliceIdleGate k) s
        = .next ((s.modPower fun p => { p with slices := p.slices.filter (· != k) }).updDomain (48 + k)))
    ∧ ((s.power.slices.contains k = false ∨ s.lanesOn k ≠ 0) → exec (.sliceIdleGate k) s = .next s)
    ∧ (s.sec.signer = [] → exec .securityIdleGate s = .next (s.endTempWake 94))
    ∧ (s.sec.signer ≠ [] → exec .securityIdleGate s = .next s)
    ∧ (s.power.dark = true → exec (.thermalRead tj temps) s = .next s)
    ∧ (s.power.dark = false → s.nvme.ctrls = [] → s.can.standing.contains ⟨0x4200, 0, placeOf 0⟩ = false → temps.foldl max (-32768) < 950 →
        -32768 ≤ tj → tj < 10 * s.reg (key 0x2103 3) → tj < 1150 → ∃ t, exec (.thermalRead tj temps) s = .next t
          ∧ t.regI 16 (key 0x2103 1) = tj ∧ t.reg (key 0x2103 2) = ofSigned 16 (max tj (s.regI 16 (key 0x2103 2))) ∧ t.power.hotRun = 0
          ∧ t.power.warm = false ∧ t.powerState = s.powerState ∧ t.reg (key 0x2103 5) = s.reg (key 0x2103 5))
    ∧ (s.power.dark = false → 1150 ≤ tj → s.power.hotRun = 1 → s.power.latched = false → s.powerState ≠ psHearth → s.powerState ≠ psFailed → ∃ u : State,
        exec (.thermalRead tj temps) s = .next (((u.bump (key 0x2103 6)).modPower fun p => { p with hot := true }).powerFail .hearth
          psShutdown) ∧ u.power.hotRun = 2 ∧ u.reg (key 0x2103 1) = ofSigned 16 tj)

/-! ### The Paluz ring and the spread volumes (chapter 16) -/

/-- A forming device elects: without a master it is ORPHANED, a member closes its dead ports as loopbacks, a master numbers the roster and probes; a second designated master is recorded. A
DISCOVER is heard while forming, re-forms for an unknown device or when orphaned, and asks for a rejoin at the master of a folded ring. A member takes over a ROSTER. A probe that comes back
gives the RTT and the state it allows. A fold notice names the end, a second one is a re-form. A broken link counts; with the other up it closes as a loopback, what waited goes round, and the
fold is told; else the device is ALONE. A trained link of a known peer of a folded ring waits for the rejoin, any other forms the ring; at the rejoin's time loopbacks go. An IDLE_FRAME
drops what it acknowledges and replays the rest where asked. Frames arrive as R390 says. -/
def Obligations.RingFormationAndLinks : Prop :=
  ∀ (s : State) (p peer serial rtt t ack m : Nat) (east crc : Bool) (hd : FrameHead) (c : Candidate) (r : RosterIn),
    let forming := s.enabledRing = true ∧ s.ringState = rsForming ∧ (s.linkUp 0 = true ∨ s.linkUp 1 = true)
    let u := { s with free := s.free + 1 }
    let self : Candidate := ⟨s.serial, u.reg (ringKey 2), 0, Config.freeValue s.free % 65536, u.reg (portKey 0 2), s.part.stations⟩
    let cands := self :: (s.fabric.found.filter fun c => c.serial != s.serial)
    let clash := u.reg (ringKey 2) = 1 ∧ m ≠ s.serial
    let elected := (if clash then (u.setReg (ringKey 0x0F) 1).post 0x0A02 0x0F (leBytes 8 m) (some ⟨0xFF31, false⟩)
      else u.setReg (ringKey 0x0F) 0).setReg (ringKey 6) m
    let master := elected.takeRoster ((cands.foldl (fun l c => insertHop c l) []).map fun c =>
        (⟨c.serial, c.thop, c.tlink, c.stations, c.serial == m, false, false⟩ : RosterEntry))
      (if elected.linkUp 0 = true then elected.reg (ringKey 9) else elected.serial)
      (if elected.linkUp 1 = true then elected.reg (ringKey 0x0A) else elected.serial)
    let timed := master.modRing fun r => if r.synced = true then r else { r with synced := true, offset := -((master.now : Int) * 1000) }
    let heard := fun (u : State) => u.modRing fun x => { x with found := (x.found.filter fun y => y.serial != c.serial) ++ [c] }
    let ask := fun (u : State) => let t := u.ringTime + 2 * u.reg (ringKey 8); (u.modRing fun x => { x with rejoin := some t }).ringAll 0x08 [t]
    let taken := fun (u : State) => u.takeRoster r.entries r.foldEast r.foldWest
    let allows := fun (u : State) => if u.rttBound u.folded < rtt then rsOver else if u.folded = true then rsFolded else rsRing
    let k := ringKey (if east then 9 else 0x0A)
    let named := fun (u : State) => let v := u.setReg k serial
      (if v.ringState = rsRing then (v.bump (ringKey 0x11)).setRingState rsFolded else v).sendRoster
    let up := s.enabledRing = true ∧ s.linkUp p = true
    let broken := s.bump (portKey p 8)
    let looped := (broken.setReg (portKey p 1) 4).modRing fun r => { r with sent := r.sent.set p [] }
    let turned := looped.forEach ((broken.fabric.sent.getD p []).filter fun f => f.head.dest != 0xFF && f.head.dest != 0xFE) fun v f =>
      v.frameOut (1 - p) f.kind { f.head with turned := true } f.fields f.data
    let trains := s.enabledRing = true ∧ s.linkState p ≠ 0 ∧ s.linkState p ≠ 2 ∧ bitOf s.power.refLost 1 = false
    let met := s.setReg (portKey p 3) peer
    let waits := met.linkState p = 4 ∧ met.ringState = rsFolded ∧ (s.fabric.roster.any fun e => e.serial == peer) = true
    let acked := s.modRing fun r => { r with sent := r.sent.modify p fun l => l.filter fun f => 2 ^ 31 ≤ (ack + 2 ^ 32 - f.head.seq) % 2 ^ 32 }
    let fewer := if (acked.fabric.sent.getD p []).length < (s.fabric.sent.getD p []).length then
      acked.modRing fun r => { r with replays := r.replays.set p 0 } else acked
    (forming → electMaster s.fabric.roster cands = none → exec .ringFormation s = .next ((u.setReg (ringKey 4) 0xFF).setRingState rsOrphaned))
    ∧ (forming → electMaster s.fabric.roster cands = some m → exec .ringFormation s = .next (if m = elected.serial then timed.ringSend timed.ringPort 0x06 []
        else elected.forEach ((List.range 2).filter fun p => !elected.linkUp p) fun v p =>
          (v.setReg (portKey p 1) 4).ringSend (1 - p) 0x07 [v.serial, p]))
    ∧ (¬ forming → exec .ringFormation s = .next s)
    ∧ s.Arrives (.discover p hd crc c) p 0x03 hd crc [c.serial, c.role] [] (fun u => if c.serial = u.serial then u
        else if u.ringState = rsForming then heard u
        else if (u.fabric.roster.any fun e => e.serial == c.serial) = false ∨ u.ringState = rsOrphaned then (heard u).startForming
        else if u.ringState = rsFolded ∧ u.atZero = true ∧ u.fabric.rejoin = none then ask u else u)
    ∧ s.Arrives (.roster p hd crc r) p 0x04 hd crc ([r.state, r.foldEast, r.foldWest] ++ r.entries.flatMap fun e =>
        [e.serial, e.thop, e.tlink, e.stations, if e.master then 1 else 0]) [] (fun u => if u.atZero = true ∧ u.ringRuns = true then u
        else if (taken u).reg (ringKey 4) = 0xFF then (taken u).setRingState rsOrphaned
        else (taken u).setRingState (if r.state = rsRing ∨ r.state = rsFolded ∨ r.state = rsOver then r.state else rsOrphaned))
    ∧ s.Arrives (.ringProbe p hd crc rtt) p 0x06 hd crc [] [] (fun u => if u.atZero = true ∧ u.ringState ≠ rsAlone ∧ u.ringState ≠ rsOrphaned then
          let v := u.setReg (ringKey 8) rtt
          if u.ringState = allows v then v
          else if u.ringState = rsForming then ((v.setRingState (allows v)).sendRoster.sendVolumes.resendMembers).pumpGrants
          else (v.setRingState (allows v)).sendRoster
        else u)
    ∧ s.Arrives (.foldNotice p hd crc serial east) p 0x07 hd crc [serial, if east then 0 else 1] [] (fun u =>
        if u.atZero = true ∧ (u.ringRuns = true ∨ u.ringState = rsOver ∨ u.ringState = rsForming) then
          (if u.ringState = rsForming then u.setReg k serial else if u.reg k ≠ 0 ∧ u.reg k ≠ serial then u.startForming
            else if u.reg k = serial then u else named u)
        else u)
    ∧ (up → broken.linkUp (1 - p) = true → exec (.ringLinkBroken p) s = .next (if broken.ringState = rsFolded then turned.startForming
        else if turned.atZero = true ∧ (turned.ringRuns = true ∨ turned.ringState = rsOver) then turned.foldNotice turned.serial (p == 0)
        else (turned.bump (ringKey 0x11)).ringSend (1 - p) 0x07 [turned.serial, p]))
    ∧ (up → broken.linkUp (1 - p) = false → exec (.ringLinkBroken p) s = .next ((broken.setRegs [(portKey p 1, 3),
        (portKey (1 - p) 1, if broken.linkState (1 - p) = 4 then 3 else broken.linkState (1 - p))]).setRingState rsAlone))
    ∧ (¬ up → exec (.ringLinkBroken p) s = .next s)
    ∧ (trains → waits → exec (.ringLinkRetrain p peer) s = .next (if met.atZero = true then ask met
        else met.ringSend (1 - p) 0x03 [met.serial, met.reg (ringKey 2)]))
    ∧ (trains → ¬ waits → exec (.ringLinkRetrain p peer) s = .next ((met.linkFresh p).setReg (portKey p 1) 2).startForming)
    ∧ (¬ trains → exec (.ringLinkRetrain p peer) s = .next s)
    ∧ s.Arrives (.rejoin p hd crc t) p 0x08 hd crc [t] [] (fun u =>
        if u.ringState = rsFolded then u.modRing fun x => { x with rejoin := some t } else u)
    ∧ (s.ringState = rsFolded → s.fabric.rejoin ≠ none → let v := s.modRing fun r => { r with rejoin := none }
        exec .rejoinTimeReached s = .next (((v.forEach ((List.range 2).filter fun p => v.linkState p == 4) fun w p =>
          (w.linkFresh p).setReg (portKey p 1) 2).setRegs [(ringKey 9, 0), (ringKey 0x0A, 0)]).setRingState rsRing))
    ∧ ((s.ringState ≠ rsFolded ∨ s.fabric.rejoin = none) → exec .rejoinTimeReached s = .next s)
    ∧ (s.linkUp p = true → exec (.idleFrame p ack false) s = .next fewer ∧ exec (.idleFrame p ack true) s = .next (fewer.replay p))
    ∧ (s.linkUp p = false → exec (.idleFrame p ack east) s = .next s)

/-- At each interval every link that is up probes its delay; the master sends TIME_SYNC and RING_PROBE. DELAY_PROBE is echoed under its tag and an echo gives the link's delay. TIME_SYNC on a
member sets ring time, and the calendar it follows, with the delay accumulated and that of the link; its error is kept. A ring strobe heard in time is kept, one heard late counts as missed;
its time fires it on every station. The master notes a request for a grant once, forgets a release, and grants in order of arrival; a grant for this device lets the waiting spin-up take its
slot, a release takes it back; 20 s after it was given the master takes a grant back. Frames arrive as R390 says; off the ring, and out of its case, a command changes nothing. -/
def Obligations.RingTimeStrobesAndGrants : Prop :=
  ∀ (s : State) (p t cal delay n serial st : Nat) (give crc : Bool) (hd : FrameHead),
    let probed := s.forEach ((List.range 2).filter s.linkUp) fun u q => u.ringSend q 0x01 [u.ringTime]
    let leads := probed.atZero = true ∧ (probed.ringRuns = true ∨ probed.ringState = rsOver ∨ probed.ringState = rsForming)
    let d := delay + s.reg (portKey p 2)
    let pair := fun (g : Nat × Nat × Nat) => g.1 == serial && g.2.1 == st
    let granted := fun (u : State) => (u.modStn st fun x => { x with asked := false, grant := true }).setStFlag st 6 false
    let given := s.modRing fun r => { r with grants := r.grants.filter fun g => !pair g }
    (s.enabledRing = true → ¬ leads → exec .syncIntervalTick s = .next probed)
    ∧ (s.enabledRing = true → leads → exec .syncIntervalTick s
        = .next ((probed.ringAll 0x05 [probed.ringTime, probed.calendar, 0]).ringSend probed.ringPort 0x06 []))
    ∧ (s.enabledRing = false → exec .syncIntervalTick s = .next s)
    ∧ s.Arrives (.delayProbe p hd crc t) p 0x01 hd crc [t] [] (fun u =>
        u.frameOut p 0x02 { u.ownHead p 0x02 [] with tag := hd.tag } [t, u.ringTime, 0] [])
    ∧ s.Arrives (.delayEcho p hd crc delay) p 0x02 hd crc [delay] [] (fun u => u.setReg (portKey p 2) delay)
    ∧ (∃ w : State, w = { s with free := s.free + 1 } ∧ exec (.timeSync p hd crc t cal delay) s
        = .next (w.frameIn p 0x05 hd crc [t, cal, d + Config.freeValue s.free % 2 ^ 16] [] fun u =>
          if u.ringRuns = true ∧ u.atZero = false then
            let want : Int := ((t : Int) + d) - (u.now : Int) * 1000
            let err := if u.fabric.synced = true then want - u.fabric.offset else 0
            let v := (u.setRegI 32 (key 0x2300 6) (max (-2147483648) (min 2147483647 err))).modRing fun r =>
              { r with offset := want, synced := true, lastSync := u.now }
            let aim := cal + d / 1000
            let e : Int := (aim : Int) - v.calendar
            let top : Int := (((u.now - u.fabric.lastSync) / 10000 : Nat) : Int)
            if v.reg (key 0x2300 4) ≠ 1 then v
            else if v.timeValid = false ∨ 1000 < e.natAbs then v.calendarSet aim 3
            else (v.modPower fun q => { q with calOffset := q.calOffset + max (-top) (min top e) }).setReg (key 0x2300 3) 3
          else u))
    ∧ s.Arrives (.strobeSet p hd crc n t) p 0x09 hd crc [n, t] [] (fun u => if u.ringRuns = true ∧ 12 ≤ n then
        (if t < u.ringTime then u.bump (key 0x4803 4)
          else u.modRing fun r => { r with strobes := (r.strobes.filter fun x => x.1 != n) ++ [(n, t)] }) else u)
    ∧ (s.fabric.strobes.any (fun x => x.1 == n) = true → exec (.ringStrobeTimeReached n) s
        = .next ((s.modRing fun r => { r with strobes := r.strobes.filter fun x => x.1 != n }).fireStrobes
          (List.range s.part.stations) [n]))
    ∧ (s.fabric.strobes.any (fun x => x.1 == n) = false → exec (.ringStrobeTimeReached n) s = .next s)
    ∧ s.Arrives (.grantReq p hd crc serial st true) p 0x0A hd crc [serial, st, 1] [] (fun u => if u.isMaster = false then u
        else if u.fabric.asks.contains (serial, st) = true ∨ u.fabric.grants.any pair = true then u
        else (u.modRing fun r => { r with asks := r.asks ++ [(serial, st)] }).pumpGrants)
    ∧ s.Arrives (.grantReq p hd crc serial st false) p 0x0A hd crc [serial, st, 0] [] (fun u => if u.isMaster = false then u
        else (u.modRing fun r => { r with
          asks := r.asks.filter (· != (serial, st)), grants := r.grants.filter fun g => !pair g }).pumpGrants)
    ∧ s.Arrives (.grant p hd crc serial st give) p 0x0B hd crc [serial, st, if give then 1 else 0] [] (fun u =>
        if serial ≠ u.serial ∨ u.stationPresent st = false ∨ u.ringRuns = false then u
        else if give = false then u.modStn st fun x => { x with grant := false }
        else if (u.stn st).asked = false then u
        else if ((granted u).stn st).spinPhase = 2 then (granted u).needSlot st else granted u)
    ∧ (s.isMaster = true → s.fabric.grants.any pair = true → exec (.grantExpiry serial st) s
        = .next (given.ringSend given.ringPort 0x0B [serial, st, 0]).pumpGrants)
    ∧ ((s.isMaster = false ∨ s.fabric.grants.any pair = false) → exec (.grantExpiry serial st) s = .next s)

/-- STROBE_SET whose time has passed fires nothing: RS_MISSED counts it (saturating), and every other register, every station, every
sequencer with what it waits for, and the ring's strobes stay as they were, the count of frames whose TTL has run out apart; the outputs and the ring are as the
frame's coming in and being passed on leave them. What is armed waits on, and its STROBE_TIMEOUT ends it FAILED with 0x0F53_0003: the station's command, or the order of
a sequencer. The frame comes in order, for this device, over one link, or for all. -/
def Obligations.LateRingStrobe : Prop :=
  ∀ (s : State) (p n t i m : Nat) (hd : FrameHead) (c : StnCmd) (rest : List StnStep), s.enabledRing = true → s.linkUp p = true →
    ¬ (hd.src = s.reg (ringKey 4) ∧ s.reg (ringKey 4) ≠ 0xFF) → hd.seq = s.fabric.rx.getD p 0 →
    (hd.dest = 0xFF ∨ hd.dest = 0xFE ∨ hd.dest = s.reg (ringKey 4)) → s.ringRuns = true → 12 ≤ n → t < s.ringTime →
    let next := s.modRing fun r => { r with rx := r.rx.modify p fun n => (n + 1) % 2 ^ 32 }
    let w := if hd.dest = 0xFE then next.forward p 0x09 hd [n, t] [] else next
    ∃ u, exec (.strobeSet p hd true n t) s = .next u
      ∧ u.reg (key 0x4803 4) = min (s.reg (key 0x4803 4) + 1) 4294967295
      ∧ (∀ k, k ≠ key 0x4803 4 → k ≠ ringKey 0x12 → u.reg k = s.reg k)
      ∧ u.stns = s.stns ∧ u.seqs = s.seqs ∧ u.fabric.strobes = s.fabric.strobes ∧ u.out = w.out ∧ u.fabric = w.fabric
      ∧ ((s.stn i).cmd = some c → c.taken = true → c.strobe ≠ 0 → c.steps = .spinUp :: rest →
          exec (.strobeTimeout i 3) u = .next (u.endCommand i 0x0F53_0003))
      ∧ ((s.sq (2 * i)).wait = .strobe m → exec (.strobeTimeout i 0) u = .next ((((u.modSq (2 * i) fun q =>
          { q with wait := .none }).endWhole (2 * i) latheFailed 0 0x0F53_0003)).armedView i))
      ∧ ((s.sq (2 * i + 1)).wait = .strobe m → exec (.strobeTimeout i 1) u = .next ((((u.modSq (2 * i + 1) fun q =>
          { q with wait := .none }).endWhole (2 * i + 1) latheFailed 0 0x0F53_0003)).armedView i))
      ∧ ((s.sq (16 + i)).wait = .strobe m → exec (.strobeTimeout i 2) u = .next ((((u.modSq (16 + i) fun q =>
          { q with wait := .none }).endWhole (16 + i) latheFailed 0 0x0F53_0003)).armedView i))

/-- The master encodes the next complete row of a zone: a cluster to each column it reaches, the others owed, the count of encoded bytes raised. A member's ack moves the column's row on, or
owes it; one of no row moves none. Data of a degraded read adds to the read, which goes on. A rebuild, which waits while a row waits to be encoded, sends the first row owed to a column that is
reachable again: its staged cluster, or one decoded from k others; with no row owed, or too few to build from, nothing changes. A member serves reads, writes and flushes of a column of its own
as commands of the ring, a flush of a namespace that does not exist is refused, and a member stores the volume table. Frames arrive as R390 says; out of its case, a command changes nothing. -/
def Obligations.SpreadVolumes : Prop :=
  ∀ (s : State) (v row col p lba n z : Nat) (ok flush crc : Bool) (hd : FrameHead) (lines : List Line) (x : Volume) (c : Column) (blocks : List Block)
    (parts : List MemberPart) (vols : List Volume) (left : List Nat),
    let serves := s.isMaster = true ∧ s.ecUp = true ∧ s.volume v = some x
    let sent := (List.range x.n).filter (s.upCols x).contains
    let owed := (List.range x.n).filter fun i => !(s.upCols x).contains i
    let out := s.forEach sent fun u i => u.sendRow x row i (memberBlocks x lines (x.slotOf row i) (x.memberLba row i))
    let marked := fun (cs : List Column) => ((List.range cs.length).zip cs).map fun p =>
      if owed.contains p.1 then { p.2 with owed := p.2.owed ++ [row] } else p.2
    let told := ((out.modVolume v fun y => { y with rows := putKey (row / 4000) (row % 4000 + 1) 0 y.rows, cols := marked y.cols }).modSpread fun p =>
      { p with rows := p.rows ++ [⟨v, row, sent, [], [], owed⟩] })
    let counted := (told.addReg 64 (key 0x4A00 2) (65536 * x.k)).volumeView
    let back := s.modVolume v fun y => y.modCol col fun c => { c with up := true }
    let built := fun bs => (State.sendRow ((back.modVolume v fun y =>
        y.modCol col fun c => { c with owed := left, rebuilding := !left.isEmpty }).modSpread fun p =>
        { p with rows := p.rows.map fun r => if r.v = v ∧ r.row = row then
            { r with owed := r.owed.filter (· != col), sent := r.sent ++ [col] } else r }) x row col bs).volumeView
    let others := (parts.filter fun p => p.col != col && p.col < x.n).map fun p => (x.slotOf row p.col, p.blocks.map (·.data))
    let turn := serves ∧ s.encodeWaits = false ∧ x.cols[col]? = some c
    let member := fun (u : State) (f : State → Nat → Nat → State) => if u.ringRuns = false then u else match u.ownColumn v col with
      | none => u
      | some nsid => (f (u.modNvme fun n => { n with seq := u.nvme.seq + 1, ctxs := n.ctxs ++ [⟨u.nvme.seq, ringCtrl, p, hd.tag, .fetched, false⟩] })
          u.nvme.seq nsid).settle
    (serves → row % 4000 = x.zoneRows (row / 4000) → s.rowData x row = some lines → exec (.rowEncode v row) s
        = .next (match counted.volume v with
          | some y => if counted.flushWaits y (row / 4000) then counted.memberFlush y (row / 4000) else counted
          | none => counted))
    ∧ (serves → (row % 4000 ≠ x.zoneRows (row / 4000) ∨ s.rowData x row = none) → exec (.rowEncode v row) s = .next s)
    ∧ ((s.isMaster = false ∨ s.ecUp = false ∨ s.volume v = none) → exec (.rowEncode v row) s = .next s ∧ exec (.rowRebuild v col parts) s = .next s)
    ∧ s.Arrives (.memberAck p hd crc v col flush n ok) p 0x13 hd crc [v, col, if flush then 1 else 0, n, if ok then 1 else 0] []
        (fun u => u.memberAck v col flush n ok)
    ∧ (s.volume v = none → s.memberAck v col flush n ok = s)
    ∧ (s.volume v = some x → s.spread.rows = [] → s.memberAck v col true n ok
        = (s.modSpread fun p => { p with flushing := p.flushing.filter (· != (v, n)) }).volumeView.settle)
    ∧ s.Arrives (.memberData p hd crc v row col ok blocks) p 0x11 hd crc [v, row, col, if ok then 1 else 0] blocks (fun u =>
        match u.volume v, u.spread.gets.find? (fun (g : SpreadGet) => g.v == v && g.row == row && g.asked.contains col) with
        | some x, some g => (u.serveRow x (if ok && blocks.length == 16 then { g with got := g.got ++ [(col, blocks)] }
            else { g with failed := g.failed ++ [col] })).settle
        | _, _ => u)
    ∧ (serves → (s.encodeWaits = true ∨ x.cols[col]? = none) → exec (.rowRebuild v col parts) s = .next s)
    ∧ (turn → c.owed = [] → exec (.rowRebuild v col parts) s = .next s)
    ∧ (turn → c.owed = row :: left → back.colUp { c with up := true } = false → exec (.rowRebuild v col parts) s = .next s)
    ∧ (turn → c.owed = row :: left → back.colUp { c with up := true } = true → s.rowData x row = some lines →
        exec (.rowRebuild v col parts) s = .next (built (memberBlocks x lines (x.slotOf row col) (x.memberLba row col))))
    ∧ (turn → c.owed = row :: left → back.colUp { c with up := true } = true → s.rowData x row = none → x.k ≤ others.length → ∀ ds,
        decodeRow x.k x.m others = some ds → exec (.rowRebuild v col parts) s = .next (built ((List.range 16).map fun b =>
          retag true ⟨(clustSum (codeRow x.k x.m (x.slotOf row col)) ds).getD b 0, 0⟩ (x.memberLba row col + b))))
    ∧ (turn → c.owed = row :: left → s.rowData x row = none → (others.length < x.k ∨ decodeRow x.k x.m others = none) →
        exec (.rowRebuild v col parts) s = .next s)
    ∧ s.Arrives (.memberRead p hd crc v col lba n) p 0x10 hd crc [v, col, lba, n] [] (fun u => member u fun u q nsid => u.doRead q nsid lba n piPlain)
    ∧ s.Arrives (.memberWrite p hd crc v col lba blocks) p 0x12 hd crc [v, col, lba] blocks (fun u =>
        member u fun u q nsid => u.doWrite q nsid lba blocks false false piPlain)
    ∧ s.Arrives (.memberFlush p hd crc v col z) p 0x14 hd crc [v, col, z] [] (fun u => member u fun u q nsid =>
        if u.nsIo nsid = none then u.complete q cplInvalidNs else if u.mediaReady nsid = false then u.complete q cplNotReady
        else (u.modCtx q fun x => { x with op := .flush (.zone nsid z) q 0 }).serveFlush q)
    ∧ s.Arrives (.volumeTable p hd crc vols) p 0x15 hd crc (vols.flatMap fun v => [v.v, v.k, v.m, v.lbaf, v.zones] ++ v.cols.flatMap fun c =>
          [c.serial, c.nsid, c.first, c.owed.length]) [] (fun u =>
        if u.ringRuns = true ∧ u.atZero = false then (u.modSpread fun p => { p with volumes := vols }).volumeView else u)

/-! ### Stations (chapter 5) -/

/-- A station command's step that has come to its end does what its end does and goes on to the next; one whose condition does not hold goes on running. A control store that differs is a
FAULT with record 0x0304, an unknown medium is stowed again with 0x0F53_0007, a drain with no place ends the command 0x0F53_0006, an attach queues metadata fills up to its limit and attaches a
FOLLOWING head's side. An outcome of another step changes nothing. A scheduling point counts, takes an accepted command up, makes at most one transition, starts what waited for it, and in
READY or ACTIVE issues the orders the station processor chose. The watchdog is fault cause 6. A station in READY or ACTIVE dispatches a queued operation where nothing bars it, and is ACTIVE;
an operation that completes leaves it, and the last one returns it to READY. -/
def Obligations.StationStepsAndOperations : Prop :=
  ∀ (s : State) (i nsid cl a side : Nat) (st : StnStep) (out : StepOut) (orders : List OrderReq) (c : StnCmd) (rest : List StnStep) (o : MediaOp)
    (m : Medium) (ia ib : List (List Byte)) (g : Nat) (img : SideImage),
    let t := s.stn i
    let at_ := fun st => t.cmd = some c ∧ c.taken = true ∧ c.steps = st :: rest
    let freed := (s.clearHeadFault (2 * i)).clearHeadFault (2 * i + 1)
    let ends : StnStep → State := fun st => match st with
      | .checkStore => ({ s with stores := { s.stores with
          loaded := if s.stores.loaded.contains i then s.stores.loaded else s.stores.loaded ++ [i] } }).stepOver i
      | .readClamp => (s.clampRead i c.code).stepOver i
      | .clampStroke => if s.reg (stKey i 0x22 0x0C) = 3 then s.stepOver i else s.endCommand i 0x0F53_0001
      | .acquire => if s.goodHeads i = [] then s.endCommand i 0x0F53_0004 else s.stepOver i
      | .unclamp => freed.stepOver i
      | .spinDown => (if freed.stState i = stSpinning then freed.setStation i stClamped c.code else freed).stepOver i
      | _ => s.stepOver i
    let stowed := ((s.clearMedium i).modStn i fun t => { t with cmd := some { c with steps := [.parkHeads, .spinDown], fail := 0x0F53_0007 } }).runSteps i 32
    let n := 1 + 2 * i + side
    let filling := (s.granary.lines.filter fun l => l.nsid == n && l.lock == 1).length
      + (s.granary.ops.filter fun o => o.nsid == n && o.kind == .metadata && !o.committed).length
    let may := s.substate (2 * i + side) = hsFollowing ∧ s.stFlag i (11 + side) = false ∧ (s.goodHeads i).contains (2 * i + side) = true
    let held := s.attach i side img
    let counted := (s.modStn i fun t => { t with points := t.points + 1 }).takeUp i
    let moved := if counted.stState i = s.stState i then counted.oneTransition i else counted
    let cleared := moved.modStn i fun t => { t with measWait := [], orderWait := [] }
    let placed := (cleared.forEach (moved.stn i).measWait fun u x => u.measureObject x.1 x.2).forEach (moved.stn i).orderWait fun u x => u.offerOrder x.1 x.2
    let point := if placed.resumeDue i then placed.acquireHeads i else placed
    let x := o.station
    let on := s.stState x = stReady ∨ s.stState x = stActive
    let barred := o.dispatched = true ∨ nsSpread nsid = true ∨ (s.nvme.activating ≠ none ∧ o.kind = .demand) ∨ ¬ on
      ∨ ((s.stn x).noDispatch = true ∧ o.kind ≠ .lia ∧ o.kind ≠ .tables ∧ o.kind ≠ .merge) ∨ 256 ≤ s.reg (stKey x 0 7)
      ∨ (o.kind = .prefetch ∧ s.bandsFirst x = true) ∨ (o.kind = .test ∧ s.hostQueued x = true)
    let gone := (s.modOp nsid cl fun o => { o with dispatched := true }).setReg (stKey x 0 7) (s.reg (stKey x 0 7) + 1)
    let yielded := if o.kind = .demand then gone.testYield x else gone
    let mine := fun (g : Granary) => g.ops.find? fun o => o.nsid == nsid && o.cluster == cl && o.dispatched
    let filled := if o.kind = .lia then (s.modNs nsid fun v => { v with lia := false }).liaRecord nsid
      else if o.ended = true ∨ o.kind = .tables ∨ o.kind = .test then s else s.fillEnd nsid cl
    let left := filled.modGr fun g => { g with ops := match mine g with | some o => g.ops.erase o | none => g.ops }
    let k := left.reg (stKey x 0 7) - 1
    let fewer := left.setReg (stKey x 0 7) k
    let calm := if k = 0 ∧ fewer.stState x = stActive then fewer.setStation x stReady 0x21 else fewer
    (t.cmd = none → exec (.stationCommandStepDone i out) s = .next s)
    ∧ (t.cmd = some c → (c.taken = false ∨ c.steps = []) → exec (.stationCommandStepDone i out) s = .next s)
    ∧ (at_ st → s.stepReady i st = true → exec (.stationCommandStepDone i .ok) s = .next (ends st))
    ∧ (at_ st → s.stepReady i st = false → exec (.stationCommandStepDone i .ok) s = .next s)
    ∧ (at_ .checkStore → exec (.stationCommandStepDone i (.mismatch a)) s = .next ((s.note 0x0304 (0x20 + i) (leBytes 2 a)).stnFault i 1 a))
    ∧ (at_ .acquire → exec (.stationCommandStepDone i (.recognised m)) s = .next (if m.kind ≤ 2 then s.setMedium i m else s)
        ∧ exec (.stationCommandStepDone i .unknownMedium) s = .next stowed
        ∧ exec (.stationCommandStepDone i (.identity ia ib g)) s = .next (match s.readIdentity i ia ib g with
          | some m => s.setMedium i m
          | none => stowed))
    ∧ (at_ .attach → exec (.stationCommandStepDone i (.metadata side cl)) s
          = .next (if filling < s.reg (key 0x4400 8) then s.queueFill n cl .metadata else s)
        ∧ exec (.stationCommandStepDone i (.pinned side img)) s
          = .next (if may then (if held.stepReady i .attach = true then held.stepOver i else held) else s))
    ∧ (at_ .drain → exec (.stationCommandStepDone i .noPlace) s
        = .next (((s.setStFlag i 14 false).modStn i fun t => { t with noDispatch := false }).endCommand i 0x0F53_0006))
    ∧ (at_ st → (st ≠ .checkStore → exec (.stationCommandStepDone i (.mismatch a)) s = .next s)
        ∧ (st ≠ .acquire → exec (.stationCommandStepDone i (.recognised m)) s = .next s ∧ exec (.stationCommandStepDone i .unknownMedium) s = .next s
          ∧ exec (.stationCommandStepDone i (.identity ia ib g)) s = .next s)
        ∧ (st ≠ .attach → exec (.stationCommandStepDone i (.metadata side cl)) s = .next s
          ∧ exec (.stationCommandStepDone i (.pinned side img)) s = .next s)
        ∧ (st ≠ .drain → exec (.stationCommandStepDone i .noPlace) s = .next s))
    ∧ (s.stState i = stOff → s.domState (6 * i) ≠ 3 → exec (.schedulingPoint i orders) s = .next s)
    ∧ ((s.stState i ≠ stOff ∨ s.domState (6 * i) = 3) → exec (.schedulingPoint i orders) s
        = .next (if point.stState i = stReady ∨ point.stState i = stActive then
            point.forEach orders fun u o => u.mediaOrder (seqOf i o.seq) o.code o.param else point))
    ∧ (s.stState i = stOff → exec (.stationWatchdog i) s = .next s)
    ∧ (s.stState i ≠ stOff → exec (.stationWatchdog i) s = .next (s.stnFault i 6 (t.points % 2 ^ 32)))
    ∧ (s.op nsid cl = none → exec (.mediaOpDispatch nsid cl) s = .next s)
    ∧ (s.op nsid cl = some o → barred → exec (.mediaOpDispatch nsid cl) s = .next s)
    ∧ (s.op nsid cl = some o → ¬ barred → exec (.mediaOpDispatch nsid cl) s
        = .next (if s.stState x = stReady then yielded.setStation x stActive 0x20 else yielded))
    ∧ (mine s.granary = none → exec (.mediaOpComplete nsid cl) s = .next s)
    ∧ (mine s.granary = some o → (nsSpread nsid = true ∨ (¬ on ∧ s.stState x ≠ stMaint)) → exec (.mediaOpComplete nsid cl) s = .next s)
    ∧ (mine s.granary = some o → nsSpread nsid = false → (on ∨ s.stState x = stMaint) → exec (.mediaOpComplete nsid cl) s
        = .next (if o.kind = .test then calm.testReadEnds o else calm).settle)

/-- ILK_N open drops both heads in every state; with the station processors up it takes READY or ACTIVE to SPINNING and counts, and a LOAD that acquires waits with WAIT_ILK; closed, that
wait ends and the next scheduling point acquires. DISC_PRES going low under a clamped disc is a mismatch, otherwise the flag follows the pin. In EMPTY, AUTO_CLAMP issues CLAMP when a disc
is there, IDLE_OFF_TIME gates the station when none is. A late strobe ends what waited for it 0x0F53_0003. A head of an acquisition that is below TRACKING when the time is up is in HEAD_FAULT
with cause 3. Out of its case an event changes nothing. -/
def Obligations.StationSensorsAndStrobes : Prop :=
  ∀ (s : State) (i h n who : Nat) (high : Bool) (c : StnCmd) (rest : List StnStep),
    let t := s.stn i
    let up := s.powerState = psRun ∨ s.powerState = psBoot
    let dropped := ((s.modPins fun p => { p with ilkOpen := setBit p.ilkOpen i }).headDrop (2 * i)).headDrop (2 * i + 1)
    let live := dropped.powerState = psRun ∨ dropped.powerState = psBoot
    let seen := dropped.pinView i
    let spun := if dropped.stState i = stReady ∨ dropped.stState i = stActive then
      ((seen.setStation i stSpinning 0x24).bump (stKey i 0xE0 6)).modStn i fun t => { t with resuming := true } else seen
    let opened := spun.modStn i fun t => { t with offered := false }
    let closed := s.modPins fun p => { p with ilkOpen := p.ilkOpen - (if bitOf p.ilkOpen i then 2 ^ i else 0) }
    let pin := s.modPins fun p => { p with discPres := if high then setBit p.discPres i else p.discPres - (if bitOf p.discPres i then 2 ^ i else 0) }
    let clamped := (stClamped ≤ s.stState i ∧ s.stState i ≤ stActive) ∨ (s.stState i = stMaint ∧ stClamped ≤ t.maintFrom)
    let clamps := s.stState i = stEmpty ∧ s.reg (stKey i 0 9) = 1 ∧ s.stFlag i 0 = true ∧ t.cmd = none ∧ s.hasOrder (16 + i) 0x12 = false
    let idles := s.stState i = stEmpty ∧ s.reg (stKey i 0 0x0C) ≠ 0 ∧ s.stFlag i 0 = false ∧ t.cmd = none
    let armed := t.cmd = some c ∧ c.taken = true ∧ c.strobe ≠ 0 ∧ c.steps = .spinUp :: rest
    let fail := fun (e : Nat) => ((s.modSq e fun q => { q with wait := .none }).endWhole e latheFailed 0 0x0F53_0003).armedView i
    let late := (s.stState (h / 2) = stSpinning ∨ s.stState (h / 2) = stMaint) ∧ (s.stn (h / 2)).offered = true
      ∧ (s.goodHeads (h / 2)).contains h = true ∧ s.substate h < hsTracking
    (s.ilkOpen i = true → exec (.ilkNOpen i) s = .next s)
    ∧ (s.ilkOpen i = false → live → exec (.ilkNOpen i) s = .next (if spun.acquiring i = true then opened.setStFlag i 7 true else opened))
    ∧ (s.ilkOpen i = false → ¬ live → exec (.ilkNOpen i) s = .next dropped)
    ∧ (s.ilkOpen i = false → exec (.ilkNClose i) s = .next s)
    ∧ (s.ilkOpen i = true → up → exec (.ilkNClose i) s = .next ((closed.pinView i).setStFlag i 7 false))
    ∧ (s.ilkOpen i = true → ¬ up → exec (.ilkNClose i) s = .next closed)
    ∧ (up → s.discHigh i = true → high = false → clamped → exec (.discPresChange i high) s = .next ((pin.pinView i).discMismatch i))
    ∧ (up → (s.discHigh i = false ∨ high = true ∨ ¬ clamped) → exec (.discPresChange i high) s = .next (pin.pinView i))
    ∧ (¬ up → exec (.discPresChange i high) s = .next pin)
    ∧ (clamps → exec (.autoClampDelayExpiry i) s = .next (s.issueStation i 0x12 0))
    ∧ (¬ clamps → exec (.autoClampDelayExpiry i) s = .next s)
    ∧ (idles → exec (.idleOffTimeExpiry i) s
        = .next ((s.modStn i fun t => { t with psen := false, psenDrop := false }).setStation i stOff 0x23))
    ∧ (¬ idles → exec (.idleOffTimeExpiry i) s = .next s)
    ∧ (armed → exec (.strobeTimeout i 3) s = .next (s.endCommand i 0x0F53_0003))
    ∧ (t.cmd = none → exec (.strobeTimeout i 3) s = .next s)
    ∧ (t.cmd = some c → (c.taken = false ∨ c.strobe = 0 ∨ c.steps.head? ≠ some .spinUp) → exec (.strobeTimeout i 3) s = .next s)
    ∧ ((s.sq (2 * i)).wait = .strobe n → exec (.strobeTimeout i 0) s = .next (fail (2 * i)))
    ∧ ((s.sq (2 * i + 1)).wait = .strobe n → exec (.strobeTimeout i 1) s = .next (fail (2 * i + 1)))
    ∧ ((s.sq (16 + i)).wait = .strobe n → exec (.strobeTimeout i 2) s = .next (fail (16 + i)))
    ∧ (who ≠ 3 → (∀ n, (s.sq (seqOf i who)).wait ≠ .strobe n) → exec (.strobeTimeout i who) s = .next s)
    ∧ (late → exec (.headAcqTimeout h) s = .next (s.setHeadFault h 3))
    ∧ (¬ late → exec (.headAcqTimeout h) s = .next s)

/-! ### Writing (chapter 12) -/

/-- WRITE_START is REJECTED where its conditions or its place do not hold; accepted, it allocates, sends levels and holds the band; a passed start drops it 0x0F5C_0001; opened, a test band lays
its clusters, every beam that can write begins its buffered cluster, the head is WRITING and the order ends. A cluster with more to write than its tail, or on a defective place, first gets its
replacement place; a full cluster that is ready in time is WRITING and takes a buffer, a late one counts, one with blocks missing asks for a merge fill once, one that is not ready changes no
more. An opened band ends by BAND_END; WRITE_STOP ends it after the clusters in progress, and is DONE at once where the head does not write. Inhibited gates reopen when the head follows again,
nothing waits and it has been quiet. Out of its case a command changes nothing. -/
def Obligations.WriteBands : Prop :=
  ∀ (s : State) (h b nsid cl start sectors mask : Nat) (late closed : Bool) (ev : WriteEvent) (d : Band) (l : Line),
    let x := s.sq h
    let runs := s.runs h 0x0C = true
    let direct := s.directOrder h = true
    let wr := wrKey h
    let at_ := if direct then s.reg (wr 3) else start
    let beams := (if direct then s.reg (wr 5) else mask) % 2 ^ s.beams
    let n := if direct then s.reg (wr 4) else max 18 (min (sectors / 18 * 18) (s.bandLimit h at_))
    let place := if direct then s.stState (h / 2) = stMaint ∧ inTest (s.daf2 (h / 2)) at_ = true else at_ % 2 ^ 26 % 18 = 0
    let u := s.allocRedo h
    let named := u.setRegs [(wr 3, at_), (wr 4, n), (wr 1, 1)]
    let sent := named.sendLevels h (named.reg (hdKey h 0x13 1)) beams
    let armed := sent.forEach ((bitsIn 8 beams).filter (sent.canWrite h)) fun w b => w.setLane h b 1
    let nextOf := fun (w : State) b => match (w.hd h).gates[b]? with | some g => g.next | none => none
    let go := (bitsIn 8 d.mask).filter fun b => s.canWrite h b && (d.test || (nextOf s b).isSome)
    let opened := s.modHd h fun y => { y with band := some { d with opened := true }, pklWait := false }
    let laid := if d.test = true then opened.forEach go fun w b => w.forEach (List.range (d.sectors / 18)) fun w j =>
        w.layTest h b (placeName (d.start / 2 ^ 29 % 8) ((s.reg (hdKey h 0x13 3) + b) % 8) (psaIndex d.start / 18 + j)) else opened
    let begun := laid.forEach go fun w b => w.beginCluster h b (nextOf w b)
    let r := (u.retail h nsid cl).avoidDefect h nsid cl
    let gate := (r.hd h).gates.getD b Gate.init
    let ready := d.test = false ∧ d.stopping = false ∧ bitOf d.mask b = true ∧ r.canWrite h b = true ∧ r.readyFor h b d l = true
      ∧ (gate.open_ = true ∨ gate.next = none) ∧ (d.opened = false ∨ (r.hd h).inhibited = false ∨ gate.open_ = true)
    let held := (r.hd h).band = some d ∧ r.line nsid cl = some l
    let reopens := d.opened = true ∧ d.stopping = false ∧ (s.hd h).inhibited = true ∧ s.substate h = hsFollowing ∧ s.loopState h 0 = lsClosed
      ∧ s.loopState h 1 = lsClosed ∧ s.tiltWait h = false ∧ (s.hd h).quietFrom + s.reg (stKey (h / 2) 0xD0 5) ≤ s.now
    (s.runs h 0x0C = false → exec (.writeStart h ev) s = .next s)
    ∧ (runs → x.started = 0 → s.shockOut (h / 2) = true → exec (.writeStart h (.begin start sectors mask)) s = .next (s.orderRejected h 6))
    ∧ (runs → x.started = 0 → s.shockOut (h / 2) = false → (s.writeOk h at_ = false ∨ ¬ place) →
        exec (.writeStart h (.begin start sectors mask)) s = .next (s.orderRejected h 1))
    ∧ (runs → x.started = 0 → s.shockOut (h / 2) = false → s.writeOk h at_ = true → place → exec (.writeStart h (.begin start sectors mask)) s
        = .next ((armed.modHd h fun y => { y with band := some ⟨at_, n, beams, s.directOrder h, false, false, []⟩, inhibited := false
                                                  gates := y.gates.map fun g => { g with open_ := false, cur := none, next := none, data := [] } }).modSq h
          fun q => { q with started := 1 }))
    ∧ (runs → x.started = 0 → exec (.writeStart h .opened) s = .next s ∧ exec (.writeStart h .passed) s = .next s)
    ∧ (runs → x.started ≠ 0 → exec (.writeStart h .passed) s = .next (s.dropBand h 0x0F5C_0001)
        ∧ exec (.writeStart h (.begin start sectors mask)) s = .next s)
    ∧ (runs → x.started ≠ 0 → (s.hd h).band = some d → exec (.writeStart h .opened) s
        = .next ((if go = [] then begun else begun.beginWriting h).orderDone h 0))
    ∧ (runs → x.started ≠ 0 → (s.hd h).band = none → exec (.writeStart h .opened) s = .next (s.orderRejected h 1))
    ∧ (((r.hd h).band = none ∨ r.line nsid cl = none) → exec (.clusterBuffered h b nsid cl late) s = .next r)
    ∧ (held → ¬ ready → exec (.clusterBuffered h b nsid cl late) s = .next r)
    ∧ (held → ready → r.fullLine l = false → exec (.clusterBuffered h b nsid cl late) s
        = .next (if r.op nsid cl = none then r.queueFill nsid cl .merge else r))
    ∧ (held → ready → r.fullLine l = true → exec (.clusterBuffered h b nsid cl true) s = .next (r.bump (wr 0x0B))
        ∧ exec (.clusterBuffered h b nsid cl false) s
          = .next (((((if l.state = .writing then r.unverified nsid cl else r).modLine nsid cl fun l =>
              { l with state := .writing, later := none, laterMask := 0 }).bufferChecks h l).takeBuffer h b (clusterId nsid cl) l)))
    ∧ ((s.hd h).band = some d → exec (.bandEnd h) s = .next (if d.opened = true then s.endBand h (!d.stopping) else s))
    ∧ ((s.hd h).band = none → exec (.bandEnd h) s = .next s ∧ exec (.gateReopen h) s = .next s)
    ∧ (s.runs h 0x0D = true → s.substate h ≠ hsWriting → exec (.writeStop h closed) s = .next (s.orderDone h 0))
    ∧ (s.runs h 0x0D = true → s.substate h = hsWriting → x.started = 0 → exec (.writeStop h closed) s
        = .next ((s.modHd h fun y => { y with band := y.band.map fun b => { b with stopping := true } }).modSq h fun q =>
          { q with started := 1 }))
    ∧ (s.runs h 0x0D = true → s.substate h = hsWriting → x.started ≠ 0 → exec (.writeStop h true) s
        = .next ((s.endBand h false).orderDone h 0) ∧ exec (.writeStop h false) s = .next s)
    ∧ (s.runs h 0x0D = false → exec (.writeStop h closed) s = .next s)
    ∧ ((s.hd h).band = some d → reopens → exec (.gateReopen h) s
          = .next (((s.forEach ((bitsIn 8 d.mask).filter (s.canWrite h)) fun w b => w.setLane h b 1).modHd h fun y =>
            { y with inhibited := false }).setReg (wr 1) 1))
    ∧ ((s.hd h).band = some d → ¬ reopens → exec (.gateReopen h) s = .next s)

/-- FOLLOW does what its events do; a jump back confirmed only after s0 has passed is counted and followed by another. POWER_CAL out of FOLLOWING or of a test area is REJECTED, without a free
test cluster fails 0x0F5C_0003; else it sends its levels, writes its test clusters and waits; read, each beam counts its test cluster as used, and the calibration is DONE where a beam has a
result, else fails 0x0F5C_0004. A PKL message not acknowledged fails the write order or the calibration 0x0F5C_0002. A verify result waits for its sectors' first pass; one of a cluster not
awaited changes nothing; one that passes counts, records and verifies the cluster, one that does not counts, and the cluster is re-placed; with none awaited any more the power adapts and the
pass ends. -/
def Obligations.VerifyCalibrateFollow : Prop :=
  ∀ (s : State) (h b nsid cl : Nat) (fe : FollowEvent) (r : PilotRead) (ev : PowerCalEvent) (read : List BeamCal) (bits : List Nat) (beta : Int),
    let x := s.sq h
    let i := h / 2
    let t := s.follow h fe
    let behind := fun (r : PilotRead) => s.runs h 5 = true ∧ t.runs h 5 = false ∧ t.substate h = hsFollowing ∧ t.reg (wrKey h 1) = 3
      ∧ t.reg (wrKey h 3) % 2 ^ 26 < r.addr % 2 ^ 26
    let runs := s.runs h 0x0E = true
    let layer := s.reg (hdKey h 0x13 1)
    let p := s.reg (hdKey h 0x13 3)
    let bs := s.calBeams h x.param
    let outer := 2000 ≤ s.reg (hdKey h 0x13 4) % 2 ^ 26 / 18
    let key := fun b => testKey layer ((p + b) % 8) outer
    let place := fun (b : Nat) => placeName layer ((p + b) % 8) ((if outer then outerEnd (s.daf2 i) else 0) + usedOf (s.side (headNs h)).test (key b))
    let at_ := match bs with | b :: _ => placeCluster (place b) | [] => 0
    let may := s.substate h = hsFollowing ∧ (s.bdIn i = true ∨ inTest (s.daf2 i) (s.reg (hdKey h 0x13 4)) = true) ∧ (s.eng h).inj = .free
    let busy := s.beginResult (stIx i 0xD9)
    let sent := ((busy.sendLevels h layer (bs.foldl setBit 0)).sendPkl h 4 (leNat ((List.range 18).flatMap fun k => leBytes 2 (800 + 25 * k)))).forEach bs
      fun w b => w.layTest h b (place b)
    let mine := read.filter fun y => bs.contains y.b
    let used := (s.setReg (stKey i 0xD9 8) 0).forEach mine fun w y => w.modSide (headNs h) fun d =>
      { d with test := insertKey (key y.b) (usedOf d.test (key y.b) + 1) d.test }
    let out := mine.foldl (fun (r : State × Bool) y => ((r.1.calBeam h layer y).1, r.2 || (r.1.calBeam h layer y).2)) (used, false)
    let c := clusterId nsid cl
    let pool := s.pool.filter fun y => y.nsid == nsid && y.cl == cl && y.verify
    let soon := pool.any fun y => y.stage == .firstWait || y.stage == .first
    let bd := s.bdIn i = true
    let counts := if bd then bits else pool.map (·.errs)
    let good := (bd ∨ ∀ k, k < 18 → pool.any (fun y => y.idx == k && y.stage == .good) = true) ∧ counts.all (· ≤ s.reg (stKey i 0xD0 4)) = true
    let heard := ({ s with pool := s.pool.filter fun y => !(y.nsid == nsid && y.cl == cl && y.verify) }).modHd h fun d =>
      { d with toVerify := d.toVerify.filter (· != c), worst := max d.worst (counts.foldl max 0) }
    let passed := (((((heard.bump (wrKey h 8)).modHd h fun d => { d with betas := d.betas.modify b fun y => (y.1 + beta, y.2 + 1) }).recorded h
      c).verified nsid cl).settle)
    let failed := (heard.bump (wrKey h 9)).replaceCluster h c
    let unsure := if (heard.line nsid cl).all (·.discard) then failed else (failed.unverified nsid cl).settle
    let ended := fun (v : State) => if (v.hd h).toVerify = [] then
        let w := ((v.setReg (wrKey h 0x10) (v.hd h).worst).adaptPower h).modHd h fun d => { d with worst := 0 }
        if w.reg (wrKey h 1) = 3 ∨ w.reg (wrKey h 1) = 4 then (w.setReg (wrKey h 1) 0).passChange h else w
      else v
    (s.runs h 5 = false → exec (.follow h fe) s = .next s)
    ∧ (fe = .read r → behind r → exec (.follow h fe) s = .next ((t.bump (wrKey h 0x13)).jumpBack h 8))
    ∧ ((∀ r, fe = .read r → ¬ behind r) → exec (.follow h fe) s = .next t)
    ∧ (s.runs h 0x0E = false → exec (.powerCal h ev) s = .next s)
    ∧ (runs → x.started = 0 → ¬ may → exec (.powerCal h ev) s = .next (State.orderRejected (if (s.hd h).calObject = true then
          (s.endResult (stIx i 0xD9) [(5, h % 2), (6, layer)] codeRejected).modHd h fun d => { d with calObject := false } else s) h 1))
    ∧ (runs → x.started = 0 → may → bs = [] → exec (.powerCal h ev) s = .next (busy.calResult h 0x0F5C_0003 (busy.reg (stKey i 0xD9 7)) 0))
    ∧ (runs → x.started = 0 → may → bs ≠ [] → exec (.powerCal h ev) s = .next (((sent.modHd h fun d =>
          { d with pklWait := true, calObject := true, bandNo := d.bandNo - 1 }).setReg (wrKey h 1) 5).modSq h fun q => { q with started := 1 }))
    ∧ (runs → x.started ≠ 0 → exec (.powerCal h .begin) s = .next s)
    ∧ (runs → x.started ≠ 0 → out.2 = true → exec (.powerCal h (.read read)) s = .next ((out.1.setRegs
          [(lvKey h 0x59, out.1.reg (wrKey h 0x12)), (lvKey h 0x5A, out.1.calendar)]).calResult h 0 at_ (out.1.reg (stKey i 0xD9 8))))
    ∧ (runs → x.started ≠ 0 → out.2 = false → exec (.powerCal h (.read read)) s = .next (out.1.calResult h 0x0F5C_0004 at_ 0))
    ∧ ((s.hd h).pklWait = true → s.runs h 0x0C = true → exec (.pklAckTimeout h) s = .next (s.dropBand h 0x0F5C_0002))
    ∧ ((s.hd h).pklWait = true → s.runs h 0x0C = false → exec (.pklAckTimeout h) s
        = .next (if runs then s.calResult h 0x0F5C_0002 (s.reg (stKey i 0xD9 7)) 0 else s))
    ∧ ((s.hd h).pklWait = false → exec (.pklAckTimeout h) s = .next s)
    ∧ (((s.hd h).toVerify.contains c = false ∨ soon = true) → exec (.verifyResult h b nsid cl bits beta) s = .next s)
    ∧ ((s.hd h).toVerify.contains c = true → soon = false → good → exec (.verifyResult h b nsid cl bits beta) s = .next (ended passed))
    ∧ ((s.hd h).toVerify.contains c = true → soon = false → ¬ good → exec (.verifyResult h b nsid cl bits beta) s = .next (ended unsure))

/-! ### The step, reset and what every step keeps -/

/-- For every command and state: with the command at the front of the queue, the step is the command's effect on the state whose
queue is the rest. The queue is the model's own (log entry 1): the spec's commands come from outside, one at a time. -/
def Obligations.StepRunsFrontCommand : Prop :=
  ∀ (c : Instr) (rest : List Instr) (s : State),
    step { s with pending := c :: rest } = exec c { s with pending := rest }

/-- On an empty queue the step adds one microsecond to the clock, gives every clamp that moves its set-point where one is due, and compares what the TPDOs map (log entry 2, a DESIGN CHOICE: the
spec has no command for a tick); with no clamp moving and every TPDO switched off nothing else changes. No command of this block stops it: every step answers a next state. -/
def Obligations.IdleStepsAndAnswers : Prop :=
  ∀ s : State,
    let later : State := { s with now := s.now + 1 }
    (s.pending = [] → step s = .next (later.forEach (List.range s.part.stations) State.clampPoint).tpdoScan)
    ∧ (s.pending = [] → (∀ n, n < 8 → s.tpdoOn n = false) → (∀ i, i < s.part.stations → (s.stn i).stroke = .none) → step s = .next later)
    ∧ ∃ t, step s = .next t

/-- Right after reset POWER_STATE is BOOT, every rail enable is low and Hearth runs on the 16 MHz oscillator; CAN has not booted, the
window is IDLE with no refusal, no host controller is enabled; every station is OFF and every laser is off, no line holds data, the
ring is off, the next record is number 1; and every register but CLOCK_STATUS reads its default. The defaults the spec does not
state are the model's choice (log entry 4). -/
def Obligations.ResetValues : Prop :=
  let s := State.reset
  s.powerState = psBoot ∧ s.rails = 0 ∧ s.on16 = true ∧ s.reg (key 0x2100 3) = 0
    ∧ s.can.nmt = .initialising ∧ s.can.booted = false ∧ s.bar2.state = .idle ∧ s.bar2.winRefused = 0
    ∧ (∀ c ∈ s.nvme.ctrls, c.en = false ∧ c.rdy = false) ∧ (∀ i, i < 8 → s.stState i = stOff) ∧ s.allDark = true
    ∧ s.granary.lines = [] ∧ s.ringState = rsDisabled ∧ s.ledger.nextSeq = 1 ∧ s.ledger.sram = []
    ∧ (∀ k, k ≠ key 0x2100 0x0D → s.reg k = regDefault s.part k) ∧ ∀ k, s.raw k = rawDefault k

/-- Right after reset the part is one of the twelve, the registers, the byte strings and the engines' tables are in canonical form
(equal contents are equal data, log entry 5), and every station is dark. -/
def Obligations.ResetMeetsInvariants : Prop :=
  State.reset.part.legal = true ∧ State.reset.regsWf = true ∧ State.reset.rawsWf = true ∧ State.reset.tablesWf = true
    ∧ State.reset.allDark = true

/-- For every state in which the part is legal and the registers, the byte strings and the six engine tables are in canonical form
(keys rising, no entry equal to what its key reads as unlisted), every step, whichever of the 376 commands it runs, answers only
states of which the same holds. -/
def Obligations.StepKeepsCanonicalForm : Prop :=
  ∀ s t : State, step s = .next t →
    s.part.legal = true → s.regsWf = true → s.rawsWf = true → s.tablesWf = true →
    t.part.legal = true ∧ t.regsWf = true ∧ t.rawsWf = true ∧ t.tablesWf = true

/-- For every state: a step leaves the part as it is, leaves the queue without its front command and otherwise as it was, keeps every
output sent before in its place, and never goes back in the count of free values (log entry 3, the model's own), so that no free
value is handed out twice. -/
def Obligations.StepKeepsPartQueueOutputs : Prop :=
  ∀ s t : State, step s = .next t →
    t.part = s.part ∧ t.pending = s.pending.tail ∧ (∃ sent, t.out = s.out ++ sent) ∧ s.free ≤ t.free

/-- When ILK_N of a station opens, from any state of the station, every laser-power loop of its two heads is OFF in the next state
and both heads are in LASER_OFF. When PFW_N is asserted outside HEARTH and FAILED, every laser-power loop of every station of the
part is OFF in the next state. -/
def Obligations.LasersGoDark : Prop :=
  ∀ (s : State) (i : Nat), i < 8 →
    (s.ilkOpen i = false → ∃ t, exec (.ilkNOpen i) s = .next t ∧ t.ilkOpen i = true ∧ t.stationDark i = true
      ∧ t.substate (2 * i) = hsOff ∧ t.substate (2 * i + 1) = hsOff)
    ∧ (s.power.latched = false → s.power.dark = false → s.powerState ≠ psHearth → s.powerState ≠ psFailed → i < s.part.stations →
        s.part.stations ≤ 8 → ∃ t, exec .pfwNAssert s = .next t ∧ t.stationDark i = true)
end

