-- ==== Sys2Proof/Laws/Exec.lean ====
section
/-! SUPPORT. `exec` of each command is its meaning: the lemmas by which a proof goes from a command to its definition. -/

namespace Sys2Proof.Machine

variable (s : State)

@[simp] theorem exec_dictWrite (dr ix sx v w) : exec (.dictWrite dr ix sx v w) s = execDictWrite dr ix sx v w s := rfl
@[simp] theorem exec_sdoInitiate (bus usdo ix sx req brs w) : exec (.sdoInitiate bus usdo ix sx req brs w) s = execSdoInitiate bus usdo ix sx req brs w s := rfl
@[simp] theorem exec_sdoSegment (bus usdo seg brs w) : exec (.sdoSegment bus usdo seg brs w) s = execSdoSegment bus usdo seg brs w s := rfl
@[simp] theorem exec_sdoTimeout (bus usdo) : exec (.sdoTimeout bus usdo) s = execSdoTimeout bus usdo s := rfl
@[simp] theorem exec_nmtStart : exec .nmtStart s = execNmtStart s := rfl
@[simp] theorem exec_nmtStop : exec .nmtStop s = execNmtStop s := rfl
@[simp] theorem exec_nmtEnterPreOperational : exec .nmtEnterPreOperational s = execNmtEnterPreOperational s := rfl
@[simp] theorem exec_nmtResetCommunication : exec .nmtResetCommunication s = execNmtResetCommunication s := rfl
@[simp] theorem exec_nmtResetNode : exec .nmtResetNode s = execNmtResetNode s := rfl
@[simp] theorem exec_syncReceived (bus) : exec (.syncReceived bus) s = execSyncReceived bus s := rfl
@[simp] theorem exec_rpdoReceived (bus n data brs) : exec (.rpdoReceived bus n data brs) s = execRpdoReceived bus n data brs s := rfl
@[simp] theorem exec_tpdoEventTimer (n) : exec (.tpdoEventTimer n) s = execTpdoEventTimer n s := rfl
@[simp] theorem exec_tpdoInhibitExpiry (n) : exec (.tpdoInhibitExpiry n) s = execTpdoInhibitExpiry n s := rfl
@[simp] theorem exec_heartbeatTimer : exec .heartbeatTimer s = execHeartbeatTimer s := rfl
@[simp] theorem exec_heartbeatReceived (node) : exec (.heartbeatReceived node) s = execHeartbeatReceived node s := rfl
@[simp] theorem exec_heartbeatConsumerTimeout (j) : exec (.heartbeatConsumerTimeout j) s = execHeartbeatConsumerTimeout j s := rfl
@[simp] theorem exec_emcyInhibitExpiry : exec .emcyInhibitExpiry s = execEmcyInhibitExpiry s := rfl
@[simp] theorem exec_errorHistoryClear (dr) : exec (.errorHistoryClear dr) s = execErrorHistoryClear dr s := rfl
@[simp] theorem exec_canBusOff (bus) : exec (.canBusOff bus) s = execCanBusOff bus s := rfl
@[simp] theorem exec_busOffRecovery (bus) : exec (.busOffRecovery bus) s = execBusOffRecovery bus s := rfl
@[simp] theorem exec_bar2DirectWrite (ix sx width v w) : exec (.bar2DirectWrite ix sx width v w) s = execBar2DirectWrite ix sx width v w s := rfl
@[simp] theorem exec_bar2DirectRead (ix sx width) : exec (.bar2DirectRead ix sx width) s = execBar2DirectRead ix sx width s := rfl
@[simp] theorem exec_winAbortRead : exec .winAbortRead s = execWinAbortRead s := rfl
@[simp] theorem exec_segOpenRead : exec .segOpenRead s = execSegOpenRead s := rfl
@[simp] theorem exec_segOpenWrite : exec .segOpenWrite s = execSegOpenWrite s := rfl
@[simp] theorem exec_segCommitWrite (w) : exec (.segCommitWrite w) s = execSegCommitWrite w s := rfl
@[simp] theorem exec_segCommitDone : exec .segCommitDone s = execSegCommitDone s := rfl
@[simp] theorem exec_segClose : exec .segClose s = execSegClose s := rfl
@[simp] theorem exec_segOffsetWrite (v) : exec (.segOffsetWrite v) s = execSegOffsetWrite v s := rfl
@[simp] theorem exec_segWindowTimeout : exec .segWindowTimeout s = execSegWindowTimeout s := rfl
@[simp] theorem exec_getObject (c cid ix sx off len) : exec (.getObject c cid ix sx off len) s = execGetObject c cid ix sx off len s := rfl
@[simp] theorem exec_setObject (c cid ix sx off data w) : exec (.setObject c cid ix sx off data w) s = execSetObject c cid ix sx off data w s := rfl
@[simp] theorem exec_storeParameters (dr sx v) : exec (.storeParameters dr sx v) s = execStoreParameters dr sx v s := rfl
@[simp] theorem exec_storeNorDone : exec .storeNorDone s = execStoreNorDone s := rfl
@[simp] theorem exec_restoreDefaults (dr sx v) : exec (.restoreDefaults dr sx v) s = execRestoreDefaults dr sx v s := rfl
@[simp] theorem exec_backgroundEraseDone : exec .backgroundEraseDone s = execBackgroundEraseDone s := rfl
@[simp] theorem exec_hearthPowerUp (straps fuse crc) : exec (.hearthPowerUp straps fuse crc) s = execHearthPowerUp straps fuse crc s := rfl
@[simp] theorem exec_resetNAssert : exec .resetNAssert s = execResetNAssert s := rfl
@[simp] theorem exec_resetNRelease (straps) : exec (.resetNRelease straps) s = execResetNRelease straps s := rfl
@[simp] theorem exec_crystalStable : exec .crystalStable s = execCrystalStable s := rfl
@[simp] theorem exec_railStepAdvance (k) : exec (.railStepAdvance k) s = execRailStepAdvance k s := rfl
@[simp] theorem exec_pgTimeout : exec .pgTimeout s = execPgTimeout s := rfl
@[simp] theorem exec_railRetry : exec .railRetry s = execRailRetry s := rfl
@[simp] theorem exec_pgLoss (k) : exec (.pgLoss k) s = execPgLoss k s := rfl
@[simp] theorem exec_pgLossRestart : exec .pgLossRestart s = execPgLossRestart s := rfl
@[simp] theorem exec_clockLoss (r) : exec (.clockLoss r) s = execClockLoss r s := rfl
@[simp] theorem exec_clockRestore (r) : exec (.clockRestore r) s = execClockRestore r s := rfl
@[simp] theorem exec_bootBankVerify (sel a b sealOk cust) : exec (.bootBankVerify sel a b sealOk cust) s = execBootBankVerify sel a b sealOk cust s := rfl
@[simp] theorem exec_hbmTraining (a b) : exec (.hbmTraining a b) s = execHbmTraining a b s := rfl
@[simp] theorem exec_hostReady : exec .hostReady s = execHostReady s := rfl
@[simp] theorem exec_enterHearth (dr) : exec (.enterHearth dr) s = execEnterHearth dr s := rfl
@[simp] theorem exec_wake (dr) : exec (.wake dr) s = execWake dr s := rfl
@[simp] theorem exec_clearFailed (dr) : exec (.clearFailed dr) s = execClearFailed dr s := rfl
@[simp] theorem exec_wakeGpio (n) : exec (.wakeGpio n) s = execWakeGpio n s := rfl
@[simp] theorem exec_wakeCalendarAlarm : exec .wakeCalendarAlarm s = execWakeCalendarAlarm s := rfl
@[simp] theorem exec_wakeI2c : exec .wakeI2c s = execWakeI2c s := rfl
@[simp] theorem exec_pfwNAssert : exec .pfwNAssert s = execPfwNAssert s := rfl
@[simp] theorem exec_pfwLatchClear : exec .pfwLatchClear s = execPfwLatchClear s := rfl
@[simp] theorem exec_domainWakeDone (d bad) : exec (.domainWakeDone d bad) s = execDomainWakeDone d bad s := rfl
@[simp] theorem exec_domainGateDone (d) : exec (.domainGateDone d) s = execDomainGateDone d s := rfl
@[simp] theorem exec_temporaryWakeEnd (d) : exec (.temporaryWakeEnd d) s = execTemporaryWakeEnd d s := rfl
@[simp] theorem exec_sliceIdleGate (k) : exec (.sliceIdleGate k) s = execSliceIdleGate k s := rfl
@[simp] theorem exec_inrushSlotGrant : exec .inrushSlotGrant s = execInrushSlotGrant s := rfl
@[simp] theorem exec_bistSlotPreempt (st) : exec (.bistSlotPreempt st) s = execBistSlotPreempt st s := rfl
@[simp] theorem exec_powerUp (dr st) : exec (.powerUp dr st) s = execPowerUp dr st s := rfl
@[simp] theorem exec_load (dr st target strobe) : exec (.load dr st target strobe) s = execLoad dr st target strobe s := rfl
@[simp] theorem exec_unload (dr st force) : exec (.unload dr st force) s = execUnload dr st force s := rfl
@[simp] theorem exec_stow (dr st force) : exec (.stow dr st force) s = execStow dr st force s := rfl
@[simp] theorem exec_powerDown (dr st) : exec (.powerDown dr st) s = execPowerDown dr st s := rfl
@[simp] theorem exec_enterMaint (dr st) : exec (.enterMaint dr st) s = execEnterMaint dr st s := rfl
@[simp] theorem exec_exitMaint (dr st) : exec (.exitMaint dr st) s = execExitMaint dr st s := rfl
@[simp] theorem exec_clearFault (dr st) : exec (.clearFault dr st) s = execClearFault dr st s := rfl
@[simp] theorem exec_stationStop (dr st v) : exec (.stationStop dr st v) s = execStationStop dr st v s := rfl
@[simp] theorem exec_stationCommandStepDone (st out) : exec (.stationCommandStepDone st out) s = execStationCommandStepDone st out s := rfl
@[simp] theorem exec_schedulingPoint (st orders) : exec (.schedulingPoint st orders) s = execSchedulingPoint st orders s := rfl
@[simp] theorem exec_stationWatchdog (st) : exec (.stationWatchdog st) s = execStationWatchdog st s := rfl
@[simp] theorem exec_mediaOpDispatch (nsid cl) : exec (.mediaOpDispatch nsid cl) s = execMediaOpDispatch nsid cl s := rfl
@[simp] theorem exec_mediaOpComplete (nsid cl) : exec (.mediaOpComplete nsid cl) s = execMediaOpComplete nsid cl s := rfl
@[simp] theorem exec_strobeFire (dr st mask) : exec (.strobeFire dr st mask) s = execStrobeFire dr st mask s := rfl
@[simp] theorem exec_dstrobeFire (dr st mask) : exec (.dstrobeFire dr st mask) s = execDstrobeFire dr st mask s := rfl
@[simp] theorem exec_strobeTimeout (st who) : exec (.strobeTimeout st who) s = execStrobeTimeout st who s := rfl
@[simp] theorem exec_discPresChange (st high) : exec (.discPresChange st high) s = execDiscPresChange st high s := rfl
@[simp] theorem exec_autoClampDelayExpiry (st) : exec (.autoClampDelayExpiry st) s = execAutoClampDelayExpiry st s := rfl
@[simp] theorem exec_idleOffTimeExpiry (st) : exec (.idleOffTimeExpiry st) s = execIdleOffTimeExpiry st s := rfl
@[simp] theorem exec_ilkNOpen (st) : exec (.ilkNOpen st) s = execIlkNOpen st s := rfl
@[simp] theorem exec_ilkNClose (st) : exec (.ilkNClose st) s = execIlkNClose st s := rfl
@[simp] theorem exec_headAcqTimeout (h) : exec (.headAcqTimeout h) s = execHeadAcqTimeout h s := rfl
@[simp] theorem exec_directOrder (dr st v) : exec (.directOrder dr st v) s = execDirectOrder dr st v s := rfl
@[simp] theorem exec_loopSample (e l det u ang) : exec (.loopSample e l det u ang) s = execLoopSample e l det u ang s := rfl
@[simp] theorem exec_loopCmdOff (dr e l) : exec (.loopCmdOff dr e l) s = execLoopCmdOff dr e l s := rfl
@[simp] theorem exec_loopCmdOpen (dr e l) : exec (.loopCmdOpen dr e l) s = execLoopCmdOpen dr e l s := rfl
@[simp] theorem exec_loopCmdHold (dr e l) : exec (.loopCmdHold dr e l) s = execLoopCmdHold dr e l s := rfl
@[simp] theorem exec_loopCmdClose (dr e l) : exec (.loopCmdClose dr e l) s = execLoopCmdClose dr e l s := rfl
@[simp] theorem exec_defectSet (h) : exec (.defectSet h) s = execDefectSet h s := rfl
@[simp] theorem exec_defectClear (h) : exec (.defectClear h) s = execDefectClear h s := rfl
@[simp] theorem exec_residualHold (e l) : exec (.residualHold e l) s = execResidualHold e l s := rfl
@[simp] theorem exec_residualClear (e l) : exec (.residualClear e l) s = execResidualClear e l s := rfl
@[simp] theorem exec_varianceWindowEnd (e l) : exec (.varianceWindowEnd e l) s = execVarianceWindowEnd e l s := rfl
@[simp] theorem exec_holdExpired (e l) : exec (.holdExpired e l) s = execHoldExpired e l s := rfl
@[simp] theorem exec_coefHoldOverrun (e l) : exec (.coefHoldOverrun e l) s = execCoefHoldOverrun e l s := rfl
@[simp] theorem exec_apply (dr e) : exec (.apply dr e) s = execApply dr e s := rfl
@[simp] theorem exec_ffBinUpdate (h table bin) : exec (.ffBinUpdate h table bin) s = execFfBinUpdate h table bin s := rfl
@[simp] theorem exec_injEnable (dr e v) : exec (.injEnable dr e v) s = execInjEnable dr e v s := rfl
@[simp] theorem exec_captureRequest (dr e v) : exec (.captureRequest dr e v) s = execCaptureRequest dr e v s := rfl
@[simp] theorem exec_captureTrigger (e) : exec (.captureTrigger e) s = execCaptureTrigger e s := rfl
@[simp] theorem exec_captureDone (e) : exec (.captureDone e) s = execCaptureDone e s := rfl
@[simp] theorem exec_captureTimeout (e) : exec (.captureTimeout e) s = execCaptureTimeout e s := rfl
@[simp] theorem exec_measureLoop (dr e req) : exec (.measureLoop dr e req) s = execMeasureLoop dr e req s := rfl
@[simp] theorem exec_measureLoopDone (e) : exec (.measureLoopDone e) s = execMeasureLoopDone e s := rfl
@[simp] theorem exec_focusOn (h ev) : exec (.focusOn h ev) s = execFocusOn h ev s := rfl
@[simp] theorem exec_trackOn (h ev) : exec (.trackOn h ev) s = execTrackOn h ev s := rfl
@[simp] theorem exec_layerJump (h ev) : exec (.layerJump h ev) s = execLayerJump h ev s := rfl
@[simp] theorem exec_trackJump (h ev) : exec (.trackJump h ev) s = execTrackJump h ev s := rfl
@[simp] theorem exec_follow (h ev) : exec (.follow h ev) s = execFollow h ev s := rfl
@[simp] theorem exec_park (h) : exec (.park h) s = execPark h s := rfl
@[simp] theorem exec_calibrateLoop (h ev) : exec (.calibrateLoop h ev) s = execCalibrateLoop h ev s := rfl
@[simp] theorem exec_recoveryConfirmExpiry (h) : exec (.recoveryConfirmExpiry h) s = execRecoveryConfirmExpiry h s := rfl
@[simp] theorem exec_saSettled (h) : exec (.saSettled h) s = execSaSettled h s := rfl
@[simp] theorem exec_saSettleTimeout (h) : exec (.saSettleTimeout h) s = execSaSettleTimeout h s := rfl
@[simp] theorem exec_addressTimeout (h) : exec (.addressTimeout h) s = execAddressTimeout h s := rfl
@[simp] theorem exec_trkCaptureTimeout (h) : exec (.trkCaptureTimeout h) s = execTrkCaptureTimeout h s := rfl
@[simp] theorem exec_layerTimeout (h) : exec (.layerTimeout h) s = execLayerTimeout h s := rfl
@[simp] theorem exec_overpower (h b) : exec (.overpower h b) s = execOverpower h b s := rfl
@[simp] theorem exec_pklLoss (h) : exec (.pklLoss h) s = execPklLoss h s := rfl
@[simp] theorem exec_pklRetrain (h ok) : exec (.pklRetrain h ok) s = execPklRetrain h ok s := rfl
@[simp] theorem exec_writeGuardInhibit (h guard) : exec (.writeGuardInhibit h guard) s = execWriteGuardInhibit h guard s := rfl
@[simp] theorem exec_beamOfftrack (h b o) : exec (.beamOfftrack h b o) s = execBeamOfftrack h b o s := rfl
@[simp] theorem exec_spinUp (st ev) : exec (.spinUp st ev) s = execSpinUp st ev s := rfl
@[simp] theorem exec_startMeasureEnd (st) : exec (.startMeasureEnd st) s = execStartMeasureEnd st s := rfl
@[simp] theorem exec_spinDown (st) : exec (.spinDown st) s = execSpinDown st s := rfl
@[simp] theorem exec_stopBrakeEnd (st) : exec (.stopBrakeEnd st) s = execStopBrakeEnd st s := rfl
@[simp] theorem exec_setSpeed (st) : exec (.setSpeed st) s = execSetSpeed st s := rfl
@[simp] theorem exec_targetRpmWrite (dr st rpm) : exec (.targetRpmWrite dr st rpm) s = execTargetRpmWrite dr st rpm s := rfl
@[simp] theorem exec_speedLoopTick (st) : exec (.speedLoopTick st) s = execSpeedLoopTick st s := rfl
@[simp] theorem exec_atSpeed (st) : exec (.atSpeed st) s = execAtSpeed st s := rfl
@[simp] theorem exec_spinUpTimeout (st) : exec (.spinUpTimeout st) s = execSpinUpTimeout st s := rfl
@[simp] theorem exec_hallEdge (st code stamp) : exec (.hallEdge st code stamp) s = execHallEdge st code stamp s := rfl
@[simp] theorem exec_observerMissedEdge (st) : exec (.observerMissedEdge st) s = execObserverMissedEdge st s := rfl
@[simp] theorem exec_encoderZEdge (st) : exec (.encoderZEdge st) s = execEncoderZEdge st s := rfl
@[simp] theorem exec_coastStopTimeout (st) : exec (.coastStopTimeout st) s = execCoastStopTimeout st s := rfl
@[simp] theorem exec_lockedRotor (st) : exec (.lockedRotor st) s = execLockedRotor st s := rfl
@[simp] theorem exec_lockedRotorRetry (st) : exec (.lockedRotorRetry st) s = execLockedRotorRetry st s := rfl
@[simp] theorem exec_vbusSample (st mv amps) : exec (.vbusSample st mv amps) s = execVbusSample st mv amps s := rfl
@[simp] theorem exec_vbusFaultTimeout (st) : exec (.vbusFaultTimeout st) s = execVbusFaultTimeout st s := rfl
@[simp] theorem exec_sledSetPoint (h rotor) : exec (.sledSetPoint h rotor) s = execSledSetPoint h rotor s := rfl
@[simp] theorem exec_sledStall (h) : exec (.sledStall h) s = execSledStall h s := rfl
@[simp] theorem exec_sledHome (h ev) : exec (.sledHome h ev) s = execSledHome h ev s := rfl
@[simp] theorem exec_sledPark (h) : exec (.sledPark h) s = execSledPark h s := rfl
@[simp] theorem exec_seek (h ev) : exec (.seek h ev) s = execSeek h ev s := rfl
@[simp] theorem exec_sledProfileEnd (h) : exec (.sledProfileEnd h) s = execSledProfileEnd h s := rfl
@[simp] theorem exec_clampStroke (st) : exec (.clampStroke st) s = execClampStroke st s := rfl
@[simp] theorem exec_unclampStroke (st) : exec (.unclampStroke st) s = execUnclampStroke st s := rfl
@[simp] theorem exec_clampProbe (st) : exec (.clampProbe st) s = execClampProbe st s := rfl
@[simp] theorem exec_clampStall (st run bemf) : exec (.clampStall st run bemf) s = execClampStall st run bemf s := rfl
@[simp] theorem exec_clampStrokeLimit (st) : exec (.clampStrokeLimit st) s = execClampStrokeLimit st s := rfl
@[simp] theorem exec_orderDispatch (q) : exec (.orderDispatch q) s = execOrderDispatch q s := rfl
@[simp] theorem exec_orderTimeout (q) : exec (.orderTimeout q) s = execOrderTimeout q s := rfl
@[simp] theorem exec_trapEntry (q) : exec (.trapEntry q) s = execTrapEntry q s := rfl
@[simp] theorem exec_nop (q imm) : exec (.nop q imm) s = execNop q imm s := rfl
@[simp] theorem exec_jmp (q imm) : exec (.jmp q imm) s = execJmp q imm s := rfl
@[simp] theorem exec_call (q imm) : exec (.call q imm) s = execCall q imm s := rfl
@[simp] theorem exec_ret (q imm) : exec (.ret q imm) s = execRet q imm s := rfl
@[simp] theorem exec_ldi (q d imm) : exec (.ldi q d imm) s = execLdi q d imm s := rfl
@[simp] theorem exec_lui (q d imm) : exec (.lui q d imm) s = execLui q d imm s := rfl
@[simp] theorem exec_mov (q d r imm) : exec (.mov q d r imm) s = execMov q d r imm s := rfl
@[simp] theorem exec_add (q d r imm) : exec (.add q d r imm) s = execAdd q d r imm s := rfl
@[simp] theorem exec_sub (q d r imm) : exec (.sub q d r imm) s = execSub q d r imm s := rfl
@[simp] theorem exec_addi (q d imm) : exec (.addi q d imm) s = execAddi q d imm s := rfl
@[simp] theorem exec_and (q d r imm) : exec (.and q d r imm) s = execAnd q d r imm s := rfl
@[simp] theorem exec_or (q d r imm) : exec (.or q d r imm) s = execOr q d r imm s := rfl
@[simp] theorem exec_xor (q d r imm) : exec (.xor q d r imm) s = execXor q d r imm s := rfl
@[simp] theorem exec_shift (q d imm) : exec (.shift q d imm) s = execShift q d imm s := rfl
@[simp] theorem exec_mul (q d r imm) : exec (.mul q d r imm) s = execMul q d r imm s := rfl
@[simp] theorem exec_cmp (q d r imm) : exec (.cmp q d r imm) s = execCmp q d r imm s := rfl
@[simp] theorem exec_cmpi (q d imm) : exec (.cmpi q d imm) s = execCmpi q d imm s := rfl
@[simp] theorem exec_fld (q d r imm) : exec (.fld q d r imm) s = execFld q d r imm s := rfl
@[simp] theorem exec_fst (q d r imm) : exec (.fst q d r imm) s = execFst q d r imm s := rfl
@[simp] theorem exec_lcmd (q d imm) : exec (.lcmd q d imm) s = execLcmd q d imm s := rfl
@[simp] theorem exec_hold (q imm) : exec (.hold q imm) s = execHold q imm s := rfl
@[simp] theorem exec_gate (q imm) : exec (.gate q imm) s = execGate q imm s := rfl
@[simp] theorem exec_laser (q imm) : exec (.laser q imm) s = execLaser q imm s := rfl
@[simp] theorem exec_pkl (q r imm) : exec (.pkl q r imm) s = execPkl q r imm s := rfl
@[simp] theorem exec_wait (q imm) : exec (.wait q imm) s = execWait q imm s := rfl
@[simp] theorem exec_waitExpiry (q) : exec (.waitExpiry q) s = execWaitExpiry q s := rfl
@[simp] theorem exec_waite (q r imm) : exec (.waite q r imm) s = execWaite q r imm s := rfl
@[simp] theorem exec_waiteCondition (q n) : exec (.waiteCondition q n) s = execWaiteCondition q n s := rfl
@[simp] theorem exec_evt (q d imm) : exec (.evt q d imm) s = execEvt q d imm s := rfl
@[simp] theorem exec_strb (q imm) : exec (.strb q imm) s = execStrb q imm s := rfl
@[simp] theorem exec_prof (q d r imm) : exec (.prof q d r imm) s = execProf q d r imm s := rfl
@[simp] theorem exec_post (q r imm) : exec (.post q r imm) s = execPost q r imm s := rfl
@[simp] theorem exec_odone (q r imm) : exec (.odone q r imm) s = execOdone q r imm s := rfl
@[simp] theorem exec_ofail (q r imm) : exec (.ofail q r imm) s = execOfail q r imm s := rfl
@[simp] theorem exec_orej (q imm) : exec (.orej q imm) s = execOrej q imm s := rfl
@[simp] theorem exec_trapret (q imm) : exec (.trapret q imm) s = execTrapret q imm s := rfl
@[simp] theorem exec_storePatrol (st single) : exec (.storePatrol st single) s = execStorePatrol st single s := rfl
@[simp] theorem exec_storeUncorrectable (st addr fetch owner same) : exec (.storeUncorrectable st addr fetch owner same) s = execStoreUncorrectable st addr fetch owner same s := rfl
@[simp] theorem exec_customerImageInstall (dr v) : exec (.customerImageInstall dr v) s = execCustomerImageInstall dr v s := rfl
@[simp] theorem exec_customerImageErase (dr v) : exec (.customerImageErase dr v) s = execCustomerImageErase dr v s := rfl
@[simp] theorem exec_sectorStart (h b det fr ask) : exec (.sectorStart h b det fr ask) s = execSectorStart h b det fr ask s := rfl
@[simp] theorem exec_huntEnd (h b gap) : exec (.huntEnd h b gap) s = execHuntEnd h b gap s := rfl
@[simp] theorem exec_lbaTranslate (dr st v) : exec (.lbaTranslate dr st v) s = execLbaTranslate dr st v s := rfl
@[simp] theorem exec_resyncBlock (h blocks) : exec (.resyncBlock h blocks) s = execResyncBlock h blocks s := rfl
@[simp] theorem exec_adcHandover (h b toSpare rms) : exec (.adcHandover h b toSpare rms) s = execAdcHandover h b toSpare rms s := rfl
@[simp] theorem exec_firstPassDone (nsid cl idx snr out) : exec (.firstPassDone nsid cl idx snr out) s = execFirstPassDone nsid cl idx snr out s := rfl
@[simp] theorem exec_retryGlobalEnd (nsid cl idx off out) : exec (.retryGlobalEnd nsid cl idx off out) s = execRetryGlobalEnd nsid cl idx off out s := rfl
@[simp] theorem exec_ldpcLaneGrant : exec .ldpcLaneGrant s = execLdpcLaneGrant s := rfl
@[simp] theorem exec_outerCodeRepair (nsid cl ok) : exec (.outerCodeRepair nsid cl ok) s = execOuterCodeRepair nsid cl ok s := rfl
@[simp] theorem exec_ringFrameDump (dr h v) : exec (.ringFrameDump dr h v) s = execRingFrameDump dr h v s := rfl
@[simp] theorem exec_writeStart (h ev) : exec (.writeStart h ev) s = execWriteStart h ev s := rfl
@[simp] theorem exec_writeStop (h closed) : exec (.writeStop h closed) s = execWriteStop h closed s := rfl
@[simp] theorem exec_powerCal (h ev) : exec (.powerCal h ev) s = execPowerCal h ev s := rfl
@[simp] theorem exec_pklAckTimeout (h) : exec (.pklAckTimeout h) s = execPklAckTimeout h s := rfl
@[simp] theorem exec_clusterBuffered (h b nsid cl late) : exec (.clusterBuffered h b nsid cl late) s = execClusterBuffered h b nsid cl late s := rfl
@[simp] theorem exec_bandEnd (h) : exec (.bandEnd h) s = execBandEnd h s := rfl
@[simp] theorem exec_verifyResult (h b nsid cl bits beta) : exec (.verifyResult h b nsid cl bits beta) s = execVerifyResult h b nsid cl bits beta s := rfl
@[simp] theorem exec_gateReopen (h) : exec (.gateReopen h) s = execGateReopen h s := rfl
@[simp] theorem exec_commandFetch (c sq cid) : exec (.commandFetch c sq cid) s = execCommandFetch c sq cid s := rfl
@[simp] theorem exec_controllerReset (c cause) : exec (.controllerReset c cause) s = execControllerReset c cause s := rfl
@[simp] theorem exec_nvmSubsystemReset (perst) : exec (.nvmSubsystemReset perst) s = execNvmSubsystemReset perst s := rfl
@[simp] theorem exec_ccEnSet (c) : exec (.ccEnSet c) s = execCcEnSet c s := rfl
@[simp] theorem exec_normalShutdown (c) : exec (.normalShutdown c) s = execNormalShutdown c s := rfl
@[simp] theorem exec_keepAliveExpiry (c) : exec (.keepAliveExpiry c) s = execKeepAliveExpiry c s := rfl
@[simp] theorem exec_connect (c req) : exec (.connect c req) s = execConnect c req s := rfl
@[simp] theorem exec_disconnect (c) : exec (.disconnect c) s = execDisconnect c s := rfl
@[simp] theorem exec_propertyGet (c cid off) : exec (.propertyGet c cid off) s = execPropertyGet c cid off s := rfl
@[simp] theorem exec_propertySet (c cid off v) : exec (.propertySet c cid off v) s = execPropertySet c cid off v s := rfl
@[simp] theorem exec_read (c cid nsid lba n pi) : exec (.read c cid nsid lba n pi) s = execRead c cid nsid lba n pi s := rfl
@[simp] theorem exec_write (c cid nsid lba data fua pi) : exec (.write c cid nsid lba data fua pi) s = execWrite c cid nsid lba data fua pi s := rfl
@[simp] theorem exec_zoneAppend (c cid nsid lba data fua pi) : exec (.zoneAppend c cid nsid lba data fua pi) s = execZoneAppend c cid nsid lba data fua pi s := rfl
@[simp] theorem exec_flush (c cid nsid) : exec (.flush c cid nsid) s = execFlush c cid nsid s := rfl
@[simp] theorem exec_zoneOpen (c cid nsid lba everyZone) : exec (.zoneOpen c cid nsid lba everyZone) s = execZoneOpen c cid nsid lba everyZone s := rfl
@[simp] theorem exec_zoneClose (c cid nsid lba everyZone) : exec (.zoneClose c cid nsid lba everyZone) s = execZoneClose c cid nsid lba everyZone s := rfl
@[simp] theorem exec_zoneFinish (c cid nsid lba everyZone) : exec (.zoneFinish c cid nsid lba everyZone) s = execZoneFinish c cid nsid lba everyZone s := rfl
@[simp] theorem exec_zoneReset (c cid nsid lba everyZone) : exec (.zoneReset c cid nsid lba everyZone) s = execZoneReset c cid nsid lba everyZone s := rfl
@[simp] theorem exec_zoneOffline (c cid nsid lba everyZone) : exec (.zoneOffline c cid nsid lba everyZone) s = execZoneOffline c cid nsid lba everyZone s := rfl
@[simp] theorem exec_zoneManagementReceive (c cid nsid lba filter limit part) : exec (.zoneManagementReceive c cid nsid lba filter limit part) s = execZoneManagementReceive c cid nsid lba filter limit part s := rfl
@[simp] theorem exec_getLogPage (c cid page nsid off len retain) : exec (.getLogPage c cid page nsid off len retain) s = execGetLogPage c cid page nsid off len retain s := rfl
@[simp] theorem exec_identify (c cid cns csi nsid) : exec (.identify c cid cns csi nsid) s = execIdentify c cid cns csi nsid s := rfl
@[simp] theorem exec_abort (c cid sq target) : exec (.abort c cid sq target) s = execAbort c cid sq target s := rfl
@[simp] theorem exec_setFeaturesArbitration (c cid v) : exec (.setFeaturesArbitration c cid v) s = execSetFeaturesArbitration c cid v s := rfl
@[simp] theorem exec_setFeaturesPowerManagement (c cid v) : exec (.setFeaturesPowerManagement c cid v) s = execSetFeaturesPowerManagement c cid v s := rfl
@[simp] theorem exec_setFeaturesTemperatureThreshold (c cid v) : exec (.setFeaturesTemperatureThreshold c cid v) s = execSetFeaturesTemperatureThreshold c cid v s := rfl
@[simp] theorem exec_setFeaturesVolatileWriteCache (c cid v) : exec (.setFeaturesVolatileWriteCache c cid v) s = execSetFeaturesVolatileWriteCache c cid v s := rfl
@[simp] theorem exec_setFeaturesNumberOfQueues (c cid v) : exec (.setFeaturesNumberOfQueues c cid v) s = execSetFeaturesNumberOfQueues c cid v s := rfl
@[simp] theorem exec_setFeaturesInterruptCoalescing (c cid v) : exec (.setFeaturesInterruptCoalescing c cid v) s = execSetFeaturesInterruptCoalescing c cid v s := rfl
@[simp] theorem exec_setFeaturesInterruptVectorConfig (c cid v) : exec (.setFeaturesInterruptVectorConfig c cid v) s = execSetFeaturesInterruptVectorConfig c cid v s := rfl
@[simp] theorem exec_setFeaturesAsyncEventConfig (c cid v) : exec (.setFeaturesAsyncEventConfig c cid v) s = execSetFeaturesAsyncEventConfig c cid v s := rfl
@[simp] theorem exec_setFeaturesTimestamp (c cid v) : exec (.setFeaturesTimestamp c cid v) s = execSetFeaturesTimestamp c cid v s := rfl
@[simp] theorem exec_setFeaturesKeepAliveTimer (c cid v) : exec (.setFeaturesKeepAliveTimer c cid v) s = execSetFeaturesKeepAliveTimer c cid v s := rfl
@[simp] theorem exec_getFeatures (c cid fid v) : exec (.getFeatures c cid fid v) s = execGetFeatures c cid fid v s := rfl
@[simp] theorem exec_asyncEventRequest (c cid) : exec (.asyncEventRequest c cid) s = execAsyncEventRequest c cid s := rfl
@[simp] theorem exec_keepAlive (c cid) : exec (.keepAlive c cid) s = execKeepAlive c cid s := rfl
@[simp] theorem exec_createIoSq (c cid qid size cq) : exec (.createIoSq c cid qid size cq) s = execCreateIoSq c cid qid size cq s := rfl
@[simp] theorem exec_createIoCq (c cid qid size) : exec (.createIoCq c cid qid size) s = execCreateIoCq c cid qid size s := rfl
@[simp] theorem exec_deleteIoSq (c cid qid) : exec (.deleteIoSq c cid qid) s = execDeleteIoSq c cid qid s := rfl
@[simp] theorem exec_deleteIoCq (c cid qid) : exec (.deleteIoCq c cid qid) s = execDeleteIoCq c cid qid s := rfl
@[simp] theorem exec_formatNvm (c cid nsid lbaf pi ses) : exec (.formatNvm c cid nsid lbaf pi ses) s = execFormatNvm c cid nsid lbaf pi ses s := rfl
@[simp] theorem exec_firmwareImageDownload (c cid off data) : exec (.firmwareImageDownload c cid off data) s = execFirmwareImageDownload c cid off data s := rfl
@[simp] theorem exec_firmwareCommitReplace (c cid slot) : exec (.firmwareCommitReplace c cid slot) s = execFirmwareCommitReplace c cid slot s := rfl
@[simp] theorem exec_firmwareCommitActivateOnReset (c cid slot) : exec (.firmwareCommitActivateOnReset c cid slot) s = execFirmwareCommitActivateOnReset c cid slot s := rfl
@[simp] theorem exec_firmwareCommitSelect (c cid slot) : exec (.firmwareCommitSelect c cid slot) s = execFirmwareCommitSelect c cid slot s := rfl
@[simp] theorem exec_firmwareCommitActivateNow (c cid slot) : exec (.firmwareCommitActivateNow c cid slot) s = execFirmwareCommitActivateNow c cid slot s := rfl
@[simp] theorem exec_actDrainTimeout : exec .actDrainTimeout s = execActDrainTimeout s := rfl
@[simp] theorem exec_deviceSelfTestShort (c cid nsid) : exec (.deviceSelfTestShort c cid nsid) s = execDeviceSelfTestShort c cid nsid s := rfl
@[simp] theorem exec_deviceSelfTestExtended (c cid nsid) : exec (.deviceSelfTestExtended c cid nsid) s = execDeviceSelfTestExtended c cid nsid s := rfl
@[simp] theorem exec_deviceSelfTestAbort (c cid) : exec (.deviceSelfTestAbort c cid) s = execDeviceSelfTestAbort c cid s := rfl
@[simp] theorem exec_selftestIdleExpiry (st) : exec (.selftestIdleExpiry st) s = execSelftestIdleExpiry st s := rfl
@[simp] theorem exec_selftestTimeLimit : exec .selftestTimeLimit s = execSelftestTimeLimit s := rfl
@[simp] theorem exec_pin (c cid nsid lba n) : exec (.pin c cid nsid lba n) s = execPin c cid nsid lba n s := rfl
@[simp] theorem exec_unpin (c cid id) : exec (.unpin c cid id) s = execUnpin c cid id s := rfl
@[simp] theorem exec_attestationQuote (c cid nonce) : exec (.attestationQuote c cid nonce) s = execAttestationQuote c cid nonce s := rfl
@[simp] theorem exec_fillCommit (nsid cl) : exec (.fillCommit nsid cl) s = execFillCommit nsid cl s := rfl
@[simp] theorem exec_blockPlaced (nsid cl b blk) : exec (.blockPlaced nsid cl b blk) s = execBlockPlaced nsid cl b blk s := rfl
@[simp] theorem exec_fillEnd (nsid cl) : exec (.fillEnd nsid cl) s = execFillEnd nsid cl s := rfl
@[simp] theorem exec_writeLineReserved (c cid) : exec (.writeLineReserved c cid) s = execWriteLineReserved c cid s := rfl
@[simp] theorem exec_mergeFillDone (nsid cl) : exec (.mergeFillDone nsid cl) s = execMergeFillDone nsid cl s := rfl
@[simp] theorem exec_tagProbe (dr v) : exec (.tagProbe dr v) s = execTagProbe dr v s := rfl
@[simp] theorem exec_scrubStep (pass words sram) : exec (.scrubStep pass words sram) s = execScrubStep pass words sram s := rfl
@[simp] theorem exec_hbmUncorrectableError (a use) : exec (.hbmUncorrectableError a use) s = execHbmUncorrectableError a use s := rfl
@[simp] theorem exec_softRepair (a) : exec (.softRepair a) s = execSoftRepair a s := rfl
@[simp] theorem exec_hardRepairWindow (oks) : exec (.hardRepairWindow oks) s = execHardRepairWindow oks s := rfl
@[simp] theorem exec_hbmAddressDecode (dr v) : exec (.hbmAddressDecode dr v) s = execHbmAddressDecode dr v s := rfl
@[simp] theorem exec_hbmInjectArm (dr v) : exec (.hbmInjectArm dr v) s = execHbmInjectArm dr v s := rfl
@[simp] theorem exec_repairMapClear (dr v) : exec (.repairMapClear dr v) s = execRepairMapClear dr v s := rfl
@[simp] theorem exec_ringEnableWrite (dr v) : exec (.ringEnableWrite dr v) s = execRingEnableWrite dr v s := rfl
@[simp] theorem exec_ringLinkBroken (p) : exec (.ringLinkBroken p) s = execRingLinkBroken p s := rfl
@[simp] theorem exec_ringLinkRetrain (p peer) : exec (.ringLinkRetrain p peer) s = execRingLinkRetrain p peer s := rfl
@[simp] theorem exec_ringFormation : exec .ringFormation s = execRingFormation s := rfl
@[simp] theorem exec_syncIntervalTick : exec .syncIntervalTick s = execSyncIntervalTick s := rfl
@[simp] theorem exec_idleFrame (p ack again) : exec (.idleFrame p ack again) s = execIdleFrame p ack again s := rfl
@[simp] theorem exec_delayProbe (p hd crc t) : exec (.delayProbe p hd crc t) s = execDelayProbe p hd crc t s := rfl
@[simp] theorem exec_delayEcho (p hd crc delay) : exec (.delayEcho p hd crc delay) s = execDelayEcho p hd crc delay s := rfl
@[simp] theorem exec_discover (p hd crc c) : exec (.discover p hd crc c) s = execDiscover p hd crc c s := rfl
@[simp] theorem exec_roster (p hd crc r) : exec (.roster p hd crc r) s = execRoster p hd crc r s := rfl
@[simp] theorem exec_timeSync (p hd crc t cal delay) : exec (.timeSync p hd crc t cal delay) s = execTimeSync p hd crc t cal delay s := rfl
@[simp] theorem exec_ringProbe (p hd crc rtt) : exec (.ringProbe p hd crc rtt) s = execRingProbe p hd crc rtt s := rfl
@[simp] theorem exec_foldNotice (p hd crc serial east) : exec (.foldNotice p hd crc serial east) s = execFoldNotice p hd crc serial east s := rfl
@[simp] theorem exec_rejoin (p hd crc t) : exec (.rejoin p hd crc t) s = execRejoin p hd crc t s := rfl
@[simp] theorem exec_rejoinTimeReached : exec .rejoinTimeReached s = execRejoinTimeReached s := rfl
@[simp] theorem exec_strobeSet (p hd crc n t) : exec (.strobeSet p hd crc n t) s = execStrobeSet p hd crc n t s := rfl
@[simp] theorem exec_ringStrobeTimeReached (n) : exec (.ringStrobeTimeReached n) s = execRingStrobeTimeReached n s := rfl
@[simp] theorem exec_grantReq (p hd crc serial st ask) : exec (.grantReq p hd crc serial st ask) s = execGrantReq p hd crc serial st ask s := rfl
@[simp] theorem exec_grant (p hd crc serial st give) : exec (.grant p hd crc serial st give) s = execGrant p hd crc serial st give s := rfl
@[simp] theorem exec_grantExpiry (serial st) : exec (.grantExpiry serial st) s = execGrantExpiry serial st s := rfl
@[simp] theorem exec_memberRead (p hd crc v col lba n) : exec (.memberRead p hd crc v col lba n) s = execMemberRead p hd crc v col lba n s := rfl
@[simp] theorem exec_memberData (p hd crc v row col ok blocks) : exec (.memberData p hd crc v row col ok blocks) s = execMemberData p hd crc v row col ok blocks s := rfl
@[simp] theorem exec_memberWrite (p hd crc v col lba data) : exec (.memberWrite p hd crc v col lba data) s = execMemberWrite p hd crc v col lba data s := rfl
@[simp] theorem exec_memberAck (p hd crc v col flush n ok) : exec (.memberAck p hd crc v col flush n ok) s = execMemberAck p hd crc v col flush n ok s := rfl
@[simp] theorem exec_memberFlush (p hd crc v col zone) : exec (.memberFlush p hd crc v col zone) s = execMemberFlush p hd crc v col zone s := rfl
@[simp] theorem exec_volumeTable (p hd crc vols) : exec (.volumeTable p hd crc vols) s = execVolumeTable p hd crc vols s := rfl
@[simp] theorem exec_rsFire (dr v) : exec (.rsFire dr v) s = execRsFire dr v s := rfl
@[simp] theorem exec_calendarTimeWrite (dr v) : exec (.calendarTimeWrite dr v) s = execCalendarTimeWrite dr v s := rfl
@[simp] theorem exec_volumeCreate (dr v far) : exec (.volumeCreate dr v far) s = execVolumeCreate dr v far s := rfl
@[simp] theorem exec_volumeDelete (dr v) : exec (.volumeDelete dr v) s = execVolumeDelete dr v s := rfl
@[simp] theorem exec_replaceColumn (dr v far) : exec (.replaceColumn dr v far) s = execReplaceColumn dr v far s := rfl
@[simp] theorem exec_rowEncode (v row) : exec (.rowEncode v row) s = execRowEncode v row s := rfl
@[simp] theorem exec_rowRebuild (v col parts) : exec (.rowRebuild v col parts) s = execRowRebuild v col parts s := rfl
@[simp] theorem exec_lifeCycleTransition (dr v prog) : exec (.lifeCycleTransition dr v prog) s = execLifeCycleTransition dr v prog s := rfl
@[simp] theorem exec_customerKeyFuse (dr v ok) : exec (.customerKeyFuse dr v ok) s = execCustomerKeyFuse dr v ok s := rfl
@[simp] theorem exec_quoteRequest (dr v) : exec (.quoteRequest dr v) s = execQuoteRequest dr v s := rfl
@[simp] theorem exec_quoteSigned : exec .quoteSigned s = execQuoteSigned s := rfl
@[simp] theorem exec_authResponse (dr data) : exec (.authResponse dr data) s = execAuthResponse dr data s := rfl
@[simp] theorem exec_authClose (dr v) : exec (.authClose dr v) s = execAuthClose dr v s := rfl
@[simp] theorem exec_authDurationExpiry : exec .authDurationExpiry s = execAuthDurationExpiry s := rfl
@[simp] theorem exec_authLockoutExpiry : exec .authLockoutExpiry s = execAuthLockoutExpiry s := rfl
@[simp] theorem exec_debugResponse (dr data) : exec (.debugResponse dr data) s = execDebugResponse dr data s := rfl
@[simp] theorem exec_idCertWrite (dr data) : exec (.idCertWrite dr data) s = execIdCertWrite dr data s := rfl
@[simp] theorem exec_recoveryInstall (dr v) : exec (.recoveryInstall dr v) s = execRecoveryInstall dr v s := rfl
@[simp] theorem exec_ledgerPost (code source payload) : exec (.ledgerPost code source payload) s = execLedgerPost code source payload s := rfl
@[simp] theorem exec_ledgerFlush : exec .ledgerFlush s = execLedgerFlush s := rfl
@[simp] theorem exec_flushIntervalExpiry : exec .flushIntervalExpiry s = execFlushIntervalExpiry s := rfl
@[simp] theorem exec_flushNow (dr v) : exec (.flushNow dr v) s = execFlushNow dr v s := rfl
@[simp] theorem exec_ledgerFlushDone (bad) : exec (.ledgerFlushDone bad) s = execLedgerFlushDone bad s := rfl
@[simp] theorem exec_freezeWrite (dr v) : exec (.freezeWrite dr v) s = execFreezeWrite dr v s := rfl
@[simp] theorem exec_cursorWrite (dr v) : exec (.cursorWrite dr v) s = execCursorWrite dr v s := rfl
@[simp] theorem exec_advance (dr v) : exec (.advance dr v) s = execAdvance dr v s := rfl
@[simp] theorem exec_ledgerClear (dr v) : exec (.ledgerClear dr v) s = execLedgerClear dr v s := rfl
@[simp] theorem exec_clearEraseStep : exec .clearEraseStep s = execClearEraseStep s := rfl
@[simp] theorem exec_rextMeasure (v) : exec (.rextMeasure v) s = execRextMeasure v s := rfl
@[simp] theorem exec_rfCalVisit (h b sp ad there back) : exec (.rfCalVisit h b sp ad there back) s = execRfCalVisit h b sp ad there back s := rfl
@[simp] theorem exec_servoAdcCal (h a f) : exec (.servoAdcCal h a f) s = execServoAdcCal h a f s := rfl
@[simp] theorem exec_dacCal (e vals) : exec (.dacCal e vals) s = execDacCal e vals s := rfl
@[simp] theorem exec_calRfVisitRound (dr v) : exec (.calRfVisitRound dr v) s = execCalRfVisitRound dr v s := rfl
@[simp] theorem exec_calHeadDacs (dr v) : exec (.calHeadDacs dr v) s = execCalHeadDacs dr v s := rfl
@[simp] theorem exec_calMotorSense (dr v) : exec (.calMotorSense dr v) s = execCalMotorSense dr v s := rfl
@[simp] theorem exec_tokenGrant : exec .tokenGrant s = execTokenGrant s := rfl
@[simp] theorem exec_bistStationCore (dr v) : exec (.bistStationCore dr v) s = execBistStationCore dr v s := rfl
@[simp] theorem exec_bistMotorIo (dr v) : exec (.bistMotorIo dr v) s = execBistMotorIo dr v s := rfl
@[simp] theorem exec_bistHeadFrontEnd (dr v) : exec (.bistHeadFrontEnd dr v) s = execBistHeadFrontEnd dr v s := rfl
@[simp] theorem exec_bistHeadChannel (dr v) : exec (.bistHeadChannel dr v) s = execBistHeadChannel dr v s := rfl
@[simp] theorem exec_bistLdpcSlice (dr v) : exec (.bistLdpcSlice dr v) s = execBistLdpcSlice dr v s := rfl
@[simp] theorem exec_bistContextSegment (dr v) : exec (.bistContextSegment dr v) s = execBistContextSegment dr v s := rfl
@[simp] theorem exec_bistEcEngine (dr v) : exec (.bistEcEngine dr v) s = execBistEcEngine dr v s := rfl
@[simp] theorem exec_bistWholeChip (dr v) : exec (.bistWholeChip dr v) s = execBistWholeChip dr v s := rfl
@[simp] theorem exec_bistPatternBlock (kind inst) : exec (.bistPatternBlock kind inst) s = execBistPatternBlock kind inst s := rfl
@[simp] theorem exec_bistPartitionEnd (kind inst sig first rows) : exec (.bistPartitionEnd kind inst sig first rows) s = execBistPartitionEnd kind inst sig first rows s := rfl
@[simp] theorem exec_poolBistTick : exec .poolBistTick s = execPoolBistTick s := rfl
@[simp] theorem exec_segmentWaitExpiry (j) : exec (.segmentWaitExpiry j) s = execSegmentWaitExpiry j s := rfl
@[simp] theorem exec_classBTimeExceeded : exec .classBTimeExceeded s = execClassBTimeExceeded s := rfl
@[simp] theorem exec_wiringTest (st) : exec (.wiringTest st) s = execWiringTest st s := rfl
@[simp] theorem exec_wiringTestRequest (dr st v) : exec (.wiringTestRequest dr st v) s = execWiringTestRequest dr st v s := rfl
@[simp] theorem exec_wiringTestEnd (st part meas) : exec (.wiringTestEnd st part meas) s = execWiringTestEnd st part meas s := rfl
@[simp] theorem exec_senseCheck (st n src snk afe) : exec (.senseCheck st n src snk afe) s = execSenseCheck st n src snk afe s := rfl
@[simp] theorem exec_eventOverrideWrite (dr ix v) : exec (.eventOverrideWrite dr ix v) s = execEventOverrideWrite dr ix v s := rfl
@[simp] theorem exec_thermalRead (tj temps) : exec (.thermalRead tj temps) s = execThermalRead tj temps s := rfl
@[simp] theorem exec_vhearthLoss : exec .vhearthLoss s = execVhearthLoss s := rfl
@[simp] theorem exec_railDownStep : exec .railDownStep s = execRailDownStep s := rfl
@[simp] theorem exec_canErrorPassive (bus passive) : exec (.canErrorPassive bus passive) s = execCanErrorPassive bus passive s := rfl
@[simp] theorem exec_ethernetLinkChange (p up) : exec (.ethernetLinkChange p up) s = execEthernetLinkChange p up s := rfl
@[simp] theorem exec_pcieLinkUp (speed width) : exec (.pcieLinkUp speed width) s = execPcieLinkUp speed width s := rfl
@[simp] theorem exec_encoderEdge (st fwd valid stamp) : exec (.encoderEdge st fwd valid stamp) s = execEncoderEdge st fwd valid stamp s := rfl
@[simp] theorem exec_securityIdleGate : exec .securityIdleGate s = execSecurityIdleGate s := rfl
@[simp] theorem exec_eyeMeasure (heights widths) : exec (.eyeMeasure heights widths) s = execEyeMeasure heights widths s := rfl
@[simp] theorem exec_perstNRelease : exec .perstNRelease s = execPerstNRelease s := rfl
@[simp] theorem exec_segWindowRegisterWrite (off v) : exec (.segWindowRegisterWrite off v) s = execSegWindowRegisterWrite off v s := rfl
@[simp] theorem exec_segCtrlInvalidOp : exec .segCtrlInvalidOp s = execSegCtrlInvalidOp s := rfl

end Sys2Proof.Machine
end

