-- ==== Sys2Proof/Laws/State.lean ====
section
/-! SUPPORT. One lemma per field per update of the state, each true by definition, so that no later proof unfolds a record
update. -/

namespace Sys2Proof.Machine

variable (s : State)

/-! #### setReg -/

@[simp] theorem State.setReg_part (k v : Nat) : (s.setReg k v).part = s.part := rfl
@[simp] theorem State.setReg_now (k v : Nat) : (s.setReg k v).now = s.now := rfl
@[simp] theorem State.setReg_raws (k v : Nat) : (s.setReg k v).raws = s.raws := rfl
@[simp] theorem State.setReg_free (k v : Nat) : (s.setReg k v).free = s.free := rfl
@[simp] theorem State.setReg_ledger (k v : Nat) : (s.setReg k v).ledger = s.ledger := rfl
@[simp] theorem State.setReg_can (k v : Nat) : (s.setReg k v).can = s.can := rfl
@[simp] theorem State.setReg_bar2 (k v : Nat) : (s.setReg k v).bar2 = s.bar2 := rfl
@[simp] theorem State.setReg_nor (k v : Nat) : (s.setReg k v).nor = s.nor := rfl
@[simp] theorem State.setReg_power (k v : Nat) : (s.setReg k v).power = s.power := rfl
@[simp] theorem State.setReg_stns (k v : Nat) : (s.setReg k v).stns = s.stns := rfl
@[simp] theorem State.setReg_heads (k v : Nat) : (s.setReg k v).heads = s.heads := rfl
@[simp] theorem State.setReg_loops (k v : Nat) : (s.setReg k v).loops = s.loops := rfl
@[simp] theorem State.setReg_engines (k v : Nat) : (s.setReg k v).engines = s.engines := rfl
@[simp] theorem State.setReg_seqs (k v : Nat) : (s.setReg k v).seqs = s.seqs := rfl
@[simp] theorem State.setReg_stores (k v : Nat) : (s.setReg k v).stores = s.stores := rfl
@[simp] theorem State.setReg_pins (k v : Nat) : (s.setReg k v).pins = s.pins := rfl
@[simp] theorem State.setReg_sides (k v : Nat) : (s.setReg k v).sides = s.sides := rfl
@[simp] theorem State.setReg_ring (k v : Nat) : (s.setReg k v).ring = s.ring := rfl
@[simp] theorem State.setReg_pool (k v : Nat) : (s.setReg k v).pool = s.pool := rfl
@[simp] theorem State.setReg_nvme (k v : Nat) : (s.setReg k v).nvme = s.nvme := rfl
@[simp] theorem State.setReg_granary (k v : Nat) : (s.setReg k v).granary = s.granary := rfl
@[simp] theorem State.setReg_sec (k v : Nat) : (s.setReg k v).sec = s.sec := rfl
@[simp] theorem State.setReg_hbm (k v : Nat) : (s.setReg k v).hbm = s.hbm := rfl
@[simp] theorem State.setReg_fabric (k v : Nat) : (s.setReg k v).fabric = s.fabric := rfl
@[simp] theorem State.setReg_spread (k v : Nat) : (s.setReg k v).spread = s.spread := rfl
@[simp] theorem State.setReg_arb (k v : Nat) : (s.setReg k v).arb = s.arb := rfl
@[simp] theorem State.setReg_cal (k v : Nat) : (s.setReg k v).cal = s.cal := rfl
@[simp] theorem State.setReg_bist (k v : Nat) : (s.setReg k v).bist = s.bist := rfl
@[simp] theorem State.setReg_selfTest (k v : Nat) : (s.setReg k v).selfTest = s.selfTest := rfl
@[simp] theorem State.setReg_out (k v : Nat) : (s.setReg k v).out = s.out := rfl
@[simp] theorem State.setReg_pending (k v : Nat) : (s.setReg k v).pending = s.pending := rfl
@[simp] theorem State.setReg_raw (k v : Nat) (x : Nat) : (s.setReg k v).raw x = s.raw x := rfl
@[simp] theorem State.setReg_stn (k v : Nat) (x : Nat) : (s.setReg k v).stn x = s.stn x := rfl
@[simp] theorem State.setReg_hd (k v : Nat) (x : Nat) : (s.setReg k v).hd x = s.hd x := rfl
@[simp] theorem State.setReg_eng (k v : Nat) (x : Nat) : (s.setReg k v).eng x = s.eng x := rfl
@[simp] theorem State.setReg_sq (k v : Nat) (x : Nat) : (s.setReg k v).sq x = s.sq x := rfl
@[simp] theorem State.setReg_lp (k v : Nat) (x y : Nat) : (s.setReg k v).lp x y = s.lp x y := rfl

/-! #### setRaw -/

@[simp] theorem State.setRaw_part (k : Nat) (b : List Byte) : (s.setRaw k b).part = s.part := rfl
@[simp] theorem State.setRaw_now (k : Nat) (b : List Byte) : (s.setRaw k b).now = s.now := rfl
@[simp] theorem State.setRaw_regs (k : Nat) (b : List Byte) : (s.setRaw k b).regs = s.regs := rfl
@[simp] theorem State.setRaw_free (k : Nat) (b : List Byte) : (s.setRaw k b).free = s.free := rfl
@[simp] theorem State.setRaw_ledger (k : Nat) (b : List Byte) : (s.setRaw k b).ledger = s.ledger := rfl
@[simp] theorem State.setRaw_can (k : Nat) (b : List Byte) : (s.setRaw k b).can = s.can := rfl
@[simp] theorem State.setRaw_bar2 (k : Nat) (b : List Byte) : (s.setRaw k b).bar2 = s.bar2 := rfl
@[simp] theorem State.setRaw_nor (k : Nat) (b : List Byte) : (s.setRaw k b).nor = s.nor := rfl
@[simp] theorem State.setRaw_power (k : Nat) (b : List Byte) : (s.setRaw k b).power = s.power := rfl
@[simp] theorem State.setRaw_stns (k : Nat) (b : List Byte) : (s.setRaw k b).stns = s.stns := rfl
@[simp] theorem State.setRaw_heads (k : Nat) (b : List Byte) : (s.setRaw k b).heads = s.heads := rfl
@[simp] theorem State.setRaw_loops (k : Nat) (b : List Byte) : (s.setRaw k b).loops = s.loops := rfl
@[simp] theorem State.setRaw_engines (k : Nat) (b : List Byte) : (s.setRaw k b).engines = s.engines := rfl
@[simp] theorem State.setRaw_seqs (k : Nat) (b : List Byte) : (s.setRaw k b).seqs = s.seqs := rfl
@[simp] theorem State.setRaw_stores (k : Nat) (b : List Byte) : (s.setRaw k b).stores = s.stores := rfl
@[simp] theorem State.setRaw_pins (k : Nat) (b : List Byte) : (s.setRaw k b).pins = s.pins := rfl
@[simp] theorem State.setRaw_sides (k : Nat) (b : List Byte) : (s.setRaw k b).sides = s.sides := rfl
@[simp] theorem State.setRaw_ring (k : Nat) (b : List Byte) : (s.setRaw k b).ring = s.ring := rfl
@[simp] theorem State.setRaw_pool (k : Nat) (b : List Byte) : (s.setRaw k b).pool = s.pool := rfl
@[simp] theorem State.setRaw_nvme (k : Nat) (b : List Byte) : (s.setRaw k b).nvme = s.nvme := rfl
@[simp] theorem State.setRaw_granary (k : Nat) (b : List Byte) : (s.setRaw k b).granary = s.granary := rfl
@[simp] theorem State.setRaw_sec (k : Nat) (b : List Byte) : (s.setRaw k b).sec = s.sec := rfl
@[simp] theorem State.setRaw_hbm (k : Nat) (b : List Byte) : (s.setRaw k b).hbm = s.hbm := rfl
@[simp] theorem State.setRaw_fabric (k : Nat) (b : List Byte) : (s.setRaw k b).fabric = s.fabric := rfl
@[simp] theorem State.setRaw_spread (k : Nat) (b : List Byte) : (s.setRaw k b).spread = s.spread := rfl
@[simp] theorem State.setRaw_arb (k : Nat) (b : List Byte) : (s.setRaw k b).arb = s.arb := rfl
@[simp] theorem State.setRaw_cal (k : Nat) (b : List Byte) : (s.setRaw k b).cal = s.cal := rfl
@[simp] theorem State.setRaw_bist (k : Nat) (b : List Byte) : (s.setRaw k b).bist = s.bist := rfl
@[simp] theorem State.setRaw_selfTest (k : Nat) (b : List Byte) : (s.setRaw k b).selfTest = s.selfTest := rfl
@[simp] theorem State.setRaw_out (k : Nat) (b : List Byte) : (s.setRaw k b).out = s.out := rfl
@[simp] theorem State.setRaw_pending (k : Nat) (b : List Byte) : (s.setRaw k b).pending = s.pending := rfl
@[simp] theorem State.setRaw_reg (k : Nat) (b : List Byte) (x : Nat) : (s.setRaw k b).reg x = s.reg x := rfl
@[simp] theorem State.setRaw_stn (k : Nat) (b : List Byte) (x : Nat) : (s.setRaw k b).stn x = s.stn x := rfl
@[simp] theorem State.setRaw_hd (k : Nat) (b : List Byte) (x : Nat) : (s.setRaw k b).hd x = s.hd x := rfl
@[simp] theorem State.setRaw_eng (k : Nat) (b : List Byte) (x : Nat) : (s.setRaw k b).eng x = s.eng x := rfl
@[simp] theorem State.setRaw_sq (k : Nat) (b : List Byte) (x : Nat) : (s.setRaw k b).sq x = s.sq x := rfl
@[simp] theorem State.setRaw_lp (k : Nat) (b : List Byte) (x y : Nat) : (s.setRaw k b).lp x y = s.lp x y := rfl

/-! #### emit -/

@[simp] theorem State.emit_out (o : Out) : (s.emit o).out = s.out ++ [o] := rfl
@[simp] theorem State.emit_part (o : Out) : (s.emit o).part = s.part := rfl
@[simp] theorem State.emit_now (o : Out) : (s.emit o).now = s.now := rfl
@[simp] theorem State.emit_regs (o : Out) : (s.emit o).regs = s.regs := rfl
@[simp] theorem State.emit_raws (o : Out) : (s.emit o).raws = s.raws := rfl
@[simp] theorem State.emit_free (o : Out) : (s.emit o).free = s.free := rfl
@[simp] theorem State.emit_ledger (o : Out) : (s.emit o).ledger = s.ledger := rfl
@[simp] theorem State.emit_can (o : Out) : (s.emit o).can = s.can := rfl
@[simp] theorem State.emit_bar2 (o : Out) : (s.emit o).bar2 = s.bar2 := rfl
@[simp] theorem State.emit_nor (o : Out) : (s.emit o).nor = s.nor := rfl
@[simp] theorem State.emit_power (o : Out) : (s.emit o).power = s.power := rfl
@[simp] theorem State.emit_stns (o : Out) : (s.emit o).stns = s.stns := rfl
@[simp] theorem State.emit_heads (o : Out) : (s.emit o).heads = s.heads := rfl
@[simp] theorem State.emit_loops (o : Out) : (s.emit o).loops = s.loops := rfl
@[simp] theorem State.emit_engines (o : Out) : (s.emit o).engines = s.engines := rfl
@[simp] theorem State.emit_seqs (o : Out) : (s.emit o).seqs = s.seqs := rfl
@[simp] theorem State.emit_stores (o : Out) : (s.emit o).stores = s.stores := rfl
@[simp] theorem State.emit_pins (o : Out) : (s.emit o).pins = s.pins := rfl
@[simp] theorem State.emit_sides (o : Out) : (s.emit o).sides = s.sides := rfl
@[simp] theorem State.emit_ring (o : Out) : (s.emit o).ring = s.ring := rfl
@[simp] theorem State.emit_pool (o : Out) : (s.emit o).pool = s.pool := rfl
@[simp] theorem State.emit_nvme (o : Out) : (s.emit o).nvme = s.nvme := rfl
@[simp] theorem State.emit_granary (o : Out) : (s.emit o).granary = s.granary := rfl
@[simp] theorem State.emit_sec (o : Out) : (s.emit o).sec = s.sec := rfl
@[simp] theorem State.emit_hbm (o : Out) : (s.emit o).hbm = s.hbm := rfl
@[simp] theorem State.emit_fabric (o : Out) : (s.emit o).fabric = s.fabric := rfl
@[simp] theorem State.emit_spread (o : Out) : (s.emit o).spread = s.spread := rfl
@[simp] theorem State.emit_arb (o : Out) : (s.emit o).arb = s.arb := rfl
@[simp] theorem State.emit_cal (o : Out) : (s.emit o).cal = s.cal := rfl
@[simp] theorem State.emit_bist (o : Out) : (s.emit o).bist = s.bist := rfl
@[simp] theorem State.emit_selfTest (o : Out) : (s.emit o).selfTest = s.selfTest := rfl
@[simp] theorem State.emit_pending (o : Out) : (s.emit o).pending = s.pending := rfl
@[simp] theorem State.emit_reg (o : Out) (x : Nat) : (s.emit o).reg x = s.reg x := rfl
@[simp] theorem State.emit_raw (o : Out) (x : Nat) : (s.emit o).raw x = s.raw x := rfl
@[simp] theorem State.emit_stn (o : Out) (x : Nat) : (s.emit o).stn x = s.stn x := rfl
@[simp] theorem State.emit_hd (o : Out) (x : Nat) : (s.emit o).hd x = s.hd x := rfl
@[simp] theorem State.emit_eng (o : Out) (x : Nat) : (s.emit o).eng x = s.eng x := rfl
@[simp] theorem State.emit_sq (o : Out) (x : Nat) : (s.emit o).sq x = s.sq x := rfl
@[simp] theorem State.emit_lp (o : Out) (x y : Nat) : (s.emit o).lp x y = s.lp x y := rfl

/-! #### modNvme -/

@[simp] theorem State.modNvme_nvme (f : Nvme → Nvme) : (s.modNvme f).nvme = f s.nvme := rfl
@[simp] theorem State.modNvme_part (f : Nvme → Nvme) : (s.modNvme f).part = s.part := rfl
@[simp] theorem State.modNvme_now (f : Nvme → Nvme) : (s.modNvme f).now = s.now := rfl
@[simp] theorem State.modNvme_regs (f : Nvme → Nvme) : (s.modNvme f).regs = s.regs := rfl
@[simp] theorem State.modNvme_raws (f : Nvme → Nvme) : (s.modNvme f).raws = s.raws := rfl
@[simp] theorem State.modNvme_free (f : Nvme → Nvme) : (s.modNvme f).free = s.free := rfl
@[simp] theorem State.modNvme_ledger (f : Nvme → Nvme) : (s.modNvme f).ledger = s.ledger := rfl
@[simp] theorem State.modNvme_can (f : Nvme → Nvme) : (s.modNvme f).can = s.can := rfl
@[simp] theorem State.modNvme_bar2 (f : Nvme → Nvme) : (s.modNvme f).bar2 = s.bar2 := rfl
@[simp] theorem State.modNvme_nor (f : Nvme → Nvme) : (s.modNvme f).nor = s.nor := rfl
@[simp] theorem State.modNvme_power (f : Nvme → Nvme) : (s.modNvme f).power = s.power := rfl
@[simp] theorem State.modNvme_stns (f : Nvme → Nvme) : (s.modNvme f).stns = s.stns := rfl
@[simp] theorem State.modNvme_heads (f : Nvme → Nvme) : (s.modNvme f).heads = s.heads := rfl
@[simp] theorem State.modNvme_loops (f : Nvme → Nvme) : (s.modNvme f).loops = s.loops := rfl
@[simp] theorem State.modNvme_engines (f : Nvme → Nvme) : (s.modNvme f).engines = s.engines := rfl
@[simp] theorem State.modNvme_seqs (f : Nvme → Nvme) : (s.modNvme f).seqs = s.seqs := rfl
@[simp] theorem State.modNvme_stores (f : Nvme → Nvme) : (s.modNvme f).stores = s.stores := rfl
@[simp] theorem State.modNvme_pins (f : Nvme → Nvme) : (s.modNvme f).pins = s.pins := rfl
@[simp] theorem State.modNvme_sides (f : Nvme → Nvme) : (s.modNvme f).sides = s.sides := rfl
@[simp] theorem State.modNvme_ring (f : Nvme → Nvme) : (s.modNvme f).ring = s.ring := rfl
@[simp] theorem State.modNvme_pool (f : Nvme → Nvme) : (s.modNvme f).pool = s.pool := rfl
@[simp] theorem State.modNvme_granary (f : Nvme → Nvme) : (s.modNvme f).granary = s.granary := rfl
@[simp] theorem State.modNvme_sec (f : Nvme → Nvme) : (s.modNvme f).sec = s.sec := rfl
@[simp] theorem State.modNvme_hbm (f : Nvme → Nvme) : (s.modNvme f).hbm = s.hbm := rfl
@[simp] theorem State.modNvme_fabric (f : Nvme → Nvme) : (s.modNvme f).fabric = s.fabric := rfl
@[simp] theorem State.modNvme_spread (f : Nvme → Nvme) : (s.modNvme f).spread = s.spread := rfl
@[simp] theorem State.modNvme_arb (f : Nvme → Nvme) : (s.modNvme f).arb = s.arb := rfl
@[simp] theorem State.modNvme_cal (f : Nvme → Nvme) : (s.modNvme f).cal = s.cal := rfl
@[simp] theorem State.modNvme_bist (f : Nvme → Nvme) : (s.modNvme f).bist = s.bist := rfl
@[simp] theorem State.modNvme_selfTest (f : Nvme → Nvme) : (s.modNvme f).selfTest = s.selfTest := rfl
@[simp] theorem State.modNvme_out (f : Nvme → Nvme) : (s.modNvme f).out = s.out := rfl
@[simp] theorem State.modNvme_pending (f : Nvme → Nvme) : (s.modNvme f).pending = s.pending := rfl
@[simp] theorem State.modNvme_reg (f : Nvme → Nvme) (x : Nat) : (s.modNvme f).reg x = s.reg x := rfl
@[simp] theorem State.modNvme_raw (f : Nvme → Nvme) (x : Nat) : (s.modNvme f).raw x = s.raw x := rfl
@[simp] theorem State.modNvme_stn (f : Nvme → Nvme) (x : Nat) : (s.modNvme f).stn x = s.stn x := rfl
@[simp] theorem State.modNvme_hd (f : Nvme → Nvme) (x : Nat) : (s.modNvme f).hd x = s.hd x := rfl
@[simp] theorem State.modNvme_eng (f : Nvme → Nvme) (x : Nat) : (s.modNvme f).eng x = s.eng x := rfl
@[simp] theorem State.modNvme_sq (f : Nvme → Nvme) (x : Nat) : (s.modNvme f).sq x = s.sq x := rfl
@[simp] theorem State.modNvme_lp (f : Nvme → Nvme) (x y : Nat) : (s.modNvme f).lp x y = s.lp x y := rfl

/-! #### modGr -/

@[simp] theorem State.modGr_granary (f : Granary → Granary) : (s.modGr f).granary = f s.granary := rfl
@[simp] theorem State.modGr_part (f : Granary → Granary) : (s.modGr f).part = s.part := rfl
@[simp] theorem State.modGr_now (f : Granary → Granary) : (s.modGr f).now = s.now := rfl
@[simp] theorem State.modGr_regs (f : Granary → Granary) : (s.modGr f).regs = s.regs := rfl
@[simp] theorem State.modGr_raws (f : Granary → Granary) : (s.modGr f).raws = s.raws := rfl
@[simp] theorem State.modGr_free (f : Granary → Granary) : (s.modGr f).free = s.free := rfl
@[simp] theorem State.modGr_ledger (f : Granary → Granary) : (s.modGr f).ledger = s.ledger := rfl
@[simp] theorem State.modGr_can (f : Granary → Granary) : (s.modGr f).can = s.can := rfl
@[simp] theorem State.modGr_bar2 (f : Granary → Granary) : (s.modGr f).bar2 = s.bar2 := rfl
@[simp] theorem State.modGr_nor (f : Granary → Granary) : (s.modGr f).nor = s.nor := rfl
@[simp] theorem State.modGr_power (f : Granary → Granary) : (s.modGr f).power = s.power := rfl
@[simp] theorem State.modGr_stns (f : Granary → Granary) : (s.modGr f).stns = s.stns := rfl
@[simp] theorem State.modGr_heads (f : Granary → Granary) : (s.modGr f).heads = s.heads := rfl
@[simp] theorem State.modGr_loops (f : Granary → Granary) : (s.modGr f).loops = s.loops := rfl
@[simp] theorem State.modGr_engines (f : Granary → Granary) : (s.modGr f).engines = s.engines := rfl
@[simp] theorem State.modGr_seqs (f : Granary → Granary) : (s.modGr f).seqs = s.seqs := rfl
@[simp] theorem State.modGr_stores (f : Granary → Granary) : (s.modGr f).stores = s.stores := rfl
@[simp] theorem State.modGr_pins (f : Granary → Granary) : (s.modGr f).pins = s.pins := rfl
@[simp] theorem State.modGr_sides (f : Granary → Granary) : (s.modGr f).sides = s.sides := rfl
@[simp] theorem State.modGr_ring (f : Granary → Granary) : (s.modGr f).ring = s.ring := rfl
@[simp] theorem State.modGr_pool (f : Granary → Granary) : (s.modGr f).pool = s.pool := rfl
@[simp] theorem State.modGr_nvme (f : Granary → Granary) : (s.modGr f).nvme = s.nvme := rfl
@[simp] theorem State.modGr_sec (f : Granary → Granary) : (s.modGr f).sec = s.sec := rfl
@[simp] theorem State.modGr_hbm (f : Granary → Granary) : (s.modGr f).hbm = s.hbm := rfl
@[simp] theorem State.modGr_fabric (f : Granary → Granary) : (s.modGr f).fabric = s.fabric := rfl
@[simp] theorem State.modGr_spread (f : Granary → Granary) : (s.modGr f).spread = s.spread := rfl
@[simp] theorem State.modGr_arb (f : Granary → Granary) : (s.modGr f).arb = s.arb := rfl
@[simp] theorem State.modGr_cal (f : Granary → Granary) : (s.modGr f).cal = s.cal := rfl
@[simp] theorem State.modGr_bist (f : Granary → Granary) : (s.modGr f).bist = s.bist := rfl
@[simp] theorem State.modGr_selfTest (f : Granary → Granary) : (s.modGr f).selfTest = s.selfTest := rfl
@[simp] theorem State.modGr_out (f : Granary → Granary) : (s.modGr f).out = s.out := rfl
@[simp] theorem State.modGr_pending (f : Granary → Granary) : (s.modGr f).pending = s.pending := rfl
@[simp] theorem State.modGr_reg (f : Granary → Granary) (x : Nat) : (s.modGr f).reg x = s.reg x := rfl
@[simp] theorem State.modGr_raw (f : Granary → Granary) (x : Nat) : (s.modGr f).raw x = s.raw x := rfl
@[simp] theorem State.modGr_stn (f : Granary → Granary) (x : Nat) : (s.modGr f).stn x = s.stn x := rfl
@[simp] theorem State.modGr_hd (f : Granary → Granary) (x : Nat) : (s.modGr f).hd x = s.hd x := rfl
@[simp] theorem State.modGr_eng (f : Granary → Granary) (x : Nat) : (s.modGr f).eng x = s.eng x := rfl
@[simp] theorem State.modGr_sq (f : Granary → Granary) (x : Nat) : (s.modGr f).sq x = s.sq x := rfl
@[simp] theorem State.modGr_lp (f : Granary → Granary) (x y : Nat) : (s.modGr f).lp x y = s.lp x y := rfl

/-! #### modSpread -/

@[simp] theorem State.modSpread_spread (f : Spread → Spread) : (s.modSpread f).spread = f s.spread := rfl
@[simp] theorem State.modSpread_part (f : Spread → Spread) : (s.modSpread f).part = s.part := rfl
@[simp] theorem State.modSpread_now (f : Spread → Spread) : (s.modSpread f).now = s.now := rfl
@[simp] theorem State.modSpread_regs (f : Spread → Spread) : (s.modSpread f).regs = s.regs := rfl
@[simp] theorem State.modSpread_raws (f : Spread → Spread) : (s.modSpread f).raws = s.raws := rfl
@[simp] theorem State.modSpread_free (f : Spread → Spread) : (s.modSpread f).free = s.free := rfl
@[simp] theorem State.modSpread_ledger (f : Spread → Spread) : (s.modSpread f).ledger = s.ledger := rfl
@[simp] theorem State.modSpread_can (f : Spread → Spread) : (s.modSpread f).can = s.can := rfl
@[simp] theorem State.modSpread_bar2 (f : Spread → Spread) : (s.modSpread f).bar2 = s.bar2 := rfl
@[simp] theorem State.modSpread_nor (f : Spread → Spread) : (s.modSpread f).nor = s.nor := rfl
@[simp] theorem State.modSpread_power (f : Spread → Spread) : (s.modSpread f).power = s.power := rfl
@[simp] theorem State.modSpread_stns (f : Spread → Spread) : (s.modSpread f).stns = s.stns := rfl
@[simp] theorem State.modSpread_heads (f : Spread → Spread) : (s.modSpread f).heads = s.heads := rfl
@[simp] theorem State.modSpread_loops (f : Spread → Spread) : (s.modSpread f).loops = s.loops := rfl
@[simp] theorem State.modSpread_engines (f : Spread → Spread) : (s.modSpread f).engines = s.engines := rfl
@[simp] theorem State.modSpread_seqs (f : Spread → Spread) : (s.modSpread f).seqs = s.seqs := rfl
@[simp] theorem State.modSpread_stores (f : Spread → Spread) : (s.modSpread f).stores = s.stores := rfl
@[simp] theorem State.modSpread_pins (f : Spread → Spread) : (s.modSpread f).pins = s.pins := rfl
@[simp] theorem State.modSpread_sides (f : Spread → Spread) : (s.modSpread f).sides = s.sides := rfl
@[simp] theorem State.modSpread_ring (f : Spread → Spread) : (s.modSpread f).ring = s.ring := rfl
@[simp] theorem State.modSpread_pool (f : Spread → Spread) : (s.modSpread f).pool = s.pool := rfl
@[simp] theorem State.modSpread_nvme (f : Spread → Spread) : (s.modSpread f).nvme = s.nvme := rfl
@[simp] theorem State.modSpread_granary (f : Spread → Spread) : (s.modSpread f).granary = s.granary := rfl
@[simp] theorem State.modSpread_sec (f : Spread → Spread) : (s.modSpread f).sec = s.sec := rfl
@[simp] theorem State.modSpread_hbm (f : Spread → Spread) : (s.modSpread f).hbm = s.hbm := rfl
@[simp] theorem State.modSpread_fabric (f : Spread → Spread) : (s.modSpread f).fabric = s.fabric := rfl
@[simp] theorem State.modSpread_arb (f : Spread → Spread) : (s.modSpread f).arb = s.arb := rfl
@[simp] theorem State.modSpread_cal (f : Spread → Spread) : (s.modSpread f).cal = s.cal := rfl
@[simp] theorem State.modSpread_bist (f : Spread → Spread) : (s.modSpread f).bist = s.bist := rfl
@[simp] theorem State.modSpread_selfTest (f : Spread → Spread) : (s.modSpread f).selfTest = s.selfTest := rfl
@[simp] theorem State.modSpread_out (f : Spread → Spread) : (s.modSpread f).out = s.out := rfl
@[simp] theorem State.modSpread_pending (f : Spread → Spread) : (s.modSpread f).pending = s.pending := rfl
@[simp] theorem State.modSpread_reg (f : Spread → Spread) (x : Nat) : (s.modSpread f).reg x = s.reg x := rfl
@[simp] theorem State.modSpread_raw (f : Spread → Spread) (x : Nat) : (s.modSpread f).raw x = s.raw x := rfl
@[simp] theorem State.modSpread_stn (f : Spread → Spread) (x : Nat) : (s.modSpread f).stn x = s.stn x := rfl
@[simp] theorem State.modSpread_hd (f : Spread → Spread) (x : Nat) : (s.modSpread f).hd x = s.hd x := rfl
@[simp] theorem State.modSpread_eng (f : Spread → Spread) (x : Nat) : (s.modSpread f).eng x = s.eng x := rfl
@[simp] theorem State.modSpread_sq (f : Spread → Spread) (x : Nat) : (s.modSpread f).sq x = s.sq x := rfl
@[simp] theorem State.modSpread_lp (f : Spread → Spread) (x y : Nat) : (s.modSpread f).lp x y = s.lp x y := rfl

/-! #### modPower -/

@[simp] theorem State.modPower_power (f : Power → Power) : (s.modPower f).power = f s.power := rfl
@[simp] theorem State.modPower_part (f : Power → Power) : (s.modPower f).part = s.part := rfl
@[simp] theorem State.modPower_now (f : Power → Power) : (s.modPower f).now = s.now := rfl
@[simp] theorem State.modPower_regs (f : Power → Power) : (s.modPower f).regs = s.regs := rfl
@[simp] theorem State.modPower_raws (f : Power → Power) : (s.modPower f).raws = s.raws := rfl
@[simp] theorem State.modPower_free (f : Power → Power) : (s.modPower f).free = s.free := rfl
@[simp] theorem State.modPower_ledger (f : Power → Power) : (s.modPower f).ledger = s.ledger := rfl
@[simp] theorem State.modPower_can (f : Power → Power) : (s.modPower f).can = s.can := rfl
@[simp] theorem State.modPower_bar2 (f : Power → Power) : (s.modPower f).bar2 = s.bar2 := rfl
@[simp] theorem State.modPower_nor (f : Power → Power) : (s.modPower f).nor = s.nor := rfl
@[simp] theorem State.modPower_stns (f : Power → Power) : (s.modPower f).stns = s.stns := rfl
@[simp] theorem State.modPower_heads (f : Power → Power) : (s.modPower f).heads = s.heads := rfl
@[simp] theorem State.modPower_loops (f : Power → Power) : (s.modPower f).loops = s.loops := rfl
@[simp] theorem State.modPower_engines (f : Power → Power) : (s.modPower f).engines = s.engines := rfl
@[simp] theorem State.modPower_seqs (f : Power → Power) : (s.modPower f).seqs = s.seqs := rfl
@[simp] theorem State.modPower_stores (f : Power → Power) : (s.modPower f).stores = s.stores := rfl
@[simp] theorem State.modPower_pins (f : Power → Power) : (s.modPower f).pins = s.pins := rfl
@[simp] theorem State.modPower_sides (f : Power → Power) : (s.modPower f).sides = s.sides := rfl
@[simp] theorem State.modPower_ring (f : Power → Power) : (s.modPower f).ring = s.ring := rfl
@[simp] theorem State.modPower_pool (f : Power → Power) : (s.modPower f).pool = s.pool := rfl
@[simp] theorem State.modPower_nvme (f : Power → Power) : (s.modPower f).nvme = s.nvme := rfl
@[simp] theorem State.modPower_granary (f : Power → Power) : (s.modPower f).granary = s.granary := rfl
@[simp] theorem State.modPower_sec (f : Power → Power) : (s.modPower f).sec = s.sec := rfl
@[simp] theorem State.modPower_hbm (f : Power → Power) : (s.modPower f).hbm = s.hbm := rfl
@[simp] theorem State.modPower_fabric (f : Power → Power) : (s.modPower f).fabric = s.fabric := rfl
@[simp] theorem State.modPower_spread (f : Power → Power) : (s.modPower f).spread = s.spread := rfl
@[simp] theorem State.modPower_arb (f : Power → Power) : (s.modPower f).arb = s.arb := rfl
@[simp] theorem State.modPower_cal (f : Power → Power) : (s.modPower f).cal = s.cal := rfl
@[simp] theorem State.modPower_bist (f : Power → Power) : (s.modPower f).bist = s.bist := rfl
@[simp] theorem State.modPower_selfTest (f : Power → Power) : (s.modPower f).selfTest = s.selfTest := rfl
@[simp] theorem State.modPower_out (f : Power → Power) : (s.modPower f).out = s.out := rfl
@[simp] theorem State.modPower_pending (f : Power → Power) : (s.modPower f).pending = s.pending := rfl
@[simp] theorem State.modPower_reg (f : Power → Power) (x : Nat) : (s.modPower f).reg x = s.reg x := rfl
@[simp] theorem State.modPower_raw (f : Power → Power) (x : Nat) : (s.modPower f).raw x = s.raw x := rfl
@[simp] theorem State.modPower_stn (f : Power → Power) (x : Nat) : (s.modPower f).stn x = s.stn x := rfl
@[simp] theorem State.modPower_hd (f : Power → Power) (x : Nat) : (s.modPower f).hd x = s.hd x := rfl
@[simp] theorem State.modPower_eng (f : Power → Power) (x : Nat) : (s.modPower f).eng x = s.eng x := rfl
@[simp] theorem State.modPower_sq (f : Power → Power) (x : Nat) : (s.modPower f).sq x = s.sq x := rfl
@[simp] theorem State.modPower_lp (f : Power → Power) (x y : Nat) : (s.modPower f).lp x y = s.lp x y := rfl

/-! #### modHbm -/

@[simp] theorem State.modHbm_hbm (f : Hbm → Hbm) : (s.modHbm f).hbm = f s.hbm := rfl
@[simp] theorem State.modHbm_part (f : Hbm → Hbm) : (s.modHbm f).part = s.part := rfl
@[simp] theorem State.modHbm_now (f : Hbm → Hbm) : (s.modHbm f).now = s.now := rfl
@[simp] theorem State.modHbm_regs (f : Hbm → Hbm) : (s.modHbm f).regs = s.regs := rfl
@[simp] theorem State.modHbm_raws (f : Hbm → Hbm) : (s.modHbm f).raws = s.raws := rfl
@[simp] theorem State.modHbm_free (f : Hbm → Hbm) : (s.modHbm f).free = s.free := rfl
@[simp] theorem State.modHbm_ledger (f : Hbm → Hbm) : (s.modHbm f).ledger = s.ledger := rfl
@[simp] theorem State.modHbm_can (f : Hbm → Hbm) : (s.modHbm f).can = s.can := rfl
@[simp] theorem State.modHbm_bar2 (f : Hbm → Hbm) : (s.modHbm f).bar2 = s.bar2 := rfl
@[simp] theorem State.modHbm_nor (f : Hbm → Hbm) : (s.modHbm f).nor = s.nor := rfl
@[simp] theorem State.modHbm_power (f : Hbm → Hbm) : (s.modHbm f).power = s.power := rfl
@[simp] theorem State.modHbm_stns (f : Hbm → Hbm) : (s.modHbm f).stns = s.stns := rfl
@[simp] theorem State.modHbm_heads (f : Hbm → Hbm) : (s.modHbm f).heads = s.heads := rfl
@[simp] theorem State.modHbm_loops (f : Hbm → Hbm) : (s.modHbm f).loops = s.loops := rfl
@[simp] theorem State.modHbm_engines (f : Hbm → Hbm) : (s.modHbm f).engines = s.engines := rfl
@[simp] theorem State.modHbm_seqs (f : Hbm → Hbm) : (s.modHbm f).seqs = s.seqs := rfl
@[simp] theorem State.modHbm_stores (f : Hbm → Hbm) : (s.modHbm f).stores = s.stores := rfl
@[simp] theorem State.modHbm_pins (f : Hbm → Hbm) : (s.modHbm f).pins = s.pins := rfl
@[simp] theorem State.modHbm_sides (f : Hbm → Hbm) : (s.modHbm f).sides = s.sides := rfl
@[simp] theorem State.modHbm_ring (f : Hbm → Hbm) : (s.modHbm f).ring = s.ring := rfl
@[simp] theorem State.modHbm_pool (f : Hbm → Hbm) : (s.modHbm f).pool = s.pool := rfl
@[simp] theorem State.modHbm_nvme (f : Hbm → Hbm) : (s.modHbm f).nvme = s.nvme := rfl
@[simp] theorem State.modHbm_granary (f : Hbm → Hbm) : (s.modHbm f).granary = s.granary := rfl
@[simp] theorem State.modHbm_sec (f : Hbm → Hbm) : (s.modHbm f).sec = s.sec := rfl
@[simp] theorem State.modHbm_fabric (f : Hbm → Hbm) : (s.modHbm f).fabric = s.fabric := rfl
@[simp] theorem State.modHbm_spread (f : Hbm → Hbm) : (s.modHbm f).spread = s.spread := rfl
@[simp] theorem State.modHbm_arb (f : Hbm → Hbm) : (s.modHbm f).arb = s.arb := rfl
@[simp] theorem State.modHbm_cal (f : Hbm → Hbm) : (s.modHbm f).cal = s.cal := rfl
@[simp] theorem State.modHbm_bist (f : Hbm → Hbm) : (s.modHbm f).bist = s.bist := rfl
@[simp] theorem State.modHbm_selfTest (f : Hbm → Hbm) : (s.modHbm f).selfTest = s.selfTest := rfl
@[simp] theorem State.modHbm_out (f : Hbm → Hbm) : (s.modHbm f).out = s.out := rfl
@[simp] theorem State.modHbm_pending (f : Hbm → Hbm) : (s.modHbm f).pending = s.pending := rfl
@[simp] theorem State.modHbm_reg (f : Hbm → Hbm) (x : Nat) : (s.modHbm f).reg x = s.reg x := rfl
@[simp] theorem State.modHbm_raw (f : Hbm → Hbm) (x : Nat) : (s.modHbm f).raw x = s.raw x := rfl
@[simp] theorem State.modHbm_stn (f : Hbm → Hbm) (x : Nat) : (s.modHbm f).stn x = s.stn x := rfl
@[simp] theorem State.modHbm_hd (f : Hbm → Hbm) (x : Nat) : (s.modHbm f).hd x = s.hd x := rfl
@[simp] theorem State.modHbm_eng (f : Hbm → Hbm) (x : Nat) : (s.modHbm f).eng x = s.eng x := rfl
@[simp] theorem State.modHbm_sq (f : Hbm → Hbm) (x : Nat) : (s.modHbm f).sq x = s.sq x := rfl
@[simp] theorem State.modHbm_lp (f : Hbm → Hbm) (x y : Nat) : (s.modHbm f).lp x y = s.lp x y := rfl

/-! #### modRing -/

@[simp] theorem State.modRing_fabric (f : Ring → Ring) : (s.modRing f).fabric = f s.fabric := rfl
@[simp] theorem State.modRing_part (f : Ring → Ring) : (s.modRing f).part = s.part := rfl
@[simp] theorem State.modRing_now (f : Ring → Ring) : (s.modRing f).now = s.now := rfl
@[simp] theorem State.modRing_regs (f : Ring → Ring) : (s.modRing f).regs = s.regs := rfl
@[simp] theorem State.modRing_raws (f : Ring → Ring) : (s.modRing f).raws = s.raws := rfl
@[simp] theorem State.modRing_free (f : Ring → Ring) : (s.modRing f).free = s.free := rfl
@[simp] theorem State.modRing_ledger (f : Ring → Ring) : (s.modRing f).ledger = s.ledger := rfl
@[simp] theorem State.modRing_can (f : Ring → Ring) : (s.modRing f).can = s.can := rfl
@[simp] theorem State.modRing_bar2 (f : Ring → Ring) : (s.modRing f).bar2 = s.bar2 := rfl
@[simp] theorem State.modRing_nor (f : Ring → Ring) : (s.modRing f).nor = s.nor := rfl
@[simp] theorem State.modRing_power (f : Ring → Ring) : (s.modRing f).power = s.power := rfl
@[simp] theorem State.modRing_stns (f : Ring → Ring) : (s.modRing f).stns = s.stns := rfl
@[simp] theorem State.modRing_heads (f : Ring → Ring) : (s.modRing f).heads = s.heads := rfl
@[simp] theorem State.modRing_loops (f : Ring → Ring) : (s.modRing f).loops = s.loops := rfl
@[simp] theorem State.modRing_engines (f : Ring → Ring) : (s.modRing f).engines = s.engines := rfl
@[simp] theorem State.modRing_seqs (f : Ring → Ring) : (s.modRing f).seqs = s.seqs := rfl
@[simp] theorem State.modRing_stores (f : Ring → Ring) : (s.modRing f).stores = s.stores := rfl
@[simp] theorem State.modRing_pins (f : Ring → Ring) : (s.modRing f).pins = s.pins := rfl
@[simp] theorem State.modRing_sides (f : Ring → Ring) : (s.modRing f).sides = s.sides := rfl
@[simp] theorem State.modRing_ring (f : Ring → Ring) : (s.modRing f).ring = s.ring := rfl
@[simp] theorem State.modRing_pool (f : Ring → Ring) : (s.modRing f).pool = s.pool := rfl
@[simp] theorem State.modRing_nvme (f : Ring → Ring) : (s.modRing f).nvme = s.nvme := rfl
@[simp] theorem State.modRing_granary (f : Ring → Ring) : (s.modRing f).granary = s.granary := rfl
@[simp] theorem State.modRing_sec (f : Ring → Ring) : (s.modRing f).sec = s.sec := rfl
@[simp] theorem State.modRing_hbm (f : Ring → Ring) : (s.modRing f).hbm = s.hbm := rfl
@[simp] theorem State.modRing_spread (f : Ring → Ring) : (s.modRing f).spread = s.spread := rfl
@[simp] theorem State.modRing_arb (f : Ring → Ring) : (s.modRing f).arb = s.arb := rfl
@[simp] theorem State.modRing_cal (f : Ring → Ring) : (s.modRing f).cal = s.cal := rfl
@[simp] theorem State.modRing_bist (f : Ring → Ring) : (s.modRing f).bist = s.bist := rfl
@[simp] theorem State.modRing_selfTest (f : Ring → Ring) : (s.modRing f).selfTest = s.selfTest := rfl
@[simp] theorem State.modRing_out (f : Ring → Ring) : (s.modRing f).out = s.out := rfl
@[simp] theorem State.modRing_pending (f : Ring → Ring) : (s.modRing f).pending = s.pending := rfl
@[simp] theorem State.modRing_reg (f : Ring → Ring) (x : Nat) : (s.modRing f).reg x = s.reg x := rfl
@[simp] theorem State.modRing_raw (f : Ring → Ring) (x : Nat) : (s.modRing f).raw x = s.raw x := rfl
@[simp] theorem State.modRing_stn (f : Ring → Ring) (x : Nat) : (s.modRing f).stn x = s.stn x := rfl
@[simp] theorem State.modRing_hd (f : Ring → Ring) (x : Nat) : (s.modRing f).hd x = s.hd x := rfl
@[simp] theorem State.modRing_eng (f : Ring → Ring) (x : Nat) : (s.modRing f).eng x = s.eng x := rfl
@[simp] theorem State.modRing_sq (f : Ring → Ring) (x : Nat) : (s.modRing f).sq x = s.sq x := rfl
@[simp] theorem State.modRing_lp (f : Ring → Ring) (x y : Nat) : (s.modRing f).lp x y = s.lp x y := rfl

/-! #### modSec -/

@[simp] theorem State.modSec_sec (f : Security → Security) : (s.modSec f).sec = f s.sec := rfl
@[simp] theorem State.modSec_part (f : Security → Security) : (s.modSec f).part = s.part := rfl
@[simp] theorem State.modSec_now (f : Security → Security) : (s.modSec f).now = s.now := rfl
@[simp] theorem State.modSec_regs (f : Security → Security) : (s.modSec f).regs = s.regs := rfl
@[simp] theorem State.modSec_raws (f : Security → Security) : (s.modSec f).raws = s.raws := rfl
@[simp] theorem State.modSec_free (f : Security → Security) : (s.modSec f).free = s.free := rfl
@[simp] theorem State.modSec_ledger (f : Security → Security) : (s.modSec f).ledger = s.ledger := rfl
@[simp] theorem State.modSec_can (f : Security → Security) : (s.modSec f).can = s.can := rfl
@[simp] theorem State.modSec_bar2 (f : Security → Security) : (s.modSec f).bar2 = s.bar2 := rfl
@[simp] theorem State.modSec_nor (f : Security → Security) : (s.modSec f).nor = s.nor := rfl
@[simp] theorem State.modSec_power (f : Security → Security) : (s.modSec f).power = s.power := rfl
@[simp] theorem State.modSec_stns (f : Security → Security) : (s.modSec f).stns = s.stns := rfl
@[simp] theorem State.modSec_heads (f : Security → Security) : (s.modSec f).heads = s.heads := rfl
@[simp] theorem State.modSec_loops (f : Security → Security) : (s.modSec f).loops = s.loops := rfl
@[simp] theorem State.modSec_engines (f : Security → Security) : (s.modSec f).engines = s.engines := rfl
@[simp] theorem State.modSec_seqs (f : Security → Security) : (s.modSec f).seqs = s.seqs := rfl
@[simp] theorem State.modSec_stores (f : Security → Security) : (s.modSec f).stores = s.stores := rfl
@[simp] theorem State.modSec_pins (f : Security → Security) : (s.modSec f).pins = s.pins := rfl
@[simp] theorem State.modSec_sides (f : Security → Security) : (s.modSec f).sides = s.sides := rfl
@[simp] theorem State.modSec_ring (f : Security → Security) : (s.modSec f).ring = s.ring := rfl
@[simp] theorem State.modSec_pool (f : Security → Security) : (s.modSec f).pool = s.pool := rfl
@[simp] theorem State.modSec_nvme (f : Security → Security) : (s.modSec f).nvme = s.nvme := rfl
@[simp] theorem State.modSec_granary (f : Security → Security) : (s.modSec f).granary = s.granary := rfl
@[simp] theorem State.modSec_hbm (f : Security → Security) : (s.modSec f).hbm = s.hbm := rfl
@[simp] theorem State.modSec_fabric (f : Security → Security) : (s.modSec f).fabric = s.fabric := rfl
@[simp] theorem State.modSec_spread (f : Security → Security) : (s.modSec f).spread = s.spread := rfl
@[simp] theorem State.modSec_arb (f : Security → Security) : (s.modSec f).arb = s.arb := rfl
@[simp] theorem State.modSec_cal (f : Security → Security) : (s.modSec f).cal = s.cal := rfl
@[simp] theorem State.modSec_bist (f : Security → Security) : (s.modSec f).bist = s.bist := rfl
@[simp] theorem State.modSec_selfTest (f : Security → Security) : (s.modSec f).selfTest = s.selfTest := rfl
@[simp] theorem State.modSec_out (f : Security → Security) : (s.modSec f).out = s.out := rfl
@[simp] theorem State.modSec_pending (f : Security → Security) : (s.modSec f).pending = s.pending := rfl
@[simp] theorem State.modSec_reg (f : Security → Security) (x : Nat) : (s.modSec f).reg x = s.reg x := rfl
@[simp] theorem State.modSec_raw (f : Security → Security) (x : Nat) : (s.modSec f).raw x = s.raw x := rfl
@[simp] theorem State.modSec_stn (f : Security → Security) (x : Nat) : (s.modSec f).stn x = s.stn x := rfl
@[simp] theorem State.modSec_hd (f : Security → Security) (x : Nat) : (s.modSec f).hd x = s.hd x := rfl
@[simp] theorem State.modSec_eng (f : Security → Security) (x : Nat) : (s.modSec f).eng x = s.eng x := rfl
@[simp] theorem State.modSec_sq (f : Security → Security) (x : Nat) : (s.modSec f).sq x = s.sq x := rfl
@[simp] theorem State.modSec_lp (f : Security → Security) (x y : Nat) : (s.modSec f).lp x y = s.lp x y := rfl

/-! #### modLedger -/

@[simp] theorem State.modLedger_ledger (f : Ledger → Ledger) : (s.modLedger f).ledger = f s.ledger := rfl
@[simp] theorem State.modLedger_part (f : Ledger → Ledger) : (s.modLedger f).part = s.part := rfl
@[simp] theorem State.modLedger_now (f : Ledger → Ledger) : (s.modLedger f).now = s.now := rfl
@[simp] theorem State.modLedger_regs (f : Ledger → Ledger) : (s.modLedger f).regs = s.regs := rfl
@[simp] theorem State.modLedger_raws (f : Ledger → Ledger) : (s.modLedger f).raws = s.raws := rfl
@[simp] theorem State.modLedger_free (f : Ledger → Ledger) : (s.modLedger f).free = s.free := rfl
@[simp] theorem State.modLedger_can (f : Ledger → Ledger) : (s.modLedger f).can = s.can := rfl
@[simp] theorem State.modLedger_bar2 (f : Ledger → Ledger) : (s.modLedger f).bar2 = s.bar2 := rfl
@[simp] theorem State.modLedger_nor (f : Ledger → Ledger) : (s.modLedger f).nor = s.nor := rfl
@[simp] theorem State.modLedger_power (f : Ledger → Ledger) : (s.modLedger f).power = s.power := rfl
@[simp] theorem State.modLedger_stns (f : Ledger → Ledger) : (s.modLedger f).stns = s.stns := rfl
@[simp] theorem State.modLedger_heads (f : Ledger → Ledger) : (s.modLedger f).heads = s.heads := rfl
@[simp] theorem State.modLedger_loops (f : Ledger → Ledger) : (s.modLedger f).loops = s.loops := rfl
@[simp] theorem State.modLedger_engines (f : Ledger → Ledger) : (s.modLedger f).engines = s.engines := rfl
@[simp] theorem State.modLedger_seqs (f : Ledger → Ledger) : (s.modLedger f).seqs = s.seqs := rfl
@[simp] theorem State.modLedger_stores (f : Ledger → Ledger) : (s.modLedger f).stores = s.stores := rfl
@[simp] theorem State.modLedger_pins (f : Ledger → Ledger) : (s.modLedger f).pins = s.pins := rfl
@[simp] theorem State.modLedger_sides (f : Ledger → Ledger) : (s.modLedger f).sides = s.sides := rfl
@[simp] theorem State.modLedger_ring (f : Ledger → Ledger) : (s.modLedger f).ring = s.ring := rfl
@[simp] theorem State.modLedger_pool (f : Ledger → Ledger) : (s.modLedger f).pool = s.pool := rfl
@[simp] theorem State.modLedger_nvme (f : Ledger → Ledger) : (s.modLedger f).nvme = s.nvme := rfl
@[simp] theorem State.modLedger_granary (f : Ledger → Ledger) : (s.modLedger f).granary = s.granary := rfl
@[simp] theorem State.modLedger_sec (f : Ledger → Ledger) : (s.modLedger f).sec = s.sec := rfl
@[simp] theorem State.modLedger_hbm (f : Ledger → Ledger) : (s.modLedger f).hbm = s.hbm := rfl
@[simp] theorem State.modLedger_fabric (f : Ledger → Ledger) : (s.modLedger f).fabric = s.fabric := rfl
@[simp] theorem State.modLedger_spread (f : Ledger → Ledger) : (s.modLedger f).spread = s.spread := rfl
@[simp] theorem State.modLedger_arb (f : Ledger → Ledger) : (s.modLedger f).arb = s.arb := rfl
@[simp] theorem State.modLedger_cal (f : Ledger → Ledger) : (s.modLedger f).cal = s.cal := rfl
@[simp] theorem State.modLedger_bist (f : Ledger → Ledger) : (s.modLedger f).bist = s.bist := rfl
@[simp] theorem State.modLedger_selfTest (f : Ledger → Ledger) : (s.modLedger f).selfTest = s.selfTest := rfl
@[simp] theorem State.modLedger_out (f : Ledger → Ledger) : (s.modLedger f).out = s.out := rfl
@[simp] theorem State.modLedger_pending (f : Ledger → Ledger) : (s.modLedger f).pending = s.pending := rfl
@[simp] theorem State.modLedger_reg (f : Ledger → Ledger) (x : Nat) : (s.modLedger f).reg x = s.reg x := rfl
@[simp] theorem State.modLedger_raw (f : Ledger → Ledger) (x : Nat) : (s.modLedger f).raw x = s.raw x := rfl
@[simp] theorem State.modLedger_stn (f : Ledger → Ledger) (x : Nat) : (s.modLedger f).stn x = s.stn x := rfl
@[simp] theorem State.modLedger_hd (f : Ledger → Ledger) (x : Nat) : (s.modLedger f).hd x = s.hd x := rfl
@[simp] theorem State.modLedger_eng (f : Ledger → Ledger) (x : Nat) : (s.modLedger f).eng x = s.eng x := rfl
@[simp] theorem State.modLedger_sq (f : Ledger → Ledger) (x : Nat) : (s.modLedger f).sq x = s.sq x := rfl
@[simp] theorem State.modLedger_lp (f : Ledger → Ledger) (x y : Nat) : (s.modLedger f).lp x y = s.lp x y := rfl

/-! #### modBar2 -/

@[simp] theorem State.modBar2_bar2 (f : Bar2 → Bar2) : (s.modBar2 f).bar2 = f s.bar2 := rfl
@[simp] theorem State.modBar2_part (f : Bar2 → Bar2) : (s.modBar2 f).part = s.part := rfl
@[simp] theorem State.modBar2_now (f : Bar2 → Bar2) : (s.modBar2 f).now = s.now := rfl
@[simp] theorem State.modBar2_regs (f : Bar2 → Bar2) : (s.modBar2 f).regs = s.regs := rfl
@[simp] theorem State.modBar2_raws (f : Bar2 → Bar2) : (s.modBar2 f).raws = s.raws := rfl
@[simp] theorem State.modBar2_free (f : Bar2 → Bar2) : (s.modBar2 f).free = s.free := rfl
@[simp] theorem State.modBar2_ledger (f : Bar2 → Bar2) : (s.modBar2 f).ledger = s.ledger := rfl
@[simp] theorem State.modBar2_can (f : Bar2 → Bar2) : (s.modBar2 f).can = s.can := rfl
@[simp] theorem State.modBar2_nor (f : Bar2 → Bar2) : (s.modBar2 f).nor = s.nor := rfl
@[simp] theorem State.modBar2_power (f : Bar2 → Bar2) : (s.modBar2 f).power = s.power := rfl
@[simp] theorem State.modBar2_stns (f : Bar2 → Bar2) : (s.modBar2 f).stns = s.stns := rfl
@[simp] theorem State.modBar2_heads (f : Bar2 → Bar2) : (s.modBar2 f).heads = s.heads := rfl
@[simp] theorem State.modBar2_loops (f : Bar2 → Bar2) : (s.modBar2 f).loops = s.loops := rfl
@[simp] theorem State.modBar2_engines (f : Bar2 → Bar2) : (s.modBar2 f).engines = s.engines := rfl
@[simp] theorem State.modBar2_seqs (f : Bar2 → Bar2) : (s.modBar2 f).seqs = s.seqs := rfl
@[simp] theorem State.modBar2_stores (f : Bar2 → Bar2) : (s.modBar2 f).stores = s.stores := rfl
@[simp] theorem State.modBar2_pins (f : Bar2 → Bar2) : (s.modBar2 f).pins = s.pins := rfl
@[simp] theorem State.modBar2_sides (f : Bar2 → Bar2) : (s.modBar2 f).sides = s.sides := rfl
@[simp] theorem State.modBar2_ring (f : Bar2 → Bar2) : (s.modBar2 f).ring = s.ring := rfl
@[simp] theorem State.modBar2_pool (f : Bar2 → Bar2) : (s.modBar2 f).pool = s.pool := rfl
@[simp] theorem State.modBar2_nvme (f : Bar2 → Bar2) : (s.modBar2 f).nvme = s.nvme := rfl
@[simp] theorem State.modBar2_granary (f : Bar2 → Bar2) : (s.modBar2 f).granary = s.granary := rfl
@[simp] theorem State.modBar2_sec (f : Bar2 → Bar2) : (s.modBar2 f).sec = s.sec := rfl
@[simp] theorem State.modBar2_hbm (f : Bar2 → Bar2) : (s.modBar2 f).hbm = s.hbm := rfl
@[simp] theorem State.modBar2_fabric (f : Bar2 → Bar2) : (s.modBar2 f).fabric = s.fabric := rfl
@[simp] theorem State.modBar2_spread (f : Bar2 → Bar2) : (s.modBar2 f).spread = s.spread := rfl
@[simp] theorem State.modBar2_arb (f : Bar2 → Bar2) : (s.modBar2 f).arb = s.arb := rfl
@[simp] theorem State.modBar2_cal (f : Bar2 → Bar2) : (s.modBar2 f).cal = s.cal := rfl
@[simp] theorem State.modBar2_bist (f : Bar2 → Bar2) : (s.modBar2 f).bist = s.bist := rfl
@[simp] theorem State.modBar2_selfTest (f : Bar2 → Bar2) : (s.modBar2 f).selfTest = s.selfTest := rfl
@[simp] theorem State.modBar2_out (f : Bar2 → Bar2) : (s.modBar2 f).out = s.out := rfl
@[simp] theorem State.modBar2_pending (f : Bar2 → Bar2) : (s.modBar2 f).pending = s.pending := rfl
@[simp] theorem State.modBar2_reg (f : Bar2 → Bar2) (x : Nat) : (s.modBar2 f).reg x = s.reg x := rfl
@[simp] theorem State.modBar2_raw (f : Bar2 → Bar2) (x : Nat) : (s.modBar2 f).raw x = s.raw x := rfl
@[simp] theorem State.modBar2_stn (f : Bar2 → Bar2) (x : Nat) : (s.modBar2 f).stn x = s.stn x := rfl
@[simp] theorem State.modBar2_hd (f : Bar2 → Bar2) (x : Nat) : (s.modBar2 f).hd x = s.hd x := rfl
@[simp] theorem State.modBar2_eng (f : Bar2 → Bar2) (x : Nat) : (s.modBar2 f).eng x = s.eng x := rfl
@[simp] theorem State.modBar2_sq (f : Bar2 → Bar2) (x : Nat) : (s.modBar2 f).sq x = s.sq x := rfl
@[simp] theorem State.modBar2_lp (f : Bar2 → Bar2) (x y : Nat) : (s.modBar2 f).lp x y = s.lp x y := rfl

/-! #### modCan -/

@[simp] theorem State.modCan_can (f : Can → Can) : (s.modCan f).can = f s.can := rfl
@[simp] theorem State.modCan_part (f : Can → Can) : (s.modCan f).part = s.part := rfl
@[simp] theorem State.modCan_now (f : Can → Can) : (s.modCan f).now = s.now := rfl
@[simp] theorem State.modCan_regs (f : Can → Can) : (s.modCan f).regs = s.regs := rfl
@[simp] theorem State.modCan_raws (f : Can → Can) : (s.modCan f).raws = s.raws := rfl
@[simp] theorem State.modCan_free (f : Can → Can) : (s.modCan f).free = s.free := rfl
@[simp] theorem State.modCan_ledger (f : Can → Can) : (s.modCan f).ledger = s.ledger := rfl
@[simp] theorem State.modCan_bar2 (f : Can → Can) : (s.modCan f).bar2 = s.bar2 := rfl
@[simp] theorem State.modCan_nor (f : Can → Can) : (s.modCan f).nor = s.nor := rfl
@[simp] theorem State.modCan_power (f : Can → Can) : (s.modCan f).power = s.power := rfl
@[simp] theorem State.modCan_stns (f : Can → Can) : (s.modCan f).stns = s.stns := rfl
@[simp] theorem State.modCan_heads (f : Can → Can) : (s.modCan f).heads = s.heads := rfl
@[simp] theorem State.modCan_loops (f : Can → Can) : (s.modCan f).loops = s.loops := rfl
@[simp] theorem State.modCan_engines (f : Can → Can) : (s.modCan f).engines = s.engines := rfl
@[simp] theorem State.modCan_seqs (f : Can → Can) : (s.modCan f).seqs = s.seqs := rfl
@[simp] theorem State.modCan_stores (f : Can → Can) : (s.modCan f).stores = s.stores := rfl
@[simp] theorem State.modCan_pins (f : Can → Can) : (s.modCan f).pins = s.pins := rfl
@[simp] theorem State.modCan_sides (f : Can → Can) : (s.modCan f).sides = s.sides := rfl
@[simp] theorem State.modCan_ring (f : Can → Can) : (s.modCan f).ring = s.ring := rfl
@[simp] theorem State.modCan_pool (f : Can → Can) : (s.modCan f).pool = s.pool := rfl
@[simp] theorem State.modCan_nvme (f : Can → Can) : (s.modCan f).nvme = s.nvme := rfl
@[simp] theorem State.modCan_granary (f : Can → Can) : (s.modCan f).granary = s.granary := rfl
@[simp] theorem State.modCan_sec (f : Can → Can) : (s.modCan f).sec = s.sec := rfl
@[simp] theorem State.modCan_hbm (f : Can → Can) : (s.modCan f).hbm = s.hbm := rfl
@[simp] theorem State.modCan_fabric (f : Can → Can) : (s.modCan f).fabric = s.fabric := rfl
@[simp] theorem State.modCan_spread (f : Can → Can) : (s.modCan f).spread = s.spread := rfl
@[simp] theorem State.modCan_arb (f : Can → Can) : (s.modCan f).arb = s.arb := rfl
@[simp] theorem State.modCan_cal (f : Can → Can) : (s.modCan f).cal = s.cal := rfl
@[simp] theorem State.modCan_bist (f : Can → Can) : (s.modCan f).bist = s.bist := rfl
@[simp] theorem State.modCan_selfTest (f : Can → Can) : (s.modCan f).selfTest = s.selfTest := rfl
@[simp] theorem State.modCan_out (f : Can → Can) : (s.modCan f).out = s.out := rfl
@[simp] theorem State.modCan_pending (f : Can → Can) : (s.modCan f).pending = s.pending := rfl
@[simp] theorem State.modCan_reg (f : Can → Can) (x : Nat) : (s.modCan f).reg x = s.reg x := rfl
@[simp] theorem State.modCan_raw (f : Can → Can) (x : Nat) : (s.modCan f).raw x = s.raw x := rfl
@[simp] theorem State.modCan_stn (f : Can → Can) (x : Nat) : (s.modCan f).stn x = s.stn x := rfl
@[simp] theorem State.modCan_hd (f : Can → Can) (x : Nat) : (s.modCan f).hd x = s.hd x := rfl
@[simp] theorem State.modCan_eng (f : Can → Can) (x : Nat) : (s.modCan f).eng x = s.eng x := rfl
@[simp] theorem State.modCan_sq (f : Can → Can) (x : Nat) : (s.modCan f).sq x = s.sq x := rfl
@[simp] theorem State.modCan_lp (f : Can → Can) (x y : Nat) : (s.modCan f).lp x y = s.lp x y := rfl

/-! #### modBist -/

@[simp] theorem State.modBist_bist (f : Bist → Bist) : (s.modBist f).bist = f s.bist := rfl
@[simp] theorem State.modBist_part (f : Bist → Bist) : (s.modBist f).part = s.part := rfl
@[simp] theorem State.modBist_now (f : Bist → Bist) : (s.modBist f).now = s.now := rfl
@[simp] theorem State.modBist_regs (f : Bist → Bist) : (s.modBist f).regs = s.regs := rfl
@[simp] theorem State.modBist_raws (f : Bist → Bist) : (s.modBist f).raws = s.raws := rfl
@[simp] theorem State.modBist_free (f : Bist → Bist) : (s.modBist f).free = s.free := rfl
@[simp] theorem State.modBist_ledger (f : Bist → Bist) : (s.modBist f).ledger = s.ledger := rfl
@[simp] theorem State.modBist_can (f : Bist → Bist) : (s.modBist f).can = s.can := rfl
@[simp] theorem State.modBist_bar2 (f : Bist → Bist) : (s.modBist f).bar2 = s.bar2 := rfl
@[simp] theorem State.modBist_nor (f : Bist → Bist) : (s.modBist f).nor = s.nor := rfl
@[simp] theorem State.modBist_power (f : Bist → Bist) : (s.modBist f).power = s.power := rfl
@[simp] theorem State.modBist_stns (f : Bist → Bist) : (s.modBist f).stns = s.stns := rfl
@[simp] theorem State.modBist_heads (f : Bist → Bist) : (s.modBist f).heads = s.heads := rfl
@[simp] theorem State.modBist_loops (f : Bist → Bist) : (s.modBist f).loops = s.loops := rfl
@[simp] theorem State.modBist_engines (f : Bist → Bist) : (s.modBist f).engines = s.engines := rfl
@[simp] theorem State.modBist_seqs (f : Bist → Bist) : (s.modBist f).seqs = s.seqs := rfl
@[simp] theorem State.modBist_stores (f : Bist → Bist) : (s.modBist f).stores = s.stores := rfl
@[simp] theorem State.modBist_pins (f : Bist → Bist) : (s.modBist f).pins = s.pins := rfl
@[simp] theorem State.modBist_sides (f : Bist → Bist) : (s.modBist f).sides = s.sides := rfl
@[simp] theorem State.modBist_ring (f : Bist → Bist) : (s.modBist f).ring = s.ring := rfl
@[simp] theorem State.modBist_pool (f : Bist → Bist) : (s.modBist f).pool = s.pool := rfl
@[simp] theorem State.modBist_nvme (f : Bist → Bist) : (s.modBist f).nvme = s.nvme := rfl
@[simp] theorem State.modBist_granary (f : Bist → Bist) : (s.modBist f).granary = s.granary := rfl
@[simp] theorem State.modBist_sec (f : Bist → Bist) : (s.modBist f).sec = s.sec := rfl
@[simp] theorem State.modBist_hbm (f : Bist → Bist) : (s.modBist f).hbm = s.hbm := rfl
@[simp] theorem State.modBist_fabric (f : Bist → Bist) : (s.modBist f).fabric = s.fabric := rfl
@[simp] theorem State.modBist_spread (f : Bist → Bist) : (s.modBist f).spread = s.spread := rfl
@[simp] theorem State.modBist_arb (f : Bist → Bist) : (s.modBist f).arb = s.arb := rfl
@[simp] theorem State.modBist_cal (f : Bist → Bist) : (s.modBist f).cal = s.cal := rfl
@[simp] theorem State.modBist_selfTest (f : Bist → Bist) : (s.modBist f).selfTest = s.selfTest := rfl
@[simp] theorem State.modBist_out (f : Bist → Bist) : (s.modBist f).out = s.out := rfl
@[simp] theorem State.modBist_pending (f : Bist → Bist) : (s.modBist f).pending = s.pending := rfl
@[simp] theorem State.modBist_reg (f : Bist → Bist) (x : Nat) : (s.modBist f).reg x = s.reg x := rfl
@[simp] theorem State.modBist_raw (f : Bist → Bist) (x : Nat) : (s.modBist f).raw x = s.raw x := rfl
@[simp] theorem State.modBist_stn (f : Bist → Bist) (x : Nat) : (s.modBist f).stn x = s.stn x := rfl
@[simp] theorem State.modBist_hd (f : Bist → Bist) (x : Nat) : (s.modBist f).hd x = s.hd x := rfl
@[simp] theorem State.modBist_eng (f : Bist → Bist) (x : Nat) : (s.modBist f).eng x = s.eng x := rfl
@[simp] theorem State.modBist_sq (f : Bist → Bist) (x : Nat) : (s.modBist f).sq x = s.sq x := rfl
@[simp] theorem State.modBist_lp (f : Bist → Bist) (x y : Nat) : (s.modBist f).lp x y = s.lp x y := rfl

/-! #### modCal -/

@[simp] theorem State.modCal_cal (f : Cal → Cal) : (s.modCal f).cal = f s.cal := rfl
@[simp] theorem State.modCal_part (f : Cal → Cal) : (s.modCal f).part = s.part := rfl
@[simp] theorem State.modCal_now (f : Cal → Cal) : (s.modCal f).now = s.now := rfl
@[simp] theorem State.modCal_regs (f : Cal → Cal) : (s.modCal f).regs = s.regs := rfl
@[simp] theorem State.modCal_raws (f : Cal → Cal) : (s.modCal f).raws = s.raws := rfl
@[simp] theorem State.modCal_free (f : Cal → Cal) : (s.modCal f).free = s.free := rfl
@[simp] theorem State.modCal_ledger (f : Cal → Cal) : (s.modCal f).ledger = s.ledger := rfl
@[simp] theorem State.modCal_can (f : Cal → Cal) : (s.modCal f).can = s.can := rfl
@[simp] theorem State.modCal_bar2 (f : Cal → Cal) : (s.modCal f).bar2 = s.bar2 := rfl
@[simp] theorem State.modCal_nor (f : Cal → Cal) : (s.modCal f).nor = s.nor := rfl
@[simp] theorem State.modCal_power (f : Cal → Cal) : (s.modCal f).power = s.power := rfl
@[simp] theorem State.modCal_stns (f : Cal → Cal) : (s.modCal f).stns = s.stns := rfl
@[simp] theorem State.modCal_heads (f : Cal → Cal) : (s.modCal f).heads = s.heads := rfl
@[simp] theorem State.modCal_loops (f : Cal → Cal) : (s.modCal f).loops = s.loops := rfl
@[simp] theorem State.modCal_engines (f : Cal → Cal) : (s.modCal f).engines = s.engines := rfl
@[simp] theorem State.modCal_seqs (f : Cal → Cal) : (s.modCal f).seqs = s.seqs := rfl
@[simp] theorem State.modCal_stores (f : Cal → Cal) : (s.modCal f).stores = s.stores := rfl
@[simp] theorem State.modCal_pins (f : Cal → Cal) : (s.modCal f).pins = s.pins := rfl
@[simp] theorem State.modCal_sides (f : Cal → Cal) : (s.modCal f).sides = s.sides := rfl
@[simp] theorem State.modCal_ring (f : Cal → Cal) : (s.modCal f).ring = s.ring := rfl
@[simp] theorem State.modCal_pool (f : Cal → Cal) : (s.modCal f).pool = s.pool := rfl
@[simp] theorem State.modCal_nvme (f : Cal → Cal) : (s.modCal f).nvme = s.nvme := rfl
@[simp] theorem State.modCal_granary (f : Cal → Cal) : (s.modCal f).granary = s.granary := rfl
@[simp] theorem State.modCal_sec (f : Cal → Cal) : (s.modCal f).sec = s.sec := rfl
@[simp] theorem State.modCal_hbm (f : Cal → Cal) : (s.modCal f).hbm = s.hbm := rfl
@[simp] theorem State.modCal_fabric (f : Cal → Cal) : (s.modCal f).fabric = s.fabric := rfl
@[simp] theorem State.modCal_spread (f : Cal → Cal) : (s.modCal f).spread = s.spread := rfl
@[simp] theorem State.modCal_arb (f : Cal → Cal) : (s.modCal f).arb = s.arb := rfl
@[simp] theorem State.modCal_bist (f : Cal → Cal) : (s.modCal f).bist = s.bist := rfl
@[simp] theorem State.modCal_selfTest (f : Cal → Cal) : (s.modCal f).selfTest = s.selfTest := rfl
@[simp] theorem State.modCal_out (f : Cal → Cal) : (s.modCal f).out = s.out := rfl
@[simp] theorem State.modCal_pending (f : Cal → Cal) : (s.modCal f).pending = s.pending := rfl
@[simp] theorem State.modCal_reg (f : Cal → Cal) (x : Nat) : (s.modCal f).reg x = s.reg x := rfl
@[simp] theorem State.modCal_raw (f : Cal → Cal) (x : Nat) : (s.modCal f).raw x = s.raw x := rfl
@[simp] theorem State.modCal_stn (f : Cal → Cal) (x : Nat) : (s.modCal f).stn x = s.stn x := rfl
@[simp] theorem State.modCal_hd (f : Cal → Cal) (x : Nat) : (s.modCal f).hd x = s.hd x := rfl
@[simp] theorem State.modCal_eng (f : Cal → Cal) (x : Nat) : (s.modCal f).eng x = s.eng x := rfl
@[simp] theorem State.modCal_sq (f : Cal → Cal) (x : Nat) : (s.modCal f).sq x = s.sq x := rfl
@[simp] theorem State.modCal_lp (f : Cal → Cal) (x y : Nat) : (s.modCal f).lp x y = s.lp x y := rfl

/-! #### modTest -/

@[simp] theorem State.modTest_selfTest (f : SelfTest → SelfTest) : (s.modTest f).selfTest = s.selfTest.map f := rfl
@[simp] theorem State.modTest_part (f : SelfTest → SelfTest) : (s.modTest f).part = s.part := rfl
@[simp] theorem State.modTest_now (f : SelfTest → SelfTest) : (s.modTest f).now = s.now := rfl
@[simp] theorem State.modTest_regs (f : SelfTest → SelfTest) : (s.modTest f).regs = s.regs := rfl
@[simp] theorem State.modTest_raws (f : SelfTest → SelfTest) : (s.modTest f).raws = s.raws := rfl
@[simp] theorem State.modTest_free (f : SelfTest → SelfTest) : (s.modTest f).free = s.free := rfl
@[simp] theorem State.modTest_ledger (f : SelfTest → SelfTest) : (s.modTest f).ledger = s.ledger := rfl
@[simp] theorem State.modTest_can (f : SelfTest → SelfTest) : (s.modTest f).can = s.can := rfl
@[simp] theorem State.modTest_bar2 (f : SelfTest → SelfTest) : (s.modTest f).bar2 = s.bar2 := rfl
@[simp] theorem State.modTest_nor (f : SelfTest → SelfTest) : (s.modTest f).nor = s.nor := rfl
@[simp] theorem State.modTest_power (f : SelfTest → SelfTest) : (s.modTest f).power = s.power := rfl
@[simp] theorem State.modTest_stns (f : SelfTest → SelfTest) : (s.modTest f).stns = s.stns := rfl
@[simp] theorem State.modTest_heads (f : SelfTest → SelfTest) : (s.modTest f).heads = s.heads := rfl
@[simp] theorem State.modTest_loops (f : SelfTest → SelfTest) : (s.modTest f).loops = s.loops := rfl
@[simp] theorem State.modTest_engines (f : SelfTest → SelfTest) : (s.modTest f).engines = s.engines := rfl
@[simp] theorem State.modTest_seqs (f : SelfTest → SelfTest) : (s.modTest f).seqs = s.seqs := rfl
@[simp] theorem State.modTest_stores (f : SelfTest → SelfTest) : (s.modTest f).stores = s.stores := rfl
@[simp] theorem State.modTest_pins (f : SelfTest → SelfTest) : (s.modTest f).pins = s.pins := rfl
@[simp] theorem State.modTest_sides (f : SelfTest → SelfTest) : (s.modTest f).sides = s.sides := rfl
@[simp] theorem State.modTest_ring (f : SelfTest → SelfTest) : (s.modTest f).ring = s.ring := rfl
@[simp] theorem State.modTest_pool (f : SelfTest → SelfTest) : (s.modTest f).pool = s.pool := rfl
@[simp] theorem State.modTest_nvme (f : SelfTest → SelfTest) : (s.modTest f).nvme = s.nvme := rfl
@[simp] theorem State.modTest_granary (f : SelfTest → SelfTest) : (s.modTest f).granary = s.granary := rfl
@[simp] theorem State.modTest_sec (f : SelfTest → SelfTest) : (s.modTest f).sec = s.sec := rfl
@[simp] theorem State.modTest_hbm (f : SelfTest → SelfTest) : (s.modTest f).hbm = s.hbm := rfl
@[simp] theorem State.modTest_fabric (f : SelfTest → SelfTest) : (s.modTest f).fabric = s.fabric := rfl
@[simp] theorem State.modTest_spread (f : SelfTest → SelfTest) : (s.modTest f).spread = s.spread := rfl
@[simp] theorem State.modTest_arb (f : SelfTest → SelfTest) : (s.modTest f).arb = s.arb := rfl
@[simp] theorem State.modTest_cal (f : SelfTest → SelfTest) : (s.modTest f).cal = s.cal := rfl
@[simp] theorem State.modTest_bist (f : SelfTest → SelfTest) : (s.modTest f).bist = s.bist := rfl
@[simp] theorem State.modTest_out (f : SelfTest → SelfTest) : (s.modTest f).out = s.out := rfl
@[simp] theorem State.modTest_pending (f : SelfTest → SelfTest) : (s.modTest f).pending = s.pending := rfl
@[simp] theorem State.modTest_reg (f : SelfTest → SelfTest) (x : Nat) : (s.modTest f).reg x = s.reg x := rfl
@[simp] theorem State.modTest_raw (f : SelfTest → SelfTest) (x : Nat) : (s.modTest f).raw x = s.raw x := rfl
@[simp] theorem State.modTest_stn (f : SelfTest → SelfTest) (x : Nat) : (s.modTest f).stn x = s.stn x := rfl
@[simp] theorem State.modTest_hd (f : SelfTest → SelfTest) (x : Nat) : (s.modTest f).hd x = s.hd x := rfl
@[simp] theorem State.modTest_eng (f : SelfTest → SelfTest) (x : Nat) : (s.modTest f).eng x = s.eng x := rfl
@[simp] theorem State.modTest_sq (f : SelfTest → SelfTest) (x : Nat) : (s.modTest f).sq x = s.sq x := rfl
@[simp] theorem State.modTest_lp (f : SelfTest → SelfTest) (x y : Nat) : (s.modTest f).lp x y = s.lp x y := rfl

/-! #### modStn -/

@[simp] theorem State.modStn_part (i : Nat) (f : Stn → Stn) : (s.modStn i f).part = s.part := rfl
@[simp] theorem State.modStn_now (i : Nat) (f : Stn → Stn) : (s.modStn i f).now = s.now := rfl
@[simp] theorem State.modStn_regs (i : Nat) (f : Stn → Stn) : (s.modStn i f).regs = s.regs := rfl
@[simp] theorem State.modStn_raws (i : Nat) (f : Stn → Stn) : (s.modStn i f).raws = s.raws := rfl
@[simp] theorem State.modStn_free (i : Nat) (f : Stn → Stn) : (s.modStn i f).free = s.free := rfl
@[simp] theorem State.modStn_ledger (i : Nat) (f : Stn → Stn) : (s.modStn i f).ledger = s.ledger := rfl
@[simp] theorem State.modStn_can (i : Nat) (f : Stn → Stn) : (s.modStn i f).can = s.can := rfl
@[simp] theorem State.modStn_bar2 (i : Nat) (f : Stn → Stn) : (s.modStn i f).bar2 = s.bar2 := rfl
@[simp] theorem State.modStn_nor (i : Nat) (f : Stn → Stn) : (s.modStn i f).nor = s.nor := rfl
@[simp] theorem State.modStn_power (i : Nat) (f : Stn → Stn) : (s.modStn i f).power = s.power := rfl
@[simp] theorem State.modStn_heads (i : Nat) (f : Stn → Stn) : (s.modStn i f).heads = s.heads := rfl
@[simp] theorem State.modStn_loops (i : Nat) (f : Stn → Stn) : (s.modStn i f).loops = s.loops := rfl
@[simp] theorem State.modStn_engines (i : Nat) (f : Stn → Stn) : (s.modStn i f).engines = s.engines := rfl
@[simp] theorem State.modStn_seqs (i : Nat) (f : Stn → Stn) : (s.modStn i f).seqs = s.seqs := rfl
@[simp] theorem State.modStn_stores (i : Nat) (f : Stn → Stn) : (s.modStn i f).stores = s.stores := rfl
@[simp] theorem State.modStn_pins (i : Nat) (f : Stn → Stn) : (s.modStn i f).pins = s.pins := rfl
@[simp] theorem State.modStn_sides (i : Nat) (f : Stn → Stn) : (s.modStn i f).sides = s.sides := rfl
@[simp] theorem State.modStn_ring (i : Nat) (f : Stn → Stn) : (s.modStn i f).ring = s.ring := rfl
@[simp] theorem State.modStn_pool (i : Nat) (f : Stn → Stn) : (s.modStn i f).pool = s.pool := rfl
@[simp] theorem State.modStn_nvme (i : Nat) (f : Stn → Stn) : (s.modStn i f).nvme = s.nvme := rfl
@[simp] theorem State.modStn_granary (i : Nat) (f : Stn → Stn) : (s.modStn i f).granary = s.granary := rfl
@[simp] theorem State.modStn_sec (i : Nat) (f : Stn → Stn) : (s.modStn i f).sec = s.sec := rfl
@[simp] theorem State.modStn_hbm (i : Nat) (f : Stn → Stn) : (s.modStn i f).hbm = s.hbm := rfl
@[simp] theorem State.modStn_fabric (i : Nat) (f : Stn → Stn) : (s.modStn i f).fabric = s.fabric := rfl
@[simp] theorem State.modStn_spread (i : Nat) (f : Stn → Stn) : (s.modStn i f).spread = s.spread := rfl
@[simp] theorem State.modStn_arb (i : Nat) (f : Stn → Stn) : (s.modStn i f).arb = s.arb := rfl
@[simp] theorem State.modStn_cal (i : Nat) (f : Stn → Stn) : (s.modStn i f).cal = s.cal := rfl
@[simp] theorem State.modStn_bist (i : Nat) (f : Stn → Stn) : (s.modStn i f).bist = s.bist := rfl
@[simp] theorem State.modStn_selfTest (i : Nat) (f : Stn → Stn) : (s.modStn i f).selfTest = s.selfTest := rfl
@[simp] theorem State.modStn_out (i : Nat) (f : Stn → Stn) : (s.modStn i f).out = s.out := rfl
@[simp] theorem State.modStn_pending (i : Nat) (f : Stn → Stn) : (s.modStn i f).pending = s.pending := rfl
@[simp] theorem State.modStn_reg (i : Nat) (f : Stn → Stn) (x : Nat) : (s.modStn i f).reg x = s.reg x := rfl
@[simp] theorem State.modStn_raw (i : Nat) (f : Stn → Stn) (x : Nat) : (s.modStn i f).raw x = s.raw x := rfl
@[simp] theorem State.modStn_hd (i : Nat) (f : Stn → Stn) (x : Nat) : (s.modStn i f).hd x = s.hd x := rfl
@[simp] theorem State.modStn_eng (i : Nat) (f : Stn → Stn) (x : Nat) : (s.modStn i f).eng x = s.eng x := rfl
@[simp] theorem State.modStn_sq (i : Nat) (f : Stn → Stn) (x : Nat) : (s.modStn i f).sq x = s.sq x := rfl
@[simp] theorem State.modStn_lp (i : Nat) (f : Stn → Stn) (x y : Nat) : (s.modStn i f).lp x y = s.lp x y := rfl

/-! #### modHd -/

@[simp] theorem State.modHd_part (h : Nat) (f : Head → Head) : (s.modHd h f).part = s.part := rfl
@[simp] theorem State.modHd_now (h : Nat) (f : Head → Head) : (s.modHd h f).now = s.now := rfl
@[simp] theorem State.modHd_regs (h : Nat) (f : Head → Head) : (s.modHd h f).regs = s.regs := rfl
@[simp] theorem State.modHd_raws (h : Nat) (f : Head → Head) : (s.modHd h f).raws = s.raws := rfl
@[simp] theorem State.modHd_free (h : Nat) (f : Head → Head) : (s.modHd h f).free = s.free := rfl
@[simp] theorem State.modHd_ledger (h : Nat) (f : Head → Head) : (s.modHd h f).ledger = s.ledger := rfl
@[simp] theorem State.modHd_can (h : Nat) (f : Head → Head) : (s.modHd h f).can = s.can := rfl
@[simp] theorem State.modHd_bar2 (h : Nat) (f : Head → Head) : (s.modHd h f).bar2 = s.bar2 := rfl
@[simp] theorem State.modHd_nor (h : Nat) (f : Head → Head) : (s.modHd h f).nor = s.nor := rfl
@[simp] theorem State.modHd_power (h : Nat) (f : Head → Head) : (s.modHd h f).power = s.power := rfl
@[simp] theorem State.modHd_stns (h : Nat) (f : Head → Head) : (s.modHd h f).stns = s.stns := rfl
@[simp] theorem State.modHd_loops (h : Nat) (f : Head → Head) : (s.modHd h f).loops = s.loops := rfl
@[simp] theorem State.modHd_engines (h : Nat) (f : Head → Head) : (s.modHd h f).engines = s.engines := rfl
@[simp] theorem State.modHd_seqs (h : Nat) (f : Head → Head) : (s.modHd h f).seqs = s.seqs := rfl
@[simp] theorem State.modHd_stores (h : Nat) (f : Head → Head) : (s.modHd h f).stores = s.stores := rfl
@[simp] theorem State.modHd_pins (h : Nat) (f : Head → Head) : (s.modHd h f).pins = s.pins := rfl
@[simp] theorem State.modHd_sides (h : Nat) (f : Head → Head) : (s.modHd h f).sides = s.sides := rfl
@[simp] theorem State.modHd_ring (h : Nat) (f : Head → Head) : (s.modHd h f).ring = s.ring := rfl
@[simp] theorem State.modHd_pool (h : Nat) (f : Head → Head) : (s.modHd h f).pool = s.pool := rfl
@[simp] theorem State.modHd_nvme (h : Nat) (f : Head → Head) : (s.modHd h f).nvme = s.nvme := rfl
@[simp] theorem State.modHd_granary (h : Nat) (f : Head → Head) : (s.modHd h f).granary = s.granary := rfl
@[simp] theorem State.modHd_sec (h : Nat) (f : Head → Head) : (s.modHd h f).sec = s.sec := rfl
@[simp] theorem State.modHd_hbm (h : Nat) (f : Head → Head) : (s.modHd h f).hbm = s.hbm := rfl
@[simp] theorem State.modHd_fabric (h : Nat) (f : Head → Head) : (s.modHd h f).fabric = s.fabric := rfl
@[simp] theorem State.modHd_spread (h : Nat) (f : Head → Head) : (s.modHd h f).spread = s.spread := rfl
@[simp] theorem State.modHd_arb (h : Nat) (f : Head → Head) : (s.modHd h f).arb = s.arb := rfl
@[simp] theorem State.modHd_cal (h : Nat) (f : Head → Head) : (s.modHd h f).cal = s.cal := rfl
@[simp] theorem State.modHd_bist (h : Nat) (f : Head → Head) : (s.modHd h f).bist = s.bist := rfl
@[simp] theorem State.modHd_selfTest (h : Nat) (f : Head → Head) : (s.modHd h f).selfTest = s.selfTest := rfl
@[simp] theorem State.modHd_out (h : Nat) (f : Head → Head) : (s.modHd h f).out = s.out := rfl
@[simp] theorem State.modHd_pending (h : Nat) (f : Head → Head) : (s.modHd h f).pending = s.pending := rfl
@[simp] theorem State.modHd_reg (h : Nat) (f : Head → Head) (x : Nat) : (s.modHd h f).reg x = s.reg x := rfl
@[simp] theorem State.modHd_raw (h : Nat) (f : Head → Head) (x : Nat) : (s.modHd h f).raw x = s.raw x := rfl
@[simp] theorem State.modHd_stn (h : Nat) (f : Head → Head) (x : Nat) : (s.modHd h f).stn x = s.stn x := rfl
@[simp] theorem State.modHd_eng (h : Nat) (f : Head → Head) (x : Nat) : (s.modHd h f).eng x = s.eng x := rfl
@[simp] theorem State.modHd_sq (h : Nat) (f : Head → Head) (x : Nat) : (s.modHd h f).sq x = s.sq x := rfl
@[simp] theorem State.modHd_lp (h : Nat) (f : Head → Head) (x y : Nat) : (s.modHd h f).lp x y = s.lp x y := rfl

/-! #### modLp -/

@[simp] theorem State.modLp_part (e l : Nat) (f : Loop → Loop) : (s.modLp e l f).part = s.part := rfl
@[simp] theorem State.modLp_now (e l : Nat) (f : Loop → Loop) : (s.modLp e l f).now = s.now := rfl
@[simp] theorem State.modLp_regs (e l : Nat) (f : Loop → Loop) : (s.modLp e l f).regs = s.regs := rfl
@[simp] theorem State.modLp_raws (e l : Nat) (f : Loop → Loop) : (s.modLp e l f).raws = s.raws := rfl
@[simp] theorem State.modLp_free (e l : Nat) (f : Loop → Loop) : (s.modLp e l f).free = s.free := rfl
@[simp] theorem State.modLp_ledger (e l : Nat) (f : Loop → Loop) : (s.modLp e l f).ledger = s.ledger := rfl
@[simp] theorem State.modLp_can (e l : Nat) (f : Loop → Loop) : (s.modLp e l f).can = s.can := rfl
@[simp] theorem State.modLp_bar2 (e l : Nat) (f : Loop → Loop) : (s.modLp e l f).bar2 = s.bar2 := rfl
@[simp] theorem State.modLp_nor (e l : Nat) (f : Loop → Loop) : (s.modLp e l f).nor = s.nor := rfl
@[simp] theorem State.modLp_power (e l : Nat) (f : Loop → Loop) : (s.modLp e l f).power = s.power := rfl
@[simp] theorem State.modLp_stns (e l : Nat) (f : Loop → Loop) : (s.modLp e l f).stns = s.stns := rfl
@[simp] theorem State.modLp_heads (e l : Nat) (f : Loop → Loop) : (s.modLp e l f).heads = s.heads := rfl
@[simp] theorem State.modLp_engines (e l : Nat) (f : Loop → Loop) : (s.modLp e l f).engines = s.engines := rfl
@[simp] theorem State.modLp_seqs (e l : Nat) (f : Loop → Loop) : (s.modLp e l f).seqs = s.seqs := rfl
@[simp] theorem State.modLp_stores (e l : Nat) (f : Loop → Loop) : (s.modLp e l f).stores = s.stores := rfl
@[simp] theorem State.modLp_pins (e l : Nat) (f : Loop → Loop) : (s.modLp e l f).pins = s.pins := rfl
@[simp] theorem State.modLp_sides (e l : Nat) (f : Loop → Loop) : (s.modLp e l f).sides = s.sides := rfl
@[simp] theorem State.modLp_ring (e l : Nat) (f : Loop → Loop) : (s.modLp e l f).ring = s.ring := rfl
@[simp] theorem State.modLp_pool (e l : Nat) (f : Loop → Loop) : (s.modLp e l f).pool = s.pool := rfl
@[simp] theorem State.modLp_nvme (e l : Nat) (f : Loop → Loop) : (s.modLp e l f).nvme = s.nvme := rfl
@[simp] theorem State.modLp_granary (e l : Nat) (f : Loop → Loop) : (s.modLp e l f).granary = s.granary := rfl
@[simp] theorem State.modLp_sec (e l : Nat) (f : Loop → Loop) : (s.modLp e l f).sec = s.sec := rfl
@[simp] theorem State.modLp_hbm (e l : Nat) (f : Loop → Loop) : (s.modLp e l f).hbm = s.hbm := rfl
@[simp] theorem State.modLp_fabric (e l : Nat) (f : Loop → Loop) : (s.modLp e l f).fabric = s.fabric := rfl
@[simp] theorem State.modLp_spread (e l : Nat) (f : Loop → Loop) : (s.modLp e l f).spread = s.spread := rfl
@[simp] theorem State.modLp_arb (e l : Nat) (f : Loop → Loop) : (s.modLp e l f).arb = s.arb := rfl
@[simp] theorem State.modLp_cal (e l : Nat) (f : Loop → Loop) : (s.modLp e l f).cal = s.cal := rfl
@[simp] theorem State.modLp_bist (e l : Nat) (f : Loop → Loop) : (s.modLp e l f).bist = s.bist := rfl
@[simp] theorem State.modLp_selfTest (e l : Nat) (f : Loop → Loop) : (s.modLp e l f).selfTest = s.selfTest := rfl
@[simp] theorem State.modLp_out (e l : Nat) (f : Loop → Loop) : (s.modLp e l f).out = s.out := rfl
@[simp] theorem State.modLp_pending (e l : Nat) (f : Loop → Loop) : (s.modLp e l f).pending = s.pending := rfl
@[simp] theorem State.modLp_reg (e l : Nat) (f : Loop → Loop) (x : Nat) : (s.modLp e l f).reg x = s.reg x := rfl
@[simp] theorem State.modLp_raw (e l : Nat) (f : Loop → Loop) (x : Nat) : (s.modLp e l f).raw x = s.raw x := rfl
@[simp] theorem State.modLp_stn (e l : Nat) (f : Loop → Loop) (x : Nat) : (s.modLp e l f).stn x = s.stn x := rfl
@[simp] theorem State.modLp_hd (e l : Nat) (f : Loop → Loop) (x : Nat) : (s.modLp e l f).hd x = s.hd x := rfl
@[simp] theorem State.modLp_eng (e l : Nat) (f : Loop → Loop) (x : Nat) : (s.modLp e l f).eng x = s.eng x := rfl
@[simp] theorem State.modLp_sq (e l : Nat) (f : Loop → Loop) (x : Nat) : (s.modLp e l f).sq x = s.sq x := rfl

/-! #### modEng -/

@[simp] theorem State.modEng_part (e : Nat) (f : Engine → Engine) : (s.modEng e f).part = s.part := rfl
@[simp] theorem State.modEng_now (e : Nat) (f : Engine → Engine) : (s.modEng e f).now = s.now := rfl
@[simp] theorem State.modEng_regs (e : Nat) (f : Engine → Engine) : (s.modEng e f).regs = s.regs := rfl
@[simp] theorem State.modEng_raws (e : Nat) (f : Engine → Engine) : (s.modEng e f).raws = s.raws := rfl
@[simp] theorem State.modEng_free (e : Nat) (f : Engine → Engine) : (s.modEng e f).free = s.free := rfl
@[simp] theorem State.modEng_ledger (e : Nat) (f : Engine → Engine) : (s.modEng e f).ledger = s.ledger := rfl
@[simp] theorem State.modEng_can (e : Nat) (f : Engine → Engine) : (s.modEng e f).can = s.can := rfl
@[simp] theorem State.modEng_bar2 (e : Nat) (f : Engine → Engine) : (s.modEng e f).bar2 = s.bar2 := rfl
@[simp] theorem State.modEng_nor (e : Nat) (f : Engine → Engine) : (s.modEng e f).nor = s.nor := rfl
@[simp] theorem State.modEng_power (e : Nat) (f : Engine → Engine) : (s.modEng e f).power = s.power := rfl
@[simp] theorem State.modEng_stns (e : Nat) (f : Engine → Engine) : (s.modEng e f).stns = s.stns := rfl
@[simp] theorem State.modEng_heads (e : Nat) (f : Engine → Engine) : (s.modEng e f).heads = s.heads := rfl
@[simp] theorem State.modEng_loops (e : Nat) (f : Engine → Engine) : (s.modEng e f).loops = s.loops := rfl
@[simp] theorem State.modEng_seqs (e : Nat) (f : Engine → Engine) : (s.modEng e f).seqs = s.seqs := rfl
@[simp] theorem State.modEng_stores (e : Nat) (f : Engine → Engine) : (s.modEng e f).stores = s.stores := rfl
@[simp] theorem State.modEng_pins (e : Nat) (f : Engine → Engine) : (s.modEng e f).pins = s.pins := rfl
@[simp] theorem State.modEng_sides (e : Nat) (f : Engine → Engine) : (s.modEng e f).sides = s.sides := rfl
@[simp] theorem State.modEng_ring (e : Nat) (f : Engine → Engine) : (s.modEng e f).ring = s.ring := rfl
@[simp] theorem State.modEng_pool (e : Nat) (f : Engine → Engine) : (s.modEng e f).pool = s.pool := rfl
@[simp] theorem State.modEng_nvme (e : Nat) (f : Engine → Engine) : (s.modEng e f).nvme = s.nvme := rfl
@[simp] theorem State.modEng_granary (e : Nat) (f : Engine → Engine) : (s.modEng e f).granary = s.granary := rfl
@[simp] theorem State.modEng_sec (e : Nat) (f : Engine → Engine) : (s.modEng e f).sec = s.sec := rfl
@[simp] theorem State.modEng_hbm (e : Nat) (f : Engine → Engine) : (s.modEng e f).hbm = s.hbm := rfl
@[simp] theorem State.modEng_fabric (e : Nat) (f : Engine → Engine) : (s.modEng e f).fabric = s.fabric := rfl
@[simp] theorem State.modEng_spread (e : Nat) (f : Engine → Engine) : (s.modEng e f).spread = s.spread := rfl
@[simp] theorem State.modEng_arb (e : Nat) (f : Engine → Engine) : (s.modEng e f).arb = s.arb := rfl
@[simp] theorem State.modEng_cal (e : Nat) (f : Engine → Engine) : (s.modEng e f).cal = s.cal := rfl
@[simp] theorem State.modEng_bist (e : Nat) (f : Engine → Engine) : (s.modEng e f).bist = s.bist := rfl
@[simp] theorem State.modEng_selfTest (e : Nat) (f : Engine → Engine) : (s.modEng e f).selfTest = s.selfTest := rfl
@[simp] theorem State.modEng_out (e : Nat) (f : Engine → Engine) : (s.modEng e f).out = s.out := rfl
@[simp] theorem State.modEng_pending (e : Nat) (f : Engine → Engine) : (s.modEng e f).pending = s.pending := rfl
@[simp] theorem State.modEng_reg (e : Nat) (f : Engine → Engine) (x : Nat) : (s.modEng e f).reg x = s.reg x := rfl
@[simp] theorem State.modEng_raw (e : Nat) (f : Engine → Engine) (x : Nat) : (s.modEng e f).raw x = s.raw x := rfl
@[simp] theorem State.modEng_stn (e : Nat) (f : Engine → Engine) (x : Nat) : (s.modEng e f).stn x = s.stn x := rfl
@[simp] theorem State.modEng_hd (e : Nat) (f : Engine → Engine) (x : Nat) : (s.modEng e f).hd x = s.hd x := rfl
@[simp] theorem State.modEng_sq (e : Nat) (f : Engine → Engine) (x : Nat) : (s.modEng e f).sq x = s.sq x := rfl
@[simp] theorem State.modEng_lp (e : Nat) (f : Engine → Engine) (x y : Nat) : (s.modEng e f).lp x y = s.lp x y := rfl

/-! #### modSq -/

@[simp] theorem State.modSq_part (e : Nat) (f : Seq → Seq) : (s.modSq e f).part = s.part := rfl
@[simp] theorem State.modSq_now (e : Nat) (f : Seq → Seq) : (s.modSq e f).now = s.now := rfl
@[simp] theorem State.modSq_regs (e : Nat) (f : Seq → Seq) : (s.modSq e f).regs = s.regs := rfl
@[simp] theorem State.modSq_raws (e : Nat) (f : Seq → Seq) : (s.modSq e f).raws = s.raws := rfl
@[simp] theorem State.modSq_free (e : Nat) (f : Seq → Seq) : (s.modSq e f).free = s.free := rfl
@[simp] theorem State.modSq_ledger (e : Nat) (f : Seq → Seq) : (s.modSq e f).ledger = s.ledger := rfl
@[simp] theorem State.modSq_can (e : Nat) (f : Seq → Seq) : (s.modSq e f).can = s.can := rfl
@[simp] theorem State.modSq_bar2 (e : Nat) (f : Seq → Seq) : (s.modSq e f).bar2 = s.bar2 := rfl
@[simp] theorem State.modSq_nor (e : Nat) (f : Seq → Seq) : (s.modSq e f).nor = s.nor := rfl
@[simp] theorem State.modSq_power (e : Nat) (f : Seq → Seq) : (s.modSq e f).power = s.power := rfl
@[simp] theorem State.modSq_stns (e : Nat) (f : Seq → Seq) : (s.modSq e f).stns = s.stns := rfl
@[simp] theorem State.modSq_heads (e : Nat) (f : Seq → Seq) : (s.modSq e f).heads = s.heads := rfl
@[simp] theorem State.modSq_loops (e : Nat) (f : Seq → Seq) : (s.modSq e f).loops = s.loops := rfl
@[simp] theorem State.modSq_engines (e : Nat) (f : Seq → Seq) : (s.modSq e f).engines = s.engines := rfl
@[simp] theorem State.modSq_stores (e : Nat) (f : Seq → Seq) : (s.modSq e f).stores = s.stores := rfl
@[simp] theorem State.modSq_pins (e : Nat) (f : Seq → Seq) : (s.modSq e f).pins = s.pins := rfl
@[simp] theorem State.modSq_sides (e : Nat) (f : Seq → Seq) : (s.modSq e f).sides = s.sides := rfl
@[simp] theorem State.modSq_ring (e : Nat) (f : Seq → Seq) : (s.modSq e f).ring = s.ring := rfl
@[simp] theorem State.modSq_pool (e : Nat) (f : Seq → Seq) : (s.modSq e f).pool = s.pool := rfl
@[simp] theorem State.modSq_nvme (e : Nat) (f : Seq → Seq) : (s.modSq e f).nvme = s.nvme := rfl
@[simp] theorem State.modSq_granary (e : Nat) (f : Seq → Seq) : (s.modSq e f).granary = s.granary := rfl
@[simp] theorem State.modSq_sec (e : Nat) (f : Seq → Seq) : (s.modSq e f).sec = s.sec := rfl
@[simp] theorem State.modSq_hbm (e : Nat) (f : Seq → Seq) : (s.modSq e f).hbm = s.hbm := rfl
@[simp] theorem State.modSq_fabric (e : Nat) (f : Seq → Seq) : (s.modSq e f).fabric = s.fabric := rfl
@[simp] theorem State.modSq_spread (e : Nat) (f : Seq → Seq) : (s.modSq e f).spread = s.spread := rfl
@[simp] theorem State.modSq_arb (e : Nat) (f : Seq → Seq) : (s.modSq e f).arb = s.arb := rfl
@[simp] theorem State.modSq_cal (e : Nat) (f : Seq → Seq) : (s.modSq e f).cal = s.cal := rfl
@[simp] theorem State.modSq_bist (e : Nat) (f : Seq → Seq) : (s.modSq e f).bist = s.bist := rfl
@[simp] theorem State.modSq_selfTest (e : Nat) (f : Seq → Seq) : (s.modSq e f).selfTest = s.selfTest := rfl
@[simp] theorem State.modSq_out (e : Nat) (f : Seq → Seq) : (s.modSq e f).out = s.out := rfl
@[simp] theorem State.modSq_pending (e : Nat) (f : Seq → Seq) : (s.modSq e f).pending = s.pending := rfl
@[simp] theorem State.modSq_reg (e : Nat) (f : Seq → Seq) (x : Nat) : (s.modSq e f).reg x = s.reg x := rfl
@[simp] theorem State.modSq_raw (e : Nat) (f : Seq → Seq) (x : Nat) : (s.modSq e f).raw x = s.raw x := rfl
@[simp] theorem State.modSq_stn (e : Nat) (f : Seq → Seq) (x : Nat) : (s.modSq e f).stn x = s.stn x := rfl
@[simp] theorem State.modSq_hd (e : Nat) (f : Seq → Seq) (x : Nat) : (s.modSq e f).hd x = s.hd x := rfl
@[simp] theorem State.modSq_eng (e : Nat) (f : Seq → Seq) (x : Nat) : (s.modSq e f).eng x = s.eng x := rfl
@[simp] theorem State.modSq_lp (e : Nat) (f : Seq → Seq) (x y : Nat) : (s.modSq e f).lp x y = s.lp x y := rfl

/-! #### modSide -/

@[simp] theorem State.modSide_part (n : Nat) (f : Side → Side) : (s.modSide n f).part = s.part := rfl
@[simp] theorem State.modSide_now (n : Nat) (f : Side → Side) : (s.modSide n f).now = s.now := rfl
@[simp] theorem State.modSide_regs (n : Nat) (f : Side → Side) : (s.modSide n f).regs = s.regs := rfl
@[simp] theorem State.modSide_raws (n : Nat) (f : Side → Side) : (s.modSide n f).raws = s.raws := rfl
@[simp] theorem State.modSide_free (n : Nat) (f : Side → Side) : (s.modSide n f).free = s.free := rfl
@[simp] theorem State.modSide_ledger (n : Nat) (f : Side → Side) : (s.modSide n f).ledger = s.ledger := rfl
@[simp] theorem State.modSide_can (n : Nat) (f : Side → Side) : (s.modSide n f).can = s.can := rfl
@[simp] theorem State.modSide_bar2 (n : Nat) (f : Side → Side) : (s.modSide n f).bar2 = s.bar2 := rfl
@[simp] theorem State.modSide_nor (n : Nat) (f : Side → Side) : (s.modSide n f).nor = s.nor := rfl
@[simp] theorem State.modSide_power (n : Nat) (f : Side → Side) : (s.modSide n f).power = s.power := rfl
@[simp] theorem State.modSide_stns (n : Nat) (f : Side → Side) : (s.modSide n f).stns = s.stns := rfl
@[simp] theorem State.modSide_heads (n : Nat) (f : Side → Side) : (s.modSide n f).heads = s.heads := rfl
@[simp] theorem State.modSide_loops (n : Nat) (f : Side → Side) : (s.modSide n f).loops = s.loops := rfl
@[simp] theorem State.modSide_engines (n : Nat) (f : Side → Side) : (s.modSide n f).engines = s.engines := rfl
@[simp] theorem State.modSide_seqs (n : Nat) (f : Side → Side) : (s.modSide n f).seqs = s.seqs := rfl
@[simp] theorem State.modSide_stores (n : Nat) (f : Side → Side) : (s.modSide n f).stores = s.stores := rfl
@[simp] theorem State.modSide_pins (n : Nat) (f : Side → Side) : (s.modSide n f).pins = s.pins := rfl
@[simp] theorem State.modSide_ring (n : Nat) (f : Side → Side) : (s.modSide n f).ring = s.ring := rfl
@[simp] theorem State.modSide_pool (n : Nat) (f : Side → Side) : (s.modSide n f).pool = s.pool := rfl
@[simp] theorem State.modSide_nvme (n : Nat) (f : Side → Side) : (s.modSide n f).nvme = s.nvme := rfl
@[simp] theorem State.modSide_granary (n : Nat) (f : Side → Side) : (s.modSide n f).granary = s.granary := rfl
@[simp] theorem State.modSide_sec (n : Nat) (f : Side → Side) : (s.modSide n f).sec = s.sec := rfl
@[simp] theorem State.modSide_hbm (n : Nat) (f : Side → Side) : (s.modSide n f).hbm = s.hbm := rfl
@[simp] theorem State.modSide_fabric (n : Nat) (f : Side → Side) : (s.modSide n f).fabric = s.fabric := rfl
@[simp] theorem State.modSide_spread (n : Nat) (f : Side → Side) : (s.modSide n f).spread = s.spread := rfl
@[simp] theorem State.modSide_arb (n : Nat) (f : Side → Side) : (s.modSide n f).arb = s.arb := rfl
@[simp] theorem State.modSide_cal (n : Nat) (f : Side → Side) : (s.modSide n f).cal = s.cal := rfl
@[simp] theorem State.modSide_bist (n : Nat) (f : Side → Side) : (s.modSide n f).bist = s.bist := rfl
@[simp] theorem State.modSide_selfTest (n : Nat) (f : Side → Side) : (s.modSide n f).selfTest = s.selfTest := rfl
@[simp] theorem State.modSide_out (n : Nat) (f : Side → Side) : (s.modSide n f).out = s.out := rfl
@[simp] theorem State.modSide_pending (n : Nat) (f : Side → Side) : (s.modSide n f).pending = s.pending := rfl
@[simp] theorem State.modSide_reg (n : Nat) (f : Side → Side) (x : Nat) : (s.modSide n f).reg x = s.reg x := rfl
@[simp] theorem State.modSide_raw (n : Nat) (f : Side → Side) (x : Nat) : (s.modSide n f).raw x = s.raw x := rfl
@[simp] theorem State.modSide_stn (n : Nat) (f : Side → Side) (x : Nat) : (s.modSide n f).stn x = s.stn x := rfl
@[simp] theorem State.modSide_hd (n : Nat) (f : Side → Side) (x : Nat) : (s.modSide n f).hd x = s.hd x := rfl
@[simp] theorem State.modSide_eng (n : Nat) (f : Side → Side) (x : Nat) : (s.modSide n f).eng x = s.eng x := rfl
@[simp] theorem State.modSide_sq (n : Nat) (f : Side → Side) (x : Nat) : (s.modSide n f).sq x = s.sq x := rfl
@[simp] theorem State.modSide_lp (n : Nat) (f : Side → Side) (x y : Nat) : (s.modSide n f).lp x y = s.lp x y := rfl

end Sys2Proof.Machine
end

