-- ==== Sys2Proof/Laws/Tables.lean ====
section
/-! SUPPORT. The sparse tables: what a read gives after a write, and that every write keeps the canonical form. -/

namespace Sys2Proof.Machine

variable {α : Type}

/-! ### Reads after writes -/

@[simp] theorem findKey_eraseKey (k a : Nat) (l : List (Nat × α)) :
    findKey a (eraseKey k l) = if a = k then none else findKey a l := by
  induction l with
  | nil => simp [eraseKey, findKey]
  | cons p r ih =>
    obtain ⟨b, v⟩ := p
    simp only [eraseKey, findKey]
    split <;> rename_i h
    · subst h; rw [ih]; split <;> rename_i h2
      · rfl
      · rw [if_neg (fun e => h2 e.symm)]
    · simp only [findKey, ih]
      by_cases hb : b = a
      · subst hb; simp [h]
      · simp [hb]

@[simp] theorem findKey_insertKey (k a : Nat) (v : α) (l : List (Nat × α)) :
    findKey a (insertKey k v l) = if a = k then some v else findKey a l := by
  induction l with
  | nil => simp [insertKey, findKey, eq_comm]
  | cons p r ih =>
    obtain ⟨b, w⟩ := p
    simp only [insertKey]
    split
    · simp only [findKey]
      by_cases hk : k = a
      · subst hk; simp
      · simp [hk, Ne.symm hk]
    · split <;> rename_i h1 h2
      · subst h2
        simp only [findKey]
        by_cases hk : b = a
        · subst hk; simp
        · simp [hk, Ne.symm hk]
      · simp only [findKey, ih]
        by_cases hb : b = a
        · subst hb; simp [h2]
        · simp [hb]

theorem findKey_putKey [DecidableEq α] (k a : Nat) (v d : α) (l : List (Nat × α)) :
    (findKey a (putKey k v d l)).getD (if a = k then d else d) = if a = k then v else (findKey a l).getD d := by
  unfold putKey
  split <;> rename_i h
  · subst h; by_cases ha : a = k <;> simp [ha]
  · by_cases ha : a = k <;> simp [ha]

/-- The read of a written table. -/
theorem getD_putKey [DecidableEq α] (k a : Nat) (v d d' : α) (l : List (Nat × α)) (h : a = k → d' = d) :
    (findKey a (putKey k v d l)).getD d' = if a = k then v else (findKey a l).getD d' := by
  unfold putKey
  by_cases ha : a = k
  · rw [h ha]; split <;> simp_all
  · split <;> simp [ha]

/-- A register after a write. -/
theorem State.reg_setReg (s : State) (k a v : Nat) : (s.setReg k v).reg a = if a = k then v else s.reg a :=
  getD_putKey k a v _ _ _ fun h => by rw [h]; rfl

@[simp] theorem State.reg_setReg_same (s : State) (k v : Nat) : (s.setReg k v).reg k = v := by simp [State.reg_setReg]
theorem State.reg_setReg_ne (s : State) {k a : Nat} (v : Nat) (h : a ≠ k) : (s.setReg k v).reg a = s.reg a := by
  simp [State.reg_setReg, h]

/-- A byte string after a write. -/
theorem State.raw_setRaw (s : State) (k a : Nat) (b : List Byte) : (s.setRaw k b).raw a = if a = k then b else s.raw a :=
  getD_putKey k a b _ _ _ fun h => by rw [h]

theorem State.stn_modStn (s : State) (i j : Nat) (f : Stn → Stn) : (s.modStn i f).stn j = if j = i then f (s.stn i) else s.stn j :=
  getD_putKey _ _ _ _ _ _ fun _ => rfl
theorem State.hd_modHd (s : State) (i j : Nat) (f : Head → Head) : (s.modHd i f).hd j = if j = i then f (s.hd i) else s.hd j :=
  getD_putKey _ _ _ _ _ _ fun _ => rfl
theorem State.eng_modEng (s : State) (i j : Nat) (f : Engine → Engine) :
    (s.modEng i f).eng j = if j = i then f (s.eng i) else s.eng j := getD_putKey _ _ _ _ _ _ fun _ => rfl
theorem State.sq_modSq (s : State) (i j : Nat) (f : Seq → Seq) : (s.modSq i f).sq j = if j = i then f (s.sq i) else s.sq j :=
  getD_putKey _ _ _ _ _ _ fun _ => rfl
theorem State.lp_modLp (s : State) (e l a b : Nat) (f : Loop → Loop) :
    (s.modLp e l f).lp a b = if a * 16 + b = e * 16 + l then f (s.lp e l) else s.lp a b :=
  getD_putKey _ _ _ _ _ _ fun _ => rfl

/-! ### Several writes -/

@[simp] theorem State.setRegs_nil (s : State) : s.setRegs [] = s := rfl
@[simp] theorem State.setRegs_cons (s : State) (p : Nat × Nat) (l : List (Nat × Nat)) :
    s.setRegs (p :: l) = (s.setReg p.1 p.2).setRegs l := rfl

/-- Several writes leave every register they do not name. -/
theorem State.reg_setRegs_ne (s : State) (l : List (Nat × Nat)) (a : Nat) (h : ∀ p ∈ l, p.1 ≠ a) :
    (s.setRegs l).reg a = s.reg a := by
  induction l generalizing s with
  | nil => rfl
  | cons p l ih =>
    rw [State.setRegs_cons, ih _ fun q hq => h q (List.mem_cons_of_mem _ hq)]
    exact State.reg_setReg_ne s p.2 fun e => h p List.mem_cons_self e.symm

/-! ### The canonical form -/

theorem rising_cons (k : Nat) (v : α) (l : List (Nat × α)) :
    rising ((k, v) :: l) = (rising l && (match l with | [] => true | (b, _) :: _ => decide (k < b))) := by
  cases l with
  | nil => rfl
  | cons p r => simp [rising, Bool.and_comm]

/-- In a table whose keys rise, every later key is greater than the first. -/
theorem rising_lt {k : Nat} {v : α} {l : List (Nat × α)} (h : rising ((k, v) :: l) = true) : ∀ p ∈ l, k < p.1 := by
  induction l generalizing k v with
  | nil => simp
  | cons q r ih =>
    obtain ⟨b, w⟩ := q
    simp only [rising, Bool.and_eq_true, decide_eq_true_eq] at h
    intro p hp
    rcases List.mem_cons.mp hp with rfl | hp
    · exact h.1
    · exact Nat.lt_trans h.1 (ih h.2 p hp)

theorem rising_of_lt {k : Nat} {v : α} {l : List (Nat × α)} (hl : rising l = true) (h : ∀ p ∈ l, k < p.1) :
    rising ((k, v) :: l) = true := by
  cases l with
  | nil => rfl
  | cons q r =>
    obtain ⟨b, w⟩ := q
    simp only [rising, Bool.and_eq_true, decide_eq_true_eq]
    exact ⟨h _ List.mem_cons_self, hl⟩

theorem rising_tail {p : Nat × α} {l : List (Nat × α)} (h : rising (p :: l) = true) : rising l = true := by
  cases l with
  | nil => rfl
  | cons q r => simp only [rising, Bool.and_eq_true] at h; exact h.2

theorem mem_eraseKey {k : Nat} {l : List (Nat × α)} {p : Nat × α} (h : p ∈ eraseKey k l) : p ∈ l := by
  induction l with
  | nil => simp [eraseKey] at h
  | cons q r ih =>
    obtain ⟨b, w⟩ := q
    simp only [eraseKey] at h
    split at h
    · exact List.mem_cons_of_mem _ (ih h)
    · rcases List.mem_cons.mp h with rfl | h
      · exact List.mem_cons_self
      · exact List.mem_cons_of_mem _ (ih h)

theorem mem_insertKey {k : Nat} {v : α} {l : List (Nat × α)} {p : Nat × α} (h : p ∈ insertKey k v l) : p = (k, v) ∨ p ∈ l := by
  induction l with
  | nil => simpa [insertKey] using h
  | cons q r ih =>
    obtain ⟨b, w⟩ := q
    simp only [insertKey] at h
    split at h
    · exact List.mem_cons.mp h
    · split at h <;> rcases List.mem_cons.mp h with rfl | h
      · exact Or.inl rfl
      · exact Or.inr (List.mem_cons_of_mem _ h)
      · exact Or.inr List.mem_cons_self
      · exact (ih h).imp_right (List.mem_cons_of_mem _)

theorem rising_eraseKey (k : Nat) {l : List (Nat × α)} (h : rising l = true) : rising (eraseKey k l) = true := by
  induction l with
  | nil => rfl
  | cons q r ih =>
    obtain ⟨b, w⟩ := q
    simp only [eraseKey]
    split
    · exact ih (rising_tail h)
    · exact rising_of_lt (ih (rising_tail h)) fun p hp => rising_lt h p (mem_eraseKey hp)

theorem rising_insertKey (k : Nat) (v : α) {l : List (Nat × α)} (h : rising l = true) : rising (insertKey k v l) = true := by
  induction l with
  | nil => rfl
  | cons q r ih =>
    obtain ⟨b, w⟩ := q
    simp only [insertKey]
    split <;> rename_i h1
    · exact rising_of_lt h fun p hp => by
        rcases List.mem_cons.mp hp with rfl | hp
        · exact h1
        · exact Nat.lt_trans h1 (rising_lt h p hp)
    · split <;> rename_i h2
      · subst h2; exact rising_of_lt (rising_tail h) (rising_lt h)
      · refine rising_of_lt (ih (rising_tail h)) fun p hp => ?_
        rcases mem_insertKey hp with rfl | hp
        · exact Nat.lt_of_le_of_ne (Nat.le_of_not_lt h1) h2
        · exact rising_lt h p hp

/-- A write keeps a table canonical. -/
theorem canonical_putKey [DecidableEq α] (dflt : Nat → α) (k : Nat) (v : α) {l : List (Nat × α)}
    (h : canonical dflt l = true) : canonical dflt (putKey k v (dflt k) l) = true := by
  simp only [canonical, Bool.and_eq_true, List.all_eq_true, decide_eq_true_eq] at h ⊢
  unfold putKey
  split <;> rename_i hv
  · exact ⟨rising_eraseKey k h.1, fun p hp => h.2 p (mem_eraseKey hp)⟩
  · refine ⟨rising_insertKey k v h.1, fun p hp => ?_⟩
    rcases mem_insertKey hp with rfl | hp
    · exact hv
    · exact h.2 p hp

theorem rising_filter (f : Nat × α → Bool) {l : List (Nat × α)} (h : rising l = true) : rising (l.filter f) = true := by
  induction l with
  | nil => rfl
  | cons q r ih =>
    simp only [List.filter_cons]
    split
    · exact rising_of_lt (ih (rising_tail h)) fun p hp => rising_lt h p (List.mem_filter.mp hp).1
    · exact ih (rising_tail h)

/-- Dropping entries keeps a table canonical. -/
theorem canonical_filter [DecidableEq α] (dflt : Nat → α) (f : Nat × α → Bool) {l : List (Nat × α)}
    (h : canonical dflt l = true) : canonical dflt (l.filter f) = true := by
  simp only [canonical, Bool.and_eq_true, List.all_eq_true, decide_eq_true_eq] at h ⊢
  exact ⟨rising_filter f h.1, fun p hp => h.2 p (List.mem_filter.mp hp).1⟩

/-- A register write keeps the registers canonical. -/
theorem State.regsWf_setReg {s : State} (k v : Nat) (h : s.regsWf = true) : (s.setReg k v).regsWf = true :=
  canonical_putKey (regDefault s.part) k v h

theorem State.regsWf_setRegs {s : State} (l : List (Nat × Nat)) (h : s.regsWf = true) : (s.setRegs l).regsWf = true := by
  induction l generalizing s with
  | nil => exact h
  | cons p l ih => exact ih (State.regsWf_setReg p.1 p.2 h)

theorem State.rawsWf_setRaw {s : State} (k : Nat) (b : List Byte) (h : s.rawsWf = true) : (s.setRaw k b).rawsWf = true :=
  canonical_putKey rawDefault k b h

/-- A change of one station, head, loop, engine or sequencer keeps its table canonical. -/
theorem canonical_stns {s : State} (i : Nat) (f : Stn → Stn) (h : canonical (fun _ => Stn.init) s.stns = true) :
    canonical (fun _ => Stn.init) (s.modStn i f).stns = true := canonical_putKey _ i _ h
theorem canonical_heads {s : State} (i : Nat) (f : Head → Head) (h : canonical (fun _ => Head.init) s.heads = true) :
    canonical (fun _ => Head.init) (s.modHd i f).heads = true := canonical_putKey _ i _ h
theorem canonical_loops {s : State} (e l : Nat) (f : Loop → Loop) (h : canonical (fun _ => Loop.init) s.loops = true) :
    canonical (fun _ => Loop.init) (s.modLp e l f).loops = true := canonical_putKey _ (e * 16 + l) _ h
theorem canonical_engines {s : State} (i : Nat) (f : Engine → Engine) (h : canonical (fun _ => Engine.init) s.engines = true) :
    canonical (fun _ => Engine.init) (s.modEng i f).engines = true := canonical_putKey _ i _ h
theorem canonical_seqs {s : State} (i : Nat) (f : Seq → Seq) (h : canonical (fun _ => Seq.init) s.seqs = true) :
    canonical (fun _ => Seq.init) (s.modSq i f).seqs = true := canonical_putKey _ i _ h
theorem canonical_sides {s : State} (n : Nat) (f : Side → Side) (h : canonical (fun _ => Side.init) s.sides = true) :
    canonical (fun _ => Side.init) (s.modSide n f).sides = true := canonical_putKey _ (n - 1) _ h

end Sys2Proof.Machine
end

