-- ==== Sys2Proof/Laws/Keeps.lean ====
section
/-! SUPPORT. What no command of this block does, whatever it is: from a state to the next the part, the queue and the tables'
canonical form stay, outputs are only added, and free values are only used up. One lemma for each shared operation, in the order
of the model's files; this file holds the relation and its rules. -/

namespace Sys2Proof.Machine

/-- From `s` to `t` the part and the queue stay, outputs are only added, free values only used up, and tables in canonical form
stay so. -/
structure State.Keeps (s t : State) : Prop where
  part : t.part = s.part
  queue : t.pending = s.pending
  free : s.free ≤ t.free
  out : s.out <+: t.out
  regs : s.regsWf = true → t.regsWf = true
  raws : s.rawsWf = true → t.rawsWf = true
  tables : s.tablesWf = true → t.tablesWf = true

/-- The same of an outcome, of a write that is taken or refused, and of the state in a pair or an option. -/
def State.KeepsR (s : State) : Host.Outcome State Fault Refusal → Prop
  | .next t => s.Keeps t
  | _ => True
def State.KeepsA (s : State) : Except Nat State → Prop
  | .ok t => s.Keeps t
  | .error _ => True

theorem State.keeps_refl (s : State) : s.Keeps s := ⟨rfl, rfl, Nat.le_refl _, List.prefix_refl _, id, id, id⟩
theorem State.Keeps.trans {s t u : State} (h : s.Keeps t) (g : t.Keeps u) : s.Keeps u :=
  ⟨g.part.trans h.part, g.queue.trans h.queue, Nat.le_trans h.free g.free, h.out.trans g.out, fun w => g.regs (h.regs w),
    fun w => g.raws (h.raws w), fun w => g.tables (h.tables w)⟩

variable {s0 s t a b : State}

theorem keeps_ite {c : Prop} [Decidable c] (h1 : s0.Keeps a) (h2 : s0.Keeps b) : s0.Keeps (if c then a else b) := by
  split <;> assumption
theorem keepsR_ite {c : Prop} [Decidable c] {x y : Host.Outcome State Fault Refusal} (h1 : s0.KeepsR x) (h2 : s0.KeepsR y) :
    s0.KeepsR (if c then x else y) := by split <;> assumption
theorem keepsA_ite {c : Prop} [Decidable c] {x y : Except Nat State} (h1 : s0.KeepsA x) (h2 : s0.KeepsA y) :
    s0.KeepsA (if c then x else y) := by split <;> assumption
theorem keepsR_next (h : s0.Keeps s) : s0.KeepsR (.next s) := h
theorem keepsA_ok (h : s0.Keeps s) : s0.KeepsA (.ok s) := h
theorem keepsA_error (e : Nat) : s0.KeepsA (.error e) := trivial
theorem State.KeepsA.eq {x : Except Nat State} (h : s0.KeepsA x) (e : x = .ok t) : s0.Keeps t := by rw [e] at h; exact h
theorem State.KeepsR.eq {x : Host.Outcome State Fault Refusal} (h : s0.KeepsR x) (e : x = .next t) : s0.Keeps t := by
  rw [e] at h; exact h

/-- A state that differs in nothing of this. -/
theorem keeps_same (h : s0.Keeps s) (h1 : t.part = s.part) (h2 : t.pending = s.pending) (h3 : t.free = s.free)
    (h4 : t.out = s.out) (h5 : t.regs = s.regs) (h6 : t.raws = s.raws) (h7 : t.stns = s.stns) (h8 : t.heads = s.heads)
    (h9 : t.loops = s.loops) (h10 : t.engines = s.engines) (h11 : t.seqs = s.seqs) (h12 : t.sides = s.sides) : s0.Keeps t := by
  obtain ⟨a, b, c, d, e, f, g⟩ := h
  refine ⟨h1.trans a, h2.trans b, h3 ▸ c, h4 ▸ d, ?_, ?_, ?_⟩
  · unfold State.regsWf; rw [h1, h5]; exact e
  · unfold State.rawsWf; rw [h6]; exact f
  · unfold State.tablesWf; rw [h7, h8, h9, h10, h11, h12]; exact g

/-- The same of a record that takes over those fields. -/
theorem keeps_mk (h : s0.Keeps s) {now : Nat} {ledger can bar2 nor power stores pins ring pool nvme granary sec hbm fabric spread arb cal
    bist selfTest} : s0.Keeps ⟨s.part, now, s.regs, s.raws, s.free, ledger, can, bar2, nor, power, s.stns, s.heads, s.loops,
    s.engines, s.seqs, stores, pins, s.sides, ring, pool, nvme, granary, sec, hbm, fabric, spread, arb, cal, bist, selfTest, s.out,
    s.pending⟩ := keeps_same h rfl rfl rfl rfl rfl rfl rfl rfl rfl rfl rfl rfl
theorem keeps_mk_fresh (h : s0.Keeps s) {now : Nat} {ledger can bar2 nor power stores pins ring pool nvme granary sec hbm fabric spread arb
    cal bist selfTest} : s0.Keeps ⟨s.part, now, s.regs, s.raws, s.free + 1, ledger, can, bar2, nor, power, s.stns, s.heads, s.loops,
    s.engines, s.seqs, stores, pins, s.sides, ring, pool, nvme, granary, sec, hbm, fabric, spread, arb, cal, bist, selfTest, s.out,
    s.pending⟩ := by
  obtain ⟨a, b, c, d, e, f, g⟩ := h
  exact ⟨a, b, Nat.le_succ_of_le c, d, e, f, g⟩

theorem State.setReg_keeps (k v : Nat) (h : s0.Keeps s) : s0.Keeps (s.setReg k v) :=
  ⟨h.part, h.queue, h.free, h.out, fun w => State.regsWf_setReg _ _ (h.regs w), h.raws, h.tables⟩
theorem State.setRaw_keeps (k : Nat) (b : List Byte) (h : s0.Keeps s) : s0.Keeps (s.setRaw k b) :=
  ⟨h.part, h.queue, h.free, h.out, h.regs, fun w => State.rawsWf_setRaw _ _ (h.raws w), h.tables⟩
theorem State.setRegs_keeps (l : List (Nat × Nat)) (h : s0.Keeps s) : s0.Keeps (s.setRegs l) := by
  induction l generalizing s with
  | nil => exact h
  | cons p l ih => exact ih (State.setReg_keeps _ _ h)
theorem State.emit_keeps (o : Out) (h : s0.Keeps s) : s0.Keeps (s.emit o) :=
  ⟨h.part, h.queue, h.free, h.out.trans (List.prefix_append _ _), h.regs, h.raws, h.tables⟩
theorem State.fresh_keeps (h : s0.Keeps s) : s0.Keeps s.fresh.2 := keeps_mk_fresh h
/-- Dropping registers and byte strings. -/
theorem keeps_filter (h : s0.Keeps s) (f : Nat × Nat → Bool) (g : Nat × List Byte → Bool) :
    s0.Keeps { s with regs := s.regs.filter f, raws := s.raws.filter g } :=
  ⟨h.part, h.queue, h.free, h.out, fun w => canonical_filter _ _ (h.regs w), fun w => canonical_filter _ _ (h.raws w), h.tables⟩

theorem State.forEach_keeps {α : Type} (l : List α) (f : State → α → State) (hf : ∀ (s : State) x, s.Keeps (f s x)) (h : s0.Keeps s) :
    s0.Keeps (s.forEach l f) := by
  unfold State.forEach
  induction l generalizing s with
  | nil => exact h
  | cons p l ih => exact ih (h.trans (hf _ _))

theorem foldl_keeps {α : Type} (l : List α) (f : State → α → State) (hf : ∀ (s : State) x, s.Keeps (f s x)) (h : s0.Keeps s) :
    s0.Keeps (l.foldl f s) := State.forEach_keeps l f hf h
theorem foldlFst_keeps {α β : Type} (l : List α) (f : State × β → α → State × β) (hf : ∀ (a : State × β) x, a.1.Keeps (f a x).1) {p : State × β}
    (h : s0.Keeps p.1) : s0.Keeps (l.foldl f p).1 := by
  induction l generalizing p with
  | nil => exact h
  | cons x l ih => exact ih (h.trans (hf _ _))
theorem keeps_of_fst {β : Type} {x : State × β} {y : β} (e : x = (t, y)) (h : s0.Keeps x.1) : s0.Keeps t := by rw [e] at h; exact h
theorem keeps_of_snd {β : Type} {x : β × State} {y : β} (e : x = (y, t)) (h : s0.Keeps x.2) : s0.Keeps t := by rw [e] at h; exact h
theorem keeps_of_ok {x : Except Nat State} (e : x = .ok t) (h : s0.KeepsA x) : s0.Keeps t := h.eq e

/-- The same of a write that an object may or may not take for itself. -/
def State.KeepsO (s : State) : Option (Except Nat State) → Prop
  | some (.ok t) => s.Keeps t
  | _ => True
/-- The same of a change that may be refused. -/
def State.KeepsM (s : State) : Option State → Prop
  | some t => s.Keeps t
  | none => True
/-- The same of a write that waits or takes effect. -/
def State.KeepsT (s : State) : Except Nat Taken → Prop
  | .ok t => s.Keeps t.st
  | .error _ => True
theorem keepsO_ite {c : Prop} [Decidable c] {x y : Option (Except Nat State)} (h1 : s0.KeepsO x) (h2 : s0.KeepsO y) :
    s0.KeepsO (if c then x else y) := by split <;> assumption
theorem keepsM_ite {c : Prop} [Decidable c] {x y : Option State} (h1 : s0.KeepsM x) (h2 : s0.KeepsM y) :
    s0.KeepsM (if c then x else y) := by split <;> assumption
theorem keepsT_ite {c : Prop} [Decidable c] {x y : Except Nat Taken} (h1 : s0.KeepsT x) (h2 : s0.KeepsT y) :
    s0.KeepsT (if c then x else y) := by split <;> assumption
theorem keepsO_none : s0.KeepsO none := trivial
theorem keepsO_some {x : Except Nat State} (h : s0.KeepsA x) : s0.KeepsO (some x) := by
  cases x
  · trivial
  · exact h
theorem keepsM_none : s0.KeepsM none := trivial
theorem keepsM_some (h : s0.Keeps s) : s0.KeepsM (some s) := h
theorem keepsT_error (e : Nat) : s0.KeepsT (.error e) := trivial
theorem keepsT_ok {b : Bool} (h : s0.Keeps s) : s0.KeepsT (.ok ⟨s, b⟩) := h
theorem keepsT_map {x : Except Nat State} {b : Bool} (h : s0.KeepsA x) : s0.KeepsT (x.map fun t => ⟨t, b⟩) := by
  cases x
  · trivial
  · exact h
theorem keeps_of_someOk {x : Option (Except Nat State)} (e : x = some (.ok t)) (h : s0.KeepsO x) : s0.Keeps t := by
  rw [e] at h; exact h
theorem keeps_of_some {x : Option State} (e : x = some t) (h : s0.KeepsM x) : s0.Keeps t := by rw [e] at h; exact h
theorem keeps_of_taken {x : Except Nat Taken} {t : Taken} (e : x = .ok t) (h : s0.KeepsT x) : s0.Keeps t.st := by
  rw [e] at h; exact h
theorem keepsA_map {x : Except Nat State} {f : State → State} (hf : ∀ s : State, s.Keeps (f s)) (h : s0.KeepsA x) : s0.KeepsA (x.map f) := by
  cases x
  · trivial
  · exact State.Keeps.trans h (hf _)
theorem keeps_filterRegs (hk : s0.Keeps s) (f : Nat × Nat → Bool) : s0.Keeps { s with regs := s.regs.filter f } :=
  ⟨hk.part, hk.queue, hk.free, hk.out, fun w => canonical_filter _ _ (hk.regs w), hk.raws, hk.tables⟩
theorem keeps_bar2 (s : State) : s.Keeps { s with bar2 := Bar2.initial } := keeps_mk s.keeps_refl
theorem keeps_bar2Regs (s : State) (f : Nat × Nat → Bool) : s.Keeps { s with bar2 := Bar2.initial, regs := s.regs.filter f } :=
  (keeps_filterRegs s.keeps_refl f).trans (keeps_bar2 _)

end Sys2Proof.Machine
end

