-- ==== Sys2Proof/Laws/Keeps1.lean ====
section
/-! SUPPORT. No operation of these files breaks what Laws/Keeps.lean says every command keeps: Ops, Ledger, Operands, Lathe, Servo, Head, Drive, Host, Domains. -/

namespace Sys2Proof.Machine

variable {s0 s t : State}

/-! ### Ops -/

theorem State.addReg_keeps (w k n : Nat) (hk : s0.Keeps s) : s0.Keeps (State.addReg s w k n) := by
  simp (maxDischargeDepth := 999) only [State.addReg, State.setReg_keeps, hk]

theorem State.bump_keeps (k : Nat) (hk : s0.Keeps s) : s0.Keeps (State.bump s k) := by
  simp (maxDischargeDepth := 999) only [State.bump, State.addReg_keeps, hk]

theorem State.setRegI_keeps (w k : Nat) (v : Int) (hk : s0.Keeps s) : s0.Keeps (State.setRegI s w k v) := by
  simp (maxDischargeDepth := 999) only [State.setRegI, State.setReg_keeps, hk]

theorem State.setRegBit_keeps (k i : Nat) (b : Bool) (hk : s0.Keeps s) : s0.Keeps (State.setRegBit s k i b) := by
  simp (maxDischargeDepth := 999) only [State.setRegBit, State.setReg_keeps, hk]

/-! ### Ledger -/

theorem State.ledgerView_keeps (hk : s0.Keeps s) : s0.Keeps (State.ledgerView s) := by
  simp (maxDischargeDepth := 999) only [State.ledgerView, State.setRegs_keeps, hk]

theorem State.emitOn_keeps (bs : List Nat) (f : Nat → Out) (hk : s0.Keeps s) : s0.Keeps (State.emitOn s bs f) := ⟨hk.part, hk.queue, hk.free, hk.out.trans (List.prefix_append _ _), hk.regs, hk.raws, hk.tables⟩

theorem State.sendEmcy_keeps (f : Emcy) (hk : s0.Keeps s) : s0.Keeps (State.sendEmcy s f) := by
  simp (maxDischargeDepth := 999) only [State.sendEmcy, keeps_ite, keeps_mk, State.emitOn_keeps, hk]

theorem State.enterHistory_keeps (code event : Nat) (hk : s0.Keeps s) : s0.Keeps (State.enterHistory s code event) := by
  simp (maxDischargeDepth := 999) only [State.enterHistory, State.keeps_refl, State.setReg_keeps, foldl_keeps, hk, implies_true]

theorem State.raiseEmcy_keeps (code source event detail : Nat) (standing : Bool) (hk : s0.Keeps s) : s0.Keeps (State.raiseEmcy s code source event detail standing) := by
  simp (maxDischargeDepth := 999) only [State.raiseEmcy, keeps_ite, keeps_mk, State.setReg_keeps, State.sendEmcy_keeps, State.enterHistory_keeps, hk]

theorem State.announce_keeps (code source : Nat) (payload : List Byte) (em : Option EmcyUse) (hk : s0.Keeps s) : s0.Keeps (State.announce s code source payload em).1 := by
  simp only [State.announce]
  (repeat' split) <;> simp (maxDischargeDepth := 999) only [State.bump_keeps, State.raiseEmcy_keeps, hk]

theorem State.startFlush_keeps (hk : s0.Keeps s) : s0.Keeps (State.startFlush s) := by
  unfold State.startFlush
  (repeat' split) <;> simp (maxDischargeDepth := 999) only [keeps_mk, hk]

theorem State.storeRaw_keeps (r : Rec) (hk : s0.Keeps s) : s0.Keeps (State.storeRaw s r) := by
  simp (maxDischargeDepth := 999) only [State.storeRaw, keeps_mk, hk]

theorem State.storeGap_keeps (reason count first : Nat) (hk : s0.Keeps s) : s0.Keeps (State.storeGap s reason count first) := by
  simp (maxDischargeDepth := 999) only [State.storeGap, keeps_ite, State.addReg_keeps, State.announce_keeps, State.storeRaw_keeps, hk]

theorem State.store_keeps (r : Rec) (hk : s0.Keeps s) : s0.Keeps (State.store s r) := by
  simp only [State.store]
  (repeat' split) <;> simp (maxDischargeDepth := 999) only [keeps_mk, State.ledgerView_keeps, State.startFlush_keeps, State.storeRaw_keeps, State.storeGap_keeps, hk]

theorem State.setBucket_keeps (b : Bucket) (hk : s0.Keeps s) : s0.Keeps (State.setBucket s b) := by
  simp (maxDischargeDepth := 999) only [State.setBucket, keeps_mk, hk]

theorem State.rateLimit_keeps (r : Rec) (hk : s0.Keeps s) : s0.Keeps (State.rateLimit s r).2 := by
  simp only [State.rateLimit]
  (repeat' split) <;> simp (maxDischargeDepth := 999) only [State.bump_keeps, State.setBucket_keeps, hk]

theorem State.place_keeps (r : Rec) (hk : s0.Keeps s) : s0.Keeps (State.place s r) := by
  simp (maxDischargeDepth := 999) only [State.place, keeps_ite, keeps_mk, State.bump_keeps, State.ledgerView_keeps, State.store_keeps, hk]

theorem State.post_keeps (code source : Nat) (payload : List Byte) (em : Option EmcyUse) (hk : s0.Keeps s) : s0.Keeps (State.post s code source payload em) := by
  unfold State.post
  repeat' first
    | with_reducible exact hk
    | with_reducible exact State.keeps_refl _
    | with_reducible intro _
    | with_reducible apply keeps_ite
    | with_reducible apply State.announce_keeps
    | with_reducible apply State.rateLimit_keeps
    | with_reducible apply State.place_keeps
    | with_reducible refine keeps_of_fst (by assumption) ?_
    | with_reducible refine keeps_of_snd (by assumption) ?_
    | with_reducible refine keeps_of_ok (by assumption) ?_
    | with_reducible refine keeps_of_some (by assumption) ?_
    | (simp (maxDischargeDepth := 999) only [keeps_ite, keeps_mk, State.announce_keeps, State.rateLimit_keeps, State.place_keeps, hk]; done)
    | split

theorem State.note_keeps (code source : Nat) (payload : List Byte) (hk : s0.Keeps s) : s0.Keeps (State.note s code source payload) := by
  simp (maxDischargeDepth := 999) only [State.note, State.post_keeps, hk]

theorem State.sectorFailed_keeps (n : Nat) (hk : s0.Keeps s) : s0.Keeps (State.sectorFailed s n) := by
  simp (maxDischargeDepth := 999) only [State.sectorFailed, keeps_mk, State.addReg_keeps, State.note_keeps, hk]

theorem State.flushDone_keeps (hk : s0.Keeps s) : s0.Keeps (State.flushDone s) := by
  unfold State.flushDone
  (repeat' split) <;> simp (maxDischargeDepth := 999) only [keeps_mk, State.bump_keeps, State.ledgerView_keeps, hk]

theorem State.ledgerPowerFail_keeps (hk : s0.Keeps s) : s0.Keeps (State.ledgerPowerFail s) := by
  simp only [State.ledgerPowerFail]
  (repeat' split) <;> simp (maxDischargeDepth := 999) only [keeps_mk, foldl_keeps, State.keeps_refl, State.setReg_keeps, State.ledgerView_keeps, State.announce_keeps, State.storeRaw_keeps, State.storeGap_keeps, hk, implies_true]

theorem State.freezeRelease_keeps (hk : s0.Keeps s) : s0.Keeps (State.freezeRelease s) := by
  simp (maxDischargeDepth := 999) only [State.freezeRelease, keeps_ite, keeps_mk, State.keeps_refl, State.setReg_keeps, foldl_keeps, State.ledgerView_keeps, State.storeGap_keeps, State.store_keeps, State.note_keeps, hk, implies_true]

theorem State.lostGap_keeps (hk : s0.Keeps s) : s0.Keeps (State.lostGap s) := by
  simp only [State.lostGap]
  (repeat' split) <;> simp (maxDischargeDepth := 999) only [keeps_mk, State.ledgerView_keeps, State.storeGap_keeps, hk]

theorem State.ledgerHearthUp_keeps (bad : List Nat) (hk : s0.Keeps s) : s0.Keeps (State.ledgerHearthUp s bad) := by
  simp (maxDischargeDepth := 999) only [State.ledgerHearthUp, keeps_ite, keeps_mk, State.addReg_keeps, State.ledgerView_keeps, State.storeGap_keeps, State.lostGap_keeps, hk]

theorem State.ledgerStartUp_keeps (hk : s0.Keeps s) : s0.Keeps (State.ledgerStartUp s) := by
  simp (maxDischargeDepth := 999) only [State.ledgerStartUp, keeps_mk, State.lostGap_keeps, hk]

/-! ### Operands -/

theorem State.modStn_keeps (i : Nat) (f : Stn → Stn) (hk : s0.Keeps s) : s0.Keeps (State.modStn s i f) := by
  refine ⟨hk.part, hk.queue, hk.free, hk.out, hk.regs, hk.raws, fun w => ?_⟩
  have w := hk.tables w
  simp only [State.tablesWf, Bool.and_eq_true] at w ⊢
  obtain ⟨⟨⟨⟨⟨w1, w2⟩, w3⟩, w4⟩, w5⟩, w6⟩ := w
  exact ⟨⟨⟨⟨⟨canonical_stns _ _ w1, w2⟩, w3⟩, w4⟩, w5⟩, w6⟩

theorem State.modHd_keeps (h : Nat) (f : Head → Head) (hk : s0.Keeps s) : s0.Keeps (State.modHd s h f) := by
  refine ⟨hk.part, hk.queue, hk.free, hk.out, hk.regs, hk.raws, fun w => ?_⟩
  have w := hk.tables w
  simp only [State.tablesWf, Bool.and_eq_true] at w ⊢
  obtain ⟨⟨⟨⟨⟨w1, w2⟩, w3⟩, w4⟩, w5⟩, w6⟩ := w
  exact ⟨⟨⟨⟨⟨w1, canonical_heads _ _ w2⟩, w3⟩, w4⟩, w5⟩, w6⟩

theorem State.modLp_keeps (e l : Nat) (f : Loop → Loop) (hk : s0.Keeps s) : s0.Keeps (State.modLp s e l f) := by
  refine ⟨hk.part, hk.queue, hk.free, hk.out, hk.regs, hk.raws, fun w => ?_⟩
  have w := hk.tables w
  simp only [State.tablesWf, Bool.and_eq_true] at w ⊢
  obtain ⟨⟨⟨⟨⟨w1, w2⟩, w3⟩, w4⟩, w5⟩, w6⟩ := w
  exact ⟨⟨⟨⟨⟨w1, w2⟩, canonical_loops _ _ _ w3⟩, w4⟩, w5⟩, w6⟩

theorem State.modEng_keeps (e : Nat) (f : Engine → Engine) (hk : s0.Keeps s) : s0.Keeps (State.modEng s e f) := by
  refine ⟨hk.part, hk.queue, hk.free, hk.out, hk.regs, hk.raws, fun w => ?_⟩
  have w := hk.tables w
  simp only [State.tablesWf, Bool.and_eq_true] at w ⊢
  obtain ⟨⟨⟨⟨⟨w1, w2⟩, w3⟩, w4⟩, w5⟩, w6⟩ := w
  exact ⟨⟨⟨⟨⟨w1, w2⟩, w3⟩, canonical_engines _ _ w4⟩, w5⟩, w6⟩

theorem State.modSq_keeps (e : Nat) (f : Seq → Seq) (hk : s0.Keeps s) : s0.Keeps (State.modSq s e f) := by
  refine ⟨hk.part, hk.queue, hk.free, hk.out, hk.regs, hk.raws, fun w => ?_⟩
  have w := hk.tables w
  simp only [State.tablesWf, Bool.and_eq_true] at w ⊢
  obtain ⟨⟨⟨⟨⟨w1, w2⟩, w3⟩, w4⟩, w5⟩, w6⟩ := w
  exact ⟨⟨⟨⟨⟨w1, w2⟩, w3⟩, w4⟩, canonical_seqs _ _ w5⟩, w6⟩

theorem State.when_keeps (b : Bool) (f : State → State) (hf : ∀ (s : State), s.Keeps (f s)) (hk : s0.Keeps s) : s0.Keeps (State.when s b f) := by
  unfold State.when; split
  · exact hk.trans (hf _)
  · exact hk

theorem State.beginResult_keeps (ix : Nat) (hk : s0.Keeps s) : s0.Keeps (State.beginResult s ix) := by
  simp (maxDischargeDepth := 999) only [State.beginResult, State.setReg_keeps, hk]

theorem State.endResult_keeps (ix : Nat) (data : List (Nat × Nat)) (code : Nat) (hk : s0.Keeps s) : s0.Keeps (State.endResult s ix data code) := by
  simp (maxDischargeDepth := 999) only [State.endResult, State.setRegs_keeps, hk]

theorem State.setStFlag_keeps (i b : Nat) (v : Bool) (hk : s0.Keeps s) : s0.Keeps (State.setStFlag s i b v) := by
  simp (maxDischargeDepth := 999) only [State.setStFlag, State.setRegBit_keeps, hk]

theorem State.pinView_keeps (i : Nat) (hk : s0.Keeps s) : s0.Keeps (State.pinView s i) := by
  simp (maxDischargeDepth := 999) only [State.pinView, State.setStFlag_keeps, hk]

theorem State.setSubstate_keeps (h v : Nat) (hk : s0.Keeps s) : s0.Keeps (State.setSubstate s h v) := by
  simp (maxDischargeDepth := 999) only [State.setSubstate, State.setReg_keeps, hk]

theorem State.enterTracking_keeps (h : Nat) (hk : s0.Keeps s) : s0.Keeps (State.enterTracking s h) := by
  simp (maxDischargeDepth := 999) only [State.enterTracking, State.modHd_keeps, State.setSubstate_keeps, hk]

/-! ### Lathe -/

theorem State.seqView_keeps (e : Nat) (hk : s0.Keeps s) : s0.Keeps (State.seqView s e) := by
  simp (maxDischargeDepth := 999) only [State.seqView, State.setRegs_keeps, hk]

theorem State.offerOrder_keeps (e : Nat) (o : Order) (hk : s0.Keeps s) : s0.Keeps (State.offerOrder s e o) := by
  simp (maxDischargeDepth := 999) only [State.offerOrder, State.modSq_keeps, hk]

theorem State.setLathe_keeps (e status reason : Nat) (hk : s0.Keeps s) : s0.Keeps (State.setLathe s e status reason) := by
  simp (maxDischargeDepth := 999) only [State.setLathe, State.setReg_keeps, hk]

theorem State.endDirect_keeps (e status reason ret : Nat) (hk : s0.Keeps s) : s0.Keeps (State.endDirect s e status reason ret) := by
  simp (maxDischargeDepth := 999) only [State.endDirect, State.endResult_keeps, State.setLathe_keeps, hk]

theorem State.measureStop_keeps (e : Nat) (hk : s0.Keeps s) : s0.Keeps (State.measureStop s e) := by
  unfold State.measureStop
  (repeat' split) <;> simp (maxDischargeDepth := 999) only [State.setReg_keeps, State.modEng_keeps, hk]

theorem State.closeResult_keeps (e c code : Nat) (hk : s0.Keeps s) : s0.Keeps (State.closeResult s e c code) := by
  simp (maxDischargeDepth := 999) only [State.closeResult, keeps_ite, State.setReg_keeps, State.modHd_keeps, State.modEng_keeps, State.endResult_keeps, State.measureStop_keeps, hk]

theorem State.armedView_keeps (st : Nat) (hk : s0.Keeps s) : s0.Keeps (State.armedView s st) := by
  simp (maxDischargeDepth := 999) only [State.armedView, State.setReg_keeps, State.setStFlag_keeps, hk]

theorem State.endOrder_keeps (e status reason ret : Nat) (hk : s0.Keeps s) : s0.Keeps (State.endOrder s e status reason ret) := by
  simp only [State.endOrder]
  (repeat' split) <;> simp (maxDischargeDepth := 999) only [State.modSq_keeps, State.seqView_keeps, State.endDirect_keeps, State.closeResult_keeps, State.armedView_keeps, hk]

theorem State.endWhole_keeps (e status reason ret : Nat) (hk : s0.Keeps s) : s0.Keeps (State.endWhole s e status reason ret) := by
  simp (maxDischargeDepth := 999) only [State.endWhole, State.modSq_keeps, State.endOrder_keeps, hk]

theorem State.orderDone_keeps (e ret : Nat) (hk : s0.Keeps s) : s0.Keeps (State.orderDone s e ret) := by
  simp (maxDischargeDepth := 999) only [State.orderDone, State.endOrder_keeps, hk]

theorem State.orderFailed_keeps (e code : Nat) (hk : s0.Keeps s) : s0.Keeps (State.orderFailed s e code) := by
  simp (maxDischargeDepth := 999) only [State.orderFailed, State.endOrder_keeps, hk]

theorem State.orderRejected_keeps (e reason : Nat) (hk : s0.Keeps s) : s0.Keeps (State.orderRejected s e reason) := by
  simp (maxDischargeDepth := 999) only [State.orderRejected, State.endOrder_keeps, hk]

theorem State.latheRefuse_keeps (e reason : Nat) (hk : s0.Keeps s) : s0.Keeps (State.latheRefuse s e reason) := by
  simp (maxDischargeDepth := 999) only [State.latheRefuse, keeps_ite, State.bump_keeps, State.modSq_keeps, State.seqView_keeps, State.orderRejected_keeps, hk]

theorem State.latheFault_keeps (e code : Nat) (hk : s0.Keeps s) : s0.Keeps (State.latheFault s e code) := by
  simp (maxDischargeDepth := 999) only [State.latheFault, State.setRegs_keeps, State.note_keeps, State.modSq_keeps, State.seqView_keeps, State.endWhole_keeps, hk]

theorem State.raiseTrap_keeps (e kind mask detail : Nat) (hk : s0.Keeps s) : s0.Keeps (State.raiseTrap s e kind mask detail) := by
  unfold State.raiseTrap
  (repeat' split) <;> simp (maxDischargeDepth := 999) only [State.bump_keeps, State.modSq_keeps, hk]

theorem State.startOrder_keeps (e : Nat) (o : Order) (hk : s0.Keeps s) : s0.Keeps (State.startOrder s e o) := by
  simp only [State.startOrder]
  (repeat' split) <;> simp (maxDischargeDepth := 999) only [State.modSq_keeps, State.seqView_keeps, State.setLathe_keeps, State.armedView_keeps, State.orderRejected_keeps, hk]

theorem State.dispatch_keeps (e : Nat) (hk : s0.Keeps s) : s0.Keeps (State.dispatch s e) := by
  simp only [State.dispatch]
  (repeat' split) <;> simp (maxDischargeDepth := 999) only [State.modSq_keeps, State.startOrder_keeps, hk]

theorem State.takeTrap_keeps (e : Nat) (hk : s0.Keeps s) : s0.Keeps (State.takeTrap s e) := by
  simp only [State.takeTrap]
  (repeat' split) <;> simp (maxDischargeDepth := 999) only [State.bump_keeps, State.modSq_keeps, State.seqView_keeps, State.endWhole_keeps, State.dispatch_keeps, hk]

theorem State.abortStation_keeps (st : Nat) (hk : s0.Keeps s) : s0.Keeps (State.abortStation s st) := by
  simp (maxDischargeDepth := 999) only [State.abortStation, State.raiseTrap_keeps, hk]

theorem State.dropOrders_keeps (e : Nat) (hk : s0.Keeps s) : s0.Keeps (State.dropOrders s e) := by
  simp (maxDischargeDepth := 999) only [State.dropOrders, keeps_ite, State.keeps_refl, State.forEach_keeps, State.modStn_keeps, State.modSq_keeps, State.endDirect_keeps, State.closeResult_keeps, State.endWhole_keeps, hk, implies_true]

theorem State.issue_keeps (e code param : Nat) (hk : s0.Keeps s) : s0.Keeps (State.issue s e code param) := by
  simp (maxDischargeDepth := 999) only [State.issue, keeps_ite, State.offerOrder_keeps, State.raiseTrap_keeps, hk]

/-! ### Servo -/

theorem State.setDrive_keeps (e l : Nat) (v : Int) (hk : s0.Keeps s) : s0.Keeps (State.setDrive s e l v) := by
  simp (maxDischargeDepth := 999) only [State.setDrive, State.setRegI_keeps, hk]

theorem State.enterLoop_keeps (e l st : Nat) (hk : s0.Keeps s) : s0.Keeps (State.enterLoop s e l st) := by
  simp (maxDischargeDepth := 999) only [State.enterLoop, State.setReg_keeps, State.modLp_keeps, hk]

theorem State.setLane_keeps (h b v : Nat) (hk : s0.Keeps s) : s0.Keeps (State.setLane s h b v) := by
  simp (maxDischargeDepth := 999) only [State.setLane, State.setReg_keeps, hk]

theorem State.cutBeam_keeps (h b : Nat) (hk : s0.Keeps s) : s0.Keeps (State.cutBeam s h b) := by
  unfold State.cutBeam
  (repeat' split) <;> simp (maxDischargeDepth := 999) only [State.bump_keeps, State.modHd_keeps, State.setLane_keeps, hk]

theorem State.gatesView_keeps (h : Nat) (hk : s0.Keeps s) : s0.Keeps (State.gatesView s h) := by
  simp (maxDischargeDepth := 999) only [State.gatesView, keeps_ite, State.setReg_keeps, State.setSubstate_keeps, hk]

theorem State.closeGates_keeps (h : Nat) (hk : s0.Keeps s) : s0.Keeps (State.closeGates s h) := by
  simp (maxDischargeDepth := 999) only [State.closeGates, State.keeps_refl, State.forEach_keeps, State.cutBeam_keeps, State.gatesView_keeps, hk, implies_true]

theorem State.causeHere_keeps (e l bit : Nat) (on : Bool) (hk : s0.Keeps s) : s0.Keeps (State.causeHere s e l bit on) := by
  simp (maxDischargeDepth := 999) only [State.causeHere, keeps_ite, State.setReg_keeps, State.setRegBit_keeps, State.modLp_keeps, State.modEng_keeps, hk]

theorem State.recouple_keeps (h : Nat) (hk : s0.Keeps s) : s0.Keeps (State.recouple s h) := by
  simp (maxDischargeDepth := 999) only [State.recouple, State.causeHere_keeps, hk]

theorem State.releaseIfFree_keeps (e l : Nat) (hk : s0.Keeps s) : s0.Keeps (State.releaseIfFree s e l) := by
  simp (maxDischargeDepth := 999) only [State.releaseIfFree, keeps_ite, State.enterLoop_keeps, State.recouple_keeps, hk]

theorem State.setCause_keeps (e l bit : Nat) (hk : s0.Keeps s) : s0.Keeps (State.setCause s e l bit) := by
  simp (maxDischargeDepth := 999) only [State.setCause, keeps_ite, State.bump_keeps, State.modLp_keeps, State.closeGates_keeps, State.causeHere_keeps, State.recouple_keeps, hk]

theorem State.clearCause_keeps (e l bit : Nat) (hk : s0.Keeps s) : s0.Keeps (State.clearCause s e l bit) := by
  simp (maxDischargeDepth := 999) only [State.clearCause, keeps_ite, State.causeHere_keeps, State.recouple_keeps, hk]

theorem State.loadTrackSign_keeps (h : Nat) (hk : s0.Keeps s) : s0.Keeps (State.loadTrackSign s h) := by
  simp (maxDischargeDepth := 999) only [State.loadTrackSign, State.setRegI_keeps, hk]

theorem State.focusClosed_keeps (h : Nat) (hk : s0.Keeps s) : s0.Keeps (State.focusClosed s h) := by
  simp (maxDischargeDepth := 999) only [State.focusClosed, State.modHd_keeps, hk]

theorem State.loopOff_keeps (e l : Nat) (hk : s0.Keeps s) : s0.Keeps (State.loopOff s e l) := by
  simp (maxDischargeDepth := 999) only [State.loopOff, keeps_ite, State.modLp_keeps, State.setDrive_keeps, State.enterLoop_keeps, State.recouple_keeps, hk]

theorem State.loopOpen_keeps (e l : Nat) (hk : s0.Keeps s) : s0.Keeps (State.loopOpen s e l) := by
  simp (maxDischargeDepth := 999) only [State.loopOpen, keeps_ite, State.setDrive_keeps, State.enterLoop_keeps, State.recouple_keeps, hk]

theorem State.loopRamp_keeps (e l : Nat) (v : Int) (n : Nat) (hk : s0.Keeps s) : s0.Keeps (State.loopRamp s e l v n) := by
  simp (maxDischargeDepth := 999) only [State.loopRamp, keeps_ite, State.setRegI_keeps, State.modLp_keeps, State.enterLoop_keeps, State.recouple_keeps, hk]

theorem State.loopClose_keeps (e l : Nat) (hk : s0.Keeps s) : s0.Keeps (State.loopClose s e l) := by
  simp (maxDischargeDepth := 999) only [State.loopClose, keeps_ite, State.modLp_keeps, State.enterLoop_keeps, State.loadTrackSign_keeps, State.focusClosed_keeps, hk]

theorem State.searchRamp_keeps (h : Nat) (hk : s0.Keeps s) : s0.Keeps (State.searchRamp s h) := by
  simp (maxDischargeDepth := 999) only [State.searchRamp, State.setRegI_keeps, State.modHd_keeps, State.modLp_keeps, State.setDrive_keeps, State.enterLoop_keeps, hk]

theorem State.loopCommand_keeps (e l c : Nat) (hk : s0.Keeps s) : s0.KeepsM (State.loopCommand s e l c) := by
  simp (maxDischargeDepth := 999) only [State.loopCommand, keepsM_ite, keepsM_some, keepsM_none, State.modLp_keeps, State.setCause_keeps, State.clearCause_keeps, State.loopOff_keeps, State.loopOpen_keeps, State.loopClose_keeps, State.searchRamp_keeps, hk]

theorem State.tiltOff_keeps (h : Nat) (hk : s0.Keeps s) : s0.Keeps (State.tiltOff s h) := by
  simp (maxDischargeDepth := 999) only [State.tiltOff, keeps_ite, State.keeps_refl, State.forEach_keeps, State.setRegI_keeps, State.loopOff_keeps, hk, implies_true]

theorem State.dropHeadLoops_keeps (h : Nat) (hk : s0.Keeps s) : s0.Keeps (State.dropHeadLoops s h) := by
  simp (maxDischargeDepth := 999) only [State.dropHeadLoops, State.keeps_refl, State.forEach_keeps, State.loopOff_keeps, State.loopRamp_keeps, State.tiltOff_keeps, hk, implies_true]

theorem State.dropStationLoops_keeps (i : Nat) (hk : s0.Keeps s) : s0.Keeps (State.dropStationLoops s i) := by
  simp (maxDischargeDepth := 999) only [State.dropStationLoops, State.loopOff_keeps, hk]

theorem State.loadVendor_keeps (e g cls : Nat) (hk : s0.Keeps s) : s0.Keeps (State.loadVendor s e g cls) := by
  simp (maxDischargeDepth := 999) only [State.loadVendor, keeps_ite, State.setRegs_keeps, State.modEng_keeps, hk]

theorem State.copyStaged_keeps (e g : Nat) (hk : s0.Keeps s) : s0.Keeps (State.copyStaged s e g) := by
  simp (maxDischargeDepth := 999) only [State.copyStaged, State.setRegs_keeps, hk]

theorem State.startApply_keeps (e g : Nat) (hk : s0.Keeps s) : s0.Keeps (State.startApply s e g) := by
  simp (maxDischargeDepth := 999) only [State.startApply, keeps_ite, State.keeps_refl, State.forEach_keeps, State.modLp_keeps, State.setCause_keeps, hk, implies_true]

theorem State.applyBoundary_keeps (e l : Nat) (hk : s0.Keeps s) : s0.Keeps (State.applyBoundary s e l) := by
  simp (maxDischargeDepth := 999) only [State.applyBoundary, keeps_ite, State.modLp_keeps, State.clearCause_keeps, State.copyStaged_keeps, hk]

theorem State.ffClear_keeps (h t : Nat) (hk : s0.Keeps s) : s0.Keeps (State.ffClear s h t) := by
  simp (maxDischargeDepth := 999) only [State.ffClear, State.setReg_keeps, State.setRaw_keeps, hk]

theorem State.ffSample_keeps (h t : Nat) (e : Int) (held : Bool) (hk : s0.Keeps s) : s0.Keeps (State.ffSample s h t e held) := by
  simp (maxDischargeDepth := 999) only [State.ffSample, State.modEng_keeps, hk]

theorem State.ffBinEnd_keeps (h t j : Nat) (hk : s0.Keeps s) : s0.Keeps (State.ffBinEnd s h t j) := by
  simp only [State.ffBinEnd]
  (repeat' split) <;> simp (maxDischargeDepth := 999) only [State.setRaw_keeps, State.bump_keeps, State.modEng_keeps, hk]

theorem State.ffLoss_keeps (st : Nat) (hk : s0.Keeps s) : s0.Keeps (State.ffLoss s st) := by
  simp (maxDischargeDepth := 999) only [State.ffLoss, State.keeps_refl, State.forEach_keeps, State.modEng_keeps, hk, implies_true]

theorem State.ffReturn_keeps (st : Nat) (hk : s0.Keeps s) : s0.Keeps (State.ffReturn s st) := by
  simp (maxDischargeDepth := 999) only [State.ffReturn, State.keeps_refl, State.forEach_keeps, State.modEng_keeps, hk, implies_true]

theorem State.measSample_keeps (e l : Nat) (held atLimit : Bool) (v d : Int) (hk : s0.Keeps s) : s0.Keeps (State.measSample s e l held atLimit v d) := by
  simp only [State.measSample]
  (repeat' split) <;> simp (maxDischargeDepth := 999) only [State.fresh_keeps, State.modEng_keeps, hk]

theorem State.calSample_keeps (e l : Nat) (held : Bool) (err u : Int) (hk : s0.Keeps s) : s0.Keeps (State.calSample s e l held err u) := by
  simp only [State.calSample]
  (repeat' split) <;> simp (maxDischargeDepth := 999) only [State.modEng_keeps, hk]

theorem State.capSample_keeps (e l : Nat) (tap : Nat → Int) (hk : s0.Keeps s) : s0.Keeps (State.capSample s e l tap) := by
  simp (maxDischargeDepth := 999) only [State.capSample, keeps_ite, State.modEng_keeps, hk]

theorem State.superviseStep_keeps (e l : Nat) (err u drive xh r : Int) (hk : s0.Keeps s) : s0.Keeps (State.superviseStep s e l err u drive xh r) := by
  simp (maxDischargeDepth := 999) only [State.superviseStep, State.modLp_keeps, hk]

theorem State.driveSample_keeps (e l : Nat) (c : ChainOut) (w d : Int) (hk : s0.Keeps s) : s0.Keeps (State.driveSample s e l c w d) := by
  simp only [State.driveSample]
  (repeat' split) <;> simp (maxDischargeDepth := 999) only [State.modLp_keeps, State.setDrive_keeps, hk]

theorem State.trimStep_keeps (e l : Nat) (hk : s0.Keeps s) : s0.Keeps (State.trimStep s e l) := by
  simp (maxDischargeDepth := 999) only [State.trimStep, keeps_ite, State.emit_keeps, State.modEng_keeps, hk]

theorem State.loopSample_keeps (e l : Nat) (err u : Int) (ang : Nat) (hk : s0.Keeps s) : s0.Keeps (State.loopSample s e l err u ang) := by
  simp (maxDischargeDepth := 999) only [State.loopSample, keeps_ite, State.emit_keeps, State.bump_keeps, State.modLp_keeps, State.modEng_keeps, State.releaseIfFree_keeps, State.applyBoundary_keeps, State.ffSample_keeps, State.measSample_keeps, State.calSample_keeps, State.capSample_keeps, State.superviseStep_keeps, State.driveSample_keeps, State.trimStep_keeps, hk]

theorem State.superviseHold_keeps (e l bit : Nat) (hk : s0.Keeps s) : s0.Keeps (State.superviseHold s e l bit) := by
  simp (maxDischargeDepth := 999) only [State.superviseHold, State.note_keeps, State.raiseTrap_keeps, State.setCause_keeps, hk]

theorem State.windowEnd_keeps (e l : Nat) (hk : s0.Keeps s) : s0.Keeps (State.windowEnd s e l) := by
  simp (maxDischargeDepth := 999) only [State.windowEnd, keeps_ite, State.modLp_keeps, State.clearCause_keeps, State.superviseHold_keeps, hk]

theorem State.windowExpired_keeps (e l : Nat) (hk : s0.Keeps s) : s0.Keeps (State.windowExpired s e l) := by
  simp (maxDischargeDepth := 999) only [State.windowExpired, State.bump_keeps, State.note_keeps, State.modLp_keeps, State.raiseTrap_keeps, hk]

theorem State.capArm_keeps (e : Nat) (hk : s0.Keeps s) : s0.Keeps (State.capArm s e) := by
  simp (maxDischargeDepth := 999) only [State.capArm, State.modEng_keeps, State.beginResult_keeps, hk]

theorem State.measureStart_keeps (e l points cycles : Nat) (object : Bool) (hk : s0.Keeps s) : s0.Keeps (State.measureStart s e l points cycles object).1 := by
  unfold State.measureStart
  (repeat' split) <;> simp (maxDischargeDepth := 999) only [keeps_ite, State.setReg_keeps, State.modEng_keeps, hk]

/-! ### Head -/

theorem State.sendPkl_keeps (h kind data : Nat) (hk : s0.Keeps s) : s0.Keeps (State.sendPkl s h kind data) := by
  simp (maxDischargeDepth := 999) only [State.sendPkl, State.emit_keeps, hk]

theorem State.laserOn_keeps (h b : Nat) (hk : s0.Keeps s) : s0.Keeps (State.laserOn s h b) := by
  simp (maxDischargeDepth := 999) only [State.laserOn, keeps_ite, State.setRegBit_keeps, State.modLp_keeps, State.loopOpen_keeps, State.loopClose_keeps, hk]

theorem State.laserOff_keeps (h b : Nat) (hk : s0.Keeps s) : s0.Keeps (State.laserOff s h b) := by
  simp (maxDischargeDepth := 999) only [State.laserOff, State.emit_keeps, State.setRegBit_keeps, State.cutBeam_keeps, State.gatesView_keeps, State.loopOff_keeps, hk]

theorem State.lasersOff_keeps (h : Nat) (bs : List Nat) (hk : s0.Keeps s) : s0.Keeps (State.lasersOff s h bs) := by
  simp (maxDischargeDepth := 999) only [State.lasersOff, State.keeps_refl, State.forEach_keeps, State.laserOff_keeps, hk, implies_true]

theorem State.dropRecovery_keeps (h : Nat) (hk : s0.Keeps s) : s0.Keeps (State.dropRecovery s h) := by
  simp (maxDischargeDepth := 999) only [State.dropRecovery, State.modSq_keeps, hk]

theorem State.headDrop_keeps (h : Nat) (hk : s0.Keeps s) : s0.Keeps (State.headDrop s h) := by
  simp (maxDischargeDepth := 999) only [State.headDrop, State.setReg_keeps, State.modHd_keeps, State.setSubstate_keeps, State.closeGates_keeps, State.dropHeadLoops_keeps, State.lasersOff_keeps, State.dropRecovery_keeps, hk]

theorem State.setHeadFault_keeps (h cause : Nat) (hk : s0.Keeps s) : s0.Keeps (State.setHeadFault s h cause) := by
  simp (maxDischargeDepth := 999) only [State.setHeadFault, State.setRegBit_keeps, State.note_keeps, State.headDrop_keeps, hk]

theorem State.parkHead_keeps (h : Nat) (hk : s0.Keeps s) : s0.Keeps (State.parkHead s h) := by
  simp (maxDischargeDepth := 999) only [State.parkHead, State.headDrop_keeps, hk]

theorem State.sendSa_keeps (h layer : Nat) (hk : s0.Keeps s) : s0.Keeps (State.sendSa s h layer) := by
  simp (maxDischargeDepth := 999) only [State.sendSa, keeps_ite, State.setReg_keeps, State.sendPkl_keeps, hk]

theorem State.focusRecovery_keeps (h : Nat) (hk : s0.Keeps s) : s0.Keeps (State.focusRecovery s h) := by
  simp (maxDischargeDepth := 999) only [State.focusRecovery, State.bump_keeps, State.modHd_keeps, State.setSubstate_keeps, State.offerOrder_keeps, State.endWhole_keeps, State.closeGates_keeps, State.loopOff_keeps, State.loopRamp_keeps, State.tiltOff_keeps, State.lasersOff_keeps, hk]

theorem State.reacquire_keeps (h : Nat) (hk : s0.Keeps s) : s0.Keeps (State.reacquire s h) := by
  simp (maxDischargeDepth := 999) only [State.reacquire, State.modHd_keeps, State.offerOrder_keeps, hk]

theorem State.focusRecoveryFailed_keeps (h : Nat) (hk : s0.Keeps s) : s0.Keeps (State.focusRecoveryFailed s h) := by
  simp (maxDischargeDepth := 999) only [State.focusRecoveryFailed, keeps_ite, State.setReg_keeps, State.setHeadFault_keeps, State.focusRecovery_keeps, hk]

theorem State.trackRecovery_keeps (h : Nat) (hk : s0.Keeps s) : s0.Keeps (State.trackRecovery s h) := by
  simp (maxDischargeDepth := 999) only [State.trackRecovery, State.bump_keeps, State.modHd_keeps, State.setSubstate_keeps, State.offerOrder_keeps, State.endWhole_keeps, State.closeGates_keeps, State.loopOpen_keeps, hk]

theorem State.recoveryFailed_keeps (h : Nat) (hk : s0.Keeps s) : s0.Keeps (State.recoveryFailed s h) := by
  simp (maxDischargeDepth := 999) only [State.recoveryFailed, keeps_ite, State.modHd_keeps, State.focusRecovery_keeps, State.focusRecoveryFailed_keeps, State.trackRecovery_keeps, hk]

theorem State.headFail_keeps (h code : Nat) (hk : s0.Keeps s) : s0.Keeps (State.headFail s h code) := by
  simp (maxDischargeDepth := 999) only [State.headFail, State.orderFailed_keeps, State.recoveryFailed_keeps, hk]

theorem State.focusParked_keeps (h : Nat) (hk : s0.Keeps s) : s0.Keeps (State.focusParked s h) := by
  simp (maxDischargeDepth := 999) only [State.focusParked, State.setReg_keeps, State.setSubstate_keeps, State.loopRamp_keeps, State.lasersOff_keeps, hk]

theorem State.focusFail_keeps (h code : Nat) (hk : s0.Keeps s) : s0.Keeps (State.focusFail s h code) := by
  simp (maxDischargeDepth := 999) only [State.focusFail, State.headFail_keeps, State.focusParked_keeps, hk]

theorem State.focusUnclosed_keeps (h : Nat) (hk : s0.Keeps s) : s0.Keeps (State.focusUnclosed s h) := by
  simp (maxDischargeDepth := 999) only [State.focusUnclosed, State.orderRejected_keeps, State.recoveryFailed_keeps, State.focusParked_keeps, hk]

theorem State.polarityRefused_keeps (h axis : Nat) (hk : s0.Keeps s) : s0.Keeps (State.polarityRefused s h axis) := by
  simp (maxDischargeDepth := 999) only [State.polarityRefused, State.bump_keeps, State.setRegBit_keeps, State.loopOff_keeps, State.tiltOff_keeps, State.focusFail_keeps, hk]

theorem State.scanSample_keeps (h : Nat) (fe : Int) (hk : s0.Keeps s) : s0.Keeps (State.scanSample s h fe) := by
  simp (maxDischargeDepth := 999) only [State.scanSample, keeps_ite, State.modHd_keeps, hk]

theorem State.focusClose_keeps (h : Nat) (slope : Int) (hk : s0.Keeps s) : s0.Keeps (State.focusClose s h slope) := by
  simp (maxDischargeDepth := 999) only [State.focusClose, State.setRegI_keeps, State.setDrive_keeps, State.loopClose_keeps, hk]

theorem State.focusSearch_keeps (h k : Nat) (ev : FocusEvent) (fin : State → State) (hf : ∀ (s : State), s.Keeps (fin s)) (hk : s0.Keeps s) : s0.Keeps (State.focusSearch s h k ev fin) := by
  simp only [State.focusSearch]
  (repeat' split) <;> simp (maxDischargeDepth := 999) only [State.setReg_keeps, State.setRegBit_keeps, State.modHd_keeps, State.modLp_keeps, State.setSubstate_keeps, State.searchRamp_keeps, State.focusFail_keeps, State.focusUnclosed_keeps, State.polarityRefused_keeps, State.focusClose_keeps, hk, (fun (u : State) (hu : s0.Keeps u) => hu.trans (hf u))]

theorem State.focusDone_keeps (h k : Nat) (hk : s0.Keeps s) : s0.Keeps (State.focusDone s h k) := by
  simp (maxDischargeDepth := 999) only [State.focusDone, keeps_ite, State.offerOrder_keeps, State.orderDone_keeps, hk]

theorem State.focusOn_keeps (h : Nat) (ev : FocusEvent) (hk : s0.Keeps s) : s0.Keeps (State.focusOn s h ev) := by
  simp (maxDischargeDepth := 999) only [State.focusOn, keeps_ite, State.keeps_refl, State.setRegBit_keeps, State.modHd_keeps, State.modSq_keeps, State.setSubstate_keeps, State.orderRejected_keeps, State.laserOn_keeps, State.sendSa_keeps, State.searchRamp_keeps, State.focusSearch_keeps, State.focusDone_keeps, hk, implies_true]

theorem State.lightBeams_keeps (h : Nat) (hk : s0.Keeps s) : s0.Keeps (State.lightBeams s h) := by
  simp (maxDischargeDepth := 999) only [State.lightBeams, State.keeps_refl, State.setReg_keeps, State.forEach_keeps, State.laserOn_keeps, hk, implies_true]

theorem State.openAtDrive_keeps (h : Nat) (ls : List Nat) (hk : s0.Keeps s) : s0.Keeps (State.openAtDrive s h ls) := by
  simp (maxDischargeDepth := 999) only [State.openAtDrive, State.keeps_refl, State.forEach_keeps, State.setRegI_keeps, State.loopOpen_keeps, hk, implies_true]

theorem State.tiltOpen_keeps (h : Nat) (hk : s0.Keeps s) : s0.Keeps (State.tiltOpen s h) := by
  simp (maxDischargeDepth := 999) only [State.tiltOpen, keeps_ite, State.keeps_refl, State.forEach_keeps, State.loopOpen_keeps, hk, implies_true]

theorem State.trackSample_keeps (h : Nat) (te : Int) (hk : s0.Keeps s) : s0.Keeps (State.trackSample s h te) := by
  simp (maxDischargeDepth := 999) only [State.trackSample, keeps_ite, State.setRegI_keeps, State.modHd_keeps, hk]

theorem State.trackOn_keeps (h : Nat) (ev : TrackEvent) (hk : s0.Keeps s) : s0.Keeps (State.trackOn s h ev) := by
  simp only [State.trackOn]
  (repeat' split) <;> simp (maxDischargeDepth := 999) only [State.setReg_keeps, State.setRegI_keeps, State.setRegBit_keeps, State.modHd_keeps, State.modSq_keeps, State.enterTracking_keeps, State.offerOrder_keeps, State.orderDone_keeps, State.orderRejected_keeps, State.loopOpen_keeps, State.loopClose_keeps, State.polarityRefused_keeps, State.lightBeams_keeps, State.tiltOpen_keeps, hk]

theorem State.tiltStep_keeps (h l : Nat) (hk : s0.Keeps s) : s0.Keeps (State.tiltStep s h l) := by
  simp (maxDischargeDepth := 999) only [State.tiltStep, keeps_ite, State.setRegI_keeps, State.modHd_keeps, hk]

theorem State.closeTilt_keeps (h : Nat) (hk : s0.Keeps s) : s0.Keeps (State.closeTilt s h) := by
  simp (maxDischargeDepth := 999) only [State.closeTilt, State.tiltStep_keeps, hk]

theorem State.tiltJudge_keeps (h l : Nat) (before est : Int) (hk : s0.Keeps s) : s0.Keeps (State.tiltJudge s h l before est) := by
  simp (maxDischargeDepth := 999) only [State.tiltJudge, keeps_ite, State.setRegI_keeps, State.setRegBit_keeps, State.modHd_keeps, State.setDrive_keeps, State.loopClose_keeps, State.polarityRefused_keeps, hk]

theorem State.tiltSample_keeps (h l : Nat) (est : Int) (hk : s0.Keeps s) : s0.Keeps (State.tiltSample s h l est) := by
  simp only [State.tiltSample]
  (repeat' split) <;> simp (maxDischargeDepth := 999) only [State.modHd_keeps, State.modLp_keeps, State.tiltStep_keeps, State.tiltJudge_keeps, hk]

theorem State.kickSample_keeps (h l : Nat) (err : Int) (hk : s0.Keeps s) : s0.Keeps (State.kickSample s h l err) := by
  simp only [State.kickSample]
  (repeat' split) <;> simp (maxDischargeDepth := 999) only [State.setRegI_keeps, State.modHd_keeps, hk]

theorem State.layerKick_keeps (h k : Nat) (hk : s0.Keeps s) : s0.Keeps (State.layerKick s h k) := by
  simp (maxDischargeDepth := 999) only [State.layerKick, State.setRegI_keeps, State.modHd_keeps, State.loopOpen_keeps, hk]

theorem State.layerStep_keeps (h : Nat) (k : Nat) (x : Kick) (hk : s0.Keeps s) : s0.Keeps (State.layerStep s h k x) := by
  simp (maxDischargeDepth := 999) only [State.layerStep, State.setReg_keeps, State.modHd_keeps, State.focusClose_keeps, hk]

theorem State.layerSteps_keeps (h k : Nat) (ev : LayerEvent) (fin : State → State) (hf : ∀ (s : State), s.Keeps (fin s)) (hk : s0.Keeps s) : s0.Keeps (State.layerSteps s h k ev fin) := by
  simp only [State.layerSteps]
  (repeat' split) <;> simp (maxDischargeDepth := 999) only [State.focusUnclosed_keeps, State.layerKick_keeps, State.layerStep_keeps, hk, (fun (u : State) (hu : s0.Keeps u) => hu.trans (hf u))]

theorem State.layerJump_keeps (h : Nat) (ev : LayerEvent) (hk : s0.Keeps s) : s0.Keeps (State.layerJump s h ev) := by
  simp only [State.layerJump]
  (repeat' split) <;> simp (maxDischargeDepth := 999) only [State.keeps_refl, State.modHd_keeps, State.modSq_keeps, State.setSubstate_keeps, State.enterTracking_keeps, State.orderDone_keeps, State.orderRejected_keeps, State.loopClose_keeps, State.sendSa_keeps, State.focusSearch_keeps, State.openAtDrive_keeps, State.closeTilt_keeps, State.layerKick_keeps, State.layerSteps_keeps, hk, implies_true]

theorem State.layerTimeout_keeps (h : Nat) (hk : s0.Keeps s) : s0.Keeps (State.layerTimeout s h) := by
  simp (maxDischargeDepth := 999) only [State.layerTimeout, keeps_ite, State.modHd_keeps, State.modSq_keeps, State.setSubstate_keeps, State.searchRamp_keeps, hk]

theorem State.trackKick_keeps (h : Nat) (n : Int) (hk : s0.Keeps s) : s0.Keeps (State.trackKick s h n) := by
  simp (maxDischargeDepth := 999) only [State.trackKick, State.setRegI_keeps, State.modHd_keeps, State.loopOpen_keeps, hk]

theorem State.jumpClose_keeps (h : Nat) (n : Int) (hk : s0.Keeps s) : s0.Keeps (State.jumpClose s h n) := by
  simp (maxDischargeDepth := 999) only [State.jumpClose, State.setReg_keeps, State.setRegI_keeps, State.modHd_keeps, State.loopClose_keeps, hk]

theorem State.trackJump_keeps (h : Nat) (ev : JumpEvent) (hk : s0.Keeps s) : s0.Keeps (State.trackJump s h ev) := by
  simp only [State.trackJump]
  (repeat' split) <;> simp (maxDischargeDepth := 999) only [State.modHd_keeps, State.modSq_keeps, State.setSubstate_keeps, State.enterTracking_keeps, State.orderDone_keeps, State.orderRejected_keeps, State.trackKick_keeps, State.jumpClose_keeps, hk]

theorem State.addressRead_keeps (h : Nat) (r : PilotRead) (hk : s0.Keeps s) : s0.Keeps (State.addressRead s h r) := by
  simp (maxDischargeDepth := 999) only [State.addressRead, State.setRegs_keeps, hk]

theorem State.followDone_keeps (h : Nat) (hk : s0.Keeps s) : s0.Keeps (State.followDone s h) := by
  simp (maxDischargeDepth := 999) only [State.followDone, keeps_ite, State.modHd_keeps, State.setSubstate_keeps, State.orderDone_keeps, State.closeTilt_keeps, hk]

theorem State.followFail_keeps (h code : Nat) (hk : s0.Keeps s) : s0.Keeps (State.followFail s h code) := by
  simp (maxDischargeDepth := 999) only [State.followFail, State.enterTracking_keeps, State.headFail_keeps, hk]

theorem State.placeSeek_keeps (h track : Nat) (hk : s0.Keeps s) : s0.Keeps (State.placeSeek s h track) := by
  simp (maxDischargeDepth := 999) only [State.placeSeek, State.setRegs_keeps, State.offerOrder_keeps, hk]

theorem State.followRead_keeps (h : Nat) (r : PilotRead) (hk : s0.Keeps s) : s0.Keeps (State.followRead s h r) := by
  simp (maxDischargeDepth := 999) only [State.followRead, keeps_ite, State.modHd_keeps, State.modSq_keeps, State.enterTracking_keeps, State.openAtDrive_keeps, State.trackKick_keeps, State.addressRead_keeps, State.followDone_keeps, State.followFail_keeps, State.placeSeek_keeps, hk]

theorem State.follow_keeps (h : Nat) (ev : FollowEvent) (hk : s0.Keeps s) : s0.Keeps (State.follow s h ev) := by
  simp only [State.follow]
  (repeat' split) <;> simp (maxDischargeDepth := 999) only [State.modHd_keeps, State.modSq_keeps, State.enterTracking_keeps, State.orderRejected_keeps, State.loopClose_keeps, State.jumpClose_keeps, State.followRead_keeps, hk]

theorem State.overpower_keeps (h b : Nat) (hk : s0.Keeps s) : s0.Keeps (State.overpower s h b) := by
  simp (maxDischargeDepth := 999) only [State.overpower, keeps_ite, State.setRegBit_keeps, State.modHd_keeps, State.raiseTrap_keeps, State.laserOff_keeps, State.setHeadFault_keeps, State.focusRecovery_keeps, hk]

theorem State.pklLoss_keeps (h : Nat) (hk : s0.Keeps s) : s0.Keeps (State.pklLoss s h) := by
  simp (maxDischargeDepth := 999) only [State.pklLoss, State.modHd_keeps, State.raiseTrap_keeps, State.headDrop_keeps, State.headFail_keeps, hk]

theorem State.guardInhibit_keeps (h guard beam : Nat) (hk : s0.Keeps s) : s0.Keeps (State.guardInhibit s h guard beam) := by
  simp (maxDischargeDepth := 999) only [State.guardInhibit, State.bump_keeps, State.note_keeps, State.modHd_keeps, State.raiseTrap_keeps, State.closeGates_keeps, hk]

theorem State.headExpired_keeps (h l : Nat) (hk : s0.Keeps s) : s0.Keeps (State.headExpired s h l) := by
  simp (maxDischargeDepth := 999) only [State.headExpired, keeps_ite, State.bump_keeps, State.setRegBit_keeps, State.modHd_keeps, State.laserOff_keeps, State.focusRecovery_keeps, State.focusRecoveryFailed_keeps, State.trackRecovery_keeps, State.recoveryFailed_keeps, State.openAtDrive_keeps, hk]

theorem State.calEnd_keeps (h code : Nat) (data : List (Nat × Nat)) (hk : s0.Keeps s) : s0.Keeps (State.calEnd s h code data) := by
  simp (maxDischargeDepth := 999) only [State.calEnd, keeps_ite, State.modEng_keeps, State.endResult_keeps, State.orderDone_keeps, State.orderFailed_keeps, hk]

theorem State.calFit_keeps (sums : List Int) (hk : s0.Keeps s) : s0.Keeps (State.calFit s sums).2 := by
  simp only [State.calFit]
  (repeat' split) <;> simp (maxDischargeDepth := 999) only [State.fresh_keeps, hk]

theorem State.calibrate_keeps (h : Nat) (ev : CalEvent) (hk : s0.Keeps s) : s0.Keeps (State.calibrate s h ev) := by
  simp only [State.calibrate]
  (repeat' split) <;> simp (maxDischargeDepth := 999) only [State.setRegs_keeps, State.modEng_keeps, State.modSq_keeps, State.beginResult_keeps, State.endResult_keeps, State.orderFailed_keeps, State.orderRejected_keeps, State.setCause_keeps, State.clearCause_keeps, State.calEnd_keeps, State.calFit_keeps, hk]

theorem State.mediumHeads_keeps (st medium : Nat) (hk : s0.Keeps s) : s0.Keeps (State.mediumHeads s st medium) := by
  simp (maxDischargeDepth := 999) only [State.mediumHeads, keeps_ite, State.setReg_keeps, State.setRegBit_keeps, hk]

theorem State.loadSweep_keeps (i : Nat) (hk : s0.Keeps s) : s0.Keeps (State.loadSweep s i) := by
  simp (maxDischargeDepth := 999) only [State.loadSweep, keeps_ite, State.keeps_refl, State.fresh_keeps, State.forEach_keeps, State.setReg_keeps, State.setRegI_keeps, hk, implies_true]

/-! ### Drive -/

theorem State.emitBridge_keeps (i ang : Nat) (hk : s0.Keeps s) : s0.Keeps (State.emitBridge s i ang) := by
  simp (maxDischargeDepth := 999) only [State.emitBridge, State.emit_keeps, hk]

theorem State.limitCurrent_keeps (i amps : Nat) (hk : s0.Keeps s) : s0.Keeps (State.limitCurrent s i amps) := by
  simp (maxDischargeDepth := 999) only [State.limitCurrent, keeps_ite, State.emit_keeps, hk]

theorem State.emitVectors_keeps (i : Nat) (hk : s0.Keeps s) : s0.Keeps (State.emitVectors s i) := by
  simp (maxDischargeDepth := 999) only [State.emitVectors, State.keeps_refl, State.emit_keeps, State.forEach_keeps, hk, implies_true]

theorem State.emitWindings_keeps (h : Nat) (pos v cur : Int) (hk : s0.Keeps s) : s0.Keeps (State.emitWindings s h pos v cur) := by
  simp (maxDischargeDepth := 999) only [State.emitWindings, State.emit_keeps, hk]

theorem State.emitChopper_keeps (i pos cur : Nat) (hk : s0.Keeps s) : s0.Keeps (State.emitChopper s i pos cur) := by
  simp (maxDischargeDepth := 999) only [State.emitChopper, State.emit_keeps, hk]

theorem State.clampHold_keeps (i : Nat) (hk : s0.Keeps s) : s0.Keeps (State.clampHold s i) := by
  simp (maxDischargeDepth := 999) only [State.clampHold, State.emitChopper_keeps, hk]

theorem State.clampPoint_keeps (i : Nat) (hk : s0.Keeps s) : s0.Keeps (State.clampPoint s i) := by
  simp (maxDischargeDepth := 999) only [State.clampPoint, keeps_ite, State.setReg_keeps, State.emitChopper_keeps, hk]

/-! ### Host -/

theorem State.modNvme_keeps (f : Nvme → Nvme) (hk : s0.Keeps s) : s0.Keeps (State.modNvme s f) := by
  simp (maxDischargeDepth := 999) only [State.modNvme, keeps_mk, hk]

theorem State.modCtrl_keeps (c : Nat) (f : Ctrl → Ctrl) (hk : s0.Keeps s) : s0.Keeps (State.modCtrl s c f) := by
  simp (maxDischargeDepth := 999) only [State.modCtrl, State.modNvme_keeps, hk]

theorem State.modCtx_keeps (q : Nat) (f : Ctx → Ctx) (hk : s0.Keeps s) : s0.Keeps (State.modCtx s q f) := by
  simp (maxDischargeDepth := 999) only [State.modCtx, State.modNvme_keeps, hk]

theorem State.complete_keeps (q : Nat) (c : Cpl) (hk : s0.Keeps s) : s0.Keeps (State.complete s q c) := by
  unfold State.complete
  (repeat' split) <;> simp (maxDischargeDepth := 999) only [State.emit_keeps, State.modNvme_keeps, hk]

theorem State.pdoDiscard_keeps (n abort : Nat) (hk : s0.Keeps s) : s0.Keeps (State.pdoDiscard s n abort) := by
  simp only [State.pdoDiscard]
  (repeat' split) <;> simp (maxDischargeDepth := 999) only [keeps_mk, State.bump_keeps, State.note_keeps, hk]

theorem State.reply_keeps (d : Door) (idx sub abort total : Nat) (data : List Byte) (hk : s0.Keeps s) : s0.Keeps (State.reply s d idx sub abort total data) := by
  unfold State.reply
  (repeat' split) <;> simp (maxDischargeDepth := 999) only [keeps_mk, State.emit_keeps, State.complete_keeps, State.pdoDiscard_keeps, hk]

theorem State.eventOn_keeps (c : Nat) (e : Event) (hk : s0.Keeps s) : s0.Keeps (State.eventOn s c e) := by
  unfold State.eventOn
  (repeat' split) <;> simp (maxDischargeDepth := 999) only [State.emit_keeps, State.modCtrl_keeps, hk]

theorem State.event_keeps (e : Event) (hk : s0.Keeps s) : s0.Keeps (State.event s e) := by
  simp (maxDischargeDepth := 999) only [State.event, State.keeps_refl, State.forEach_keeps, State.eventOn_keeps, hk, implies_true]

theorem State.errorEntry_keeps (nsid lba : Nat) (hk : s0.Keeps s) : s0.Keeps (State.errorEntry s nsid lba) := by
  simp (maxDischargeDepth := 999) only [State.errorEntry, State.modNvme_keeps, State.event_keeps, hk]

theorem State.integrityEntry_keeps (nsid lba cause : Nat) (hk : s0.Keeps s) : s0.Keeps (State.integrityEntry s nsid lba cause) := by
  simp (maxDischargeDepth := 999) only [State.integrityEntry, State.modNvme_keeps, State.event_keeps, hk]

theorem State.modNs_keeps (n : Nat) (f : Ns → Ns) (hk : s0.Keeps s) : s0.Keeps (State.modNs s n f) := by
  simp (maxDischargeDepth := 999) only [State.modNs, State.modNvme_keeps, hk]

theorem State.modGr_keeps (f : Granary → Granary) (hk : s0.Keeps s) : s0.Keeps (State.modGr s f) := by
  simp (maxDischargeDepth := 999) only [State.modGr, keeps_mk, hk]

theorem State.modSpread_keeps (f : Spread → Spread) (hk : s0.Keeps s) : s0.Keeps (State.modSpread s f) := by
  simp (maxDischargeDepth := 999) only [State.modSpread, keeps_mk, hk]

theorem State.modLine_keeps (nsid cl : Nat) (f : Line → Line) (hk : s0.Keeps s) : s0.Keeps (State.modLine s nsid cl f) := by
  simp (maxDischargeDepth := 999) only [State.modLine, keeps_ite, State.modGr_keeps, State.modSpread_keeps, hk]

theorem State.dropLine_keeps (nsid cl : Nat) (hk : s0.Keeps s) : s0.Keeps (State.dropLine s nsid cl) := by
  simp (maxDischargeDepth := 999) only [State.dropLine, keeps_ite, State.modGr_keeps, State.modSpread_keeps, hk]

theorem State.modOp_keeps (nsid cl : Nat) (f : MediaOp → MediaOp) (hk : s0.Keeps s) : s0.Keeps (State.modOp s nsid cl f) := by
  simp (maxDischargeDepth := 999) only [State.modOp, State.modGr_keeps, hk]

theorem State.dropOp_keeps (nsid cl : Nat) (hk : s0.Keeps s) : s0.Keeps (State.dropOp s nsid cl) := by
  simp only [State.dropOp]
  (repeat' split) <;> simp (maxDischargeDepth := 999) only [State.modGr_keeps, hk]

theorem State.failOps_keeps (i : Nat) (hk : s0.Keeps s) : s0.Keeps (State.failOps s i) := by
  unfold State.failOps
  repeat' first
    | with_reducible exact hk
    | with_reducible exact State.keeps_refl _
    | with_reducible intro _
    | with_reducible apply keeps_ite
    | with_reducible apply State.keeps_refl
    | with_reducible apply State.setReg_keeps
    | with_reducible apply State.forEach_keeps
    | with_reducible apply State.bump_keeps
    | with_reducible apply State.modStn_keeps
    | with_reducible apply State.complete_keeps
    | with_reducible apply State.errorEntry_keeps
    | with_reducible apply State.modGr_keeps
    | with_reducible refine keeps_of_fst (by assumption) ?_
    | with_reducible refine keeps_of_snd (by assumption) ?_
    | with_reducible refine keeps_of_ok (by assumption) ?_
    | with_reducible refine keeps_of_some (by assumption) ?_
    | (simp (maxDischargeDepth := 999) only [keeps_ite, keeps_mk, State.keeps_refl, State.setReg_keeps, State.forEach_keeps, State.bump_keeps, State.modStn_keeps, State.complete_keeps, State.errorEntry_keeps, State.modGr_keeps, hk, implies_true]; done)
    | split

theorem State.leaveMedia_keeps (i new : Nat) (hk : s0.Keeps s) : s0.Keeps (State.leaveMedia s i new) := by
  simp (maxDischargeDepth := 999) only [State.leaveMedia, keeps_ite, State.modStn_keeps, State.failOps_keeps, hk]

/-! ### Domains -/

theorem State.setPower_keeps (v : Nat) (hk : s0.Keeps s) : s0.Keeps (State.setPower s v) := by
  simp (maxDischargeDepth := 999) only [State.setPower, keeps_ite, State.setReg_keeps, State.note_keeps, hk]

theorem State.setDom_keeps (d v : Nat) (hk : s0.Keeps s) : s0.Keeps (State.setDom s d v) := by
  simp (maxDischargeDepth := 999) only [State.setDom, State.setReg_keeps, hk]

theorem State.updDomain_keeps (d : Nat) (hk : s0.Keeps s) : s0.Keeps (State.updDomain s d) := by
  simp (maxDischargeDepth := 999) only [State.updDomain, keeps_ite, keeps_mk, State.setDom_keeps, hk]

theorem State.updDomains_keeps (l : List Nat) (hk : s0.Keeps s) : s0.Keeps (State.updDomains s l) := by
  simp (maxDischargeDepth := 999) only [State.updDomains, State.keeps_refl, State.forEach_keeps, State.updDomain_keeps, hk, implies_true]

theorem State.clockView_keeps (hk : s0.Keeps s) : s0.Keeps (State.clockView s) := by
  simp (maxDischargeDepth := 999) only [State.clockView, State.setReg_keeps, hk]

theorem State.updAll_keeps (hk : s0.Keeps s) : s0.Keeps (State.updAll s) := by
  simp (maxDischargeDepth := 999) only [State.updAll, State.updDomains_keeps, State.clockView_keeps, hk]

theorem State.updStation_keeps (i : Nat) (hk : s0.Keeps s) : s0.Keeps (State.updStation s i) := by
  simp (maxDischargeDepth := 999) only [State.updStation, State.updDomains_keeps, State.clockView_keeps, hk]

theorem State.tempWake_keeps (d : Nat) (hk : s0.Keeps s) : s0.Keeps (State.tempWake s d) := by
  simp (maxDischargeDepth := 999) only [State.tempWake, keeps_ite, keeps_mk, State.updDomain_keeps, hk]

theorem State.endTempWake_keeps (d : Nat) (hk : s0.Keeps s) : s0.Keeps (State.endTempWake s d) := by
  simp (maxDischargeDepth := 999) only [State.endTempWake, keeps_mk, State.updDomain_keeps, hk]

theorem State.modRing_keeps (f : Ring → Ring) (hk : s0.Keeps s) : s0.Keeps (State.modRing s f) := by
  simp (maxDischargeDepth := 999) only [State.modRing, keeps_mk, hk]

theorem State.frameOut_keeps (p kind : Nat) (h : FrameHead) (f : List Nat) (d : List Block) (hk : s0.Keeps s) : s0.Keeps (State.frameOut s p kind h f d) := by
  simp (maxDischargeDepth := 999) only [State.frameOut, keeps_ite, State.emit_keeps, State.modRing_keeps, hk]

theorem State.ringSend_keeps (p kind : Nat) (fields : List Nat) (hk : s0.Keeps s) : s0.Keeps (State.ringSend s p kind fields) := by
  simp (maxDischargeDepth := 999) only [State.ringSend, State.frameOut_keeps, hk]

theorem State.takeSlot_keeps (i : Nat) (hk : s0.Keeps s) : s0.Keeps (State.takeSlot s i) := by
  simp (maxDischargeDepth := 999) only [State.takeSlot, keeps_mk, State.setReg_keeps, State.modStn_keeps, State.setStFlag_keeps, hk]

theorem State.waitSlot_keeps (i : Nat) (hk : s0.Keeps s) : s0.Keeps (State.waitSlot s i) := by
  simp (maxDischargeDepth := 999) only [State.waitSlot, keeps_mk, State.setStFlag_keeps, hk]

theorem State.sendGrantReq_keeps (i : Nat) (ask : Bool) (hk : s0.Keeps s) : s0.Keeps (State.sendGrantReq s i ask) := by
  simp (maxDischargeDepth := 999) only [State.sendGrantReq, State.ringSend_keeps, hk]

theorem State.freeSlot_keeps (i : Nat) (hk : s0.Keeps s) : s0.Keeps (State.freeSlot s i) := by
  simp (maxDischargeDepth := 999) only [State.freeSlot, keeps_ite, keeps_mk, State.setReg_keeps, State.modStn_keeps, State.setStFlag_keeps, State.sendGrantReq_keeps, hk]

theorem State.keepSlices_keeps (least : Nat) (hk : s0.Keeps s) : s0.Keeps (State.keepSlices s least) := by
  simp (maxDischargeDepth := 999) only [State.keepSlices, keeps_mk, hk]

theorem State.setStation_keeps (i new trig : Nat) (hk : s0.Keeps s) : s0.Keeps (State.setStation s i new trig) := by
  simp (maxDischargeDepth := 999) only [State.setStation, keeps_ite, State.setReg_keeps, State.setRegs_keeps, State.note_keeps, State.modStn_keeps, State.event_keeps, State.leaveMedia_keeps, State.updStation_keeps, State.keepSlices_keeps, hk]

theorem State.dropWake_keeps (i : Nat) (hk : s0.Keeps s) : s0.Keeps (State.dropWake s i) := by
  simp (maxDischargeDepth := 999) only [State.dropWake, keeps_ite, State.keeps_refl, State.forEach_keeps, State.endTempWake_keeps, hk, implies_true]

theorem State.endCommand_keeps (i code : Nat) (hk : s0.Keeps s) : s0.Keeps (State.endCommand s i code) := by
  unfold State.endCommand
  (repeat' split) <;> simp (maxDischargeDepth := 999) only [State.modStn_keeps, State.endResult_keeps, State.setStFlag_keeps, State.armedView_keeps, State.dropWake_keeps, hk]

theorem State.freewheel_keeps (i : Nat) (hk : s0.Keeps s) : s0.Keeps (State.freewheel s i) := by
  simp (maxDischargeDepth := 999) only [State.freewheel, State.setReg_keeps, State.loopOff_keeps, State.emitBridge_keeps, hk]

theorem State.dropSpin_keeps (i : Nat) (hk : s0.Keeps s) : s0.Keeps (State.dropSpin s i) := by
  simp (maxDischargeDepth := 999) only [State.dropSpin, State.setReg_keeps, State.modStn_keeps, State.freeSlot_keeps, State.freewheel_keeps, hk]

theorem State.spinLeft_keeps (s1 : State) (e : Nat) (hk : s0.Keeps s) : s0.Keeps (State.spinLeft s s1 e) := by
  simp (maxDischargeDepth := 999) only [State.spinLeft, keeps_ite, State.dropSpin_keeps, hk]

theorem State.sledProfile_keeps (h : Nat) (target : Int) (hk : s0.Keeps s) : s0.Keeps (State.sledProfile s h target) := by
  simp (maxDischargeDepth := 999) only [State.sledProfile, State.setReg_keeps, State.modStn_keeps, hk]

theorem State.sledParkNow_keeps (h : Nat) (hk : s0.Keeps s) : s0.Keeps (State.sledParkNow s h) := by
  simp (maxDischargeDepth := 999) only [State.sledParkNow, keeps_ite, State.sledProfile_keeps, hk]

theorem State.stnFault_keeps (i cause detail : Nat) (hk : s0.Keeps s) : s0.Keeps (State.stnFault s i cause detail) := by
  simp (maxDischargeDepth := 999) only [State.stnFault, keeps_ite, State.keeps_refl, State.setReg_keeps, State.setRegs_keeps, State.forEach_keeps, State.bump_keeps, State.post_keeps, State.modStn_keeps, State.setStFlag_keeps, State.dropOrders_keeps, State.parkHead_keeps, State.freeSlot_keeps, State.setStation_keeps, State.endCommand_keeps, State.dropSpin_keeps, State.sledParkNow_keeps, hk, implies_true]

end Sys2Proof.Machine
end

