-- ==== Sys2Proof/Laws/Keeps2.lean ====
section
/-! SUPPORT. No operation of these files breaks what Laws/Keeps.lean says every command keeps: Spread, Granary, Security, Arbiter, Motion, Bist, Places, SelfTest, Wiring, Nvme, NvmeCmds. -/

namespace Sys2Proof.Machine

variable {s0 s t : State}

/-! ### Spread -/

theorem State.modVolume_keeps (v : Nat) (f : Volume → Volume) (hk : s0.Keeps s) : s0.Keeps (State.modVolume s v f) := by
  simp (maxDischargeDepth := 999) only [State.modVolume, State.modSpread_keeps, hk]

theorem State.dropStaged_keeps (hk : s0.Keeps s) : s0.Keeps (State.dropStaged s) := by
  simp (maxDischargeDepth := 999) only [State.dropStaged, State.keeps_refl, State.forEach_keeps, State.modNs_keeps, State.modSpread_keeps, hk, implies_true]

theorem State.padRow_keeps (v : Volume) (z : Nat) (hk : s0.Keeps s) : s0.Keeps (State.padRow s v z) := by
  simp only [State.padRow]
  (repeat' split) <;> simp (maxDischargeDepth := 999) only [keeps_ite, State.keeps_refl, State.forEach_keeps, State.bump_keeps, State.modNs_keeps, State.modSpread_keeps, State.modLine_keeps, hk, implies_true]

theorem State.memberFlush_keeps (v : Volume) (z : Nat) (hk : s0.Keeps s) : s0.Keeps (State.memberFlush s v z) := by
  simp (maxDischargeDepth := 999) only [State.memberFlush, keeps_ite, State.keeps_refl, State.forEach_keeps, State.modSpread_keeps, State.ringSend_keeps, hk, implies_true]

theorem State.spreadFlush_keeps (nsids : List Nat) (only : Option Nat) (hk : s0.Keeps s) : s0.Keeps (State.spreadFlush s nsids only) := by
  simp (maxDischargeDepth := 999) only [State.spreadFlush, State.keeps_refl, State.forEach_keeps, State.padRow_keeps, State.memberFlush_keeps, hk, implies_true]

theorem State.failSpread_keeps (nsid cl : Nat) (hk : s0.Keeps s) : s0.Keeps (State.failSpread s nsid cl) := by
  unfold State.failSpread
  repeat' first
    | with_reducible exact hk
    | with_reducible exact State.keeps_refl _
    | intro _
    | with_reducible apply keeps_ite
    | with_reducible apply State.keeps_refl
    | with_reducible apply State.forEach_keeps
    | with_reducible apply State.bump_keeps
    | with_reducible apply State.modNvme_keeps
    | with_reducible apply State.complete_keeps
    | with_reducible apply State.errorEntry_keeps
    | with_reducible refine keeps_of_fst (by assumption) ?_
    | with_reducible refine keeps_of_snd (by assumption) ?_
    | with_reducible refine keeps_of_ok (by assumption) ?_
    | split

theorem State.askMember_keeps (v : Volume) (row i : Nat) (hk : s0.Keeps s) : s0.Keeps (State.askMember s v row i) := by
  simp (maxDischargeDepth := 999) only [State.askMember, State.ringSend_keeps, hk]

theorem State.askRow_keeps (v : Volume) (g : SpreadGet) (hk : s0.Keeps s) : s0.Keeps (State.askRow s v g) := by
  simp (maxDischargeDepth := 999) only [State.askRow, keeps_ite, State.keeps_refl, State.forEach_keeps, State.modSpread_keeps, State.failSpread_keeps, State.askMember_keeps, hk, implies_true]

theorem State.wantCluster_keeps (nsid cl : Nat) (hk : s0.Keeps s) : s0.Keeps (State.wantCluster s nsid cl) := by
  unfold State.wantCluster
  (repeat' split) <;> simp (maxDischargeDepth := 999) only [State.askRow_keeps, hk]

theorem State.sendRow_keeps (v : Volume) (row i : Nat) (blocks : List Block) (hk : s0.Keeps s) : s0.Keeps (State.sendRow s v row i blocks) := by
  simp (maxDischargeDepth := 999) only [State.sendRow, State.frameOut_keeps, hk]

theorem State.sendStaged_keeps (v : Volume) (row i : Nat) (hk : s0.Keeps s) : s0.Keeps (State.sendStaged s v row i) := by
  simp only [State.sendStaged]
  (repeat' split) <;> simp (maxDischargeDepth := 999) only [State.sendRow_keeps, hk]

/-! ### Granary -/

theorem State.bump64_keeps (k : Nat) (hk : s0.Keeps s) : s0.Keeps (State.bump64 s k) := by
  simp (maxDischargeDepth := 999) only [State.bump64, State.addReg_keeps, hk]

theorem State.setTree_keeps (x v : Nat) (hk : s0.Keeps s) : s0.Keeps (State.setTree s x v) := by
  simp (maxDischargeDepth := 999) only [State.setTree, State.modGr_keeps, hk]

theorem State.touch_keeps (l : Line) (hk : s0.Keeps s) : s0.Keeps (State.touch s l) := by
  simp (maxDischargeDepth := 999) only [State.touch, keeps_ite, State.setTree_keeps, hk]

theorem State.queueFill_keeps (nsid cl : Nat) (k : OpKind) (hk : s0.Keeps s) : s0.Keeps (State.queueFill s nsid cl k) := by
  simp only [State.queueFill]
  (repeat' split) <;> simp (maxDischargeDepth := 999) only [State.bump_keeps, State.modGr_keeps, State.modLine_keeps, State.modOp_keeps, hk]

theorem State.prefetchAfter_keeps (nsid cl : Nat) (hk : s0.Keeps s) : s0.Keeps (State.prefetchAfter s nsid cl) := by
  unfold State.prefetchAfter
  (repeat' split) <;> simp (maxDischargeDepth := 999) only [keeps_ite, State.keeps_refl, State.forEach_keeps, State.bump_keeps, State.queueFill_keeps, hk, implies_true]

theorem State.hitLine_keeps (l : Line) (hk : s0.Keeps s) : s0.Keeps (State.hitLine s l) := by
  simp (maxDischargeDepth := 999) only [State.hitLine, keeps_ite, State.bump_keeps, State.modGr_keeps, State.modLine_keeps, State.touch_keeps, hk]

theorem State.finishRead_keeps (q : Nat) (hk : s0.Keeps s) : s0.Keeps (State.finishRead s q) := by
  simp only [State.finishRead]
  (repeat' split) <;> simp (maxDischargeDepth := 999) only [State.emit_keeps, State.modNvme_keeps, State.complete_keeps, State.errorEntry_keeps, hk]

theorem State.serveRead_keeps (q : Nat) (hk : s0.Keeps s) : s0.Keeps (State.serveRead s q) := by
  unfold State.serveRead
  (repeat' split) <;> simp (maxDischargeDepth := 999) only [State.modCtx_keeps, State.complete_keeps, State.finishRead_keeps, hk]

theorem State.refetch_keeps (hk : s0.Keeps s) : s0.Keeps (State.refetch s) := by
  unfold State.refetch
  repeat' first
    | with_reducible exact hk
    | with_reducible exact State.keeps_refl _
    | with_reducible intro _
    | with_reducible apply keeps_ite
    | with_reducible apply State.keeps_refl
    | with_reducible apply State.forEach_keeps
    | with_reducible apply State.queueFill_keeps
    | with_reducible refine keeps_of_fst (by assumption) ?_
    | with_reducible refine keeps_of_snd (by assumption) ?_
    | with_reducible refine keeps_of_ok (by assumption) ?_
    | with_reducible refine keeps_of_some (by assumption) ?_
    | (simp (maxDischargeDepth := 999) only [keeps_ite, keeps_mk, State.keeps_refl, State.forEach_keeps, State.queueFill_keeps, hk, implies_true]; done)
    | split

theorem State.pumpReads_keeps (hk : s0.Keeps s) : s0.Keeps (State.pumpReads s) := by
  simp (maxDischargeDepth := 999) only [State.pumpReads, State.keeps_refl, State.forEach_keeps, State.serveRead_keeps, hk, implies_true]

theorem State.serveFlush_keeps (q : Nat) (hk : s0.Keeps s) : s0.Keeps (State.serveFlush s q) := by
  unfold State.serveFlush
  (repeat' split) <;> simp (maxDischargeDepth := 999) only [keeps_ite, State.keeps_refl, State.forEach_keeps, State.bump_keeps, State.complete_keeps, State.modGr_keeps, hk, implies_true]

theorem State.serveShutdown_keeps (q : Nat) (hk : s0.Keeps s) : s0.Keeps (State.serveShutdown s q) := by
  unfold State.serveShutdown
  (repeat' split) <;> simp (maxDischargeDepth := 999) only [keeps_ite, State.keeps_refl, State.forEach_keeps, State.modCtrl_keeps, State.complete_keeps, State.modGr_keeps, hk, implies_true]

theorem State.pumpFlushes_keeps (hk : s0.Keeps s) : s0.Keeps (State.pumpFlushes s) := by
  simp (maxDischargeDepth := 999) only [State.pumpFlushes, State.keeps_refl, State.forEach_keeps, State.serveFlush_keeps, State.serveShutdown_keeps, hk, implies_true]

theorem State.modPin_keeps (id : Nat) (f : Pin → Pin) (hk : s0.Keeps s) : s0.Keeps (State.modPin s id f) := by
  simp (maxDischargeDepth := 999) only [State.modPin, State.modGr_keeps, hk]

theorem State.refuseLock_keeps (nsid cl : Nat) (hk : s0.Keeps s) : s0.Keeps (State.refuseLock s nsid cl) := by
  simp (maxDischargeDepth := 999) only [State.refuseLock, State.keeps_refl, State.forEach_keeps, State.bump_keeps, State.modPin_keeps, hk, implies_true]

theorem State.lockLine_keeps (nsid cl : Nat) (hk : s0.Keeps s) : s0.Keeps (State.lockLine s nsid cl) := by
  unfold State.lockLine
  (repeat' split) <;> simp (maxDischargeDepth := 999) only [State.modLine_keeps, State.refuseLock_keeps, hk]

theorem State.pumpPins_keeps (hk : s0.Keeps s) : s0.Keeps (State.pumpPins s) := by
  unfold State.pumpPins
  repeat' first
    | with_reducible exact hk
    | with_reducible exact State.keeps_refl _
    | intro _
    | with_reducible apply keeps_ite
    | with_reducible apply State.keeps_refl
    | with_reducible apply State.forEach_keeps
    | with_reducible apply State.complete_keeps
    | with_reducible refine keeps_of_fst (by assumption) ?_
    | with_reducible refine keeps_of_snd (by assumption) ?_
    | with_reducible refine keeps_of_ok (by assumption) ?_
    | split

theorem State.pump_keeps (hk : s0.Keeps s) : s0.Keeps (State.pump s) := by
  simp (maxDischargeDepth := 999) only [State.pump, State.pumpReads_keeps, State.pumpFlushes_keeps, State.pumpPins_keeps, hk]

theorem State.commitLine_keeps (o : MediaOp) (w lock : Nat) (hk : s0.Keeps s) : s0.Keeps (State.commitLine s o w lock) := by
  simp (maxDischargeDepth := 999) only [State.commitLine, keeps_ite, State.bump_keeps, State.modGr_keeps, State.modOp_keeps, State.touch_keeps, State.lockLine_keeps, hk]

theorem State.fillCommit_keeps (nsid cl : Nat) (hk : s0.Keeps s) : s0.Keeps (State.fillCommit s nsid cl) := by
  simp only [State.fillCommit]
  (repeat' split) <;> simp (maxDischargeDepth := 999) only [State.keeps_refl, State.forEach_keeps, State.bump_keeps, State.modLine_keeps, State.modOp_keeps, State.dropOp_keeps, State.modPin_keeps, State.commitLine_keeps, hk, implies_true]

theorem State.failReads_keeps (nsid : Nat) (want : Nat → Bool) (st : Status) (dnr : Bool) (hk : s0.Keeps s) : s0.Keeps (State.failReads s nsid want st dnr) := by
  unfold State.failReads
  repeat' first
    | with_reducible exact hk
    | with_reducible exact State.keeps_refl _
    | intro _
    | with_reducible apply keeps_ite
    | with_reducible apply State.keeps_refl
    | with_reducible apply State.forEach_keeps
    | with_reducible apply State.complete_keeps
    | with_reducible apply State.errorEntry_keeps
    | with_reducible refine keeps_of_fst (by assumption) ?_
    | with_reducible refine keeps_of_snd (by assumption) ?_
    | with_reducible refine keeps_of_ok (by assumption) ?_
    | split

theorem State.sendBlock_keeps (nsid a : Nat) (blk : Block) (hk : s0.Keeps s) : s0.Keeps (State.sendBlock s nsid a blk) := by
  unfold State.sendBlock
  repeat' first
    | with_reducible exact hk
    | with_reducible exact State.keeps_refl _
    | intro _
    | with_reducible apply keeps_ite
    | with_reducible apply State.keeps_refl
    | with_reducible apply State.forEach_keeps
    | with_reducible apply State.modCtx_keeps
    | with_reducible apply State.finishRead_keeps
    | with_reducible refine keeps_of_fst (by assumption) ?_
    | with_reducible refine keeps_of_snd (by assumption) ?_
    | with_reducible refine keeps_of_ok (by assumption) ?_
    | split

theorem State.hbmWrite_keeps (l : Line) (b : Nat) (hk : s0.Keeps s) : s0.Keeps (State.hbmWrite s l b) := by
  simp only [State.hbmWrite]
  (repeat' split) <;> simp (maxDischargeDepth := 999) only [keeps_mk, hk]

theorem State.hbmWrites_keeps (nsid cl : Nat) (bs : List Nat) (hk : s0.Keeps s) : s0.Keeps (State.hbmWrites s nsid cl bs) := by
  simp only [State.hbmWrites]
  (repeat' split) <;> simp (maxDischargeDepth := 999) only [State.keeps_refl, State.forEach_keeps, State.hbmWrite_keeps, hk, implies_true]

theorem State.placeBlock_keeps (nsid cl b : Nat) (blk : Block) (hk : s0.Keeps s) : s0.Keeps (State.placeBlock s nsid cl b blk) := by
  simp only [State.placeBlock]
  (repeat' split) <;> simp (maxDischargeDepth := 999) only [State.modLine_keeps, State.pumpReads_keeps, State.sendBlock_keeps, State.hbmWrites_keeps, hk]

theorem State.rejectBlock_keeps (nsid cl b : Nat) (st : Status) (hk : s0.Keeps s) : s0.Keeps (State.rejectBlock s nsid cl b st) := by
  unfold State.rejectBlock
  (repeat' split) <;> simp (maxDischargeDepth := 999) only [State.failReads_keeps, hk]

theorem State.checkedBlock_keeps (nsid cl b : Nat) (blk : Block) (hk : s0.Keeps s) : s0.Keeps (State.checkedBlock s nsid cl b blk) := by
  simp (maxDischargeDepth := 999) only [State.checkedBlock, keeps_ite, State.placeBlock_keeps, State.rejectBlock_keeps, hk]

theorem State.placeRest_keeps (nsid cl : Nat) (hk : s0.Keeps s) : s0.Keeps (State.placeRest s nsid cl) := by
  simp only [State.placeRest]
  (repeat' split) <;> simp (maxDischargeDepth := 999) only [keeps_ite, State.keeps_refl, State.forEach_keeps, State.checkedBlock_keeps, hk, implies_true]

theorem State.fillEnd_keeps (nsid cl : Nat) (hk : s0.Keeps s) : s0.Keeps (State.fillEnd s nsid cl) := by
  unfold State.fillEnd
  repeat' first
    | with_reducible exact hk
    | with_reducible exact State.keeps_refl _
    | with_reducible intro _
    | with_reducible apply keeps_ite
    | with_reducible apply State.keeps_refl
    | with_reducible apply State.forEach_keeps
    | with_reducible apply State.modNvme_keeps
    | with_reducible apply State.integrityEntry_keeps
    | with_reducible apply State.modLine_keeps
    | with_reducible apply State.dropLine_keeps
    | with_reducible apply State.modOp_keeps
    | with_reducible apply State.refuseLock_keeps
    | with_reducible apply State.pump_keeps
    | with_reducible apply State.failReads_keeps
    | with_reducible apply State.placeRest_keeps
    | with_reducible refine keeps_of_fst (by assumption) ?_
    | with_reducible refine keeps_of_snd (by assumption) ?_
    | with_reducible refine keeps_of_ok (by assumption) ?_
    | with_reducible refine keeps_of_some (by assumption) ?_
    | (simp (maxDischargeDepth := 999) only [keeps_ite, keeps_mk, State.keeps_refl, State.forEach_keeps, State.modNvme_keeps, State.integrityEntry_keeps, State.modLine_keeps, State.dropLine_keeps, State.modOp_keeps, State.refuseLock_keeps, State.pump_keeps, State.failReads_keeps, State.placeRest_keeps, hk, implies_true]; done)
    | split

theorem State.reserve_keeps (nsid cl : Nat) (hk : s0.Keeps s) : s0.Keeps (State.reserve s nsid cl) := by
  simp only [State.reserve]
  (repeat' split) <;> simp (maxDischargeDepth := 999) only [State.bump_keeps, State.modGr_keeps, State.modSpread_keeps, State.touch_keeps, State.hitLine_keeps, State.lockLine_keeps, hk]

theorem State.stage_keeps (q nsid lba : Nat) (d : List Block) (hk : s0.Keeps s) : s0.Keeps (State.stage s q nsid lba d) := by
  simp (maxDischargeDepth := 999) only [State.stage, State.keeps_refl, State.forEach_keeps, State.modLine_keeps, State.hbmWrites_keeps, State.reserve_keeps, hk, implies_true]

theorem State.verified_keeps (nsid cl : Nat) (hk : s0.Keeps s) : s0.Keeps (State.verified s nsid cl) := by
  unfold State.verified
  (repeat' split) <;> simp (maxDischargeDepth := 999) only [State.modNs_keeps, State.modLine_keeps, State.pump_keeps, hk]

theorem State.unverified_keeps (nsid cl : Nat) (hk : s0.Keeps s) : s0.Keeps (State.unverified s nsid cl) := by
  unfold State.unverified
  (repeat' split) <;> simp (maxDischargeDepth := 999) only [State.modLine_keeps, State.dropLine_keeps, hk]

theorem State.invalidate_keeps (nsid : Nat) (hk : s0.Keeps s) : s0.Keeps (State.invalidate s nsid).1 := by
  simp (maxDischargeDepth := 999) only [State.invalidate, State.keeps_refl, State.forEach_keeps, State.addReg_keeps, State.bump_keeps, State.note_keeps, State.event_keeps, State.modGr_keeps, State.modPin_keeps, State.pumpPins_keeps, hk, implies_true]

theorem State.discardStaged_keeps (hk : s0.Keeps s) : s0.Keeps (State.discardStaged s).1 := by
  simp (maxDischargeDepth := 999) only [State.discardStaged, State.keeps_refl, State.forEach_keeps, State.addReg_keeps, State.modNs_keeps, State.modGr_keeps, State.dropStaged_keeps, State.queueFill_keeps, hk, implies_true]

theorem State.clearGranary_keeps (hk : s0.Keeps s) : s0.Keeps (State.clearGranary s) := by
  simp (maxDischargeDepth := 999) only [State.clearGranary, keeps_mk, hk]

/-! ### Security -/

theorem State.modSec_keeps (f : Security → Security) (hk : s0.Keeps s) : s0.Keeps (State.modSec s f) := by
  simp (maxDischargeDepth := 999) only [State.modSec, keeps_mk, hk]

theorem State.setSecFlag_keeps (b : Nat) (v : Bool) (hk : s0.Keeps s) : s0.Keeps (State.setSecFlag s b v) := by
  simp (maxDischargeDepth := 999) only [State.setSecFlag, State.setRegBit_keeps, hk]

theorem State.drawChallenge_keeps (hk : s0.Keeps s) : s0.Keeps (State.drawChallenge s) := by
  simp (maxDischargeDepth := 999) only [State.drawChallenge, State.fresh_keeps, State.modSec_keeps, hk]

theorem State.drawDebugChallenge_keeps (hk : s0.Keeps s) : s0.Keeps (State.drawDebugChallenge s) := by
  simp (maxDischargeDepth := 999) only [State.drawDebugChallenge, State.fresh_keeps, State.modSec_keeps, hk]

theorem State.authClose_keeps (hk : s0.Keeps s) : s0.Keeps (State.authClose s) := by
  simp (maxDischargeDepth := 999) only [State.authClose, State.setReg_keeps, State.modSec_keeps, State.setSecFlag_keeps, State.drawChallenge_keeps, hk]

theorem State.authAction_keeps (d : Door) (idx sub : Nat) (hk : s0.Keeps s) : s0.Keeps (State.authAction s d idx sub) := by
  simp (maxDischargeDepth := 999) only [State.authAction, State.note_keeps, hk]

theorem State.measure_keeps (kind : Nat) (d : BitVec 512) (hk : s0.Keeps s) : s0.Keeps (State.measure s kind d) := by
  simp (maxDischargeDepth := 999) only [State.measure, State.modSec_keeps, hk]

theorem State.measureImage_keeps (hk : s0.Keeps s) : s0.Keeps (State.measureImage s) := by
  unfold State.measureImage
  (repeat' split) <;> simp (maxDischargeDepth := 999) only [State.keeps_refl, State.forEach_keeps, State.measure_keeps, hk, implies_true]

theorem State.rebuildLog_keeps (hk : s0.Keeps s) : s0.Keeps (State.rebuildLog s) := by
  simp (maxDischargeDepth := 999) only [State.rebuildLog, State.modSec_keeps, State.measure_keeps, State.measureImage_keeps, hk]

theorem State.unseal_keeps (ok : Bool) (hk : s0.Keeps s) : s0.Keeps (State.unseal s ok) := by
  simp (maxDischargeDepth := 999) only [State.unseal, keeps_ite, State.fresh_keeps, State.post_keeps, State.modSec_keeps, State.setSecFlag_keeps, hk]

theorem State.secReset_keeps (hk : s0.Keeps s) : s0.Keeps (State.secReset s) := by
  simp (maxDischargeDepth := 999) only [State.secReset, State.modSec_keeps, State.setSecFlag_keeps, State.drawDebugChallenge_keeps, State.authClose_keeps, hk]

theorem State.secWake_keeps (hk : s0.Keeps s) : s0.Keeps (State.secWake s) := by
  simp (maxDischargeDepth := 999) only [State.secWake, State.modSec_keeps, hk]

theorem State.raiseRollback_keeps (f : FirmwareImage) (hk : s0.Keeps s) : s0.Keeps (State.raiseRollback s f) := by
  simp (maxDischargeDepth := 999) only [State.raiseRollback, keeps_ite, State.setReg_keeps, State.measure_keeps, hk]

theorem State.runImage_keeps (f : FirmwareImage) (hk : s0.Keeps s) : s0.Keeps (State.runImage s f) := by
  simp only [State.runImage]
  (repeat' split) <;> simp (maxDischargeDepth := 999) only [keeps_mk, State.modSec_keeps, hk]

/-! ### Arbiter -/

theorem State.arbView_keeps (hk : s0.Keeps s) : s0.Keeps (State.arbView s) := by
  simp (maxDischargeDepth := 999) only [State.arbView, State.setRegs_keeps, hk]

theorem State.stepGrant_keeps (hk : s0.Keeps s) : s0.Keeps (State.stepGrant s) := by
  simp (maxDischargeDepth := 999) only [State.stepGrant, State.bump_keeps, hk]

theorem State.grantReq_keeps (r : TokenReq) (hk : s0.Keeps s) : s0.Keeps (State.grantReq s r) := by
  simp (maxDischargeDepth := 999) only [State.grantReq, keeps_ite, keeps_mk, State.setRegs_keeps, State.bump_keeps, State.arbView_keeps, hk]

theorem State.askTokens_keeps (a : Activity) (ts : List Nat) (hk : s0.Keeps s) : s0.Keeps (State.askTokens s a ts) := by
  simp (maxDischargeDepth := 999) only [State.askTokens, keeps_ite, keeps_mk, State.arbView_keeps, State.grantReq_keeps, hk]

theorem State.dropTokens_keeps (a : Activity) (hk : s0.Keeps s) : s0.Keeps (State.dropTokens s a) := by
  simp (maxDischargeDepth := 999) only [State.dropTokens, keeps_mk, State.arbView_keeps, hk]

theorem State.refuseBusy_keeps (hk : s0.Keeps s) : s0.Keeps (State.refuseBusy s) := by
  simp (maxDischargeDepth := 999) only [State.refuseBusy, State.bump_keeps, hk]

/-! ### Motion -/

theorem State.setSpin_keeps (i v : Nat) (hk : s0.Keeps s) : s0.Keeps (State.setSpin s i v) := by
  simp (maxDischargeDepth := 999) only [State.setSpin, State.setReg_keeps, hk]

theorem State.motion_keeps (i c : Nat) (hk : s0.Keeps s) : s0.Keeps (State.motion s i c) := by
  simp (maxDischargeDepth := 999) only [State.motion, State.bump_keeps, hk]

theorem State.setComm_keeps (i v : Nat) (hk : s0.Keeps s) : s0.Keeps (State.setComm s i v) := by
  simp (maxDischargeDepth := 999) only [State.setComm, State.setReg_keeps, hk]

theorem State.spinFail_keeps (i code : Nat) (hk : s0.Keeps s) : s0.Keeps (State.spinFail s i code) := by
  simp (maxDischargeDepth := 999) only [State.spinFail, keeps_ite, State.orderFailed_keeps, State.dropSpin_keeps, hk]

theorem State.hallFail_keeps (i : Nat) (hk : s0.Keeps s) : s0.Keeps (State.hallFail s i) := by
  simp (maxDischargeDepth := 999) only [State.hallFail, State.stnFault_keeps, State.spinFail_keeps, hk]

theorem State.closeSpd_keeps (i : Nat) (n : Int) (hk : s0.Keeps s) : s0.Keeps (State.closeSpd s i n) := by
  simp (maxDischargeDepth := 999) only [State.closeSpd, keeps_ite, State.setRegI_keeps, State.modStn_keeps, State.orderRejected_keeps, State.loopOpen_keeps, State.loopClose_keeps, State.dropSpin_keeps, hk]

theorem State.startRest_keeps (i : Nat) (hk : s0.Keeps s) : s0.Keeps (State.startRest s i) := by
  simp (maxDischargeDepth := 999) only [State.startRest, keeps_ite, State.modStn_keeps, State.setSpin_keeps, State.setComm_keeps, State.hallFail_keeps, State.closeSpd_keeps, hk]

theorem State.catchSpin_keeps (i : Nat) (n : Int) (hk : s0.Keeps s) : s0.Keeps (State.catchSpin s i n) := by
  simp (maxDischargeDepth := 999) only [State.catchSpin, State.setReg_keeps, State.setSpin_keeps, State.motion_keeps, State.setComm_keeps, State.closeSpd_keeps, hk]

theorem State.spinGo_keeps (i : Nat) (hk : s0.Keeps s) : s0.Keeps (State.spinGo s i) := by
  simp (maxDischargeDepth := 999) only [State.spinGo, keeps_ite, State.modStn_keeps, State.emitVectors_keeps, State.setSpin_keeps, State.startRest_keeps, State.catchSpin_keeps, hk]

theorem State.needSlot_keeps (i : Nat) (hk : s0.Keeps s) : s0.Keeps (State.needSlot s i) := by
  simp (maxDischargeDepth := 999) only [State.needSlot, keeps_ite, State.modStn_keeps, State.takeSlot_keeps, State.waitSlot_keeps, State.spinGo_keeps, hk]

theorem State.needPower_keeps (i : Nat) (catchAt : Int) (hk : s0.Keeps s) : s0.Keeps (State.needPower s i catchAt) := by
  simp (maxDischargeDepth := 999) only [State.needPower, keeps_ite, State.modStn_keeps, State.setStFlag_keeps, State.sendGrantReq_keeps, State.needSlot_keeps, hk]

theorem State.spinUp_keeps (i : Nat) (ev : SpinEvent) (hk : s0.Keeps s) : s0.Keeps (State.spinUp s i ev) := by
  unfold State.spinUp
  (repeat' split) <;> simp (maxDischargeDepth := 999) only [keeps_ite, State.setReg_keeps, State.note_keeps, State.modStn_keeps, State.modSq_keeps, State.orderRejected_keeps, State.freewheel_keeps, State.setSpin_keeps, State.hallFail_keeps, State.startRest_keeps, hk]

theorem State.measured_keeps (i : Nat) (hk : s0.Keeps s) : s0.Keeps (State.measured s i) := by
  simp (maxDischargeDepth := 999) only [State.measured, keeps_ite, State.setRegI_keeps, State.modStn_keeps, State.setSpin_keeps, State.motion_keeps, State.catchSpin_keeps, State.needPower_keeps, hk]

theorem State.shortBrake_keeps (i : Nat) (hk : s0.Keeps s) : s0.Keeps (State.shortBrake s i) := by
  simp (maxDischargeDepth := 999) only [State.shortBrake, State.setReg_keeps, State.loopOff_keeps, State.emitBridge_keeps, State.setSpin_keeps, hk]

theorem State.slowed_keeps (i : Nat) (hk : s0.Keeps s) : s0.Keeps (State.slowed s i) := by
  simp only [State.slowed]
  (repeat' split) <;> simp (maxDischargeDepth := 999) only [State.modStn_keeps, State.setStation_keeps, hk]

theorem State.spinDown_keeps (i : Nat) (hk : s0.Keeps s) : s0.Keeps (State.spinDown s i) := by
  simp (maxDischargeDepth := 999) only [State.spinDown, keeps_ite, State.modStn_keeps, State.modSq_keeps, State.orderRejected_keeps, State.freeSlot_keeps, State.sledParkNow_keeps, State.setSpin_keeps, State.shortBrake_keeps, State.slowed_keeps, hk]

theorem State.brakeEnd_keeps (i : Nat) (hk : s0.Keeps s) : s0.Keeps (State.brakeEnd s i) := by
  simp (maxDischargeDepth := 999) only [State.brakeEnd, keeps_ite, State.setRegs_keeps, State.modStn_keeps, State.orderDone_keeps, State.freewheel_keeps, State.setSpin_keeps, State.needPower_keeps, hk]

theorem State.setSpeed_keeps (i : Nat) (hk : s0.Keeps s) : s0.Keeps (State.setSpeed s i) := by
  simp (maxDischargeDepth := 999) only [State.setSpeed, keeps_ite, State.setReg_keeps, State.modStn_keeps, State.modSq_keeps, State.orderRejected_keeps, State.setSpin_keeps, hk]

theorem State.retarget_keeps (i : Nat) (hk : s0.Keeps s) : s0.Keeps (State.retarget s i) := by
  simp (maxDischargeDepth := 999) only [State.retarget, keeps_ite, State.modStn_keeps, State.freeSlot_keeps, State.setSpin_keeps, State.needSlot_keeps, hk]

theorem State.speedTick_keeps (i : Nat) (hk : s0.Keeps s) : s0.Keeps (State.speedTick s i) := by
  simp (maxDischargeDepth := 999) only [State.speedTick, keeps_ite, State.setRegI_keeps, State.modStn_keeps, State.loopClose_keeps, State.needPower_keeps, State.shortBrake_keeps, State.slowed_keeps, hk]

theorem State.atSpeed_keeps (i : Nat) (hk : s0.Keeps s) : s0.Keeps (State.atSpeed s i) := by
  simp (maxDischargeDepth := 999) only [State.atSpeed, keeps_ite, State.modStn_keeps, State.setStFlag_keeps, State.orderDone_keeps, State.freeSlot_keeps, State.setStation_keeps, State.setSpin_keeps, hk]

theorem State.spinTimeout_keeps (i : Nat) (hk : s0.Keeps s) : s0.Keeps (State.spinTimeout s i) := by
  simp (maxDischargeDepth := 999) only [State.spinTimeout, keeps_ite, State.stnFault_keeps, State.spinFail_keeps, hk]

theorem State.coast_keeps (i trig : Nat) (hk : s0.Keeps s) : s0.Keeps (State.coast s i trig) := by
  simp (maxDischargeDepth := 999) only [State.coast, keeps_ite, State.keeps_refl, State.forEach_keeps, State.modStn_keeps, State.setStFlag_keeps, State.endWhole_keeps, State.parkHead_keeps, State.setStation_keeps, State.sledParkNow_keeps, hk, implies_true]

theorem State.lossFreewheel_keeps (i : Nat) (hk : s0.Keeps s) : s0.Keeps (State.lossFreewheel s i) := by
  simp (maxDischargeDepth := 999) only [State.lossFreewheel, State.modStn_keeps, State.freeSlot_keeps, State.freewheel_keeps, State.setSpin_keeps, State.motion_keeps, State.coast_keeps, hk]

theorem State.observerLoss_keeps (i : Nat) (plausible : Bool) (hk : s0.Keeps s) : s0.Keeps (State.observerLoss s i plausible) := by
  simp (maxDischargeDepth := 999) only [State.observerLoss, keeps_ite, State.setReg_keeps, State.post_keeps, State.note_keeps, State.modStn_keeps, State.raiseTrap_keeps, State.closeGates_keeps, State.ffLoss_keeps, State.emitBridge_keeps, State.motion_keeps, State.setComm_keeps, State.lossFreewheel_keeps, hk]

theorem State.ffClearStation_keeps (i : Nat) (hk : s0.Keeps s) : s0.Keeps (State.ffClearStation s i) := by
  simp (maxDischargeDepth := 999) only [State.ffClearStation, State.keeps_refl, State.forEach_keeps, State.ffClear_keeps, hk, implies_true]

theorem State.angleLock_keeps (i : Nat) (hk : s0.Keeps s) : s0.Keeps (State.angleLock s i) := by
  simp (maxDischargeDepth := 999) only [State.angleLock, keeps_ite, State.setReg_keeps, State.setRegs_keeps, State.modStn_keeps, State.ffClearStation_keeps, hk]

theorem State.observerLock_keeps (i : Nat) (hk : s0.Keeps s) : s0.Keeps (State.observerLock s i) := by
  simp (maxDischargeDepth := 999) only [State.observerLock, keeps_ite, State.setReg_keeps, State.post_keeps, State.modStn_keeps, State.setStFlag_keeps, State.ffReturn_keeps, State.setSpin_keeps, State.motion_keeps, State.setComm_keeps, State.catchSpin_keeps, State.needPower_keeps, State.angleLock_keeps, hk]

theorem State.angleZero_keeps (i : Nat) (hk : s0.Keeps s) : s0.Keeps (State.angleZero s i) := by
  simp (maxDischargeDepth := 999) only [State.angleZero, State.setRegs_keeps, State.modStn_keeps, hk]

theorem State.hallEdge_keeps (i code stamp : Nat) (hk : s0.Keeps s) : s0.Keeps (State.hallEdge s i code stamp) := by
  simp (maxDischargeDepth := 999) only [State.hallEdge, keeps_ite, State.setReg_keeps, State.setRegI_keeps, State.modStn_keeps, State.emitBridge_keeps, State.motion_keeps, State.hallFail_keeps, State.observerLoss_keeps, State.observerLock_keeps, State.angleZero_keeps, hk]

theorem State.missedEdge_keeps (i : Nat) (hk : s0.Keeps s) : s0.Keeps (State.missedEdge s i) := by
  simp (maxDischargeDepth := 999) only [State.missedEdge, keeps_ite, State.observerLoss_keeps, hk]

theorem State.encDegrade_keeps (i : Nat) (hk : s0.Keeps s) : s0.Keeps (State.encDegrade s i) := by
  simp (maxDischargeDepth := 999) only [State.encDegrade, keeps_ite, State.setReg_keeps, State.setRegBit_keeps, State.lossFreewheel_keeps, hk]

theorem State.encEdge_keeps (i : Nat) (fwd valid : Bool) (stamp : Nat) (hk : s0.Keeps s) : s0.Keeps (State.encEdge s i fwd valid stamp) := by
  simp (maxDischargeDepth := 999) only [State.encEdge, keeps_ite, State.setRegI_keeps, State.modStn_keeps, State.encDegrade_keeps, hk]

theorem State.encZ_keeps (i : Nat) (hk : s0.Keeps s) : s0.Keeps (State.encZ s i) := by
  simp (maxDischargeDepth := 999) only [State.encZ, keeps_ite, State.setRegs_keeps, State.modStn_keeps, State.angleZero_keeps, State.encDegrade_keeps, hk]

theorem State.coastTimeout_keeps (i : Nat) (hk : s0.Keeps s) : s0.Keeps (State.coastTimeout s i) := by
  simp (maxDischargeDepth := 999) only [State.coastTimeout, keeps_ite, State.setRegs_keeps, State.modStn_keeps, State.orderDone_keeps, State.stnFault_keeps, State.spinFail_keeps, hk]

theorem State.lockedRotor_keeps (i : Nat) (hk : s0.Keeps s) : s0.Keeps (State.lockedRotor s i) := by
  simp (maxDischargeDepth := 999) only [State.lockedRotor, keeps_ite, State.post_keeps, State.modStn_keeps, State.raiseTrap_keeps, State.freewheel_keeps, State.stnFault_keeps, State.setSpin_keeps, State.motion_keeps, State.spinFail_keeps, State.coast_keeps, hk]

theorem State.lockedRetry_keeps (i : Nat) (hk : s0.Keeps s) : s0.Keeps (State.lockedRetry s i) := by
  simp (maxDischargeDepth := 999) only [State.lockedRetry, keeps_ite, State.modStn_keeps, State.needPower_keeps, hk]

theorem State.vbusSample_keeps (i mv amps : Nat) (hk : s0.Keeps s) : s0.Keeps (State.vbusSample s i mv amps) := by
  simp (maxDischargeDepth := 999) only [State.vbusSample, keeps_ite, State.setRegs_keeps, State.post_keeps, State.note_keeps, State.modStn_keeps, State.modLp_keeps, State.raiseTrap_keeps, State.setDrive_keeps, State.limitCurrent_keeps, State.motion_keeps, hk]

theorem State.vbusFault_keeps (i : Nat) (hk : s0.Keeps s) : s0.Keeps (State.vbusFault s i) := by
  simp (maxDischargeDepth := 999) only [State.vbusFault, keeps_ite, State.modStn_keeps, State.freewheel_keeps, State.stnFault_keeps, hk]

theorem State.modSled_keeps (h : Nat) (f : Sled → Sled) (hk : s0.Keeps s) : s0.Keeps (State.modSled s h f) := by
  simp (maxDischargeDepth := 999) only [State.modSled, State.modStn_keeps, hk]

theorem State.sledPoint_keeps (h rotor : Nat) (hk : s0.Keeps s) : s0.Keeps (State.sledPoint s h rotor) := by
  simp (maxDischargeDepth := 999) only [State.sledPoint, keeps_ite, State.setReg_keeps, State.emit_keeps, State.setRegI_keeps, State.loopClose_keeps, State.emitWindings_keeps, State.modSled_keeps, hk]

theorem State.sledStall_keeps (h : Nat) (hk : s0.Keeps s) : s0.Keeps (State.sledStall s h) := by
  simp (maxDischargeDepth := 999) only [State.sledStall, keeps_ite, State.setRegs_keeps, State.setRegBit_keeps, State.post_keeps, State.orderDone_keeps, State.orderFailed_keeps, State.raiseTrap_keeps, State.motion_keeps, State.modSled_keeps, hk]

theorem State.sledHome_keeps (h : Nat) (ev : HomeEvent) (hk : s0.Keeps s) : s0.Keeps (State.sledHome s h ev) := by
  unfold State.sledHome
  (repeat' split) <;> simp (maxDischargeDepth := 999) only [State.setReg_keeps, State.setRegs_keeps, State.modSq_keeps, State.orderFailed_keeps, State.orderRejected_keeps, State.modSled_keeps, hk]

theorem State.sledPark_keeps (h : Nat) (hk : s0.Keeps s) : s0.Keeps (State.sledPark s h) := by
  simp (maxDischargeDepth := 999) only [State.sledPark, keeps_ite, State.modSq_keeps, State.orderRejected_keeps, State.sledParkNow_keeps, hk]

theorem State.seekRead_keeps (h : Nat) (r : PilotRead) (hk : s0.Keeps s) : s0.Keeps (State.seekRead s h r) := by
  simp (maxDischargeDepth := 999) only [State.seekRead, keeps_ite, State.setRegI_keeps, State.modHd_keeps, State.modSq_keeps, State.loopOpen_keeps, State.headFail_keeps, State.openAtDrive_keeps, State.trackKick_keeps, State.addressRead_keeps, State.sledProfile_keeps, State.motion_keeps, State.modSled_keeps, hk]

theorem State.seek_keeps (h : Nat) (ev : SeekEvent) (hk : s0.Keeps s) : s0.Keeps (State.seek s h ev) := by
  simp only [State.seek]
  (repeat' split) <;> simp (maxDischargeDepth := 999) only [State.keeps_refl, State.setRegI_keeps, State.modHd_keeps, State.modSq_keeps, State.setSubstate_keeps, State.enterTracking_keeps, State.orderDone_keeps, State.orderRejected_keeps, State.loopOpen_keeps, State.loopClose_keeps, State.sendSa_keeps, State.focusSearch_keeps, State.openAtDrive_keeps, State.closeTilt_keeps, State.layerKick_keeps, State.layerSteps_keeps, State.jumpClose_keeps, State.sledProfile_keeps, State.motion_keeps, State.modSled_keeps, State.seekRead_keeps, hk, implies_true]

theorem State.profileEnd_keeps (h : Nat) (hk : s0.Keeps s) : s0.Keeps (State.profileEnd s h) := by
  unfold State.profileEnd
  (repeat' split) <;> simp (maxDischargeDepth := 999) only [keeps_ite, State.setRegs_keeps, State.setRegI_keeps, State.modHd_keeps, State.modSq_keeps, State.orderDone_keeps, State.modSled_keeps, hk]

theorem State.discMismatch_keeps (i : Nat) (hk : s0.Keeps s) : s0.Keeps (State.discMismatch s i) := by
  simp (maxDischargeDepth := 999) only [State.discMismatch, State.bump_keeps, State.setStFlag_keeps, hk]

theorem State.startStroke_keeps (i : Nat) (k : Stroke) (st : Nat) (hk : s0.Keeps s) : s0.Keeps (State.startStroke s i k st) := by
  simp (maxDischargeDepth := 999) only [State.startStroke, State.setReg_keeps, State.modStn_keeps, State.emitChopper_keeps, State.motion_keeps, hk]

theorem State.clampOrder_keeps (i code : Nat) (k : Stroke) (st : Nat) (ok : Bool) (hk : s0.Keeps s) : s0.Keeps (State.clampOrder s i code k st ok) := by
  simp (maxDischargeDepth := 999) only [State.clampOrder, keeps_ite, State.modSq_keeps, State.orderRejected_keeps, State.startStroke_keeps, hk]

theorem State.clampDone_keeps (i ret : Nat) (hk : s0.Keeps s) : s0.Keeps (State.clampDone s i ret) := by
  unfold State.clampDone
  (repeat' split) <;> simp (maxDischargeDepth := 999) only [State.orderDone_keeps, hk]

theorem State.clampFailed_keeps (i code : Nat) (hk : s0.Keeps s) : s0.Keeps (State.clampFailed s i code) := by
  unfold State.clampFailed
  (repeat' split) <;> simp (maxDischargeDepth := 999) only [State.orderFailed_keeps, hk]

theorem State.strokeOver_keeps (i : Nat) (hk : s0.Keeps s) : s0.Keeps (State.strokeOver s i) := by
  simp (maxDischargeDepth := 999) only [State.strokeOver, State.setReg_keeps, State.modStn_keeps, State.clampHold_keeps, hk]

theorem State.clampOpen_keeps (i : Nat) (hk : s0.Keeps s) : s0.Keeps (State.clampOpen s i) := by
  simp (maxDischargeDepth := 999) only [State.clampOpen, State.setRegs_keeps, State.setStFlag_keeps, State.strokeOver_keeps, hk]

theorem State.strokeFault_keeps (i p : Nat) (hk : s0.Keeps s) : s0.Keeps (State.strokeFault s i p) := by
  simp (maxDischargeDepth := 999) only [State.strokeFault, keeps_ite, State.setReg_keeps, State.setRegs_keeps, State.endCommand_keeps, State.stnFault_keeps, State.clampFailed_keeps, State.strokeOver_keeps, hk]

theorem State.coefDefaults_keeps (i : Nat) (hk : s0.Keeps s) : s0.Keeps (State.coefDefaults s i) := by
  simp (maxDischargeDepth := 999) only [State.coefDefaults, State.keeps_refl, State.setRaw_keeps, State.forEach_keeps, hk, implies_true]

theorem State.clampStall_keeps (i run : Nat) (bemf : List Nat) (hk : s0.Keeps s) : s0.Keeps (State.clampStall s i run bemf) := by
  unfold State.clampStall
  (repeat' split) <;> simp (maxDischargeDepth := 999) only [keeps_ite, State.setReg_keeps, State.setRegs_keeps, State.bump_keeps, State.modStn_keeps, State.setStFlag_keeps, State.setStation_keeps, State.ffClearStation_keeps, State.discMismatch_keeps, State.clampDone_keeps, State.clampFailed_keeps, State.strokeOver_keeps, State.clampOpen_keeps, State.strokeFault_keeps, State.coefDefaults_keeps, hk]

theorem State.clampLimit_keeps (i : Nat) (hk : s0.Keeps s) : s0.Keeps (State.clampLimit s i) := by
  unfold State.clampLimit
  (repeat' split) <;> simp (maxDischargeDepth := 999) only [State.setRegs_keeps, State.setStFlag_keeps, State.clampDone_keeps, State.strokeOver_keeps, State.strokeFault_keeps, hk]

theorem State.cutStroke_keeps (i : Nat) (hk : s0.Keeps s) : s0.Keeps (State.cutStroke s i) := by
  simp only [State.cutStroke]
  (repeat' split) <;> simp (maxDischargeDepth := 999) only [State.emit_keeps, State.setRegs_keeps, State.modStn_keeps, hk]

/-! ### Bist -/

theorem State.modBist_keeps (f : Bist → Bist) (hk : s0.Keeps s) : s0.Keeps (State.modBist s f) := by
  simp (maxDischargeDepth := 999) only [State.modBist, keeps_mk, hk]

theorem State.modRun_keeps (kind inst : Nat) (f : BistRun → BistRun) (hk : s0.Keeps s) : s0.Keeps (State.modRun s kind inst f) := by
  simp (maxDischargeDepth := 999) only [State.modRun, State.modBist_keeps, hk]

theorem State.bistView_keeps (i : Nat) (hk : s0.Keeps s) : s0.Keeps (State.bistView s i) := by
  simp (maxDischargeDepth := 999) only [State.bistView, State.setStFlag_keeps, hk]

theorem State.setOutcome_keeps (kind inst o : Nat) (hk : s0.Keeps s) : s0.Keeps (State.setOutcome s kind inst o) := by
  simp (maxDischargeDepth := 999) only [State.setOutcome, State.modBist_keeps, hk]

theorem State.modTest_keeps (f : SelfTest → SelfTest) (hk : s0.Keeps s) : s0.Keeps (State.modTest s f) := by
  simp (maxDischargeDepth := 999) only [State.modTest, keeps_mk, hk]

theorem State.reinit_keeps (kind inst : Nat) (hk : s0.Keeps s) : s0.Keeps (State.reinit s kind inst) := by
  simp (maxDischargeDepth := 999) only [State.reinit, keeps_ite, State.keeps_refl, State.setRaw_keeps, State.forEach_keeps, State.ffClear_keeps, hk, implies_true]

theorem State.bistEnd_keeps (r : BistRun) (o sig : Nat) (wake : Bool) (hk : s0.Keeps s) : s0.Keeps (State.bistEnd s r o sig wake) := by
  unfold State.bistEnd
  (repeat' split) <;> simp (maxDischargeDepth := 999) only [keeps_ite, keeps_mk, State.bump_keeps, State.post_keeps, State.note_keeps, State.endResult_keeps, State.endTempWake_keeps, State.dropTokens_keeps, State.modBist_keeps, State.bistView_keeps, State.setOutcome_keeps, State.modTest_keeps, State.reinit_keeps, hk]

theorem State.bistStart_keeps (r : BistRun) (hk : s0.Keeps s) : s0.Keeps (State.bistStart s r) := by
  unfold State.bistStart
  (repeat' split) <;> simp (maxDischargeDepth := 999) only [keeps_mk, State.bump_keeps, State.tempWake_keeps, State.modRun_keeps, State.bistView_keeps, State.setOutcome_keeps, hk]

theorem State.bistGo_keeps (kind inst : Nat) (hk : s0.Keeps s) : s0.Keeps (State.bistGo s kind inst) := by
  unfold State.bistGo
  (repeat' split) <;> simp (maxDischargeDepth := 999) only [keeps_ite, keeps_mk, State.modRun_keeps, State.bistEnd_keeps, State.bistStart_keeps, hk]

theorem State.bistAsk_keeps (kind inst : Nat) (who : BistFor) (hk : s0.Keeps s) : s0.Keeps (State.bistAsk s kind inst who) := by
  simp (maxDischargeDepth := 999) only [State.bistAsk, keeps_ite, State.askTokens_keeps, State.modBist_keeps, State.bistGo_keeps, hk]

theorem State.poolGo_keeps (hk : s0.Keeps s) : s0.Keeps (State.poolGo s) := by
  unfold State.poolGo
  (repeat' split) <;> simp (maxDischargeDepth := 999) only [State.bistStart_keeps, hk]

theorem State.bistSlot_keeps (hk : s0.Keeps s) : s0.Keeps (State.bistSlot s) := by
  unfold State.bistSlot
  (repeat' split) <;> simp (maxDischargeDepth := 999) only [keeps_mk, State.modRun_keeps, State.setOutcome_keeps, State.bistEnd_keeps, State.bistStart_keeps, hk]

theorem State.bistLeave_keeps (i : Nat) (hk : s0.Keeps s) : s0.Keeps (State.bistLeave s i) := by
  simp (maxDischargeDepth := 999) only [State.bistLeave, keeps_ite, State.keeps_refl, State.forEach_keeps, State.modRun_keeps, State.bistEnd_keeps, hk, implies_true]

/-! ### Places -/

theorem State.modSide_keeps (n : Nat) (f : Side → Side) (hk : s0.Keeps s) : s0.Keeps (State.modSide s n f) := by
  refine ⟨hk.part, hk.queue, hk.free, hk.out, hk.regs, hk.raws, fun w => ?_⟩
  have w := hk.tables w
  simp only [State.tablesWf, Bool.and_eq_true] at w ⊢
  obtain ⟨⟨⟨⟨⟨w1, w2⟩, w3⟩, w4⟩, w5⟩, w6⟩ := w
  exact ⟨⟨⟨⟨⟨w1, w2⟩, w3⟩, w4⟩, w5⟩, canonical_sides _ _ w6⟩

/-! ### SelfTest -/

theorem State.modStTest_keeps (i : Nat) (f : StTest → StTest) (hk : s0.Keeps s) : s0.Keeps (State.modStTest s i f) := by
  simp (maxDischargeDepth := 999) only [State.modStTest, State.modTest_keeps, hk]

theorem State.stopChecks_keeps (i : Nat) (again : Bool) (hk : s0.Keeps s) : s0.Keeps (State.stopChecks s i again) := by
  unfold State.stopChecks
  (repeat' split) <;> simp (maxDischargeDepth := 999) only [State.keeps_refl, State.forEach_keeps, State.measureStop_keeps, State.modStTest_keeps, hk, implies_true]

theorem State.endTest_keeps (res : Nat) (hk : s0.Keeps s) : s0.Keeps (State.endTest s res) := by
  simp only [State.endTest]
  (repeat' split) <;> simp (maxDischargeDepth := 999) only [keeps_ite, keeps_mk, State.keeps_refl, State.setReg_keeps, State.setRegs_keeps, State.forEach_keeps, State.note_keeps, State.modNvme_keeps, State.modGr_keeps, State.modRun_keeps, State.bistEnd_keeps, State.stopChecks_keeps, hk, implies_true]

theorem State.stTestLeave_keeps (i : Nat) (hk : s0.Keeps s) : s0.Keeps (State.stTestLeave s i) := by
  simp only [State.stTestLeave]
  (repeat' split) <;> simp (maxDischargeDepth := 999) only [State.modGr_keeps, State.modStTest_keeps, State.stopChecks_keeps, hk]

theorem State.stTestPart_keeps (i : Nat) (hk : s0.Keeps s) : s0.Keeps (State.stTestPart s i) := by
  unfold State.stTestPart
  (repeat' split) <;> simp (maxDischargeDepth := 999) only [State.bistAsk_keeps, State.modStTest_keeps, hk]

theorem State.testPool_keeps (hk : s0.Keeps s) : s0.Keeps (State.testPool s) := by
  unfold State.testPool
  (repeat' split) <;> simp (maxDischargeDepth := 999) only [State.modTest_keeps, State.bistAsk_keeps, hk]

theorem State.stTestRead_keeps (i : Nat) (hk : s0.Keeps s) : s0.Keeps (State.stTestRead s i) := by
  simp only [State.stTestRead]
  (repeat' split) <;> simp (maxDischargeDepth := 999) only [State.modGr_keeps, State.modStTest_keeps, hk]

theorem State.testAdvance_keeps (hk : s0.Keeps s) : s0.Keeps (State.testAdvance s) := by
  simp only [State.testAdvance]
  (repeat' split) <;> simp (maxDischargeDepth := 999) only [State.keeps_refl, State.setReg_keeps, State.fresh_keeps, State.forEach_keeps, State.endTest_keeps, State.stTestLeave_keeps, State.stTestPart_keeps, State.testPool_keeps, State.stTestRead_keeps, hk, implies_true]

theorem State.startChecks_keeps (i : Nat) (hk : s0.Keeps s) : s0.Keeps (State.startChecks s i) := by
  unfold State.startChecks
  (repeat' split) <;> simp (maxDischargeDepth := 999) only [keeps_ite, State.keeps_refl, State.forEach_keeps, State.measureStart_keeps, State.modStTest_keeps, hk, implies_true]

theorem State.testYield_keeps (i : Nat) (hk : s0.Keeps s) : s0.Keeps (State.testYield s i) := by
  simp (maxDischargeDepth := 999) only [State.testYield, State.stopChecks_keeps, hk]

theorem State.stTestFail_keeps (i g : Nat) (hk : s0.Keeps s) : s0.Keeps (State.stTestFail s i g) := by
  simp (maxDischargeDepth := 999) only [State.stTestFail, State.modTest_keeps, State.modStTest_keeps, hk]

theorem State.testReadEnds_keeps (o : MediaOp) (hk : s0.Keeps s) : s0.Keeps (State.testReadEnds s o) := by
  simp only [State.testReadEnds]
  (repeat' split) <;> simp (maxDischargeDepth := 999) only [State.testAdvance_keeps, State.stTestFail_keeps, hk]

theorem State.testSpeed_keeps (i : Nat) (hk : s0.Keeps s) : s0.Keeps (State.testSpeed s i) := by
  simp only [State.testSpeed]
  (repeat' split) <;> simp (maxDischargeDepth := 999) only [State.modStTest_keeps, State.testAdvance_keeps, State.stTestFail_keeps, hk]

theorem State.testIdle_keeps (i : Nat) (hk : s0.Keeps s) : s0.Keeps (State.testIdle s i) := by
  unfold State.testIdle
  (repeat' split) <;> simp (maxDischargeDepth := 999) only [State.modStTest_keeps, State.testAdvance_keeps, State.startChecks_keeps, State.stTestFail_keeps, hk]

theorem State.loopFigures_keeps (e l c : Nat) (pm : Int) (hk : s0.Keeps s) : s0.Keeps (State.loopFigures s e l c pm) := by
  simp (maxDischargeDepth := 999) only [State.loopFigures, keeps_ite, State.setRegs_keeps, hk]

theorem State.checkEnds_keeps (e l : Nat) (out : MeasureEnd) (hk : s0.Keeps s) : s0.Keeps (State.checkEnds s e l out) := by
  unfold State.checkEnds
  (repeat' split) <;> simp (maxDischargeDepth := 999) only [keeps_ite, keeps_mk, State.modStTest_keeps, State.testAdvance_keeps, State.startChecks_keeps, State.stTestFail_keeps, State.loopFigures_keeps, hk]

theorem State.measureEnds_keeps (e : Nat) (m : Meas) (out : MeasureEnd) (hk : s0.Keeps s) : s0.Keeps (State.measureEnds s e m out) := by
  simp only [State.measureEnds]
  (repeat' split) <;> simp (maxDischargeDepth := 999) only [State.setRaw_keeps, State.endResult_keeps, State.measureStop_keeps, State.orderDone_keeps, State.orderFailed_keeps, State.loopFigures_keeps, State.checkEnds_keeps, hk]

theorem execMeasureLoopDone_keeps (e : Nat) (hk : s0.Keeps s) : s0.KeepsR (execMeasureLoopDone e s) := by
  simp only [execMeasureLoopDone]
  (repeat' split) <;> simp (maxDischargeDepth := 999) only [keepsR_next, State.fresh_keeps, State.measureEnds_keeps, hk]

theorem execSelftestIdleExpiry_keeps (st : Nat) (hk : s0.Keeps s) : s0.KeepsR (execSelftestIdleExpiry st s) := by
  simp (maxDischargeDepth := 999) only [execSelftestIdleExpiry, keepsR_next, State.testIdle_keeps, hk]

theorem execSelftestTimeLimit_keeps (hk : s0.Keeps s) : s0.KeepsR (execSelftestTimeLimit s) := by
  unfold execSelftestTimeLimit
  (repeat' split) <;> simp (maxDischargeDepth := 999) only [keepsR_next, State.endTest_keeps, hk]

/-! ### Wiring -/

theorem State.wireEffect_keeps (i h n kind : Nat) (hk : s0.Keeps s) : s0.Keeps (State.wireEffect s i h n kind) := by
  simp (maxDischargeDepth := 999) only [State.wireEffect, keeps_ite, State.setRegBit_keeps, hk]

theorem State.wireReport_keeps (i h n kind v : Nat) (hk : s0.Keeps s) : s0.Keeps (State.wireReport s i h n kind v) := by
  simp (maxDischargeDepth := 999) only [State.wireReport, keeps_ite, State.post_keeps, State.note_keeps, hk]

/-! ### Nvme -/

theorem State.countHit_keeps (nsid : Nat) (hit : Bool) (hk : s0.Keeps s) : s0.Keeps (State.countHit s nsid hit) := by
  simp (maxDischargeDepth := 999) only [State.countHit, keeps_ite, State.bump64_keeps, hk]

theorem State.doRead_keeps (q nsid lba k : Nat) (pi : PiArgs) (hk : s0.Keeps s) : s0.Keeps (State.doRead s q nsid lba k pi) := by
  unfold State.doRead
  (repeat' split) <;> simp (maxDischargeDepth := 999) only [keeps_ite, State.keeps_refl, State.forEach_keeps, State.modNvme_keeps, State.modCtx_keeps, State.complete_keeps, State.errorEntry_keeps, State.wantCluster_keeps, State.queueFill_keeps, State.prefetchAfter_keeps, State.hitLine_keeps, State.serveRead_keeps, State.countHit_keeps, hk, implies_true]

theorem State.writeDone_keeps (q nsid first k : Nat) (zoned fua append : Bool) (hk : s0.Keeps s) : s0.Keeps (State.writeDone s q nsid first k zoned fua append) := by
  simp (maxDischargeDepth := 999) only [State.writeDone, keeps_ite, State.modNvme_keeps, State.modCtx_keeps, State.complete_keeps, State.spreadFlush_keeps, State.serveFlush_keeps, hk]

theorem State.tryWrite_keeps (q : Nat) (hk : s0.Keeps s) : s0.Keeps (State.tryWrite s q) := by
  simp only [State.tryWrite]
  (repeat' split) <;> simp (maxDischargeDepth := 999) only [State.complete_keeps, State.modNs_keeps, State.pumpReads_keeps, State.stage_keeps, State.writeDone_keeps, hk]

theorem State.doWrite_keeps (q nsid lba : Nat) (d : List Block) (fua append : Bool) (pi : PiArgs) (hk : s0.Keeps s) : s0.Keeps (State.doWrite s q nsid lba d fua append pi) := by
  simp only [State.doWrite]
  (repeat' split) <;> simp (maxDischargeDepth := 999) only [State.bump_keeps, State.modCtx_keeps, State.complete_keeps, State.tryWrite_keeps, hk]

theorem State.doFlush_keeps (q nsid : Nat) (hk : s0.Keeps s) : s0.Keeps (State.doFlush s q nsid) := by
  simp (maxDischargeDepth := 999) only [State.doFlush, keeps_ite, State.bump_keeps, State.modCtx_keeps, State.complete_keeps, State.spreadFlush_keeps, State.serveFlush_keeps, hk]

theorem State.failFlushes_keeps (nsid cl : Nat) (hk : s0.Keeps s) : s0.Keeps (State.failFlushes s nsid cl) := by
  unfold State.failFlushes
  repeat' first
    | with_reducible exact hk
    | with_reducible exact State.keeps_refl _
    | intro _
    | with_reducible apply keeps_ite
    | with_reducible apply State.keeps_refl
    | with_reducible apply State.forEach_keeps
    | with_reducible apply State.bump_keeps
    | with_reducible apply State.complete_keeps
    | with_reducible apply State.errorEntry_keeps
    | with_reducible refine keeps_of_fst (by assumption) ?_
    | with_reducible refine keeps_of_snd (by assumption) ?_
    | with_reducible refine keeps_of_ok (by assumption) ?_
    | split

theorem State.zoneManage_keeps (q nsid lba : Nat) (a : ZoneAct) (everyZone : Bool) (hk : s0.Keeps s) : s0.Keeps (State.zoneManage s q nsid lba a everyZone) := by
  simp only [State.zoneManage]
  (repeat' split) <;> simp (maxDischargeDepth := 999) only [State.modCtx_keeps, State.complete_keeps, State.modNs_keeps, State.spreadFlush_keeps, State.serveFlush_keeps, hk]

theorem State.zoneRefuse_keeps (q nsid : Nat) (hk : s0.Keeps s) : s0.Keeps (State.zoneRefuse s q nsid) := by
  unfold State.zoneRefuse
  (repeat' split) <;> simp (maxDischargeDepth := 999) only [State.complete_keeps, hk]

theorem State.zoneReport_keeps (x : Ctx) (nsid lba filter limit : Nat) (part : Bool) (hk : s0.Keeps s) : s0.Keeps (State.zoneReport s x nsid lba filter limit part) := by
  unfold State.zoneReport
  (repeat' split) <;> simp (maxDischargeDepth := 999) only [State.emit_keeps, State.complete_keeps, hk]

theorem State.pumpDeletes_keeps (hk : s0.Keeps s) : s0.Keeps (State.pumpDeletes s) := by
  unfold State.pumpDeletes
  repeat' first
    | with_reducible exact hk
    | with_reducible exact State.keeps_refl _
    | intro _
    | with_reducible apply keeps_ite
    | with_reducible apply State.keeps_refl
    | with_reducible apply State.forEach_keeps
    | with_reducible apply State.modCtrl_keeps
    | with_reducible apply State.complete_keeps
    | with_reducible refine keeps_of_fst (by assumption) ?_
    | with_reducible refine keeps_of_snd (by assumption) ?_
    | with_reducible refine keeps_of_ok (by assumption) ?_
    | split

theorem State.discardCommands_keeps (c : Nat) (hk : s0.Keeps s) : s0.Keeps (State.discardCommands s c) := by
  simp (maxDischargeDepth := 999) only [State.discardCommands, State.addReg_keeps, State.modNvme_keeps, hk]

theorem State.stopWrites_keeps (hk : s0.Keeps s) : s0.Keeps (State.stopWrites s) := by
  simp (maxDischargeDepth := 999) only [State.stopWrites, keeps_ite, State.keeps_refl, State.forEach_keeps, State.modHd_keeps, hk, implies_true]

theorem State.ctrlReset_keeps (c : Nat) (hk : s0.Keeps s) : s0.Keeps (State.ctrlReset s c) := by
  simp (maxDischargeDepth := 999) only [State.ctrlReset, State.setReg_keeps, State.note_keeps, State.modCtrl_keeps, State.pump_keeps, State.discardStaged_keeps, State.endTest_keeps, State.pumpDeletes_keeps, State.discardCommands_keeps, State.stopWrites_keeps, hk]

theorem State.activationOver_keeps (hk : s0.Keeps s) : s0.Keeps (State.activationOver s) := by
  simp (maxDischargeDepth := 999) only [State.activationOver, State.keeps_refl, State.forEach_keeps, State.modNvme_keeps, State.pump_keeps, State.pumpDeletes_keeps, State.ctrlReset_keeps, hk, implies_true]

theorem State.activate_keeps (q slot : Nat) (hk : s0.Keeps s) : s0.Keeps (State.activate s q slot) := by
  unfold State.activate
  (repeat' split) <;> simp (maxDischargeDepth := 999) only [keeps_mk, State.setReg_keeps, State.bump_keeps, State.note_keeps, State.complete_keeps, State.measureImage_keeps, State.raiseRollback_keeps, State.runImage_keeps, State.activationOver_keeps, hk]

theorem State.pumpActivation_keeps (hk : s0.Keeps s) : s0.Keeps (State.pumpActivation s) := by
  unfold State.pumpActivation
  (repeat' split) <;> simp (maxDischargeDepth := 999) only [State.activate_keeps, hk]

theorem State.settle_keeps (hk : s0.Keeps s) : s0.Keeps (State.settle s) := by
  simp (maxDischargeDepth := 999) only [State.settle, State.refetch_keeps, State.pump_keeps, State.pumpDeletes_keeps, State.pumpActivation_keeps, hk]

theorem State.doAbort_keeps (q c sq target : Nat) (hk : s0.Keeps s) : s0.Keeps (State.doAbort s q c sq target) := by
  unfold State.doAbort
  (repeat' split) <;> simp (maxDischargeDepth := 999) only [State.bump_keeps, State.complete_keeps, State.settle_keeps, hk]

theorem State.deleteSq_keeps (q c sq : Nat) (hk : s0.Keeps s) : s0.Keeps (State.deleteSq s q c sq) := by
  unfold State.deleteSq
  (repeat' split) <;> simp (maxDischargeDepth := 999) only [keeps_ite, State.keeps_refl, State.forEach_keeps, State.modCtx_keeps, State.complete_keeps, State.settle_keeps, hk, implies_true]

theorem State.tearDown_keeps (c : Nat) (hk : s0.Keeps s) : s0.Keeps (State.tearDown s c) := by
  unfold State.tearDown
  (repeat' split) <;> simp (maxDischargeDepth := 999) only [State.setReg_keeps, State.modNvme_keeps, State.discardCommands_keeps, State.settle_keeps, hk]

theorem State.shutdown_keeps (c : Nat) (hk : s0.Keeps s) : s0.Keeps (State.shutdown s c) := by
  unfold State.shutdown
  (repeat' split) <;> simp (maxDischargeDepth := 999) only [State.setReg_keeps, State.modNvme_keeps, State.modCtrl_keeps, State.spreadFlush_keeps, State.serveShutdown_keeps, hk]

theorem State.enableCtrl_keeps (c : Nat) (hk : s0.Keeps s) : s0.Keeps (State.enableCtrl s c) := by
  simp (maxDischargeDepth := 999) only [State.enableCtrl, State.modCtrl_keeps, hk]

/-! ### NvmeCmds -/

theorem State.ioCmd_keeps (c cid : Nat) (f : State → Ctx → State) (hf : ∀ (s : State) x1, s.Keeps (f s x1)) (hk : s0.Keeps s) : s0.KeepsR (State.ioCmd s c cid f) := by
  refine keepsR_next ?_
  split
  · exact keeps_ite hk (hk.trans (hf _ _))
  · exact hk

theorem State.adminCmd_keeps (c cid : Nat) (f : State → Ctx → State) (hf : ∀ (s : State) x1, s.Keeps (f s x1)) (hk : s0.Keeps s) : s0.KeepsR (State.adminCmd s c cid f) := by
  refine keepsR_next ?_
  split
  · exact keeps_ite (hk.trans (hf _ _)) hk
  · exact hk

theorem State.fetch_keeps (c sq cid : Nat) (hk : s0.Keeps s) : s0.Keeps (State.fetch s c sq cid) := by
  simp (maxDischargeDepth := 999) only [State.fetch, State.setReg_keeps, State.modNvme_keeps, hk]

theorem execCommandFetch_keeps (c sq cid : Nat) (hk : s0.Keeps s) : s0.KeepsR (execCommandFetch c sq cid s) := by
  simp (maxDischargeDepth := 999) only [execCommandFetch, keeps_ite, keepsR_next, State.fetch_keeps, hk]

theorem execCcEnSet_keeps (c : Nat) (hk : s0.Keeps s) : s0.KeepsR (execCcEnSet c s) := by
  unfold execCcEnSet
  (repeat' split) <;> simp (maxDischargeDepth := 999) only [keepsR_next, State.enableCtrl_keeps, hk]

theorem execNormalShutdown_keeps (c : Nat) (hk : s0.Keeps s) : s0.KeepsR (execNormalShutdown c s) := by
  simp (maxDischargeDepth := 999) only [execNormalShutdown, keepsR_next, State.shutdown_keeps, hk]

theorem execKeepAliveExpiry_keeps (c : Nat) (hk : s0.Keeps s) : s0.KeepsR (execKeepAliveExpiry c s) := by
  unfold execKeepAliveExpiry
  (repeat' split) <;> simp (maxDischargeDepth := 999) only [keepsR_next, State.tearDown_keeps, hk]

theorem execDisconnect_keeps (c : Nat) (hk : s0.Keeps s) : s0.KeepsR (execDisconnect c s) := by
  simp (maxDischargeDepth := 999) only [execDisconnect, keepsR_next, State.tearDown_keeps, hk]

theorem execConnect_keeps (c : Nat) (req : ConnectReq) (hk : s0.Keeps s) : s0.KeepsR (execConnect c req s) := by
  unfold execConnect
  (repeat' split) <;> simp (maxDischargeDepth := 999) only [keepsR_next, State.emit_keeps, State.addReg_keeps, State.modNvme_keeps, State.modCtrl_keeps, hk]

theorem execPropertyGet_keeps (c cid off : Nat) (hk : s0.Keeps s) : s0.KeepsR (execPropertyGet c cid off s) := by
  unfold execPropertyGet
  repeat' first
    | with_reducible exact hk
    | with_reducible exact State.keeps_refl _
    | intro _
    | with_reducible apply keeps_ite
    | with_reducible apply State.keeps_refl
    | with_reducible apply keepsR_ite
    | with_reducible apply keepsR_next
    | with_reducible apply State.complete_keeps
    | with_reducible apply State.adminCmd_keeps
    | with_reducible refine keeps_of_fst (by assumption) ?_
    | with_reducible refine keeps_of_snd (by assumption) ?_
    | with_reducible refine keeps_of_ok (by assumption) ?_
    | split

theorem execRead_keeps (c cid nsid lba n : Nat) (pi : PiArgs) (hk : s0.Keeps s) : s0.KeepsR (execRead c cid nsid lba n pi s) := by
  simp (maxDischargeDepth := 999) only [execRead, State.keeps_refl, State.doRead_keeps, State.ioCmd_keeps, hk, implies_true]

theorem execWrite_keeps (c cid nsid lba : Nat) (data : List Block) (fua : Bool) (pi : PiArgs) (hk : s0.Keeps s) : s0.KeepsR (execWrite c cid nsid lba data fua pi s) := by
  simp (maxDischargeDepth := 999) only [execWrite, State.keeps_refl, State.doWrite_keeps, State.settle_keeps, State.ioCmd_keeps, hk, implies_true]

theorem execZoneAppend_keeps (c cid nsid lba : Nat) (data : List Block) (fua : Bool) (pi : PiArgs) (hk : s0.Keeps s) : s0.KeepsR (execZoneAppend c cid nsid lba data fua pi s) := by
  simp (maxDischargeDepth := 999) only [execZoneAppend, State.keeps_refl, State.doWrite_keeps, State.settle_keeps, State.ioCmd_keeps, hk, implies_true]

theorem execFlush_keeps (c cid nsid : Nat) (hk : s0.Keeps s) : s0.KeepsR (execFlush c cid nsid s) := by
  simp (maxDischargeDepth := 999) only [execFlush, State.keeps_refl, State.doFlush_keeps, State.ioCmd_keeps, hk, implies_true]

theorem execZoneOpen_keeps (c cid nsid lba : Nat) (everyZone : Bool) (hk : s0.Keeps s) : s0.KeepsR (execZoneOpen c cid nsid lba everyZone s) := by
  simp (maxDischargeDepth := 999) only [execZoneOpen, State.keeps_refl, State.zoneManage_keeps, State.ioCmd_keeps, hk, implies_true]

theorem execZoneClose_keeps (c cid nsid lba : Nat) (everyZone : Bool) (hk : s0.Keeps s) : s0.KeepsR (execZoneClose c cid nsid lba everyZone s) := by
  simp (maxDischargeDepth := 999) only [execZoneClose, State.keeps_refl, State.zoneManage_keeps, State.ioCmd_keeps, hk, implies_true]

theorem execZoneFinish_keeps (c cid nsid lba : Nat) (everyZone : Bool) (hk : s0.Keeps s) : s0.KeepsR (execZoneFinish c cid nsid lba everyZone s) := by
  simp (maxDischargeDepth := 999) only [execZoneFinish, State.keeps_refl, State.zoneManage_keeps, State.ioCmd_keeps, hk, implies_true]

theorem execZoneReset_keeps (c cid nsid _lba : Nat) (_everyZone : Bool) (hk : s0.Keeps s) : s0.KeepsR (execZoneReset c cid nsid _lba _everyZone s) := by
  simp (maxDischargeDepth := 999) only [execZoneReset, State.keeps_refl, State.zoneRefuse_keeps, State.ioCmd_keeps, hk, implies_true]

theorem execZoneOffline_keeps (c cid nsid _lba : Nat) (_everyZone : Bool) (hk : s0.Keeps s) : s0.KeepsR (execZoneOffline c cid nsid _lba _everyZone s) := by
  simp (maxDischargeDepth := 999) only [execZoneOffline, State.keeps_refl, State.zoneRefuse_keeps, State.ioCmd_keeps, hk, implies_true]

theorem execZoneManagementReceive_keeps (c cid nsid lba filter limit : Nat) (part : Bool) (hk : s0.Keeps s) : s0.KeepsR (execZoneManagementReceive c cid nsid lba filter limit part s) := by
  simp (maxDischargeDepth := 999) only [execZoneManagementReceive, State.keeps_refl, State.zoneReport_keeps, State.ioCmd_keeps, hk, implies_true]

theorem execWriteLineReserved_keeps (c cid : Nat) (hk : s0.Keeps s) : s0.KeepsR (execWriteLineReserved c cid s) := by
  unfold execWriteLineReserved
  (repeat' split) <;> simp (maxDischargeDepth := 999) only [keepsR_next, State.tryWrite_keeps, State.settle_keeps, hk]

theorem execIdentify_keeps (c cid cns csi nsid : Nat) (hk : s0.Keeps s) : s0.KeepsR (execIdentify c cid cns csi nsid s) := by
  unfold execIdentify
  repeat' first
    | with_reducible exact hk
    | with_reducible exact State.keeps_refl _
    | intro _
    | with_reducible apply keeps_ite
    | with_reducible apply State.keeps_refl
    | with_reducible apply keepsR_ite
    | with_reducible apply keepsR_next
    | with_reducible apply State.emit_keeps
    | with_reducible apply State.complete_keeps
    | with_reducible apply State.adminCmd_keeps
    | with_reducible refine keeps_of_fst (by assumption) ?_
    | with_reducible refine keeps_of_snd (by assumption) ?_
    | with_reducible refine keeps_of_ok (by assumption) ?_
    | split

theorem execAbort_keeps (c cid sq target : Nat) (hk : s0.Keeps s) : s0.KeepsR (execAbort c cid sq target s) := by
  unfold execAbort
  repeat' first
    | with_reducible exact hk
    | with_reducible exact State.keeps_refl _
    | intro _
    | with_reducible apply keeps_ite
    | with_reducible apply State.keeps_refl
    | with_reducible apply keepsR_ite
    | with_reducible apply keepsR_next
    | with_reducible apply State.emit_keeps
    | with_reducible apply State.bump_keeps
    | with_reducible apply State.modCtrl_keeps
    | with_reducible apply State.complete_keeps
    | with_reducible apply State.doAbort_keeps
    | with_reducible apply State.adminCmd_keeps
    | with_reducible refine keeps_of_fst (by assumption) ?_
    | with_reducible refine keeps_of_snd (by assumption) ?_
    | with_reducible refine keeps_of_ok (by assumption) ?_
    | split

theorem execAsyncEventRequest_keeps (c cid : Nat) (hk : s0.Keeps s) : s0.KeepsR (execAsyncEventRequest c cid s) := by
  unfold execAsyncEventRequest
  repeat' first
    | with_reducible exact hk
    | with_reducible exact State.keeps_refl _
    | intro _
    | with_reducible apply keeps_ite
    | with_reducible apply State.keeps_refl
    | with_reducible apply keepsR_ite
    | with_reducible apply keepsR_next
    | with_reducible apply State.emit_keeps
    | with_reducible apply State.modNvme_keeps
    | with_reducible apply State.modCtrl_keeps
    | with_reducible apply State.complete_keeps
    | with_reducible apply State.adminCmd_keeps
    | with_reducible refine keeps_of_fst (by assumption) ?_
    | with_reducible refine keeps_of_snd (by assumption) ?_
    | with_reducible refine keeps_of_ok (by assumption) ?_
    | split

theorem execKeepAlive_keeps (c cid : Nat) (hk : s0.Keeps s) : s0.KeepsR (execKeepAlive c cid s) := by
  simp (maxDischargeDepth := 999) only [execKeepAlive, State.keeps_refl, State.complete_keeps, State.adminCmd_keeps, hk, implies_true]

theorem State.setFeature_keeps (x : Ctx) (f v : Nat) (hk : s0.Keeps s) : s0.Keeps (State.setFeature s x f v) := by
  simp (maxDischargeDepth := 999) only [State.setFeature, State.modCtrl_keeps, State.complete_keeps, hk]

theorem execSetFeaturesArbitration_keeps (c cid v : Nat) (hk : s0.Keeps s) : s0.KeepsR (execSetFeaturesArbitration c cid v s) := by
  simp (maxDischargeDepth := 999) only [execSetFeaturesArbitration, State.keeps_refl, State.adminCmd_keeps, State.setFeature_keeps, hk, implies_true]

theorem execSetFeaturesPowerManagement_keeps (c cid v : Nat) (hk : s0.Keeps s) : s0.KeepsR (execSetFeaturesPowerManagement c cid v s) := by
  simp (maxDischargeDepth := 999) only [execSetFeaturesPowerManagement, keeps_ite, State.keeps_refl, State.complete_keeps, State.adminCmd_keeps, hk, implies_true]

theorem execSetFeaturesTemperatureThreshold_keeps (c cid v : Nat) (hk : s0.Keeps s) : s0.KeepsR (execSetFeaturesTemperatureThreshold c cid v s) := by
  simp (maxDischargeDepth := 999) only [execSetFeaturesTemperatureThreshold, keeps_ite, State.keeps_refl, State.complete_keeps, State.adminCmd_keeps, State.setFeature_keeps, hk, implies_true]

theorem execSetFeaturesVolatileWriteCache_keeps (c cid v : Nat) (hk : s0.Keeps s) : s0.KeepsR (execSetFeaturesVolatileWriteCache c cid v s) := by
  simp (maxDischargeDepth := 999) only [execSetFeaturesVolatileWriteCache, State.keeps_refl, State.adminCmd_keeps, State.setFeature_keeps, hk, implies_true]

theorem State.queuesResult_keeps (n : Nat) (hk : s0.Keeps s) : s0.Keeps (State.queuesResult s n).2 := by
  unfold State.queuesResult
  (repeat' split) <;> simp (maxDischargeDepth := 999) only [State.fresh_keeps, hk]

theorem execSetFeaturesNumberOfQueues_keeps (c cid v : Nat) (hk : s0.Keeps s) : s0.KeepsR (execSetFeaturesNumberOfQueues c cid v s) := by
  simp (maxDischargeDepth := 999) only [execSetFeaturesNumberOfQueues, State.keeps_refl, State.modCtrl_keeps, State.complete_keeps, State.adminCmd_keeps, State.queuesResult_keeps, hk, implies_true]

theorem execSetFeaturesInterruptCoalescing_keeps (c cid v : Nat) (hk : s0.Keeps s) : s0.KeepsR (execSetFeaturesInterruptCoalescing c cid v s) := by
  simp (maxDischargeDepth := 999) only [execSetFeaturesInterruptCoalescing, keeps_ite, State.keeps_refl, State.complete_keeps, State.adminCmd_keeps, State.setFeature_keeps, hk, implies_true]

theorem execSetFeaturesInterruptVectorConfig_keeps (c cid v : Nat) (hk : s0.Keeps s) : s0.KeepsR (execSetFeaturesInterruptVectorConfig c cid v s) := by
  simp (maxDischargeDepth := 999) only [execSetFeaturesInterruptVectorConfig, keeps_ite, State.keeps_refl, State.complete_keeps, State.adminCmd_keeps, State.setFeature_keeps, hk, implies_true]

theorem execSetFeaturesAsyncEventConfig_keeps (c cid v : Nat) (hk : s0.Keeps s) : s0.KeepsR (execSetFeaturesAsyncEventConfig c cid v s) := by
  simp (maxDischargeDepth := 999) only [execSetFeaturesAsyncEventConfig, State.keeps_refl, State.adminCmd_keeps, State.setFeature_keeps, hk, implies_true]

theorem execSetFeaturesKeepAliveTimer_keeps (c cid v : Nat) (hk : s0.Keeps s) : s0.KeepsR (execSetFeaturesKeepAliveTimer c cid v s) := by
  simp (maxDischargeDepth := 999) only [execSetFeaturesKeepAliveTimer, keeps_ite, State.keeps_refl, State.complete_keeps, State.adminCmd_keeps, State.setFeature_keeps, hk, implies_true]

theorem execGetFeatures_keeps (c cid fid v : Nat) (hk : s0.Keeps s) : s0.KeepsR (execGetFeatures c cid fid v s) := by
  unfold execGetFeatures
  repeat' first
    | with_reducible exact hk
    | with_reducible exact State.keeps_refl _
    | intro _
    | with_reducible apply keeps_ite
    | with_reducible apply State.keeps_refl
    | with_reducible apply keepsR_ite
    | with_reducible apply keepsR_next
    | with_reducible apply State.emit_keeps
    | with_reducible apply State.complete_keeps
    | with_reducible apply State.adminCmd_keeps
    | with_reducible apply State.queuesResult_keeps
    | with_reducible refine keeps_of_fst (by assumption) ?_
    | with_reducible refine keeps_of_snd (by assumption) ?_
    | with_reducible refine keeps_of_ok (by assumption) ?_
    | split

theorem execCreateIoCq_keeps (c cid qid size : Nat) (hk : s0.Keeps s) : s0.KeepsR (execCreateIoCq c cid qid size s) := by
  unfold execCreateIoCq
  repeat' first
    | with_reducible exact hk
    | with_reducible exact State.keeps_refl _
    | intro _
    | with_reducible apply keeps_ite
    | with_reducible apply State.keeps_refl
    | with_reducible apply keepsR_ite
    | with_reducible apply keepsR_next
    | with_reducible apply State.modCtrl_keeps
    | with_reducible apply State.complete_keeps
    | with_reducible apply State.adminCmd_keeps
    | with_reducible refine keeps_of_fst (by assumption) ?_
    | with_reducible refine keeps_of_snd (by assumption) ?_
    | with_reducible refine keeps_of_ok (by assumption) ?_
    | split

theorem execCreateIoSq_keeps (c cid qid size cq : Nat) (hk : s0.Keeps s) : s0.KeepsR (execCreateIoSq c cid qid size cq s) := by
  unfold execCreateIoSq
  repeat' first
    | with_reducible exact hk
    | with_reducible exact State.keeps_refl _
    | intro _
    | with_reducible apply keeps_ite
    | with_reducible apply State.keeps_refl
    | with_reducible apply keepsR_ite
    | with_reducible apply keepsR_next
    | with_reducible apply State.modCtrl_keeps
    | with_reducible apply State.complete_keeps
    | with_reducible apply State.adminCmd_keeps
    | with_reducible refine keeps_of_fst (by assumption) ?_
    | with_reducible refine keeps_of_snd (by assumption) ?_
    | with_reducible refine keeps_of_ok (by assumption) ?_
    | split

theorem execDeleteIoSq_keeps (c cid qid : Nat) (hk : s0.Keeps s) : s0.KeepsR (execDeleteIoSq c cid qid s) := by
  simp (maxDischargeDepth := 999) only [execDeleteIoSq, State.keeps_refl, State.deleteSq_keeps, State.adminCmd_keeps, hk, implies_true]

theorem execDeleteIoCq_keeps (c cid qid : Nat) (hk : s0.Keeps s) : s0.KeepsR (execDeleteIoCq c cid qid s) := by
  unfold execDeleteIoCq
  repeat' first
    | with_reducible exact hk
    | with_reducible exact State.keeps_refl _
    | intro _
    | with_reducible apply keeps_ite
    | with_reducible apply State.keeps_refl
    | with_reducible apply keepsR_ite
    | with_reducible apply keepsR_next
    | with_reducible apply State.modCtrl_keeps
    | with_reducible apply State.complete_keeps
    | with_reducible apply State.adminCmd_keeps
    | with_reducible refine keeps_of_fst (by assumption) ?_
    | with_reducible refine keeps_of_snd (by assumption) ?_
    | with_reducible refine keeps_of_ok (by assumption) ?_
    | split

theorem execFormatNvm_keeps (c cid nsid lbaf pi ses : Nat) (hk : s0.Keeps s) : s0.KeepsR (execFormatNvm c cid nsid lbaf pi ses s) := by
  unfold execFormatNvm
  repeat' first
    | with_reducible exact hk
    | with_reducible exact State.keeps_refl _
    | intro _
    | with_reducible apply keeps_ite
    | with_reducible apply State.keeps_refl
    | with_reducible apply keepsR_ite
    | with_reducible apply keepsR_next
    | with_reducible apply State.complete_keeps
    | with_reducible apply State.modNs_keeps
    | with_reducible apply State.invalidate_keeps
    | with_reducible apply State.endTest_keeps
    | with_reducible apply State.adminCmd_keeps
    | with_reducible refine keeps_of_fst (by assumption) ?_
    | with_reducible refine keeps_of_snd (by assumption) ?_
    | with_reducible refine keeps_of_ok (by assumption) ?_
    | split

theorem State.pin_keeps (q nsid lba n : Nat) (hk : s0.Keeps s) : s0.Keeps (State.pin s q nsid lba n) := by
  unfold State.pin
  repeat' first
    | with_reducible exact hk
    | with_reducible exact State.keeps_refl _
    | intro _
    | with_reducible apply keeps_ite
    | with_reducible apply State.keeps_refl
    | with_reducible apply State.forEach_keeps
    | with_reducible apply State.addReg_keeps
    | with_reducible apply State.modCtx_keeps
    | with_reducible apply State.complete_keeps
    | with_reducible apply State.modGr_keeps
    | with_reducible apply State.queueFill_keeps
    | with_reducible apply State.lockLine_keeps
    | with_reducible apply State.pumpPins_keeps
    | with_reducible refine keeps_of_fst (by assumption) ?_
    | with_reducible refine keeps_of_snd (by assumption) ?_
    | with_reducible refine keeps_of_ok (by assumption) ?_
    | split

theorem execPin_keeps (c cid nsid lba n : Nat) (hk : s0.Keeps s) : s0.KeepsR (execPin c cid nsid lba n s) := by
  simp (maxDischargeDepth := 999) only [execPin, State.keeps_refl, State.adminCmd_keeps, State.pin_keeps, hk, implies_true]

theorem execUnpin_keeps (c cid id : Nat) (hk : s0.Keeps s) : s0.KeepsR (execUnpin c cid id s) := by
  simp (maxDischargeDepth := 999) only [execUnpin, keeps_ite, State.keeps_refl, State.complete_keeps, State.modGr_keeps, State.pumpPins_keeps, State.adminCmd_keeps, hk, implies_true]

theorem execFillCommit_keeps (nsid cl : Nat) (hk : s0.Keeps s) : s0.KeepsR (execFillCommit nsid cl s) := by
  simp (maxDischargeDepth := 999) only [execFillCommit, keepsR_next, State.fillCommit_keeps, hk]

theorem execBlockPlaced_keeps (nsid cl b : Nat) (blk : Block) (hk : s0.Keeps s) : s0.KeepsR (execBlockPlaced nsid cl b blk s) := by
  simp only [execBlockPlaced]
  (repeat' split) <;> simp (maxDischargeDepth := 999) only [keepsR_next, State.modOp_keeps, State.checkedBlock_keeps, hk]

theorem execFillEnd_keeps (nsid cl : Nat) (hk : s0.Keeps s) : s0.KeepsR (execFillEnd nsid cl s) := by
  simp (maxDischargeDepth := 999) only [execFillEnd, keeps_ite, keepsR_next, State.fillEnd_keeps, State.settle_keeps, hk]

theorem execMergeFillDone_keeps (nsid cl : Nat) (hk : s0.Keeps s) : s0.KeepsR (execMergeFillDone nsid cl s) := by
  simp only [execMergeFillDone]
  (repeat' split) <;> simp (maxDischargeDepth := 999) only [keepsR_next, State.bump_keeps, State.integrityEntry_keeps, State.placeRest_keeps, State.fillEnd_keeps, State.failFlushes_keeps, State.settle_keeps, hk]

end Sys2Proof.Machine
end

