-- ==== Sys2Proof/Laws/Keeps3.lean ====
section
/-! SUPPORT. No operation of these files breaks what Laws/Keeps.lean says every command keeps: Media, Station, RingState, HeadCmds, Channel, LoopCmds, Microwords. -/

namespace Sys2Proof.Machine

variable {s0 s t : State}

/-! ### Media -/

theorem State.zonesReadOnly_keeps (n : Nat) (layers : Nat → Bool) (hk : s0.Keeps s) : s0.Keeps (State.zonesReadOnly s n layers) := by
  unfold State.zonesReadOnly
  (repeat' split) <;> simp (maxDischargeDepth := 999) only [keeps_ite, State.modNvme_keeps, State.event_keeps, State.modNs_keeps, hk]

theorem State.layerView_keeps (n layer : Nat) (hk : s0.Keeps s) : s0.Keeps (State.layerView s n layer) := by
  simp (maxDischargeDepth := 999) only [State.layerView, keeps_ite, State.setReg_keeps, State.setRegs_keeps, State.note_keeps, State.event_keeps, State.zonesReadOnly_keeps, hk]

theorem State.wdReadOnly_keeps (h : Nat) (hk : s0.Keeps s) : s0.Keeps (State.wdReadOnly s h) := by
  simp (maxDischargeDepth := 999) only [State.wdReadOnly, keeps_ite, State.keeps_refl, State.forEach_keeps, State.setRegBit_keeps, State.note_keeps, State.zonesReadOnly_keeps, hk, implies_true]

theorem State.replace_keeps (n own : Nat) (hk : s0.Keeps s) : s0.Keeps (State.replace s n own).1 := by
  simp only [State.replace]
  (repeat' split) <;> simp (maxDischargeDepth := 999) only [State.setReg_keeps, State.modSide_keeps, State.layerView_keeps, hk]

theorem State.liaWritten_keeps (n layer : Nat) (hk : s0.Keeps s) : s0.Keeps (State.liaWritten s n layer) := by
  simp (maxDischargeDepth := 999) only [State.liaWritten, State.emit_keeps, State.addReg_keeps, State.bump_keeps, State.modSide_keeps, State.layerView_keeps, hk]

theorem State.liaRecord_keeps (n : Nat) (hk : s0.Keeps s) : s0.Keeps (State.liaRecord s n) := by
  simp (maxDischargeDepth := 999) only [State.liaRecord, State.keeps_refl, State.forEach_keeps, State.liaWritten_keeps, hk, implies_true]

theorem State.markDefects_keeps (n : Nat) (l : List Nat) (hk : s0.Keeps s) : s0.Keeps (State.markDefects s n l) := by
  simp (maxDischargeDepth := 999) only [State.markDefects, State.modSide_keeps, hk]

theorem State.setMedium_keeps (i : Nat) (m : Medium) (hk : s0.Keeps s) : s0.Keeps (State.setMedium s i m) := by
  simp (maxDischargeDepth := 999) only [State.setMedium, keeps_ite, State.keeps_refl, State.setReg_keeps, State.setRaw_keeps, State.setRegs_keeps, State.forEach_keeps, State.setHeadFault_keeps, State.mediumHeads_keeps, hk, implies_true]

theorem State.clearMedium_keeps (i : Nat) (hk : s0.Keeps s) : s0.Keeps (State.clearMedium s i) := by
  simp (maxDischargeDepth := 999) only [State.clearMedium, State.setReg_keeps, State.setRaw_keeps, State.setRegs_keeps, State.setRegBit_keeps, hk]

theorem State.nsChanged_keeps (n : Nat) (hk : s0.Keeps s) : s0.Keeps (State.nsChanged s n) := by
  simp (maxDischargeDepth := 999) only [State.nsChanged, State.modNvme_keeps, State.event_keeps, hk]

theorem State.attach_keeps (i side : Nat) (img : SideImage) (hk : s0.Keeps s) : s0.Keeps (State.attach s i side img) := by
  simp (maxDischargeDepth := 999) only [State.attach, keeps_ite, State.keeps_refl, State.setRegs_keeps, State.forEach_keeps, State.modHd_keeps, State.setStFlag_keeps, State.modNvme_keeps, State.modSide_keeps, State.layerView_keeps, State.wdReadOnly_keeps, State.markDefects_keeps, State.nsChanged_keeps, hk, implies_true]

theorem State.detach_keeps (i side : Nat) (hk : s0.Keeps s) : s0.Keeps (State.detach s i side).1 := by
  simp only [State.detach]
  (repeat' split) <;> simp (maxDischargeDepth := 999) only [State.keeps_refl, State.forEach_keeps, State.setStFlag_keeps, State.modNvme_keeps, State.complete_keeps, State.invalidate_keeps, State.endTest_keeps, State.nsChanged_keeps, hk, implies_true]

theorem State.setFly_keeps (h b n : Nat) (a : Int) (hk : s0.Keeps s) : s0.Keeps (State.setFly s h b n a) := by
  simp (maxDischargeDepth := 999) only [State.setFly, State.modHd_keeps, hk]

theorem State.countRsms_keeps (h b : Nat) (a : Int) (l : List (Int × Bool)) (hk : s0.Keeps s) : s0.Keeps (State.countRsms s h b a l) := by
  simp (maxDischargeDepth := 999) only [State.countRsms, State.addReg_keeps, hk]

theorem State.sectorStart_keeps (h b : Nat) (det : List Int) (hk : s0.Keeps s) : s0.Keeps (State.sectorStart s h b det).1 := by
  simp only [State.sectorStart]
  (repeat' split) <;> simp (maxDischargeDepth := 999) only [State.bump_keeps, State.modHd_keeps, State.setFly_keeps, State.countRsms_keeps, hk]

theorem execHuntEnd_keeps (h b gap : Nat) (hk : s0.Keeps s) : s0.KeepsR (execHuntEnd h b gap s) := by
  simp (maxDischargeDepth := 999) only [execHuntEnd, keeps_ite, keepsR_next, State.modHd_keeps, State.setFly_keeps, hk]

/-! ### Station -/

theorem State.acquireHeads_keeps (i : Nat) (hk : s0.Keeps s) : s0.Keeps (State.acquireHeads s i) := by
  simp (maxDischargeDepth := 999) only [State.acquireHeads, keeps_ite, State.keeps_refl, State.forEach_keeps, State.setRegBit_keeps, State.modStn_keeps, State.setStFlag_keeps, State.setSubstate_keeps, State.issue_keeps, hk, implies_true]

theorem State.clearHeadFault_keeps (h : Nat) (hk : s0.Keeps s) : s0.Keeps (State.clearHeadFault s h) := by
  simp (maxDischargeDepth := 999) only [State.clearHeadFault, keeps_ite, State.setReg_keeps, State.setRegBit_keeps, State.modHd_keeps, hk]

theorem State.askLia_keeps (i : Nat) (hk : s0.Keeps s) : s0.Keeps (State.askLia s i) := by
  unfold State.askLia
  repeat' first
    | with_reducible exact hk
    | with_reducible exact State.keeps_refl _
    | intro _
    | with_reducible apply keeps_ite
    | with_reducible apply State.keeps_refl
    | with_reducible apply State.forEach_keeps
    | with_reducible apply State.modGr_keeps
    | with_reducible refine keeps_of_fst (by assumption) ?_
    | with_reducible refine keeps_of_snd (by assumption) ?_
    | with_reducible refine keeps_of_ok (by assumption) ?_
    | split

theorem State.discardDirty_keeps (i : Nat) (hk : s0.Keeps s) : s0.Keeps (State.discardDirty s i) := by
  simp (maxDischargeDepth := 999) only [State.discardDirty, keeps_ite, State.keeps_refl, State.forEach_keeps, State.note_keeps, State.modNs_keeps, State.modGr_keeps, hk, implies_true]

theorem State.faultCleared_keeps (i : Nat) (hk : s0.Keeps s) : s0.Keeps (State.faultCleared s i) := by
  simp (maxDischargeDepth := 999) only [State.faultCleared, keeps_ite, State.setRegs_keeps, State.raiseEmcy_keeps, hk]

theorem State.clampRead_keeps (i code : Nat) (hk : s0.Keeps s) : s0.Keeps (State.clampRead s i code) := by
  simp (maxDischargeDepth := 999) only [State.clampRead, keeps_ite, State.modStn_keeps, State.setStation_keeps, State.dropWake_keeps, State.clearHeadFault_keeps, State.faultCleared_keeps, hk]

theorem State.issueStation_keeps (i code param : Nat) (hk : s0.Keeps s) : s0.Keeps (State.issueStation s i code param) := by
  simp (maxDischargeDepth := 999) only [State.issueStation, State.issue_keeps, hk]

theorem State.beginStep_keeps (i : Nat) (c : StnCmd) (z0 : StnStep) (hk : s0.Keeps s) : s0.Keeps (State.beginStep s i c z0).1 := by
  simp only [State.beginStep]
  (repeat' split) <;> simp (maxDischargeDepth := 999) only [keeps_ite, State.keeps_refl, State.forEach_keeps, State.modStn_keeps, State.setStFlag_keeps, State.armedView_keeps, State.abortStation_keeps, State.issue_keeps, State.tempWake_keeps, State.setStation_keeps, State.settle_keeps, State.detach_keeps, State.acquireHeads_keeps, State.askLia_keeps, State.discardDirty_keeps, State.issueStation_keeps, hk, implies_true]

theorem State.withdraw_keeps (i : Nat) (hk : s0.Keeps s) : s0.Keeps (State.withdraw s i) := by
  simp (maxDischargeDepth := 999) only [State.withdraw, keeps_ite, State.endWhole_keeps, State.dropSpin_keeps, hk]

theorem State.commandEnds_keeps (i : Nat) (c : StnCmd) (hk : s0.Keeps s) : s0.Keeps (State.commandEnds s i c) := by
  simp (maxDischargeDepth := 999) only [State.commandEnds, keeps_ite, State.loadSweep_keeps, State.endCommand_keeps, State.clearMedium_keeps, hk]

theorem State.runSteps_keeps (i : Nat) (z0 : Nat) (hk : s0.Keeps s) : s0.Keeps (State.runSteps s i z0) := by
  induction z0 generalizing s with
  | zero => exact hk
  | succ n ih =>
    simp only [State.runSteps]
    repeat' split
    all_goals first
      | exact hk
      | exact State.commandEnds_keeps _ _ hk
      | exact State.endCommand_keeps _ _ hk
      | exact ih (State.modStn_keeps _ _ (State.beginStep_keeps _ _ _ hk))
      | exact State.beginStep_keeps _ _ _ hk

theorem State.stepOver_keeps (i : Nat) (hk : s0.Keeps s) : s0.Keeps (State.stepOver s i) := by
  unfold State.stepOver; split
  · exact State.runSteps_keeps _ _ (State.modStn_keeps _ _ hk)
  · exact hk

theorem State.stepEnds_keeps (i : Nat) (c : StnCmd) (z0 : StnStep) (hk : s0.Keeps s) : s0.Keeps (State.stepEnds s i c z0) := by
  simp only [State.stepEnds]
  (repeat' split) <;> simp (maxDischargeDepth := 999) only [keeps_mk, State.setStation_keeps, State.endCommand_keeps, State.clearHeadFault_keeps, State.clampRead_keeps, State.stepOver_keeps, hk]

theorem State.storeMismatch_keeps (i a : Nat) (hk : s0.Keeps s) : s0.Keeps (State.storeMismatch s i a) := by
  simp (maxDischargeDepth := 999) only [State.storeMismatch, State.note_keeps, State.stnFault_keeps, hk]

theorem State.unrecognised_keeps (i : Nat) (c : StnCmd) (hk : s0.Keeps s) : s0.Keeps (State.unrecognised s i c) := by
  simp (maxDischargeDepth := 999) only [State.unrecognised, State.modStn_keeps, State.clearMedium_keeps, State.runSteps_keeps, hk]

theorem State.stepDone_keeps (i : Nat) (o : StepOut) (hk : s0.Keeps s) : s0.Keeps (State.stepDone s i o) := by
  simp only [State.stepDone]
  (repeat' split) <;> simp (maxDischargeDepth := 999) only [State.modStn_keeps, State.setStFlag_keeps, State.endCommand_keeps, State.queueFill_keeps, State.setMedium_keeps, State.attach_keeps, State.stepOver_keeps, State.stepEnds_keeps, State.storeMismatch_keeps, State.unrecognised_keeps, hk]

theorem State.startCommand_keeps (i code target strobe : Nat) (force : Bool) (steps : List StnStep) (hk : s0.Keeps s) : s0.Keeps (State.startCommand s i code target strobe force steps) := by
  simp (maxDischargeDepth := 999) only [State.startCommand, keeps_ite, State.modStn_keeps, State.beginResult_keeps, State.tempWake_keeps, hk]

theorem State.doneAtOnce_keeps (i code : Nat) (hk : s0.Keeps s) : s0.Keeps (State.doneAtOnce s i code) := by
  simp (maxDischargeDepth := 999) only [State.doneAtOnce, State.endResult_keeps, hk]

theorem State.wiringOver_keeps (i code : Nat) (hk : s0.Keeps s) : s0.Keeps (State.wiringOver s i code) := by
  unfold State.wiringOver
  (repeat' split) <;> simp (maxDischargeDepth := 999) only [keeps_ite, State.note_keeps, State.modStn_keeps, State.endResult_keeps, State.endOrder_keeps, State.orderDone_keeps, State.stnFault_keeps, hk]

theorem State.wiringAbort_keeps (i : Nat) (hk : s0.Keeps s) : s0.Keeps (State.wiringAbort s i) := by
  unfold State.wiringAbort
  (repeat' split) <;> simp (maxDischargeDepth := 999) only [keeps_ite, State.keeps_refl, State.setRegs_keeps, State.forEach_keeps, State.endTempWake_keeps, State.dropTokens_keeps, State.wiringOver_keeps, hk, implies_true]

theorem State.stationRequest_keeps (i v : Nat) (hk : s0.Keeps s) : s0.KeepsA (State.stationRequest s i v) := by
  unfold State.stationRequest
  repeat' first
    | with_reducible exact hk
    | with_reducible exact State.keeps_refl _
    | intro _
    | with_reducible apply keeps_ite
    | with_reducible apply State.keeps_refl
    | with_reducible apply keepsA_ite
    | with_reducible apply keepsA_ok
    | with_reducible apply keepsA_error
    | with_reducible apply State.spinDown_keeps
    | with_reducible apply State.bistLeave_keeps
    | with_reducible apply State.detach_keeps
    | with_reducible apply State.startCommand_keeps
    | with_reducible apply State.doneAtOnce_keeps
    | with_reducible apply State.wiringAbort_keeps
    | with_reducible refine keeps_of_fst (by assumption) ?_
    | with_reducible refine keeps_of_snd (by assumption) ?_
    | with_reducible refine keeps_of_ok (by assumption) ?_
    | split

theorem State.stationStop_keeps (i v : Nat) (hk : s0.Keeps s) : s0.KeepsA (State.stationStop s i v) := by
  unfold State.stationStop
  (repeat' split) <;> simp (maxDischargeDepth := 999) only [keepsA_ite, keepsA_ok, keepsA_error, State.modStn_keeps, State.endCommand_keeps, State.withdraw_keeps, hk]

theorem State.oneTransition_keeps (i : Nat) (hk : s0.Keeps s) : s0.Keeps (State.oneTransition s i) := by
  simp (maxDischargeDepth := 999) only [State.oneTransition, keeps_ite, State.modStn_keeps, State.setStation_keeps, hk]

theorem State.measureObject_keeps (e v : Nat) (hk : s0.Keeps s) : s0.Keeps (State.measureObject s e v) := by
  unfold State.measureObject
  repeat' first
    | with_reducible exact hk
    | with_reducible exact State.keeps_refl _
    | intro _
    | with_reducible apply keeps_ite
    | with_reducible apply State.keeps_refl
    | with_reducible apply State.endResult_keeps
    | with_reducible apply State.measureStart_keeps
    | with_reducible refine keeps_of_fst (by assumption) ?_
    | with_reducible refine keeps_of_snd (by assumption) ?_
    | with_reducible refine keeps_of_ok (by assumption) ?_
    | split

theorem State.takeUp_keeps (i : Nat) (hk : s0.Keeps s) : s0.Keeps (State.takeUp s i) := by
  simp only [State.takeUp]
  (repeat' split) <;> simp (maxDischargeDepth := 999) only [State.modStn_keeps, State.runSteps_keeps, hk]

theorem State.schedule_keeps (i : Nat) (hk : s0.Keeps s) : s0.Keeps (State.schedule s i) := by
  simp (maxDischargeDepth := 999) only [State.schedule, keeps_ite, State.keeps_refl, State.forEach_keeps, State.modStn_keeps, State.offerOrder_keeps, State.acquireHeads_keeps, State.oneTransition_keeps, State.measureObject_keeps, State.takeUp_keeps, hk, implies_true]

theorem State.dispatchOp_keeps (nsid cl : Nat) (hk : s0.Keeps s) : s0.Keeps (State.dispatchOp s nsid cl) := by
  unfold State.dispatchOp
  (repeat' split) <;> simp (maxDischargeDepth := 999) only [keeps_ite, State.setReg_keeps, State.modOp_keeps, State.setStation_keeps, State.testYield_keeps, hk]

theorem State.completeOp_keeps (nsid cl : Nat) (hk : s0.Keeps s) : s0.Keeps (State.completeOp s nsid cl) := by
  simp only [State.completeOp]
  (repeat' split) <;> simp (maxDischargeDepth := 999) only [State.setReg_keeps, State.modNs_keeps, State.modGr_keeps, State.setStation_keeps, State.fillEnd_keeps, State.testReadEnds_keeps, State.settle_keeps, State.liaRecord_keeps, hk]

theorem State.strobeStation_keeps (i n : Nat) (hk : s0.Keeps s) : s0.Keeps (State.strobeStation s i n) := by
  simp (maxDischargeDepth := 999) only [State.strobeStation, keeps_ite, State.keeps_refl, State.setReg_keeps, State.forEach_keeps, State.modStn_keeps, State.modEng_keeps, State.modSq_keeps, State.seqView_keeps, State.armedView_keeps, State.raiseTrap_keeps, State.issueStation_keeps, hk, implies_true]

theorem State.fireStrobes_keeps (stations : List Nat) (ns : List Nat) (hk : s0.Keeps s) : s0.Keeps (State.fireStrobes s stations ns) := by
  simp (maxDischargeDepth := 999) only [State.fireStrobes, State.keeps_refl, State.forEach_keeps, State.strobeStation_keeps, hk, implies_true]

theorem State.strobeFire_keeps (i mask : Nat) (hk : s0.Keeps s) : s0.KeepsA (State.strobeFire s i mask) := by
  simp (maxDischargeDepth := 999) only [State.strobeFire, keepsA_ite, keepsA_ok, keepsA_error, State.fireStrobes_keeps, hk]

theorem State.dstrobeFire_keeps (mask : Nat) (hk : s0.Keeps s) : s0.KeepsA (State.dstrobeFire s mask) := by
  simp (maxDischargeDepth := 999) only [State.dstrobeFire, keepsA_ite, keepsA_ok, keepsA_error, State.fireStrobes_keeps, hk]

theorem State.strobeTimeout_keeps (i who : Nat) (hk : s0.Keeps s) : s0.Keeps (State.strobeTimeout s i who) := by
  simp only [State.strobeTimeout]
  (repeat' split) <;> simp (maxDischargeDepth := 999) only [State.modSq_keeps, State.armedView_keeps, State.endWhole_keeps, State.endCommand_keeps, hk]

theorem State.modPins_keeps (f : Pins → Pins) (hk : s0.Keeps s) : s0.Keeps (State.modPins s f) := by
  simp (maxDischargeDepth := 999) only [State.modPins, keeps_mk, hk]

theorem State.ilkOpens_keeps (i : Nat) (hk : s0.Keeps s) : s0.Keeps (State.ilkOpens s i) := by
  simp (maxDischargeDepth := 999) only [State.ilkOpens, keeps_ite, State.keeps_refl, State.bump_keeps, State.modStn_keeps, State.when_keeps, State.setStFlag_keeps, State.pinView_keeps, State.headDrop_keeps, State.setStation_keeps, State.modPins_keeps, hk, implies_true]

theorem State.ilkCloses_keeps (i : Nat) (hk : s0.Keeps s) : s0.Keeps (State.ilkCloses s i) := by
  simp (maxDischargeDepth := 999) only [State.ilkCloses, keeps_ite, State.setStFlag_keeps, State.pinView_keeps, State.modPins_keeps, hk]

theorem State.discPres_keeps (i : Nat) (high : Bool) (hk : s0.Keeps s) : s0.Keeps (State.discPres s i high) := by
  simp (maxDischargeDepth := 999) only [State.discPres, keeps_ite, State.pinView_keeps, State.discMismatch_keeps, State.modPins_keeps, hk]

theorem execStationCommandStepDone_keeps (st : Nat) (out : StepOut) (hk : s0.Keeps s) : s0.KeepsR (execStationCommandStepDone st out s) := by
  simp (maxDischargeDepth := 999) only [execStationCommandStepDone, keepsR_next, State.stepDone_keeps, hk]

theorem execStationWatchdog_keeps (st : Nat) (hk : s0.Keeps s) : s0.KeepsR (execStationWatchdog st s) := by
  simp (maxDischargeDepth := 999) only [execStationWatchdog, keeps_ite, keepsR_next, State.stnFault_keeps, hk]

theorem execMediaOpDispatch_keeps (nsid cl : Nat) (hk : s0.Keeps s) : s0.KeepsR (execMediaOpDispatch nsid cl s) := by
  simp (maxDischargeDepth := 999) only [execMediaOpDispatch, keepsR_next, State.dispatchOp_keeps, hk]

theorem execMediaOpComplete_keeps (nsid cl : Nat) (hk : s0.Keeps s) : s0.KeepsR (execMediaOpComplete nsid cl s) := by
  simp (maxDischargeDepth := 999) only [execMediaOpComplete, keepsR_next, State.completeOp_keeps, hk]

theorem execStrobeTimeout_keeps (st who : Nat) (hk : s0.Keeps s) : s0.KeepsR (execStrobeTimeout st who s) := by
  simp (maxDischargeDepth := 999) only [execStrobeTimeout, keepsR_next, State.strobeTimeout_keeps, hk]

theorem execDiscPresChange_keeps (st : Nat) (high : Bool) (hk : s0.Keeps s) : s0.KeepsR (execDiscPresChange st high s) := by
  simp (maxDischargeDepth := 999) only [execDiscPresChange, keepsR_next, State.discPres_keeps, hk]

theorem execAutoClampDelayExpiry_keeps (st : Nat) (hk : s0.Keeps s) : s0.KeepsR (execAutoClampDelayExpiry st s) := by
  simp (maxDischargeDepth := 999) only [execAutoClampDelayExpiry, keeps_ite, keepsR_next, State.issueStation_keeps, hk]

theorem execIdleOffTimeExpiry_keeps (st : Nat) (hk : s0.Keeps s) : s0.KeepsR (execIdleOffTimeExpiry st s) := by
  simp (maxDischargeDepth := 999) only [execIdleOffTimeExpiry, keeps_ite, keepsR_next, State.modStn_keeps, State.setStation_keeps, hk]

theorem execIlkNOpen_keeps (st : Nat) (hk : s0.Keeps s) : s0.KeepsR (execIlkNOpen st s) := by
  simp (maxDischargeDepth := 999) only [execIlkNOpen, keepsR_next, State.ilkOpens_keeps, hk]

theorem execIlkNClose_keeps (st : Nat) (hk : s0.Keeps s) : s0.KeepsR (execIlkNClose st s) := by
  simp (maxDischargeDepth := 999) only [execIlkNClose, keepsR_next, State.ilkCloses_keeps, hk]

theorem execHeadAcqTimeout_keeps (h : Nat) (hk : s0.Keeps s) : s0.KeepsR (execHeadAcqTimeout h s) := by
  simp (maxDischargeDepth := 999) only [execHeadAcqTimeout, keeps_ite, keepsR_next, State.setHeadFault_keeps, hk]

/-! ### RingState -/

theorem State.attachVolume_keeps (v : Volume) (hk : s0.Keeps s) : s0.Keeps (State.attachVolume s v) := by
  simp (maxDischargeDepth := 999) only [State.attachVolume, State.modNvme_keeps, State.nsChanged_keeps, hk]

theorem State.detachNs_keeps (nsid : Nat) (hk : s0.Keeps s) : s0.Keeps (State.detachNs s nsid) := by
  simp (maxDischargeDepth := 999) only [State.detachNs, State.keeps_refl, State.forEach_keeps, State.modNvme_keeps, State.complete_keeps, State.modSpread_keeps, State.nsChanged_keeps, hk, implies_true]

theorem State.spreadFollow_keeps (hk : s0.Keeps s) : s0.Keeps (State.spreadFollow s) := by
  simp (maxDischargeDepth := 999) only [State.spreadFollow, keeps_ite, State.keeps_refl, State.forEach_keeps, State.attachVolume_keeps, State.detachNs_keeps, hk, implies_true]

theorem State.dropAsks_keeps (hk : s0.Keeps s) : s0.Keeps (State.dropAsks s) := by
  simp (maxDischargeDepth := 999) only [State.dropAsks, keeps_ite, State.keeps_refl, State.forEach_keeps, State.modStn_keeps, State.setStFlag_keeps, State.needSlot_keeps, hk, implies_true]

theorem State.setRingState_keeps (v : Nat) (hk : s0.Keeps s) : s0.Keeps (State.setRingState s v) := by
  simp (maxDischargeDepth := 999) only [State.setRingState, keeps_ite, State.setReg_keeps, State.post_keeps, State.spreadFollow_keeps, State.dropAsks_keeps, hk]

theorem State.ringOff_keeps (hk : s0.Keeps s) : s0.Keeps (State.ringOff s) := by
  simp (maxDischargeDepth := 999) only [State.ringOff, keeps_mk, State.setRegs_keeps, State.setRingState_keeps, hk]

theorem State.ringWake_keeps (hk : s0.Keeps s) : s0.Keeps (State.ringWake s) := by
  simp (maxDischargeDepth := 999) only [State.ringWake, keeps_ite, State.setRegs_keeps, State.setRingState_keeps, hk]

/-! ### HeadCmds -/

theorem execFocusOn_keeps (h : Nat) (ev : FocusEvent) (hk : s0.Keeps s) : s0.KeepsR (execFocusOn h ev s) := by
  simp (maxDischargeDepth := 999) only [execFocusOn, keepsR_next, State.focusOn_keeps, hk]

theorem execTrackOn_keeps (h : Nat) (ev : TrackEvent) (hk : s0.Keeps s) : s0.KeepsR (execTrackOn h ev s) := by
  simp (maxDischargeDepth := 999) only [execTrackOn, keepsR_next, State.trackOn_keeps, hk]

theorem execLayerJump_keeps (h : Nat) (ev : LayerEvent) (hk : s0.Keeps s) : s0.KeepsR (execLayerJump h ev s) := by
  simp (maxDischargeDepth := 999) only [execLayerJump, keepsR_next, State.layerJump_keeps, hk]

theorem execTrackJump_keeps (h : Nat) (ev : JumpEvent) (hk : s0.Keeps s) : s0.KeepsR (execTrackJump h ev s) := by
  simp (maxDischargeDepth := 999) only [execTrackJump, keepsR_next, State.trackJump_keeps, hk]

theorem State.parkOrder_keeps (h : Nat) (hk : s0.Keeps s) : s0.Keeps (State.parkOrder s h) := by
  simp (maxDischargeDepth := 999) only [State.parkOrder, keeps_ite, State.orderDone_keeps, State.dispatch_keeps, State.takeTrap_keeps, State.parkHead_keeps, hk]

theorem execPark_keeps (h : Nat) (hk : s0.Keeps s) : s0.KeepsR (execPark h s) := by
  simp (maxDischargeDepth := 999) only [execPark, keepsR_next, State.parkOrder_keeps, hk]

theorem execCalibrateLoop_keeps (h : Nat) (ev : CalEvent) (hk : s0.Keeps s) : s0.KeepsR (execCalibrateLoop h ev s) := by
  simp (maxDischargeDepth := 999) only [execCalibrateLoop, keepsR_next, State.calibrate_keeps, hk]

theorem execRecoveryConfirmExpiry_keeps (h : Nat) (hk : s0.Keeps s) : s0.KeepsR (execRecoveryConfirmExpiry h s) := by
  simp (maxDischargeDepth := 999) only [execRecoveryConfirmExpiry, keepsR_ite, keepsR_next, State.setReg_keeps, State.modHd_keeps, hk]

theorem execSaSettled_keeps (h : Nat) (hk : s0.Keeps s) : s0.KeepsR (execSaSettled h s) := by
  simp (maxDischargeDepth := 999) only [execSaSettled, keepsR_next, State.setReg_keeps, hk]

theorem execSaSettleTimeout_keeps (h : Nat) (hk : s0.Keeps s) : s0.KeepsR (execSaSettleTimeout h s) := by
  simp (maxDischargeDepth := 999) only [execSaSettleTimeout, keepsR_ite, keepsR_next, State.setReg_keeps, State.headFail_keeps, State.focusFail_keeps, hk]

theorem execAddressTimeout_keeps (h : Nat) (hk : s0.Keeps s) : s0.KeepsR (execAddressTimeout h s) := by
  simp (maxDischargeDepth := 999) only [execAddressTimeout, keepsR_ite, keepsR_next, State.followFail_keeps, hk]

theorem execTrkCaptureTimeout_keeps (h : Nat) (hk : s0.Keeps s) : s0.KeepsR (execTrkCaptureTimeout h s) := by
  simp (maxDischargeDepth := 999) only [execTrkCaptureTimeout, keepsR_ite, keepsR_next, State.headFail_keeps, hk]

theorem execLayerTimeout_keeps (h : Nat) (hk : s0.Keeps s) : s0.KeepsR (execLayerTimeout h s) := by
  simp (maxDischargeDepth := 999) only [execLayerTimeout, keepsR_next, State.layerTimeout_keeps, hk]

theorem execOverpower_keeps (h b : Nat) (hk : s0.Keeps s) : s0.KeepsR (execOverpower h b s) := by
  simp (maxDischargeDepth := 999) only [execOverpower, keepsR_ite, keepsR_next, State.overpower_keeps, hk]

theorem execPklLoss_keeps (h : Nat) (hk : s0.Keeps s) : s0.KeepsR (execPklLoss h s) := by
  simp (maxDischargeDepth := 999) only [execPklLoss, keepsR_ite, keepsR_next, State.pklLoss_keeps, hk]

theorem execPklRetrain_keeps (h : Nat) (ok : Bool) (hk : s0.Keeps s) : s0.KeepsR (execPklRetrain h ok s) := by
  simp (maxDischargeDepth := 999) only [execPklRetrain, keeps_ite, keepsR_ite, keepsR_next, State.bump_keeps, State.modHd_keeps, State.setHeadFault_keeps, State.reacquire_keeps, hk]

theorem execWriteGuardInhibit_keeps (h guard : Nat) (hk : s0.Keeps s) : s0.KeepsR (execWriteGuardInhibit h guard s) := by
  simp (maxDischargeDepth := 999) only [execWriteGuardInhibit, keepsR_ite, keepsR_next, State.guardInhibit_keeps, hk]

theorem State.offTrack_keeps (h b : Nat) (o : Int) (hk : s0.Keeps s) : s0.Keeps (State.offTrack s h b o) := by
  simp (maxDischargeDepth := 999) only [State.offTrack, keeps_ite, State.bump_keeps, State.setRegI_keeps, State.note_keeps, State.modHd_keeps, State.raiseTrap_keeps, hk]

theorem execBeamOfftrack_keeps (h b : Nat) (o : Int) (hk : s0.Keeps s) : s0.KeepsR (execBeamOfftrack h b o s) := by
  simp (maxDischargeDepth := 999) only [execBeamOfftrack, keepsR_next, State.offTrack_keeps, hk]

/-! ### Channel -/

theorem State.degradeAdc_keeps (h a : Nat) (hk : s0.Keeps s) : s0.Keeps (State.degradeAdc s h a) := by
  simp (maxDischargeDepth := 999) only [State.degradeAdc, keeps_ite, State.keeps_refl, State.setReg_keeps, State.forEach_keeps, State.setRegBit_keeps, hk, implies_true]

theorem State.handover_keeps (h b : Nat) (toSpare : Bool) (rms : Nat) (hk : s0.Keeps s) : s0.Keeps (State.handover s h b toSpare rms) := by
  simp (maxDischargeDepth := 999) only [State.handover, keeps_ite, State.setReg_keeps, State.bump_keeps, hk]

theorem execAdcHandover_keeps (h b : Nat) (toSpare : Bool) (rms : Nat) (hk : s0.Keeps s) : s0.KeepsR (execAdcHandover h b toSpare rms s) := by
  simp (maxDischargeDepth := 999) only [execAdcHandover, keepsR_next, State.handover_keeps, hk]

theorem State.setRawAt_keeps (k at_ : Nat) (b : List Byte) (hk : s0.Keeps s) : s0.Keeps (State.setRawAt s k at_ b) := by
  simp (maxDischargeDepth := 999) only [State.setRawAt, State.setRaw_keeps, hk]

theorem State.adapt_keeps (h : Nat) (x : BeamBlock) (hk : s0.Keeps s) : s0.Keeps (State.adapt s h x) := by
  simp only [State.adapt]
  (repeat' split) <;> simp (maxDischargeDepth := 999) only [State.bump_keeps, State.setRawAt_keeps, hk]

theorem State.deliver_keeps (h : Nat) (x : BeamBlock) (r : Int × Nat) (hk : s0.Keeps s) : s0.Keeps (State.deliver s h x r) := by
  simp only [State.deliver]
  (repeat' split) <;> simp (maxDischargeDepth := 999) only [State.fresh_keeps, State.modHd_keeps, State.offTrack_keeps, hk]

theorem State.agc_keeps (h : Nat) (x : BeamBlock) (hk : s0.Keeps s) : s0.Keeps (State.agc s h x) := by
  simp (maxDischargeDepth := 999) only [State.agc, State.emit_keeps, State.setReg_keeps, hk]

theorem State.beamBlock_keeps (h : Nat) (r : Int × Nat) (x : BeamBlock) (hk : s0.Keeps s) : s0.Keeps (State.beamBlock s h r x) := by
  simp only [State.beamBlock]
  (repeat' split) <;> simp (maxDischargeDepth := 999) only [State.setReg_keeps, State.setRegBit_keeps, State.modHd_keeps, State.adapt_keeps, State.deliver_keeps, State.agc_keeps, hk]

theorem execResyncBlock_keeps (h : Nat) (blocks : List BeamBlock) (hk : s0.Keeps s) : s0.KeepsR (execResyncBlock h blocks s) := by
  simp (maxDischargeDepth := 999) only [execResyncBlock, keeps_ite, State.keeps_refl, keepsR_next, State.setReg_keeps, State.forEach_keeps, State.modHd_keeps, State.closeTilt_keeps, State.beamBlock_keeps, hk, implies_true]

theorem State.ringWrite_keeps (f : RingFrame) (hk : s0.Keeps s) : s0.Keeps (State.ringWrite s f) := by
  simp (maxDischargeDepth := 999) only [State.ringWrite, keeps_mk, hk]

theorem State.watchMse_keeps (h b mse : Nat) (hk : s0.Keeps s) : s0.Keeps (State.watchMse s h b mse) := by
  simp only [State.watchMse]
  (repeat' split) <;> simp (maxDischargeDepth := 999) only [State.bump_keeps, State.modHd_keeps, State.setRawAt_keeps, hk]

theorem State.keepFrame_keeps (h b : Nat) (flags : Nat) (fr : Option FrameIn) (hk : s0.Keeps s) : s0.Keeps (State.keepFrame s h b flags fr) := by
  simp only [State.keepFrame]
  (repeat' split) <;> simp (maxDischargeDepth := 999) only [State.addReg_keeps, State.bump_keeps, State.modHd_keeps, State.ringWrite_keeps, State.watchMse_keeps, hk]

theorem State.dumpRequest_keeps (h v : Nat) (hk : s0.Keeps s) : s0.KeepsA (State.dumpRequest s h v) := by
  simp only [State.dumpRequest]
  (repeat' split) <;> simp (maxDischargeDepth := 999) only [keepsA_ok, keepsA_error, State.setRaw_keeps, State.endResult_keeps, hk]

theorem State.modSector_keeps (nsid cl idx : Nat) (f : Sector → Sector) (hk : s0.Keeps s) : s0.Keeps (State.modSector s nsid cl idx f) := by
  simp (maxDischargeDepth := 999) only [State.modSector, keeps_mk, hk]

theorem State.dropSector_keeps (nsid cl idx : Nat) (hk : s0.Keeps s) : s0.Keeps (State.dropSector s nsid cl idx) := by
  simp (maxDischargeDepth := 999) only [State.dropSector, keeps_mk, hk]

theorem State.wakeSlice_keeps (hk : s0.Keeps s) : s0.Keeps (State.wakeSlice s) := by
  unfold State.wakeSlice
  (repeat' split) <;> simp (maxDischargeDepth := 999) only [keeps_mk, State.updDomain_keeps, hk]

theorem State.enterPool_keeps (h b : Nat) (a : SectorAsk) (vals : List Int) (early : Int) (hunted : Bool) (hk : s0.Keeps s) : s0.Keeps (State.enterPool s h b a vals early hunted) := by
  unfold State.enterPool
  (repeat' split) <;> simp (maxDischargeDepth := 999) only [keeps_ite, keeps_mk, State.modSector_keeps, State.wakeSlice_keeps, hk]

theorem execSectorStart_keeps (h b : Nat) (det : List Int) (fr : Option FrameIn) (ask : Option SectorAsk) (hk : s0.Keeps s) : s0.KeepsR (execSectorStart h b det fr ask s) := by
  unfold execSectorStart
  (repeat' split) <;> simp (maxDischargeDepth := 999) only [keeps_ite, keepsR_next, State.setReg_keeps, State.bump_keeps, State.sectorStart_keeps, State.keepFrame_keeps, State.enterPool_keeps, hk]

theorem State.laneGrant_keeps (hk : s0.Keeps s) : s0.Keeps (State.laneGrant s) := by
  simp only [State.laneGrant]
  (repeat' split) <;> simp (maxDischargeDepth := 999) only [keeps_mk, State.setReg_keeps, State.bump_keeps, State.modSector_keeps, State.wakeSlice_keeps, hk]

theorem execLdpcLaneGrant_keeps (hk : s0.Keeps s) : s0.KeepsR (execLdpcLaneGrant s) := by
  simp (maxDischargeDepth := 999) only [execLdpcLaneGrant, keepsR_next, State.laneGrant_keeps, hk]

theorem State.countVerdict_keeps (x : Sector) (z0 : Verdict) (hk : s0.Keeps s) : s0.Keeps (State.countVerdict s x z0) := by
  simp only [State.countVerdict]
  (repeat' split) <;> simp (maxDischargeDepth := 999) only [State.bump_keeps, hk]

theorem State.quality_keeps (x : Sector) (snr : Int) (d : DecodeOut) (first : Bool) (hk : s0.Keeps s) : s0.Keeps (State.quality s x snr d first) := by
  simp (maxDischargeDepth := 999) only [State.quality, State.setRegs_keeps, State.modHd_keeps, hk]

theorem State.countRung_keeps (x : Sector) (j : Nat) (hk : s0.Keeps s) : s0.Keeps (State.countRung s x j) := by
  simp (maxDischargeDepth := 999) only [State.countRung, State.bump_keeps, State.modSector_keeps, hk]

theorem State.decoded_keeps (x : Sector) (b : List Byte) (hk : s0.Keeps s) : s0.Keeps (State.decoded s x b) := by
  simp (maxDischargeDepth := 999) only [State.decoded, keeps_ite, State.modOp_keeps, hk]

theorem State.saveCoef_keeps (x : Sector) (hk : s0.Keeps s) : s0.Keeps (State.saveCoef s x) := by
  simp (maxDischargeDepth := 999) only [State.saveCoef, State.modHd_keeps, hk]

theorem State.firstPass_keeps (nsid cl idx : Nat) (snr : Int) (d : DecodeOut) (hk : s0.Keeps s) : s0.Keeps (State.firstPass s nsid cl idx snr d) := by
  simp only [State.firstPass]
  (repeat' split) <;> simp (maxDischargeDepth := 999) only [State.modSector_keeps, State.dropSector_keeps, State.countVerdict_keeps, State.quality_keeps, State.countRung_keeps, State.decoded_keeps, State.saveCoef_keeps, hk]

theorem execFirstPassDone_keeps (nsid cl idx : Nat) (snr : Int) (out : DecodeOut) (hk : s0.Keeps s) : s0.KeepsR (execFirstPassDone nsid cl idx snr out s) := by
  simp (maxDischargeDepth := 999) only [execFirstPassDone, keepsR_next, State.firstPass_keeps, hk]

theorem State.retryGlobal_keeps (nsid cl idx : Nat) (off : Int) (d : DecodeOut) (hk : s0.Keeps s) : s0.Keeps (State.retryGlobal s nsid cl idx off d) := by
  simp only [State.retryGlobal]
  (repeat' split) <;> simp (maxDischargeDepth := 999) only [keeps_ite, State.bump_keeps, State.modSector_keeps, State.dropSector_keeps, State.countVerdict_keeps, State.countRung_keeps, State.decoded_keeps, hk]

theorem execRetryGlobalEnd_keeps (nsid cl idx : Nat) (off : Int) (out : DecodeOut) (hk : s0.Keeps s) : s0.KeepsR (execRetryGlobalEnd nsid cl idx off out s) := by
  simp (maxDischargeDepth := 999) only [execRetryGlobalEnd, keepsR_next, State.retryGlobal_keeps, hk]

theorem State.outerRepair_keeps (nsid cl : Nat) (ok : Bool) (hk : s0.Keeps s) : s0.Keeps (State.outerRepair s nsid cl ok) := by
  simp only [State.outerRepair]
  (repeat' split) <;> simp (maxDischargeDepth := 999) only [keeps_mk, State.keeps_refl, State.forEach_keeps, State.bump_keeps, State.note_keeps, State.modOp_keeps, State.modSector_keeps, State.countRung_keeps, State.decoded_keeps, hk, implies_true]

theorem execOuterCodeRepair_keeps (nsid cl : Nat) (ok : Bool) (hk : s0.Keeps s) : s0.KeepsR (execOuterCodeRepair nsid cl ok s) := by
  simp (maxDischargeDepth := 999) only [execOuterCodeRepair, keepsR_next, State.outerRepair_keeps, hk]

/-! ### LoopCmds -/

theorem State.powerRamp_keeps (h b : Nat) (hk : s0.Keeps s) : s0.Keeps (State.powerRamp s h b) := by
  simp (maxDischargeDepth := 999) only [State.powerRamp, State.modLp_keeps, hk]

theorem State.defectSample_keeps (h : Nat) (hk : s0.Keeps s) : s0.Keeps (State.defectSample s h) := by
  simp (maxDischargeDepth := 999) only [State.defectSample, State.modHd_keeps, hk]

theorem State.shockSample_keeps (h : Nat) (det : List Int) (hk : s0.Keeps s) : s0.Keeps (State.shockSample s h det) := by
  simp (maxDischargeDepth := 999) only [State.shockSample, State.setReg_keeps, State.modHd_keeps, hk]

theorem State.guardSample_keeps (h g : Nat) (err : Int) (hk : s0.Keeps s) : s0.Keeps (State.guardSample s h g err) := by
  simp (maxDischargeDepth := 999) only [State.guardSample, keeps_ite, State.modHd_keeps, hk]

theorem State.confirmSample_keeps (h : Nat) (fe : Int) (hk : s0.Keeps s) : s0.Keeps (State.confirmSample s h fe) := by
  simp (maxDischargeDepth := 999) only [State.confirmSample, keeps_ite, State.modHd_keeps, hk]

theorem State.senseSample_keeps (e l : Nat) (det : List Int) (hk : s0.Keeps s) : s0.Keeps (State.senseSample s e l det) := by
  simp only [State.senseSample]
  (repeat' split) <;> simp (maxDischargeDepth := 999) only [State.setReg_keeps, State.modHd_keeps, State.modLp_keeps, State.powerRamp_keeps, State.defectSample_keeps, State.shockSample_keeps, hk]

theorem State.headSample_keeps (e l : Nat) (err : Int) (hk : s0.Keeps s) : s0.Keeps (State.headSample s e l err) := by
  simp (maxDischargeDepth := 999) only [State.headSample, keeps_ite, State.setRegI_keeps, State.modHd_keeps, State.loopOpen_keeps, State.scanSample_keeps, State.openAtDrive_keeps, State.trackSample_keeps, State.tiltSample_keeps, State.kickSample_keeps, State.guardSample_keeps, State.confirmSample_keeps, hk]

theorem execLoopSample_keeps (e l : Nat) (det : List Int) (u : Int) (ang : Nat) (hk : s0.Keeps s) : s0.KeepsR (execLoopSample e l det u ang s) := by
  simp (maxDischargeDepth := 999) only [execLoopSample, keeps_ite, keepsR_ite, keepsR_next, State.loopSample_keeps, State.emitBridge_keeps, State.senseSample_keeps, State.headSample_keeps, hk]

theorem execDefectSet_keeps (h : Nat) (hk : s0.Keeps s) : s0.KeepsR (execDefectSet h s) := by
  simp (maxDischargeDepth := 999) only [execDefectSet, keepsR_ite, keepsR_next, State.bump_keeps, State.modHd_keeps, State.raiseTrap_keeps, State.setCause_keeps, hk]

theorem execDefectClear_keeps (h : Nat) (hk : s0.Keeps s) : s0.KeepsR (execDefectClear h s) := by
  simp (maxDischargeDepth := 999) only [execDefectClear, keepsR_ite, keepsR_next, State.setReg_keeps, State.modHd_keeps, State.clearCause_keeps, hk]

theorem execResidualHold_keeps (e l : Nat) (hk : s0.Keeps s) : s0.KeepsR (execResidualHold e l s) := by
  simp (maxDischargeDepth := 999) only [execResidualHold, keepsR_ite, keepsR_next, State.superviseHold_keeps, hk]

theorem execResidualClear_keeps (e l : Nat) (hk : s0.Keeps s) : s0.KeepsR (execResidualClear e l s) := by
  simp (maxDischargeDepth := 999) only [execResidualClear, keepsR_ite, keepsR_next, State.clearCause_keeps, hk]

theorem execVarianceWindowEnd_keeps (e l : Nat) (hk : s0.Keeps s) : s0.KeepsR (execVarianceWindowEnd e l s) := by
  simp (maxDischargeDepth := 999) only [execVarianceWindowEnd, keepsR_next, State.windowEnd_keeps, hk]

theorem State.spdExpired_keeps (i : Nat) (hk : s0.Keeps s) : s0.Keeps (State.spdExpired s i) := by
  simp (maxDischargeDepth := 999) only [State.spdExpired, keeps_ite, State.setRegI_keeps, State.modStn_keeps, State.loopOpen_keeps, State.lockedRotor_keeps, hk]

theorem State.sledExpired_keeps (h : Nat) (hk : s0.Keeps s) : s0.Keeps (State.sledExpired s h) := by
  simp (maxDischargeDepth := 999) only [State.sledExpired, State.setRegI_keeps, State.loopOpen_keeps, State.modSled_keeps, hk]

theorem execHoldExpired_keeps (e l : Nat) (hk : s0.Keeps s) : s0.KeepsR (execHoldExpired e l s) := by
  simp (maxDischargeDepth := 999) only [execHoldExpired, keeps_ite, keepsR_ite, keepsR_next, State.windowExpired_keeps, State.headExpired_keeps, State.spdExpired_keeps, State.sledExpired_keeps, hk]

theorem execCoefHoldOverrun_keeps (e l : Nat) (hk : s0.Keeps s) : s0.KeepsR (execCoefHoldOverrun e l s) := by
  simp (maxDischargeDepth := 999) only [execCoefHoldOverrun, keepsR_ite, keepsR_next, State.note_keeps, State.modLp_keeps, State.raiseTrap_keeps, State.clearCause_keeps, hk]

theorem execFfBinUpdate_keeps (h table bin : Nat) (hk : s0.Keeps s) : s0.KeepsR (execFfBinUpdate h table bin s) := by
  simp (maxDischargeDepth := 999) only [execFfBinUpdate, keepsR_next, State.ffBinEnd_keeps, hk]

theorem execCaptureTrigger_keeps (e : Nat) (hk : s0.Keeps s) : s0.KeepsR (execCaptureTrigger e s) := by
  simp (maxDischargeDepth := 999) only [execCaptureTrigger, keepsR_ite, keepsR_next, State.modEng_keeps, hk]

theorem execCaptureDone_keeps (e : Nat) (hk : s0.Keeps s) : s0.KeepsR (execCaptureDone e s) := by
  simp (maxDischargeDepth := 999) only [execCaptureDone, keepsR_ite, keepsR_next, State.setRaw_keeps, State.modEng_keeps, State.endResult_keeps, hk]

theorem execCaptureTimeout_keeps (e : Nat) (hk : s0.Keeps s) : s0.KeepsR (execCaptureTimeout e s) := by
  simp (maxDischargeDepth := 999) only [execCaptureTimeout, keepsR_ite, keepsR_next, State.modEng_keeps, State.endResult_keeps, hk]

/-! ### Microwords -/

theorem State.directRequest_keeps (i v : Nat) (hk : s0.Keeps s) : s0.KeepsA (State.directRequest s i v) := by
  simp (maxDischargeDepth := 999) only [State.directRequest, keeps_ite, keepsA_ite, keepsA_ok, keepsA_error, State.modStn_keeps, State.beginResult_keeps, State.offerOrder_keeps, State.setLathe_keeps, State.raiseTrap_keeps, hk]

theorem execOrderDispatch_keeps (q : Nat) (hk : s0.Keeps s) : s0.KeepsR (execOrderDispatch q s) := by
  simp (maxDischargeDepth := 999) only [execOrderDispatch, keepsR_next, State.dispatch_keeps, hk]

theorem execOrderTimeout_keeps (q : Nat) (hk : s0.Keeps s) : s0.KeepsR (execOrderTimeout q s) := by
  unfold execOrderTimeout
  (repeat' split) <;> simp (maxDischargeDepth := 999) only [keepsR_next, State.raiseTrap_keeps, hk]

theorem execTrapEntry_keeps (q : Nat) (hk : s0.Keeps s) : s0.KeepsR (execTrapEntry q s) := by
  simp (maxDischargeDepth := 999) only [execTrapEntry, keepsR_next, State.takeTrap_keeps, State.spinLeft_keeps, hk]

theorem State.micro_keeps (e op d r imm : Nat) (reserved : Bool) (f : State → State) (hf : ∀ (s : State), s.Keeps (f s)) (hk : s0.Keeps s) : s0.KeepsR (State.micro s e op d r imm reserved f) := by
  simp (maxDischargeDepth := 999) only [State.micro, keeps_ite, keepsR_next, State.latheFault_keeps, State.spinLeft_keeps, hk, (fun (u : State) (hu : s0.Keeps u) => hu.trans (hf u))]

theorem State.goTo_keeps (e pc : Nat) (hk : s0.Keeps s) : s0.Keeps (State.goTo s e pc) := by
  simp (maxDischargeDepth := 999) only [State.goTo, State.modSq_keeps, State.seqView_keeps, hk]

theorem State.nextWord_keeps (e : Nat) (hk : s0.Keeps s) : s0.Keeps (State.nextWord s e) := by
  simp (maxDischargeDepth := 999) only [State.nextWord, State.goTo_keeps, hk]

theorem State.putM_keeps (e d : Nat) (v : BitVec 32) (hk : s0.Keeps s) : s0.Keeps (State.putM s e d v) := by
  simp (maxDischargeDepth := 999) only [State.putM, State.modSq_keeps, State.nextWord_keeps, hk]

theorem State.putFlags_keeps (e : Nat) (d : Option Nat) (o : FlagsOut) (hk : s0.Keeps s) : s0.Keeps (State.putFlags s e d o) := by
  simp (maxDischargeDepth := 999) only [State.putFlags, State.modSq_keeps, State.nextWord_keeps, hk]

theorem execNop_keeps (q imm : Nat) (hk : s0.Keeps s) : s0.KeepsR (execNop q imm s) := by
  simp (maxDischargeDepth := 999) only [execNop, State.keeps_refl, State.micro_keeps, State.nextWord_keeps, hk, implies_true]

theorem execJmp_keeps (q imm : Nat) (hk : s0.Keeps s) : s0.KeepsR (execJmp q imm s) := by
  simp (maxDischargeDepth := 999) only [execJmp, keeps_ite, State.keeps_refl, State.latheFault_keeps, State.micro_keeps, State.goTo_keeps, State.nextWord_keeps, hk, implies_true]

theorem State.push_keeps (e t : Nat) (hk : s0.Keeps s) : s0.Keeps (State.push s e t) := by
  simp (maxDischargeDepth := 999) only [State.push, keeps_ite, State.modSq_keeps, State.latheFault_keeps, State.goTo_keeps, hk]

theorem State.callOrder_keeps (e c : Nat) (hk : s0.Keeps s) : s0.Keeps (State.callOrder s e c) := by
  simp only [State.callOrder]
  (repeat' split) <;> simp (maxDischargeDepth := 999) only [State.modSq_keeps, State.orderRejected_keeps, State.latheFault_keeps, State.issue_keeps, State.goTo_keeps, State.nextWord_keeps, hk]

theorem execCall_keeps (q imm : Nat) (hk : s0.Keeps s) : s0.KeepsR (execCall q imm s) := by
  simp (maxDischargeDepth := 999) only [execCall, keeps_ite, State.keeps_refl, State.latheFault_keeps, State.micro_keeps, State.push_keeps, State.callOrder_keeps, hk, implies_true]

theorem execRet_keeps (q imm : Nat) (hk : s0.Keeps s) : s0.KeepsR (execRet q imm s) := by
  unfold execRet
  repeat' first
    | with_reducible exact hk
    | with_reducible exact State.keeps_refl _
    | intro _
    | with_reducible apply keeps_ite
    | with_reducible apply State.keeps_refl
    | with_reducible apply keepsR_ite
    | with_reducible apply keepsR_next
    | with_reducible apply State.modSq_keeps
    | with_reducible apply State.latheFault_keeps
    | with_reducible apply State.micro_keeps
    | with_reducible apply State.goTo_keeps
    | with_reducible refine keeps_of_fst (by assumption) ?_
    | with_reducible refine keeps_of_snd (by assumption) ?_
    | with_reducible refine keeps_of_ok (by assumption) ?_
    | split

theorem execLdi_keeps (q d imm : Nat) (hk : s0.Keeps s) : s0.KeepsR (execLdi q d imm s) := by
  simp (maxDischargeDepth := 999) only [execLdi, State.keeps_refl, State.micro_keeps, State.putM_keeps, hk, implies_true]

theorem execLui_keeps (q d imm : Nat) (hk : s0.Keeps s) : s0.KeepsR (execLui q d imm s) := by
  simp (maxDischargeDepth := 999) only [execLui, State.keeps_refl, State.micro_keeps, State.putM_keeps, hk, implies_true]

theorem execMov_keeps (q d r imm : Nat) (hk : s0.Keeps s) : s0.KeepsR (execMov q d r imm s) := by
  simp (maxDischargeDepth := 999) only [execMov, State.keeps_refl, State.micro_keeps, State.putM_keeps, hk, implies_true]

theorem execAdd_keeps (q d r imm : Nat) (hk : s0.Keeps s) : s0.KeepsR (execAdd q d r imm s) := by
  simp (maxDischargeDepth := 999) only [execAdd, State.keeps_refl, State.micro_keeps, State.putFlags_keeps, hk, implies_true]

theorem execSub_keeps (q d r imm : Nat) (hk : s0.Keeps s) : s0.KeepsR (execSub q d r imm s) := by
  simp (maxDischargeDepth := 999) only [execSub, State.keeps_refl, State.micro_keeps, State.putFlags_keeps, hk, implies_true]

theorem execAddi_keeps (q d imm : Nat) (hk : s0.Keeps s) : s0.KeepsR (execAddi q d imm s) := by
  simp (maxDischargeDepth := 999) only [execAddi, State.keeps_refl, State.micro_keeps, State.putFlags_keeps, hk, implies_true]

theorem execAnd_keeps (q d r imm : Nat) (hk : s0.Keeps s) : s0.KeepsR (execAnd q d r imm s) := by
  simp (maxDischargeDepth := 999) only [execAnd, State.keeps_refl, State.micro_keeps, State.putFlags_keeps, hk, implies_true]

theorem execOr_keeps (q d r imm : Nat) (hk : s0.Keeps s) : s0.KeepsR (execOr q d r imm s) := by
  simp (maxDischargeDepth := 999) only [execOr, State.keeps_refl, State.micro_keeps, State.putFlags_keeps, hk, implies_true]

theorem execXor_keeps (q d r imm : Nat) (hk : s0.Keeps s) : s0.KeepsR (execXor q d r imm s) := by
  simp (maxDischargeDepth := 999) only [execXor, State.keeps_refl, State.micro_keeps, State.putFlags_keeps, hk, implies_true]

theorem execShift_keeps (q d imm : Nat) (hk : s0.Keeps s) : s0.KeepsR (execShift q d imm s) := by
  simp (maxDischargeDepth := 999) only [execShift, State.keeps_refl, State.micro_keeps, State.putFlags_keeps, hk, implies_true]

theorem execMul_keeps (q d r imm : Nat) (hk : s0.Keeps s) : s0.KeepsR (execMul q d r imm s) := by
  simp (maxDischargeDepth := 999) only [execMul, State.keeps_refl, State.micro_keeps, State.putFlags_keeps, hk, implies_true]

theorem execCmp_keeps (q d r imm : Nat) (hk : s0.Keeps s) : s0.KeepsR (execCmp q d r imm s) := by
  simp (maxDischargeDepth := 999) only [execCmp, State.keeps_refl, State.micro_keeps, State.putFlags_keeps, hk, implies_true]

theorem execCmpi_keeps (q d imm : Nat) (hk : s0.Keeps s) : s0.KeepsR (execCmpi q d imm s) := by
  simp (maxDischargeDepth := 999) only [execCmpi, State.keeps_refl, State.micro_keeps, State.putFlags_keeps, hk, implies_true]

theorem State.waitFor_keeps (e : Nat) (w : Wait) (hk : s0.Keeps s) : s0.Keeps (State.waitFor s e w) := by
  simp (maxDischargeDepth := 999) only [State.waitFor, State.modSq_keeps, State.seqView_keeps, State.armedView_keeps, hk]

theorem execWait_keeps (q imm : Nat) (hk : s0.Keeps s) : s0.KeepsR (execWait q imm s) := by
  simp (maxDischargeDepth := 999) only [execWait, State.keeps_refl, State.micro_keeps, State.waitFor_keeps, hk, implies_true]

theorem execWaitExpiry_keeps (q : Nat) (hk : s0.Keeps s) : s0.KeepsR (execWaitExpiry q s) := by
  unfold execWaitExpiry
  (repeat' split) <;> simp (maxDischargeDepth := 999) only [keepsR_next, State.modSq_keeps, State.seqView_keeps, hk]

theorem execWaite_keeps (q r imm : Nat) (hk : s0.Keeps s) : s0.KeepsR (execWaite q r imm s) := by
  simp (maxDischargeDepth := 999) only [execWaite, State.keeps_refl, State.modSq_keeps, State.micro_keeps, State.waitFor_keeps, hk, implies_true]

theorem execWaiteCondition_keeps (q n : Nat) (hk : s0.Keeps s) : s0.KeepsR (execWaiteCondition q n s) := by
  unfold execWaiteCondition
  (repeat' split) <;> simp (maxDischargeDepth := 999) only [keepsR_next, State.modSq_keeps, State.seqView_keeps, hk]

theorem execEvt_keeps (q d imm : Nat) (hk : s0.Keeps s) : s0.KeepsR (execEvt q d imm s) := by
  simp (maxDischargeDepth := 999) only [execEvt, State.keeps_refl, State.modSq_keeps, State.micro_keeps, State.putM_keeps, hk, implies_true]

theorem execStrb_keeps (q imm : Nat) (hk : s0.Keeps s) : s0.KeepsR (execStrb q imm s) := by
  simp (maxDischargeDepth := 999) only [execStrb, State.keeps_refl, State.micro_keeps, State.waitFor_keeps, hk, implies_true]

theorem execPost_keeps (q r imm : Nat) (hk : s0.Keeps s) : s0.KeepsR (execPost q r imm s) := by
  simp (maxDischargeDepth := 999) only [execPost, State.keeps_refl, State.note_keeps, State.micro_keeps, State.nextWord_keeps, hk, implies_true]

theorem execOdone_keeps (q r imm : Nat) (hk : s0.Keeps s) : s0.KeepsR (execOdone q r imm s) := by
  simp (maxDischargeDepth := 999) only [execOdone, State.keeps_refl, State.orderDone_keeps, State.micro_keeps, hk, implies_true]

theorem execOfail_keeps (q r imm : Nat) (hk : s0.Keeps s) : s0.KeepsR (execOfail q r imm s) := by
  simp (maxDischargeDepth := 999) only [execOfail, State.keeps_refl, State.orderFailed_keeps, State.micro_keeps, hk, implies_true]

theorem execOrej_keeps (q imm : Nat) (hk : s0.Keeps s) : s0.KeepsR (execOrej q imm s) := by
  simp (maxDischargeDepth := 999) only [execOrej, State.keeps_refl, State.orderRejected_keeps, State.micro_keeps, hk, implies_true]

theorem State.trapReturn_keeps (e form code : Nat) (hk : s0.Keeps s) : s0.Keeps (State.trapReturn s e form code) := by
  unfold State.trapReturn
  (repeat' split) <;> simp (maxDischargeDepth := 999) only [State.modSq_keeps, State.seqView_keeps, State.offerOrder_keeps, State.endWhole_keeps, State.latheFault_keeps, hk]

theorem execTrapret_keeps (q imm : Nat) (hk : s0.Keeps s) : s0.KeepsR (execTrapret q imm s) := by
  simp (maxDischargeDepth := 999) only [execTrapret, keeps_ite, State.keeps_refl, State.latheFault_keeps, State.micro_keeps, State.trapReturn_keeps, hk, implies_true]

theorem State.headOnly_keeps (e : Nat) (f : State → State) (hf : ∀ (s : State), s.Keeps (f s)) (hk : s0.Keeps s) : s0.Keeps (State.headOnly s e f) := by
  unfold State.headOnly; exact keeps_ite (hk.trans (hf _)) (State.latheRefuse_keeps _ _ hk)

theorem execLcmd_keeps (q d imm : Nat) (hk : s0.Keeps s) : s0.KeepsR (execLcmd q d imm s) := by
  unfold execLcmd
  repeat' first
    | with_reducible exact hk
    | with_reducible exact State.keeps_refl _
    | with_reducible intro _
    | with_reducible apply keeps_ite
    | with_reducible apply State.keeps_refl
    | with_reducible apply keepsR_ite
    | with_reducible apply keepsR_next
    | with_reducible apply State.latheRefuse_keeps
    | with_reducible apply State.loopCommand_keeps
    | with_reducible apply State.micro_keeps
    | with_reducible apply State.nextWord_keeps
    | with_reducible refine keeps_of_fst (by assumption) ?_
    | with_reducible refine keeps_of_snd (by assumption) ?_
    | with_reducible refine keeps_of_ok (by assumption) ?_
    | with_reducible refine keeps_of_some (by assumption) ?_
    | (simp (maxDischargeDepth := 999) only [keeps_ite, keeps_mk, State.keeps_refl, keepsR_ite, keepsR_next, State.latheRefuse_keeps, State.loopCommand_keeps, State.micro_keeps, State.nextWord_keeps, hk, implies_true]; done)
    | split

theorem execHold_keeps (q imm : Nat) (hk : s0.Keeps s) : s0.KeepsR (execHold q imm s) := by
  simp (maxDischargeDepth := 999) only [execHold, keeps_ite, State.keeps_refl, State.forEach_keeps, State.modLp_keeps, State.setCause_keeps, State.clearCause_keeps, State.micro_keeps, State.nextWord_keeps, hk, implies_true]

theorem execLaser_keeps (q imm : Nat) (hk : s0.Keeps s) : s0.KeepsR (execLaser q imm s) := by
  simp (maxDischargeDepth := 999) only [execLaser, keeps_ite, State.keeps_refl, State.forEach_keeps, State.latheRefuse_keeps, State.laserOn_keeps, State.lasersOff_keeps, State.micro_keeps, State.nextWord_keeps, State.headOnly_keeps, hk, implies_true]

theorem execPkl_keeps (q r imm : Nat) (hk : s0.Keeps s) : s0.KeepsR (execPkl q r imm s) := by
  simp (maxDischargeDepth := 999) only [execPkl, keeps_ite, State.keeps_refl, State.orderRejected_keeps, State.sendPkl_keeps, State.micro_keeps, State.nextWord_keeps, State.headOnly_keeps, hk, implies_true]

theorem execProf_keeps (q d r imm : Nat) (hk : s0.Keeps s) : s0.KeepsR (execProf q d r imm s) := by
  simp (maxDischargeDepth := 999) only [execProf, keeps_ite, State.keeps_refl, State.setReg_keeps, State.latheRefuse_keeps, State.sledProfile_keeps, State.startStroke_keeps, State.micro_keeps, State.nextWord_keeps, hk, implies_true]

theorem execStorePatrol_keeps (st : Nat) (single : Bool) (hk : s0.Keeps s) : s0.KeepsR (execStorePatrol st single s) := by
  simp (maxDischargeDepth := 999) only [execStorePatrol, keeps_ite, keeps_mk, keepsR_next, State.bump_keeps, hk]

theorem State.storeLost_keeps (st addr : Nat) (fetch : Bool) (by_ : Nat) (same : Bool) (hk : s0.Keeps s) : s0.Keeps (State.storeLost s st addr fetch by_ same) := by
  simp (maxDischargeDepth := 999) only [State.storeLost, keeps_ite, State.bump_keeps, State.latheFault_keeps, State.headDrop_keeps, State.reacquire_keeps, State.spinLeft_keeps, State.lossFreewheel_keeps, State.storeMismatch_keeps, hk]

theorem execStoreUncorrectable_keeps (st addr : Nat) (fetch : Bool) (by_ : Nat) (same : Bool) (hk : s0.Keeps s) : s0.KeepsR (execStoreUncorrectable st addr fetch by_ same s) := by
  simp (maxDischargeDepth := 999) only [execStoreUncorrectable, keeps_ite, keepsR_next, State.storeLost_keeps, hk]

end Sys2Proof.Machine
end

