-- ==== Sys2Proof/Laws/Keeps4.lean ====
section
/-! SUPPORT. No operation of these files breaks what Laws/Keeps.lean says every command keeps: Write, Power, Ring, Admin, Hbm. -/

namespace Sys2Proof.Machine

variable {s0 s t : State}

/-! ### Write -/

theorem State.placeFailed_keeps (h c : Nat) (hk : s0.Keeps s) : s0.Keeps (State.placeFailed s h c) := by
  simp (maxDischargeDepth := 999) only [State.placeFailed, State.bump_keeps, State.modHd_keeps, State.unverified_keeps, State.failFlushes_keeps, State.settle_keeps, hk]

theorem State.replaceCluster_keeps (h c : Nat) (hk : s0.Keeps s) : s0.Keeps (State.replaceCluster s h c) := by
  unfold State.replaceCluster
  (repeat' split) <;> simp (maxDischargeDepth := 999) only [keeps_ite, State.modHd_keeps, State.modNs_keeps, State.unverified_keeps, State.settle_keeps, State.replace_keeps, State.placeFailed_keeps, hk]

theorem State.allocRedo_keeps (h : Nat) (hk : s0.Keeps s) : s0.Keeps (State.allocRedo s h) := by
  simp (maxDischargeDepth := 999) only [State.allocRedo, State.keeps_refl, State.forEach_keeps, State.modHd_keeps, State.replaceCluster_keeps, hk, implies_true]

theorem State.sendLevels_keeps (h layer mask : Nat) (hk : s0.Keeps s) : s0.Keeps (State.sendLevels s h layer mask) := by
  simp (maxDischargeDepth := 999) only [State.sendLevels, keeps_ite, State.keeps_refl, State.setReg_keeps, State.setRegs_keeps, State.forEach_keeps, State.modHd_keeps, State.sendPkl_keeps, hk, implies_true]

theorem State.lanesIdle_keeps (h : Nat) (hk : s0.Keeps s) : s0.Keeps (State.lanesIdle s h) := by
  simp (maxDischargeDepth := 999) only [State.lanesIdle, State.setReg_keeps, hk]

theorem State.dropBand_keeps (h code : Nat) (hk : s0.Keeps s) : s0.Keeps (State.dropBand s h code) := by
  simp (maxDischargeDepth := 999) only [State.dropBand, State.setReg_keeps, State.modHd_keeps, State.orderFailed_keeps, State.lanesIdle_keeps, hk]

theorem State.layDown_keeps (h b : Nat) (l : List (Nat × List Byte)) (hk : s0.Keeps s) : s0.Keeps (State.layDown s h b l) := by
  simp (maxDischargeDepth := 999) only [State.layDown, keeps_ite, State.emit_keeps, hk]

theorem State.layTest_keeps (h b pl : Nat) (hk : s0.Keeps s) : s0.Keeps (State.layTest s h b pl) := by
  simp (maxDischargeDepth := 999) only [State.layTest, State.addReg_keeps, State.layDown_keeps, hk]

theorem State.beginCluster_keeps (h b : Nat) (c : Option Nat) (hk : s0.Keeps s) : s0.Keeps (State.beginCluster s h b c) := by
  simp only [State.beginCluster]
  (repeat' split) <;> simp (maxDischargeDepth := 999) only [State.addReg_keeps, State.modHd_keeps, State.setLane_keeps, State.layDown_keeps, hk]

theorem State.beginWriting_keeps (h : Nat) (hk : s0.Keeps s) : s0.Keeps (State.beginWriting s h) := by
  simp (maxDischargeDepth := 999) only [State.beginWriting, keeps_ite, State.setReg_keeps, State.modHd_keeps, State.setSubstate_keeps, State.openAtDrive_keeps, hk]

theorem State.writeStart_keeps (h : Nat) (ev : WriteEvent) (hk : s0.Keeps s) : s0.Keeps (State.writeStart s h ev) := by
  simp only [State.writeStart]
  (repeat' split) <;> simp (maxDischargeDepth := 999) only [State.keeps_refl, State.forEach_keeps, State.setRegs_keeps, State.modHd_keeps, State.modSq_keeps, State.orderDone_keeps, State.orderRejected_keeps, State.setLane_keeps, State.allocRedo_keeps, State.sendLevels_keeps, State.dropBand_keeps, State.layTest_keeps, State.beginCluster_keeps, State.beginWriting_keeps, hk, implies_true]

theorem execWriteStart_keeps (h : Nat) (ev : WriteEvent) (hk : s0.Keeps s) : s0.KeepsR (execWriteStart h ev s) := by
  simp (maxDischargeDepth := 999) only [execWriteStart, keepsR_next, State.writeStart_keeps, hk]

theorem State.tailWritten_keeps (c : Nat) (hk : s0.Keeps s) : s0.Keeps (State.tailWritten s c) := by
  simp only [State.tailWritten]
  (repeat' split) <;> simp (maxDischargeDepth := 999) only [State.bump_keeps, State.modSide_keeps, hk]

theorem State.recorded_keeps (h c : Nat) (hk : s0.Keeps s) : s0.Keeps (State.recorded s h c) := by
  simp (maxDischargeDepth := 999) only [State.recorded, State.modHd_keeps, State.modSide_keeps, hk]

theorem State.clusterWritten_keeps (h c : Nat) (hk : s0.Keeps s) : s0.Keeps (State.clusterWritten s h c) := by
  simp (maxDischargeDepth := 999) only [State.clusterWritten, keeps_ite, State.bump_keeps, State.modHd_keeps, State.verified_keeps, State.settle_keeps, State.tailWritten_keeps, State.recorded_keeps, hk]

theorem State.bufferChecks_keeps (h : Nat) (l : Line) (hk : s0.Keeps s) : s0.Keeps (State.bufferChecks s h l) := by
  simp (maxDischargeDepth := 999) only [State.bufferChecks, keeps_ite, State.keeps_refl, State.forEach_keeps, State.bump_keeps, State.note_keeps, State.integrityEntry_keeps, hk, implies_true]

theorem State.takeBuffer_keeps (h b c : Nat) (l : Line) (hk : s0.Keeps s) : s0.Keeps (State.takeBuffer s h b c l) := by
  simp only [State.takeBuffer]
  (repeat' split) <;> simp (maxDischargeDepth := 999) only [State.modHd_keeps, State.beginCluster_keeps, State.beginWriting_keeps, State.clusterWritten_keeps, hk]

theorem State.retail_keeps (h nsid cl : Nat) (hk : s0.Keeps s) : s0.Keeps (State.retail s h nsid cl) := by
  unfold State.retail
  (repeat' split) <;> simp (maxDischargeDepth := 999) only [State.modSide_keeps, State.replaceCluster_keeps, hk]

theorem State.avoidDefect_keeps (h nsid cl : Nat) (hk : s0.Keeps s) : s0.Keeps (State.avoidDefect s h nsid cl) := by
  simp only [State.avoidDefect]
  (repeat' split) <;> simp (maxDischargeDepth := 999) only [State.replaceCluster_keeps, hk]

theorem State.clusterBuffered_keeps (h b nsid cl : Nat) (late : Bool) (hk : s0.Keeps s) : s0.Keeps (State.clusterBuffered s h b nsid cl late) := by
  simp only [State.clusterBuffered]
  (repeat' split) <;> simp (maxDischargeDepth := 999) only [State.bump_keeps, State.modLine_keeps, State.queueFill_keeps, State.unverified_keeps, State.allocRedo_keeps, State.bufferChecks_keeps, State.takeBuffer_keeps, State.retail_keeps, State.avoidDefect_keeps, hk]

theorem execClusterBuffered_keeps (h b nsid cl : Nat) (late : Bool) (hk : s0.Keeps s) : s0.KeepsR (execClusterBuffered h b nsid cl late s) := by
  simp (maxDischargeDepth := 999) only [execClusterBuffered, keepsR_next, State.clusterBuffered_keeps, hk]

theorem State.closeBand_keeps (h : Nat) (every : Bool) (hk : s0.Keeps s) : s0.Keeps (State.closeBand s h every) := by
  unfold State.closeBand
  repeat' first
    | with_reducible exact hk
    | with_reducible exact State.keeps_refl _
    | intro _
    | with_reducible apply keeps_ite
    | with_reducible apply State.keeps_refl
    | with_reducible apply State.forEach_keeps
    | with_reducible apply State.addReg_keeps
    | with_reducible apply State.bump_keeps
    | with_reducible apply State.modHd_keeps
    | with_reducible apply State.unverified_keeps
    | with_reducible apply State.lanesIdle_keeps
    | with_reducible apply State.clusterWritten_keeps
    | with_reducible refine keeps_of_fst (by assumption) ?_
    | with_reducible refine keeps_of_snd (by assumption) ?_
    | with_reducible refine keeps_of_ok (by assumption) ?_
    | split

theorem State.moveBack_keeps (h n : Nat) (hk : s0.Keeps s) : s0.Keeps (State.moveBack s h n) := by
  simp (maxDischargeDepth := 999) only [State.moveBack, keeps_ite, State.setRegs_keeps, State.issue_keeps, hk]

theorem State.jumpBack_keeps (h tracks : Nat) (hk : s0.Keeps s) : s0.Keeps (State.jumpBack s h tracks) := by
  simp (maxDischargeDepth := 999) only [State.jumpBack, State.moveBack_keeps, hk]

theorem State.passChange_keeps (h : Nat) (hk : s0.Keeps s) : s0.Keeps (State.passChange s h) := by
  simp (maxDischargeDepth := 999) only [State.passChange, keeps_ite, State.moveBack_keeps, hk]

theorem State.endBand_keeps (h : Nat) (every : Bool) (hk : s0.Keeps s) : s0.Keeps (State.endBand s h every) := by
  simp only [State.endBand]
  (repeat' split) <;> simp (maxDischargeDepth := 999) only [State.keeps_refl, State.setReg_keeps, State.forEach_keeps, State.modHd_keeps, State.setSubstate_keeps, State.modSide_keeps, State.allocRedo_keeps, State.closeBand_keeps, State.jumpBack_keeps, State.passChange_keeps, hk, implies_true]

theorem execBandEnd_keeps (h : Nat) (hk : s0.Keeps s) : s0.KeepsR (execBandEnd h s) := by
  unfold execBandEnd
  (repeat' split) <;> simp (maxDischargeDepth := 999) only [keepsR_next, State.endBand_keeps, hk]

theorem execWriteStop_keeps (h : Nat) (closed : Bool) (hk : s0.Keeps s) : s0.KeepsR (execWriteStop h closed s) := by
  simp (maxDischargeDepth := 999) only [execWriteStop, keeps_ite, keepsR_next, State.modHd_keeps, State.modSq_keeps, State.orderDone_keeps, State.endBand_keeps, hk]

theorem execGateReopen_keeps (h : Nat) (hk : s0.Keeps s) : s0.KeepsR (execGateReopen h s) := by
  unfold execGateReopen
  (repeat' split) <;> simp (maxDischargeDepth := 999) only [State.keeps_refl, keepsR_next, State.setReg_keeps, State.forEach_keeps, State.modHd_keeps, State.setLane_keeps, hk, implies_true]

theorem execFollow_keeps (h : Nat) (ev : FollowEvent) (hk : s0.Keeps s) : s0.KeepsR (execFollow h ev s) := by
  simp (maxDischargeDepth := 999) only [execFollow, keeps_ite, keepsR_next, State.bump_keeps, State.follow_keeps, State.jumpBack_keeps, hk]

theorem execGate_keeps (q imm : Nat) (hk : s0.Keeps s) : s0.KeepsR (execGate q imm s) := by
  unfold execGate
  repeat' first
    | with_reducible exact hk
    | with_reducible exact State.keeps_refl _
    | intro _
    | with_reducible apply keeps_ite
    | with_reducible apply State.keeps_refl
    | with_reducible apply keepsR_ite
    | with_reducible apply keepsR_next
    | with_reducible apply State.forEach_keeps
    | with_reducible apply State.orderRejected_keeps
    | with_reducible apply State.latheRefuse_keeps
    | with_reducible apply State.cutBeam_keeps
    | with_reducible apply State.gatesView_keeps
    | with_reducible apply State.micro_keeps
    | with_reducible apply State.nextWord_keeps
    | with_reducible apply State.beginCluster_keeps
    | with_reducible apply State.beginWriting_keeps
    | with_reducible refine keeps_of_fst (by assumption) ?_
    | with_reducible refine keeps_of_snd (by assumption) ?_
    | with_reducible refine keeps_of_ok (by assumption) ?_
    | split

theorem State.calBeam_keeps (h layer : Nat) (x : BeamCal) (hk : s0.Keeps s) : s0.Keeps (State.calBeam s h layer x).1 := by
  simp only [State.calBeam]
  (repeat' split) <;> simp (maxDischargeDepth := 999) only [State.setReg_keeps, State.setRegs_keeps, hk]

theorem State.calResult_keeps (h code place done : Nat) (hk : s0.Keeps s) : s0.Keeps (State.calResult s h code place done) := by
  simp (maxDischargeDepth := 999) only [State.calResult, keeps_ite, State.setReg_keeps, State.modHd_keeps, State.endResult_keeps, State.orderDone_keeps, State.orderFailed_keeps, hk]

theorem State.powerCal_keeps (h : Nat) (ev : PowerCalEvent) (hk : s0.Keeps s) : s0.Keeps (State.powerCal s h ev) := by
  unfold State.powerCal
  refine keeps_ite hk ?_
  extract_lets i layer p addr bs outer place at_ s1 s2 s3 s4
  have h1 : s0.Keeps s1 := State.beginResult_keeps _ hk
  have h3 : s0.Keeps s3 := State.forEach_keeps _ _ (fun s x => State.layTest_keeps _ _ _ s.keeps_refl)
    (State.sendPkl_keeps _ _ _ (State.sendLevels_keeps _ _ _ h1))
  have h4 : s0.Keeps s4 := by
    simp (maxDischargeDepth := 999) only [s4, keeps_ite, State.modHd_keeps, State.endResult_keeps, hk]
  refine keeps_ite (keeps_ite (keeps_ite (State.calResult_keeps _ _ _ _ h1)
    (State.modSq_keeps _ _ (State.setReg_keeps _ _ (State.modHd_keeps _ _ h3)))) (State.orderRejected_keeps _ _ h4)) ?_
  split
  · exact hk
  · extract_lets l' s6 r
    have h6 : s0.Keeps s6 := State.forEach_keeps _ _ (fun s x => State.modSide_keeps _ _ s.keeps_refl) (State.setReg_keeps _ _ hk)
    have h7 : s0.Keeps r.1 := foldlFst_keeps l' (fun (r : State × Bool) x => let q := r.1.calBeam h layer x; (q.1, r.2 || q.2))
      (fun a x => State.calBeam_keeps _ _ _ a.1.keeps_refl) (p := (s6, false)) h6
    exact keeps_ite (State.calResult_keeps _ _ _ _ (State.setRegs_keeps _ h7)) (State.calResult_keeps _ _ _ _ h7)

theorem execPowerCal_keeps (h : Nat) (ev : PowerCalEvent) (hk : s0.Keeps s) : s0.KeepsR (execPowerCal h ev s) := by
  simp (maxDischargeDepth := 999) only [execPowerCal, keepsR_next, State.powerCal_keeps, hk]

theorem execPklAckTimeout_keeps (h : Nat) (hk : s0.Keeps s) : s0.KeepsR (execPklAckTimeout h s) := by
  simp (maxDischargeDepth := 999) only [execPklAckTimeout, keeps_ite, keepsR_next, State.dropBand_keeps, State.calResult_keeps, hk]

theorem State.opcRun_keeps (h : Nat) (hk : s0.Keeps s) : s0.Keeps (State.opcRun s h) := by
  simp only [State.opcRun]
  (repeat' split) <;> simp (maxDischargeDepth := 999) only [State.setRegs_keeps, State.issue_keeps, hk]

theorem State.mediaOrder_keeps (e code param : Nat) (hk : s0.Keeps s) : s0.Keeps (State.mediaOrder s e code param) := by
  simp (maxDischargeDepth := 999) only [State.mediaOrder, keeps_ite, State.issue_keeps, State.opcRun_keeps, hk]

theorem execSchedulingPoint_keeps (st : Nat) (orders : List OrderReq) (hk : s0.Keeps s) : s0.KeepsR (execSchedulingPoint st orders s) := by
  simp (maxDischargeDepth := 999) only [execSchedulingPoint, keeps_ite, State.keeps_refl, keepsR_next, State.forEach_keeps, State.schedule_keeps, State.mediaOrder_keeps, hk, implies_true]

theorem State.adaptPower_keeps (h : Nat) (hk : s0.Keeps s) : s0.Keeps (State.adaptPower s h) := by
  simp (maxDischargeDepth := 999) only [State.adaptPower, keeps_ite, State.setRegs_keeps, State.modHd_keeps, hk]

theorem State.verifyResult_keeps (h b nsid cl : Nat) (bits : List Nat) (beta : Int) (hk : s0.Keeps s) : s0.Keeps (State.verifyResult s h b nsid cl bits beta) := by
  simp (maxDischargeDepth := 999) only [State.verifyResult, keeps_ite, keeps_mk, State.setReg_keeps, State.bump_keeps, State.modHd_keeps, State.verified_keeps, State.unverified_keeps, State.settle_keeps, State.replaceCluster_keeps, State.recorded_keeps, State.passChange_keeps, State.adaptPower_keeps, hk]

theorem execVerifyResult_keeps (h b nsid cl : Nat) (bits : List Nat) (beta : Int) (hk : s0.Keeps s) : s0.KeepsR (execVerifyResult h b nsid cl bits beta s) := by
  simp (maxDischargeDepth := 999) only [execVerifyResult, keepsR_next, State.verifyResult_keeps, hk]

/-! ### Power -/

theorem State.noteIgnored_keeps (k : Nat) (hk : s0.Keeps s) : s0.Keeps (State.noteIgnored s k) := by
  simp (maxDischargeDepth := 999) only [State.noteIgnored, State.note_keeps, hk]

theorem State.applyStored_keeps (want : Nat → Bool) (hk : s0.Keeps s) : s0.Keeps (State.applyStored s want) := by
  simp only [State.applyStored]
  (repeat' split) <;> simp (maxDischargeDepth := 999) only [State.keeps_refl, foldl_keeps, State.setReg_keeps, State.setRegs_keeps, State.setRaw_keeps, State.forEach_keeps, State.noteIgnored_keeps, hk, implies_true]

theorem State.loseData_keeps (hk : s0.Keeps s) : s0.Keeps (State.loseData s) := by
  simp (maxDischargeDepth := 999) only [State.loseData, keeps_mk, State.clearGranary_keeps, hk]

theorem State.loseStations_keeps (hk : s0.Keeps s) : s0.Keeps (State.loseStations s) := ⟨hk.part, hk.queue, hk.free, hk.out, hk.regs, hk.raws, fun _ => rfl⟩

theorem State.resetRegs_keeps (hk : s0.Keeps s) : s0.Keeps (State.resetRegs s) := State.applyStored_keeps _ (keeps_filter hk _ _)

theorem State.modHbm_keeps (f : Hbm → Hbm) (hk : s0.Keeps s) : s0.Keeps (State.modHbm s f) := by
  simp (maxDischargeDepth := 999) only [State.modHbm, keeps_mk, hk]

theorem State.sramWake_keeps (d : Nat) (hk : s0.Keeps s) : s0.Keeps (State.sramWake s d) := by
  simp (maxDischargeDepth := 999) only [State.sramWake, State.modHbm_keeps, hk]

theorem State.unitsReset_keeps (hk : s0.Keeps s) : s0.Keeps (State.unitsReset s) := by
  simp (maxDischargeDepth := 999) only [State.unitsReset, keeps_mk, State.modHbm_keeps, hk]

theorem State.stationsOff_keeps (hk : s0.Keeps s) : s0.Keeps (State.stationsOff s) := keeps_filterRegs hk _

theorem State.applyNode_keeps (node : Nat) (hk : s0.Keeps s) : s0.Keeps (State.applyNode s node) := by
  simp (maxDischargeDepth := 999) only [State.applyNode, State.setReg_keeps, State.setRegs_keeps, hk]

theorem State.dropLongMappings_keeps (hk : s0.Keeps s) : s0.Keeps (State.dropLongMappings s) := by
  simp (maxDischargeDepth := 999) only [State.dropLongMappings, keeps_ite, State.keeps_refl, State.setReg_keeps, State.forEach_keeps, State.noteIgnored_keeps, hk, implies_true]

theorem State.canApply_keeps (hk : s0.Keeps s) : s0.Keeps (State.canApply s) := by
  simp (maxDischargeDepth := 999) only [State.canApply, keeps_mk, State.setReg_keeps, State.applyNode_keeps, State.dropLongMappings_keeps, hk]

theorem State.canAnew_keeps (load : State → State) (hf : ∀ (s : State), s.Keeps (load s)) (hk : s0.Keeps s) : s0.Keeps (State.canAnew s load) := by
  simp (maxDischargeDepth := 999) only [State.canAnew, keeps_mk, State.canApply_keeps, hk, (fun (u : State) (hu : s0.Keeps u) => hu.trans (hf u))]

theorem State.canBoot_keeps (hk : s0.Keeps s) : s0.Keeps (State.canBoot s) := by
  simp (maxDischargeDepth := 999) only [State.canBoot, keeps_ite, keeps_mk, State.keeps_refl, State.forEach_keeps, State.emitOn_keeps, State.sendEmcy_keeps, hk, implies_true]

theorem State.canRom_keeps (hk : s0.Keeps s) : s0.Keeps (State.canRom s) := by
  simp (maxDischargeDepth := 999) only [State.canRom, State.applyNode_keeps, State.canBoot_keeps, hk]

theorem State.sampleStraps_keeps (t : Straps) (hk : s0.Keeps s) : s0.Keeps (State.sampleStraps s t) := by
  simp (maxDischargeDepth := 999) only [State.sampleStraps, State.setRegs_keeps, hk]

theorem State.modPower_keeps (f : Power → Power) (hk : s0.Keeps s) : s0.Keeps (State.modPower s f) := by
  simp (maxDischargeDepth := 999) only [State.modPower, keeps_mk, hk]

theorem State.beginRails_keeps (hk : s0.Keeps s) : s0.Keeps (State.beginRails s) := by
  simp (maxDischargeDepth := 999) only [State.beginRails, keeps_ite, State.setReg_keeps, hk]

theorem State.noteNoCopy_keeps (hk : s0.Keeps s) : s0.Keeps (State.noteNoCopy s) := by
  simp only [State.noteNoCopy]
  (repeat' split) <;> simp (maxDischargeDepth := 999) only [State.fresh_keeps, State.note_keeps, hk]

theorem State.windowsAnew_keeps (hk : s0.Keeps s) : s0.Keeps (State.windowsAnew s) := by
  simp (maxDischargeDepth := 999) only [State.windowsAnew, keeps_mk, hk]

theorem State.startUp_keeps (anew keepBank : Bool) (hk : s0.Keeps s) : s0.Keeps (State.startUp s anew keepBank) := by
  unfold State.startUp
  repeat' first
    | with_reducible exact hk
    | with_reducible exact State.keeps_refl _
    | with_reducible intro _
    | with_reducible apply keeps_ite
    | with_reducible apply State.setReg_keeps
    | with_reducible apply State.freezeRelease_keeps
    | with_reducible apply State.ledgerStartUp_keeps
    | with_reducible apply State.setPower_keeps
    | with_reducible apply State.updAll_keeps
    | with_reducible apply State.rebuildLog_keeps
    | with_reducible apply State.secReset_keeps
    | with_reducible apply State.secWake_keeps
    | with_reducible apply State.loseData_keeps
    | with_reducible apply State.loseStations_keeps
    | with_reducible apply State.resetRegs_keeps
    | with_reducible apply State.unitsReset_keeps
    | with_reducible apply State.stationsOff_keeps
    | with_reducible apply State.canAnew_keeps
    | with_reducible apply State.canBoot_keeps
    | with_reducible apply State.canRom_keeps
    | with_reducible apply State.modPower_keeps
    | with_reducible apply State.beginRails_keeps
    | with_reducible apply State.noteNoCopy_keeps
    | with_reducible apply State.windowsAnew_keeps
    | with_reducible refine keeps_of_fst (by assumption) ?_
    | with_reducible refine keeps_of_snd (by assumption) ?_
    | with_reducible refine keeps_of_ok (by assumption) ?_
    | with_reducible refine keeps_of_some (by assumption) ?_
    | (simp (maxDischargeDepth := 999) only [keeps_ite, keeps_mk, State.setReg_keeps, State.freezeRelease_keeps, State.ledgerStartUp_keeps, State.setPower_keeps, State.updAll_keeps, State.rebuildLog_keeps, State.secReset_keeps, State.secWake_keeps, State.loseData_keeps, State.loseStations_keeps, State.resetRegs_keeps, State.unitsReset_keeps, State.stationsOff_keeps, State.canAnew_keeps, State.canBoot_keeps, State.canRom_keeps, State.modPower_keeps, State.beginRails_keeps, State.noteNoCopy_keeps, State.windowsAnew_keeps, hk]; done)
    | split

theorem State.railsDown_keeps (hk : s0.Keeps s) : s0.Keeps (State.railsDown s) := by
  simp only [State.railsDown]
  (repeat' split) <;> simp (maxDischargeDepth := 999) only [keeps_ite, keeps_mk, State.keeps_refl, State.setReg_keeps, State.forEach_keeps, State.setPower_keeps, State.setDom_keeps, State.ringOff_keeps, State.loseData_keeps, State.loseStations_keeps, State.stationsOff_keeps, State.modPower_keeps, State.startUp_keeps, hk, implies_true]

theorem State.lowerRails_keeps (after : AfterPfw) (hk : s0.Keeps s) : s0.Keeps (State.lowerRails s after) := by
  simp (maxDischargeDepth := 999) only [State.lowerRails, keeps_ite, State.modPower_keeps, State.railsDown_keeps, hk]

theorem execRailDownStep_keeps (hk : s0.Keeps s) : s0.KeepsR (execRailDownStep s) := by
  unfold execRailDownStep
  (repeat' split) <;> simp (maxDischargeDepth := 999) only [keeps_ite, keepsR_next, State.setReg_keeps, State.railsDown_keeps, hk]

theorem execRailStepAdvance_keeps (k : Nat) (hk : s0.Keeps s) : s0.KeepsR (execRailStepAdvance k s) := by
  simp (maxDischargeDepth := 999) only [execRailStepAdvance, keeps_ite, keepsR_next, State.setReg_keeps, State.updAll_keeps, State.modPower_keeps, hk]

theorem State.dropActuators_keeps (hk : s0.Keeps s) : s0.Keeps (State.dropActuators s) := by
  simp (maxDischargeDepth := 999) only [State.dropActuators, State.keeps_refl, State.forEach_keeps, State.modStn_keeps, State.dropStationLoops_keeps, State.headDrop_keeps, State.dropSpin_keeps, State.cutStroke_keeps, hk, implies_true]

theorem State.abandonStore_keeps (hk : s0.Keeps s) : s0.Keeps (State.abandonStore s) := by
  unfold State.abandonStore
  (repeat' split) <;> simp (maxDischargeDepth := 999) only [keeps_mk, State.reply_keeps, hk]

theorem State.powerFail_keeps (after : AfterPfw) (shown : Nat) (hk : s0.Keeps s) : s0.Keeps (State.powerFail s after shown) := by
  simp (maxDischargeDepth := 999) only [State.powerFail, State.setReg_keeps, State.ledgerPowerFail_keeps, State.setPower_keeps, State.updAll_keeps, State.loseData_keeps, State.modPower_keeps, State.lowerRails_keeps, State.dropActuators_keeps, State.abandonStore_keeps, hk]

theorem execPfwNAssert_keeps (hk : s0.Keeps s) : s0.KeepsR (execPfwNAssert s) := by
  simp (maxDischargeDepth := 999) only [execPfwNAssert, keeps_ite, keepsR_next, State.ledgerPowerFail_keeps, State.modPower_keeps, State.powerFail_keeps, hk]

theorem execPfwLatchClear_keeps (hk : s0.Keeps s) : s0.KeepsR (execPfwLatchClear s) := by
  simp (maxDischargeDepth := 999) only [execPfwLatchClear, keeps_ite, keepsR_next, State.modPower_keeps, State.startUp_keeps, hk]

theorem execPgTimeout_keeps (hk : s0.Keeps s) : s0.KeepsR (execPgTimeout s) := by
  unfold execPgTimeout
  (repeat' split) <;> simp (maxDischargeDepth := 999) only [keeps_ite, keepsR_next, State.post_keeps, State.setPower_keeps, State.updAll_keeps, State.modPower_keeps, State.lowerRails_keeps, hk]

theorem execRailRetry_keeps (hk : s0.Keeps s) : s0.KeepsR (execRailRetry s) := by
  simp (maxDischargeDepth := 999) only [execRailRetry, keeps_ite, keepsR_next, State.modPower_keeps, State.beginRails_keeps, hk]

theorem execPgLoss_keeps (k : Nat) (hk : s0.Keeps s) : s0.KeepsR (execPgLoss k s) := by
  simp (maxDischargeDepth := 999) only [execPgLoss, keeps_ite, keepsR_next, State.setReg_keeps, State.note_keeps, State.modPower_keeps, State.powerFail_keeps, hk]

theorem execPgLossRestart_keeps (hk : s0.Keeps s) : s0.KeepsR (execPgLossRestart s) := by
  simp (maxDischargeDepth := 999) only [execPgLossRestart, keeps_ite, keepsR_next, State.modPower_keeps, State.startUp_keeps, hk]

theorem State.clockGood_keeps (hk : s0.Keeps s) : s0.Keeps (State.clockGood s) := by
  simp (maxDischargeDepth := 999) only [State.clockGood, State.setReg_keeps, hk]

theorem State.crystalLoss_keeps (hk : s0.Keeps s) : s0.Keeps (State.crystalLoss s) := by
  simp (maxDischargeDepth := 999) only [State.crystalLoss, keeps_ite, State.setReg_keeps, State.post_keeps, State.ledgerPowerFail_keeps, State.modPower_keeps, State.powerFail_keeps, hk]

theorem State.wake_keeps (cause : Nat) (hk : s0.Keeps s) : s0.Keeps (State.wake s cause) := by
  simp (maxDischargeDepth := 999) only [State.wake, State.setReg_keeps, State.modPower_keeps, State.startUp_keeps, hk]

theorem State.wakeBy_keeps (bit : Nat) (hk : s0.Keeps s) : s0.Keeps (State.wakeBy s bit) := by
  simp (maxDischargeDepth := 999) only [State.wakeBy, keeps_ite, State.modPower_keeps, State.wake_keeps, hk]

theorem execWakeGpio_keeps (n : Nat) (hk : s0.Keeps s) : s0.KeepsR (execWakeGpio n s) := by
  simp (maxDischargeDepth := 999) only [execWakeGpio, keeps_ite, keepsR_next, State.wakeBy_keeps, hk]

theorem execWakeCalendarAlarm_keeps (hk : s0.Keeps s) : s0.KeepsR (execWakeCalendarAlarm s) := by
  simp (maxDischargeDepth := 999) only [execWakeCalendarAlarm, keeps_ite, keepsR_next, State.wakeBy_keeps, hk]

theorem execWakeI2c_keeps (hk : s0.Keeps s) : s0.KeepsR (execWakeI2c s) := by
  simp (maxDischargeDepth := 999) only [execWakeI2c, keeps_ite, keepsR_next, State.wakeBy_keeps, hk]

theorem State.clockBack_keeps (hk : s0.Keeps s) : s0.Keeps (State.clockBack s) := by
  simp (maxDischargeDepth := 999) only [State.clockBack, keeps_ite, State.beginRails_keeps, State.clockGood_keeps, State.wake_keeps, hk]

theorem execCrystalStable_keeps (hk : s0.Keeps s) : s0.KeepsR (execCrystalStable s) := by
  simp (maxDischargeDepth := 999) only [execCrystalStable, keeps_ite, keepsR_next, State.clockBack_keeps, hk]

theorem State.powerCmd_keeps (v : Nat) (hk : s0.Keeps s) : s0.KeepsA (State.powerCmd s v) := by
  simp (maxDischargeDepth := 999) only [State.powerCmd, keepsA_ite, keepsA_ok, keepsA_error, State.setReg_keeps, State.setPower_keeps, State.updAll_keeps, State.modPower_keeps, State.startUp_keeps, State.lowerRails_keeps, State.wake_keeps, hk]

theorem State.resetAssert_keeps (hk : s0.Keeps s) : s0.Keeps (State.resetAssert s) := by
  simp (maxDischargeDepth := 999) only [State.resetAssert, keeps_ite, State.setReg_keeps, State.setPower_keeps, State.updAll_keeps, State.loseData_keeps, State.modPower_keeps, State.lowerRails_keeps, State.dropActuators_keeps, State.abandonStore_keeps, hk]

theorem State.resetRelease_keeps (hk : s0.Keeps s) : s0.Keeps (State.resetRelease s) := by
  simp (maxDischargeDepth := 999) only [State.resetRelease, keeps_ite, State.sampleStraps_keeps, State.modPower_keeps, State.startUp_keeps, hk]

theorem execResetNAssert_keeps (hk : s0.Keeps s) : s0.KeepsR (execResetNAssert s) := by
  simp (maxDischargeDepth := 999) only [execResetNAssert, keeps_ite, keepsR_next, State.modPower_keeps, State.resetAssert_keeps, hk]

theorem execResetNRelease_keeps (straps : Straps) (hk : s0.Keeps s) : s0.KeepsR (execResetNRelease straps s) := by
  simp (maxDischargeDepth := 999) only [execResetNRelease, keeps_ite, keepsR_next, State.sampleStraps_keeps, State.modPower_keeps, State.resetRelease_keeps, hk]

theorem execNvmSubsystemReset_keeps (perst : Bool) (hk : s0.Keeps s) : s0.KeepsR (execNvmSubsystemReset perst s) := by
  simp (maxDischargeDepth := 999) only [execNvmSubsystemReset, keeps_ite, keepsR_next, State.modPower_keeps, State.resetAssert_keeps, State.resetRelease_keeps, hk]

theorem execPerstNRelease_keeps (hk : s0.Keeps s) : s0.KeepsR (execPerstNRelease s) := by
  simp (maxDischargeDepth := 999) only [execPerstNRelease, keeps_ite, keepsR_next, State.modPower_keeps, State.resetRelease_keeps, hk]

theorem execVhearthLoss_keeps (hk : s0.Keeps s) : s0.KeepsR (execVhearthLoss s) := by
  unfold execVhearthLoss
  refine keepsR_next ?_
  split
  · exact hk
  · extract_lets s1
    have h1 : s0.Keeps s1 := State.unitsReset_keeps (State.loseStations_keeps (State.loseData_keeps (State.abandonStore_keeps hk)))
    clear_value s1
    exact (keeps_filter h1 _ _).trans (keeps_mk (s := { s1 with regs := s1.regs.filter _, raws := s1.raws.filter _ }) (State.keeps_refl _))

theorem execHearthPowerUp_keeps (straps : Straps) (fuse : Option Nat) (crc : List Nat) (hk : s0.Keeps s) : s0.KeepsR (execHearthPowerUp straps fuse crc s) := by
  simp only [execHearthPowerUp]
  (repeat' split) <;> simp (maxDischargeDepth := 999) only [keeps_mk, State.keeps_refl, keepsR_next, State.setReg_keeps, State.post_keeps, State.ledgerHearthUp_keeps, State.secReset_keeps, State.applyStored_keeps, State.canAnew_keeps, State.canRom_keeps, State.sampleStraps_keeps, State.modPower_keeps, hk, implies_true]

theorem State.ctrlsReady_keeps (hk : s0.Keeps s) : s0.Keeps (State.ctrlsReady s) := by
  simp (maxDischargeDepth := 999) only [State.ctrlsReady, State.modNvme_keeps, hk]

theorem State.bankRejected_keeps (n code : Nat) (hk : s0.Keeps s) : s0.Keeps (State.bankRejected s n code) := by
  simp (maxDischargeDepth := 999) only [State.bankRejected, State.setRegBit_keeps, State.post_keeps, hk]

theorem State.bankPassed_keeps (n : Nat) (f : FirmwareImage) (sealOk : Bool) (cust : Nat) (hk : s0.Keeps s) : s0.Keeps (State.bankPassed s n f sealOk cust) := by
  simp (maxDischargeDepth := 999) only [State.bankPassed, keeps_ite, keeps_mk, State.setReg_keeps, State.note_keeps, State.updAll_keeps, State.rebuildLog_keeps, State.unseal_keeps, State.runImage_keeps, State.canBoot_keeps, State.modPower_keeps, State.noteNoCopy_keeps, hk]

theorem State.enterRecovery_keeps (hk : s0.Keeps s) : s0.Keeps (State.enterRecovery s) := by
  simp (maxDischargeDepth := 999) only [State.enterRecovery, State.setPower_keeps, State.updAll_keeps, State.canRom_keeps, State.modPower_keeps, State.lowerRails_keeps, hk]

theorem execBootBankVerify_keeps (sel : Bool) (a b : BankRead) (sealOk : Bool) (cust : Nat) (hk : s0.Keeps s) : s0.KeepsR (execBootBankVerify sel a b sealOk cust s) := by
  simp only [execBootBankVerify]
  (repeat' split) <;> simp (maxDischargeDepth := 999) only [keeps_mk, keepsR_next, State.setRegBit_keeps, State.bankRejected_keeps, State.bankPassed_keeps, State.enterRecovery_keeps, hk]

theorem execHostReady_keeps (hk : s0.Keeps s) : s0.KeepsR (execHostReady s) := by
  simp only [execHostReady]
  (repeat' split) <;> simp (maxDischargeDepth := 999) only [State.keeps_refl, keepsR_next, State.setRegs_keeps, State.forEach_keeps, State.pinView_keeps, State.setPower_keeps, State.updAll_keeps, State.tempWake_keeps, State.raiseRollback_keeps, State.ctrlsReady_keeps, hk, implies_true]

theorem State.blockOff_keeps (d : Nat) (hk : s0.Keeps s) : s0.Keeps (State.blockOff s d) := by
  simp (maxDischargeDepth := 999) only [State.blockOff, keeps_ite, keeps_mk, State.keeps_refl, State.forEach_keeps, State.modStn_keeps, State.loopOff_keeps, State.dropStationLoops_keeps, State.laserOff_keeps, hk, implies_true]

theorem State.domainGated_keeps (d : Nat) (hk : s0.Keeps s) : s0.Keeps (State.domainGated s d) := by
  simp (maxDischargeDepth := 999) only [State.domainGated, keeps_ite, State.setDom_keeps, State.clockView_keeps, State.modPower_keeps, State.blockOff_keeps, hk]

theorem execDomainGateDone_keeps (d : Nat) (hk : s0.Keeps s) : s0.KeepsR (execDomainGateDone d s) := by
  simp (maxDischargeDepth := 999) only [execDomainGateDone, keeps_ite, keepsR_next, State.domainGated_keeps, hk]

theorem execSliceIdleGate_keeps (k : Nat) (hk : s0.Keeps s) : s0.KeepsR (execSliceIdleGate k s) := by
  simp (maxDischargeDepth := 999) only [execSliceIdleGate, keeps_ite, keepsR_next, State.updDomain_keeps, State.modPower_keeps, hk]

theorem execSecurityIdleGate_keeps (hk : s0.Keeps s) : s0.KeepsR (execSecurityIdleGate s) := by
  simp (maxDischargeDepth := 999) only [execSecurityIdleGate, keeps_ite, keepsR_next, State.endTempWake_keeps, hk]

theorem State.thresholds_keeps (was now : Int) (hk : s0.Keeps s) : s0.Keeps (State.thresholds s was now) := by
  simp (maxDischargeDepth := 999) only [State.thresholds, keeps_ite, State.keeps_refl, State.forEach_keeps, State.eventOn_keeps, hk, implies_true]

theorem execThermalRead_keeps (tj : Int) (temps : List Int) (hk : s0.Keeps s) : s0.KeepsR (execThermalRead tj temps s) := by
  simp (maxDischargeDepth := 999) only [execThermalRead, keeps_ite, keepsR_next, State.bump_keeps, State.setRegI_keeps, State.raiseEmcy_keeps, State.modPower_keeps, State.powerFail_keeps, State.thresholds_keeps, hk]

/-! ### Ring -/

theorem State.ringAll_keeps (kind : Nat) (f : List Nat) (hk : s0.Keeps s) : s0.Keeps (State.ringAll s kind f) := by
  simp (maxDischargeDepth := 999) only [State.ringAll, State.keeps_refl, State.forEach_keeps, State.ringSend_keeps, hk, implies_true]

theorem State.forward_keeps (p kind : Nat) (h : FrameHead) (f : List Nat) (d : List Block) (hk : s0.Keeps s) : s0.Keeps (State.forward s p kind h f d) := by
  simp (maxDischargeDepth := 999) only [State.forward, keeps_ite, State.bump_keeps, State.frameOut_keeps, hk]

theorem State.frameIn_keeps (p kind : Nat) (h : FrameHead) (crc : Bool) (f : List Nat) (d : List Block) (act : State → State) (hf : ∀ (s : State), s.Keeps (act s)) (hk : s0.Keeps s) : s0.Keeps (State.frameIn s p kind h crc f d act) := by
  simp (maxDischargeDepth := 999) only [State.frameIn, keeps_ite, State.bump_keeps, State.modRing_keeps, State.forward_keeps, hk, (fun (u : State) (hu : s0.Keeps u) => hu.trans (hf u))]

theorem State.sendRoster_keeps (hk : s0.Keeps s) : s0.Keeps (State.sendRoster s) := by
  simp (maxDischargeDepth := 999) only [State.sendRoster, State.ringAll_keeps, hk]

theorem State.sendVolumes_keeps (hk : s0.Keeps s) : s0.Keeps (State.sendVolumes s) := by
  simp (maxDischargeDepth := 999) only [State.sendVolumes, State.ringAll_keeps, hk]

theorem State.grantView_keeps (hk : s0.Keeps s) : s0.Keeps (State.grantView s) := by
  simp (maxDischargeDepth := 999) only [State.grantView, State.setReg_keeps, State.modRing_keeps, hk]

theorem State.takeRoster_keeps (es : List RosterEntry) (east west : Nat) (hk : s0.Keeps s) : s0.Keeps (State.takeRoster s es east west) := by
  simp (maxDischargeDepth := 999) only [State.takeRoster, State.setRegs_keeps, State.modRing_keeps, State.grantView_keeps, hk]

theorem State.startForming_keeps (hk : s0.Keeps s) : s0.Keeps (State.startForming s) := by
  simp (maxDischargeDepth := 999) only [State.startForming, keeps_ite, State.keeps_refl, State.setReg_keeps, State.setRegs_keeps, State.forEach_keeps, State.bump_keeps, State.modRing_keeps, State.setRingState_keeps, State.ringAll_keeps, hk, implies_true]

theorem execRingFormation_keeps (hk : s0.Keeps s) : s0.KeepsR (execRingFormation s) := by
  simp only [execRingFormation]
  (repeat' split) <;> simp (maxDischargeDepth := 999) only [State.keeps_refl, keepsR_next, State.setReg_keeps, State.fresh_keeps, State.forEach_keeps, State.post_keeps, State.modRing_keeps, State.ringSend_keeps, State.setRingState_keeps, State.takeRoster_keeps, hk, implies_true]

theorem State.discover_keeps (c : Candidate) (hk : s0.Keeps s) : s0.Keeps (State.discover s c) := by
  simp (maxDischargeDepth := 999) only [State.discover, keeps_ite, State.modRing_keeps, State.ringAll_keeps, State.startForming_keeps, hk]

theorem execDiscover_keeps (p : Nat) (hd : FrameHead) (crc : Bool) (c : Candidate) (hk : s0.Keeps s) : s0.KeepsR (execDiscover p hd crc c s) := by
  simp (maxDischargeDepth := 999) only [execDiscover, State.keeps_refl, keepsR_next, State.frameIn_keeps, State.discover_keeps, hk, implies_true]

theorem State.rosterIn_keeps (r : RosterIn) (hk : s0.Keeps s) : s0.Keeps (State.rosterIn s r) := by
  simp (maxDischargeDepth := 999) only [State.rosterIn, keeps_ite, State.setRingState_keeps, State.takeRoster_keeps, hk]

theorem execRoster_keeps (p : Nat) (hd : FrameHead) (crc : Bool) (r : RosterIn) (hk : s0.Keeps s) : s0.KeepsR (execRoster p hd crc r s) := by
  simp (maxDischargeDepth := 999) only [execRoster, State.keeps_refl, keepsR_next, State.frameIn_keeps, State.rosterIn_keeps, hk, implies_true]

theorem State.pumpGrants_keeps (hk : s0.Keeps s) : s0.Keeps (State.pumpGrants s) := by
  simp (maxDischargeDepth := 999) only [State.pumpGrants, State.keeps_refl, State.forEach_keeps, State.modRing_keeps, State.ringSend_keeps, State.grantView_keeps, hk, implies_true]

theorem State.resendMembers_keeps (hk : s0.Keeps s) : s0.Keeps (State.resendMembers s) := by
  unfold State.resendMembers
  repeat' first
    | with_reducible exact hk
    | with_reducible exact State.keeps_refl _
    | with_reducible intro _
    | with_reducible apply State.keeps_refl
    | with_reducible apply State.forEach_keeps
    | with_reducible apply State.askMember_keeps
    | with_reducible apply State.sendStaged_keeps
    | with_reducible refine keeps_of_fst (by assumption) ?_
    | with_reducible refine keeps_of_snd (by assumption) ?_
    | with_reducible refine keeps_of_ok (by assumption) ?_
    | with_reducible refine keeps_of_some (by assumption) ?_
    | (simp (maxDischargeDepth := 999) only [keeps_mk, State.keeps_refl, State.forEach_keeps, State.askMember_keeps, State.sendStaged_keeps, hk, implies_true]; done)
    | split

theorem State.probeBack_keeps (rtt : Nat) (hk : s0.Keeps s) : s0.Keeps (State.probeBack s rtt) := by
  simp (maxDischargeDepth := 999) only [State.probeBack, keeps_ite, State.setReg_keeps, State.setRingState_keeps, State.sendRoster_keeps, State.sendVolumes_keeps, State.pumpGrants_keeps, State.resendMembers_keeps, hk]

theorem execRingProbe_keeps (p : Nat) (hd : FrameHead) (crc : Bool) (rtt : Nat) (hk : s0.Keeps s) : s0.KeepsR (execRingProbe p hd crc rtt s) := by
  simp (maxDischargeDepth := 999) only [execRingProbe, State.keeps_refl, keepsR_next, State.frameIn_keeps, State.probeBack_keeps, hk, implies_true]

theorem State.foldNotice_keeps (serial : Nat) (east : Bool) (hk : s0.Keeps s) : s0.Keeps (State.foldNotice s serial east) := by
  simp (maxDischargeDepth := 999) only [State.foldNotice, keeps_ite, State.setReg_keeps, State.bump_keeps, State.setRingState_keeps, State.sendRoster_keeps, State.startForming_keeps, hk]

theorem execFoldNotice_keeps (p : Nat) (hd : FrameHead) (crc : Bool) (serial : Nat) (east : Bool) (hk : s0.Keeps s) : s0.KeepsR (execFoldNotice p hd crc serial east s) := by
  simp (maxDischargeDepth := 999) only [execFoldNotice, keeps_ite, State.keeps_refl, keepsR_next, State.frameIn_keeps, State.foldNotice_keeps, hk, implies_true]

theorem State.ringLinkLost_keeps (p : Nat) (hk : s0.Keeps s) : s0.Keeps (State.ringLinkLost s p) := by
  simp (maxDischargeDepth := 999) only [State.ringLinkLost, keeps_ite, State.keeps_refl, State.setReg_keeps, State.setRegs_keeps, State.forEach_keeps, State.bump_keeps, State.modRing_keeps, State.frameOut_keeps, State.ringSend_keeps, State.setRingState_keeps, State.startForming_keeps, State.foldNotice_keeps, hk, implies_true]

theorem execRingLinkBroken_keeps (p : Nat) (hk : s0.Keeps s) : s0.KeepsR (execRingLinkBroken p s) := by
  simp (maxDischargeDepth := 999) only [execRingLinkBroken, keepsR_next, State.ringLinkLost_keeps, hk]

theorem State.linkFresh_keeps (p : Nat) (hk : s0.Keeps s) : s0.Keeps (State.linkFresh s p) := by
  simp (maxDischargeDepth := 999) only [State.linkFresh, State.modRing_keeps, hk]

theorem execRingLinkRetrain_keeps (p peer : Nat) (hk : s0.Keeps s) : s0.KeepsR (execRingLinkRetrain p peer s) := by
  simp (maxDischargeDepth := 999) only [execRingLinkRetrain, keeps_ite, keepsR_next, State.setReg_keeps, State.modRing_keeps, State.ringSend_keeps, State.ringAll_keeps, State.startForming_keeps, State.linkFresh_keeps, hk]

theorem execRejoin_keeps (p : Nat) (hd : FrameHead) (crc : Bool) (t : Nat) (hk : s0.Keeps s) : s0.KeepsR (execRejoin p hd crc t s) := by
  simp (maxDischargeDepth := 999) only [execRejoin, keeps_ite, State.keeps_refl, keepsR_next, State.modRing_keeps, State.frameIn_keeps, hk, implies_true]

theorem execRejoinTimeReached_keeps (hk : s0.Keeps s) : s0.KeepsR (execRejoinTimeReached s) := by
  simp (maxDischargeDepth := 999) only [execRejoinTimeReached, keeps_ite, State.keeps_refl, keepsR_next, State.setReg_keeps, State.setRegs_keeps, State.forEach_keeps, State.modRing_keeps, State.setRingState_keeps, State.linkFresh_keeps, hk, implies_true]

theorem State.replay_keeps (p : Nat) (hk : s0.Keeps s) : s0.Keeps (State.replay s p) := by
  simp (maxDischargeDepth := 999) only [State.replay, keeps_ite, State.keeps_refl, State.emit_keeps, State.forEach_keeps, State.bump_keeps, State.modRing_keeps, State.ringLinkLost_keeps, hk, implies_true]

theorem execIdleFrame_keeps (p ack : Nat) (again : Bool) (hk : s0.Keeps s) : s0.KeepsR (execIdleFrame p ack again s) := by
  simp (maxDischargeDepth := 999) only [execIdleFrame, keeps_ite, keepsR_next, State.modRing_keeps, State.replay_keeps, hk]

theorem execSyncIntervalTick_keeps (hk : s0.Keeps s) : s0.KeepsR (execSyncIntervalTick s) := by
  simp (maxDischargeDepth := 999) only [execSyncIntervalTick, keeps_ite, State.keeps_refl, keepsR_next, State.forEach_keeps, State.ringSend_keeps, State.ringAll_keeps, hk, implies_true]

theorem execDelayProbe_keeps (p : Nat) (hd : FrameHead) (crc : Bool) (t : Nat) (hk : s0.Keeps s) : s0.KeepsR (execDelayProbe p hd crc t s) := by
  simp (maxDischargeDepth := 999) only [execDelayProbe, State.keeps_refl, keepsR_next, State.frameOut_keeps, State.frameIn_keeps, hk, implies_true]

theorem execDelayEcho_keeps (p : Nat) (hd : FrameHead) (crc : Bool) (delay : Nat) (hk : s0.Keeps s) : s0.KeepsR (execDelayEcho p hd crc delay s) := by
  simp (maxDischargeDepth := 999) only [execDelayEcho, State.keeps_refl, keepsR_next, State.setReg_keeps, State.frameIn_keeps, hk, implies_true]

theorem State.calendarSet_keeps (v source : Nat) (hk : s0.Keeps s) : s0.Keeps (State.calendarSet s v source) := by
  simp (maxDischargeDepth := 999) only [State.calendarSet, State.setRegs_keeps, State.bump_keeps, State.note_keeps, State.modPower_keeps, hk]

theorem State.calendarWrite_keeps (v : Nat) (hk : s0.Keeps s) : s0.KeepsA (State.calendarWrite s v) := by
  simp (maxDischargeDepth := 999) only [State.calendarWrite, keepsA_ite, keepsA_ok, keepsA_error, State.calendarSet_keeps, hk]

theorem State.timeSync_keeps (t cal delay : Nat) (hk : s0.Keeps s) : s0.Keeps (State.timeSync s t cal delay) := by
  simp (maxDischargeDepth := 999) only [State.timeSync, keeps_ite, State.setReg_keeps, State.setRegI_keeps, State.modRing_keeps, State.modPower_keeps, State.calendarSet_keeps, hk]

theorem execTimeSync_keeps (p : Nat) (hd : FrameHead) (crc : Bool) (t cal delay : Nat) (hk : s0.Keeps s) : s0.KeepsR (execTimeSync p hd crc t cal delay s) := by
  simp (maxDischargeDepth := 999) only [execTimeSync, State.keeps_refl, keepsR_next, State.fresh_keeps, State.frameIn_keeps, State.timeSync_keeps, hk, implies_true]

theorem State.addStrobe_keeps (n t : Nat) (hk : s0.Keeps s) : s0.Keeps (State.addStrobe s n t) := by
  simp (maxDischargeDepth := 999) only [State.addStrobe, State.modRing_keeps, hk]

theorem State.rsFire_keeps (v : Nat) (hk : s0.Keeps s) : s0.KeepsA (State.rsFire s v) := by
  simp (maxDischargeDepth := 999) only [State.rsFire, keepsA_ite, keepsA_ok, keepsA_error, State.ringAll_keeps, State.addStrobe_keeps, hk]

theorem execStrobeSet_keeps (p : Nat) (hd : FrameHead) (crc : Bool) (n t : Nat) (hk : s0.Keeps s) : s0.KeepsR (execStrobeSet p hd crc n t s) := by
  simp (maxDischargeDepth := 999) only [execStrobeSet, keeps_ite, State.keeps_refl, keepsR_next, State.bump_keeps, State.frameIn_keeps, State.addStrobe_keeps, hk, implies_true]

theorem execRingStrobeTimeReached_keeps (n : Nat) (hk : s0.Keeps s) : s0.KeepsR (execRingStrobeTimeReached n s) := by
  simp (maxDischargeDepth := 999) only [execRingStrobeTimeReached, keeps_ite, keepsR_next, State.modRing_keeps, State.fireStrobes_keeps, hk]

theorem State.spinAsked_keeps (serial st : Nat) (ask : Bool) (hk : s0.Keeps s) : s0.Keeps (State.spinAsked s serial st ask) := by
  simp (maxDischargeDepth := 999) only [State.spinAsked, keeps_ite, State.modRing_keeps, State.pumpGrants_keeps, hk]

theorem execGrantReq_keeps (p : Nat) (hd : FrameHead) (crc : Bool) (serial st : Nat) (ask : Bool) (hk : s0.Keeps s) : s0.KeepsR (execGrantReq p hd crc serial st ask s) := by
  simp (maxDischargeDepth := 999) only [execGrantReq, State.keeps_refl, keepsR_next, State.frameIn_keeps, State.spinAsked_keeps, hk, implies_true]

theorem State.granted_keeps (st : Nat) (give : Bool) (hk : s0.Keeps s) : s0.Keeps (State.granted s st give) := by
  simp (maxDischargeDepth := 999) only [State.granted, keeps_ite, State.modStn_keeps, State.setStFlag_keeps, State.needSlot_keeps, hk]

theorem execGrant_keeps (p : Nat) (hd : FrameHead) (crc : Bool) (serial st : Nat) (give : Bool) (hk : s0.Keeps s) : s0.KeepsR (execGrant p hd crc serial st give s) := by
  simp (maxDischargeDepth := 999) only [execGrant, keeps_ite, State.keeps_refl, keepsR_next, State.frameIn_keeps, State.granted_keeps, hk, implies_true]

theorem execGrantExpiry_keeps (serial st : Nat) (hk : s0.Keeps s) : s0.KeepsR (execGrantExpiry serial st s) := by
  simp (maxDischargeDepth := 999) only [execGrantExpiry, keeps_ite, keepsR_next, State.modRing_keeps, State.ringSend_keeps, State.pumpGrants_keeps, hk]

theorem State.ringEnable_keeps (v : Nat) (hk : s0.Keeps s) : s0.KeepsA (State.ringEnable s v) := by
  simp (maxDischargeDepth := 999) only [State.ringEnable, keepsA_ite, keepsA_ok, keepsA_error, State.setReg_keeps, State.updAll_keeps, State.setRingState_keeps, State.ringOff_keeps, hk]

/-! ### Admin -/

theorem State.bar2Reset_keeps (hk : s0.Keeps s) : s0.Keeps (State.bar2Reset s) := by
  simp (maxDischargeDepth := 999) only [State.bar2Reset, keeps_mk, hk]

theorem State.resetCtrl_keeps (c : Nat) (hk : s0.Keeps s) : s0.Keeps (State.resetCtrl s c) := by
  simp (maxDischargeDepth := 999) only [State.resetCtrl, keeps_ite, State.modCtrl_keeps, State.ctrlReset_keeps, State.bar2Reset_keeps, hk]

theorem State.linkDown_keeps (hk : s0.Keeps s) : s0.Keeps (State.linkDown s) := by
  simp (maxDischargeDepth := 999) only [State.linkDown, State.setRegs_keeps, State.bump_keeps, hk]

theorem execControllerReset_keeps (c : Nat) (cause : ResetCause) (hk : s0.Keeps s) : s0.KeepsR (execControllerReset c cause s) := by
  unfold execControllerReset
  (repeat' split) <;> simp (maxDischargeDepth := 999) only [keepsR_next, State.resetCtrl_keeps, State.linkDown_keeps, hk]

theorem execPropertySet_keeps (c cid off v : Nat) (hk : s0.Keeps s) : s0.KeepsR (execPropertySet c cid off v s) := by
  unfold execPropertySet
  repeat' first
    | with_reducible exact hk
    | with_reducible exact State.keeps_refl _
    | intro _
    | with_reducible apply keeps_ite
    | with_reducible apply State.keeps_refl
    | with_reducible apply keepsR_ite
    | with_reducible apply keepsR_next
    | with_reducible apply State.modCtrl_keeps
    | with_reducible apply State.complete_keeps
    | with_reducible apply State.shutdown_keeps
    | with_reducible apply State.enableCtrl_keeps
    | with_reducible apply State.adminCmd_keeps
    | with_reducible apply State.resetCtrl_keeps
    | with_reducible refine keeps_of_fst (by assumption) ?_
    | with_reducible refine keeps_of_snd (by assumption) ?_
    | with_reducible refine keeps_of_ok (by assumption) ?_
    | split

theorem execGetLogPage_keeps (c cid page nsid off len : Nat) (retain : Bool) (hk : s0.Keeps s) : s0.KeepsR (execGetLogPage c cid page nsid off len retain s) := by
  unfold execGetLogPage
  repeat' first
    | with_reducible exact hk
    | with_reducible exact State.keeps_refl _
    | intro _
    | with_reducible apply keeps_ite
    | with_reducible apply State.keeps_refl
    | with_reducible apply keepsR_ite
    | with_reducible apply keepsR_next
    | with_reducible apply State.emit_keeps
    | with_reducible apply State.modCtrl_keeps
    | with_reducible apply State.complete_keeps
    | with_reducible apply State.adminCmd_keeps
    | with_reducible refine keeps_of_fst (by assumption) ?_
    | with_reducible refine keeps_of_snd (by assumption) ?_
    | with_reducible refine keeps_of_ok (by assumption) ?_
    | split

theorem execSetFeaturesTimestamp_keeps (c cid v : Nat) (hk : s0.Keeps s) : s0.KeepsR (execSetFeaturesTimestamp c cid v s) := by
  simp (maxDischargeDepth := 999) only [execSetFeaturesTimestamp, keeps_ite, State.keeps_refl, State.complete_keeps, State.adminCmd_keeps, State.calendarSet_keeps, hk, implies_true]

theorem execFirmwareImageDownload_keeps (c cid off : Nat) (data : List Byte) (hk : s0.Keeps s) : s0.KeepsR (execFirmwareImageDownload c cid off data s) := by
  simp (maxDischargeDepth := 999) only [execFirmwareImageDownload, keeps_ite, State.keeps_refl, State.modNvme_keeps, State.complete_keeps, State.adminCmd_keeps, hk, implies_true]

theorem State.writeSlot_keeps (slot : Nat) (f : FirmwareImage) (hk : s0.Keeps s) : s0.Keeps (State.writeSlot s slot f) := by
  simp (maxDischargeDepth := 999) only [State.writeSlot, keeps_mk, State.modNvme_keeps, hk]

theorem State.selectBank_keeps (slot : Nat) (hk : s0.Keeps s) : s0.Keeps (State.selectBank s slot) := by
  simp (maxDischargeDepth := 999) only [State.selectBank, keeps_mk, hk]

theorem State.commit_keeps (q slot : Nat) (f : State → Nat → State) (hf : ∀ (s : State) x1, s.Keeps (f s x1)) (hk : s0.Keeps s) : s0.Keeps (State.commit s q slot f) := by
  unfold State.commit
  exact keeps_ite (State.complete_keeps _ _ hk) (hk.trans (hf _ _))

theorem State.commitWrite_keeps (q slot : Nat) (now : Bool) (f : State → Nat → FirmwareImage → State) (hf : ∀ (s : State) x1 x2, s.Keeps (f s x1 x2)) (hk : s0.Keeps s) : s0.Keeps (State.commitWrite s q slot now f) := by
  unfold State.commitWrite
  refine State.commit_keeps _ _ _ (fun s n => ?_) hk
  have h1 := State.tempWake_keeps 94 s.keeps_refl
  split
  · exact State.complete_keeps _ _ s.keeps_refl
  · refine keeps_ite (State.complete_keeps _ _ h1) (keeps_ite (State.complete_keeps _ _ h1) ?_)
    exact State.Keeps.trans (State.writeSlot_keeps _ _ h1) (hf _ _ _)

theorem execFirmwareCommitReplace_keeps (c cid slot : Nat) (hk : s0.Keeps s) : s0.KeepsR (execFirmwareCommitReplace c cid slot s) := by
  simp (maxDischargeDepth := 999) only [execFirmwareCommitReplace, State.keeps_refl, State.complete_keeps, State.adminCmd_keeps, State.commitWrite_keeps, hk, implies_true]

theorem execFirmwareCommitActivateOnReset_keeps (c cid slot : Nat) (hk : s0.Keeps s) : s0.KeepsR (execFirmwareCommitActivateOnReset c cid slot s) := by
  simp (maxDischargeDepth := 999) only [execFirmwareCommitActivateOnReset, State.keeps_refl, State.complete_keeps, State.adminCmd_keeps, State.selectBank_keeps, State.commitWrite_keeps, hk, implies_true]

theorem execFirmwareCommitSelect_keeps (c cid slot : Nat) (hk : s0.Keeps s) : s0.KeepsR (execFirmwareCommitSelect c cid slot s) := by
  simp (maxDischargeDepth := 999) only [execFirmwareCommitSelect, State.keeps_refl, State.complete_keeps, State.adminCmd_keeps, State.selectBank_keeps, State.commit_keeps, hk, implies_true]

theorem execFirmwareCommitActivateNow_keeps (c cid slot : Nat) (hk : s0.Keeps s) : s0.KeepsR (execFirmwareCommitActivateNow c cid slot s) := by
  simp (maxDischargeDepth := 999) only [execFirmwareCommitActivateNow, keeps_ite, State.keeps_refl, State.modNvme_keeps, State.modCtx_keeps, State.complete_keeps, State.event_keeps, State.endTest_keeps, State.settle_keeps, State.adminCmd_keeps, State.selectBank_keeps, State.commitWrite_keeps, hk, implies_true]

theorem execActDrainTimeout_keeps (hk : s0.Keeps s) : s0.KeepsR (execActDrainTimeout s) := by
  unfold execActDrainTimeout
  (repeat' split) <;> simp (maxDischargeDepth := 999) only [keepsR_next, State.complete_keeps, State.activationOver_keeps, State.activate_keeps, State.selectBank_keeps, hk]

/-! ### Hbm -/

theorem State.bumpRegion_keeps (a j : Nat) (hk : s0.Keeps s) : s0.Keeps (State.bumpRegion s a j) := by
  unfold State.bumpRegion
  (repeat' split) <;> simp (maxDischargeDepth := 999) only [State.bump_keeps, hk]

theorem State.mapRecord_keeps (kind row : Nat) (hk : s0.Keeps s) : s0.Keeps (State.mapRecord s kind row) := by
  simp (maxDischargeDepth := 999) only [State.mapRecord, State.modHbm_keeps, hk]

theorem State.noteRow_keeps (row : Nat) (em : Option EmcyUse) (hk : s0.Keeps s) : s0.Keeps (State.noteRow s row em) := by
  simp (maxDischargeDepth := 999) only [State.noteRow, State.fresh_keeps, State.post_keeps, hk]

theorem State.relocate_keeps (row : Nat) (hk : s0.Keeps s) : s0.Keeps (State.relocate s row) := by
  simp (maxDischargeDepth := 999) only [State.relocate, keeps_ite, State.modGr_keeps, State.modHbm_keeps, State.mapRecord_keeps, State.noteRow_keeps, hk]

theorem State.rowEvent_keeps (row : Nat) (hk : s0.Keeps s) : s0.Keeps (State.rowEvent s row) := by
  simp (maxDischargeDepth := 999) only [State.rowEvent, keeps_ite, State.modHbm_keeps, State.relocate_keeps, hk]

theorem State.streamEvent_keeps (row : Nat) (hk : s0.Keeps s) : s0.Keeps (State.streamEvent s row) := by
  simp (maxDischargeDepth := 999) only [State.streamEvent, keeps_ite, State.modHbm_keeps, State.rowEvent_keeps, hk]

theorem State.failCtx_keeps (q : Nat) (st : Ctx → Status) (hk : s0.Keeps s) : s0.Keeps (State.failCtx s q st) := by
  unfold State.failCtx
  (repeat' split) <;> simp (maxDischargeDepth := 999) only [State.complete_keeps, State.settle_keeps, hk]

theorem State.sramRepair_keeps (r : SramRow) (hk : s0.Keeps s) : s0.Keeps (State.sramRepair s r) := by
  simp (maxDischargeDepth := 999) only [State.sramRepair, keeps_ite, State.modHbm_keeps, hk]

theorem State.sramEvent_keeps (r : SramRow) (hk : s0.Keeps s) : s0.Keeps (State.sramEvent s r) := by
  simp (maxDischargeDepth := 999) only [State.sramEvent, keeps_ite, State.modHbm_keeps, State.sramRepair_keeps, hk]

theorem State.tagLost_keeps (x w : Nat) (hk : s0.Keeps s) : s0.Keeps (State.tagLost s x w) := by
  simp (maxDischargeDepth := 999) only [State.tagLost, State.bump_keeps, State.post_keeps, State.modGr_keeps, State.settle_keeps, State.modHbm_keeps, hk]

theorem State.sramLost_keeps (z0 : HbmUse) (hk : s0.Keeps s) : s0.Keeps (State.sramLost s z0) := by
  simp only [State.sramLost]
  (repeat' split) <;> simp (maxDischargeDepth := 999) only [keeps_mk, State.storeGap_keeps, State.stnFault_keeps, State.modHbm_keeps, State.failCtx_keeps, State.tagLost_keeps, hk]

theorem execSoftRepair_keeps (a : Nat) (hk : s0.Keeps s) : s0.KeepsR (execSoftRepair a s) := by
  simp (maxDischargeDepth := 999) only [execSoftRepair, keeps_ite, keepsR_next, State.note_keeps, State.stepGrant_keeps, State.modHbm_keeps, State.bumpRegion_keeps, State.mapRecord_keeps, hk]

theorem State.hardRepair_keeps (row : Nat) (ok : Bool) (hk : s0.Keeps s) : s0.Keeps (State.hardRepair s row ok) := by
  simp (maxDischargeDepth := 999) only [State.hardRepair, keeps_ite, State.stepGrant_keeps, State.modHbm_keeps, State.bumpRegion_keeps, State.relocate_keeps, hk]

theorem State.hardRepairs_keeps (want : Nat → Bool) (oks : List Bool) (hk : s0.Keeps s) : s0.Keeps (State.hardRepairs s want oks) := by
  simp (maxDischargeDepth := 999) only [State.hardRepairs, State.keeps_refl, State.forEach_keeps, State.hardRepair_keeps, hk, implies_true]

theorem execHardRepairWindow_keeps (oks : List Bool) (hk : s0.Keeps s) : s0.KeepsR (execHardRepairWindow oks s) := by
  simp (maxDischargeDepth := 999) only [execHardRepairWindow, keeps_ite, keepsR_next, State.hardRepairs_keeps, hk]

theorem State.granaryHit_keeps (a : Nat) (hk : s0.Keeps s) : s0.Keeps (State.granaryHit s a) := by
  unfold State.granaryHit
  (repeat' split) <;> simp (maxDischargeDepth := 999) only [keeps_ite, State.bump_keeps, State.modLine_keeps, State.queueFill_keeps, hk]

theorem State.scrubNext_keeps (pass : Bool) (a : Nat) (hk : s0.Keeps s) : s0.Keeps (State.scrubNext s pass a) := by
  simp (maxDischargeDepth := 999) only [State.scrubNext, keeps_ite, State.setReg_keeps, State.bump_keeps, hk]

theorem State.findPlanted_keeps (a : Nat) (hk : s0.Keeps s) : s0.Keeps (State.findPlanted s a) := by
  simp (maxDischargeDepth := 999) only [State.findPlanted, keeps_ite, State.keeps_refl, State.forEach_keeps, State.modHbm_keeps, State.bumpRegion_keeps, State.rowEvent_keeps, State.granaryHit_keeps, hk, implies_true]

theorem execScrubStep_keeps (pass : Bool) (words : List Nat) (sram : Option SramRow) (hk : s0.Keeps s) : s0.KeepsR (execScrubStep pass words sram s) := by
  simp only [execScrubStep]
  (repeat' split) <;> simp (maxDischargeDepth := 999) only [State.keeps_refl, keepsR_next, State.forEach_keeps, State.stepGrant_keeps, State.bumpRegion_keeps, State.rowEvent_keeps, State.sramEvent_keeps, State.scrubNext_keeps, State.findPlanted_keeps, hk, implies_true]

theorem execHbmUncorrectableError_keeps (a : Nat) (use : HbmUse) (hk : s0.Keeps s) : s0.KeepsR (execHbmUncorrectableError a use s) := by
  simp only [execHbmUncorrectableError]
  (repeat' split) <;> simp (maxDischargeDepth := 999) only [keeps_mk, State.keeps_refl, keepsR_next, State.forEach_keeps, State.bump_keeps, State.raiseEmcy_keeps, State.complete_keeps, State.modGr_keeps, State.settle_keeps, State.modHbm_keeps, State.rowEvent_keeps, State.streamEvent_keeps, State.failCtx_keeps, State.sramLost_keeps, State.granaryHit_keeps, hk, implies_true]

theorem State.trainFailed_keeps (stack step : Nat) (hk : s0.Keeps s) : s0.Keeps (State.trainFailed s stack step) := by
  simp (maxDischargeDepth := 999) only [State.trainFailed, State.post_keeps, State.setPower_keeps, State.updAll_keeps, State.lowerRails_keeps, hk]

theorem execHbmTraining_keeps (a b : StackTraining) (hk : s0.Keeps s) : s0.KeepsR (execHbmTraining a b s) := by
  simp only [execHbmTraining]
  (repeat' split) <;> simp (maxDischargeDepth := 999) only [keepsR_next, State.setRegs_keeps, State.updAll_keeps, State.modPower_keeps, State.hardRepairs_keeps, State.trainFailed_keeps, hk]

theorem State.hbmRequest_keeps (d : Door) (v : Nat) (hk : s0.Keeps s) : s0.KeepsA (State.hbmRequest s d v) := by
  simp (maxDischargeDepth := 999) only [State.hbmRequest, keepsA_ite, keepsA_ok, keepsA_error, State.endResult_keeps, State.authAction_keeps, State.modHbm_keeps, hk]

theorem State.mapClear_keeps (d : Door) (v : Nat) (hk : s0.Keeps s) : s0.KeepsA (State.mapClear s d v) := by
  simp (maxDischargeDepth := 999) only [State.mapClear, keepsA_ite, keepsA_ok, keepsA_error, State.authAction_keeps, State.modHbm_keeps, hk]

theorem State.tagProbe_keeps (v : Nat) (hk : s0.Keeps s) : s0.KeepsA (State.tagProbe s v) := by
  simp (maxDischargeDepth := 999) only [State.tagProbe, keepsA_ite, keepsA_ok, keepsA_error, State.endResult_keeps, hk]

end Sys2Proof.Machine
end

