-- ==== Sys2Proof/Laws/Keeps5.lean ====
section
/-! SUPPORT. No operation of these files breaks what Laws/Keeps.lean says every command keeps: BistCmds, Calibration, LedgerCmds, SecurityCmds, SpreadCmds, WiringCmds, Access, Serve, Can, Clock, Window. -/

namespace Sys2Proof.Machine

variable {s0 s t : State}

/-! ### BistCmds -/

theorem State.bistRequest_keeps (v : Nat) (hk : s0.Keeps s) : s0.KeepsA (State.bistRequest s v) := by
  simp (maxDischargeDepth := 999) only [State.bistRequest, keepsA_ite, keepsA_ok, keepsA_error, State.beginResult_keeps, State.bistAsk_keeps, hk]

theorem State.bistAfter_keeps (r : BistRun) (hk : s0.Keeps s) : s0.Keeps (State.bistAfter s r) := by
  simp only [State.bistAfter]
  (repeat' split) <;> simp (maxDischargeDepth := 999) only [State.poolGo_keeps, State.testAdvance_keeps, State.stepOver_keeps, hk]

theorem execBistPatternBlock_keeps (kind inst : Nat) (hk : s0.Keeps s) : s0.KeepsR (execBistPatternBlock kind inst s) := by
  unfold execBistPatternBlock
  (repeat' split) <;> simp (maxDischargeDepth := 999) only [keepsR_next, State.bistEnd_keeps, State.poolGo_keeps, State.bistAfter_keeps, hk]

theorem State.wholeChipEnd_keeps (r : BistRun) (passed : Bool) (sig first : Nat) (hk : s0.Keeps s) : s0.Keeps (State.wholeChipEnd s r passed sig first) := by
  simp (maxDischargeDepth := 999) only [State.wholeChipEnd, keeps_ite, State.setReg_keeps, State.fresh_keeps, State.note_keeps, State.bistEnd_keeps, State.resetAssert_keeps, State.resetRelease_keeps, hk]

theorem execBistPartitionEnd_keeps (kind inst sig first : Nat) (rows : List SramRow) (hk : s0.Keeps s) : s0.KeepsR (execBistPartitionEnd kind inst sig first rows s) := by
  simp only [execBistPartitionEnd]
  (repeat' split) <;> simp (maxDischargeDepth := 999) only [State.keeps_refl, keepsR_next, State.forEach_keeps, State.modRun_keeps, State.bistEnd_keeps, State.sramRepair_keeps, State.bistAfter_keeps, State.wholeChipEnd_keeps, hk, implies_true]

theorem execPoolBistTick_keeps (hk : s0.Keeps s) : s0.KeepsR (execPoolBistTick s) := by
  simp only [execPoolBistTick]
  (repeat' split) <;> simp (maxDischargeDepth := 999) only [State.keeps_refl, keepsR_next, State.forEach_keeps, State.bistEnd_keeps, State.bistAsk_keeps, hk, implies_true]

theorem execSegmentWaitExpiry_keeps (j : Nat) (hk : s0.Keeps s) : s0.KeepsR (execSegmentWaitExpiry j s) := by
  unfold execSegmentWaitExpiry
  (repeat' split) <;> simp (maxDischargeDepth := 999) only [keepsR_next, State.bistEnd_keeps, State.bistAfter_keeps, hk]

theorem execClassBTimeExceeded_keeps (hk : s0.Keeps s) : s0.KeepsR (execClassBTimeExceeded s) := by
  unfold execClassBTimeExceeded
  (repeat' split) <;> simp (maxDischargeDepth := 999) only [keepsR_next, State.bistEnd_keeps, State.bistAfter_keeps, hk]

theorem execInrushSlotGrant_keeps (hk : s0.Keeps s) : s0.KeepsR (execInrushSlotGrant s) := by
  unfold execInrushSlotGrant
  (repeat' split) <;> simp (maxDischargeDepth := 999) only [keepsR_next, State.takeSlot_keeps, State.spinGo_keeps, State.bistSlot_keeps, hk]

theorem execBistSlotPreempt_keeps (st : Nat) (hk : s0.Keeps s) : s0.KeepsR (execBistSlotPreempt st s) := by
  unfold execBistSlotPreempt
  (repeat' split) <;> simp (maxDischargeDepth := 999) only [keeps_mk, keepsR_next, State.takeSlot_keeps, State.spinGo_keeps, State.modRun_keeps, State.setOutcome_keeps, hk]

theorem State.selfTestCmd_keeps (x : Ctx) (nsid code : Nat) (hk : s0.Keeps s) : s0.Keeps (State.selfTestCmd s x nsid code) := by
  simp (maxDischargeDepth := 999) only [State.selfTestCmd, keeps_ite, keeps_mk, State.setReg_keeps, State.complete_keeps, State.testAdvance_keeps, hk]

theorem execDeviceSelfTestShort_keeps (c cid nsid : Nat) (hk : s0.Keeps s) : s0.KeepsR (execDeviceSelfTestShort c cid nsid s) := by
  simp (maxDischargeDepth := 999) only [execDeviceSelfTestShort, State.keeps_refl, State.adminCmd_keeps, State.selfTestCmd_keeps, hk, implies_true]

theorem execDeviceSelfTestExtended_keeps (c cid nsid : Nat) (hk : s0.Keeps s) : s0.KeepsR (execDeviceSelfTestExtended c cid nsid s) := by
  simp (maxDischargeDepth := 999) only [execDeviceSelfTestExtended, State.keeps_refl, State.adminCmd_keeps, State.selfTestCmd_keeps, hk, implies_true]

theorem execDeviceSelfTestAbort_keeps (c cid : Nat) (hk : s0.Keeps s) : s0.KeepsR (execDeviceSelfTestAbort c cid s) := by
  simp (maxDischargeDepth := 999) only [execDeviceSelfTestAbort, State.keeps_refl, State.complete_keeps, State.endTest_keeps, State.adminCmd_keeps, hk, implies_true]

/-! ### Calibration -/

theorem State.modCal_keeps (f : Cal → Cal) (hk : s0.Keeps s) : s0.Keeps (State.modCal s f) := by
  simp (maxDischargeDepth := 999) only [State.modCal, keeps_mk, hk]

theorem State.degraded_keeps (u : CalUnit) (hk : s0.Keeps s) : s0.Keeps (State.degraded s u) := by
  simp (maxDischargeDepth := 999) only [State.degraded, keeps_ite, State.setRegBit_keeps, State.degradeAdc_keeps, hk]

theorem State.judgeCal_keeps (u : CalUnit) (qs : List CalQty) (extra : List (Nat × Nat)) (hk : s0.Keeps s) : s0.Keeps (State.judgeCal s u qs extra).1 := by
  simp only [State.judgeCal]
  (repeat' split) <;> simp (maxDischargeDepth := 999) only [State.setReg_keeps, State.setRegs_keeps, State.fresh_keeps, State.addReg_keeps, State.bump_keeps, State.setRegBit_keeps, State.post_keeps, State.note_keeps, State.degraded_keeps, hk]

theorem State.judgeRf_keeps (h a : Nat) (f : CalFit) (hk : s0.Keeps s) : s0.Keeps (State.judgeRf s h a f).1 := by
  simp (maxDischargeDepth := 999) only [State.judgeRf, keeps_ite, State.fresh_keeps, State.judgeCal_keeps, hk]

theorem State.judgeServo_keeps (h a : Nat) (f : CalFit) (hk : s0.Keeps s) : s0.Keeps (State.judgeServo s h a f).1 := by
  simp (maxDischargeDepth := 999) only [State.judgeServo, State.judgeCal_keeps, hk]

theorem State.judgeDac_keeps (h d : Nat) (f : CalFit) (hk : s0.Keeps s) : s0.Keeps (State.judgeDac s h d f).1 := by
  simp (maxDischargeDepth := 999) only [State.judgeDac, State.judgeCal_keeps, hk]

theorem State.judgeSense_keeps (i u : Nat) (f : CalFit) (hk : s0.Keeps s) : s0.Keeps (State.judgeSense s i u f).1 := by
  simp (maxDischargeDepth := 999) only [State.judgeSense, State.judgeCal_keeps, hk]

theorem State.calSleep_keeps (kind n : Nat) (ended : Bool) (hk : s0.Keeps s) : s0.Keeps (State.calSleep s kind n ended) := by
  simp (maxDischargeDepth := 999) only [State.calSleep, keeps_ite, State.keeps_refl, State.forEach_keeps, State.endTempWake_keeps, hk, implies_true]

theorem State.roundStep_keeps (kind n item : Nat) (rs : List (Option Bool)) (missed : Bool) (hk : s0.Keeps s) : s0.Keeps (State.roundStep s kind n item rs missed) := by
  simp only [State.roundStep]
  (repeat' split) <;> simp (maxDischargeDepth := 999) only [State.endResult_keeps, State.dropTokens_keeps, State.modCal_keeps, State.calSleep_keeps, hk]

theorem State.calRequest_keeps (v : Nat) (hk : s0.Keeps s) : s0.KeepsA (State.calRequest s v) := by
  simp (maxDischargeDepth := 999) only [State.calRequest, keeps_ite, State.keeps_refl, keepsA_ite, keepsA_ok, keepsA_error, State.forEach_keeps, State.beginResult_keeps, State.tempWake_keeps, State.askTokens_keeps, State.modCal_keeps, hk, implies_true]

theorem State.visitSkipped_keeps (h b : Nat) (hk : s0.Keeps s) : s0.Keeps (State.visitSkipped s h b) := by
  simp (maxDischargeDepth := 999) only [State.visitSkipped, keeps_ite, State.bump_keeps, State.modCal_keeps, State.roundStep_keeps, hk]

theorem State.visitDone_keeps (h b : Nat) (rs : List (Option Bool)) (done : Bool) (hk : s0.Keeps s) : s0.Keeps (State.visitDone s h b rs done) := by
  simp (maxDischargeDepth := 999) only [State.visitDone, keeps_ite, State.stepGrant_keeps, State.modCal_keeps, State.roundStep_keeps, hk]

theorem State.visitHandover_keeps (h b : Nat) (toSpare : Bool) (rms : Nat) (hk : s0.Keeps s) : s0.Keeps (State.visitHandover s h b toSpare rms) := by
  simp (maxDischargeDepth := 999) only [State.visitHandover, State.emit_keeps, State.handover_keeps, hk]

theorem State.rfVisit_keeps (h b : Nat) (sp ad : CalFit) (there back : Nat) (hk : s0.Keeps s) : s0.Keeps (State.rfVisit s h b sp ad there back) := by
  simp only [State.rfVisit]
  (repeat' split) <;> simp (maxDischargeDepth := 999) only [State.judgeRf_keeps, State.roundStep_keeps, State.visitSkipped_keeps, State.visitDone_keeps, State.visitHandover_keeps, hk]

theorem execRextMeasure_keeps (v : Nat) (hk : s0.Keeps s) : s0.KeepsR (execRextMeasure v s) := by
  simp (maxDischargeDepth := 999) only [execRextMeasure, keeps_ite, keepsR_next, State.setReg_keeps, State.raiseEmcy_keeps, State.post_keeps, hk]

theorem execRfCalVisit_keeps (h b : Nat) (sp ad : CalFit) (there back : Nat) (hk : s0.Keeps s) : s0.KeepsR (execRfCalVisit h b sp ad there back s) := by
  simp (maxDischargeDepth := 999) only [execRfCalVisit, keeps_ite, keepsR_next, State.roundStep_keeps, State.rfVisit_keeps, hk]

theorem execServoAdcCal_keeps (h a : Nat) (f : CalFit) (hk : s0.Keeps s) : s0.KeepsR (execServoAdcCal h a f s) := by
  simp (maxDischargeDepth := 999) only [execServoAdcCal, keeps_ite, keepsR_next, State.judgeServo_keeps, hk]

theorem execDacCal_keeps (e : Nat) (vals : List CalFit) (hk : s0.Keeps s) : s0.KeepsR (execDacCal e vals s) := by
  unfold execDacCal
  extract_lets kind n r
  have h1 : s0.Keeps r.1 := foldlFst_keeps _ _ (fun a k => by
    simp only []; split
    · exact State.judgeDac_keeps _ _ _ a.1.keeps_refl
    · exact State.judgeSense_keeps _ _ _ a.1.keeps_refl) hk
  exact keepsR_next (keeps_ite (State.roundStep_keeps _ _ _ _ _ (State.stepGrant_keeps h1)) (keeps_ite (State.roundStep_keeps _ _ _ _ _ hk) hk))

/-! ### LedgerCmds -/

theorem State.modLedger_keeps (f : Ledger → Ledger) (hk : s0.Keeps s) : s0.Keeps (State.modLedger s f) := by
  simp (maxDischargeDepth := 999) only [State.modLedger, keeps_mk, hk]

theorem execLedgerPost_keeps (code source : Nat) (payload : List Byte) (hk : s0.Keeps s) : s0.KeepsR (execLedgerPost code source payload s) := by
  simp (maxDischargeDepth := 999) only [execLedgerPost, keeps_ite, keepsR_next, State.post_keeps, hk]

theorem execLedgerFlush_keeps (hk : s0.Keeps s) : s0.KeepsR (execLedgerFlush s) := by
  simp (maxDischargeDepth := 999) only [execLedgerFlush, keeps_ite, keepsR_next, State.startFlush_keeps, hk]

theorem execFlushIntervalExpiry_keeps (hk : s0.Keeps s) : s0.KeepsR (execFlushIntervalExpiry s) := by
  simp (maxDischargeDepth := 999) only [execFlushIntervalExpiry, keeps_ite, keepsR_next, State.startFlush_keeps, hk]

theorem State.flushNow_keeps (v : Nat) (hk : s0.Keeps s) : s0.KeepsA (State.flushNow s v) := by
  simp (maxDischargeDepth := 999) only [State.flushNow, keepsA_ite, keepsA_ok, keepsA_error, State.startFlush_keeps, hk]

theorem execLedgerFlushDone_keeps (bad : Bool) (hk : s0.Keeps s) : s0.KeepsR (execLedgerFlushDone bad s) := by
  simp (maxDischargeDepth := 999) only [execLedgerFlushDone, keeps_ite, keepsR_next, State.sectorFailed_keeps, State.flushDone_keeps, State.modLedger_keeps, hk]

theorem State.freezeWrite_keeps (v : Nat) (hk : s0.Keeps s) : s0.KeepsA (State.freezeWrite s v) := by
  simp (maxDischargeDepth := 999) only [State.freezeWrite, keepsA_ite, keepsA_ok, keepsA_error, State.setReg_keeps, State.note_keeps, State.freezeRelease_keeps, hk]

theorem State.loadWindow_keeps (d : Door) (c : Nat) (hk : s0.Keeps s) : s0.Keeps (State.loadWindow s d c) := by
  simp (maxDischargeDepth := 999) only [State.loadWindow, State.modLedger_keeps, hk]

theorem State.ledgerAdvance_keeps (d : Door) (v : Nat) (hk : s0.Keeps s) : s0.KeepsA (State.ledgerAdvance s d v) := by
  simp (maxDischargeDepth := 999) only [State.ledgerAdvance, keepsA_ite, keepsA_ok, keepsA_error, State.loadWindow_keeps, hk]

theorem State.ledgerClear_keeps (d : Door) (v : Nat) (hk : s0.Keeps s) : s0.KeepsA (State.ledgerClear s d v) := by
  simp (maxDischargeDepth := 999) only [State.ledgerClear, keepsA_ite, keepsA_ok, keepsA_error, State.setReg_keeps, State.ledgerView_keeps, State.note_keeps, State.authAction_keeps, State.modLedger_keeps, hk]

theorem execClearEraseStep_keeps (hk : s0.Keeps s) : s0.KeepsR (execClearEraseStep s) := by
  unfold execClearEraseStep
  (repeat' split) <;> simp (maxDischargeDepth := 999) only [keepsR_next, State.setReg_keeps, State.ledgerView_keeps, State.modLedger_keeps, hk]

/-! ### SecurityCmds -/

theorem State.bumpEpoch_keeps (hk : s0.Keeps s) : s0.Keeps (State.bumpEpoch s) := by
  simp (maxDischargeDepth := 999) only [State.bumpEpoch, State.setReg_keeps, hk]

theorem State.dropCustomer_keeps (hk : s0.Keeps s) : s0.Keeps (State.dropCustomer s) := by
  simp (maxDischargeDepth := 999) only [State.dropCustomer, keeps_mk, hk]

theorem State.program_keeps (dst a b : Nat) (hk : s0.Keeps s) : s0.Keeps (State.program s dst a b) := by
  unfold State.program
  have : ∀ f ∈ transitionEffects dst, ∀ s : State, s.Keeps (f s) := by
    unfold transitionEffects
    intro f hf s
    repeat' split at hf
    all_goals simp only [List.mem_cons, List.not_mem_nil, or_false] at hf
    · rcases hf with rfl | rfl
      · exact State.dropCustomer_keeps s.keeps_refl
      · exact State.bumpEpoch_keeps s.keeps_refl
    · rcases hf with rfl | rfl
      · exact State.modSec_keeps _ s.keeps_refl
      · exact State.bumpEpoch_keeps s.keeps_refl
    · subst hf; exact s.keeps_refl
  have hl : ∀ f ∈ ((transitionEffects dst).take b).drop a, ∀ s : State, s.Keeps (f s) := fun f hf =>
    this f (List.mem_of_mem_take (List.mem_of_mem_drop hf))
  generalize ((transitionEffects dst).take b).drop a = l at hl
  induction l generalizing s with
  | nil => exact hk
  | cons f l ih => exact ih (hk.trans (hl f List.mem_cons_self s)) fun g hg => hl g (List.mem_cons_of_mem _ hg)

theorem State.lifeCycle_keeps (d : Door) (v : Nat) (prog : ProgramEnd) (hk : s0.Keeps s) : s0.KeepsA (State.lifeCycle s d v prog) := by
  simp only [State.lifeCycle]
  (repeat' split) <;> simp (maxDischargeDepth := 999) only [keepsA_ok, keepsA_error, State.setReg_keeps, State.post_keeps, State.endResult_keeps, State.modSec_keeps, State.setSecFlag_keeps, State.authAction_keeps, State.measure_keeps, State.powerFail_keeps, State.resetAssert_keeps, State.resetRelease_keeps, State.program_keeps, hk]

theorem State.fuseKey_keeps (v : Nat) (ok : Bool) (hk : s0.Keeps s) : s0.KeepsA (State.fuseKey s v ok) := by
  simp (maxDischargeDepth := 999) only [State.fuseKey, keepsA_ite, keepsA_ok, keepsA_error, State.setRaw_keeps, State.endResult_keeps, State.setSecFlag_keeps, hk]

theorem State.signQuote_keeps (nonce : List Byte) (hk : s0.Keeps s) : s0.Keeps (State.signQuote s nonce).2 := by
  simp (maxDischargeDepth := 999) only [State.signQuote, State.fresh_keeps, State.modSec_keeps, hk]

theorem State.askQuote_keeps (j : QuoteJob) (hk : s0.Keeps s) : s0.Keeps (State.askQuote s j) := by
  simp (maxDischargeDepth := 999) only [State.askQuote, State.tempWake_keeps, State.modSec_keeps, hk]

theorem State.quoteRequest_keeps (v : Nat) (hk : s0.Keeps s) : s0.KeepsA (State.quoteRequest s v) := by
  simp (maxDischargeDepth := 999) only [State.quoteRequest, keepsA_ite, keepsA_ok, keepsA_error, State.beginResult_keeps, State.endResult_keeps, State.askQuote_keeps, hk]

theorem execQuoteSigned_keeps (hk : s0.Keeps s) : s0.KeepsR (execQuoteSigned s) := by
  simp only [execQuoteSigned]
  (repeat' split) <;> simp (maxDischargeDepth := 999) only [keepsR_next, State.setRaw_keeps, State.emit_keeps, State.endResult_keeps, State.complete_keeps, State.modSec_keeps, State.settle_keeps, State.signQuote_keeps, hk]

theorem execAttestationQuote_keeps (c cid : Nat) (nonce : List Byte) (hk : s0.Keeps s) : s0.KeepsR (execAttestationQuote c cid nonce s) := by
  simp (maxDischargeDepth := 999) only [execAttestationQuote, keeps_ite, State.keeps_refl, State.modCtx_keeps, State.complete_keeps, State.adminCmd_keeps, State.askQuote_keeps, hk, implies_true]

theorem State.authFailed_keeps (code : Nat) (hk : s0.Keeps s) : s0.Keeps (State.authFailed s code) := by
  simp (maxDischargeDepth := 999) only [State.authFailed, keeps_ite, State.setReg_keeps, State.bump_keeps, State.post_keeps, State.modSec_keeps, State.drawChallenge_keeps, hk]

theorem State.authResponse_keeps (b : List Byte) (hk : s0.Keeps s) : s0.KeepsA (State.authResponse s b) := by
  simp (maxDischargeDepth := 999) only [State.authResponse, keepsA_ite, keepsA_ok, keepsA_error, State.setRegs_keeps, State.tempWake_keeps, State.modSec_keeps, State.setSecFlag_keeps, State.drawChallenge_keeps, State.authFailed_keeps, hk]

theorem State.authCloseWrite_keeps (v : Nat) (hk : s0.Keeps s) : s0.KeepsA (State.authCloseWrite s v) := by
  simp (maxDischargeDepth := 999) only [State.authCloseWrite, keepsA_ite, keepsA_ok, keepsA_error, State.authClose_keeps, hk]

theorem execAuthDurationExpiry_keeps (hk : s0.Keeps s) : s0.KeepsR (execAuthDurationExpiry s) := by
  simp (maxDischargeDepth := 999) only [execAuthDurationExpiry, keeps_ite, keepsR_next, State.authClose_keeps, hk]

theorem execAuthLockoutExpiry_keeps (hk : s0.Keeps s) : s0.KeepsR (execAuthLockoutExpiry s) := by
  simp (maxDischargeDepth := 999) only [execAuthLockoutExpiry, keeps_ite, keepsR_next, State.modSec_keeps, hk]

theorem State.debugResponse_keeps (b : List Byte) (hk : s0.Keeps s) : s0.KeepsA (State.debugResponse s b) := by
  simp (maxDischargeDepth := 999) only [State.debugResponse, keepsA_ite, keepsA_ok, keepsA_error, State.updDomain_keeps, State.tempWake_keeps, State.modSec_keeps, State.setSecFlag_keeps, State.drawDebugChallenge_keeps, State.measure_keeps, hk]

theorem State.certWrite_keeps (d : Door) (b : List Byte) (hk : s0.Keeps s) : s0.KeepsA (State.certWrite s d b) := by
  simp (maxDischargeDepth := 999) only [State.certWrite, keeps_ite, keepsA_ite, keepsA_ok, keepsA_error, State.setRaw_keeps, State.tempWake_keeps, State.authAction_keeps, hk]

theorem State.recoveryInstall_keeps (v : Nat) (hk : s0.Keeps s) : s0.KeepsA (State.recoveryInstall s v) := by
  simp (maxDischargeDepth := 999) only [State.recoveryInstall, keeps_mk, keepsA_ite, keepsA_ok, keepsA_error, State.endResult_keeps, State.tempWake_keeps, State.lowerRails_keeps, hk]

theorem State.customerRequest_keeps (d : Door) (v : Nat) (hk : s0.Keeps s) : s0.KeepsA (State.customerRequest s d v) := by
  simp (maxDischargeDepth := 999) only [State.customerRequest, keeps_mk, keepsA_ite, keepsA_ok, keepsA_error, State.setReg_keeps, State.endResult_keeps, State.tempWake_keeps, State.authAction_keeps, State.measure_keeps, State.dropCustomer_keeps, hk]

/-! ### SpreadCmds -/

theorem State.volumeView_keeps (hk : s0.Keeps s) : s0.Keeps (State.volumeView s) := by
  simp (maxDischargeDepth := 999) only [State.volumeView, State.setRegs_keeps, hk]

theorem State.volumeRequest_keeps (v far : Nat) (hk : s0.Keeps s) : s0.KeepsA (State.volumeRequest s v far) := by
  unfold State.volumeRequest
  extract_lets act n i data
  have hE : ∀ c, s0.Keeps (s.endResult 0x4A01 data c) := fun c => State.endResult_keeps _ _ _ hk
  refine keepsA_ite (keepsA_error _) (keepsA_ite (keepsA_error _) (keepsA_ite ?_ (keepsA_ite ?_ (keepsA_ite ?_ (keepsA_error _)))))
  · refine keepsA_ite (keepsA_error _) (keepsA_ite (keepsA_ok (hE _)) (keepsA_ok ?_))
    exact State.endResult_keeps _ _ _ (State.spreadFollow_keeps (State.sendVolumes_keeps (State.volumeView_keeps (State.modSpread_keeps _ hk))))
  · refine keepsA_ite (keepsA_error _) (keepsA_ok ?_)
    exact State.endResult_keeps _ _ _ (State.detachNs_keeps _ (State.sendVolumes_keeps (State.volumeView_keeps (State.modSpread_keeps _ hk))))
  · split
    · exact keepsA_error _
    · split
      · exact keepsA_ok (hE _)
      · split
        · exact keepsA_ok (hE _)
        · simp (maxDischargeDepth := 999) only [keepsA_ite, keepsA_ok, hE, State.endResult_keeps, State.sendVolumes_keeps, State.volumeView_keeps, State.modVolume_keeps, hk]

theorem execRowEncode_keeps (v row : Nat) (hk : s0.Keeps s) : s0.KeepsR (execRowEncode v row s) := by
  simp only [execRowEncode]
  (repeat' split) <;> simp (maxDischargeDepth := 999) only [State.keeps_refl, keepsR_next, State.forEach_keeps, State.addReg_keeps, State.modSpread_keeps, State.modVolume_keeps, State.memberFlush_keeps, State.volumeView_keeps, State.sendRow_keeps, hk, implies_true]

theorem State.rowSettle_keeps (x : Volume) (r : SpreadRow) (hk : s0.Keeps s) : s0.Keeps (State.rowSettle s x r) := by
  simp (maxDischargeDepth := 999) only [State.rowSettle, keeps_ite, State.keeps_refl, State.forEach_keeps, State.modSpread_keeps, State.dropLine_keeps, State.failFlushes_keeps, hk, implies_true]

theorem State.owe_keeps (v row col : Nat) (hk : s0.Keeps s) : s0.Keeps (State.owe s v row col) := by
  simp (maxDischargeDepth := 999) only [State.owe, State.modVolume_keeps, hk]

theorem State.memberAck_keeps (v col : Nat) (flush : Bool) (n : Nat) (ok : Bool) (hk : s0.Keeps s) : s0.Keeps (State.memberAck s v col flush n ok) := by
  simp only [State.memberAck]
  (repeat' split) <;> simp (maxDischargeDepth := 999) only [State.keeps_refl, State.forEach_keeps, State.modSpread_keeps, State.memberFlush_keeps, State.settle_keeps, State.volumeView_keeps, State.rowSettle_keeps, State.owe_keeps, hk, implies_true]

theorem execMemberAck_keeps (p : Nat) (hd : FrameHead) (crc : Bool) (v col : Nat) (flush : Bool) (n : Nat) (ok : Bool) (hk : s0.Keeps s) : s0.KeepsR (execMemberAck p hd crc v col flush n ok s) := by
  simp (maxDischargeDepth := 999) only [execMemberAck, State.keeps_refl, keepsR_next, State.frameIn_keeps, State.memberAck_keeps, hk, implies_true]

theorem State.giveCluster_keeps (x : Volume) (row d : Nat) (blocks : List Block) (hk : s0.Keeps s) : s0.Keeps (State.giveCluster s x row d blocks) := by
  simp (maxDischargeDepth := 999) only [State.giveCluster, State.keeps_refl, State.forEach_keeps, State.sendBlock_keeps, hk, implies_true]

theorem State.serveRow_keeps (x : Volume) (g : SpreadGet) (hk : s0.Keeps s) : s0.Keeps (State.serveRow s x g) := by
  unfold State.serveRow
  extract_lets rest parts s1 have_ s2 left
  split
  · refine keeps_ite (State.askRow_keeps _ _ hk) ?_
    split
    · exact State.askRow_keeps _ _ hk
    · refine State.forEach_keeps _ _ (fun s d => ?_) (State.modSpread_keeps _ hk)
      split
      · exact State.giveCluster_keeps _ _ _ _ s.keeps_refl
      · exact State.giveCluster_keeps _ _ _ _ (State.bump_keeps _ s.keeps_refl)
  · have h2 : s0.Keeps s2 := by
      refine State.forEach_keeps _ _ (fun s d => ?_) hk
      split
      · exact State.giveCluster_keeps _ _ _ _ s.keeps_refl
      · exact s.keeps_refl
    exact keeps_ite (State.modSpread_keeps _ h2) (State.askRow_keeps _ _ h2)

theorem State.memberData_keeps (v row col : Nat) (ok : Bool) (blocks : List Block) (hk : s0.Keeps s) : s0.Keeps (State.memberData s v row col ok blocks) := by
  simp only [State.memberData]
  (repeat' split) <;> simp (maxDischargeDepth := 999) only [State.settle_keeps, State.serveRow_keeps, hk]

theorem execMemberData_keeps (p : Nat) (hd : FrameHead) (crc : Bool) (v row col : Nat) (ok : Bool) (blocks : List Block) (hk : s0.Keeps s) : s0.KeepsR (execMemberData p hd crc v row col ok blocks s) := by
  simp (maxDischargeDepth := 999) only [execMemberData, State.keeps_refl, keepsR_next, State.frameIn_keeps, State.memberData_keeps, hk, implies_true]

theorem execRowRebuild_keeps (v col : Nat) (parts : List MemberPart) (hk : s0.Keeps s) : s0.KeepsR (execRowRebuild v col parts s) := by
  simp only [execRowRebuild]
  (repeat' split) <;> simp (maxDischargeDepth := 999) only [keepsR_next, State.modSpread_keeps, State.modVolume_keeps, State.volumeView_keeps, State.sendRow_keeps, hk]

theorem State.memberCtx_keeps (p tag : Nat) (hk : s0.Keeps s) : s0.Keeps (State.memberCtx s p tag).2 := by
  simp (maxDischargeDepth := 999) only [State.memberCtx, State.modNvme_keeps, hk]

theorem State.memberOp_keeps (p tag v col : Nat) (f : State → Nat → Nat → State) (hf : ∀ (s : State) x1 x2, s.Keeps (f s x1 x2)) (hk : s0.Keeps s) : s0.Keeps (State.memberOp s p tag v col f) := by
  simp only [State.memberOp]
  (repeat' split) <;> simp (maxDischargeDepth := 999) only [State.settle_keeps, State.memberCtx_keeps, hk, (fun (u : State) x1 x2 (hu : s0.Keeps u) => hu.trans (hf u x1 x2))]

theorem execMemberRead_keeps (p : Nat) (hd : FrameHead) (crc : Bool) (v col lba n : Nat) (hk : s0.Keeps s) : s0.KeepsR (execMemberRead p hd crc v col lba n s) := by
  simp (maxDischargeDepth := 999) only [execMemberRead, State.keeps_refl, keepsR_next, State.doRead_keeps, State.frameIn_keeps, State.memberOp_keeps, hk, implies_true]

theorem execMemberWrite_keeps (p : Nat) (hd : FrameHead) (crc : Bool) (v col lba : Nat) (data : List Block) (hk : s0.Keeps s) : s0.KeepsR (execMemberWrite p hd crc v col lba data s) := by
  simp (maxDischargeDepth := 999) only [execMemberWrite, State.keeps_refl, keepsR_next, State.doWrite_keeps, State.frameIn_keeps, State.memberOp_keeps, hk, implies_true]

theorem execMemberFlush_keeps (p : Nat) (hd : FrameHead) (crc : Bool) (v col zone : Nat) (hk : s0.Keeps s) : s0.KeepsR (execMemberFlush p hd crc v col zone s) := by
  simp (maxDischargeDepth := 999) only [execMemberFlush, keeps_ite, State.keeps_refl, keepsR_next, State.modCtx_keeps, State.complete_keeps, State.serveFlush_keeps, State.frameIn_keeps, State.memberOp_keeps, hk, implies_true]

theorem execVolumeTable_keeps (p : Nat) (hd : FrameHead) (crc : Bool) (vols : List Volume) (hk : s0.Keeps s) : s0.KeepsR (execVolumeTable p hd crc vols s) := by
  simp (maxDischargeDepth := 999) only [execVolumeTable, keeps_ite, State.keeps_refl, keepsR_next, State.modSpread_keeps, State.frameIn_keeps, State.volumeView_keeps, hk, implies_true]

/-! ### WiringCmds -/

theorem State.wiringStart_keeps (i scope : Nat) (hk : s0.Keeps s) : s0.Keeps (State.wiringStart s i scope) := by
  simp (maxDischargeDepth := 999) only [State.wiringStart, keeps_ite, State.keeps_refl, State.forEach_keeps, State.modStn_keeps, State.modSq_keeps, State.when_keeps, State.beginResult_keeps, State.tempWake_keeps, State.askTokens_keeps, hk, implies_true]

theorem execWiringTest_keeps (st : Nat) (hk : s0.Keeps s) : s0.KeepsR (execWiringTest st s) := by
  unfold execWiringTest
  repeat' first
    | with_reducible exact hk
    | with_reducible exact State.keeps_refl _
    | intro _
    | with_reducible apply keeps_ite
    | with_reducible apply State.keeps_refl
    | with_reducible apply keepsR_ite
    | with_reducible apply keepsR_next
    | with_reducible apply State.forEach_keeps
    | with_reducible apply State.orderRejected_keeps
    | with_reducible apply State.wiringStart_keeps
    | with_reducible refine keeps_of_fst (by assumption) ?_
    | with_reducible refine keeps_of_snd (by assumption) ?_
    | with_reducible refine keeps_of_ok (by assumption) ?_
    | split

theorem State.wiringRequest_keeps (i v : Nat) (hk : s0.Keeps s) : s0.KeepsA (State.wiringRequest s i v) := by
  simp (maxDischargeDepth := 999) only [State.wiringRequest, keepsA_ite, keepsA_ok, keepsA_error, State.beginResult_keeps, State.issueStation_keeps, hk]

theorem State.pickupRead_keeps (h : Nat) (ok : Bool) (hk : s0.Keeps s) : s0.Keeps (State.pickupRead s h ok) := by
  simp (maxDischargeDepth := 999) only [State.pickupRead, keeps_ite, State.keeps_refl, State.fresh_keeps, State.forEach_keeps, State.modHd_keeps, State.loadVendor_keeps, hk, implies_true]

theorem State.wireResult_keeps (i h n : Nat) (m : WireMeas) (hk : s0.Keeps s) : s0.Keeps (State.wireResult s i h n m) := by
  simp only [State.wireResult]
  (repeat' split) <;> simp (maxDischargeDepth := 999) only [State.setReg_keeps, State.setRegBit_keeps, State.note_keeps, State.modStn_keeps, State.wireEffect_keeps, State.wireReport_keeps, State.pickupRead_keeps, hk]

theorem State.wiringHead_keeps (h : Nat) (hk : s0.Keeps s) : s0.Keeps (State.wiringHead s h) := by
  simp (maxDischargeDepth := 999) only [State.wiringHead, keeps_ite, State.setReg_keeps, State.setRegBit_keeps, State.raiseEmcy_keeps, State.modHd_keeps, State.headDrop_keeps, State.wdReadOnly_keeps, hk]

theorem State.sledsStop_keeps (i : Nat) (hk : s0.Keeps s) : s0.Keeps (State.sledsStop s i) := by
  simp (maxDischargeDepth := 999) only [State.sledsStop, keeps_ite, State.modStn_keeps, hk]

theorem execWiringTestEnd_keeps (st part : Nat) (meas : List WireMeas) (hk : s0.Keeps s) : s0.KeepsR (execWiringTestEnd st part meas s) := by
  unfold execWiringTestEnd
  refine keepsR_next ?_
  split
  · exact hk
  · extract_lets e h base s1 s2 s3 s4 s5
    refine keeps_ite hk ?_
    have h1 : s0.Keeps s1 := by
      refine State.forEach_keeps _ _ (fun s n => ?_) hk
      split
      · exact State.wireResult_keeps _ _ _ _ s.keeps_refl
      · exact State.setReg_keeps _ _ s.keeps_refl
    have h5 : s0.Keeps s5 := by
      simp (maxDischargeDepth := 999) only [s5, s4, s3, s2, State.forEach_keeps, State.wiringHead_keeps, State.modStn_keeps, keeps_ite,
        State.endTempWake_keeps, State.dropTokens_keeps, State.sledsStop_keeps, State.keeps_refl, implies_true, h1]
    split
    · exact keeps_ite (State.wiringOver_keeps _ _ h5) h5
    · exact h5

theorem execSenseCheck_keeps (st n : Nat) (src snk afe : Int) (hk : s0.Keeps s) : s0.KeepsR (execSenseCheck st n src snk afe s) := by
  simp (maxDischargeDepth := 999) only [execSenseCheck, keeps_ite, State.keeps_refl, keepsR_next, State.setReg_keeps, State.forEach_keeps, State.stnFault_keeps, State.wireEffect_keeps, State.wireReport_keeps, State.wiringHead_keeps, hk, implies_true]

theorem execTokenGrant_keeps (hk : s0.Keeps s) : s0.KeepsR (execTokenGrant s) := by
  unfold execTokenGrant
  (repeat' split) <;> simp (maxDischargeDepth := 999) only [keepsR_next, State.grantReq_keeps, State.bistGo_keeps, hk]

theorem State.overrideWrite_keeps (sub v : Nat) (hk : s0.Keeps s) : s0.KeepsA (State.overrideWrite s sub v) := by
  simp (maxDischargeDepth := 999) only [State.overrideWrite, keeps_ite, keepsA_ite, keepsA_ok, keepsA_error, State.setReg_keeps, State.note_keeps, hk]

/-! ### Access -/

theorem State.loopCmd_keeps (e l k v : Nat) (hk : s0.Keeps s) : s0.KeepsA (State.loopCmd s e l k v) := by
  unfold State.loopCmd
  repeat' first
    | with_reducible exact hk
    | with_reducible exact State.keeps_refl _
    | with_reducible intro _
    | with_reducible apply keeps_ite
    | with_reducible apply keepsA_ite
    | with_reducible apply keepsA_ok
    | with_reducible apply keepsA_error
    | with_reducible apply keepsA_map
    | with_reducible apply State.setReg_keeps
    | with_reducible apply State.loopCommand_keeps
    | with_reducible refine keeps_of_fst (by assumption) ?_
    | with_reducible refine keeps_of_snd (by assumption) ?_
    | with_reducible refine keeps_of_ok (by assumption) ?_
    | with_reducible refine keeps_of_some (by assumption) ?_
    | (simp (maxDischargeDepth := 999) only [keeps_ite, keeps_mk, keepsA_ite, keepsA_ok, keepsA_error, keepsA_map, State.setReg_keeps, State.loopCommand_keeps, hk]; done)
    | split

theorem State.applyWrite_keeps (e v : Nat) (hk : s0.Keeps s) : s0.KeepsA (State.applyWrite s e v) := by
  simp (maxDischargeDepth := 999) only [State.applyWrite, keepsA_ite, keepsA_ok, keepsA_error, State.startApply_keeps, hk]

theorem State.injWrite_keeps (e v : Nat) (lathe : Bool) (hk : s0.Keeps s) : s0.KeepsA (State.injWrite s e v lathe) := by
  simp (maxDischargeDepth := 999) only [State.injWrite, keepsA_ite, keepsA_ok, keepsA_error, State.setReg_keeps, State.modEng_keeps, hk]

theorem State.measureRequest_keeps (e v : Nat) (hk : s0.Keeps s) : s0.KeepsA (State.measureRequest s e v) := by
  simp (maxDischargeDepth := 999) only [State.measureRequest, keepsA_ite, keepsA_ok, keepsA_error, State.modStn_keeps, State.beginResult_keeps, State.measureObject_keeps, hk]

theorem State.orderRequest_keeps (h ix code param : Nat) (hk : s0.Keeps s) : s0.KeepsA (State.orderRequest s h ix code param) := by
  simp (maxDischargeDepth := 999) only [State.orderRequest, keepsA_ite, keepsA_ok, keepsA_error, State.beginResult_keeps, State.issue_keeps, hk]

theorem State.translateWrite_keeps (t v : Nat) (hk : s0.Keeps s) : s0.KeepsA (State.translateWrite s t v) := by
  simp (maxDischargeDepth := 999) only [State.translateWrite, keepsA_ite, keepsA_ok, keepsA_error, State.endResult_keeps, hk]

theorem State.stationEffect_keeps (i sub v : Nat) (hk : s0.Keeps s) : s0.KeepsO (State.stationEffect s i sub v) := by
  simp (maxDischargeDepth := 999) only [State.stationEffect, keepsO_ite, keepsO_some, keepsO_none, keepsA_ite, keepsA_ok, keepsA_error, hk,
    State.stationStop_keeps, State.stationRequest_keeps, State.strobeFire_keeps, State.dstrobeFire_keeps, State.directRequest_keeps,
    State.retarget_keeps, State.setReg_keeps, State.translateWrite_keeps, State.orderRequest_keeps, State.wiringRequest_keeps,
    State.loopCmd_keeps, State.applyWrite_keeps, State.injWrite_keeps, State.capArm_keeps, State.measureRequest_keeps,
    State.dumpRequest_keeps, keepsA_map, State.modHd_keeps, State.keeps_refl, implies_true]

theorem State.numEffect_keeps (d : Door) (i sub v : Nat) (w : World) (hk : s0.Keeps s) : s0.KeepsO (State.numEffect s d i sub v w) := by
  simp (maxDischargeDepth := 999) only [State.numEffect, keepsO_ite, keepsO_some, keepsO_none, keepsA_ok, State.powerCmd_keeps, State.calendarWrite_keeps, State.rsFire_keeps, State.ringEnable_keeps, State.hbmRequest_keeps, State.mapClear_keeps, State.tagProbe_keeps, State.bistRequest_keeps, State.calRequest_keeps, State.flushNow_keeps, State.freezeWrite_keeps, State.loadWindow_keeps, State.ledgerAdvance_keeps, State.ledgerClear_keeps, State.lifeCycle_keeps, State.fuseKey_keeps, State.quoteRequest_keeps, State.authCloseWrite_keeps, State.recoveryInstall_keeps, State.customerRequest_keeps, State.volumeRequest_keeps, State.overrideWrite_keeps, State.stationEffect_keeps, hk]

theorem State.tpdoMark_keeps (n : Nat) (hk : s0.Keeps s) : s0.Keeps (State.tpdoMark s n) := by
  unfold State.tpdoMark
  (repeat' split) <;> simp (maxDischargeDepth := 999) only [keeps_mk, hk]

theorem State.afterWrite_keeps (i sub : Nat) (hk : s0.Keeps s) : s0.Keeps (State.afterWrite s i sub) := by
  simp (maxDischargeDepth := 999) only [State.afterWrite, keeps_ite, keeps_mk, State.setReg_keeps, State.setRegs_keeps, State.updDomain_keeps, State.clockView_keeps, State.updAll_keeps, State.settle_keeps, State.tpdoMark_keeps, hk]

theorem State.putNum_keeps (d : Door) (o : Obj) (i sub v : Nat) (w : World) (hk : s0.Keeps s) : s0.KeepsA (State.putNum s d o i sub v w) := by
  unfold State.putNum
  extract_lets c m
  have h1 := State.numEffect_keeps d i sub v w hk
  split
  · simp (maxDischargeDepth := 999) only [keepsA_ite, keepsA_error]
  · have h2 := keeps_of_someOk (by assumption) h1
    simp (maxDischargeDepth := 999) only [keepsA_ite, keepsA_error, keepsA_ok, keeps_ite, hk, h2]
  · simp (maxDischargeDepth := 999) only [keepsA_ite, keepsA_error, keepsA_ok, hk, State.afterWrite_keeps, State.setReg_keeps]

theorem State.putRaw_keeps (d : Door) (o : Obj) (i sub : Nat) (b : List Byte) (hk : s0.Keeps s) : s0.KeepsA (State.putRaw s d o i sub b) := by
  unfold State.putRaw
  extract_lets b' c act
  have h1 : s0.KeepsO act := by
    simp (maxDischargeDepth := 999) only [act, keepsO_ite, keepsO_some, keepsO_none, hk, State.authResponse_keeps, State.debugResponse_keeps, State.certWrite_keeps]
  clear_value act
  split
  · exact keepsA_error _
  · exact keepsA_ite (keepsA_error _) (keepsA_ok h1)
  · simp (maxDischargeDepth := 999) only [keepsA_ite, keepsA_error, keepsA_ok, hk, State.modEng_keeps, State.setRaw_keeps]

theorem State.putObject_keeps (d : Door) (i sub : Nat) (b : List Byte) (w : World) (hk : s0.Keeps s) : s0.KeepsA (State.putObject s d i sub b w) := by
  unfold State.putObject
  (repeat' split) <;> simp (maxDischargeDepth := 999) only [keepsA_error, State.putNum_keeps, State.putRaw_keeps, hk]

/-! ### Serve -/

theorem State.storeRequest_keeps (d : Door) (ix sub v : Nat) (hk : s0.Keeps s) : s0.KeepsA (State.storeRequest s d ix sub v) := by
  simp (maxDischargeDepth := 999) only [State.storeRequest, keeps_mk, keepsA_ite, keepsA_ok, keepsA_error, hk]

theorem State.storeDone_keeps (x : Store) (hk : s0.Keeps s) : s0.Keeps (State.storeDone s x) := by
  simp (maxDischargeDepth := 999) only [State.storeDone, keeps_ite, keeps_mk, State.reply_keeps, State.measure_keeps, hk]

theorem execStoreNorDone_keeps (hk : s0.Keeps s) : s0.KeepsR (execStoreNorDone s) := by
  unfold execStoreNorDone
  (repeat' split) <;> simp (maxDischargeDepth := 999) only [keepsR_next, State.storeDone_keeps, hk]

theorem execBackgroundEraseDone_keeps (hk : s0.Keeps s) : s0.KeepsR (execBackgroundEraseDone s) := by
  simp (maxDischargeDepth := 999) only [execBackgroundEraseDone, keeps_mk, keepsR_next, hk]

theorem State.waitOwner_keeps (d : Door) (i sub : Nat) (b : List Byte) (w : World) (dms : List Nat) (hk : s0.Keeps s) : s0.Keeps (State.waitOwner s d i sub b w dms) := by
  simp (maxDischargeDepth := 999) only [State.waitOwner, State.modPower_keeps, hk]

theorem State.wakeOwner_keeps (d : Door) (i sub : Nat) (b : List Byte) (w : World) (dms : List Nat) (hk : s0.Keeps s) : s0.KeepsT (State.wakeOwner s d i sub b w dms) := by
  simp only [State.wakeOwner]
  (repeat' split) <;> simp (maxDischargeDepth := 999) only [State.keeps_refl, keepsT_error, keepsT_ok, State.forEach_keeps, State.tempWake_keeps, State.wake_keeps, State.waitOwner_keeps, hk, implies_true]

theorem State.take_keeps (d : Door) (i sub : Nat) (b : List Byte) (w : World) (hk : s0.Keeps s) : s0.KeepsT (State.take s d i sub b w) := by
  simp only [State.take]
  (repeat' split) <;> simp (maxDischargeDepth := 999) only [keepsT_error, keepsT_map, State.putObject_keeps, State.storeRequest_keeps, State.wakeOwner_keeps, hk]

theorem State.refusal_keeps (i sub : Nat) (b : List Byte) (a : Nat) (hk : s0.Keeps s) : s0.Keeps (State.refusal s i sub b a) := keeps_ite (State.refuseBusy_keeps hk) hk

theorem State.serve_keeps (d : Door) (i sub : Nat) (b : List Byte) (w : World) (hk : s0.Keeps s) : s0.Keeps (State.serve s d i sub b w) := by
  unfold State.serve
  split
  · exact State.reply_keeps _ _ _ _ _ _ (State.refusal_keeps _ _ _ _ hk)
  · have h1 := keeps_of_taken (by assumption) (State.take_keeps d i sub b w hk)
    exact keeps_ite (State.reply_keeps _ _ _ _ _ _ h1) h1

theorem State.applyWaiting_keeps (x : WaitingWrite) (hk : s0.Keeps s) : s0.Keeps (State.applyWaiting s x) := by
  unfold State.applyWaiting
  repeat' first
    | with_reducible exact hk
    | with_reducible exact State.keeps_refl _
    | intro _
    | with_reducible apply keeps_ite
    | with_reducible apply State.keeps_refl
    | with_reducible apply State.refusal_keeps
    | with_reducible apply State.reply_keeps
    | with_reducible apply State.putObject_keeps
    | with_reducible refine keeps_of_fst (by assumption) ?_
    | with_reducible refine keeps_of_snd (by assumption) ?_
    | with_reducible refine keeps_of_ok (by assumption) ?_
    | split

theorem State.blockWakes_keeps (d : Nat) (bad : Option Nat) (hk : s0.Keeps s) : s0.Keeps (State.blockWakes s d bad) := by
  simp only [State.blockWakes]
  (repeat' split) <;> simp (maxDischargeDepth := 999) only [keeps_mk, State.keeps_refl, State.forEach_keeps, State.loadVendor_keeps, State.storeMismatch_keeps, State.ringWake_keeps, hk, implies_true]

theorem execDomainWakeDone_keeps (d : Nat) (bad : Option Nat) (hk : s0.Keeps s) : s0.KeepsR (execDomainWakeDone d bad s) := by
  simp (maxDischargeDepth := 999) only [execDomainWakeDone, keeps_ite, State.keeps_refl, keepsR_next, State.forEach_keeps, State.setDom_keeps, State.updDomain_keeps, State.clockView_keeps, State.sramWake_keeps, State.modPower_keeps, State.applyWaiting_keeps, State.blockWakes_keeps, hk, implies_true]

theorem execTemporaryWakeEnd_keeps (d : Nat) (hk : s0.Keeps s) : s0.KeepsR (execTemporaryWakeEnd d s) := by
  simp (maxDischargeDepth := 999) only [execTemporaryWakeEnd, keeps_ite, keepsR_next, State.endTempWake_keeps, hk]

theorem State.modBar2_keeps (f : Bar2 → Bar2) (hk : s0.Keeps s) : s0.Keeps (State.modBar2 s f) := by
  simp (maxDischargeDepth := 999) only [State.modBar2, keeps_mk, hk]

theorem State.modCan_keeps (f : Can → Can) (hk : s0.Keeps s) : s0.Keeps (State.modCan s f) := by
  simp (maxDischargeDepth := 999) only [State.modCan, keeps_mk, hk]

theorem State.setChan_keeps (bus : Nat) (usdo : Bool) (x : Xfer) (hk : s0.Keeps s) : s0.Keeps (State.setChan s bus usdo x) := by
  simp (maxDischargeDepth := 999) only [State.setChan, State.modCan_keeps, hk]

theorem State.windowWrite_keeps (i sub v : Nat) (w : World) (hk : s0.Keeps s) : s0.Keeps (State.windowWrite s i sub v w) := by
  simp only [State.windowWrite]
  (repeat' split) <;> simp (maxDischargeDepth := 999) only [State.reply_keeps, State.serve_keeps, State.modBar2_keeps, hk]

theorem State.access_keeps (d : Door) (i sub : Nat) (b : List Byte) (w : World) (hk : s0.Keeps s) : s0.Keeps (State.access s d i sub b w) := by
  unfold State.access
  (repeat' split) <;> simp (maxDischargeDepth := 999) only [State.modCtx_keeps, State.serve_keeps, State.modBar2_keeps, State.setChan_keeps, State.windowWrite_keeps, hk]

theorem State.put_keeps (d : Door) (i sub v : Nat) (w : World) (hk : s0.Keeps s) : s0.Keeps (State.put s d i sub v w) := by
  simp (maxDischargeDepth := 999) only [State.put, State.access_keeps, hk]

/-! ### Can -/

theorem State.sdoRead_keeps (bus : Nat) (usdo : Bool) (i sub : Nat) (hk : s0.Keeps s) : s0.Keeps (State.sdoRead s bus usdo i sub) := by
  simp only [State.sdoRead]
  (repeat' split) <;> simp (maxDischargeDepth := 999) only [State.reply_keeps, State.setChan_keeps, hk]

theorem State.sdoBegin_keeps (bus : Nat) (usdo : Bool) (i sub total : Nat) (hk : s0.Keeps s) : s0.Keeps (State.sdoBegin s bus usdo i sub total) := by
  unfold State.sdoBegin
  (repeat' split) <;> simp (maxDischargeDepth := 999) only [keeps_ite, State.reply_keeps, State.setChan_keeps, hk]

theorem execSdoInitiate_keeps (bus : Nat) (usdo : Bool) (i sub : Nat) (req : SdoReq) (brs : Bool) (w : World) (hk : s0.Keeps s) : s0.KeepsR (execSdoInitiate bus usdo i sub req brs w s) := by
  unfold execSdoInitiate
  (repeat' split) <;> simp (maxDischargeDepth := 999) only [keepsR_next, State.reply_keeps, State.serve_keeps, State.setChan_keeps, State.sdoRead_keeps, State.sdoBegin_keeps, hk]

theorem State.sdoEnd_keeps (bus : Nat) (usdo : Bool) (a : Nat) (hk : s0.Keeps s) : s0.Keeps (State.sdoEnd s bus usdo a) := by
  simp (maxDischargeDepth := 999) only [State.sdoEnd, State.emit_keeps, State.setChan_keeps, hk]

theorem State.sdoData_keeps (bus : Nat) (usdo : Bool) (i sub : Nat) (got : List Byte) (total : Nat) (toggle last : Bool) (w : World) (hk : s0.Keeps s) : s0.Keeps (State.sdoData s bus usdo i sub got total toggle last w) := by
  simp (maxDischargeDepth := 999) only [State.sdoData, keeps_ite, State.reply_keeps, State.serve_keeps, State.setChan_keeps, hk]

theorem execSdoSegment_keeps (bus : Nat) (usdo : Bool) (seg : SdoSeg) (brs : Bool) (w : World) (hk : s0.Keeps s) : s0.KeepsR (execSdoSegment bus usdo seg brs w s) := by
  unfold execSdoSegment
  (repeat' split) <;> simp (maxDischargeDepth := 999) only [keepsR_next, State.reply_keeps, State.setChan_keeps, State.sdoEnd_keeps, State.sdoData_keeps, hk]

theorem execSdoTimeout_keeps (bus : Nat) (usdo : Bool) (hk : s0.Keeps s) : s0.KeepsR (execSdoTimeout bus usdo s) := by
  simp (maxDischargeDepth := 999) only [execSdoTimeout, keeps_ite, keepsR_next, State.setChan_keeps, State.sdoEnd_keeps, hk]

theorem State.modPdo_keeps (n : Nat) (f : Pdo → Pdo) (hk : s0.Keeps s) : s0.Keeps (State.modPdo s n f) := by
  simp (maxDischargeDepth := 999) only [State.modPdo, State.modCan_keeps, hk]

theorem State.tpdoSend_keeps (n : Nat) (hk : s0.Keeps s) : s0.Keeps (State.tpdoSend s n) := by
  simp (maxDischargeDepth := 999) only [State.tpdoSend, keeps_ite, State.emitOn_keeps, State.modPdo_keeps, hk]

theorem State.tpdoAsk_keeps (n : Nat) (hk : s0.Keeps s) : s0.Keeps (State.tpdoAsk s n) := by
  simp (maxDischargeDepth := 999) only [State.tpdoAsk, keeps_ite, State.modPdo_keeps, State.tpdoSend_keeps, hk]

theorem State.tpdoChange_keeps (n : Nat) (hk : s0.Keeps s) : s0.Keeps (State.tpdoChange s n) := by
  simp (maxDischargeDepth := 999) only [State.tpdoChange, keeps_ite, State.tpdoMark_keeps, State.modPdo_keeps, State.tpdoAsk_keeps, hk]

theorem State.tpdoScan_keeps (hk : s0.Keeps s) : s0.Keeps (State.tpdoScan s) := by
  simp (maxDischargeDepth := 999) only [State.tpdoScan, State.keeps_refl, State.forEach_keeps, State.tpdoChange_keeps, hk, implies_true]

theorem execTpdoEventTimer_keeps (n : Nat) (hk : s0.Keeps s) : s0.KeepsR (execTpdoEventTimer n s) := by
  simp (maxDischargeDepth := 999) only [execTpdoEventTimer, keeps_ite, keepsR_next, State.tpdoAsk_keeps, hk]

theorem execTpdoInhibitExpiry_keeps (n : Nat) (hk : s0.Keeps s) : s0.KeepsR (execTpdoInhibitExpiry n s) := by
  simp (maxDischargeDepth := 999) only [execTpdoInhibitExpiry, keeps_ite, keepsR_next, State.modPdo_keeps, State.tpdoSend_keeps, hk]

theorem State.rpdoApply_keeps (bus n : Nat) (z0 : List (Nat × Nat × List Byte)) (hk : s0.Keeps s) : s0.KeepsA (State.rpdoApply s bus n z0) := by
  induction z0 generalizing s with
  | nil => exact hk
  | cons p l ih =>
    obtain ⟨i, sub, b⟩ := p
    simp only [State.rpdoApply]
    split
    · exact keepsA_error _
    · exact ih (keeps_of_taken (by assumption) (State.take_keeps _ _ _ _ _ hk))

theorem State.rpdoTake_keeps (bus n : Nat) (data : List Byte) (hk : s0.Keeps s) : s0.Keeps (State.rpdoTake s bus n data) := by
  unfold State.rpdoTake
  repeat' first
    | with_reducible exact hk
    | with_reducible exact State.keeps_refl _
    | with_reducible intro _
    | with_reducible apply keeps_ite
    | with_reducible apply State.raiseEmcy_keeps
    | with_reducible apply State.pdoDiscard_keeps
    | with_reducible apply State.rpdoApply_keeps
    | with_reducible refine keeps_of_fst (by assumption) ?_
    | with_reducible refine keeps_of_snd (by assumption) ?_
    | with_reducible refine keeps_of_ok (by assumption) ?_
    | with_reducible refine keeps_of_some (by assumption) ?_
    | (simp (maxDischargeDepth := 999) only [keeps_ite, keeps_mk, State.raiseEmcy_keeps, State.pdoDiscard_keeps, State.rpdoApply_keeps, hk]; done)
    | split

theorem execRpdoReceived_keeps (bus n : Nat) (data : List Byte) (brs : Bool) (hk : s0.Keeps s) : s0.KeepsR (execRpdoReceived bus n data brs s) := by
  simp (maxDischargeDepth := 999) only [execRpdoReceived, keeps_ite, keepsR_next, State.modPdo_keeps, State.rpdoTake_keeps, hk]

theorem State.tpdoSync_keeps (n : Nat) (hk : s0.Keeps s) : s0.Keeps (State.tpdoSync s n) := by
  simp (maxDischargeDepth := 999) only [State.tpdoSync, keeps_ite, State.modPdo_keeps, State.tpdoSend_keeps, hk]

theorem State.rpdoSync_keeps (bus n : Nat) (hk : s0.Keeps s) : s0.Keeps (State.rpdoSync s bus n) := by
  unfold State.rpdoSync
  (repeat' split) <;> simp (maxDischargeDepth := 999) only [State.modPdo_keeps, State.rpdoTake_keeps, hk]

theorem execSyncReceived_keeps (bus : Nat) (hk : s0.Keeps s) : s0.KeepsR (execSyncReceived bus s) := by
  simp (maxDischargeDepth := 999) only [execSyncReceived, keeps_ite, State.keeps_refl, keepsR_next, State.forEach_keeps, State.tpdoSync_keeps, State.rpdoSync_keeps, hk, implies_true]

theorem State.nmtTo_keeps (n : Nmt) (hk : s0.Keeps s) : s0.Keeps (State.nmtTo s n) := by
  simp (maxDischargeDepth := 999) only [State.nmtTo, keeps_ite, State.modCan_keeps, hk]

theorem execNmtStart_keeps (hk : s0.Keeps s) : s0.KeepsR (execNmtStart s) := by
  simp (maxDischargeDepth := 999) only [execNmtStart, State.keeps_refl, keepsR_next, State.forEach_keeps, State.tpdoMark_keeps, State.nmtTo_keeps, hk, implies_true]

theorem execNmtStop_keeps (hk : s0.Keeps s) : s0.KeepsR (execNmtStop s) := by
  simp (maxDischargeDepth := 999) only [execNmtStop, keepsR_next, State.nmtTo_keeps, hk]

theorem execNmtEnterPreOperational_keeps (hk : s0.Keeps s) : s0.KeepsR (execNmtEnterPreOperational s) := by
  simp (maxDischargeDepth := 999) only [execNmtEnterPreOperational, keepsR_next, State.nmtTo_keeps, hk]

theorem State.resetComm_keeps (hk : s0.Keeps s) : s0.Keeps (State.resetComm s) := by
  unfold State.resetComm
  refine keeps_ite hk ?_
  extract_lets rom s1 s2 s3 strap s4
  have h1 : s0.Keeps s1 := State.modCan_keeps _ hk
  have h2 : s0.Keeps s2 := State.applyStored_keeps commKey (keeps_filterRegs h1 _)
  simp (maxDischargeDepth := 999) only [s4, s3, keeps_ite, State.canBoot_keeps, State.applyNode_keeps, State.canApply_keeps, h2]

theorem execNmtResetCommunication_keeps (hk : s0.Keeps s) : s0.KeepsR (execNmtResetCommunication s) := by
  simp (maxDischargeDepth := 999) only [execNmtResetCommunication, keepsR_next, State.resetComm_keeps, hk]

theorem execNmtResetNode_keeps (hk : s0.Keeps s) : s0.KeepsR (execNmtResetNode s) := by
  simp (maxDischargeDepth := 999) only [execNmtResetNode, keepsR_next, State.resetComm_keeps, hk]

theorem execHeartbeatTimer_keeps (hk : s0.Keeps s) : s0.KeepsR (execHeartbeatTimer s) := by
  simp (maxDischargeDepth := 999) only [execHeartbeatTimer, keeps_ite, keepsR_next, State.emitOn_keeps, hk]

theorem execHeartbeatReceived_keeps (node : Nat) (hk : s0.Keeps s) : s0.KeepsR (execHeartbeatReceived node s) := by
  simp (maxDischargeDepth := 999) only [execHeartbeatReceived, keeps_ite, keepsR_next, State.modCan_keeps, hk]

theorem execHeartbeatConsumerTimeout_keeps (j : Nat) (hk : s0.Keeps s) : s0.KeepsR (execHeartbeatConsumerTimeout j s) := by
  simp (maxDischargeDepth := 999) only [execHeartbeatConsumerTimeout, keeps_ite, keepsR_next, State.post_keeps, State.modCan_keeps, State.nmtTo_keeps, hk]

theorem execEmcyInhibitExpiry_keeps (hk : s0.Keeps s) : s0.KeepsR (execEmcyInhibitExpiry s) := by
  simp (maxDischargeDepth := 999) only [execEmcyInhibitExpiry, keeps_ite, State.keeps_refl, keepsR_next, State.forEach_keeps, State.sendEmcy_keeps, State.modCan_keeps, hk, implies_true]

theorem execErrorHistoryClear_keeps (d : Door) (hk : s0.Keeps s) : s0.KeepsR (execErrorHistoryClear d s) := by
  simp (maxDischargeDepth := 999) only [execErrorHistoryClear, keepsR_next, State.put_keeps, hk]

theorem State.setBus_keeps (bus : Nat) (b : BusState) (hk : s0.Keeps s) : s0.Keeps (State.setBus s bus b) := by
  simp (maxDischargeDepth := 999) only [State.setBus, State.setReg_keeps, State.modCan_keeps, hk]

theorem execCanBusOff_keeps (bus : Nat) (hk : s0.Keeps s) : s0.KeepsR (execCanBusOff bus s) := by
  simp (maxDischargeDepth := 999) only [execCanBusOff, keeps_ite, keepsR_next, State.note_keeps, State.setBus_keeps, hk]

theorem execBusOffRecovery_keeps (bus : Nat) (hk : s0.Keeps s) : s0.KeepsR (execBusOffRecovery bus s) := by
  simp (maxDischargeDepth := 999) only [execBusOffRecovery, keeps_ite, keepsR_next, State.raiseEmcy_keeps, State.setBus_keeps, hk]

theorem execCanErrorPassive_keeps (bus : Nat) (passive : Bool) (hk : s0.Keeps s) : s0.KeepsR (execCanErrorPassive bus passive s) := by
  unfold execCanErrorPassive
  (repeat' split) <;> simp (maxDischargeDepth := 999) only [keepsR_next, State.raiseEmcy_keeps, State.setBus_keeps, hk]

/-! ### Clock -/

theorem State.tick_keeps (hk : s0.Keeps s) : s0.Keeps (State.tick s) := by
  simp (maxDischargeDepth := 999) only [State.tick, keeps_mk, State.keeps_refl, State.forEach_keeps, State.clampPoint_keeps, hk, implies_true]

/-! ### Window -/

theorem State.segAbort_keeps (a : Nat) (hk : s0.Keeps s) : s0.Keeps (State.segAbort s a) := by
  simp (maxDischargeDepth := 999) only [State.segAbort, State.modBar2_keeps, hk]

theorem State.openFailed_keeps (a : Nat) (hk : s0.Keeps s) : s0.Keeps (State.openFailed s a) := by
  simp (maxDischargeDepth := 999) only [State.openFailed, State.modBar2_keeps, hk]

theorem State.openRead_keeps (hk : s0.Keeps s) : s0.Keeps (State.openRead s) := by
  unfold State.openRead
  (repeat' split) <;> simp (maxDischargeDepth := 999) only [State.modBar2_keeps, State.segAbort_keeps, State.openFailed_keeps, hk]

theorem State.openWrite_keeps (hk : s0.Keeps s) : s0.Keeps (State.openWrite s) := by
  simp only [State.openWrite]
  (repeat' split) <;> simp (maxDischargeDepth := 999) only [State.modBar2_keeps, State.segAbort_keeps, State.openFailed_keeps, hk]

theorem State.commitSeg_keeps (w : World) (hk : s0.Keeps s) : s0.Keeps (State.commitSeg s w) := by
  simp (maxDischargeDepth := 999) only [State.commitSeg, keeps_ite, State.serve_keeps, State.modBar2_keeps, State.segAbort_keeps, hk]

theorem State.closeSeg_keeps (hk : s0.Keeps s) : s0.Keeps (State.closeSeg s) := by
  simp (maxDischargeDepth := 999) only [State.closeSeg, keeps_ite, State.modBar2_keeps, State.segAbort_keeps, hk]

theorem State.offsetWrite_keeps (v : Nat) (hk : s0.Keeps s) : s0.Keeps (State.offsetWrite s v) := by
  simp (maxDischargeDepth := 999) only [State.offsetWrite, keeps_ite, State.modBar2_keeps, State.segAbort_keeps, hk]

theorem State.apertureWrite_keeps (o v : Nat) (hk : s0.Keeps s) : s0.Keeps (State.apertureWrite s o v) := by
  simp (maxDischargeDepth := 999) only [State.apertureWrite, keeps_ite, State.modBar2_keeps, hk]

theorem State.atWindow_keeps (f : State → State) (hf : ∀ (s : State), s.Keeps (f s)) (hk : s0.Keeps s) : s0.KeepsR (State.atWindow s f) := keepsR_next (keeps_ite (hk.trans (hf _)) hk)

theorem execSegOpenRead_keeps (hk : s0.Keeps s) : s0.KeepsR (execSegOpenRead s) := by
  simp (maxDischargeDepth := 999) only [execSegOpenRead, State.keeps_refl, State.openRead_keeps, State.atWindow_keeps, hk, implies_true]

theorem execSegOpenWrite_keeps (hk : s0.Keeps s) : s0.KeepsR (execSegOpenWrite s) := by
  simp (maxDischargeDepth := 999) only [execSegOpenWrite, State.keeps_refl, State.openWrite_keeps, State.atWindow_keeps, hk, implies_true]

theorem execSegCommitWrite_keeps (w : World) (hk : s0.Keeps s) : s0.KeepsR (execSegCommitWrite w s) := by
  simp (maxDischargeDepth := 999) only [execSegCommitWrite, State.keeps_refl, State.commitSeg_keeps, State.atWindow_keeps, hk, implies_true]

theorem execSegCommitDone_keeps (hk : s0.Keeps s) : s0.KeepsR (execSegCommitDone s) := by
  unfold execSegCommitDone
  (repeat' split) <;> simp (maxDischargeDepth := 999) only [keepsR_next, State.modBar2_keeps, hk]

theorem execSegClose_keeps (hk : s0.Keeps s) : s0.KeepsR (execSegClose s) := by
  simp (maxDischargeDepth := 999) only [execSegClose, State.keeps_refl, State.closeSeg_keeps, State.atWindow_keeps, hk, implies_true]

theorem execSegOffsetWrite_keeps (v : Nat) (hk : s0.Keeps s) : s0.KeepsR (execSegOffsetWrite v s) := by
  simp (maxDischargeDepth := 999) only [execSegOffsetWrite, State.keeps_refl, State.offsetWrite_keeps, State.atWindow_keeps, hk, implies_true]

theorem execSegWindowTimeout_keeps (hk : s0.Keeps s) : s0.KeepsR (execSegWindowTimeout s) := by
  simp (maxDischargeDepth := 999) only [execSegWindowTimeout, keeps_ite, keepsR_next, State.modBar2_keeps, hk]

theorem execSegCtrlInvalidOp_keeps (hk : s0.Keeps s) : s0.KeepsR (execSegCtrlInvalidOp s) := by
  simp (maxDischargeDepth := 999) only [execSegCtrlInvalidOp, State.keeps_refl, State.segAbort_keeps, State.atWindow_keeps, hk, implies_true]

theorem State.windowReg_keeps (off v : Nat) (w : World) (hk : s0.Keeps s) : s0.Keeps (State.windowReg s off v w) := by
  unfold State.windowReg
  (repeat' split) <;> simp (maxDischargeDepth := 999) only [State.modBar2_keeps, State.segAbort_keeps, State.openRead_keeps, State.openWrite_keeps, State.commitSeg_keeps, State.closeSeg_keeps, State.offsetWrite_keeps, State.apertureWrite_keeps, hk]

theorem execSegWindowRegisterWrite_keeps (off v : Nat) (hk : s0.Keeps s) : s0.KeepsR (execSegWindowRegisterWrite off v s) := by
  simp (maxDischargeDepth := 999) only [execSegWindowRegisterWrite, keeps_ite, State.keeps_refl, State.atWindow_keeps, State.windowReg_keeps, hk, implies_true]

theorem State.windowRead_keeps (off : Nat) (hk : s0.Keeps s) : s0.Keeps (State.windowRead s off) := by
  simp (maxDischargeDepth := 999) only [State.windowRead, keeps_ite, State.emit_keeps, State.modBar2_keeps, hk]

theorem execWinAbortRead_keeps (hk : s0.Keeps s) : s0.KeepsR (execWinAbortRead s) := by
  simp (maxDischargeDepth := 999) only [execWinAbortRead, State.keeps_refl, State.atWindow_keeps, State.windowRead_keeps, hk, implies_true]

theorem State.windowRefuse_keeps (i sub a : Nat) (hk : s0.Keeps s) : s0.Keeps (State.windowRefuse s i sub a) := by
  simp (maxDischargeDepth := 999) only [State.windowRefuse, State.modBar2_keeps, hk]

theorem execBar2DirectWrite_keeps (i sub width v : Nat) (w : World) (hk : s0.Keeps s) : s0.KeepsR (execBar2DirectWrite i sub width v w s) := by
  simp (maxDischargeDepth := 999) only [execBar2DirectWrite, keeps_ite, State.keeps_refl, State.windowWrite_keeps, State.atWindow_keeps, State.windowReg_keeps, State.windowRefuse_keeps, hk, implies_true]

theorem State.directRead_keeps (i sub : Nat) (hk : s0.Keeps s) : s0.Keeps (State.directRead s i sub) := by
  unfold State.directRead
  (repeat' split) <;> simp (maxDischargeDepth := 999) only [State.emit_keeps, State.windowRefuse_keeps, hk]

theorem execBar2DirectRead_keeps (i sub width : Nat) (hk : s0.Keeps s) : s0.KeepsR (execBar2DirectRead i sub width s) := by
  simp (maxDischargeDepth := 999) only [execBar2DirectRead, keeps_ite, State.keeps_refl, State.emit_keeps, State.atWindow_keeps, State.windowRead_keeps, State.windowRefuse_keeps, State.directRead_keeps, hk, implies_true]

theorem execGetObject_keeps (c cid i sub off len : Nat) (hk : s0.Keeps s) : s0.KeepsR (execGetObject c cid i sub off len s) := by
  unfold execGetObject
  repeat' first
    | with_reducible exact hk
    | with_reducible exact State.keeps_refl _
    | intro _
    | with_reducible apply keeps_ite
    | with_reducible apply State.keeps_refl
    | with_reducible apply keepsR_ite
    | with_reducible apply keepsR_next
    | with_reducible apply State.emit_keeps
    | with_reducible apply State.complete_keeps
    | with_reducible apply State.adminCmd_keeps
    | with_reducible refine keeps_of_fst (by assumption) ?_
    | with_reducible refine keeps_of_snd (by assumption) ?_
    | with_reducible refine keeps_of_ok (by assumption) ?_
    | split

theorem State.setPiece_keeps (x : Ctx) (i sub off n : Nat) (data : List Byte) (w : World) (hk : s0.Keeps s) : s0.Keeps (State.setPiece s x i sub off n data w) := by
  simp (maxDischargeDepth := 999) only [State.setPiece, keeps_ite, State.modNvme_keeps, State.modCtx_keeps, State.complete_keeps, State.serve_keeps, hk]

theorem State.setMore_keeps (x : Ctx) (i sub off : Nat) (data : List Byte) (w : World) (hk : s0.Keeps s) : s0.Keeps (State.setMore s x i sub off data w) := by
  simp (maxDischargeDepth := 999) only [State.setMore, keeps_ite, State.modCtx_keeps, State.complete_keeps, State.serve_keeps, hk]

theorem execSetObject_keeps (c cid i sub off : Nat) (data : List Byte) (w : World) (hk : s0.Keeps s) : s0.KeepsR (execSetObject c cid i sub off data w s) := by
  unfold execSetObject
  repeat' first
    | with_reducible exact hk
    | with_reducible exact State.keeps_refl _
    | with_reducible intro _
    | with_reducible apply keeps_ite
    | with_reducible apply State.keeps_refl
    | with_reducible apply keepsR_ite
    | with_reducible apply keepsR_next
    | with_reducible apply State.modCtx_keeps
    | with_reducible apply State.complete_keeps
    | with_reducible apply State.adminCmd_keeps
    | with_reducible apply State.serve_keeps
    | with_reducible apply State.setPiece_keeps
    | with_reducible apply State.setMore_keeps
    | with_reducible refine keeps_of_fst (by assumption) ?_
    | with_reducible refine keeps_of_snd (by assumption) ?_
    | with_reducible refine keeps_of_ok (by assumption) ?_
    | with_reducible refine keeps_of_some (by assumption) ?_
    | (simp (maxDischargeDepth := 999) only [keeps_ite, keeps_mk, State.keeps_refl, keepsR_ite, keepsR_next, State.modCtx_keeps, State.complete_keeps, State.adminCmd_keeps, State.serve_keeps, State.setPiece_keeps, State.setMore_keeps, hk, implies_true]; done)
    | split

end Sys2Proof.Machine
end

