-- ==== Sys2Proof/Laws/Keeps6.lean ====
section
/-! SUPPORT. No operation of these files breaks what Laws/Keeps.lean says every command keeps: DictCmds, Electrical, Fields, MotionCmds. -/

namespace Sys2Proof.Machine

variable {s0 s t : State}

/-! ### DictCmds -/

theorem execDictWrite_keeps (d : Door) (i sub : Nat) (v : Val) (w : World) (hk : s0.Keeps s) : s0.KeepsR (execDictWrite d i sub v w s) := by
  simp (maxDischargeDepth := 999) only [execDictWrite, keepsR_next, State.access_keeps, hk]

theorem State.write_keeps (d : Door) (i sub v : Nat) (hk : s0.Keeps s) : s0.KeepsR (State.write s d i sub v) := by
  simp (maxDischargeDepth := 999) only [State.write, keepsR_next, State.put_keeps, hk]

theorem execStoreParameters_keeps (d : Door) (sub v : Nat) (hk : s0.Keeps s) : s0.KeepsR (execStoreParameters d sub v s) := by
  simp (maxDischargeDepth := 999) only [execStoreParameters, State.write_keeps, hk]

theorem execRestoreDefaults_keeps (d : Door) (sub v : Nat) (hk : s0.Keeps s) : s0.KeepsR (execRestoreDefaults d sub v s) := by
  simp (maxDischargeDepth := 999) only [execRestoreDefaults, State.write_keeps, hk]

theorem execEnterHearth_keeps (d : Door) (hk : s0.Keeps s) : s0.KeepsR (execEnterHearth d s) := by
  simp (maxDischargeDepth := 999) only [execEnterHearth, State.write_keeps, hk]

theorem execWake_keeps (d : Door) (hk : s0.Keeps s) : s0.KeepsR (execWake d s) := by
  simp (maxDischargeDepth := 999) only [execWake, State.write_keeps, hk]

theorem execClearFailed_keeps (d : Door) (hk : s0.Keeps s) : s0.KeepsR (execClearFailed d s) := by
  simp (maxDischargeDepth := 999) only [execClearFailed, State.write_keeps, hk]

theorem State.stationCmd_keeps (d : Door) (st code target strobe : Nat) (force : Bool) (hk : s0.Keeps s) : s0.KeepsR (State.stationCmd s d st code target strobe force) := by
  simp (maxDischargeDepth := 999) only [State.stationCmd, State.write_keeps, hk]

theorem execPowerUp_keeps (d : Door) (st : Nat) (hk : s0.Keeps s) : s0.KeepsR (execPowerUp d st s) := by
  simp (maxDischargeDepth := 999) only [execPowerUp, State.stationCmd_keeps, hk]

theorem execLoad_keeps (d : Door) (st target strobe : Nat) (hk : s0.Keeps s) : s0.KeepsR (execLoad d st target strobe s) := by
  simp (maxDischargeDepth := 999) only [execLoad, State.stationCmd_keeps, hk]

theorem execUnload_keeps (d : Door) (st : Nat) (force : Bool) (hk : s0.Keeps s) : s0.KeepsR (execUnload d st force s) := by
  simp (maxDischargeDepth := 999) only [execUnload, State.stationCmd_keeps, hk]

theorem execStow_keeps (d : Door) (st : Nat) (force : Bool) (hk : s0.Keeps s) : s0.KeepsR (execStow d st force s) := by
  simp (maxDischargeDepth := 999) only [execStow, State.stationCmd_keeps, hk]

theorem execPowerDown_keeps (d : Door) (st : Nat) (hk : s0.Keeps s) : s0.KeepsR (execPowerDown d st s) := by
  simp (maxDischargeDepth := 999) only [execPowerDown, State.stationCmd_keeps, hk]

theorem execEnterMaint_keeps (d : Door) (st : Nat) (hk : s0.Keeps s) : s0.KeepsR (execEnterMaint d st s) := by
  simp (maxDischargeDepth := 999) only [execEnterMaint, State.stationCmd_keeps, hk]

theorem execExitMaint_keeps (d : Door) (st : Nat) (hk : s0.Keeps s) : s0.KeepsR (execExitMaint d st s) := by
  simp (maxDischargeDepth := 999) only [execExitMaint, State.stationCmd_keeps, hk]

theorem execClearFault_keeps (d : Door) (st : Nat) (hk : s0.Keeps s) : s0.KeepsR (execClearFault d st s) := by
  simp (maxDischargeDepth := 999) only [execClearFault, State.stationCmd_keeps, hk]

theorem execStationStop_keeps (d : Door) (st v : Nat) (hk : s0.Keeps s) : s0.KeepsR (execStationStop d st v s) := by
  simp (maxDischargeDepth := 999) only [execStationStop, State.write_keeps, hk]

theorem execStrobeFire_keeps (d : Door) (st mask : Nat) (hk : s0.Keeps s) : s0.KeepsR (execStrobeFire d st mask s) := by
  simp (maxDischargeDepth := 999) only [execStrobeFire, State.write_keeps, hk]

theorem execDstrobeFire_keeps (d : Door) (st mask : Nat) (hk : s0.Keeps s) : s0.KeepsR (execDstrobeFire d st mask s) := by
  simp (maxDischargeDepth := 999) only [execDstrobeFire, State.write_keeps, hk]

theorem execDirectOrder_keeps (d : Door) (st v : Nat) (hk : s0.Keeps s) : s0.KeepsR (execDirectOrder d st v s) := by
  simp (maxDischargeDepth := 999) only [execDirectOrder, State.write_keeps, hk]

theorem execTargetRpmWrite_keeps (d : Door) (st rpm : Nat) (hk : s0.Keeps s) : s0.KeepsR (execTargetRpmWrite d st rpm s) := by
  simp (maxDischargeDepth := 999) only [execTargetRpmWrite, State.write_keeps, hk]

theorem execLbaTranslate_keeps (d : Door) (st v : Nat) (hk : s0.Keeps s) : s0.KeepsR (execLbaTranslate d st v s) := by
  simp (maxDischargeDepth := 999) only [execLbaTranslate, State.write_keeps, hk]

theorem execWiringTestRequest_keeps (d : Door) (st v : Nat) (hk : s0.Keeps s) : s0.KeepsR (execWiringTestRequest d st v s) := by
  simp (maxDischargeDepth := 999) only [execWiringTestRequest, State.write_keeps, hk]

theorem State.loopWrite_keeps (d : Door) (e l v : Nat) (hk : s0.Keeps s) : s0.KeepsR (State.loopWrite s d e l v) := by
  simp (maxDischargeDepth := 999) only [State.loopWrite, State.write_keeps, hk]

theorem execLoopCmdOff_keeps (d : Door) (e l : Nat) (hk : s0.Keeps s) : s0.KeepsR (execLoopCmdOff d e l s) := by
  simp (maxDischargeDepth := 999) only [execLoopCmdOff, State.loopWrite_keeps, hk]

theorem execLoopCmdOpen_keeps (d : Door) (e l : Nat) (hk : s0.Keeps s) : s0.KeepsR (execLoopCmdOpen d e l s) := by
  simp (maxDischargeDepth := 999) only [execLoopCmdOpen, State.loopWrite_keeps, hk]

theorem execLoopCmdHold_keeps (d : Door) (e l : Nat) (hk : s0.Keeps s) : s0.KeepsR (execLoopCmdHold d e l s) := by
  simp (maxDischargeDepth := 999) only [execLoopCmdHold, State.loopWrite_keeps, hk]

theorem execLoopCmdClose_keeps (d : Door) (e l : Nat) (hk : s0.Keeps s) : s0.KeepsR (execLoopCmdClose d e l s) := by
  simp (maxDischargeDepth := 999) only [execLoopCmdClose, State.loopWrite_keeps, hk]

theorem execApply_keeps (d : Door) (e : Nat) (hk : s0.Keeps s) : s0.KeepsR (execApply d e s) := by
  simp (maxDischargeDepth := 999) only [execApply, State.write_keeps, hk]

theorem execInjEnable_keeps (d : Door) (e v : Nat) (hk : s0.Keeps s) : s0.KeepsR (execInjEnable d e v s) := by
  simp (maxDischargeDepth := 999) only [execInjEnable, State.write_keeps, hk]

theorem execCaptureRequest_keeps (d : Door) (e v : Nat) (hk : s0.Keeps s) : s0.KeepsR (execCaptureRequest d e v s) := by
  simp (maxDischargeDepth := 999) only [execCaptureRequest, State.write_keeps, hk]

theorem State.measureOrdered_keeps (e param : Nat) (hk : s0.Keeps s) : s0.Keeps (State.measureOrdered s e param) := by
  unfold State.measureOrdered
  repeat' first
    | with_reducible exact hk
    | with_reducible exact State.keeps_refl _
    | with_reducible intro _
    | with_reducible apply keeps_ite
    | with_reducible apply State.modSq_keeps
    | with_reducible apply State.beginResult_keeps
    | with_reducible apply State.orderFailed_keeps
    | with_reducible apply State.orderRejected_keeps
    | with_reducible apply State.measureStart_keeps
    | with_reducible refine keeps_of_fst (by assumption) ?_
    | with_reducible refine keeps_of_snd (by assumption) ?_
    | with_reducible refine keeps_of_ok (by assumption) ?_
    | with_reducible refine keeps_of_some (by assumption) ?_
    | (simp (maxDischargeDepth := 999) only [keeps_ite, keeps_mk, State.modSq_keeps, State.beginResult_keeps, State.orderFailed_keeps, State.orderRejected_keeps, State.measureStart_keeps, hk]; done)
    | split

theorem execMeasureLoop_keeps (d : Door) (e req : Nat) (hk : s0.Keeps s) : s0.KeepsR (execMeasureLoop d e req s) := by
  unfold execMeasureLoop
  (repeat' split) <;> simp (maxDischargeDepth := 999) only [keepsR_next, State.write_keeps, State.measureOrdered_keeps, hk]

theorem execRingFrameDump_keeps (d : Door) (h v : Nat) (hk : s0.Keeps s) : s0.KeepsR (execRingFrameDump d h v s) := by
  simp (maxDischargeDepth := 999) only [execRingFrameDump, State.write_keeps, hk]

theorem execTagProbe_keeps (d : Door) (v : Nat) (hk : s0.Keeps s) : s0.KeepsR (execTagProbe d v s) := by
  simp (maxDischargeDepth := 999) only [execTagProbe, State.write_keeps, hk]

theorem execHbmAddressDecode_keeps (d : Door) (v : Nat) (hk : s0.Keeps s) : s0.KeepsR (execHbmAddressDecode d v s) := by
  simp (maxDischargeDepth := 999) only [execHbmAddressDecode, State.write_keeps, hk]

theorem execHbmInjectArm_keeps (d : Door) (v : Nat) (hk : s0.Keeps s) : s0.KeepsR (execHbmInjectArm d v s) := by
  simp (maxDischargeDepth := 999) only [execHbmInjectArm, State.write_keeps, hk]

theorem execRepairMapClear_keeps (d : Door) (v : Nat) (hk : s0.Keeps s) : s0.KeepsR (execRepairMapClear d v s) := by
  simp (maxDischargeDepth := 999) only [execRepairMapClear, State.write_keeps, hk]

theorem execRingEnableWrite_keeps (d : Door) (v : Nat) (hk : s0.Keeps s) : s0.KeepsR (execRingEnableWrite d v s) := by
  simp (maxDischargeDepth := 999) only [execRingEnableWrite, State.write_keeps, hk]

theorem execRsFire_keeps (d : Door) (v : Nat) (hk : s0.Keeps s) : s0.KeepsR (execRsFire d v s) := by
  simp (maxDischargeDepth := 999) only [execRsFire, State.write_keeps, hk]

theorem execCalendarTimeWrite_keeps (d : Door) (v : Nat) (hk : s0.Keeps s) : s0.KeepsR (execCalendarTimeWrite d v s) := by
  simp (maxDischargeDepth := 999) only [execCalendarTimeWrite, State.write_keeps, hk]

theorem execVolumeCreate_keeps (d : Door) (v far : Nat) (hk : s0.Keeps s) : s0.KeepsR (execVolumeCreate d v far s) := by
  simp (maxDischargeDepth := 999) only [execVolumeCreate, keepsR_next, State.put_keeps, hk]

theorem execVolumeDelete_keeps (d : Door) (v : Nat) (hk : s0.Keeps s) : s0.KeepsR (execVolumeDelete d v s) := by
  simp (maxDischargeDepth := 999) only [execVolumeDelete, State.write_keeps, hk]

theorem execReplaceColumn_keeps (d : Door) (v : Nat) (far : Bool) (hk : s0.Keeps s) : s0.KeepsR (execReplaceColumn d v far s) := by
  simp (maxDischargeDepth := 999) only [execReplaceColumn, keepsR_next, State.put_keeps, hk]

theorem execCustomerImageInstall_keeps (d : Door) (v : Nat) (hk : s0.Keeps s) : s0.KeepsR (execCustomerImageInstall d v s) := by
  simp (maxDischargeDepth := 999) only [execCustomerImageInstall, State.write_keeps, hk]

theorem execCustomerImageErase_keeps (d : Door) (v : Nat) (hk : s0.Keeps s) : s0.KeepsR (execCustomerImageErase d v s) := by
  simp (maxDischargeDepth := 999) only [execCustomerImageErase, State.write_keeps, hk]

theorem execLifeCycleTransition_keeps (d : Door) (v : Nat) (prog : ProgramEnd) (hk : s0.Keeps s) : s0.KeepsR (execLifeCycleTransition d v prog s) := by
  simp (maxDischargeDepth := 999) only [execLifeCycleTransition, keepsR_next, State.put_keeps, hk]

theorem execCustomerKeyFuse_keeps (d : Door) (v : Nat) (ok : Bool) (hk : s0.Keeps s) : s0.KeepsR (execCustomerKeyFuse d v ok s) := by
  simp (maxDischargeDepth := 999) only [execCustomerKeyFuse, keepsR_next, State.put_keeps, hk]

theorem execQuoteRequest_keeps (d : Door) (v : Nat) (hk : s0.Keeps s) : s0.KeepsR (execQuoteRequest d v s) := by
  simp (maxDischargeDepth := 999) only [execQuoteRequest, State.write_keeps, hk]

theorem execAuthResponse_keeps (d : Door) (data : List Byte) (hk : s0.Keeps s) : s0.KeepsR (execAuthResponse d data s) := by
  simp (maxDischargeDepth := 999) only [execAuthResponse, keepsR_next, State.access_keeps, hk]

theorem execAuthClose_keeps (d : Door) (v : Nat) (hk : s0.Keeps s) : s0.KeepsR (execAuthClose d v s) := by
  simp (maxDischargeDepth := 999) only [execAuthClose, State.write_keeps, hk]

theorem execDebugResponse_keeps (d : Door) (data : List Byte) (hk : s0.Keeps s) : s0.KeepsR (execDebugResponse d data s) := by
  simp (maxDischargeDepth := 999) only [execDebugResponse, keepsR_next, State.access_keeps, hk]

theorem execIdCertWrite_keeps (d : Door) (data : List Byte) (hk : s0.Keeps s) : s0.KeepsR (execIdCertWrite d data s) := by
  simp (maxDischargeDepth := 999) only [execIdCertWrite, keepsR_next, State.access_keeps, hk]

theorem execRecoveryInstall_keeps (d : Door) (v : Nat) (hk : s0.Keeps s) : s0.KeepsR (execRecoveryInstall d v s) := by
  simp (maxDischargeDepth := 999) only [execRecoveryInstall, State.write_keeps, hk]

theorem execFlushNow_keeps (d : Door) (v : Nat) (hk : s0.Keeps s) : s0.KeepsR (execFlushNow d v s) := by
  simp (maxDischargeDepth := 999) only [execFlushNow, State.write_keeps, hk]

theorem execFreezeWrite_keeps (d : Door) (v : Nat) (hk : s0.Keeps s) : s0.KeepsR (execFreezeWrite d v s) := by
  simp (maxDischargeDepth := 999) only [execFreezeWrite, State.write_keeps, hk]

theorem execLedgerClear_keeps (d : Door) (v : Nat) (hk : s0.Keeps s) : s0.KeepsR (execLedgerClear d v s) := by
  simp (maxDischargeDepth := 999) only [execLedgerClear, State.write_keeps, hk]

theorem execCursorWrite_keeps (d : Door) (v : Nat) (hk : s0.Keeps s) : s0.KeepsR (execCursorWrite d v s) := by
  simp (maxDischargeDepth := 999) only [execCursorWrite, State.write_keeps, hk]

theorem execAdvance_keeps (d : Door) (v : Nat) (hk : s0.Keeps s) : s0.KeepsR (execAdvance d v s) := by
  simp (maxDischargeDepth := 999) only [execAdvance, State.write_keeps, hk]

theorem execEventOverrideWrite_keeps (d : Door) (i v : Nat) (hk : s0.Keeps s) : s0.KeepsR (execEventOverrideWrite d i v s) := by
  simp (maxDischargeDepth := 999) only [execEventOverrideWrite, State.write_keeps, hk]

theorem execCalRfVisitRound_keeps (d : Door) (v : Nat) (hk : s0.Keeps s) : s0.KeepsR (execCalRfVisitRound d v s) := by
  simp (maxDischargeDepth := 999) only [execCalRfVisitRound, State.write_keeps, hk]

theorem execCalHeadDacs_keeps (d : Door) (v : Nat) (hk : s0.Keeps s) : s0.KeepsR (execCalHeadDacs d v s) := by
  simp (maxDischargeDepth := 999) only [execCalHeadDacs, State.write_keeps, hk]

theorem execCalMotorSense_keeps (d : Door) (v : Nat) (hk : s0.Keeps s) : s0.KeepsR (execCalMotorSense d v s) := by
  simp (maxDischargeDepth := 999) only [execCalMotorSense, State.write_keeps, hk]

theorem execBistStationCore_keeps (d : Door) (v : Nat) (hk : s0.Keeps s) : s0.KeepsR (execBistStationCore d v s) := by
  simp (maxDischargeDepth := 999) only [execBistStationCore, State.write_keeps, hk]

theorem execBistMotorIo_keeps (d : Door) (v : Nat) (hk : s0.Keeps s) : s0.KeepsR (execBistMotorIo d v s) := by
  simp (maxDischargeDepth := 999) only [execBistMotorIo, State.write_keeps, hk]

theorem execBistHeadFrontEnd_keeps (d : Door) (v : Nat) (hk : s0.Keeps s) : s0.KeepsR (execBistHeadFrontEnd d v s) := by
  simp (maxDischargeDepth := 999) only [execBistHeadFrontEnd, State.write_keeps, hk]

theorem execBistHeadChannel_keeps (d : Door) (v : Nat) (hk : s0.Keeps s) : s0.KeepsR (execBistHeadChannel d v s) := by
  simp (maxDischargeDepth := 999) only [execBistHeadChannel, State.write_keeps, hk]

theorem execBistLdpcSlice_keeps (d : Door) (v : Nat) (hk : s0.Keeps s) : s0.KeepsR (execBistLdpcSlice d v s) := by
  simp (maxDischargeDepth := 999) only [execBistLdpcSlice, State.write_keeps, hk]

theorem execBistContextSegment_keeps (d : Door) (v : Nat) (hk : s0.Keeps s) : s0.KeepsR (execBistContextSegment d v s) := by
  simp (maxDischargeDepth := 999) only [execBistContextSegment, State.write_keeps, hk]

theorem execBistEcEngine_keeps (d : Door) (v : Nat) (hk : s0.Keeps s) : s0.KeepsR (execBistEcEngine d v s) := by
  simp (maxDischargeDepth := 999) only [execBistEcEngine, State.write_keeps, hk]

theorem execBistWholeChip_keeps (d : Door) (v : Nat) (hk : s0.Keeps s) : s0.KeepsR (execBistWholeChip d v s) := by
  simp (maxDischargeDepth := 999) only [execBistWholeChip, State.write_keeps, hk]

/-! ### Electrical -/

theorem execPcieLinkUp_keeps (speed width : Nat) (hk : s0.Keeps s) : s0.KeepsR (execPcieLinkUp speed width s) := by
  simp (maxDischargeDepth := 999) only [execPcieLinkUp, keeps_ite, keepsR_next, State.setRegs_keeps, hk]

theorem execEthernetLinkChange_keeps (p : Nat) (up : Bool) (hk : s0.Keeps s) : s0.KeepsR (execEthernetLinkChange p up s) := by
  simp (maxDischargeDepth := 999) only [execEthernetLinkChange, keeps_ite, keepsR_next, State.setRegBit_keeps, hk]

theorem execEyeMeasure_keeps (heights widths : List Nat) (hk : s0.Keeps s) : s0.KeepsR (execEyeMeasure heights widths s) := by
  simp (maxDischargeDepth := 999) only [execEyeMeasure, keeps_ite, State.keeps_refl, keepsR_next, State.setRegs_keeps, State.forEach_keeps, hk, implies_true]

theorem State.refGone_keeps (r : ClockRef) (hk : s0.Keeps s) : s0.Keeps (State.refGone s r) := by
  simp only [State.refGone]
  (repeat' split) <;> simp (maxDischargeDepth := 999) only [State.setReg_keeps, State.clockView_keeps, State.modPower_keeps, State.crystalLoss_keeps, State.ringLinkLost_keeps, State.resetCtrl_keeps, State.linkDown_keeps, hk]

theorem State.refBack_keeps (r : ClockRef) (hk : s0.Keeps s) : s0.Keeps (State.refBack s r) := by
  simp only [State.refBack]
  (repeat' split) <;> simp (maxDischargeDepth := 999) only [State.clockView_keeps, State.modPower_keeps, State.clockBack_keeps, hk]

theorem execClockLoss_keeps (r : ClockRef) (hk : s0.Keeps s) : s0.KeepsR (execClockLoss r s) := by
  simp (maxDischargeDepth := 999) only [execClockLoss, keeps_ite, keepsR_next, State.refGone_keeps, hk]

theorem execClockRestore_keeps (r : ClockRef) (hk : s0.Keeps s) : s0.KeepsR (execClockRestore r s) := by
  simp (maxDischargeDepth := 999) only [execClockRestore, keeps_ite, keepsR_next, State.refBack_keeps, hk]

/-! ### Fields -/

theorem execFld_keeps (q d r imm : Nat) (hk : s0.Keeps s) : s0.KeepsR (execFld q d r imm s) := by
  refine State.micro_keeps _ _ _ _ _ _ _ (fun s => ?_) hk
  dsimp only
  split
  · exact State.putM_keeps _ _ _ s.keeps_refl
  · exact State.putM_keeps _ _ _ (State.modSq_keeps _ _ s.keeps_refl)

theorem State.fieldWrite_keeps (e i sub : Nat) (v : BitVec 32) (hk : s0.Keeps s) : s0.KeepsA (State.fieldWrite s e i sub v) := by
  unfold State.fieldWrite
  split
  · exact keepsA_error _
  · refine keepsA_ite (keepsA_error _) ?_
    split
    · exact keepsA_error _
    · rename_i n _
      refine keepsA_ite (keepsA_error _) ?_
      extract_lets act s1
      have h1 : s0.KeepsO act := by
        simp (maxDischargeDepth := 999) only [act, keepsO_ite, keepsO_some, keepsA_ite, keepsA_error, State.injWrite_keeps, State.stationEffect_keeps, hk]
      have h2 : s0.Keeps s1 := State.afterWrite_keeps _ _ (State.setReg_keeps _ _ hk)
      clear_value act s1
      split
      · exact keepsA_error _
      · exact keepsA_ok h1
      · split
        · exact keepsA_ok (State.modEng_keeps _ _ h2)
        · exact keepsA_ok h2

theorem execFst_keeps (q d r imm : Nat) (hk : s0.Keeps s) : s0.KeepsR (execFst q d r imm s) := by
  refine State.micro_keeps _ _ _ _ _ _ _ (fun s => ?_) hk
  dsimp only
  split
  · exact State.nextWord_keeps _ (keeps_of_ok (by assumption) (State.fieldWrite_keeps _ _ _ _ s.keeps_refl))
  · exact State.latheRefuse_keeps _ _ s.keeps_refl

/-! ### MotionCmds -/

theorem execSpinUp_keeps (st : Nat) (ev : SpinEvent) (hk : s0.Keeps s) : s0.KeepsR (execSpinUp st ev s) := by
  simp (maxDischargeDepth := 999) only [execSpinUp, keeps_ite, keepsR_next, State.spinUp_keeps, State.bistLeave_keeps, hk]

theorem execStartMeasureEnd_keeps (st : Nat) (hk : s0.Keeps s) : s0.KeepsR (execStartMeasureEnd st s) := by
  simp (maxDischargeDepth := 999) only [execStartMeasureEnd, keepsR_next, State.measured_keeps, hk]

theorem execSpinDown_keeps (st : Nat) (hk : s0.Keeps s) : s0.KeepsR (execSpinDown st s) := by
  simp (maxDischargeDepth := 999) only [execSpinDown, keepsR_next, State.spinDown_keeps, hk]

theorem execStopBrakeEnd_keeps (st : Nat) (hk : s0.Keeps s) : s0.KeepsR (execStopBrakeEnd st s) := by
  simp (maxDischargeDepth := 999) only [execStopBrakeEnd, keepsR_next, State.brakeEnd_keeps, hk]

theorem execSetSpeed_keeps (st : Nat) (hk : s0.Keeps s) : s0.KeepsR (execSetSpeed st s) := by
  simp (maxDischargeDepth := 999) only [execSetSpeed, keepsR_next, State.setSpeed_keeps, hk]

theorem execSpeedLoopTick_keeps (st : Nat) (hk : s0.Keeps s) : s0.KeepsR (execSpeedLoopTick st s) := by
  simp (maxDischargeDepth := 999) only [execSpeedLoopTick, keepsR_next, State.speedTick_keeps, State.testSpeed_keeps, hk]

theorem execAtSpeed_keeps (st : Nat) (hk : s0.Keeps s) : s0.KeepsR (execAtSpeed st s) := by
  simp (maxDischargeDepth := 999) only [execAtSpeed, keepsR_next, State.atSpeed_keeps, hk]

theorem execSpinUpTimeout_keeps (st : Nat) (hk : s0.Keeps s) : s0.KeepsR (execSpinUpTimeout st s) := by
  simp (maxDischargeDepth := 999) only [execSpinUpTimeout, keepsR_next, State.spinTimeout_keeps, hk]

theorem execHallEdge_keeps (st code stamp : Nat) (hk : s0.Keeps s) : s0.KeepsR (execHallEdge st code stamp s) := by
  simp (maxDischargeDepth := 999) only [execHallEdge, keepsR_next, State.hallEdge_keeps, hk]

theorem execObserverMissedEdge_keeps (st : Nat) (hk : s0.Keeps s) : s0.KeepsR (execObserverMissedEdge st s) := by
  simp (maxDischargeDepth := 999) only [execObserverMissedEdge, keepsR_next, State.missedEdge_keeps, hk]

theorem execEncoderZEdge_keeps (st : Nat) (hk : s0.Keeps s) : s0.KeepsR (execEncoderZEdge st s) := by
  simp (maxDischargeDepth := 999) only [execEncoderZEdge, keepsR_next, State.encZ_keeps, hk]

theorem execEncoderEdge_keeps (st : Nat) (fwd valid : Bool) (stamp : Nat) (hk : s0.Keeps s) : s0.KeepsR (execEncoderEdge st fwd valid stamp s) := by
  simp (maxDischargeDepth := 999) only [execEncoderEdge, keepsR_next, State.encEdge_keeps, hk]

theorem execCoastStopTimeout_keeps (st : Nat) (hk : s0.Keeps s) : s0.KeepsR (execCoastStopTimeout st s) := by
  simp (maxDischargeDepth := 999) only [execCoastStopTimeout, keepsR_next, State.coastTimeout_keeps, hk]

theorem execLockedRotor_keeps (st : Nat) (hk : s0.Keeps s) : s0.KeepsR (execLockedRotor st s) := by
  simp (maxDischargeDepth := 999) only [execLockedRotor, keepsR_ite, keepsR_next, State.lockedRotor_keeps, hk]

theorem execLockedRotorRetry_keeps (st : Nat) (hk : s0.Keeps s) : s0.KeepsR (execLockedRotorRetry st s) := by
  simp (maxDischargeDepth := 999) only [execLockedRotorRetry, keepsR_next, State.lockedRetry_keeps, hk]

theorem execVbusSample_keeps (st mv amps : Nat) (hk : s0.Keeps s) : s0.KeepsR (execVbusSample st mv amps s) := by
  simp (maxDischargeDepth := 999) only [execVbusSample, keepsR_next, State.vbusSample_keeps, hk]

theorem execVbusFaultTimeout_keeps (st : Nat) (hk : s0.Keeps s) : s0.KeepsR (execVbusFaultTimeout st s) := by
  simp (maxDischargeDepth := 999) only [execVbusFaultTimeout, keepsR_next, State.vbusFault_keeps, hk]

theorem execSledSetPoint_keeps (h rotor : Nat) (hk : s0.Keeps s) : s0.KeepsR (execSledSetPoint h rotor s) := by
  simp (maxDischargeDepth := 999) only [execSledSetPoint, keepsR_next, State.sledPoint_keeps, hk]

theorem execSledStall_keeps (h : Nat) (hk : s0.Keeps s) : s0.KeepsR (execSledStall h s) := by
  simp (maxDischargeDepth := 999) only [execSledStall, keepsR_next, State.sledStall_keeps, hk]

theorem execSledHome_keeps (h : Nat) (ev : HomeEvent) (hk : s0.Keeps s) : s0.KeepsR (execSledHome h ev s) := by
  simp (maxDischargeDepth := 999) only [execSledHome, keepsR_next, State.sledHome_keeps, hk]

theorem execSledPark_keeps (h : Nat) (hk : s0.Keeps s) : s0.KeepsR (execSledPark h s) := by
  simp (maxDischargeDepth := 999) only [execSledPark, keepsR_next, State.sledPark_keeps, hk]

theorem execSeek_keeps (h : Nat) (ev : SeekEvent) (hk : s0.Keeps s) : s0.KeepsR (execSeek h ev s) := by
  simp (maxDischargeDepth := 999) only [execSeek, keepsR_next, State.seek_keeps, hk]

theorem execSledProfileEnd_keeps (h : Nat) (hk : s0.Keeps s) : s0.KeepsR (execSledProfileEnd h s) := by
  simp (maxDischargeDepth := 999) only [execSledProfileEnd, keepsR_next, State.profileEnd_keeps, hk]

theorem execClampStroke_keeps (st : Nat) (hk : s0.Keeps s) : s0.KeepsR (execClampStroke st s) := by
  simp (maxDischargeDepth := 999) only [execClampStroke, keepsR_next, State.clampOrder_keeps, hk]

theorem execUnclampStroke_keeps (st : Nat) (hk : s0.Keeps s) : s0.KeepsR (execUnclampStroke st s) := by
  simp (maxDischargeDepth := 999) only [execUnclampStroke, keepsR_next, State.clampOrder_keeps, hk]

theorem execClampProbe_keeps (st : Nat) (hk : s0.Keeps s) : s0.KeepsR (execClampProbe st s) := by
  simp (maxDischargeDepth := 999) only [execClampProbe, keepsR_next, State.clampOrder_keeps, hk]

theorem execClampStall_keeps (st run : Nat) (bemf : List Nat) (hk : s0.Keeps s) : s0.KeepsR (execClampStall st run bemf s) := by
  simp (maxDischargeDepth := 999) only [execClampStall, keepsR_next, State.clampStall_keeps, hk]

theorem execClampStrokeLimit_keeps (st : Nat) (hk : s0.Keeps s) : s0.KeepsR (execClampStrokeLimit st s) := by
  simp (maxDischargeDepth := 999) only [execClampStrokeLimit, keepsR_next, State.clampLimit_keeps, hk]

end Sys2Proof.Machine
end

