-- ==== Sys2Proof/Laws/Ring.lean ====
section
/-! SUPPORT. What a frame of the ring does as it comes in: one lemma over the shared operation of Machine/Ring.lean. -/

namespace Sys2Proof.Machine

/-- A command that is the coming in of a frame does, in each case of R390, what `State.Arrives` says. -/
theorem arrives_of {s : State} {c : Instr} {p kind : Nat} {hd : FrameHead} {crc : Bool} {f : List Nat} {d : List Block}
    {act : State → State} (h : exec c s = .next (s.frameIn p kind hd crc f d act)) : s.Arrives c p kind hd crc f d act := by
  unfold State.Arrives
  unfold State.frameIn at h
  refine ⟨?_, ?_, ?_, ?_, ?_, ?_, ?_, ?_⟩
  · intro h1; rw [h, h1]; rfl
  · intro h1 h2; rw [h, h1, if_neg (by decide), if_pos h2]
  · intro h1 h2; rw [h, h2]; split
    · rfl
    · rw [if_neg h1]; rfl
  · rintro ⟨h1, h2, h3⟩ h4; rw [h, h1, h3, h4, if_neg (by decide), if_neg h2]; rfl
  · rintro ⟨h1, h2, h3⟩ h4 h5; rw [h, h1, h3, h4, if_neg (by decide), if_neg h2, if_neg (by decide), if_neg (by decide), if_pos h5]
  all_goals
    rintro ⟨⟨h1, h2, h3⟩, h4, h5⟩
    rw [h1, h3, h4, if_neg (by decide), if_neg h2, if_neg (by decide), if_neg (by decide), if_neg (by simpa using h5)] at h
    rw [h]
  · rintro (h6 | ⟨h6, h7⟩)
    · simp [h6]
    · by_cases h8 : hd.dest = 0xFF
      · simp [h8]
      · have h9 : s.reg (ringKey 4) ≠ 255 := h6 ▸ h8
        simp [← h6, h7, h8]
  · intro h6; simp [h6]
  · intro h6 h7
    have h8 : hd.dest ≠ 0xFF := fun h => h6 (.inl h)
    have h9 : hd.dest ≠ s.reg (ringKey 4) := fun h => h6 (.inr ⟨h, h7⟩)
    simp [h7, h8, h9]

end Sys2Proof.Machine
end

