-- ==== Sys2Proof/Laws/Sequencer.lean ====
section
/-! SUPPORT. What a microword of a sequencer does to the state: one lemma per shared operation of Machine/Microwords.lean. -/

namespace Sys2Proof.Machine

/-- A command that leaves the code of the running order as it was ends no spin-up. -/
theorem State.spinLeft_same {t s : State} {e : Nat} (h : (t.sq e).code = (s.sq e).code) : t.spinLeft s e = t := by
  unfold State.spinLeft
  rw [if_neg]
  rintro ⟨_, h1, h2, _⟩
  exact h2 (h ▸ h1)

/-- A word that the sequencer runs, and that changes nothing of its order, is its effect. -/
theorem micro_run {s : State} {e op d r imm : Nat} {b : Bool} {f : State → State} (h : s.runsWord e op d r imm = true)
    (hc : ((f s).sq e).code = (s.sq e).code) (hb : b = false := by rfl) : s.micro e op d r imm b f = .next (f s) := by
  unfold State.runsWord at h
  simp [State.micro, h, hb, State.spinLeft_same hc]

/-- A word whose effect is on its sequencer alone. -/
theorem micro_only {s : State} {e op d r imm : Nat} {b : Bool} {f : State → State} {x : Seq} {ks : List Nat}
    (h : s.runsWord e op d r imm = true) (ho : s.OnlySeq (f s) e x ks) (hc : x.code = (s.sq e).code := by rfl)
    (hb : b = false := by rfl) : ∃ t, s.micro e op d r imm b f = .next t ∧ s.OnlySeq t e x ks :=
  ⟨f s, micro_run h (ho.1 ▸ hc) hb, ho⟩

theorem eqKeys (e : Nat) : latheKey e (1 + seqNo e) ≠ latheKey e (4 + seqNo e) := by
  unfold latheKey key; omega

@[simp] theorem sq_modSq_same (s : State) (e : Nat) (f : Seq → Seq) : (s.modSq e f).sq e = f (s.sq e) := by
  simp [State.sq_modSq]

theorem onlySeq_view {s u : State} {e : Nat} {x : Seq} {ks : List Nat} (h1 : u.sq e = x) (h2 : ∀ j, j ≠ e → u.sq j = s.sq j)
    (h3 : ∀ k, k ∉ ks → u.reg k = s.reg k) (h4 : { u with seqs := s.seqs, regs := s.regs } = s) :
    s.OnlySeq (u.seqView e) e x ks := by
  unfold State.OnlySeq State.seqView
  simp only [State.setRegs_cons, State.setRegs_nil]
  refine ⟨h1, h2, ?_, ?_, ?_, ?_⟩
  · rw [State.reg_setReg_ne _ _ (eqKeys e), State.reg_setReg_same, h1, Seq.shown]
  · rw [State.reg_setReg_same, h1]
  · intro k hk
    simp only [List.mem_cons, not_or] at hk
    rw [State.reg_setReg_ne _ _ hk.2.1, State.reg_setReg_ne _ _ hk.1]
    exact h3 k hk.2.2
  · rw [← h4]; rfl

theorem onlySeq_mod {s : State} {e : Nat} (f : Seq → Seq) {x : Seq} (h : f (s.sq e) = x) : s.OnlySeq ((s.modSq e f).seqView e) e x [] := by
  apply onlySeq_view
  · simp [h]
  · intro j hj; simp [State.sq_modSq, hj]
  · intro k _; rfl
  · rfl

theorem onlySeq_mod2 {s : State} {e : Nat} (f g : Seq → Seq) {x : Seq} (h : g (f (s.sq e)) = x) :
    s.OnlySeq (((s.modSq e f).modSq e g).seqView e) e x [] := by
  apply onlySeq_view
  · simp [h]
  · intro j hj; simp [State.sq_modSq, hj]
  · intro k _; rfl
  · rfl

theorem onlySeq_putM (s : State) (e d : Nat) (v : BitVec 32) :
    s.OnlySeq (s.putM e d v) e { s.sq e with pc := (s.sq e).nextPc, m := (s.sq e).m.set d v } [] := by
  unfold State.putM State.nextWord State.goTo
  apply onlySeq_mod2
  simp [Seq.setM, Seq.nextPc]

theorem onlySeq_nextWord (s : State) (e : Nat) : s.OnlySeq (s.nextWord e) e { s.sq e with pc := (s.sq e).nextPc } [] := by
  unfold State.nextWord State.goTo
  apply onlySeq_mod
  simp [Seq.nextPc]

theorem onlySeq_goTo (s : State) (e p : Nat) : s.OnlySeq (s.goTo e p) e { s.sq e with pc := p % 0x4000 } [] := by
  unfold State.goTo
  exact onlySeq_mod _ rfl

theorem onlySeq_putFlags (s : State) (e : Nat) (d : Option Nat) (o : FlagsOut) :
    s.OnlySeq (s.putFlags e d o) e { s.sq e with
      pc := (s.sq e).nextPc, z := o.z, n := o.n, c := o.c, v := o.v
      m := match d with | some d => (s.sq e).m.set d o.res | none => (s.sq e).m } [] := by
  unfold State.putFlags State.nextWord State.goTo
  apply onlySeq_mod2
  cases d <;> simp [Seq.setM, Seq.nextPc]

theorem putFlags_eq (s : State) (e : Nat) (d : Option Nat) (o : FlagsOut) {x : Seq} (hx : x = { s.sq e with
      pc := (s.sq e).nextPc, z := o.z, n := o.n, c := o.c, v := o.v
      m := match d with | some d => (s.sq e).m.set d o.res | none => (s.sq e).m }) : s.OnlySeq (s.putFlags e d o) e x [] := by
  subst hx; exact onlySeq_putFlags s e d o

theorem armedView_sq (s : State) (i j : Nat) : (s.armedView i).sq j = s.sq j := rfl
theorem armedView_reg (s : State) (i k : Nat) (h : k ≠ stKey i 2 3) (h' : k ≠ stKey i 0 5) : (s.armedView i).reg k = s.reg k := by
  unfold State.armedView State.setStFlag State.setRegBit
  exact (State.reg_setReg_ne _ _ h').trans (State.reg_setReg_ne _ _ h)
theorem armedView_rest (s : State) (i : Nat) : { s.armedView i with seqs := s.seqs, regs := s.regs } = s := rfl
theorem onlySeq_pre {s t : State} {e : Nat} {f : Seq → Seq} {x : Seq} {ks : List Nat} (h : (s.modSq e f).OnlySeq t e x ks) :
    s.OnlySeq t e x ks := by
  obtain ⟨a1, a2, a3, a4, a5, a6⟩ := h
  refine ⟨a1, ?_, a3, a4, a5, ?_⟩
  · intro j hj; rw [a2 j hj]; simp [State.sq_modSq, hj]
  · exact congrArg (fun u : State => { u with seqs := s.seqs }) a6
theorem waitFor_only (s : State) (e : Nat) (w : Wait) :
    s.OnlySeq (s.waitFor e w) e { s.sq e with pc := (s.sq e).nextPc, wait := w } [stKey (engStation e) 2 3, stKey (engStation e) 0 5] := by
  unfold State.waitFor
  apply onlySeq_view
  · rw [armedView_sq, sq_modSq_same]; rfl
  · intro j hj
    rw [armedView_sq]
    simp [State.sq_modSq, hj]
  · intro k hk
    simp only [List.mem_cons, List.not_mem_nil, or_false, not_or] at hk
    rw [armedView_reg _ _ _ hk.1 hk.2]; rfl
  · rfl

theorem onlySeq_sub {s t : State} {e : Nat} {x y : Seq} {ks : List Nat} (h : s.OnlySeq t e x ks) (hx : x = y) : s.OnlySeq t e y ks := hx ▸ h
end Sys2Proof.Machine
end

