-- ==== Sys2Proof/Machine/Pins.lean ====
section
/-! DEFINITION. The level of every output ball as the state has it (R76, Table 3.7): the level it keeps while its block does not
drive it, and which block drives it. The balls themselves, and the pulls of the inputs (R77), carry no state of their own. -/

namespace Sys2Proof.Machine

/-- The outputs of Table 3.7: a spindle's bridge, brake and PSEN, the windings of a sled and of a clamp, a coil of a head (0 FOC,
1 TRK, 2 TLT, 3 BLR), the write data of a beam, the pickup link, a rail enable, CAN, the expansion and alert lines, GPIO. -/
inductive OutBall where
  | pwm (st : Nat) | brk (st : Nat) | psen (st : Nat)
  | sledPwm (h : Nat) | clampPwm (st : Nat)
  | coil (h l : Nat)
  | wd (h b : Nat) | pklTx (h : Nat)
  | railEn (k : Nat)
  | canTx (bus : Nat) | canStb (bus : Nat)
  | xsCs | xsReset | alert
  | gpio (n : Nat)
  deriving DecidableEq, Repr

/-- What a ball shows: a level it keeps, or what its block drives. -/
inductive Level where
  | low | high | zeroCurrent | commonMode | highZ | driven
  deriving DecidableEq, Repr

/-- The level a ball keeps while nothing drives it (Table 3.7). -/
def idleLevel : OutBall → Level
  | .pwm _ | .brk _ | .psen _ | .sledPwm _ | .clampPwm _ | .railEn _ => .low
  | .coil _ _ => .zeroCurrent
  | .wd _ _ | .pklTx _ => .commonMode
  | .canTx _ | .canStb _ | .xsCs | .xsReset | .alert => .high
  | .gpio _ => .highZ

/-- A domain is on: absent, gated, waking and gating ones drive nothing (R66, R76, R81). -/
def State.domOn (s : State) (d : Nat) : Bool := s.domState d == 3 && !s.power.resetLow && !s.power.dark

/-- Hearth runs: powered and out of reset. -/
def State.hearthOn (s : State) : Bool := !s.power.dark && !s.power.resetLow

/-- Whether the block that owns a ball drives it: its domain is on, and it has driven it since: an axis' loop has left OFF, a laser
is on, the pickup link is up, a CAN controller takes part, an enable is raised. -/
def State.drives (s : State) : OutBall → Bool
  | .pwm i => s.domOn (6 * i + 5) && (s.loopState (16 + i) 0 != lsOff || s.spinState i == 6)
  | .brk i => s.domOn (6 * i + 5) && (s.stn i).brk
  | .psen i => s.domOn (6 * i + 5) && (s.stn i).psen
  | .sledPwm h => s.domOn (6 * (h / 2) + 5) && s.reg (sledKey h 0x1A) != 0
  | .clampPwm i => s.domOn (6 * i + 5) && ((s.stn i).stroke != .none || s.reg (clampKey i 0x0D) != 0xFFFF_FFFF)
  | .coil h l => s.domOn (6 * (h / 2) + 1 + h % 2) && s.loopState h l != lsOff
  | .wd h b => s.domOn (6 * (h / 2) + 1 + h % 2) && ((s.hd h).gates.getD b Gate.init).open_
  | .pklTx h => s.domOn (6 * (h / 2) + 1 + h % 2) && (s.hd h).pklUp
  | .railEn k => s.hearthOn && bitOf s.rails (8 + k)
  | .canTx b => s.hearthOn && s.can.booted && s.busUp b
  | .canStb b => s.hearthOn && s.busUp b
  | _ => s.hearthOn && s.powerState == psRun

/-- The level of an output (R76). -/
def State.outLevel (s : State) (o : OutBall) : Level := if s.drives o then .driven else idleLevel o

end Sys2Proof.Machine
end

