-- ==== Sys2Proof/WellFormed.lean ====
section
/-! DEFINITION. Which commands are well formed: every operand within the range its field has in the spec (stations 0
to 7, heads 0 to 15, beams 0 to 7, widths of values). A command that is not well formed stands for nothing the world
can send. -/

namespace Sys2Proof

/-- Ranges: below a bound, within an unsigned width, within a signed width. -/
def below (n v : Nat) : Bool := v < n
def fits (w v : Nat) : Bool := v < 2 ^ w
def fitsI (w : Nat) (v : Int) : Bool := -(2 ^ (w - 1)) ≤ v && v < 2 ^ (w - 1)
/-- A door names a CAN bus 0 or 1. -/
def Door.wf : Door → Bool
  | .sdo b _ => b < 2
  | .pdo b n => b < 2 && n < 8
  | _ => true

/-- A number fits its length, at most eight bytes. -/
def Val.wf : Val → Bool
  | .num len v => len ≤ 8 && v < 2 ^ (8 * len)
  | .raw _ => true

/-- Each sample is of seven straps. -/
def Straps.wf (t : Straps) : Bool := t.a < 128 && t.b < 128 && t.c < 128

/-- A value of an INTEGER32 object. -/
def i32wf (v : Int) : Bool := decide (-(2 ^ 31) ≤ v) && decide (v < 2 ^ 31)

/-- The readings of a sample: at most six, each of 24 bits. -/
def i24sWf (l : List Int) : Bool := decide (l.length ≤ 6) && l.all (fitsI 24)

def PilotRead.wf (r : PilotRead) : Bool := r.track < 2 ^ 32 && r.addr < 2 ^ 64 && r.radius < 2 ^ 31

def FollowEvent.wf : FollowEvent → Bool
  | .read r => r.wf
  | _ => true

def SpinEvent.wf : SpinEvent → Bool
  | .begin => true
  | .learned c => c.length == 6 && c.all (· < 8)

def SeekEvent.wf : SeekEvent → Bool
  | .address r => r.wf
  | _ => true

def HomeEvent.wf : HomeEvent → Bool
  | _ => true

/-- The bytes of a block fit. -/
def Block.wf (b : Block) : Bool := b.data.log2 < 32768 && b.pi < 2 ^ 128
def blocksWf (l : List Block) : Bool := l.length ≤ 65536 && l.all Block.wf
def ResetCause.wf (_ : ResetCause) : Bool := true
def PiArgs.wf (a : PiArgs) : Bool := a.chk < 8 && a.app < 2 ^ 16 && a.mask < 2 ^ 16 && a.ref < 2 ^ 48
def ConnectReq.wf : ConnectReq → Bool
  | .admin => true
  | .io q => q < 65536
def FirmwareImage.wf (i : FirmwareImage) : Bool :=
  i.release < 2 ^ 32 && i.security < 256 && i.vendor < 2 ^ 32 && i.abi < 2 ^ 16 && i.digests.length == 4
def BankRead.wf : BankRead → Bool
  | .unreadable => true
  | .image f => f.wf

def LayerData.wf (l : LayerData) : Bool :=
  l.side < 2 && l.layer < 8 && l.pw < 2 ^ 16 && l.pb < 2 ^ 16 && l.strategy.length == 80

def Medium.wf (m : Medium) : Bool :=
  decide (1 ≤ m.kind) && m.kind ≤ 2 && m.sides < 4 && m.layersA ≤ 8 && m.layersB ≤ 8 && m.discId < 2 ^ 64 && m.version < 2 ^ 16
    && m.angle < 2 ^ 16 && m.maker.length ≤ 16 && m.layers.all LayerData.wf

def SideImage.wf (i : SideImage) : Bool :=
  (i.zones.all fun z => z.1 < 2 ^ 16 && z.2.2 ≤ 65536) && (i.records.all fun r => r.length == 65536)
    && (i.claims.all fun c => c.1 < 2 ^ 32 && c.2.1 < 2 ^ 32 && c.2.2 < 2 ^ 32) && (i.bounds.all fun z => z.1 < 2 ^ 16 && z.2.1 ≤ 4000 && z.2.2 < 16)
    && (i.beyond.all (· < 2 ^ 32)) && i.sectors < 2 ^ 40 && i.serial < 2 ^ 32 && i.ms < 2 ^ 32

def StepOut.wf : StepOut → Bool
  | .mismatch a => a < 16384
  | .recognised m => m.wf
  | .identity a b g => (a.all fun x => x.length == 65536) && (b.all fun x => x.length == 65536) && g < 2 ^ 16
  | .metadata s c => s < 2 && c < 2 ^ 40
  | .pinned s i => s < 2 && i.wf
  | _ => true

def SectorAsk.wf (a : SectorAsk) : Bool := decide (1 ≤ a.nsid) && a.nsid < 2 ^ 16 && a.cl < 2 ^ 40 && a.idx < 18
def FrameIn.wf (f : FrameIn) : Bool :=
  f.psa < 2 ^ 32 && f.samples.length == 41584 && (f.clips.all (· < 41584)) && f.mse < 2 ^ 16
def askWf : Option SectorAsk → Bool
  | some a => a.wf
  | none => true
def frameWf : Option FrameIn → Bool
  | some f => f.wf
  | none => true
def DecodeOut.wf (d : DecodeOut) : Bool := d.unsat ≤ 5120 && d.bytes.length == 4160 && d.iters < 256 && d.errs ≤ 38400
/-- The detector's 6-bit values, from 160 channel bits before the predicted start of a frame to 160 after its end. -/
def i6sWf (l : List Int) : Bool := l.length == 41904 && l.all fun v => decide (-32 ≤ v) && decide (v < 32)
/-- INTEGER16 values. -/
def i16sWf (n : Nat) (l : List Int) : Bool := l.length == n && l.all fun v => decide (-32768 ≤ v) && decide (v < 32768)
def BeamBlock.wf (x : BeamBlock) : Bool :=
  x.b < 8 && i16sWf 5 x.win && i16sWf 5 x.wout && x.rms < 2 ^ 16 && i16sWf 15 x.eq && i16sWf 4 x.tgt
    && decide (-32768 ≤ x.freq) && decide (x.freq < 32768)

def WriteEvent.wf : WriteEvent → Bool
  | .begin st n m => st < 2 ^ 32 && n < 2 ^ 16 && m < 256
  | _ => true
def BeamCal.wf (x : BeamCal) : Bool := x.b < 8 && x.errs.length == 18 && (x.errs.all (· < 2 ^ 16)) && i16sWf 18 x.betas
def PowerCalEvent.wf : PowerCalEvent → Bool
  | .begin => true
  | .read l => l.all BeamCal.wf
/-- Orders the station processor issues of its own for media work (Table 9.5). -/
def OrderReq.wf (o : OrderReq) : Bool :=
  o.seq < 3 && o.param < 2 ^ 16 && (if o.seq = 2 then o.code == 0x15 else [3, 4, 5, 7, 0x0A, 0x0C, 0x0D, 0x0E].contains o.code)

/-- The fuse word that fails its check, if one does (R65). -/
def fuseWf : Option Nat → Bool
  | some w => w < 256
  | none => true
/-- How many of a transition's effects were programmed before it was interrupted (Table 17.3 has at most two). -/
def ProgramEnd.wf : ProgramEnd → Bool
  | .done => true
  | .cut k => k ≤ 2
  | .failed k => k ≤ 2
/-- Ranges of the operands of chapters 15, 16 and 19. -/
def StackTraining.wf (t : StackTraining) : Bool :=
  (match t.fail with | some k => decide (1 ≤ k) && decide (k ≤ 5) | none => true) && t.lanes < 256
def HbmUse.wf : HbmUse → Bool
  | .tables n => n < 2 ^ 16
  | .tag x w _ => x < 2 ^ 14 && w < 16
  | .station i => i < 8
  | _ => true
def SramRow.wf (r : SramRow) : Bool := r.dom < 96 && r.mac < 2 ^ 16 && r.row < 2 ^ 16
def sramWf : Option SramRow → Bool
  | none => true
  | some r => r.wf
def FrameHead.wf (h : FrameHead) : Bool := h.dest < 256 && h.src < 256 && h.ttl < 255 && h.seq < 2 ^ 32 && h.tag < 2 ^ 32
def RosterEntry.wf (e : RosterEntry) : Bool :=
  e.serial < 2 ^ 64 && e.thop < 2 ^ 16 && e.tlink < 2 ^ 16 && e.stations < 256
def RosterIn.wf (r : RosterIn) : Bool :=
  r.state < 7 && r.entries.length ≤ 254 && r.entries.all RosterEntry.wf && r.foldEast < 2 ^ 64 && r.foldWest < 2 ^ 64
def Candidate.wf (c : Candidate) : Bool :=
  c.serial < 2 ^ 64 && c.role < 3 && c.thop < 2 ^ 16 && c.tlink < 2 ^ 16 && c.stations < 256
def Column.wf (c : Column) : Bool := c.serial < 2 ^ 64 && c.nsid < 2 ^ 16 && c.first < 2 ^ 32
def Volume.wf (v : Volume) : Bool :=
  v.v < 256 && 1 ≤ v.k && v.k ≤ 16 && 1 ≤ v.m && v.m ≤ 4 && v.lbaf < 2 && v.zones < 2 ^ 16
    && v.cols.length == v.k + v.m && v.cols.all Column.wf
def MemberPart.wf (p : MemberPart) : Bool := p.col < 20 && p.blocks.length == 16 && blocksWf p.blocks
def CalFit.wf (f : CalFit) : Bool :=
  decide (-(2 ^ 15) ≤ f.offset) && decide (f.offset < 2 ^ 15) && f.gain < 2 ^ 16 && f.residual < 2 ^ 16

/-- Measured values of 32 bits, and six pulses. -/
def WireMeas.wf : WireMeas → Bool
  | .pad _ _ v => v < 2 ^ 32
  | .limit _ _ v => v < 2 ^ 32
  | .coil p n => i32wf p && i32wf n
  | .winding a r => i32wf a && r < 2 ^ 32
  | .phase l => l.length == 6 && l.all fun x => x.1 < 2 ^ 16 && x.2 < 2 ^ 32
  | .link _ _ => true
  | .bias a b c => i32wf a && i32wf b && i32wf c
  | .dark a b c d => i32wf a && i32wf b && i32wf c && i32wf d
  | .legs p n => p < 2 ^ 32 && n < 2 ^ 32
  | .hall c => c < 8
def World.wf (w : World) : Bool := w.far < 2 ^ 24 && w.prog.wf
def SdoReq.wf : SdoReq → Bool
  | .begin_ n => n < 2 ^ 32
  | _ => true
def SdoSeg.wf (_ : SdoSeg) : Bool := true

/-- A word address of a control store. -/
def badWordWf (a : Option Nat) : Bool := match a with | some n => n < 16384 | none => true

/-- The operands of a command lie in their ranges. -/
def Instr.wf (i : Instr) : Bool :=
  match i with
  | .dictWrite dr ix sx v w => dr.wf && fits 16 ix && fits 8 sx && v.wf && w.wf
  | .sdoInitiate bus _ ix sx req _ w => below 2 bus && fits 16 ix && fits 8 sx && req.wf && w.wf
  | .sdoSegment bus _ seg _ w => below 2 bus && seg.wf && w.wf
  | .sdoTimeout bus _ => below 2 bus
  | .nmtStart => true
  | .nmtStop => true
  | .nmtEnterPreOperational => true
  | .nmtResetCommunication => true
  | .nmtResetNode => true
  | .syncReceived bus => below 2 bus
  | .rpdoReceived bus n _ _ => below 2 bus && below 8 n
  | .tpdoEventTimer n => below 8 n
  | .tpdoInhibitExpiry n => below 8 n
  | .heartbeatTimer => true
  | .heartbeatReceived node => fits 7 node
  | .heartbeatConsumerTimeout j => below 16 j
  | .emcyInhibitExpiry => true
  | .errorHistoryClear dr => dr.wf
  | .canBusOff bus => below 2 bus
  | .busOffRecovery bus => below 2 bus
  | .bar2DirectWrite ix sx width v w => fits 16 ix && fits 8 sx && fits 8 width && fits 32 v && w.wf
  | .bar2DirectRead ix sx width => fits 16 ix && fits 8 sx && fits 8 width
  | .winAbortRead => true
  | .segOpenRead => true
  | .segOpenWrite => true
  | .segCommitWrite w => w.wf
  | .segCommitDone => true
  | .segClose => true
  | .segOffsetWrite v => fits 32 v
  | .segWindowTimeout => true
  | .getObject _ cid ix sx off len => fits 16 cid && fits 16 ix && fits 8 sx && fits 32 off && fits 32 len
  | .setObject _ cid ix sx off _ w => fits 16 cid && fits 16 ix && fits 8 sx && fits 32 off && w.wf
  | .storeParameters dr sx v => dr.wf && fits 8 sx && fits 32 v
  | .storeNorDone => true
  | .restoreDefaults dr sx v => dr.wf && fits 8 sx && fits 32 v
  | .backgroundEraseDone => true
  | .hearthPowerUp straps fuse _ => straps.wf && fuseWf fuse
  | .resetNAssert => true
  | .resetNRelease straps => straps.wf
  | .crystalStable => true
  | .railStepAdvance k => below 8 k
  | .pgTimeout => true
  | .railRetry => true
  | .pgLoss k => below 8 k
  | .pgLossRestart => true
  | .clockLoss _ => true
  | .clockRestore _ => true
  | .bootBankVerify _ a b _ cust => a.wf && b.wf && fits 32 cust
  | .hbmTraining a b => a.wf && b.wf
  | .hostReady => true
  | .enterHearth dr => dr.wf
  | .wake dr => dr.wf
  | .clearFailed dr => dr.wf
  | .wakeGpio n => below 8 n
  | .wakeCalendarAlarm => true
  | .wakeI2c => true
  | .pfwNAssert => true
  | .pfwLatchClear => true
  | .domainWakeDone d bad => below 96 d && badWordWf bad
  | .domainGateDone d => below 96 d
  | .temporaryWakeEnd d => below 96 d
  | .sliceIdleGate k => below 24 k
  | .inrushSlotGrant => true
  | .bistSlotPreempt st => below 8 st
  | .powerUp dr st => dr.wf && below 8 st
  | .load dr st target strobe => dr.wf && below 8 st && below 16 target && below 16 strobe
  | .unload dr st _ => dr.wf && below 8 st
  | .stow dr st _ => dr.wf && below 8 st
  | .powerDown dr st => dr.wf && below 8 st
  | .enterMaint dr st => dr.wf && below 8 st
  | .exitMaint dr st => dr.wf && below 8 st
  | .clearFault dr st => dr.wf && below 8 st
  | .stationStop dr st v => dr.wf && below 8 st && fits 8 v
  | .stationCommandStepDone st out => below 8 st && out.wf
  | .schedulingPoint st orders => below 8 st && (orders.all OrderReq.wf)
  | .stationWatchdog st => below 8 st
  | .mediaOpDispatch nsid cl => fits 16 nsid && fits 64 cl
  | .mediaOpComplete nsid cl => fits 16 nsid && fits 64 cl
  | .strobeFire dr st mask => dr.wf && below 8 st && fits 16 mask
  | .dstrobeFire dr st mask => dr.wf && below 8 st && fits 16 mask
  | .strobeTimeout st who => below 8 st && below 16 who
  | .discPresChange st _ => below 8 st
  | .autoClampDelayExpiry st => below 8 st
  | .idleOffTimeExpiry st => below 8 st
  | .ilkNOpen st => below 8 st
  | .ilkNClose st => below 8 st
  | .headAcqTimeout h => below 16 h
  | .directOrder dr st v => dr.wf && below 8 st && fits 32 v
  | .loopSample e l det u ang => below 24 e && below 12 l && i24sWf det && fitsI 24 u && fits 16 ang
  | .loopCmdOff dr e l => dr.wf && below 24 e && below 12 l
  | .loopCmdOpen dr e l => dr.wf && below 24 e && below 12 l
  | .loopCmdHold dr e l => dr.wf && below 24 e && below 12 l
  | .loopCmdClose dr e l => dr.wf && below 24 e && below 12 l
  | .defectSet h => below 16 h
  | .defectClear h => below 16 h
  | .residualHold e l => below 24 e && below 12 l
  | .residualClear e l => below 24 e && below 12 l
  | .varianceWindowEnd e l => below 24 e && below 12 l
  | .holdExpired e l => below 24 e && below 12 l
  | .coefHoldOverrun e l => below 24 e && below 12 l
  | .apply dr e => dr.wf && below 24 e
  | .ffBinUpdate h table bin => below 16 h && below 2 table && below 1024 bin
  | .injEnable dr e v => dr.wf && below 24 e && fits 8 v
  | .captureRequest dr e v => dr.wf && below 24 e && fits 32 v
  | .captureTrigger e => below 24 e
  | .captureDone e => below 24 e
  | .captureTimeout e => below 24 e
  | .measureLoop dr e req => dr.wf && below 24 e && fits 32 req
  | .measureLoopDone e => below 24 e
  | .focusOn h _ => below 16 h
  | .trackOn h _ => below 16 h
  | .layerJump h _ => below 16 h
  | .trackJump h _ => below 16 h
  | .follow h ev => below 16 h && ev.wf
  | .park h => below 16 h
  | .calibrateLoop h _ => below 16 h
  | .recoveryConfirmExpiry h => below 16 h
  | .saSettled h => below 16 h
  | .saSettleTimeout h => below 16 h
  | .addressTimeout h => below 16 h
  | .trkCaptureTimeout h => below 16 h
  | .layerTimeout h => below 16 h
  | .overpower h b => below 16 h && below 8 b
  | .pklLoss h => below 16 h
  | .pklRetrain h _ => below 16 h
  | .writeGuardInhibit h guard => below 16 h && below 3 guard
  | .beamOfftrack h b o => below 16 h && below 8 b && fitsI 16 o
  | .spinUp st ev => below 8 st && ev.wf
  | .startMeasureEnd st => below 8 st
  | .spinDown st => below 8 st
  | .stopBrakeEnd st => below 8 st
  | .setSpeed st => below 8 st
  | .targetRpmWrite dr st rpm => dr.wf && below 8 st && fits 16 rpm
  | .speedLoopTick st => below 8 st
  | .atSpeed st => below 8 st
  | .spinUpTimeout st => below 8 st
  | .hallEdge st code stamp => below 8 st && fits 8 code && fits 64 stamp
  | .observerMissedEdge st => below 8 st
  | .encoderZEdge st => below 8 st
  | .coastStopTimeout st => below 8 st
  | .lockedRotor st => below 8 st
  | .lockedRotorRetry st => below 8 st
  | .vbusSample st mv amps => below 8 st && fits 16 mv && fits 16 amps
  | .vbusFaultTimeout st => below 8 st
  | .sledSetPoint h rotor => below 16 h && fits 16 rotor
  | .sledStall h => below 16 h
  | .sledHome h ev => below 16 h && ev.wf
  | .sledPark h => below 16 h
  | .seek h ev => below 16 h && ev.wf
  | .sledProfileEnd h => below 16 h
  | .clampStroke st => below 8 st
  | .unclampStroke st => below 8 st
  | .clampProbe st => below 8 st
  | .clampStall st run bemf => below 8 st && fits 16 run && (bemf.all (· < 2 ^ 16))
  | .clampStrokeLimit st => below 8 st
  | .orderDispatch q => below 24 q
  | .orderTimeout q => below 24 q
  | .trapEntry q => below 24 q
  | .nop q imm => below 24 q && fits 18 imm
  | .jmp q imm => below 24 q && fits 18 imm
  | .call q imm => below 24 q && fits 18 imm
  | .ret q imm => below 24 q && fits 18 imm
  | .ldi q d imm => below 24 q && below 16 d && fits 18 imm
  | .lui q d imm => below 24 q && below 16 d && fits 18 imm
  | .mov q d r imm => below 24 q && below 16 d && below 16 r && fits 18 imm
  | .add q d r imm => below 24 q && below 16 d && below 16 r && fits 18 imm
  | .sub q d r imm => below 24 q && below 16 d && below 16 r && fits 18 imm
  | .addi q d imm => below 24 q && below 16 d && fits 18 imm
  | .and q d r imm => below 24 q && below 16 d && below 16 r && fits 18 imm
  | .or q d r imm => below 24 q && below 16 d && below 16 r && fits 18 imm
  | .xor q d r imm => below 24 q && below 16 d && below 16 r && fits 18 imm
  | .shift q d imm => below 24 q && below 16 d && fits 18 imm
  | .mul q d r imm => below 24 q && below 16 d && below 16 r && fits 18 imm
  | .cmp q d r imm => below 24 q && below 16 d && below 16 r && fits 18 imm
  | .cmpi q d imm => below 24 q && below 16 d && fits 18 imm
  | .fld q d r imm => below 24 q && below 16 d && below 16 r && fits 18 imm
  | .fst q d r imm => below 24 q && below 16 d && below 16 r && fits 18 imm
  | .lcmd q d imm => below 24 q && below 16 d && fits 18 imm
  | .hold q imm => below 24 q && fits 18 imm
  | .gate q imm => below 24 q && fits 18 imm
  | .laser q imm => below 24 q && fits 18 imm
  | .pkl q r imm => below 24 q && below 16 r && fits 18 imm
  | .wait q imm => below 24 q && fits 18 imm
  | .waitExpiry q => below 24 q
  | .waite q r imm => below 24 q && below 16 r && fits 18 imm
  | .waiteCondition q n => below 24 q && below 16 n
  | .evt q d imm => below 24 q && below 16 d && fits 18 imm
  | .strb q imm => below 24 q && fits 18 imm
  | .prof q d r imm => below 24 q && below 16 d && below 16 r && fits 18 imm
  | .post q r imm => below 24 q && below 16 r && fits 18 imm
  | .odone q r imm => below 24 q && below 16 r && fits 18 imm
  | .ofail q r imm => below 24 q && below 16 r && fits 18 imm
  | .orej q imm => below 24 q && fits 18 imm
  | .trapret q imm => below 24 q && fits 18 imm
  | .storePatrol st _ => below 8 st
  | .storeUncorrectable st addr _ owner _ => below 8 st && fits 14 addr && below 3 owner
  | .customerImageInstall dr v => dr.wf && fits 32 v
  | .customerImageErase dr v => dr.wf && fits 32 v
  | .sectorStart h b det fr ask => below 16 h && below 8 b && i6sWf det && frameWf fr && askWf ask
  | .huntEnd h b _ => below 16 h && below 8 b
  | .lbaTranslate dr st v => dr.wf && below 8 st && fits 32 v
  | .resyncBlock h blocks => below 16 h && (blocks.all BeamBlock.wf)
  | .adcHandover h b _ rms => below 16 h && below 8 b && fits 32 rms
  | .firstPassDone nsid cl idx snr out => fits 16 nsid && fits 64 cl && fits 8 idx && fitsI 16 snr && out.wf
  | .retryGlobalEnd nsid cl idx off out => fits 16 nsid && fits 64 cl && fits 8 idx && fitsI 8 off && out.wf
  | .ldpcLaneGrant => true
  | .outerCodeRepair nsid cl _ => fits 16 nsid && fits 64 cl
  | .ringFrameDump dr h v => dr.wf && below 16 h && fits 32 v
  | .writeStart h ev => below 16 h && ev.wf
  | .writeStop h _ => below 16 h
  | .powerCal h ev => below 16 h && ev.wf
  | .pklAckTimeout h => below 16 h
  | .clusterBuffered h b nsid cl _ => below 16 h && below 8 b && fits 16 nsid && fits 64 cl
  | .bandEnd h => below 16 h
  | .verifyResult h b nsid cl bits beta => below 16 h && below 8 b && fits 16 nsid && fits 64 cl && (bits.length == 18 && bits.all (· < 2 ^ 16)) && fitsI 16 beta
  | .gateReopen h => below 16 h
  | .commandFetch _ sq cid => fits 16 sq && fits 16 cid
  | .controllerReset _ cause => cause.wf
  | .nvmSubsystemReset _ => true
  | .ccEnSet _ => true
  | .normalShutdown _ => true
  | .keepAliveExpiry _ => true
  | .connect _ req => req.wf
  | .disconnect _ => true
  | .propertyGet _ cid off => fits 16 cid && fits 16 off
  | .propertySet _ cid off v => fits 16 cid && fits 16 off && fits 64 v
  | .read _ cid nsid lba n pi => fits 16 cid && fits 32 nsid && fits 64 lba && fits 16 n && pi.wf
  | .write _ cid nsid lba data _ pi => fits 16 cid && fits 32 nsid && fits 64 lba && blocksWf data && pi.wf
  | .zoneAppend _ cid nsid lba data _ pi => fits 16 cid && fits 32 nsid && fits 64 lba && blocksWf data && pi.wf
  | .flush _ cid nsid => fits 16 cid && fits 32 nsid
  | .zoneOpen _ cid nsid lba _ => fits 16 cid && fits 32 nsid && fits 64 lba
  | .zoneClose _ cid nsid lba _ => fits 16 cid && fits 32 nsid && fits 64 lba
  | .zoneFinish _ cid nsid lba _ => fits 16 cid && fits 32 nsid && fits 64 lba
  | .zoneReset _ cid nsid lba _ => fits 16 cid && fits 32 nsid && fits 64 lba
  | .zoneOffline _ cid nsid lba _ => fits 16 cid && fits 32 nsid && fits 64 lba
  | .zoneManagementReceive _ cid nsid lba filter limit _ => fits 16 cid && fits 32 nsid && fits 64 lba && fits 8 filter && fits 32 limit
  | .getLogPage _ cid page nsid off len _ => fits 16 cid && fits 8 page && fits 32 nsid && fits 32 off && fits 32 len
  | .identify _ cid cns csi nsid => fits 16 cid && fits 8 cns && fits 8 csi && fits 32 nsid
  | .abort _ cid sq target => fits 16 cid && fits 16 sq && fits 16 target
  | .setFeaturesArbitration _ cid v => fits 16 cid && fits 32 v
  | .setFeaturesPowerManagement _ cid v => fits 16 cid && fits 32 v
  | .setFeaturesTemperatureThreshold _ cid v => fits 16 cid && fits 32 v
  | .setFeaturesVolatileWriteCache _ cid v => fits 16 cid && fits 32 v
  | .setFeaturesNumberOfQueues _ cid v => fits 16 cid && fits 32 v
  | .setFeaturesInterruptCoalescing _ cid v => fits 16 cid && fits 32 v
  | .setFeaturesInterruptVectorConfig _ cid v => fits 16 cid && fits 32 v
  | .setFeaturesAsyncEventConfig _ cid v => fits 16 cid && fits 32 v
  | .setFeaturesTimestamp _ cid v => fits 16 cid && fits 64 v
  | .setFeaturesKeepAliveTimer _ cid v => fits 16 cid && fits 32 v
  | .getFeatures _ cid fid v => fits 16 cid && fits 8 fid && fits 32 v
  | .asyncEventRequest _ cid => fits 16 cid
  | .keepAlive _ cid => fits 16 cid
  | .createIoSq _ cid qid size cq => fits 16 cid && fits 16 qid && fits 16 size && fits 16 cq
  | .createIoCq _ cid qid size => fits 16 cid && fits 16 qid && fits 16 size
  | .deleteIoSq _ cid qid => fits 16 cid && fits 16 qid
  | .deleteIoCq _ cid qid => fits 16 cid && fits 16 qid
  | .formatNvm _ cid nsid lbaf pi ses => fits 16 cid && fits 32 nsid && fits 8 lbaf && fits 8 pi && fits 8 ses
  | .firmwareImageDownload _ cid off _ => fits 16 cid && fits 32 off
  | .firmwareCommitReplace _ cid slot => fits 16 cid && fits 8 slot
  | .firmwareCommitActivateOnReset _ cid slot => fits 16 cid && fits 8 slot
  | .firmwareCommitSelect _ cid slot => fits 16 cid && fits 8 slot
  | .firmwareCommitActivateNow _ cid slot => fits 16 cid && fits 8 slot
  | .actDrainTimeout => true
  | .deviceSelfTestShort _ cid nsid => fits 16 cid && fits 32 nsid
  | .deviceSelfTestExtended _ cid nsid => fits 16 cid && fits 32 nsid
  | .deviceSelfTestAbort _ cid => fits 16 cid
  | .selftestIdleExpiry st => below 8 st
  | .selftestTimeLimit => true
  | .pin _ cid nsid lba n => fits 16 cid && fits 32 nsid && fits 64 lba && fits 16 n
  | .unpin _ cid id => fits 16 cid && fits 32 id
  | .attestationQuote _ cid nonce => fits 16 cid && decide (nonce.length = 24)
  | .fillCommit nsid cl => fits 16 nsid && fits 64 cl
  | .blockPlaced nsid cl b blk => fits 16 nsid && fits 64 cl && below 16 b && blk.wf
  | .fillEnd nsid cl => fits 16 nsid && fits 64 cl
  | .writeLineReserved _ cid => fits 16 cid
  | .mergeFillDone nsid cl => fits 16 nsid && fits 64 cl
  | .tagProbe dr v => dr.wf && fits 32 v
  | .scrubStep _ _ sram => sramWf sram
  | .hbmUncorrectableError a use => fits 64 a && use.wf
  | .softRepair a => fits 64 a
  | .hardRepairWindow _ => true
  | .hbmAddressDecode dr v => dr.wf && fits 32 v
  | .hbmInjectArm dr v => dr.wf && fits 32 v
  | .repairMapClear dr v => dr.wf && fits 8 v
  | .ringEnableWrite dr v => dr.wf && fits 8 v
  | .ringLinkBroken p => below 2 p
  | .ringLinkRetrain p peer => below 2 p && fits 64 peer
  | .ringFormation => true
  | .syncIntervalTick => true
  | .idleFrame p ack _ => below 2 p && fits 32 ack
  | .delayProbe p hd _ t => below 2 p && hd.wf && fits 64 t
  | .delayEcho p hd _ delay => below 2 p && hd.wf && fits 16 delay
  | .discover p hd _ c => below 2 p && hd.wf && c.wf
  | .roster p hd _ r => below 2 p && hd.wf && r.wf
  | .timeSync p hd _ t cal delay => below 2 p && hd.wf && fits 64 t && fits 64 cal && fits 32 delay
  | .ringProbe p hd _ rtt => below 2 p && hd.wf && fits 32 rtt
  | .foldNotice p hd _ serial _ => below 2 p && hd.wf && fits 64 serial
  | .rejoin p hd _ t => below 2 p && hd.wf && fits 64 t
  | .rejoinTimeReached => true
  | .strobeSet p hd _ n t => below 2 p && hd.wf && below 16 n && fits 64 t
  | .ringStrobeTimeReached n => below 16 n
  | .grantReq p hd _ serial st _ => below 2 p && hd.wf && fits 64 serial && below 8 st
  | .grant p hd _ serial st _ => below 2 p && hd.wf && fits 64 serial && below 8 st
  | .grantExpiry serial st => fits 64 serial && below 8 st
  | .memberRead p hd _ v col lba n => below 2 p && hd.wf && fits 8 v && below 20 col && fits 64 lba && fits 16 n
  | .memberData p hd _ v _ col _ blocks => below 2 p && hd.wf && fits 8 v && below 20 col && blocksWf blocks
  | .memberWrite p hd _ v col lba data => below 2 p && hd.wf && fits 8 v && below 20 col && fits 64 lba && blocksWf data
  | .memberAck p hd _ v col _ _ _ => below 2 p && hd.wf && fits 8 v && below 20 col
  | .memberFlush p hd _ v col zone => below 2 p && hd.wf && fits 8 v && below 20 col && fits 32 zone
  | .volumeTable p hd _ vols => below 2 p && hd.wf && (vols.all Volume.wf)
  | .rsFire dr v => dr.wf && fits 8 v
  | .calendarTimeWrite dr v => dr.wf && fits 64 v
  | .volumeCreate dr v far => dr.wf && fits 32 v && fits 24 far
  | .volumeDelete dr v => dr.wf && fits 32 v
  | .replaceColumn dr v _ => dr.wf && fits 32 v
  | .rowEncode v _ => fits 8 v
  | .rowRebuild v col parts => fits 8 v && below 20 col && (parts.all MemberPart.wf)
  | .lifeCycleTransition dr v prog => dr.wf && fits 32 v && prog.wf
  | .customerKeyFuse dr v _ => dr.wf && fits 32 v
  | .quoteRequest dr v => dr.wf && fits 32 v
  | .quoteSigned => true
  | .authResponse dr _ => dr.wf
  | .authClose dr v => dr.wf && fits 8 v
  | .authDurationExpiry => true
  | .authLockoutExpiry => true
  | .debugResponse dr _ => dr.wf
  | .idCertWrite dr _ => dr.wf
  | .recoveryInstall dr v => dr.wf && fits 32 v
  | .ledgerPost code source payload => fits 16 code && fits 8 source && decide (payload.length ≤ 240)
  | .ledgerFlush => true
  | .flushIntervalExpiry => true
  | .flushNow dr v => dr.wf && fits 8 v
  | .ledgerFlushDone _ => true
  | .freezeWrite dr v => dr.wf && fits 8 v
  | .cursorWrite dr v => dr.wf && fits 64 v
  | .advance dr v => dr.wf && fits 8 v
  | .ledgerClear dr v => dr.wf && fits 8 v
  | .clearEraseStep => true
  | .rextMeasure v => fits 16 v
  | .rfCalVisit h b sp ad there back => below 16 h && below 8 b && sp.wf && ad.wf && fits 32 there && fits 32 back
  | .servoAdcCal h a f => below 16 h && below 9 a && f.wf
  | .dacCal e vals => below 24 e && (vals.all CalFit.wf)
  | .calRfVisitRound dr v => dr.wf && fits 32 v
  | .calHeadDacs dr v => dr.wf && fits 32 v
  | .calMotorSense dr v => dr.wf && fits 32 v
  | .tokenGrant => true
  | .bistStationCore dr v => dr.wf && fits 32 v
  | .bistMotorIo dr v => dr.wf && fits 32 v
  | .bistHeadFrontEnd dr v => dr.wf && fits 32 v
  | .bistHeadChannel dr v => dr.wf && fits 32 v
  | .bistLdpcSlice dr v => dr.wf && fits 32 v
  | .bistContextSegment dr v => dr.wf && fits 32 v
  | .bistEcEngine dr v => dr.wf && fits 32 v
  | .bistWholeChip dr v => dr.wf && fits 32 v
  | .bistPatternBlock kind inst => below 9 kind && fits 8 inst
  | .bistPartitionEnd kind inst sig first rows => below 9 kind && fits 8 inst && fits 64 sig && fits 24 first && (rows.all SramRow.wf)
  | .poolBistTick => true
  | .segmentWaitExpiry j => below 64 j
  | .classBTimeExceeded => true
  | .wiringTest st => below 8 st
  | .wiringTestRequest dr st v => dr.wf && below 8 st && fits 32 v
  | .wiringTestEnd st part meas => below 8 st && below 3 part && (meas.all WireMeas.wf)
  | .senseCheck st n src snk afe => below 8 st && fits 8 n && fitsI 32 src && fitsI 32 snk && fitsI 32 afe
  | .eventOverrideWrite dr ix v => dr.wf && fits 7 ix && fits 32 v
  | .thermalRead tj temps => fitsI 16 tj && i16sWf 2 temps
  | .vhearthLoss => true
  | .railDownStep => true
  | .canErrorPassive bus _ => below 2 bus
  | .ethernetLinkChange p _ => below 4 p
  | .pcieLinkUp speed width => fits 8 speed && fits 8 width
  | .encoderEdge st _ _ stamp => below 8 st && fits 64 stamp
  | .securityIdleGate => true
  | .eyeMeasure _ _ => true
  | .perstNRelease => true
  | .segWindowRegisterWrite off v => fits 16 off && fits 32 v
  | .segCtrlInvalidOp => true

/-- Well-formedness as a proposition. -/
abbrev WellFormed (i : Instr) : Prop := i.wf = true

end Sys2Proof
end

