-- ==== Sys2Proof/Tests/Slice0.lean ====
section
/-! SUPPORT. Tests of the model: ill-formed terms that the checks refuse, the manual's worked examples, and for every
statement that has hypotheses a theorem with a state and operands that meet them, clause by clause. A clause of a hypothesis that ranges
over a free type is given for the state in question; where a state cannot be compared, what decides the hypothesis is. -/



namespace Sys2Proof.Machine

set_option Elab.async false

/-! ### Ill-formed terms -/

/-- Terms with one operand out of its range each. -/
theorem test_ill_formed_1 :
    ([.dictWrite (.pdo 2 0) 0 0 (.num 0 0) World.plain, .dictWrite .inner 65536 0 (.num 0 0) World.plain, .dictWrite .inner
      0 256 (.num 0 0) World.plain, .dictWrite .inner 0 0 (.num 1 256) World.plain, .dictWrite .inner 0 0 (.num 0 0) ⟨2
      ^ 24, .done, true⟩, .sdoInitiate 2 false 0 0 .read false World.plain, .sdoInitiate 0 false 65536 0 .read false
      World.plain, .sdoInitiate 0 false 0 256 .read false World.plain, .sdoInitiate 0 false 0 0 (.begin_ (2 ^ 32)) false
      World.plain, .sdoInitiate 0 false 0 0 .read false ⟨2 ^ 24, .done, true⟩] : List Instr).all (fun i => !i.wf) = true
    ∧ ([.sdoSegment 2 false .other false World.plain, .sdoSegment 0 false .other false ⟨2 ^ 24, .done, true⟩, .sdoTimeout 2
      false, .syncReceived 2, .rpdoReceived 2 0 [] false, .rpdoReceived 0 8 [] false, .tpdoEventTimer 8,
      .tpdoInhibitExpiry 8, .heartbeatReceived 128, .heartbeatConsumerTimeout 16] : List Instr).all (fun i => !i.wf) =
      true
    ∧ ([.errorHistoryClear (.pdo 2 0), .canBusOff 2, .busOffRecovery 2, .bar2DirectWrite 65536 0 0 0 World.plain,
      .bar2DirectWrite 0 256 0 0 World.plain, .bar2DirectWrite 0 0 256 0 World.plain, .bar2DirectWrite 0 0 0 (2 ^ 32)
      World.plain, .bar2DirectWrite 0 0 0 0 ⟨2 ^ 24, .done, true⟩, .bar2DirectRead 65536 0 0, .bar2DirectRead 0 256 0] :
      List Instr).all (fun i => !i.wf) = true
    ∧ ([.bar2DirectRead 0 0 256, .segCommitWrite ⟨2 ^ 24, .done, true⟩, .segOffsetWrite (2 ^ 32), .getObject 0 65536 0 0 0
      0, .getObject 0 0 65536 0 0 0, .getObject 0 0 0 256 0 0, .getObject 0 0 0 0 (2 ^ 32) 0, .getObject 0 0 0 0 0 (2 ^
      32), .setObject 0 65536 0 0 0 [] World.plain, .setObject 0 0 65536 0 0 [] World.plain] : List Instr).all (fun i =>
      !i.wf) = true := by decide +kernel

/-- Terms with one operand out of its range each. -/
theorem test_ill_formed_2 :
    ([.setObject 0 0 0 256 0 [] World.plain, .setObject 0 0 0 0 (2 ^ 32) [] World.plain, .setObject 0 0 0 0 0 [] ⟨2 ^ 24,
      .done, true⟩, .storeParameters (.pdo 2 0) 0 0, .storeParameters .inner 256 0, .storeParameters .inner 0 (2 ^ 32),
      .restoreDefaults (.pdo 2 0) 0 0, .restoreDefaults .inner 256 0, .restoreDefaults .inner 0 (2 ^ 32), .hearthPowerUp
      ⟨128, 0, 0⟩ none []] : List Instr).all (fun i => !i.wf) = true
    ∧ ([.hearthPowerUp ⟨0, 0, 0⟩ (some 256) [], .resetNRelease ⟨128, 0, 0⟩, .railStepAdvance 8, .pgLoss 8, .bootBankVerify
      false (.image ⟨true, true, true, true, 0, 0, 0, 0, []⟩) .unreadable false 0, .bootBankVerify false .unreadable
      (.image ⟨true, true, true, true, 0, 0, 0, 0, []⟩) false 0, .bootBankVerify false .unreadable .unreadable false (2
      ^ 32), .hbmTraining ⟨some 6, 0, []⟩ ⟨none, 0, []⟩, .hbmTraining ⟨none, 0, []⟩ ⟨some 6, 0, []⟩, .enterHearth (.pdo
      2 0)] : List Instr).all (fun i => !i.wf) = true
    ∧ ([.wake (.pdo 2 0), .clearFailed (.pdo 2 0), .wakeGpio 8, .domainWakeDone 96 none, .domainWakeDone 0 (some 16384),
      .domainGateDone 96, .temporaryWakeEnd 96, .sliceIdleGate 24, .bistSlotPreempt 8, .powerUp (.pdo 2 0) 0] : List
      Instr).all (fun i => !i.wf) = true
    ∧ ([.powerUp .inner 8, .load (.pdo 2 0) 0 0 0, .load .inner 8 0 0, .load .inner 0 16 0, .load .inner 0 0 16, .unload
      (.pdo 2 0) 0 false, .unload .inner 8 false, .stow (.pdo 2 0) 0 false, .stow .inner 8 false, .powerDown (.pdo 2 0)
      0] : List Instr).all (fun i => !i.wf) = true := by decide +kernel

/-- Terms with one operand out of its range each. -/
theorem test_ill_formed_3 :
    ([.powerDown .inner 8, .enterMaint (.pdo 2 0) 0, .enterMaint .inner 8, .exitMaint (.pdo 2 0) 0, .exitMaint .inner 8,
      .clearFault (.pdo 2 0) 0, .clearFault .inner 8, .stationStop (.pdo 2 0) 0 0, .stationStop .inner 8 0, .stationStop
      .inner 0 256] : List Instr).all (fun i => !i.wf) = true
    ∧ ([.stationCommandStepDone 8 .ok, .stationCommandStepDone 0 (.mismatch 16384), .schedulingPoint 8 [], .schedulingPoint
      0 [⟨3, 3, 0⟩], .stationWatchdog 8, .mediaOpDispatch 65536 0, .mediaOpDispatch 0 (2 ^ 64), .mediaOpComplete 65536
      0, .mediaOpComplete 0 (2 ^ 64), .strobeFire (.pdo 2 0) 0 0] : List Instr).all (fun i => !i.wf) = true
    ∧ ([.strobeFire .inner 8 0, .strobeFire .inner 0 65536, .dstrobeFire (.pdo 2 0) 0 0, .dstrobeFire .inner 8 0,
      .dstrobeFire .inner 0 65536, .strobeTimeout 8 0, .strobeTimeout 0 16, .discPresChange 8 false,
      .autoClampDelayExpiry 8, .idleOffTimeExpiry 8] : List Instr).all (fun i => !i.wf) = true
    ∧ ([.ilkNOpen 8, .ilkNClose 8, .headAcqTimeout 16, .directOrder (.pdo 2 0) 0 0, .directOrder .inner 8 0, .directOrder
      .inner 0 (2 ^ 32), .loopSample 24 0 [] 0 0, .loopSample 0 12 [] 0 0, .loopSample 0 0 [2 ^ 23] 0 0, .loopSample 0 0
      [] (2 ^ 23) 0] : List Instr).all (fun i => !i.wf) = true := by decide +kernel

/-- Terms with one operand out of its range each. -/
theorem test_ill_formed_4 :
    ([.loopSample 0 0 [] 0 65536, .loopCmdOff (.pdo 2 0) 0 0, .loopCmdOff .inner 24 0, .loopCmdOff .inner 0 12, .loopCmdOpen
      (.pdo 2 0) 0 0, .loopCmdOpen .inner 24 0, .loopCmdOpen .inner 0 12, .loopCmdHold (.pdo 2 0) 0 0, .loopCmdHold
      .inner 24 0, .loopCmdHold .inner 0 12] : List Instr).all (fun i => !i.wf) = true
    ∧ ([.loopCmdClose (.pdo 2 0) 0 0, .loopCmdClose .inner 24 0, .loopCmdClose .inner 0 12, .defectSet 16, .defectClear 16,
      .residualHold 24 0, .residualHold 0 12, .residualClear 24 0, .residualClear 0 12, .varianceWindowEnd 24 0] : List
      Instr).all (fun i => !i.wf) = true
    ∧ ([.varianceWindowEnd 0 12, .holdExpired 24 0, .holdExpired 0 12, .coefHoldOverrun 24 0, .coefHoldOverrun 0 12, .apply
      (.pdo 2 0) 0, .apply .inner 24, .ffBinUpdate 16 0 0, .ffBinUpdate 0 2 0, .ffBinUpdate 0 0 1024] : List Instr).all
      (fun i => !i.wf) = true
    ∧ ([.injEnable (.pdo 2 0) 0 0, .injEnable .inner 24 0, .injEnable .inner 0 256, .captureRequest (.pdo 2 0) 0 0,
      .captureRequest .inner 24 0, .captureRequest .inner 0 (2 ^ 32), .captureTrigger 24, .captureDone 24,
      .captureTimeout 24, .measureLoop (.pdo 2 0) 0 0] : List Instr).all (fun i => !i.wf) = true := by decide +kernel

/-- Terms with one operand out of its range each. -/
theorem test_ill_formed_5 :
    ([.measureLoop .inner 24 0, .measureLoop .inner 0 (2 ^ 32), .measureLoopDone 24, .focusOn 16 .begin, .trackOn 16 .begin,
      .layerJump 16 .begin, .trackJump 16 .begin, .follow 16 .closed, .follow 0 (.read ⟨2 ^ 32, 0, 0⟩), .park 16] : List
      Instr).all (fun i => !i.wf) = true
    ∧ ([.calibrateLoop 16 .begin, .recoveryConfirmExpiry 16, .saSettled 16, .saSettleTimeout 16, .addressTimeout 16,
      .trkCaptureTimeout 16, .layerTimeout 16, .overpower 16 0, .overpower 0 8, .pklLoss 16] : List Instr).all (fun i =>
      !i.wf) = true
    ∧ ([.pklRetrain 16 false, .writeGuardInhibit 16 0, .writeGuardInhibit 0 3, .beamOfftrack 16 0 0, .beamOfftrack 0 8 0,
      .beamOfftrack 0 0 32768, .spinUp 8 .begin, .spinUp 0 (.learned []), .startMeasureEnd 8, .spinDown 8] : List
      Instr).all (fun i => !i.wf) = true
    ∧ ([.stopBrakeEnd 8, .setSpeed 8, .targetRpmWrite (.pdo 2 0) 0 0, .targetRpmWrite .inner 8 0, .targetRpmWrite .inner 0
      65536, .speedLoopTick 8, .atSpeed 8, .spinUpTimeout 8, .hallEdge 8 0 0, .hallEdge 0 256 0] : List Instr).all (fun
      i => !i.wf) = true := by decide +kernel

/-- Terms with one operand out of its range each. -/
theorem test_ill_formed_6 :
    ([.hallEdge 0 0 (2 ^ 64), .observerMissedEdge 8, .encoderZEdge 8, .coastStopTimeout 8, .lockedRotor 8, .lockedRotorRetry
      8, .vbusSample 8 0 0, .vbusSample 0 65536 0, .vbusSample 0 0 65536, .vbusFaultTimeout 8] : List Instr).all (fun i
      => !i.wf) = true
    ∧ ([.sledSetPoint 16 0, .sledSetPoint 0 65536, .sledStall 16, .sledHome 16 .begin, .sledPark 16, .seek 16 .begin, .seek
      0 (.address ⟨2 ^ 32, 0, 0⟩), .sledProfileEnd 16, .clampStroke 8, .unclampStroke 8] : List Instr).all (fun i =>
      !i.wf) = true
    ∧ ([.clampProbe 8, .clampStall 8 0 [], .clampStall 0 65536 [], .clampStall 0 0 [2 ^ 32], .clampStrokeLimit 8,
      .orderDispatch 24, .orderTimeout 24, .trapEntry 24, .nop 24 0, .nop 0 (2 ^ 18)] : List Instr).all (fun i => !i.wf)
      = true
    ∧ ([.jmp 24 0, .jmp 0 (2 ^ 18), .call 24 0, .call 0 (2 ^ 18), .ret 24 0, .ret 0 (2 ^ 18), .ldi 24 0 0, .ldi 0 16 0, .ldi
      0 0 (2 ^ 18), .lui 24 0 0] : List Instr).all (fun i => !i.wf) = true := by decide +kernel

/-- Terms with one operand out of its range each. -/
theorem test_ill_formed_7 :
    ([.lui 0 16 0, .lui 0 0 (2 ^ 18), .mov 24 0 0 0, .mov 0 16 0 0, .mov 0 0 16 0, .mov 0 0 0 (2 ^ 18), .add 24 0 0 0, .add
      0 16 0 0, .add 0 0 16 0, .add 0 0 0 (2 ^ 18)] : List Instr).all (fun i => !i.wf) = true
    ∧ ([.sub 24 0 0 0, .sub 0 16 0 0, .sub 0 0 16 0, .sub 0 0 0 (2 ^ 18), .addi 24 0 0, .addi 0 16 0, .addi 0 0 (2 ^ 18),
      .and 24 0 0 0, .and 0 16 0 0, .and 0 0 16 0] : List Instr).all (fun i => !i.wf) = true
    ∧ ([.and 0 0 0 (2 ^ 18), .or 24 0 0 0, .or 0 16 0 0, .or 0 0 16 0, .or 0 0 0 (2 ^ 18), .xor 24 0 0 0, .xor 0 16 0 0,
      .xor 0 0 16 0, .xor 0 0 0 (2 ^ 18), .shift 24 0 0] : List Instr).all (fun i => !i.wf) = true
    ∧ ([.shift 0 16 0, .shift 0 0 (2 ^ 18), .mul 24 0 0 0, .mul 0 16 0 0, .mul 0 0 16 0, .mul 0 0 0 (2 ^ 18), .cmp 24 0 0 0,
      .cmp 0 16 0 0, .cmp 0 0 16 0, .cmp 0 0 0 (2 ^ 18)] : List Instr).all (fun i => !i.wf) = true := by decide +kernel

/-- Terms with one operand out of its range each. -/
theorem test_ill_formed_8 :
    ([.cmpi 24 0 0, .cmpi 0 16 0, .cmpi 0 0 (2 ^ 18), .fld 24 0 0 0, .fld 0 16 0 0, .fld 0 0 16 0, .fld 0 0 0 (2 ^ 18), .fst
      24 0 0 0, .fst 0 16 0 0, .fst 0 0 16 0] : List Instr).all (fun i => !i.wf) = true
    ∧ ([.fst 0 0 0 (2 ^ 18), .lcmd 24 0 0, .lcmd 0 16 0, .lcmd 0 0 (2 ^ 18), .hold 24 0, .hold 0 (2 ^ 18), .gate 24 0, .gate
      0 (2 ^ 18), .laser 24 0, .laser 0 (2 ^ 18)] : List Instr).all (fun i => !i.wf) = true
    ∧ ([.pkl 24 0 0, .pkl 0 16 0, .pkl 0 0 (2 ^ 18), .wait 24 0, .wait 0 (2 ^ 18), .waitExpiry 24, .waite 24 0 0, .waite 0
      16 0, .waite 0 0 (2 ^ 18), .waiteCondition 24 0] : List Instr).all (fun i => !i.wf) = true
    ∧ ([.waiteCondition 0 16, .evt 24 0 0, .evt 0 16 0, .evt 0 0 (2 ^ 18), .strb 24 0, .strb 0 (2 ^ 18), .prof 24 0 0 0,
      .prof 0 16 0 0, .prof 0 0 16 0, .prof 0 0 0 (2 ^ 18)] : List Instr).all (fun i => !i.wf) = true :=
      by decide +kernel

/-- Terms with one operand out of its range each. -/
theorem test_ill_formed_9 :
    ([.post 24 0 0, .post 0 16 0, .post 0 0 (2 ^ 18), .odone 24 0 0, .odone 0 16 0, .odone 0 0 (2 ^ 18), .ofail 24 0 0,
      .ofail 0 16 0, .ofail 0 0 (2 ^ 18), .orej 24 0] : List Instr).all (fun i => !i.wf) = true
    ∧ ([.orej 0 (2 ^ 18), .trapret 24 0, .trapret 0 (2 ^ 18), .storePatrol 8 false, .storeUncorrectable 8 0 false 0 false,
      .storeUncorrectable 0 16384 false 0 false, .storeUncorrectable 0 0 false 3 false, .customerImageInstall (.pdo 2 0)
      0, .customerImageInstall .inner (2 ^ 32), .customerImageErase (.pdo 2 0) 0] : List Instr).all (fun i => !i.wf) =
      true
    ∧ ([.customerImageErase .inner (2 ^ 32), .sectorStart 16 0 (List.replicate 41904 0) none none, .sectorStart 0 8
      (List.replicate 41904 0) none none, .sectorStart 0 0 [2 ^ 23] none none, .sectorStart 0 0 (List.replicate 41904 0)
      (some ⟨0, [], [], false, 0⟩) none, .sectorStart 0 0 (List.replicate 41904 0) none (some ⟨0, 0, 0, false⟩),
      .huntEnd 16 0 0, .huntEnd 0 8 0, .lbaTranslate (.pdo 2 0) 0 0, .lbaTranslate .inner 8 0] : List Instr).all (fun i
      => !i.wf) = true
    ∧ ([.lbaTranslate .inner 0 (2 ^ 32), .resyncBlock 16 [], .resyncBlock 0 [⟨8, [], [], false, [], [], 0, 0⟩], .adcHandover
      16 0 false 0, .adcHandover 0 8 false 0, .adcHandover 0 0 false (2 ^ 32), .firstPassDone 65536 0 0 0 ⟨0,
      List.replicate 4160 0, 0, 0⟩, .firstPassDone 0 (2 ^ 64) 0 0 ⟨0, List.replicate 4160 0, 0, 0⟩, .firstPassDone 0 0
      256 0 ⟨0, List.replicate 4160 0, 0, 0⟩, .firstPassDone 0 0 0 32768 ⟨0, List.replicate 4160 0, 0, 0⟩] : List
      Instr).all (fun i => !i.wf) = true := by decide +kernel

/-- Terms with one operand out of its range each. -/
theorem test_ill_formed_10 :
    ([.firstPassDone 0 0 0 0 ⟨0, [], 0, 0⟩, .retryGlobalEnd 65536 0 0 0 ⟨0, List.replicate 4160 0, 0, 0⟩, .retryGlobalEnd 0
      (2 ^ 64) 0 0 ⟨0, List.replicate 4160 0, 0, 0⟩, .retryGlobalEnd 0 0 256 0 ⟨0, List.replicate 4160 0, 0, 0⟩,
      .retryGlobalEnd 0 0 0 128 ⟨0, List.replicate 4160 0, 0, 0⟩, .retryGlobalEnd 0 0 0 0 ⟨0, [], 0, 0⟩,
      .outerCodeRepair 65536 0 false, .outerCodeRepair 0 (2 ^ 64) false, .ringFrameDump (.pdo 2 0) 0 0, .ringFrameDump
      .inner 16 0] : List Instr).all (fun i => !i.wf) = true
    ∧ ([.ringFrameDump .inner 0 (2 ^ 32), .writeStart 16 .opened, .writeStart 0 (.begin 0 0 256), .writeStop 16 false,
      .powerCal 16 .begin, .powerCal 0 (.read [⟨8, [], []⟩]), .pklAckTimeout 16, .clusterBuffered 16 0 0 0 false,
      .clusterBuffered 0 8 0 0 false, .clusterBuffered 0 0 65536 0 false] : List Instr).all (fun i => !i.wf) = true
    ∧ ([.clusterBuffered 0 0 0 (2 ^ 64) false, .bandEnd 16, .verifyResult 16 0 0 0 (List.replicate 18 0) 0, .verifyResult 0
      8 0 0 (List.replicate 18 0) 0, .verifyResult 0 0 65536 0 (List.replicate 18 0) 0, .verifyResult 0 0 0 (2 ^ 64)
      (List.replicate 18 0) 0, .verifyResult 0 0 0 0 [] 0, .verifyResult 0 0 0 0 (List.replicate 18 65536) 0,
      .verifyResult 0 0 0 0 (List.replicate 18 0) 32768, .gateReopen 16] : List Instr).all (fun i => !i.wf) = true
    ∧ ([.commandFetch 0 65536 0, .commandFetch 0 0 65536, .connect 0 (.io 65536), .propertyGet 0 65536 0, .propertyGet 0 0
      65536, .propertySet 0 65536 0 0, .propertySet 0 0 65536 0, .propertySet 0 0 0 (2 ^ 64), .read 0 65536 0 0 0
      ⟨false, 0, 0, 0, 0⟩, .read 0 0 (2 ^ 32) 0 0 ⟨false, 0, 0, 0, 0⟩] : List Instr).all (fun i => !i.wf) = true :=
      by decide +kernel

/-- Terms with one operand out of its range each. -/
theorem test_ill_formed_11 :
    ([.read 0 0 0 (2 ^ 64) 0 ⟨false, 0, 0, 0, 0⟩, .read 0 0 0 0 65536 ⟨false, 0, 0, 0, 0⟩, .read 0 0 0 0 0 ⟨false, 8, 0, 0,
      0⟩, .write 0 65536 0 0 [] false ⟨false, 0, 0, 0, 0⟩, .write 0 0 (2 ^ 32) 0 [] false ⟨false, 0, 0, 0, 0⟩, .write 0
      0 0 (2 ^ 64) [] false ⟨false, 0, 0, 0, 0⟩, .write 0 0 0 0 [⟨0, 2 ^ 128⟩] false ⟨false, 0, 0, 0, 0⟩, .write 0 0 0 0
      [] false ⟨false, 8, 0, 0, 0⟩, .zoneAppend 0 65536 0 0 [] false ⟨false, 0, 0, 0, 0⟩, .zoneAppend 0 0 (2 ^ 32) 0 []
      false ⟨false, 0, 0, 0, 0⟩] : List Instr).all (fun i => !i.wf) = true
    ∧ ([.zoneAppend 0 0 0 (2 ^ 64) [] false ⟨false, 0, 0, 0, 0⟩, .zoneAppend 0 0 0 0 [⟨0, 2 ^ 128⟩] false ⟨false, 0, 0, 0,
      0⟩, .zoneAppend 0 0 0 0 [] false ⟨false, 8, 0, 0, 0⟩, .flush 0 65536 0, .flush 0 0 (2 ^ 32), .zoneOpen 0 65536 0 0
      false, .zoneOpen 0 0 (2 ^ 32) 0 false, .zoneOpen 0 0 0 (2 ^ 64) false, .zoneClose 0 65536 0 0 false, .zoneClose 0
      0 (2 ^ 32) 0 false] : List Instr).all (fun i => !i.wf) = true
    ∧ ([.zoneClose 0 0 0 (2 ^ 64) false, .zoneFinish 0 65536 0 0 false, .zoneFinish 0 0 (2 ^ 32) 0 false, .zoneFinish 0 0 0
      (2 ^ 64) false, .zoneReset 0 65536 0 0 false, .zoneReset 0 0 (2 ^ 32) 0 false, .zoneReset 0 0 0 (2 ^ 64) false,
      .zoneOffline 0 65536 0 0 false, .zoneOffline 0 0 (2 ^ 32) 0 false, .zoneOffline 0 0 0 (2 ^ 64) false] : List
      Instr).all (fun i => !i.wf) = true
    ∧ ([.zoneManagementReceive 0 65536 0 0 0 0 false, .zoneManagementReceive 0 0 (2 ^ 32) 0 0 0 false,
      .zoneManagementReceive 0 0 0 (2 ^ 64) 0 0 false, .zoneManagementReceive 0 0 0 0 256 0 false,
      .zoneManagementReceive 0 0 0 0 0 (2 ^ 32) false, .getLogPage 0 65536 0 0 0 0 false, .getLogPage 0 0 256 0 0 0
      false, .getLogPage 0 0 0 (2 ^ 32) 0 0 false, .getLogPage 0 0 0 0 (2 ^ 32) 0 false, .getLogPage 0 0 0 0 0 (2 ^ 32)
      false] : List Instr).all (fun i => !i.wf) = true := by decide +kernel

/-- Terms with one operand out of its range each. -/
theorem test_ill_formed_12 :
    ([.identify 0 65536 0 0 0, .identify 0 0 256 0 0, .identify 0 0 0 256 0, .identify 0 0 0 0 (2 ^ 32), .abort 0 65536 0 0,
      .abort 0 0 65536 0, .abort 0 0 0 65536, .setFeaturesArbitration 0 65536 0, .setFeaturesArbitration 0 0 (2 ^ 32),
      .setFeaturesPowerManagement 0 65536 0] : List Instr).all (fun i => !i.wf) = true
    ∧ ([.setFeaturesPowerManagement 0 0 (2 ^ 32), .setFeaturesTemperatureThreshold 0 65536 0,
      .setFeaturesTemperatureThreshold 0 0 (2 ^ 32), .setFeaturesVolatileWriteCache 0 65536 0,
      .setFeaturesVolatileWriteCache 0 0 (2 ^ 32), .setFeaturesNumberOfQueues 0 65536 0, .setFeaturesNumberOfQueues 0 0
      (2 ^ 32), .setFeaturesInterruptCoalescing 0 65536 0, .setFeaturesInterruptCoalescing 0 0 (2 ^ 32),
      .setFeaturesInterruptVectorConfig 0 65536 0] : List Instr).all (fun i => !i.wf) = true
    ∧ ([.setFeaturesInterruptVectorConfig 0 0 (2 ^ 32), .setFeaturesAsyncEventConfig 0 65536 0, .setFeaturesAsyncEventConfig
      0 0 (2 ^ 32), .setFeaturesTimestamp 0 65536 0, .setFeaturesTimestamp 0 0 (2 ^ 64), .setFeaturesKeepAliveTimer 0
      65536 0, .setFeaturesKeepAliveTimer 0 0 (2 ^ 32), .getFeatures 0 65536 0 0, .getFeatures 0 0 256 0, .getFeatures 0
      0 0 (2 ^ 32)] : List Instr).all (fun i => !i.wf) = true
    ∧ ([.asyncEventRequest 0 65536, .keepAlive 0 65536, .createIoSq 0 65536 0 0 0, .createIoSq 0 0 65536 0 0, .createIoSq 0
      0 0 65536 0, .createIoSq 0 0 0 0 65536, .createIoCq 0 65536 0 0, .createIoCq 0 0 65536 0, .createIoCq 0 0 0 65536,
      .deleteIoSq 0 65536 0] : List Instr).all (fun i => !i.wf) = true := by decide +kernel

/-- Terms with one operand out of its range each. -/
theorem test_ill_formed_13 :
    ([.deleteIoSq 0 0 65536, .deleteIoCq 0 65536 0, .deleteIoCq 0 0 65536, .formatNvm 0 65536 0 0 0 0, .formatNvm 0 0 (2 ^
      32) 0 0 0, .formatNvm 0 0 0 256 0 0, .formatNvm 0 0 0 0 256 0, .formatNvm 0 0 0 0 0 256, .firmwareImageDownload 0
      65536 0 [], .firmwareImageDownload 0 0 (2 ^ 32) []] : List Instr).all (fun i => !i.wf) = true
    ∧ ([.firmwareCommitReplace 0 65536 0, .firmwareCommitReplace 0 0 256, .firmwareCommitActivateOnReset 0 65536 0,
      .firmwareCommitActivateOnReset 0 0 256, .firmwareCommitSelect 0 65536 0, .firmwareCommitSelect 0 0 256,
      .firmwareCommitActivateNow 0 65536 0, .firmwareCommitActivateNow 0 0 256, .deviceSelfTestShort 0 65536 0,
      .deviceSelfTestShort 0 0 (2 ^ 32)] : List Instr).all (fun i => !i.wf) = true
    ∧ ([.deviceSelfTestExtended 0 65536 0, .deviceSelfTestExtended 0 0 (2 ^ 32), .deviceSelfTestAbort 0 65536,
      .selftestIdleExpiry 8, .pin 0 65536 0 0 0, .pin 0 0 (2 ^ 32) 0 0, .pin 0 0 0 (2 ^ 64) 0, .pin 0 0 0 0 65536,
      .unpin 0 65536 0, .unpin 0 0 (2 ^ 32)] : List Instr).all (fun i => !i.wf) = true
    ∧ ([.attestationQuote 0 65536 (List.replicate 24 0), .attestationQuote 0 0 [], .fillCommit 65536 0, .fillCommit 0 (2 ^
      64), .blockPlaced 65536 0 0 ⟨0, 0⟩, .blockPlaced 0 (2 ^ 64) 0 ⟨0, 0⟩, .blockPlaced 0 0 16 ⟨0, 0⟩, .blockPlaced 0 0
      0 ⟨0, 2 ^ 128⟩, .fillEnd 65536 0, .fillEnd 0 (2 ^ 64)] : List Instr).all (fun i => !i.wf) = true :=
      by decide +kernel

/-- Terms with one operand out of its range each. -/
theorem test_ill_formed_14 :
    ([.writeLineReserved 0 65536, .mergeFillDone 65536 0, .mergeFillDone 0 (2 ^ 64), .tagProbe (.pdo 2 0) 0, .tagProbe
      .inner (2 ^ 32), .scrubStep false [] (some ⟨96, 0, 0⟩), .hbmUncorrectableError (2 ^ 64) .plain,
      .hbmUncorrectableError 0 (.tables (2 ^ 16)), .softRepair (2 ^ 64), .hbmAddressDecode (.pdo 2 0) 0] : List
      Instr).all (fun i => !i.wf) = true
    ∧ ([.hbmAddressDecode .inner (2 ^ 32), .hbmInjectArm (.pdo 2 0) 0, .hbmInjectArm .inner (2 ^ 32), .repairMapClear (.pdo
      2 0) 0, .repairMapClear .inner 256, .ringEnableWrite (.pdo 2 0) 0, .ringEnableWrite .inner 256, .ringLinkBroken 2,
      .ringLinkRetrain 2 0, .ringLinkRetrain 0 (2 ^ 64)] : List Instr).all (fun i => !i.wf) = true
    ∧ ([.idleFrame 2 0 false, .idleFrame 0 (2 ^ 32) false, .delayProbe 2 ⟨0, 0, 0, false, 0, 0⟩ false 0, .delayProbe 0 ⟨256,
      0, 0, false, 0, 0⟩ false 0, .delayProbe 0 ⟨0, 0, 0, false, 0, 0⟩ false (2 ^ 64), .delayEcho 2 ⟨0, 0, 0, false, 0,
      0⟩ false 0, .delayEcho 0 ⟨256, 0, 0, false, 0, 0⟩ false 0, .delayEcho 0 ⟨0, 0, 0, false, 0, 0⟩ false 65536,
      .discover 2 ⟨0, 0, 0, false, 0, 0⟩ false ⟨0, 0, 0, 0, 0, 0⟩, .discover 0 ⟨256, 0, 0, false, 0, 0⟩ false ⟨0, 0, 0,
      0, 0, 0⟩] : List Instr).all (fun i => !i.wf) = true
    ∧ ([.discover 0 ⟨0, 0, 0, false, 0, 0⟩ false ⟨0, 3, 0, 0, 0, 0⟩, .roster 2 ⟨0, 0, 0, false, 0, 0⟩ false ⟨0, [], 0, 0⟩,
      .roster 0 ⟨256, 0, 0, false, 0, 0⟩ false ⟨0, [], 0, 0⟩, .roster 0 ⟨0, 0, 0, false, 0, 0⟩ false ⟨7, [], 0, 0⟩,
      .timeSync 2 ⟨0, 0, 0, false, 0, 0⟩ false 0 0 0, .timeSync 0 ⟨256, 0, 0, false, 0, 0⟩ false 0 0 0, .timeSync 0 ⟨0,
      0, 0, false, 0, 0⟩ false (2 ^ 64) 0 0, .timeSync 0 ⟨0, 0, 0, false, 0, 0⟩ false 0 (2 ^ 64) 0, .timeSync 0 ⟨0, 0,
      0, false, 0, 0⟩ false 0 0 (2 ^ 32), .ringProbe 2 ⟨0, 0, 0, false, 0, 0⟩ false 0] : List Instr).all (fun i =>
      !i.wf) = true := by decide +kernel

/-- Terms with one operand out of its range each. -/
theorem test_ill_formed_15 :
    ([.ringProbe 0 ⟨256, 0, 0, false, 0, 0⟩ false 0, .ringProbe 0 ⟨0, 0, 0, false, 0, 0⟩ false (2 ^ 32), .foldNotice 2 ⟨0,
      0, 0, false, 0, 0⟩ false 0 false, .foldNotice 0 ⟨256, 0, 0, false, 0, 0⟩ false 0 false, .foldNotice 0 ⟨0, 0, 0,
      false, 0, 0⟩ false (2 ^ 64) false, .rejoin 2 ⟨0, 0, 0, false, 0, 0⟩ false 0, .rejoin 0 ⟨256, 0, 0, false, 0, 0⟩
      false 0, .rejoin 0 ⟨0, 0, 0, false, 0, 0⟩ false (2 ^ 64), .strobeSet 2 ⟨0, 0, 0, false, 0, 0⟩ false 0 0,
      .strobeSet 0 ⟨256, 0, 0, false, 0, 0⟩ false 0 0] : List Instr).all (fun i => !i.wf) = true
    ∧ ([.strobeSet 0 ⟨0, 0, 0, false, 0, 0⟩ false 16 0, .strobeSet 0 ⟨0, 0, 0, false, 0, 0⟩ false 0 (2 ^ 64),
      .ringStrobeTimeReached 16, .grantReq 2 ⟨0, 0, 0, false, 0, 0⟩ false 0 0 false, .grantReq 0 ⟨256, 0, 0, false, 0,
      0⟩ false 0 0 false, .grantReq 0 ⟨0, 0, 0, false, 0, 0⟩ false (2 ^ 64) 0 false, .grantReq 0 ⟨0, 0, 0, false, 0, 0⟩
      false 0 8 false, .grant 2 ⟨0, 0, 0, false, 0, 0⟩ false 0 0 false, .grant 0 ⟨256, 0, 0, false, 0, 0⟩ false 0 0
      false, .grant 0 ⟨0, 0, 0, false, 0, 0⟩ false (2 ^ 64) 0 false] : List Instr).all (fun i => !i.wf) = true
    ∧ ([.grant 0 ⟨0, 0, 0, false, 0, 0⟩ false 0 8 false, .grantExpiry (2 ^ 64) 0, .grantExpiry 0 8, .memberRead 2 ⟨0, 0, 0,
      false, 0, 0⟩ false 0 0 0 0, .memberRead 0 ⟨256, 0, 0, false, 0, 0⟩ false 0 0 0 0, .memberRead 0 ⟨0, 0, 0, false,
      0, 0⟩ false 256 0 0 0, .memberRead 0 ⟨0, 0, 0, false, 0, 0⟩ false 0 20 0 0, .memberRead 0 ⟨0, 0, 0, false, 0, 0⟩
      false 0 0 (2 ^ 64) 0, .memberRead 0 ⟨0, 0, 0, false, 0, 0⟩ false 0 0 0 65536, .memberData 2 ⟨0, 0, 0, false, 0, 0⟩
      false 0 0 0 false []] : List Instr).all (fun i => !i.wf) = true
    ∧ ([.memberData 0 ⟨256, 0, 0, false, 0, 0⟩ false 0 0 0 false [], .memberData 0 ⟨0, 0, 0, false, 0, 0⟩ false 256 0 0
      false [], .memberData 0 ⟨0, 0, 0, false, 0, 0⟩ false 0 0 20 false [], .memberData 0 ⟨0, 0, 0, false, 0, 0⟩ false 0
      0 0 false [⟨0, 2 ^ 128⟩], .memberWrite 2 ⟨0, 0, 0, false, 0, 0⟩ false 0 0 0 [], .memberWrite 0 ⟨256, 0, 0, false,
      0, 0⟩ false 0 0 0 [], .memberWrite 0 ⟨0, 0, 0, false, 0, 0⟩ false 256 0 0 [], .memberWrite 0 ⟨0, 0, 0, false, 0,
      0⟩ false 0 20 0 [], .memberWrite 0 ⟨0, 0, 0, false, 0, 0⟩ false 0 0 (2 ^ 64) [], .memberWrite 0 ⟨0, 0, 0, false,
      0, 0⟩ false 0 0 0 [⟨0, 2 ^ 128⟩]] : List Instr).all (fun i => !i.wf) = true := by decide +kernel

/-- Terms with one operand out of its range each. -/
theorem test_ill_formed_16 :
    ([.memberAck 2 ⟨0, 0, 0, false, 0, 0⟩ false 0 0 false 0 false, .memberAck 0 ⟨256, 0, 0, false, 0, 0⟩ false 0 0 false 0
      false, .memberAck 0 ⟨0, 0, 0, false, 0, 0⟩ false 256 0 false 0 false, .memberAck 0 ⟨0, 0, 0, false, 0, 0⟩ false 0
      20 false 0 false, .memberFlush 2 ⟨0, 0, 0, false, 0, 0⟩ false 0 0 0, .memberFlush 0 ⟨256, 0, 0, false, 0, 0⟩ false
      0 0 0, .memberFlush 0 ⟨0, 0, 0, false, 0, 0⟩ false 256 0 0, .memberFlush 0 ⟨0, 0, 0, false, 0, 0⟩ false 0 20 0,
      .memberFlush 0 ⟨0, 0, 0, false, 0, 0⟩ false 0 0 (2 ^ 32), .volumeTable 2 ⟨0, 0, 0, false, 0, 0⟩ false []] : List
      Instr).all (fun i => !i.wf) = true
    ∧ ([.volumeTable 0 ⟨256, 0, 0, false, 0, 0⟩ false [], .volumeTable 0 ⟨0, 0, 0, false, 0, 0⟩ false [⟨0, 0, 1, 0, 0, [],
      []⟩], .rsFire (.pdo 2 0) 0, .rsFire .inner 256, .calendarTimeWrite (.pdo 2 0) 0, .calendarTimeWrite .inner (2 ^
      64), .volumeCreate (.pdo 2 0) 0 0, .volumeCreate .inner (2 ^ 32) 0, .volumeCreate .inner 0 (2 ^ 24), .volumeDelete
      (.pdo 2 0) 0] : List Instr).all (fun i => !i.wf) = true
    ∧ ([.volumeDelete .inner (2 ^ 32), .replaceColumn (.pdo 2 0) 0 false, .replaceColumn .inner (2 ^ 32) false, .rowEncode
      256 0, .rowRebuild 256 0 [], .rowRebuild 0 20 [], .rowRebuild 0 0 [⟨20, []⟩], .lifeCycleTransition (.pdo 2 0) 0
      .done, .lifeCycleTransition .inner (2 ^ 32) .done, .lifeCycleTransition .inner 0 (.cut 3)] : List Instr).all (fun
      i => !i.wf) = true
    ∧ ([.customerKeyFuse (.pdo 2 0) 0 false, .customerKeyFuse .inner (2 ^ 32) false, .quoteRequest (.pdo 2 0) 0,
      .quoteRequest .inner (2 ^ 32), .authResponse (.pdo 2 0) [], .authClose (.pdo 2 0) 0, .authClose .inner 256,
      .debugResponse (.pdo 2 0) [], .idCertWrite (.pdo 2 0) [], .recoveryInstall (.pdo 2 0) 0] : List Instr).all (fun i
      => !i.wf) = true := by decide +kernel

/-- Terms with one operand out of its range each. -/
theorem test_ill_formed_17 :
    ([.recoveryInstall .inner (2 ^ 32), .ledgerPost 65536 0 [], .ledgerPost 0 256 [], .ledgerPost 0 0 (List.replicate 241
      0), .flushNow (.pdo 2 0) 0, .flushNow .inner 256, .freezeWrite (.pdo 2 0) 0, .freezeWrite .inner 256, .cursorWrite
      (.pdo 2 0) 0, .cursorWrite .inner (2 ^ 64)] : List Instr).all (fun i => !i.wf) = true
    ∧ ([.advance (.pdo 2 0) 0, .advance .inner 256, .ledgerClear (.pdo 2 0) 0, .ledgerClear .inner 256, .rextMeasure 65536,
      .rfCalVisit 16 0 ⟨0, 0, 0⟩ ⟨0, 0, 0⟩ 0 0, .rfCalVisit 0 8 ⟨0, 0, 0⟩ ⟨0, 0, 0⟩ 0 0, .rfCalVisit 0 0 ⟨0, 2 ^ 16, 0⟩
      ⟨0, 0, 0⟩ 0 0, .rfCalVisit 0 0 ⟨0, 0, 0⟩ ⟨0, 2 ^ 16, 0⟩ 0 0, .rfCalVisit 0 0 ⟨0, 0, 0⟩ ⟨0, 0, 0⟩ (2 ^ 32) 0] :
      List Instr).all (fun i => !i.wf) = true
    ∧ ([.rfCalVisit 0 0 ⟨0, 0, 0⟩ ⟨0, 0, 0⟩ 0 (2 ^ 32), .servoAdcCal 16 0 ⟨0, 0, 0⟩, .servoAdcCal 0 9 ⟨0, 0, 0⟩,
      .servoAdcCal 0 0 ⟨0, 2 ^ 16, 0⟩, .dacCal 24 [], .dacCal 0 [⟨0, 2 ^ 16, 0⟩], .calRfVisitRound (.pdo 2 0) 0,
      .calRfVisitRound .inner (2 ^ 32), .calHeadDacs (.pdo 2 0) 0, .calHeadDacs .inner (2 ^ 32)] : List Instr).all (fun
      i => !i.wf) = true
    ∧ ([.calMotorSense (.pdo 2 0) 0, .calMotorSense .inner (2 ^ 32), .bistStationCore (.pdo 2 0) 0, .bistStationCore .inner
      (2 ^ 32), .bistMotorIo (.pdo 2 0) 0, .bistMotorIo .inner (2 ^ 32), .bistHeadFrontEnd (.pdo 2 0) 0,
      .bistHeadFrontEnd .inner (2 ^ 32), .bistHeadChannel (.pdo 2 0) 0, .bistHeadChannel .inner (2 ^ 32)] : List
      Instr).all (fun i => !i.wf) = true := by decide +kernel

/-- Terms with one operand out of its range each. -/
theorem test_ill_formed_18 :
    ([.bistLdpcSlice (.pdo 2 0) 0, .bistLdpcSlice .inner (2 ^ 32), .bistContextSegment (.pdo 2 0) 0, .bistContextSegment
      .inner (2 ^ 32), .bistEcEngine (.pdo 2 0) 0, .bistEcEngine .inner (2 ^ 32), .bistWholeChip (.pdo 2 0) 0,
      .bistWholeChip .inner (2 ^ 32), .bistPatternBlock 9 0, .bistPatternBlock 0 256] : List Instr).all (fun i => !i.wf)
      = true
    ∧ ([.bistPartitionEnd 9 0 0 0 [], .bistPartitionEnd 0 256 0 0 [], .bistPartitionEnd 0 0 (2 ^ 64) 0 [], .bistPartitionEnd
      0 0 0 (2 ^ 24) [], .bistPartitionEnd 0 0 0 0 [⟨96, 0, 0⟩], .segmentWaitExpiry 64, .wiringTest 8,
      .wiringTestRequest (.pdo 2 0) 0 0, .wiringTestRequest .inner 8 0, .wiringTestRequest .inner 0 (2 ^ 32)] : List
      Instr).all (fun i => !i.wf) = true
    ∧ ([.wiringTestEnd 8 0 [], .wiringTestEnd 0 3 [], .wiringTestEnd 0 0 [.hall 8], .senseCheck 8 0 0 0 0, .senseCheck 0 256
      0 0 0, .senseCheck 0 0 (2 ^ 31) 0 0, .senseCheck 0 0 0 (2 ^ 31) 0, .senseCheck 0 0 0 0 (2 ^ 31),
      .eventOverrideWrite (.pdo 2 0) 0 0, .eventOverrideWrite .inner 128 0] : List Instr).all (fun i => !i.wf) = true
    ∧ ([.eventOverrideWrite .inner 0 (2 ^ 32), .thermalRead 32768 [0, 0], .thermalRead 0 [], .canErrorPassive 2 false,
      .ethernetLinkChange 4 false, .pcieLinkUp 256 0, .pcieLinkUp 0 256, .encoderEdge 8 false false 0, .encoderEdge 0
      false false (2 ^ 64), .segWindowRegisterWrite 65536 0] : List Instr).all (fun i => !i.wf) = true :=
      by decide +kernel

/-- Terms with one operand out of its range each. -/
theorem test_ill_formed_19 :
    ([.segWindowRegisterWrite 0 (2 ^ 32)] : List Instr).all (fun i => !i.wf) = true := by decide +kernel

/-- Operands out of one range each. -/
theorem test_operands_1 :
    ([⟨0, 128, 0⟩, ⟨0, 0, 128⟩] : List Straps).all (fun i => !i.wf) = true
    ∧ ([⟨0, 2 ^ 64, 0⟩, ⟨0, 0, 2 ^ 31⟩] : List PilotRead).all (fun i => !i.wf) = true
    ∧ ([.learned [0, 0, 0, 0, 0, 8]] : List SpinEvent).all (fun i => !i.wf) = true
    ∧ ([⟨false, 0, 65536, 0, 0⟩, ⟨false, 0, 0, 65536, 0⟩, ⟨false, 0, 0, 0, 2 ^ 48⟩] : List PiArgs).all (fun i => !i.wf) = true
    ∧ ([⟨true, true, true, true, 2 ^ 32, 0, 0, 0, [0, 0, 0, 0]⟩, ⟨true, true, true, true, 0, 0, 2 ^ 32, 0, [0, 0, 0, 0]⟩,
      ⟨true, true, true, true, 0, 0, 0, 65536, [0, 0, 0, 0]⟩, ⟨true, true, true, true, 0, 0, 0, 0, [0]⟩] : List
      FirmwareImage).all (fun i => !i.wf) = true
    ∧ ([⟨2, 0, 0, 0, List.replicate 80 0⟩, ⟨0, 8, 0, 0, List.replicate 80 0⟩, ⟨0, 0, 65536, 0, List.replicate 80 0⟩, ⟨0, 0,
      0, 65536, List.replicate 80 0⟩, ⟨0, 0, 0, 0, []⟩] : List LayerData).all (fun i => !i.wf) = true
    ∧ ([⟨0, 1, 1, 0, 0, 0, 0, [], []⟩, ⟨3, 1, 1, 0, 0, 0, 0, [], []⟩, ⟨1, 4, 1, 0, 0, 0, 0, [], []⟩, ⟨1, 1, 9, 0, 0, 0, 0,
      [], []⟩, ⟨1, 1, 1, 9, 0, 0, 0, [], []⟩, ⟨1, 1, 1, 0, 2 ^ 64, 0, 0, [], []⟩, ⟨1, 1, 1, 0, 0, 65536, 0, [], []⟩, ⟨1,
      1, 1, 0, 0, 0, 65536, [], []⟩, ⟨1, 1, 1, 0, 0, 0, 0, List.replicate 17 0, []⟩, ⟨1, 1, 1, 0, 0, 0, 0, [], [⟨2, 0,
      0, 0, []⟩]⟩] : List Medium).all (fun i => !i.wf) = true
    ∧ ([⟨none, [[]], [], [], [], 0, [], [], [], [], [], 0, 0⟩, ⟨none, [], [(2 ^ 32, 0, 0)], [], [], 0, [], [], [], [], [],
      0, 0⟩, ⟨none, [], [], [(0, 4001, 0)], [], 0, [], [], [], [], [], 0, 0⟩, ⟨none, [], [], [], [2 ^ 32], 0, [], [],
      [], [], [], 0, 0⟩, ⟨none, [], [], [], [], 2 ^ 40, [], [], [], [], [], 0, 0⟩, ⟨none, [], [], [], [], 0, [(0, true,
      65537)], [], [], [], [], 0, 0⟩, ⟨none, [], [], [], [], 0, [], [], [], [], [], 2 ^ 32, 0⟩, ⟨none, [], [], [], [],
      0, [], [], [], [], [], 0, 2 ^ 32⟩] : List SideImage).all (fun i => !i.wf) = true
    ∧ ([.recognised ⟨0, 1, 1, 0, 0, 0, 0, [], []⟩, .identity [[]] [] 0, .identity [] [[]] 0, .identity [] [] 65536,
      .metadata 2 0, .metadata 0 (2 ^ 40), .pinned 2 ⟨none, [], [], [], [], 0, [], [], [], [], [], 0, 0⟩, .pinned 0
      ⟨none, [[]], [], [], [], 0, [], [], [], [], [], 0, 0⟩] : List StepOut).all (fun i => !i.wf) = true
    ∧ ([⟨0, 0, 0, false⟩, ⟨65536, 0, 0, false⟩, ⟨1, 2 ^ 40, 0, false⟩, ⟨1, 0, 18, false⟩] : List SectorAsk).all (fun i =>
      !i.wf) = true
    ∧ ([⟨5121, List.replicate 4160 0, 0, 0⟩, ⟨0, List.replicate 4160 0, 256, 0⟩, ⟨0, List.replicate 4160 0, 0, 38401⟩] :
      List DecodeOut).all (fun i => !i.wf) = true
    ∧ ([⟨8, [0, 0, 0, 0, 0], [0, 0, 0, 0, 0], false, List.replicate 15 0, [0, 0, 0, 0], 0, 0⟩, ⟨0, [], [0, 0, 0, 0, 0],
      false, List.replicate 15 0, [0, 0, 0, 0], 0, 0⟩, ⟨0, [0, 0, 0, 0, 0], [0, 0, 0, 0, 32768], false, List.replicate
      15 0, [0, 0, 0, 0], 0, 0⟩, ⟨0, [0, 0, 0, 0, 0], [0, 0, 0, 0, 0], false, [], [0, 0, 0, 0], 0, 0⟩, ⟨0, [0, 0, 0, 0,
      0], [0, 0, 0, 0, 0], false, List.replicate 15 0, [0], 0, 0⟩, ⟨0, [0, 0, 0, 0, 0], [0, 0, 0, 0, 0], false,
      List.replicate 15 0, [0, 0, 0, 0], 65536, 0⟩, ⟨0, [0, 0, 0, 0, 0], [0, 0, 0, 0, 0], false, List.replicate 15 0,
      [0, 0, 0, 0], 0, 32768⟩] : List BeamBlock).all (fun i => !i.wf) = true
    ∧ ([.begin (2 ^ 32) 0 0, .begin 0 65536 0] : List WriteEvent).all (fun i => !i.wf) = true
    ∧ ([⟨8, List.replicate 18 0, List.replicate 18 0⟩, ⟨0, [], List.replicate 18 0⟩, ⟨0, List.replicate 18 65536,
      List.replicate 18 0⟩, ⟨0, List.replicate 18 0, []⟩] : List BeamCal).all (fun i => !i.wf) = true
    ∧ ([⟨0, 0x15, 0⟩, ⟨2, 3, 0⟩, ⟨0, 3, 65536⟩] : List OrderReq).all (fun i => !i.wf) = true
    ∧ ([.failed 3] : List ProgramEnd).all (fun i => !i.wf) = true
    ∧ ([⟨some 0, 0, []⟩, ⟨none, 256, []⟩] : List StackTraining).all (fun i => !i.wf) = true
    ∧ ([.tag 16384 0 false, .tag 0 16 false, .station 8] : List HbmUse).all (fun i => !i.wf) = true
    ∧ ([⟨0, 65536, 0⟩, ⟨0, 0, 65536⟩] : List SramRow).all (fun i => !i.wf) = true := by decide +kernel

/-- Operands out of one range each. -/
theorem test_operands_2 :
    ([⟨0, 256, 0, false, 0, 0⟩, ⟨0, 0, 255, false, 0, 0⟩, ⟨0, 0, 0, false, 2 ^ 32, 0⟩, ⟨0, 0, 0, false, 0, 2 ^ 32⟩] : List
      FrameHead).all (fun i => !i.wf) = true
    ∧ ([⟨2 ^ 64, 0, 0, 0, false, false, false⟩, ⟨0, 65536, 0, 0, false, false, false⟩, ⟨0, 0, 65536, 0, false, false,
      false⟩, ⟨0, 0, 0, 256, false, false, false⟩] : List RosterEntry).all (fun i => !i.wf) = true
    ∧ ([⟨0, [⟨2 ^ 64, 0, 0, 0, false, false, false⟩], 0, 0⟩, ⟨0, [], 2 ^ 64, 0⟩, ⟨0, [], 0, 2 ^ 64⟩] : List RosterIn).all
      (fun i => !i.wf) = true
    ∧ ([⟨2 ^ 64, 0, 0, 0, 0, 0⟩, ⟨0, 0, 0, 65536, 0, 0⟩, ⟨0, 0, 0, 0, 65536, 0⟩, ⟨0, 0, 0, 0, 0, 256⟩] : List Candidate).all
      (fun i => !i.wf) = true
    ∧ ([⟨256, 1, 1, 0, 1, [⟨0, 0, 0, true, [], false⟩, ⟨0, 0, 0, true, [], false⟩], []⟩, ⟨0, 17, 1, 0, 1, List.replicate 18
      ⟨0, 0, 0, true, [], false⟩, []⟩, ⟨0, 1, 5, 0, 1, List.replicate 6 ⟨0, 0, 0, true, [], false⟩, []⟩, ⟨0, 1, 1, 2, 1,
      [⟨0, 0, 0, true, [], false⟩, ⟨0, 0, 0, true, [], false⟩], []⟩, ⟨0, 1, 1, 0, 65536, [⟨0, 0, 0, true, [], false⟩,
      ⟨0, 0, 0, true, [], false⟩], []⟩, ⟨0, 1, 1, 0, 1, [], []⟩, ⟨0, 1, 1, 0, 1, [⟨0, 65536, 0, true, [], false⟩, ⟨0, 0,
      0, true, [], false⟩], []⟩] : List Volume).all (fun i => !i.wf) = true
    ∧ ([⟨0, []⟩, ⟨0, List.replicate 16 ⟨0, 2 ^ 128⟩⟩] : List MemberPart).all (fun i => !i.wf) = true
    ∧ ([⟨32768, 0, 0⟩, ⟨0, 0, 65536⟩] : List CalFit).all (fun i => !i.wf) = true
    ∧ ([.pad false false (2 ^ 32), .limit false false (2 ^ 32), .coil (2 ^ 31) 0, .coil 0 (2 ^ 31), .winding (2 ^ 31) 0,
      .winding 0 (2 ^ 32), .phase [], .phase (List.replicate 6 (65536, 0)), .bias (2 ^ 31) 0 0, .dark 0 0 0 (2 ^ 31),
      .legs (2 ^ 32) 0, .legs 0 (2 ^ 32)] : List WireMeas).all (fun i => !i.wf) = true
    ∧ ([⟨0, 0, 0⟩] : List Straps).all (·.wf) = true
    ∧ ([⟨0, 0, 0⟩] : List PilotRead).all (·.wf) = true
    ∧ ([.learned [0, 0, 0, 0, 0, 0]] : List SpinEvent).all (·.wf) = true
    ∧ ([⟨false, 0, 0, 0, 0⟩] : List PiArgs).all (·.wf) = true
    ∧ ([⟨true, true, true, true, 0, 0, 0, 0, [0, 0, 0, 0]⟩] : List FirmwareImage).all (·.wf) = true
    ∧ ([⟨0, 0, 0, 0, List.replicate 80 0⟩] : List LayerData).all (·.wf) = true
    ∧ ([⟨1, 1, 1, 0, 0, 0, 0, [], []⟩] : List Medium).all (·.wf) = true
    ∧ ([⟨none, [], [], [], [], 0, [], [], [], [], [], 0, 0⟩] : List SideImage).all (·.wf) = true
    ∧ ([.ok] : List StepOut).all (·.wf) = true
    ∧ ([⟨1, 0, 0, false⟩] : List SectorAsk).all (·.wf) = true
    ∧ ([⟨0, List.replicate 4160 0, 0, 0⟩] : List DecodeOut).all (·.wf) = true := by decide +kernel

/-- Operands from which those differ. -/
theorem test_operands_3 :
    ([⟨0, [0, 0, 0, 0, 0], [0, 0, 0, 0, 0], false, List.replicate 15 0, [0, 0, 0, 0], 0, 0⟩] : List BeamBlock).all (·.wf) = true
    ∧ ([.begin 0 0 0] : List WriteEvent).all (·.wf) = true
    ∧ ([⟨0, List.replicate 18 0, List.replicate 18 0⟩] : List BeamCal).all (·.wf) = true
    ∧ ([⟨0, 3, 0⟩] : List OrderReq).all (·.wf) = true
    ∧ ([.done] : List ProgramEnd).all (·.wf) = true
    ∧ ([⟨none, 0, []⟩] : List StackTraining).all (·.wf) = true
    ∧ ([.plain] : List HbmUse).all (·.wf) = true
    ∧ ([⟨0, 0, 0⟩] : List SramRow).all (·.wf) = true
    ∧ ([⟨0, 0, 0, false, 0, 0⟩] : List FrameHead).all (·.wf) = true
    ∧ ([⟨0, 0, 0, 0, false, false, false⟩] : List RosterEntry).all (·.wf) = true
    ∧ ([⟨0, [], 0, 0⟩] : List RosterIn).all (·.wf) = true
    ∧ ([⟨0, 0, 0, 0, 0, 0⟩] : List Candidate).all (·.wf) = true
    ∧ ([⟨0, 1, 1, 0, 1, [⟨0, 0, 0, true, [], false⟩, ⟨0, 0, 0, true, [], false⟩], []⟩] : List Volume).all (·.wf) = true
    ∧ ([⟨0, List.replicate 16 ⟨0, 0⟩⟩] : List MemberPart).all (·.wf) = true
    ∧ ([⟨0, 0, 0⟩] : List CalFit).all (·.wf) = true
    ∧ ([.hall 0] : List WireMeas).all (·.wf) = true := by decide +kernel


/-! ### States that the witnesses start from -/

/-- Sequencer `q` runs an order of code `c` with PARAM `p`, `n` steps begun, at the vendor's highest word. -/
def runsOrder (q c p n : Nat) (s : State) : State :=
  s.modSq q fun x => { x with running := some ⟨c, p, 0, .station⟩, started := n, pc := 0x37FF }
/-- The same from reset. -/
def ordered (q c p n : Nat) : State := runsOrder q c p n State.reset
/-- Reset with some registers set. -/
def regs (l : List (Nat × Nat)) : State := State.reset.setRegs l
/-- Host-ready and OPERATIONAL, both CAN buses in service. -/
def up : State :=
  { regs [(key 0x2100 1, 1), (key 0x2100 3, 1)] with can := { Can.initial with booted := true, nmt := .operational } }
/-- The length of a read that answers. -/
def readLength (s : State) (d : Door) (i sub : Nat) : Option Nat :=
  match s.readObject d i sub with | .ok (_, b) => some b.length | .error _ => none
/-- What has become of a write: applied, waiting, or its abort code. -/
def outcome (s : State) (d : Door) (i sub : Nat) (b : List Byte) : Sum Bool Nat :=
  match s.take d i sub b World.plain with | .ok t => .inl t.applied | .error a => .inr a
/-- A change that is taken. -/
def taken (x : Applied) : Bool := match x with | .ok _ => true | .error _ => false
/-- The same with station 7's core and head L's blocks, the host, ring and BIST blocks awake. -/
def awake : State := up.setRegs ([42, 43, 44, 45, 46, 47, 86, 87, 88, 89, 90, 91, 92, 94].map fun d => (key 0x2102 (d + 1), 3))
/-- Station 7 in a state. -/
def station (v : Nat) : State := awake.setReg (stKey 7 0 1) v
/-- The ring's master in state RING. -/
def master : State := awake.setRegs [(ringKey 1, 1), (ringKey 3, 3), (ringKey 4, 0)]
/-- Controller `c`, enabled, with one I/O queue. -/
def ctrlOn (c : Nat) : Ctrl := ⟨c, true, true, 0, true, 8, [(1, 1)], [1], [], [], [], [], [], [], false, 1⟩
/-- The zoned namespace 15 of two zones, on station 7's side A. -/
def side : Ns := ⟨15, true, true, 131072, 0, [], false, 65536, 0⟩
def block : Block := ⟨7, 8⟩
/-- Station 7 in state `v` with namespace 15, controllers 0 and 5 enabled, and command 9 of queue `sq` of `c` fetched. -/
def hosted (v c sq : Nat) : State :=
  (station v).modNvme fun n =>
    { n with ctrls := [ctrlOn 0, ctrlOn 5], ctxs := [⟨3, c, sq, 9, .fetched, false⟩], seq := 4, namespaces := [side] }
/-- Namespace 15 with its zone 1 in a state. -/
def zoned (z : Nat) : State := (hosted 4 0 1).modNs 15 fun n => { n with zones := [⟨1, z, 5⟩] }
def line (st : LineState) : Line := ⟨0, 0, 15, 0, st, 65535, 0, 0, 0, none, none, 0, false, false, List.replicate 16 block⟩
/-- The same with its cluster 0 in Granary. -/
def lined (st : LineState) : State := (hosted 4 0 1).modGr fun g => { g with lines := [line st] }
/-- Sector 17 of cluster 0 of namespace 15, from station 7's head L, at a rung of the ladder. -/
def sector (st : Stage) (verify : Bool) : Sector :=
  { h := 15, b := 7, nsid := 15, cl := 0, idx := 17, psa := 9, frame := 0, early := 0, verify, since := 0, stage := st, slice := some 23
    enable := true, maxGlobals := 64, maxStall := 8, parallel_ := 4, offMax := 8, maxReread := 1, innerFirst := 20, innerRetry := 40, innerProbe := 10
    soft := [], data := [], errs := 0, copied := false, off := 0, globals := 0
    best := none, stall := 0, probes := [], offs := [], reread := 0, rung := 0 }
/-- The same with that sector alone in the pool, its cluster wanted. -/
def pooled (st : Stage) (verify : Bool) : State :=
  { (lined .writing).modGr fun g => { g with ops := [⟨15, 0, .demand, true, true, false, false, none, [], [], false⟩] } with
    pool := [sector st verify] }
/-- Head 15 in a sub-state, its channel and front end on. -/
def headAt (v : Nat) : State := (station 5).setSubstate 15 v
/-- HBM trained, in RUN. -/
def hbm : State := { awake with power := { awake.power with hbmOk := true } }
/-- Head 15 in sub-state `v`, its sequencer running an order of code `c` with PARAM `p`, `n` steps begun. -/
def headRuns (v c p n : Nat) : State := runsOrder 15 c p n (headAt v)
/-- Station 7's processor runs an order of code `c` with PARAM `p`, `n` steps begun. -/
def stationRuns (c p n : Nat) : State := runsOrder 23 c p n (station 2)
/-- The ring on, both links up, in a ring state at a position. -/
def ringAt (st pos : Nat) : State :=
  awake.setRegs [(ringKey 1, 1), (ringKey 3, st), (ringKey 4, pos), (key 0x2102 93, 3), (portKey 0 1, 2), (portKey 1 1, 2)]
/-- A firmware image that passes every check. -/
def image : FirmwareImage := ⟨true, true, true, true, 1, 0, 0, 1, []⟩
/-- Start-up with every rail on. -/
def booting : State := (awake.setReg (key 0x2100 1) 0).modPower fun p => { p with phase := 2 }
/-- A spread volume of one data and one parity column: this device's station 7, and device 2. -/
def volume : Volume := ⟨0, 1, 1, 0, 1, [⟨1, 15, 0, true, [], false⟩, ⟨2, 1, 0, true, [], false⟩], []⟩
/-- The master of a ring that holds that volume, its namespace 256 and a full cluster of it staged. -/
def spread (pos : Nat) : State :=
  { (ringAt 3 pos).setReg (stKey 7 0 1) 4 with
    nvme := { Nvme.initial with ctrls := [ctrlOn 0], ctxs := [⟨3, 0, 1, 9, .fetched, false⟩], seq := 4
                                namespaces := [side, { side with nsid := 256, nsze := 1048576, zsize := 1048576, cols := 1 }] }
    spread := { Spread.initial with
      volumes := [volume], staged := [{ line .dirty with nsid := 256, dirty := 65535 }]
      gets := [⟨0, 1, [0], [0], [], [], false⟩] } }
/-- Station 7 in state `v`, its command at a step. -/
def stepping (v : Nat) (st : StnStep) : State :=
  (station v).modStn 7 fun t => { t with cmd := some ⟨2, 4, 3, false, [st], 0, false, 0, true⟩ }
def command (st : StnStep) : StnCmd := ⟨2, 4, 3, false, [st], 0, false, 0, true⟩
/-- A band of 72 sectors in head 15, its gates open. -/
def band : Band := ⟨180000, 72, 1, false, false, true, []⟩
def banded (v c n : Nat) : State :=
  (headRuns v c 0 n).modHd 15 fun d => { d with band := some band, gates := d.gates.map fun g => { g with open_ := true } }
/-- Loop `l` of engine `e` in a state, with a cause. -/
def loopAt (e l v cause : Nat) (s : State) : State := s.setRegs [(loopKey e l 0, v), (loopKey e l 2, cause)]
/-- Sequencer `q` at the first word of the customer region, which holds this one. -/
def inRegion (q w : Nat) (s : State) : State :=
  { s.modSq q fun x => { x with pc := 0x3800 } with stores := { Store9.initial with image := some ⟨1, 1, [w]⟩ } }
/-- Head 15 FOLLOWING the writing spiral, FOC and TRK CLOSED, beam 0 lit. -/
def tracked (v : Nat) : State :=
  loopAt 15 1 lsClosed 0 (loopAt 15 0 lsClosed 0 ((headAt v).setRegs [(hdKey 15 0x13 3, 0), (hdKey 15 0x16 0x13, 1)]))
/-- It runs an order of code `c` with PARAM `p`, `n` steps begun. -/
def trackedRuns (v c p n : Nat) : State := runsOrder 15 c p n (tracked v)
theorem wrong_field (g : Nat) : piField (if g = 0 then 1 else 0) 0 8 ≠ g := by
  split <;> rename_i h
  · rw [h]; decide
  · exact fun e => h (e.symm.trans (by decide))
/-- A block whose guard is wrong. -/
def badGuard : Block := ⟨7, if crc64 (leBytes 4096 7) = 0 then 1 else 0⟩
theorem wrong_guard {d g : Nat} (h : crc64 (leBytes 4096 d) = g) (type lba : Nat) :
    piCheck type lba ⟨d, if g = 0 then 1 else 0⟩ = .guard :=
  if_pos (show piField (if g = 0 then 1 else 0) 0 8 ≠ crc64 (leBytes 4096 d) from h ▸ wrong_field g)
theorem badGuard_fails (type lba : Nat) : piCheck type lba badGuard = .guard := wrong_guard rfl type lba
/-- One BIST run asked for by the object. -/
def bistAt (kind inst : Nat) (g : BistStage) (again stop : Bool) : State :=
  awake.modBist fun b => { b with runs := [⟨kind, inst, .object, g, 0, again, stop⟩] }
/-- A measurement on engine 23. -/
def measuring (m : Meas) : State := awake.modEng 23 fun g => { g with meas := some m, inj := .measure m.loop }
/-- A pass that does not converge, and one that gives a sector of PSA 9 with its CRC right. -/
def badOut : DecodeOut := ⟨1, [], 1, 0⟩
def goodOut : DecodeOut :=
  let h := leBytes 4 9 ++ List.replicate 40 0
  ⟨0, h ++ leBytes 4 (crc32 h), 1, 0⟩
/-- Head 15's TRK is OPEN at a valid crossing of PP, with the polarity check passed. -/
def crossing (s : State) : State :=
  let g := s.signOf 15 (s.reg (hdKey 15 0x13 3))
  (loopAt 15 1 lsOpen 0 s).modHd 15 fun d =>
    { d with sense := { d.sense with pp1 := g, pp := -g, chk := 2 } }
/-- TRK has been CLOSED for long. -/
def settledAt (s : State) : State := (loopAt 15 1 lsClosed 0 s).modLp 15 1 fun p => { p with age := 10000000 }
def kick : Kick := ⟨1, 0, 0, false, 0, 0, 0, 0, 0, none, false⟩
/-- The sums of a run whose output nothing explains. -/
def loose : List Int := [1, 0, 0, 0, 0, 0, 1, 0, 0, 0, 0, 0, 1, 0, 0, 0, 0, 0, 1, 0, 0, 0, 0, 0, 1]
/-- That volume with its row 0 encoded, column 0 owed some rows, and the master that holds it. -/
def owing (serial : Nat) (owed : List Nat) : Volume :=
  { volume with rows := [(0, 1)], cols := [⟨serial, 15, 0, false, owed, true⟩, ⟨2, 1, 0, true, [], false⟩] }
def rebuilds (x : Volume) : State := { spread 0 with spread := { (spread 0).spread with volumes := [x] } }
/-- One media operation of namespace 15's cluster 0, and a state that holds it. -/
def mediaOp (k : OpKind) (sent : Bool) : MediaOp := ⟨15, 0, k, sent, sent, false, false, none, [], [], false⟩
def withOp (v : Nat) (o : MediaOp) : State := (hosted v 0 1).modGr fun g => { g with ops := [o] }
/-- Head 14 on a Blu-ray Disc, WRITING, its beam 0 lit and a band under way, one line of namespace 15 in Granary. -/
def onBlu (d : Band) (l : Line) : State :=
  (((lined .dirty).modGr fun g => { g with lines := [l] }).setRegs [(stKey 7 0 6, 1), (hdKey 14 0x16 0x13, 1), (hdStKey 14, 5)]).modHd 14
    fun x => { x with band := some d, gates := x.gates.map fun g => { g with open_ := true } }

/-! ### The manual's worked examples, and single steps worked out by hand -/

/-- The example of chapter 10: LBA 0x026C_4E23 lies on layer 2, spiral 2, physical cluster 19,156. -/
theorem test_media_example :
    placeSpiral (ownPlace true 2540770) = 2 * 8 + 2 ∧ placeCluster (ownPlace true 2540770) = 19156 := by decide +kernel
/-- The example of chapter 14: the cluster of that block falls in set 6,121. -/
theorem test_granary_set_example : State.reset.setOf 7 2540770 = 6121 := by decide +kernel
/-- The example of chapter 15: how address 0x1_7E95_3000 decodes. -/
theorem test_hbm_address_example :
    adStack 0x17E953000 = 0 ∧ adChannel 0x17E953000 = 8 ∧ adPseudo 0x17E953000 = 1 ∧ adBank 0x17E953000 = 5
    ∧ adRow 0x17E953000 = 6121 := by decide +kernel
/-- The example of chapter 16: spread LBA 4,500,000 of a volume of 10 + 2 columns; the parities of its row. -/
theorem test_spread_example :
    let v : Volume := ⟨2, 10, 2, 0, 32, [], []⟩
    v.rowOf (4500000 / 16) = (4 * 4000 + 1910, 6) ∧ v.colOf 1910 6 = 8 ∧ v.colOf 1910 10 = 0 ∧ v.colOf 1910 11 = 1 := by
  decide +kernel
/-- The example of chapter 16: the bound of a folded ring at the default budget. -/
theorem test_folded_bound_example : State.reset.rttBound true = 80200 := by decide +kernel
/-- The example of chapter 12: 828 sectors to a band in zone 30. -/
theorem test_band_example :
    (regs [(stKey 5 0xC0 1, 4), (stKey 5 0x10 2, 720000)]).bandLimit 10 (165832 * 18) = 828 := by decide +kernel
/-- The example of chapter 18: of 21 crossings in a second, 17 are stored, the last with SUPPRESSED 4. -/
theorem test_ledger_example :
    let s := (List.range 21).foldl (fun s n => State.note { s with now := 50000 * n } 0x0505 0x20 []) State.reset
    s.ledger.sram.length = 17 ∧ s.ledger.sram.getLast?.map (·.suppressed) = some 4 := by decide +kernel
/-- The example of chapter 2: FUSE_MAP and product code of an SX7-4NQ. -/
theorem test_fuse_map_example :
    let s : State := { State.reset with part := ⟨4, false, true, 1⟩ }
    (match s.readObject .inner 0x2000 8, s.readObject .inner 0x1018 2 with
      | .ok a, .ok b => decide (leNat a.2 = 0x0000_00FF_00B0_1E0F ∧ leNat b.2 = 0x5307_0441)
      | _, _ => false) = true := by decide +kernel
/-- R411: multiplying 0x80 by 2 reduces by the polynomial 0x11D. -/
theorem test_gf_reduces : gfTwice 0x80 = 0x1D := by decide
/-- Table 9.1: ADD of 0xFFFF_FFFF and 1 leaves 0, with Z and C set, N and V clear. -/
theorem test_add_wraps :
    (match exec (.add 23 1 2 0) ((ordered 23 1 0 0).modSq 23 fun x => { x with m := [0, 0xFFFFFFFF, 1] ++ List.replicate 13 0 }) with
      | .next t => decide ((t.sq 23).m.take 2 = [0, 0] ∧ (t.sq 23).z ∧ (t.sq 23).c ∧ (t.sq 23).n = false ∧ (t.sq 23).v = false)
      | _ => false) = true := by decide +kernel
/-- Table 9.1: SUB of 1 from 0x8000_0000 overflows and does not borrow. -/
theorem test_sub_overflows :
    (match exec (.sub 23 1 2 0) ((ordered 23 1 0 0).modSq 23 fun x => { x with m := [0, 0x80000000, 1] ++ List.replicate 13 0 }) with
      | .next t => decide ((t.sq 23).m[1]? = some 0x7FFFFFFF ∧ (t.sq 23).v ∧ (t.sq 23).c = false ∧ (t.sq 23).n = false)
      | _ => false) = true := by decide +kernel
/-- R54: a read of WIN_ABORT clears it and WIN_REFUSED. -/
theorem test_win_abort_read_clears :
    (match exec .winAbortRead { up with bar2 := { up.bar2 with winAbort := 0x06020000, winRefused := 3 } } with
      | .next t => decide (t.bar2.winAbort = 0)
      | _ => false) = true := by decide +kernel
/-- R511: with a command in front, the step runs it and leaves the rest of the queue. -/
theorem test_step_takes_front :
    (match step { up with pending := [.heartbeatTimer, .nmtStop] } with
      | .next t => decide (t.pending = [.nmtStop] ∧ t.out.length = 2)
      | _ => false) = true := by decide +kernel
/-- A word spells no command: the table gives no row any bits. -/
theorem test_no_word : decodeTableWord 32 0 = none := by decide

/-- The example of chapter 7: TE_PEAK at 0.40 of full scale and TRK_GUARD at 10.0 % make a limit of 1,036,889. -/
theorem test_guard_example : roundDiv (3355443 * sinTurn 100 2000) (2 ^ 30) = 1036889 := by decide +kernel
/-- The example of chapter 10: two votes against an SSM 6 bits early overrule it; one against one leaves it. -/
theorem test_overruled_example :
    overruling (-6) [some 0, none, some 1] = some 0 ∧ overruling (-6) [some (-6), none, some 1] = none := by decide
/-- R251: a 17th bit, the complement of b8, stands between b8 and b7. -/
theorem test_modulate :
    modulate ((List.range 16).map fun i => i == 7) = (List.range 17).map (fun i => i == 7)
    ∧ modulate (List.replicate 16 false) = (List.range 17).map fun i => i == 8 := by decide
/-- The check value of the CRC that the guard is, from the catalogue of CRCs (outside the manual, log entry 121). -/
theorem test_crc64_check : crc64 ("123456789".toList.map fun c => BitVec.ofNat 8 c.toNat) = 0xAE8B_1486_0A79_9888 := by
  decide +kernel
/-- R264: the rest of a tail cluster is written, and the whole cluster goes to a replacement place. -/
theorem test_tail_is_replaced :
    (let s := ((lined .dirty).modSide 15 fun d => { d with tails := [0] }).modHd 14 fun d => { d with band := some band }
     let t := s.retail 14 15 0
     (t.hd 14).repls = [clusterId 15 0] ∧ (t.side 15).tails = [] ∧ (t.side 15).repl ≠ []) := by decide +kernel

/-! ### Witnesses -/

/-- The hypotheses of ArithmeticMicrowords. -/
theorem test_witness_ArithmeticMicrowords :
    (let s : State := ordered 23 1 0 0; let q : Nat := 23; let d : Nat := 15; let r : Nat := 15;
        s.runsWord q 7 d r 0 = true)
    ∧ (let s : State := ordered 23 1 0 0; let q : Nat := 23; let d : Nat := 15; let r : Nat := 15;
        s.runsWord q 8 d r 0 = true)
    ∧ (let s : State := ordered 23 1 0 0; let q : Nat := 23; let d : Nat := 15; let imm : Nat := 0x3FFFF;
        s.runsWord q 9 d 0 imm = true)
    ∧ (let s : State := ordered 23 1 0 0; let q : Nat := 23; let d : Nat := 15; let r : Nat := 15;
        s.runsWord q 10 d r 0 = true)
    ∧ (let s : State := ordered 23 1 0 0; let q : Nat := 23; let d : Nat := 15; let r : Nat := 15;
        s.runsWord q 11 d r 0 = true)
    ∧ (let s : State := ordered 23 1 0 0; let q : Nat := 23; let d : Nat := 15; let r : Nat := 15;
        s.runsWord q 12 d r 0 = true)
    ∧ (let s : State := ordered 23 1 0 0; let q : Nat := 23; let d : Nat := 15; let imm : Nat := 127;
        s.runsWord q 13 d 0 imm = true ∧ imm < 128)
    ∧ (let s : State := ordered 23 1 0 0; let q : Nat := 23; let d : Nat := 15; let r : Nat := 15;
        s.runsWord q 14 d r 0 = true)
    ∧ (let s : State := ordered 23 1 0 0; let q : Nat := 23; let d : Nat := 15; let r : Nat := 15;
        s.runsWord q 14 d r 1 = true)
    ∧ (let s : State := ordered 23 1 0 0; let q : Nat := 23; let d : Nat := 15; let r : Nat := 15;
        s.runsWord q 15 d r 0 = true)
    ∧ (let s : State := ordered 23 1 0 0; let q : Nat := 23; let d : Nat := 15; let imm : Nat := 0x3FFFF;
        s.runsWord q 16 d 0 imm = true) := by
  refine ⟨?_, ?_, ?_, ?_, ?_, ?_, ?_, ?_, ?_, ?_, ?_⟩ <;> decide +kernel

/-- The hypotheses of ControlMicrowords. -/
theorem test_witness_ControlMicrowords :
    (let s : State := ordered 23 1 0 0; let q : Nat := 23; s.runsWord q 0 0 0 0 = true)
    ∧ (let s : State := ordered 23 1 0 0; let q : Nat := 23; let d : Nat := 15; let imm : Nat := 0x3FFFF;
        s.runsWord q 4 d 0 imm = true)
    ∧ (let s : State := ordered 23 1 0 0; let q : Nat := 23; let d : Nat := 15; let imm : Nat := 0x3FFFF;
        s.runsWord q 5 d 0 imm = true)
    ∧ (let s : State := ordered 23 1 0 0; let q : Nat := 23; let d : Nat := 15; let r : Nat := 15;
        s.runsWord q 6 d r 0 = true)
    ∧ (let s : State := ordered 23 1 0 0; let q : Nat := 23; let d : Nat := 15; s.runsWord q 26 d 0 0 = true)
    ∧ (let s : State := ordered 23 1 0 0; let q : Nat := 23; let imm : Nat := 1 * 2 ^ 14; let x := s.sq q;
        s.runsWord q 1 0 0 imm = true ∧ bitsOf imm 17 14 < 14
          ∧ jumpCond x.z x.n x.c x.v x.ev (bitsOf imm 17 14) = false)
    ∧ (let s : State := ordered 23 1 0 0; let q : Nat := 23; let imm : Nat := 0 * 2 ^ 14 + 0x3FFF; let x := s.sq q;
        s.runsWord q 1 0 0 imm = true ∧ bitsOf imm 17 14 < 14 ∧ jumpCond x.z x.n x.c x.v x.ev (bitsOf imm 17 14) = true
          ∧ ((x.pc < 0x3800 ∨ 0x3800 ≤ imm % 0x4000)))
    ∧ (let s : State := { (ordered 23 1 0 0).modSq 23 (fun x => { x with pc := 0x3800 }) with stores := { Store9.initial with image := some ⟨1, 1, [0x0400_37FF]⟩ } };
        let q : Nat := 23; let imm : Nat := 0x37FF; let x := s.sq q; s.runsWord q 1 0 0 imm = true
          ∧ bitsOf imm 17 14 < 14 ∧ jumpCond x.z x.n x.c x.v x.ev (bitsOf imm 17 14) = true ∧ 0x3800 ≤ x.pc
          ∧ imm % 0x4000 < 0x3800)
    ∧ (let s : State := (ordered 23 1 0 0).modSq 23 fun x => { x with stack := List.replicate 7 0 }; let q : Nat := 23;
        let imm : Nat := 0x3FFF; let x := s.sq q; s.runsWord q 2 0 0 imm = true ∧ imm < 0x4000
          ∧ ((x.pc < 0x3800 ∨ 0x3800 ≤ imm ∨ (0x30 ≤ imm ∧ imm < 0x40))) ∧ x.stack.length < 8)
    ∧ (let s : State := (ordered 23 1 0 0).modSq 23 fun x => { x with stack := List.replicate 8 0 }; let q : Nat := 23;
        let imm : Nat := 0x3FFF; let x := s.sq q; s.runsWord q 2 0 0 imm = true ∧ imm < 0x4000
          ∧ ((x.pc < 0x3800 ∨ 0x3800 ≤ imm ∨ (0x30 ≤ imm ∧ imm < 0x40))) ∧ 8 ≤ x.stack.length)
    ∧ (let s : State := (ordered 23 1 0 0).modSq 23 fun x => { x with stack := [0x3FFF] }; let q : Nat := 23;
        let a := 0x3FFF; let l := ([] : List Nat); let x := s.sq q; s.runsWord q 3 0 0 0 = true ∧ x.stack = a :: l)
    ∧ (let s : State := ordered 23 1 0 0; let q : Nat := 23; let x := s.sq q; s.runsWord q 3 0 0 0 = true
          ∧ x.stack = [])
    ∧ (let s : State := ordered 23 1 0 0; let q : Nat := 23; let imm : Nat := 0x3FFFF; s.runsWord q 24 0 0 imm = true)
    ∧ (let s : State := ordered 23 1 0 0; let q : Nat := 23; let r : Nat := 15; let imm : Nat := 0x5FF;
        s.runsWord q 25 0 r imm = true ∧ waiteReserved q imm = false)
    ∧ (let s : State := ordered 23 1 0 0; let q : Nat := 23; let imm : Nat := 15; s.runsWord q 27 0 0 imm = true
          ∧ imm < 16)
    ∧ (let s : State := (ordered 23 1 0 0).modSq 23 fun x => { x with wait := .time 9 }; let q : Nat := 23; let u := 9;
        let x := s.sq q; x.wait = .time u)
    ∧ (let s : State := (ordered 23 1 0 0).modSq 23 fun x => { x with wait := .cond 1 (some 9) }; let q : Nat := 23;
        let m := 1; let u := 9; let x := s.sq q; x.wait = .cond m (some u))
    ∧ (let s : State := (ordered 23 1 0 0).modSq 23 fun x => { x with wait := .cond 2048 none }; let q : Nat := 23;
        let n : Nat := 11; let m := 2048; let u := (none : Option Nat); let x := s.sq q; x.wait = .cond m u
          ∧ bitOf m n = true) := by
  refine ⟨?_, ?_, ?_, ?_, ?_, ?_, ?_, ?_, ?_, ?_, ?_, ?_, ?_, ?_, ?_, ?_, ?_, ?_⟩ <;> decide +kernel

/-- The hypotheses of SequencerOrders. -/
theorem test_witness_SequencerOrders :
    (let s : State := (ordered 23 1 0 0).modSq 23 fun x => { x with m := List.replicate 16 1 }; let q : Nat := 23;
        let r : Nat := 15; let o := (⟨1, 0, 0, .station⟩ : Order); let x := s.sq q; x.running = some o ∧ x.sub = none
          ∧ s.runsWord q 30 0 r 0 = true)
    ∧ (let s : State := (ordered 23 1 0 0).modSq 23 fun x => { x with m := List.replicate 16 1 }; let q : Nat := 23;
        let r : Nat := 15; let o := (⟨1, 0, 0, .station⟩ : Order); let x := s.sq q; let m := (x.reg r).toNat;
        x.running = some o ∧ x.sub = none ∧ s.runsWord q 31 0 r 0 = true ∧ m ≠ 0)
    ∧ (let s : State := (ordered 23 1 0 0).modSq 23 fun x => { x with m := List.replicate 16 1 }; let q : Nat := 23;
        let imm : Nat := 255; let o := (⟨1, 0, 0, .station⟩ : Order); let x := s.sq q; x.running = some o ∧ x.sub = none
          ∧ s.runsWord q 32 0 0 imm = true ∧ imm < 256)
    ∧ (let s : State := State.reset.modSq 23 fun x => { x with slot := some ⟨0x10, 0, 0, .direct⟩ }; let q : Nat := 23;
        let o := (⟨0x10, 0, 0, .direct⟩ : Order); let x := s.sq q; x.running = none ∧ x.frame = none ∧ x.traps = []
          ∧ x.slot = some o ∧ s.dispatchReject q o.code = none)
    ∧ (let s : State := State.reset.modSq 23 fun x => { x with traps := [(14, 7)] }; let q : Nat := 23; let k := 14;
        let i := 7; let x := s.sq q; x.frame = none ∧ x.nextTrap = some (k, i) ∧ k ≠ 0)
    ∧ (let s : State := State.reset.modSq 23 fun x => { x with frame := some ⟨0, [], false, false, false, false, false, [], .none⟩, pc := 0x37FF };
        let q : Nat := 23; let f : TrapFrame := (⟨0, [], false, false, false, false, false, [], .none⟩ : TrapFrame);
        let x := s.sq q; x.frame = some f ∧ x.pc < 0x3800 ∧ f.wait = .none ∧ s.runsWord q 33 0 0 0 = true)
    ∧ (let s : State := ordered 23 0x30 0 0; let q : Nat := 23; let o := (⟨0x30, 0, 0, .station⟩ : Order);
        let x := s.sq q; x.running = some o ∧ 0x30 ≤ o.code ∧ x.traps = []) := by
  refine ⟨?_, ?_, ?_, ?_, ?_, ?_, ?_⟩ <;> decide +kernel

/-- The hypotheses of ActingMicrowords. -/
theorem test_witness_ActingMicrowords :
    (let s : State := ordered 23 1 0 0; let q : Nat := 23; let d : Nat := 15; let r : Nat := 15;
        let imm : Nat := 0x1002; let x := s.sq q; let v := x.reg r; let from_ := if bitOf imm 17 then v.toNat else imm;
        s.runsWord q 17 d r imm = true ∧ bitOf imm 16 = false
          ∧ (match s.fieldRead (fieldIx q from_) (fieldSub from_) with | some _ => true | _ => false) = true)
    ∧ (let s : State := ordered 23 1 0 0; let q : Nat := 23; let d : Nat := 15; let r : Nat := 15;
        let imm : Nat := 0xFFFF; let x := s.sq q; let v := x.reg r; let from_ := if bitOf imm 17 then v.toNat else imm;
        s.runsWord q 17 d r imm = true ∧ bitOf imm 16 = false ∧ s.fieldRead (fieldIx q from_) (fieldSub from_) = none)
    ∧ (let s : State := (ordered 23 1 0 0).modSq 23 fun x => { x with m := List.replicate 16 600 }; let q : Nat := 23;
        let d : Nat := 15; let r : Nat := 15; let imm : Nat := 0x1201; let x := s.sq q; let v := x.reg r;
        let dst := if bitOf imm 17 then (x.reg d).toNat else imm; s.runsWord q 18 d r imm = true ∧ bitOf imm 16 = false
          ∧ (match s.fieldWrite q (fieldIx q dst) (fieldSub dst) v with | .ok _ => true | _ => false) = true)
    ∧ (let s : State := ordered 23 1 0 0; let q : Nat := 23; let d : Nat := 15; let r : Nat := 15;
        let imm : Nat := 0xFFFF; let x := s.sq q; let v := x.reg r;
        let dst := if bitOf imm 17 then (x.reg d).toNat else imm; s.runsWord q 18 d r imm = true ∧ bitOf imm 16 = false
          ∧ (match s.fieldWrite q (fieldIx q dst) (fieldSub dst) v with | .error _ => true | _ => false) = true)
    ∧ (let s : State := ordered 23 1 0 0; let q : Nat := 23; let d : Nat := 1; let imm : Nat := 4;
        s.runsWord q 19 d 0 imm = true ∧ imm < 5 ∧ imm ≠ 3 ∧ ((s.loopPresent q d = false ∨ (16 ≤ q ∧ d ≠ 0))))
    ∧ (let s : State := ordered 23 1 0 0; let q : Nat := 23; let d : Nat := 0; let imm : Nat := 1;
        s.runsWord q 19 d 0 imm = true ∧ imm < 5 ∧ imm ≠ 3 ∧ s.loopPresent q d = true ∧ ((q < 16 ∨ d = 0))
          ∧ s.shielded q d = false ∧ (match s.loopCommand q d imm with | some _ => true | _ => false) = true)
    ∧ (let s : State := ordered 23 1 0 0; let q : Nat := 23; let d : Nat := 0; let imm : Nat := 4;
        s.runsWord q 19 d 0 imm = true ∧ imm < 5 ∧ imm ≠ 3 ∧ s.loopPresent q d = true ∧ ((q < 16 ∨ d = 0))
          ∧ s.shielded q d = false ∧ s.loopCommand q d imm = none)
    ∧ (let s : State := loopAt 23 0 lsHold 2 (ordered 23 1 0 0); let q : Nat := 23; let d : Nat := 0;
        let imm : Nat := 4; s.runsWord q 19 d 0 imm = true ∧ imm < 5 ∧ imm ≠ 3 ∧ s.loopPresent q d = true
          ∧ ((q < 16 ∨ d = 0)) ∧ s.shielded q d = true ∧ imm = 4)
    ∧ (let s : State := loopAt 23 0 lsHold 2 (ordered 23 1 0 0); let q : Nat := 23; let d : Nat := 0;
        let imm : Nat := 1; s.runsWord q 19 d 0 imm = true ∧ imm < 5 ∧ imm ≠ 3 ∧ s.loopPresent q d = true
          ∧ ((q < 16 ∨ d = 0)) ∧ s.shielded q d = true ∧ imm ≠ 4)
    ∧ (let s : State := ordered 23 1 0 0; let q : Nat := 23; let imm : Nat := 4095; imm < 4096
          ∧ s.runsWord q 20 0 0 imm = true)
    ∧ (let s : State := ordered 23 1 0 0; let q : Nat := 23; let imm : Nat := 4095; let set_ := 131072 + imm; imm < 4096
          ∧ s.runsWord q 20 0 0 set_ = true)
    ∧ (let s : State := headRuns hsFollowing 1 0 0; let q : Nat := 15; let imm : Nat := 255; imm < 256
          ∧ s.runsWord q 21 0 0 imm = true)
    ∧ (let s : State := ordered 23 1 0 0; let q : Nat := 23; let imm : Nat := 255; let set_ := 131072 + imm; imm < 256
          ∧ s.runsWord q 21 0 0 set_ = true ∧ 16 ≤ q)
    ∧ (let s : State := inRegion 15 (microword 21 0 0 0x200FF) (headRuns hsFollowing 1 0 0); let q : Nat := 15;
        let imm : Nat := 255; let x := s.sq q; let set_ := 131072 + imm; imm < 256 ∧ s.runsWord q 21 0 0 set_ = true
          ∧ q < 16 ∧ 0x3800 ≤ x.pc)
    ∧ (let s : State := headRuns hsTracking 1 0 0; let q : Nat := 15; let imm : Nat := 255; let x := s.sq q;
        let set_ := 131072 + imm; let bs := bitsIn 8 imm;
        let going := (s.substate q == hsFollowing || s.substate q == hsWriting) && s.pilotOk q && !(s.hd q).inhibited && !s.tiltWait q && s.loopState q 0 == lsClosed && s.loopState q 1 == lsClosed && (bs.all fun b => s.canWrite q b);
        imm < 256 ∧ s.runsWord q 21 0 0 set_ = true ∧ q < 16 ∧ x.pc < 0x3800 ∧ going = false)
    ∧ (let s : State := trackedRuns hsFollowing 1 0 0; let q : Nat := 15; let imm : Nat := 1; let x := s.sq q;
        let set_ := 131072 + imm; let bs := bitsIn 8 imm;
        let going := (s.substate q == hsFollowing || s.substate q == hsWriting) && s.pilotOk q && !(s.hd q).inhibited && !s.tiltWait q && s.loopState q 0 == lsClosed && s.loopState q 1 == lsClosed && (bs.all fun b => s.canWrite q b);
        imm < 256 ∧ s.runsWord q 21 0 0 set_ = true ∧ q < 16 ∧ x.pc < 0x3800 ∧ going = true)
    ∧ (let s : State := headRuns hsFollowing 1 0 0; let q : Nat := 15; let imm : Nat := 255; imm < 256
          ∧ s.runsWord q 22 0 0 imm = true)
    ∧ (let s : State := ordered 23 1 0 0; let q : Nat := 23; let imm : Nat := 255; let set_ := 131072 + imm; imm < 256
          ∧ s.runsWord q 22 0 0 set_ = true ∧ 16 ≤ q)
    ∧ (let s : State := (headRuns hsFollowing 1 0 0).setReg (setKey 15 11 3) 0; let q : Nat := 15; let imm : Nat := 255;
        let set_ := 131072 + imm; let bs := bitsIn 8 imm; let lit := bs.filter (· < s.beams); imm < 256
          ∧ s.runsWord q 22 0 0 set_ = true ∧ q < 16 ∧ (lit.any fun b => s.noGain q (4 + b)) = true)
    ∧ (let s : State := { headRuns hsFollowing 1 0 0 with pins := { State.reset.pins with ilkOpen := 255 } };
        let q : Nat := 15; let imm : Nat := 255; let set_ := 131072 + imm; let bs := bitsIn 8 imm;
        let lit := bs.filter (· < s.beams); imm < 256 ∧ s.runsWord q 22 0 0 set_ = true ∧ q < 16
          ∧ (lit.any fun b => s.noGain q (4 + b)) = false
          ∧ ((s.ilkOpen (q / 2) = true ∨ s.power.latched = true ∨ s.power.resetLow = true)))
    ∧ (let s : State := { headRuns hsFollowing 1 0 0 with pins := { State.reset.pins with ilkOpen := 0 } };
        let q : Nat := 15; let imm : Nat := 255; let set_ := 131072 + imm; let bs := bitsIn 8 imm;
        let lit := bs.filter (· < s.beams); imm < 256 ∧ s.runsWord q 22 0 0 set_ = true ∧ q < 16
          ∧ (lit.any fun b => s.noGain q (4 + b)) = false ∧ s.ilkOpen (q / 2) = false ∧ s.power.latched = false
          ∧ s.power.resetLow = false)
    ∧ (let s : State := headRuns hsFollowing 1 0 0; let q : Nat := 15; let r : Nat := 15; let imm : Nat := 15;
        let x := s.sq q; 1 ≤ imm ∧ imm ≤ 15 ∧ s.runsWord q 23 0 r imm = true ∧ q < 16 ∧ ((x.pc < 0x3800 ∨ imm = 1)))
    ∧ (let s : State := inRegion 15 (microword 23 0 15 15) (headRuns hsFollowing 1 0 0); let q : Nat := 15;
        let r : Nat := 15; let imm : Nat := 15; let x := s.sq q; 1 ≤ imm ∧ imm ≤ 15 ∧ s.runsWord q 23 0 r imm = true
          ∧ q < 16 ∧ 0x3800 ≤ x.pc ∧ imm ≠ 1)
    ∧ (let s : State := ordered 23 1 0 0; let q : Nat := 23; let r : Nat := 15; let imm : Nat := 15; 1 ≤ imm ∧ imm ≤ 15
          ∧ s.runsWord q 23 0 r imm = true ∧ 16 ≤ q)
    ∧ (let s : State := ((headRuns hsFollowing 1 0 0).setRegs [(sledKey 15 0x1C, 1)]).modSq 15 fun x => { x with m := List.replicate 16 24000 };
        let q : Nat := 15; let d : Nat := 0; let r : Nat := 15; let x := s.sq q; let v := x.reg r;
        s.runsWord q 28 d r 0 = true ∧ q < 16 ∧ d = 0 ∧ s.reg (sledKey q 0x1C) = 1
          ∧ s.sledReach q (v.toInt * 1000) = true)
    ∧ (let s : State := headRuns hsFollowing 1 0 0; let q : Nat := 15; let d : Nat := 0; let r : Nat := 15;
        let x := s.sq q; let v := x.reg r; s.runsWord q 28 d r 0 = true ∧ q < 16 ∧ d = 0
          ∧ ((s.reg (sledKey q 0x1C) ≠ 1 ∨ s.sledReach q (v.toInt * 1000) = false)))
    ∧ (let s : State := ordered 23 1 0 0; let q : Nat := 23; let d : Nat := 2; let r : Nat := 15;
        s.runsWord q 28 d r 0 = true ∧ (((q < 16 ∧ d ≠ 0) ∨ (16 ≤ q ∧ 1 < d))))
    ∧ (let s : State := ordered 23 1 0 0; let q : Nat := 23; let d : Nat := 0; let r : Nat := 15; let x := s.sq q;
        let v := x.reg r; s.runsWord q 28 d r 0 = true ∧ 16 ≤ q ∧ d = 0 ∧ v.toNat < 65536)
    ∧ (let s : State := (ordered 23 1 0 0).modSq 23 fun x => { x with m := List.replicate 16 65536 }; let q : Nat := 23;
        let d : Nat := 0; let r : Nat := 15; let x := s.sq q; let v := x.reg r; s.runsWord q 28 d r 0 = true ∧ 16 ≤ q
          ∧ d = 0 ∧ 65536 ≤ v.toNat)
    ∧ (let s : State := ordered 23 1 0 0; let q : Nat := 23; let d : Nat := 1; let r : Nat := 15; let x := s.sq q;
        let v := x.reg r; let st := engStation q; s.runsWord q 28 d r 0 = true ∧ 16 ≤ q ∧ d = 1 ∧ v.toInt ≥ 0
          ∧ v.toNat ≤ s.reg (clampKey st 0x0A) ∧ s.spinState st = 0)
    ∧ (let s : State := (ordered 23 1 0 0).modSq 23 fun x => { x with m := List.replicate 16 0xFFFFFFFF };
        let q : Nat := 23; let d : Nat := 1; let r : Nat := 15; let x := s.sq q; let v := x.reg r;
        let st := engStation q; s.runsWord q 28 d r 0 = true ∧ 16 ≤ q ∧ d = 1
          ∧ ((v.toInt < 0 ∨ s.reg (clampKey st 0x0A) < v.toNat ∨ s.spinState st ≠ 0)))
    ∧ (let s : State := ordered 23 1 0 0; let q : Nat := 23; let r : Nat := 15; let imm : Nat := 0xFFFF; imm < 65536
          ∧ s.runsWord q 29 0 r imm = true) := by
  refine ⟨?_, ?_, ?_, ?_, ?_, ?_, ?_, ?_, ?_, ?_, ?_, ?_, ?_, ?_, ?_, ?_, ?_, ?_, ?_, ?_, ?_, ?_, ?_, ?_, ?_, ?_, ?_, ?_, ?_, ?_, ?_, ?_⟩ <;> decide +kernel

/-- The hypotheses of ControlStores. -/
theorem test_witness_ControlStores :
    (let s : State := { State.reset with stores := { Store9.initial with loaded := [7] } }; let st : Nat := 7;
        s.stores.loaded.contains st = true) := by decide +kernel

/-- The hypotheses of SdoTransfers. -/
theorem test_witness_SdoTransfers :
    (let s : State := up; let bus : Nat := 1; let usdo : Bool := true; let brs : Bool := false; let i : Nat := 0x1017;
        let sub : Nat := 0; let d := Door.sdo bus usdo; let u := s.setChan bus usdo .idle;
        let small := if usdo then 56 else 4; s.sdoServed bus = true ∧ s.frameOk usdo brs = true
          ∧ (match u.readObject d i sub with | .ok (o, b) => decide (b.length ≤ small) | _ => false) = true)
    ∧ (let s : State := up; let bus : Nat := 0; let usdo : Bool := false; let brs : Bool := false;
        let i : Nat := 0x1008; let sub : Nat := 0; let d := Door.sdo bus usdo; let u := s.setChan bus usdo .idle;
        let small := if usdo then 56 else 4; s.sdoServed bus = true ∧ s.frameOk usdo brs = true
          ∧ (match u.readObject d i sub with | .ok (o, b) => decide (small < b.length ∧ u.snapshotHeld bus i sub = false) | _ => false) = true)
    ∧ (let s : State := { (up.endResult 0x304E [] 0).setRaw (key 0x304E 11) (List.replicate 768 0) with can := { up.can with channels := [.idle, .upload 0x304E 11 [] false, .idle, .idle] } };
        let bus : Nat := 0; let usdo : Bool := false; let brs : Bool := false; let i : Nat := 0x304E;
        let sub : Nat := 11; let d := Door.sdo bus usdo; let u := s.setChan bus usdo .idle;
        let small := if usdo then 56 else 4; s.sdoServed bus = true ∧ s.frameOk usdo brs = true
          ∧ (match u.readObject d i sub with | .ok (o, b) => decide (small < b.length ∧ u.snapshotHeld bus i sub = true) | _ => false) = true)
    ∧ (let s : State := up; let bus : Nat := 1; let usdo : Bool := true; let brs : Bool := false; let i : Nat := 0x1017;
        let sub : Nat := 1; let d := Door.sdo bus usdo; let u := s.setChan bus usdo .idle; s.sdoServed bus = true
          ∧ s.frameOk usdo brs = true ∧ (match u.readObject d i sub with | .error _ => true | _ => false) = true)
    ∧ (let s : State := up; let bus : Nat := 1; let usdo : Bool := true; let brs : Bool := false; let i : Nat := 0x1017;
        let sub : Nat := 0; let w : World := World.plain; let b := [100, 0]; let d := Door.sdo bus usdo;
        let u := s.setChan bus usdo .idle; s.sdoServed bus = true ∧ s.frameOk usdo brs = true
          ∧ (match u.take d i sub b w with | .ok ⟨_, true⟩ => true | _ => false) = true)
    ∧ (let s : State := up; let bus : Nat := 1; let usdo : Bool := true; let brs : Bool := false; let i : Nat := 0x3000;
        let sub : Nat := 9; let w : World := World.plain; let b := [1]; let d := Door.sdo bus usdo;
        let u := s.setChan bus usdo .idle; s.sdoServed bus = true ∧ s.frameOk usdo brs = true
          ∧ (match u.take d i sub b w with | .ok ⟨_, false⟩ => true | _ => false) = true)
    ∧ (let s : State := up; let bus : Nat := 1; let usdo : Bool := true; let brs : Bool := false; let i : Nat := 0x1000;
        let sub : Nat := 0; let w : World := World.plain; let b := ([] : List Byte); let d := Door.sdo bus usdo;
        let u := s.setChan bus usdo .idle; s.sdoServed bus = true ∧ s.frameOk usdo brs = true
          ∧ (match u.take d i sub b w with | .error _ => true | _ => false) = true)
    ∧ (let s : State := up; let bus : Nat := 1; let usdo : Bool := true; let brs : Bool := false; let i : Nat := 0x4803;
        let sub : Nat := 2; let total := 8; let u := s.setChan bus usdo .idle; s.sdoServed bus = true
          ∧ s.frameOk usdo brs = true ∧ u.openCheck i sub (if total = 0 then none else some total) = 0)
    ∧ (let s : State := up; let bus : Nat := 1; let usdo : Bool := true; let brs : Bool := false; let i : Nat := 0x4803;
        let sub : Nat := 2; let total := 9; let u := s.setChan bus usdo .idle; s.sdoServed bus = true
          ∧ s.frameOk usdo brs = true ∧ (let a := u.openCheck i sub (if total = 0 then none else some total); a ≠ 0))
    ∧ (let s : State := up; let bus : Nat := 1; let usdo : Bool := true; let brs : Bool := false; s.sdoServed bus = true
          ∧ s.frameOk usdo brs = true)
    ∧ (let s : State := up.setChan 1 true (.upload 0x1008 0 (List.replicate 56 0) true); let bus : Nat := 1;
        let usdo : Bool := true; let brs : Bool := false;
        let n := if usdo then 56 else 7; s.sdoServed bus = true ∧ s.frameOk usdo brs = true
          ∧ (match s.chan bus usdo with | .upload i sub rest t => decide (rest.length ≤ n) | _ => false) = true)
    ∧ (let s : State := up.setChan 1 true (.upload 0x1008 0 (List.replicate 57 0) true); let bus : Nat := 1;
        let usdo : Bool := true; let brs : Bool := false;
        let n := if usdo then 56 else 7; s.sdoServed bus = true ∧ s.frameOk usdo brs = true
          ∧ (match s.chan bus usdo with | .upload i sub rest t => decide (n < rest.length) | _ => false) = true)
    ∧ (let s : State := up.setChan 1 true (.upload 0x1008 0 (List.replicate 57 0) true); let bus : Nat := 1;
        let usdo : Bool := true; let brs : Bool := false;
        s.sdoServed bus = true ∧ s.frameOk usdo brs = true
          ∧ (match s.chan bus usdo with | .upload i sub _ _ => true | _ => false) = true)
    ∧ (let s : State := up.setChan 1 true (.download 0x1017 0 [] 0 true); let bus : Nat := 1; let usdo : Bool := true;
        let brs : Bool := false; s.sdoServed bus = true
          ∧ s.frameOk usdo brs = true
          ∧ (match s.chan bus usdo with | .download i sub _ _ _ => true | _ => false) = true)
    ∧ (let s : State := up.setChan 1 true (.download 0x1017 0 [] 0 true); let bus : Nat := 1; let usdo : Bool := true;
        let brs : Bool := false; s.sdoServed bus = true
          ∧ s.frameOk usdo brs = true
          ∧ (match s.chan bus usdo with | .download i sub _ _ _ => true | _ => false) = true)
    ∧ (let s : State := up.setChan 1 true (.download 0x1017 0 [] 2 true); let bus : Nat := 1; let usdo : Bool := true;
        let brs : Bool := false; let w : World := World.plain;
        let b := [100, 0]; let d := Door.sdo bus usdo; let u := s.setChan bus usdo .idle; s.sdoServed bus = true
          ∧ s.frameOk usdo brs = true
          ∧ (match s.chan bus usdo with | .download i sub got total t => decide (((total = 0 ∨ (got ++ b).length = total)) ∧ (match u.take d i sub (got ++ b) w with | .ok ⟨_, true⟩ => true | _ => false) = true) | _ => false) = true)
    ∧ (let s : State := up.setChan 1 true (.download 0x1017 0 [] 2 true); let bus : Nat := 1; let usdo : Bool := true;
        let brs : Bool := false; let b := [100, 0, 0]; s.sdoServed bus = true
          ∧ s.frameOk usdo brs = true
          ∧ (match s.chan bus usdo with | .download i sub got total t => decide (total ≠ 0 ∧ (got ++ b).length ≠ total) | _ => false) = true)
    ∧ (let s : State := up; let bus : Nat := 1; let usdo : Bool := true; let brs : Bool := false; s.sdoServed bus = true
          ∧ s.frameOk usdo brs = true)
    ∧ (let s : State := up.setChan 1 true (.download 0x1017 0 [] 2 true); let bus : Nat := 1; let usdo : Bool := true;
        let brs : Bool := false; s.sdoServed bus = true ∧ s.frameOk usdo brs = true ∧ s.chan bus usdo ≠ .idle)
    ∧ (let s : State := (up.setChan 1 true (.download 0x1017 0 [] 2 true)).setBus 1 .busOff; let bus : Nat := 1;
        let usdo : Bool := true; s.sdoServed bus = false ∧ s.chan bus usdo ≠ .idle) := by
  refine ⟨?_, ?_, ?_, ?_, ?_, ?_, ?_, ?_, ?_, ?_, ?_, ?_, ?_, ?_, ?_, ?_, ?_, ?_, ?_, ?_⟩ <;> decide +kernel

/-- The hypotheses of NetworkManagement. -/
theorem test_witness_NetworkManagement :
    (let s : State := up; s.can.booted = true)
    ∧ (let s : State := up; s.can.booted = true)
    ∧ (let s : State := up; s.can.booted = true)
    ∧ (let s : State := up; s.can.booted = true)
    ∧ (let s : State := up; s.can.booted = true ∧ s.reg (key 0x1017 0) ≠ 0)
    ∧ (let s : State := { up with can := { up.can with emcyInhibit := true } }; s.can.booted = true
          ∧ s.can.emcyInhibit = true) := by
  refine ⟨?_, ?_, ?_, ?_, ?_, ?_⟩ <;> decide +kernel

/-- The hypotheses of HeartbeatTimeout. -/
theorem test_witness_HeartbeatTimeout :
    (let s : State := { up with can := { up.can with consumers := [true, true, true, true] } }; let j : Nat := 4; 1 ≤ j
          ∧ s.can.consumers.getD (j - 1) false = true) := by decide +kernel

/-- The hypotheses of ProcessData. -/
theorem test_witness_ProcessData :
    (let s : State := up.setRegs [(key 0x1407 1, 0x57F), (key 0x1407 2, 241)]; let bus : Nat := 1; let n : Nat := 7;
        let b : List Byte := [1]; let brs : Bool := false; let p := s.pdo n;
        let again := s.can.mode = 0 ∧ p.lastBus ≠ bus + 1 ∧ p.lastBus ≠ 0 ∧ s.now < p.lastAt + s.reg (key 0x1017 0) * 1000;
        let served := s.pdoServed bus = true ∧ s.rpdoOn n = true ∧ s.frameOk (brs || decide (8 < b.length)) brs = true;
        served ∧ ¬ again ∧ 240 < s.reg (key (0x1400 + n) 2))
    ∧ (let s : State := up.setRegs [(key 0x1407 1, 0x57F), (key 0x1407 2, 240)]; let bus : Nat := 1; let n : Nat := 7;
        let b : List Byte := [1]; let brs : Bool := false; let p := s.pdo n;
        let again := s.can.mode = 0 ∧ p.lastBus ≠ bus + 1 ∧ p.lastBus ≠ 0 ∧ s.now < p.lastAt + s.reg (key 0x1017 0) * 1000;
        let served := s.pdoServed bus = true ∧ s.rpdoOn n = true ∧ s.frameOk (brs || decide (8 < b.length)) brs = true;
        served ∧ ¬ again ∧ s.reg (key (0x1400 + n) 2) ≤ 240)
    ∧ (let s : State := ({ up with now := 99999 }.setRegs [(key 0x1407 1, 0x57F)]).modPdo 7 fun p => { p with lastBus := 1 };
        let bus : Nat := 1; let n : Nat := 7; let b : List Byte := [1]; let brs : Bool := false; let p := s.pdo n;
        let again := s.can.mode = 0 ∧ p.lastBus ≠ bus + 1 ∧ p.lastBus ≠ 0 ∧ s.now < p.lastAt + s.reg (key 0x1017 0) * 1000;
        let served := s.pdoServed bus = true ∧ s.rpdoOn n = true ∧ s.frameOk (brs || decide (8 < b.length)) brs = true;
        served ∧ again)
    ∧ (let s : State := up.setRegs [(key 0x1607 0, 1), (key 0x1607 1, 0x10170010)]; let n : Nat := 7;
        let b : List Byte := [1]; 8 * b.length < ((s.rpdoEntries n).map (· % 256)).sum)
    ∧ (let s : State := up.setRegs [(key 0x1607 0, 1), (key 0x1607 1, 0x10170010)]; let bus : Nat := 1;
        let n : Nat := 7; let b : List Byte := [100, 0]; ((s.rpdoEntries n).map (· % 256)).sum ≤ 8 * b.length
          ∧ (match s.rpdoApply bus n (rpdoWrites (s.rpdoEntries n) b) with | .ok _ => true | _ => false) = true)
    ∧ (let s : State := up.setRegs [(key 0x1607 0, 1), (key 0x1607 1, 0x10170010)]; let bus : Nat := 1;
        let n : Nat := 7; let b : List Byte := [1, 0]; ((s.rpdoEntries n).map (· % 256)).sum ≤ 8 * b.length
          ∧ (match s.rpdoApply bus n (rpdoWrites (s.rpdoEntries n) b) with | .error _ => true | _ => false) = true)
    ∧ (let s : State := up; let bus : Nat := 1; s.pdoServed bus = true)
    ∧ (let s : State := up.setRegs [(key 0x1807 1, 0x57F), (key 0x1807 5, 1)]; let n : Nat := 7; let p := s.pdo n;
        s.reg (key (0x1800 + n) 5) ≠ 0 ∧ 254 ≤ s.tpdoType n ∧ s.can.nmt = .operational ∧ s.tpdoOn n = true
          ∧ p.inhibit = false)
    ∧ (let s : State := (up.setRegs [(key 0x1807 1, 0x57F), (key 0x1807 5, 1)]).modPdo 7 fun p => { p with inhibit := true };
        let n : Nat := 7; let p := s.pdo n; s.reg (key (0x1800 + n) 5) ≠ 0 ∧ 254 ≤ s.tpdoType n
          ∧ s.can.nmt = .operational ∧ s.tpdoOn n = true ∧ p.inhibit = true)
    ∧ (let s : State := up.modPdo 7 fun p => { p with inhibit := true, pending := true }; let n : Nat := 7;
        let p := s.pdo n; p.inhibit = true ∧ p.pending = true ∧ 254 ≤ s.tpdoType n)
    ∧ (let s : State := up; let n : Nat := 7; let p := s.pdo n; p.pending = false) := by
  refine ⟨?_, ?_, ?_, ?_, ?_, ?_, ?_, ?_, ?_, ?_, ?_⟩ <;> decide +kernel

/-- The hypotheses of CanControllers. -/
theorem test_witness_CanControllers :
    (let s : State := up; let bus : Nat := 1; s.busUp bus = true ∧ s.power.dark = false)
    ∧ (let s : State := up.setBus 1 .busOff; let bus : Nat := 1; s.busState bus = .busOff)
    ∧ (let s : State := up; let bus : Nat := 1; s.busState bus = .active ∧ s.power.dark = false)
    ∧ (let s : State := up.setBus 1 .passive; let bus : Nat := 1; s.busState bus = .passive ∧ s.power.dark = false)
    ∧ (let s : State := up; s.can.booted = true)
    ∧ (let s : State := up.setReg (key 0x1003 0) 16; let d := Door.sdo 1 true;
        (match s.admitted d 0x1003 0 0 with | some _ => true | _ => false) = true) := by
  refine ⟨?_, ?_, ?_, ?_, ?_, ?_⟩ <;> decide +kernel

/-- The hypotheses of StoresAndWakes. -/
theorem test_witness_StoresAndWakes :
    (let s : State := { up with nor := { up.nor with store := some ⟨.inner, 0x1011, 4, [], []⟩ } };
        let x : Store := (⟨.inner, 0x1011, 4, [], []⟩ : Store); s.nor.store = some x ∧ s.nor.erasing = false)
    ∧ (let x : Store := (⟨.inner, 0x1011, 4, [], []⟩ : Store); x.ix = 0x1011)
    ∧ (let s : State := up.setReg (key 0x2102 96) 2; let d : Nat := 95; s.domState d = 2 ∧ s.power.lowering = false)
    ∧ (let s : State := up.modPower fun p => { p with tempWakes := [95] }; let d : Nat := 95;
        s.power.tempWakes.contains d = true ∧ s.wakeInUse d = false) := by
  refine ⟨?_, ?_, ?_, ?_⟩ <;> decide +kernel

/-- The hypotheses of WritesThroughDoors. -/
theorem test_witness_WritesThroughDoors :
    (let s : State := up; let d : Door := Door.sdo 1 true; let i : Nat := 0x1017; let sub : Nat := 0;
        let v : Val := .num 2 100; let w : World := World.plain;
        (match s.opened d i sub (valBytes v) with | some u => decide ((match u.take d i sub (valBytes v) w with | .ok ⟨_, true⟩ => true | _ => false) = true) | _ => false) = true)
    ∧ (let s : State := up; let d : Door := .inner; let i : Nat := 0x1010; let sub : Nat := 4;
        let v : Val := .num 4 0x65766173; let w : World := World.plain;
        (match s.opened d i sub (valBytes v) with | some u => decide ((match u.take d i sub (valBytes v) w with | .ok ⟨_, false⟩ => true | _ => false) = true) | _ => false) = true)
    ∧ (let s : State := up; let d : Door := .inner; let i : Nat := 0x1017; let sub : Nat := 0; let v : Val := .num 2 9;
        let w : World := World.plain;
        (match s.opened d i sub (valBytes v) with | some u => decide ((match u.take d i sub (valBytes v) w with | .error _ => true | _ => false) = true) | _ => false) = true)
    ∧ (let s : State := up; let d : Door := .inner; let i : Nat := 0x1017; let sub : Nat := 0; let v : Val := .num 2 9;
        (match s.opened d i sub (valBytes v) with | some _ => true | _ => false) = true)
    ∧ (let s : State := up; let d : Door := .inner; let i : Nat := 0x3700; let sub : Nat := 9; let v : Val := .num 1 1;
        (match s.opened d i sub (valBytes v) with | some u => decide ((match u.staticCheck i sub (valBytes v) with | .ok o => decide (i ≠ 0x1010 ∧ i ≠ 0x1011 ∧ u.ownerOn i (leNat (valBytes v)) = false ∧ u.powerState = psRun ∧ u.power.latched = false) | _ => false) = true) | _ => false) = true)
    ∧ (let s : State := up.setRegs [(key 0x2100 1, psHearth), (key 0x2100 0x0D, 0)]; let d : Door := .inner;
        let i : Nat := 0x3700; let sub : Nat := 9; let v : Val := .num 1 1;
        (match s.opened d i sub (valBytes v) with | some u => decide ((match u.staticCheck i sub (valBytes v) with | .ok o => decide (i ≠ 0x1010 ∧ i ≠ 0x1011 ∧ u.ownerOn i (leNat (valBytes v)) = false ∧ u.powerState ≠ psRun ∧ u.powerState ≠ psBoot ∧ u.mayWake = true ∧ u.on16 = false ∧ u.held = false) | _ => false) = true) | _ => false) = true)
    ∧ (let s : State := up.setBus 1 .busOff; let bus : Nat := 1; s.sdoServed bus = false)
    ∧ (let s : State := up.setBus 1 .busOff; let bus : Nat := 1; s.pdoServed bus = false)
    ∧ (let s : State := State.reset.modPower fun p => { p with dark := true }; s.windowOn = false)
    ∧ (let s : State := up.modPower fun p => { p with dark := true }; s.power.dark = true) := by
  refine ⟨?_, ?_, ?_, ?_, ?_, ?_, ?_, ?_, ?_, ?_⟩ <;> decide +kernel

/-- The hypotheses of StationCommands. -/
theorem test_witness_StationCommands :
    (let s : State := awake; let d : Door := .sdo 1 true; let st := 7;
        (match s.admitted d (stIx st 1) (1) (1) with | some u => decide (st < 8 ∧ u.stState st = stOff) | _ => false) = true)
    ∧ (let s : State := station 1; let d : Door := .sdo 1 true; let st := 7;
        (match s.admitted d (stIx st 1) (1) (1) with | some u => decide (st < 8 ∧ u.stState st ≠ stOff ∧ u.stState st ≠ stFault) | _ => false) = true)
    ∧ (let s : State := awake; let d : Door := .sdo 1 true; let st := 7; let target := 4; let strobe := 11;
        (match s.admitted d (stIx st 1) (1) (2 + target * 256 + strobe * 4096) with | some u => decide (st < 8 ∧ 2 ≤ target ∧ target ≤ 4 ∧ strobe < 16 ∧ u.strobeRefused strobe = 0 ∧ loadRow (u.stState st) target = some false) | _ => false) = true)
    ∧ (let s : State := station 4; let d : Door := .sdo 1 true; let st := 7; let target := 4; let strobe := 11;
        (match s.admitted d (stIx st 1) (1) (2 + target * 256 + strobe * 4096) with | some u => decide (st < 8 ∧ 2 ≤ target ∧ target ≤ 4 ∧ strobe < 16 ∧ u.strobeRefused strobe = 0 ∧ loadRow (u.stState st) target = some true) | _ => false) = true)
    ∧ (let s : State := station 2; let d : Door := .sdo 1 true; let st := 7; let f := true;
        (match s.admitted d (stIx st 1) (1) (3 + (if f then 65536 else 0)) with | some u => decide (st < 8 ∧ stClamped ≤ u.stState st ∧ u.stState st ≤ stActive) | _ => false) = true)
    ∧ (let s : State := station 7; let d : Door := .sdo 1 true; let st := 7; let f := true;
        (match s.admitted d (stIx st 1) (1) (3 + (if f then 65536 else 0)) with | some u => decide (st < 8 ∧ u.stState st = stFault ∧ u.below30 st = true ∧ u.reg (stKey st 0x22 12) ≠ 6) | _ => false) = true)
    ∧ (let s : State := station 1; let d : Door := .sdo 1 true; let st := 7; let f := true;
        (match s.admitted d (stIx st 1) (1) (3 + (if f then 65536 else 0)) with | some u => decide (st < 8 ∧ u.stState st = stEmpty) | _ => false) = true)
    ∧ (let s : State := station 3; let d : Door := .sdo 1 true; let st := 7; let f := true;
        (match s.admitted d (stIx st 1) (1) (4 + (if f then 65536 else 0)) with | some u => decide (st < 8 ∧ stSpinning ≤ u.stState st ∧ u.stState st ≤ stActive) | _ => false) = true)
    ∧ (let s : State := station 2; let d : Door := .sdo 1 true; let st := 7; let f := true;
        (match s.admitted d (stIx st 1) (1) (4 + (if f then 65536 else 0)) with | some u => decide (st < 8 ∧ u.stState st = stClamped) | _ => false) = true)
    ∧ (let s : State := station 7; let d : Door := .sdo 1 true; let st := 7;
        (match s.admitted d (stIx st 1) (1) (5) with | some u => decide (st < 8 ∧ ((u.stState st = stEmpty ∨ u.stState st = stClamped ∨ (u.stState st = stFault ∧ u.below30 st = true)))) | _ => false) = true)
    ∧ (let s : State := awake; let d : Door := .sdo 1 true; let st := 7;
        (match s.admitted d (stIx st 1) (1) (5) with | some u => decide (st < 8 ∧ u.stState st = stOff) | _ => false) = true)
    ∧ (let s : State := station 1; let d : Door := .sdo 1 true; let st := 7;
        (match s.admitted d (stIx st 1) (1) (6) with | some u => decide (st < 8 ∧ stEmpty ≤ u.stState st ∧ u.stState st ≤ stActive) | _ => false) = true)
    ∧ (let s : State := station 6; let d : Door := .sdo 1 true; let st := 7;
        (match s.admitted d (stIx st 1) (1) (6) with | some u => decide (st < 8 ∧ u.stState st = stMaint) | _ => false) = true)
    ∧ (let s : State := station 6; let d : Door := .sdo 1 true; let st := 7;
        (match s.admitted d (stIx st 1) (1) (7) with | some u => decide (st < 8 ∧ u.stState st = stMaint) | _ => false) = true)
    ∧ (let s : State := station 7; let d : Door := .sdo 1 true; let st := 7;
        (match s.admitted d (stIx st 1) (1) (8) with | some u => decide (st < 8 ∧ u.stState st = stFault ∧ u.below30 st = true) | _ => false) = true) := by
  refine ⟨?_, ?_, ?_, ?_, ?_, ?_, ?_, ?_, ?_, ?_, ?_, ?_, ?_, ?_, ?_⟩ <;> decide +kernel

/-- The hypotheses of StationWrites. -/
theorem test_witness_StationWrites :
    (let s : State := awake.modStn 7 fun t => { t with cmd := some ⟨2, 4, 3, false, [.spinUp], 0, false, 0, false⟩ };
        let d : Door := .inner; let st := 7;
        (match s.admitted d (stIx st 0) (14) (1) with | some u => decide (st < 8 ∧ (match (u.stn st).cmd with | some c => decide (u.stFlag st 5 = false ∧ u.stFlag st 6 = false ∧ ((c.taken = false ∨ c.strobe = 0 ∨ c.steps.head? ≠ some .spinUp))) | _ => false) = true) | _ => false) = true)
    ∧ (let s : State := awake.modStn 7 fun t => { t with cmd := some ⟨2, 4, 3, false, [.spinUp], 0, false, 0, true⟩ };
        let d : Door := .inner; let st := 7;
        (match s.admitted d (stIx st 0) (14) (1) with | some u => decide (st < 8 ∧ (match (u.stn st).cmd with | some c => decide (((u.stFlag st 5 = true ∨ u.stFlag st 6 = true ∨ (c.taken = true ∧ c.strobe ≠ 0 ∧ c.steps.head? = some .spinUp)))) | _ => false) = true) | _ => false) = true)
    ∧ (let s : State := awake; let d : Door := .inner; let st := 7;
        (match s.admitted d (stIx st 0) (14) (1) with | some u => decide (st < 8 ∧ (u.stn st).cmd = none) | _ => false) = true)
    ∧ (let s : State := awake; let d : Door := .inner; let st := 7; let mask := 254;
        (match s.admitted d (stIx st 2) (1) (mask) with | some u => decide (st < 8 ∧ mask < 256 ∧ mask % 2 = 0) | _ => false) = true)
    ∧ (let s : State := awake; let d : Door := .inner; let st := 7; let mask := 3840;
        (match s.admitted d (stIx st 2) (2) (mask) with | some u => decide (st < 8 ∧ mask < 4096 ∧ mask % 256 = 0) | _ => false) = true)
    ∧ (let s : State := station 6; let d : Door := .inner; let st := 7; let v := 0xFFFFB23F;
        (match s.admitted d (stIx st 3) (1) (v) with | some u => decide (st < 8 ∧ v % 256 ≤ 63 ∧ bitsOf v 9 8 ≠ 3 ∧ u.strobeRefused (bitsOf v 15 12) = 0 ∧ v % 256 ≠ 6 ∧ ((u.stState st = stMaint ∨ (v % 256 = 0x0B ∧ u.stState st = stReady))) ∧ u.slotHeld (seqOf st (bitsOf v 9 8)) = false) | _ => false) = true)
    ∧ (let s : State := station 5; let d : Door := .inner; let st := 7; let v := 0x0000000B;
        (match s.admitted d (stIx st 3) (1) (v) with | some u => decide (st < 8 ∧ v % 256 ≤ 63 ∧ bitsOf v 9 8 ≠ 3 ∧ u.strobeRefused (bitsOf v 15 12) = 0 ∧ v % 256 = 0x0B ∧ u.stState st = stActive ∧ u.slotHeld (seqOf st (bitsOf v 9 8)) = false) | _ => false) = true)
    ∧ (let s : State := station 6; let d : Door := .inner; let st := 7; let v := 6;
        (match s.admitted d (stIx st 3) (1) (v) with | some u => decide (st < 8 ∧ v % 256 ≤ 63 ∧ bitsOf v 9 8 ≠ 3 ∧ u.strobeRefused (bitsOf v 15 12) = 0 ∧ v % 256 = 6 ∧ u.stState st = stMaint ∧ ((u.sq (seqOf st (bitsOf v 9 8))).slot.any fun o => o.origin.prio ≤ 2) = false) | _ => false) = true)
    ∧ (let s : State := awake; let d : Door := .inner; let st := 7; let rpm := 600;
        (match s.admitted d (stIx st 18) (1) (rpm) with | some u => decide (st < 8) | _ => false) = true)
    ∧ (let s : State := awake; let d : Door := .inner; let st := 7;
        (match s.admitted d (stIx st 196) (1) (1) with | some u => decide (st < 8) | _ => false) = true)
    ∧ (let s : State := station 7; let d : Door := .inner; let st := 7; let v := 0x10004;
        (match s.admitted d (stIx st 226) (1) (v) with | some u => decide (st < 8 ∧ 1 ≤ v % 256 ∧ v % 256 ≤ 4 ∧ ((u.stState st = stEmpty ∨ u.stState st = stClamped ∨ (u.stState st = stFault ∧ u.below30 st = true))) ∧ (u.stn st).wiring = none ∧ u.hasOrder (16 + st) 24 = false ∧ ((bitOf v 16 = false ∨ u.tokensFree ((bitsIn 3 (scopeParts (v % 256))).map (partToken st)) = true))) | _ => false) = true) := by
  refine ⟨?_, ?_, ?_, ?_, ?_, ?_, ?_, ?_, ?_, ?_, ?_⟩ <;> decide +kernel

/-- The hypotheses of LoopWrites. -/
theorem test_witness_LoopWrites :
    (let s : State := (station 6).setReg (key (engIx 23 0) (3 + loopCount 23)) 1; let d : Door := .inner; let e := 23;
        let l := 2;
        (match s.admitted d (engIx e 0) (1 + l + loopCount e) (0) with | some u => decide (e < 24 ∧ l < loopCount e ∧ u.stState (engStation e) = stMaint) | _ => false) = true)
    ∧ (let s : State := station 6; let d : Door := .inner; let e := 15; let l := 11;
        (match s.admitted d (engIx e 0) (1 + l + loopCount e) (1) with | some u => decide (e < 24 ∧ l < loopCount e ∧ u.stState (engStation e) = stMaint) | _ => false) = true)
    ∧ (let s : State := loopAt 23 2 4 0 (station 6); let d : Door := .inner; let e := 23; let l := 2;
        (match s.admitted d (engIx e 0) (1 + l + loopCount e) (3) with | some u => decide (e < 24 ∧ l < loopCount e ∧ u.stState (engStation e) = stMaint ∧ ((u.loopState e l = lsClosed ∨ u.loopState e l = lsHold))) | _ => false) = true)
    ∧ (let s : State := loopAt 15 11 lsOpen 0 ((station 6).setRegs [(setKey 15 11 3, 1), (hdKey 15 0x16 0x13, 128)]);
        let d : Door := .inner; let e := 15; let l := 11;
        (match s.admitted d (engIx e 0) (1 + l + loopCount e) (4) with | some u => decide (e < 24 ∧ l < loopCount e ∧ u.stState (engStation e) = stMaint ∧ ((u.loopState e l = lsOpen ∨ u.loopState e l = lsSearch)) ∧ u.mayClose e l = true) | _ => false) = true)
    ∧ (let s : State := loopAt 23 2 lsHold 2 (station 6); let d : Door := .inner; let e := 23; let l := 2;
        (match s.admitted d (engIx e 0) (1 + l + loopCount e) (4) with | some u => decide (e < 24 ∧ l < loopCount e ∧ u.stState (engStation e) = stMaint ∧ u.loopState e l = lsHold) | _ => false) = true)
    ∧ (let s : State := loopAt 23 2 lsClosed 0 (station 6); let d : Door := .inner; let e := 23; let l := 2;
        (match s.admitted d (engIx e 0) (1 + l + loopCount e) (4) with | some u => decide (e < 24 ∧ l < loopCount e ∧ u.stState (engStation e) = stMaint ∧ u.loopState e l = lsClosed) | _ => false) = true)
    ∧ (let s : State := station 6; let d : Door := .inner; let e := 23;
        (match s.admitted d (engIx e 6) (50) (1) with | some u => decide (e < 24 ∧ ((setLoops e (u.reg (engKey e 6 49))).any fun l => u.loopState e l == lsSearch || (u.loopState e l == lsHold && bitOf (u.holdCause e l) hcLathe)) = false ∧ (isHead e && u.substate e == hsWriting) = false ∧ u.stagedOk e = true) | _ => false) = true)
    ∧ (let s : State := loopAt 23 0 lsOpen 0 (station 6); let d : Door := .inner; let e := 23;
        (match s.admitted d (engIx e 11) (1) (1) with | some u => decide (e < 24 ∧ u.injFrequency e = true ∧ u.stState (engStation e) = stMaint ∧ (((u.eng e).inj = .free ∨ (u.eng e).inj = .dict)) ∧ ((u.loopState e (u.reg (engKey e 11 2)) = lsOpen ∨ u.loopState e (u.reg (engKey e 11 2)) = lsClosed))) | _ => false) = true)
    ∧ (let s : State := (station 6).setReg (engKey 23 11 1) 1; let d : Door := .inner; let e := 23;
        (match s.admitted d (engIx e 11) (1) (0) with | some u => decide (e < 24) | _ => false) = true)
    ∧ (let s : State := station 6; let d : Door := .inner; let e := 23;
        (match s.admitted d (engIx e 12) (1) (1) with | some u => decide (e < 24) | _ => false) = true)
    ∧ (let s : State := station 4; let d : Door := .sdo 0 false; let e := 23; let v := 2 + 64 * 256 + 4 * 65536;
        (match s.admitted d (engIx e 14) (1) (v) with | some u => decide (e < 24 ∧ d ≠ .inner ∧ u.loopPresent e (v % 16) = true ∧ ((bitsOf v 23 16 = 0 ∨ 4 ≤ bitsOf v 23 16)) ∧ ((bitsOf v 15 8 = 0 ∨ (8 ≤ bitsOf v 15 8 ∧ bitsOf v 15 8 ≤ 64))) ∧ ((u.stState (engStation e) = stReady ∨ u.stState (engStation e) = stMaint))) | _ => false) = true)
    ∧ (let s : State := station 5; let d : Door := .sdo 0 false; let e := 23; let v := 0 + 8 * 256 + 255 * 65536;
        (match s.admitted d (engIx e 14) (1) (v) with | some u => decide (e < 24 ∧ d ≠ .inner ∧ u.loopPresent e (v % 16) = true ∧ ((bitsOf v 23 16 = 0 ∨ 4 ≤ bitsOf v 23 16)) ∧ ((bitsOf v 15 8 = 0 ∨ (8 ≤ bitsOf v 15 8 ∧ bitsOf v 15 8 ≤ 64))) ∧ u.stState (engStation e) = stActive) | _ => false) = true)
    ∧ (let s : State := station 6; let d : Door := .inner; let hd := 15;
        (match s.admitted d (chIx hd 13) (1) (1) with | some u => decide (hd < 16 ∧ (u.ring.filter fun f => f.h == hd && f.b == u.reg (chKey hd 12 2) && f.psa == u.reg (chKey hd 12 1)).getLast? = none) | _ => false) = true)
    ∧ (let s : State := { (station 6).setRegs [(chKey 15 12 1, 9), (chKey 15 12 2, 7)] with ring := [⟨15, 7, 0, 9, 0, 0, 0, 0, 0, [], [1]⟩] };
        let d : Door := .inner; let hd := 15;
        (match s.admitted d (chIx hd 13) (1) (1) with | some u => decide (hd < 16 ∧ (match (u.ring.filter fun f => f.h == hd && f.b == u.reg (chKey hd 12 2) && f.psa == u.reg (chKey hd 12 1)).getLast? with | some _ => true | _ => false) = true) | _ => false) = true) := by
  refine ⟨?_, ?_, ?_, ?_, ?_, ?_, ?_, ?_, ?_, ?_, ?_, ?_, ?_, ?_⟩ <;> decide +kernel

/-- The hypotheses of DeviceWrites. -/
theorem test_witness_DeviceWrites :
    (let s : State := up; let d : Door := .inner;
        (match s.admitted d (0x2100) (2) (1) with | some u => decide (u.powerState = psRun ∧ ((List.range u.part.stations).all fun i => u.stState i == stOff) = true ∧ u.anyDirty = false ∧ u.enabledCtrls = 0 ∧ u.power.latched = false) | _ => false) = true)
    ∧ (let s : State := up.setRegs [(key 0x2100 1, 2), (key 0x2100 13, 0)]; let d : Door := .inner;
        (match s.admitted d (0x2100) (2) (2) with | some u => decide (u.mayWake = true ∧ u.on16 = false ∧ u.held = false) | _ => false) = true)
    ∧ (let s : State := up.setRegs [(key 0x2100 1, 5), (key 0x2100 13, 0), (key 0x2100 7, 0)]; let d : Door := .inner;
        (match s.admitted d (0x2100) (2) (3) with | some u => decide (u.powerState = psFailed ∧ u.on16 = false ∧ u.rails = 0 ∧ u.power.lowering = false ∧ u.held = false) | _ => false) = true)
    ∧ (let s : State := up; let d : Door := .inner;
        (match s.admitted d (0x2200) (6) (1) with | some _ => true | _ => false) = true)
    ∧ (let s : State := up; let d : Door := .inner;
        (match s.admitted d (0x2200) (9) (1) with | some u => decide (u.reg (key 0x2200 9) ≠ 1) | _ => false) = true)
    ∧ (let s : State := up.setReg (key 0x2200 9) 1; let d : Door := .inner;
        (match s.admitted d (0x2200) (9) (0) with | some u => decide (u.reg (key 0x2200 9) ≠ 0) | _ => false) = true)
    ∧ (let s : State := up; let d : Door := .inner; let v := 7;
        (match s.admitted d (0x2201) (1) (v) with | some _ => true | _ => false) = true)
    ∧ (let s : State := up; let d : Door := .inner;
        (match s.admitted d (0x2201) (4) (1) with | some _ => true | _ => false) = true)
    ∧ (let s : State := up; let d : Door := .inner; let v := 7;
        (match s.admitted d (0x2300) (1) (v) with | some u => decide (u.following = false) | _ => false) = true)
    ∧ (let s : State := awake; let d : Door := .inner;
        (match s.admitted d (0x4403) (1) (1) with | some u => decide (((nsSpread (u.reg (key 0x4402 1)) = true ∨ u.line (u.reg (key 0x4402 1)) (u.reg (key 0x4402 2) % 1099511627776) = none))) | _ => false) = true)
    ∧ (let s : State := ((awake.setRegs [(key 0x4402 1, 15), (key 0x4402 2, 0)]).modGr fun g => { g with lines := [line .dirty] });
        let d : Door := .inner; let l := line .dirty;
        (match s.admitted d (0x4403) (1) (1) with | some u => decide (nsSpread (u.reg (key 0x4402 1)) = false ∧ u.line (u.reg (key 0x4402 1)) (u.reg (key 0x4402 2) % 1099511627776) = some l) | _ => false) = true)
    ∧ (let s : State := awake; let d : Door := .inner;
        (match s.admitted d (0x4603) (1) (1) with | some _ => true | _ => false) = true)
    ∧ (let s : State := awake; let d : Door := .inner;
        (match s.admitted d (0x4800) (1) (1) with | some u => decide (u.reg (ringKey 1) ≠ 1) | _ => false) = true)
    ∧ (let s : State := awake.setReg (ringKey 1) 1; let d : Door := .inner;
        (match s.admitted d (0x4800) (1) (0) with | some u => decide (u.reg (ringKey 1) ≠ 0 ∧ (u.nvme.namespaces.any fun n => nsSpread n.nsid) = false) | _ => false) = true)
    ∧ (let s : State := master.setReg (key 0x4803 2) 1000000000; let d : Door := .inner;
        (match s.admitted d (0x4803) (3) (1) with | some u => decide (u.isMaster = true ∧ u.ringTime + 1000 * u.reg (ringKey 12) ≤ u.reg (key 0x4803 2)) | _ => false) = true)
    ∧ (let s : State := up; let d : Door := .inner; let i := 64; let v := 0x03010007;
        (match s.admitted d (0x5801) (i) (v) with | some u => decide (v % 65536 < 8 ∧ ((v % 65536 < 4 ∨ (codeDefined (v / 65536) = true ∧ (u.overrides.any fun p => p.1 != i && p.2 / 65536 == v / 65536) = false ∧ (bitOf v 0 = true ∨ (severityOf (v / 65536) < 3 ∧ v / 65536 ≠ 0x0204 ∧ v / 65536 ≠ 0x0C01 ∧ v / 65536 ≠ 0x0C02 ∧ v / 65536 / 256 ≠ 0x0B)))))) | _ => false) = true) := by
  refine ⟨?_, ?_, ?_, ?_, ?_, ?_, ?_, ?_, ?_, ?_, ?_, ?_, ?_, ?_, ?_, ?_⟩ <;> decide +kernel

/-- The hypotheses of SecurityWrites. -/
theorem test_witness_SecurityWrites :
    (let s : State := awake.setReg (key 0x5020 4) 1; let d : Door := .inner;
        (match s.admitted d (0x4600) (13) (1) with | some u => decide (u.authorised = true) | _ => false) = true)
    ∧ (let s : State := awake.setReg (key 0x5020 4) 1; let d : Door := .inner;
        (match s.admitted d (0x4603) (1) (2) with | some u => decide (u.authorised = true) | _ => false) = true)
    ∧ (let s : State := ({ master with fabric := { master.fabric with roster := [⟨2, 0, 0, 8, false, true, true⟩, ⟨3, 0, 0, 8, false, true, true⟩] } }).setRaw (key 0x4A02 0) ([0, 1, 1, 0, 1, 0, 0, 0, 2] ++ List.replicate 7 0 ++ [1] ++ List.replicate 15 0 ++ [3] ++ List.replicate 7 0 ++ [1] ++ List.replicate 15 0);
        let d : Door := .inner; let v := 0x0001; let far := 0;
        (match s.admitted d (0x4A01) (1) (v) with | some u => decide (v % 256 = 1 ∧ u.isMaster = true ∧ u.volume (v / 256 % 256) = none ∧ u.createCode { volumeOf (u.raw (key 0x4A02 0)) with v := (v / 256 % 256) } far = 0) | _ => false) = true)
    ∧ (let s : State := master; let d : Door := .inner; let v := 0xFF01; let far := 0;
        (match s.admitted d (0x4A01) (1) (v) with | some u => decide (v % 256 = 1 ∧ u.isMaster = true ∧ u.volume (v / 256 % 256) = none ∧ (let c := u.createCode { volumeOf (u.raw (key 0x4A02 0)) with v := (v / 256 % 256) } far; c ≠ 0)) | _ => false) = true)
    ∧ (let s : State := { master with spread := { master.spread with volumes := [⟨0, 1, 1, 0, 1, [], []⟩] } };
        let d : Door := .inner; let v := 2;
        (match s.admitted d (0x4A01) (1) (v) with | some u => decide (v % 256 = 2 ∧ u.isMaster = true ∧ (match u.volume (v / 256 % 256) with | some x => decide ((u.spread.staged.any fun l => l.nsid == 256 + (v / 256 % 256)) = false) | _ => false) = true) | _ => false) = true)
    ∧ (let s : State := ({ master with fabric := { master.fabric with roster := [⟨2, 0, 0, 8, false, true, true⟩, ⟨3, 0, 0, 8, false, true, true⟩] }, spread := { master.spread with volumes := [⟨0, 1, 1, 0, 1, [⟨2, 1, 0, true, [], false⟩, ⟨9, 1, 0, true, [], false⟩], []⟩] } }).setRaw (key 0x4A02 0) ([0, 1, 1, 0, 1, 0, 0, 0, 2] ++ List.replicate 7 0 ++ [1] ++ List.replicate 15 0 ++ [3] ++ List.replicate 7 0 ++ [1] ++ List.replicate 15 0);
        let d : Door := .inner; let v := 3 + 65536; let far := false;
        (match s.admitted d (0x4A01) (1) (v) with | some u => decide (v % 256 = 3 ∧ u.isMaster = true ∧ (match u.volume (v / 256 % 256) with | some x => decide ((match x.cols[v / 65536 % 256]? with | some old => decide ((match (volumeOf (u.raw (key 0x4A02 0))).cols[v / 65536 % 256]? with | some c => decide (u.colUp old = false ∧ ((x.cols.eraseIdx (v / 65536 % 256)).map (·.serial)).contains c.serial = false ∧ (u.fabric.roster.any fun e => e.serial == c.serial) = true ∧ (if c.serial = u.serial then !u.zonesEmpty c x.zones else far) = false ∧ u.zonesClaimed c x.zones = false) | _ => false) = true) | _ => false) = true) | _ => false) = true) | _ => false) = true)
    ∧ (let s : State := up.setReg (key 0x5000 1) 2; let d : Door := .inner;
        (match s.admitted d (0x5002) (1) (1) with | some u => decide (u.lc = lcProvisioned ∧ u.keyFused = false ∧ (u.sec.interrupted.any fun p => p.1 == lcField && 0 < p.2) = false) | _ => false) = true)
    ∧ (let s : State := up.setReg (key 0x5000 1) 2; let d : Door := .inner;
        (match s.admitted d (0x5002) (1) (1) with | some u => decide (u.lc = lcProvisioned ∧ u.keyFused = false ∧ (u.sec.interrupted.any fun p => p.1 == lcField && 0 < p.2) = false) | _ => false) = true)
    ∧ (let s : State := awake.setSecFlag 1 true; let d : Door := .inner;
        (match s.admitted d (0x5011) (1) (1) with | some u => decide (u.lcOwned = true ∧ u.identityValid = true) | _ => false) = true)
    ∧ (let s : State := awake; let d : Door := .inner;
        (match s.admitted d (0x5011) (1) (1) with | some u => decide (u.lcOwned = true ∧ u.identityValid = false) | _ => false) = true)
    ∧ (let s : State := awake.setReg (key 0x5020 4) 1; let d : Door := .inner;
        (match s.admitted d (0x5020) (6) (1) with | some _ => true | _ => false) = true)
    ∧ (let s : State := awake; let d : Door := .inner;
        (match s.admitted d (0x5401) (1) (1) with | some u => decide (((u.lc = lcProvisioned ∨ u.lc = lcField)) ∧ ((List.range u.part.stations).all fun i => (u.stState i ≤ stClamped || u.stState i == stFault) && !u.busy (stIx i 1)) = true) | _ => false) = true)
    ∧ (let s : State := awake.setReg (key 0x5020 4) 1; let d : Door := .inner;
        (match s.admitted d (0x5401) (1) (2) with | some u => decide (u.authorised = true ∧ ((List.range u.part.stations).all fun i => (u.stState i ≤ stClamped || u.stState i == stFault) && !u.busy (stIx i 1)) = true) | _ => false) = true)
    ∧ (let s : State := up.setReg (key 0x5000 1) 2; let d : Door := .inner; let v := 0x4C43_0003;
        (match s.admitted d (0x5001) (1) (v) with | some u => decide (v / 65536 = 0x4C43 ∧ v / 256 % 256 = 0 ∧ u.power.latched = false ∧ ((List.range u.part.stations).any fun i => stSpinning ≤ u.stState i && u.stState i ≤ stActive) = false ∧ u.anyDirty = false ∧ u.enabledCtrls = 0 ∧ u.transitionMet (v % 256) = true ∧ u.authState = 0 ∧ u.sec.interrupted = []) | _ => false) = true)
    ∧ (let s : State := up.setReg (key 0x5000 1) 3; let d : Door := .inner; let v := 0x4C43_0003;
        (match s.admitted d (0x5001) (1) (v) with | some u => decide (v / 65536 = 0x4C43 ∧ v / 256 % 256 = 0 ∧ u.power.latched = false ∧ ((List.range u.part.stations).any fun i => stSpinning ≤ u.stState i && u.stState i ≤ stActive) = false ∧ u.anyDirty = false ∧ u.enabledCtrls = 0 ∧ u.transitionMet (v % 256) = false) | _ => false) = true)
    ∧ (let s : State := up.setReg (key 0x2100 1) 4; let d : Door := .inner;
        (match s.admitted d (0x5031) (1) (1) with | some u => decide (u.powerState = psRecovery) | _ => false) = true)
    ∧ (let s : State := awake.setReg (key 0x5020 4) 1; let d : Door := .inner;
        (match s.admitted d (0x2200) (13) (1) with | some u => decide (u.authorised = true ∧ u.power.latched = false ∧ u.reg (key 0x2200 9) ≠ 1 ∧ u.ledger.clearing = []) | _ => false) = true) := by
  refine ⟨?_, ?_, ?_, ?_, ?_, ?_, ?_, ?_, ?_, ?_, ?_, ?_, ?_, ?_, ?_, ?_, ?_⟩ <;> decide +kernel

/-- The hypotheses of MaintenanceRequests. -/
theorem test_witness_MaintenanceRequests :
    (let s : State := awake; let d : Door := .inner; let sub := 4;
        (match s.opened d 0x1010 sub (numberBytes 0x1010 sub 0x65766173) with | some u => decide ((match u.staticCheck 0x1010 sub (numberBytes 0x1010 sub 0x65766173) with | .ok o => decide (1 ≤ sub ∧ sub ≤ 4 ∧ u.power.latched = false ∧ u.nor.store = none) | _ => false) = true) | _ => false) = true)
    ∧ (let s : State := awake; let d : Door := .inner; let sub := 1;
        (match s.opened d 0x1011 sub (numberBytes 0x1011 sub 0x64616F6C) with | some u => decide ((match u.staticCheck 0x1011 sub (numberBytes 0x1011 sub 0x64616F6C) with | .ok o => decide (1 ≤ sub ∧ sub ≤ 4 ∧ u.power.latched = false ∧ u.nor.store = none) | _ => false) = true) | _ => false) = true)
    ∧ (let s : State := { awake with arb := [⟨.cal 1 15, [15], 0, true⟩] }; let d : Door := .sdo 1 true; let n := 15;
        (match s.admitted d 0x2441 1 (65537 + 256 * n) with | some u => decide (n < 16 ∧ u.stationPresent (n / 2) = true ∧ u.powerState = psRun ∧ u.reg (calKey 2) ≠ 1 ∧ u.tokensFree (calTokens 1 n) = false) | _ => false) = true)
    ∧ (let s : State := { station 0 with arb := [⟨.bist 1 7, [39], 0, true⟩] }; let d : Door := .sdo 1 true; let n := 7;
        (match s.admitted d 0x2501 1 (65537 + 256 * n) with | some u => decide (n < 8 ∧ u.partPresent 1 n = true ∧ u.bistMay 1 n = true ∧ u.tokensFree (u.tokensOf 1 n) = false) | _ => false) = true)
    ∧ (let s : State := awake; let d : Door := .inner; let v := 1 + 256 * 15; let n := 15;
        (match s.admitted d (0x2441) (1) (v) with | some u => decide (v % 256 = 1 ∧ bitsOf v 15 8 = n ∧ n < 16 ∧ u.stationPresent (n / 2) = true ∧ u.powerState = psRun ∧ u.reg (calKey 2) ≠ 1 ∧ ((bitOf v 16 = false ∨ u.tokensFree (calTokens 1 n) = true))) | _ => false) = true)
    ∧ (let s : State := awake; let d : Door := .inner; let v := 2 + 256 * 15; let n := 15;
        (match s.admitted d (0x2441) (1) (v) with | some u => decide (v % 256 = 2 ∧ bitsOf v 15 8 = n ∧ n < 16 ∧ u.stationPresent (n / 2) = true ∧ u.powerState = psRun ∧ u.reg (calKey 2) ≠ 1 ∧ ((bitOf v 16 = false ∨ u.tokensFree (calTokens 2 n) = true))) | _ => false) = true)
    ∧ (let s : State := awake; let d : Door := .inner; let v := 3 + 256 * 7; let n := 7;
        (match s.admitted d (0x2441) (1) (v) with | some u => decide (v % 256 = 3 ∧ bitsOf v 15 8 = n ∧ n < 8 ∧ u.stationPresent (n) = true ∧ u.powerState = psRun ∧ u.reg (calKey 2) ≠ 1 ∧ ((bitOf v 16 = false ∨ u.tokensFree (calTokens 3 n) = true))) | _ => false) = true)
    ∧ (let s : State := station 0; let d : Door := .inner; let v := 1 + 256 * 7 + 65536; let n := 7;
        (match s.admitted d (0x2501) (1) (v) with | some u => decide (v % 256 = 1 ∧ bitsOf v 15 8 = n ∧ n < partLimit 1 ∧ u.partPresent 1 n = true ∧ u.bistMay 1 n = true ∧ u.bistRun 1 n = none ∧ ((bitOf v 16 = false ∨ u.tokensFree (u.tokensOf 1 n) = true))) | _ => false) = true)
    ∧ (let s : State := station 0; let d : Door := .inner; let v := 2 + 256 * 7; let n := 7;
        (match s.admitted d (0x2501) (1) (v) with | some u => decide (v % 256 = 2 ∧ bitsOf v 15 8 = n ∧ n < partLimit 2 ∧ u.partPresent 2 n = true ∧ u.bistMay 2 n = true ∧ u.bistRun 2 n = none ∧ ((bitOf v 16 = false ∨ u.tokensFree (u.tokensOf 2 n) = true))) | _ => false) = true)
    ∧ (let s : State := station 0; let d : Door := .inner; let v := 3 + 256 * 15; let n := 15;
        (match s.admitted d (0x2501) (1) (v) with | some u => decide (v % 256 = 3 ∧ bitsOf v 15 8 = n ∧ n < partLimit 3 ∧ u.partPresent 3 n = true ∧ u.bistMay 3 n = true ∧ u.bistRun 3 n = none ∧ ((bitOf v 16 = false ∨ u.tokensFree (u.tokensOf 3 n) = true))) | _ => false) = true)
    ∧ (let s : State := station 0; let d : Door := .inner; let v := 4 + 256 * 15; let n := 15;
        (match s.admitted d (0x2501) (1) (v) with | some u => decide (v % 256 = 4 ∧ bitsOf v 15 8 = n ∧ n < partLimit 4 ∧ u.partPresent 4 n = true ∧ u.bistMay 4 n = true ∧ u.bistRun 4 n = none ∧ ((bitOf v 16 = false ∨ u.tokensFree (u.tokensOf 4 n) = true))) | _ => false) = true)
    ∧ (let s : State := station 0; let d : Door := .inner; let v := 5 + 256 * 23; let n := 23;
        (match s.admitted d (0x2501) (1) (v) with | some u => decide (v % 256 = 5 ∧ bitsOf v 15 8 = n ∧ n < partLimit 5 ∧ u.partPresent 5 n = true ∧ u.bistMay 5 n = true ∧ u.bistRun 5 n = none ∧ ((bitOf v 16 = false ∨ u.tokensFree (u.tokensOf 5 n) = true))) | _ => false) = true)
    ∧ (let s : State := station 0; let d : Door := .inner; let v := 6 + 256 * 63; let n := 63;
        (match s.admitted d (0x2501) (1) (v) with | some u => decide (v % 256 = 6 ∧ bitsOf v 15 8 = n ∧ n < partLimit 6 ∧ u.partPresent 6 n = true ∧ u.bistMay 6 n = true ∧ u.bistRun 6 n = none ∧ ((bitOf v 16 = false ∨ u.tokensFree (u.tokensOf 6 n) = true))) | _ => false) = true)
    ∧ (let s : State := station 0; let d : Door := .inner; let v := 7 + 256 * 1; let n := 1;
        (match s.admitted d (0x2501) (1) (v) with | some u => decide (v % 256 = 7 ∧ bitsOf v 15 8 = n ∧ n < partLimit 7 ∧ u.partPresent 7 n = true ∧ u.bistMay 7 n = true ∧ u.bistRun 7 n = none ∧ ((bitOf v 16 = false ∨ u.tokensFree (u.tokensOf 7 n) = true))) | _ => false) = true)
    ∧ (let s : State := awake.setReg (key 0x5000 1) 4; let d : Door := .inner; let v := 8; let n := 0;
        (match s.admitted d (0x2501) (1) (v) with | some u => decide (v % 256 = 8 ∧ bitsOf v 15 8 = n ∧ n < partLimit 8 ∧ u.partPresent 8 n = true ∧ u.bistMay 8 n = true ∧ u.bistRun 8 n = none ∧ ((bitOf v 16 = false ∨ u.tokensFree (u.tokensOf 8 n) = true))) | _ => false) = true) := by
  refine ⟨?_, ?_, ?_, ?_, ?_, ?_, ?_, ?_, ?_, ?_, ?_, ?_, ?_, ?_, ?_⟩ <;> decide +kernel

/-- The hypotheses of SecurityResponses. -/
theorem test_witness_SecurityResponses :
    (let s : State := awake; let d : Door := .inner; let b : List Byte := List.replicate 5261 0;
        (match s.admittedRaw d 0x5020 3 b with | some u => decide (u.lcOwned = true ∧ u.sec.lockUntil = none ∧ u.keyFused = false) | _ => false) = true)
    ∧ (let s : State := awake.setReg (key 0x5000 1) 4; let d : Door := .inner;
        let b : List Byte := List.replicate 5261 0;
        (match s.admittedRaw d 0x5040 2 b with | some u => decide (u.lc = lcReturn) | _ => false) = true)
    ∧ (let s : State := awake.setReg (key 0x5000 1) 1; let d : Door := .inner;
        let b : List Byte := List.replicate 5261 0;
        (match s.admittedRaw d 0x5040 2 b with | some u => decide (u.lc ≠ lcReturn) | _ => false) = true)
    ∧ (let s : State := awake; let d : Door := .inner; let b : List Byte := [0];
        (match s.admittedRaw d 0x5012 3 b with | some u => decide (u.lcOwned = true ∧ u.raw (key 0x5012 3) = []) | _ => false) = true)
    ∧ (let s : State := (awake.setReg (key 0x5020 4) 1).setRaw (key 0x5012 3) [1]; let d : Door := .inner;
        let b : List Byte := [0];
        (match s.admittedRaw d 0x5012 3 b with | some u => decide (u.lcOwned = true ∧ u.raw (key 0x5012 3) ≠ [] ∧ u.authorised = true) | _ => false) = true) := by
  refine ⟨?_, ?_, ?_, ?_, ?_⟩ <;> decide +kernel

/-- The hypotheses of SegmentedWindow. -/
theorem test_witness_SegmentedWindow :
    (let s : State := { up with bar2 := { up.bar2 with segObject := 0x1008 } }; let b := s.bar2;
        let i := b.segObject % 65536; let sub := bitsOf b.segObject 23 16; s.windowOn = true ∧ b.busyOrOpen = false
          ∧ (match s.readObject .seg i sub with | .ok (_, _) => true | _ => false) = true)
    ∧ (let s : State := up; let b := s.bar2; let i := b.segObject % 65536; let sub := bitsOf b.segObject 23 16;
        s.windowOn = true ∧ b.busyOrOpen = false
          ∧ (match s.readObject .seg i sub with | .error _ => true | _ => false) = true)
    ∧ (let s : State := { up with bar2 := { up.bar2 with state := .busy } }; let b := s.bar2; s.windowOn = true
          ∧ b.busyOrOpen = true)
    ∧ (let s : State := { up with bar2 := { up.bar2 with segObject := 0x022100, segLength := 1 } }; let b := s.bar2;
        let i := b.segObject % 65536; let sub := bitsOf b.segObject 23 16; s.windowOn = true ∧ b.busyOrOpen = false
          ∧ (match s.lookup i sub with | .ok o => decide (s.objAbsent i sub = false ∧ o.acc ≠ .const ∧ o.acc ≠ .ro ∧ lengthCheck o i sub b.segLength = 0 ∧ s.segmentHeld i sub = false ∧ ((i ≠ 0x5012 ∨ s.raw (key 0x5012 3) = [] ∨ s.authorised = true))) | _ => false) = true)
    ∧ (let s : State := { up with bar2 := { up.bar2 with segObject := 0x022100, segLength := 2 } }; let a := 0x06070012;
        let b := s.bar2; let i := b.segObject % 65536; let sub := bitsOf b.segObject 23 16; s.windowOn = true
          ∧ b.busyOrOpen = false ∧ s.openCheck i sub (some b.segLength) = a ∧ a ≠ 0)
    ∧ (let s : State := { up with bar2 := { up.bar2 with state := .openWrite } }; let b := s.bar2; s.windowOn = true
          ∧ b.state = .openWrite)
    ∧ (let s : State := up; let b := s.bar2; s.windowOn = true ∧ b.state ≠ .openWrite)
    ∧ (let s : State := { up with bar2 := { up.bar2 with state := .busy, result := some 0 } }; let a := 0;
        let b := s.bar2; b.state = .busy ∧ b.result = some a)
    ∧ (let s : State := up; let b := s.bar2; s.windowOn = true ∧ b.state ≠ .busy)
    ∧ (let s : State := { up with bar2 := { up.bar2 with state := .busy } }; let b := s.bar2; s.windowOn = true
          ∧ b.state = .busy)
    ∧ (let s : State := up; let v : Nat := 4294967292; s.windowOn = true ∧ v % 4 = 0)
    ∧ (let s : State := up; let v : Nat := 4294967295; s.windowOn = true ∧ v % 4 ≠ 0)
    ∧ (let s : State := { up with bar2 := { up.bar2 with state := .openRead } }; let b := s.bar2;
        ((b.state = .openRead ∨ b.state = .openWrite)))
    ∧ (let s : State := up; s.windowOn = true)
    ∧ (let s : State := up; s.windowOn = true)
    ∧ (let s : State := up; s.windowOn = true)
    ∧ (let s : State := { up with bar2 := { up.bar2 with state := .openWrite, segOffset := 0xFFFFFF00 } };
        let off : Nat := 0x1FC; let b := s.bar2; s.windowOn = true ∧ b.state = .openWrite ∧ 0x100 ≤ off ∧ off < 0x200
          ∧ off % 4 = 0) := by
  refine ⟨?_, ?_, ?_, ?_, ?_, ?_, ?_, ?_, ?_, ?_, ?_, ?_, ?_, ?_, ?_, ?_, ?_⟩ <;> decide +kernel

/-- The hypotheses of WindowAbortRead. -/
theorem test_witness_WindowAbortRead :
    (let s : State := up; s.windowOn = true)
    ∧ (let s : State := up; s.windowOn = true)
    ∧ (let s : State := up; s.windowOn = true)
    ∧ (let a : Nat := 1; a ≠ 0) := by
  refine ⟨?_, ?_, ?_, ?_⟩ <;> decide +kernel

/-- The hypotheses of ObjectAccesses. -/
theorem test_witness_ObjectAccesses :
    (let s : State := up; let i : Nat := 0x1017; let sub : Nat := 0; s.windowOn = true ∧ i ≠ 0
          ∧ (match s.readObject .bar2 i sub with | .ok (o, b) => decide (s.objAbsent i sub = false ∧ o.ty.number = true ∧ o.ty.bytes ≤ 4) | _ => false) = true)
    ∧ (let s : State := up; let i : Nat := 0x1008; let sub : Nat := 0; s.windowOn = true ∧ i ≠ 0
          ∧ (match s.lookup i sub with | .ok o => decide (s.objAbsent i sub = false ∧ o.acc ≠ .wo ∧ ((o.ty.number = false ∨ 4 < o.ty.bytes))) | _ => false) = true)
    ∧ (let s : State := up; let i : Nat := 0x1017; let sub : Nat := 1; s.windowOn = true ∧ i ≠ 0
          ∧ s.tooWide i sub = false ∧ (match s.readObject .bar2 i sub with | .error _ => true | _ => false) = true)
    ∧ (let s : State := up; let i : Nat := 0x1017; let sub : Nat := 0; let v : Nat := 100;
        let counted := { s with bar2 := { s.bar2 with winPending := min (s.bar2.winPending + 1) 65535 } };
        s.windowOn = true ∧ i ≠ 0 ∧ (match counted.windowBytes i sub v with | .ok _ => true | _ => false) = true)
    ∧ (let s : State := up; let i : Nat := 0x1000; let sub : Nat := 0; let v : Nat := 0;
        let counted := { s with bar2 := { s.bar2 with winPending := min (s.bar2.winPending + 1) 65535 } };
        s.windowOn = true ∧ i ≠ 0 ∧ (match counted.windowBytes i sub v with | .error _ => true | _ => false) = true)
    ∧ (let s : State := up; let i : Nat := 0x1017; let sub : Nat := 0; let len : Nat := 2; s.windowOn = true ∧ i ≠ 0
          ∧ len ≠ 4
          ∧ (match s.lookup i sub with | .ok o => decide (s.objAbsent i sub = false ∧ o.acc ≠ .const ∧ o.acc ≠ .ro) | _ => false) = true)
    ∧ (let s : State := up; let i : Nat := 0x1017; let sub : Nat := 0; let len : Nat := 2; s.windowOn = true ∧ i ≠ 0
          ∧ len ≠ 4
          ∧ (match s.lookup i sub with | .ok o => decide (s.objAbsent i sub = false ∧ o.acc ≠ .wo) | _ => false) = true)
    ∧ (let s : State := hosted 4 0 0; let c : Nat := 0; let cid : Nat := 9; let i : Nat := 0x1017; let sub : Nat := 0;
        let off : Nat := 0; let len : Nat := 1;
        (match s.turn c cid with | some x => decide (x.sq = 0 ∧ 1 ≤ len ∧ len ≤ 65536 ∧ (match s.readObject (.nvme c cid) i sub with | .ok (o, b) => decide (((o.ty.number = false ∨ off = 0)) ∧ off < b.length) | _ => false) = true) | _ => false) = true)
    ∧ (let s : State := hosted 4 0 0; let c : Nat := 0; let cid : Nat := 9; let i : Nat := 0x1008; let sub : Nat := 0;
        let off : Nat := 7; let len : Nat := 65536;
        (match s.turn c cid with | some x => decide (x.sq = 0 ∧ 1 ≤ len ∧ len ≤ 65536 ∧ (match s.readObject (.nvme c cid) i sub with | .ok (o, b) => decide (o.ty.number = false ∧ b.length ≤ off) | _ => false) = true) | _ => false) = true)
    ∧ (let s : State := hosted 4 0 0; let c : Nat := 0; let cid : Nat := 9; let i : Nat := 0x1017; let sub : Nat := 0;
        let data := [100, 0];
        (match s.turn c cid with | some x => decide (x.sq = 0 ∧ 1 ≤ data.length ∧ data.length ≤ 65536 ∧ (match s.lookup i sub with | .ok o => decide (s.objAbsent i sub = false ∧ o.acc ≠ .const ∧ o.acc ≠ .ro ∧ ((o.ty.number = true ∨ anyLength i sub = true ∨ o.ty.bytes ≤ data.length))) | _ => false) = true) | _ => false) = true)
    ∧ (let s : State := hosted 4 0 0; let c : Nat := 0; let cid : Nat := 9; let i : Nat := 0x37D7; let sub : Nat := 0;
        let data := [0];
        (match s.turn c cid with | some x => decide (x.sq = 0 ∧ 1 ≤ data.length ∧ data.length ≤ 65536 ∧ (match s.lookup i sub with | .ok o => decide (s.objAbsent i sub = false ∧ o.acc ≠ .const ∧ o.acc ≠ .ro ∧ o.ty.number = false ∧ anyLength i sub = false ∧ data.length < o.ty.bytes ∧ s.segmentHeld i sub = false ∧ (s.nvme.objects.find? fun y => y.idx == i && y.sub == sub) = none) | _ => false) = true) | _ => false) = true)
    ∧ (let s : State := (hosted 4 0 0).modNvme fun n => { n with objects := [⟨0, 0x37D7, 0, [5]⟩] }; let c : Nat := 0;
        let cid : Nat := 9; let i : Nat := 0x37D7; let sub : Nat := 0; let off : Nat := 1;
        let data := List.replicate 5119 0;
        (match s.turn c cid with | some x => decide (x.sq = 0 ∧ 1 ≤ data.length ∧ data.length ≤ 65536 ∧ (match s.lookup i sub with | .ok o => decide (s.objAbsent i sub = false ∧ o.acc ≠ .const ∧ o.acc ≠ .ro ∧ o.ty.number = false ∧ anyLength i sub = false ∧ off ≠ 0 ∧ (match (s.nvme.objects.find? fun y => y.idx == i && y.sub == sub) with | some y => decide (y.ctrl = x.ctrl ∧ y.got.length = off ∧ off + data.length = o.ty.bytes) | _ => false) = true) | _ => false) = true) | _ => false) = true)
    ∧ (let s : State := (hosted 4 0 0).setRaw (key 0x5402 0) [7]; let c : Nat := 0; let cid : Nat := 9;
        let i : Nat := 0x5402; let sub : Nat := 0; let off : Nat := 1; let data := [100, 0];
        (match s.turn c cid with | some x => decide (x.sq = 0 ∧ 1 ≤ data.length ∧ data.length ≤ 65536 ∧ (match s.lookup i sub with | .ok o => decide (s.objAbsent i sub = false ∧ o.acc ≠ .const ∧ o.acc ≠ .ro ∧ o.ty.number = false ∧ anyLength i sub = true ∧ off ≠ 0 ∧ (s.raw (key i sub)).length = off) | _ => false) = true) | _ => false) = true) := by
  refine ⟨?_, ?_, ?_, ?_, ?_, ?_, ?_, ?_, ?_, ?_, ?_, ?_, ?_⟩ <;> decide +kernel

/-- The hypotheses of RefusedObjectCommands. -/
theorem test_witness_RefusedObjectCommands :
    (let s : State := hosted 4 0 0; let c : Nat := 0; let cid : Nat := 9; let i : Nat := 0x1017; let sub : Nat := 1;
        let off : Nat := 0; let len : Nat := 1;
        (match s.turn c cid with | some x => decide (x.sq = 0 ∧ 1 ≤ len ∧ len ≤ 65536 ∧ (match s.lookup i sub with | .ok o => decide (o.acc = .wo ∨ pieceCheck o off len = 0) | .error _ => true) = true ∧ (match s.readObject (.nvme c cid) i sub with | .error _ => true | _ => false) = true) | _ => false) = true)
    ∧ (let s : State := hosted 4 0 0; let c : Nat := 0; let cid : Nat := 9; let i : Nat := 0x1017; let sub : Nat := 1;
        let data : List Byte := [0];
        (match s.turn c cid with | some x => decide (x.sq = 0 ∧ 1 ≤ data.length ∧ data.length ≤ 65536 ∧ (match s.lookup i sub with | .error _ => true | _ => false) = true) | _ => false) = true)
    ∧ (let s : State := hosted 4 0 0; let c : Nat := 0; let cid : Nat := 9; let i : Nat := 0x1017; let sub : Nat := 0;
        let off : Nat := 0; let len : Nat := 0; let a : Nat := 0x06070013;
        (match s.turn c cid with | some x => decide (x.sq = 0 ∧ (match s.lookup i sub with | .ok o => decide (o.acc ≠ .wo ∧ pieceCheck o off len = a ∧ a ≠ 0) | _ => false) = true) | _ => false) = true)
    ∧ (let s : State := hosted 4 0 0; let c : Nat := 0; let cid : Nat := 9; let i : Nat := 0x1017; let sub : Nat := 0;
        let off : Nat := 0; let a : Nat := 0x06070013; let data : List Byte := ([] : List Byte);
        (match s.turn c cid with | some x => decide (x.sq = 0 ∧ (match s.lookup i sub with | .ok o => decide (s.objAbsent i sub = false ∧ o.acc ≠ .const ∧ o.acc ≠ .ro ∧ pieceCheck o off data.length = a ∧ a ≠ 0) | _ => false) = true) | _ => false) = true)
    ∧ (let s : State := { hosted 4 0 0 with part := { State.reset.part with stations := 4 } }; let c : Nat := 0;
        let cid : Nat := 9; let i : Nat := 0x3702; let sub : Nat := 4; let data : List Byte := [0];
        (match s.turn c cid with | some x => decide (x.sq = 0 ∧ 1 ≤ data.length ∧ data.length ≤ 65536 ∧ (match s.lookup i sub with | .ok o => decide (s.objAbsent i sub = true) | _ => false) = true) | _ => false) = true)
    ∧ (let s : State := hosted 4 0 0; let c : Nat := 0; let cid : Nat := 9; let i : Nat := 0x1000; let sub : Nat := 0;
        let data : List Byte := [0];
        (match s.turn c cid with | some x => decide (x.sq = 0 ∧ 1 ≤ data.length ∧ data.length ≤ 65536 ∧ (match s.lookup i sub with | .ok o => decide (s.objAbsent i sub = false ∧ ((o.acc = .const ∨ o.acc = .ro))) | _ => false) = true) | _ => false) = true)
    ∧ (let s : State := { hosted 4 0 0 with bar2 := { Bar2.initial with state := .openWrite, openObject := 0x37D7 } };
        let c : Nat := 0; let cid : Nat := 9; let i : Nat := 0x37D7; let sub : Nat := 0; let data : List Byte := [0];
        (match s.turn c cid with | some x => decide (x.sq = 0 ∧ 1 ≤ data.length ∧ data.length ≤ 65536 ∧ (match s.lookup i sub with | .ok o => decide (s.objAbsent i sub = false ∧ o.acc ≠ .const ∧ o.acc ≠ .ro ∧ o.ty.number = false ∧ anyLength i sub = false ∧ data.length < o.ty.bytes ∧ s.segmentHeld i sub = true) | _ => false) = true) | _ => false) = true)
    ∧ (let s : State := hosted 4 0 0; let c : Nat := 0; let cid : Nat := 9; let i : Nat := 0x37D7; let sub : Nat := 0;
        let off : Nat := 1; let data : List Byte := [0];
        let piece := s.nvme.objects.find? fun y => y.idx == i && y.sub == sub;
        (match s.turn c cid with | some x => decide (x.sq = 0 ∧ 1 ≤ data.length ∧ data.length ≤ 65536 ∧ (match s.lookup i sub with | .ok o => decide (s.objAbsent i sub = false ∧ o.acc ≠ .const ∧ o.acc ≠ .ro ∧ o.ty.number = false ∧ anyLength i sub = false ∧ off ≠ 0 ∧ piece = none) | _ => false) = true) | _ => false) = true)
    ∧ (let s : State := hosted 4 0 0; let c : Nat := 0; let cid : Nat := 9; let i : Nat := 0x5402; let sub : Nat := 0;
        let off : Nat := 1; let data : List Byte := [0];
        (match s.turn c cid with | some x => decide (x.sq = 0 ∧ 1 ≤ data.length ∧ data.length ≤ 65536 ∧ (match s.lookup i sub with | .ok o => decide (s.objAbsent i sub = false ∧ o.acc ≠ .const ∧ o.acc ≠ .ro ∧ o.ty.number = false ∧ anyLength i sub = true ∧ off ≠ 0 ∧ (s.raw (key i sub)).length ≠ off) | _ => false) = true) | _ => false) = true)
    ∧ (let s : State := (hosted 4 0 0).modNvme fun n => { n with objects := [⟨0, 0x37D7, 0, [5]⟩] }; let c : Nat := 0;
        let cid : Nat := 9; let i : Nat := 0x37D7; let sub : Nat := 0; let off : Nat := 1;
        let data : List Byte := List.replicate 5120 0;
        let piece := s.nvme.objects.find? fun y => y.idx == i && y.sub == sub;
        (match s.turn c cid with | some x => decide (x.sq = 0 ∧ 1 ≤ data.length ∧ data.length ≤ 65536 ∧ (match s.lookup i sub with | .ok o => decide (s.objAbsent i sub = false ∧ o.acc ≠ .const ∧ o.acc ≠ .ro ∧ o.ty.number = false ∧ anyLength i sub = false ∧ off ≠ 0 ∧ (match piece with | some y => decide (y.ctrl = x.ctrl ∧ y.got.length = off ∧ o.ty.bytes < off + data.length) | _ => false) = true) | _ => false) = true) | _ => false) = true)
    ∧ (let s : State := hosted 4 0 0; let c : Nat := 0; let cid : Nat := 9; let i : Nat := 0x1017; let sub : Nat := 0;
        let data : List Byte := [1, 2, 3]; let w : World := World.plain;
        (match s.turn c cid with | some x => decide (let v := s.modCtx x.seq fun y => { y with op := .dictionary }; x.sq = 0 ∧ 1 ≤ data.length ∧ data.length ≤ 65536 ∧ (match s.lookup i sub with | .ok o => decide (s.objAbsent i sub = false ∧ o.acc ≠ .const ∧ o.acc ≠ .ro ∧ ((o.ty.number = true ∨ anyLength i sub = true ∨ o.ty.bytes ≤ data.length)) ∧ (match v.take (.nvme c cid) i sub data w with | .error _ => true | _ => false) = true) | _ => false) = true) | _ => false) = true)
    ∧ (let s : State := hosted 4 0 0; let c : Nat := 0; let cid : Nat := 9; let a : Nat := 1;
        let x : Ctx := (⟨3, 0, 0, 9, .fetched, false⟩ : Ctx); s.adminCtx c cid = some x ∧ a ≠ 0) := by
  refine ⟨?_, ?_, ?_, ?_, ?_, ?_, ?_, ?_, ?_, ?_, ?_, ?_⟩ <;> decide +kernel

/-- The hypotheses of NvmeControllers. -/
theorem test_witness_NvmeControllers :
    (let s : State := hosted 4 0 1; let c : Nat := 0; let sq : Nat := 1; s.fetches c sq = true)
    ∧ (let s : State := awake; let c : Nat := 0;
        let k : Ctrl := (⟨0, false, false, 0, false, 0, [], [], [], [], [], [], [], [], false, 0⟩ : Ctrl);
        s.ctrl c = some k ∧ k.en = false)
    ∧ (let s : State := (hosted 4 0 1).setReg (key 0x4100 0x15) 2; let c : Nat := 6; let pairs := key 0x4100 0x16; c ≠ 0
          ∧ s.ctrl c = none ∧ s.fabricCtrls < s.reg (key 0x4100 0x15) ∧ s.reg pairs < 4096)
    ∧ (let s : State := hosted 4 0 1; let c : Nat := 5; let q : Nat := 8; let k : Ctrl := ctrlOn c;
        let pairs := key 0x4100 0x16; c ≠ 0 ∧ s.ctrl c = some k ∧ k.en = true ∧ 1 ≤ q ∧ q ≤ k.granted
          ∧ (∀ p ∈ k.sqs, p.1 ≠ q) ∧ s.reg pairs < 4096)
    ∧ (let s : State := (hosted 4 0 1).setReg (key 0x4100 0x15) 1; let c : Nat := 6; let k : Ctrl := ctrlOn c;
        let pairs := key 0x4100 0x16;
        ((c = 0 ∨ s.ctrl c = some k ∨ s.reg (key 0x4100 0x15) ≤ s.fabricCtrls ∨ 4096 ≤ s.reg pairs)))
    ∧ (let s : State := hosted 4 0 1; let c : Nat := 5; let q : Nat := 0; let k : Ctrl := ctrlOn c;
        let pairs := key 0x4100 0x16;
        ((c = 0 ∨ s.ctrl c = none ∨ (s.ctrl c = some k ∧ (k.en = false ∨ q = 0 ∨ k.granted < q ∨ (∃ p ∈ k.sqs, p.1 = q))) ∨ 4096 ≤ s.reg pairs)))
    ∧ (let s : State := hosted 4 0 1; let c : Nat := 5; let k : Ctrl := ctrlOn c; c ≠ 0 ∧ s.ctrl c = some k)
    ∧ (let s : State := (hosted 4 0 1).modCtrl 5 fun k => { k with features := [(15, 1)] }; let c : Nat := 5;
        let k : Ctrl := { ctrlOn 5 with features := [(15, 1)] }; c ≠ 0 ∧ s.ctrl c = some k ∧ k.feature 0x0F ≠ 0)
    ∧ (let s : State := hosted 4 0 1; let c : Nat := 0; let k : Ctrl := ctrlOn c; s.ctrl c = some k ∧ k.en = true
          ∧ k.shst = 0) := by
  refine ⟨?_, ?_, ?_, ?_, ?_, ?_, ?_, ?_, ?_⟩ <;> decide +kernel

/-- The hypotheses of ReadsAndWrites. -/
theorem test_witness_ReadsAndWrites :
    (let s : State := hosted 4 0 1; let c : Nat := 0; let cid : Nat := 9; let nsid : Nat := 14;
        (match s.turn c cid with | some x => decide (x.sq ≠ 0 ∧ s.nsIo nsid = none) | _ => false) = true)
    ∧ (let s : State := hosted 4 0 1; let c : Nat := 0; let cid : Nat := 9; let nsid : Nat := 14;
        (match s.turn c cid with | some x => decide (x.sq ≠ 0 ∧ s.nsIo nsid = none) | _ => false) = true)
    ∧ (let s : State := hosted 4 0 1; let c : Nat := 0; let cid : Nat := 9; let nsid : Nat := 14;
        (match s.turn c cid with | some x => decide (x.sq ≠ 0 ∧ s.nsIo nsid = none ∧ nsid ≠ 0xFFFFFFFF) | _ => false) = true)
    ∧ (let s : State := hosted 4 0 1; let c : Nat := 0; let cid : Nat := 9; let nsid : Nat := 15; let k : Nat := 257;
        let sized := 1 ≤ k ∧ k ≤ 256;
        (match s.turn c cid with | some x => decide (x.sq ≠ 0 ∧ (match s.nsIo nsid with | some n => decide (¬ sized) | _ => false) = true) | _ => false) = true)
    ∧ (let s : State := hosted 4 0 1; let c : Nat := 0; let cid : Nat := 9; let nsid : Nat := 15;
        let lba : Nat := 131072; let k : Nat := 1; let sized := 1 ≤ k ∧ k ≤ 256;
        (match s.turn c cid with | some x => decide (x.sq ≠ 0 ∧ (match s.nsIo nsid with | some n => decide (sized ∧ n.nsze < lba + k) | _ => false) = true) | _ => false) = true)
    ∧ (let s : State := hosted 4 0 1; let c : Nat := 0; let cid : Nat := 9; let nsid : Nat := 15;
        let lba : Nat := 65535; let k : Nat := 2; let sized := 1 ≤ k ∧ k ≤ 256;
        (match s.turn c cid with | some x => decide (x.sq ≠ 0 ∧ (match s.nsIo nsid with | some n => decide (sized ∧ lba + k ≤ n.nsze ∧ n.zoned = true ∧ lba / n.zsize ≠ (lba + k - 1) / n.zsize) | _ => false) = true) | _ => false) = true)
    ∧ (let s : State := (lined .valid).modGr fun g => { g with lines := [{ line .valid with poison := 32768 }] };
        let c : Nat := 0; let cid : Nat := 9; let nsid : Nat := 15; let lba : Nat := 15; let k : Nat := 1;
        let sized := 1 ≤ k ∧ k ≤ 256;
        (match s.turn c cid with | some x => decide (x.sq ≠ 0 ∧ (match s.nsIo nsid with | some n => decide (let whole := sized ∧ lba + k ≤ n.nsze ∧ (n.zoned = true → lba / n.zsize = (lba + k - 1) / n.zsize); whole ∧ ((clustersOf lba k).any fun cl => s.poisoned nsid lba k cl) = true) | _ => false) = true) | _ => false) = true)
    ∧ (let s : State := (hosted 3 0 1).modNs 15 fun n => { n with zones := [⟨1, 1, 1⟩] }; let c : Nat := 0;
        let cid : Nat := 9; let nsid : Nat := 15; let lba : Nat := 65536; let k : Nat := 1;
        let sized := 1 ≤ k ∧ k ≤ 256;
        (match s.turn c cid with | some x => decide (let q := x.seq; x.sq ≠ 0 ∧ (match s.nsIo nsid with | some n => decide (let whole := sized ∧ lba + k ≤ n.nsze ∧ (n.zoned = true → lba / n.zsize = (lba + k - 1) / n.zsize); let fits := whole ∧ (clustersOf lba k).all (fun cl => !s.poisoned nsid lba k cl) = true; let misses := s.readMisses n q lba k []; fits ∧ ((s.rebuilding nsid = true ∨ (misses ≠ [] ∧ s.mediaOpen nsid = false)))) | _ => false) = true) | _ => false) = true)
    ∧ (let s : State := hosted 4 0 1; let c : Nat := 0; let cid : Nat := 9; let nsid : Nat := 15;
        let lba : Nat := 65280; let k : Nat := 256; let sized := 1 ≤ k ∧ k ≤ 256;
        (match s.turn c cid with | some x => decide (let q := x.seq; x.sq ≠ 0 ∧ (match s.nsIo nsid with | some n => decide (let whole := sized ∧ lba + k ≤ n.nsze ∧ (n.zoned = true → lba / n.zsize = (lba + k - 1) / n.zsize); let fits := whole ∧ (clustersOf lba k).all (fun cl => !s.poisoned nsid lba k cl) = true; let misses := s.readMisses n q lba k []; fits ∧ s.rebuilding nsid = false ∧ misses = []) | _ => false) = true) | _ => false) = true)
    ∧ (let s : State := (hosted 4 0 1).modNs 15 fun n => { n with zones := [⟨1, 1, 1⟩] }; let c : Nat := 0;
        let cid : Nat := 9; let nsid : Nat := 15; let lba : Nat := 65536; let k : Nat := 1;
        let sized := 1 ≤ k ∧ k ≤ 256;
        (match s.turn c cid with | some x => decide (let q := x.seq; x.sq ≠ 0 ∧ (match s.nsIo nsid with | some n => decide (let whole := sized ∧ lba + k ≤ n.nsze ∧ (n.zoned = true → lba / n.zsize = (lba + k - 1) / n.zsize); let fits := whole ∧ (clustersOf lba k).all (fun cl => !s.poisoned nsid lba k cl) = true; let misses := s.readMisses n q lba k []; fits ∧ s.rebuilding nsid = false ∧ misses ≠ [] ∧ s.mediaOpen nsid = true) | _ => false) = true) | _ => false) = true)
    ∧ (let s : State := hosted 4 0 1; let c : Nat := 0; let cid : Nat := 9; let nsid : Nat := 15;
        let append : Bool := false; let d : List Block := ([] : List Block);
        (match s.turn c cid with | some x => decide (x.sq ≠ 0 ∧ (match s.nsIo nsid with | some n => decide (let sizedW := d ≠ [] ∧ d.length ≤ 256 ∧ (append = true → n.zoned = true); ¬ sizedW) | _ => false) = true) | _ => false) = true)
    ∧ (let s : State := hosted 4 0 1; let c : Nat := 0; let cid : Nat := 9; let nsid : Nat := 15;
        let lba : Nat := 131072; let append : Bool := false; let d : List Block := [block];
        (match s.turn c cid with | some x => decide (x.sq ≠ 0 ∧ (match s.nsIo nsid with | some n => decide (let sizedW := d ≠ [] ∧ d.length ≤ 256 ∧ (append = true → n.zoned = true); sizedW ∧ n.nsze < lba + d.length) | _ => false) = true) | _ => false) = true)
    ∧ (let s : State := (hosted 4 0 1).modNs 15 fun n => { n with lbaf := 1 }; let c : Nat := 0; let cid : Nat := 9;
        let nsid : Nat := 15; let lba : Nat := 131071; let append : Bool := false;
        let pi : PiArgs := ⟨false, 1, 0, 0, 1⟩; let d : List Block := [block];
        let verdict := piVerifyAll pi (s.reg (nvKey 6)) d;
        (match s.turn c cid with | some x => decide (x.sq ≠ 0 ∧ (match s.nsIo nsid with | some n => decide (let sizedW := d ≠ [] ∧ d.length ≤ 256 ∧ (append = true → n.zoned = true); let own := n.lbaf = 1 ∧ pi.act = false; sizedW ∧ lba + d.length ≤ n.nsze ∧ own ∧ verdict ≠ .ok) | _ => false) = true) | _ => false) = true)
    ∧ (let s : State := (spread 0).modNs 256 fun n => { n with lbaf := 1 }; let c : Nat := 0; let cid : Nat := 9;
        let nsid : Nat := 256; let lba : Nat := 65536; let append : Bool := false;
        let pi : PiArgs := ⟨false, 0, 0, 0, 0⟩; let d : List Block := [block];
        let verdict := piVerifyAll pi (s.reg (nvKey 6)) d;
        (match s.turn c cid with | some x => decide (x.sq ≠ 0 ∧ (match s.nsIo nsid with | some n => decide (let sizedW := d ≠ [] ∧ d.length ≤ 256 ∧ (append = true → n.zoned = true); let own := n.lbaf = 1 ∧ pi.act = false; let tags := nsSpread nsid = true ∧ own ∧ append = false ∧ s.reg (nvKey 6) ≤ 2 ∧ (d.zipIdx.any fun p => piField p.1.pi 10 6 != (lba + p.2) % 2 ^ 48) = true; sizedW ∧ lba + d.length ≤ n.nsze ∧ ((own → verdict = .ok)) ∧ tags) | _ => false) = true) | _ => false) = true)
    ∧ (let s : State := hosted 3 0 1; let c : Nat := 0; let cid : Nat := 9; let nsid : Nat := 15;
        let lba : Nat := 65536; let append : Bool := false; let pi : PiArgs := ⟨false, 0, 0, 0, 0⟩;
        let d : List Block := [block]; let verdict := piVerifyAll pi (s.reg (nvKey 6)) d;
        (match s.turn c cid with | some x => decide (x.sq ≠ 0 ∧ (match s.nsIo nsid with | some n => decide (let sizedW := d ≠ [] ∧ d.length ≤ 256 ∧ (append = true → n.zoned = true); let own := n.lbaf = 1 ∧ pi.act = false; let tags := nsSpread nsid = true ∧ own ∧ append = false ∧ s.reg (nvKey 6) ≤ 2 ∧ (d.zipIdx.any fun p => piField p.1.pi 10 6 != (lba + p.2) % 2 ^ 48) = true; sizedW ∧ lba + d.length ≤ n.nsze ∧ ((own → verdict = .ok)) ∧ ¬ tags ∧ s.mediaOpen nsid = false) | _ => false) = true) | _ => false) = true)
    ∧ (let s : State := hosted 4 0 1; let c : Nat := 0; let cid : Nat := 9; let nsid : Nat := 15;
        let lba : Nat := 65536; let append : Bool := true; let pi : PiArgs := ⟨false, 0, 0, 0, 0⟩;
        let d : List Block := [block]; let verdict := piVerifyAll pi (s.reg (nvKey 6)) d;
        (match s.turn c cid with | some x => decide (x.sq ≠ 0 ∧ (match s.nsIo nsid with | some n => decide (let sizedW := d ≠ [] ∧ d.length ≤ 256 ∧ (append = true → n.zoned = true); let own := n.lbaf = 1 ∧ pi.act = false; let tags := nsSpread nsid = true ∧ own ∧ append = false ∧ s.reg (nvKey 6) ≤ 2 ∧ (d.zipIdx.any fun p => piField p.1.pi 10 6 != (lba + p.2) % 2 ^ 48) = true; sizedW ∧ lba + d.length ≤ n.nsze ∧ ((own → verdict = .ok)) ∧ ¬ tags ∧ s.mediaOpen nsid = true) | _ => false) = true) | _ => false) = true)
    ∧ (let s : State := hosted 4 0 1; let c : Nat := 0; let cid : Nat := 9; let nsid : Nat := 15;
        (match s.turn c cid with | some x => decide (x.sq ≠ 0 ∧ (match s.nsIo nsid with | some n => decide (nsid ≠ 0xFFFFFFFF ∧ s.mediaReady nsid = true ∧ s.rebuilding nsid = false) | _ => false) = true) | _ => false) = true)
    ∧ (let s : State := hosted 3 0 1; let c : Nat := 0; let cid : Nat := 9; let nsid : Nat := 15;
        (match s.turn c cid with | some x => decide (x.sq ≠ 0 ∧ (match s.nsIo nsid with | some n => decide (nsid ≠ 0xFFFFFFFF ∧ ((s.mediaReady nsid = false ∨ s.rebuilding nsid = true))) | _ => false) = true) | _ => false) = true)
    ∧ (let s : State := hosted 4 0 1; let c : Nat := 0; let cid : Nat := 9; let every := s.nvme.namespaces.map (·.nsid);
        let barred := fun m => (!s.mediaReady m || s.rebuilding m) && s.granary.lines.any fun l => l.nsid == m && l.isDirty;
        (match s.turn c cid with | some x => decide (x.sq ≠ 0 ∧ every.any barred = false) | _ => false) = true)
    ∧ (let s : State := ((hosted 2 0 1).modGr fun g => { g with lines := [line .dirty] }); let c : Nat := 0;
        let cid : Nat := 9; let every := s.nvme.namespaces.map (·.nsid);
        let barred := fun m => (!s.mediaReady m || s.rebuilding m) && s.granary.lines.any fun l => l.nsid == m && l.isDirty;
        (match s.turn c cid with | some x => decide (x.sq ≠ 0 ∧ every.any barred = true) | _ => false) = true) := by
  refine ⟨?_, ?_, ?_, ?_, ?_, ?_, ?_, ?_, ?_, ?_, ?_, ?_, ?_, ?_, ?_, ?_, ?_, ?_, ?_, ?_⟩ <;> decide +kernel

/-- The hypotheses of ZoneManagement. -/
theorem test_witness_ZoneManagement :
    (let s : State := zoned 0; let c : Nat := 0; let cid : Nat := 9; let nsid : Nat := 15; let zi : Nat := 1;
        (match s.turn c cid with | some x => decide (x.sq ≠ 0 ∧ (match s.nsIo nsid with | some n => decide (let a := zi * n.zsize; let z := n.zone zi; let usable := n.zoned = true ∧ 1 ≤ n.zsize ∧ s.mediaOpen nsid = true ∧ a < n.nsze ∧ s.claimed nsid zi = false; usable ∧ ((z.state = 1 ∨ z.state = 2 ∨ ((z.state = 0 ∨ z.state = 3) ∧ n.openZones < 16)))) | _ => false) = true) | _ => false) = true)
    ∧ (let s : State := (hosted 4 0 1).modNs 15 fun n => { n with nsze := 2097152, zones := (List.range 16).map fun i => ⟨i + 2, 1, 5⟩ };
        let c : Nat := 0; let cid : Nat := 9; let nsid : Nat := 15; let zi : Nat := 1;
        (match s.turn c cid with | some x => decide (x.sq ≠ 0 ∧ (match s.nsIo nsid with | some n => decide (let a := zi * n.zsize; let z := n.zone zi; let usable := n.zoned = true ∧ 1 ≤ n.zsize ∧ s.mediaOpen nsid = true ∧ a < n.nsze ∧ s.claimed nsid zi = false; usable ∧ ((z.state = 0 ∨ z.state = 3)) ∧ 16 ≤ n.openZones) | _ => false) = true) | _ => false) = true)
    ∧ (let s : State := zoned 4; let c : Nat := 0; let cid : Nat := 9; let nsid : Nat := 15; let zi : Nat := 1;
        (match s.turn c cid with | some x => decide (x.sq ≠ 0 ∧ (match s.nsIo nsid with | some n => decide (let a := zi * n.zsize; let z := n.zone zi; let usable := n.zoned = true ∧ 1 ≤ n.zsize ∧ s.mediaOpen nsid = true ∧ a < n.nsze ∧ s.claimed nsid zi = false; usable ∧ ((z.state = 4 ∨ z.state = 5))) | _ => false) = true) | _ => false) = true)
    ∧ (let s : State := zoned 1; let c : Nat := 0; let cid : Nat := 9; let nsid : Nat := 15; let zi : Nat := 1;
        (match s.turn c cid with | some x => decide (x.sq ≠ 0 ∧ (match s.nsIo nsid with | some n => decide (let a := zi * n.zsize; let z := n.zone zi; let usable := n.zoned = true ∧ 1 ≤ n.zsize ∧ s.mediaOpen nsid = true ∧ a < n.nsze ∧ s.claimed nsid zi = false; usable ∧ ((z.state = 1 ∨ z.state = 2 ∨ z.state = 3))) | _ => false) = true) | _ => false) = true)
    ∧ (let s : State := zoned 5; let c : Nat := 0; let cid : Nat := 9; let nsid : Nat := 15; let zi : Nat := 1;
        (match s.turn c cid with | some x => decide (x.sq ≠ 0 ∧ (match s.nsIo nsid with | some n => decide (let a := zi * n.zsize; let z := n.zone zi; let usable := n.zoned = true ∧ 1 ≤ n.zsize ∧ s.mediaOpen nsid = true ∧ a < n.nsze ∧ s.claimed nsid zi = false; usable ∧ ((z.state = 0 ∨ z.state = 4 ∨ z.state = 5))) | _ => false) = true) | _ => false) = true)
    ∧ (let s : State := zoned 4; let c : Nat := 0; let cid : Nat := 9; let nsid : Nat := 15; let zi : Nat := 1;
        (match s.turn c cid with | some x => decide (x.sq ≠ 0 ∧ (match s.nsIo nsid with | some n => decide (let a := zi * n.zsize; let z := n.zone zi; let usable := n.zoned = true ∧ 1 ≤ n.zsize ∧ s.mediaOpen nsid = true ∧ a < n.nsze ∧ s.claimed nsid zi = false; usable ∧ z.state ≠ 5) | _ => false) = true) | _ => false) = true)
    ∧ (let s : State := zoned 5; let c : Nat := 0; let cid : Nat := 9; let nsid : Nat := 15; let zi : Nat := 1;
        (match s.turn c cid with | some x => decide (x.sq ≠ 0 ∧ (match s.nsIo nsid with | some n => decide (let a := zi * n.zsize; let z := n.zone zi; let usable := n.zoned = true ∧ 1 ≤ n.zsize ∧ s.mediaOpen nsid = true ∧ a < n.nsze ∧ s.claimed nsid zi = false; usable ∧ z.state = 5) | _ => false) = true) | _ => false) = true)
    ∧ (let s : State := zoned 0; let c : Nat := 0; let cid : Nat := 9; let nsid : Nat := 15; let zi : Nat := 1;
        (match s.turn c cid with | some x => decide (x.sq ≠ 0 ∧ (match s.nsIo nsid with | some n => decide (let zones := fun act => (n.zonesFor act).filter fun z => !s.claimed nsid z; let all := fun act => (zones act).foldl (fun r z => match r with | .ok n => n.zoneAct act z | .error e => .error e) (.ok n : Except Status Ns); n.zoned = true ∧ s.mediaOpen nsid = true ∧ (match all .open_ with | .ok _ => true | _ => false) = true) | _ => false) = true) | _ => false) = true)
    ∧ (let s : State := (hosted 4 0 1).modNs 15 fun n => { n with nsze := 2097152, zones := (List.range 17).map fun i => ⟨i + 2, 3, 5⟩ };
        let c : Nat := 0; let cid : Nat := 9; let nsid : Nat := 15; let zi : Nat := 1;
        (match s.turn c cid with | some x => decide (x.sq ≠ 0 ∧ (match s.nsIo nsid with | some n => decide (let zones := fun act => (n.zonesFor act).filter fun z => !s.claimed nsid z; let all := fun act => (zones act).foldl (fun r z => match r with | .ok n => n.zoneAct act z | .error e => .error e) (.ok n : Except Status Ns); n.zoned = true ∧ s.mediaOpen nsid = true ∧ (match all .open_ with | .error _ => true | _ => false) = true) | _ => false) = true) | _ => false) = true)
    ∧ (let s : State := zoned 0; let c : Nat := 0; let cid : Nat := 9; let nsid : Nat := 15; let zi : Nat := 1;
        (match s.turn c cid with | some x => decide (x.sq ≠ 0 ∧ (match s.nsIo nsid with | some n => decide (let zones := fun act => (n.zonesFor act).filter fun z => !s.claimed nsid z; let all := fun act => (zones act).foldl (fun r z => match r with | .ok n => n.zoneAct act z | .error e => .error e) (.ok n : Except Status Ns); n.zoned = true ∧ s.mediaOpen nsid = true ∧ (match all .close with | .ok _ => true | _ => false) = true) | _ => false) = true) | _ => false) = true)
    ∧ (let s : State := zoned 0; let c : Nat := 0; let cid : Nat := 9; let nsid : Nat := 15; let zi : Nat := 1;
        (match s.turn c cid with | some x => decide (x.sq ≠ 0 ∧ (match s.nsIo nsid with | some n => decide (let zones := fun act => (n.zonesFor act).filter fun z => !s.claimed nsid z; let all := fun act => (zones act).foldl (fun r z => match r with | .ok n => n.zoneAct act z | .error e => .error e) (.ok n : Except Status Ns); n.zoned = true ∧ s.mediaOpen nsid = true ∧ (match all .finish with | .ok _ => true | _ => false) = true) | _ => false) = true) | _ => false) = true)
    ∧ (let s : State := { zoned 1 with spread := { Spread.initial with volumes := [⟨0, 1, 1, 0, 1, [⟨State.reset.part.serial, 15, 1, true, [], false⟩], []⟩] } };
        let c : Nat := 0; let cid : Nat := 9; let nsid : Nat := 15; let zi : Nat := 1;
        (match s.turn c cid with | some x => decide (x.sq ≠ 0 ∧ (match s.nsIo nsid with | some n => decide (let a := zi * n.zsize; n.zoned = true ∧ 1 ≤ n.zsize ∧ s.mediaOpen nsid = true ∧ a < n.nsze ∧ s.claimed nsid zi = true) | _ => false) = true) | _ => false) = true)
    ∧ (let s : State := hosted 3 0 1; let c : Nat := 0; let cid : Nat := 9; let nsid : Nat := 15;
        (match s.turn c cid with | some x => decide (x.sq ≠ 0 ∧ (match s.nsIo nsid with | some n => decide (n.zoned = true ∧ s.mediaOpen nsid = false) | _ => false) = true) | _ => false) = true)
    ∧ (let s : State := zoned 0; let c : Nat := 0; let cid : Nat := 9; let nsid : Nat := 15; let lba : Nat := 131071;
        let filter : Nat := 7;
        (match s.turn c cid with | some x => decide (x.sq ≠ 0 ∧ (match s.nsIo nsid with | some n => decide (n.zoned = true ∧ lba < n.nsze ∧ filter ≤ 7 ∧ s.rebuilding nsid = false) | _ => false) = true) | _ => false) = true)
    ∧ (let s : State := zoned 0; let c : Nat := 0; let cid : Nat := 9; let nsid : Nat := 15;
        (match s.turn c cid with | some x => decide (x.sq ≠ 0 ∧ (match s.nsIo nsid with | some n => decide (n.zoned = true) | _ => false) = true) | _ => false) = true)
    ∧ (let s : State := (hosted 4 0 1).modNs 15 fun n => { n with zoned := false }; let c : Nat := 0;
        let cid : Nat := 9; let nsid : Nat := 15;
        (match s.turn c cid with | some x => decide (x.sq ≠ 0 ∧ (match s.nsIo nsid with | some n => decide (n.zoned = false) | _ => false) = true) | _ => false) = true) := by
  refine ⟨?_, ?_, ?_, ?_, ?_, ?_, ?_, ?_, ?_, ?_, ?_, ?_, ?_, ?_, ?_, ?_⟩ <;> decide +kernel

/-- The hypotheses of AdminCommands. -/
theorem test_witness_AdminCommands :
    (let s : State := hosted 4 0 0; let c : Nat := 0; let cid : Nat := 9; let cns : Nat := 0; let csi : Nat := 0;
        let nsid : Nat := 15;
        (match s.turn c cid with | some x => decide (x.sq = 0 ∧ (match s.ctrl c with | some k => decide ((match s.identifyData c cns csi nsid with | some _ => true | _ => false) = true) | _ => false) = true) | _ => false) = true)
    ∧ (let s : State := hosted 4 0 0; let c : Nat := 0; let cid : Nat := 9; let cns : Nat := 255; let csi : Nat := 0;
        let nsid : Nat := 15;
        (match s.turn c cid with | some x => decide (x.sq = 0 ∧ (match s.ctrl c with | some k => decide (s.identifyData c cns csi nsid = none) | _ => false) = true) | _ => false) = true)
    ∧ (let s : State := (hosted 4 0 0).modCtrl 0 fun k => { k with aers := [10] }; let c : Nat := 0; let cid : Nat := 9;
        let sq : Nat := 0; let target : Nat := 10;
        (match s.turn c cid with | some x => decide (x.sq = 0 ∧ (match s.ctrl c with | some k => decide (sq = 0 ∧ target ∈ k.aers) | _ => false) = true) | _ => false) = true)
    ∧ (let s : State := hosted 4 0 0; let c : Nat := 0; let cid : Nat := 9; let sq : Nat := 1; let target : Nat := 10;
        (match s.turn c cid with | some x => decide (let q := x.seq; x.sq = 0 ∧ (match s.ctrl c with | some k => decide ((¬ (sq = 0 ∧ target ∈ k.aers)) ∧ s.nvme.ctxs.find? (fun z => z.ctrl == c && z.sq == sq && z.cid == target && z.seq != q) = none) | _ => false) = true) | _ => false) = true)
    ∧ (let s : State := (hosted 4 0 0).modNvme fun n => { n with ctxs := n.ctxs ++ [⟨4, 0, 1, 10, .fetched, false⟩] };
        let c : Nat := 0; let cid : Nat := 9; let sq : Nat := 1; let target : Nat := 10;
        (match s.turn c cid with | some x => decide (let q := x.seq; x.sq = 0 ∧ (match s.ctrl c with | some k => decide ((¬ (sq = 0 ∧ target ∈ k.aers)) ∧ (match s.nvme.ctxs.find? (fun z => z.ctrl == c && z.sq == sq && z.cid == target && z.seq != q) with | some _ => true | _ => false) = true) | _ => false) = true) | _ => false) = true)
    ∧ (let s : State := hosted 4 0 0; let c : Nat := 0; let cid : Nat := 9;
        (match s.turn c cid with | some x => decide (x.sq = 0 ∧ (match s.ctrl c with | some k => decide (k.waiting = [] ∧ k.aers.length < 16) | _ => false) = true) | _ => false) = true)
    ∧ (let s : State := (hosted 4 0 0).modCtrl 0 fun k => { k with aers := List.range 16 }; let c : Nat := 0;
        let cid : Nat := 9;
        (match s.turn c cid with | some x => decide (x.sq = 0 ∧ (match s.ctrl c with | some k => decide (k.waiting = [] ∧ 16 ≤ k.aers.length) | _ => false) = true) | _ => false) = true)
    ∧ (let s : State := (hosted 4 0 0).modCtrl 0 fun k => { k with waiting := [.error] }; let c : Nat := 0;
        let cid : Nat := 9;
        (match s.turn c cid with | some x => decide (x.sq = 0 ∧ (match s.ctrl c with | some k => decide ((match k.waiting with | _ :: _ => true | _ => false) = true) | _ => false) = true) | _ => false) = true)
    ∧ (let s : State := hosted 4 0 0; let c : Nat := 0; let cid : Nat := 9;
        (match s.turn c cid with | some x => decide (x.sq = 0 ∧ (match s.ctrl c with | some _ => true | _ => false) = true) | _ => false) = true)
    ∧ (let s : State := hosted 4 0 0; let c : Nat := 0; let cid : Nat := 9;
        (match s.turn c cid with | some x => decide (x.sq = 0 ∧ (match s.ctrl c with | some _ => true | _ => false) = true) | _ => false) = true)
    ∧ (let s : State := hosted 4 0 0; let c : Nat := 0; let cid : Nat := 9;
        (match s.turn c cid with | some x => decide (x.sq = 0 ∧ (match s.ctrl c with | some _ => true | _ => false) = true) | _ => false) = true)
    ∧ (let s : State := hosted 4 0 0; let c : Nat := 0; let cid : Nat := 9; let v : Nat := 0x10FFFF;
        (match s.turn c cid with | some x => decide (x.sq = 0 ∧ (match s.ctrl c with | some k => decide (bitsOf v 19 16 = 0 ∧ bitsOf v 21 20 ≤ 1) | _ => false) = true) | _ => false) = true)
    ∧ (let s : State := hosted 4 0 0; let c : Nat := 0; let cid : Nat := 9; let v : Nat := 0x200000;
        (match s.turn c cid with | some x => decide (x.sq = 0 ∧ (match s.ctrl c with | some k => decide (((bitsOf v 19 16 ≠ 0 ∨ 1 < bitsOf v 21 20))) | _ => false) = true) | _ => false) = true)
    ∧ (let s : State := hosted 4 0 0; let c : Nat := 0; let cid : Nat := 9;
        (match s.turn c cid with | some x => decide (x.sq = 0 ∧ (match s.ctrl c with | some _ => true | _ => false) = true) | _ => false) = true)
    ∧ (let s : State := (hosted 4 5 0).modCtrl 0 (fun k => { k with granted := 4096 }); let c : Nat := 5;
        let cid : Nat := 9; let v : Nat := 2;
        let grant := min (max (v % 65536) (v / 65536 % 65536) + 1) (4096 - s.grantedOthers c);
        (match s.turn c cid with | some x => decide (x.sq = 0 ∧ (match s.ctrl c with | some k => decide (grant = 0) | _ => false) = true) | _ => false) = true)
    ∧ (let s : State := hosted 4 0 0; let c : Nat := 0; let cid : Nat := 9; let v : Nat := 2;
        let grant := min (max (v % 65536) (v / 65536 % 65536) + 1) (4096 - s.grantedOthers c);
        (match s.turn c cid with | some x => decide (x.sq = 0 ∧ (match s.ctrl c with | some k => decide (1 ≤ grant) | _ => false) = true) | _ => false) = true)
    ∧ (let s : State := hosted 4 0 0; let c : Nat := 0; let cid : Nat := 9;
        (match s.turn c cid with | some x => decide (x.sq = 0 ∧ (match s.ctrl c with | some _ => true | _ => false) = true) | _ => false) = true)
    ∧ (let s : State := hosted 4 0 0; let c : Nat := 0; let cid : Nat := 9;
        (match s.turn c cid with | some x => decide (x.sq = 0 ∧ (match s.ctrl c with | some _ => true | _ => false) = true) | _ => false) = true)
    ∧ (let s : State := hosted 4 0 0; let c : Nat := 0; let cid : Nat := 9;
        (match s.turn c cid with | some x => decide (x.sq = 0 ∧ (match s.ctrl c with | some _ => true | _ => false) = true) | _ => false) = true)
    ∧ (let s : State := hosted 4 0 0; let c : Nat := 0; let cid : Nat := 9;
        (match s.turn c cid with | some x => decide (x.sq = 0 ∧ (match s.ctrl c with | some _ => true | _ => false) = true) | _ => false) = true)
    ∧ (let s : State := hosted 4 0 0; let c : Nat := 0; let cid : Nat := 9;
        (match s.turn c cid with | some x => decide (x.sq = 0 ∧ (match s.ctrl c with | some _ => true | _ => false) = true) | _ => false) = true)
    ∧ (let s : State := hosted 4 0 0; let c : Nat := 0; let cid : Nat := 9; let nsid : Nat := 11;
        (match s.turn c cid with | some x => decide (x.sq = 0 ∧ (match s.ctrl c with | some k => decide ((nsid = 1 ∨ nsid = 6 ∨ nsid = 11)) | _ => false) = true) | _ => false) = true)
    ∧ (let s : State := hosted 4 0 0; let c : Nat := 0; let cid : Nat := 9;
        (match s.turn c cid with | some x => decide (x.sq = 0 ∧ (match s.ctrl c with | some _ => true | _ => false) = true) | _ => false) = true)
    ∧ (let s : State := hosted 4 0 0; let c : Nat := 0; let cid : Nat := 9;
        (match s.turn c cid with | some x => decide (x.sq = 0 ∧ (match s.ctrl c with | some _ => true | _ => false) = true) | _ => false) = true)
    ∧ (let s : State := hosted 4 0 0; let c : Nat := 0; let cid : Nat := 9;
        (match s.turn c cid with | some x => decide (x.sq = 0 ∧ (match s.ctrl c with | some k => decide (1 ≤ k.granted) | _ => false) = true) | _ => false) = true)
    ∧ (let s : State := hosted 4 0 0; let c : Nat := 0; let cid : Nat := 9;
        (match s.turn c cid with | some x => decide (x.sq = 0 ∧ (match s.ctrl c with | some _ => true | _ => false) = true) | _ => false) = true)
    ∧ (let s : State := (hosted 4 0 0).modCtrl 0 fun k => { k with granted := 0 }; let c : Nat := 0; let cid : Nat := 9;
        (match s.turn c cid with | some x => decide (x.sq = 0 ∧ (match s.ctrl c with | some k => decide (k.granted = 0) | _ => false) = true) | _ => false) = true)
    ∧ (let s : State := hosted 4 0 0; let c : Nat := 0; let cid : Nat := 9;
        (match s.turn c cid with | some x => decide (x.sq = 0 ∧ (match s.ctrl c with | some _ => true | _ => false) = true) | _ => false) = true)
    ∧ (let s : State := hosted 4 0 0; let c : Nat := 0; let cid : Nat := 9;
        (match s.turn c cid with | some x => decide (x.sq = 0 ∧ (match s.ctrl c with | some _ => true | _ => false) = true) | _ => false) = true)
    ∧ (let s : State := hosted 4 0 0; let c : Nat := 0; let cid : Nat := 9;
        (match s.turn c cid with | some x => decide (x.sq = 0 ∧ (match s.ctrl c with | some _ => true | _ => false) = true) | _ => false) = true)
    ∧ (let s : State := hosted 4 0 0; let c : Nat := 0; let cid : Nat := 9; let nsid : Nat := 16;
        (match s.turn c cid with | some x => decide (x.sq = 0 ∧ (match s.ctrl c with | some k => decide (nsid ∉ [1, 2, 4, 6, 7, 8, 9, 11, 14, 15]) | _ => false) = true) | _ => false) = true)
    ∧ (let s : State := hosted 4 5 0; let c : Nat := 5; let cid : Nat := 9;
        (match s.turn c cid with | some x => decide (x.sq = 0 ∧ (match s.ctrl c with | some k => decide (c ≠ 0) | _ => false) = true) | _ => false) = true)
    ∧ (let s : State := hosted 4 5 0; let c : Nat := 5; let cid : Nat := 9;
        (match s.turn c cid with | some x => decide (x.sq = 0 ∧ (match s.ctrl c with | some k => decide (c ≠ 0) | _ => false) = true) | _ => false) = true)
    ∧ (let s : State := hosted 4 5 0; let c : Nat := 5; let cid : Nat := 9;
        (match s.turn c cid with | some x => decide (x.sq = 0 ∧ (match s.ctrl c with | some k => decide (c ≠ 0) | _ => false) = true) | _ => false) = true)
    ∧ (let s : State := hosted 4 5 0; let c : Nat := 5; let cid : Nat := 9;
        (match s.turn c cid with | some x => decide (x.sq = 0 ∧ (match s.ctrl c with | some k => decide (c ≠ 0) | _ => false) = true) | _ => false) = true)
    ∧ (let s : State := hosted 4 5 0; let c : Nat := 5; let cid : Nat := 9;
        (match s.turn c cid with | some x => decide (x.sq = 0 ∧ (match s.ctrl c with | some k => decide (c ≠ 0) | _ => false) = true) | _ => false) = true)
    ∧ (let s : State := hosted 4 5 0; let c : Nat := 5; let cid : Nat := 9; let v : Nat := 2;
        (match s.turn c cid with | some x => decide (x.sq = 0 ∧ (match s.ctrl c with | some k => decide (c ≠ 0 ∧ v ∉ [0, 8, 0x14, 0x1C, 0x20]) | _ => false) = true) | _ => false) = true)
    ∧ (let s : State := hosted 4 0 0; let c : Nat := 0; let cid : Nat := 9;
        (match s.turn c cid with | some x => decide (x.sq = 0 ∧ (match s.ctrl c with | some k => decide (c = 0) | _ => false) = true) | _ => false) = true) := by
  refine ⟨?_, ?_, ?_, ?_, ?_, ?_, ?_, ?_, ?_, ?_, ?_, ?_, ?_, ?_, ?_, ?_, ?_, ?_, ?_, ?_, ?_, ?_, ?_, ?_, ?_, ?_, ?_, ?_, ?_, ?_, ?_, ?_, ?_, ?_, ?_, ?_, ?_, ?_⟩ <;> decide +kernel

/-- The hypotheses of QueuesAndResets. -/
theorem test_witness_QueuesAndResets :
    (let s : State := hosted 4 0 0; let c : Nat := 0; let cid : Nat := 9; let id : Nat := 8; let size : Nat := 16383;
        (match s.ctrl c with | some k => decide (let free := 1 ≤ id ∧ id ≤ k.granted; (match s.turn c cid with | some x => decide (x.sq = 0 ∧ s.ctrl c = some k ∧ c = 0 ∧ free ∧ id ∉ k.cqs ∧ 1 ≤ size ∧ size ≤ 16383) | _ => false) = true) | _ => false) = true)
    ∧ (let s : State := hosted 4 0 0; let c : Nat := 0; let cid : Nat := 9; let id : Nat := 9;
        (match s.ctrl c with | some k => decide (let free := 1 ≤ id ∧ id ≤ k.granted; (match s.turn c cid with | some x => decide (x.sq = 0 ∧ s.ctrl c = some k ∧ c = 0 ∧ ((¬ free ∨ id ∈ k.cqs))) | _ => false) = true) | _ => false) = true)
    ∧ (let s : State := hosted 4 0 0; let c : Nat := 0; let cid : Nat := 9; let id : Nat := 8; let size : Nat := 16384;
        (match s.ctrl c with | some k => decide (let free := 1 ≤ id ∧ id ≤ k.granted; (match s.turn c cid with | some x => decide (x.sq = 0 ∧ s.ctrl c = some k ∧ c = 0 ∧ free ∧ id ∉ k.cqs ∧ ((size = 0 ∨ 16383 < size))) | _ => false) = true) | _ => false) = true)
    ∧ (let s : State := hosted 4 0 0; let c : Nat := 0; let cid : Nat := 9; let id : Nat := 8; let size : Nat := 16383;
        let cq : Nat := 1;
        (match s.ctrl c with | some k => decide (let free := 1 ≤ id ∧ id ≤ k.granted; (match s.turn c cid with | some x => decide (x.sq = 0 ∧ s.ctrl c = some k ∧ c = 0 ∧ free ∧ (∀ p ∈ k.sqs, p.1 ≠ id) ∧ cq ∈ k.cqs ∧ 1 ≤ size ∧ size ≤ 16383) | _ => false) = true) | _ => false) = true)
    ∧ (let s : State := hosted 4 0 0; let c : Nat := 0; let cid : Nat := 9; let id : Nat := 1;
        (match s.ctrl c with | some k => decide (let free := 1 ≤ id ∧ id ≤ k.granted; (match s.turn c cid with | some x => decide (x.sq = 0 ∧ s.ctrl c = some k ∧ c = 0 ∧ ((¬ free ∨ ∃ p ∈ k.sqs, p.1 = id))) | _ => false) = true) | _ => false) = true)
    ∧ (let s : State := hosted 4 0 0; let c : Nat := 0; let cid : Nat := 9; let id : Nat := 8; let cq : Nat := 2;
        (match s.ctrl c with | some k => decide (let free := 1 ≤ id ∧ id ≤ k.granted; (match s.turn c cid with | some x => decide (x.sq = 0 ∧ s.ctrl c = some k ∧ c = 0 ∧ free ∧ (∀ p ∈ k.sqs, p.1 ≠ id) ∧ cq ∉ k.cqs) | _ => false) = true) | _ => false) = true)
    ∧ (let s : State := hosted 4 0 0; let c : Nat := 0; let cid : Nat := 9; let id : Nat := 8; let size : Nat := 0;
        let cq : Nat := 1;
        (match s.ctrl c with | some k => decide (let free := 1 ≤ id ∧ id ≤ k.granted; (match s.turn c cid with | some x => decide (x.sq = 0 ∧ s.ctrl c = some k ∧ c = 0 ∧ free ∧ (∀ p ∈ k.sqs, p.1 ≠ id) ∧ cq ∈ k.cqs ∧ ((size = 0 ∨ 16383 < size))) | _ => false) = true) | _ => false) = true)
    ∧ (let s : State := (hosted 4 0 0).modCtrl 0 fun k => { k with sqs := [] }; let c : Nat := 0; let cid : Nat := 9;
        let id : Nat := 1;
        (match s.ctrl c with | some k => decide ((match s.turn c cid with | some x => decide (x.sq = 0 ∧ s.ctrl c = some k ∧ c = 0 ∧ id ∈ k.cqs ∧ (∀ p ∈ k.sqs, p.2 ≠ id)) | _ => false) = true) | _ => false) = true)
    ∧ (let s : State := hosted 4 0 0; let c : Nat := 0; let cid : Nat := 9; let id : Nat := 8;
        (match s.ctrl c with | some k => decide ((match s.turn c cid with | some x => decide (x.sq = 0 ∧ s.ctrl c = some k ∧ c = 0 ∧ id ∉ k.cqs) | _ => false) = true) | _ => false) = true)
    ∧ (let s : State := hosted 4 0 0; let c : Nat := 0; let cid : Nat := 9; let id : Nat := 1;
        (match s.ctrl c with | some k => decide ((match s.turn c cid with | some x => decide (x.sq = 0 ∧ s.ctrl c = some k ∧ c = 0 ∧ id ∈ k.cqs ∧ ((∃ p ∈ k.sqs, p.2 = id))) | _ => false) = true) | _ => false) = true)
    ∧ (let s : State := hosted 4 0 0; let c : Nat := 0; let cid : Nat := 9; let id : Nat := 1;
        (match s.ctrl c with | some k => decide ((match s.turn c cid with | some x => decide (x.sq = 0 ∧ s.ctrl c = some k ∧ c = 0 ∧ ((∃ p ∈ k.sqs, p.1 = id))) | _ => false) = true) | _ => false) = true)
    ∧ (let s : State := hosted 4 0 0; let c : Nat := 0; let cid : Nat := 9; let id : Nat := 8;
        (match s.ctrl c with | some k => decide ((match s.turn c cid with | some x => decide (x.sq = 0 ∧ s.ctrl c = some k ∧ c = 0 ∧ (∀ p ∈ k.sqs, p.1 ≠ id)) | _ => false) = true) | _ => false) = true)
    ∧ (let s : State := hosted 4 5 0; let c : Nat := 5; let cid : Nat := 9;
        (match s.ctrl c with | some k => decide ((match s.turn c cid with | some x => decide (x.sq = 0 ∧ s.ctrl c = some k ∧ c ≠ 0) | _ => false) = true) | _ => false) = true)
    ∧ (let s : State := hosted 4 5 0; let c : Nat := 5; let cid : Nat := 9;
        (match s.ctrl c with | some k => decide ((match s.turn c cid with | some x => decide (x.sq = 0 ∧ s.ctrl c = some k ∧ c ≠ 0) | _ => false) = true) | _ => false) = true)
    ∧ (let s : State := hosted 4 5 0; let c : Nat := 5; let cid : Nat := 9; let off : Nat := 0;
        (match s.ctrl c with | some k => decide ((match s.turn c cid with | some x => decide (x.sq = 0 ∧ s.ctrl c = some k ∧ c ≠ 0 ∧ off ≠ 0x14) | _ => false) = true) | _ => false) = true)
    ∧ (let s : State := hosted 4 0 0; let c : Nat := 0; let cid : Nat := 9;
        (match s.ctrl c with | some k => decide ((match s.turn c cid with | some x => decide (x.sq = 0 ∧ s.ctrl c = some k ∧ c = 0) | _ => false) = true) | _ => false) = true)
    ∧ (let s : State := hosted 4 0 0; let c : Nat := 0;
        (match s.ctrl c with | some k => decide (k.en = true) | _ => false) = true)
    ∧ (let s : State := (hosted 4 0 0).modCtrl 0 fun k => { k with en := false }; let c : Nat := 0;
        (match s.ctrl c with | some k => decide (k.en = false) | _ => false) = true)
    ∧ (let s : State := hosted 4 0 0; let c : Nat := 0;
        (match s.ctrl c with | some k => decide (c = 0) | _ => false) = true)
    ∧ (let s : State := hosted 4 5 0; let c : Nat := 5;
        (match s.ctrl c with | some k => decide (c ≠ 0) | _ => false) = true) := by
  refine ⟨?_, ?_, ?_, ?_, ?_, ?_, ?_, ?_, ?_, ?_, ?_, ?_, ?_, ?_, ?_, ?_, ?_, ?_, ?_, ?_⟩ <;> decide +kernel

/-- The hypotheses of FormatsPinsAndFills. -/
theorem test_witness_FormatsPinsAndFills :
    (let s : State := hosted 4 0 0; let c : Nat := 0; let cid : Nat := 9; let nsid : Nat := 15; let m : Nat := 1;
        let p : Nat := 0;
        (match s.turn c cid with | some x => decide (x.sq = 0 ∧ (match s.ctrl c with | some k => decide ((match s.ns nsid with | some n => decide (let fits := n.daf = true ∧ m ≤ 1 ∧ (p = 0 ∨ p = s.reg (nvKey 6)); let written := (n.zones.any fun z => z.state != 0) || (s.granary.lines.any fun l => l.nsid == nsid && l.isDirty) || s.nvme.ctxs.any fun y => match y.op with | .write j _ _ _ _ => j == nsid | _ => false; fits ∧ written = false) | _ => false) = true) | _ => false) = true) | _ => false) = true)
    ∧ (let s : State := hosted 4 0 0; let c : Nat := 0; let cid : Nat := 9; let nsid : Nat := 15; let ses : Nat := 1;
        (match s.turn c cid with | some x => decide (x.sq = 0 ∧ (match s.ctrl c with | some k => decide ((match s.ns nsid with | some n => decide (ses ≠ 0) | _ => false) = true) | _ => false) = true) | _ => false) = true)
    ∧ (let s : State := hosted 4 0 0; let c : Nat := 0; let cid : Nat := 9; let nsid : Nat := 15; let m : Nat := 2;
        let p : Nat := 0;
        (match s.turn c cid with | some x => decide (x.sq = 0 ∧ (match s.ctrl c with | some k => decide ((match s.ns nsid with | some n => decide (let fits := n.daf = true ∧ m ≤ 1 ∧ (p = 0 ∨ p = s.reg (nvKey 6)); ¬ fits) | _ => false) = true) | _ => false) = true) | _ => false) = true)
    ∧ (let s : State := (hosted 4 0 0).modNs 15 fun n => { n with zones := [⟨1, 1, 5⟩] }; let c : Nat := 0;
        let cid : Nat := 9; let nsid : Nat := 15; let m : Nat := 1; let p : Nat := 0;
        (match s.turn c cid with | some x => decide (x.sq = 0 ∧ (match s.ctrl c with | some k => decide ((match s.ns nsid with | some n => decide (let fits := n.daf = true ∧ m ≤ 1 ∧ (p = 0 ∨ p = s.reg (nvKey 6)); let written := (n.zones.any fun z => z.state != 0) || (s.granary.lines.any fun l => l.nsid == nsid && l.isDirty) || s.nvme.ctxs.any fun y => match y.op with | .write j _ _ _ _ => j == nsid | _ => false; fits ∧ written = true) | _ => false) = true) | _ => false) = true) | _ => false) = true)
    ∧ (let s : State := hosted 4 0 0; let c : Nat := 0; let cid : Nat := 9; let nsid : Nat := 14;
        (match s.turn c cid with | some x => decide (x.sq = 0 ∧ (match s.ctrl c with | some k => decide (s.ns nsid = none) | _ => false) = true) | _ => false) = true)
    ∧ (let s : State := hosted 4 0 0; let c : Nat := 0; let cid : Nat := 9; let nsid : Nat := 15; let a : Nat := 131040;
        let m : Nat := 1;
        (match s.turn c cid with | some x => decide (x.sq = 0 ∧ (match s.ctrl c with | some k => decide ((match s.ns nsid with | some n => decide (a + 16 * (m + 1) ≤ n.nsze ∧ s.mediaReady nsid = true ∧ s.granary.pins.length < 256) | _ => false) = true) | _ => false) = true) | _ => false) = true)
    ∧ (let s : State := hosted 4 0 0; let c : Nat := 0; let cid : Nat := 9; let nsid : Nat := 15; let a : Nat := 131041;
        let m : Nat := 1;
        (match s.turn c cid with | some x => decide (x.sq = 0 ∧ (match s.ctrl c with | some k => decide ((match s.ns nsid with | some n => decide (n.nsze < a + 16 * (m + 1)) | _ => false) = true) | _ => false) = true) | _ => false) = true)
    ∧ (let s : State := hosted 3 0 0; let c : Nat := 0; let cid : Nat := 9; let nsid : Nat := 15; let a : Nat := 131040;
        let m : Nat := 1;
        (match s.turn c cid with | some x => decide (x.sq = 0 ∧ (match s.ctrl c with | some k => decide ((match s.ns nsid with | some n => decide (a + 16 * (m + 1) ≤ n.nsze ∧ s.mediaReady nsid = false) | _ => false) = true) | _ => false) = true) | _ => false) = true)
    ∧ (let s : State := (hosted 4 0 0).modGr fun g => { g with pins := (List.range 256).map fun i => ⟨i, 15, 2, 0, 1, [0], 0⟩ };
        let c : Nat := 0; let cid : Nat := 9; let nsid : Nat := 15; let a : Nat := 131040; let m : Nat := 1;
        (match s.turn c cid with | some x => decide (x.sq = 0 ∧ (match s.ctrl c with | some k => decide ((match s.ns nsid with | some n => decide (a + 16 * (m + 1) ≤ n.nsze ∧ s.mediaReady nsid = true ∧ 256 ≤ s.granary.pins.length) | _ => false) = true) | _ => false) = true) | _ => false) = true)
    ∧ (let s : State := (hosted 4 0 0).modGr fun g => { g with pins := (List.range 256).map fun i => ⟨i, 15, 2, 0, 1, [0], 0⟩ };
        let c : Nat := 0; let cid : Nat := 9; let id : Nat := 255;
        (match s.turn c cid with | some x => decide (x.sq = 0 ∧ (match s.ctrl c with | some k => decide (((∃ p ∈ s.granary.pins, p.id = id))) | _ => false) = true) | _ => false) = true)
    ∧ (let s : State := (hosted 4 0 0).modGr fun g => { g with pins := (List.range 256).map fun i => ⟨i, 15, 2, 0, 1, [0], 0⟩ };
        let c : Nat := 0; let cid : Nat := 9; let id : Nat := 256;
        (match s.turn c cid with | some x => decide (x.sq = 0 ∧ (match s.ctrl c with | some k => decide ((∀ p ∈ s.granary.pins, p.id ≠ id)) | _ => false) = true) | _ => false) = true)
    ∧ (let s : State := (lined .valid).modGr fun g => { g with ops := [⟨15, 0, .demand, true, false, false, false, none, [(0, [])], [], false⟩] };
        let nsid : Nat := 15; let cl : Nat := 0;
        (match s.op nsid cl with | some o => decide (let filling := o.dispatched = true ∧ o.committed = false ∧ (s.fromPool o = false ∨ o.got ≠ []) ∧ (o.kind = .demand ∨ o.kind = .prefetch ∨ o.kind = .refill ∨ o.kind = .merge); filling ∧ (match s.line nsid cl with | some _ => true | _ => false) = true) | _ => false) = true)
    ∧ (let s : State := (hosted 4 0 1).modGr fun g => { g with ops := [⟨15, 0, .demand, true, false, false, false, none, [(0, [])], [], false⟩] };
        let nsid : Nat := 15; let cl : Nat := 0;
        (match s.op nsid cl with | some o => decide (let filling := o.dispatched = true ∧ o.committed = false ∧ (s.fromPool o = false ∨ o.got ≠ []) ∧ (o.kind = .demand ∨ o.kind = .prefetch ∨ o.kind = .refill ∨ o.kind = .merge); filling ∧ s.line nsid cl = none ∧ o.victim = none ∧ (match s.victim (s.setOf nsid cl) with | some _ => true | _ => false) = true) | _ => false) = true)
    ∧ (let s : State := ((hosted 4 0 1).modGr fun g => { g with ops := [⟨15, 0, .demand, true, false, false, false, none, [(0, [])], [], false⟩] }).modGr fun g => { g with lines := (List.range 16).map fun w => { line .dirty with set := State.reset.setOf 15 0, way := w, cluster := 8192 * w + 1, state := .writing } };
        let nsid : Nat := 15; let cl : Nat := 0;
        (match s.op nsid cl with | some o => decide (let filling := o.dispatched = true ∧ o.committed = false ∧ (s.fromPool o = false ∨ o.got ≠ []) ∧ (o.kind = .demand ∨ o.kind = .prefetch ∨ o.kind = .refill ∨ o.kind = .merge); filling ∧ s.line nsid cl = none ∧ o.victim = none ∧ s.victim (s.setOf nsid cl) = none) | _ => false) = true)
    ∧ (let s : State := (hosted 4 0 1).modGr fun g => { g with ops := [⟨15, 0, .demand, true, false, false, false, (some 15), [(0, [])], [], false⟩] };
        let nsid : Nat := 15; let cl : Nat := 0;
        (match s.op nsid cl with | some o => decide (let filling := o.dispatched = true ∧ o.committed = false ∧ (s.fromPool o = false ∨ o.got ≠ []) ∧ (o.kind = .demand ∨ o.kind = .prefetch ∨ o.kind = .refill ∨ o.kind = .merge); filling ∧ s.line nsid cl = none ∧ (match o.victim with | some w => decide (((s.setLines (s.setOf nsid cl)).all fun l => l.way != w || l.state == .evicting) = true) | _ => false) = true) | _ => false) = true)
    ∧ (let s : State := (hosted 4 0 1).modGr fun g => { g with ops := [⟨15, 0, .metadata, true, false, false, false, none, [], [], false⟩] };
        let nsid : Nat := 15; let cl : Nat := 0; let z := s.setOf nsid cl;
        (match s.op nsid cl with | some o => decide (o.dispatched = true ∧ o.committed = false ∧ o.kind = .metadata ∧ o.victim = none ∧ s.line nsid cl = none ∧ s.lockedWays z < 4 ∧ (match s.victim z with | some _ => true | _ => false) = true) | _ => false) = true)
    ∧ (let s : State := ((hosted 4 0 1).modGr fun g => { g with ops := [⟨15, 0, .metadata, true, false, false, false, none, [], [], false⟩] }).modGr fun g => { g with lines := (List.range 16).map fun w => { line .dirty with set := State.reset.setOf 15 0, way := w, cluster := 8192 * w + 1, state := .writing } };
        let nsid : Nat := 15; let cl : Nat := 0; let z := s.setOf nsid cl;
        (match s.op nsid cl with | some o => decide (o.dispatched = true ∧ o.committed = false ∧ o.kind = .metadata ∧ o.victim = none ∧ s.line nsid cl = none ∧ s.lockedWays z < 4 ∧ s.victim z = none) | _ => false) = true)
    ∧ (let s : State := ((hosted 4 0 1).modGr fun g => { g with ops := [⟨15, 0, .metadata, true, false, false, false, none, [], [], false⟩] }).modGr fun g => { g with pins := [⟨1, 15, 1, 0, 4, [], 0⟩], lines := (List.range 4).map fun w => { line .valid with set := State.reset.setOf 15 0, way := w, cluster := w + 1, lock := 2 } };
        let nsid : Nat := 15; let cl : Nat := 0; let z := s.setOf nsid cl;
        (match s.op nsid cl with | some o => decide (o.dispatched = true ∧ o.committed = false ∧ o.kind = .metadata ∧ o.victim = none ∧ s.line nsid cl = none ∧ 4 ≤ s.lockedWays z ∧ (match s.pinToGive z with | some _ => true | _ => false) = true) | _ => false) = true)
    ∧ (let s : State := ((hosted 4 0 1).modGr fun g => { g with ops := [⟨15, 0, .metadata, true, false, false, false, none, [], [], false⟩] }).modGr fun g => { g with lines := (List.range 4).map fun w => { line .valid with set := State.reset.setOf 15 0, way := w, cluster := w + 1, lock := 1 } };
        let nsid : Nat := 15; let cl : Nat := 0; let z := s.setOf nsid cl;
        (match s.op nsid cl with | some o => decide (o.dispatched = true ∧ o.committed = false ∧ o.kind = .metadata ∧ o.victim = none ∧ s.line nsid cl = none ∧ 4 ≤ s.lockedWays z ∧ s.pinToGive z = none ∧ (match s.victim z with | some _ => true | _ => false) = true) | _ => false) = true)
    ∧ (let s : State := (lined .filling).modGr fun g => { g with ops := [⟨15, 0, .demand, true, true, false, false, none, [(15, [])], [], false⟩] };
        let nsid : Nat := 15; let cl : Nat := 0; let b : Nat := 15;
        (match s.op nsid cl with | some o => decide (s.fromPool o = true ∧ (match findKey b o.got with | some _ => true | _ => false) = true) | _ => false) = true)
    ∧ (let s : State := (lined .filling).modGr fun g => { g with ops := [⟨15, 0, .demand, true, true, false, false, none, [(14, [])], [], false⟩] };
        let nsid : Nat := 15; let cl : Nat := 0; let b : Nat := 15;
        (match s.op nsid cl with | some o => decide (s.fromPool o = true ∧ findKey b o.got = none) | _ => false) = true)
    ∧ (let s : State := ((lined .filling).modGr fun g => { g with ops := [⟨15, 0, .demand, true, true, false, false, none, [], [], false⟩] }).modNs 15 fun n => { n with daf := false };
        let nsid : Nat := 15; let cl : Nat := 0;
        (match s.op nsid cl with | some o => decide (s.fromPool o = false ∧ o.kind ≠ .test) | _ => false) = true)
    ∧ (let s : State := (lined .filling).modGr fun g => { g with ops := [⟨15, 0, .demand, true, true, false, false, none, [], [], false⟩] };
        let nsid : Nat := 15; let cl : Nat := 0;
        (match s.op nsid cl with | some o => decide (o.committed = true ∧ o.bypass = false ∧ s.carriesPi nsid = false) | _ => false) = true)
    ∧ (let s : State := ((lined .filling).modGr fun g => { g with ops := [⟨15, 0, .demand, true, true, false, false, none, [], [], false⟩] }).modNs 15 fun n => { n with lbaf := 1 };
        let nsid : Nat := 15; let cl : Nat := 0; let b : Nat := 15;
        let o : MediaOp := ⟨15, 0, .demand, true, true, false, false, none, [], [], false⟩; let blk : Block := badGuard;
        s.op nsid cl = some o ∧ o.committed = true ∧ s.carriesPi nsid = true
          ∧ piCheck (s.reg (nvKey 6)) (16 * cl + b) blk = .guard)
    ∧ (let s : State := (lined .filling).modGr fun g => { g with ops := [⟨15, 0, .demand, true, true, false, false, none, [], [], false⟩] };
        let nsid : Nat := 15; let cl : Nat := 0; s.fillOver nsid cl = true)
    ∧ (let s : State := hosted 4 0 0; let nsid : Nat := 15; let cl : Nat := 0; s.fillOver nsid cl = false)
    ∧ (let s : State := (lined .filling).modGr fun g => { g with ops := [⟨15, 0, .demand, true, true, false, false, none, [], [], false⟩] };
        let nsid : Nat := 15; let cl : Nat := 0;
        let o : MediaOp := ⟨15, 0, .demand, true, true, false, false, none, [], [], false⟩;
        (s.granary.ops.filter fun y => y.nsid == nsid && y.cluster == cl && !y.ended) = [o] ∧ o.dispatched = true
          ∧ o.kind = .demand
          ∧ (match s.line nsid cl with | some l => decide (l.state = .filling ∧ l.valid = 65535 ∧ l.dirty = 0 ∧ o.bypass = false ∧ (∀ y ∈ s.nvme.ctxs, y.op = .fetched)) | _ => false) = true)
    ∧ (let s : State := (lined .filling).modGr fun g => { g with ops := [⟨15, 0, .merge, true, true, false, false, none, [], [], false⟩] };
        let nsid : Nat := 15; let cl : Nat := 0;
        (match s.op nsid cl with | some o => decide (o.kind = .merge ∧ o.dispatched = true ∧ s.fillOver nsid cl = true) | _ => false) = true)
    ∧ (let s : State := (hosted 4 0 1).modCtx 3 (fun x => { x with op := .write 15 0 [block] true false });
        let c : Nat := 0; let cid : Nat := 9;
        (match s.nvme.ctxs.find? (fun z => z.ctrl == c && z.cid == cid && match z.op with | .write _ _ _ _ _ => true | _ => false) with | some y => decide ((match y.op with | .write nsid a _ _ _ => true | _ => false) = true) | _ => false) = true) := by
  refine ⟨by decide +kernel, by decide +kernel, by decide +kernel, by decide +kernel, by decide +kernel, by decide +kernel, by decide +kernel, by decide +kernel, by decide +kernel, by decide +kernel, by decide +kernel, by decide +kernel, by decide +kernel, by decide +kernel, by decide +kernel, by decide +kernel, by decide +kernel, by decide +kernel, by decide +kernel, by decide +kernel, by decide +kernel, by decide +kernel, by decide +kernel, ?_, by decide +kernel, by decide +kernel, by decide +kernel, by decide +kernel, by decide +kernel⟩
  · exact ⟨by decide +kernel, by decide +kernel, by decide +kernel, badGuard_fails _ _⟩

/-- The hypotheses of LogPagesAndFirmware. -/
theorem test_witness_LogPagesAndFirmware :
    (let s : State := hosted 4 0 0; let c : Nat := 0; let cid : Nat := 9; let page : Nat := 1;
        (match s.turn c cid with | some x => decide (x.sq = 0 ∧ (match s.ctrl c with | some k => decide ((match s.logPage k page with | some _ => true | _ => false) = true) | _ => false) = true) | _ => false) = true)
    ∧ (let s : State := hosted 4 0 0; let c : Nat := 0; let cid : Nat := 9; let page : Nat := 255;
        (match s.turn c cid with | some x => decide (x.sq = 0 ∧ (match s.ctrl c with | some k => decide (s.logPage k page = none) | _ => false) = true) | _ => false) = true)
    ∧ (let s : State := hosted 4 0 0; let c : Nat := 0; let cid : Nat := 9; let off : Nat := 25161728;
        let b : List Byte := [0, 0, 0, 0];
        let aligned := off % 4096 = 0 ∧ b ≠ [] ∧ b.length % 4 = 0 ∧ off + b.length ≤ 25165824;
        (match s.turn c cid with | some x => decide (x.sq = 0 ∧ (match s.ctrl c with | some k => decide (aligned) | _ => false) = true) | _ => false) = true)
    ∧ (let s : State := hosted 4 0 0; let c : Nat := 0; let cid : Nat := 9; let off : Nat := 25165824;
        let b : List Byte := [0, 0, 0, 0];
        let aligned := off % 4096 = 0 ∧ b ≠ [] ∧ b.length % 4 = 0 ∧ off + b.length ≤ 25165824;
        (match s.turn c cid with | some x => decide (x.sq = 0 ∧ (match s.ctrl c with | some k => decide (¬ aligned) | _ => false) = true) | _ => false) = true)
    ∧ (let s : State := hosted 4 0 0; let c : Nat := 0; let cid : Nat := 9; let slot : Nat := 1;
        let n := if slot = 0 then 2 - s.reg (key 0x2100 4) else slot;
        let other := 1 ≤ n ∧ n ≤ 2 ∧ n ≠ s.reg (key 0x2100 4) + 1;
        (match s.turn c cid with | some x => decide (x.sq = 0 ∧ (match s.ctrl c with | some k => decide (¬ other) | _ => false) = true) | _ => false) = true)
    ∧ (let s : State := hosted 4 0 0; let c : Nat := 0; let cid : Nat := 9; let slot : Nat := 2;
        let n := if slot = 0 then 2 - s.reg (key 0x2100 4) else slot;
        let other := 1 ≤ n ∧ n ≤ 2 ∧ n ≠ s.reg (key 0x2100 4) + 1;
        (match s.turn c cid with | some x => decide (x.sq = 0 ∧ (match s.ctrl c with | some k => decide (other) | _ => false) = true) | _ => false) = true)
    ∧ (let s : State := (hosted 4 0 0).modNvme fun n => { n with download := [(0, [0, 0, 0, 0])] }; let c : Nat := 0;
        let cid : Nat := 9; let slot : Nat := 2; let x : Ctx := ⟨3, 0, 0, 9, .fetched, false⟩; let k : Ctrl := ctrlOn 0;
        let i : FirmwareImage := imageOf (gather 0 s.nvme.download);
        let n := if slot = 0 then 2 - s.reg (key 0x2100 4) else slot;
        let other := 1 ≤ n ∧ n ≤ 2 ∧ n ≠ s.reg (key 0x2100 4) + 1;
        let loaded := s.nvme.download ≠ [] ∧ i = imageOf (gather 0 s.nvme.download); s.turn c cid = some x ∧ x.sq = 0
          ∧ s.ctrl c = some k ∧ other ∧ loaded)
    ∧ (let s : State := { hosted 4 0 0 with nor := { Nor.initial with banks := [none, some image] } }; let c : Nat := 0;
        let cid : Nat := 9; let slot : Nat := 2; let i : FirmwareImage := image;
        let n := if slot = 0 then 2 - s.reg (key 0x2100 4) else slot;
        let other := 1 ≤ n ∧ n ≤ 2 ∧ n ≠ s.reg (key 0x2100 4) + 1; let w := s.tempWake 94; let code := w.imageCode i;
        (match s.turn c cid with | some x => decide (x.sq = 0 ∧ (match s.ctrl c with | some k => decide (other ∧ (s.nvme.download = [] ∧ s.nor.banks.getD (n - 1) none = some i) ∧ code = 0) | _ => false) = true) | _ => false) = true)
    ∧ (let s : State := { hosted 4 0 0 with nor := { Nor.initial with banks := [none, some { image with wellFormed := false }] } };
        let c : Nat := 0; let cid : Nat := 9; let slot : Nat := 2;
        let i : FirmwareImage := { image with wellFormed := false };
        let n := if slot = 0 then 2 - s.reg (key 0x2100 4) else slot;
        let other := 1 ≤ n ∧ n ≤ 2 ∧ n ≠ s.reg (key 0x2100 4) + 1; let w := s.tempWake 94; let code := w.imageCode i;
        (match s.turn c cid with | some x => decide (x.sq = 0 ∧ (match s.ctrl c with | some k => decide (other ∧ (s.nvme.download = [] ∧ s.nor.banks.getD (n - 1) none = some i) ∧ code ≠ 0) | _ => false) = true) | _ => false) = true)
    ∧ (let s : State := hosted 4 0 0; let c : Nat := 0; let cid : Nat := 9; let slot : Nat := 2;
        let n := if slot = 0 then 2 - s.reg (key 0x2100 4) else slot;
        let other := 1 ≤ n ∧ n ≤ 2 ∧ n ≠ s.reg (key 0x2100 4) + 1;
        (match s.turn c cid with | some x => decide (x.sq = 0 ∧ (match s.ctrl c with | some k => decide (other ∧ s.nvme.download = []) | _ => false) = true) | _ => false) = true)
    ∧ (let s : State := hosted 4 0 0; let c : Nat := 0; let cid : Nat := 9; let slot : Nat := 2;
        let n := if slot = 0 then 2 - s.reg (key 0x2100 4) else slot;
        let other := 1 ≤ n ∧ n ≤ 2 ∧ n ≠ s.reg (key 0x2100 4) + 1;
        (match s.turn c cid with | some x => decide (x.sq = 0 ∧ (match s.ctrl c with | some k => decide (other ∧ s.nvme.download = []) | _ => false) = true) | _ => false) = true)
    ∧ (let s : State := hosted 4 0 0; let c : Nat := 0; let cid : Nat := 9; let slot : Nat := 2;
        let n := if slot = 0 then 2 - s.reg (key 0x2100 4) else slot;
        let other := 1 ≤ n ∧ n ≤ 2 ∧ n ≠ s.reg (key 0x2100 4) + 1;
        (match s.turn c cid with | some x => decide (x.sq = 0 ∧ (match s.ctrl c with | some k => decide (other ∧ s.nvme.download = [] ∧ s.nor.banks.getD (n - 1) none = none) | _ => false) = true) | _ => false) = true)
    ∧ (let s : State := ((hosted 4 0 0).modCtx 3 fun x => { x with op := .activate 2 }).modNvme fun n => { n with ctxs := n.ctxs ++ [⟨4, 0, 1, 10, .flush (.all [15]) 4 0, false⟩] };
        let slot : Nat := 2;
        (match s.activation with | some (m, n) => decide (s.draining m = true) | _ => false) = true)
    ∧ (let s : State := (hosted 4 0 0).modCtx 3 fun x => { x with op := .activate 2 }; let slot : Nat := 2;

        (match s.activation with | some (m, n) => decide (s.draining m = false) | _ => false) = true)
    ∧ (let s : State := hosted 4 0 0; s.activation = none) := by
  refine ⟨by decide +kernel, by decide +kernel, by decide +kernel, by decide +kernel, by decide +kernel, by decide +kernel, ?_, by decide +kernel, by decide +kernel, by decide +kernel, by decide +kernel, by decide +kernel, by decide +kernel, by decide +kernel, by decide +kernel⟩
  · exact ⟨by decide +kernel, by decide +kernel, by decide +kernel, by decide +kernel, by decide +kernel, rfl⟩

/-- The hypotheses of BistRuns. -/
theorem test_witness_BistRuns :
    (let s : State := awake; let kind : Nat := 1; let inst : Nat := 7; s.bistRun kind inst = none)
    ∧ (let s : State := bistAt 1 7 .running false true; let kind : Nat := 1; let inst : Nat := 7;
        (match s.bistRun kind inst with | some r => decide (r.stage = .running ∧ r.stop = true) | _ => false) = true)
    ∧ (let s : State := bistAt 1 7 .running false false; let kind : Nat := 1; let inst : Nat := 7;
        (match s.bistRun kind inst with | some r => decide (r.stage = .running ∧ r.stop = false) | _ => false) = true)
    ∧ (let s : State := bistAt 7 1 .pool false false; let kind : Nat := 7; let inst : Nat := 1;
        (match s.bistRun kind inst with | some r => decide (r.stage = .pool) | _ => false) = true)
    ∧ (let s : State := bistAt 1 7 .tokens false false; let kind : Nat := 1; let inst : Nat := 7;
        (match s.bistRun kind inst with | some r => decide (((r.stage ≠ .running ∨ s.partOn kind inst = false))) | _ => false) = true)
    ∧ (let s : State := bistAt 1 7 .running false false; let kind : Nat := 1; let inst : Nat := 7;
        let sig : Nat := (Config.expectedSignature (partNumber 1 7)).toNat;
        let r : BistRun := ⟨1, 7, .object, .running, 0, false, false⟩;
        let good := sig = (Config.expectedSignature (partNumber kind inst)).toNat; s.bistRun kind inst = some r
          ∧ r.stage = .running ∧ s.partOn kind inst = true ∧ kind ≠ 8 ∧ good)
    ∧ (let s : State := bistAt 1 7 .running true false; let kind : Nat := 1; let inst : Nat := 7;
        let sig : Nat := 2 ^ 64; let r : BistRun := ⟨1, 7, .object, .running, 0, true, false⟩;
        let good := sig = (Config.expectedSignature (partNumber kind inst)).toNat; s.bistRun kind inst = some r
          ∧ r.stage = .running ∧ s.partOn kind inst = true ∧ kind ≠ 8 ∧ ¬ good ∧ r.again = true)
    ∧ (let s : State := bistAt 1 7 .running false false; let kind : Nat := 1; let inst : Nat := 7;
        let sig : Nat := 2 ^ 64; let r : BistRun := ⟨1, 7, .object, .running, 0, false, false⟩;
        let good := sig = (Config.expectedSignature (partNumber kind inst)).toNat; s.bistRun kind inst = some r
          ∧ r.stage = .running ∧ s.partOn kind inst = true ∧ kind ≠ 8 ∧ ¬ good ∧ r.again = false)
    ∧ (let s : State := bistAt 8 0 .running false false; let kind : Nat := 8; let inst : Nat := 0;
        (match s.bistRun kind inst with | some r => decide (r.stage = .running ∧ s.partOn kind inst = true ∧ kind = 8) | _ => false) = true)
    ∧ (let s : State := awake.setReg (key 0x2500 1) 24; s.reg (key 0x2500 1) ≠ 0 ∧ s.powerState = psRun
          ∧ s.bistState 5 = true ∧ s.bist.runs = [] ∧ s.bist.out = [] ∧ s.bist.table = [])
    ∧ (let s : State := awake.setReg (key 0x2500 1) 0;
        ((s.reg (key 0x2500 1) = 0 ∨ s.powerState ≠ psRun ∨ s.bistState 5 = false)))
    ∧ (let s : State := bistAt 6 63 .pool false false; let j : Nat := 63;
        (match s.bistRun 6 j with | some r => decide (r.active = false) | _ => false) = true)
    ∧ (let s : State := bistAt 6 63 .running false false; let j : Nat := 63;
        (match s.bistRun 6 j with | some r => decide (r.active = true) | _ => false) = true)
    ∧ (let s : State := awake; let j : Nat := 63; s.bistRun 6 j = none)
    ∧ (let s : State := bistAt 7 1 .running false false; let r : BistRun := ⟨7, 1, .object, .running, 0, false, false⟩;
        s.bist.runs = [r] ∧ ((5 ≤ r.kind ∧ r.kind ≤ 7)) ∧ r.stage = .running)
    ∧ (let s : State := bistAt 1 7 .running false false;
        ((∀ x ∈ s.bist.runs, (5 ≤ x.kind ∧ x.kind ≤ 7) → x.stage ≠ .running)))
    ∧ (let s : State := { awake with power := { awake.power with spinWaits := [7] } };
        s.freeSlots = true
          ∧ (match s.power.spinWaits with | i :: l => decide (s.firedBefore i = false) | _ => false) = true)
    ∧ (let s : State := ({ awake with power := { awake.power with spinWaits := [7] } } : State).modStn 7 (fun t => { t with fired := 5 }) |>.modStn 6 fun t => { t with fired := 5, spinPhase := 1 };
        s.freeSlots = true
          ∧ (match s.power.spinWaits with | i :: l => decide (s.firedBefore i = true) | _ => false) = true)
    ∧ (let s : State := awake; s.freeSlots = true ∧ s.power.spinWaits = [])
    ∧ (let s : State := awake.setReg (key 0x2100 9) 0; s.freeSlots = false)
    ∧ (let s : State := awake; s.freeSlots = true)
    ∧ (let s : State := ({ bistAt 1 7 .running false false with power := { awake.power with spinWaits := [0] } } : State).setReg (key 0x2100 9) 0;
        let j : Nat := 7; s.freeSlots = false
          ∧ (match s.power.spinWaits with | i :: l => decide (i ≠ j ∧ (match (s.stationRuns j).find? (fun r => r.stage == .running) with | some _ => true | _ => false) = true) | _ => false) = true) := by
  refine ⟨by decide +kernel, by decide +kernel, by decide +kernel, by decide +kernel, by decide +kernel, ?_, ?_, ?_, by decide +kernel, by decide +kernel, by decide +kernel, by decide +kernel, by decide +kernel, by decide +kernel, by decide +kernel, by decide +kernel, by decide +kernel, by decide +kernel, by decide +kernel, by decide +kernel, by decide +kernel, by decide +kernel⟩
  · exact ⟨by decide +kernel, by decide +kernel, by decide +kernel, by decide +kernel, rfl⟩
  · exact ⟨by decide +kernel, by decide +kernel, by decide +kernel, by decide +kernel, fun e => Nat.lt_irrefl _ (e ▸ BitVec.isLt _), by decide +kernel⟩
  · exact ⟨by decide +kernel, by decide +kernel, by decide +kernel, by decide +kernel, fun e => Nat.lt_irrefl _ (e ▸ BitVec.isLt _), by decide +kernel⟩

/-- The hypotheses of SelfTests. -/
theorem test_witness_SelfTests :
    (let s : State := hosted 4 0 0; let c : Nat := 0; let cid : Nat := 9; let nsid : Nat := 0xFFFFFFFF;
        let all := nsid = 0 ∨ nsid = 0xFFFFFFFF;
        (match s.turn c cid with | some x => decide (x.sq = 0 ∧ (match s.ctrl c with | some k => decide (s.selfTest = none ∧ all) | _ => false) = true) | _ => false) = true)
    ∧ (let s : State := hosted 4 0 0; let c : Nat := 0; let cid : Nat := 9; let nsid : Nat := 14;
        let all := nsid = 0 ∨ nsid = 0xFFFFFFFF;
        (match s.turn c cid with | some x => decide (x.sq = 0 ∧ (match s.ctrl c with | some k => decide (s.selfTest = none ∧ ¬ all ∧ s.ns nsid = none) | _ => false) = true) | _ => false) = true)
    ∧ (let s : State := { hosted 4 0 0 with selfTest := some ⟨1, 0, 15, [], [], 0⟩ }; let c : Nat := 0;
        let cid : Nat := 9;
        (match s.turn c cid with | some x => decide (x.sq = 0 ∧ (match s.ctrl c with | some k => decide ((match s.selfTest with | some _ => true | _ => false) = true) | _ => false) = true) | _ => false) = true)
    ∧ (let s : State := hosted 4 0 0; let c : Nat := 0; let cid : Nat := 9;
        (match s.turn c cid with | some x => decide (x.sq = 0 ∧ (match s.ctrl c with | some _ => true | _ => false) = true) | _ => false) = true)
    ∧ (let s : State := { hosted 4 0 0 with selfTest := some ⟨1, 0, 15, [], [], 0⟩ };
        (match s.selfTest with | some _ => true | _ => false) = true)
    ∧ (let s : State := hosted 4 0 0; s.selfTest = none)
    ∧ (let s : State := hosted 4 0 0; let st : Nat := 7; s.stTest st = none)
    ∧ (let s : State := { hosted 4 0 0 with selfTest := some ⟨1, 15, 0, [⟨7, [], [(14, 0)], [], true, 0, [3, 5], false, 0⟩], [], 0⟩ };
        let st : Nat := 7;
        (match s.stTest st with | some y => decide (y.running = [] ∧ s.stIdle st = true ∧ s.stState st < stMaint ∧ y.loops ≠ []) | _ => false) = true)
    ∧ (let s : State := { hosted 6 0 0 with selfTest := some ⟨1, 15, 0, [⟨7, [], [(14, 0)], [], true, 0, [3, 5], false, 0⟩], [], 0⟩ };
        let st : Nat := 7;
        (match s.stTest st with | some y => decide (((y.running ≠ [] ∨ s.stIdle st = false ∨ stMaint ≤ s.stState st ∨ y.loops = []))) | _ => false) = true)
    ∧ (let s : State := awake; let e : Nat := 23; (s.eng e).meas = none)
    ∧ (let s : State := measuring ⟨2, 8, 4, 1, true, 7, 0, [], [], 0⟩; let e : Nat := 23;
        (match (s.eng e).meas with | some m => decide (let ended := m.outcome (Config.freeValue s.fresh.1); ended = none) | _ => false) = true)
    ∧ (let s : State := measuring ⟨2, 8, 4, 1, true, 8, 0, [], [(1000, 16777216, 0), (2000, 8388608, 8388608)], 0⟩;
        let e : Nat := 23;
        (match (s.eng e).meas with | some m => decide (let ended := m.outcome (Config.freeValue s.fresh.1); m.object = true ∧ (match ended with | some (.done _ _ _ _ _) => true | _ => false) = true) | _ => false) = true)
    ∧ (let s : State := measuring ⟨2, 8, 4, 1, true, 0, 0, [], [], 2⟩; let e : Nat := 23;
        (match (s.eng e).meas with | some m => decide (let ended := m.outcome (Config.freeValue s.fresh.1); m.object = true ∧ (match ended with | some (.failed _) => true | _ => false) = true) | _ => false) = true) := by
  refine ⟨?_, ?_, ?_, ?_, ?_, ?_, ?_, ?_, ?_, ?_, ?_, ?_, ?_⟩ <;> decide +kernel

/-- The hypotheses of BackgroundCalibration. -/
theorem test_witness_BackgroundCalibration :
    (let s : State := awake.setReg (calKey 3) 7; let v : Nat := 18999;
        let up := s.powerState = psRun ∨ (s.powerState = psBoot ∧ 1 ≤ s.power.phase); up ∧ ((v < 19000 ∨ 21000 < v)))
    ∧ (let s : State := awake.setReg (key 0x2400 2) 1; let v : Nat := 21000;
        let up := s.powerState = psRun ∨ (s.powerState = psBoot ∧ 1 ≤ s.power.phase); up ∧ 19000 ≤ v ∧ v ≤ 21000
          ∧ s.reg (key 0x2400 2) = 1)
    ∧ (let s : State := awake.setReg (calKey 3) 7; let v : Nat := 19000;
        let up := s.powerState = psRun ∨ (s.powerState = psBoot ∧ 1 ≤ s.power.phase); up ∧ 19000 ≤ v ∧ v ≤ 21000
          ∧ s.reg (key 0x2400 2) ≠ 1)
    ∧ (let s : State := State.reset.setReg (key 0x2100 1) 2;
        let up := s.powerState = psRun ∨ (s.powerState = psBoot ∧ 1 ≤ s.power.phase); ¬ up)
    ∧ (let s : State := awake.setReg (calKey 3) 7; let h : Nat := 15; let a : Nat := 8;
        let f : CalFit := ⟨-4, 32768, 6⟩;
        let fits := fun (k : Nat) (w lo hi : Int) (step : Nat) => lo ≤ w ∧ w ≤ hi ∧ (w - s.regI 16 k).natAbs ≤ step;
        let unit := key (0x2420 + h) (0x13 + a); s.calOn 1 = true ∧ s.afeOn h = true ∧ s.tokenHolder h = none ∧ a < 9
          ∧ s.reg unit < 128 ∧ fits (key (0x2420 + h) (1 + a)) f.offset (-64) 64 4
          ∧ ((29492 ≤ f.gain ∧ f.gain ≤ 36044 ∧ ((f.gain : Int) - s.reg (key (0x2420 + h) (0x0A + a))).natAbs ≤ 163)))
    ∧ (let s : State := awake.setReg (calKey 3) 7; let h : Nat := 15; let a : Nat := 8;
        let f : CalFit := ⟨-65, 32768, 6⟩;
        let fits := fun (k : Nat) (w lo hi : Int) (step : Nat) => lo ≤ w ∧ w ≤ hi ∧ (w - s.regI 16 k).natAbs ≤ step;
        let unit := key (0x2420 + h) (0x13 + a); s.calOn 1 = true ∧ s.afeOn h = true ∧ s.tokenHolder h = none ∧ a < 9
          ∧ s.reg unit < 128 ∧ s.reg unit % 16 + 1 < s.reg (key 0x2400 7)
          ∧ ¬ fits (key (0x2420 + h) (1 + a)) f.offset (-64) 64 4)
    ∧ (let s : State := (awake.setReg (calKey 3) 7).setReg (key (0x2420 + 15) (0x13 + 8)) 255; let h : Nat := 15;
        let a : Nat := 8; let unit := key (0x2420 + h) (0x13 + a); s.calOn 1 = true ∧ s.afeOn h = true
          ∧ s.tokenHolder h = none ∧ 128 ≤ s.reg unit ∧ s.reg unit < 256)
    ∧ (let s : State := awake.setReg (calKey 3) 5; let h : Nat := 15;
        ((s.calOn 1 = false ∨ s.afeOn h = false ∨ s.tokenHolder h ≠ none)))
    ∧ (let s : State := ({ awake with part := { State.reset.part with wide := true } } : State).setReg (calKey 3) 7;
        let h : Nat := 15; let a : Nat := 7; a < s.beams ∧ s.stationPresent (h / 2) = true ∧ s.calOn 0 = true
          ∧ s.afeOn h = true ∧ s.channelOn h = true)
    ∧ (let s : State := ({ awake with part := { State.reset.part with wide := true } } : State).setReg (calKey 3) 7;
        let h : Nat := 15; let a : Nat := 8; ((s.beams ≤ a ∨ s.stationPresent (h / 2) = false)))
    ∧ (let s : State := awake.setReg (calKey 3) 6; let h : Nat := 15; let a : Nat := 3; a < s.beams
          ∧ s.stationPresent (h / 2) = true ∧ ((s.calOn 0 = false ∨ s.afeOn h = false ∨ s.channelOn h = false)))
    ∧ (let s : State := awake.setReg (calKey 3) 7; let h : Nat := 15; h < 16 ∧ s.calOn 2 = true ∧ s.afeOn h = true
          ∧ s.calMay 2 h = true ∧ s.cal.round = none)
    ∧ (let s : State := awake.setReg (calKey 3) 7; let h : Nat := 7; s.calOn 2 = true ∧ s.motorOn h = true
          ∧ s.calMay 3 h = true ∧ s.cal.round = none)
    ∧ (let s : State := awake.setReg (calKey 3) 3; s.calOn 2 = false ∧ s.cal.round = none) := by
  refine ⟨?_, ?_, ?_, ?_, ?_, ?_, ?_, ?_, ?_, ?_, ?_, ?_, ?_, ?_⟩ <;> decide +kernel

/-- The hypotheses of WiringAndGrants. -/
theorem test_witness_WiringAndGrants :
    (let s : State := awake; let st : Nat := 7; (s.stn st).wiring = none)
    ∧ (let s : State := awake.modStn 7 fun t => { t with wiring := some ⟨7, 4, 0, 0, 0, 0, false, 0, false⟩ };
        let st : Nat := 7; let part : Nat := 2; let w : Wiring := (⟨7, 4, 0, 0, 0, 0, false, 0, false⟩ : Wiring);
        let e := partHolder st part; (s.stn st).wiring = some w
          ∧ ((bitOf w.parts part = false ∨ s.holdsTokens (.wiring e) = false ∨ (part ≠ 0 ∧ s.domState (6 * st + part) ≠ 3) ∨ s.powerState ≠ psRun)))
    ∧ (let s : State := { awake.modStn 7 fun t => { t with wiring := some ⟨7, 4, 0, 0, 0, 0, false, 0, false⟩ } with arb := [⟨.wiring 15, [15], 0, true⟩] };
        let st : Nat := 7; let part : Nat := 2; let w : Wiring := (⟨7, 4, 0, 0, 0, 0, false, 0, false⟩ : Wiring);
        let e := partHolder st part; (s.stn st).wiring = some w ∧ bitOf w.parts part = true
          ∧ s.holdsTokens (.wiring e) = true ∧ ((part ≠ 0 → s.domState (6 * st + part) = 3)) ∧ s.powerState = psRun)
    ∧ (let s : State := station 1; let st : Nat := 7; let n : Nat := 54; let src : Int := 1101; let snk : Int := 99;
        let afe : Int := 3300; let kind := biasKind src snk afe;
        let may := n ∈ [35, 36, 37, 38, 45, 48, 51, 52, 53, 54]; s.stState st ≠ stOff ∧ may ∧ isFaultKind kind = true
          ∧ s.reg (connKey st 0 n) ≠ kind)
    ∧ (let s : State := station 1; let st : Nat := 7; let n : Nat := 54; let src : Int := 1100; let snk : Int := 20;
        let afe : Int := 3300; let kind := biasKind src snk afe;
        let may := n ∈ [35, 36, 37, 38, 45, 48, 51, 52, 53, 54];
        ((s.stState st = stOff ∨ ¬ may ∨ isFaultKind kind = false ∨ s.reg (connKey st 0 n) = kind)))
    ∧ (let s : State := { awake with arb := [⟨.bist 1 7, [7], 0, false⟩] };
        let r : TokenReq := (⟨.bist 1 7, [7], 0, false⟩ : TokenReq); s.nextGrant = some r)
    ∧ (let s : State := { awake with arb := [⟨.bist 1 7, [7], 0, true⟩] }; s.nextGrant = none) := by
  refine ⟨?_, ?_, ?_, ?_, ?_, ?_, ?_⟩ <;> decide +kernel

/-- The hypotheses of ReadChannel. -/
theorem test_witness_ReadChannel :
    (let s : State := headAt 3; let h : Nat := 15; let b : Nat := 7; let v : Bool := false;
        let spare := s.reg (chKey h 8 3); let deg := s.reg (chKey h 8 4);
        let may := b < s.beams ∧ (if v then spare = 0xFF ∧ bitOf deg 8 = false else spare = b ∧ bitOf deg b = false);
        ¬ may)
    ∧ (let s : State := (headAt 4).setReg (chKey 15 8 3) 7; let h : Nat := 15; let b : Nat := 7; let rms : Nat := 65535;
        let v : Bool := false; let spare := s.reg (chKey h 8 3); let deg := s.reg (chKey h 8 4);
        let may := b < s.beams ∧ (if v then spare = 0xFF ∧ bitOf deg 8 = false else spare = b ∧ bitOf deg b = false);
        let turned := s.substate h = hsWriting ∨ s.defectHold h = true ∨ s.reg (chKey h 8 2) < rms; may ∧ turned)
    ∧ (let s : State := (headAt 4).setReg (chKey 15 8 3) 7; let h : Nat := 15; let b : Nat := 7; let rms : Nat := 0;
        let v : Bool := false; let spare := s.reg (chKey h 8 3); let deg := s.reg (chKey h 8 4);
        let may := b < s.beams ∧ (if v then spare = 0xFF ∧ bitOf deg 8 = false else spare = b ∧ bitOf deg b = false);
        let turned := s.substate h = hsWriting ∨ s.defectHold h = true ∨ s.reg (chKey h 8 2) < rms; may ∧ ¬ turned)
    ∧ (let s : State := headAt 3; let h : Nat := 15;
        let on := hsTracking ≤ s.substate h ∧ s.domState (6 * (h / 2) + 3 + h % 2) = 3; on)
    ∧ (let s : State := headAt 2; let h : Nat := 15;
        let on := hsTracking ≤ s.substate h ∧ s.domState (6 * (h / 2) + 3 + h % 2) = 3; ¬ on)
    ∧ (let s : State := headAt 2; let h : Nat := 15; let b : Nat := 7;
        let starts := hsTracking ≤ s.substate h ∧ b < s.beams; ¬ starts)
    ∧ (let s : State := (headAt 3).setReg (stKey 7 0 6) 1; let h : Nat := 15; let b : Nat := 7;
        let bd := s.bdIn (h / 2); let starts := hsTracking ≤ s.substate h ∧ b < s.beams; starts ∧ bd = true)
    ∧ (let s : State := headAt 3; let h : Nat := 15; let b : Nat := 7;
        let fr : Option FrameIn := (some ⟨9, [], [], false, 0⟩ : Option FrameIn);
        let ask : Option SectorAsk := (none : Option SectorAsk); let bd := s.bdIn (h / 2);
        let starts := hsTracking ≤ s.substate h ∧ b < s.beams; starts ∧ bd = false ∧ ((ask = none ∨ fr = none)))
    ∧ (let s : State := headAt 3; let h : Nat := 15; let b : Nat := 7;
        let fr : Option FrameIn := (some ⟨9, [], [], false, 0⟩ : Option FrameIn);
        let ask : Option SectorAsk := (some ⟨15, 0, 17, true⟩ : Option SectorAsk);
        let f : FrameIn := ⟨9, [], [], false, 0⟩; let a : SectorAsk := ⟨15, 0, 17, true⟩; let bd := s.bdIn (h / 2);
        let starts := hsTracking ≤ s.substate h ∧ b < s.beams; starts ∧ bd = false ∧ ask = some a ∧ fr = some f)
    ∧ (let s : State := { pooled .firstWait true with pool := [{ sector .firstWait true with slice := none }] }.setReg (key 0x2102 49) 3;
        let k : Nat := 0; let x : Sector := { sector .firstWait true with slice := none }; s.pool = [x]
          ∧ x.stage = .firstWait ∧ x.verify = true ∧ s.stillWanted x = true ∧ s.freeSlice = some k)
    ∧ (let s : State := awake; let nsid : Nat := 15; let cl : Nat := 0; let idx : Nat := 17;
        s.sector nsid cl idx = none)
    ∧ (let s : State := pooled .full false; let nsid : Nat := 15; let cl : Nat := 0; let idx : Nat := 17;
        let x : Sector := sector .full false; s.sector nsid cl idx = some x ∧ x.stage ≠ .first)
    ∧ (let s : State := { awake with pool := [sector .first false] }; let nsid : Nat := 15; let cl : Nat := 0;
        let idx : Nat := 17; let x : Sector := sector .first false; s.sector nsid cl idx = some x ∧ x.stage = .first
          ∧ s.stillWanted x = false)
    ∧ (let s : State := pooled .first false; let nsid : Nat := 15; let cl : Nat := 0; let idx : Nat := 17;
        let x : Sector := sector .first false; let out : DecodeOut := goodOut; let first := x.verdict x.innerFirst out;
        s.sector nsid cl idx = some x ∧ x.stage = .first ∧ s.stillWanted x = true ∧ first = .ok)
    ∧ (let s : State := pooled .first false; let nsid : Nat := 15; let cl : Nat := 0; let idx : Nat := 17;
        let x : Sector := sector .first false; let out : DecodeOut := badOut; let first := x.verdict x.innerFirst out;
        s.sector nsid cl idx = some x ∧ x.stage = .first ∧ s.stillWanted x = true ∧ first ≠ .ok ∧ x.verify = false
          ∧ x.enable = true)
    ∧ (let s : State := pooled .first true; let nsid : Nat := 15; let cl : Nat := 0; let idx : Nat := 17;
        let x : Sector := sector .first true; let out : DecodeOut := badOut; let first := x.verdict x.innerFirst out;
        s.sector nsid cl idx = some x ∧ x.stage = .first ∧ s.stillWanted x = true ∧ first ≠ .ok
          ∧ ((x.verify = true ∨ x.enable = false)))
    ∧ (let s : State := pooled .ring false; let nsid : Nat := 15; let cl : Nat := 0; let idx : Nat := 17;
        let x : Sector := sector .ring false; let out : DecodeOut := goodOut; let again := x.verdict x.innerRetry out;
        s.sector nsid cl idx = some x ∧ x.stage = .ring ∧ s.stillWanted x = true ∧ again = .ok)
    ∧ (let s : State := { pooled .ring false with pool := [{ sector .ring false with globals := 63 }] };
        let nsid : Nat := 15; let cl : Nat := 0; let idx : Nat := 17;
        let x : Sector := { sector .ring false with globals := 63 }; let out : DecodeOut := badOut;
        let again := x.verdict x.innerRetry out; s.sector nsid cl idx = some x ∧ x.stage = .ring
          ∧ s.stillWanted x = true ∧ again ≠ .ok ∧ (x.globalEnds out.unsat).2 = true)
    ∧ (let s : State := { pooled .ring false with pool := [{ sector .ring false with slice := none }] };
        let nsid : Nat := 15; let cl : Nat := 0; let idx : Nat := 17;
        let x : Sector := { sector .ring false with slice := none }; let out : DecodeOut := badOut;
        let again := x.verdict x.innerRetry out; s.sector nsid cl idx = some x ∧ x.stage = .ring
          ∧ s.stillWanted x = true ∧ again ≠ .ok ∧ (x.globalEnds out.unsat).2 = false
          ∧ (s.countVerdict x again).preempts = false ∧ x.slice = none)
    ∧ (let s : State := pooled .full false; let nsid : Nat := 15; let cl : Nat := 0; let idx : Nat := 17;
        let x : Sector := sector .full false; let out : DecodeOut := goodOut; let again := x.verdict x.innerRetry out;
        s.sector nsid cl idx = some x ∧ x.stage = .full ∧ s.stillWanted x = true ∧ again = .ok)
    ∧ (let s : State := headAt 3; let nsid : Nat := 15; let cl : Nat := 0;
        let xs := s.pool.filter fun x => x.nsid == nsid && x.cl == cl && !x.verify; xs = [])
    ∧ (let s : State := { awake with pool := (List.range 18).map fun i => { sector .good false with idx := i } };
        let nsid : Nat := 15; let cl : Nat := 0;
        let xs := s.pool.filter fun x => x.nsid == nsid && x.cl == cl && !x.verify; ((∀ i < 18, ∃ y ∈ xs, y.idx = i))
          ∧ (∀ y ∈ xs, y.stage = .good))
    ∧ (let s : State := { awake with pool := (List.range 18).map fun i => { sector (if i < 2 then .lost else .good) false with idx := i } };
        let nsid : Nat := 15; let cl : Nat := 0;
        let xs := s.pool.filter fun x => x.nsid == nsid && x.cl == cl && !x.verify;
        let lost := xs.filter fun x => x.stage == .lost; ((∀ i < 18, ∃ y ∈ xs, y.idx = i))
          ∧ ((∀ y ∈ xs, y.stage = .good ∨ y.stage = .lost)) ∧ lost ≠ [] ∧ lost.length ≤ 2)
    ∧ (let s : State := (headAt 3).modHd 15 fun d => { d with hunt := 128 }; let h : Nat := 15; let b : Nat := 7;
        let n : Nat := 41584; bitOf (s.hd h).hunt b = true ∧ 41584 ≤ n + s.reg (stKey (h / 2) 0xC3 1)
          ∧ n ≤ 41584 + s.reg (stKey (h / 2) 0xC3 1))
    ∧ (let s : State := headAt 3; let h : Nat := 15; let b : Nat := 7; let n : Nat := 0;
        ((bitOf (s.hd h).hunt b = false ∨ n + s.reg (stKey (h / 2) 0xC3 1) < 41584 ∨ 41584 + s.reg (stKey (h / 2) 0xC3 1) < n))) := by
  refine ⟨?_, ?_, ?_, ?_, ?_, ?_, ?_, ?_, ?_, ?_, ?_, ?_, ?_, ?_, ?_, ?_, ?_, ?_, ?_, ?_, ?_, ?_, ?_, ?_, ?_⟩ <;> decide +kernel

/-- The hypotheses of LinksAndHbm. -/
theorem test_witness_LinksAndHbm :
    (let s : State := awake.setRegs [(key 0x4000 3, 4), (key 0x4000 4, 8), (key 0x2102 75, 3), (key 0x2102 76, 3)];
        let speed : Nat := 4; let width : Nat := 8;
        let trains := 1 ≤ speed ∧ speed ≤ s.reg (key 0x4000 3) ∧ width ∈ [1, 2, 4, 8] ∧ width ≤ s.reg (key 0x4000 4) ∧ s.domState 74 = 3 ∧ bitOf s.power.refLost 2 = false ∧ (width ≤ 4 ∨ s.domState 75 = 3) ∧ s.held = false;
        trains)
    ∧ (let s : State := hbm; let speed : Nat := 6; let width : Nat := 8;
        let trains := 1 ≤ speed ∧ speed ≤ s.reg (key 0x4000 3) ∧ width ∈ [1, 2, 4, 8] ∧ width ≤ s.reg (key 0x4000 4) ∧ s.domState 74 = 3 ∧ bitOf s.power.refLost 2 = false ∧ (width ≤ 4 ∨ s.domState 75 = 3) ∧ s.held = false;
        ¬ trains)
    ∧ (let s : State := awake.setRegs [(key 0x2102 73, 3), (key 0x4100 1, 1)]; let p : Nat := 0; let up : Bool := true;
        let port := p < hostPorts (s.reg (key 0x4100 1)) ∧ ((s.domState 72 = 3 ∧ bitOf s.power.refLost 0 = false) ∨ up = false);
        port)
    ∧ (let s : State := hbm; let p : Nat := 15; let up : Bool := true;
        let port := p < hostPorts (s.reg (key 0x4100 1)) ∧ ((s.domState 72 = 3 ∧ bitOf s.power.refLost 0 = false) ∨ up = false);
        ¬ port)
    ∧ (let s : State := hbm; s.powerState = psRun)
    ∧ (let s : State := State.reset; s.powerState ≠ psRun)
    ∧ (let s : State := hbm; let pass : Bool := false; let at_ := s.scrubAt pass;
        let scrubs := s.hbmUp = true ∧ s.tokensFree [tokHbm (adStack at_) (adChannel at_)] = true; scrubs)
    ∧ (let s : State := awake; let pass : Bool := false; let at_ := s.scrubAt pass;
        let scrubs := s.hbmUp = true ∧ s.tokensFree [tokHbm (adStack at_) (adChannel at_)] = true; ¬ scrubs)
    ∧ (let s : State := { hbm with hbm := { hbm.hbm with wants := [0] } }; let a : Nat := 0; let row := rowOfAddr a;
        let soft := s.hbmUp = true ∧ row ∈ s.hbm.wants ∧ s.tokensFree [tokHbm (adStack a) (adChannel a)] = true; soft)
    ∧ (let s : State := hbm; let a : Nat := 0; let row := rowOfAddr a;
        let soft := s.hbmUp = true ∧ row ∈ s.hbm.wants ∧ s.tokensFree [tokHbm (adStack a) (adChannel a)] = true; ¬ soft)
    ∧ (let s : State := hbm.setRegs [(key 0x4600 4, 0), (key 0x4600 5, 1), (key 0x2300 2, 1)];
        let window := s.powerState = psRun ∧ s.hbmUp = true ∧ s.inHardWindow = true ∧ (∀ i < s.part.stations, s.stState i ≠ stReady ∧ s.stState i ≠ stActive);
        window)
    ∧ (let s : State := hbm;
        let window := s.powerState = psRun ∧ s.hbmUp = true ∧ s.inHardWindow = true ∧ (∀ i < s.part.stations, s.stState i ≠ stReady ∧ s.stState i ≠ stActive);
        ¬ window)
    ∧ (let use : HbmUse := .reeve; onDie use = true)
    ∧ (let s : State := awake; let a : Nat := 0; let use : HbmUse := .plain; onDie use = false
          ∧ ((s.hbmUp = false ∨ s.regionOf a = none)))
    ∧ (let s : State := { hbm with ring := [⟨15, 7, 0, 9, 0, 0, 0, 0, 32, [], []⟩] }; let a : Nat := hbm.regionBase 1;
        let n : Nat := 0; s.hbmUp = true ∧ s.regionOf a = some 1
          ∧ ((∃ f, s.ring[n]? = some f ∧ bitOf f.flags 5 = true)))
    ∧ (let s : State := hbm; let a : Nat := hbm.regionBase 1; let n : Nat := 0; s.hbmUp = true ∧ s.regionOf a = some 1
          ∧ ((∀ f, s.ring[n]? = some f → bitOf f.flags 5 = false)))
    ∧ (let s : State := hbm; let a : Nat := 0; s.hbmUp = true ∧ s.regionOf a = some 0)
    ∧ (let s : State := hbm; let a : Nat := hbm.regionBase 2; let n : Nat := 2; s.hbmUp = true ∧ s.regionOf a = some n
          ∧ 2 ≤ n)
    ∧ (let s : State := hbm; let a : Nat := hbm.regionBase 2; s.hbmUp = true ∧ s.regionOf a = some 2)
    ∧ (let s : State := booting.modPower fun p => { p with bankOk := true };
        let x : StackTraining := (⟨none, 16, []⟩ : StackTraining);
        let y : StackTraining := (⟨none, 16, []⟩ : StackTraining);
        let idle := s.powerState = psBoot ∧ 2 ≤ s.power.phase ∧ s.power.bankOk = true ∧ s.power.hbmOk = false ∧ s.power.lowering = false ∧ s.held = false;
        idle ∧ x.fail = none ∧ y.fail = none ∧ s.hbm.map = [])
    ∧ (let s : State := booting.modPower fun p => { p with bankOk := true }; let n : Nat := 3;
        let x : StackTraining := (⟨some 3, 16, []⟩ : StackTraining);
        let idle := s.powerState = psBoot ∧ 2 ≤ s.power.phase ∧ s.power.bankOk = true ∧ s.power.hbmOk = false ∧ s.power.lowering = false ∧ s.held = false;
        idle ∧ x.fail = some n)
    ∧ (let s : State := booting.modPower fun p => { p with bankOk := true }; let n : Nat := 3;
        let x : StackTraining := (⟨none, 16, []⟩ : StackTraining);
        let y : StackTraining := (⟨some 3, 16, []⟩ : StackTraining);
        let idle := s.powerState = psBoot ∧ 2 ≤ s.power.phase ∧ s.power.bankOk = true ∧ s.power.hbmOk = false ∧ s.power.lowering = false ∧ s.held = false;
        idle ∧ x.fail = none ∧ y.fail = some n)
    ∧ (let s : State := booting;
        let idle := s.powerState = psBoot ∧ 2 ≤ s.power.phase ∧ s.power.bankOk = true ∧ s.power.hbmOk = false ∧ s.power.lowering = false ∧ s.held = false;
        ¬ idle) := by
  refine ⟨by decide +kernel, by decide +kernel, by decide +kernel, by decide +kernel, by decide +kernel, by decide +kernel, by decide +kernel, by decide +kernel, by decide +kernel, by decide +kernel, by decide +kernel, by decide +kernel, by decide +kernel, by decide +kernel, ?_, ?_, by decide +kernel, by decide +kernel, by decide +kernel, by decide +kernel, by decide +kernel, by decide +kernel, by decide +kernel⟩
  · exact ⟨by decide +kernel, by decide +kernel, _, rfl, by decide +kernel⟩
  · exact ⟨by decide +kernel, by decide +kernel, fun f h => nomatch h⟩

/-- The hypotheses of LedgerAndQuotes. -/
theorem test_witness_LedgerAndQuotes :
    (let code : Nat := 0x0C03; codeDefined code = true)
    ∧ (let code : Nat := 0x0C99; codeDefined code = false)
    ∧ (let s : State := { awake with ledger := { awake.ledger with sram := [⟨1, 0x0C03, 0, 3, 0, 0, 0, []⟩] } };
        let due := s.reg (key 0x2200 4) ≤ s.ledger.unflushed ∨ ∃ r ∈ s.ledger.sram, s.ledger.flushed < r.seq ∧ 3 ≤ r.severity;
        due)
    ∧ (let s : State := awake;
        let due := s.reg (key 0x2200 4) ≤ s.ledger.unflushed ∨ ∃ r ∈ s.ledger.sram, s.ledger.flushed < r.seq ∧ 3 ≤ r.severity;
        ¬ due)
    ∧ (let s : State := { awake with now := awake.reg (key 0x2200 5) * 1000000 };
        let late := s.ledger.lastFlush + s.reg (key 0x2200 5) * 1000000 ≤ s.now; late)
    ∧ (let s : State := awake; let late := s.ledger.lastFlush + s.reg (key 0x2200 5) * 1000000 ≤ s.now; ¬ late)
    ∧ (let s : State := { awake with ledger := { awake.ledger with flushTo := some 0 } }; s.ledger.flushTo ≠ none)
    ∧ (let s : State := { awake with ledger := { awake.ledger with flushTo := some 0 } }; s.ledger.flushTo ≠ none)
    ∧ (let s : State := awake; s.ledger.flushTo = none)
    ∧ (let s : State := { awake with ledger := { awake.ledger with clearing := [255] } }; let n : Nat := 255;
        let rest : List Nat := []; s.ledger.clearing = n :: rest)
    ∧ (let s : State := awake; s.ledger.clearing = [])
    ∧ (let s : State := { awake with sec := { awake.sec with signer := [⟨[1], none⟩] } };
        let j : QuoteJob := (⟨[1], none⟩ : QuoteJob); let js : List QuoteJob := []; s.sec.signer = j :: js
          ∧ s.domState 94 = 3 ∧ j.ask = none)
    ∧ (let s : State := { hosted 4 0 0 with sec := { awake.sec with signer := [⟨[1], some 3⟩] } }; let q : Nat := 3;
        let x : Ctx := ⟨3, 0, 0, 9, .fetched, false⟩; let j : QuoteJob := ⟨[1], some 3⟩; let js : List QuoteJob := [];
        let signed := { s with sec := { s.sec with signer := js } }.signQuote j.nonce; s.sec.signer = j :: js
          ∧ s.domState 94 = 3 ∧ j.ask = some q ∧ signed.2.ctx q = some x)
    ∧ (let s : State := { awake with sec := { awake.sec with signer := [⟨[1], some 3⟩] } }; let q : Nat := 3;
        let j : QuoteJob := ⟨[1], some 3⟩; let js : List QuoteJob := [];
        let signed := { s with sec := { s.sec with signer := js } }.signQuote j.nonce; s.sec.signer = j :: js
          ∧ s.domState 94 = 3 ∧ j.ask = some q ∧ signed.2.ctx q = none)
    ∧ (let s : State := awake; ((s.sec.signer = [] ∨ s.domState 94 ≠ 3)))
    ∧ (let s : State := ((hosted 4 0 0).setReg (key 0x5000 1) 3).setSecFlag 1 true; let c : Nat := 0;
        let cid : Nat := 9;
        (match s.turn c cid with | some x => decide (x.sq = 0 ∧ (match s.ctrl c with | some k => decide (s.lcOwned = true ∧ s.identityValid = true) | _ => false) = true) | _ => false) = true)
    ∧ (let s : State := hosted 4 0 0; let c : Nat := 0; let cid : Nat := 9;
        (match s.turn c cid with | some x => decide (x.sq = 0 ∧ (match s.ctrl c with | some k => decide (((s.lcOwned = false ∨ s.identityValid = false))) | _ => false) = true) | _ => false) = true)
    ∧ (let s : State := { awake with sec := { awake.sec with openUntil := some 5 } }; s.sec.openUntil ≠ none)
    ∧ (let s : State := awake; s.sec.openUntil = none)
    ∧ (let s : State := { awake with sec := { awake.sec with lockUntil := some 5 } }; s.sec.lockUntil ≠ none)
    ∧ (let s : State := awake; s.sec.lockUntil = none) := by
  refine ⟨?_, ?_, ?_, ?_, ?_, ?_, ?_, ?_, ?_, ?_, ?_, ?_, ?_, ?_, ?_, ?_, ?_, ?_, ?_, ?_, ?_⟩ <;> decide +kernel

/-- The hypotheses of HeadOrders. -/
theorem test_witness_HeadOrders :
    (let s : State := headRuns 2 1 15 0; let h : Nat := 15; let x := s.sq h; s.runs h 1 = true ∧ x.started = 0
          ∧ s.focusOk h = false)
    ∧ (let s : State := ((headRuns 0 1 15 0).setReg (setKey 15 4 3) 0).modHd 15 fun d => { d with pklUp := true, identity := true };
        let h : Nat := 15; let x := s.sq h; s.runs h 1 = true ∧ x.started = 0 ∧ s.focusOk h = true
          ∧ s.noGain h 4 = true)
    ∧ (let s : State := ((headRuns 0 1 15 0).setReg (setKey 15 4 3) 1).modHd 15 fun d => { d with pklUp := true, identity := true };
        let h : Nat := 15; let x := s.sq h; s.runs h 1 = true ∧ x.started = 0 ∧ s.focusOk h = true
          ∧ s.noGain h 4 = false)
    ∧ (let s : State := (loopAt 15 0 lsSearch 0 (headRuns 1 1 15 1)).modHd 15 fun d => { d with scan := { d.scan with reversed := true } };
        let h : Nat := 15; let x := s.sq h; let d := s.hd h; let searching := s.loopState h 0 = lsSearch;
        s.runs h 1 = true ∧ x.started ≠ 0 ∧ searching ∧ d.scan.reversed = true)
    ∧ (let s : State := loopAt 15 0 lsSearch 0 (headRuns 1 1 15 1); let h : Nat := 15; let x := s.sq h; let d := s.hd h;
        let k := x.param % 16; let searching := s.loopState h 0 = lsSearch;
        let ended := searching ∧ (s.lp h 0).ramp = none; s.runs h 1 = true ∧ x.started ≠ 0 ∧ ended ∧ d.scan.back = false
          ∧ d.scan.counted ≤ k)
    ∧ (let s : State := (loopAt 15 0 lsSearch 0 (headRuns 1 1 15 1)).modHd 15 fun d => { d with scan := { d.scan with n := 16 } };
        let h : Nat := 15; let x := s.sq h; let d := s.hd h; let k := x.param % 16;
        let searching := s.loopState h 0 = lsSearch; let ended := searching ∧ (s.lp h 0).ramp = none; s.runs h 1 = true
          ∧ x.started ≠ 0 ∧ ended ∧ d.scan.back = false ∧ k < d.scan.counted)
    ∧ (let s : State := (loopAt 15 0 lsSearch 0 (headRuns 1 1 15 1)).modHd 15 fun d => { d with tries := 65535, scan := { d.scan with back := true } };
        let h : Nat := 15; let x := s.sq h; let d := s.hd h; let searching := s.loopState h 0 = lsSearch;
        let ended := searching ∧ (s.lp h 0).ramp = none; s.runs h 1 = true ∧ x.started ≠ 0 ∧ ended ∧ d.scan.back = true
          ∧ s.reg (hdKey h 0x11 4) ≤ d.tries)
    ∧ (let s : State := (loopAt 15 0 lsSearch 0 (headRuns 1 1 15 1)).modHd 15 fun d => { d with scan := { d.scan with back := true } };
        let h : Nat := 15; let x := s.sq h; let d := s.hd h; let searching := s.loopState h 0 = lsSearch;
        let ended := searching ∧ (s.lp h 0).ramp = none; s.runs h 1 = true ∧ x.started ≠ 0 ∧ ended ∧ d.scan.back = true
          ∧ d.tries < s.reg (hdKey h 0x11 4))
    ∧ (let s : State := (loopAt 15 0 lsSearch 0 (headRuns 1 1 15 1)).modHd 15 fun d => { d with scan := { d.scan with cross := true } };
        let h : Nat := 15; let x := s.sq h; let d := s.hd h; let searching := s.loopState h 0 = lsSearch;
        s.runs h 1 = true ∧ x.started ≠ 0 ∧ searching ∧ d.scan.cross = true)
    ∧ (let s : State := ((loopAt 15 0 lsClosed 0 (headRuns 1 1 15 1)).modLp 15 0 fun p => { p with age := 10000000 }).modHd 15 fun d => { d with sense := { d.sense with confOk := true } };
        let h : Nat := 15; let x := s.sq h; let d := s.hd h;
        let quiet := s.aged h 0 (s.reg (hdKey h 0x11 7)) = true ∧ d.sense.confOk = true; s.runs h 1 = true
          ∧ x.started ≠ 0 ∧ quiet)
    ∧ (let s : State := headRuns 1 1 15 1; let h : Nat := 15; let x := s.sq h;
        let searching := s.loopState h 0 = lsSearch; s.runs h 1 = true ∧ x.started ≠ 0 ∧ ¬ searching)
    ∧ (let s : State := headRuns 1 1 15 1; let h : Nat := 15; let x := s.sq h; let d := s.hd h;
        let quiet := s.aged h 0 (s.reg (hdKey h 0x11 7)) = true ∧ d.sense.confOk = true; s.runs h 1 = true
          ∧ x.started ≠ 0 ∧ ¬ quiet)
    ∧ (let s : State := headAt 1; let h : Nat := 15; s.runs h 1 = false)
    ∧ (let s : State := headRuns 2 2 0 0; let h : Nat := 15; let x := s.sq h; let sub := s.substate h; s.runs h 2 = true
          ∧ x.started = 0 ∧ sub = hsFocused)
    ∧ (let s : State := headRuns 3 2 0 0; let h : Nat := 15; let x := s.sq h; let sub := s.substate h; s.runs h 2 = true
          ∧ x.started = 0 ∧ sub ≠ hsFocused)
    ∧ (let s : State := (loopAt 15 1 lsOpen 0 (headRuns 2 2 0 1)).modLp 15 1 fun p => { p with turn := 2 ^ 32 };
        let h : Nat := 15; let x := s.sq h; let d := s.hd h; s.runs h 2 = true ∧ x.started ≠ 0 ∧ d.sense.chk = 0
          ∧ s.loopState h 1 = lsOpen ∧ s.reg (hdKey h 0x11 0x0A) * 65536 ≤ (s.lp h 1).turn)
    ∧ (let s : State := (headRuns 2 2 0 1).modHd 15 fun d => { d with sense := { d.sense with chk := 3 } };
        let h : Nat := 15; let x := s.sq h; let d := s.hd h; s.runs h 2 = true ∧ x.started ≠ 0 ∧ d.sense.chk = 3)
    ∧ (let s : State := crossing ((headRuns 2 2 0 1).setReg (setKey 15 1 3) 0); let h : Nat := 15; let x := s.sq h;
        let d := s.hd h; let crossing := s.loopState h 1 = lsOpen ∧ s.validCrossing h = true; s.runs h 2 = true
          ∧ x.started ≠ 0 ∧ d.sense.chk = 2 ∧ crossing ∧ s.noGain h 1 = true)
    ∧ (let s : State := crossing ((headRuns 2 2 0 1).setReg (setKey 15 1 3) 1); let h : Nat := 15; let x := s.sq h;
        let d := s.hd h; let crossing := s.loopState h 1 = lsOpen ∧ s.validCrossing h = true; s.runs h 2 = true
          ∧ x.started ≠ 0 ∧ d.sense.chk = 2 ∧ crossing ∧ s.noGain h 1 = false)
    ∧ (let s : State := headRuns 2 2 0 1; let h : Nat := 15; let x := s.sq h;
        let crossing := s.loopState h 1 = lsOpen ∧ s.validCrossing h = true; s.runs h 2 = true ∧ x.started ≠ 0
          ∧ ¬ crossing)
    ∧ (let s : State := headAt 2; let h : Nat := 15; s.runs h 2 = false)
    ∧ (let s : State := headRuns 1 5 0 0; let h : Nat := 15; let x := s.sq h; let sub := s.substate h; let d := s.hd h;
        let tracks := sub = hsTracking ∨ sub = hsFollowing; s.runs h 5 = true ∧ x.started = 0 ∧ d.recovery ≠ 2
          ∧ ¬ tracks)
    ∧ (let s : State := headRuns 3 5 0 0; let h : Nat := 15; let x := s.sq h; let sub := s.substate h; let d := s.hd h;
        let tracks := sub = hsTracking ∨ sub = hsFollowing; s.runs h 5 = true ∧ x.started = 0 ∧ d.recovery ≠ 2 ∧ tracks)
    ∧ (let s : State := headRuns 3 5 0 1; let h : Nat := 15; let x := s.sq h; s.runs h 5 = true ∧ x.started = 1)
    ∧ (let s : State := crossing ((loopAt 15 0 lsClosed 0 (headRuns 3 5 0 2)).setReg (setKey 15 1 3) 1);
        let h : Nat := 15; let x := s.sq h; let crossing := s.loopState h 1 = lsOpen ∧ s.validCrossing h = true;
        s.runs h 5 = true ∧ x.started = 2 ∧ s.loopState h 0 = lsClosed ∧ crossing ∧ s.noGain h 1 = false)
    ∧ (let s : State := settledAt (headRuns 3 5 0 4); let h : Nat := 15; let x := s.sq h;
        let settled := s.aged h 1 (s.reg (hdKey h 0x12 9)) = true; s.runs h 5 = true ∧ x.started = 4 ∧ settled)
    ∧ (let s : State := headAt 3; let h : Nat := 15; s.runs h 5 = false)
    ∧ (let s : State := headRuns 4 3 2 0; let h : Nat := 15; let x := s.sq h; let sub := s.substate h;
        let jumps := sub = hsFocused ∨ sub = hsTracking ∨ sub = hsFollowing; s.runs h 3 = true ∧ x.started = 0 ∧ jumps)
    ∧ (let s : State := headRuns 1 3 2 0; let h : Nat := 15; let x := s.sq h; let sub := s.substate h;
        let jumps := sub = hsFocused ∨ sub = hsTracking ∨ sub = hsFollowing; s.runs h 3 = true ∧ x.started = 0
          ∧ ¬ jumps)
    ∧ (let s : State := crossing ((headRuns 2 3 2 1).setReg (setKey 15 1 3) 1); let h : Nat := 15; let x := s.sq h;
        let sub := s.substate h; let crossing := s.loopState h 1 = lsOpen ∧ s.validCrossing h = true; s.runs h 3 = true
          ∧ x.started = 1 ∧ sub = hsFocused ∧ s.reg (hdKey h 0x15 0x0C) = 0 ∧ crossing ∧ s.noGain h 1 = false)
    ∧ (let s : State := headRuns 1 3 2 1; let h : Nat := 15; let x := s.sq h; let sub := s.substate h; s.runs h 3 = true
          ∧ x.started = 1 ∧ sub ≠ hsFocused)
    ∧ (let s : State := settledAt (headRuns 3 3 2 2); let h : Nat := 15; let x := s.sq h;
        let settled := s.aged h 1 (s.reg (hdKey h 0x12 9)) = true; s.runs h 3 = true ∧ x.started = 2 ∧ settled)
    ∧ (let s : State := headAt 3; let h : Nat := 15; s.runs h 3 = false)
    ∧ (let s : State := headRuns 4 4 65535 0; let h : Nat := 15; let x := s.sq h; let sub := s.substate h;
        let n := toSigned 16 x.param; let tracks := sub = hsTracking ∨ sub = hsFollowing; s.runs h 4 = true
          ∧ x.started = 0 ∧ tracks ∧ n ≠ 0 ∧ n.natAbs ≤ s.reg (hdKey h 0x12 8))
    ∧ (let s : State := headRuns 4 4 0 0; let h : Nat := 15; let x := s.sq h; let sub := s.substate h;
        let n := toSigned 16 x.param; let tracks := sub = hsTracking ∨ sub = hsFollowing; s.runs h 4 = true
          ∧ x.started = 0 ∧ ((¬ tracks ∨ n = 0 ∨ s.reg (hdKey h 0x12 8) < n.natAbs)))
    ∧ (let s : State := (loopAt 15 1 lsOpen 0 ((headRuns 3 4 65535 1).setReg (setKey 15 1 3) 1)).modHd 15 fun d => { d with kickT := some { kick with cross := true } };
        let h : Nat := 15; let x := s.sq h; s.runs h 4 = true ∧ x.started = 1 ∧ s.jumpCrossing h = true
          ∧ s.noGain h 1 = false)
    ∧ (let s : State := settledAt (headRuns 3 4 65535 2); let h : Nat := 15; let x := s.sq h;
        let settled := s.aged h 1 (s.reg (hdKey h 0x12 9)) = true; s.runs h 4 = true ∧ x.started = 2 ∧ settled)
    ∧ (let s : State := headAt 3; let h : Nat := 15; s.runs h 4 = false)
    ∧ (let s : State := headRuns 2 6 0 0; let h : Nat := 15; let x := s.sq h; s.runs h 6 = true ∧ x.frame = none
          ∧ x.traps = [] ∧ s.dispatch h = s)
    ∧ (let s : State := headRuns 3 10 4 0; let h : Nat := 15; let x := s.sq h; let sub := s.substate h;
        let k := x.param % 16; let tracks := sub = hsTracking ∨ sub = hsFollowing; s.runs h 0x0A = true ∧ x.started = 0
          ∧ ((3 < k ∨ ¬ tracks)))
    ∧ (let s : State := (headRuns 3 10 3 0).modEng 15 fun g => { g with inj := .measure 0 }; let h : Nat := 15;
        let x := s.sq h; let sub := s.substate h; let k := x.param % 16;
        let tracks := sub = hsTracking ∨ sub = hsFollowing; let busy := s.beginResult (hdIx h 0x1E);
        s.runs h 0x0A = true ∧ x.started = 0 ∧ k ≤ 3 ∧ tracks ∧ (busy.eng h).inj ≠ .free)
    ∧ (let s : State := headRuns 3 10 3 0; let h : Nat := 15; let x := s.sq h; let sub := s.substate h;
        let k := x.param % 16; let tracks := sub = hsTracking ∨ sub = hsFollowing;
        let busy := s.beginResult (hdIx h 0x1E); s.runs h 0x0A = true ∧ x.started = 0 ∧ k ≤ 3 ∧ tracks
          ∧ (busy.eng h).inj = .free ∧ busy.loopState h k ≠ lsClosed)
    ∧ (let s : State := loopAt 15 3 lsClosed 0 (headRuns 4 10 3 0); let h : Nat := 15; let x := s.sq h;
        let sub := s.substate h; let k := x.param % 16; let tracks := sub = hsTracking ∨ sub = hsFollowing;
        let busy := s.beginResult (hdIx h 0x1E); s.runs h 0x0A = true ∧ x.started = 0 ∧ k ≤ 3 ∧ tracks
          ∧ (busy.eng h).inj = .free ∧ busy.loopState h k = lsClosed)
    ∧ (let s : State := (headRuns 4 10 3 1).modEng 15 fun g => { g with calRun := some ⟨3, 4096, [0, 0], [0, 0], [], true⟩ };
        let h : Nat := 15; let c : CalRun := ⟨3, 4096, [0, 0], [0, 0], [], true⟩; let x := s.sq h; s.runs h 0x0A = true
          ∧ x.started ≠ 0 ∧ (s.eng h).calRun = some c ∧ c.held = true)
    ∧ (let s : State := (headRuns 4 10 3 1).modEng 15 fun g => { g with calRun := some ⟨3, 0, [0, 0], [0, 0], [], false⟩ };
        let h : Nat := 15; let c : CalRun := ⟨3, 0, [0, 0], [0, 0], [], false⟩; let x := s.sq h; s.runs h 0x0A = true
          ∧ x.started ≠ 0 ∧ (s.eng h).calRun = some c ∧ c.held = false ∧ c.n < s.reg (hdKey h 0x19 8))
    ∧ (let s : State := (headRuns 4 10 3 1).modEng 15 fun g => { g with calRun := some ⟨3, 10000000, [0, 0], [0, 0], loose, false⟩ };
        let h : Nat := 15; let c : CalRun := ⟨3, 10000000, [0, 0], [0, 0], loose, false⟩; let x := s.sq h;
        s.runs h 0x0A = true ∧ x.started ≠ 0 ∧ (s.eng h).calRun = some c ∧ c.held = false ∧ s.reg (hdKey h 0x19 8) ≤ c.n
          ∧ (match fitModel c.sums with | some fit => decide (s.reg (hdKey h 0x19 9) < fit.2) | _ => false) = true)
    ∧ (let s : State := headAt 3; let h : Nat := 15; s.runs h 0x0A = false)
    ∧ (let s : State := (headRuns 1 1 0 1).setReg (hdKey 15 0x15 12) 1; let h : Nat := 15;
        s.reg (hdKey h 0x15 0x0C) = 1)
    ∧ (let s : State := (headRuns 1 1 0 1).setReg (hdKey 15 0x15 12) 2; let h : Nat := 15;
        s.reg (hdKey h 0x15 0x0C) ≠ 1)
    ∧ (let s : State := headRuns 3 5 0 1; let h : Nat := 15; s.runs h 5 = true)
    ∧ (let s : State := headRuns 2 2 0 3; let h : Nat := 15; s.runs h 5 = false)
    ∧ (let s : State := headRuns 2 2 0 1; let h : Nat := 15; let x := s.sq h; let sub := s.substate h;
        (((s.runs h 2 = true ∧ x.started = 1) ∨ (s.runs h 3 = true ∧ x.started = 1 ∧ sub = hsFocused))))
    ∧ (let s : State := headRuns 2 2 0 3; let h : Nat := 15; let x := s.sq h; let sub := s.substate h;
        (¬ ((s.runs h 2 = true ∧ x.started = 1) ∨ (s.runs h 3 = true ∧ x.started = 1 ∧ sub = hsFocused))))
    ∧ (let s : State := (headRuns 1 3 2 1).modHd 15 fun d => { d with kickF := some kick }; let h : Nat := 15;
        let x := s.sq h; let d := s.hd h; d.kickF ≠ none ∧ s.runs h 3 = true ∧ x.started = 1)
    ∧ (let s : State := (headRuns 1 7 2 2).modHd 15 fun d => { d with kickF := some kick }; let h : Nat := 15;
        let x := s.sq h; let d := s.hd h; d.kickF ≠ none ∧ s.runs h 3 = false ∧ s.runs h 7 = true ∧ x.started = 2)
    ∧ (let s : State := headRuns 3 5 0 1; let h : Nat := 15; let d := s.hd h;
        ((d.kickF = none ∨ (s.runs h 3 = false ∧ s.runs h 7 = false)))) := by
  refine ⟨?_, ?_, ?_, ?_, ?_, ?_, ?_, ?_, ?_, ?_, ?_, ?_, ?_, ?_, ?_, ?_, ?_, ?_, ?_, ?_, ?_, ?_, ?_, ?_, ?_, ?_, ?_, ?_, ?_, ?_, ?_, ?_, ?_, ?_, ?_, ?_, ?_, ?_, ?_, ?_, ?_, ?_, ?_, ?_, ?_, ?_, ?_, ?_, ?_, ?_, ?_, ?_, ?_, ?_, ?_, ?_⟩ <;> decide +kernel

/-- The hypotheses of HeadProtections. -/
theorem test_witness_HeadProtections :
    (let s : State := ((headAt 4).setReg (hdKey 15 0x16 0x13) 129).modLp 15 11 fun p => { p with hot := 4 };
        let h : Nat := 15; let b : Nat := 7;
        let lit := bitOf (s.reg (hdKey h 0x16 0x13)) b = true ∧ 4 ≤ (s.lp h (4 + b)).hot; lit ∧ b ≠ 0)
    ∧ (let s : State := ((headAt 4).setReg (hdKey 15 0x16 0x13) 129).modLp 15 4 fun p => { p with hot := 4 };
        let h : Nat := 15; let b : Nat := 0;
        let lit := bitOf (s.reg (hdKey h 0x16 0x13)) b = true ∧ 4 ≤ (s.lp h (4 + b)).hot; lit ∧ b = 0)
    ∧ (let s : State := (headAt 4).setReg (hdKey 15 0x16 0x13) 129; let h : Nat := 15; let b : Nat := 7;
        let lit := bitOf (s.reg (hdKey h 0x16 0x13)) b = true ∧ 4 ≤ (s.lp h (4 + b)).hot; ¬ lit)
    ∧ (let s : State := (headAt 4).modHd 15 fun d => { d with pklUp := true, sense := { d.sense with noFrame := 4 } };
        let h : Nat := 15; let lost := (s.hd h).pklUp = true ∧ 4 ≤ (s.hd h).sense.noFrame; lost)
    ∧ (let s : State := (headAt 4).setReg (hdKey 15 0x16 0x13) 129; let h : Nat := 15;
        let lost := (s.hd h).pklUp = true ∧ 4 ≤ (s.hd h).sense.noFrame; ¬ lost)
    ∧ (let s : State := (headAt 4).modHd 15 fun d => { d with lost := true, retrains := 1 }; let h : Nat := 15;
        (s.hd h).lost = true ∧ (s.hd h).retrains < 2)
    ∧ (let s : State := (headAt 4).modHd 15 fun d => { d with lost := true, retrains := 2 }; let h : Nat := 15;
        (s.hd h).lost = true ∧ 2 ≤ (s.hd h).retrains)
    ∧ (let s : State := (headAt 4).modHd 15 fun d => { d with lost := true, retrains := 2 }; let h : Nat := 15;
        (s.hd h).lost = true)
    ∧ (let s : State := (headAt 4).setReg (hdKey 15 0x16 0x13) 129; let h : Nat := 15; (s.hd h).lost = false)
    ∧ (let s : State := ((headAt 5).setReg (hdKey 15 0x18 6) 3).modHd 15 fun d => { d with sense := { d.sense with beyond := 2 } };
        let h : Nat := 15; let guard : Nat := 1;
        let stops := s.substate h = hsWriting ∧ bitOf (s.reg (hdKey h 0x18 6)) guard = true ∧ bitOf (s.hd h).sense.beyond guard = true ∧ ¬ (guard = 2 ∧ s.shockOut (h / 2) = true);
        stops)
    ∧ (let s : State := (headAt 4).setReg (hdKey 15 0x16 0x13) 129; let h : Nat := 15; let guard : Nat := 1;
        let stops := s.substate h = hsWriting ∧ bitOf (s.reg (hdKey h 0x18 6)) guard = true ∧ bitOf (s.hd h).sense.beyond guard = true ∧ ¬ (guard = 2 ∧ s.shockOut (h / 2) = true);
        ¬ stops)
    ∧ (let s : State := (headAt 4).setReg (hdKey 15 0x16 0x13) 129; let b : Nat := 8; s.beams ≤ b)
    ∧ (let s : State := { headAt 5 with part := { State.reset.part with wide := true } }; let h : Nat := 15;
        let b : Nat := 7; let o : Int := 32767; let est := s.setRegI 16 (hdKey h 0x14 (6 + b)) o; b < s.beams
          ∧ est.substate h = hsWriting)
    ∧ (let s : State := { headAt 4 with part := { State.reset.part with wide := true } }; let h : Nat := 15;
        let b : Nat := 7; let o : Int := 32767; let est := s.setRegI 16 (hdKey h 0x14 (6 + b)) o; b < s.beams
          ∧ est.substate h ≠ hsWriting ∧ est.reg (hdKey h 0x14 5) < o.natAbs)
    ∧ (let s : State := { headAt 4 with part := { State.reset.part with wide := true } }; let h : Nat := 15;
        let b : Nat := 7; let o : Int := 0; let est := s.setRegI 16 (hdKey h 0x14 (6 + b)) o; b < s.beams
          ∧ est.substate h ≠ hsWriting ∧ o.natAbs ≤ est.reg (hdKey h 0x14 5))
    ∧ (let s : State := (headAt 4).modHd 15 fun d => { d with confirm := true }; let h : Nat := 15;
        (s.hd h).confirm = true)
    ∧ (let s : State := (headAt 4).setReg (hdKey 15 0x16 0x13) 129; let h : Nat := 15; (s.hd h).confirm = false) := by
  refine ⟨?_, ?_, ?_, ?_, ?_, ?_, ?_, ?_, ?_, ?_, ?_, ?_, ?_, ?_, ?_, ?_, ?_⟩ <;> decide +kernel

/-- The hypotheses of LoopCommands. -/
theorem test_witness_LoopCommands :
    (let s : State := headAt 4; let e : Nat := 15; let l : Nat := 11; s.loopPresent e l = true)
    ∧ (let s : State := headAt 4; let e : Nat := 15; let l : Nat := 12; s.loopPresent e l = false)
    ∧ (let s : State := (headAt 4).modHd 15 fun d => { d with sense := { d.sense with defOut := 10000000 } };
        let h : Nat := 15; let d := (s.hd h).sense; let sets := d.defect = false ∧ s.reg (hdKey h 0x17 3) ≤ d.defOut;
        sets)
    ∧ (let s : State := headAt 4; let h : Nat := 15; let d := (s.hd h).sense;
        let sets := d.defect = false ∧ s.reg (hdKey h 0x17 3) ≤ d.defOut; ¬ sets)
    ∧ (let s : State := (headAt 4).modHd 15 fun d => { d with sense := { d.sense with defect := true, defIn := 10000000 } };
        let h : Nat := 15; let d := (s.hd h).sense; let clears := d.defect = true ∧ s.reg (hdKey h 0x17 4) ≤ d.defIn;
        clears)
    ∧ (let s : State := headAt 4; let h : Nat := 15; let d := (s.hd h).sense;
        let clears := d.defect = true ∧ s.reg (hdKey h 0x17 4) ≤ d.defIn; ¬ clears)
    ∧ (let s : State := (loopAt 15 0 lsClosed 0 ((headAt 4).setReg (supKey 15 0 1) 1)).modLp 15 0 fun p => { p with resRun := 65535 };
        let e : Nat := 15; let l : Nat := 0; let p := s.lp e l;
        let residual := s.loopState e l = lsClosed ∧ bitOf (s.reg (supKey e l 1)) 0 = true ∧ s.reg (supKey e l 3) ≤ p.resRun;
        residual)
    ∧ (let s : State := headAt 4; let e : Nat := 15; let l : Nat := 11; let p := s.lp e l;
        let residual := s.loopState e l = lsClosed ∧ bitOf (s.reg (supKey e l 1)) 0 = true ∧ s.reg (supKey e l 3) ≤ p.resRun;
        ¬ residual)
    ∧ (let s : State := (headAt 4).modLp 15 0 fun p => { p with retRun := 65535 }; let e : Nat := 15; let l : Nat := 0;
        let p := s.lp e l; s.reg (supKey e l 7) ≤ p.retRun)
    ∧ (let s : State := headAt 4; let e : Nat := 15; let l : Nat := 0; let p := s.lp e l;
        p.retRun < s.reg (supKey e l 7))
    ∧ (let s : State := (loopAt 15 0 lsHold 0 (headAt 4)).modLp 15 0 fun p => { p with window := true };
        let e : Nat := 15; let l : Nat := 0; let p := s.lp e l;
        let expires := p.window = true ∧ s.loopState e l = lsHold; expires)
    ∧ (let s : State := headAt 4; let e : Nat := 15; let l : Nat := 11; let p := s.lp e l;
        let expires := p.window = true ∧ s.loopState e l = lsHold; ¬ expires)
    ∧ (let s : State := (loopAt 15 0 lsHold 16 (headAt 4)).modLp 15 0 fun p => { p with lathe := 65535 };
        let e : Nat := 15; let l : Nat := 0; let p := s.lp e l;
        let overrun := bitOf (s.holdCause e l) hcLathe = true ∧ s.reg (engKey e 7 0x3D) ≤ p.lathe; overrun)
    ∧ (let s : State := headAt 4; let e : Nat := 15; let l : Nat := 11; let p := s.lp e l;
        let overrun := bitOf (s.holdCause e l) hcLathe = true ∧ s.reg (engKey e 7 0x3D) ≤ p.lathe; ¬ overrun)
    ∧ (let s : State := (headAt 4).modEng 15 fun g => { g with cap := .armed, capEvent := true }; let e : Nat := 15;
        let g := s.eng e; let triggers := g.cap = .armed ∧ (g.capSet.trigger = 0 ∨ g.capEvent = true); triggers)
    ∧ (let s : State := headAt 4; let e : Nat := 15; let g := s.eng e;
        let triggers := g.cap = .armed ∧ (g.capSet.trigger = 0 ∨ g.capEvent = true); ¬ triggers)
    ∧ (let s : State := (headAt 4).modEng 15 fun g => { g with cap := .armed }; let e : Nat := 15; let g := s.eng e;
        g.cap = .armed)
    ∧ (let s : State := headAt 4; let e : Nat := 15; let g := s.eng e; g.cap ≠ .armed)
    ∧ (let s : State := (headAt 4).modEng 15 fun g => { g with cap := .triggered, capBuf := List.replicate 16384 (1, 2) };
        let e : Nat := 15; let g := s.eng e; let fills := g.cap = .triggered ∧ 16384 ≤ g.capBuf.length; fills)
    ∧ (let s : State := headAt 4; let e : Nat := 15; let g := s.eng e;
        let fills := g.cap = .triggered ∧ 16384 ≤ g.capBuf.length; ¬ fills) := by
  refine ⟨?_, ?_, ?_, ?_, ?_, ?_, ?_, ?_, ?_, ?_, ?_, ?_, ?_, ?_, ?_, ?_, ?_, ?_, ?_, ?_⟩ <;> decide +kernel

/-- The hypotheses of SpindleCommands. -/
theorem test_witness_SpindleCommands :
    (let s : State := (stationRuns 16 0 0).setReg (stKey 7 0x22 0x0C) 3; let i : Nat := 7; let e := 16 + i;
        let x := s.sq e; let f := s.bistLeave i; s.runs e 0x10 = true ∧ x.started = 0 ∧ f.runs e 0x10 = true
          ∧ (f.sq e).started = 0 ∧ f.reg (stKey i 0x22 0x0C) = 3 ∧ f.spinState i ≠ 4)
    ∧ (let s : State := stationRuns 16 0 0; let i : Nat := 7; let e := 16 + i; let x := s.sq e; let f := s.bistLeave i;
        s.runs e 0x10 = true ∧ x.started = 0 ∧ f.runs e 0x10 = true ∧ (f.sq e).started = 0
          ∧ ((f.reg (stKey i 0x22 0x0C) ≠ 3 ∨ f.spinState i = 4)))
    ∧ (let s : State := (stationRuns 16 0 1).modStn 7 fun t => { t with spinPhase := 4 }; let i : Nat := 7;
        let e := 16 + i; let x := s.sq e; let t := s.stn i; s.runs e 0x10 = true ∧ x.started ≠ 0 ∧ t.spinPhase = 4)
    ∧ (let s : State := stationRuns 16 0 1; let i : Nat := 7; let ev : SpinEvent := .begin; let e := 16 + i;
        let x := s.sq e; let t := s.stn i; s.runs e 0x10 = true ∧ x.started ≠ 0 ∧ ((t.spinPhase ≠ 4 ∨ ev = .begin)))
    ∧ (let s : State := station 3; let i : Nat := 7; let e := 16 + i; s.runs e 0x10 = false)
    ∧ (let s : State := (station 2).modStn 7 fun t => { t with spinPhase := 1 }; let i : Nat := 7; let t := s.stn i;
        t.spinPhase = 1)
    ∧ (let s : State := station 3; let i : Nat := 7; let t := s.stn i; t.spinPhase ≠ 1)
    ∧ (let s : State := (stationRuns 17 0 0).setSubstate 14 1; let i : Nat := 7; let e := 16 + i; let x := s.sq e;
        s.runs e 0x11 = true ∧ x.started = 0 ∧ ((s.substate (2 * i) ≠ hsOff ∨ s.substate (2 * i + 1) ≠ hsOff)))
    ∧ (let s : State := stationRuns 17 0 0; let i : Nat := 7; let e := 16 + i; let x := s.sq e; s.runs e 0x11 = true
          ∧ x.started = 0 ∧ s.substate (2 * i) = hsOff ∧ s.substate (2 * i + 1) = hsOff)
    ∧ (let s : State := station 3; let i : Nat := 7; let e := 16 + i; let x := s.sq e;
        ((s.runs e 0x11 = false ∨ x.started ≠ 0)))
    ∧ (let s : State := (station 2).setReg (stKey 7 0x10 1) 6; let i : Nat := 7; s.spinState i = 6)
    ∧ (let s : State := station 3; let i : Nat := 7; s.spinState i ≠ 6)
    ∧ (let s : State := (stationRuns 21 7200 0).setRegs [(stKey 7 0x10 1, 5), (stKey 7 0 6, 1)]; let i : Nat := 7;
        let e := 16 + i; let x := s.sq e; let bd := 3 ≤ s.spinState i ∧ s.spinState i ≤ 5 ∧ s.reg (stKey i 0 6) = 1;
        s.runs e 0x15 = true ∧ x.started = 0 ∧ bd ∧ 600 ≤ x.param ∧ x.param ≤ 7200)
    ∧ (let s : State := stationRuns 21 600 0; let i : Nat := 7; let e := 16 + i; let x := s.sq e;
        let bd := 3 ≤ s.spinState i ∧ s.spinState i ≤ 5 ∧ s.reg (stKey i 0 6) = 1; s.runs e 0x15 = true ∧ x.started = 0
          ∧ ¬ bd)
    ∧ (let s : State := (stationRuns 21 599 0).setRegs [(stKey 7 0x10 1, 5), (stKey 7 0 6, 1)]; let i : Nat := 7;
        let e := 16 + i; let x := s.sq e; let bd := 3 ≤ s.spinState i ∧ s.spinState i ≤ 5 ∧ s.reg (stKey i 0 6) = 1;
        s.runs e 0x15 = true ∧ x.started = 0 ∧ bd ∧ ((x.param < 600 ∨ 7200 < x.param)))
    ∧ (let s : State := station 3; let i : Nat := 7; let e := 16 + i; let x := s.sq e;
        ((s.runs e 0x15 = false ∨ x.started ≠ 0)))
    ∧ (let s : State := ((station 3).setReg (stKey 7 0x10 2) 720000).modStn 7 fun t => { t with spinPhase := 5 };
        let i : Nat := 7; let t := s.stn i;
        let near := t.spinPhase = 5 ∧ t.down = 0 ∧ (s.speed i - s.target i * 100).natAbs ≤ (s.speedTol i).natAbs; near)
    ∧ (let s : State := station 3; let i : Nat := 7; let t := s.stn i;
        let near := t.spinPhase = 5 ∧ t.down = 0 ∧ (s.speed i - s.target i * 100).natAbs ≤ (s.speedTol i).natAbs;
        ¬ near)
    ∧ (let s : State := { (station 3).modStn 7 (fun t => { t with spinPhase := 5 }) with power := { awake.power with slots := [.spin 7] } };
        let i : Nat := 7; let e := 16 + i; let x := s.sq e; let t := s.stn i;
        let late := t.spinPhase = 5 ∧ (s.holdsSlot i = true ∨ x.code = some 0x15); late)
    ∧ (let s : State := station 3; let i : Nat := 7; let e := 16 + i; let x := s.sq e; let t := s.stn i;
        let late := t.spinPhase = 5 ∧ (s.holdsSlot i = true ∨ x.code = some 0x15); ¬ late)
    ∧ (let s : State := (station 3).setRegs [(stKey 7 0x10 8, 5), (stKey 7 0x10 4, 0), (stKey 7 0x10 0x0C, 1), (stKey 7 0x13 3, 1), (stKey 7 0x13 5, 0)];
        let i : Nat := 7; let code : Nat := 6; let t := s.stn i; s.reg (stKey i 0x13 5) = 0 ∧ 1 ≤ s.reg (stKey i 0x10 8)
          ∧ s.reg (stKey i 0x10 4) = 0 ∧ s.reg (stKey i 0x10 0x0C) = 1 ∧ 1 ≤ s.reg (stKey i 0x13 3) ∧ 1 ≤ code
          ∧ code ≤ 6 ∧ t.angleSet = false ∧ t.spinPhase ≠ 1 ∧ 0 ≤ t.nSet)
    ∧ (let s : State := (station 3).setReg (stKey 7 0x10 4) 1; let i : Nat := 7; s.reg (stKey i 0x10 4) = 1)
    ∧ (let s : State := station 3; let i : Nat := 7; s.reg (stKey i 0x10 4) ≠ 1)
    ∧ (let s : State := station 3; let i : Nat := 7; let t := s.stn i; t.encRevs = 0)
    ∧ (let s : State := (station 3).setReg (stKey 7 0x10 0x0C) 0; let i : Nat := 7; s.reg (stKey i 0x10 0x0C) ≠ 2)
    ∧ (let s : State := (station 3).setReg (stKey 7 0x10 0x0C) 0; let i : Nat := 7; let stamp : Nat := 4294967295;
        let fwd : Bool := true; let one : Int := if fwd then 1 else -1;
        let turned := s.modStn i fun t => { t with encSeen := true, encCount := t.encCount + one, measCount := t.measCount + one, encStamp := stamp };
        (turned.reg (stKey i 0x10 0x0C) = 0 ∨ turned.reg (stKey i 0x10 0x0C) = 2))
    ∧ (let s : State := (station 3).setStFlag 7 10 true; let i : Nat := 7; let e := 16 + i; let x := s.sq e;
        let t := s.stn i; s.stFlag i 10 = true ∧ t.lrWait = false ∧ t.down ≠ 3 ∧ x.code = none)
    ∧ (let s : State := station 3; let i : Nat := 7; let t := s.stn i; ((s.stFlag i 10 = false ∨ t.lrWait = true)))
    ∧ (let s : State := (station 3).setReg (stKey 7 0x10 3) 1; let i : Nat := 7; s.reg (stKey i 0x10 3) ≠ 0)
    ∧ (let s : State := (station 3).setReg (stKey 7 0x10 3) 0; let i : Nat := 7; s.reg (stKey i 0x10 3) = 0)
    ∧ (let s : State := (station 3).modStn 7 fun t => { t with lrWait := true }; let i : Nat := 7; let t := s.stn i;
        t.lrWait = true)
    ∧ (let s : State := station 3; let i : Nat := 7; let t := s.stn i; t.lrWait = false)
    ∧ (let s : State := station 3; let i : Nat := 7; let mv : Nat := 1; let amps : Nat := 0; let t := s.stn i;
        t.brk = false ∧ mv ≤ s.reg (stKey i 0x12 8) ∧ mv < s.reg (stKey i 0x12 9)
          ∧ (let w := ((s.setRegs [(stKey i 0x10 9, mv), (stKey i 0x10 0x0A, amps), (stKey i 0x3F 0x0B, max (s.reg (stKey i 0x3F 0x0B)) mv)]).modStn i fun t => { t with vbusOver := t.vbusOver && decide (s.reg (stKey i 0x12 8) ≤ mv), brk := false }).limitCurrent i amps; w.drive (16 + i) 0 ≥ -8388608))
    ∧ (let s : State := station 3; let i : Nat := 7; let mv : Nat := 65535; s.reg (stKey i 0x12 8) < mv)
    ∧ (let s : State := ((station 3).setReg (stKey 7 0x10 9) 1).modStn 7 fun t => { t with psen := true };
        let i : Nat := 7; let t := s.stn i; let speed := s.reg (stKey i 0x10 9);
        let high := s.reg (stKey i 0x12 9) < speed;
        let wrong := t.psen = true ∧ (high ∨ speed < s.reg (stKey i 0x12 7)); wrong ∧ ¬ high)
    ∧ (let s : State := ((station 3).setReg (stKey 7 0x10 9) 65535).modStn 7 fun t => { t with psen := true };
        let i : Nat := 7; let t := s.stn i; let speed := s.reg (stKey i 0x10 9);
        let high := s.reg (stKey i 0x12 9) < speed;
        let wrong := t.psen = true ∧ (high ∨ speed < s.reg (stKey i 0x12 7)); wrong ∧ high)
    ∧ (let s : State := station 3; let i : Nat := 7; let t := s.stn i; let speed := s.reg (stKey i 0x10 9);
        let high := s.reg (stKey i 0x12 9) < speed;
        let wrong := t.psen = true ∧ (high ∨ speed < s.reg (stKey i 0x12 7)); ¬ wrong) := by
  refine ⟨?_, ?_, ?_, ?_, ?_, ?_, ?_, ?_, ?_, ?_, ?_, ?_, ?_, ?_, ?_, ?_, ?_, ?_, ?_, ?_, ?_, ?_, ?_, ?_, ?_, ?_, ?_, ?_, ?_, ?_, ?_, ?_, ?_, ?_, ?_, ?_, ?_⟩ <;> decide +kernel

/-- The hypotheses of SledsAndClamps. -/
theorem test_witness_SledsAndClamps :
    (let s : State := headAt 3; let h : Nat := 15; let d := s.sled h; d.target = none ∧ d.homing = false
          ∧ s.substate h ≠ hsFollowing)
    ∧ (let s : State := (station 3).modSled 15 fun d => { d with homing := true }; let h : Nat := 15; let d := s.sled h;
        d.homing = true)
    ∧ (let s : State := station 3; let h : Nat := 15; let d := s.sled h; d.homing = false
          ∧ d.beyond < s.reg (sledKey h 0x10))
    ∧ (let s : State := (station 3).modSled 15 fun d => { d with beyond := 65535 }; let h : Nat := 15;
        let d := s.sled h; d.homing = false ∧ s.reg (sledKey h 0x10) ≤ d.beyond)
    ∧ (let s : State := headRuns 0 8 0 0; let h : Nat := 15; let x := s.sq h; s.runs h 8 = true ∧ x.started = 0
          ∧ s.substate h = hsOff)
    ∧ (let s : State := headRuns 1 8 0 0; let h : Nat := 15; let x := s.sq h; s.runs h 8 = true ∧ x.started = 0
          ∧ s.substate h ≠ hsOff)
    ∧ (let s : State := headRuns 0 8 0 1; let h : Nat := 15; let x := s.sq h; s.runs h 8 = true ∧ x.started ≠ 0)
    ∧ (let s : State := headAt 3; let h : Nat := 15; s.runs h 8 = false)
    ∧ (let s : State := (headRuns 0 9 0 0).setReg (sledKey 15 0x1C) 1; let h : Nat := 15; let x := s.sq h;
        s.runs h 9 = true ∧ x.started = 0 ∧ s.substate h = hsOff ∧ s.reg (sledKey h 0x1C) = 1)
    ∧ (let s : State := headRuns 0 9 0 0; let h : Nat := 15; let x := s.sq h; s.runs h 9 = true ∧ x.started = 0
          ∧ ((s.substate h ≠ hsOff ∨ s.reg (sledKey h 0x1C) ≠ 1)))
    ∧ (let s : State := headAt 3; let h : Nat := 15; let x := s.sq h; ((s.runs h 9 = false ∨ x.started ≠ 0)))
    ∧ (let s : State := headRuns 0 7 0 0; let h : Nat := 15; let x := s.sq h;
        let tracks := s.substate h = hsTracking ∨ s.substate h = hsFollowing; s.runs h 7 = true ∧ x.started = 0
          ∧ ((¬ tracks ∨ s.reg (sledKey h 0x1C) ≠ 1)))
    ∧ (let s : State := (headRuns 4 7 0 0).setRegs [(sledKey 15 0x1C, 1), (sledKey 15 0x16, 1000000)];
        let h : Nat := 15; let x := s.sq h; let tracks := s.substate h = hsTracking ∨ s.substate h = hsFollowing;
        let reach := s.sledReach h (s.trackRadius h (s.reg (sledKey h 0x16))) = true; s.runs h 7 = true ∧ x.started = 0
          ∧ tracks ∧ s.reg (sledKey h 0x1C) = 1 ∧ ¬ reach)
    ∧ (let s : State := (headRuns 4 7 0 0).setReg (sledKey 15 0x1C) 1; let h : Nat := 15; let x := s.sq h;
        let tracks := s.substate h = hsTracking ∨ s.substate h = hsFollowing;
        let reach := s.sledReach h (s.trackRadius h (s.reg (sledKey h 0x16))) = true; s.runs h 7 = true ∧ x.started = 0
          ∧ tracks ∧ s.reg (sledKey h 0x1C) = 1 ∧ reach ∧ (s.stn (h / 2)).sleds.length = 2)
    ∧ (let s : State := headRuns 3 7 0 3; let h : Nat := 15; let x := s.sq h; s.runs h 7 = true ∧ x.started = 3)
    ∧ (let s : State := (loopAt 15 1 lsOpen 0 ((headRuns 3 7 0 6).setReg (setKey 15 1 3) 1)).modHd 15 fun d => { d with kickT := some { kick with cross := true } };
        let h : Nat := 15; let x := s.sq h; s.runs h 7 = true ∧ x.started = 6 ∧ s.jumpCrossing h = true
          ∧ s.noGain h 1 = false)
    ∧ (let s : State := settledAt (headRuns 3 7 0 4); let h : Nat := 15; let x := s.sq h; s.runs h 7 = true
          ∧ x.started = 4 ∧ s.aged h 1 (s.reg (hdKey h 0x12 9)) = true)
    ∧ (let s : State := headAt 3; let h : Nat := 15; s.runs h 7 = false)
    ∧ (let s : State := (station 3).modSled 15 fun d => { d with target := some 0 }; let h : Nat := 15;
        let p : Int := 0; let d := s.sled h; d.target = some p)
    ∧ (let s : State := headAt 3; let h : Nat := 15; let d := s.sled h; d.target = none)
    ∧ (let s : State := (stationRuns 18 0 0).setReg (stKey 7 0x22 12) 1; let i : Nat := 7; let y := s.sq (16 + i);
        let t := s.stn i; let still := s.spinState i = 0 ∧ t.stroke = .none; s.runs (16 + i) 0x12 = true ∧ y.started = 0
          ∧ still ∧ s.reg (stKey i 0x22 0x0C) = 1)
    ∧ (let s : State := (stationRuns 18 0 0).setReg (stKey 7 0x22 12) 3; let i : Nat := 7; let y := s.sq (16 + i);
        let t := s.stn i; let still := s.spinState i = 0 ∧ t.stroke = .none; s.runs (16 + i) 0x12 = true ∧ y.started = 0
          ∧ ((¬ still ∨ s.reg (stKey i 0x22 0x0C) ≠ 1)))
    ∧ (let s : State := stationRuns 19 0 0; let i : Nat := 7; let y := s.sq (16 + i); let t := s.stn i;
        let still := s.spinState i = 0 ∧ t.stroke = .none; s.runs (16 + i) 0x13 = true ∧ y.started = 0 ∧ still)
    ∧ (let s : State := (stationRuns 19 0 0).setReg (stKey 7 0x10 1) 5; let i : Nat := 7; let y := s.sq (16 + i);
        let t := s.stn i; let still := s.spinState i = 0 ∧ t.stroke = .none; s.runs (16 + i) 0x13 = true ∧ y.started = 0
          ∧ ¬ still)
    ∧ (let s : State := stationRuns 20 0 0; let i : Nat := 7; let y := s.sq (16 + i); let t := s.stn i;
        let still := s.spinState i = 0 ∧ t.stroke = .none; s.runs (16 + i) 0x14 = true ∧ y.started = 0 ∧ still)
    ∧ (let s : State := (stationRuns 20 0 0).setReg (stKey 7 0x10 1) 5; let i : Nat := 7; let y := s.sq (16 + i);
        let t := s.stn i; let still := s.spinState i = 0 ∧ t.stroke = .none; s.runs (16 + i) 0x14 = true ∧ y.started = 0
          ∧ ¬ still)
    ∧ (let s : State := stationRuns 20 0 1; let i : Nat := 7; let y := s.sq (16 + i); y.started ≠ 0)
    ∧ (let s : State := station 2; let i : Nat := 7; let run : Nat := 1; let bemf : List Nat := [0, 0, 0, 0];
        let t := s.stn i; let stalled := s.clampStalls i run bemf = true; ((t.stroke = .none ∨ ¬ stalled)))
    ∧ (let s : State := (station 2).modStn 7 fun t => { t with stroke := .probe }; let i : Nat := 7; let run : Nat := 1;
        let bemf : List Nat := [0, 0, 0, 0]; let t := s.stn i; let stalled := s.clampStalls i run bemf = true;
        t.stroke = .probe ∧ stalled)
    ∧ (let s : State := (station 2).modStn 7 fun t => { t with stroke := .reopen }; let i : Nat := 7;
        let run : Nat := 1; let bemf : List Nat := [0, 0, 0, 0]; let t := s.stn i;
        let stalled := s.clampStalls i run bemf = true; t.stroke = .reopen ∧ stalled)
    ∧ (let s : State := ((station 2).setStFlag 7 0 true).modStn 7 fun t => { t with stroke := .unclamp };
        let i : Nat := 7; let run : Nat := 1; let bemf : List Nat := [0, 0, 0, 0]; let t := s.stn i;
        let stalled := s.clampStalls i run bemf = true; t.stroke = .unclamp ∧ stalled)
    ∧ (let s : State := ((station 2).setStFlag 7 0 true).modStn 7 fun t => { t with stroke := .clamp, strokeFrom := (station 2).reg (stKey 7 0x22 9) };
        let i : Nat := 7; let run : Nat := 1; let bemf : List Nat := [0, 0, 0, 0]; let y := s.sq (16 + i);
        let t := s.stn i; let stalled := s.clampStalls i run bemf = true; let pos := s.clampNow i; t.stroke = .clamp
          ∧ stalled ∧ s.reg (stKey i 0x22 8) ≤ pos ∧ pos ≤ s.reg (stKey i 0x22 9) ∧ y.code = none
          ∧ s.stState i ≠ stEmpty)
    ∧ (let s : State := { (station 2).modStn 7 (fun t => { t with stroke := .probe }) with now := 1000000000 };
        let i : Nat := 7; let t := s.stn i; t.stroke = .probe ∧ s.clampFar i = true)
    ∧ (let s : State := { (station 2).modStn 7 (fun t => { t with stroke := .clamp }) with now := 1000000000 };
        let i : Nat := 7; let t := s.stn i; ((t.stroke = .clamp ∨ t.stroke = .unclamp ∨ t.stroke = .reopen))
          ∧ s.clampFar i = true)
    ∧ (let s : State := station 2; let i : Nat := 7; s.clampFar i = false) := by
  refine ⟨?_, ?_, ?_, ?_, ?_, ?_, ?_, ?_, ?_, ?_, ?_, ?_, ?_, ?_, ?_, ?_, ?_, ?_, ?_, ?_, ?_, ?_, ?_, ?_, ?_, ?_, ?_, ?_, ?_, ?_, ?_, ?_, ?_, ?_, ?_⟩ <;> decide +kernel

/-- The hypotheses of PowerFailAndRails. -/
theorem test_witness_PowerFailAndRails :
    (let s : State := awake; let idle := s.power.latched = false ∧ s.power.dark = false; idle ∧ s.powerState ≠ psHearth
          ∧ s.powerState ≠ psFailed)
    ∧ (let s : State := awake.setReg (key 0x2100 1) 5; let idle := s.power.latched = false ∧ s.power.dark = false;
        idle ∧ ((s.powerState = psHearth ∨ s.powerState = psFailed)))
    ∧ (let s : State := awake.modPower fun p => { p with latched := true };
        let idle := s.power.latched = false ∧ s.power.dark = false; ¬ idle)
    ∧ (let s : State := (awake.setReg (key 0x2100 7) 0).modPower fun p => { p with latched := true, after := .startUp };
        let down := s.power.latched = true ∧ s.power.lowering = false ∧ s.rails = 0; down ∧ s.power.after = .startUp
          ∧ s.powerState ≠ psHearth)
    ∧ (let s : State := (awake.setRegs [(key 0x2100 7, 0), (key 0x2100 1, 2)]).modPower fun p => { p with latched := true };
        let down := s.power.latched = true ∧ s.power.lowering = false ∧ s.rails = 0;
        down ∧ ((s.power.after ≠ .startUp ∨ s.powerState = psHearth)))
    ∧ (let s : State := awake; let down := s.power.latched = true ∧ s.power.lowering = false ∧ s.rails = 0; ¬ down)
    ∧ (let s : State := (awake.setReg (key 0x2100 7) 32896).modPower fun p => { p with lowering := true };
        let k : Nat := 7; s.power.lowering = true ∧ k < 8 ∧ bitOf s.rails (8 + k) = true
          ∧ ((s.power.after ≠ .recovery ∨ 3 ≤ k)) ∧ ((∀ j, k < j → j < 8 → bitOf s.rails (8 + j) = false)))
    ∧ (let s : State := (awake.setReg (key 0x2100 7) 0).modPower fun p => { p with lowering := true };
        s.power.lowering = true ∧ s.nextRail = none)
    ∧ (let s : State := awake; s.power.lowering = false)
    ∧ (let s : State := awake.setRegs [(key 0x2100 7, 256), (key 0x2100 1, 0)]; let k : Nat := 0;
        let rises := s.powerState = psBoot ∧ bitOf s.rails (8 + k) = true ∧ bitOf s.rails k = false ∧ s.power.lowering = false ∧ s.held = false;
        rises ∧ k < 7 ∧ k ≠ 2)
    ∧ (let s : State := awake.setRegs [(key 0x2100 7, 1795), (key 0x2100 1, 0)]; let k : Nat := 2;
        let rises := s.powerState = psBoot ∧ bitOf s.rails (8 + k) = true ∧ bitOf s.rails k = false ∧ s.power.lowering = false ∧ s.held = false;
        rises ∧ k = 2)
    ∧ (let s : State := awake.setRegs [(key 0x2100 7, 32768), (key 0x2100 1, 0)]; let k : Nat := 7;
        let rises := s.powerState = psBoot ∧ bitOf s.rails (8 + k) = true ∧ bitOf s.rails k = false ∧ s.power.lowering = false ∧ s.held = false;
        rises ∧ k = 7)
    ∧ (let s : State := awake; let k : Nat := 7;
        let rises := s.powerState = psBoot ∧ bitOf s.rails (8 + k) = true ∧ bitOf s.rails k = false ∧ s.power.lowering = false ∧ s.held = false;
        ¬ rises)
    ∧ (let s : State := awake.setRegs [(key 0x2100 7, 32768), (key 0x2100 1, 0)]; let k : Nat := 7;
        let late := fun j => bitOf s.rails (8 + j) = true ∧ bitOf s.rails j = false; k < 8 ∧ late k
          ∧ ((∀ j, j < k → ¬ late j)) ∧ s.powerState = psBoot ∧ s.power.lowering = false ∧ s.held = false
          ∧ s.power.pgRetried = false)
    ∧ (let s : State := (awake.setRegs [(key 0x2100 7, 32768), (key 0x2100 1, 0)]).modPower fun p => { p with pgRetried := true };
        let k : Nat := 7; let late := fun j => bitOf s.rails (8 + j) = true ∧ bitOf s.rails j = false; k < 8 ∧ late k
          ∧ ((∀ j, j < k → ¬ late j)) ∧ s.powerState = psBoot ∧ s.power.lowering = false ∧ s.held = false
          ∧ s.power.pgRetried = true)
    ∧ (let s : State := awake; let late := fun j => bitOf s.rails (8 + j) = true ∧ bitOf s.rails j = false;
        (((∀ j, j < 8 → ¬ late j) ∨ s.powerState ≠ psBoot ∨ s.power.lowering = true ∨ s.held = true)))
    ∧ (let s : State := (awake.setRegs [(key 0x2100 7, 0), (key 0x2100 1, 0)]).modPower fun p => { p with retryWait := true };
        s.power.retryWait = true ∧ s.rails = 0 ∧ s.powerState = psBoot)
    ∧ (let s : State := awake; ((s.power.retryWait = false ∨ s.rails ≠ 0 ∨ s.powerState ≠ psBoot)))
    ∧ (let s : State := awake.setReg (key 0x2100 7) 32896; let k : Nat := 7;
        let recent := s.power.restarts.filter fun t => s.now < t + 600000000;
        let loses := bitOf s.rails (8 + k) = true ∧ bitOf s.rails k = true ∧ s.power.lowering = false ∧ s.power.latched = false ∧ s.held = false;
        loses ∧ recent.length < 3)
    ∧ (let s : State := ({ awake with now := 1 }.setReg (key 0x2100 7) 32896).modPower fun p => { p with restarts := [0, 0, 0] };
        let k : Nat := 7; let recent := s.power.restarts.filter fun t => s.now < t + 600000000;
        let loses := bitOf s.rails (8 + k) = true ∧ bitOf s.rails k = true ∧ s.power.lowering = false ∧ s.power.latched = false ∧ s.held = false;
        loses ∧ 3 ≤ recent.length)
    ∧ (let s : State := awake; let k : Nat := 7;
        let loses := bitOf s.rails (8 + k) = true ∧ bitOf s.rails k = true ∧ s.power.lowering = false ∧ s.power.latched = false ∧ s.held = false;
        ¬ loses)
    ∧ (let s : State := (awake.setReg (key 0x2100 7) 0).modPower fun p => { p with restartWait := true };
        let again := s.power.restartWait = true ∧ s.rails = 0 ∧ s.power.lowering = false ∧ s.held = false; again)
    ∧ (let s : State := awake;
        let again := s.power.restartWait = true ∧ s.rails = 0 ∧ s.power.lowering = false ∧ s.held = false;
        ¬ again) := by
  refine ⟨by decide +kernel, by decide +kernel, by decide +kernel, by decide +kernel, by decide +kernel, by decide +kernel, ?_, by decide +kernel, by decide +kernel, by decide +kernel, by decide +kernel, by decide +kernel, by decide +kernel, by decide +kernel, by decide +kernel, by decide +kernel, by decide +kernel, by decide +kernel, by decide +kernel, by decide +kernel, by decide +kernel, by decide +kernel, by decide +kernel⟩
  · exact ⟨by decide +kernel, by decide +kernel, by decide +kernel, by decide +kernel, fun _ h g => absurd g (Nat.not_lt.2 h)⟩

/-- The hypotheses of ClocksWakesAndResets. -/
theorem test_witness_ClocksWakesAndResets :
    (let s := awake.setRegs [(key 0x2100 1, psHearth), (key 0x2100 13, 1)]; s.mayWake = true ∧ s.held = false
          ∧ s.on16 = false)
    ∧ (let s := awake.setRegs [(key 0x2100 1, psHearth), (key 0x2100 13, 512)]; s.mayWake = true ∧ s.held = false
          ∧ s.on16 = true)
    ∧ (awake.mayWake = false)
    ∧ (let s : State := awake.setReg (key 0x2100 13) 1; let idle := s.power.dark = false; idle ∧ s.on16 = false)
    ∧ (let s : State := awake.setReg (key 0x2100 13) 512; let idle := s.power.dark = false; idle ∧ s.on16 = true)
    ∧ (let s : State := awake; let idle := s.power.dark = false; idle)
    ∧ (let s : State := awake; let idle := s.power.dark = false; idle)
    ∧ (let s : State := awake; let idle := s.power.dark = false; idle)
    ∧ (let s : State := awake; let idle := s.power.dark = false; idle)
    ∧ (let s : State := awake; let idle := s.power.dark = false; idle)
    ∧ (let s : State := awake.modPower fun p => { p with dark := true }; s.power.dark = true)
    ∧ (let s : State := awake.setRegs [(key 0x2100 1, 0), (key 0x2100 13, 512)]; let idle := s.power.dark = false;
        s.on16 = true ∧ s.powerState = psBoot ∧ idle)
    ∧ (let s : State := awake; ((s.on16 = false ∨ s.powerState ≠ psBoot ∨ s.power.dark = true)))
    ∧ (let s : State := awake.setReg (key 0x2100 10) 128; let n : Nat := 7; let mask := s.reg (key 0x2100 0x0A);
        bitOf mask n = true)
    ∧ (let s : State := awake.setReg (key 0x2100 10) 0; let n : Nat := 7; let mask := s.reg (key 0x2100 0x0A);
        bitOf mask n = false)
    ∧ (let s : State := awake.setRegs [(key 0x2100 10, 256), (key 0x2300 7, 1), (key 0x2300 2, 1)] |>.modPower fun p => { p with calOffset := 1 };
        let mask := s.reg (key 0x2100 0x0A);
        let alarm := bitOf mask 8 = true ∧ s.reg (key 0x2300 7) ≠ 0 ∧ s.timeValid = true ∧ s.reg (key 0x2300 7) ≤ s.calendar;
        alarm)
    ∧ (let s : State := awake.setReg (key 0x2100 10) 0; let mask := s.reg (key 0x2100 0x0A);
        let alarm := bitOf mask 8 = true ∧ s.reg (key 0x2300 7) ≠ 0 ∧ s.timeValid = true ∧ s.reg (key 0x2300 7) ≤ s.calendar;
        ¬ alarm)
    ∧ (let s : State := awake.setReg (key 0x2100 10) 512; let mask := s.reg (key 0x2100 0x0A); bitOf mask 9 = true)
    ∧ (let s : State := awake.setReg (key 0x2100 10) 0; let mask := s.reg (key 0x2100 0x0A); bitOf mask 9 = false)
    ∧ (let s : State := awake; let idle := s.power.dark = false; s.power.resetLow = false ∧ idle)
    ∧ (let s : State := awake.modPower fun p => { p with resetLow := true };
        ((s.power.resetLow = true ∨ s.power.dark = true)))
    ∧ (let s : State := awake.modPower fun p => { p with resetLow := true, perstLow := true };
        let straps : Straps := ⟨255, 255, 0⟩;
        let most := ((straps.a &&& straps.b) ||| (straps.b &&& straps.c) ||| (straps.a &&& straps.c)) % 128;
        let high := s.modPower fun p => { p with resetLow := false };
        let sampled := high.setRegs [(key 0x2010 1, most), (key 0x2010 7, most)]; s.power.resetLow = true
          ∧ ((sampled.held = true ∨ (sampled.powerState = psFailed ∧ sampled.on16 = true))))
    ∧ (let s : State := awake.modPower fun p => { p with resetLow := true }; let straps : Straps := ⟨255, 255, 0⟩;
        let most := ((straps.a &&& straps.b) ||| (straps.b &&& straps.c) ||| (straps.a &&& straps.c)) % 128;
        let high := s.modPower fun p => { p with resetLow := false };
        let sampled := high.setRegs [(key 0x2010 1, most), (key 0x2010 7, most)]; s.power.resetLow = true
          ∧ sampled.held = false ∧ ((sampled.powerState ≠ psFailed ∨ sampled.on16 = false)))
    ∧ (let s : State := awake; s.power.resetLow = false)
    ∧ (let s : State := awake.setReg (key 0x2100 7) 255; let idle := s.power.dark = false; idle ∧ s.held = false
          ∧ s.rails ≠ 0)
    ∧ (let s : State := (awake.setReg (key 0x2100 7) 255).setReg (key 0x4000 5) 0; let idle := s.power.dark = false;
        idle ∧ s.held = false ∧ s.rails ≠ 0 ∧ s.reg (key 0x4000 5) = 0)
    ∧ (let s : State := (awake.setReg (key 0x2100 7) 255).setReg (key 0x4000 5) 1; let idle := s.power.dark = false;
        idle ∧ s.held = false ∧ s.rails ≠ 0 ∧ s.reg (key 0x4000 5) ≠ 0)
    ∧ (let s : State := awake; ((s.power.dark = true ∨ s.held = true ∨ s.rails = 0)))
    ∧ (let s : State := awake.modPower fun p => { p with perstLow := true }; s.power.perstLow = true)
    ∧ (let s : State := awake; s.power.perstLow = false)
    ∧ (let s : State := awake; let idle := s.power.dark = false; idle)
    ∧ (let s : State := awake.modPower fun p => { p with dark := true }; s.power.dark = true)
    ∧ (let s : State := awake.modPower fun p => { p with dark := true }; s.power.dark = true ∧ s.power.resetLow = false)
    ∧ (let s : State := awake; let idle := s.power.dark = false; ((idle ∨ s.power.resetLow = true))) := by
  refine ⟨?_, ?_, ?_, ?_, ?_, ?_, ?_, ?_, ?_, ?_, ?_, ?_, ?_, ?_, ?_, ?_, ?_, ?_, ?_, ?_, ?_, ?_, ?_, ?_, ?_, ?_, ?_, ?_, ?_, ?_, ?_, ?_, ?_, ?_⟩ <;> decide +kernel

/-- The hypotheses of BootBanksDomainsAndHeat. -/
theorem test_witness_BootBanksDomainsAndHeat :
    (let s : State := booting; let sel : Bool := true; let a : BankRead := .image image;
        let b : BankRead := .image image; let f : FirmwareImage := image;
        let kept : BankRead → Option FirmwareImage := fun r => match r with | .image f => some f | .unreadable => none;
        let read := { s with nor := { s.nor with banks := [kept a, kept b] } };
        let booting := s.powerState = psBoot ∧ 1 ≤ s.power.phase ∧ s.power.bankOk = false ∧ s.power.lowering = false ∧ s.held = false;
        let n := if sel = true then read.nor.bankSelect else 0; let first := if n = 0 then a else b; booting
          ∧ read.bankCode first = 0 ∧ first = .image f)
    ∧ (let s : State := booting; let sel : Bool := true; let a : BankRead := .unreadable;
        let b : BankRead := .image image; let f : FirmwareImage := image;
        let kept : BankRead → Option FirmwareImage := fun r => match r with | .image f => some f | .unreadable => none;
        let read := { s with nor := { s.nor with banks := [kept a, kept b] } };
        let booting := s.powerState = psBoot ∧ 1 ≤ s.power.phase ∧ s.power.bankOk = false ∧ s.power.lowering = false ∧ s.held = false;
        let n := if sel = true then read.nor.bankSelect else 0; let first := if n = 0 then a else b;
        let other := if n = 0 then b else a; let out := read.bankRejected n (read.bankCode first); booting
          ∧ read.bankCode first ≠ 0 ∧ out.bankCode other = 0 ∧ other = .image f)
    ∧ (let s : State := booting; let sel : Bool := true; let a : BankRead := .unreadable;
        let b : BankRead := .unreadable;
        let kept : BankRead → Option FirmwareImage := fun r => match r with | .image f => some f | .unreadable => none;
        let read := { s with nor := { s.nor with banks := [kept a, kept b] } };
        let booting := s.powerState = psBoot ∧ 1 ≤ s.power.phase ∧ s.power.bankOk = false ∧ s.power.lowering = false ∧ s.held = false;
        let n := if sel = true then read.nor.bankSelect else 0; let first := if n = 0 then a else b;
        let other := if n = 0 then b else a; let out := read.bankRejected n (read.bankCode first); booting
          ∧ read.bankCode first ≠ 0 ∧ out.bankCode other ≠ 0)
    ∧ (let s : State := booting.modPower fun p => { p with bankOk := true };
        let booting := s.powerState = psBoot ∧ 1 ≤ s.power.phase ∧ s.power.bankOk = false ∧ s.power.lowering = false ∧ s.held = false;
        ¬ booting)
    ∧ (let s : State := (booting.setRegs [(key 0x2102 78, 3), (key 0x2102 89, 3)]).modPower fun p => { p with bankOk := true, hbmOk := true };
        let ready := s.powerState = psBoot ∧ s.power.bankOk = true ∧ s.power.hbmOk = true ∧ 2 ≤ s.power.phase ∧ s.power.lowering = false ∧ s.held = false ∧ s.domState 88 = 3 ∧ s.domState 77 = 3 ∧ s.ethernetOk = true;
        ready)
    ∧ (let s : State := booting;
        let ready := s.powerState = psBoot ∧ s.power.bankOk = true ∧ s.power.hbmOk = true ∧ 2 ≤ s.power.phase ∧ s.power.lowering = false ∧ s.held = false ∧ s.domState 88 = 3 ∧ s.domState 77 = 3 ∧ s.ethernetOk = true;
        ¬ ready)
    ∧ (let s : State := awake.setReg (key 0x2102 96) 4; let d : Nat := 95; s.domState d = 4)
    ∧ (let s : State := booting; let d : Nat := 95; s.domState d ≠ 4)
    ∧ (let s : State := awake.modPower fun p => { p with slices := [23] }; let k : Nat := 23;
        s.power.slices.contains k = true ∧ s.lanesOn k = 0)
    ∧ (let s : State := { awake with pool := [sector .first false] }; let k : Nat := 23;
        ((s.power.slices.contains k = false ∨ s.lanesOn k ≠ 0)))
    ∧ (let s : State := booting; s.sec.signer = [])
    ∧ (let s : State := { awake with sec := { awake.sec with signer := [⟨[1], none⟩] } }; s.sec.signer ≠ [])
    ∧ (let s : State := awake.modPower fun p => { p with dark := true }; s.power.dark = true)
    ∧ (let s : State := { (awake.setReg (key 0x2103 3) 115) with nvme := { awake.nvme with ctrls := [] } };
        let tj : Int := 1149; let temps : List Int := [900]; s.power.dark = false ∧ s.nvme.ctrls = []
          ∧ s.can.standing.contains ⟨0x4200, 0, placeOf 0⟩ = false ∧ temps.foldl max (-32768) < 950 ∧ -32768 ≤ tj
          ∧ tj < 10 * s.reg (key 0x2103 3) ∧ tj < 1150)
    ∧ (let s : State := awake.modPower fun p => { p with hotRun := 1 }; let tj : Int := 1150; s.power.dark = false
          ∧ 1150 ≤ tj ∧ s.power.hotRun = 1 ∧ s.power.latched = false ∧ s.powerState ≠ psHearth
          ∧ s.powerState ≠ psFailed) := by
  refine ⟨?_, ?_, ?_, ?_, ?_, ?_, ?_, ?_, ?_, ?_, ?_, ?_, ?_, ?_, ?_⟩ <;> decide +kernel

/-- The hypotheses of RingFormationAndLinks. -/
theorem test_witness_RingFormationAndLinks :
    (let s := (ringAt 2 0).setReg (ringKey 2) 2; s.enabledRing = true ∧ s.ringState = rsForming ∧ s.linkUp 0 = true
          ∧ electMaster s.fabric.roster (⟨s.serial, s.reg (ringKey 2), 0, Config.freeValue s.free % 65536, s.reg (portKey 0 2), s.part.stations⟩ :: (s.fabric.found.filter fun c => c.serial != s.serial)) = none)
    ∧ (State.reset.enabledRing = false)
    ∧ (let s := ringAt 3 0; let hd : FrameHead := ⟨0, 0, 4, false, 0, 0⟩; s.enabledRing = true
          ∧ hd.src = s.reg (ringKey 4) ∧ s.reg (ringKey 4) ≠ 0xFF)
    ∧ (let s := master; let hd : FrameHead := ⟨0, 5, 4, false, 0, 0⟩;
        ¬ (hd.src = s.reg (ringKey 4) ∧ s.reg (ringKey 4) ≠ 0xFF) ∧ s.linkUp 0 = false)
    ∧ (let s := ringAt 3 0; let hd : FrameHead := ⟨0, 5, 4, false, 1, 0⟩; s.enabledRing = true
          ∧ ¬ (hd.src = s.reg (ringKey 4) ∧ s.reg (ringKey 4) ≠ 0xFF) ∧ s.linkUp 0 = true
          ∧ hd.seq ≠ s.fabric.rx.getD 0 0)
    ∧ (let s := ringAt 3 0; let hd : FrameHead := ⟨0, 5, 4, false, 0, 0⟩; s.enabledRing = true
          ∧ ¬ (hd.src = s.reg (ringKey 4) ∧ s.reg (ringKey 4) ≠ 0xFF) ∧ s.linkUp 0 = true
          ∧ hd.seq = s.fabric.rx.getD 0 0 ∧ hd.dest = s.reg (ringKey 4) ∧ hd.dest ≠ 0xFE)
    ∧ (let s := ringAt 3 0; let hd : FrameHead := ⟨0xFE, 5, 4, false, 0, 0⟩; s.enabledRing = true
          ∧ ¬ (hd.src = s.reg (ringKey 4) ∧ s.reg (ringKey 4) ≠ 0xFF) ∧ s.linkUp 0 = true
          ∧ hd.seq = s.fabric.rx.getD 0 0 ∧ hd.dest = 0xFE)
    ∧ (let s := ringAt 3 0; let hd : FrameHead := ⟨3, 5, 4, false, 0, 0⟩; s.enabledRing = true
          ∧ ¬ (hd.src = s.reg (ringKey 4) ∧ s.reg (ringKey 4) ≠ 0xFF) ∧ s.linkUp 0 = true
          ∧ hd.seq = s.fabric.rx.getD 0 0 ∧ ¬ (hd.dest = 0xFF ∨ (hd.dest = s.reg (ringKey 4) ∧ hd.dest ≠ 0xFE))
          ∧ hd.dest ≠ 0xFE)
    ∧ (let s : State := (ringAt 2 1).modRing fun r => { r with found := [⟨2, 1, 1, 8, 8, 4⟩] };
        let forming := s.enabledRing = true ∧ s.ringState = rsForming ∧ (s.linkUp 0 = true ∨ s.linkUp 1 = true);
        let u := { s with free := s.free + 1 };
        let self : Candidate := ⟨s.serial, u.reg (ringKey 2), 0, Config.freeValue s.free % 65536, u.reg (portKey 0 2), s.part.stations⟩;
        let cands := self :: (s.fabric.found.filter fun c => c.serial != s.serial); forming
          ∧ (match electMaster s.fabric.roster cands with | some _ => true | _ => false) = true)
    ∧ (let s : State := ringAt 3 0;
        let forming := s.enabledRing = true ∧ s.ringState = rsForming ∧ (s.linkUp 0 = true ∨ s.linkUp 1 = true);
        ¬ forming)
    ∧ (let s : State := ringAt 3 0; let p : Nat := 0; let up := s.enabledRing = true ∧ s.linkUp p = true;
        let broken := s.bump (portKey p 8); up ∧ broken.linkUp (1 - p) = true)
    ∧ (let s : State := (ringAt 3 0).setReg (portKey 1 1) 1; let p : Nat := 0;
        let up := s.enabledRing = true ∧ s.linkUp p = true; let broken := s.bump (portKey p 8);
        up ∧ broken.linkUp (1 - p) = false)
    ∧ (let s : State := master; let p : Nat := 0; let up := s.enabledRing = true ∧ s.linkUp p = true; ¬ up)
    ∧ (let s : State := ((ringAt 4 0).setReg (portKey 0 1) 4).modRing fun r => { r with roster := [⟨2, 8, 8, 8, false, true, true⟩] };
        let p : Nat := 0; let peer : Nat := 2;
        let trains := s.enabledRing = true ∧ s.linkState p ≠ 0 ∧ s.linkState p ≠ 2 ∧ bitOf s.power.refLost 1 = false;
        let met := s.setReg (portKey p 3) peer;
        let waits := met.linkState p = 4 ∧ met.ringState = rsFolded ∧ (s.fabric.roster.any fun e => e.serial == peer) = true;
        trains ∧ waits)
    ∧ (let s : State := (ringAt 3 0).setReg (portKey 0 1) 3; let p : Nat := 0; let peer : Nat := 2;
        let trains := s.enabledRing = true ∧ s.linkState p ≠ 0 ∧ s.linkState p ≠ 2 ∧ bitOf s.power.refLost 1 = false;
        let met := s.setReg (portKey p 3) peer;
        let waits := met.linkState p = 4 ∧ met.ringState = rsFolded ∧ (s.fabric.roster.any fun e => e.serial == peer) = true;
        trains ∧ ¬ waits)
    ∧ (let s : State := ringAt 3 0; let p : Nat := 0;
        let trains := s.enabledRing = true ∧ s.linkState p ≠ 0 ∧ s.linkState p ≠ 2 ∧ bitOf s.power.refLost 1 = false;
        ¬ trains)
    ∧ (let s : State := (ringAt 4 1).modRing fun r => { r with rejoin := some 5 }; s.ringState = rsFolded
          ∧ s.fabric.rejoin ≠ none)
    ∧ (let s : State := ringAt 3 1; ((s.ringState ≠ rsFolded ∨ s.fabric.rejoin = none)))
    ∧ (let s : State := ringAt 2 0; let p : Nat := 0; s.linkUp p = true)
    ∧ (let s : State := master; let p : Nat := 0; s.linkUp p = false) := by
  refine ⟨?_, ?_, ?_, ?_, ?_, ?_, ?_, ?_, ?_, ?_, ?_, ?_, ?_, ?_, ?_, ?_, ?_, ?_, ?_, ?_⟩ <;> decide +kernel

/-- The hypotheses of RingTimeStrobesAndGrants. -/
theorem test_witness_RingTimeStrobesAndGrants :
    (let s := ringAt 3 1; let hd : FrameHead := ⟨0xFE, 0, 4, false, 0, 0⟩; s.enabledRing = true
          ∧ ¬ (hd.src = s.reg (ringKey 4) ∧ s.reg (ringKey 4) ≠ 0xFF) ∧ s.linkUp 0 = true
          ∧ hd.seq = s.fabric.rx.getD 0 0 ∧ hd.dest = 0xFE)
    ∧ (let s : State := ringAt 3 1;
        let probed := s.forEach ((List.range 2).filter s.linkUp) fun u q => u.ringSend q 0x01 [u.ringTime];
        let leads := probed.atZero = true ∧ (probed.ringRuns = true ∨ probed.ringState = rsOver ∨ probed.ringState = rsForming);
        s.enabledRing = true ∧ ¬ leads)
    ∧ (let s : State := ringAt 3 0;
        let probed := s.forEach ((List.range 2).filter s.linkUp) fun u q => u.ringSend q 0x01 [u.ringTime];
        let leads := probed.atZero = true ∧ (probed.ringRuns = true ∨ probed.ringState = rsOver ∨ probed.ringState = rsForming);
        s.enabledRing = true ∧ leads)
    ∧ (let s : State := awake; s.enabledRing = false)
    ∧ (let s : State := (ringAt 3 0).modRing fun r => { r with strobes := [(15, 0)] }; let n : Nat := 15;
        s.fabric.strobes.any (fun x => x.1 == n) = true)
    ∧ (let s : State := ringAt 3 0; let n : Nat := 15; s.fabric.strobes.any (fun x => x.1 == n) = false)
    ∧ (let s : State := (ringAt 3 0).modRing fun r => { r with grants := [(2, 7, 0)] }; let serial : Nat := 2;
        let st : Nat := 7; let pair := fun (g : Nat × Nat × Nat) => g.1 == serial && g.2.1 == st; s.isMaster = true
          ∧ s.fabric.grants.any pair = true)
    ∧ (let s : State := ringAt 3 0; let serial : Nat := 2; let st : Nat := 7;
        let pair := fun (g : Nat × Nat × Nat) => g.1 == serial && g.2.1 == st;
        ((s.isMaster = false ∨ s.fabric.grants.any pair = false))) := by
  refine ⟨?_, ?_, ?_, ?_, ?_, ?_, ?_, ?_⟩ <;> decide +kernel

/-- The hypotheses of LateRingStrobe. -/
theorem test_witness_LateRingStrobe :
    (let s : State := { ringAt 3 0 with now := 5 }; let p : Nat := 0; let n : Nat := 15; let t : Nat := 4999;
        let hd : FrameHead := ⟨0xFF, 5, 4, false, 0, 0⟩; s.enabledRing = true ∧ s.linkUp p = true
          ∧ (¬ (hd.src = s.reg (ringKey 4) ∧ s.reg (ringKey 4) ≠ 0xFF)) ∧ hd.seq = s.fabric.rx.getD p 0
          ∧ ((hd.dest = 0xFF ∨ hd.dest = 0xFE ∨ hd.dest = s.reg (ringKey 4))) ∧ s.ringRuns = true ∧ 12 ≤ n
          ∧ t < s.ringTime)
    ∧ (let s : State := ({ ringAt 3 0 with now := 5 }).modStn 7 fun t => { t with cmd := some ⟨2, 4, 12, false, [.spinUp], 0, false, 0, true⟩ };
        let p : Nat := 0; let n : Nat := 15; let t : Nat := 4999; let i : Nat := 7;
        let hd : FrameHead := ⟨0xFF, 5, 4, false, 0, 0⟩;
        let c : StnCmd := ⟨2, 4, 12, false, [.spinUp], 0, false, 0, true⟩; let rest : List StnStep := [];
        s.enabledRing = true ∧ s.linkUp p = true ∧ (¬ (hd.src = s.reg (ringKey 4) ∧ s.reg (ringKey 4) ≠ 0xFF))
          ∧ hd.seq = s.fabric.rx.getD p 0 ∧ ((hd.dest = 0xFF ∨ hd.dest = 0xFE ∨ hd.dest = s.reg (ringKey 4)))
          ∧ s.ringRuns = true ∧ 12 ≤ n ∧ t < s.ringTime ∧ (s.stn i).cmd = some c ∧ c.taken = true ∧ c.strobe ≠ 0
          ∧ c.steps = .spinUp :: rest)
    ∧ (let s : State := ({ ringAt 3 0 with now := 5 }).modSq 14 fun q => { q with wait := .strobe 12 };
        let p : Nat := 0; let n : Nat := 15; let t : Nat := 4999; let i : Nat := 7; let m : Nat := 12;
        let hd : FrameHead := ⟨0xFF, 5, 4, false, 0, 0⟩; s.enabledRing = true ∧ s.linkUp p = true
          ∧ (¬ (hd.src = s.reg (ringKey 4) ∧ s.reg (ringKey 4) ≠ 0xFF)) ∧ hd.seq = s.fabric.rx.getD p 0
          ∧ ((hd.dest = 0xFF ∨ hd.dest = 0xFE ∨ hd.dest = s.reg (ringKey 4))) ∧ s.ringRuns = true ∧ 12 ≤ n
          ∧ t < s.ringTime ∧ (s.sq (2 * i)).wait = .strobe m)
    ∧ (let s : State := ({ ringAt 3 0 with now := 5 }).modSq 15 fun q => { q with wait := .strobe 12 };
        let p : Nat := 0; let n : Nat := 15; let t : Nat := 4999; let i : Nat := 7; let m : Nat := 12;
        let hd : FrameHead := ⟨0xFF, 5, 4, false, 0, 0⟩; s.enabledRing = true ∧ s.linkUp p = true
          ∧ (¬ (hd.src = s.reg (ringKey 4) ∧ s.reg (ringKey 4) ≠ 0xFF)) ∧ hd.seq = s.fabric.rx.getD p 0
          ∧ ((hd.dest = 0xFF ∨ hd.dest = 0xFE ∨ hd.dest = s.reg (ringKey 4))) ∧ s.ringRuns = true ∧ 12 ≤ n
          ∧ t < s.ringTime ∧ (s.sq (2 * i + 1)).wait = .strobe m)
    ∧ (let s : State := ({ ringAt 3 0 with now := 5 }).modSq 23 fun q => { q with wait := .strobe 12 };
        let p : Nat := 0; let n : Nat := 15; let t : Nat := 4999; let i : Nat := 7; let m : Nat := 12;
        let hd : FrameHead := ⟨0xFF, 5, 4, false, 0, 0⟩; s.enabledRing = true ∧ s.linkUp p = true
          ∧ (¬ (hd.src = s.reg (ringKey 4) ∧ s.reg (ringKey 4) ≠ 0xFF)) ∧ hd.seq = s.fabric.rx.getD p 0
          ∧ ((hd.dest = 0xFF ∨ hd.dest = 0xFE ∨ hd.dest = s.reg (ringKey 4))) ∧ s.ringRuns = true ∧ 12 ≤ n
          ∧ t < s.ringTime ∧ (s.sq (16 + i)).wait = .strobe m) := by
  refine ⟨?_, ?_, ?_, ?_, ?_⟩ <;> decide +kernel

/-- The hypotheses of SpreadVolumes. -/
theorem test_witness_SpreadVolumes :
    (let s := spread 0; let hd : FrameHead := ⟨0, 5, 4, false, 0, 0⟩; s.enabledRing = true
          ∧ ¬ (hd.src = s.reg (ringKey 4) ∧ s.reg (ringKey 4) ≠ 0xFF) ∧ s.linkUp 0 = true
          ∧ hd.seq = s.fabric.rx.getD 0 0 ∧ hd.dest = s.reg (ringKey 4) ∧ hd.dest ≠ 0xFE)
    ∧ (let s : State := spread 0; let v : Nat := 0; let row : Nat := 0;
        let lines : List Line := [{ line .dirty with nsid := 256, dirty := 65535 }]; let x : Volume := volume;
        let serves := s.isMaster = true ∧ s.ecUp = true ∧ s.volume v = some x; serves
          ∧ row % 4000 = x.zoneRows (row / 4000) ∧ s.rowData x row = some lines)
    ∧ (let s : State := spread 0; let v : Nat := 0; let row : Nat := 1; let x : Volume := volume;
        let serves := s.isMaster = true ∧ s.ecUp = true ∧ s.volume v = some x; serves
          ∧ ((row % 4000 ≠ x.zoneRows (row / 4000) ∨ s.rowData x row = none)))
    ∧ (let s : State := spread 1; let v : Nat := 0; ((s.isMaster = false ∨ s.ecUp = false ∨ s.volume v = none)))
    ∧ (let s : State := spread 0; let v : Nat := 3; s.volume v = none)
    ∧ (let s : State := spread 0; let v : Nat := 0; let x : Volume := volume; s.volume v = some x ∧ s.spread.rows = [])
    ∧ (let s : State := spread 0; let v : Nat := 0; let col : Nat := 0; let x : Volume := volume;
        let serves := s.isMaster = true ∧ s.ecUp = true ∧ s.volume v = some x; serves
          ∧ ((s.encodeWaits = true ∨ x.cols[col]? = none)))
    ∧ (let s : State := rebuilds (owing 1 []); let v : Nat := 0; let col : Nat := 0; let x : Volume := owing 1 [];
        let c : Column := ⟨1, 15, 0, false, [], true⟩;
        let serves := s.isMaster = true ∧ s.ecUp = true ∧ s.volume v = some x;
        let turn := serves ∧ s.encodeWaits = false ∧ x.cols[col]? = some c; turn ∧ c.owed = [])
    ∧ (let s : State := rebuilds (owing 3 [0]); let v : Nat := 0; let row : Nat := 0; let col : Nat := 0;
        let x : Volume := owing 3 [0]; let c : Column := ⟨3, 15, 0, false, [0], true⟩; let left : List Nat := [];
        let serves := s.isMaster = true ∧ s.ecUp = true ∧ s.volume v = some x;
        let back := s.modVolume v fun y => y.modCol col fun c => { c with up := true };
        let turn := serves ∧ s.encodeWaits = false ∧ x.cols[col]? = some c; turn ∧ c.owed = row :: left
          ∧ back.colUp { c with up := true } = false)
    ∧ (let s : State := rebuilds (owing 1 [0]); let v : Nat := 0; let row : Nat := 0; let col : Nat := 0;
        let lines : List Line := [{ line .dirty with nsid := 256, dirty := 65535 }]; let x : Volume := owing 1 [0];
        let c : Column := ⟨1, 15, 0, false, [0], true⟩; let left : List Nat := [];
        let serves := s.isMaster = true ∧ s.ecUp = true ∧ s.volume v = some x;
        let back := s.modVolume v fun y => y.modCol col fun c => { c with up := true };
        let turn := serves ∧ s.encodeWaits = false ∧ x.cols[col]? = some c; turn ∧ c.owed = row :: left
          ∧ back.colUp { c with up := true } = true ∧ s.rowData x row = some lines)
    ∧ (let s : State := rebuilds (owing 1 [1]); let v : Nat := 0; let row : Nat := 1; let col : Nat := 0;
        let x : Volume := owing 1 [1]; let c : Column := ⟨1, 15, 0, false, [1], true⟩;
        let parts : List MemberPart := [⟨1, []⟩]; let left : List Nat := [];
        let serves := s.isMaster = true ∧ s.ecUp = true ∧ s.volume v = some x;
        let back := s.modVolume v fun y => y.modCol col fun c => { c with up := true };
        let others := (parts.filter fun p => p.col != col && p.col < x.n).map fun p => (x.slotOf row p.col, p.blocks.map (·.data));
        let turn := serves ∧ s.encodeWaits = false ∧ x.cols[col]? = some c; turn ∧ c.owed = row :: left
          ∧ back.colUp { c with up := true } = true ∧ s.rowData x row = none ∧ x.k ≤ others.length
          ∧ (match decodeRow x.k x.m others with | some _ => true | _ => false) = true)
    ∧ (let s : State := rebuilds (owing 1 [1]); let v : Nat := 0; let row : Nat := 1; let col : Nat := 0;
        let x : Volume := owing 1 [1]; let c : Column := ⟨1, 15, 0, false, [1], true⟩;
        let parts : List MemberPart := []; let left : List Nat := [];
        let serves := s.isMaster = true ∧ s.ecUp = true ∧ s.volume v = some x;
        let others := (parts.filter fun p => p.col != col && p.col < x.n).map fun p => (x.slotOf row p.col, p.blocks.map (·.data));
        let turn := serves ∧ s.encodeWaits = false ∧ x.cols[col]? = some c; turn ∧ c.owed = row :: left
          ∧ s.rowData x row = none ∧ ((others.length < x.k ∨ decodeRow x.k x.m others = none))) := by
  refine ⟨?_, ?_, ?_, ?_, ?_, ?_, ?_, ?_, ?_, ?_, ?_, ?_⟩ <;> decide +kernel

/-- The hypotheses of StationStepsAndOperations. -/
theorem test_witness_StationStepsAndOperations :
    (let s : State := station 2; let i : Nat := 7; let t := s.stn i; t.cmd = none)
    ∧ (let s : State := (station 2).modStn 7 fun t => { t with cmd := some ⟨2, 4, 3, false, [.spinUp], 0, false, 0, false⟩ };
        let i : Nat := 7; let c : StnCmd := ⟨2, 4, 3, false, [.spinUp], 0, false, 0, false⟩; let t := s.stn i;
        t.cmd = some c ∧ ((c.taken = false ∨ c.steps = [])))
    ∧ (let s : State := stepping 3 .unclamp; let i : Nat := 7; let st : StnStep := .unclamp; let t := s.stn i;
        t.cmd = some (command .unclamp) ∧ s.stepReady i st = true)
    ∧ (let s : State := stepping 3 .spinUp; let i : Nat := 7; let st : StnStep := .spinUp; let t := s.stn i;
        t.cmd = some (command .spinUp) ∧ s.stepReady i st = false)
    ∧ (let s : State := stepping 0 .checkStore; let i : Nat := 7; let t := s.stn i; t.cmd = some (command .checkStore))
    ∧ (let s : State := stepping 3 .acquire; let i : Nat := 7; let t := s.stn i; t.cmd = some (command .acquire))
    ∧ (let s : State := stepping 3 .attach; let i : Nat := 7; let t := s.stn i; t.cmd = some (command .attach))
    ∧ (let s : State := stepping 4 .drain; let i : Nat := 7; let t := s.stn i; t.cmd = some (command .drain))
    ∧ (let s : State := stepping 3 .spinUp; let i : Nat := 7; let st : StnStep := .spinUp; let t := s.stn i;
        t.cmd = some (command .spinUp) ∧ st ≠ .checkStore)
    ∧ (let s : State := stepping 3 .spinUp; let i : Nat := 7; let st : StnStep := .spinUp; let t := s.stn i;
        t.cmd = some (command .spinUp) ∧ st ≠ .acquire)
    ∧ (let s : State := stepping 3 .spinUp; let i : Nat := 7; let st : StnStep := .spinUp; let t := s.stn i;
        t.cmd = some (command .spinUp) ∧ st ≠ .attach)
    ∧ (let s : State := stepping 3 .spinUp; let i : Nat := 7; let st : StnStep := .spinUp; let t := s.stn i;
        t.cmd = some (command .spinUp) ∧ st ≠ .drain)
    ∧ (let s : State := State.reset; let i : Nat := 7; s.stState i = stOff ∧ s.domState (6 * i) ≠ 3)
    ∧ (let s : State := station 2; let i : Nat := 7; ((s.stState i ≠ stOff ∨ s.domState (6 * i) = 3)))
    ∧ (let s : State := station 0; let i : Nat := 7; s.stState i = stOff)
    ∧ (let s : State := station 2; let i : Nat := 7; s.stState i ≠ stOff)
    ∧ (let s : State := station 2; let nsid : Nat := 15; let cl : Nat := 0; s.op nsid cl = none)
    ∧ (let s : State := withOp 3 (mediaOp .prefetch false); let nsid : Nat := 15; let cl : Nat := 0;
        let o : MediaOp := mediaOp .prefetch false; let x := o.station;
        let on := s.stState x = stReady ∨ s.stState x = stActive;
        let barred := o.dispatched = true ∨ nsSpread nsid = true ∨ (s.nvme.activating ≠ none ∧ o.kind = .demand) ∨ ¬ on ∨ ((s.stn x).noDispatch = true ∧ o.kind ≠ .lia ∧ o.kind ≠ .tables ∧ o.kind ≠ .merge) ∨ 256 ≤ s.reg (stKey x 0 7) ∨ (o.kind = .prefetch ∧ s.bandsFirst x = true) ∨ (o.kind = .test ∧ s.hostQueued x = true);
        s.op nsid cl = some o ∧ barred)
    ∧ (let s : State := withOp 4 (mediaOp .prefetch false); let nsid : Nat := 15; let cl : Nat := 0;
        let o : MediaOp := mediaOp .prefetch false; let x := o.station;
        let on := s.stState x = stReady ∨ s.stState x = stActive;
        let barred := o.dispatched = true ∨ nsSpread nsid = true ∨ (s.nvme.activating ≠ none ∧ o.kind = .demand) ∨ ¬ on ∨ ((s.stn x).noDispatch = true ∧ o.kind ≠ .lia ∧ o.kind ≠ .tables ∧ o.kind ≠ .merge) ∨ 256 ≤ s.reg (stKey x 0 7) ∨ (o.kind = .prefetch ∧ s.bandsFirst x = true) ∨ (o.kind = .test ∧ s.hostQueued x = true);
        s.op nsid cl = some o ∧ ¬ barred)
    ∧ (let s : State := station 2; let nsid : Nat := 15; let cl : Nat := 0;

        let mine := fun (g : Granary) => g.ops.find? fun o => o.nsid == nsid && o.cluster == cl && o.dispatched;
        mine s.granary = none)
    ∧ (let s : State := withOp 3 (mediaOp .prefetch true); let nsid : Nat := 15; let cl : Nat := 0;
        let o : MediaOp := mediaOp .prefetch true; let x := o.station;
        let on := s.stState x = stReady ∨ s.stState x = stActive;
        let mine := fun (g : Granary) => g.ops.find? fun o => o.nsid == nsid && o.cluster == cl && o.dispatched;
        mine s.granary = some o ∧ ((nsSpread nsid = true ∨ (¬ on ∧ s.stState x ≠ stMaint))))
    ∧ (let s : State := (withOp 5 (mediaOp .prefetch true)).setReg (stKey 7 0 7) 1; let nsid : Nat := 15;
        let cl : Nat := 0; let o : MediaOp := mediaOp .prefetch true; let x := o.station;
        let on := s.stState x = stReady ∨ s.stState x = stActive;
        let mine := fun (g : Granary) => g.ops.find? fun o => o.nsid == nsid && o.cluster == cl && o.dispatched;
        mine s.granary = some o ∧ nsSpread nsid = false ∧ ((on ∨ s.stState x = stMaint))) := by
  refine ⟨?_, ?_, ?_, ?_, ?_, ?_, ?_, ?_, ?_, ?_, ?_, ?_, ?_, ?_, ?_, ?_, ?_, ?_, ?_, ?_, ?_, ?_⟩ <;> decide +kernel

/-- The hypotheses of StationSensorsAndStrobes. -/
theorem test_witness_StationSensorsAndStrobes :
    (let s : State := (station 4).modPins fun p => { p with ilkOpen := 128 }; let i : Nat := 7; s.ilkOpen i = true)
    ∧ (let s : State := station 4; let i : Nat := 7;
        let dropped := ((s.modPins fun p => { p with ilkOpen := setBit p.ilkOpen i }).headDrop (2 * i)).headDrop (2 * i + 1);
        let live := dropped.powerState = psRun ∨ dropped.powerState = psBoot; s.ilkOpen i = false ∧ live)
    ∧ (let s : State := (station 4).setReg (key 0x2100 1) psHearth; let i : Nat := 7;
        let dropped := ((s.modPins fun p => { p with ilkOpen := setBit p.ilkOpen i }).headDrop (2 * i)).headDrop (2 * i + 1);
        let live := dropped.powerState = psRun ∨ dropped.powerState = psBoot; s.ilkOpen i = false ∧ ¬ live)
    ∧ (let s : State := station 4; let i : Nat := 7; s.ilkOpen i = false)
    ∧ (let s : State := (station 4).modPins fun p => { p with ilkOpen := 128 }; let i : Nat := 7;
        let up := s.powerState = psRun ∨ s.powerState = psBoot; s.ilkOpen i = true ∧ up)
    ∧ (let s : State := ((station 4).setReg (key 0x2100 1) psHearth).modPins fun p => { p with ilkOpen := 128 };
        let i : Nat := 7; let up := s.powerState = psRun ∨ s.powerState = psBoot; s.ilkOpen i = true ∧ ¬ up)
    ∧ (let s : State := (station 5).modPins fun p => { p with discPres := 128 }; let i : Nat := 7;
        let high : Bool := false; let t := s.stn i; let up := s.powerState = psRun ∨ s.powerState = psBoot;
        let clamped := (stClamped ≤ s.stState i ∧ s.stState i ≤ stActive) ∨ (s.stState i = stMaint ∧ stClamped ≤ t.maintFrom);
        up ∧ s.discHigh i = true ∧ high = false ∧ clamped)
    ∧ (let s : State := station 4; let i : Nat := 7; let high : Bool := true; let t := s.stn i;
        let up := s.powerState = psRun ∨ s.powerState = psBoot;
        let clamped := (stClamped ≤ s.stState i ∧ s.stState i ≤ stActive) ∨ (s.stState i = stMaint ∧ stClamped ≤ t.maintFrom);
        up ∧ ((s.discHigh i = false ∨ high = true ∨ ¬ clamped)))
    ∧ (let s : State := (station 4).setReg (key 0x2100 1) psHearth;
        let up := s.powerState = psRun ∨ s.powerState = psBoot; ¬ up)
    ∧ (let s : State := ((station 1).setStFlag 7 0 true).setReg (stKey 7 0 9) 1; let i : Nat := 7; let t := s.stn i;
        let clamps := s.stState i = stEmpty ∧ s.reg (stKey i 0 9) = 1 ∧ s.stFlag i 0 = true ∧ t.cmd = none ∧ s.hasOrder (16 + i) 0x12 = false;
        clamps)
    ∧ (let s : State := station 4; let i : Nat := 7; let t := s.stn i;
        let clamps := s.stState i = stEmpty ∧ s.reg (stKey i 0 9) = 1 ∧ s.stFlag i 0 = true ∧ t.cmd = none ∧ s.hasOrder (16 + i) 0x12 = false;
        ¬ clamps)
    ∧ (let s : State := (station 1).setReg (stKey 7 0 12) 1; let i : Nat := 7; let t := s.stn i;
        let idles := s.stState i = stEmpty ∧ s.reg (stKey i 0 0x0C) ≠ 0 ∧ s.stFlag i 0 = false ∧ t.cmd = none; idles)
    ∧ (let s : State := station 4; let i : Nat := 7; let t := s.stn i;
        let idles := s.stState i = stEmpty ∧ s.reg (stKey i 0 0x0C) ≠ 0 ∧ s.stFlag i 0 = false ∧ t.cmd = none; ¬ idles)
    ∧ (let s : State := stepping 3 .spinUp; let i : Nat := 7; let c : StnCmd := command .spinUp;
        let rest : List StnStep := []; let t := s.stn i;
        let armed := t.cmd = some c ∧ c.taken = true ∧ c.strobe ≠ 0 ∧ c.steps = .spinUp :: rest; armed)
    ∧ (let s : State := station 4; let i : Nat := 7; let t := s.stn i; t.cmd = none)
    ∧ (let s : State := stepping 3 .drain; let i : Nat := 7; let c : StnCmd := command .drain; let t := s.stn i;
        t.cmd = some c ∧ ((c.taken = false ∨ c.strobe = 0 ∨ c.steps.head? ≠ some .spinUp)))
    ∧ (let s : State := (station 4).modSq 14 fun q => { q with wait := .strobe 15 }; let i : Nat := 7;
        let n : Nat := 15; (s.sq (2 * i)).wait = .strobe n)
    ∧ (let s : State := (station 4).modSq 15 fun q => { q with wait := .strobe 15 }; let i : Nat := 7;
        let n : Nat := 15; (s.sq (2 * i + 1)).wait = .strobe n)
    ∧ (let s : State := (station 4).modSq 23 fun q => { q with wait := .strobe 15 }; let i : Nat := 7;
        let n : Nat := 15; (s.sq (16 + i)).wait = .strobe n)
    ∧ (let s : State := station 4; let i : Nat := 7; let who : Nat := 0; who ≠ 3
          ∧ (∀ n, (s.sq (seqOf i who)).wait ≠ .strobe n))
    ∧ (let s : State := (station 3).modStn 7 fun t => { t with offered := true }; let h : Nat := 15;
        let late := (s.stState (h / 2) = stSpinning ∨ s.stState (h / 2) = stMaint) ∧ (s.stn (h / 2)).offered = true ∧ (s.goodHeads (h / 2)).contains h = true ∧ s.substate h < hsTracking;
        late)
    ∧ (let s : State := station 4; let h : Nat := 15;
        let late := (s.stState (h / 2) = stSpinning ∨ s.stState (h / 2) = stMaint) ∧ (s.stn (h / 2)).offered = true ∧ (s.goodHeads (h / 2)).contains h = true ∧ s.substate h < hsTracking;
        ¬ late) := by
  refine ⟨by decide +kernel, by decide +kernel, by decide +kernel, by decide +kernel, by decide +kernel, by decide +kernel, by decide +kernel, by decide +kernel, by decide +kernel, by decide +kernel, by decide +kernel, by decide +kernel, by decide +kernel, by decide +kernel, by decide +kernel, by decide +kernel, by decide +kernel, by decide +kernel, by decide +kernel, ?_, by decide +kernel, by decide +kernel⟩
  · exact ⟨by decide +kernel, fun n h => nomatch (show ((station 4).sq (seqOf 7 0)).wait = .none by decide +kernel).symm.trans h⟩

/-- The hypotheses of WriteBands. -/
theorem test_witness_WriteBands :
    (let s : State := headAt 4; let h : Nat := 15; s.runs h 0x0C = false)
    ∧ (let s : State := (headRuns 4 12 0 0).setRegs [(connKey 7 0 52, 1), (connKey 7 0 53, 1)]; let h : Nat := 15;
        let x := s.sq h; let runs := s.runs h 0x0C = true; runs ∧ x.started = 0 ∧ s.shockOut (h / 2) = true)
    ∧ (let s : State := headRuns 3 12 0 0; let h : Nat := 15; let start : Nat := 180000; let x := s.sq h;
        let runs := s.runs h 0x0C = true; let direct := s.directOrder h = true; let wr := wrKey h;
        let at_ := if direct then s.reg (wr 3) else start;
        let place := if direct then s.stState (h / 2) = stMaint ∧ inTest (s.daf2 (h / 2)) at_ = true else at_ % 2 ^ 26 % 18 = 0;
        runs ∧ x.started = 0 ∧ s.shockOut (h / 2) = false ∧ ((s.writeOk h at_ = false ∨ ¬ place)))
    ∧ (let s : State := (headRuns 4 12 0 0).setRegs [(stKey 7 0 6, 1), (hdKey 15 0x13 3, 0)]; let h : Nat := 15;
        let start : Nat := 180000; let x := s.sq h; let runs := s.runs h 0x0C = true;
        let direct := s.directOrder h = true; let wr := wrKey h; let at_ := if direct then s.reg (wr 3) else start;
        let place := if direct then s.stState (h / 2) = stMaint ∧ inTest (s.daf2 (h / 2)) at_ = true else at_ % 2 ^ 26 % 18 = 0;
        runs ∧ x.started = 0 ∧ s.shockOut (h / 2) = false ∧ s.writeOk h at_ = true ∧ place)
    ∧ (let s : State := headRuns 4 12 0 0; let h : Nat := 15; let x := s.sq h; let runs := s.runs h 0x0C = true;
        runs ∧ x.started = 0)
    ∧ (let s : State := headRuns 4 12 0 1; let h : Nat := 15; let x := s.sq h; let runs := s.runs h 0x0C = true;
        runs ∧ x.started ≠ 0)
    ∧ (let s : State := banded 4 12 1; let h : Nat := 15; let d : Band := band; let x := s.sq h;
        let runs := s.runs h 0x0C = true; runs ∧ x.started ≠ 0 ∧ (s.hd h).band = some d)
    ∧ (let s : State := headRuns 4 12 0 1; let h : Nat := 15; let x := s.sq h; let runs := s.runs h 0x0C = true;
        runs ∧ x.started ≠ 0 ∧ (s.hd h).band = none)
    ∧ (let s : State := headAt 5; let h : Nat := 15; let nsid : Nat := 15; let cl : Nat := 0; let u := s.allocRedo h;
        let r := (u.retail h nsid cl).avoidDefect h nsid cl; (((r.hd h).band = none ∨ r.line nsid cl = none)))
    ∧ (let s : State := onBlu { band with stopping := true } (line .dirty); let h : Nat := 14; let b : Nat := 0;
        let nsid : Nat := 15; let cl : Nat := 0; let d : Band := { band with stopping := true };
        let l : Line := line .dirty; let u := s.allocRedo h; let r := (u.retail h nsid cl).avoidDefect h nsid cl;
        let gate := (r.hd h).gates.getD b Gate.init;
        let ready := d.test = false ∧ d.stopping = false ∧ bitOf d.mask b = true ∧ r.canWrite h b = true ∧ r.readyFor h b d l = true ∧ (gate.open_ = true ∨ gate.next = none) ∧ (d.opened = false ∨ (r.hd h).inhibited = false ∨ gate.open_ = true);
        let held := (r.hd h).band = some d ∧ r.line nsid cl = some l; held ∧ ¬ ready)
    ∧ (let s : State := onBlu band { line .dirty with valid := 1, dirty := 1 }; let h : Nat := 14; let b : Nat := 0;
        let nsid : Nat := 15; let cl : Nat := 0; let d : Band := band;
        let l : Line := { line .dirty with valid := 1, dirty := 1 }; let u := s.allocRedo h;
        let r := (u.retail h nsid cl).avoidDefect h nsid cl; let gate := (r.hd h).gates.getD b Gate.init;
        let ready := d.test = false ∧ d.stopping = false ∧ bitOf d.mask b = true ∧ r.canWrite h b = true ∧ r.readyFor h b d l = true ∧ (gate.open_ = true ∨ gate.next = none) ∧ (d.opened = false ∨ (r.hd h).inhibited = false ∨ gate.open_ = true);
        let held := (r.hd h).band = some d ∧ r.line nsid cl = some l; held ∧ ready ∧ r.fullLine l = false)
    ∧ (let s : State := onBlu band { line .dirty with dirty := 65535 }; let h : Nat := 14; let b : Nat := 0;
        let nsid : Nat := 15; let cl : Nat := 0; let d : Band := band;
        let l : Line := { line .dirty with dirty := 65535 }; let u := s.allocRedo h;
        let r := (u.retail h nsid cl).avoidDefect h nsid cl; let gate := (r.hd h).gates.getD b Gate.init;
        let ready := d.test = false ∧ d.stopping = false ∧ bitOf d.mask b = true ∧ r.canWrite h b = true ∧ r.readyFor h b d l = true ∧ (gate.open_ = true ∨ gate.next = none) ∧ (d.opened = false ∨ (r.hd h).inhibited = false ∨ gate.open_ = true);
        let held := (r.hd h).band = some d ∧ r.line nsid cl = some l; held ∧ ready ∧ r.fullLine l = true)
    ∧ (let s : State := banded 5 12 0; let h : Nat := 15; let d : Band := band; (s.hd h).band = some d)
    ∧ (let s : State := headAt 5; let h : Nat := 15; (s.hd h).band = none)
    ∧ (let s : State := headRuns 4 13 0 0; let h : Nat := 15; s.runs h 0x0D = true ∧ s.substate h ≠ hsWriting)
    ∧ (let s : State := banded 5 13 0; let h : Nat := 15; let x := s.sq h; s.runs h 0x0D = true
          ∧ s.substate h = hsWriting ∧ x.started = 0)
    ∧ (let s : State := banded 5 13 1; let h : Nat := 15; let x := s.sq h; s.runs h 0x0D = true
          ∧ s.substate h = hsWriting ∧ x.started ≠ 0)
    ∧ (let s : State := headAt 5; let h : Nat := 15; s.runs h 0x0D = false)
    ∧ (let s : State := { (loopAt 15 0 lsClosed 0 (loopAt 15 1 lsClosed 0 (banded 4 0 0))).modHd 15 (fun d => { d with inhibited := true }) with now := 1000000000 };
        let h : Nat := 15; let d : Band := band;
        let reopens := d.opened = true ∧ d.stopping = false ∧ (s.hd h).inhibited = true ∧ s.substate h = hsFollowing ∧ s.loopState h 0 = lsClosed ∧ s.loopState h 1 = lsClosed ∧ s.tiltWait h = false ∧ (s.hd h).quietFrom + s.reg (stKey (h / 2) 0xD0 5) ≤ s.now;
        (s.hd h).band = some d ∧ reopens)
    ∧ (let s : State := banded 5 0 0; let h : Nat := 15; let d : Band := band;
        let reopens := d.opened = true ∧ d.stopping = false ∧ (s.hd h).inhibited = true ∧ s.substate h = hsFollowing ∧ s.loopState h 0 = lsClosed ∧ s.loopState h 1 = lsClosed ∧ s.tiltWait h = false ∧ (s.hd h).quietFrom + s.reg (stKey (h / 2) 0xD0 5) ≤ s.now;
        (s.hd h).band = some d ∧ ¬ reopens) := by
  refine ⟨?_, ?_, ?_, ?_, ?_, ?_, ?_, ?_, ?_, ?_, ?_, ?_, ?_, ?_, ?_, ?_, ?_, ?_, ?_, ?_⟩ <;> decide +kernel

/-- The hypotheses of VerifyCalibrateFollow. -/
theorem test_witness_VerifyCalibrateFollow :
    (let s : State := headAt 4; let h : Nat := 15; s.runs h 5 = false)
    ∧ (let s : State := (headRuns 3 5 0 1).setRegs [(wrKey 15 1, 3), (hdKey 15 0x10 7, 1)]; let h : Nat := 15;
        let fe : FollowEvent := .read ⟨4, 1, 100⟩; let r : PilotRead := ⟨4, 1, 100⟩; let t := s.follow h fe;
        let behind := fun (r : PilotRead) => s.runs h 5 = true ∧ t.runs h 5 = false ∧ t.substate h = hsFollowing ∧ t.reg (wrKey h 1) = 3 ∧ t.reg (wrKey h 3) % 2 ^ 26 < r.addr % 2 ^ 26;
        fe = .read r ∧ behind r)
    ∧ (let s : State := headRuns 3 5 1 1; let h : Nat := 15; let fe : FollowEvent := .closed;
        let t := s.follow h fe;
        let behind := fun (r : PilotRead) => s.runs h 5 = true ∧ t.runs h 5 = false ∧ t.substate h = hsFollowing ∧ t.reg (wrKey h 1) = 3 ∧ t.reg (wrKey h 3) % 2 ^ 26 < r.addr % 2 ^ 26;
        ((∀ r, fe = .read r → ¬ behind r)))
    ∧ (let s : State := headAt 4; let h : Nat := 15; s.runs h 0x0E = false)
    ∧ (let s : State := headRuns 3 14 1 0; let h : Nat := 15; let x := s.sq h; let i := h / 2;
        let runs := s.runs h 0x0E = true;
        let may := s.substate h = hsFollowing ∧ (s.bdIn i = true ∨ inTest (s.daf2 i) (s.reg (hdKey h 0x13 4)) = true) ∧ (s.eng h).inj = .free;
        runs ∧ x.started = 0 ∧ ¬ may)
    ∧ (let s : State := (headRuns 4 14 0 0).setReg (stKey 7 0 6) 1; let h : Nat := 15; let x := s.sq h; let i := h / 2;
        let runs := s.runs h 0x0E = true; let bs := s.calBeams h x.param;
        let may := s.substate h = hsFollowing ∧ (s.bdIn i = true ∨ inTest (s.daf2 i) (s.reg (hdKey h 0x13 4)) = true) ∧ (s.eng h).inj = .free;
        runs ∧ x.started = 0 ∧ may ∧ bs = [])
    ∧ (let s : State := (headRuns 4 14 1 0).setReg (stKey 7 0 6) 1; let h : Nat := 15; let x := s.sq h; let i := h / 2;
        let runs := s.runs h 0x0E = true; let bs := s.calBeams h x.param;
        let may := s.substate h = hsFollowing ∧ (s.bdIn i = true ∨ inTest (s.daf2 i) (s.reg (hdKey h 0x13 4)) = true) ∧ (s.eng h).inj = .free;
        runs ∧ x.started = 0 ∧ may ∧ bs ≠ [])
    ∧ (let s : State := headRuns 4 14 1 1; let h : Nat := 15; let x := s.sq h; let runs := s.runs h 0x0E = true;
        runs ∧ x.started ≠ 0)
    ∧ (let s : State := ((headRuns 4 14 1 1).setReg (stKey 7 0xD0 0x0B) 100); let h : Nat := 15;
        let read : List BeamCal := [⟨0, List.replicate 18 0, []⟩];
        let x := s.sq h; let i := h / 2; let runs := s.runs h 0x0E = true; let layer := s.reg (hdKey h 0x13 1);
        let p := s.reg (hdKey h 0x13 3); let bs := s.calBeams h x.param;
        let outer := 2000 ≤ s.reg (hdKey h 0x13 4) % 2 ^ 26 / 18; let key := fun b => testKey layer ((p + b) % 8) outer;
        let mine := read.filter fun y => bs.contains y.b;
        let used := (s.setReg (stKey i 0xD9 8) 0).forEach mine fun w y => w.modSide (headNs h) fun d => { d with test := insertKey (key y.b) (usedOf d.test (key y.b) + 1) d.test };
        let out := mine.foldl (fun (r : State × Bool) y => ((r.1.calBeam h layer y).1, r.2 || (r.1.calBeam h layer y).2)) (used, false);
        runs ∧ x.started ≠ 0 ∧ out.2 = true)
    ∧ (let s : State := headRuns 4 14 1 1; let h : Nat := 15;
        let read : List BeamCal := []; let x := s.sq h; let i := h / 2;
        let runs := s.runs h 0x0E = true; let layer := s.reg (hdKey h 0x13 1); let p := s.reg (hdKey h 0x13 3);
        let bs := s.calBeams h x.param; let outer := 2000 ≤ s.reg (hdKey h 0x13 4) % 2 ^ 26 / 18;
        let key := fun b => testKey layer ((p + b) % 8) outer; let mine := read.filter fun y => bs.contains y.b;
        let used := (s.setReg (stKey i 0xD9 8) 0).forEach mine fun w y => w.modSide (headNs h) fun d => { d with test := insertKey (key y.b) (usedOf d.test (key y.b) + 1) d.test };
        let out := mine.foldl (fun (r : State × Bool) y => ((r.1.calBeam h layer y).1, r.2 || (r.1.calBeam h layer y).2)) (used, false);
        runs ∧ x.started ≠ 0 ∧ out.2 = false)
    ∧ (let s : State := (headRuns 4 12 0 1).modHd 15 fun d => { d with pklWait := true }; let h : Nat := 15;
        (s.hd h).pklWait = true ∧ s.runs h 0x0C = true)
    ∧ (let s : State := (headRuns 4 14 0 1).modHd 15 fun d => { d with pklWait := true }; let h : Nat := 15;
        (s.hd h).pklWait = true ∧ s.runs h 0x0C = false)
    ∧ (let s : State := headAt 4; let h : Nat := 15; (s.hd h).pklWait = false)
    ∧ (let s : State := headAt 4; let h : Nat := 15; let nsid : Nat := 15; let cl : Nat := 0;
        let c := clusterId nsid cl; let pool := s.pool.filter fun y => y.nsid == nsid && y.cl == cl && y.verify;
        let soon := pool.any fun y => y.stage == .firstWait || y.stage == .first;
        (((s.hd h).toVerify.contains c = false ∨ soon = true)))
    ∧ (let s : State := ((headAt 4).setReg (stKey 7 0 6) 1).modHd 15 fun d => { d with toVerify := [clusterId 15 0] };
        let h : Nat := 15; let nsid : Nat := 15; let cl : Nat := 0; let bits : List Nat := [0]; let i := h / 2;
        let c := clusterId nsid cl; let pool := s.pool.filter fun y => y.nsid == nsid && y.cl == cl && y.verify;
        let soon := pool.any fun y => y.stage == .firstWait || y.stage == .first; let bd := s.bdIn i = true;
        let counts := if bd then bits else pool.map (·.errs);
        let good := (bd ∨ ∀ k, k < 18 → pool.any (fun y => y.idx == k && y.stage == .good) = true) ∧ counts.all (· ≤ s.reg (stKey i 0xD0 4)) = true;
        (s.hd h).toVerify.contains c = true ∧ soon = false ∧ good)
    ∧ (let s : State := ((headAt 4).setReg (stKey 7 0 6) 1).modHd 15 fun d => { d with toVerify := [clusterId 15 0] };
        let h : Nat := 15; let nsid : Nat := 15; let cl : Nat := 0; let bits : List Nat := [1000]; let i := h / 2;
        let c := clusterId nsid cl; let pool := s.pool.filter fun y => y.nsid == nsid && y.cl == cl && y.verify;
        let soon := pool.any fun y => y.stage == .firstWait || y.stage == .first; let bd := s.bdIn i = true;
        let counts := if bd then bits else pool.map (·.errs);
        let good := (bd ∨ ∀ k, k < 18 → pool.any (fun y => y.idx == k && y.stage == .good) = true) ∧ counts.all (· ≤ s.reg (stKey i 0xD0 4)) = true;
        (s.hd h).toVerify.contains c = true ∧ soon = false ∧ ¬ good) := by
  refine ⟨by decide +kernel, by decide +kernel, ?_, by decide +kernel, by decide +kernel, by decide +kernel, by decide +kernel, by decide +kernel, by decide +kernel, by decide +kernel, by decide +kernel, by decide +kernel, by decide +kernel, by decide +kernel, by decide +kernel, by decide +kernel⟩
  · exact fun r h => nomatch h

/-- The hypotheses of IdleStepsAndAnswers. -/
theorem test_witness_IdleStepsAndAnswers :
    (let s : State := awake; s.pending = [])
    ∧ (let s : State := awake; s.pending = [] ∧ ((∀ n, n < 8 → s.tpdoOn n = false))
          ∧ ((∀ i, i < s.part.stations → (s.stn i).stroke = .none))) := by
  refine ⟨?_, ?_⟩ <;> decide +kernel

/-- The hypotheses of StepKeepsCanonicalForm. -/
theorem test_witness_StepKeepsCanonicalForm :
    (let s : State := awake;
        (match step { s with pending := [.heartbeatTimer] } with | .next _ => true | _ => false) = true
          ∧ s.part.legal = true ∧ s.regsWf = true ∧ s.rawsWf = true ∧ s.tablesWf = true) := by decide +kernel

/-- The hypotheses of StepKeepsPartQueueOutputs. -/
theorem test_witness_StepKeepsPartQueueOutputs :
    (let s : State := awake;
        (match step { s with pending := [.heartbeatTimer] } with | .next _ => true | _ => false) = true) := by decide +kernel

/-- The hypotheses of LasersGoDark. -/
theorem test_witness_LasersGoDark :
    (let s : State := awake; let i : Nat := 7; i < 8 ∧ s.ilkOpen i = false)
    ∧ (let s : State := awake; let i : Nat := 7; i < 8 ∧ s.power.latched = false ∧ s.power.dark = false
          ∧ s.powerState ≠ psHearth ∧ s.powerState ≠ psFailed ∧ i < s.part.stations ∧ s.part.stations ≤ 8) := by
  refine ⟨?_, ?_⟩ <;> decide +kernel


end Sys2Proof.Machine
end

section
/-! The step as a whole: what reset leaves, and what every step keeps whichever command it runs (R1, R2, R10, R41). -/

namespace Sys2Proof.Machine

/-! ### What reset leaves -/

/-- Reset lists CLOCK_STATUS alone, for the 16 MHz oscillator (R88); any other register reads its default (R10). -/
theorem State.reset_reg {k : Nat} (h : k ≠ key 0x2100 0x0D) : State.reset.reg k = regDefault State.reset.part k := by
  have unlisted : findKey k State.reset.regs = none := if_neg (Ne.symm h)
  simp only [State.reg, unlisted, Option.getD_none]

theorem State.reset_raw (k : Nat) : State.reset.raw k = rawDefault k := rfl

theorem State.reset_stState {i : Nat} (h : i < 8) : State.reset.stState i = stOff := by
  have stations : ∀ j, j < 8 → State.reset.stState j = stOff := by decide
  exact stations i h

/-- Every laser-power loop reads OFF by default, so no laser is on (R175). -/
theorem State.reset_allDark : State.reset.allDark = true := by decide

theorem State.reset_regsWf : State.reset.regsWf = true := by decide

/-- Settles O56: the registers by their defaults, the rest of the state as reset writes it out. -/
theorem resetValues : Obligations.ResetValues := by
  unfold Obligations.ResetValues
  have disabled : ∀ c ∈ State.reset.nvme.ctrls, c.en = false ∧ c.rdy = false := by decide
  exact ⟨by decide, by decide, by decide, by decide, rfl, rfl, rfl, rfl, disabled, fun _ => State.reset_stState,
    State.reset_allDark, rfl, by decide, rfl, rfl, fun _ => State.reset_reg, State.reset_raw⟩

/-- Settles O57: every table but the registers is empty, and the one register listed is not at its default. -/
theorem resetMeetsInvariants : Obligations.ResetMeetsInvariants := by
  unfold Obligations.ResetMeetsInvariants
  exact ⟨rfl, State.reset_regsWf, rfl, rfl, State.reset_allDark⟩

/-! ### What every step keeps -/

/-- No command touches the part or the queue, takes an output back, gives a free value again or breaks a table's canonical form:
each arm cites the law of its command. -/
theorem exec_keeps {s0 s : State} (c : Instr) (hk : s0.Keeps s) : s0.KeepsR (exec c s) :=
  match c with
  | .dictWrite .. => execDictWrite_keeps _ _ _ _ _ hk
  | .sdoInitiate .. => execSdoInitiate_keeps _ _ _ _ _ _ _ hk
  | .sdoSegment .. => execSdoSegment_keeps _ _ _ _ _ hk
  | .sdoTimeout .. => execSdoTimeout_keeps _ _ hk
  | .nmtStart => execNmtStart_keeps hk
  | .nmtStop => execNmtStop_keeps hk
  | .nmtEnterPreOperational => execNmtEnterPreOperational_keeps hk
  | .nmtResetCommunication => execNmtResetCommunication_keeps hk
  | .nmtResetNode => execNmtResetNode_keeps hk
  | .syncReceived .. => execSyncReceived_keeps _ hk
  | .rpdoReceived .. => execRpdoReceived_keeps _ _ _ _ hk
  | .tpdoEventTimer .. => execTpdoEventTimer_keeps _ hk
  | .tpdoInhibitExpiry .. => execTpdoInhibitExpiry_keeps _ hk
  | .heartbeatTimer => execHeartbeatTimer_keeps hk
  | .heartbeatReceived .. => execHeartbeatReceived_keeps _ hk
  | .heartbeatConsumerTimeout .. => execHeartbeatConsumerTimeout_keeps _ hk
  | .emcyInhibitExpiry => execEmcyInhibitExpiry_keeps hk
  | .errorHistoryClear .. => execErrorHistoryClear_keeps _ hk
  | .canBusOff .. => execCanBusOff_keeps _ hk
  | .busOffRecovery .. => execBusOffRecovery_keeps _ hk
  | .bar2DirectWrite .. => execBar2DirectWrite_keeps _ _ _ _ _ hk
  | .bar2DirectRead .. => execBar2DirectRead_keeps _ _ _ hk
  | .winAbortRead => execWinAbortRead_keeps hk
  | .segOpenRead => execSegOpenRead_keeps hk
  | .segOpenWrite => execSegOpenWrite_keeps hk
  | .segCommitWrite .. => execSegCommitWrite_keeps _ hk
  | .segCommitDone => execSegCommitDone_keeps hk
  | .segClose => execSegClose_keeps hk
  | .segOffsetWrite .. => execSegOffsetWrite_keeps _ hk
  | .segWindowTimeout => execSegWindowTimeout_keeps hk
  | .getObject .. => execGetObject_keeps _ _ _ _ _ _ hk
  | .setObject .. => execSetObject_keeps _ _ _ _ _ _ _ hk
  | .storeParameters .. => execStoreParameters_keeps _ _ _ hk
  | .storeNorDone => execStoreNorDone_keeps hk
  | .restoreDefaults .. => execRestoreDefaults_keeps _ _ _ hk
  | .backgroundEraseDone => execBackgroundEraseDone_keeps hk
  | .hearthPowerUp .. => execHearthPowerUp_keeps _ _ _ hk
  | .resetNAssert => execResetNAssert_keeps hk
  | .resetNRelease .. => execResetNRelease_keeps _ hk
  | .crystalStable => execCrystalStable_keeps hk
  | .railStepAdvance .. => execRailStepAdvance_keeps _ hk
  | .pgTimeout => execPgTimeout_keeps hk
  | .railRetry => execRailRetry_keeps hk
  | .pgLoss .. => execPgLoss_keeps _ hk
  | .pgLossRestart => execPgLossRestart_keeps hk
  | .clockLoss .. => execClockLoss_keeps _ hk
  | .clockRestore .. => execClockRestore_keeps _ hk
  | .bootBankVerify .. => execBootBankVerify_keeps _ _ _ _ _ hk
  | .hbmTraining .. => execHbmTraining_keeps _ _ hk
  | .hostReady => execHostReady_keeps hk
  | .enterHearth .. => execEnterHearth_keeps _ hk
  | .wake .. => execWake_keeps _ hk
  | .clearFailed .. => execClearFailed_keeps _ hk
  | .wakeGpio .. => execWakeGpio_keeps _ hk
  | .wakeCalendarAlarm => execWakeCalendarAlarm_keeps hk
  | .wakeI2c => execWakeI2c_keeps hk
  | .pfwNAssert => execPfwNAssert_keeps hk
  | .pfwLatchClear => execPfwLatchClear_keeps hk
  | .domainWakeDone .. => execDomainWakeDone_keeps _ _ hk
  | .domainGateDone .. => execDomainGateDone_keeps _ hk
  | .temporaryWakeEnd .. => execTemporaryWakeEnd_keeps _ hk
  | .sliceIdleGate .. => execSliceIdleGate_keeps _ hk
  | .inrushSlotGrant => execInrushSlotGrant_keeps hk
  | .bistSlotPreempt .. => execBistSlotPreempt_keeps _ hk
  | .powerUp .. => execPowerUp_keeps _ _ hk
  | .load .. => execLoad_keeps _ _ _ _ hk
  | .unload .. => execUnload_keeps _ _ _ hk
  | .stow .. => execStow_keeps _ _ _ hk
  | .powerDown .. => execPowerDown_keeps _ _ hk
  | .enterMaint .. => execEnterMaint_keeps _ _ hk
  | .exitMaint .. => execExitMaint_keeps _ _ hk
  | .clearFault .. => execClearFault_keeps _ _ hk
  | .stationStop .. => execStationStop_keeps _ _ _ hk
  | .stationCommandStepDone .. => execStationCommandStepDone_keeps _ _ hk
  | .schedulingPoint .. => execSchedulingPoint_keeps _ _ hk
  | .stationWatchdog .. => execStationWatchdog_keeps _ hk
  | .mediaOpDispatch .. => execMediaOpDispatch_keeps _ _ hk
  | .mediaOpComplete .. => execMediaOpComplete_keeps _ _ hk
  | .strobeFire .. => execStrobeFire_keeps _ _ _ hk
  | .dstrobeFire .. => execDstrobeFire_keeps _ _ _ hk
  | .strobeTimeout .. => execStrobeTimeout_keeps _ _ hk
  | .discPresChange .. => execDiscPresChange_keeps _ _ hk
  | .autoClampDelayExpiry .. => execAutoClampDelayExpiry_keeps _ hk
  | .idleOffTimeExpiry .. => execIdleOffTimeExpiry_keeps _ hk
  | .ilkNOpen .. => execIlkNOpen_keeps _ hk
  | .ilkNClose .. => execIlkNClose_keeps _ hk
  | .headAcqTimeout .. => execHeadAcqTimeout_keeps _ hk
  | .directOrder .. => execDirectOrder_keeps _ _ _ hk
  | .loopSample .. => execLoopSample_keeps _ _ _ _ _ hk
  | .loopCmdOff .. => execLoopCmdOff_keeps _ _ _ hk
  | .loopCmdOpen .. => execLoopCmdOpen_keeps _ _ _ hk
  | .loopCmdHold .. => execLoopCmdHold_keeps _ _ _ hk
  | .loopCmdClose .. => execLoopCmdClose_keeps _ _ _ hk
  | .defectSet .. => execDefectSet_keeps _ hk
  | .defectClear .. => execDefectClear_keeps _ hk
  | .residualHold .. => execResidualHold_keeps _ _ hk
  | .residualClear .. => execResidualClear_keeps _ _ hk
  | .varianceWindowEnd .. => execVarianceWindowEnd_keeps _ _ hk
  | .holdExpired .. => execHoldExpired_keeps _ _ hk
  | .coefHoldOverrun .. => execCoefHoldOverrun_keeps _ _ hk
  | .apply .. => execApply_keeps _ _ hk
  | .ffBinUpdate .. => execFfBinUpdate_keeps _ _ _ hk
  | .injEnable .. => execInjEnable_keeps _ _ _ hk
  | .captureRequest .. => execCaptureRequest_keeps _ _ _ hk
  | .captureTrigger .. => execCaptureTrigger_keeps _ hk
  | .captureDone .. => execCaptureDone_keeps _ hk
  | .captureTimeout .. => execCaptureTimeout_keeps _ hk
  | .measureLoop .. => execMeasureLoop_keeps _ _ _ hk
  | .measureLoopDone .. => execMeasureLoopDone_keeps _ hk
  | .focusOn .. => execFocusOn_keeps _ _ hk
  | .trackOn .. => execTrackOn_keeps _ _ hk
  | .layerJump .. => execLayerJump_keeps _ _ hk
  | .trackJump .. => execTrackJump_keeps _ _ hk
  | .follow .. => execFollow_keeps _ _ hk
  | .park .. => execPark_keeps _ hk
  | .calibrateLoop .. => execCalibrateLoop_keeps _ _ hk
  | .recoveryConfirmExpiry .. => execRecoveryConfirmExpiry_keeps _ hk
  | .saSettled .. => execSaSettled_keeps _ hk
  | .saSettleTimeout .. => execSaSettleTimeout_keeps _ hk
  | .addressTimeout .. => execAddressTimeout_keeps _ hk
  | .trkCaptureTimeout .. => execTrkCaptureTimeout_keeps _ hk
  | .layerTimeout .. => execLayerTimeout_keeps _ hk
  | .overpower .. => execOverpower_keeps _ _ hk
  | .pklLoss .. => execPklLoss_keeps _ hk
  | .pklRetrain .. => execPklRetrain_keeps _ _ hk
  | .writeGuardInhibit .. => execWriteGuardInhibit_keeps _ _ hk
  | .beamOfftrack .. => execBeamOfftrack_keeps _ _ _ hk
  | .spinUp .. => execSpinUp_keeps _ _ hk
  | .startMeasureEnd .. => execStartMeasureEnd_keeps _ hk
  | .spinDown .. => execSpinDown_keeps _ hk
  | .stopBrakeEnd .. => execStopBrakeEnd_keeps _ hk
  | .setSpeed .. => execSetSpeed_keeps _ hk
  | .targetRpmWrite .. => execTargetRpmWrite_keeps _ _ _ hk
  | .speedLoopTick .. => execSpeedLoopTick_keeps _ hk
  | .atSpeed .. => execAtSpeed_keeps _ hk
  | .spinUpTimeout .. => execSpinUpTimeout_keeps _ hk
  | .hallEdge .. => execHallEdge_keeps _ _ _ hk
  | .observerMissedEdge .. => execObserverMissedEdge_keeps _ hk
  | .encoderZEdge .. => execEncoderZEdge_keeps _ hk
  | .coastStopTimeout .. => execCoastStopTimeout_keeps _ hk
  | .lockedRotor .. => execLockedRotor_keeps _ hk
  | .lockedRotorRetry .. => execLockedRotorRetry_keeps _ hk
  | .vbusSample .. => execVbusSample_keeps _ _ _ hk
  | .vbusFaultTimeout .. => execVbusFaultTimeout_keeps _ hk
  | .sledSetPoint .. => execSledSetPoint_keeps _ _ hk
  | .sledStall .. => execSledStall_keeps _ hk
  | .sledHome .. => execSledHome_keeps _ _ hk
  | .sledPark .. => execSledPark_keeps _ hk
  | .seek .. => execSeek_keeps _ _ hk
  | .sledProfileEnd .. => execSledProfileEnd_keeps _ hk
  | .clampStroke .. => execClampStroke_keeps _ hk
  | .unclampStroke .. => execUnclampStroke_keeps _ hk
  | .clampProbe .. => execClampProbe_keeps _ hk
  | .clampStall .. => execClampStall_keeps _ _ _ hk
  | .clampStrokeLimit .. => execClampStrokeLimit_keeps _ hk
  | .orderDispatch .. => execOrderDispatch_keeps _ hk
  | .orderTimeout .. => execOrderTimeout_keeps _ hk
  | .trapEntry .. => execTrapEntry_keeps _ hk
  | .nop .. => execNop_keeps _ _ hk
  | .jmp .. => execJmp_keeps _ _ hk
  | .call .. => execCall_keeps _ _ hk
  | .ret .. => execRet_keeps _ _ hk
  | .ldi .. => execLdi_keeps _ _ _ hk
  | .lui .. => execLui_keeps _ _ _ hk
  | .mov .. => execMov_keeps _ _ _ _ hk
  | .add .. => execAdd_keeps _ _ _ _ hk
  | .sub .. => execSub_keeps _ _ _ _ hk
  | .addi .. => execAddi_keeps _ _ _ hk
  | .and .. => execAnd_keeps _ _ _ _ hk
  | .or .. => execOr_keeps _ _ _ _ hk
  | .xor .. => execXor_keeps _ _ _ _ hk
  | .shift .. => execShift_keeps _ _ _ hk
  | .mul .. => execMul_keeps _ _ _ _ hk
  | .cmp .. => execCmp_keeps _ _ _ _ hk
  | .cmpi .. => execCmpi_keeps _ _ _ hk
  | .fld .. => execFld_keeps _ _ _ _ hk
  | .fst .. => execFst_keeps _ _ _ _ hk
  | .lcmd .. => execLcmd_keeps _ _ _ hk
  | .hold .. => execHold_keeps _ _ hk
  | .gate .. => execGate_keeps _ _ hk
  | .laser .. => execLaser_keeps _ _ hk
  | .pkl .. => execPkl_keeps _ _ _ hk
  | .wait .. => execWait_keeps _ _ hk
  | .waitExpiry .. => execWaitExpiry_keeps _ hk
  | .waite .. => execWaite_keeps _ _ _ hk
  | .waiteCondition .. => execWaiteCondition_keeps _ _ hk
  | .evt .. => execEvt_keeps _ _ _ hk
  | .strb .. => execStrb_keeps _ _ hk
  | .prof .. => execProf_keeps _ _ _ _ hk
  | .post .. => execPost_keeps _ _ _ hk
  | .odone .. => execOdone_keeps _ _ _ hk
  | .ofail .. => execOfail_keeps _ _ _ hk
  | .orej .. => execOrej_keeps _ _ hk
  | .trapret .. => execTrapret_keeps _ _ hk
  | .storePatrol .. => execStorePatrol_keeps _ _ hk
  | .storeUncorrectable .. => execStoreUncorrectable_keeps _ _ _ _ _ hk
  | .customerImageInstall .. => execCustomerImageInstall_keeps _ _ hk
  | .customerImageErase .. => execCustomerImageErase_keeps _ _ hk
  | .sectorStart .. => execSectorStart_keeps _ _ _ _ _ hk
  | .huntEnd .. => execHuntEnd_keeps _ _ _ hk
  | .lbaTranslate .. => execLbaTranslate_keeps _ _ _ hk
  | .resyncBlock .. => execResyncBlock_keeps _ _ hk
  | .adcHandover .. => execAdcHandover_keeps _ _ _ _ hk
  | .firstPassDone .. => execFirstPassDone_keeps _ _ _ _ _ hk
  | .retryGlobalEnd .. => execRetryGlobalEnd_keeps _ _ _ _ _ hk
  | .ldpcLaneGrant => execLdpcLaneGrant_keeps hk
  | .outerCodeRepair .. => execOuterCodeRepair_keeps _ _ _ hk
  | .ringFrameDump .. => execRingFrameDump_keeps _ _ _ hk
  | .writeStart .. => execWriteStart_keeps _ _ hk
  | .writeStop .. => execWriteStop_keeps _ _ hk
  | .powerCal .. => execPowerCal_keeps _ _ hk
  | .pklAckTimeout .. => execPklAckTimeout_keeps _ hk
  | .clusterBuffered .. => execClusterBuffered_keeps _ _ _ _ _ hk
  | .bandEnd .. => execBandEnd_keeps _ hk
  | .verifyResult .. => execVerifyResult_keeps _ _ _ _ _ _ hk
  | .gateReopen .. => execGateReopen_keeps _ hk
  | .commandFetch .. => execCommandFetch_keeps _ _ _ hk
  | .controllerReset .. => execControllerReset_keeps _ _ hk
  | .nvmSubsystemReset .. => execNvmSubsystemReset_keeps _ hk
  | .ccEnSet .. => execCcEnSet_keeps _ hk
  | .normalShutdown .. => execNormalShutdown_keeps _ hk
  | .keepAliveExpiry .. => execKeepAliveExpiry_keeps _ hk
  | .connect .. => execConnect_keeps _ _ hk
  | .disconnect .. => execDisconnect_keeps _ hk
  | .propertyGet .. => execPropertyGet_keeps _ _ _ hk
  | .propertySet .. => execPropertySet_keeps _ _ _ _ hk
  | .read .. => execRead_keeps _ _ _ _ _ _ hk
  | .write .. => execWrite_keeps _ _ _ _ _ _ _ hk
  | .zoneAppend .. => execZoneAppend_keeps _ _ _ _ _ _ _ hk
  | .flush .. => execFlush_keeps _ _ _ hk
  | .zoneOpen .. => execZoneOpen_keeps _ _ _ _ _ hk
  | .zoneClose .. => execZoneClose_keeps _ _ _ _ _ hk
  | .zoneFinish .. => execZoneFinish_keeps _ _ _ _ _ hk
  | .zoneReset c cid nsid lba everyZone => execZoneReset_keeps c cid nsid lba everyZone hk
  | .zoneOffline c cid nsid lba everyZone => execZoneOffline_keeps c cid nsid lba everyZone hk
  | .zoneManagementReceive .. => execZoneManagementReceive_keeps _ _ _ _ _ _ _ hk
  | .getLogPage .. => execGetLogPage_keeps _ _ _ _ _ _ _ hk
  | .identify .. => execIdentify_keeps _ _ _ _ _ hk
  | .abort .. => execAbort_keeps _ _ _ _ hk
  | .setFeaturesArbitration .. => execSetFeaturesArbitration_keeps _ _ _ hk
  | .setFeaturesPowerManagement .. => execSetFeaturesPowerManagement_keeps _ _ _ hk
  | .setFeaturesTemperatureThreshold .. => execSetFeaturesTemperatureThreshold_keeps _ _ _ hk
  | .setFeaturesVolatileWriteCache .. => execSetFeaturesVolatileWriteCache_keeps _ _ _ hk
  | .setFeaturesNumberOfQueues .. => execSetFeaturesNumberOfQueues_keeps _ _ _ hk
  | .setFeaturesInterruptCoalescing .. => execSetFeaturesInterruptCoalescing_keeps _ _ _ hk
  | .setFeaturesInterruptVectorConfig .. => execSetFeaturesInterruptVectorConfig_keeps _ _ _ hk
  | .setFeaturesAsyncEventConfig .. => execSetFeaturesAsyncEventConfig_keeps _ _ _ hk
  | .setFeaturesTimestamp .. => execSetFeaturesTimestamp_keeps _ _ _ hk
  | .setFeaturesKeepAliveTimer .. => execSetFeaturesKeepAliveTimer_keeps _ _ _ hk
  | .getFeatures .. => execGetFeatures_keeps _ _ _ _ hk
  | .asyncEventRequest .. => execAsyncEventRequest_keeps _ _ hk
  | .keepAlive .. => execKeepAlive_keeps _ _ hk
  | .createIoSq .. => execCreateIoSq_keeps _ _ _ _ _ hk
  | .createIoCq .. => execCreateIoCq_keeps _ _ _ _ hk
  | .deleteIoSq .. => execDeleteIoSq_keeps _ _ _ hk
  | .deleteIoCq .. => execDeleteIoCq_keeps _ _ _ hk
  | .formatNvm .. => execFormatNvm_keeps _ _ _ _ _ _ hk
  | .firmwareImageDownload .. => execFirmwareImageDownload_keeps _ _ _ _ hk
  | .firmwareCommitReplace .. => execFirmwareCommitReplace_keeps _ _ _ hk
  | .firmwareCommitActivateOnReset .. => execFirmwareCommitActivateOnReset_keeps _ _ _ hk
  | .firmwareCommitSelect .. => execFirmwareCommitSelect_keeps _ _ _ hk
  | .firmwareCommitActivateNow .. => execFirmwareCommitActivateNow_keeps _ _ _ hk
  | .actDrainTimeout => execActDrainTimeout_keeps hk
  | .deviceSelfTestShort .. => execDeviceSelfTestShort_keeps _ _ _ hk
  | .deviceSelfTestExtended .. => execDeviceSelfTestExtended_keeps _ _ _ hk
  | .deviceSelfTestAbort .. => execDeviceSelfTestAbort_keeps _ _ hk
  | .selftestIdleExpiry .. => execSelftestIdleExpiry_keeps _ hk
  | .selftestTimeLimit => execSelftestTimeLimit_keeps hk
  | .pin .. => execPin_keeps _ _ _ _ _ hk
  | .unpin .. => execUnpin_keeps _ _ _ hk
  | .attestationQuote .. => execAttestationQuote_keeps _ _ _ hk
  | .fillCommit .. => execFillCommit_keeps _ _ hk
  | .blockPlaced .. => execBlockPlaced_keeps _ _ _ _ hk
  | .fillEnd .. => execFillEnd_keeps _ _ hk
  | .writeLineReserved .. => execWriteLineReserved_keeps _ _ hk
  | .mergeFillDone .. => execMergeFillDone_keeps _ _ hk
  | .tagProbe .. => execTagProbe_keeps _ _ hk
  | .scrubStep .. => execScrubStep_keeps _ _ _ hk
  | .hbmUncorrectableError .. => execHbmUncorrectableError_keeps _ _ hk
  | .softRepair .. => execSoftRepair_keeps _ hk
  | .hardRepairWindow .. => execHardRepairWindow_keeps _ hk
  | .hbmAddressDecode .. => execHbmAddressDecode_keeps _ _ hk
  | .hbmInjectArm .. => execHbmInjectArm_keeps _ _ hk
  | .repairMapClear .. => execRepairMapClear_keeps _ _ hk
  | .ringEnableWrite .. => execRingEnableWrite_keeps _ _ hk
  | .ringLinkBroken .. => execRingLinkBroken_keeps _ hk
  | .ringLinkRetrain .. => execRingLinkRetrain_keeps _ _ hk
  | .ringFormation => execRingFormation_keeps hk
  | .syncIntervalTick => execSyncIntervalTick_keeps hk
  | .idleFrame .. => execIdleFrame_keeps _ _ _ hk
  | .delayProbe .. => execDelayProbe_keeps _ _ _ _ hk
  | .delayEcho .. => execDelayEcho_keeps _ _ _ _ hk
  | .discover .. => execDiscover_keeps _ _ _ _ hk
  | .roster .. => execRoster_keeps _ _ _ _ hk
  | .timeSync .. => execTimeSync_keeps _ _ _ _ _ _ hk
  | .ringProbe .. => execRingProbe_keeps _ _ _ _ hk
  | .foldNotice .. => execFoldNotice_keeps _ _ _ _ _ hk
  | .rejoin .. => execRejoin_keeps _ _ _ _ hk
  | .rejoinTimeReached => execRejoinTimeReached_keeps hk
  | .strobeSet .. => execStrobeSet_keeps _ _ _ _ _ hk
  | .ringStrobeTimeReached .. => execRingStrobeTimeReached_keeps _ hk
  | .grantReq .. => execGrantReq_keeps _ _ _ _ _ _ hk
  | .grant .. => execGrant_keeps _ _ _ _ _ _ hk
  | .grantExpiry .. => execGrantExpiry_keeps _ _ hk
  | .memberRead .. => execMemberRead_keeps _ _ _ _ _ _ _ hk
  | .memberData .. => execMemberData_keeps _ _ _ _ _ _ _ _ hk
  | .memberWrite .. => execMemberWrite_keeps _ _ _ _ _ _ _ hk
  | .memberAck .. => execMemberAck_keeps _ _ _ _ _ _ _ _ hk
  | .memberFlush .. => execMemberFlush_keeps _ _ _ _ _ _ hk
  | .volumeTable .. => execVolumeTable_keeps _ _ _ _ hk
  | .rsFire .. => execRsFire_keeps _ _ hk
  | .calendarTimeWrite .. => execCalendarTimeWrite_keeps _ _ hk
  | .volumeCreate .. => execVolumeCreate_keeps _ _ _ hk
  | .volumeDelete .. => execVolumeDelete_keeps _ _ hk
  | .replaceColumn .. => execReplaceColumn_keeps _ _ _ hk
  | .rowEncode .. => execRowEncode_keeps _ _ hk
  | .rowRebuild .. => execRowRebuild_keeps _ _ _ hk
  | .lifeCycleTransition .. => execLifeCycleTransition_keeps _ _ _ hk
  | .customerKeyFuse .. => execCustomerKeyFuse_keeps _ _ _ hk
  | .quoteRequest .. => execQuoteRequest_keeps _ _ hk
  | .quoteSigned => execQuoteSigned_keeps hk
  | .authResponse .. => execAuthResponse_keeps _ _ hk
  | .authClose .. => execAuthClose_keeps _ _ hk
  | .authDurationExpiry => execAuthDurationExpiry_keeps hk
  | .authLockoutExpiry => execAuthLockoutExpiry_keeps hk
  | .debugResponse .. => execDebugResponse_keeps _ _ hk
  | .idCertWrite .. => execIdCertWrite_keeps _ _ hk
  | .recoveryInstall .. => execRecoveryInstall_keeps _ _ hk
  | .ledgerPost .. => execLedgerPost_keeps _ _ _ hk
  | .ledgerFlush => execLedgerFlush_keeps hk
  | .flushIntervalExpiry => execFlushIntervalExpiry_keeps hk
  | .flushNow .. => execFlushNow_keeps _ _ hk
  | .ledgerFlushDone .. => execLedgerFlushDone_keeps _ hk
  | .freezeWrite .. => execFreezeWrite_keeps _ _ hk
  | .cursorWrite .. => execCursorWrite_keeps _ _ hk
  | .advance .. => execAdvance_keeps _ _ hk
  | .ledgerClear .. => execLedgerClear_keeps _ _ hk
  | .clearEraseStep => execClearEraseStep_keeps hk
  | .rextMeasure .. => execRextMeasure_keeps _ hk
  | .rfCalVisit .. => execRfCalVisit_keeps _ _ _ _ _ _ hk
  | .servoAdcCal .. => execServoAdcCal_keeps _ _ _ hk
  | .dacCal .. => execDacCal_keeps _ _ hk
  | .calRfVisitRound .. => execCalRfVisitRound_keeps _ _ hk
  | .calHeadDacs .. => execCalHeadDacs_keeps _ _ hk
  | .calMotorSense .. => execCalMotorSense_keeps _ _ hk
  | .tokenGrant => execTokenGrant_keeps hk
  | .bistStationCore .. => execBistStationCore_keeps _ _ hk
  | .bistMotorIo .. => execBistMotorIo_keeps _ _ hk
  | .bistHeadFrontEnd .. => execBistHeadFrontEnd_keeps _ _ hk
  | .bistHeadChannel .. => execBistHeadChannel_keeps _ _ hk
  | .bistLdpcSlice .. => execBistLdpcSlice_keeps _ _ hk
  | .bistContextSegment .. => execBistContextSegment_keeps _ _ hk
  | .bistEcEngine .. => execBistEcEngine_keeps _ _ hk
  | .bistWholeChip .. => execBistWholeChip_keeps _ _ hk
  | .bistPatternBlock .. => execBistPatternBlock_keeps _ _ hk
  | .bistPartitionEnd .. => execBistPartitionEnd_keeps _ _ _ _ _ hk
  | .poolBistTick => execPoolBistTick_keeps hk
  | .segmentWaitExpiry .. => execSegmentWaitExpiry_keeps _ hk
  | .classBTimeExceeded => execClassBTimeExceeded_keeps hk
  | .wiringTest .. => execWiringTest_keeps _ hk
  | .wiringTestRequest .. => execWiringTestRequest_keeps _ _ _ hk
  | .wiringTestEnd .. => execWiringTestEnd_keeps _ _ _ hk
  | .senseCheck .. => execSenseCheck_keeps _ _ _ _ _ hk
  | .eventOverrideWrite .. => execEventOverrideWrite_keeps _ _ _ hk
  | .thermalRead .. => execThermalRead_keeps _ _ hk
  | .vhearthLoss => execVhearthLoss_keeps hk
  | .railDownStep => execRailDownStep_keeps hk
  | .canErrorPassive .. => execCanErrorPassive_keeps _ _ hk
  | .ethernetLinkChange .. => execEthernetLinkChange_keeps _ _ hk
  | .pcieLinkUp .. => execPcieLinkUp_keeps _ _ hk
  | .encoderEdge .. => execEncoderEdge_keeps _ _ _ _ hk
  | .securityIdleGate => execSecurityIdleGate_keeps hk
  | .eyeMeasure .. => execEyeMeasure_keeps _ _ hk
  | .perstNRelease => execPerstNRelease_keeps hk
  | .segWindowRegisterWrite .. => execSegWindowRegisterWrite_keeps _ _ hk
  | .segCtrlInvalidOp => execSegCtrlInvalidOp_keeps hk

/-- A step keeps all of this from the state that has the front command off its queue. -/
theorem step_keeps {s t : State} (h : step s = .next t) : State.Keeps { s with pending := s.pending.tail } t := by
  unfold step at h
  cases hq : s.pending with
  | nil =>
    simp only [hq, Host.Outcome.next.injEq] at h
    have idle : { s with pending := [].tail } = s := by rw [List.tail_nil, ← hq]
    rw [idle, ← h]
    exact State.tpdoScan_keeps (State.tick_keeps s.keeps_refl)
  | cons c rest =>
    simp only [hq] at h
    exact (exec_keeps c (State.keeps_refl _)).eq h

/-- Settles O58, from what every step keeps: the part is the same one, and tables in canonical form stay so. -/
theorem stepKeepsCanonicalForm : Obligations.StepKeepsCanonicalForm := by
  unfold Obligations.StepKeepsCanonicalForm
  intro s t h hpart hregs hraws htables
  have keeps := step_keeps h
  exact ⟨keeps.part ▸ hpart, keeps.regs hregs, keeps.raws hraws, keeps.tables htables⟩

/-- Settles O59, from what every step keeps. -/
theorem stepKeepsPartQueueOutputs : Obligations.StepKeepsPartQueueOutputs := by
  unfold Obligations.StepKeepsPartQueueOutputs
  intro s t h
  have keeps := step_keeps h
  obtain ⟨sent, hsent⟩ := keeps.out
  exact ⟨keeps.part, keeps.queue, ⟨sent, hsent.symm⟩, keeps.free⟩

end Sys2Proof.Machine
end

section
/-! What protects a head: overpower, the pickup link, the write guards, the off-track decision and the end of a recovery
(chapter 7). Each operation by its cases, then the obligation. -/

namespace Sys2Proof.Machine

variable {s : State} {h b : Nat} {o : Int}

/-! ### Overpower (R176) -/

/-- What an overpower does of any beam. -/
def State.beamTripped (s : State) (h b : Nat) : State :=
  ((s.laserOff h b).setRegBit (hdKey h 0x16 0x14) b true).raiseTrap h trapOverpower (2 ^ (4 + b)) b

theorem State.overpower_write_beam (hb : b ≠ 0) : s.overpower h b = s.beamTripped h b := if_neg hb

/-- Beam 0 focuses: its first overpower starts a focus recovery, its second is the head fault. -/
theorem State.overpower_focus_beam : s.overpower h 0 =
    if ((s.beamTripped h 0).hd h).over0 then (s.beamTripped h 0).setHeadFault h 1
    else ((s.beamTripped h 0).focusRecovery h).modHd h fun d => { d with over0 := true } := rfl

/-! ### The pickup link (R177) -/

theorem execPklRetrain_good (hl : (s.hd h).lost = true) {back : State}
    (hback : back = (s.modHd h fun d => { d with pklUp := true, identity := true, lost := false, retrains := 0 }).bump (hdKey h 0x19 5)) :
    execPklRetrain h true s
      = .next (if stSpinning ≤ back.stState (h / 2) ∧ back.stState (h / 2) ≤ stActive then back.reacquire h else back) := by
  subst hback
  exact if_pos hl

theorem execPklRetrain_failed (hl : (s.hd h).lost = true) : execPklRetrain h false s =
    if (s.hd h).retrains < 2 then .next (s.modHd h fun d => { d with retrains := d.retrains + 1 })
    else .next (((s.modHd h fun d => { d with lost := false, retrains := 0 }).bump (hdKey h 0x19 5)).setHeadFault h 2) :=
  if_pos hl

theorem execPklRetrain_not_lost (ok : Bool) (hl : (s.hd h).lost = false) : execPklRetrain h ok s = .next s :=
  if_neg (Bool.eq_false_iff.mp hl)

/-! ### The off-track decision (R67, R180) -/

/-- The state in which a beam's off-track decision is made: its offset stands in the beam's register. -/
abbrev State.offsetShown (s : State) (h b : Nat) (o : Int) : State := s.setRegI 16 (hdKey h 0x14 (6 + b)) o

/-- A beam's gate with its off-track hold set or released. -/
abbrev State.holdGate (s : State) (h b : Nat) (held : Bool) : State :=
  s.modHd h fun d => { d with gates := d.gates.modify b fun g => { g with offTrack := held } }

theorem State.offTrack_absent (hb : s.beams ≤ b) : s.offTrack h b o = s := if_pos hb

theorem State.offTrack_present (hb : b < s.beams) : s.offTrack h b o =
    if (s.offsetShown h b o).substate h = hsWriting then s.offsetShown h b o
    else if (s.offsetShown h b o).reg (hdKey h 0x14 5) < o.natAbs then
      ((((s.offsetShown h b o).holdGate h b true).bump (hdKey h 0x18 0x0A)).raiseTrap h trapGuard 2 3).note 0x0404 (engSource h)
        (leBytes 1 3 ++ leBytes 1 b)
    else (s.offsetShown h b o).holdGate h b false := if_neg (Nat.not_le.mpr hb)

/-! ### The obligation -/

/-- Settles O39, command by command, from the cases above. -/
theorem headProtections : Obligations.HeadProtections := by
  unfold Obligations.HeadProtections
  intro s h b guard ok o off lit lost back stops est mark
  refine ⟨
    ?overpowerWrite, ?overpowerFocus, fun notLit => if_neg notLit,
    fun hl => if_pos hl, fun notLost => if_neg notLost,
    ?retrainAgain, ?retrainLast, fun hl => execPklRetrain_good hl rfl, execPklRetrain_not_lost ok,
    fun stopped => if_pos stopped, fun notStopped => if_neg notStopped,
    ?beamAbsent, ?beamWriting, ?beamBeyond, ?beamWithin,
    fun hc => if_pos hc, fun hc => if_neg (Bool.eq_false_iff.mp hc)⟩
  case overpowerWrite =>
    intro hlit hb
    rw [exec_overpower, execOverpower, if_pos hlit, State.overpower_write_beam hb]
    rfl
  case overpowerFocus =>
    intro hlit hb
    subst hb
    rw [exec_overpower, execOverpower, if_pos hlit, State.overpower_focus_beam]
    rfl
  case retrainAgain =>
    intro hl hr
    rw [exec_pklRetrain, execPklRetrain_failed hl, if_pos hr]
  case retrainLast =>
    intro hl hr
    rw [exec_pklRetrain, execPklRetrain_failed hl, if_neg (Nat.not_lt.mpr hr)]
  case beamAbsent =>
    intro hb
    rw [exec_beamOfftrack, execBeamOfftrack, State.offTrack_absent hb]
  case beamWriting =>
    intro hb hw
    rw [exec_beamOfftrack, execBeamOfftrack, State.offTrack_present hb, if_pos hw]
  case beamBeyond =>
    intro hb hw hbeyond
    rw [exec_beamOfftrack, execBeamOfftrack, State.offTrack_present hb, if_neg hw, if_pos hbeyond]
  case beamWithin =>
    intro hb hw hwithin
    rw [exec_beamOfftrack, execBeamOfftrack, State.offTrack_present hb, if_neg hw, if_neg (Nat.not_lt.mpr hwithin)]

end Sys2Proof.Machine
end

section
/-! Clocks, wakes and resets (chapter 4, R65, R325, R504): the shared operations by their cases, then the obligation. -/

namespace Sys2Proof.Machine

variable {s : State} {n : Nat}

/-! ### Commands that act in one case -/

theorem next_pos {c : Prop} [Decidable c] {a b : State} (h : c) : (.next (if c then a else b) : Res) = .next a :=
  congrArg _ (if_pos h)
theorem next_neg {c : Prop} [Decidable c] {a b : State} (h : ¬ c) : (.next (if c then a else b) : Res) = .next b :=
  congrArg _ (if_neg h)
theorem next_false {c : Bool} {a b : State} (h : c = false) : (.next (if c = true then a else b) : Res) = .next b :=
  next_neg (Bool.eq_false_iff.mp h)

/-! ### The crystal (R88, R89) -/

/-- CLOCK_STATUS goes to the 16 MHz oscillator, with record 0x0103. -/
def State.on16Posted (s : State) : State :=
  (s.setReg (key 0x2100 0x0D) (setBit (clrBit (s.reg (key 0x2100 0x0D)) 0) 9)).post 0x0103 0 [] (some ⟨0x5000, false⟩)

theorem State.crystalLoss_on16 (ho : s.on16 = true) : s.crystalLoss = s := if_pos (Or.inl ho)

theorem State.crystalLoss_on25 (hd : s.power.dark = false) (ho : s.on16 = false) : s.crystalLoss =
    if s.on16Posted.powerState = psHearth then s.on16Posted.ledgerPowerFail
    else if s.on16Posted.powerState = psFailed then (s.on16Posted.modPower fun p => { p with latched := true }).ledgerPowerFail
    else s.on16Posted.powerFail .failed psFailed :=
  if_neg (by simp [ho, hd])

theorem execClockLoss_powered (r : ClockRef) (hd : s.power.dark = false) : execClockLoss r s = .next (s.refGone r) :=
  next_false hd

theorem execClockRestore_powered (r : ClockRef) (hd : s.power.dark = false) : execClockRestore r s = .next (s.refBack r) :=
  next_false hd

/-! ### Wakes (R95, R504) -/

/-- What a wake command may do: start up, be held on the 16 MHz oscillator, or nothing. -/
theorem wakeBy_cases {c : Instr} (hc : exec c s = .next (s.wakeBy n)) :
    (s.mayWake = true → s.held = false → s.on16 = false → exec c s = .next (s.wake (2 ^ n)))
    ∧ (s.mayWake = true → s.held = false → s.on16 = true →
        exec c s = .next (s.modPower fun p => { p with heldWakes := setBit p.heldWakes n }))
    ∧ ((s.mayWake = false ∨ s.held = true) → exec c s = .next s) := by
  rw [hc]
  refine ⟨fun hm hh ho => ?_, fun hm hh ho => ?_, fun hn => ?_⟩
  · simp [State.wakeBy, hm, hh, ho]
  · simp [State.wakeBy, hm, hh, ho]
  · rcases hn with hn | hn <;> simp [State.wakeBy, hn]

/-! ### The release of a reset (R86, R91) -/

theorem State.resetRelease_stays (hs : s.held = true ∨ (s.powerState = psFailed ∧ s.on16 = true)) : s.resetRelease = s := by
  rcases hs with hh | hf
  · exact if_pos hh
  · simp [State.resetRelease, hf]

theorem State.resetRelease_starts (hh : s.held = false) (hf : s.powerState ≠ psFailed ∨ s.on16 = false) : s.resetRelease =
    let t := s.modPower fun p => { p with restarts := [], after := .startUp }
    if t.rails = 0 ∧ t.power.lowering = false ∧ t.power.latched = false then t.startUp true false else t := by
  have cleared : ¬ (s.powerState = psFailed ∧ s.on16 = true) := by
    rintro ⟨hp, ho⟩
    rcases hf with hf | hf
    · exact hf hp
    · exact Bool.false_ne_true (hf.symm.trans ho)
  simp only [State.resetRelease, hh, cleared, Bool.false_eq_true, if_false, Bool.not_eq_true]

/-! ### The reset of the subsystem (R325) -/

/-- NSSR: the reset is over at once. -/
theorem execNvmSubsystemReset_nssr (hruns : ¬ (s.power.dark = true ∨ s.held = true ∨ s.rails = 0)) :
    execNvmSubsystemReset false s = .next s.resetAssert.resetRelease := by
  rw [execNvmSubsystemReset, if_neg hruns, if_neg Bool.false_ne_true]

/-- PERST_N: with PERST_MODE 0 it holds the device. -/
theorem execNvmSubsystemReset_perst (hruns : ¬ (s.power.dark = true ∨ s.held = true ∨ s.rails = 0)) :
    execNvmSubsystemReset true s
      = .next (if s.reg (key 0x4000 5) = 0 then (s.modPower fun p => { p with perstLow := true }).resetAssert else s) := by
  rw [execNvmSubsystemReset, if_neg hruns, if_pos rfl]

/-! ### The loss of VHEARTH (R96) -/

/-- A table that keeps no entry of a key does not list it. -/
theorem findKey_filter_none {α : Type} {f : Nat × α → Bool} {k : Nat} (hf : ∀ v, f (k, v) = false) (l : List (Nat × α)) :
    findKey k (l.filter f) = none := by
  induction l with
  | nil => rfl
  | cons p l ih =>
    obtain ⟨a, v⟩ := p
    by_cases ha : a = k
    · subst ha
      rw [List.filter_cons_of_neg (by simp [hf v]), ih]
    · rw [List.filter_cons]
      split
      · exact (if_neg ha).trans ih
      · exact ih

/-- A register that a loss of contents drops reads its default. -/
theorem State.reg_of_filter {t : State} {l : List (Nat × Nat)} {f : Nat × Nat → Bool} {k : Nat} (hr : t.regs = l.filter f)
    (hf : ∀ v, f (k, v) = false) : t.reg k = regDefault t.part k := by
  rw [State.reg, hr, findKey_filter_none hf, Option.getD_none]

/-- Nothing of Hearth keeps its contents: what stands below 0x5000 is at its initial values. -/
theorem execVhearthLoss_powered (hd : s.power.dark = false) : ∃ t, execVhearthLoss s = .next t ∧ t.power.dark = true
    ∧ t.can = Can.initial ∧ t.bar2 = Bar2.initial ∧ t.selfTest = none ∧ t.arb = []
    ∧ ∀ k, k / 256 < 0x5000 → t.reg k = regDefault t.part k := by
  refine ⟨_, next_false hd, rfl, rfl, rfl, rfl, rfl, fun k hk => State.reg_of_filter rfl fun v => ?_⟩
  simp [Nat.not_le.mpr hk]

/-! ### The obligation -/

/-- Settles O44, command by command, from the cases above. -/
theorem clocksWakesAndResets : Obligations.ClocksWakesAndResets := by
  unfold Obligations.ClocksWakesAndResets
  intro s n straps w crc r fuse idle mask lost gone back link alarm wakes freed started most high sampled up
  refine ⟨
    ?crystalLost, ?crystalLostOn16,
    execClockLoss_powered .quadA, execClockLoss_powered .quadB, execClockLoss_powered .pcie,
    execClockRestore_powered .crystal,
    fun hi => ⟨execClockRestore_powered .quadA hi, execClockRestore_powered .quadB hi, execClockRestore_powered .pcie hi⟩,
    fun hd => ⟨next_pos hd, next_pos hd⟩,
    ?crystalStable, ?crystalNotAwaited,
    fun enabled => wakeBy_cases (next_pos enabled), fun masked => next_false masked,
    fun due => wakeBy_cases (next_pos due), fun notDue => next_neg notDue,
    fun enabled => wakeBy_cases (next_pos enabled), fun masked => next_false masked,
    ?resetN, fun hr => next_pos hr,
    ?releaseStays, ?releaseStarts, fun hr => next_false hr,
    ?subsystemReset, fun hn => ⟨next_pos hn, next_pos hn⟩,
    fun hp => next_pos hp, fun hp => next_false hp,
    execVhearthLoss_powered, fun hd => next_pos hd,
    ?powerUp, ?noPowerUp⟩
  case crystalLost =>
    intro hi ho
    rw [exec_clockLoss, execClockLoss_powered .crystal hi]
    exact congrArg _ (State.crystalLoss_on25 hi ho)
  case crystalLostOn16 =>
    intro hi ho
    rw [exec_clockLoss, execClockLoss_powered .crystal hi]
    exact congrArg _ (State.crystalLoss_on16 ho)
  case crystalStable =>
    intro ho hp hi
    exact next_pos ⟨ho, hp, Bool.eq_false_iff.mp hi⟩
  case crystalNotAwaited =>
    intro hn
    refine next_neg ?_
    rintro ⟨ho, hp, hi⟩
    rcases hn with hn | hn | hn
    · exact Bool.false_ne_true (hn.symm.trans ho)
    · exact hn hp
    · exact hi hn
  case resetN =>
    intro hr hi
    exact next_neg (not_or.mpr ⟨Bool.eq_false_iff.mp hr, Bool.eq_false_iff.mp hi⟩)
  case releaseStays =>
    intro hr hs
    exact (next_pos hr).trans (congrArg _ (State.resetRelease_stays hs))
  case releaseStarts =>
    intro hr hh hf
    exact (next_pos hr).trans (congrArg _ (State.resetRelease_starts hh hf))
  case subsystemReset =>
    intro hi hh hrails
    have runs : ¬ (s.power.dark = true ∨ s.held = true ∨ s.rails = 0) :=
      not_or.mpr ⟨Bool.eq_false_iff.mp hi, not_or.mpr ⟨Bool.eq_false_iff.mp hh, hrails⟩⟩
    exact ⟨execNvmSubsystemReset_nssr runs, fun hm => (execNvmSubsystemReset_perst runs).trans (next_pos hm),
      fun hm => (execNvmSubsystemReset_perst runs).trans (next_neg hm)⟩
  case powerUp =>
    intro hd hr
    have returns : s.power.dark = true ∧ ¬ s.power.resetLow = true := ⟨hd, Bool.eq_false_iff.mp hr⟩
    exact ⟨next_pos returns, next_pos returns⟩
  case noPowerUp =>
    intro hn
    refine next_neg ?_
    rintro ⟨hd, hr⟩
    rcases hn with hi | hl
    · exact Bool.false_ne_true (hi.symm.trans hd)
    · exact hr hl

end Sys2Proof.Machine
end

section
/-! What a report does to the state (R23, R438, R440, R508): an event that is posted writes the error objects, the Ledger's and the
count of overrides, and no other register; the power block stays. -/

namespace Sys2Proof.Machine

/-- The objects that a report may write: the error register and its history, the Ledger's, and the count of overrides. -/
def reportIx : List Nat := [0x1001, 0x1003, 0x2200, 0x5800]

/-- From `s` to `t` nothing was written but by reports, as far as the power block and the registers show it. -/
structure State.Reported (s t : State) : Prop where
  power : t.power = s.power
  reg : ∀ k, k / 256 ∉ reportIx → t.reg k = s.reg k

namespace State.Reported

variable {s0 s t u : State}

theorem refl (s : State) : s.Reported s := ⟨rfl, fun _ _ => rfl⟩

/-- A change of the Ledger, of CAN, of the outputs or of the NVMe engine writes no register. -/
theorem same (h : s0.Reported s) (hpower : t.power = s.power) (hregs : t.regs = s.regs) (hpart : t.part = s.part) :
    s0.Reported t := by
  refine ⟨hpower.trans h.power, fun k hk => ?_⟩
  rw [← h.reg k hk, State.reg, State.reg, hregs, hpart]

theorem ledger (h : s0.Reported s) (l : Ledger) : s0.Reported { s with ledger := l } := same h rfl rfl rfl

theorem can (h : s0.Reported s) (c : Can) : s0.Reported { s with can := c } := same h rfl rfl rfl

theorem setReg {k v : Nat} (h : s0.Reported s) (hk : k / 256 ∈ reportIx) : s0.Reported (s.setReg k v) := by
  refine ⟨h.power, fun a ha => ?_⟩
  have other : a ≠ k := fun e => ha (e ▸ hk)
  exact (State.reg_setReg_ne s v other).trans (h.reg a ha)

theorem bump {k : Nat} (h : s0.Reported s) (hk : k / 256 ∈ reportIx) : s0.Reported (s.bump k) := setReg h hk

theorem ite {c : Prop} [Decidable c] (ht : s0.Reported t) (hu : s0.Reported u) : s0.Reported (if c then t else u) := by
  split <;> assumption

theorem of_snd {β : Type} {x : β × State} {y : β} (e : x = (y, t)) (h : s0.Reported x.2) : s0.Reported t := by rw [e] at h; exact h

/-! ### EMCY -/

theorem sendEmcy (h : s0.Reported s) (f : Emcy) : s0.Reported (s.sendEmcy f) := by
  unfold State.sendEmcy
  dsimp only
  split
  · exact same h rfl rfl rfl
  · refine ite h (ite (ite (same h rfl rfl rfl) (ite ?_ ?_)) h)
    · exact same h rfl rfl rfl
    · exact same h rfl rfl rfl

theorem historyEntries (h : s0.Reported s) (old l : List Nat) (hl : ∀ i ∈ l, i < 15) :
    s0.Reported (l.foldl (fun u i => u.setReg (key 0x1003 (i + 2)) (old.getD i 0)) s) := by
  induction l generalizing s with
  | nil => exact h
  | cons i l ih =>
    have entry : key 0x1003 (i + 2) / 256 = 0x1003 := by have := hl i List.mem_cons_self; simp only [key]; omega
    exact ih (setReg h (by rw [entry]; decide)) fun j hj => hl j (List.mem_cons_of_mem i hj)

theorem enterHistory (h : s0.Reported s) (code event : Nat) : s0.Reported (s.enterHistory code event) :=
  setReg (setReg (historyEntries h _ _ fun _ => List.mem_range.mp) (by decide)) (by decide)

theorem raiseEmcy (h : s0.Reported s) (code source event detail : Nat) (standing : Bool) :
    s0.Reported (s.raiseEmcy code source event detail standing) := by
  unfold State.raiseEmcy
  dsimp only
  have entered := enterHistory h code event
  split
  · apply sendEmcy
    exact setReg (can h _) (by decide)
  · split
    · apply sendEmcy
      exact setReg (can entered _) (by decide)
    · exact sendEmcy entered _

theorem announce (h : s0.Reported s) (code source : Nat) (payload : List Byte) (em : Option EmcyUse) :
    s0.Reported (s.announce code source payload em).1 := by
  unfold State.announce
  dsimp only
  have counted : s0.Reported (if s.override code = some (true, true) ∨ s.override code = some (false, true) then
      (match em with | none => s.bump (key 0x5800 2) | some _ => s) else s) := by
    cases em with
    | none => exact ite (bump h (by decide)) h
    | some e => exact ite h h
  split
  · exact counted
  · exact raiseEmcy counted ..

/-! ### The Ledger -/

theorem ledgerView (h : s0.Reported s) : s0.Reported s.ledgerView :=
  setReg (setReg (setReg (setReg h (by decide)) (by decide)) (by decide)) (by decide)

theorem storeRaw (h : s0.Reported s) (r : Rec) : s0.Reported (s.storeRaw r) := same h rfl rfl rfl

theorem storeGap (h : s0.Reported s) (reason count first : Nat) : s0.Reported (s.storeGap reason count first) := by
  unfold State.storeGap
  dsimp only
  have told := announce h 0x0C01 0 (leBytes 1 reason ++ leBytes 4 count ++ leBytes 8 first) none
  have stored := fun r => ite (c := (s.announce 0x0C01 0 (leBytes 1 reason ++ leBytes 4 count ++ leBytes 8 first) none).2.2 = true)
    (storeRaw told r) told
  exact ite (stored _) (setReg (stored _) (by decide))

theorem startFlush (h : s0.Reported s) : s0.Reported s.startFlush := by
  unfold State.startFlush
  split
  · exact h
  · exact ite (same h rfl rfl rfl) h

theorem store (h : s0.Reported s) (r : Rec) : s0.Reported (s.store r) := by
  unfold State.store
  dsimp only
  have raw := storeRaw h r
  have flushed : ∀ {c : Prop} [Decidable c] {v : State}, s0.Reported v → s0.Reported (if c then v.startFlush else v) :=
    fun hv => ite (startFlush hv) hv
  refine ledgerView (flushed ?_)
  split
  · refine ite ?_ raw
    exact storeGap (ledger raw _) ..
  · exact raw

theorem rateLimit (h : s0.Reported s) (r : Rec) : s0.Reported (s.rateLimit r).2 := by
  unfold State.rateLimit
  dsimp only
  split
  · split
    · exact bump (same h rfl rfl rfl) (by decide)
    · exact same h rfl rfl rfl
  · exact same h rfl rfl rfl

theorem place (h : s0.Reported s) (r : Rec) : s0.Reported (s.place r) := by
  unfold State.place
  split
  · split
    · exact ledgerView (same h rfl rfl rfl)
    · exact bump (same h rfl rfl rfl) (by decide)
  · exact store h r

theorem post (h : s0.Reported s) (code source : Nat) (payload : List Byte) (em : Option EmcyUse) :
    s0.Reported (s.post code source payload em) := by
  unfold State.post
  have told := announce h code source payload em
  dsimp only
  split
  · split
    · next limited => exact of_snd limited (rateLimit told _)
    · next limited => exact place (of_snd limited (rateLimit told _)) _
  · exact told

theorem note (h : s0.Reported s) (code source : Nat) (payload : List Byte) : s0.Reported (s.note code source payload) := post h ..

end State.Reported

end Sys2Proof.Machine
end

section
/-! Power-fail, rails and PG inputs (R84 to R87, R97, R99): which rail is next, which input is late, what the loss of one leaves, and
then the obligation. -/

namespace Sys2Proof.Machine

variable {s : State} {k : Nat}

/-! ### The rails go down (R87) -/

/-- The next rail is the highest enable that is high and may go down. -/
theorem State.nextRail_of_highest (hk : k < 8) (hhigh : bitOf s.rails (8 + k) = true) (hmay : s.power.after ≠ .recovery ∨ 3 ≤ k)
    (habove : ∀ j, k < j → j < 8 → bitOf s.rails (8 + j) = false) : s.nextRail = some k := by
  refine List.find?_eq_some_iff_getElem.mpr ⟨?_, 7 - k, by rw [List.length_reverse, List.length_range]; omega, ?_, fun j hj => ?_⟩
  · rcases hmay with hmay | hmay <;> simp [hhigh, hmay]
  · simp only [List.getElem_reverse, List.getElem_range, List.length_range]
    omega
  · have later : bitOf s.rails (8 + (7 - j)) = false := habove _ (by omega) (by omega)
    simp only [List.getElem_reverse, List.getElem_range, List.length_range, Nat.add_one_sub_one, later, Bool.false_and,
      Bool.not_false]

theorem execRailDownStep_lowers (hl : s.power.lowering = true) (hn : s.nextRail = some k) {t : State}
    (ht : t = s.setReg (key 0x2100 7) (clrBit (clrBit s.rails (8 + k)) k)) :
    execRailDownStep s = .next (if t.nextRail.isNone then t.railsDown else t) := by
  subst ht
  rw [execRailDownStep, if_pos hl, hn]

theorem execRailDownStep_ends (hl : s.power.lowering = true) (hn : s.nextRail = none) :
    execRailDownStep s = .next s.railsDown := by
  rw [execRailDownStep, if_pos hl, hn]

/-! ### PG inputs (R85, R86) -/

/-- The first rail whose enable is high while its PG input stays low. -/
def State.lateRail (s : State) : Option Nat := (List.range 8).find? fun k => bitOf s.rails (8 + k) && !bitOf s.rails k

theorem not_late_iff {enable pg : Bool} : (!(enable && !pg)) = true ↔ ¬ (enable = true ∧ pg = false) := by
  cases enable <;> cases pg <;> decide

theorem State.lateRail_eq_some (hk : k < 8) (hlate : bitOf s.rails (8 + k) = true ∧ bitOf s.rails k = false)
    (hfirst : ∀ j, j < k → ¬ (bitOf s.rails (8 + j) = true ∧ bitOf s.rails j = false)) : s.lateRail = some k := by
  have here : (bitOf s.rails (8 + k) && !bitOf s.rails k) = true := by rw [hlate.1, hlate.2]; rfl
  exact List.find?_range_eq_some.mpr ⟨here, List.mem_range.mpr hk, fun j hj => not_late_iff.mpr (hfirst j hj)⟩

theorem State.lateRail_eq_none (hn : ∀ j, j < 8 → ¬ (bitOf s.rails (8 + j) = true ∧ bitOf s.rails j = false)) :
    s.lateRail = none := by
  exact List.find?_range_eq_none.mpr fun j hj => not_late_iff.mpr (hn j hj)

/-- The state in which record 0x0101 tells of a PG input that is late. -/
abbrev State.pgLatePosted (s : State) (k : Nat) : State := s.post 0x0101 0 (leBytes 1 (k + 1)) (some ⟨0x3100, false⟩)

theorem execPgTimeout_retries (hk : s.lateRail = some k) (hb : s.powerState = psBoot) (hl : s.power.lowering = false)
    (hh : s.held = false) (hr : s.power.pgRetried = false) :
    execPgTimeout s = .next ((((s.pgLatePosted k).modPower fun p =>
      { p with pgRetried := true, retryWait := true, phase := 0 }).lowerRails .stay).updAll) := by
  unfold State.lateRail at hk
  simp only [execPgTimeout, hk, hb, hl, hh, hr, Bool.false_eq_true, not_false_eq_true, and_self, if_true, Bool.not_false]

theorem execPgTimeout_fails (hk : s.lateRail = some k) (hb : s.powerState = psBoot) (hl : s.power.lowering = false)
    (hh : s.held = false) (hr : s.power.pgRetried = true) :
    execPgTimeout s = .next (((((s.pgLatePosted k).modPower fun p =>
      { p with pgRetried := true, retryWait := false, phase := 0 }).setPower psFailed).lowerRails .failed).updAll) := by
  unfold State.lateRail at hk
  simp only [execPgTimeout, hk, hb, hl, hh, hr, Bool.false_eq_true, not_false_eq_true, and_self, if_true, if_false, Bool.not_true]

theorem execPgTimeout_none_late (hn : s.lateRail = none) : execPgTimeout s = .next s := by
  unfold State.lateRail at hn
  rw [execPgTimeout, hn]

theorem execPgTimeout_out_of_case (hn : s.powerState ≠ psBoot ∨ s.power.lowering = true ∨ s.held = true) :
    execPgTimeout s = .next s := by
  have out : ¬ (s.powerState = psBoot ∧ ¬ s.power.lowering = true ∧ ¬ s.held = true) := by
    rintro ⟨hb, hl, hh⟩
    exact hn.elim (· hb) (·.elim hl hh)
  rw [execPgTimeout]
  split
  · rw [if_neg out]
  · rfl

/-- The record of a lost PG input leaves the rails' register, which is not the Ledger's. -/
theorem State.note_rails (code source : Nat) (payload : List Byte) : (s.note code source payload).rails = s.rails :=
  ((State.Reported.refl s).note code source payload).reg _ (by decide)

/-- The restarts that a lost PG input made in the last 10 minutes (R86). -/
def State.recentRestarts (s : State) : List Nat := s.power.restarts.filter fun t => s.now < t + 600000000

/-- A lost PG input with `recent` restarts behind it: one more, or the third and FAILED. -/
theorem execPgLoss_loses (hl : bitOf s.rails (8 + k) = true ∧ bitOf s.rails k = true ∧ s.power.lowering = false
      ∧ s.power.latched = false ∧ s.held = false) {t : State} (ht : t = (s.note 0x0102 0 (leBytes 1 k)).setReg (key 0x2100 7) (clrBit s.rails k)) :
    execPgLoss k s = .next (if 3 ≤ s.recentRestarts.length then
        (t.modPower fun p => { p with restarts := s.recentRestarts, restartWait := false }).powerFail .failed psFailed
      else (t.modPower fun p => { p with restarts := s.recentRestarts, restartWait := true }).powerFail .restart psShutdown) := by
  subst ht
  obtain ⟨hen, hpg, hlow, hlat, hheld⟩ := hl
  simp only [execPgLoss, hen, hpg, hlow, hlat, hheld, State.note_rails, Bool.false_eq_true, not_false_eq_true, and_self, if_true]
  by_cases h3 : 3 ≤ s.recentRestarts.length
  · rw [if_pos h3]
    unfold State.recentRestarts at h3 ⊢
    simp only [h3, decide_true, Bool.not_true, if_true]
  · rw [if_neg h3]
    unfold State.recentRestarts at h3 ⊢
    simp only [h3, decide_false, Bool.not_false, Bool.false_eq_true, if_false]

/-! ### The obligation -/

/-- Settles O43, event by event, from the cases above. -/
theorem powerFailAndRails : Obligations.PowerFailAndRails := by
  unfold Obligations.PowerFailAndRails
  intro s k rails recent lost idle down timed rises late loses again
  refine ⟨
    ?powerFails, ?failsInHearth, ?failIgnored,
    ?latchStarts, ?latchClears, ?latchStays,
    fun hl hk hhigh hmay habove => execRailDownStep_lowers hl (State.nextRail_of_highest hk hhigh hmay habove) rfl,
    execRailDownStep_ends, fun hl => next_false hl,
    ?pgRises, ?pgIgnored,
    ?pgLate, ?pgNotLate,
    fun hw hr hb => next_pos ⟨hw, hr, hb⟩, ?noRetry,
    ?lostRestarts, ?lostFails, ?lossIgnored,
    ?restarts, ?noRestart⟩
  case powerFails =>
    intro hi hh hf
    simp only [exec_pfwNAssert, execPfwNAssert, hi.1, hi.2, hh, hf, Bool.false_eq_true, or_self, if_false]
  case failsInHearth =>
    intro hi hs
    simp only [exec_pfwNAssert, execPfwNAssert, hi.1, hi.2, hs, Bool.false_eq_true, or_self, if_false, if_true]
  case failIgnored =>
    intro hn
    refine next_pos ?_
    refine Decidable.byContradiction fun hidle => hn ?_
    obtain ⟨hlatched, hdark⟩ := not_or.mp hidle
    exact ⟨Bool.eq_false_iff.mpr hlatched, Bool.eq_false_iff.mpr hdark⟩
  case latchStarts =>
    intro hd ha hh
    simp only [exec_pfwLatchClear, execPfwLatchClear, Bool.not_eq_true]
    exact (next_pos hd).trans (congrArg _ (if_pos ⟨ha, hh⟩))
  case latchClears =>
    intro hd hn
    simp only [exec_pfwLatchClear, execPfwLatchClear, Bool.not_eq_true]
    refine (next_pos hd).trans (congrArg _ (if_neg ?_))
    rintro ⟨ha, hh⟩
    exact hn.elim (· ha) (hh ·)
  case latchStays =>
    intro hn
    simp only [exec_pfwLatchClear, execPfwLatchClear, Bool.not_eq_true]
    exact next_neg hn
  case pgRises =>
    intro hr
    refine ⟨fun h7 h2 => ?_, fun h2 => ?_, fun h7 => ?_⟩ <;>
      simp only [exec_railStepAdvance, execRailStepAdvance, Bool.not_eq_true]
    · refine (next_pos hr).trans (congrArg _ ?_)
      rw [if_pos h7, if_neg h2, if_neg (Nat.ne_of_lt h7)]
    · subst h2
      refine (next_pos hr).trans (congrArg _ ?_)
      rw [if_pos (show 2 < 7 by decide), if_pos rfl]
    · subst h7
      refine (next_pos hr).trans (congrArg _ ?_)
      rw [if_neg (Nat.lt_irrefl 7), if_neg (show ¬ 7 = 2 by decide), if_pos rfl]
  case pgIgnored =>
    intro hn
    simp only [exec_railStepAdvance, execRailStepAdvance, Bool.not_eq_true]
    exact next_neg hn
  case pgLate =>
    intro hk hlate hfirst hb hl hh
    have first := State.lateRail_eq_some hk hlate hfirst
    exact ⟨execPgTimeout_retries first hb hl hh, execPgTimeout_fails first hb hl hh⟩
  case pgNotLate =>
    rintro (hn | hn)
    · exact execPgTimeout_none_late (State.lateRail_eq_none hn)
    · exact execPgTimeout_out_of_case hn
  case noRetry =>
    intro hn
    refine next_neg ?_
    rintro ⟨hw, hr, hb⟩
    rcases hn with hn | hn | hn
    · exact Bool.false_ne_true (hn.symm.trans hw)
    · exact hn hr
    · exact hn hb
  case lostRestarts =>
    intro hl h3
    exact (execPgLoss_loses hl rfl).trans (next_neg (Nat.not_le.mpr h3))
  case lostFails =>
    intro hl h3
    exact (execPgLoss_loses hl rfl).trans (next_pos h3)
  case lossIgnored =>
    intro hn
    simp only [exec_pgLoss, execPgLoss, Bool.not_eq_true]
    exact next_neg hn
  case restarts =>
    intro ha
    simp only [exec_pgLossRestart, execPgLossRestart, Bool.not_eq_true]
    exact next_pos ha
  case noRestart =>
    intro hn
    simp only [exec_pgLossRestart, execPgLossRestart, Bool.not_eq_true]
    exact next_neg hn

end Sys2Proof.Machine
end

section
/-! The boot banks, host-ready, switched domains and temperatures (R81 to R83, R91 to R93, R504): the trial of the banks and a reading of
the temperatures by their cases, then the obligation. -/

namespace Sys2Proof.Machine

variable {s : State}

/-! ### The boot banks (R92, R93) -/

/-- What a read of a bank leaves of its image. -/
def keptImage : BankRead → Option FirmwareImage
  | .image f => some f
  | .unreadable => none

/-- The state in which both banks have been read. -/
def State.banksRead (s : State) (a b : BankRead) : State := { s with nor := { s.nor with banks := [keptImage a, keptImage b] } }

/-- Bank `n` is tried, then the other one; with neither the device enters RECOVERY. -/
def State.tryBanks (s : State) (n : Nat) (first other : BankRead) (sealOk : Bool) (cust : Nat) : State :=
  match first, s.bankCode first with
  | .image f, 0 => s.bankPassed n f sealOk cust
  | _, c =>
    match other, (s.bankRejected n c).bankCode other with
    | .image f, 0 => ((s.bankRejected n c).setRegBit (key 0x2100 5) 0 true).bankPassed (1 - n) f sealOk cust
    | _, d => ((s.bankRejected n c).bankRejected (1 - n) d).enterRecovery

theorem execBootBankVerify_eq (sel : Bool) (a b : BankRead) (sealOk : Bool) (cust : Nat) (s : State) :
    execBootBankVerify sel a b sealOk cust s
      = .next (if s.powerState = psBoot ∧ 1 ≤ s.power.phase ∧ ¬ s.power.bankOk ∧ ¬ s.power.lowering ∧ ¬ s.held then
          let n := if sel then (s.banksRead a b).nor.bankSelect else 0
          (s.banksRead a b).tryBanks n (if n = 0 then a else b) (if n = 0 then b else a) sealOk cust
        else s) := rfl

variable {n cust : Nat} {first other : BankRead} {f : FirmwareImage} {sealOk : Bool}

theorem State.tryBanks_first (hc : s.bankCode first = 0) (hf : first = .image f) :
    s.tryBanks n first other sealOk cust = s.bankPassed n f sealOk cust := by
  subst hf
  unfold State.tryBanks
  split
  · next h _ => cases h; rfl
  · next hno => exact absurd hc (hno _ rfl)

theorem State.tryBanks_other (hc : s.bankCode first ≠ 0) (ho : (s.bankRejected n (s.bankCode first)).bankCode other = 0)
    (hf : other = .image f) : s.tryBanks n first other sealOk cust
      = ((s.bankRejected n (s.bankCode first)).setRegBit (key 0x2100 5) 0 true).bankPassed (1 - n) f sealOk cust := by
  subst hf
  unfold State.tryBanks
  split
  · next h0 => exact absurd h0 hc
  · simp only [ho]

theorem State.tryBanks_none (hc : s.bankCode first ≠ 0) (ho : (s.bankRejected n (s.bankCode first)).bankCode other ≠ 0) :
    s.tryBanks n first other sealOk cust = ((s.bankRejected n (s.bankCode first)).bankRejected (1 - n)
      ((s.bankRejected n (s.bankCode first)).bankCode other)).enterRecovery := by
  unfold State.tryBanks
  split
  · next h0 => exact absurd h0 hc
  · split
    · next h0 => exact absurd h0 ho
    · rfl

/-! ### Temperatures (R504) -/

/-- Signed values of 16 bits are read as they were written. -/
theorem toSigned_ofSigned_16 {v : Int} (hlow : -32768 ≤ v) (hhigh : v < 32768) : toSigned 16 (ofSigned 16 v) = v := by
  unfold toSigned ofSigned
  dsimp only
  split <;> omega

theorem State.Reported.eventOn {s0 s : State} (h : s0.Reported s) (c : Nat) (e : Event) : s0.Reported (s.eventOn c e) := by
  unfold State.eventOn
  split
  · exact h
  · split
    · exact h
    · split <;> exact h.same rfl rfl rfl

theorem State.Reported.forEach {α : Type} {s0 s : State} (h : s0.Reported s) (l : List α) {g : State → α → State}
    (hg : ∀ {t : State} x, s0.Reported t → s0.Reported (g t x)) : s0.Reported (s.forEach l g) := by
  unfold State.forEach
  induction l generalizing s with
  | nil => exact h
  | cons x l ih => exact ih (hg x h)

/-- Crossing a host's threshold only raises events. -/
theorem State.thresholds_reported (s : State) (was tj : Int) : s.Reported (s.thresholds was tj) :=
  (State.Reported.refl s).forEach s.nvme.ctrls fun _ ht => .ite (ht.eventOn _ _) ht

/-- The die temperature and its peak are shown. -/
def State.dieShown (s : State) (tj : Int) : State :=
  (s.setRegI 16 (key 0x2103 1) tj).setRegI 16 (key 0x2103 2) (max tj (s.regI 16 (key 0x2103 2)))

/-- TJ_WARN in 0.1 degrees. -/
def State.warnAt (s : State) : Int := 10 * s.reg (key 0x2103 3)

/-- The thermal warning's EMCY: it begins with its count, or its condition ends. -/
def State.heatWarned (s : State) (enter leave : Bool) : State :=
  if enter ∧ ¬ s.can.standing.contains ⟨0x4200, 0, placeOf 0⟩ then (s.bump (key 0x2103 5)).raiseEmcy 0x4200 0 0 0 true
  else if leave ∧ s.can.standing.contains ⟨0x4200, 0, placeOf 0⟩ then s.raiseEmcy 0 0 0 0 true
  else s

/-- A reading as it is shown and told, before what it counts for. -/
def State.heatTold (s : State) (tj stackMax : Int) : State :=
  let shown := s.dieShown tj
  let warned := (shown.setRegI 16 (key 0x4600 0x0A) stackMax).heatWarned (decide (shown.warnAt ≤ tj) || decide (950 ≤ stackMax))
    (decide (tj ≤ shown.warnAt - 50) && decide (stackMax ≤ 900))
  (warned.thresholds (s.regI 16 (key 0x2103 1)) tj).modPower fun p => { p with warm := decide (shown.warnAt ≤ tj) }

/-- The run of readings beyond a limit, this one with it. -/
def State.heatRun (s : State) (tj stackMax : Int) : Nat :=
  if decide (1150 ≤ tj) || decide (1050 ≤ stackMax) then s.power.hotRun + 1 else 0

/-- A reading with the run of hot ones counted. -/
def State.heatCounted (s : State) (tj stackMax : Int) : State :=
  (s.heatTold tj stackMax).modPower fun p => { p with
    hotRun := min ((s.heatTold tj stackMax).heatRun tj stackMax) 2, hot := p.hot && p.warm }

theorem execThermalRead_powered (tj : Int) (temps : List Int) (hd : s.power.dark = false) {stackMax : Int}
    (hmax : temps.foldl max (-32768) = stackMax) {u : State} (hu : u = s.heatCounted tj stackMax) :
    execThermalRead tj temps s = .next (
      if 2 ≤ (s.heatTold tj stackMax).heatRun tj stackMax ∧ ¬ u.power.latched ∧ u.powerState ≠ psHearth ∧ u.powerState ≠ psFailed then
        ((u.bump (key 0x2103 6)).modPower fun p => { p with hot := true }).powerFail .hearth psShutdown
      else u) := by
  subst hmax hu
  exact next_false hd

theorem State.heatWarned_power (enter leave : Bool) : (s.heatWarned enter leave).power = s.power := by
  unfold State.heatWarned
  split
  · exact ((State.Reported.refl (s.bump _)).raiseEmcy ..).power
  · exact (((State.Reported.refl s).raiseEmcy ..).ite (.refl s)).power

theorem State.heatWarned_reg (enter leave : Bool) {k : Nat} (hk : k / 256 ∉ reportIx) (h5 : k ≠ key 0x2103 5) :
    (s.heatWarned enter leave).reg k = s.reg k := by
  unfold State.heatWarned
  split
  · exact (((State.Reported.refl _).raiseEmcy ..).reg k hk).trans (State.reg_setReg_ne s _ h5)
  · exact (((State.Reported.refl s).raiseEmcy ..).ite (.refl s)).reg k hk

/-- With no reason for the warning and none standing nothing is told. -/
theorem State.heatWarned_none (leave : Bool) (hs : s.can.standing.contains ⟨0x4200, 0, placeOf 0⟩ = false) :
    s.heatWarned false leave = s := by
  rw [State.heatWarned, hs, if_neg (fun h => Bool.false_ne_true h.1), if_neg (fun h => Bool.false_ne_true h.2)]

theorem State.dieShown_warnAt (s : State) (tj : Int) : (s.dieShown tj).warnAt = s.warnAt := by
  unfold State.warnAt State.dieShown State.setRegI
  rw [State.reg_setReg_ne _ _ (by decide), State.reg_setReg_ne _ _ (by decide)]

theorem State.dieShown_die (s : State) (tj : Int) : (s.dieShown tj).reg (key 0x2103 1) = ofSigned 16 tj :=
  (State.reg_setReg_ne _ _ (by decide)).trans (State.reg_setReg_same _ _ _)

theorem State.dieShown_peak (s : State) (tj : Int) :
    (s.dieShown tj).reg (key 0x2103 2) = ofSigned 16 (max tj (s.regI 16 (key 0x2103 2))) := State.reg_setReg_same _ _ _

theorem State.dieShown_other (s : State) (tj : Int) {k : Nat} (h1 : k ≠ key 0x2103 1) (h2 : k ≠ key 0x2103 2) :
    (s.dieShown tj).reg k = s.reg k := (State.reg_setReg_ne _ _ h2).trans (State.reg_setReg_ne _ _ h1)

/-- Telling a reading keeps the power block but for the warning. -/
theorem State.heatTold_power (s : State) (tj stackMax : Int) :
    (s.heatTold tj stackMax).power = { s.power with warm := decide (s.warnAt ≤ tj) } := by
  unfold State.heatTold
  dsimp only [State.modPower]
  rw [(State.thresholds_reported _ _ _).power, State.heatWarned_power, State.dieShown_warnAt]
  rfl

theorem State.heatTold_reg (s : State) (tj stackMax : Int) {k : Nat} (hk : k / 256 ∉ reportIx) (h5 : k ≠ key 0x2103 5)
    (hstack : k ≠ key 0x4600 0x0A) : (s.heatTold tj stackMax).reg k = (s.dieShown tj).reg k :=
  ((State.thresholds_reported _ _ _).reg k hk).trans
    ((State.heatWarned_reg _ _ hk h5).trans (State.reg_setReg_ne _ _ hstack))

/-- A reading that gives no reason for a warning, with none standing, leaves the count of warnings. -/
theorem State.heatTold_warnings (s : State) {tj stackMax : Int} (hs : s.can.standing.contains ⟨0x4200, 0, placeOf 0⟩ = false)
    (hw : tj < s.warnAt) (hm : stackMax < 950) : (s.heatTold tj stackMax).reg (key 0x2103 5) = s.reg (key 0x2103 5) := by
  have calm : (decide (s.warnAt ≤ tj) || decide (950 ≤ stackMax)) = false := by simp [hw, hm]
  unfold State.heatTold
  dsimp only
  rw [State.dieShown_warnAt, calm]
  refine ((State.thresholds_reported _ _ _).reg _ (by decide)).trans ?_
  have none : (s.dieShown tj |>.setRegI 16 (key 0x4600 0x0A) stackMax).can.standing.contains ⟨0x4200, 0, placeOf 0⟩ = false := hs
  rw [State.heatWarned_none _ none]
  exact (State.reg_setReg_ne _ _ (by decide)).trans (State.dieShown_other s tj (by decide) (by decide))

/-- A reading without a warning ends a run of hot ones. -/
theorem execThermalRead_calm {tj : Int} {temps : List Int} (hd : s.power.dark = false)
    (hs : s.can.standing.contains ⟨0x4200, 0, placeOf 0⟩ = false) (hm : temps.foldl max (-32768) < 950) (hlow : -32768 ≤ tj)
    (hw : tj < s.warnAt) (hhigh : tj < 1150) : ∃ t, execThermalRead tj temps s = .next t
      ∧ t.regI 16 (key 0x2103 1) = tj ∧ t.reg (key 0x2103 2) = ofSigned 16 (max tj (s.regI 16 (key 0x2103 2))) ∧ t.power.hotRun = 0
      ∧ t.power.warm = false ∧ t.powerState = s.powerState ∧ t.reg (key 0x2103 5) = s.reg (key 0x2103 5) := by
  obtain ⟨stackMax, hmax⟩ : ∃ m, temps.foldl max (-32768) = m := ⟨_, rfl⟩
  rw [hmax] at hm
  have cool : (s.heatTold tj stackMax).heatRun tj stackMax = 0 := by
    have below : ¬ 1050 ≤ stackMax := by omega
    simp [State.heatRun, hhigh, below]
  have read : ∀ {k}, k / 256 ∉ reportIx → k ≠ key 0x2103 5 → k ≠ key 0x4600 0x0A →
      (s.heatCounted tj stackMax).reg k = (s.dieShown tj).reg k := fun hk h5 hstack => s.heatTold_reg tj stackMax hk h5 hstack
  refine ⟨s.heatCounted tj stackMax, (execThermalRead_powered tj temps hd hmax rfl).trans (next_neg ?_), ?_, ?_, ?_, ?_, ?_, ?_⟩
  · rw [cool]
    rintro ⟨h2, -⟩
    exact absurd h2 (by decide)
  · rw [State.regI, read (by decide) (by decide) (by decide), State.dieShown_die]
    exact toSigned_ofSigned_16 hlow (by omega)
  · rw [read (by decide) (by decide) (by decide), State.dieShown_peak]
  · simp only [State.heatCounted, State.modPower_power, cool, Nat.zero_min]
  · simp only [State.heatCounted, State.modPower_power, State.heatTold_power, decide_eq_false_iff_not, Int.not_le, hw]
  · exact (read (by decide) (by decide) (by decide)).trans (State.dieShown_other s tj (by decide) (by decide))
  · exact s.heatTold_warnings hs hw hm

/-- The second reading in succession at or above 115.0 degrees is a power-fail into HEARTH. -/
theorem execThermalRead_shutdown {tj : Int} {temps : List Int} (hd : s.power.dark = false) (hot : 1150 ≤ tj) (hrun : s.power.hotRun = 1)
    (hl : s.power.latched = false) (hh : s.powerState ≠ psHearth) (hf : s.powerState ≠ psFailed) : ∃ u : State,
      execThermalRead tj temps s = .next (((u.bump (key 0x2103 6)).modPower fun p => { p with hot := true }).powerFail .hearth psShutdown)
      ∧ u.power.hotRun = 2 ∧ u.reg (key 0x2103 1) = ofSigned 16 tj := by
  obtain ⟨stackMax, hmax⟩ : ∃ m, temps.foldl max (-32768) = m := ⟨_, rfl⟩
  have second : (s.heatTold tj stackMax).heatRun tj stackMax = 2 := by
    simp [State.heatRun, hot, State.heatTold_power, hrun]
  have shown : (s.heatCounted tj stackMax).powerState = s.powerState :=
    (s.heatTold_reg tj stackMax (by decide) (by decide) (by decide)).trans (State.dieShown_other s tj (by decide) (by decide))
  have open_ : (s.heatCounted tj stackMax).power.latched = false := by
    simp only [State.heatCounted, State.modPower_power, State.heatTold_power, hl]
  refine ⟨s.heatCounted tj stackMax, (execThermalRead_powered tj temps hd hmax rfl).trans (next_pos ?_), ?_, ?_⟩
  · rw [second, shown, open_]
    exact ⟨Nat.le_refl 2, Bool.false_ne_true, hh, hf⟩
  · simp only [State.heatCounted, State.modPower_power, second, Nat.min_self]
  · exact (s.heatTold_reg tj stackMax (by decide) (by decide) (by decide)).trans (State.dieShown_die s tj)

/-! ### The obligation -/

/-- Settles O45, command by command, from the cases above. -/
theorem bootBanksDomainsAndHeat : Obligations.BootBanksDomainsAndHeat := by
  unfold Obligations.BootBanksDomainsAndHeat
  intro s sel a b f sealOk cust d k tj temps kept read booting n first other out ready run seen off gated
  have boots : ∀ {t : State}, booting → read.tryBanks n first other sealOk cust = t →
      exec (.bootBankVerify sel a b sealOk cust) s = .next t := by
    intro t hb ht
    rw [exec_bootBankVerify, execBootBankVerify_eq]
    simp only [Bool.not_eq_true]
    exact (next_pos hb).trans (congrArg _ ht)
  refine ⟨fun hb hc hf => boots hb (State.tryBanks_first hc hf), fun hb hc ho hf => boots hb (State.tryBanks_other hc ho hf),
    fun hb hc ho => boots hb (State.tryBanks_none hc ho), ?notBooting,
    ?hostReady, ?notReady, ?gates, fun hd => next_neg hd,
    fun hk hl => next_pos ⟨hk, hl⟩, ?sliceStays, fun hs => next_pos (List.isEmpty_iff.mpr hs),
    fun hs => next_neg (mt List.isEmpty_iff.mp hs),
    fun hd => next_pos hd, fun hd _ hs hm hlow hw hhigh => execThermalRead_calm hd hs hm hlow hw hhigh,
    execThermalRead_shutdown⟩
  case notBooting =>
    intro hn
    rw [exec_bootBankVerify, execBootBankVerify_eq]
    simp only [Bool.not_eq_true]
    exact next_neg hn
  case hostReady =>
    intro hr
    simp only [exec_hostReady, execHostReady, Bool.not_eq_true]
    exact next_pos hr
  case notReady =>
    intro hn
    simp only [exec_hostReady, execHostReady, Bool.not_eq_true]
    exact next_neg hn
  case gates =>
    intro hd
    refine (next_pos hd).trans (congrArg _ ?_)
    simp only [State.domainGated, Bool.and_eq_true]
    rfl
  case sliceStays =>
    intro hn
    refine next_neg ?_
    rintro ⟨hk, hl⟩
    exact hn.elim (fun h => Bool.false_ne_true (h.symm.trans hk)) (· hl)

end Sys2Proof.Machine
end

section
/-! BIST runs and inrush slots (R100, R465 to R471): the end of a partition, the pool's tick and a preempted slot by their cases, then
the obligation. -/

namespace Sys2Proof.Machine

variable {s : State} {kind inst sig first : Nat} {rows : List SramRow} {r : BistRun}

/-! ### Patterns and their end (R465, R467) -/

/-- The failing SRAM rows of a partition are repaired (R385). -/
def State.sramMended (s : State) (kind inst : Nat) (rows : List SramRow) : State :=
  s.forEach (rows.filter fun x =>
    kind == 8 || some x.dom == partDomain kind inst || (x.dom == 95 && (partDomain kind inst).isNone)) State.sramRepair

/-- The judgement of a partition's patterns, the rows mended. -/
def State.bistJudged (s : State) (r : BistRun) (kind inst sig first : Nat) : State :=
  let ok := decide (sig = (Config.expectedSignature (partNumber kind inst)).toNat)
  if kind = 8 then s.wholeChipEnd r ok sig first
  else if ok then (s.bistEnd r oPassed sig false).bistAfter r
  else if r.again then (s.bistEnd r oFailed sig false).bistAfter r
  else s.modRun kind inst fun r => { r with again := true }

theorem execBistPartitionEnd_run (hr : s.bistRun kind inst = some r) : execBistPartitionEnd kind inst sig first rows s
    = .next (if r.stage ≠ .running ∨ ¬ s.partOn kind inst then s
      else (s.sramMended kind inst rows).bistJudged r kind inst sig first) := by
  rw [execBistPartitionEnd, hr]
  rfl

theorem execBistPartitionEnd_none (hr : s.bistRun kind inst = none) : execBistPartitionEnd kind inst sig first rows s = .next s := by
  rw [execBistPartitionEnd, hr]

theorem execBistPatternBlock_run (hr : s.bistRun kind inst = some r) : execBistPatternBlock kind inst s
    = .next (if r.stage = .running ∧ r.stop then (s.bistEnd r oAborted 0 true).bistAfter r
      else if r.stage = .pool then s.poolGo else s) := by
  rw [execBistPatternBlock, hr]

theorem execBistPatternBlock_none (hr : s.bistRun kind inst = none) : execBistPatternBlock kind inst s = .next s := by
  rw [execBistPatternBlock, hr]

/-! ### The pool (R469) -/

/-- The pool begins with slice 0. -/
theorem State.poolParts_eq_cons (s : State) : ∃ rest, s.poolParts = (5, 0) :: rest := ⟨_, rfl⟩

/-- A fold that no entry moves stays where it is. -/
theorem foldl_unmoved {α β : Type} {g : α → β → α} {m : α} (hg : ∀ x, g m x = m) (l : List β) : l.foldl g m = m := by
  induction l with
  | nil => rfl
  | cons x l ih => rw [List.foldl_cons, hg, ih]

/-- With no partition tested nor out the tick asks for the test of slice 0, the first one of those tested longest ago. -/
theorem execPoolBistTick_untested (hn : s.reg (key 0x2500 1) ≠ 0) (hp : s.powerState = psRun) (hs : s.bistState 5 = true)
    (hruns : s.bist.runs = []) (hout : s.bist.out = []) (htable : s.bist.table = []) :
    execPoolBistTick s = .next (s.bistAsk 5 0 .pool) := by
  have ticks : ¬ (s.reg (bistKey 1) = 0 ∨ s.powerState ≠ psRun ∨ ¬ s.bistState 5 = true) := by
    simpa [bistKey, hp, hs] using hn
  have late : (s.bist.runs.filter fun r => r.who == .pool && !r.active
      && decide (r.since + s.reg (bistKey 1) * 3600000000 ≤ s.now)) = [] := by rw [hruns, List.filter_nil]
  have free : (s.poolParts.filter fun p => !s.bist.out.contains (partNumber p.1 p.2) && (s.bistRun p.1 p.2).isNone) = s.poolParts :=
    List.filter_eq_self.mpr fun p _ => by simp [State.bistRun, hruns, hout]
  have untested : ∀ p, s.lastTested p = 0 := fun p => by rw [State.lastTested, htable]; rfl
  obtain ⟨rest, hparts⟩ := s.poolParts_eq_cons
  rw [execPoolBistTick]
  dsimp only
  rw [if_neg ticks, late, State.forEach, List.foldl_nil, free, hparts, List.foldl_cons]
  rw [foldl_unmoved fun q => by simp only [untested, Nat.lt_irrefl, if_false]]

/-! ### Inrush slots (R100) -/

/-- The slot of a running partition is free, and the partition is SUSPENDED. -/
def State.slotPreempted (s : State) (r : BistRun) : State :=
  ((({ s with power := { s.power with
    slots := s.power.slots.filter (· != SlotHolder.bist r.kind r.inst)
    bistSuspended := s.power.bistSuspended ++ [(r.kind, r.inst)] } }).modRun r.kind r.inst fun r =>
      { r with stage := .suspended }).setOutcome r.kind r.inst oSuspended)

theorem execBistSlotPreempt_takes {i j : Nat} {l : List Nat} (hf : s.freeSlots = false) (hw : s.power.spinWaits = i :: l) (hij : i ≠ j)
    (hr : (s.stationRuns j).find? (fun r => r.stage == .running) = some r) :
    execBistSlotPreempt j s = .next (((s.slotPreempted r).takeSlot i).spinGo i) := by
  rw [execBistSlotPreempt, hf, hw, hr, if_neg Bool.false_ne_true]
  dsimp only
  rw [if_neg hij]
  rfl

/-! ### The obligation -/

/-- Settles O31, command by command, from the cases above. -/
theorem bistRuns : Obligations.BistRuns := by
  unfold Obligations.BistRuns
  intro s kind inst sig first i j rows r l good mended ends
  refine ⟨fun hr => ⟨execBistPatternBlock_none hr, execBistPartitionEnd_none hr⟩,
    ?stopped, ?goesOn, ?pool, ?notOn, ?judged, execPoolBistTick_untested, fun hn => next_pos ?noTick,
    ?waits, ?serves, ?noSegment, ?overTime, ?inTime,
    ?granted, ?firedBefore, ?toBist, fun hf => next_false hf, fun hf => next_pos hf, ?preempted⟩
  case stopped =>
    intro hr hstage hstop
    exact (execBistPatternBlock_run hr).trans (next_pos ⟨hstage, hstop⟩)
  case goesOn =>
    intro hr hstage hstop
    rw [exec_bistPatternBlock, execBistPatternBlock_run hr, hstage, hstop,
      if_neg (fun h => Bool.false_ne_true h.2), if_neg (by decide)]
  case pool =>
    intro hr hstage
    rw [exec_bistPatternBlock, execBistPatternBlock_run hr, hstage, if_neg (by simp), if_pos rfl]
  case notOn =>
    intro hr hoff
    refine (execBistPartitionEnd_run hr).trans (next_pos ?_)
    exact hoff.imp_right Bool.eq_false_iff.mp
  case judged =>
    intro hr hstage hon
    have runs : ¬ (r.stage ≠ .running ∨ ¬ s.partOn kind inst = true) := by simp [hstage, hon]
    have ended : ∀ {c : State}, mended.bistJudged r kind inst sig first = c → ends c := fun hc =>
      (execBistPartitionEnd_run hr).trans ((next_neg runs).trans (congrArg _ hc))
    unfold State.bistJudged at ended
    refine ⟨fun h8 hg => ended ?_, fun h8 hg hagain => ended ?_, fun h8 hg hagain => ended ?_, fun h8 => ended (if_pos h8)⟩
    · rw [if_neg h8, if_pos (decide_eq_true hg)]
    · rw [if_neg h8, if_neg (mt of_decide_eq_true hg), if_pos hagain]
    · rw [if_neg h8, if_neg (mt of_decide_eq_true hg), if_neg (Bool.eq_false_iff.mp hagain)]
  case noTick =>
    exact hn.imp_right (Or.imp_right Bool.eq_false_iff.mp)
  case waits =>
    intro hr ha
    rw [exec_segmentWaitExpiry, execSegmentWaitExpiry, hr]
    exact next_false ha
  case serves =>
    intro hr ha
    rw [exec_segmentWaitExpiry, execSegmentWaitExpiry, hr]
    exact next_pos ha
  case noSegment =>
    intro hr
    rw [exec_segmentWaitExpiry, execSegmentWaitExpiry, hr]
  case overTime =>
    intro hruns hkind hstage
    have found : (s.bist.runs.find? fun r => classB r.kind && r.stage == .running) = some r := by
      rw [hruns]
      exact List.find?_cons_of_pos (by simp [classB, hkind, hstage])
    rw [exec_classBTimeExceeded, execClassBTimeExceeded, found]
  case inTime =>
    intro hnone
    have found : (s.bist.runs.find? fun r => classB r.kind && r.stage == .running) = none :=
      List.find?_eq_none.mpr fun x hx hrun => by
        simp only [classB, Bool.and_eq_true, decide_eq_true_eq, beq_iff_eq] at hrun
        exact hnone x hx hrun.1 hrun.2
    rw [exec_classBTimeExceeded, execClassBTimeExceeded, found]
  case granted =>
    intro hf hw hb
    rw [exec_inrushSlotGrant, execInrushSlotGrant, if_pos hf, hw]
    exact next_false hb
  case firedBefore =>
    intro hf hw hb
    rw [exec_inrushSlotGrant, execInrushSlotGrant, if_pos hf, hw]
    exact next_pos hb
  case toBist =>
    intro hf hw
    rw [exec_inrushSlotGrant, execInrushSlotGrant, if_pos hf, hw]
  case preempted =>
    intro hf hw hij hr
    exact execBistSlotPreempt_takes hf hw hij hr

end Sys2Proof.Machine
end

section
/-! Links and HBM (R321, R322, R376 to R387, R455): an uncorrectable word and the training by their cases, then the obligation. -/

namespace Sys2Proof.Machine

variable {s : State} {a n q r : Nat} {use : HbmUse}

/-! ### Training (R376, R387) -/

/-- Writing registers leaves the HBM's own state. -/
theorem State.setRegs_hbm (s : State) (l : List (Nat × Nat)) : (s.setRegs l).hbm = s.hbm := by
  induction l generalizing s with
  | nil => rfl
  | cons p l ih => exact ih _

/-- With no row waiting for a hard repair training makes none. -/
theorem State.hardRepairs_none (want : Nat → Bool) (oks : List Bool) (hmap : s.hbm.map = []) : s.hardRepairs want oks = s := by
  have none : s.pendingRows want = [] := by rw [State.pendingRows, hmap]; rfl
  rw [State.hardRepairs, none]
  rfl

/-- The device in BOOT that may train its HBM now. -/
abbrev State.mayTrain (s : State) : Prop :=
  s.powerState = psBoot ∧ 2 ≤ s.power.phase ∧ s.power.bankOk = true ∧ s.power.hbmOk = false ∧ s.power.lowering = false ∧ s.held = false

theorem execHbmTraining_first_fails {x : StackTraining} (y : StackTraining) (hi : s.mayTrain) (hx : x.fail = some n) :
    execHbmTraining x y s = .next (s.trainFailed 0 n) := by
  simp only [execHbmTraining, Bool.not_eq_true, hx]
  exact next_pos hi

theorem execHbmTraining_second_fails {x y : StackTraining} (hi : s.mayTrain) (hx : x.fail = none) (hy : y.fail = some n) :
    execHbmTraining x y s = .next (s.trainFailed 1 n) := by
  simp only [execHbmTraining, Bool.not_eq_true, hx, hy]
  exact next_pos hi

theorem execHbmTraining_passes {x y : StackTraining} (hi : s.mayTrain) (hx : x.fail = none) (hy : y.fail = none)
    (hmap : s.hbm.map = []) : execHbmTraining x y s = .next (((s.setRegs
      [(key 0x4600 9, min x.lanes 255 + 256 * min y.lanes 255), (scrubKey false, 0), (scrubKey true, 0)]).modPower
        fun p => { p with hbmOk := true }).updAll) := by
  have noRepair : ∀ l want oks, (s.setRegs l).hardRepairs want oks = s.setRegs l := fun l want oks =>
    State.hardRepairs_none want oks (by rw [State.setRegs_hbm, hmap])
  simp only [execHbmTraining, Bool.not_eq_true, hx, hy, noRepair]
  exact next_pos hi

theorem execHbmTraining_not_now (x y : StackTraining) (hi : ¬ s.mayTrain) : execHbmTraining x y s = .next s := by
  simp only [execHbmTraining, Bool.not_eq_true]
  exact next_neg hi

/-! ### Uncorrectable words (R379, R380, R455) -/

/-- An uncorrectable word of a region counts, with an event of its row or of its STREAM row. -/
def State.wordCounted (s : State) (a r : Nat) : State :=
  let t := s.bump (regionKey r 1)
  if r = 1 then t.streamEvent (rowOfAddr a) else t.rowEvent (rowOfAddr a)

theorem execHbmUncorrectableError_unused (ho : onDie use = false) (hn : s.hbmUp = false ∨ s.regionOf a = none) :
    execHbmUncorrectableError a use s = .next s := by
  have nowhere : (if s.hbmUp then s.regionOf a else none) = none := by rcases hn with hn | hn <;> simp [hn]
  simp only [execHbmUncorrectableError, ho, nowhere, Bool.false_eq_true, if_false]

section Region

variable (hu : s.hbmUp = true) (hr : s.regionOf a = some r)
include hu hr

theorem execHbmUncorrectableError_plain : execHbmUncorrectableError a .plain s
    = .next (if r = 0 then (s.wordCounted a r).granaryHit a else s.wordCounted a r) := by
  simp only [execHbmUncorrectableError, onDie, hu, hr, Bool.false_eq_true, if_true, if_false]
  rfl

theorem execHbmUncorrectableError_command (rd : Bool) : execHbmUncorrectableError a (.command q rd) s
    = .next (if r = 2 then (s.wordCounted a r).failCtx q fun x => x.lostStatus rd else s.wordCounted a r) := by
  simp only [execHbmUncorrectableError, onDie, hu, hr, Bool.false_eq_true, if_true, if_false]
  rfl

theorem execHbmUncorrectableError_frame : execHbmUncorrectableError a (.frame n) s
    = .next (if (s.ring[n]?).any (fun f : RingFrame => bitOf f.flags 5) then s else if r = 1 then
        { s.wordCounted a r with ring := (s.wordCounted a r).ring.modify n fun f => { f with flags := setBit f.flags 5 } }
      else s.wordCounted a r) := by
  simp only [execHbmUncorrectableError, onDie, hu, hr, Bool.false_eq_true, if_true, if_false]
  rfl

end Region

/-! ### The obligation -/

/-- Settles O36, command by command, from the cases above. -/
theorem linksAndHbm : Obligations.LinksAndHbm := by
  unfold Obligations.LinksAndHbm
  intro s speed width p a n q up pass rd hs ws words oks x y sram use row at_ trains port scrubs read soft window idle
  refine ⟨?trains, ?untrained, ?linkChanges, ?noPort, fun hr => next_pos hr, fun hr => next_neg hr,
    fun h => next_pos h, fun h => next_neg h, ?softRepairs, ?noSoftRepair, ?hardRepairs, ?noWindow,
    fun ho => next_pos ho, execHbmUncorrectableError_unused,
    ?frameMarked, ?frameMarks, fun hu hr => execHbmUncorrectableError_plain hu hr, ?otherRegion, fun hu hr =>
      execHbmUncorrectableError_command hu hr rd,
    execHbmTraining_passes, execHbmTraining_first_fails y, execHbmTraining_second_fails, execHbmTraining_not_now x y⟩
  case trains =>
    intro ht
    simp only [exec_pcieLinkUp, execPcieLinkUp, Bool.not_eq_true, List.contains_iff_mem]
    exact next_pos ht
  case untrained =>
    intro ht
    simp only [exec_pcieLinkUp, execPcieLinkUp, Bool.not_eq_true, List.contains_iff_mem]
    exact next_neg ht
  case linkChanges =>
    intro hp
    simp only [exec_ethernetLinkChange, execEthernetLinkChange, Bool.not_eq_true]
    exact next_pos hp
  case noPort =>
    intro hp
    simp only [exec_ethernetLinkChange, execEthernetLinkChange, Bool.not_eq_true]
    exact next_neg hp
  case softRepairs =>
    intro hs
    simp only [exec_softRepair, execSoftRepair, List.contains_iff_mem]
    exact next_pos hs
  case noSoftRepair =>
    intro hs
    simp only [exec_softRepair, execSoftRepair, List.contains_iff_mem]
    exact next_neg hs
  case hardRepairs =>
    intro hw
    simp only [exec_hardRepairWindow, execHardRepairWindow, List.all_eq_true, List.mem_range, Bool.and_eq_true, bne_iff_ne]
    exact next_pos hw
  case noWindow =>
    intro hw
    simp only [exec_hardRepairWindow, execHardRepairWindow, List.all_eq_true, List.mem_range, Bool.and_eq_true, bne_iff_ne]
    exact next_neg hw
  case frameMarked =>
    rintro hu hr ⟨f, hf, hmarked⟩
    refine (execHbmUncorrectableError_frame hu hr).trans (next_pos ?_)
    rw [hf]
    exact hmarked
  case frameMarks =>
    intro hu hr hclear
    have unmarked : ¬ (s.ring[n]?).any (fun f : RingFrame => bitOf f.flags 5) = true := by
      rw [Option.any_eq_true]
      rintro ⟨f, hf, hmarked⟩
      exact Bool.false_ne_true ((hclear f hf).symm.trans hmarked)
    exact (execHbmUncorrectableError_frame hu hr).trans (next_neg unmarked)
  case otherRegion =>
    intro hu hr h2
    have counted : regionKey n 1 = key 0x4601 (2 + 5 * n) := congrArg (key 0x4601) (by omega)
    refine (execHbmUncorrectableError_plain hu hr).trans (congrArg _ ?_)
    rw [if_neg (by omega), State.wordCounted, if_neg (by omega), counted]

end Sys2Proof.Machine
end

section
/-! Log pages and firmware (R347, R348, R350): an admin command whose turn has come, what a commit does with its slot and its image, then
the obligation. -/

namespace Sys2Proof.Machine

variable {s : State} {c cid slot q n : Nat} {x : Ctx} {k : Ctrl} {i : FirmwareImage}

theorem State.adminCmd_turn (f : State → Ctx → State) (ht : s.adminTurn c cid x k) : s.adminCmd c cid f = .next (f s x) := by
  obtain ⟨hturn, hadmin, -⟩ := ht
  rw [State.adminCmd, hturn]
  exact next_pos hadmin

/-! ### The slot of a commit (R347) -/

/-- A commit may write or select a slot that is there and does not run. -/
abbrev State.otherSlot (s : State) (n : Nat) : Prop := 1 ≤ n ∧ n ≤ 2 ∧ n ≠ s.reg (key 0x2100 4) + 1

theorem State.commit_otherSlot {f : State → Nat → State} (hs : s.otherSlot (s.commitSlot slot)) :
    s.commit q slot f = f s (s.commitSlot slot) := by
  obtain ⟨h1, h2, hruns⟩ := hs
  refine if_neg ?_
  rintro (h0 | h3 | hr)
  · omega
  · omega
  · exact hruns hr

theorem State.commit_invalidSlot {f : State → Nat → State} (hs : ¬ s.otherSlot (s.commitSlot slot)) :
    s.commit q slot f = s.complete q (cplFail .invalidSlot true) := by
  refine if_pos ?_
  refine Decidable.byContradiction fun hn => ?_
  obtain ⟨h0, h2, hr⟩ : s.commitSlot slot ≠ 0 ∧ ¬ 2 < s.commitSlot slot ∧ s.commitSlot slot ≠ s.reg (key 0x2100 4) + 1 := by
    simpa only [not_or] using hn
  exact hs ⟨by omega, by omega, hr⟩

/-! ### The image of a commit (R348) -/

theorem State.commitImage_loaded (now : Bool) (hd : s.nvme.download ≠ []) (hi : i = imageOf (gather 0 s.nvme.download)) :
    s.commitImage n now = some i := by
  subst hi
  exact if_neg (mt List.isEmpty_iff.mp hd)

theorem State.commitImage_none_loaded (now : Bool) (hd : s.nvme.download = []) :
    s.commitImage n now = if now then s.nor.banks.getD (n - 1) none else none := by
  rw [State.commitImage, hd]
  rfl

/-- Action 3 uses the downloaded image, or with none the slot's. -/
theorem State.commitImage_now (hi : (s.nvme.download ≠ [] ∧ i = imageOf (gather 0 s.nvme.download))
    ∨ (s.nvme.download = [] ∧ s.nor.banks.getD (n - 1) none = some i)) : s.commitImage n true = some i := by
  rcases hi with ⟨hd, hi⟩ | ⟨hd, hbank⟩
  · exact State.commitImage_loaded true hd hi
  · exact (State.commitImage_none_loaded true hd).trans hbank

/-- What an image that fails its check is answered. -/
def imageStatus (code : Nat) : Status := if code = 0x0F5E0003 then .activationProhibited else .invalidImage

section Write

variable {now : Bool} {f : State → Nat → FirmwareImage → State}

theorem State.commitWrite_invalidSlot (hs : ¬ s.otherSlot (s.commitSlot slot)) :
    s.commitWrite q slot now f = s.complete q (cplFail .invalidSlot true) := State.commit_invalidSlot hs

theorem State.commitWrite_noImage (hs : s.otherSlot (s.commitSlot slot)) (hi : s.commitImage (s.commitSlot slot) now = none) :
    s.commitWrite q slot now f = s.complete q (cplFail .invalidImage true) := by
  rw [State.commitWrite, State.commit_otherSlot hs, hi]

theorem State.commitWrite_verified (hs : s.otherSlot (s.commitSlot slot)) (hi : s.commitImage (s.commitSlot slot) now = some i)
    (hc : (s.tempWake 94).imageCode i = 0) :
    s.commitWrite q slot now f = f ((s.tempWake 94).writeSlot (s.commitSlot slot) i) (s.commitSlot slot) i := by
  rw [State.commitWrite, State.commit_otherSlot hs, hi]
  dsimp only
  rw [hc, if_neg (by decide), if_neg (by decide)]

theorem State.commitWrite_fails (hs : s.otherSlot (s.commitSlot slot)) (hi : s.commitImage (s.commitSlot slot) now = some i)
    (hc : (s.tempWake 94).imageCode i ≠ 0) :
    s.commitWrite q slot now f = (s.tempWake 94).complete q (cplFail (imageStatus ((s.tempWake 94).imageCode i)) true) := by
  rw [State.commitWrite, State.commit_otherSlot hs, hi]
  dsimp only
  unfold imageStatus
  by_cases h3 : (s.tempWake 94).imageCode i = 0x0F5E0003
  · rw [if_pos h3, if_pos h3]
  · rw [if_neg h3, if_pos hc, if_neg h3]

end Write

/-! ### The commit actions (R347, R348) -/

/-- Action 0 writes the slot. -/
theorem execFirmwareCommitReplace_turn (ht : s.adminTurn c cid x k) : execFirmwareCommitReplace c cid slot s
    = .next (s.commitWrite x.seq slot false fun t _ _ => t.complete x.seq (cplOk 0 0)) := State.adminCmd_turn _ ht

/-- Action 1 writes and selects it. -/
theorem execFirmwareCommitActivateOnReset_turn (ht : s.adminTurn c cid x k) : execFirmwareCommitActivateOnReset c cid slot s
    = .next (s.commitWrite x.seq slot false fun t n _ =>
        (t.selectBank n).complete x.seq (cplFail .needsSubsystemReset false)) := State.adminCmd_turn _ ht

/-- Action 2 selects it. -/
theorem execFirmwareCommitSelect_turn (ht : s.adminTurn c cid x k) : execFirmwareCommitSelect c cid slot s
    = .next (s.commit x.seq slot fun t n => (t.selectBank n).complete x.seq (cplFail .needsSubsystemReset false)) :=
  State.adminCmd_turn _ ht

/-- An activation at once starts, or step 1 of R348 leaves it to a reset. -/
def State.activateNow (s : State) (q n : Nat) (i : FirmwareImage) : State :=
  if s.mustReset i then (s.selectBank n).complete q (cplFail .needsSubsystemReset false)
  else ((((s.event .firmwareStarting).modNvme fun m => { m with activating := some n }).modCtx q fun y =>
    { y with op := .activate n }).endTest 8).settle

/-- Action 3 writes it and activates it at once. -/
theorem execFirmwareCommitActivateNow_turn (ht : s.adminTurn c cid x k) : execFirmwareCommitActivateNow c cid slot s
    = .next (s.commitWrite x.seq slot true fun t n i => t.activateNow x.seq n i) := State.adminCmd_turn _ ht

/-! ### The obligation -/

/-- Settles O30, command by command, from the cases above. -/
theorem logPagesAndFirmware : Obligations.LogPagesAndFirmware := by
  unfold Obligations.LogPagesAndFirmware
  intro s c cid page nsid off len slot retain b x k i q mine bad n other w put pick reset code no loaded aligned
  refine ⟨?page, ?otherPage, ?piece, ?badPiece, ?badSlot, ?select, ?written, ?activates, ?unverified, ?noImage,
    ?drains, ?drained, ?noActivation⟩
  case page =>
    intro f ht hf
    obtain ⟨-, -, hctrl⟩ := id ht
    rw [exec_getLogPage, execGetLogPage, State.adminCmd_turn _ ht]
    simp only [hctrl, hf]
    rfl
  case otherPage =>
    intro ht hf
    obtain ⟨-, -, hctrl⟩ := id ht
    rw [exec_getLogPage, execGetLogPage, State.adminCmd_turn _ ht]
    simp only [hctrl, hf]
    rfl
  case piece =>
    rintro ht ⟨hoff, hb, hlen, hend⟩
    rw [exec_firmwareImageDownload, execFirmwareImageDownload, State.adminCmd_turn _ ht]
    refine next_neg ?_
    rintro (h | h | h | h | h)
    · omega
    · exact h hoff
    · exact h hlen
    · exact hb (List.isEmpty_iff.mp h)
    · omega
  case badPiece =>
    intro ht hn
    rw [exec_firmwareImageDownload, execFirmwareImageDownload, State.adminCmd_turn _ ht]
    refine next_pos ?_
    refine Decidable.byContradiction fun hgood => ?_
    simp only [not_or, ne_eq, Decidable.not_not, List.isEmpty_iff, Nat.not_lt] at hgood
    obtain ⟨-, hoff, hlen, hb, hend⟩ := hgood
    exact hn ⟨hoff, hb, hlen, hend⟩
  case badSlot =>
    intro ht hs
    refine ⟨?_, ?_, ?_, ?_⟩
    · rw [exec_firmwareCommitReplace, execFirmwareCommitReplace_turn ht, State.commitWrite_invalidSlot hs]
    · rw [exec_firmwareCommitActivateOnReset, execFirmwareCommitActivateOnReset_turn ht, State.commitWrite_invalidSlot hs]
    · rw [exec_firmwareCommitSelect, execFirmwareCommitSelect_turn ht, State.commit_invalidSlot hs]
    · rw [exec_firmwareCommitActivateNow, execFirmwareCommitActivateNow_turn ht, State.commitWrite_invalidSlot hs]
  case select =>
    intro ht hs
    rw [exec_firmwareCommitSelect, execFirmwareCommitSelect_turn ht, State.commit_otherSlot hs]
    rfl
  case written =>
    intro ht hs ⟨hd, hi⟩ e
    have image := State.commitImage_loaded (n := s.commitSlot slot) false hd hi
    rw [exec_firmwareCommitReplace, execFirmwareCommitReplace_turn ht, exec_firmwareCommitActivateOnReset,
      execFirmwareCommitActivateOnReset_turn ht]
    by_cases hc : code = 0
    · rw [if_pos hc, if_pos hc, State.commitWrite_verified hs image hc, State.commitWrite_verified hs image hc]
      exact ⟨rfl, rfl⟩
    · rw [if_neg hc, if_neg hc, State.commitWrite_fails hs image hc, State.commitWrite_fails hs image hc]
      exact ⟨rfl, rfl⟩
  case activates =>
    intro ht hs hi hc
    rw [exec_firmwareCommitActivateNow, execFirmwareCommitActivateNow_turn ht,
      State.commitWrite_verified hs (State.commitImage_now hi) hc]
    exact apply_ite Host.Outcome.next _ _ _
  case unverified =>
    intro ht hs hi hc
    rw [exec_firmwareCommitActivateNow, execFirmwareCommitActivateNow_turn ht,
      State.commitWrite_fails hs (State.commitImage_now hi) hc]
    rfl
  case noImage =>
    intro ht hs hd
    have none : s.commitImage (s.commitSlot slot) false = none := State.commitImage_none_loaded false hd
    refine ⟨?_, ?_, fun hbank => ?_⟩
    · rw [exec_firmwareCommitReplace, execFirmwareCommitReplace_turn ht, State.commitWrite_noImage hs none]
    · rw [exec_firmwareCommitActivateOnReset, execFirmwareCommitActivateOnReset_turn ht, State.commitWrite_noImage hs none]
    · rw [exec_firmwareCommitActivateNow, execFirmwareCommitActivateNow_turn ht,
        State.commitWrite_noImage hs ((State.commitImage_none_loaded true hd).trans hbank)]
  case drains =>
    intro m n ha hd
    rw [exec_actDrainTimeout, execActDrainTimeout, ha]
    exact next_pos hd
  case drained =>
    intro m n ha hd
    rw [exec_actDrainTimeout, execActDrainTimeout, ha]
    exact next_false hd
  case noActivation =>
    intro ha
    rw [exec_actDrainTimeout, execActDrainTimeout, ha]

end Sys2Proof.Machine
end

section
/-! Writes of byte strings that reach their owner (R33, R41, R507), and what the security objects make of theirs (R429 to R435): the doors
first, then each object's own rule by its cases, then the obligation. -/

namespace Sys2Proof.Machine

variable {s u t : State} {d : Door} {i sub : Nat} {b : List Byte}

/-! ### An admitted byte string reaches its owner -/

/-- Through a door that is served a write is served in the state that the door leaves. -/
theorem State.access_opened (w : World) (ho : s.opened d i sub b = some u) : s.access d i sub b w = u.serve d i sub b w := by
  cases d with
  | sdo bus usdo =>
    simp only [State.opened, Option.ite_none_right_eq_some, Option.some.injEq] at ho
    obtain ⟨hserved, rfl⟩ := ho
    exact if_pos hserved
  | pdo bus n =>
    simp only [State.opened, Option.ite_none_right_eq_some, Option.some.injEq] at ho
    obtain ⟨hserved, rfl⟩ := ho
    exact if_pos hserved
  | bar2 =>
    simp only [State.opened] at ho
    split at ho
    · next c hc =>
      simp only [Option.ite_none_right_eq_some, Option.some.injEq] at ho
      obtain ⟨⟨hon, rfl⟩, rfl⟩ := ho
      rw [State.access, if_pos hon, State.windowWrite, hc]
    · cases ho
  | seg =>
    simp only [State.opened, Option.ite_none_right_eq_some, Option.some.injEq] at ho
    obtain ⟨hopen, rfl⟩ := ho
    exact if_pos hopen
  | nvme c cid =>
    simp only [State.opened] at ho
    split at ho
    · next x hx =>
      simp only [Option.ite_none_right_eq_some, Option.some.injEq] at ho
      obtain ⟨hadmin, rfl⟩ := ho
      rw [State.access, hx]
      exact if_pos hadmin
    · cases ho
  | inner =>
    simp only [State.opened, Option.ite_none_left_eq_some, Option.some.injEq] at ho
    obtain ⟨hpowered, rfl⟩ := ho
    exact if_neg hpowered

/-- What an admitted byte string has passed. -/
theorem State.admittedRaw_passed (ha : s.admittedRaw d i sub b = some u) : s.opened d i sub b = some u ∧ ∃ o,
    u.staticCheck i sub b = .ok o ∧ o.ty.number = false ∧ u.ownerOn i (leNat b) = true ∧ i ≠ 0x1010 ∧ i ≠ 0x1011
      ∧ u.stateCheck o i sub 0 = 0 := by
  unfold State.admittedRaw at ha
  split at ha
  · cases ha
  · next v hv =>
    split at ha
    · cases ha
    · next o ho =>
      simp only [Option.ite_none_right_eq_some, Option.some.injEq, Bool.and_eq_true, Bool.not_eq_true', bne_iff_ne, beq_iff_eq] at ha
      obtain ⟨⟨⟨⟨⟨hnum, hon⟩, h10⟩, h11⟩, hstate⟩, rfl⟩ := ha
      exact ⟨hv, o, ho, hnum, hon, h10, h11, hstate⟩

/-- An admitted byte string is put to its object by the owner, which is awake. -/
theorem State.take_admittedRaw (w : World) (ha : s.admittedRaw d i sub b = some u) : ∃ o, u.stateCheck o i sub 0 = 0
    ∧ u.take d i sub b w = (u.putRaw d o i sub b).map fun t => ⟨t, true⟩ := by
  obtain ⟨-, o, hcheck, hnum, hon, h10, h11, hstate⟩ := State.admittedRaw_passed ha
  refine ⟨o, hstate, ?_⟩
  have put : u.putObject d i sub b w = u.putRaw d o i sub b := by
    rw [State.putObject, hcheck]
    exact if_neg (Bool.eq_false_iff.mp hnum)
  rw [State.take, hcheck]
  dsimp only
  rw [if_neg (not_or.mpr ⟨h10, h11⟩), if_pos (Or.inl hon), put]

theorem State.access_applied (w : World) (ha : s.admittedRaw d i sub b = some u)
    (hput : ∀ o, u.stateCheck o i sub 0 = 0 → u.putRaw d o i sub b = .ok t) :
    s.access d i sub b w = t.reply d i sub 0 b.length [] := by
  obtain ⟨o, hstate, htake⟩ := State.take_admittedRaw w ha
  rw [State.access_opened w (State.admittedRaw_passed ha).1, State.serve, htake, hput o hstate]
  rfl

theorem State.access_refused (w : World) {a : Nat} (ha : s.admittedRaw d i sub b = some u)
    (hput : ∀ o, u.stateCheck o i sub 0 = 0 → u.putRaw d o i sub b = .error a) (hnot : a ≠ heldByOther) :
    s.access d i sub b w = u.reply d i sub a 0 [] := by
  obtain ⟨o, hstate, htake⟩ := State.take_admittedRaw w ha
  have unchanged : u.refusal i sub b a = u := if_neg fun h => hnot h.1
  rw [State.access_opened w (State.admittedRaw_passed ha).1, State.serve, htake, hput o hstate]
  exact congrArg (·.reply d i sub a 0 []) unchanged

/-! ### The objects that take their bytes themselves -/

/-- The rule of an object that takes its bytes itself. -/
def State.ownRule (s : State) (d : Door) (i : Nat) (b : List Byte) : Option Applied :=
  if i = 0x5020 then some (s.authResponse b) else if i = 0x5040 then some (s.debugResponse b)
  else if i = 0x5012 then some (s.certWrite d b) else none

/-- Its answer stands where the state allows the write. -/
theorem State.putRaw_ownRule {o : Obj} {act : Applied} (hkept : i ≠ 0x4A02) (hown : s.ownRule d i b = some act)
    (hc : s.stateCheck o i sub 0 = 0) : s.putRaw d o i sub b = act := by
  have kept : keptBytes i b = b := if_neg hkept
  unfold State.ownRule at hown
  rw [State.putRaw, kept, hown, hc]
  cases act <;> simp

/-! ### Responses (R433, R435) -/

/-- The key a response is under: 1 the owner's, 2 the RETURN key, 0 none (R432). -/
def State.responseKind (s : State) (b : List Byte) : Nat :=
  if s.keyFused = true ∧ hashBytes (Config.hash (responseKey b)) = s.raw (key 0x5000 6) then 1
  else if hashBytes (Config.hash (responseKey b)) = hashBytes Config.returnHash then 2 else 0

/-- The authorisation is open under a key, the failures cleared. -/
def State.authOpened (s : State) (kind : Nat) : State :=
  let t := (s.setRegs [(key 0x5020 4, kind), (key 0x5020 8, 0)]).setSecFlag 4 true
  (t.modSec fun g => { g with failures := 0, openUntil := some (t.now + t.reg (key 0x5020 2) * 1000000) }).drawChallenge

theorem State.authResponse_heard {kind : Nat} (hk : s.responseKind b = kind) (ho : s.lcOwned = true) (hl : s.sec.lockUntil = none)
    (hkey : kind ≠ 2 ∨ s.lc = lcReturn ∨ s.keyFused = false) (ht : t = s.tempWake 94) : s.authResponse b
      = .ok (if kind = 0 then t.authFailed 0x0F5E0002
        else if Config.verifies (keyBits (responseKey b)) (t.authMessage t.sec.challenge kind) (responseSig b) = false then
          t.authFailed 0x0F5E0001
        else t.authOpened kind) := by
  subst ht
  have barredKey : ¬ (kind = 2 ∧ s.lc ≠ lcReturn ∧ s.keyFused = true) := by
    rintro ⟨h2, hlc, hfused⟩
    rcases hkey with h | h | h
    · exact h h2
    · exact hlc h
    · exact Bool.false_ne_true (h.symm.trans hfused)
  unfold State.responseKind at hk
  rw [State.authResponse]
  dsimp only
  rw [hk, ho, hl, if_neg (by decide), if_neg barredKey]
  by_cases h0 : kind = 0
  · rw [if_pos h0, if_pos h0]
  · rw [if_neg h0, if_neg h0]
    cases hv : Config.verifies (keyBits (responseKey b)) ((s.tempWake 94).authMessage (s.tempWake 94).sec.challenge kind) (responseSig b)
    · rw [if_pos rfl]; rfl
    · rw [if_neg Bool.true_eq_false.mp]; rfl

/-- The state allows a debug response only in the life-cycle states that have the object (R435). -/
theorem State.debugBarred_of_stateCheck {o : Obj} {v : Nat} (hc : s.stateCheck o 0x5040 sub v = 0) : s.debugBarred = false := by
  refine Bool.eq_false_iff.mpr fun hb => ?_
  have barred : (s.notStarted 0x5040 || s.barred 0x5040 || s.bistBars 0x5040 sub v) = true := by
    simp [State.barred, hb]
  rw [State.stateCheck, if_pos barred] at hc
  exact absurd hc (by decide)

theorem State.debugResponse_return (hb : s.debugBarred = false) (hlc : s.lc = lcReturn) (ht : t = s.drawDebugChallenge.tempWake 94) :
    s.debugResponse b = .ok (if Config.hash (responseKey b) = Config.debugHash
        ∧ Config.verifies (keyBits (responseKey b)) (s.authMessage s.sec.debugChallenge 3) (responseSig b) = true then
      (((t.setSecFlag 3 true).modSec fun g => { g with unlocked := true }).measure 9 Config.unlockDigest).updDomain 95
    else t) := by
  subst ht
  rw [State.debugResponse, hb, if_neg Bool.false_ne_true, if_neg (not_not_intro hlc), apply_ite Except.ok]
  simp only [Bool.and_eq_true, beq_iff_eq]

theorem State.debugResponse_other (hb : s.debugBarred = false) (hlc : s.lc ≠ lcReturn) :
    s.debugResponse b = .ok s.drawDebugChallenge := by
  rw [State.debugResponse, hb, if_neg Bool.false_ne_true, if_pos hlc]

/-! ### The identity certificate (R429) -/

/-- A certificate of another identity key is refused. -/
theorem State.certWrite_otherKey (ho : s.lcOwned = true) (hauth : s.raw (key 0x5012 3) = [] ∨ s.authorised = true)
    (hk : certKey b ≠ some s.idPublicKey) : s.certWrite d b = .error 0x06040043 := by
  have allowed : (!(s.raw (key 0x5012 3)).isEmpty && !s.authorised) = false := by
    rcases hauth with h | h <;> simp [h]
  rw [State.certWrite, allowed, if_neg Bool.false_ne_true, ho, if_neg (by decide), if_pos hk]

/-- The first certificate is stored without an authorisation. -/
theorem State.certWrite_first (ho : s.lcOwned = true) (hraw : s.raw (key 0x5012 3) = []) (hk : certKey b = some s.idPublicKey) :
    s.certWrite d b = .ok ((s.setRaw (key 0x5012 3) b).tempWake 94) := by
  simp [State.certWrite, ho, hraw, hk]

/-- One that replaces another is recorded as an authorised action. -/
theorem State.certWrite_next (ho : s.lcOwned = true) (hraw : s.raw (key 0x5012 3) ≠ []) (hauth : s.authorised = true)
    (hk : certKey b = some s.idPublicKey) :
    s.certWrite d b = .ok (((s.authAction d 0x5012 3).setRaw (key 0x5012 3) b).tempWake 94) := by
  simp [State.certWrite, ho, hraw, hk, hauth]

/-! ### The obligation -/

/-- Settles O19, object by object, from the cases above. -/
theorem securityResponses : Obligations.SecurityResponses := by
  unfold Obligations.SecurityResponses
  intro s u d b
  refine ⟨?auth, ?debugReturn, ?debugOther, ?firstCert, ?nextCert⟩
  case auth =>
    intro ha ho hl k h kind hkey a open_
    exact congrArg _ (State.access_applied _ ha fun o hc => (State.putRaw_ownRule (by decide) (if_pos rfl) hc).trans
      (State.authResponse_heard rfl ho hl hkey rfl))
  case debugReturn =>
    intro ha hlc a
    exact congrArg _ (State.access_applied _ ha fun o hc => (State.putRaw_ownRule (by decide) rfl hc).trans
      (State.debugResponse_return (State.debugBarred_of_stateCheck hc) hlc rfl))
  case debugOther =>
    intro ha hlc
    exact congrArg _ (State.access_applied _ ha fun o hc => (State.putRaw_ownRule (by decide) rfl hc).trans
      (State.debugResponse_other (State.debugBarred_of_stateCheck hc) hlc))
  case firstCert =>
    intro ha ho hraw
    refine congrArg Host.Outcome.next ?_
    by_cases hk : certKey b = some u.idPublicKey
    · rw [if_pos hk]
      exact State.access_applied _ ha fun o hc =>
        (State.putRaw_ownRule (by decide) rfl hc).trans (State.certWrite_first ho hraw hk)
    · rw [if_neg hk]
      exact State.access_refused _ ha (fun o hc =>
        (State.putRaw_ownRule (by decide) rfl hc).trans (State.certWrite_otherKey ho (.inl hraw) hk)) (by decide)
  case nextCert =>
    intro ha ho hraw hauth
    refine congrArg Host.Outcome.next ?_
    by_cases hk : certKey b = some u.idPublicKey
    · rw [if_pos hk]
      exact State.access_applied _ ha fun o hc =>
        (State.putRaw_ownRule (by decide) rfl hc).trans (State.certWrite_next ho hraw hauth hk)
    · rw [if_neg hk]
      exact State.access_refused _ ha (fun o hc =>
        (State.putRaw_ownRule (by decide) rfl hc).trans (State.certWrite_otherKey ho (.inr hauth) hk)) (by decide)

end Sys2Proof.Machine
end

section
/-! Writes of numbers that reach their owner (R33, R34, R41, R507): what an admitted number has passed, and that the object's rule then
takes place and is answered. -/

namespace Sys2Proof.Machine

variable {s u t : State} {d : Door} {i sub v : Nat} {act : Applied}

/-- What an admitted number has passed. -/
theorem State.admitted_passed (ha : s.admitted d i sub v = some u) : s.opened d i sub (numberBytes i sub v) = some u ∧ ∃ o,
    u.staticCheck i sub (numberBytes i sub v) = .ok o ∧ o.ty.number = true ∧ o.kept (leNat (numberBytes i sub v)) = v
      ∧ u.ownerOn i v = true ∧ i ≠ 0x1010 ∧ i ≠ 0x1011 ∧ u.stateCheck o i sub v = 0
      ∧ ¬ (isResultIx i = true ∧ sub = 1 ∧ u.busy i = true) ∧ u.sameValue d o i sub v = false := by
  unfold State.admitted at ha
  split at ha
  · cases ha
  · next _ hv =>
    split at ha
    · cases ha
    · next o ho =>
      simp only [Option.ite_none_right_eq_some, Option.some.injEq, Bool.and_eq_true, Bool.not_eq_true', bne_iff_ne, beq_iff_eq] at ha
      obtain ⟨⟨⟨⟨⟨⟨⟨⟨hnum, hkept⟩, hon⟩, h10⟩, h11⟩, hstate⟩, hbusy⟩, hsame⟩, rfl⟩ := ha
      refine ⟨hv, o, ho, hnum, hkept, hon, h10, h11, hstate, ?_, hsame⟩
      rintro ⟨hres, hsub, hb⟩
      simp [hres, hsub, hb] at hbusy

/-- Outside calibration and BIST requests the owners of an object do not depend on the value written. -/
theorem State.ownerOn_value (hcal : i ≠ 0x2441) (hbist : i ≠ 0x2501) (a b : Nat) : s.ownerOn i a = s.ownerOn i b := by
  have owners : ∀ n, otherOwners s.part i n = otherOwners s.part i 0 := fun n => by
    simp [otherOwners, hcal, hbist]
  simp only [State.ownerOn, ownerDomains, owners a, owners b]

/-- An effect of an admitted number takes place. -/
theorem State.putNum_effect {o : Obj} {w : World} (heff : s.numEffect d i sub v w = some (.ok t)) (hc : s.stateCheck o i sub v = 0)
    (hbusy : ¬ (isResultIx i = true ∧ sub = 1 ∧ s.busy i = true)) (hsame : s.sameValue d o i sub v = false) :
    s.putNum d o i sub v w = .ok t := by
  rw [State.putNum, heff]
  dsimp only
  rw [hc, hsame, if_neg (not_not_intro rfl), if_neg hbusy, if_neg Bool.false_ne_true]

theorem State.put_applied {w : World} (ha : s.admitted d i sub v = some u) (hcal : i ≠ 0x2441) (hbist : i ≠ 0x2501)
    (heff : u.numEffect d i sub v w = some (.ok t)) : s.put d i sub v w = t.answered d i sub v := by
  obtain ⟨hopen, o, hcheck, hnum, hkept, hon, h10, h11, hstate, hbusy, hsame⟩ := State.admitted_passed ha
  have put : u.putObject d i sub (numberBytes i sub v) w = .ok t := by
    rw [State.putObject, hcheck]
    dsimp only
    rw [if_pos hnum, hkept, State.putNum_effect heff hstate hbusy hsame]
  have take : u.take d i sub (numberBytes i sub v) w = .ok ⟨t, true⟩ := by
    rw [State.take, hcheck]
    dsimp only
    rw [if_neg (not_or.mpr ⟨h10, h11⟩), if_pos (Or.inl ((State.ownerOn_value hcal hbist _ v).trans hon)), put]
    rfl
  have served : u.serve d i sub (numberBytes i sub v) w = t.answered d i sub v := by
    rw [State.serve, take]
    rfl
  exact (State.access_opened w hopen).trans served

/-- A write that leaves nothing to the world. -/
theorem State.write_applied (ha : s.admitted d i sub v = some u) (hcal : i ≠ 0x2441) (hbist : i ≠ 0x2501)
    (hrule : u.numEffect d i sub v World.plain = some act) (hact : act = .ok t) : s.write d i sub v = .next (t.answered d i sub v) :=
  congrArg _ (State.put_applied ha hcal hbist (hrule.trans (congrArg some hact)))

end Sys2Proof.Machine
end

section
/-! What the objects of a station block make of an admitted number (R113, R123, R125, R231, R255, R484): the block's rule, each object's
own rule by its cases, then the obligation. -/

namespace Sys2Proof.Machine

variable {s u t : State} {d : Door} {sub v st off mask : Nat} {act : Applied}

/-! ### The rule of a station block -/

theorem ixStation_stIx (hoff : off < 0x100) : ixStation (stIx st off) = st := by
  unfold ixStation stIx
  omega

theorem ixOff_stIx (hoff : off < 0x100) : ixOff (stIx st off) = off := by
  unfold ixOff stIx
  omega

theorem inBlock_stIx (hst : st < 8) (hoff : off < 0x100) : inBlock (stIx st off) = true := by
  have low : 0x3000 ≤ stIx st off := by
    unfold stIx
    omega
  have high : stIx st off < 0x3800 := by
    unfold stIx
    omega
  simp [inBlock, low, high]

/-- A write in a station block does what the block's rule says. -/
theorem State.blockWrite_applied (ha : s.admitted d (stIx st off) sub v = some u) (hst : st < 8) (hoff : off < 0x100)
    (hrule : u.stationEffect (stIx st off) sub v = some act) (hact : act = .ok t) :
    s.write d (stIx st off) sub v = .next (t.answered d (stIx st off) sub v) := by
  refine State.write_applied ha ?_ ?_ ((if_pos (inBlock_stIx hst hoff)).trans hrule) hact
  · unfold stIx; omega
  · unfold stIx; omega

theorem State.stationEffect_stop : s.stationEffect (stIx st 0) 14 v = some (s.stationStop st v) := by
  simp [State.stationEffect, ixOff_stIx, ixStation_stIx]

theorem State.stationEffect_strobe : s.stationEffect (stIx st 2) 1 v = some (s.strobeFire st v) := by
  simp [State.stationEffect, ixOff_stIx, ixStation_stIx]

theorem State.stationEffect_dstrobe : s.stationEffect (stIx st 2) 2 v = some (s.dstrobeFire v) := by
  simp [State.stationEffect, ixOff_stIx]

theorem State.stationEffect_order : s.stationEffect (stIx st 3) sub v = some (s.directRequest st v) := by
  simp [State.stationEffect, ixOff_stIx, ixStation_stIx]

theorem State.stationEffect_targetRpm : s.stationEffect (stIx st 18) 1 v
    = some (.ok ((s.setReg (key (stIx st 18) 1) v).retarget st)) := by
  simp [State.stationEffect, ixOff_stIx, ixStation_stIx]

theorem State.stationEffect_translate : s.stationEffect (stIx st 196) sub v = some (s.translateWrite st v) := by
  simp [State.stationEffect, ixOff_stIx, ixStation_stIx]

theorem State.stationEffect_wiring : s.stationEffect (stIx st 226) sub v = some (s.wiringRequest st v) := by
  simp [State.stationEffect, ixOff_stIx, ixStation_stIx]

/-! ### STOP (R113) -/

/-- The running command holds for its strobe. -/
abbrev StnCmd.atStrobe (c : StnCmd) : Prop := c.taken = true ∧ c.strobe ≠ 0 ∧ c.steps.head? = some .spinUp

theorem State.stationStop_idle (hc : (s.stn st).cmd = none) : s.stationStop st 1 = .ok s := by
  rw [State.stationStop, if_neg (by decide), hc]

theorem State.stationStop_waiting {c : StnCmd} (hc : (s.stn st).cmd = some c)
    (hw : s.stFlag st 5 = true ∨ s.stFlag st 6 = true ∨ c.atStrobe) :
    s.stationStop st 1 = .ok ((s.withdraw st).endCommand st 0x0F530002) := by
  rw [State.stationStop, if_neg (by decide), hc]
  exact if_pos hw

theorem State.stationStop_running {c : StnCmd} (hc : (s.stn st).cmd = some c)
    (hw : ¬ (s.stFlag st 5 = true ∨ s.stFlag st 6 = true ∨ c.atStrobe)) :
    s.stationStop st 1 = .ok (s.modStn st fun x => { x with cmd := some { c with stop := true } }) := by
  rw [State.stationStop, if_neg (by decide), hc]
  exact if_neg hw

/-! ### Strobes (R125) -/

theorem State.strobeFire_mask (hm : mask < 256) (h0 : mask % 2 = 0) : s.strobeFire st mask = .ok (s.fireStrobes [st] (bitsIn 8 mask)) :=
  if_neg (by omega)

theorem State.dstrobeFire_mask (hm : mask < 4096) (h0 : mask % 256 = 0) :
    s.dstrobeFire mask = .ok (s.fireStrobes (List.range s.part.stations) (bitsIn 12 mask)) :=
  if_neg (by omega)

/-! ### Direct orders (R123, R231) -/

/-- The sequencer that a direct order names, and the order. -/
def directSeq (st v : Nat) : Nat := seqOf st (bitsOf v 9 8)
def directOrderOf (v : Nat) : Order := ⟨v % 256, v / 65536 % 65536, bitsOf v 15 12, .direct⟩

/-- The codes are in their sets, and the strobe may be armed. -/
def State.directCoded (s : State) (v : Nat) : Prop := v % 256 ≤ 63 ∧ bitsOf v 9 8 ≠ 3 ∧ s.strobeRefused (bitsOf v 15 12) = 0

/-- The station's state has direct orders: MAINT any, READY and ACTIVE a loop measurement. -/
abbrev State.directAllowed (s : State) (st v : Nat) : Prop :=
  s.stState st = stMaint ∨ (v % 256 = 0x0B ∧ (s.stState st = stReady ∨ s.stState st = stActive))

/-- The slot is free for the order; PARK takes it from an order of lower priority. -/
def State.directFree (s : State) (st v : Nat) : Prop :=
  if v % 256 = 6 then ((s.sq (directSeq st v)).slot.any fun o => o.origin.prio ≤ 2) = false else s.slotHeld (directSeq st v) = false

/-- The result object is BUSY, with LATHE_STATUS 1 (R233). -/
def State.directBegun (s : State) (st v : Nat) : State := (s.beginResult (stIx st 3)).setLathe (directSeq st v) 1 0

/-- The order waits for SCHEDULING_POINT in ACTIVE, and takes the slot in any other state. -/
def State.directTaken (s : State) (st v : Nat) : State :=
  if s.stState st = stActive then
    (s.directBegun st v).modStn st fun t => { t with orderWait := t.orderWait ++ [(directSeq st v, directOrderOf v)] }
  else (s.directBegun st v).offerOrder (directSeq st v) (directOrderOf v)

theorem State.directRequest_taken (hcoded : s.directCoded v) (hallow : s.directAllowed st v) (hfree : s.directFree st v) :
    s.directRequest st v
      = .ok (if v % 256 = 6 then (s.directTaken st v).raiseTrap (directSeq st v) trapAbort 0 0 else s.directTaken st v) := by
  obtain ⟨hcode, hsel, hstrobe⟩ := hcoded
  unfold State.directFree at hfree
  have allowed : ¬ (!decide (s.directAllowed st v)) = true := by
    rw [decide_eq_true hallow]
    decide
  have unheld : ¬ (v % 256 ≠ 6 ∧ s.slotHeld (directSeq st v) = true) := by
    rintro ⟨h6, hheld⟩
    rw [if_neg h6] at hfree
    exact Bool.false_ne_true (hfree.symm.trans hheld)
  have outranked : ¬ (v % 256 = 6 ∧ ((s.sq (directSeq st v)).slot.any fun o => o.origin.prio ≤ 2) = true) := by
    rintro ⟨h6, hheld⟩
    rw [if_pos h6] at hfree
    exact Bool.false_ne_true (hfree.symm.trans hheld)
  rw [State.directRequest]
  dsimp only
  rw [if_neg hsel, if_neg (Nat.not_lt.mpr hcode), if_neg (not_not_intro hstrobe), if_neg allowed]
  exact (if_neg unheld).trans (if_neg outranked)

/-- No order but PARK aborts the running one. -/
theorem State.directRequest_other (hcoded : s.directCoded v) (hallow : s.directAllowed st v) (h6 : v % 256 ≠ 6)
    (hfree : s.slotHeld (directSeq st v) = false) : s.directRequest st v = .ok (s.directTaken st v) := by
  rw [State.directRequest_taken hcoded hallow ((if_neg h6).mpr hfree), if_neg h6]

/-! ### The wiring test (R484) -/

theorem State.wiringRequest_issued (hscope : 1 ≤ v % 256 ∧ v % 256 ≤ 4)
    (hstate : s.stState st = stEmpty ∨ s.stState st = stClamped ∨ (s.stState st = stFault ∧ s.below30 st = true))
    (hidle : (s.stn st).wiring = none) (horder : s.hasOrder (16 + st) 24 = false)
    (htokens : bitOf v 16 = false ∨ s.tokensFree ((bitsIn 3 (scopeParts (v % 256))).map (partToken st)) = true) :
    s.wiringRequest st v = .ok ((s.beginResult (stIx st 226)).issueStation st 24 (v % 256)) := by
  obtain ⟨hlow, hhigh⟩ := hscope
  rw [State.wiringRequest, if_neg (by omega), if_neg, if_neg]
  · rintro ⟨himm, hdenied⟩
    exact htokens.elim (fun h => Bool.false_ne_true (h.symm.trans himm)) hdenied
  · rintro (h | h | h)
    · exact h hstate
    · rw [hidle] at h
      exact Bool.false_ne_true h
    · exact Bool.false_ne_true (horder.symm.trans h)

/-! ### The obligation -/

/-- Settles O14, object by object, from the cases above. -/
theorem stationWrites : Obligations.StationWrites := by
  unfold Obligations.StationWrites
  intro s d
  refine ⟨?stopRunning, ?stopWaiting, ?stopIdle, ?strobe, ?dstrobe, ?order, ?orderActive, ?park, ?targetRpm, ?translate, ?wiring⟩
  case stopRunning =>
    intro st c u ha hst hc h5 h6 hstrobe
    refine State.blockWrite_applied ha hst (by decide) State.stationEffect_stop
      (State.stationStop_running hc ?_)
    rintro (h | h | ⟨htaken, hset, hhead⟩)
    · exact Bool.false_ne_true (h5.symm.trans h)
    · exact Bool.false_ne_true (h6.symm.trans h)
    · rcases hstrobe with h | h | h
      · exact Bool.false_ne_true (h.symm.trans htaken)
      · exact hset h
      · exact h hhead
  case stopWaiting =>
    intro st c u ha hst hc hw
    exact State.blockWrite_applied ha hst (by decide) State.stationEffect_stop
      (State.stationStop_waiting hc hw)
  case stopIdle =>
    intro st u ha hst hc
    exact State.blockWrite_applied ha hst (by decide) State.stationEffect_stop
      (State.stationStop_idle hc)
  case strobe =>
    intro st mask u ha hst hm h0
    exact State.blockWrite_applied ha hst (by decide) State.stationEffect_strobe
      (State.strobeFire_mask hm h0)
  case dstrobe =>
    intro st mask u ha hst hm h0
    exact State.blockWrite_applied ha hst (by decide) State.stationEffect_dstrobe
      (State.dstrobeFire_mask hm h0)
  case order =>
    intro st v u ha hst hcode hsel hstrobe h6 hstate hfree
    have allowed : u.directAllowed st v := hstate.imp_right fun ⟨hcode, hready⟩ => ⟨hcode, .inl hready⟩
    have notActive : u.stState st ≠ stActive := by
      rcases hstate with h | ⟨-, h⟩ <;> rw [h] <;> decide
    have taken := State.directRequest_other ⟨hcode, hsel, hstrobe⟩ allowed h6 hfree
    rw [State.directTaken, if_neg notActive] at taken
    exact State.blockWrite_applied ha hst (by decide) State.stationEffect_order taken
  case orderActive =>
    intro st v u ha hst hcode hsel hstrobe hmeasure hactive hfree
    have h6 : v % 256 ≠ 6 := by omega
    have taken := State.directRequest_other ⟨hcode, hsel, hstrobe⟩ (.inr ⟨hmeasure, .inr hactive⟩) h6 hfree
    rw [State.directTaken, if_pos hactive] at taken
    exact State.blockWrite_applied ha hst (by decide) State.stationEffect_order taken
  case park =>
    intro st v u ha hst hcode hsel hstrobe h6 hmaint hfree
    have notActive : u.stState st ≠ stActive := by
      rw [hmaint]
      decide
    have taken := State.directRequest_taken ⟨hcode, hsel, hstrobe⟩ (.inl hmaint) ((if_pos h6).mpr hfree)
    rw [if_pos h6, State.directTaken, if_neg notActive] at taken
    exact State.blockWrite_applied ha hst (by decide) State.stationEffect_order taken
  case targetRpm =>
    intro st rpm u ha hst
    exact State.blockWrite_applied ha hst (by decide) State.stationEffect_targetRpm rfl
  case translate =>
    intro st u ha hst
    exact State.blockWrite_applied ha hst (by decide) State.stationEffect_translate (if_neg (by decide))
  case wiring =>
    intro st v u ha hst hlow hhigh hstate hidle horder htokens
    exact State.blockWrite_applied ha hst (by decide) State.stationEffect_wiring
      (State.wiringRequest_issued ⟨hlow, hhigh⟩ hstate hidle horder htokens)

end Sys2Proof.Machine
end

section
/-! What Watchman, Granary, the HBM and the ring make of an admitted number (R125, R391, R403, R444, R449, R450, R486, R509): each object's
own rule by its cases, then the obligation. -/

namespace Sys2Proof.Machine

variable {s : State} {d : Door} {i v : Nat} {line : Option Line}

/-! ### POWER_CMD (R509) -/

theorem State.powerCmd_enterHearth (hrun : s.powerState = psRun)
    (hoff : ((List.range s.part.stations).all fun i => s.stState i == stOff) = true) (hclean : s.anyDirty = false)
    (hctrls : s.enabledCtrls = 0) (hlatched : s.power.latched = false) :
    s.powerCmd 1 = .ok (((s.setReg (key 0x2100 3) 0).setPower psShutdown).lowerRails .hearth).updAll :=
  if_pos ⟨hrun, hoff, Bool.eq_false_iff.mp hclean, hctrls, Bool.eq_false_iff.mp hlatched⟩

theorem State.powerCmd_wake (hwake : s.mayWake = true) (hclock : s.on16 = false) (hheld : s.held = false) :
    s.powerCmd 2 = .ok (s.wake 0x400) := by
  have allowed : (s.mayWake && !s.on16 && !s.held) = true := by rw [hwake, hclock, hheld]; rfl
  exact if_pos allowed

theorem State.powerCmd_clearFailed (hfailed : s.powerState = psFailed) (hclock : s.on16 = false) (hrails : s.rails = 0)
    (hlowering : s.power.lowering = false) (hheld : s.held = false) :
    s.powerCmd 3 = .ok ((s.modPower fun p => { p with restarts := [] }).startUp true true) :=
  if_pos ⟨hfailed, Bool.eq_false_iff.mp hclock, hrails, Bool.eq_false_iff.mp hlowering, Bool.eq_false_iff.mp hheld⟩

/-! ### The Ledger and the calendar (R444, R449, R450) -/

theorem State.freezeWrite_freeze (hnew : s.reg (key 0x2200 9) ≠ 1) :
    s.freezeWrite 1 = .ok ((s.note 0x0C03 0 (leBytes 1 1)).setReg (key 0x2200 9) 1) := if_neg hnew.symm

theorem State.freezeWrite_release (hnew : s.reg (key 0x2200 9) ≠ 0) : s.freezeWrite 0 = .ok s.freezeRelease := if_neg hnew.symm

theorem State.calendarWrite_own (hown : s.following = false) : s.calendarWrite v = .ok (s.calendarSet v 2) :=
  if_neg (Bool.eq_false_iff.mp hown)

/-! ### The tag probe (Table 14.9) -/

/-- The line that a probe meets: a spread cluster has no tag. -/
def State.probedLine (s : State) : Option Line :=
  if nsSpread (s.reg (key 0x4402 1)) then none else s.line (s.reg (key 0x4402 1)) (s.reg (key 0x4402 2) % 1099511627776)

/-- The result object's fields: the set, its bank, the tag met, and the set's replacement tree. -/
def State.tagFields (s : State) (line : Option Line) : List (Nat × Nat) :=
  let x := s.setOf (s.reg (key 0x4402 1)) (s.reg (key 0x4402 2) % 1099511627776)
  match line with
  | none => [(5, x), (6, x % 2), (7, 0xFF), (8, 0), (9, 0), (10, 0), (11, 0), (12, 0), (13, 18446744073709551615), (14, s.tree x)]
  | some l =>
    let st := match l.state with | .filling => 1 | .valid => 2 | .evicting => 3 | .dirty => 4 | .writing => 5
    [(5, x), (6, x % 2), (7, l.way), (8, st), (9, l.valid), (10, l.dirty), (11, l.poison), (12, l.lock),
      (13, l.flushSeq.getD 18446744073709551615), (14, s.tree x)]

theorem State.tagProbe_one (hl : s.probedLine = line) : s.tagProbe 1 = .ok (s.endResult 0x4403 (s.tagFields line) 0) := by
  unfold State.probedLine at hl
  rw [State.tagProbe, if_neg (by decide)]
  simp only [Nat.reducePow, Nat.reduceSub, hl]
  cases line <;> rfl

/-! ### The ring (R125, R391, R403) -/

theorem State.ringEnable_on (hnew : s.reg (ringKey 1) ≠ 1) :
    s.ringEnable 1 = .ok ((s.setReg (ringKey 1) 1).setRingState rsAlone).updAll := if_neg hnew.symm

theorem State.ringEnable_off (hnew : s.reg (ringKey 1) ≠ 0) (hspread : (s.nvme.namespaces.any fun n => nsSpread n.nsid) = false) :
    s.ringEnable 0 = .ok ((s.setReg (ringKey 1) 0).ringOff).updAll :=
  (if_neg hnew.symm).trans (if_neg (Bool.eq_false_iff.mp hspread))

theorem State.rsFire_master (hmaster : s.isMaster = true)
    (hlate : s.ringTime + 1000 * s.reg (ringKey 12) ≤ s.reg (key 0x4803 2)) : s.rsFire 1
      = .ok ((s.addStrobe (s.reg (key 0x4803 1)) (s.reg (key 0x4803 2))).ringAll 9 [s.reg (key 0x4803 1), s.reg (key 0x4803 2)]) := by
  rw [State.rsFire, hmaster, if_neg (by decide), if_neg (by decide), if_neg (Nat.not_lt.mpr hlate)]

/-! ### Event overrides (R486) -/

/-- An entry in use may stand: its code is defined, no other entry has it, and an event that the Ledger must keep is kept. -/
def State.overrideAllowed (s : State) (i v : Nat) : Prop :=
  codeDefined (v / 65536) = true ∧ (s.overrides.any fun p => p.1 != i && p.2 / 65536 == v / 65536) = false
    ∧ (bitOf v 0 = true ∨ (severityOf (v / 65536) < 3 ∧ v / 65536 ≠ 0x0204 ∧ v / 65536 ≠ 0x0C01 ∧ v / 65536 ≠ 0x0C02
      ∧ v / 65536 / 256 ≠ 0x0B))

/-- The entry is taken and counted. -/
def State.overrideSet (s : State) (i v : Nat) : State :=
  (s.setReg (key 0x5801 i) v).setReg (key 0x5800 1) (s.setReg (key 0x5801 i) v).overrides.length

/-- With its reserved bits 0, an entry is kept as written (R11). -/
theorem override_kept (hv : v % 65536 < 8) : v / 65536 * 65536 + v % 8 = v := by omega

theorem override_unused (hv : v % 65536 < 4) : bitOf v 2 = false := by
  simp only [bitOf, beq_eq_false_iff_ne]
  omega

theorem State.overrideWrite_taken (hv : v % 65536 < 8) (hallow : bitOf v 2 = true → s.overrideAllowed i v) : s.overrideWrite i v
    = .ok (if s.reg (key 0x5801 i) = v then s.overrideSet i v
        else (s.overrideSet i v).note 0x0E05 0 (leBytes 1 i ++ leBytes 4 v)) := by
  unfold State.overrideWrite
  rw [override_kept hv]
  dsimp only
  rw [if_neg, if_neg, if_neg]
  · rfl
  · rintro ⟨huse, hrecord, hkeep⟩
    obtain ⟨-, -, hfree⟩ := hallow huse
    rcases hfree with h | ⟨hsev, h2, h3, h4, h5⟩
    · exact hrecord h
    · rcases hkeep with h | h | h | h | h
      · omega
      · exact h2 h
      · exact h3 h
      · exact h4 h
      · exact h5 h
  · rintro ⟨huse, hother⟩
    obtain ⟨-, hsingle, -⟩ := hallow huse
    exact Bool.false_ne_true (hsingle.symm.trans hother)
  · rintro ⟨huse, hundefined⟩
    obtain ⟨hdefined, -, -⟩ := hallow huse
    exact hundefined hdefined

/-! ### The obligation -/

/-- Settles O16, object by object, from the cases above. -/
theorem deviceWrites : Obligations.DeviceWrites := by
  unfold Obligations.DeviceWrites
  intro s d
  refine ⟨?enterHearth, ?wake, ?clearFailed, ?flush, ?freeze, ?release, ?cursor, ?advance, ?calendar, ?probeMiss, ?probeHit,
    ?decode, ?ringOn, ?ringOff, ?rsFire, ?override⟩
  case enterHearth =>
    intro u ha hrun hoff hclean hctrls hlatched
    exact State.write_applied ha (by decide) (by decide) rfl (State.powerCmd_enterHearth hrun hoff hclean hctrls hlatched)
  case wake =>
    intro u ha hwake hclock hheld
    exact State.write_applied ha (by decide) (by decide) rfl (State.powerCmd_wake hwake hclock hheld)
  case clearFailed =>
    intro u ha hfailed hclock hrails hlowering hheld
    exact State.write_applied ha (by decide) (by decide) rfl
      (State.powerCmd_clearFailed hfailed hclock hrails hlowering hheld)
  case flush =>
    intro u ha
    exact State.write_applied ha (by decide) (by decide) rfl (if_pos rfl)
  case freeze =>
    intro u ha hnew
    exact State.write_applied ha (by decide) (by decide) rfl (State.freezeWrite_freeze hnew)
  case release =>
    intro u ha hnew
    exact State.write_applied ha (by decide) (by decide) rfl (State.freezeWrite_release hnew)
  case cursor =>
    intro v u ha
    exact State.write_applied ha (by decide) (by decide) rfl rfl
  case advance =>
    intro u ha
    exact State.write_applied ha (by decide) (by decide) rfl (if_pos rfl)
  case calendar =>
    intro v u ha hown
    exact State.write_applied ha (by decide) (by decide) rfl (State.calendarWrite_own hown)
  case probeMiss =>
    intro u ha hmiss
    have missed : u.probedLine = none := by
      rcases hmiss with h | h
      · exact if_pos h
      · exact (congrArg (ite _ none) h).trans (ite_self none)
    have probed := State.tagProbe_one missed
    rw [State.tagFields] at probed
    exact State.write_applied ha (by decide) (by decide) rfl probed
  case probeHit =>
    intro l u ha hlocal hline
    have met : u.probedLine = some l := (if_neg (Bool.eq_false_iff.mp hlocal)).trans hline
    have probed := State.tagProbe_one met
    rw [State.tagFields] at probed
    exact State.write_applied ha (by decide) (by decide) rfl probed
  case decode =>
    intro u ha
    refine State.write_applied ha (by decide) (by decide) rfl ?_
    rw [State.hbmRequest, if_pos rfl]
  case ringOn =>
    intro u ha hnew
    exact State.write_applied ha (by decide) (by decide) rfl (State.ringEnable_on hnew)
  case ringOff =>
    intro u ha hnew hspread
    exact State.write_applied ha (by decide) (by decide) rfl (State.ringEnable_off hnew hspread)
  case rsFire =>
    intro u ha hmaster hlate
    exact State.write_applied ha (by decide) (by decide) rfl (State.rsFire_master hmaster hlate)
  case override =>
    intro i v u ha hv hallow
    refine State.write_applied ha (by decide) (by decide) rfl (State.overrideWrite_taken hv fun huse => hallow.resolve_left ?_)
    exact fun hlow => Bool.false_ne_true ((override_unused hlow).symm.trans huse)

end Sys2Proof.Machine
end

section
/-! What the objects of a control engine make of an admitted number (R134, R139, R151 to R153, R295): where an engine's objects stand,
each object's own rule by its cases, then the obligation. -/

namespace Sys2Proof.Machine

variable {s u t : State} {d : Door} {e l h k off sub v : Nat} {act : Applied}

/-! ### The objects of an engine -/

/-- Engine `e` has an object at offset `off`: a head's range is 0x40 wide, a station's 0x10 (chapter 6, "Objects"). -/
def hasSlot (e off : Nat) : Prop := e < 24 ∧ off < if e < 16 then 0x40 else 0x10

theorem hasSlot_of_lt (he : e < 24) (hoff : off < 0x10) : hasSlot e off := ⟨he, by split <;> omega⟩

/-- An engine's object stands in its station's block, in the range of the engines, and its index tells engine and offset. -/
theorem engIx_place (hs : hasSlot e off) : inBlock (engIx e off) = true ∧ 0x30 ≤ ixOff (engIx e off) ∧ ixOff (engIx e off) < 0xC0
    ∧ ixEngine (engIx e off) = e ∧ ixEngOff (engIx e off) = off := by
  obtain ⟨he, hoff⟩ := hs
  unfold engIx inBlock ixEngine ixEngOff ixOff ixStation hdIx stIx
  simp only [Bool.and_eq_true, decide_eq_true_eq]
  by_cases head : e < 16
  · rw [if_pos head] at hoff ⊢
    (repeat' split) <;> omega
  · rw [if_neg head] at hoff ⊢
    (repeat' split) <;> omega

/-- A write of an engine's object does what the block's rule says. -/
theorem State.engineWrite_applied (ha : s.admitted d (engIx e off) sub v = some u) (hs : hasSlot e off)
    (hrule : u.stationEffect (engIx e off) sub v = some act) (hact : act = .ok t) :
    s.write d (engIx e off) sub v = .next (t.answered d (engIx e off) sub v) := by
  obtain ⟨hblock, -⟩ := engIx_place hs
  refine State.write_applied ha ?_ ?_ ((if_pos hblock).trans hrule) hact
  · exact fun h => absurd (h ▸ hblock) (by decide)
  · exact fun h => absurd (h ▸ hblock) (by decide)

theorem State.stationEffect_loopCmd (he : e < 24) (hl : l < loopCount e) :
    s.stationEffect (engIx e 0) (1 + l + loopCount e) v = some (s.loopCmd e l (key (engIx e 0) (1 + l + loopCount e)) v) := by
  obtain ⟨-, hlow, hhigh, heng, hoff⟩ := engIx_place (hasSlot_of_lt he (off := 0) (by decide))
  have column : 1 + l + loopCount e - loopCount e - 1 = l := by omega
  simp (disch := omega) only [State.stationEffect, heng, hoff, if_neg, if_pos, column, true_and]

theorem State.stationEffect_apply (he : e < 24) : s.stationEffect (engIx e 6) 50 v = some (s.applyWrite e v) := by
  obtain ⟨-, hlow, hhigh, heng, hoff⟩ := engIx_place (hasSlot_of_lt he (off := 6) (by decide))
  simp (disch := omega) only [State.stationEffect, heng, hoff, if_neg, reduceIte, and_self]

theorem State.stationEffect_injEnable (he : e < 24) : s.stationEffect (engIx e 11) 1 v = some (s.injWrite e v false) := by
  obtain ⟨-, hlow, hhigh, heng, hoff⟩ := engIx_place (hasSlot_of_lt he (off := 11) (by decide))
  simp (disch := omega) only [State.stationEffect, heng, hoff, if_neg, reduceIte, and_self]

theorem State.stationEffect_capture (he : e < 24) : s.stationEffect (engIx e 12) 1 1 = some (.ok (s.capArm e)) := by
  obtain ⟨-, hlow, hhigh, heng, hoff⟩ := engIx_place (hasSlot_of_lt he (off := 12) (by decide))
  simp (disch := omega) only [State.stationEffect, heng, hoff, if_neg, reduceIte, and_self]

theorem State.stationEffect_measure (he : e < 24) : s.stationEffect (engIx e 14) 1 v = some (s.measureRequest e v) := by
  obtain ⟨-, hlow, hhigh, heng, hoff⟩ := engIx_place (hasSlot_of_lt he (off := 14) (by decide))
  simp (disch := omega) only [State.stationEffect, heng, hoff, if_neg, reduceIte, and_self]

/-- A head's read channel stands in the head's range (chapter 11). -/
theorem chIx_eq_engIx (hh : h < 16) : chIx h off = engIx h (0x20 + off) := (if_pos hh).symm

theorem State.stationEffect_dump (hh : h < 16) : s.stationEffect (engIx h (0x20 + 13)) 1 v = some (s.dumpRequest h v) := by
  obtain ⟨-, hlow, hhigh, heng, hoff⟩ := engIx_place (e := h) (off := 0x20 + 13) ⟨by omega, by rw [if_pos hh]; decide⟩
  simp (disch := omega) only [State.stationEffect, heng, hoff, if_neg, reduceIte, and_self]

/-! ### LOOP_CMD (R134, R136) -/

theorem State.loopCmd_done (hm : s.stState (engStation e) = stMaint) (hc : s.loopCommand e l v = some t) :
    s.loopCmd e l k v = .ok (t.setReg k v) := by
  rw [State.loopCmd, if_neg (not_not_intro hm), hc]

theorem State.loopCommand_hold (hst : s.loopState e l = lsClosed ∨ s.loopState e l = lsHold) :
    s.loopCommand e l 3 = some (s.setCause e l hcCommand) := if_pos hst

/-- CLOSE in HOLD takes the command's own cause away, and the loop's window counts as not expired. -/
theorem State.loopCommand_close_hold (hst : s.loopState e l = lsHold) :
    s.loopCommand e l 4 = some ((s.modLp e l fun p => { p with expired := false }).clearCause e l hcCommand) := if_pos hst

theorem State.loopCommand_close_closed (hst : s.loopState e l = lsClosed) : s.loopCommand e l 4 = some s := by
  have notHeld : s.loopState e l ≠ lsHold := by
    rw [hst]
    decide
  exact (if_neg notHeld).trans (if_pos hst)

theorem State.loopCommand_close_open (hst : s.loopState e l = lsOpen ∨ s.loopState e l = lsSearch) (hmay : s.mayClose e l = true) :
    s.loopCommand e l 4 = some (s.loopClose e l) := by
  have notHeld : s.loopState e l ≠ lsHold := by
    rcases hst with h | h <;> rw [h] <;> decide
  have notClosed : s.loopState e l ≠ lsClosed := by
    rcases hst with h | h <;> rw [h] <;> decide
  exact (if_neg notHeld).trans ((if_neg notClosed).trans (if_pos ⟨hst, hmay⟩))

/-- A loop command that the loop's state has is carried out in MAINT, and LOOP_CMD reads it. -/
theorem State.loopWrite_done (ha : s.admitted d (engIx e 0) (1 + l + loopCount e) v = some u) (he : e < 24) (hl : l < loopCount e)
    (hm : u.stState (engStation e) = stMaint) (hc : u.loopCommand e l v = some t) :
    s.loopWrite d e l v = .next ((t.setReg (key (engIx e 0) (1 + l + loopCount e)) v).answered d (engIx e 0) (1 + l + loopCount e) v) :=
  State.engineWrite_applied ha (hasSlot_of_lt he (by decide)) (State.stationEffect_loopCmd he hl) (State.loopCmd_done hm hc)

/-! ### APPLY (R139) and the injector (R151) -/

theorem State.applyWrite_starts
    (hfree : ((setLoops e (s.reg (engKey e 6 49))).any fun l =>
      s.loopState e l == lsSearch || (s.loopState e l == lsHold && bitOf (s.holdCause e l) hcLathe)) = false)
    (hidle : (isHead e && s.substate e == hsWriting) = false) (hok : s.stagedOk e = true) :
    s.applyWrite e 1 = .ok (s.startApply e (s.reg (engKey e 6 49))) := by
  rw [State.applyWrite]
  rw [if_neg (by decide), hfree, hidle, hok]
  rfl

theorem State.injWrite_on (hf : s.injFrequency e = true) (hm : s.stState (engStation e) = stMaint)
    (hfree : (s.eng e).inj = .free ∨ (s.eng e).inj = .dict)
    (hst : s.loopState e (s.reg (engKey e 11 2)) = lsOpen ∨ s.loopState e (s.reg (engKey e 11 2)) = lsClosed) :
    s.injWrite e 1 false = .ok ((s.setReg (engKey e 11 1) 1).modEng e fun g => { g with inj := .dict, injN := 0 }) := by
  rw [State.injWrite]
  rw [if_neg (by decide), hf, hm, if_neg (by decide), if_neg (by decide), if_neg fun h => hfree.elim h.1 h.2,
    if_neg fun h => hst.elim h.1 h.2]

/-! ### Measurements (R153, Table 5.5) -/

/-- REQUEST names a loop that the part has, and the points and cycles that Table 6.15 allows. -/
def State.measureCoded (s : State) (e v : Nat) : Prop :=
  s.loopPresent e (v % 16) = true ∧ (bitsOf v 23 16 = 0 ∨ 4 ≤ bitsOf v 23 16)
    ∧ (bitsOf v 15 8 = 0 ∨ (8 ≤ bitsOf v 15 8 ∧ bitsOf v 15 8 ≤ 64))

theorem State.measureRequest_coded (hc : s.measureCoded e v) : s.measureRequest e v =
    if s.stState (engStation e) = stReady ∨ s.stState (engStation e) = stMaint then
      .ok ((s.beginResult (engIx e 14)).measureObject e v)
    else if s.stState (engStation e) = stActive then
      .ok ((s.beginResult (engIx e 14)).modStn (engStation e) fun t => { t with measWait := t.measWait ++ [(e, v)] })
    else .error noState := by
  obtain ⟨hl, hcycles, hpoints⟩ := hc
  have coded : (s.loopPresent e (v % 16) && (bitsOf v 23 16 == 0 || decide (4 ≤ bitsOf v 23 16))
      && (bitsOf v 15 8 == 0 || (decide (8 ≤ bitsOf v 15 8) && decide (bitsOf v 15 8 ≤ 64)))) = true := by
    simp only [hl, hcycles, hpoints, Bool.true_and, Bool.and_eq_true, Bool.or_eq_true, beq_iff_eq, decide_eq_true_eq, and_self]
  rw [State.measureRequest]
  rw [coded]
  rfl

theorem State.measureRequest_now (hc : s.measureCoded e v)
    (hst : s.stState (engStation e) = stReady ∨ s.stState (engStation e) = stMaint) :
    s.measureRequest e v = .ok ((s.beginResult (engIx e 14)).measureObject e v) :=
  (State.measureRequest_coded hc).trans (if_pos hst)

theorem State.measureRequest_waits (hc : s.measureCoded e v) (hst : s.stState (engStation e) = stActive) : s.measureRequest e v
    = .ok ((s.beginResult (engIx e 14)).modStn (engStation e) fun t => { t with measWait := t.measWait ++ [(e, v)] }) := by
  rw [State.measureRequest_coded hc, hst]
  rfl

/-- Through a door MEASURE_LOOP is a write of REQUEST; with none it is the running order's. -/
theorem execMeasureLoop_door (hd : d ≠ .inner) : execMeasureLoop d e v s = s.write d (engIx e 14) 1 v := by
  cases d with
  | inner => exact absurd rfl hd
  | _ => rfl

theorem State.measureWrite_applied (ha : s.admitted d (engIx e 14) 1 v = some u) (he : e < 24) (hd : d ≠ .inner)
    (hrule : u.measureRequest e v = .ok t) : exec (.measureLoop d e v) s = .next (t.answered d (engIx e 14) 1 v) := by
  rw [exec_measureLoop, execMeasureLoop_door hd]
  exact State.engineWrite_applied ha (hasSlot_of_lt he (by decide)) (State.stationEffect_measure he) hrule

/-! ### Dumps of the sample ring (R295) -/

/-- The newest frame of the ring that the head's DUMP settings name. -/
abbrev State.dumped (s : State) (h : Nat) : Option RingFrame :=
  (s.ring.filter fun f => f.h == h && f.b == s.reg (chKey h 12 2) && f.psa == s.reg (chKey h 12 1)).getLast?

theorem State.dumpRequest_none (hn : s.dumped h = none) : s.dumpRequest h 1 = .ok (s.endResult (chIx h 13) [] 0x0F5B0001) := by
  unfold State.dumped at hn
  rw [State.dumpRequest, if_neg (by decide)]
  dsimp only
  rw [hn]

theorem State.dumpRequest_some {x : RingFrame} (hx : s.dumped h = some x) : s.dumpRequest h 1
    = .ok ((s.setRaw (chKey h 14 0) x.samples).endResult (chIx h 13) [(5, x.count), (6, x.flags)] 0) := by
  unfold State.dumped at hx
  rw [State.dumpRequest, if_neg (by decide)]
  dsimp only
  rw [hx]

theorem State.dumpWrite_applied (ha : s.admitted d (chIx h 13) 1 1 = some u) (hh : h < 16) (hrule : u.dumpRequest h 1 = .ok t) :
    exec (.ringFrameDump d h 1) s = .next (t.answered d (chIx h 13) 1 1) := by
  rw [exec_ringFrameDump, execRingFrameDump, chIx_eq_engIx hh]
  rw [chIx_eq_engIx hh] at ha
  exact State.engineWrite_applied ha ⟨by omega, by rw [if_pos hh]; decide⟩ (State.stationEffect_dump hh) hrule

/-! ### The obligation -/

/-- Settles O15, object by object, from the cases above. -/
theorem loopWrites : Obligations.LoopWrites := by
  unfold Obligations.LoopWrites
  intro s d
  refine ⟨?off, ?opens, ?hold, ?close, ?closeHeld, ?closeClosed, ?apply, ?injOn, ?injOff, ?capture, ?measure, ?measureActive,
    ?dumpNone, ?dump, fun _ _ => rfl⟩
  case off =>
    intro e l u ha he hl hm
    exact State.loopWrite_done ha he hl hm rfl
  case opens =>
    intro e l u ha he hl hm
    exact State.loopWrite_done ha he hl hm rfl
  case hold =>
    intro e l u ha he hl hm hst
    exact State.loopWrite_done ha he hl hm (State.loopCommand_hold hst)
  case close =>
    intro e l u ha he hl hm hst hmay
    exact State.loopWrite_done ha he hl hm (State.loopCommand_close_open hst hmay)
  case closeHeld =>
    intro e l u ha he hl hm hst
    exact State.loopWrite_done ha he hl hm (State.loopCommand_close_hold hst)
  case closeClosed =>
    intro e l u ha he hl hm hst
    exact State.loopWrite_done ha he hl hm (State.loopCommand_close_closed hst)
  case apply =>
    intro e u ha he hfree hidle hok
    exact State.engineWrite_applied ha (hasSlot_of_lt he (by decide)) (State.stationEffect_apply he)
      (State.applyWrite_starts hfree hidle hok)
  case injOn =>
    intro e u ha he hf hm hfree hst
    exact State.engineWrite_applied ha (hasSlot_of_lt he (by decide)) (State.stationEffect_injEnable he)
      (State.injWrite_on hf hm hfree hst)
  case injOff =>
    intro e u ha he
    exact State.engineWrite_applied ha (hasSlot_of_lt he (by decide)) (State.stationEffect_injEnable he) rfl
  case capture =>
    intro e u ha he
    exact State.engineWrite_applied ha (hasSlot_of_lt he (by decide)) (State.stationEffect_capture he) rfl
  case measure =>
    intro e v u ha he hd hl hcycles hpoints hst
    exact State.measureWrite_applied ha he hd (State.measureRequest_now ⟨hl, hcycles, hpoints⟩ hst)
  case measureActive =>
    intro e v u ha he hd hl hcycles hpoints hst
    exact State.measureWrite_applied ha he hd (State.measureRequest_waits ⟨hl, hcycles, hpoints⟩ hst)
  case dumpNone =>
    intro h u ha hh hn
    exact State.dumpWrite_applied ha hh (State.dumpRequest_none hn)
  case dump =>
    intro h x u ha hh hx
    exact State.dumpWrite_applied ha hh (State.dumpRequest_some hx)

end Sys2Proof.Machine
end

section
/-! What the self-test keeps while events are reported and partitions end (R23, R438 to R449, R465, R470, R486): a report neither starts
nor ends a test and enters nothing in the log of tests, and the end of a partition starts none. -/

namespace Sys2Proof.Machine

variable {s : State}

/-- What the host sees of self-tests: the running one, and the NVMe engine, which logs those that have ended (R475). -/
def State.tests (s : State) : Option SelfTest × Nvme := (s.selfTest, s.nvme)

theorem State.tests_setReg (k v : Nat) : (s.setReg k v).tests = s.tests := rfl

theorem State.tests_ledgerView : s.ledgerView.tests = s.tests := rfl

theorem State.tests_ite {c : Prop} [Decidable c] {u v : State} (hu : u.tests = s.tests) (hv : v.tests = s.tests) :
    (if c then u else v).tests = s.tests := by
  split <;> assumption

theorem State.tests_foldl {α : Type} (l : List α) (f : State → α → State) (hf : ∀ (u : State) x, (f u x).tests = u.tests) :
    (l.foldl f s).tests = s.tests := by
  induction l generalizing s with
  | nil => rfl
  | cons x l ih => exact ih.trans (hf s x)

/-! ### EMCY -/

theorem State.tests_sendEmcy (f : Emcy) : (s.sendEmcy f).tests = s.tests := by
  unfold State.sendEmcy
  dsimp only
  exact State.tests_ite rfl (State.tests_ite rfl (State.tests_ite (State.tests_ite rfl (State.tests_ite rfl rfl)) rfl))

theorem State.tests_enterHistory (code event : Nat) : (s.enterHistory code event).tests = s.tests := by
  unfold State.enterHistory
  rw [State.tests_setReg, State.tests_setReg, State.tests_foldl _ _ fun _ _ => State.tests_setReg _ _]

theorem State.tests_raiseEmcy (code source event detail : Nat) (standing : Bool) :
    (s.raiseEmcy code source event detail standing).tests = s.tests := by
  have entered := State.tests_enterHistory (s := s) code event
  unfold State.raiseEmcy
  dsimp only
  generalize s.enterHistory code event = u at entered ⊢
  split
  · exact State.tests_sendEmcy _
  · split
    · exact (State.tests_sendEmcy _).trans entered
    · exact (State.tests_sendEmcy _).trans entered

theorem State.tests_announce (code source : Nat) (payload : List Byte) (em : Option EmcyUse) :
    (s.announce code source payload em).1.tests = s.tests := by
  have counted : (if s.override code = some (true, true) ∨ s.override code = some (false, true) then
      (match em with | none => s.bump (key 0x5800 2) | some _ => s) else s).tests = s.tests := by
    cases em <;> split <;> rfl
  unfold State.announce
  dsimp only
  split
  · exact counted
  · exact (State.tests_raiseEmcy ..).trans counted

/-! ### The Ledger -/

theorem State.tests_storeGap (reason count first : Nat) : (s.storeGap reason count first).tests = s.tests := by
  have told := State.tests_announce (s := s) 0x0C01 0 (leBytes 1 reason ++ leBytes 4 count ++ leBytes 8 first) none
  unfold State.storeGap
  dsimp only
  split
  · split <;> exact told
  · split <;> exact told

theorem State.tests_startFlush : s.startFlush.tests = s.tests := by
  unfold State.startFlush
  split
  · rfl
  · split <;> rfl

theorem State.tests_store (r : Rec) : (s.store r).tests = s.tests := by
  have flushed : ∀ {c : Prop} [Decidable c] {u : State}, u.tests = s.tests → (if c then u.startFlush else u).tests = s.tests :=
    fun hu => State.tests_ite (State.tests_startFlush.trans hu) hu
  have raw : (s.storeRaw r).tests = s.tests := rfl
  unfold State.store
  dsimp only
  rw [State.tests_ledgerView]
  refine flushed ?_
  split
  · exact State.tests_ite (State.tests_storeGap ..) raw
  · exact raw

theorem State.tests_rateLimit (r : Rec) : (s.rateLimit r).2.tests = s.tests := by
  unfold State.rateLimit
  dsimp only
  split
  · split <;> rfl
  · rfl

theorem State.tests_place (r : Rec) : (s.place r).tests = s.tests := by
  unfold State.place
  exact State.tests_ite (State.tests_ite rfl rfl) (State.tests_store r)

theorem State.tests_post (code source : Nat) (payload : List Byte) (em : Option EmcyUse) :
    (s.post code source payload em).tests = s.tests := by
  have told := State.tests_announce (s := s) code source payload em
  unfold State.post
  dsimp only
  split
  · split
    · next e => exact (congrArg (·.2.tests) e).symm.trans ((State.tests_rateLimit _).trans told)
    · next e => exact (State.tests_place _).trans ((congrArg (·.2.tests) e).symm.trans ((State.tests_rateLimit _).trans told))
  · exact told

theorem State.post_selfTest (code source : Nat) (payload : List Byte) (em : Option EmcyUse) :
    (s.post code source payload em).selfTest = s.selfTest := congrArg Prod.fst (State.tests_post ..)

theorem State.post_nvme (code source : Nat) (payload : List Byte) (em : Option EmcyUse) :
    (s.post code source payload em).nvme = s.nvme := congrArg Prod.snd (State.tests_post ..)

/-! ### The end of a partition (R465, R470) -/

theorem State.reinit_selfTest (kind inst : Nat) : (s.reinit kind inst).selfTest = s.selfTest := by
  unfold State.reinit
  split
  · rfl
  · split <;> rfl

theorem State.endTempWake_selfTest (d : Nat) : (s.endTempWake d).selfTest = s.selfTest := by
  unfold State.endTempWake State.updDomain
  dsimp only
  (repeat' split) <;> rfl

theorem State.idle_ite {c : Prop} [Decidable c] {u v : State} (hu : u.selfTest = none) (hv : v.selfTest = none) :
    (if c then u else v).selfTest = none := by
  split <;> assumption

/-- The end of a partition starts no test. -/
theorem State.bistEnd_selfTest_none (r : BistRun) (o sig : Nat) (wake : Bool) (hs : s.selfTest = none) :
    (s.bistEnd r o sig wake).selfTest = none := by
  unfold State.bistEnd
  extract_lets k taken power freed dropped reset asleep viewed entered counted who told marked
  have idleDropped : dropped.selfTest = none := hs
  have idleReset : reset.selfTest = none := State.idle_ite ((State.reinit_selfTest ..).trans idleDropped) idleDropped
  have idleAsleep : asleep.selfTest = none := by
    unfold asleep
    split
    · exact State.idle_ite ((State.endTempWake_selfTest _).trans idleReset) idleReset
    · exact idleReset
  have idleEntered : entered.selfTest = none := State.idle_ite (u := asleep.bistView _) idleAsleep idleAsleep
  have idleCounted : counted.selfTest = none :=
    State.idle_ite (u := entered.bump _) idleEntered (State.idle_ite (u := entered.bump _) idleEntered
      (State.idle_ite (u := entered.bump _) idleEntered idleEntered))
  have idleTold : told.selfTest = none :=
    State.idle_ite ((State.post_selfTest ..).trans idleCounted)
      (State.idle_ite idleCounted ((State.post_selfTest ..).trans idleCounted))
  have idleMarked : marked.selfTest = none := by
    unfold marked
    split
    · rw [State.modTest_selfTest, idleTold, Option.map_none]
    · exact idleTold
  exact State.idle_ite (u := marked.endResult ..) idleMarked idleMarked

end Sys2Proof.Machine
end

section
/-! Device self-tests and the end of a loop measurement (R153, R154, R349, R472 to R475): the test's shared operations by their cases,
then the obligation. -/

namespace Sys2Proof.Machine

variable {s : State} {c cid nsid code res st e n b pc : Nat} {pm gm : Int} {x : Ctx} {k : Ctrl} {t : SelfTest} {y : StTest}
  {h : List Byte} {m : Meas}

/-! ### The start of a test (R349, R472) -/

/-- NSID names the whole subsystem. -/
abbrev namesAll (nsid : Nat) : Prop := nsid = 0 ∨ nsid = 0xFFFFFFFF

/-- The stations that NSID names. -/
def State.testStations (s : State) (nsid : Nat) : List Nat :=
  if namesAll nsid then List.range s.part.stations else if nsSpread nsid then [] else [nsStation nsid]

/-- The test runs, SELFTEST reads its code, and its first steps are set going. -/
def State.testBegun (s : State) (x : Ctx) (nsid code : Nat) (stations : List Nat) : State :=
  (({ s with selfTest := some ⟨code, nsid, x.ctrl, stations.map fun i => s.stTestOf i code,
    if code = 2 ∧ s.bistState 5 = true then s.poolParts else [], 0⟩ } : State).setReg (key 0x2500 7) code).testAdvance

theorem State.selfTestCmd_starts (ht : s.selfTest = none) (hns : namesAll nsid ∨ ∃ v, s.ns nsid = some v) :
    s.selfTestCmd x nsid code = (s.complete x.seq (cplOk 0 0)).testBegun x nsid code (s.testStations nsid) := by
  have known : ¬ (¬ namesAll nsid ∧ (s.ns nsid).isNone = true) := by
    rintro ⟨hall, hnone⟩
    rcases hns with h | ⟨v, h⟩
    · exact hall h
    · rw [h] at hnone
      exact Bool.false_ne_true hnone
  have free : ¬ s.selfTest.isSome = true := by rw [ht]; decide
  exact (if_neg free).trans (if_neg known)

theorem State.selfTestCmd_unknown (ht : s.selfTest = none) (hall : ¬ namesAll nsid) (hns : s.ns nsid = none) :
    s.selfTestCmd x nsid code = s.complete x.seq cplInvalidNs := by
  have free : ¬ s.selfTest.isSome = true := by rw [ht]; decide
  exact (if_neg free).trans (if_pos ⟨hall, by rw [hns]; rfl⟩)

theorem State.selfTestCmd_running (ht : s.selfTest = some t) :
    s.selfTestCmd x nsid code = s.complete x.seq (cplFail .selfTestInProgress false) :=
  if_pos (by rw [ht]; rfl)

/-- The two commands start the test of their code. -/
theorem exec_deviceSelfTest_turn (ht : s.adminTurn c cid x k) :
    exec (.deviceSelfTestShort c cid nsid) s = .next (s.selfTestCmd x nsid 1)
      ∧ exec (.deviceSelfTestExtended c cid nsid) s = .next (s.selfTestCmd x nsid 2) :=
  ⟨(exec_deviceSelfTestShort ..).trans (State.adminCmd_turn _ ht), (exec_deviceSelfTestExtended ..).trans (State.adminCmd_turn _ ht)⟩

/-! ### The end of a test (R475) -/

theorem State.idle_forEach {α : Type} {l : List α} {f : State → α → State}
    (hf : ∀ (u : State) a, u.selfTest = none → (f u a).selfTest = none) (hs : s.selfTest = none) : (s.forEach l f).selfTest = none := by
  unfold State.forEach
  induction l generalizing s with
  | nil => exact hs
  | cons a l ih => exact ih (hf s a hs)

theorem State.setRegs_selfTest (s : State) (l : List (Nat × Nat)) : (s.setRegs l).selfTest = s.selfTest := by
  induction l generalizing s with
  | nil => rfl
  | cons p l ih => exact ih (s.setReg p.1 p.2)

/-- No test runs, SELFTEST reads 0, and the result `r` stands in front of the log. -/
def State.TestOver (s : State) (r : List Nat) : Prop :=
  s.selfTest = none ∧ s.reg (key 0x2500 7) = 0 ∧ s.nvme.selfTests.head? = some r

theorem State.endTest_over (ht : s.selfTest = some t) (res : Nat) : (s.endTest res).TestOver [t.code, res, t.segment, t.nsid] := by
  unfold State.endTest
  split
  · next hn => exact absurd (ht.symm.trans hn) (Option.some_ne_none t)
  · next v hv =>
    obtain rfl : t = v := Option.some.inj (ht.symm.trans hv)
    extract_lets results stopped idle unread ended shown cleared logged
    have idleEnded : ended.selfTest = none := by
      refine State.idle_forEach (fun u r hu => ?_) rfl
      exact State.idle_ite (u := u.modRun ..) hu (State.bistEnd_selfTest_none r _ _ _ hu)
    have idleShown : shown.selfTest = none := (State.setRegs_selfTest ended _).trans idleEnded
    clear_value shown
    refine ⟨(State.post_selfTest (s := logged) ..).trans idleShown, ?_, ?_⟩
    · exact (((State.Reported.refl logged).note ..).reg _ (by decide)).trans (State.reg_setReg_same shown _ 0)
    · exact congrArg (·.selfTests.head?) (State.post_nvme ..)

/-! ### Idle time (R474) -/

theorem State.testIdle_none (hy : s.stTest st = none) : s.testIdle st = s := by
  rw [State.testIdle, hy]

theorem State.testIdle_starts (hy : s.stTest st = some y) (hrun : y.running = []) (hidle : s.stIdle st = true)
    (hst : s.stState st < stMaint) (hloops : y.loops ≠ []) : s.testIdle st = s.startChecks st := by
  have due : (!y.running.isEmpty || !s.stIdle st || decide (stMaint ≤ s.stState st) || y.loops.isEmpty) = false := by
    rw [hrun, hidle, decide_eq_false (Nat.not_le.mpr hst), List.isEmpty_eq_false_iff.mpr hloops]
    rfl
  rw [State.testIdle, hy]
  exact if_neg (Bool.eq_false_iff.mp due)

theorem State.testIdle_advances (hy : s.stTest st = some y)
    (hnot : y.running ≠ [] ∨ s.stIdle st = false ∨ stMaint ≤ s.stState st ∨ y.loops = []) : s.testIdle st = s.testAdvance := by
  rw [State.testIdle, hy]
  refine if_pos ?_
  rcases hnot with h | h | h | h
  · simp only [List.isEmpty_eq_false_iff.mpr h, Bool.not_false, Bool.true_or]
  · simp only [h, Bool.not_false, Bool.or_true, Bool.true_or]
  · simp only [h, decide_true, Bool.or_true, Bool.true_or]
  · simp only [h, List.isEmpty_nil, Bool.or_true]

/-! ### The end of a measurement (R153, R154) -/

theorem execMeasureLoopDone_none (hm : (s.eng e).meas = none) : execMeasureLoopDone e s = .next s := by
  rw [execMeasureLoopDone, hm]

theorem execMeasureLoopDone_runs (hm : (s.eng e).meas = some m) (ho : m.outcome (Config.freeValue s.fresh.1) = none) :
    execMeasureLoopDone e s = .next s := by
  rw [execMeasureLoopDone, hm]
  dsimp only
  rw [ho]

theorem execMeasureLoopDone_ends {out : MeasureEnd} (hm : (s.eng e).meas = some m) (ho : m.outcome (Config.freeValue s.fresh.1) = some out) :
    execMeasureLoopDone e s = .next ((if m.resp.any (fun p => p.2 == (0, 0)) then s.fresh.2 else s).measureEnds e m out) := by
  rw [execMeasureLoopDone, hm]
  dsimp only
  rw [ho]

/-- The result of a measurement that an object asked for goes to its object alone, its figures to the head's. -/
theorem State.measureEnds_done (hobj : m.object = true) : s.measureEnds e m (.done n pm gm pc h)
    = (((s.measureStop e).setRaw (engKey e 0x0E 0x0B) h).endResult (engIx e 0x0E)
        [(5, m.loop), (6, n), (7, ofSigned 16 pm), (8, ofSigned 16 gm), (9, pc), (0x0A, m.points)] 0).loopFigures e m.loop n pm := by
  simp only [State.measureEnds, hobj, Bool.not_true, Bool.false_and, Bool.false_eq_true, if_false, if_true]

theorem State.measureEnds_failed (hobj : m.object = true) : s.measureEnds e m (.failed b)
    = (s.measureStop e).endResult (engIx e 0x0E) [] (0x0F560000 + b) := by
  simp only [State.measureEnds, hobj, Bool.not_true, Bool.false_and, Bool.false_eq_true, if_false, if_true]

/-! ### The obligation -/

/-- Settles O32, command by command, from the cases above. -/
theorem selfTests : Obligations.SelfTests := by
  unfold Obligations.SelfTests
  intro s c cid nsid st e n b pc pm gm x k t y h m q all stations begin_ ended drawn
  refine ⟨?starts, ?unknown, ?running, ?abort, ?limit, ?noLimit, ?noIdle, ?idleStarts, ?idleAdvances, ?noMeasure, ?measureRuns,
    ?measureDone, ?measureFailed⟩
  case starts =>
    intro ha ht hns
    rw [(exec_deviceSelfTest_turn ha).1, (exec_deviceSelfTest_turn ha).2, State.selfTestCmd_starts ht hns,
      State.selfTestCmd_starts ht hns]
    exact ⟨rfl, rfl⟩
  case unknown =>
    intro ha ht hall hns
    rw [(exec_deviceSelfTest_turn ha).1, (exec_deviceSelfTest_turn ha).2, State.selfTestCmd_unknown ht hall hns,
      State.selfTestCmd_unknown ht hall hns]
    exact ⟨rfl, rfl⟩
  case running =>
    intro ha ht
    rw [(exec_deviceSelfTest_turn ha).1, (exec_deviceSelfTest_turn ha).2, State.selfTestCmd_running ht, State.selfTestCmd_running ht]
    exact ⟨rfl, rfl⟩
  case abort => exact fun ha => (exec_deviceSelfTestAbort ..).trans (State.adminCmd_turn _ ha)
  case limit =>
    intro ht
    refine ⟨s.endTest (if t.segment = 0 then 0 else 7), ?_, State.endTest_over ht _⟩
    rw [exec_selftestTimeLimit, execSelftestTimeLimit, ht]
  case noLimit =>
    intro ht
    rw [exec_selftestTimeLimit, execSelftestTimeLimit, ht]
  case noIdle => exact fun hy => congrArg _ (State.testIdle_none hy)
  case idleStarts => exact fun hy hrun hidle hst hloops => congrArg _ (State.testIdle_starts hy hrun hidle hst hloops)
  case idleAdvances => exact fun hy hnot => congrArg _ (State.testIdle_advances hy hnot)
  case noMeasure => exact execMeasureLoopDone_none
  case measureRuns => exact execMeasureLoopDone_runs
  case measureDone =>
    intro hm hobj hout
    rw [exec_measureLoopDone, execMeasureLoopDone_ends hm hout, State.measureEnds_done hobj]
  case measureFailed =>
    intro hm hobj hout
    rw [exec_measureLoopDone, execMeasureLoopDone_ends hm hout, State.measureEnds_failed hobj]

end Sys2Proof.Machine
end

section
/-! Samples, holds, feed-forward bins and captures of the servo loops (R128 to R152, R178, R208): each command in and out of its case,
then the obligation. -/

namespace Sys2Proof.Machine

variable {s : State} {e l h : Nat} {det : List Int} {u : Int} {ang : Nat}

/-! ### Samples (R128 to R134) -/

/-- A sample's error input, from what the sample brings. -/
abbrev State.sampleError (s : State) (e l : Nat) (det : List Int) : Int :=
  (if e < 16 then s.senseSample e l det else s).errorInput e l det

/-- One sample of a loop the part has: what it brings, what the head does with its error, and the loop's own arithmetic. -/
abbrev State.sampled (s : State) (e l : Nat) (det : List Int) (u : Int) (ang : Nat) : State :=
  let sensed := if e < 16 then s.senseSample e l det else s
  (if e < 16 then sensed.headSample e l (s.sampleError e l det) else sensed).loopSample e l (s.sampleError e l det) u ang

theorem execLoopSample_present (hp : s.loopPresent e l = true) : execLoopSample e l det u ang s
    = .next (if 16 ≤ e ∧ l = 0 then (s.sampled e l det u ang).emitBridge (e - 16) ang else s.sampled e l det u ang) := if_pos hp

theorem execLoopSample_absent (hp : s.loopPresent e l = false) : execLoopSample e l det u ang s = .next s :=
  if_neg (Bool.eq_false_iff.mp hp)

/-! ### The defect detector (R178) -/

/-- DEFECT is to be set: DEF_COUNT samples lie outside the band. -/
abbrev State.defectDue (s : State) (h : Nat) : Prop := (s.hd h).sense.defect = false ∧ s.reg (hdKey h 0x17 3) ≤ (s.hd h).sense.defOut

theorem State.not_defectDue_iff : ¬ s.defectDue h ↔ (s.hd h).sense.defect = true ∨ (s.hd h).sense.defOut < s.reg (hdKey h 0x17 3) := by
  rw [Decidable.not_and_iff_not_or_not, Bool.not_eq_false, Nat.not_le]

theorem execDefectSet_due (hd : s.defectDue h) {found : State}
    (hf : found = s.modHd h fun x => { x with sense := { x.sense with defect := true, defAt := s.sampleCount } }) : execDefectSet h s
      = .next ((((found.setCause h 1 hcDefect).setCause h 0 hcDefect).bump (hdKey h 0x17 6)).raiseTrap h trapDefect 3 hcDefect) := by
  subst hf
  exact if_neg fun hn => State.not_defectDue_iff.mpr hn hd

theorem execDefectSet_not_due (hd : ¬ s.defectDue h) : execDefectSet h s = .next s := if_pos (State.not_defectDue_iff.mp hd)

/-! ### The obligation -/

/-- Settles O40, command by command: each acts in its case and does nothing out of it. -/
theorem loopCommands : Obligations.LoopCommands := by
  unfold Obligations.LoopCommands
  intro s e l h n det u ang p g d sensed err led sampled sets found clears cleared spans ended residual expires overrun triggers fills full
  refine ⟨?sample, ?noSample, ?defectSet, ?noDefectSet, ?defectClear, ?noDefectClear, ?residualHold, ?noResidualHold, ?residualClear,
    ?noResidualClear, ?windowEnd, ?holdExpired, ?noHoldExpired, ?coefOverrun, ?noCoefOverrun, ?binUpdate, ?trigger, ?noTrigger,
    ?timeout, ?noTimeout, ?captureDone, ?noCaptureDone⟩
  case sample => exact execLoopSample_present
  case noSample => exact execLoopSample_absent
  case defectSet => exact fun hd => execDefectSet_due hd rfl
  case noDefectSet => exact execDefectSet_not_due
  case defectClear => exact fun hc => if_pos hc
  case noDefectClear => exact fun hc => if_neg hc
  case residualHold => exact fun hr => if_pos hr
  case noResidualHold => exact fun hr => if_neg hr
  case residualClear => exact fun hr => if_pos hr
  case noResidualClear => exact fun hr => if_neg (Nat.not_le.mpr hr)
  case windowEnd => rfl
  case holdExpired => exact fun hx => if_pos hx
  case noHoldExpired => exact fun hx => if_neg hx
  case coefOverrun => exact fun ho => if_pos ho
  case noCoefOverrun => exact fun ho => if_neg ho
  case binUpdate => rfl
  case trigger => exact fun ht => if_pos ht
  case noTrigger => exact fun ht => if_neg ht
  case timeout => exact fun hc => if_pos hc
  case noTimeout => exact fun hc => if_neg hc
  case captureDone => exact fun hf => if_pos hf
  case noCaptureDone => exact fun hf => if_neg hf

end Sys2Proof.Machine
end

section
/-! The order routines of a head (R161 to R171, R185): each routine as it begins, at its events, and where it does not run; then the
obligation. -/

namespace Sys2Proof.Machine

variable {s : State} {h k : Nat} {n : Int} {fin : State → State}

/-! ### A routine acts only while its order runs -/

/-- A routine opens with `if !runs then s else …`. -/
theorem order_runs {b : Bool} {u v : State} (hb : b = true) : (if (!b) = true then u else v) = v :=
  if_neg (by rw [hb]; decide)

theorem order_idle {b : Bool} {u v : State} (hb : b = false) : (if (!b) = true then u else v) = u :=
  if_pos (by rw [hb]; rfl)

/-! ### The focus search (R164, R165) -/

/-- FOC searches, and its ramp has ended. -/
abbrev State.rampOver (s : State) (h : Nat) : Prop := s.loopState h 0 = lsSearch ∧ (s.lp h 0).ramp = none

/-- The forward pass has counted its layers: N_found, and an axis not reversed. -/
def State.layersCounted (s : State) (h : Nat) : State :=
  (s.setReg (hdKey h 0x11 0x0B) (s.hd h).scan.counted).setRegBit (hdKey h 0x0F 2) 0 false

/-- The search turns back toward layer `k`, at a quarter of the speed. -/
def State.searchBack (s : State) (h k : Nat) : State :=
  (s.modLp h 0 fun p => { p with
    ramp := some (s.regI 32 (hdKey h 0x11 2), s.regI 32 (hdKey h 0x11 1), 0, 4 * 2400 * s.reg (hdKey h 0x11 3)) }).modHd h fun d =>
  { d with scan := { Scan.init with back := true, goal := k } }

theorem State.rampOver_iff : (s.loopState h 0 == lsSearch && (s.lp h 0).ramp.isNone) = true ↔ s.rampOver h := by
  rw [Bool.and_eq_true, beq_iff_eq, Option.isNone_iff_eq_none]

theorem State.focusSearch_reversed (hs : s.loopState h 0 = lsSearch) (hr : (s.hd h).scan.reversed = true) :
    s.focusSearch h k .reversed fin = s.polarityRefused h 0 := if_pos ⟨hs, hr⟩

theorem State.focusSearch_forward_few (he : s.rampOver h) (hb : (s.hd h).scan.back = false) (hk : (s.hd h).scan.counted ≤ k) :
    s.focusSearch h k .forward fin = (s.layersCounted h).focusFail h 0x0F570012 :=
  (if_pos ⟨rampOver_iff.mpr he, Bool.eq_false_iff.mp hb⟩).trans (if_pos hk)

theorem State.focusSearch_forward_back (he : s.rampOver h) (hb : (s.hd h).scan.back = false) (hk : k < (s.hd h).scan.counted) :
    s.focusSearch h k .forward fin = (s.layersCounted h).searchBack h k :=
  (if_pos ⟨rampOver_iff.mpr he, Bool.eq_false_iff.mp hb⟩).trans (if_neg (Nat.not_le.mpr hk))

theorem State.focusSearch_passEnd_last (he : s.rampOver h) (hb : (s.hd h).scan.back = true) (ht : s.reg (hdKey h 0x11 4) ≤ (s.hd h).tries) :
    s.focusSearch h k .passEnd fin = s.focusFail h 0x0F570010 :=
  (if_pos ⟨rampOver_iff.mpr he, hb⟩).trans (if_pos ht)

theorem State.focusSearch_passEnd_again (he : s.rampOver h) (hb : (s.hd h).scan.back = true) (ht : (s.hd h).tries < s.reg (hdKey h 0x11 4)) :
    s.focusSearch h k .passEnd fin = (s.modHd h fun d => { d with tries := d.tries + 1 }).searchRamp h :=
  (if_pos ⟨rampOver_iff.mpr he, hb⟩).trans (if_neg (Nat.not_le.mpr ht))

theorem State.focusSearch_closed (hs : s.loopState h 0 = lsSearch) (hc : (s.hd h).scan.cross = true) : s.focusSearch h k .closed fin
    = if s.noGain h 0 = true then s.focusUnclosed h else s.focusClose h (s.hd h).scan.slope := if_pos ⟨hs, hc⟩

theorem State.focusSearch_confirmed (hq : s.aged h 0 (s.reg (hdKey h 0x11 7)) = true ∧ (s.hd h).sense.confOk = true) :
    s.focusSearch h k .confirmed fin = fin ((s.setSubstate h hsFocused).setReg (hdKey h 0x13 1) k) := if_pos hq

theorem State.focusSearch_unconfirmed (hq : ¬ (s.aged h 0 (s.reg (hdKey h 0x11 7)) = true ∧ (s.hd h).sense.confOk = true)) :
    s.focusSearch h k .confirmed fin = s := if_neg hq

/-- What a search's samples show concerns a loop in SEARCH alone. -/
theorem State.focusSearch_not_searching (hs : s.loopState h 0 ≠ lsSearch) : s.focusSearch h k .reversed fin = s
    ∧ s.focusSearch h k .closed fin = s ∧ s.focusSearch h k .forward fin = s ∧ s.focusSearch h k .passEnd fin = s :=
  have running : ¬ (s.loopState h 0 == lsSearch && (s.lp h 0).ramp.isNone) = true := fun he => hs (rampOver_iff.mp he).1
  ⟨if_neg fun hc => hs hc.1, if_neg fun hc => hs hc.1, if_neg fun hc => running hc.1, if_neg fun hc => running hc.1⟩

/-! ### FOCUS_ON (R162) -/

theorem State.focusOn_idle (ev : FocusEvent) (hr : s.runs h 1 = false) : s.focusOn h ev = s := order_idle hr

theorem State.focusOn_begins (ev : FocusEvent) (hr : s.runs h 1 = true) (hx : (s.sq h).started = 0) : s.focusOn h ev =
    if (!s.focusOk h) = true then s.orderRejected h 1
    else if s.noGain h 4 = true then s.orderRejected h 4
    else ((((((s.modSq h fun q => { q with started := 1 }).modHd h fun d => { d with tries := 0 }).setRegBit (hdKey h 0x16 0x14) 0 false).laserOn
      h 0).sendSa h ((s.sq h).param % 16)).searchRamp h).setSubstate h hsSearch :=
  (order_runs hr).trans (if_pos hx)

theorem State.focusOn_searches (ev : FocusEvent) (hr : s.runs h 1 = true) (hx : (s.sq h).started ≠ 0) : s.focusOn h ev =
    s.focusSearch h ((s.sq h).param % 16) ev fun t => t.focusDone h ((s.sq h).param % 16) :=
  (order_runs hr).trans (if_neg hx)

/-! ### TRACK_ON (R166, R167) -/

/-- A crossing at which TRK may close. -/
abbrev State.trkCrossing (s : State) (h : Nat) : Prop := s.loopState h 1 = lsOpen ∧ s.validCrossing h = true

theorem State.trackOn_idle (ev : TrackEvent) (hr : s.runs h 2 = false) : s.trackOn h ev = s := order_idle hr

theorem State.trackOn_begins (ev : TrackEvent) (hr : s.runs h 2 = true) (hx : (s.sq h).started = 0) : s.trackOn h ev =
    if s.substate h = hsFocused then
      ((s.loopOpen h 1).modHd h fun d => { d with sense := { d.sense with tePeak := 0, chk := 0 } }).modSq h fun q => { q with started := 1 }
    else s.orderRejected h 1 :=
  (order_runs hr).trans (if_pos hx)

theorem State.trackOn_measured (hr : s.runs h 2 = true) (hx : (s.sq h).started ≠ 0) (hc : (s.hd h).sense.chk = 0)
    (hl : s.loopState h 1 = lsOpen) (ht : s.reg (hdKey h 0x11 0x0A) * 65536 ≤ (s.lp h 1).turn) : s.trackOn h .measured
      = ((s.modHd h fun x => { x with sense := { x.sense with chk := 1, chkN := 0, chkTe := (s.lp h 1).e1, chkDrive := s.drive h 1 } }).setReg
          (hdKey h 0x10 6) (s.hd h).sense.tePeak.toNat).setRegI 32 (loopKey h 1 3) (sat24 (s.drive h 1 + s.reg (hdKey h 0x12 6))) :=
  (order_runs hr).trans ((if_neg hx).trans (if_pos ⟨hc, hl, ht⟩))

theorem State.trackOn_reversed (hr : s.runs h 2 = true) (hx : (s.sq h).started ≠ 0) (hc : (s.hd h).sense.chk = 3) :
    s.trackOn h .reversed = s.polarityRefused h 1 :=
  (order_runs hr).trans ((if_neg hx).trans (if_pos hc))

/-- TRACK_ON ends with TRK closed and the other beams lit. -/
def State.trackClosed (s : State) (h : Nat) : State :=
  (((((s.loopClose h 1).setRegBit (hdKey h 0x0F 2) 1 false).tiltOpen h).lightBeams h).enterTracking h).orderDone h 0

theorem State.trackOn_closed (hr : s.runs h 2 = true) (hx : (s.sq h).started ≠ 0) (hc : (s.hd h).sense.chk = 2) (ht : s.trkCrossing h) :
    s.trackOn h .closed = if s.noGain h 1 = true then s.orderRejected h 4
      else if ((s.trackClosed h).hd h).recovery = 1 then (s.trackClosed h).offerOrder h ⟨5, 0, 0, .trapret⟩ else s.trackClosed h :=
  (order_runs hr).trans ((if_neg hx).trans (if_pos ⟨hc, ht⟩))

theorem State.trackOn_no_crossing (hr : s.runs h 2 = true) (hx : (s.sq h).started ≠ 0) (ht : ¬ s.trkCrossing h) : s.trackOn h .closed = s :=
  (order_runs hr).trans ((if_neg hx).trans (if_neg fun hc => ht hc.2))

/-! ### FOLLOW (R168, R309) -/

/-- The address read ends FOLLOW in a read-back after s0 has passed. -/
def State.fallsBehind (s : State) (h : Nat) (r : PilotRead) : Prop :=
  s.runs h 5 = true ∧ (s.follow h (.read r)).runs h 5 = false ∧ (s.follow h (.read r)).substate h = hsFollowing
    ∧ (s.follow h (.read r)).reg (wrKey h 1) = 3 ∧ (s.follow h (.read r)).reg (wrKey h 3) % 2 ^ 26 < r.addr % 2 ^ 26

theorem execFollow_idle (ev : FollowEvent) (hr : s.runs h 5 = false) : execFollow h ev s = .next s := by
  have stays : s.follow h ev = s := order_idle hr
  simp only [execFollow, stays, hr, Bool.false_and, Bool.false_eq_true, if_false]

theorem execFollow_behind {r : PilotRead} (hb : s.fallsBehind h r) :
    execFollow h (.read r) s = .next (((s.follow h (.read r)).bump (wrKey h 0x13)).jumpBack h 8) := by
  obtain ⟨hruns, hover, hsub, hphase, hpast⟩ := hb
  exact congrArg _ (if_pos (by simpa [hruns, hover, hsub, hphase] using hpast))

theorem execFollow_in_time {r : PilotRead} (hb : ¬ s.fallsBehind h r) : execFollow h (.read r) s = .next (s.follow h (.read r)) := by
  refine congrArg _ (if_neg fun hc => hb ?_)
  simpa [State.fallsBehind, and_assoc, and_left_comm] using hc

/-- Only an address can come after s0. -/
theorem execFollow_closed : execFollow h .closed s = .next (s.follow h .closed) := congrArg _ (if_neg (by simp))

theorem execFollow_settled : execFollow h .settled s = .next (s.follow h .settled) := congrArg _ (if_neg (by simp))

/-- Away from a jump back that falls behind, the command is the routine. -/
theorem execFollow_routine {ev : FollowEvent} (hb : ∀ r, ev = .read r → ¬ s.fallsBehind h r) : execFollow h ev s = .next (s.follow h ev) := by
  cases ev with
  | read r => exact execFollow_in_time (hb r rfl)
  | closed => exact execFollow_closed
  | settled => exact execFollow_settled

/-- FOLLOW begins anew: no correction made and no TRACK_SIGN read yet. -/
abbrev State.followFresh (s : State) (h : Nat) : State := s.modHd h fun d => { d with corrected := false, signRead := false }

/-- Outside a tracking recovery FOLLOW begins in TRACKING or FOLLOWING. -/
theorem State.follow_begins (hr : s.runs h 5 = true) (hx : (s.sq h).started = 0) (hd : (s.hd h).recovery ≠ 2) : s.follow h .closed =
    if s.substate h = hsTracking ∨ s.substate h = hsFollowing then (s.followFresh h).modSq h fun q => { q with started := 1 }
    else (s.followFresh h).orderRejected h 1 := by
  have fresh : ((s.followFresh h).hd h).recovery ≠ 2 := by
    rw [State.followFresh, State.hd_modHd, if_pos rfl]
    exact hd
  exact (order_runs hr).trans ((if_pos hx).trans (if_neg fun hc => fresh hc.1))

theorem State.follow_reads {r : PilotRead} (hr : s.runs h 5 = true) (hx : (s.sq h).started = 1) : s.follow h (.read r) = s.followRead h r :=
  (order_runs hr).trans ((if_neg (by rw [hx]; decide)).trans (if_pos hx))

theorem State.follow_closes (hr : s.runs h 5 = true) (hx : (s.sq h).started = 2) (hf : s.loopState h 0 = lsClosed) (ht : s.trkCrossing h)
    (hg : s.noGain h 1 = false) : s.follow h .closed = ((s.loopClose h 1).enterTracking h).modSq h fun q => { q with started := 1 } :=
  (order_runs hr).trans ((if_neg (by rw [hx]; decide)).trans ((if_pos ⟨hx, hf, ht⟩).trans (if_neg (Bool.eq_false_iff.mp hg))))

theorem State.follow_settles (hr : s.runs h 5 = true) (hx : (s.sq h).started = 4) (hs : s.aged h 1 (s.reg (hdKey h 0x12 9)) = true) :
    s.follow h .settled = s.modSq h fun q => { q with started := 1 } :=
  (order_runs hr).trans ((if_neg (by rw [hx]; decide)).trans (if_pos ⟨hx, hs⟩))

/-! ### LAYER_JUMP (R169) -/

/-- A layer jump leaves its layer: TRK and the tilt loops open, the word of layer `k` is sent. -/
def State.layerLeft (s : State) (h k : Nat) : State :=
  let left := (s.modSq h fun q => { q with started := 1 }).modHd h fun d => { d with atLayer := s.reg (hdKey h 0x13 1), tries := 0 }
  ((left.openAtDrive h (1 :: left.tiltLoops h)).sendSa h k).enterTracking h

theorem State.layerJump_idle (ev : LayerEvent) (hr : s.runs h 3 = false) : s.layerJump h ev = s := order_idle hr

theorem State.layerJump_begins (ev : LayerEvent) (hr : s.runs h 3 = true) (hx : (s.sq h).started = 0) : s.layerJump h ev =
    if s.substate h = hsFocused ∨ s.substate h = hsTracking ∨ s.substate h = hsFollowing then
      let u := s.layerLeft h ((s.sq h).param % 16)
      if (u.hd h).atLayer = (s.sq h).param % 16 then u.setSubstate h hsFocused else u.layerKick h ((s.sq h).param % 16)
    else s.orderRejected h 1 :=
  (order_runs hr).trans (if_pos hx)

theorem State.layerJump_trkCloses (hr : s.runs h 3 = true) (hx : (s.sq h).started = 1) (hsub : s.substate h = hsFocused)
    (hsa : s.reg (hdKey h 0x15 0x0C) = 0) (ht : s.trkCrossing h) (hg : s.noGain h 1 = false) : s.layerJump h .trkClosed
      = ((s.loopClose h 1).enterTracking h).modSq h fun q => { q with started := 2 } :=
  (order_runs hr).trans ((if_neg (by rw [hx]; decide)).trans ((if_pos ⟨hx, hsub, hsa, ht⟩).trans (if_neg (Bool.eq_false_iff.mp hg))))

theorem State.layerJump_steps (hr : s.runs h 3 = true) (hx : (s.sq h).started = 1) (hsub : s.substate h ≠ hsFocused) :
    s.layerJump h .stepClosed = s.layerSteps h ((s.sq h).param % 16) .stepClosed fun t => t.setSubstate h hsFocused :=
  (order_runs hr).trans ((if_neg (by rw [hx]; decide)).trans (if_pos ⟨hx, hsub⟩))

theorem State.layerJump_settles (hr : s.runs h 3 = true) (hx : (s.sq h).started = 2) (hs : s.aged h 1 (s.reg (hdKey h 0x12 9)) = true) :
    s.layerJump h .settled = (s.closeTilt h).orderDone h ((s.sq h).param % 16) :=
  (order_runs hr).trans ((if_neg (by rw [hx]; decide)).trans (if_pos ⟨hx, hs⟩))

/-! ### A late layer step (R170) -/

/-- The search for the target layer takes the place of a layer step. -/
def State.searchInstead (s : State) (h m : Nat) : State :=
  (((s.modHd h fun d => { d with kickF := none, tries := 0 }).modSq h fun q => { q with started := m }).searchRamp h).setSubstate h hsSearch

theorem State.layerTimeout_kicked (hk : (s.hd h).kickF ≠ none) : s.layerTimeout h =
    if s.runs h 3 = true ∧ (s.sq h).started = 1 then s.searchInstead h 3
    else if s.runs h 7 = true ∧ (s.sq h).started = 2 then s.searchInstead h 5
    else s :=
  if_neg fun hn => hk (Option.isNone_iff_eq_none.mp hn)

theorem State.layerTimeout_none (hn : (s.hd h).kickF = none ∨ s.runs h 3 = false ∧ s.runs h 7 = false) : s.layerTimeout h = s := by
  by_cases hk : (s.hd h).kickF = none
  · exact if_pos (Option.isNone_iff_eq_none.mpr hk)
  · obtain ⟨jump, seek⟩ := hn.resolve_left hk
    rw [State.layerTimeout_kicked hk, if_neg fun hc => Bool.false_ne_true (jump.symm.trans hc.1),
      if_neg fun hc => Bool.false_ne_true (seek.symm.trans hc.1)]

/-! ### TRACK_JUMP (R171) -/

/-- The track a jump by `n` is to reach. -/
abbrev State.jumpAimed (s : State) (h : Nat) (n : Int) : State :=
  s.modHd h fun d => { d with jumpTarget := ((s.reg (hdKey h 0x13 2) : Int) + n).toNat }

theorem State.trackJump_idle (ev : JumpEvent) (hr : s.runs h 4 = false) : s.trackJump h ev = s := order_idle hr

theorem State.trackJump_begins (ev : JumpEvent) (hr : s.runs h 4 = true) (hx : (s.sq h).started = 0) (hn : toSigned 16 (s.sq h).param = n) :
    s.trackJump h ev =
      if (s.substate h = hsTracking ∨ s.substate h = hsFollowing) ∧ n ≠ 0 ∧ n.natAbs ≤ s.reg (hdKey h 0x12 8) then
        (((s.jumpAimed h n).trackKick h n).enterTracking h).modSq h fun q => { q with started := 1 }
      else s.orderRejected h 1 := by
  subst hn
  exact (order_runs hr).trans (if_pos hx)

theorem State.trackJump_closes (hr : s.runs h 4 = true) (hx : (s.sq h).started = 1) (hc : s.jumpCrossing h = true) (hg : s.noGain h 1 = false) :
    s.trackJump h .closed = (s.jumpClose h (toSigned 16 (s.sq h).param)).modSq h fun q => { q with started := 2 } :=
  (order_runs hr).trans ((if_neg (by rw [hx]; decide)).trans ((if_pos ⟨hx, hc⟩).trans (if_neg (Bool.eq_false_iff.mp hg))))

theorem State.trackJump_settles (hr : s.runs h 4 = true) (hx : (s.sq h).started = 2) (hs : s.aged h 1 (s.reg (hdKey h 0x12 9)) = true) :
    s.trackJump h .settled = (s.setSubstate h hsTracking).orderDone h 0 :=
  (order_runs hr).trans ((if_neg (by rw [hx]; decide)).trans (if_pos ⟨hx, hs⟩))

/-! ### PARK (R163) -/

/-- With no trap to take and no order to dispatch PARK drops the head and ends. -/
theorem State.parkOrder_parks (hr : s.runs h 6 = true) (ht : (s.sq h).traps = []) (hd : s.dispatch h = s) :
    s.parkOrder h = (s.headDrop h).orderDone h 0 := by
  simp only [State.parkOrder, State.parkHead, ht, List.any_nil, Bool.and_false, Bool.false_eq_true, if_false, hd, hr, if_true]

/-! ### CALIBRATE_LOOP (R185) -/

theorem State.calibrate_idle (ev : CalEvent) (hr : s.runs h 0x0A = false) : s.calibrate h ev = s := order_idle hr

theorem State.calibrate_begins (ev : CalEvent) (hr : s.runs h 0x0A = true) (hx : (s.sq h).started = 0) (hk : (s.sq h).param % 16 = k) :
    s.calibrate h ev =
      if k ≤ 3 ∧ (s.substate h = hsTracking ∨ s.substate h = hsFollowing) then
        let busy := s.beginResult (hdIx h 0x1E)
        if (busy.eng h).inj ≠ .free then (busy.endResult (hdIx h 0x1E) [] 0x0F570004).orderFailed h 0x0F570004
        else if busy.loopState h k ≠ lsClosed then (busy.endResult (hdIx h 0x1E) [] 0x0F570005).orderFailed h 0x0F570005
        else (busy.modEng h fun g => { g with inj := .cal k, injN := 0, calRun := some ⟨k, 0, [0, 0], [0, 0], [], false⟩ }).modSq h fun q =>
          { q with started := 1 }
      else s.orderRejected h 1 := by
  subst hk
  exact (order_runs hr).trans (if_pos hx)

section CalibrationEnd

variable {c : CalRun} (hr : s.runs h 0x0A = true) (hx : (s.sq h).started ≠ 0) (hc : (s.eng h).calRun = some c)
include hr hx hc

theorem State.calibrate_ended_held (hh : c.held = true) : s.calibrate h .ended = s.calEnd h 0x0F570003 [] := by
  rw [State.calibrate, order_runs hr, if_neg hx, hc]
  exact if_pos hh

theorem State.calibrate_ended_early (hh : c.held = false) (hn : c.n < s.reg (hdKey h 0x19 8)) : s.calibrate h .ended = s := by
  rw [State.calibrate, order_runs hr, if_neg hx, hc]
  exact (if_neg (Bool.eq_false_iff.mp hh)).trans (if_pos hn)

theorem State.calibrate_ended_residual {fit : List Int × Nat} (hh : c.held = false) (hn : s.reg (hdKey h 0x19 8) ≤ c.n)
    (hf : fitModel c.sums = some fit) (hres : s.reg (hdKey h 0x19 9) < fit.2) : s.calibrate h .ended = s.calEnd h 0x0F570001 [] := by
  have fitted : s.calFit c.sums = (fit, s) := by rw [State.calFit, hf]
  rw [State.calibrate, order_runs hr, if_neg hx, hc]
  refine (if_neg (Bool.eq_false_iff.mp hh)).trans ((if_neg (Nat.not_lt.mpr hn)).trans ?_)
  rw [fitted]
  exact if_pos hres

end CalibrationEnd

/-! ### Late words (R161) -/

theorem execSaSettleTimeout_settling (hs : s.reg (hdKey h 0x15 0x0C) = 1) {late : State} (hl : late = s.setReg (hdKey h 0x15 0x0C) 2) :
    execSaSettleTimeout h s = .next (if late.runs h 1 = true then late.focusFail h 0x0F570014
      else if late.runs h 3 = true then late.headFail h 0x0F570014 else late) := by
  subst hl
  rw [execSaSettleTimeout, if_pos hs, apply_ite Host.Outcome.next, apply_ite Host.Outcome.next]

/-! ### The obligation -/

/-- Settles O38, routine by routine, from the cases above. -/
theorem headOrders : Obligations.HeadOrders := by
  unfold Obligations.HeadOrders
  intro s h fe te le je ce ge r c fit x sub d k n begun searching ended counted back quiet crossing on jumps tracks left open_ settled target
    fresh busy search
  refine ⟨?focusBegins, ?focusSearches, ?focusIdle, ?trackBegins, ?trackRejected, ?trackEvents, ?trackIdle,
    ?followRejected, ?followBegins, ?followReads, ?followCloses, ?followSettles, ?followIdle,
    ?layerBegins, ?layerRejected, ?layerCloses, ?layerSteps, ?layerSettles, ?layerIdle,
    ?jumpBegins, ?jumpRejected, ?jumpCloses, ?jumpSettles, ?jumpIdle, ?park,
    ?calBegins, ?calEnds, ?calIdle, ?saSettled, ?saLate, ?saOther, ?address, ?noAddress, ?capture, ?noCapture,
    ?layerLate, ?seekLate, ?noLayerLate⟩
  case focusBegins =>
    intro hr hx
    rw [exec_focusOn, execFocusOn, State.focusOn_begins fe hr hx]
    refine ⟨fun hno => ?_, fun hok hno => ?_, fun hok hgain => ?_⟩
    · rw [order_idle hno]
    · rw [order_runs hok, if_pos hno]
    · rw [order_runs hok, if_neg (Bool.eq_false_iff.mp hgain)]
  case focusSearches =>
    intro hr hx
    have search_ : ∀ ev, exec (.focusOn h ev) s = .next (s.focusSearch h k ev fun t => t.focusDone h k) :=
      fun ev => congrArg _ (State.focusOn_searches ev hr hx)
    simp only [search_]
    refine ⟨fun hs hrev => congrArg _ (State.focusSearch_reversed hs hrev), fun he hb hk => congrArg _ (State.focusSearch_forward_few he hb hk),
      fun he hb hk => congrArg _ (State.focusSearch_forward_back he hb hk),
      fun he hb ht => congrArg _ (State.focusSearch_passEnd_last he hb ht),
      fun he hb ht => congrArg _ (State.focusSearch_passEnd_again he hb ht),
      fun hs hc => congrArg _ (State.focusSearch_closed hs hc), fun hq => congrArg _ (State.focusSearch_confirmed hq),
      fun hs => ?_, fun hq => congrArg _ (State.focusSearch_unconfirmed hq)⟩
    obtain ⟨reversed, closed, forward, passEnd⟩ := State.focusSearch_not_searching (k := k) (fin := fun t => t.focusDone h k) hs
    rw [reversed, closed, forward, passEnd]
    exact ⟨rfl, rfl, rfl, rfl⟩
  case focusIdle => exact fun hr => congrArg _ (State.focusOn_idle fe hr)
  case trackBegins => exact fun hr hx hs => congrArg _ ((State.trackOn_begins te hr hx).trans (if_pos hs))
  case trackRejected => exact fun hr hx hs => congrArg _ ((State.trackOn_begins te hr hx).trans (if_neg hs))
  case trackEvents =>
    intro hr hx
    exact ⟨fun hc hl ht => congrArg _ (State.trackOn_measured hr hx hc hl ht), fun hc => congrArg _ (State.trackOn_reversed hr hx hc),
      fun hc ht hg => congrArg _ ((State.trackOn_closed hr hx hc ht).trans (if_pos hg)),
      fun hc ht hg => congrArg _ ((State.trackOn_closed hr hx hc ht).trans (if_neg (Bool.eq_false_iff.mp hg))),
      fun ht => congrArg _ (State.trackOn_no_crossing hr hx ht)⟩
  case trackIdle => exact fun hr => congrArg _ (State.trackOn_idle te hr)
  case followRejected =>
    intro hr hx hd ht
    rw [exec_follow, execFollow_closed, State.follow_begins hr hx hd, if_neg ht]
  case followBegins =>
    intro hr hx hd ht
    rw [exec_follow, execFollow_closed, State.follow_begins hr hx hd, if_pos ht]
  case followReads =>
    intro hr hx u
    have read : s.follow h (.read r) = u := State.follow_reads hr hx
    have behind : s.fallsBehind h r ↔ u.substate h = hsFollowing ∧ u.runs h 5 = false ∧ u.reg (wrKey h 1) = 3
        ∧ u.reg (wrKey h 3) % 2 ^ 26 < r.addr % 2 ^ 26 := by
      rw [State.fallsBehind, read]
      exact ⟨fun ⟨_, hover, hsub, hlate⟩ => ⟨hsub, hover, hlate⟩, fun ⟨hsub, hover, hlate⟩ => ⟨hr, hover, hsub, hlate⟩⟩
    rw [exec_follow]
    split
    · next hb => rw [execFollow_behind (behind.mpr hb), read]
    · next hb => rw [execFollow_in_time (mt behind.mp hb), read]
  case followCloses =>
    intro hr hx hf ht hg
    rw [exec_follow, execFollow_closed, State.follow_closes hr hx hf ht hg]
  case followSettles =>
    intro hr hx hs
    rw [exec_follow, execFollow_settled, State.follow_settles hr hx hs]
  case followIdle => exact execFollow_idle ge
  case layerBegins => exact fun hr hx hj => congrArg _ ((State.layerJump_begins le hr hx).trans (if_pos hj))
  case layerRejected => exact fun hr hx hj => congrArg _ ((State.layerJump_begins le hr hx).trans (if_neg hj))
  case layerCloses => exact fun hr hx hs hsa ht hg => congrArg _ (State.layerJump_trkCloses hr hx hs hsa ht hg)
  case layerSteps => exact fun hr hx hs => congrArg _ (State.layerJump_steps hr hx hs)
  case layerSettles => exact fun hr hx hs => congrArg _ (State.layerJump_settles hr hx hs)
  case layerIdle => exact fun hr => congrArg _ (State.layerJump_idle le hr)
  case jumpBegins => exact fun hr hx ht hn hm => congrArg _ ((State.trackJump_begins je hr hx rfl).trans (if_pos ⟨ht, hn, hm⟩))
  case jumpRejected =>
    intro hr hx hno
    refine congrArg _ ((State.trackJump_begins je hr hx rfl).trans (if_neg ?_))
    rintro ⟨ht, hn, hm⟩
    rcases hno with hno | hno | hno
    · exact hno ht
    · exact hn hno
    · exact Nat.not_lt.mpr hm hno
  case jumpCloses => exact fun hr hx hc hg => congrArg _ (State.trackJump_closes hr hx hc hg)
  case jumpSettles => exact fun hr hx hs => congrArg _ (State.trackJump_settles hr hx hs)
  case jumpIdle => exact fun hr => congrArg _ (State.trackJump_idle je hr)
  case park => exact fun hr _ ht hd => congrArg _ (State.parkOrder_parks hr ht hd)
  case calBegins =>
    intro hr hx
    have begins := State.calibrate_begins ce hr hx (k := k) rfl
    refine ⟨fun hno => congrArg _ (begins.trans (if_neg ?_)), fun hk ht hi => congrArg _ (begins.trans ((if_pos ⟨hk, ht⟩).trans (if_pos hi))),
      fun hk ht hi hl => congrArg _ (begins.trans ((if_pos ⟨hk, ht⟩).trans ((if_neg (not_not_intro hi)).trans (if_pos hl)))),
      fun hk ht hi hl => congrArg _ (begins.trans ((if_pos ⟨hk, ht⟩).trans ((if_neg (not_not_intro hi)).trans (if_neg (not_not_intro hl)))))⟩
    rintro ⟨hk, ht⟩
    exact hno.elim (Nat.not_lt.mpr hk) (fun hn => hn ht)
  case calEnds =>
    intro hr hx hc
    exact ⟨fun hh => congrArg _ (State.calibrate_ended_held hr hx hc hh), fun hh hn => congrArg _ (State.calibrate_ended_early hr hx hc hh hn),
      fun hh hn hf hres => congrArg _ (State.calibrate_ended_residual hr hx hc hh hn hf hres)⟩
  case calIdle => exact fun hr => congrArg _ (State.calibrate_idle ce hr)
  case saSettled => rfl
  case saLate => exact fun hs => execSaSettleTimeout_settling hs rfl
  case saOther => exact fun hs => if_neg hs
  case address => exact fun hr => if_pos hr
  case noAddress => exact fun hr => if_neg (Bool.eq_false_iff.mp hr)
  case capture => exact fun hc => if_pos hc
  case noCapture => exact fun hc => if_neg hc
  case layerLate => exact fun hk hr hx => congrArg _ ((State.layerTimeout_kicked hk).trans (if_pos ⟨hr, hx⟩))
  case seekLate =>
    intro hk hno hr hx
    have notJump : ¬ (s.runs h 3 = true ∧ (s.sq h).started = 1) := fun hc => Bool.false_ne_true (hno.symm.trans hc.1)
    exact congrArg _ ((State.layerTimeout_kicked hk).trans ((if_neg notJump).trans (if_pos ⟨hr, hx⟩)))
  case noLayerLate => exact fun hn => congrArg _ (State.layerTimeout_none hn)

end Sys2Proof.Machine
end

section
/-! Verify results, power calibration and its messages (R305 to R319): each command by its cases, then the obligation. -/

namespace Sys2Proof.Machine

variable {s : State} {h b nsid cl : Nat} {bits : List Nat} {beta : Int}

/-! ### POWER_CAL (R307, R312) -/

/-- The pilot stands in the outer test area. -/
abbrev State.calOuter (s : State) (h : Nat) : Prop := 2000 ≤ s.reg (hdKey h 0x13 4) % 2 ^ 26 / 18

/-- The test area of beam `b` at the pilot. -/
abbrev State.calKey (s : State) (h b : Nat) : Nat := testKey (s.reg (hdKey h 0x13 1)) ((s.reg (hdKey h 0x13 3) + b) % 8) (s.calOuter h)

/-- The test cluster beam `b` writes: the first free one of its test area. -/
abbrev State.calPlace (s : State) (h b : Nat) : Nat :=
  placeName (s.reg (hdKey h 0x13 1)) ((s.reg (hdKey h 0x13 3) + b) % 8)
    ((if s.calOuter h then outerEnd (s.daf2 (h / 2)) else 0) + usedOf (s.side (headNs h)).test (s.calKey h b))

/-- The physical cluster a calibration of these beams reports. -/
def State.calAt (s : State) (h : Nat) (bs : List Nat) : Nat := match bs with | b :: _ => placeCluster (s.calPlace h b) | [] => 0

/-- POWER_CAL may begin: FOLLOWING, on Blu-ray Disc or in a test area, with the injector free. -/
abbrev State.powerCalMay (s : State) (h : Nat) : Prop :=
  s.substate h = hsFollowing ∧ (s.bdIn (h / 2) = true ∨ inTest (s.daf2 (h / 2)) (s.reg (hdKey h 0x13 4)) = true) ∧ (s.eng h).inj = .free

/-- What an object asked for ends REJECTED with its order. -/
def State.calRefused (s : State) (h : Nat) : State :=
  State.orderRejected (if (s.hd h).calObject = true then
    (s.endResult (stIx (h / 2) 0xD9) [(5, h % 2), (6, s.reg (hdKey h 0x13 1))] codeRejected).modHd h fun d => { d with calObject := false }
    else s) h 1

/-- The levels are sent and the test clusters laid out; the calibration waits for the acknowledgement. -/
def State.calSent (s : State) (h : Nat) (bs : List Nat) : State :=
  let levels := ((s.beginResult (stIx (h / 2) 0xD9)).sendLevels h (s.reg (hdKey h 0x13 1)) (bs.foldl setBit 0)).sendPkl h 4
    (leNat ((List.range 18).flatMap fun k => leBytes 2 (800 + 25 * k)))
  (((levels.forEach bs fun w b => w.layTest h b (s.calPlace h b)).modHd h fun d =>
    { d with pklWait := true, calObject := true, bandNo := d.bandNo - 1 }).setReg (wrKey h 1) 5).modSq h fun q => { q with started := 1 }

/-- The beams calibrated from what was read, each with its test cluster counted as used, and whether one has a result. -/
def State.calOut (s : State) (h : Nat) (mine : List BeamCal) : State × Bool :=
  let used := (s.setReg (stKey (h / 2) 0xD9 8) 0).forEach mine fun w y => w.modSide (headNs h) fun d =>
    { d with test := insertKey (s.calKey h y.b) (usedOf d.test (s.calKey h y.b) + 1) d.test }
  mine.foldl (fun (r : State × Bool) y =>
    ((r.1.calBeam h (s.reg (hdKey h 0x13 1)) y).1, r.2 || (r.1.calBeam h (s.reg (hdKey h 0x13 1)) y).2)) (used, false)

theorem State.powerCal_idle (ev : PowerCalEvent) (hr : s.runs h 0x0E = false) : s.powerCal h ev = s := order_idle hr

theorem State.powerCal_begins (ev : PowerCalEvent) (hr : s.runs h 0x0E = true) (hx : (s.sq h).started = 0) : s.powerCal h ev =
    if s.powerCalMay h then
      if (s.calBeams h (s.sq h).param).isEmpty = true then
        (s.beginResult (stIx (h / 2) 0xD9)).calResult h 0x0F5C0003 ((s.beginResult (stIx (h / 2) 0xD9)).reg (stKey (h / 2) 0xD9 7)) 0
      else s.calSent h (s.calBeams h (s.sq h).param)
    else s.calRefused h := by
  rw [State.powerCal, order_runs hr]
  dsimp only
  rw [if_pos hx]
  simp only [State.calSent, State.calPlace, State.calKey, State.calOuter, decide_eq_true_eq]
  rfl

theorem State.powerCal_begun (hr : s.runs h 0x0E = true) (hx : (s.sq h).started ≠ 0) : s.powerCal h .begin = s :=
  (order_runs hr).trans (if_neg hx)

theorem State.powerCal_read (read : List BeamCal) (hr : s.runs h 0x0E = true) (hx : (s.sq h).started ≠ 0) {bs : List Nat}
    (hbs : bs = s.calBeams h (s.sq h).param) {out : State × Bool} (hout : out = s.calOut h (read.filter fun y => bs.contains y.b)) :
    s.powerCal h (.read read) =
      if out.2 = true then (out.1.setRegs [(lvKey h 0x59, out.1.reg (wrKey h 0x12)), (lvKey h 0x5A, out.1.calendar)]).calResult h 0
        (s.calAt h bs) (out.1.reg (stKey (h / 2) 0xD9 8))
      else out.1.calResult h 0x0F5C0004 (s.calAt h bs) 0 := by
  subst hbs hout
  rw [State.powerCal, order_runs hr]
  dsimp only
  rw [if_neg hx]
  simp only [State.calOut, State.calAt, State.calPlace, State.calKey, State.calOuter, decide_eq_true_eq]
  rfl

/-! ### Messages not acknowledged (R305) -/

theorem execPklAckTimeout_waits (hw : (s.hd h).pklWait = true) : execPklAckTimeout h s =
    .next (if s.runs h 0x0C = true then s.dropBand h 0x0F5C0002
      else if s.runs h 0x0E = true then s.calResult h 0x0F5C0002 (s.reg (stKey (h / 2) 0xD9 7)) 0 else s) :=
  congrArg _ (if_pos hw)

/-! ### VERIFY_RESULT (R310, R311, R318, R319) -/

/-- The sectors read back of a cluster. -/
abbrev State.readBack (s : State) (nsid cl : Nat) : List Sector := s.pool.filter fun y => y.nsid == nsid && y.cl == cl && y.verify

/-- A sector of the cluster has not ended its first pass. -/
abbrev State.firstPassRuns (s : State) (nsid cl : Nat) : Bool :=
  (s.readBack nsid cl).any fun y => y.stage == .firstWait || y.stage == .first

/-- The counts that are judged: the host's on Blu-ray Disc, else those of the sectors. -/
abbrev State.verifyCounts (s : State) (h nsid cl : Nat) (bits : List Nat) : List Nat :=
  if s.bdIn (h / 2) = true then bits else (s.readBack nsid cl).map (·.errs)

/-- The cluster passes: its 18 sectors decode, each within the errors allowed. -/
abbrev State.verifyGood (s : State) (h nsid cl : Nat) (bits : List Nat) : Prop :=
  (s.bdIn (h / 2) = true ∨ ∀ k, k < 18 → (s.readBack nsid cl).any (fun y => y.idx == k && y.stage == .good) = true)
    ∧ (s.verifyCounts h nsid cl bits).all (· ≤ s.reg (stKey (h / 2) 0xD0 4)) = true

/-- What a judged cluster leaves behind: its sectors, and its place among those awaited; the worst count is kept. -/
def State.verifyHeard (s : State) (h nsid cl : Nat) (counts : List Nat) : State :=
  ({ s with pool := s.pool.filter fun y => !(y.nsid == nsid && y.cl == cl && y.verify) } : State).modHd h fun d =>
    { d with toVerify := d.toVerify.filter (· != clusterId nsid cl), worst := max d.worst (counts.foldl max 0) }

/-- A cluster passes: counted, its β taken, recorded and verified. -/
def State.verifyPasses (s : State) (h b nsid cl : Nat) (beta : Int) : State :=
  (((((s.bump (wrKey h 8)).modHd h fun d => { d with betas := d.betas.modify b fun y => (y.1 + beta, y.2 + 1) }).recorded h
    (clusterId nsid cl)).verified nsid cl).settle)

/-- A cluster fails: counted and re-placed; unless its line is to be discarded it stays unverified. -/
def State.verifyFails (s : State) (h nsid cl : Nat) : State :=
  let failed := (s.bump (wrKey h 9)).replaceCluster h (clusterId nsid cl)
  if (s.line nsid cl).all (·.discard) = true then failed else (failed.unverified nsid cl).settle

/-- With no cluster awaited any more the power adapts, and a read-back ends. -/
def State.verifyEnds (s : State) (h : Nat) : State :=
  if (s.hd h).toVerify = [] then
    let w := ((s.setReg (wrKey h 0x10) (s.hd h).worst).adaptPower h).modHd h fun d => { d with worst := 0 }
    if w.reg (wrKey h 1) = 3 ∨ w.reg (wrKey h 1) = 4 then (w.setReg (wrKey h 1) 0).passChange h else w
  else s

theorem State.verifyResult_waits (hw : (s.hd h).toVerify.contains (clusterId nsid cl) = false ∨ s.firstPassRuns nsid cl = true) :
    s.verifyResult h b nsid cl bits beta = s := by
  rcases ha : (s.hd h).toVerify.contains (clusterId nsid cl)
  · exact order_idle ha
  · exact (order_runs ha).trans (if_pos (hw.resolve_left (by rw [ha]; decide)))

theorem State.verifyGood_iff : ((s.bdIn (h / 2) || (List.range 18).all fun k => (s.readBack nsid cl).any fun y => y.idx == k && y.stage == .good)
    && (s.verifyCounts h nsid cl bits).all (· ≤ s.reg (stKey (h / 2) 0xD0 4))) = true ↔ s.verifyGood h nsid cl bits := by
  rw [Bool.and_eq_true, Bool.or_eq_true, List.all_eq_true]
  simp only [List.mem_range]

theorem State.verifyResult_judged (ha : (s.hd h).toVerify.contains (clusterId nsid cl) = true) (hf : s.firstPassRuns nsid cl = false) :
    s.verifyResult h b nsid cl bits beta =
      let heard := s.verifyHeard h nsid cl (s.verifyCounts h nsid cl bits)
      State.verifyEnds (if s.verifyGood h nsid cl bits then heard.verifyPasses h b nsid cl beta else heard.verifyFails h nsid cl) h := by
  refine (order_runs ha).trans ((if_neg (Bool.eq_false_iff.mp hf)).trans ?_)
  simp only [State.verifyEnds, ← State.verifyGood_iff, ← List.isEmpty_iff]
  rfl

/-! ### The obligation -/

/-- Settles O53, command by command, from the cases above; FOLLOW's are those of the head orders. -/
theorem verifyCalibrateFollow : Obligations.VerifyCalibrateFollow := by
  unfold Obligations.VerifyCalibrateFollow
  intro s h b nsid cl fe r ev read bits beta x i t behind runs layer p bs outer key place at_ may busy sent mine used out c pool soon bd counts
    good heard passed failed unsure ended
  have ends : ∀ v, ended v = v.verifyEnds h := fun _ => rfl
  have judged : (s.hd h).toVerify.contains c = true → soon = false → exec (.verifyResult h b nsid cl bits beta) s
      = .next (State.verifyEnds (if s.verifyGood h nsid cl bits then heard.verifyPasses h b nsid cl beta else heard.verifyFails h nsid cl) h) :=
    fun ha hf => congrArg _ (State.verifyResult_judged ha hf)
  refine ⟨?followIdle, ?followBehind, ?followInTime, ?calIdle, ?calRejected, ?calFull, ?calBegins, ?calBegun, ?calDone, ?calFailed,
    ?ackWrite, ?ackCal, ?ackNone, ?verifyWaits, ?verifyPasses, ?verifyFails⟩
  case followIdle => exact execFollow_idle fe
  case followBehind =>
    intro hfe hb
    subst hfe
    exact execFollow_behind hb
  case followInTime =>
    intro hb
    refine execFollow_routine fun r hfe => ?_
    have late := hb r hfe
    subst hfe
    exact late
  case calIdle => exact fun hr => congrArg _ (State.powerCal_idle ev hr)
  case calRejected => exact fun hr hx hm => congrArg _ ((State.powerCal_begins ev hr hx).trans (if_neg hm))
  case calFull =>
    exact fun hr hx hm hbs => congrArg _ ((State.powerCal_begins ev hr hx).trans ((if_pos hm).trans (if_pos (List.isEmpty_iff.mpr hbs))))
  case calBegins =>
    exact fun hr hx hm hbs => congrArg _ ((State.powerCal_begins ev hr hx).trans ((if_pos hm).trans (if_neg (mt List.isEmpty_iff.mp hbs))))
  case calBegun => exact fun hr hx => congrArg _ (State.powerCal_begun hr hx)
  case calDone => exact fun hr hx ho => congrArg _ ((State.powerCal_read read hr hx rfl rfl).trans (if_pos ho))
  case calFailed =>
    exact fun hr hx ho => congrArg _ ((State.powerCal_read read hr hx rfl rfl).trans (if_neg (Bool.eq_false_iff.mp ho)))
  case ackWrite => exact fun hw hr => (execPklAckTimeout_waits hw).trans (congrArg _ (if_pos hr))
  case ackCal => exact fun hw hr => (execPklAckTimeout_waits hw).trans (congrArg _ (if_neg (Bool.eq_false_iff.mp hr)))
  case ackNone => exact fun hw => congrArg _ (if_neg (Bool.eq_false_iff.mp hw))
  case verifyWaits => exact fun hw => congrArg _ (State.verifyResult_waits hw)
  case verifyPasses =>
    intro ha hf hg
    have hpassed : passed = heard.verifyPasses h b nsid cl beta := rfl
    rw [judged ha hf, if_pos hg, ends, hpassed]
  case verifyFails =>
    intro ha hf hg
    have hunsure : unsure = heard.verifyFails h nsid cl := rfl
    rw [judged ha hf, if_neg hg, ends, hunsure]

end Sys2Proof.Machine
end

section
/-! What a report leaves as it is (R23, R438, R440, R508): an event that is posted changes no record of a station. -/

namespace Sys2Proof.Machine

variable {s : State}

theorem State.ite_stns {c : Prop} [Decidable c] {u v : State} (hu : u.stns = s.stns) (hv : v.stns = s.stns) :
    (if c then u else v).stns = s.stns := by
  split <;> assumption

theorem State.sendEmcy_stns (f : Emcy) : (s.sendEmcy f).stns = s.stns :=
  State.ite_stns rfl (State.ite_stns rfl (State.ite_stns (State.ite_stns rfl (State.ite_stns rfl rfl)) rfl))

theorem State.enterHistory_stns (code event : Nat) : (s.enterHistory code event).stns = s.stns := by
  unfold State.enterHistory
  rw [State.setReg_stns, State.setReg_stns]
  exact List.foldlRecOn (motive := fun u : State => u.stns = s.stns) _ _ rfl fun _ hu _ _ => hu

theorem State.raiseEmcy_stns (code source event detail : Nat) (standing : Bool) :
    (s.raiseEmcy code source event detail standing).stns = s.stns := by
  have entered := State.enterHistory_stns (s := s) code event
  unfold State.raiseEmcy
  dsimp only
  generalize s.enterHistory code event = u at entered ⊢
  exact State.ite_stns (State.sendEmcy_stns _)
    (State.ite_stns ((State.sendEmcy_stns _).trans entered) ((State.sendEmcy_stns _).trans entered))

theorem State.announce_stns (code source : Nat) (payload : List Byte) (em : Option EmcyUse) :
    (s.announce code source payload em).1.stns = s.stns := by
  have counted : (if s.override code = some (true, true) ∨ s.override code = some (false, true) then
      (match em with | none => s.bump (key 0x5800 2) | some _ => s) else s).stns = s.stns := by
    cases em <;> exact State.ite_stns rfl rfl
  unfold State.announce
  dsimp only
  split
  · exact counted
  · exact (State.raiseEmcy_stns ..).trans counted

theorem State.storeGap_stns (reason count first : Nat) : (s.storeGap reason count first).stns = s.stns := by
  have told := State.announce_stns (s := s) 0x0C01 0 (leBytes 1 reason ++ leBytes 4 count ++ leBytes 8 first) none
  exact State.ite_stns (State.ite_stns told told) (State.ite_stns (c := _ = true) told told)

theorem State.startFlush_stns : s.startFlush.stns = s.stns := by
  unfold State.startFlush
  split
  · rfl
  · exact State.ite_stns rfl rfl

theorem State.store_stns (r : Rec) : (s.store r).stns = s.stns := by
  have flushed : ∀ {c : Prop} [Decidable c] {u : State}, u.stns = s.stns → (if c then u.startFlush else u).stns = s.stns :=
    fun hu => State.ite_stns (State.startFlush_stns.trans hu) hu
  refine flushed (u := _) ?_
  split
  · exact State.ite_stns (State.storeGap_stns ..) rfl
  · rfl

theorem State.rateLimit_stns (r : Rec) : (s.rateLimit r).2.stns = s.stns := by
  unfold State.rateLimit
  dsimp only
  (repeat' split) <;> rfl

theorem State.place_stns (r : Rec) : (s.place r).stns = s.stns :=
  State.ite_stns (State.ite_stns rfl rfl) (State.store_stns r)

theorem State.post_stns (code source : Nat) (payload : List Byte) (em : Option EmcyUse) :
    (s.post code source payload em).stns = s.stns := by
  have told := State.announce_stns (s := s) code source payload em
  unfold State.post
  dsimp only
  split
  · split
    · next e => exact (congrArg (·.2.stns) e).symm.trans ((State.rateLimit_stns _).trans told)
    · next e => exact (State.place_stns _).trans ((congrArg (·.2.stns) e).symm.trans ((State.rateLimit_stns _).trans told))
  · exact told

end Sys2Proof.Machine
end

section
/-! The spindle (R192 to R207, Table 8.7): each order and event by its cases, then the obligation. -/

namespace Sys2Proof.Machine

variable {s : State} {i : Nat}

/-! ### Objects of one station -/

/-- Objects of one station are one where offset and sub-index tell one place. -/
theorem stKey_eq_iff {a b x y : Nat} : stKey i a x = stKey i b y ↔ a * 256 + x = b * 256 + y := by
  unfold stKey key stIx
  omega

/-- A routine that only begins opens with `if !runs || started != 0 then s else …`. -/
theorem order_fresh {b : Bool} {n : Nat} {u v : State} (hb : b = true) (hn : n = 0) : (if (!b || n != 0) = true then u else v) = v :=
  if_neg (by simp [hb, hn])

theorem order_not_fresh {b : Bool} {n : Nat} {u v : State} (h : b = false ∨ n ≠ 0) : (if (!b || n != 0) = true then u else v) = u :=
  if_pos (by simpa using h)

/-! ### SPIN_UP (R193, R198, R201) -/

theorem State.spinUp_idle (ev : SpinEvent) (hr : s.runs (16 + i) 0x10 = false) : s.spinUp i ev = s := order_idle hr

theorem State.spinUp_begins (ev : SpinEvent) (hr : s.runs (16 + i) 0x10 = true) (hx : (s.sq (16 + i)).started = 0) : s.spinUp i ev =
    if s.reg (stKey i 0x22 0x0C) = 3 ∧ s.spinState i ≠ 4 then
      (((s.freewheel i).modSq (16 + i) fun q => { q with started := 1 }).modStn i fun t =>
        { t with spinPhase := 1, crossings := 0, measCount := 0, lrMade := 0, retarget := false }).setSpin i 2
    else s.orderRejected (16 + i) 1 :=
  (order_runs hr).trans (if_pos hx)

theorem State.spinUp_learned (codes : List Nat) (hr : s.runs (16 + i) 0x10 = true) (hx : (s.sq (16 + i)).started ≠ 0)
    (hp : (s.stn i).spinPhase = 4) : s.spinUp i (.learned codes) =
      if hallSequence codes = true then (((s.setReg (stKey i 0x13 5) (hallMapOf codes)).note 0x0508 (0x30 + i)
        (leBytes 4 (hallMapOf codes))).setReg (stKey i 0x10 8) (codes.getD 5 0)).startRest i
      else s.hallFail i :=
  (order_runs hr).trans ((if_neg hx).trans (if_pos hp))

theorem State.spinUp_begun {ev : SpinEvent} (hr : s.runs (16 + i) 0x10 = true) (hx : (s.sq (16 + i)).started ≠ 0)
    (he : (s.stn i).spinPhase ≠ 4 ∨ ev = .begin) : s.spinUp i ev = s := by
  refine (order_runs hr).trans ((if_neg hx).trans ?_)
  cases ev with
  | begin => rfl
  | learned codes => exact if_neg (he.resolve_right nofun)

/-- SPIN_UP begins after the end of the station's BIST (R467). -/
theorem execSpinUp_begins (ev : SpinEvent) (hr : s.runs (16 + i) 0x10 = true) (hx : (s.sq (16 + i)).started = 0) :
    execSpinUp i ev s = .next ((s.bistLeave i).spinUp i ev) := congrArg _ (if_pos ⟨hr, hx⟩)

theorem execSpinUp_goes_on (ev : SpinEvent) (hn : ¬ (s.runs (16 + i) 0x10 = true ∧ (s.sq (16 + i)).started = 0)) :
    execSpinUp i ev s = .next (s.spinUp i ev) := congrArg _ (if_neg hn)

/-! ### START_MEASURE_END (R201) -/

theorem State.measured_idle (hp : (s.stn i).spinPhase ≠ 1) : s.measured i = s := if_pos hp

theorem State.measured_decides (hp : (s.stn i).spinPhase = 1) {n : Int}
    (hn : n = if (s.stn i).crossings < 2 ∧ (s.stn i).measCount = 0 then 0 else s.measuredSpeed i)
    {m : State} (hm : m = s.setRegI 32 (stKey i 0x10 2) n) : s.measured i =
      if n.natAbs < 3000 then m.needPower i 0
      else if m.reg (stKey i 0x13 5) = 0 ∧ m.reg (stKey i 0x10 0x0C) ≠ 2 then (m.modStn i fun t => { t with spinPhase := 9 }).setSpin i 7
      else if n < 0 then (((m.catchSpin i n).motion i 6).setSpin i 5).modStn i fun t => { t with spinPhase := 7 }
      else if n < m.target i * 100 - m.speedTol i then m.needPower i n else m.catchSpin i n := by
  subst hm hn
  exact if_neg (not_not_intro hp)

/-! ### SPIN_DOWN and its brake (R199) -/

/-- SPIN_DOWN frees the slot and parks the sleds. -/
def State.spinReleased (s : State) (i : Nat) : State :=
  ((((s.modSq (16 + i) fun q => { q with started := 1 }).freeSlot i).modStn i fun t =>
    { t with spinPhase := 0, retarget := false, lrWait := false }).sledParkNow (2 * i)).sledParkNow (2 * i + 1)

theorem State.spinDown_begins (hr : s.runs (16 + i) 0x11 = true) (hx : (s.sq (16 + i)).started = 0) : s.spinDown i =
    if s.substate (2 * i) = hsOff ∧ s.substate (2 * i + 1) = hsOff then
      let v := s.spinReleased i
      if v.stFlag i 10 ∧ ¬ v.below30 i then (v.modStn i fun t => { t with down := 3 }).setSpin i 7
      else if v.below30 i then ((v.modStn i fun t => { t with down := 2 }).slowed i).shortBrake i
      else (v.modStn i fun t => { t with down := 1 }).setSpin i 5
    else s.orderRejected (16 + i) 1 := order_fresh hr hx

theorem State.spinDown_idle (h : s.runs (16 + i) 0x11 = false ∨ (s.sq (16 + i)).started ≠ 0) : s.spinDown i = s := order_not_fresh h

theorem State.brakeEnd_idle (hs : s.spinState i ≠ 6) : s.brakeEnd i = s := if_pos hs

theorem State.brakeEnd_stops (hs : s.spinState i = 6) {still rest : State}
    (hstill : still = ((s.freewheel i).setSpin i 0).setRegs [(stKey i 0x10 2, 0), (stKey i 0x10 4, 0)])
    (hrest : rest = still.modStn i fun t => { t with down := 0 }) : s.brakeEnd i =
      if (still.stn i).spinPhase = 8 then still.needPower i 0
      else if (rest.sq (16 + i)).code = some 0x11 then rest.orderDone (16 + i) 0 else rest := by
  subst hrest hstill
  exact if_neg (not_not_intro hs)

/-! ### SET_SPEED (R200) -/

/-- The spindle of a Blu-ray Disc turns under speed control. -/
abbrev State.bdTurns (s : State) (i : Nat) : Prop := 3 ≤ s.spinState i ∧ s.spinState i ≤ 5 ∧ s.reg (stKey i 0 6) = 1

theorem State.bdTurns_iff : (3 ≤ s.spinState i && s.spinState i ≤ 5 && s.reg (stKey i 0 6) == 1) = true ↔ s.bdTurns i := by
  simp only [Bool.and_eq_true, decide_eq_true_eq, beq_iff_eq, and_assoc]

theorem State.setSpeed_idle (h : s.runs (16 + i) 0x15 = false ∨ (s.sq (16 + i)).started ≠ 0) : s.setSpeed i = s := order_not_fresh h

theorem State.setSpeed_begins (hr : s.runs (16 + i) 0x15 = true) (hx : (s.sq (16 + i)).started = 0) {p : Nat} (hp : p = (s.sq (16 + i)).param) :
    s.setSpeed i = if s.bdTurns i then
      if p < 600 ∨ 7200 < p then s.orderRejected (16 + i) 4
      else
        let u := (s.setReg (stKey i 0x12 1) p).modSq (16 + i) fun q => { q with started := 1 }
        (u.modStn i fun t => { t with spinPhase := 5 }).setSpin i (if u.speed i < (p : Int) * 100 then 3 else 5)
    else s.orderRejected (16 + i) 1 := by
  subst hp
  refine (order_fresh hr hx).trans ?_
  by_cases hbd : s.bdTurns i
  · exact (order_runs (State.bdTurns_iff.mpr hbd)).trans (if_pos hbd).symm
  · exact (order_idle (Bool.eq_false_iff.mpr (mt State.bdTurns_iff.mp hbd))).trans (if_neg hbd).symm

/-! ### Hall and encoder edges (R192 to R196) -/

/-- A map of 0 has no sector for a valid code. -/
theorem State.hallSector_unmapped (hm : s.reg (stKey i 0x13 5) = 0) {c : Nat} (hc : 1 ≤ c) : s.hallSector i c = none := by
  have other : ((0 : Nat) == c) = false := beq_false_of_ne (Nat.ne_of_lt hc)
  simp [State.hallSector, hm, other]

theorem State.modStn_congr {f g : Stn → Stn} (h : f (s.stn i) = g (s.stn i)) : s.modStn i f = s.modStn i g := by
  rw [State.modStn, State.modStn, h]

/-- The observer's record of an edge that no map places: it takes the stamp and the interval, and the run of good edges ends. -/
def Stn.unmappedEdge (t : Stn) (stamp : Nat) : Stn :=
  { t with
    edgeStamp := stamp, edgeInterval := stamp - t.edgeStamp, edgeRun := 0, edgeCount := t.edgeCount + 1
    backEdges := if t.edgeCount % 6 = 0 then 0 else t.backEdges, crossings := t.crossings + 1, encEdges := t.encEdges + 1 }

/-- An edge that no map places gives the speed by its interval. -/
def State.unmappedEdge (s : State) (i code stamp : Nat) : State :=
  ((s.setReg (stKey i 0x10 8) code).modStn i fun t => t.unmappedEdge stamp).setRegI 32 (stKey i 0x10 2)
    (hallSpeed (stamp - (s.stn i).edgeStamp) (s.reg (stKey i 0x11 1)))

/-- ADVANCE follows the speed, and raw Hall commutation takes its next sector (R190). -/
def State.commutated (s : State) (i : Nat) : State :=
  let u := s.setReg (stKey i 0x10 0x0B) (s.advance i)
  if u.reg (stKey i 0x10 3) = 2 then u.emitBridge i 0 else u

theorem State.unmappedEdge_stn (code stamp : Nat) : (s.unmappedEdge i code stamp).stn i = (s.stn i).unmappedEdge stamp := by
  rw [State.unmappedEdge, State.setRegI, State.setReg_stn, State.stn_modStn, if_pos rfl, State.setReg_stn]

theorem State.unmappedEdge_reg (code stamp : Nat) {k : Nat} (h8 : k ≠ stKey i 0x10 8) (h2 : k ≠ stKey i 0x10 2) :
    (s.unmappedEdge i code stamp).reg k = s.reg k :=
  (State.reg_setReg_ne _ _ h2).trans (State.reg_setReg_ne s code h8)

theorem State.commutated_stn (j : Nat) : (s.commutated i).stn j = s.stn j := by
  unfold State.commutated
  dsimp only
  split <;> rfl

theorem State.commutated_reg {k : Nat} (hk : k ≠ stKey i 0x10 0x0B) : (s.commutated i).reg k = s.reg k := by
  rw [← State.reg_setReg_ne s (s.advance i) hk]
  unfold State.commutated
  dsimp only
  split <;> rfl

/-- The spindle turns forward without a map, an encoder or a locked observer, and a valid code follows another. -/
structure State.MeetsUnmappedEdge (s : State) (i code : Nat) : Prop where
  unmapped : s.reg (stKey i 0x13 5) = 0
  old : 1 ≤ s.reg (stKey i 0x10 8)
  unlocked : s.reg (stKey i 0x10 4) = 0
  noEncoder : s.reg (stKey i 0x10 0x0C) = 1
  lockEdges : 1 ≤ s.reg (stKey i 0x13 3)
  codeLow : 1 ≤ code
  codeHigh : code ≤ 6
  noAngle : (s.stn i).angleSet = false
  notMeasuring : (s.stn i).spinPhase ≠ 1
  forward : 0 ≤ (s.stn i).nSet

/-- No sector tells the edge's direction: it counts as forward, and the observer stays out of lock. -/
theorem State.hallEdge_unmapped {code : Nat} (h : s.MeetsUnmappedEdge i code) (stamp : Nat) :
    s.hallEdge i code stamp = (s.unmappedEdge i code stamp).commutated i := by
  obtain ⟨hm, hold, hobs, henc, hrun, h1, h6, hang, hp, hn⟩ := h
  unfold State.hallEdge
  extract_lets t old code' pp pair back interval coded viewed a b next prev backs plausible mapped near good zero est slow taken sp timed found
    advanced angled bridged
  have hcode : code' = code := Nat.mod_eq_of_lt (by omega)
  have hvalid : hallValid code = true := by
    simp only [hallValid, Bool.and_eq_true, bne_iff_ne]
    omega
  have hback : back = false := (if_neg hp).trans (decide_eq_false (Int.not_lt.mpr hn))
  have hviewed : viewed = s.setReg (stKey i 0x10 8) code := by simp only [viewed, coded, hcode, hvalid, if_true, spdKey]
  have viewed_reg : ∀ k, k ≠ stKey i 0x10 8 → viewed.reg k = s.reg k := fun k hk => by rw [hviewed, State.reg_setReg_ne s code hk]
  have hmap : viewed.reg (stKey i 0x13 5) = 0 := by rw [viewed_reg _ (by simp [stKey_eq_iff]), hm]
  have ha : a = none := State.hallSector_unmapped hmap hold
  have hnext : next = false := by simp only [next, ha]
  have hprev : prev = false := by simp only [prev, ha]
  have hmapped : mapped = false := by simp only [mapped, hmap, bne_self_eq_false]
  have hslow : slow = false := by
    have notPresent : viewed.reg (spdKey i 0x0C) = 1 := (viewed_reg _ (by simp [spdKey, stKey_eq_iff])).trans henc
    simp only [slow, notPresent, Nat.reduceBEq, Bool.false_and]
  have hest : est = interval := by
    have unlocked : viewed.reg (spdKey i 4) = 0 := (viewed_reg _ (by simp [spdKey, stKey_eq_iff])).trans hobs
    exact if_neg fun h => Nat.zero_ne_one (unlocked.symm.trans h.1)
  have htimed : timed = s.unmappedEdge i code stamp := by
    simp only [timed, taken, sp, good, zero, backs, hmapped, hnext, hprev, hslow, hback, hest, hviewed, Bool.false_and, Bool.false_eq_true,
      not_false_eq_true, or_true, and_self, if_true, if_false]
    exact congrArg (State.setRegI · _ _ _) (State.modStn_congr rfl)
  have timed_reg : ∀ k, k ≠ stKey i 0x10 8 → k ≠ stKey i 0x10 2 → timed.reg k = s.reg k := fun k h8 h2 => by
    rw [htimed, State.unmappedEdge_reg code stamp h8 h2]
  have hfound : found = timed := by
    have known : timed.reg (spdKey i 0x0C) = 1 :=
      (timed_reg _ (by simp [spdKey, stKey_eq_iff]) (by simp [spdKey, stKey_eq_iff])).trans henc
    exact if_neg fun h => Nat.one_ne_zero (known.symm.trans h.2.1)
  have hangled : angled = advanced := by
    have unset : (advanced.stn i).angleSet = false := by
      simp only [advanced, hfound, htimed, State.setReg_stn, State.unmappedEdge_stn]
      exact hang
    exact if_neg fun h => Bool.false_ne_true (unset.symm.trans h.1)
  have hbridged : bridged = timed.commutated i := by
    simp only [bridged, hangled, advanced, hfound, State.commutated, spdKey]
  have unlocked : bridged.reg (spdKey i 4) ≠ 1 := by
    rw [hbridged, State.commutated_reg (by simp [spdKey, stKey_eq_iff]),
      timed_reg _ (by simp [spdKey, stKey_eq_iff]) (by simp [spdKey, stKey_eq_iff]), spdKey, hobs]
    decide
  have noRun : ¬ bridged.reg (stKey i 0x13 3) ≤ (bridged.stn i).edgeRun := by
    rw [hbridged, State.commutated_reg (by simp [stKey_eq_iff]), timed_reg _ (by simp [stKey_eq_iff]) (by simp [stKey_eq_iff]),
      State.commutated_stn, htimed, State.unmappedEdge_stn]
    exact Nat.not_le.mpr hrun
  rw [if_neg fun h => Bool.false_ne_true (hmapped.symm.trans h.2.2.1), if_neg unlocked, if_neg noRun, hbridged, htimed]

theorem State.hallEdge_unmapped_shown {code : Nat} (h : s.MeetsUnmappedEdge i code) (stamp : Nat) :
    ∃ u, execHallEdge i code stamp s = .next u ∧ u.reg (stKey i 0x10 8) = code ∧ (u.stn i).edgeStamp = stamp ∧ (u.stn i).edgeRun = 0
      ∧ u.reg (stKey i 0x10 2) = ofSigned 32 (hallSpeed (stamp - (s.stn i).edgeStamp) (s.reg (stKey i 0x11 1))) := by
  refine ⟨(s.unmappedEdge i code stamp).commutated i, ?_, ?_, ?_, ?_, ?_⟩
  · rw [execHallEdge, Nat.mod_eq_of_lt (Nat.lt_of_le_of_lt h.codeHigh (by decide)), State.hallEdge_unmapped h]
  · rw [State.commutated_reg (by simp [stKey_eq_iff]), State.unmappedEdge, State.setRegI,
      State.reg_setReg_ne _ _ (by simp [stKey_eq_iff]), State.modStn_reg, State.reg_setReg_same]
  · rw [State.commutated_stn, State.unmappedEdge_stn]
    rfl
  · rw [State.commutated_stn, State.unmappedEdge_stn]
    rfl
  · rw [State.commutated_reg (by simp [stKey_eq_iff])]
    exact State.reg_setReg_same _ _ _

theorem State.encZ_first (hn : (s.stn i).encRevs = 0) :
    s.encZ i = s.modStn i fun t => { t with encSeen := true, encCount := 0, encRevs := 1 } :=
  (if_pos hn).trans (State.modStn_congr (by rw [hn]))

/-- A quadrature edge counts, whatever else it does. -/
abbrev State.encTurned (s : State) (i : Nat) (fwd : Bool) (stamp : Nat) : State :=
  let one : Int := if fwd then 1 else -1
  s.modStn i fun t => { t with encSeen := true, encCount := t.encCount + one, measCount := t.measCount + one, encStamp := stamp }

theorem State.encEdge_counts {fwd : Bool} {stamp : Nat} (hu : s.reg (stKey i 0x10 0x0C) ≠ 2) :
    s.encEdge i fwd true stamp = s.encTurned i fwd stamp := if_neg fun h => hu h.1

theorem State.encEdge_illegal {fwd : Bool} {stamp : Nat}
    (hu : (s.encTurned i fwd stamp).reg (stKey i 0x10 0x0C) = 0 ∨ (s.encTurned i fwd stamp).reg (stKey i 0x10 0x0C) = 2) :
    s.encEdge i fwd false stamp = (s.encTurned i fwd stamp).encDegrade i := if_pos hu.symm

/-! ### Coasting and the locked rotor (R206, R207) -/

theorem State.coastTimeout_idle (h : s.stFlag i 10 = false ∨ (s.stn i).lrWait = true) : s.coastTimeout i = s := by
  refine if_neg ?_
  rintro ⟨hcoast, hwait⟩
  rcases h with h | h
  · exact Bool.false_ne_true (h.symm.trans hcoast)
  · exact Bool.false_ne_true (hwait.symm.trans h)

/-- No order runs that the coast's end would end as well. -/
theorem State.coastTimeout_faults (hc : s.stFlag i 10 = true) (hw : (s.stn i).lrWait = false) (hd : (s.stn i).down ≠ 3)
    (ho : (s.sq (16 + i)).code = none) : s.coastTimeout i
      = ((s.modStn i fun t => { t with stopped := true }).setRegs [(stKey i 0x10 1, 0), (stKey i 0x10 2, 0)]).stnFault i 2 (hallDetail i) := by
  rw [State.coastTimeout, if_pos ⟨hc, hw⟩]
  extract_lets stopped shown dropped ended failed
  have hended : ended = shown := by
    refine if_neg ?_
    simp only [shown, stopped, State.setRegs_cons, State.setRegs_nil, State.setReg_stn, State.stn_modStn, if_true]
    exact hd
  have hfailed : failed = shown := by
    refine (if_neg ?_).trans hended
    have idle : (ended.sq (16 + i)).code = none := by rw [hended]; exact ho
    rw [State.spinOrder, idle]
    decide
  rw [hfailed]
  rfl

/-! ### VBUS (R202, R203) -/

/-- A sample of VBUS and of the current is taken with the brake chopper off. -/
def State.vbusTaken (s : State) (i mv amps : Nat) : State :=
  (s.setRegs [(stKey i 0x10 9, mv), (stKey i 0x10 0x0A, amps), (stKey i 0x3F 0x0B, max (s.reg (stKey i 0x3F 0x0B)) mv)]).modStn i fun t =>
    { t with vbusOver := t.vbusOver && decide (s.reg (stKey i 0x12 8) ≤ mv), brk := false }

/-- Below VBUS_HI with BRK off, at a drive that is no braking beyond full scale, a sample is only taken. -/
theorem State.vbusSample_low {mv amps : Nat} (hb : (s.stn i).brk = false) (hhi : mv ≤ s.reg (stKey i 0x12 8)) (hmx : mv < s.reg (stKey i 0x12 9))
    (hd : ((s.vbusTaken i mv amps).limitCurrent i amps).drive (16 + i) 0 ≥ -8388608) :
    s.vbusSample i mv amps = (s.vbusTaken i mv amps).limitCurrent i amps := by
  unfold State.vbusSample
  extract_lets old hi mx read taken n counted braked limited d k clamped high
  have notHigh : ¬ hi < mv := Nat.not_lt.mpr hhi
  have htaken : taken = s.vbusTaken i mv amps := by
    refine State.modStn_congr ?_
    simp only [read, State.setRegs_cons, State.setRegs_nil, State.setReg_stn, hb, if_neg notHigh, ite_self]
    rfl
  have hbraked : braked = taken := by
    refine if_neg ?_
    rw [htaken, State.vbusTaken, State.stn_modStn, if_pos rfl]
    exact Bool.false_ne_true
  have hlimited : limited = (s.vbusTaken i mv amps).limitCurrent i amps := by simp only [limited, hbraked, htaken]
  have hk : k = 8388608 := if_pos hhi
  have hclamped : clamped = limited := by
    refine if_neg (Int.not_lt.mpr ?_)
    rw [hk]
    simp only [d, hlimited]
    exact hd
  have hhigh : high = clamped := if_neg fun h => notHigh h.1
  rw [if_neg fun h => Nat.not_lt.mpr h.1 hmx, hhigh, hclamped, hlimited]

theorem State.motion_stn (c j : Nat) : (s.motion i c).stn j = s.stn j := rfl

theorem State.limitCurrent_stn (amps j : Nat) : (s.limitCurrent i amps).stn j = s.stn j := by
  unfold State.limitCurrent
  split <;> rfl

theorem State.raiseTrap_stn (e kind mask detail j : Nat) : (s.raiseTrap e kind mask detail).stn j = s.stn j := by
  unfold State.raiseTrap
  (repeat' split) <;> rfl

theorem State.post_stn (code source : Nat) (payload : List Byte) (em : Option EmcyUse) (j : Nat) :
    (s.post code source payload em).stn j = s.stn j := congrArg (fun l => (findKey j l).getD Stn.init) (State.post_stns ..)

theorem State.brk_ite {c : Prop} [Decidable c] {u v : State} (hu : (u.stn i).brk = true) (hv : (v.stn i).brk = true) :
    ((if c then u else v).stn i).brk = true := by
  split <;> assumption

/-- Above VBUS_HI the brake chopper is on. -/
theorem State.vbusSample_high {mv amps : Nat} (hhi : s.reg (stKey i 0x12 8) < mv) : ((s.vbusSample i mv amps).stn i).brk = true := by
  unfold State.vbusSample
  extract_lets old hi mx read taken n counted braked limited d k clamped high
  have onTaken : (taken.stn i).brk = true := by
    simp only [taken, State.stn_modStn, if_true]
    exact if_pos hhi
  have onCounted : (counted.stn i).brk = true := by
    simp only [counted, State.stn_modStn, if_true]
    exact onTaken
  have onBraked : (braked.stn i).brk = true := by
    refine State.brk_ite (State.brk_ite ?_ onCounted) onTaken
    rw [State.motion_stn]
    exact onCounted
  have onLimited : (limited.stn i).brk = true := by
    simp only [limited, State.limitCurrent_stn]
    exact onBraked
  have onClamped : (clamped.stn i).brk = true := by
    refine State.brk_ite ?_ onLimited
    rw [State.modLp_stn, State.setDrive, State.setRegI, State.setReg_stn]
    exact onLimited
  have told : ∀ (u : State) mask detail code payload em, (u.stn i).brk = true →
      ((((u.motion i 9).raiseTrap (16 + i) trapVbusHigh mask detail).post code (0x30 + i) payload em).stn i).brk = true := by
    intro u mask detail code payload em hu
    rw [State.post_stn, State.raiseTrap_stn, State.motion_stn]
    exact hu
  have onHigh : (high.stn i).brk = true := State.brk_ite (told _ _ _ _ _ none onClamped) onClamped
  exact State.brk_ite (told _ _ _ _ _ _ onHigh) onHigh

/-- VBUS is outside its limits while PSEN is high. -/
abbrev State.vbusWrong (s : State) (i : Nat) : Prop :=
  (s.stn i).psen = true ∧ (s.reg (stKey i 0x12 9) < s.reg (stKey i 0x10 9) ∨ s.reg (stKey i 0x10 9) < s.reg (stKey i 0x12 7))

theorem State.vbusFault_wrong (hw : s.vbusWrong i) : s.vbusFault i =
    (if s.reg (stKey i 0x12 9) < s.reg (stKey i 0x10 9) then (s.freewheel i).modStn i fun t => { t with vbusOver := true, brk := true }
      else s).stnFault i 5 (s.reg (stKey i 0x10 9)) := if_pos hw

theorem State.vbusFault_right (hw : ¬ s.vbusWrong i) : s.vbusFault i = s := if_neg hw

/-! ### The obligation -/

/-- Settles O41, command by command, from the cases above. -/
theorem spindleCommands : Obligations.SpindleCommands := by
  unfold Obligations.SpindleCommands
  intro s i mv amps code stamp fwd valid codes ev e x t f begun map n m goal v still rest bd near at_ there late one turned speed high wrong
  refine ⟨?upBegins, ?upLearned, ?upBegun, ?upIdle, ?measureEnds, ?noMeasure, ?downRejected, ?downBegins, ?downIdle, ?brakeEnds, ?noBrake,
    ?speedSet, ?speedRejected, ?speedRange, ?speedIdle, ?tick, ?atSpeed, ?notAtSpeed, ?tooLate, ?notLate, ?hall, ?hallUnmapped, ?missed,
    ?noneMissed, ?zEdge, ?zFirst, ?quadCounts, ?quadIllegal, ?quad, ?coastEnds, ?noCoast, ?locked, ?notDriven, ?retry, ?noRetry,
    ?vbusLow, ?vbusHigh, ?vbusUnder, ?vbusOver, ?vbusRight⟩
  case upBegins =>
    intro hr hx hfr hfx
    have begins : exec (.spinUp i ev) s = .next (f.spinUp i ev) := execSpinUp_begins ev hr hx
    rw [begins, State.spinUp_begins ev hfr hfx]
    exact ⟨fun hc hs => congrArg _ (if_pos ⟨hc, hs⟩), fun hno => congrArg _ (if_neg fun hc => hno.elim (· hc.1) hc.2)⟩
  case upLearned =>
    exact fun hr hx hp => (execSpinUp_goes_on _ fun hc => hx hc.2).trans (congrArg _ (State.spinUp_learned codes hr hx hp))
  case upBegun => exact fun hr hx he => (execSpinUp_goes_on ev fun hc => hx hc.2).trans (congrArg _ (State.spinUp_begun hr hx he))
  case upIdle =>
    exact fun hr => (execSpinUp_goes_on ev fun hc => Bool.false_ne_true (hr.symm.trans hc.1)).trans (congrArg _ (State.spinUp_idle ev hr))
  case measureEnds => exact fun hp => congrArg _ (State.measured_decides hp rfl rfl)
  case noMeasure => exact fun hp => congrArg _ (State.measured_idle hp)
  case downRejected =>
    exact fun hr hx hlit => congrArg _ ((State.spinDown_begins hr hx).trans (if_neg fun hc => hlit.elim (· hc.1) (· hc.2)))
  case downBegins => exact fun hr hx hu hl => congrArg _ ((State.spinDown_begins hr hx).trans (if_pos ⟨hu, hl⟩))
  case downIdle => exact fun h => congrArg _ (State.spinDown_idle h)
  case brakeEnds => exact fun hs => congrArg _ (State.brakeEnd_stops hs rfl rfl)
  case noBrake => exact fun hs => congrArg _ (State.brakeEnd_idle hs)
  case speedSet =>
    exact fun hr hx hbd hlo hhi => congrArg _ ((State.setSpeed_begins hr hx rfl).trans
      ((if_pos hbd).trans (if_neg fun hc => hc.elim (Nat.not_lt.mpr hlo) (Nat.not_lt.mpr hhi))))
  case speedRejected => exact fun hr hx hbd => congrArg _ ((State.setSpeed_begins hr hx rfl).trans (if_neg hbd))
  case speedRange => exact fun hr hx hbd hp => congrArg _ ((State.setSpeed_begins hr hx rfl).trans ((if_pos hbd).trans (if_pos hp)))
  case speedIdle => exact fun h => congrArg _ (State.setSpeed_idle h)
  case tick => rfl
  case atSpeed => exact fun hn => congrArg _ (if_pos hn)
  case notAtSpeed => exact fun hn => congrArg _ (if_neg hn)
  case tooLate => exact fun hl => congrArg _ (if_pos hl)
  case notLate => exact fun hl => congrArg _ (if_neg hl)
  case hall => rfl
  case hallUnmapped =>
    exact fun hm hold hobs henc hrun h1 h6 hang hp hn => State.hallEdge_unmapped_shown ⟨hm, hold, hobs, henc, hrun, h1, h6, hang, hp, hn⟩ stamp
  case missed => exact fun hl => congrArg _ (if_pos hl)
  case noneMissed => exact fun hl => congrArg _ (if_neg hl)
  case zEdge => rfl
  case zFirst => exact fun hn => congrArg _ (State.encZ_first hn)
  case quadCounts => exact fun hu => congrArg _ (State.encEdge_counts hu)
  case quadIllegal => exact fun hu => congrArg _ (State.encEdge_illegal hu)
  case quad => rfl
  case coastEnds => exact fun hc hw hd ho => congrArg _ (State.coastTimeout_faults hc hw hd ho)
  case noCoast => exact fun h => congrArg _ (State.coastTimeout_idle h)
  case locked => exact fun hd => if_pos hd
  case notDriven => exact fun hd => if_neg (not_not_intro hd)
  case retry => exact fun hw => congrArg _ (if_pos hw)
  case noRetry => exact fun hw => congrArg _ (if_neg (Bool.eq_false_iff.mp hw))
  case vbusLow => exact fun hb hhi hmx hd => congrArg _ (State.vbusSample_low hb hhi hmx hd)
  case vbusHigh => exact fun hhi => ⟨_, rfl, State.vbusSample_high hhi⟩
  case vbusUnder => exact fun hw hh => congrArg _ ((State.vbusFault_wrong hw).trans (congrArg (State.stnFault · i 5 speed) (if_neg hh)))
  case vbusOver => exact fun hw hh => congrArg _ ((State.vbusFault_wrong hw).trans (congrArg (State.stnFault · i 5 speed) (if_pos hh)))
  case vbusRight => exact fun hw => congrArg _ (State.vbusFault_right hw)

end Sys2Proof.Machine
end

section
/-! The sleds and the clamp (R209 to R218, Tables 8.6 and 8.7): each order and event by its cases, then the obligation. -/

namespace Sys2Proof.Machine

variable {s : State} {h i : Nat}

/-! ### Set-points (R209 to R213) -/

/-- A sled's objects are none of its station engine's loop states. -/
theorem sledKey_ne_loopKey {sub l n : Nat} (hl : l ≤ 2) (hn : n ≤ 4) (hsub : sub < 256) : sledKey h sub ≠ loopKey (16 + h / 2) l n := by
  have station : ¬ 16 + h / 2 < 16 := by omega
  rw [sledKey, loopKey, engKey, engIx, loopCount, if_neg station, if_neg station, Nat.add_sub_cancel_left, stKey]
  unfold key stIx
  omega

/-- Closing a station's loop writes its STATE and HOLD_CAUSE, and no other register. -/
theorem State.stationLoopClose_reg {l k : Nat} (h0 : k ≠ loopKey (16 + i) l 0) (h2 : k ≠ loopKey (16 + i) l 2) :
    (s.loopClose (16 + i) l).reg k = s.reg k := by
  have entered : ∀ f, (((s.enterLoop (16 + i) l lsClosed).modLp (16 + i) l f).reg k) = s.reg k := by
    intro f
    rw [State.modLp_reg, State.enterLoop, State.modLp_reg, State.reg_setReg_ne _ _ h2, State.reg_setReg_ne _ _ h0]
  have station : isHead (16 + i) = false := decide_eq_false (by omega)
  unfold State.loopClose
  split
  · dsimp only
    rw [if_neg fun hc => Bool.false_ne_true (station.symm.trans hc.1), if_neg fun hc => Bool.false_ne_true (station.symm.trans hc.1)]
    exact entered _
  · rfl

theorem State.reg_ite {c : Prop} [Decidable c] {u v : State} {k n : Nat} (hu : u.reg k = n) (hv : v.reg k = n) :
    (if c then u else v).reg k = n := by
  split <;> assumption

/-- With no profile, no homing and no track to follow, the set-point's velocity is 0. -/
theorem State.sledPoint_stands (rotor : Nat) (ht : (s.sled h).target = none) (hh : (s.sled h).homing = false) (hf : s.substate h ≠ hsFollowing) :
    (s.sledPoint h rotor).regI 32 (sledKey h 0x1D) = 0 := by
  unfold State.sledPoint
  extract_lets angle d i l held v0 lp a following v tot pos known beyond filtered placed moved opened rested st shown mn cur
  have notFollowing : following = false := by simp only [following, beq_false_of_ne hf, Bool.false_and]
  have hv : v = 0 := by simp [v, d, ht, hh, notFollowing]
  have atMoved : moved.reg (sledKey h 0x1D) = 0 := by
    simp only [moved, State.setRegI, hv]
    rw [State.reg_setReg_ne _ _ (by simp [sledKey, stKey_eq_iff]), State.reg_setReg_same]
    decide
  have near : l ≤ 2 := by omega
  have atRested : rested.reg (sledKey h 0x1D) = 0 := by
    refine State.reg_ite (State.reg_ite ?_ atMoved) atMoved
    rw [State.stationLoopClose_reg (sledKey_ne_loopKey near (by decide) (by decide)) (sledKey_ne_loopKey near (by decide) (by decide))]
    exact atMoved
  have atShown : shown.reg (sledKey h 0x1D) = 0 := by
    refine State.reg_ite ?_ atRested
    rw [State.reg_setReg_ne _ _ (by simp [sledKey, stKey_eq_iff])]
    exact atRested
  rw [State.regI, State.emitWindings, State.emit_reg, State.emit_reg, atShown]
  decide

/-! ### SEEK (R215) -/

theorem State.causeHere_stns (e l bit : Nat) (on : Bool) : (s.causeHere e l bit on).stns = s.stns := by
  unfold State.causeHere
  dsimp only
  (repeat' split) <;> rfl

theorem State.recouple_stns : (s.recouple h).stns = s.stns := by
  simp only [State.recouple, State.causeHere_stns]

theorem State.loopOpen_stns (e l : Nat) : (s.loopOpen e l).stns = s.stns := by
  have opened : ((s.enterLoop e l lsOpen).setDrive e l (s.regI 32 (loopKey e l 3))).stns = s.stns := by
    rw [State.setDrive, State.setRegI, State.setReg_stns, State.enterLoop, State.modLp_stns, State.setReg_stns, State.setReg_stns]
  exact State.ite_stns (State.recouple_stns.trans opened) opened

/-- What every change of a list of changes keeps, the list keeps. -/
theorem State.forEach_kept {α β : Type} {l : List α} {f : State → α → State} (π : State → β) (hf : ∀ u x, π (f u x) = π u) :
    π (s.forEach l f) = π s :=
  List.foldlRecOn (motive := fun u => π u = π s) l f rfl fun u hu x _ => (hf u x).trans hu

theorem State.openAtDrive_stns (ls : List Nat) : (s.openAtDrive h ls).stns = s.stns :=
  State.forEach_kept (·.stns) fun _ _ => State.loopOpen_stns ..

theorem State.sled_modSled (hl : (s.stn (h / 2)).sleds.length = 2) (f : Sled → Sled) : (s.modSled h f).sled h = f (s.sled h) := by
  have both : h % 2 < (s.stn (h / 2)).sleds.length := by omega
  simp [State.sled, State.modSled, State.stn_modStn, both]

theorem State.modSled_length (f : Sled → Sled) : ((s.modSled h f).stn (h / 2)).sleds.length = (s.stn (h / 2)).sleds.length := by
  simp [State.modSled, State.stn_modStn]

/-- A seek leaves its track: TRK and the tilt loops open, the seek is counted. -/
def State.seekOpened (s : State) (h : Nat) : State :=
  ((((s.setRegI 32 (loopKey h 1 3) 0).loopOpen h 1).openAtDrive h (s.tiltLoops h)).motion (h / 2) 0x0E).enterTracking h

/-- A seek begins: from an opened track its profile runs toward the track `goal`. -/
def State.seekBegun (s : State) (h goal : Nat) : State :=
  let u := (s.sledProfile h (s.trackRadius h goal)).modSled h fun d => { d with tries := 0 }
  (u.modHd h fun d => { d with corrected := false, signRead := false, jumpTarget := goal, kickF := none, kickT := none }).modSq h fun q =>
    { q with started := 1 }

theorem State.seek_idle (ev : SeekEvent) (hr : s.runs h 7 = false) : s.seek h ev = s := order_idle hr

theorem State.seek_begins (ev : SeekEvent) (hr : s.runs h 7 = true) (hx : (s.sq h).started = 0) : s.seek h ev =
    if (s.substate h = hsTracking ∨ s.substate h = hsFollowing) ∧ s.reg (sledKey h 0x1C) = 1 then
      if s.sledReach h (s.trackRadius h (s.reg (sledKey h 0x16))) = true then (s.seekOpened h).seekBegun h (s.reg (sledKey h 0x16))
      else s.orderRejected h 4
    else s.orderRejected h 1 :=
  (order_runs hr).trans (if_pos hx)

theorem State.seekOpened_stns : (s.seekOpened h).stns = s.stns := by
  rw [State.seekOpened, State.enterTracking, State.modHd_stns, State.setSubstate, State.setReg_stns, State.motion, State.bump, State.addReg,
    State.setReg_stns, State.openAtDrive_stns, State.loopOpen_stns, State.setRegI, State.setReg_stns]

theorem State.seekBegun_started (goal : Nat) : ((s.seekBegun h goal).sq h).started = 1 := by
  rw [State.seekBegun, State.sq_modSq, if_pos rfl]

theorem State.sledProfile_eq (p : Int) : s.sledProfile h p =
    (s.modSled h fun d => { d with target := some p, homing := false }).setReg (sledKey h 0x1A) 3 := rfl

/-- The profile of a seek runs on a sled of its station (R213). -/
theorem State.seekBegun_target (hl : (s.stn (h / 2)).sleds.length = 2) (goal : Nat) : ((s.seekBegun h goal).sled h).target ≠ none := by
  have sleds : ((s.sledProfile h (s.trackRadius h goal)).stn (h / 2)).sleds.length = 2 := by
    rw [State.sledProfile_eq, State.setReg_stn, State.modSled_length, hl]
  have target : ((s.sledProfile h (s.trackRadius h goal)).sled h).target = some (s.trackRadius h goal) := by
    rw [State.sledProfile_eq, State.sled, State.setReg_stn, ← State.sled, State.sled_modSled hl]
  have kept : (s.seekBegun h goal).sled h = ((s.sledProfile h (s.trackRadius h goal)).modSled h fun d => { d with tries := 0 }).sled h := by
    simp only [State.seekBegun, State.sled, State.modSq_stn, State.modHd_stn]
  rw [kept, State.sled_modSled sleds, target]
  exact Option.some_ne_none _

section SeekEvents

variable (hr : s.runs h 7 = true)
include hr

theorem State.seek_reads {r : PilotRead} (hx : (s.sq h).started = 3) : s.seek h (.address r) = s.seekRead h r :=
  (order_runs hr).trans ((if_neg (by rw [hx]; decide)).trans (if_pos hx))

theorem State.seek_jumpCloses (hx : (s.sq h).started = 6) (hj : s.jumpCrossing h = true) (hg : s.noGain h 1 = false) : s.seek h .jumpClosed =
    (s.jumpClose h ((s.reg (sledKey h 0x16) : Int) - s.reg (hdKey h 0x13 2))).modSq h fun q => { q with started := 3 } :=
  (order_runs hr).trans ((if_neg (by rw [hx]; decide)).trans ((if_pos ⟨hx, hj⟩).trans (if_neg (Bool.eq_false_iff.mp hg))))

theorem State.seek_settles (hx : (s.sq h).started = 4) (ha : s.aged h 1 (s.reg (hdKey h 0x12 9)) = true) : s.seek h .settled =
    ((s.closeTilt h).setSubstate h hsFollowing).orderDone h (s.reg (hdKey h 0x13 2)) :=
  (order_runs hr).trans ((if_neg (by rw [hx]; decide)).trans (if_pos ⟨hx, ha⟩))

end SeekEvents

/-! ### The end of a profile (R213) -/

theorem State.profileEnd_none (ht : (s.sled h).target = none) : s.profileEnd h = s := by
  rw [State.profileEnd, ht]

theorem State.profileEnd_reaches {p : Int} (ht : (s.sled h).target = some p) {u : State}
    (hu : u = ((s.modSled h fun d => { d with target := none, acc := 0, frac := 0, endedAt := s.now }).setRegI 32 (sledKey h 0x1B) p).setRegs
      [(sledKey h 0x1D, 0), (sledKey h 0x1A, 1)]) : s.profileEnd h =
      if (u.sq h).code = some 9 then u.orderDone h 0
      else if (u.sq h).code = some 7 ∧ (u.sq h).started = 1 then
        (u.modSq h fun q => { q with started := 2 }).modHd h fun d => { d with atLayer := u.reg (hdKey h 0x13 1) }
      else u := by
  subst hu
  rw [State.profileEnd, ht]

/-! ### Homing and parking (R214) -/

theorem State.sledHome_idle (he : HomeEvent) (hr : s.runs h 8 = false) : s.sledHome h he = s := order_idle hr

theorem State.sledHome_begins (he : HomeEvent) (hr : s.runs h 8 = true) (hx : (s.sq h).started = 0) : s.sledHome h he =
    if s.substate h = hsOff then
      ((s.modSled h fun d => { d with homing := true, target := none }).setReg (sledKey h 0x1A) 4).modSq h fun q => { q with started := 1 }
    else s.orderRejected h 1 :=
  (order_runs hr).trans (if_pos hx)

theorem State.sledHome_noStop (hr : s.runs h 8 = true) (hx : (s.sq h).started ≠ 0) : s.sledHome h .noStop =
    ((s.modSled h fun d => { d with homing := false }).setRegs [(sledKey h 0x1A, 1), (sledKey h 0x1D, 0)]).orderFailed h 0x0F580008 :=
  (order_runs hr).trans (if_neg hx)

theorem State.sledPark_begins (hr : s.runs h 9 = true) (hx : (s.sq h).started = 0) : s.sledPark h =
    if s.substate h = hsOff ∧ s.reg (sledKey h 0x1C) = 1 then (s.sledParkNow h).modSq h fun q => { q with started := 1 }
    else s.orderRejected h 1 := order_fresh hr hx

theorem State.sledPark_idle (hn : s.runs h 9 = false ∨ (s.sq h).started ≠ 0) : s.sledPark h = s := order_not_fresh hn

/-! ### Clamp orders (R217, R218) -/

section ClampOrders

variable {code st : Nat} {k : Stroke} {ok : Bool}

theorem State.clampOrder_begins (hr : s.runs (16 + i) code = true) (hx : (s.sq (16 + i)).started = 0) : s.clampOrder i code k st ok =
    if s.spinState i = 0 ∧ (s.stn i).stroke = .none ∧ ok = true then (s.startStroke i k st).modSq (16 + i) fun q => { q with started := 1 }
    else s.orderRejected (16 + i) 1 := order_fresh hr hx

theorem State.clampOrder_begun (hx : (s.sq (16 + i)).started ≠ 0) : s.clampOrder i code k st ok = s := order_not_fresh (.inr hx)

end ClampOrders

/-! ### The end of a stroke (R216 to R218, Table 8.6) -/

section ClampStalls

variable {run : Nat} {bemf : List Nat}

theorem State.clampStall_none (hn : (s.stn i).stroke = .none ∨ ¬ s.clampStalls i run bemf = true) : s.clampStall i run bemf = s := by
  have none_ : (if s.clampStalls i run bemf then (s.stn i).stroke else .none) = .none := by
    rcases hn with hn | hn
    · rw [hn, ite_self]
    · exact if_neg hn
  rw [State.clampStall, none_]

theorem State.clampStall_probe (hk : (s.stn i).stroke = .probe) (hs : s.clampStalls i run bemf = true) :
    s.clampStall i run bemf = (s.clampOpen i).clampDone i 1 := by
  rw [State.clampStall, if_pos hs, hk]

theorem State.clampStall_reopen (hk : (s.stn i).stroke = .reopen) (hs : s.clampStalls i run bemf = true) :
    s.clampStall i run bemf = (s.clampOpen i).clampFailed i 0x0F580005 := by
  rw [State.clampStall, if_pos hs, hk]

theorem State.clampStall_unclamp (hk : (s.stn i).stroke = .unclamp) (hs : s.clampStalls i run bemf = true) {u : State}
    (hu : u = (s.clampOpen i).clampDone i 0) : s.clampStall i run bemf =
      if u.stState i = stFault then u.modStn i fun t => { t with faultOpen := true }
      else if u.stState i = stClamped then u.setStation i stEmpty 0x03 else u := by
  subst hu
  rw [State.clampStall, if_pos hs, hk]

end ClampStalls

theorem State.clampLimit_near (hf : s.clampFar i = false) : s.clampLimit i = s := by
  rw [State.clampLimit, hf]
  rfl

theorem State.clampLimit_probe (hk : (s.stn i).stroke = .probe) (hf : s.clampFar i = true) : s.clampLimit i
    = ((((s.strokeOver i).setRegs [(stKey i 0x22 0x0C, 3), (stKey i 0x22 0x0D, 0xFFFFFFFF)]).setStFlag i 3 true).setStFlag i 2 true).clampDone
        i 2 := by
  rw [State.clampLimit, if_pos hf, hk]
  rfl

theorem State.clampLimit_fault (hk : (s.stn i).stroke = .clamp ∨ (s.stn i).stroke = .unclamp ∨ (s.stn i).stroke = .reopen)
    (hf : s.clampFar i = true) : s.clampLimit i = s.strokeFault i (s.reg (stKey i 0x22 0x0A)) := by
  rw [State.clampLimit, if_pos hf]
  rcases hk with hk | hk | hk <;> rw [hk] <;> rfl

/-! ### A clamp stroke that seats (R216, R217) -/

theorem bitOf_setBit (n j k : Nat) : bitOf (setBit n j) k = (bitOf n k || decide (j = k)) := by
  have test : ∀ m, bitOf m k = m.testBit k := fun m => by
    rw [Bool.eq_iff_iff, bitOf, Nat.testBit_eq_decide_div_mod_eq, beq_iff_eq, decide_eq_true_iff]
  rw [test, test, setBit, Nat.testBit_or, Nat.testBit_two_pow]

/-- The objects of a station's two heads are objects of the station. -/
theorem hdKey_upper (off sub : Nat) : hdKey (2 * i) off sub = stKey i (0x40 + off) sub := by
  unfold hdKey stKey hdIx key stIx
  omega

theorem hdKey_lower (off sub : Nat) : hdKey (2 * i + 1) off sub = stKey i (0x80 + off) sub := by
  unfold hdKey stKey hdIx key stIx
  omega

/-- Clearing the feed-forward tables writes objects of the heads only. -/
theorem State.ffClearStation_reg {a x : Nat} (hk : a * 256 + x < 0x4000) : (s.ffClearStation i).reg (stKey i a x) = s.reg (stKey i a x) := by
  have notHead : ∀ off sub, 0x40 ≤ off → stKey i a x ≠ stKey i off sub := fun off sub hoff hc => by
    have := stKey_eq_iff.mp hc
    omega
  simp (disch := omega) only [State.ffClearStation, State.forEach, List.foldl_cons, List.foldl_nil, State.ffClear, State.setRaw_reg, hdKey_upper,
    hdKey_lower, State.reg_setReg, notHead, if_false]

theorem State.ffClearStation_stn (j : Nat) : (s.ffClearStation i).stn j = s.stn j :=
  State.forEach_kept (·.stn j) fun _ _ => by simp only [State.ffClear, State.setReg_stn, State.setRaw_stn]

theorem State.ffClearStation_sq (e : Nat) : (s.ffClearStation i).sq e = s.sq e :=
  State.forEach_kept (·.sq e) fun _ _ => by simp only [State.ffClear, State.setReg_sq, State.setRaw_sq]

theorem State.coefDefaults_reg (k : Nat) : (s.coefDefaults i).reg k = s.reg k :=
  State.forEach_kept (·.reg k) fun _ _ => State.forEach_kept (·.reg k) fun _ _ => State.setRaw_reg ..

theorem State.coefDefaults_stn (j : Nat) : (s.coefDefaults i).stn j = s.stn j :=
  State.forEach_kept (·.stn j) fun _ _ => State.forEach_kept (·.stn j) fun _ _ => State.setRaw_stn ..

theorem State.coefDefaults_sq (e : Nat) : (s.coefDefaults i).sq e = s.sq e :=
  State.forEach_kept (·.sq e) fun _ _ => State.forEach_kept (·.sq e) fun _ _ => State.setRaw_sq ..

theorem State.strokeOver_reg {k : Nat} (hk : k ≠ stKey i 0x22 0x0F) : (s.strokeOver i).reg k = s.reg k := by
  rw [State.strokeOver, State.clampHold, State.emitChopper, State.emit_reg, State.modStn_reg]
  exact State.reg_setReg_ne _ _ hk

theorem State.strokeOver_stn : (s.strokeOver i).stn i = { s.stn i with stroke := .none } := by
  rw [State.strokeOver, State.clampHold, State.emitChopper, State.emit_stn, State.stn_modStn, if_pos rfl, State.setReg_stn]

theorem State.strokeOver_sq (e : Nat) : (s.strokeOver i).sq e = s.sq e := by
  rw [State.strokeOver, State.clampHold, State.emitChopper, State.emit_sq, State.modStn_sq, State.setReg_sq]

theorem State.stFlag_setStFlag (b c : Nat) : (s.setStFlag i b true).stFlag i c = (s.stFlag i c || decide (b = c)) := by
  rw [State.stFlag, State.setStFlag, State.setRegBit, State.reg_setReg_same, putBit, if_pos rfl, bitOf_setBit, State.stFlag]

/-- DISC_PRES is low on a closed clamp: a mismatch (R116). -/
def State.discChecked (s : State) (i : Nat) : State := if s.discHigh i then s else s.discMismatch i

theorem State.discChecked_stn (j : Nat) : (s.discChecked i).stn j = s.stn j := by
  unfold State.discChecked
  split <;> rfl

theorem State.discMismatch_reg {k : Nat} (hflags : k ≠ stKey i 0 5) (hcount : k ≠ stKey i 0xE0 7) : (s.discMismatch i).reg k = s.reg k := by
  rw [State.discMismatch, State.setStFlag, State.setRegBit, State.reg_setReg_ne _ _ hflags, State.bump, State.addReg,
    State.reg_setReg_ne _ _ hcount]

theorem State.discChecked_reg {k : Nat} (hflags : k ≠ stKey i 0 5) (hcount : k ≠ stKey i 0xE0 7) : (s.discChecked i).reg k = s.reg k :=
  State.reg_ite rfl (State.discMismatch_reg hflags hcount)

theorem State.discChecked_flag {c : Nat} (hc : s.stFlag i c = true) : (s.discChecked i).stFlag i c = true := by
  have counted : (s.bump (stKey i 0xE0 7)).stFlag i c = s.stFlag i c := by
    rw [State.stFlag, State.bump, State.addReg, State.reg_setReg_ne _ _ (by simp [stKey_eq_iff]), State.stFlag]
  unfold State.discChecked
  split
  · exact hc
  · rw [State.discMismatch, State.stFlag_setStFlag, counted, hc, Bool.true_or]

/-- A stroke ends CLAMPED at `p`. -/
def State.clampClosed (s : State) (i p : Nat) : State :=
  ((s.setRegs [(stKey i 0x22 0x0E, p), (stKey i 0x22 0x0D, p)]).strokeOver i).setReg (stKey i 0x22 0x0C) 3

/-- The clamp is seated at `p`: the disc is found clamped, and what was learned of the one before is forgotten. -/
def State.clampSeated (s : State) (i p : Nat) : State :=
  let u := (((s.clampClosed i p).setStFlag i 2 true).bump (stKey i 0 0x0F)).ffClearStation i
  ((u.modStn i fun t => { t with angleSet := false }).coefDefaults i).discChecked i

theorem State.clampClosed_reg {p k : Nat} (hstate : k ≠ stKey i 0x22 0x0C) (hstop : k ≠ stKey i 0x22 0x0E) (htime : k ≠ stKey i 0x22 0x0F) :
    (s.clampClosed i p).reg k = if k = stKey i 0x22 0x0D then p else s.reg k := by
  rw [State.clampClosed, State.reg_setReg_ne _ _ hstate, State.strokeOver_reg htime, State.setRegs_cons, State.setRegs_cons, State.setRegs_nil,
    State.reg_setReg, State.reg_setReg_ne _ _ hstop]

theorem State.clampSeated_stn (p : Nat) : (s.clampSeated i p).stn i = { s.stn i with stroke := .none, angleSet := false } := by
  simp only [State.clampSeated, State.clampClosed, State.discChecked_stn, State.coefDefaults_stn, State.stn_modStn, if_true,
    State.ffClearStation_stn, State.bump, State.addReg, State.setStFlag, State.setRegBit, State.setReg_stn, State.strokeOver_stn,
    State.setRegs_cons, State.setRegs_nil]

/-- Of a station's own objects a seated clamp writes its flags, its count of clamps and the clamp's objects. -/
theorem State.clampSeated_reg {p a x : Nat} (hk : a * 256 + x < 0x4000) (hflags : a * 256 + x ≠ 5) (hcount : a * 256 + x ≠ 0x0F) :
    (s.clampSeated i p).reg (stKey i a x) = (s.clampClosed i p).reg (stKey i a x) := by
  have other : ∀ b y, a * 256 + x ≠ b * 256 + y → stKey i a x ≠ stKey i b y := fun b y hne hc => hne (stKey_eq_iff.mp hc)
  rw [State.clampSeated, State.discChecked_reg (other 0 5 (by omega)) (other 0xE0 7 (by omega)), State.coefDefaults_reg, State.modStn_reg,
    State.ffClearStation_reg hk, State.bump, State.addReg, State.reg_setReg_ne _ _ (other 0 0x0F (by omega)), State.setStFlag, State.setRegBit,
    State.reg_setReg_ne _ _ (other 0 5 (by omega))]

theorem State.clampSeated_found (p : Nat) : (s.clampSeated i p).stFlag i 2 = true := by
  refine State.discChecked_flag ?_
  rw [State.stFlag, State.coefDefaults_reg, State.modStn_reg, State.ffClearStation_reg (by decide), State.bump, State.addReg,
    State.reg_setReg_ne _ _ (by simp [stKey_eq_iff]), ← State.stFlag, State.stFlag_setStFlag]
  simp

theorem State.clampSeated_sq (p e : Nat) : (s.clampSeated i p).sq e = s.sq e := by
  have checked : ∀ u : State, (u.discChecked i).sq e = u.sq e := fun u => by
    unfold State.discChecked
    split <;> rfl
  simp only [State.clampSeated, State.clampClosed, checked, State.coefDefaults_sq, State.modStn_sq, State.ffClearStation_sq, State.bump,
    State.addReg, State.setStFlag, State.setRegBit, State.setReg_sq, State.strokeOver_sq, State.setRegs_cons, State.setRegs_nil]

/-- A stall within the window seats the clamp; with no order to end and the station not EMPTY that is all. -/
theorem State.clampStall_seats {run : Nat} {bemf : List Nat} (hk : (s.stn i).stroke = .clamp) (hs : s.clampStalls i run bemf = true) {p : Nat}
    (hp : p = s.clampNow i) (hlow : s.reg (stKey i 0x22 8) ≤ p) (hhigh : p ≤ s.reg (stKey i 0x22 9)) (ho : (s.sq (16 + i)).code = none)
    (hst : s.stState i ≠ stEmpty) : s.clampStall i run bemf = s.clampSeated i p := by
  subst hp
  have window : ∀ u : State, u = s.setRegs [(stKey i 0x22 0x0E, s.clampNow i), (stKey i 0x22 0x0D, s.clampNow i)] →
      u.reg (clampKey i 8) ≤ s.clampNow i ∧ s.clampNow i ≤ u.reg (clampKey i 9) := by
    rintro u rfl
    rw [clampKey, clampKey, State.reg_setRegs_ne _ _ _ (by simp [stKey_eq_iff]), State.reg_setRegs_ne _ _ _ (by simp [stKey_eq_iff])]
    exact ⟨hlow, hhigh⟩
  have noOrder : (s.clampSeated i (s.clampNow i)).clampDone i (s.clampNow i) = s.clampSeated i (s.clampNow i) := by
    rw [State.clampDone, State.clampSeated_sq, ho]
  have notEmpty : (s.clampSeated i (s.clampNow i)).stState i ≠ stEmpty := by
    rw [State.stState, State.clampSeated_reg (by decide) (by decide) (by decide),
      State.clampClosed_reg (by simp [stKey_eq_iff]) (by simp [stKey_eq_iff]) (by simp [stKey_eq_iff]), if_neg (by simp [stKey_eq_iff])]
    exact hst
  rw [State.clampStall, if_pos hs, hk]
  refine (if_pos (window _ rfl)).trans ?_
  extract_lets closed found anew checked trigger ended
  have hended : ended = s.clampSeated i (s.clampNow i) := noOrder
  rw [hended]
  exact if_neg notEmpty

/-! ### The obligation -/

/-- Settles O42, command by command, from the cases above. -/
theorem sledsAndClamps : Obligations.SledsAndClamps := by
  unfold Obligations.SledsAndClamps
  intro s h i run rotor bemf p he se r x y d t begun still stalled pos home again lost marked tracks reach at_
  refine ⟨?setPoint, ?stands, ?homed, ?noStall, ?stalls, ?homeBegins, ?homeRejected, ?homeNoStop, ?homeIdle, ?parkBegins, ?parkRejected,
    ?parkIdle, ?seekRejected, ?seekReach, ?seekBegins, ?seekReads, ?seekJumps, ?seekSettles, ?seekIdle, ?profileEnds, ?noProfile,
    ?clampBegins, ?clampRejected, ?unclampBegins, ?unclampRejected, ?probeBegins, ?probeRejected, ?strokeBegun, ?noStroke, ?probeOpen,
    ?reopened, ?unclamped, ?seats, ?probeClosed, ?strokeFails, ?notFar⟩
  case setPoint => rfl
  case stands => exact fun ht hh hf => ⟨_, rfl, State.sledPoint_stands rotor ht hh hf⟩
  case homed => exact fun hh => congrArg _ (if_pos hh)
  case noStall => exact fun hh hb => congrArg _ ((if_neg (Bool.eq_false_iff.mp hh)).trans (if_neg (Nat.not_le.mpr hb)))
  case stalls => exact fun hh hb => congrArg _ ((if_neg (Bool.eq_false_iff.mp hh)).trans (if_pos hb))
  case homeBegins => exact fun hr hx hs => congrArg _ ((State.sledHome_begins he hr hx).trans (if_pos hs))
  case homeRejected => exact fun hr hx hs => congrArg _ ((State.sledHome_begins he hr hx).trans (if_neg hs))
  case homeNoStop => exact fun hr hx => congrArg _ (State.sledHome_noStop hr hx)
  case homeIdle => exact fun hr => congrArg _ (State.sledHome_idle he hr)
  case parkBegins => exact fun hr hx hs hk => congrArg _ ((State.sledPark_begins hr hx).trans (if_pos ⟨hs, hk⟩))
  case parkRejected =>
    exact fun hr hx hno => congrArg _ ((State.sledPark_begins hr hx).trans (if_neg fun hc => hno.elim (· hc.1) (· hc.2)))
  case parkIdle => exact fun hn => congrArg _ (State.sledPark_idle hn)
  case seekRejected =>
    exact fun hr hx hno => congrArg _ ((State.seek_begins se hr hx).trans (if_neg fun hc => hno.elim (· hc.1) (· hc.2)))
  case seekReach =>
    exact fun hr hx ht hk hno => congrArg _ ((State.seek_begins se hr hx).trans ((if_pos ⟨ht, hk⟩).trans (if_neg hno)))
  case seekBegins =>
    intro hr hx ht hk hreach hl
    have begins : exec (.seek h se) s = .next ((s.seekOpened h).seekBegun h (s.reg (sledKey h 0x16))) :=
      congrArg _ ((State.seek_begins se hr hx).trans ((if_pos ⟨ht, hk⟩).trans (if_pos hreach)))
    have sleds : ((s.seekOpened h).stn (h / 2)).sleds.length = 2 := by
      rw [State.stn, State.seekOpened_stns]
      exact hl
    exact ⟨_, begins, State.seekBegun_started _, State.seekBegun_target sleds _⟩
  case seekReads => exact fun hr hx => congrArg _ (State.seek_reads hr hx)
  case seekJumps => exact fun hr hx hj hg => congrArg _ (State.seek_jumpCloses hr hx hj hg)
  case seekSettles => exact fun hr hx ha => congrArg _ (State.seek_settles hr hx ha)
  case seekIdle => exact fun hr => congrArg _ (State.seek_idle se hr)
  case profileEnds => exact fun ht => congrArg _ (State.profileEnd_reaches ht rfl)
  case noProfile => exact fun ht => congrArg _ (State.profileEnd_none ht)
  case clampBegins =>
    exact fun hr hx hs ho => congrArg _ ((State.clampOrder_begins hr hx).trans (if_pos ⟨hs.1, hs.2, beq_iff_eq.mpr ho⟩))
  case clampRejected =>
    exact fun hr hx hno => congrArg _ ((State.clampOrder_begins hr hx).trans
      (if_neg fun hc => hno.elim (· ⟨hc.1, hc.2.1⟩) (· (beq_iff_eq.mp hc.2.2))))
  case unclampBegins => exact fun hr hx hs => congrArg _ ((State.clampOrder_begins hr hx).trans (if_pos ⟨hs.1, hs.2, rfl⟩))
  case unclampRejected => exact fun hr hx hs => congrArg _ ((State.clampOrder_begins hr hx).trans (if_neg fun hc => hs ⟨hc.1, hc.2.1⟩))
  case probeBegins => exact fun hr hx hs => congrArg _ ((State.clampOrder_begins hr hx).trans (if_pos ⟨hs.1, hs.2, rfl⟩))
  case probeRejected => exact fun hr hx hs => congrArg _ ((State.clampOrder_begins hr hx).trans (if_neg fun hc => hs ⟨hc.1, hc.2.1⟩))
  case strokeBegun =>
    exact fun hx => ⟨congrArg _ (State.clampOrder_begun hx), congrArg _ (State.clampOrder_begun hx), congrArg _ (State.clampOrder_begun hx)⟩
  case noStroke => exact fun hn => congrArg _ (State.clampStall_none hn)
  case probeOpen => exact fun hk hs => congrArg _ (State.clampStall_probe hk hs)
  case reopened => exact fun hk hs => congrArg _ (State.clampStall_reopen hk hs)
  case unclamped => exact fun hk hs => congrArg _ (State.clampStall_unclamp hk hs rfl)
  case seats =>
    intro hk hs hlow hhigh ho hst
    refine ⟨s.clampSeated i pos, congrArg _ (State.clampStall_seats hk hs rfl hlow hhigh ho hst), ?_, ?_, State.clampSeated_found _, ?_, ?_⟩
    · rw [State.clampSeated_reg (by decide) (by decide) (by decide), State.clampClosed, State.reg_setReg_same]
    · rw [State.clampSeated_reg (by decide) (by decide) (by decide),
        State.clampClosed_reg (by simp [stKey_eq_iff]) (by simp [stKey_eq_iff]) (by simp [stKey_eq_iff]), if_pos rfl]
    · rw [State.clampSeated_stn]
    · rw [State.clampSeated_stn]
  case probeClosed => exact fun hk hf => congrArg _ (State.clampLimit_probe hk hf)
  case strokeFails => exact fun hk hf => congrArg _ (State.clampLimit_fault hk hf)
  case notFar => exact fun hf => congrArg _ (State.clampLimit_near hf)

end Sys2Proof.Machine
end

section
/-! The microwords that touch only their sequencer, and the control stores (R224 to R227, R236, R238, Tables 9.1 and 9.2): the flags of a
result, where a word goes on, what a wait leaves, then the obligations. -/

namespace Sys2Proof.Machine

variable {s t : State} {q : Nat}

/-! ### A word that runs is its effect -/

/-- A word that a sequencer runs takes its effect, and a spin-up that the effect ends is dropped. -/
theorem micro_next {op d r imm : Nat} {b : Bool} {f : State → State} (h : s.runsWord q op d r imm = true) (hb : b = false)
    (hf : f s = t) : s.micro q op d r imm b f = .next (t.spinLeft s q) := by
  have runs : ((s.sq q).live && s.holds q op d r imm) = true := h
  rw [State.micro, if_pos runs, hb, if_neg Bool.false_ne_true, hf]

variable {x : Seq} {ks : List Nat}

/-- A change of the sequencer alone that keeps its order's code ends no spin-up. -/
theorem State.OnlySeq.spinLeft (h : s.OnlySeq t q x ks) (hc : x.code = (s.sq q).code) : s.OnlySeq (t.spinLeft s q) q x ks := by
  rw [State.spinLeft_same (h.1 ▸ hc)]
  exact h

/-- A further change of what no register shows. -/
theorem State.OnlySeq.modSq {f : Seq → Seq} (h : s.OnlySeq t q x ks) (hshown : (f x).shown = x.shown) (hpc : (f x).pc = x.pc) :
    s.OnlySeq (t.modSq q f) q (f x) ks := by
  obtain ⟨hx, hothers, hstate, hmpc, hregs, hrest⟩ := h
  refine ⟨by rw [sq_modSq_same, hx], fun j hj => ?_, hstate.trans hshown.symm, hmpc.trans hpc.symm, hregs, hrest⟩
  rw [State.sq_modSq, if_neg hj, hothers j hj]

/-! ### Results and flags (R226, Table 9.1) -/

theorem addFlags_eq (u v : BitVec 32) : addFlags u v = ⟨u + v, u + v == 0, (u + v).msb, decide (2 ^ 32 ≤ u.toNat + v.toNat),
    decide (u.toInt + v.toInt < -2147483648 ∨ 2147483648 ≤ u.toInt + v.toInt)⟩ := rfl

theorem subFlags_eq (u v : BitVec 32) : subFlags u v = ⟨u - v, u - v == 0, (u - v).msb, decide (u.toNat < v.toNat),
    decide (u.toInt - v.toInt < -2147483648 ∨ 2147483648 ≤ u.toInt - v.toInt)⟩ := rfl

theorem logicFlags_eq (u : BitVec 32) : logicFlags u = ⟨u, u == 0, u.msb, false, false⟩ := rfl

/-- The low half of an integer product is the low half of the exact one. -/
theorem mulFlags_integer (u v : BitVec 32) (c : Bool) {p : Int} (hp : p = u.toInt * v.toInt) : mulFlags u v false c
    = ⟨BitVec.ofInt 32 p, BitVec.ofInt 32 p == 0, (BitVec.ofInt 32 p).msb, c, decide (p < -2147483648 ∨ 2147483648 ≤ p)⟩ := by
  have low : BitVec.ofInt 32 p = u * v := by rw [hp, BitVec.ofInt_mul, BitVec.ofInt_toInt, BitVec.ofInt_toInt]
  rw [low, hp]
  rfl

theorem mulFlags_fraction (u v : BitVec 32) (c : Bool) {r : Int} (hr : r = roundDiv (u.toInt * v.toInt) 8388608) : mulFlags u v true c
    = ⟨BitVec.ofInt 32 (sat24 r), BitVec.ofInt 32 (sat24 r) == 0, (BitVec.ofInt 32 (sat24 r)).msb, c, sats r⟩ := by
  rw [hr]
  rfl

theorem bitOf_iff (n i : Nat) : bitOf n i = true ↔ ¬ n / 2 ^ i % 2 = 0 := by
  rw [bitOf, beq_iff_eq, ← ne_eq, Nat.mod_two_ne_zero]

theorem shiftResult_eq (u : BitVec 32) (imm : Nat) : shiftResult u imm = if imm / 32 % 2 = 0 then u <<< (imm % 32)
    else if imm / 64 % 2 = 0 then u >>> (imm % 32) else u.sshiftRight (imm % 32) := by
  simp only [shiftResult, bitOf_iff, Nat.reducePow, ite_not]

/-- The sequencer after a word that puts the flags `o`, in whatever form they are given. -/
theorem onlySeq_putFlags_of {o o' : FlagsOut} (ho : o = o') (d : Option Nat) : s.OnlySeq (s.putFlags q d o) q { s.sq q with
      pc := (s.sq q).nextPc, z := o'.z, n := o'.n, c := o'.c, v := o'.v
      m := match d with | some d => (s.sq q).m.set d o'.res | none => (s.sq q).m } [] := ho ▸ onlySeq_putFlags s q d o

/-- Settles O1: each word puts the flags of its result. -/
theorem arithmeticMicrowords : Obligations.ArithmeticMicrowords := by
  unfold Obligations.ArithmeticMicrowords
  intro s q d r imm x a b i sum diff bits p low frac
  simp only [exec_add, exec_sub, exec_addi, exec_and, exec_or, exec_xor, exec_shift, exec_mul, exec_cmp, exec_cmpi]
  refine ⟨?add, ?sub, ?addi, ?and, ?or, ?xor, ?shift, ?mul, ?mulFraction, ?cmp, ?cmpi⟩
  case add => exact fun h => micro_only h (onlySeq_putFlags_of (addFlags_eq a b) (some d))
  case sub => exact fun h => micro_only h (onlySeq_putFlags_of (subFlags_eq a b) (some d))
  case addi => exact fun h => micro_only h (onlySeq_putFlags_of (addFlags_eq a i) (some d))
  case and => exact fun h => micro_only h (onlySeq_putFlags_of (logicFlags_eq (a &&& b)) (some d))
  case or => exact fun h => micro_only h (onlySeq_putFlags_of (logicFlags_eq (a ||| b)) (some d))
  case xor => exact fun h => micro_only h (onlySeq_putFlags_of (logicFlags_eq (a ^^^ b)) (some d))
  case shift =>
    intro h hi
    have shifted := (congrArg logicFlags (shiftResult_eq a imm)).trans (logicFlags_eq _)
    exact micro_only h (onlySeq_putFlags_of shifted (some d)) rfl (decide_eq_false (Nat.not_le.mpr hi))
  case mul => exact fun h => micro_only h (onlySeq_putFlags_of (mulFlags_integer a b x.c rfl) (some d))
  case mulFraction => exact fun h => micro_only h (onlySeq_putFlags_of (mulFlags_fraction a b x.c rfl) (some d))
  case cmp => exact fun h => micro_only h (onlySeq_putFlags_of (subFlags_eq a b) none)
  case cmpi => exact fun h => micro_only h (onlySeq_putFlags_of (subFlags_eq a i) none)

/-! ### Jumps, calls and returns (R227, R238) -/

theorem Seq.inCustomer_iff : x.inCustomer = true ↔ 0x3800 ≤ x.pc := decide_eq_true_iff

variable {imm : Nat}

/-- A jump whose condition holds, and that does not leave the customer region. -/
theorem execJmp_jumps (h : s.runsWord q 1 0 0 imm = true) (hk : bitsOf imm 17 14 < 14)
    (hc : jumpCond (s.sq q).z (s.sq q).n (s.sq q).c (s.sq q).v (s.sq q).ev (bitsOf imm 17 14) = true)
    (hr : (s.sq q).pc < 0x3800 ∨ 0x3800 ≤ imm % 0x4000) : execJmp q imm s = .next ((s.goTo q (imm % 0x4000)).spinLeft s q) := by
  have stays : ¬ ((s.sq q).inCustomer = true ∧ imm % 0x4000 < 0x3800) := by
    rw [Seq.inCustomer_iff]
    omega
  exact micro_next h (decide_eq_false (Nat.not_le.mpr hk)) ((if_pos hc).trans (if_neg stays))

theorem execJmp_leaves (h : s.runsWord q 1 0 0 imm = true) (hk : bitsOf imm 17 14 < 14)
    (hc : jumpCond (s.sq q).z (s.sq q).n (s.sq q).c (s.sq q).v (s.sq q).ev (bitsOf imm 17 14) = true)
    (hin : 0x3800 ≤ (s.sq q).pc) (hout : imm % 0x4000 < 0x3800) : execJmp q imm s = .next ((s.latheFault q 0x0F590004).spinLeft s q) :=
  micro_next h (decide_eq_false (Nat.not_le.mpr hk)) ((if_pos hc).trans (if_pos ⟨Seq.inCustomer_iff.mpr hin, hout⟩))

theorem execJmp_falls (h : s.runsWord q 1 0 0 imm = true) (hk : bitsOf imm 17 14 < 14)
    (hc : jumpCond (s.sq q).z (s.sq q).n (s.sq q).c (s.sq q).v (s.sq q).ev (bitsOf imm 17 14) = false) :
    execJmp q imm s = .next ((s.nextWord q).spinLeft s q) :=
  micro_next h (decide_eq_false (Nat.not_le.mpr hk)) (if_neg (Bool.eq_false_iff.mp hc))

/-- A call within a region, or from the customer's through an entry word, pushes. -/
theorem execCall_pushes (h : s.runsWord q 2 0 0 imm = true) (hi : imm < 0x4000)
    (hr : (s.sq q).pc < 0x3800 ∨ 0x3800 ≤ imm ∨ (0x30 ≤ imm ∧ imm < 0x40)) :
    execCall q imm s = .next ((s.push q imm).spinLeft s q) := by
  have plain : (bitsOf imm 17 14 != 0) = false := by
    rw [bitsOf, Nat.div_eq_of_lt (by omega)]
    rfl
  refine micro_next h plain ?_
  dsimp only
  rw [Nat.mod_eq_of_lt hi]
  split
  · next leaves =>
    have hin := Seq.inCustomer_iff.mp leaves.1
    rw [if_neg (by omega), if_pos (by omega)]
  · rfl

theorem State.push_full (hl : 8 ≤ (s.sq q).stack.length) (p : Nat) : s.push q p = s.latheFault q 0x0F590003 := if_pos hl

theorem State.push_only (hl : (s.sq q).stack.length < 8) {p : Nat} (hp : p < 0x4000) :
    s.OnlySeq (s.push q p) q { s.sq q with stack := (s.sq q).nextPc :: (s.sq q).stack, pc := p } [] := by
  rw [State.push, if_neg (Nat.not_le.mpr hl), State.goTo]
  exact onlySeq_mod2 _ _ (by rw [Nat.mod_eq_of_lt hp]; rfl)

theorem execRet_pops (h : s.runsWord q 3 0 0 0 = true) {a : Nat} {l : List Nat} (hs : (s.sq q).stack = a :: l) :
    execRet q 0 s = .next (((s.modSq q fun y => { y with stack := l }).goTo q a).spinLeft s q) :=
  micro_next h rfl (by rw [hs])

theorem execRet_empty (h : s.runsWord q 3 0 0 0 = true) (hs : (s.sq q).stack = []) :
    execRet q 0 s = .next ((s.latheFault q 0x0F590003).spinLeft s q) :=
  micro_next h rfl (by rw [hs])

/-! ### The end of a wait (R236) -/

theorem execWaitExpiry_time {u : Nat} (hw : (s.sq q).wait = .time u) :
    execWaitExpiry q s = .next ((s.modSq q fun y => { y with wait := .none }).seqView q) := by
  rw [execWaitExpiry, hw]

theorem execWaitExpiry_deadline {m u : Nat} (hw : (s.sq q).wait = .cond m (some u)) :
    execWaitExpiry q s = .next ((s.modSq q fun y => { y with wait := .none, ev := false }).seqView q) := by
  rw [execWaitExpiry, hw]

theorem execWaiteCondition_fires {m n : Nat} {u : Option Nat} (hw : (s.sq q).wait = .cond m u) (hm : bitOf m n = true) :
    execWaiteCondition q n s
      = .next ((s.modSq q fun y => { y with wait := .none, ev := true, latched := setBit y.latched n }).seqView q) := by
  rw [execWaiteCondition, hw]
  exact congrArg _ (if_pos hm)

/-- Settles O2, word by word, from the cases above. -/
theorem controlMicrowords : Obligations.ControlMicrowords := by
  unfold Obligations.ControlMicrowords
  intro s q d r imm n x st next armed
  simp only [exec_nop, exec_ldi, exec_lui, exec_mov, exec_evt, exec_jmp, exec_call, exec_ret, exec_wait, exec_waite, exec_strb,
    exec_waitExpiry, exec_waiteCondition]
  refine ⟨?nop, ?ldi, ?lui, ?mov, ?evt, ?falls, ?jumps, ?leaves, ?call, ?callFull, ?ret, ?retEmpty, ?wait, ?waite, ?strb,
    ?expiry, ?deadline, ?condition⟩
  case nop => exact fun h => micro_only h (onlySeq_nextWord s q)
  case ldi => exact fun h => micro_only h (onlySeq_putM s q d _)
  case lui => exact fun h => micro_only h (onlySeq_putM s q d _)
  case mov => exact fun h => micro_only h (onlySeq_putM s q d _)
  case evt => exact fun h => micro_only h ((onlySeq_putM s q d _).modSq rfl rfl)
  case falls =>
    exact fun h hk hc => ⟨_, execJmp_falls h hk hc, (onlySeq_nextWord s q).spinLeft rfl⟩
  case jumps =>
    intro h hk hc hr
    have gone := onlySeq_goTo s q (imm % 0x4000)
    rw [Nat.mod_mod] at gone
    exact ⟨_, execJmp_jumps h hk hc hr, gone.spinLeft rfl⟩
  case leaves => exact fun h hk hc hin hout => execJmp_leaves h hk hc hin hout
  case call => exact fun h hi hr hl => ⟨_, execCall_pushes h hi hr, (State.push_only hl hi).spinLeft rfl⟩
  case callFull =>
    intro h hi hr hl
    rw [execCall_pushes h hi hr, State.push_full hl]
  case ret => exact fun a l h hs => ⟨_, execRet_pops h hs, (onlySeq_mod2 _ _ rfl).spinLeft rfl⟩
  case retEmpty => exact fun h hs => execRet_empty h hs
  case wait => exact fun h => micro_only h (waitFor_only s q _)
  case waite =>
    intro h hi
    refine micro_only h (onlySeq_pre (f := fun y => { y with latched := 0, ev := false }) (onlySeq_sub (waitFor_only _ q _) ?_)) rfl hi
    rw [sq_modSq_same]
    rfl
  case strb => exact fun h hi => micro_only h (waitFor_only s q _) rfl (decide_eq_false (Nat.not_le.mpr hi))
  case expiry => exact fun u hw => ⟨_, execWaitExpiry_time hw, onlySeq_mod _ rfl⟩
  case deadline => exact fun m u hw => ⟨_, execWaitExpiry_deadline hw, onlySeq_mod _ rfl⟩
  case condition => exact fun m u hw hm => ⟨_, execWaiteCondition_fires hw hm, onlySeq_mod _ rfl⟩

/-! ### The control stores (R224, R225) -/

variable {st : Nat}

/-- A loaded store is patrolled: the next word is the one after, and a single-bit error counts. -/
theorem execStorePatrol_reads (single : Bool) (hl : s.stores.loaded.contains st = true) {read : State}
    (hr : read = { s with stores := { s.stores with
      patrol := putKey st (((findKey st s.stores.patrol).getD 0 + 1) % 16384) 0 s.stores.patrol } }) :
    execStorePatrol st single s = .next (if single = true then read.bump (key (0x5410 + st) 0x10) else read) := by
  rw [hr]
  exact congrArg _ (if_pos hl)

theorem execStoreUncorrectable_loaded (addr : Nat) (fetch : Bool) (by_ : Nat) (same : Bool) (hl : s.stores.loaded.contains st = true) :
    execStoreUncorrectable st addr fetch by_ same s = .next (s.storeLost st addr fetch by_ same) := congrArg _ (if_pos hl)

/-- With a digest that disagrees the store's mismatch follows, after the Lathe fault of a fetched word. -/
theorem State.storeLost_mismatch (addr : Nat) (fetch : Bool) (by_ : Nat) {lost : State} (hlost : lost = s.bump (key (0x5410 + st) 0x11)) :
    s.storeLost st addr fetch by_ false = (if fetch = true then
      (lost.latheFault (seqOf st by_) 0x0F590007).spinLeft lost (seqOf st by_) else lost).storeMismatch st addr := by
  rw [hlost]
  rfl

/-- A word that nothing fetched, rewritten under a digest that agrees, is only counted. -/
theorem State.storeLost_rewritten (addr by_ : Nat) : s.storeLost st addr false by_ true = s.bump (key (0x5410 + st) 0x11) := rfl

/-- Settles O5: each command by its cases, with its counter. -/
theorem controlStores : Obligations.ControlStores := by
  unfold Obligations.ControlStores
  intro s st addr by_ corrected lost read hl
  refine ⟨?clean, ?corrected, ?rewritten, ?mismatch, ?fetched⟩
  case clean => exact execStorePatrol_reads false hl rfl
  case corrected => exact execStorePatrol_reads true hl rfl
  case rewritten => exact execStoreUncorrectable_loaded addr false by_ true hl
  case mismatch =>
    rw [exec_storeUncorrectable, execStoreUncorrectable_loaded addr false by_ false hl, State.storeLost_mismatch addr false by_ rfl]
    rfl
  case fetched =>
    rw [exec_storeUncorrectable, execStoreUncorrectable_loaded addr true by_ false hl, State.storeLost_mismatch addr true by_ rfl]
    rfl

end Sys2Proof.Machine
end

section
/-! Orders of a sequencer (R226, R230 to R240): what the end of an order, its dispatch, a trap and its frame make of the sequencer and
of the result object 0x3s03, then the obligation. -/

namespace Sys2Proof.Machine

variable {s t : State} {q : Nat}

/-! ### Changes that concern no sequencer -/

@[simp] theorem State.setRegs_sq (l : List (Nat × Nat)) (j : Nat) : (s.setRegs l).sq j = s.sq j := by
  induction l generalizing s with
  | nil => rfl
  | cons p l ih => exact ih

@[simp] theorem State.endResult_sq (ix : Nat) (data : List (Nat × Nat)) (code j : Nat) : (s.endResult ix data code).sq j = s.sq j := by
  rw [State.endResult, State.setRegs_sq, State.setRegs_sq]

@[simp] theorem State.seqView_sq (e j : Nat) : (s.seqView e).sq j = s.sq j := State.setRegs_sq _ _

theorem State.sq_ite {c : Prop} [Decidable c] {u v : State} {j : Nat} (hu : u.sq j = s.sq j) (hv : v.sq j = s.sq j) :
    (if c then u else v).sq j = s.sq j := by
  split <;> assumption

@[simp] theorem State.measureStop_sq (e j : Nat) : (s.measureStop e).sq j = s.sq j := by
  unfold State.measureStop
  split
  · rfl
  · exact State.sq_ite rfl rfl

@[simp] theorem State.closeResult_sq (e c code j : Nat) : (s.closeResult e c code).sq j = s.sq j := by
  unfold State.closeResult
  refine State.sq_ite rfl (State.sq_ite ?_ (State.sq_ite ?_ (State.sq_ite ?_ rfl))) <;>
    simp only [State.endResult_sq, State.modEng_sq, State.measureStop_sq, State.setReg_sq, State.modHd_sq]

@[simp] theorem State.endDirect_sq (e status reason ret j : Nat) : (s.endDirect e status reason ret).sq j = s.sq j := by
  rw [State.endDirect, State.endResult_sq, State.setLathe, State.setReg_sq]

/-- What a change makes of the sequencer as it stands is all that counts. -/
theorem State.modSq_congr {f g : Seq → Seq} (h : f (s.sq q) = g (s.sq q)) : s.modSq q f = s.modSq q g := by
  rw [State.modSq, State.modSq, h]

/-! ### A spin-up that is dropped (R100) -/

theorem State.causeHere_sq (e l bit : Nat) (on : Bool) (j : Nat) : (s.causeHere e l bit on).sq j = s.sq j := by
  unfold State.causeHere
  dsimp only
  (repeat' split) <;> rfl

theorem State.loopOff_sq (e l j : Nat) : (s.loopOff e l).sq j = s.sq j := by
  refine State.sq_ite ?_ rfl
  simp only [State.recouple, State.causeHere_sq]
  rfl

theorem State.sendGrantReq_sq (i : Nat) (ask : Bool) (j : Nat) : (s.sendGrantReq i ask).sq j = s.sq j := State.sq_ite rfl rfl

theorem State.freeSlot_sq (i j : Nat) : (s.freeSlot i).sq j = s.sq j :=
  State.sq_ite ((State.sendGrantReq_sq ..).trans rfl) rfl

theorem State.dropSpin_sq (i j : Nat) : (s.dropSpin i).sq j = s.sq j := by
  unfold State.dropSpin State.freewheel
  dsimp only
  rw [State.setReg_sq, State.modStn_sq, State.emitBridge, State.emit_sq, State.setReg_sq, State.loopOff_sq, State.freeSlot_sq]

theorem State.spinLeft_sq (u : State) (e j : Nat) : (s.spinLeft u e).sq j = s.sq j := State.sq_ite (State.dropSpin_sq ..) rfl

/-! ### Registers that an order's end leaves: those of object 0x3s03 lie at offset 3 of a station's block -/

theorem key_div {sub : Nat} (hsub : sub < 256) (ix : Nat) : key ix sub / 256 = ix := by
  unfold key
  omega

theorem key_ne {x y : Nat} (h : x ≠ y) (ix : Nat) : key ix x ≠ key ix y := fun hc => h (Nat.add_left_cancel hc)

/-- A request's end writes its own object. -/
theorem State.endResult_reg_other {ix k : Nat} {data : List (Nat × Nat)} (hdata : ∀ p ∈ data, p.1 < 256) (hk : k / 256 ≠ ix) (code : Nat) :
    (s.endResult ix data code).reg k = s.reg k := by
  have own : ∀ {sub : Nat}, sub < 256 → key ix sub ≠ k := fun hsub hc => hk (hc ▸ key_div hsub ix)
  rw [State.endResult, State.reg_setRegs_ne, State.reg_setRegs_ne]
  · intro p hp
    obtain ⟨d, hd, rfl⟩ := List.mem_map.mp hp
    exact own (hdata d hd)
  · intro p hp
    simp only [List.mem_cons, List.not_mem_nil, or_false] at hp
    rcases hp with rfl | rfl | rfl <;> exact own (by decide)

/-- A request's end with one datum: what its object shows. -/
theorem State.endResult_shows (ix a v code : Nat) (ha : 4 < a) {again : Nat}
    (hq : again = if s.reg (key ix 3) = 0xFFFFFFFF then 1 else s.reg (key ix 3) + 1) :
    (s.endResult ix [(a, v)] code).reg (key ix a) = v ∧ (s.endResult ix [(a, v)] code).reg (key ix 4) = code
      ∧ (s.endResult ix [(a, v)] code).reg (key ix 2) = (if code = 0 then 2 else 3)
      ∧ (s.endResult ix [(a, v)] code).reg (key ix 3) = again := by
  simp only [State.endResult, List.map_cons, List.map_nil, State.setRegs_cons, State.setRegs_nil]
  refine ⟨?_, ?_, State.reg_setReg_same .., ?_⟩
  · rw [State.reg_setReg_ne _ _ (key_ne (by omega) ix), State.reg_setReg_ne _ _ (key_ne (by omega) ix),
      State.reg_setReg_ne _ _ (key_ne (by omega) ix), State.reg_setReg_same]
  · rw [State.reg_setReg_ne _ _ (key_ne (by decide) ix), State.reg_setReg_ne _ _ (key_ne (by decide) ix), State.reg_setReg_same]
  · rw [State.reg_setReg_ne _ _ (key_ne (by decide) ix), State.reg_setReg_same, hq]

theorem stIx_low (i off : Nat) : stIx i off % 256 = off % 256 := by
  unfold stIx
  omega

theorem hdIx_low (h off : Nat) : hdIx h off % 256 = (0x40 + 0x40 * (h % 2) + off) % 256 := stIx_low _ _

theorem engIx_low (e off : Nat) : engIx e off % 256 = if e < 16 then (0x40 + 0x40 * (e % 2) + off) % 256 else (0x30 + off) % 256 := by
  unfold engIx
  split
  · exact hdIx_low e off
  · exact stIx_low _ _

variable {k : Nat}

/-- A register at offset 3 of its block is none at another offset. -/
theorem ne_key_of_low {ix sub : Nat} (hk : k / 256 % 256 = 3) (hsub : sub < 256) (hix : ix % 256 ≠ 3) : k ≠ key ix sub := by
  rintro rfl
  exact hix (key_div hsub ix ▸ hk)

theorem State.endResult_reg_low {ix : Nat} (hk : k / 256 % 256 = 3) (hix : ix % 256 ≠ 3) (code : Nat) :
    (s.endResult ix [] code).reg k = s.reg k :=
  State.endResult_reg_other (fun _ hp => absurd hp List.not_mem_nil) (fun hc => hix ((congrArg (· % 256) hc).symm.trans hk)) code

theorem State.measureStop_reg (hk : k / 256 % 256 = 3) (e : Nat) : (s.measureStop e).reg k = s.reg k := by
  unfold State.measureStop
  split
  · rfl
  · split
    · next m _ hm =>
      have injection : hdIx e 8 % 256 ≠ 3 := by rw [hdIx_low]; omega
      exact State.reg_setReg_ne _ _ (ne_key_of_low hk (by omega) injection)
    · rfl

/-- The result objects that an order's end closes are none of 0x3s03. -/
theorem State.closeResult_reg (hk : k / 256 % 256 = 3) (e c code : Nat) : (s.closeResult e c code).reg k = s.reg k := by
  have calibration : hdIx e 0x1E % 256 ≠ 3 := by rw [hdIx_low]; omega
  have measurement : engIx e 0x0E % 256 ≠ 3 := by rw [engIx_low]; split <;> omega
  have powerCal : stIx (e / 2) 0xD9 % 256 ≠ 3 := by rw [stIx_low]; decide
  have band : k ≠ stKey (e / 2) (0xD1 + e % 2) 1 := ne_key_of_low hk (by decide) (by rw [stIx_low]; omega)
  unfold State.closeResult
  refine State.reg_ite rfl (State.reg_ite ?_ (State.reg_ite ?_ (State.reg_ite ?_ rfl)))
  · rw [State.endResult_reg_low hk calibration, State.modEng_reg]
  · rw [State.endResult_reg_low hk measurement, State.measureStop_reg hk]
  · rw [State.endResult_reg_low hk powerCal, State.reg_setReg_ne _ _ band, State.modHd_reg]

theorem State.loopOff_station_reg (hk : k / 256 % 256 = 3) (i : Nat) : (s.loopOff (16 + i) 0).reg k = s.reg k := by
  have station : isHead (16 + i) = false := decide_eq_false (by omega)
  have place : engIx (16 + i) 0 % 256 ≠ 3 := by rw [engIx_low]; split <;> omega
  have loop : ∀ {n : Nat}, n ≤ 4 → k ≠ loopKey (16 + i) 0 n := fun hn => by
    refine ne_key_of_low hk ?_ place
    unfold loopCount
    split <;> omega
  rw [State.loopOff, station, if_neg Bool.false_ne_true, State.modLp_reg, State.setDrive, State.setRegI, State.reg_setReg_ne _ _ (loop (by decide)),
    State.enterLoop, State.modLp_reg, State.reg_setReg_ne _ _ (loop (by decide)), State.reg_setReg_ne _ _ (loop (by decide))]

theorem State.sendGrantReq_reg (i : Nat) (ask : Bool) (k : Nat) : (s.sendGrantReq i ask).reg k = s.reg k := State.reg_ite rfl rfl

theorem State.freeSlot_reg (hk : k / 256 % 256 = 3) (i : Nat) : (s.freeSlot i).reg k = s.reg k := by
  have flags : k ≠ stKey i 0 5 := ne_key_of_low hk (by decide) (by rw [stIx_low]; decide)
  have slot : k ≠ stKey i 0x10 0x0D := ne_key_of_low hk (by decide) (by rw [stIx_low]; decide)
  unfold State.freeSlot
  dsimp only
  refine State.reg_ite ((State.sendGrantReq_reg ..).trans ?_) ?_ <;>
    (rw [State.setStFlag, State.setRegBit, State.reg_setReg_ne _ _ flags, State.modStn_reg, State.setStFlag, State.setRegBit,
      State.reg_setReg_ne _ _ flags, State.reg_setReg_ne _ _ slot]; rfl)

theorem State.dropSpin_reg (hk : k / 256 % 256 = 3) (i : Nat) : (s.dropSpin i).reg k = s.reg k := by
  have spindle : ∀ {sub : Nat}, sub < 256 → k ≠ stKey i 0x10 sub := fun hsub => ne_key_of_low hk hsub (by rw [stIx_low]; decide)
  unfold State.dropSpin State.freewheel
  dsimp only
  rw [State.reg_setReg_ne _ _ (spindle (by decide)), State.modStn_reg, State.emitBridge, State.emit_reg,
    State.reg_setReg_ne _ _ (spindle (by decide)), State.loopOff_station_reg hk, State.freeSlot_reg hk]

theorem State.spinLeft_reg (hk : k / 256 % 256 = 3) (u : State) (e : Nat) : (s.spinLeft u e).reg k = s.reg k :=
  State.reg_ite (State.dropSpin_reg hk _) rfl

/-- What SEQ_STATE, MPC and the strobes' objects show is none of 0x3s03. -/
theorem State.shown_reg (e n : Nat) (hn : n < 256) :
    ((s.armedView (engStation e)).seqView e).reg (stKey (engStation e) 3 n) = s.reg (stKey (engStation e) 3 n) := by
  have view : ∀ {sub : Nat}, sub < 256 → stKey (engStation e) 3 n ≠ latheKey e sub := fun hsub => by
    unfold stKey latheKey key stIx
    omega
  have three : seqNo e ≤ 2 := by unfold seqNo; split <;> omega
  unfold State.seqView
  dsimp only
  rw [State.setRegs_cons, State.setRegs_cons, State.setRegs_nil, State.reg_setReg_ne _ _ (view (by omega)),
    State.reg_setReg_ne _ _ (view (by omega))]
  exact armedView_reg _ _ _ (by simp only [ne_eq, stKey_eq_iff]; omega) (by simp only [ne_eq, stKey_eq_iff]; omega)

/-! ### The end of an order (R233) -/

/-- The sequencer after its order: no order, no frame, no wait, an empty micro-stack. -/
def Seq.ended (x : Seq) : Seq := { x with running := none, wait := .none, frame := none, stack := [], started := 0 }

variable {o : Order}

theorem State.endOrder_running (hx : (s.sq q).running = some o) (hsub : (s.sq q).sub = none) (status reason ret : Nat) {u : State}
    (hu : u = (s.modSq q Seq.ended).closeResult q o.code (if status = latheDone then 0 else returnOf status ret)) :
    s.endOrder q status reason ret
      = ((if o.origin = .direct then u.endDirect q status reason ret else u).armedView (engStation q)).seqView q := by
  rw [State.endOrder, hsub, hu]
  dsimp only
  rw [hx]
  rfl

/-- An order's end changes its own sequencer, and no other. -/
theorem State.endOrder_sq (hx : (s.sq q).running = some o) (hsub : (s.sq q).sub = none) (status reason ret j : Nat) :
    (s.endOrder q status reason ret).sq j = if j = q then (s.sq q).ended else s.sq j := by
  rw [State.endOrder_running hx hsub status reason ret rfl, State.seqView_sq, armedView_sq, ← State.sq_modSq]
  exact (State.sq_ite (State.endDirect_sq ..) rfl).trans (State.closeResult_sq ..)

/-- What the result object of a direct order shows after its end. -/
theorem State.endDirect_shows (status reason ret : Nat) {ix code again : Nat} (hix : ix = stIx (engStation q) 3)
    (hc : code = if status = latheDone then 0 else returnOf status ret)
    (hq : again = if s.reg (key ix 3) = 0xFFFFFFFF then 1 else s.reg (key ix 3) + 1) :
    (s.endDirect q status reason ret).reg (key ix 5) = status + reason * 256
      ∧ (s.endDirect q status reason ret).reg (key ix 6) = returnOf status ret
      ∧ (s.endDirect q status reason ret).reg (key ix 4) = code
      ∧ (s.endDirect q status reason ret).reg (key ix 2) = (if code = 0 then 2 else 3)
      ∧ (s.endDirect q status reason ret).reg (key ix 3) = again := by
  subst hix
  have before : (s.setLathe q status reason).reg (key (stIx (engStation q) 3) 3) = s.reg (key (stIx (engStation q) 3) 3) :=
    State.reg_setReg_ne _ _ (key_ne (by decide) _)
  obtain ⟨hret, hcode, hstatus, hseq⟩ := State.endResult_shows (s := s.setLathe q status reason) (stIx (engStation q) 3) 6
    (returnOf status ret) code (by decide) (again := again) (by rw [before, hq])
  have ends : s.endDirect q status reason ret
      = (s.setLathe q status reason).endResult (stIx (engStation q) 3) [(6, returnOf status ret)] code := by
    rw [State.endDirect, hc]
  rw [ends]
  refine ⟨?_, hret, hcode, hstatus, hseq⟩
  simp only [State.endResult, List.map_cons, List.map_nil, State.setRegs_cons, State.setRegs_nil]
  rw [State.reg_setReg_ne _ _ (key_ne (by decide) _), State.reg_setReg_ne _ _ (key_ne (by decide) _),
    State.reg_setReg_ne _ _ (key_ne (by decide) _), State.reg_setReg_ne _ _ (key_ne (by decide) _)]
  exact State.reg_setReg_same ..

/-- From `s` to `t` the order `o` of sequencer `q` has ended: LATHE_STATUS, RETURN, the code and STATUS of a direct order. -/
def State.OrderEnds (s t : State) (q : Nat) (o : Order) (lathe ret code status : Nat) : Prop :=
  let ix := stIx (engStation q) 3
  t.sq q = (s.sq q).ended ∧ (∀ j, j ≠ q → t.sq j = s.sq j)
    ∧ (o.origin = .direct → t.reg (key ix 5) = lathe ∧ t.reg (key ix 6) = ret ∧ t.reg (key ix 4) = code ∧ t.reg (key ix 2) = status
        ∧ t.reg (key ix 3) = if s.reg (key ix 3) = 0xFFFFFFFF then 1 else s.reg (key ix 3) + 1)

/-- An order that ends as the word at the micro-PC says, whether or not a spin-up is dropped with it. -/
theorem State.endOrder_ends (hx : (s.sq q).running = some o) (hsub : (s.sq q).sub = none) (status reason ret : Nat) {code : Nat}
    (hc : code = if status = latheDone then 0 else returnOf status ret) :
    s.OrderEnds ((s.endOrder q status reason ret).spinLeft s q) q o (status + reason * 256) (returnOf status ret) code
      (if code = 0 then 2 else 3) := by
  refine ⟨?_, fun j hj => ?_, fun hdirect => ?_⟩
  · rw [State.spinLeft_sq, State.endOrder_sq hx hsub, if_pos rfl]
  · rw [State.spinLeft_sq, State.endOrder_sq hx hsub, if_neg hj]
  · have low : ∀ {n : Nat}, n < 256 → key (stIx (engStation q) 3) n / 256 % 256 = 3 := fun hn => by rw [key_div hn, stIx_low]
    have ended : ∀ {n : Nat}, n < 256 → ((s.endOrder q status reason ret).spinLeft s q).reg (key (stIx (engStation q) 3) n)
        = (((s.modSq q Seq.ended).closeResult q o.code (if status = latheDone then 0 else returnOf status ret)).endDirect q status reason
            ret).reg (key (stIx (engStation q) 3) n) := fun hn => by
      rw [State.spinLeft_reg (low hn), State.endOrder_running hx hsub status reason ret rfl, if_pos hdirect]
      exact State.shown_reg q _ hn
    rw [ended (by decide), ended (by decide), ended (by decide), ended (by decide), ended (by decide)]
    refine State.endDirect_shows status reason ret rfl hc ?_
    rw [State.closeResult_reg (low (by decide)), State.modSq_reg]

theorem execOdone_ends {r : Nat} (h : s.runsWord q 30 0 r 0 = true) :
    execOdone q r 0 s = .next ((s.orderDone q ((s.sq q).reg r).toNat).spinLeft s q) := micro_next h rfl rfl

theorem execOfail_ends {r : Nat} (h : s.runsWord q 31 0 r 0 = true) :
    execOfail q r 0 s = .next ((s.orderFailed q ((s.sq q).reg r).toNat).spinLeft s q) := micro_next h rfl rfl

theorem execOrej_ends {imm : Nat} (h : s.runsWord q 32 0 0 imm = true) (hi : imm < 256) :
    execOrej q imm s = .next ((s.orderRejected q (if imm = 0 then 7 else imm)).spinLeft s q) :=
  micro_next h (decide_eq_false (Nat.not_le.mpr hi)) rfl

/-! ### Dispatch (R226, R231) -/

/-- Whether an order is rejected at its dispatch turns on the CUSTOMER flags and the installed image alone. -/
theorem State.dispatchReject_congr (hr : t.reg (key 0x5000 2) = s.reg (key 0x5000 2)) (hst : t.stores = s.stores) (e c : Nat) :
    t.dispatchReject e c = s.dispatchReject e c := by
  rw [State.dispatchReject, State.dispatchReject, State.customerRuns, State.customerRuns, hr, hst]

/-- The sequencer as an order's dispatch leaves it. -/
def Seq.dispatched (x : Seq) (q : Nat) (o : Order) : Seq :=
  { x with
    m := dispatchRegs q o, stack := [], z := false, n := false, c := false, v := false, ev := false, latched := 0
    pc := if 0x30 ≤ o.code ∧ o.code ≤ 0x3F then 0x3800 + 0x80 * (o.code - 0x30) else o.code
    running := some o, sub := none, started := 0, wait := if o.strobe = 0 then .none else .strobe o.strobe }

/-- The slot gives its order away and takes the first waiting one. -/
def Seq.refilled (x : Seq) : Seq :=
  { x with slot := (takeFirst x.waiting).map (·.1), waiting := ((takeFirst x.waiting).map (·.2)).getD x.waiting }

/-- An order that is not rejected at its dispatch: a direct one shows RUNNING, or WAITING for its strobe. -/
theorem State.startOrder_accepted (hr : s.dispatchReject q o.code = none) {u w : State} (hu : u = s.modSq q (·.dispatched q o))
    (hw : w = if o.origin = .direct then u.setLathe q (if o.strobe = 0 then 2 else 3) 0 else u) :
    s.startOrder q o = (w.armedView (engStation q)).seqView q := by
  have customer : key 0x5000 2 ≠ stKey (engStation q) 3 5 := by
    unfold stKey key
    omega
  have accepted : w.dispatchReject q o.code = none := by
    rw [hw]
    split
    · exact (State.dispatchReject_congr ((State.reg_setReg_ne _ _ customer).trans (by rw [hu]; rfl)) (by rw [hu]; rfl) q o.code).trans hr
    · exact (State.dispatchReject_congr (by rw [hu]; rfl) (by rw [hu]; rfl) q o.code).trans hr
  have starts : s.startOrder q o = match w.dispatchReject q o.code with
      | some r => w.orderRejected q r
      | none => (w.armedView (engStation q)).seqView q := by
    rw [hw, hu]
    rfl
  rw [starts, accepted]

theorem State.startOrder_sq (hr : s.dispatchReject q o.code = none) (j : Nat) :
    (s.startOrder q o).sq j = if j = q then (s.sq q).dispatched q o else s.sq j := by
  rw [State.startOrder_accepted hr rfl rfl, State.seqView_sq, armedView_sq, ← State.sq_modSq s q j (·.dispatched q o)]
  exact State.sq_ite rfl rfl

/-- An idle sequencer with no trap pending takes the slot's order. -/
theorem State.dispatch_takes (hx : (s.sq q).running = none) (hf : (s.sq q).frame = none) (ht : (s.sq q).traps = [])
    (ho : (s.sq q).slot = some o) : s.dispatch q = (s.modSq q Seq.refilled).startOrder q o := by
  rw [State.dispatch, hx, hf, ht, ho]
  dsimp only
  refine congrArg (State.startOrder · q o) (State.modSq_congr ?_)
  rw [Seq.refilled]
  cases takeFirst (s.sq q).waiting <;> rfl

/-! ### Traps (R235 to R237) -/

theorem latheKey_ne (e : Nat) {a b : Nat} (h : a ≠ b) : latheKey e (a + seqNo e) ≠ latheKey e (b + seqNo e) := by
  unfold latheKey key
  omega

/-- The sequencer at the entry of a trap's routine. -/
def Seq.trapped (x : Seq) (k i : Nat) : Seq :=
  { x with
    traps := x.traps.filter (fun u => u.1 != k), stack := [], wait := .none, pc := 0x40 + k
    m := x.m.take 15 ++ [BitVec.ofNat 32 i], frame := some ⟨x.pc, x.stack, x.z, x.n, x.c, x.v, x.ev, x.m, x.wait⟩ }

/-- A trap other than ORDER_ABORT is entered. -/
theorem State.takeTrap_enters {i : Nat} (hf : (s.sq q).frame = none) (hn : (s.sq q).nextTrap = some (k, i)) (hk : k ≠ 0) :
    ∃ u : State, s.takeTrap q = u.seqView q ∧ (∀ j, u.sq j = if j = q then (s.sq q).trapped k i else s.sq j)
      ∧ (∀ a, u.reg a = (s.bump (latheKey q (7 + seqNo q))).reg a) ∧ { u with seqs := s.seqs, regs := s.regs } = s := by
  refine ⟨(((s.bump (latheKey q (7 + seqNo q))).modSq q fun y => { y with traps := y.traps.filter fun u => u.1 != k }).modSq q fun y =>
      { y with
        frame := some ⟨y.pc, y.stack, y.z, y.n, y.c, y.v, y.ev, y.m, y.wait⟩
        stack := [], wait := .none, pc := 0x40 + k, m := y.m.take 15 ++ [BitVec.ofNat 32 i] }), ?_, fun j => ?_, fun a => rfl, rfl⟩
  · rw [State.takeTrap, hf, hn]
    exact if_neg hk
  · rw [State.sq_modSq, sq_modSq_same, State.sq_modSq]
    split <;> rfl

theorem State.takeTrap_only {i : Nat} (hf : (s.sq q).frame = none) (hn : (s.sq q).nextTrap = some (k, i)) (hk : k ≠ 0) :
    s.OnlySeq (s.takeTrap q) q ((s.sq q).trapped k i) [latheKey q (7 + seqNo q)]
      ∧ (s.takeTrap q).reg (latheKey q (7 + seqNo q)) = min (s.reg (latheKey q (7 + seqNo q)) + 1) 4294967295 := by
  obtain ⟨u, hu, hsq, hreg, hrest⟩ := State.takeTrap_enters hf hn hk
  rw [hu]
  refine ⟨onlySeq_view ((hsq q).trans (if_pos rfl)) (fun j hj => (hsq j).trans (if_neg hj)) (fun a ha => ?_) hrest, ?_⟩
  · rw [hreg]
    exact State.reg_setReg_ne _ _ fun hc => ha (List.mem_singleton.mpr hc)
  · unfold State.seqView
    dsimp only
    rw [State.setRegs_cons, State.setRegs_cons, State.setRegs_nil, State.reg_setReg_ne _ _ (latheKey_ne q (by decide)),
      State.reg_setReg_ne _ _ (latheKey_ne q (by decide)), hreg]
    exact State.reg_setReg_same ..

/-- TRAPRET 0 gives a frame that held no wait back. -/
theorem State.trapReturn_restores {f : TrapFrame} (hf : (s.sq q).frame = some f) (hw : f.wait = .none) (code : Nat) :
    s.trapReturn q 0 code = (s.modSq q fun x => { x with
      frame := none, pc := f.pc, stack := f.stack, z := f.z, n := f.n, c := f.c, v := f.v, ev := f.ev, m := f.m
      wait := .none }).seqView q := by
  rw [State.trapReturn, hf]
  dsimp only
  rw [hw, if_pos rfl]
  simp only [Bool.not_false, Bool.and_true]

/-- In the vendor's stores TRAPRET returns from the trap. -/
theorem execTrapret_returns (h : s.runsWord q 33 0 0 0 = true) (hp : (s.sq q).pc < 0x3800) :
    execTrapret q 0 s = .next ((s.trapReturn q 0 0).spinLeft s q) :=
  micro_next h rfl (if_neg fun hc => Nat.not_le.mpr hp (Seq.inCustomer_iff.mp hc))

theorem trapFor_abort (e : Nat) : trapFor e trapAbort = true := by
  unfold trapFor
  split <;> decide

/-- With no trap pending, ORDER_ABORT comes to be the one that is. -/
theorem State.raiseTrap_abort (ht : (s.sq q).traps = []) (mask detail : Nat) :
    s.raiseTrap q trapAbort mask detail = s.modSq q fun y => { y with traps := [(trapAbort, trapInfo trapAbort mask detail)] } := by
  rw [State.raiseTrap, if_pos (trapFor_abort q), ht]
  exact State.modSq_congr (by rw [ht]; rfl)

/-! ### The obligation -/

/-- Settles O3: the ends of an order by `State.endOrder_ends`, the dispatch and the traps by their cases. -/
theorem sequencerOrders : Obligations.SequencerOrders := by
  unfold Obligations.SequencerOrders
  intro s q r imm x st ix ended m again ends
  refine ⟨?odone, ?ofail, ?orej, ?dispatch, ?trapEntry, ?trapret, ?timeout⟩
  case odone => exact fun o hx hsub hw => ⟨_, execOdone_ends hw, State.endOrder_ends hx hsub latheDone 0 m rfl⟩
  case ofail =>
    intro o hx hsub hw hm
    have failed := State.endOrder_ends hx hsub latheFailed 0 m rfl
    rw [if_neg (show ¬ latheFailed = latheDone by decide), returnOf, if_neg (by decide), if_neg (by decide), if_neg hm] at failed
    exact ⟨_, execOfail_ends hw, failed⟩
  case orej =>
    intro o hx hsub hw himm
    have rejected := State.endOrder_ends hx hsub latheRejected (if imm = 0 then 7 else imm) 0 rfl
    rw [Nat.mul_comm] at rejected
    exact ⟨_, execOrej_ends hw himm, rejected⟩
  case dispatch =>
    intro o hx hf ht ho hr
    have taken := State.startOrder_sq (s := s.modSq q Seq.refilled) (q := q) ((State.dispatchReject_congr rfl rfl q o.code).trans hr)
    refine ⟨s.dispatch q, rfl, fun j hj => ?_, ?_⟩
    · rw [State.dispatch_takes hx hf ht ho, taken, if_neg hj, State.sq_modSq, if_neg hj]
    · rw [State.dispatch_takes hx hf ht ho, taken, if_pos rfl, sq_modSq_same]
      rfl
  case trapEntry =>
    intro k i hf hn hk
    obtain ⟨only, counted⟩ := State.takeTrap_only hf hn hk
    have kept : (s.takeTrap q).spinLeft s q = s.takeTrap q := State.spinLeft_same (by rw [only.1]; rfl)
    exact ⟨s.takeTrap q, congrArg _ kept, only, counted⟩
  case trapret =>
    intro f hf hp hw h
    refine ⟨_, execTrapret_returns h hp, State.OnlySeq.spinLeft ?_ rfl⟩
    rw [State.trapReturn_restores hf hw]
    exact onlySeq_mod _ rfl
  case timeout =>
    intro o hx hcode ht
    rw [exec_orderTimeout, execOrderTimeout, hx]
    exact congrArg _ ((if_pos hcode).trans (State.raiseTrap_abort ht 0 1))

end Sys2Proof.Machine
end

section
/-! Authorised and security requests by a write (R243, R386, R409, R415, R420, R431, R433, R434, R436, R451): each request object's rule by
its cases, then the obligation. -/

namespace Sys2Proof.Machine

variable {s u t : State} {d : Door} {v : Nat}

/-- An admitted number whose object's rule the world has a part in. -/
theorem State.put_ruled {i sub : Nat} {w : World} {act : Applied} (ha : s.admitted d i sub v = some u) (hcal : i ≠ 0x2441)
    (hbist : i ≠ 0x2501) (hrule : u.numEffect d i sub v w = some act) (hact : act = .ok t) :
    (.next (s.put d i sub v w) : Res) = .next (t.answered d i sub v) :=
  congrArg _ (State.put_applied ha hcal hbist (hrule.trans (congrArg some hact)))

/-! ### Requests that spend the authorisation (R386, R433, R451) -/

theorem State.mapClear_authorised (hauth : s.authorised = true) :
    s.mapClear d 1 = .ok ((s.modHbm fun h => { h with clearMap := true }).authAction d 0x4600 13) := if_pos hauth

theorem State.hbmRequest_arms (hauth : s.authorised = true) : s.hbmRequest d 2 = .ok (((s.modHbm fun h => { h with
      armed := if s.reg (key 0x4602 2) = 0 then none else some (s.reg (key 0x4602 1), s.reg (key 0x4602 2)) }).authAction
        d 0x4603 1).endResult 0x4603 [] 0) := if_pos hauth

/-- The sectors that a clear has to erase: those that hold frames. -/
def Ledger.heldSectors (l : Ledger) : List Nat :=
  (List.range 256).filter fun n => match l.nor[n]? with | some x => !x.frames.isEmpty | none => false

/-- A clear empties SRAM at once, moves the floor up and leaves the sectors that hold frames to CLEAR_ERASE_STEP. -/
theorem State.ledgerClear_clears (hauth : s.authorised = true) (hlatched : s.power.latched = false) (hfreeze : s.reg (key 0x2200 9) ≠ 1)
    (hidle : s.ledger.clearing = []) {floor : Nat} {held : List Nat} (hfloor : floor = s.ledger.nextSeq)
    (hheld : held = s.ledger.heldSectors) :
    s.ledgerClear d 1 = .ok ((((s.modLedger fun l => { l with
      floor := floor, clearing := held, clearTotal := held.length, sram := l.sram.filter fun r => floor ≤ r.seq, flushed := floor - 1
      flushTo := none, episode := none }).setReg (key 0x2200 14) (if held.isEmpty then 100 else 0)).note 0x0C02 0
        (leBytes 1 (doorPath d) ++ leBytes 8 floor)).authAction d 0x2200 13).ledgerView := by
  have free : ¬ (s.reg (key 0x2200 9) = 1 ∨ ¬ s.ledger.clearing.isEmpty = true) := by simp [hfreeze, hidle]
  rw [State.ledgerClear, if_neg (by decide), hauth, if_neg (by decide), hlatched, if_neg Bool.false_ne_true, if_neg free, hfloor, hheld]
  rfl

/-! ### Spread volumes (R409, R415) -/

variable {n far : Nat} {x : Volume}

theorem State.volumeRequest_create (hact : v % 256 = 1) (hm : s.isMaster = true) (hn : v / 256 % 256 = n) (hv : s.volume n = none)
    {def_ : Volume} (hd : def_ = { volumeOf (s.raw (key 0x4A02 0)) with v := n }) :
    s.volumeRequest v far = .ok (if s.createCode def_ far ≠ 0 then s.endResult 0x4A01 [(5, n)] (s.createCode def_ far)
      else ((s.modSpread fun p => { p with volumes := p.volumes ++ [def_] }).volumeView.sendVolumes.spreadFollow).endResult
        0x4A01 [(5, n)] 0) := by
  rw [State.volumeRequest, hact, hm, hn, hv, hd, if_neg (by decide), if_neg (by decide), if_pos rfl, if_neg (by decide)]
  dsimp only
  split <;> rfl

theorem State.volumeRequest_delete (hact : v % 256 = 2) (hm : s.isMaster = true) (hn : v / 256 % 256 = n) (hv : s.volume n = some x)
    (hstaged : (s.spread.staged.any fun l => l.nsid == 256 + n) = false) :
    s.volumeRequest v far = .ok ((((s.modSpread fun p => { p with volumes := p.volumes.filter fun x => x.v != n }).volumeView.sendVolumes).detachNs
      (256 + n)).endResult 0x4A01 [(5, n)] 0) := by
  have known : ¬ ((some x).isNone = true ∨ false = true) := by simp
  rw [State.volumeRequest, hact, hm, hn, hv, hstaged, if_neg (by decide), if_neg (by decide), if_neg (by decide), if_pos rfl, if_neg known]

/-- A replaced column owes every row that its volume has. -/
theorem State.volumeRequest_replace {i : Nat} {old c : Column} (hact : v % 256 = 3) (hm : s.isMaster = true) (hn : v / 256 % 256 = n)
    (hi : v / 65536 % 256 = i) (hv : s.volume n = some x) (hold : x.cols[i]? = some old)
    (hc : (volumeOf (s.raw (key 0x4A02 0))).cols[i]? = some c) (hdown : s.colUp old = false)
    (hnew : ((x.cols.eraseIdx i).map (·.serial)).contains c.serial = false)
    (hroster : (s.fabric.roster.any fun e => e.serial == c.serial) = true)
    (hfree : ¬ (if c.serial = s.serial then !s.zonesEmpty c x.zones else far != 0) = true) (hclaim : s.zonesClaimed c x.zones = false) :
    s.volumeRequest v far = .ok ((((s.modVolume n fun y => y.modCol i fun _ => { c with
        owed := (List.range x.zones).flatMap fun z => (List.range (x.zoneRows z)).map (4000 * z + ·)
        rebuilding := true }).volumeView.sendVolumes)).endResult 0x4A01 [(5, n)] 0) := by
  rw [State.volumeRequest, hact, hm, hn, hi, hv, if_neg (by decide), if_neg (by decide), if_neg (by decide), if_neg (by decide), if_pos rfl]
  dsimp only
  rw [hold]
  dsimp only
  rw [hc]
  dsimp only
  rw [hdown, if_neg Bool.false_ne_true, hnew, if_neg Bool.false_ne_true, hroster, if_neg (c := (!true) = true) (by decide), if_neg hfree, hclaim,
    if_neg Bool.false_ne_true, if_neg (not_not_intro rfl)]

/-! ### Keys and quotes (R431, R434) -/

/-- In PROVISIONED, with the slot open, the key is fused, or its fuse fails to program. -/
theorem State.fuseKey_open (ok : Bool) (hlc : s.lc = lcProvisioned) (hopen : s.keyFused = false)
    (hint : (s.sec.interrupted.any fun p => p.1 == lcField && 0 < p.2) = false) : s.fuseKey 1 ok = .ok (if ok = true then
      ((s.setRaw (key 0x5000 6) (s.raw (key 0x5002 5))).setSecFlag 2 true).endResult 0x5002 [] 0
      else s.endResult 0x5002 [] 0x0F5E0007) := by
  have allowed : ¬ (s.lc ≠ lcProvisioned ∨ s.keyFused = true ∨ (s.sec.interrupted.any fun p => p.1 == lcField && 0 < p.2) = true) := by
    simp [hlc, hopen, hint]
  rw [State.fuseKey, if_neg (by decide), if_neg allowed]
  cases ok <;> rfl

theorem State.quoteRequest_owned (howned : s.lcOwned = true) : s.quoteRequest 1 = .ok (if s.identityValid = true then
      (s.beginResult 0x5011).askQuote ⟨s.raw (key 0x5010 0), none⟩ else s.endResult 0x5011 [] 0x0F5E0006) := by
  rw [State.quoteRequest, if_neg (by decide), howned, if_neg (by decide)]
  cases s.identityValid <;> rfl

/-! ### Images (R243, R436) -/

/-- Every station stands still, and none runs a command. -/
def State.allStill (s : State) : Bool := (List.range s.part.stations).all fun i =>
  (s.stState i ≤ stClamped || s.stState i == stFault) && !s.busy (stIx i 1)

theorem State.customerRequest_installs (hlc : s.lc = lcProvisioned ∨ s.lc = lcField) (hstill : s.allStill = true) {a : State} {b : List Byte}
    {m : CustImage} (ha : a = s.tempWake 94) (hb : b = a.raw (key 0x5402 0)) (hm : m = customerFields b) :
    s.customerRequest d 1 = .ok (if a.customerCode b ≠ 0 then a.endResult 0x5401 [] (a.customerCode b)
      else
        let w := { a with stores := { a.stores with image := some m, abiOk := m.abi == a.vendorAbi } }.setReg (key 0x5400 6)
          (max (a.reg (key 0x5400 6)) m.version)
        (w.measure 6 w.stores.digest).endResult 0x5401 [(5, m.version), (6, m.words.length)] 0) := by
  have install : ¬ (1 = 2 ∧ ¬ s.authorised = true) := fun hc => absurd hc.1 (by decide)
  have life : ¬ (1 = 1 ∧ s.lc ≠ lcProvisioned ∧ s.lc ≠ lcField) := by
    rintro ⟨-, hp, hf⟩
    exact hlc.elim hp hf
  unfold State.allStill at hstill
  rw [State.customerRequest, if_neg (by decide), if_neg install, if_neg life, hstill, if_neg (by decide), if_pos rfl, hm, hb, ha]
  dsimp only
  split <;> rfl

theorem State.customerRequest_erases (hauth : s.authorised = true) (hstill : s.allStill = true) {w : State}
    (hw : w = (s.authAction d 0x5401 1).dropCustomer) :
    s.customerRequest d 2 = .ok ((w.measure 6 w.stores.digest).endResult 0x5401 [(5, 0), (6, 0)] 0) := by
  have open_ : ¬ (2 = 2 ∧ ¬ s.authorised = true) := fun hc => hc.2 hauth
  have erase : ¬ (2 = 1 ∧ s.lc ≠ lcProvisioned ∧ s.lc ≠ lcField) := fun hc => absurd hc.1 (by decide)
  unfold State.allStill at hstill
  rw [State.customerRequest, if_neg (by decide), if_neg open_, if_neg erase, hstill, if_neg (by decide), if_neg (by decide), hw]

theorem State.recoveryInstall_runs (hp : s.powerState = psRecovery) {a : State} {f : FirmwareImage} (ha : a = s.tempWake 94)
    (hf : f = imageOf (a.raw (key 0x5030 0))) : s.recoveryInstall 1 = .ok (if a.imageCode f ≠ 0 then a.endResult 0x5031 [] (a.imageCode f)
      else ({ a with nor := { a.nor with banks := [some f, some f], bankSelect := 0 } }.endResult 0x5031 [] 0).lowerRails .startUp) := by
  rw [State.recoveryInstall, if_neg (by decide), if_neg (not_not_intro hp), hf, ha]
  dsimp only
  split <;> rfl

/-! ### Life cycle (R420) -/

/-- A request that names a transition, with nothing in its way. -/
structure State.MayTransit (s : State) (v : Nat) : Prop where
  magic : v / 65536 = 0x4C43
  reserved : v / 256 % 256 = 0
  unlatched : s.power.latched = false
  still : ((List.range s.part.stations).any fun i => stSpinning ≤ s.stState i && s.stState i ≤ stActive) = false
  clean : s.anyDirty = false
  quiet : s.enabledCtrls = 0

theorem State.MayTransit.passes (h : s.MayTransit v) : ¬ (v / 65536 ≠ 0x4C43 ∨ v / 256 % 256 ≠ 0)
    ∧ ¬ (s.power.latched = true ∨ ((List.range s.part.stations).any fun i => stSpinning ≤ s.stState i && s.stState i ≤ stActive) = true
      ∨ s.anyDirty = true ∨ s.enabledCtrls ≠ 0) := by
  obtain ⟨hmagic, hreserved, hunlatched, hstill, hclean, hquiet⟩ := h
  exact ⟨by simp [hmagic, hreserved], by simp [hunlatched, hstill, hclean, hquiet]⟩

theorem State.lifeCycle_unmet (h : s.MayTransit v) (prog : ProgramEnd) (hmet : s.transitionMet (v % 256) = false) :
    s.lifeCycle d v prog = .ok (s.endResult 0x5001 [(5, s.lc), (6, v % 256)] 0x0F5E0005) := by
  rw [State.lifeCycle, if_neg h.passes.1, if_neg h.passes.2, hmet]
  rfl

/-- A transition that nothing interrupted: its effects, the new state, its record, and a reset. -/
theorem State.lifeCycle_done (h : s.MayTransit v) (hmet : s.transitionMet (v % 256) = true) (hauth : s.authState = 0)
    (hint : s.sec.interrupted = []) {a b : State}
    (ha : a = (((s.program (v % 256) 0 2).setReg (key 0x5000 1) (v % 256)).setSecFlag 0 false).modSec fun g => { g with interrupted := [] })
    (hb : b = (a.post 0x0B01 8 (leBytes 1 s.lc ++ leBytes 1 (v % 256)) (some ⟨0xFF41, false⟩)).endResult 0x5001
      [(5, s.lc), (6, v % 256)] 0) : s.lifeCycle d v .done = .ok b.resetAssert.resetRelease := by
  rw [State.lifeCycle, if_neg h.passes.1, if_neg h.passes.2, hmet, if_neg (by decide), hb, ha]
  dsimp only
  rw [if_pos hauth, hint]
  rfl

/-! ### The obligation -/

/-- Settles O17, object by object, from the cases above. -/
theorem securityWrites : Obligations.SecurityWrites := by
  unfold Obligations.SecurityWrites
  intro s d
  refine ⟨?clearMap, ?arm, ?create, ?createFails, ?delete, ?replace, ?fuse, ?fuseFails, ?quote, ?noIdentity, ?close, ?install, ?erase,
    ?transit, ?unmet, ?recovery, ?clearLedger⟩
  case clearMap =>
    exact fun u ha hauth => State.write_applied ha (by decide) (by decide) rfl (State.mapClear_authorised hauth)
  case arm =>
    exact fun u ha hauth => State.write_applied ha (by decide) (by decide) rfl (State.hbmRequest_arms hauth)
  case create =>
    intro v far u ha hact hm hv hcode
    exact State.put_ruled ha (by decide) (by decide) rfl
      ((State.volumeRequest_create hact hm rfl hv rfl).trans (congrArg _ (if_neg (not_not_intro hcode))))
  case createFails =>
    intro v far c u ha hact hm hv hcode hc
    subst hcode
    exact State.put_ruled ha (by decide) (by decide) rfl ((State.volumeRequest_create hact hm rfl hv rfl).trans (congrArg _ (if_pos hc)))
  case delete =>
    exact fun v x u ha hact hm hv hstaged => State.write_applied ha (by decide) (by decide) rfl
      (State.volumeRequest_delete hact hm rfl hv hstaged)
  case replace =>
    intro v far x old c u ha hact hm hv hold hc hdown hnew hroster hfree hclaim
    have empty : ¬ (if c.serial = u.serial then !u.zonesEmpty c x.zones else (if far = true then 1 else 0) != 0) = true := by
      cases far <;> simpa using hfree
    exact State.put_ruled ha (by decide) (by decide) rfl
      (State.volumeRequest_replace hact hm rfl rfl hv hold hc hdown hnew hroster empty hclaim)
  case fuse =>
    exact fun u ha hlc hopen hint => State.put_ruled ha (by decide) (by decide) rfl (State.fuseKey_open true hlc hopen hint)
  case fuseFails =>
    exact fun u ha hlc hopen hint => State.put_ruled ha (by decide) (by decide) rfl (State.fuseKey_open false hlc hopen hint)
  case quote =>
    exact fun u ha howned hid => State.write_applied ha (by decide) (by decide) rfl
      ((State.quoteRequest_owned howned).trans (congrArg _ (if_pos hid)))
  case noIdentity =>
    exact fun u ha howned hid => State.write_applied ha (by decide) (by decide) rfl
      ((State.quoteRequest_owned howned).trans (congrArg _ (if_neg (Bool.eq_false_iff.mp hid))))
  case close => exact fun u ha => State.write_applied ha (by decide) (by decide) rfl rfl
  case install =>
    exact fun u ha hlc hstill => State.write_applied ha (by decide) (by decide) rfl
      (State.customerRequest_installs hlc hstill rfl rfl rfl)
  case erase =>
    exact fun u ha hauth hstill => State.write_applied ha (by decide) (by decide) rfl (State.customerRequest_erases hauth hstill rfl)
  case transit =>
    intro v u ha hmagic hres hlatched hstill hclean hquiet hmet hauth hint
    exact State.put_ruled ha (by decide) (by decide) rfl
      (State.lifeCycle_done ⟨hmagic, hres, hlatched, hstill, hclean, hquiet⟩ hmet hauth hint rfl rfl)
  case unmet =>
    intro v prog u ha hmagic hres hlatched hstill hclean hquiet hmet
    exact State.put_ruled ha (by decide) (by decide) rfl
      (State.lifeCycle_unmet ⟨hmagic, hres, hlatched, hstill, hclean, hquiet⟩ prog hmet)
  case recovery =>
    exact fun u ha hp => State.write_applied ha (by decide) (by decide) rfl (State.recoveryInstall_runs hp rfl rfl)
  case clearLedger =>
    exact fun u ha hauth hlatched hfreeze hidle => State.write_applied ha (by decide) (by decide) rfl
      (State.ledgerClear_clears hauth hlatched hfreeze hidle rfl rfl)

end Sys2Proof.Machine
end

section
/-! The read channel (R256 to R292): each command by its cases, then the obligation. -/

namespace Sys2Proof.Machine

variable {s : State} {h b rms nsid cl idx n k : Nat} {snr : Int} {x : Sector} {out : DecodeOut} {v : Bool}

/-! ### Handovers (R271) -/

/-- A handover that may be made: to a spare ADC that is free and sound, or back from it to the beam's own, sound too. -/
abbrev State.mayHandOver (s : State) (h b : Nat) (toSpare : Bool) : Prop :=
  b < s.beams ∧ (if toSpare = true then s.reg (chKey h 8 3) = 0xFF ∧ bitOf (s.reg (chKey h 8 4)) 8 = false
    else s.reg (chKey h 8 3) = b ∧ bitOf (s.reg (chKey h 8 4)) b = false)

theorem State.mayHandOver_iff : (decide (b < s.beams) && (if v = true then s.reg (chKey h 8 3) == 0xFF && !bitOf (s.reg (chKey h 8 4)) 8
    else s.reg (chKey h 8 3) == b && !bitOf (s.reg (chKey h 8 4)) b)) = true ↔ s.mayHandOver h b v := by
  cases v <;> simp [State.mayHandOver]

theorem State.handover_not_now (hm : ¬ s.mayHandOver h b v) : s.handover h b v rms = s :=
  order_idle (Bool.eq_false_iff.mpr (mt State.mayHandOver_iff.mp hm))

theorem State.handover_may (hm : s.mayHandOver h b v) {took : State}
    (ht : took = (s.setReg (chKey h 8 3) (if v = true then b else 0xFF)).bump (chKey h 8 6)) : s.handover h b v rms =
      if s.substate h = hsWriting ∨ s.defectHold h = true ∨ s.reg (chKey h 8 2) < rms then s.bump (chKey h 8 7)
      else if v = true ∧ bitOf (s.reg (chKey h 8 4)) b = true then took.setReg (chKey h 8 5) 1 else took := by
  subst ht
  exact order_runs (State.mayHandOver_iff.mpr hm)

/-! ### Lanes (R287) -/

/-- A sector alone in the pool that waits for its verify's first pass is the next for a lane. -/
theorem State.nextForLane_verify (hp : s.pool = [x]) (hs : x.stage = .firstWait) (hv : x.verify = true) : s.nextForLane = some x := by
  have class_ : s.laneClass x = some 1 := (if_pos hs).trans (congrArg some (if_pos hv))
  have order : List.range 4 = [0, 1, 2, 3] := rfl
  simp [State.nextForLane, hp, class_, order]

theorem State.modSector_alone (hp : s.pool = [x]) (f : Sector → Sector) :
    s.modSector x.nsid x.cl x.idx f = { s with pool := [f x] } := by
  rw [State.modSector, hp, List.map_singleton, if_pos ⟨rfl, rfl, rfl⟩]

/-- The only sector of the pool, read back, takes the free lane. -/
theorem State.laneGrant_verify (hp : s.pool = [x]) (hs : x.stage = .firstWait) (hv : x.verify = true) (hw : s.stillWanted x = true)
    (hk : s.freeSlice = some k) : s.laneGrant = { s with pool := [{ x with stage := .first, slice := some k }] } := by
  have kept : ({ s with pool := s.pool.filter fun x => s.stillWanted x || x.slice.isSome || x.probes.any (·.slice.isSome) } : State) = s := by
    rw [hp, List.filter_cons_of_pos (by rw [hw]; rfl), List.filter_nil, ← hp]
  rw [State.laneGrant, kept]
  dsimp only
  rw [hk, State.nextForLane_verify hp hs hv]
  dsimp only
  rw [if_pos hs, if_pos hv, State.modSector_alone hp]

/-! ### Verdicts (R286) -/

/-- An attempt is good when its syndrome, its iterations, its CRC and its PSA are. -/
theorem Sector.verdict_ok_iff (x : Sector) (out : DecodeOut) (most : Nat) : x.verdict most out = .ok ↔
    out.unsat = 0 ∧ out.iters ≤ most ∧ sectorOk out.bytes = true ∧ field out.bytes 0 4 = x.psa := by
  unfold Sector.verdict
  split
  · next h => simp only [reduceCtorEq, false_iff]; omega
  · next h =>
    have within : out.unsat = 0 ∧ out.iters ≤ most := by omega
    simp only [within, true_and]
    split
    · next hcrc => simp_all
    · next hcrc => split <;> simp_all

/-- The bytes of a good attempt are delivered, and its sector has succeeded. -/
def State.sectorGood (s : State) (nsid cl idx : Nat) (x : Sector) (out : DecodeOut) : State :=
  (s.decoded x out.bytes).modSector nsid cl idx fun y => { y.succeed with data := out.bytes, errs := out.errs }

/-! ### First passes (R286, R288, R310) -/

theorem State.firstPass_none (hx : s.sector nsid cl idx = none) : s.firstPass nsid cl idx snr out = s := by
  rw [State.firstPass, hx]

theorem State.firstPass_other (hx : s.sector nsid cl idx = some x) (hs : x.stage ≠ .first) : s.firstPass nsid cl idx snr out = s := by
  rw [State.firstPass, hx]
  exact if_pos (bne_iff_ne.mpr hs)

section FirstPass
variable (hx : s.sector nsid cl idx = some x) (hs : x.stage = .first)
include hx hs

theorem State.firstPass_unwanted (hw : s.stillWanted x = false) : s.firstPass nsid cl idx snr out = s.dropSector nsid cl idx := by
  rw [State.firstPass, hx]
  exact (if_neg (by rw [hs]; decide)).trans (order_idle hw)

theorem State.firstPass_good (hw : s.stillWanted x = true) (hv : x.verdict x.innerFirst out = .ok) : s.firstPass nsid cl idx snr out =
    (((s.countRung x 1).saveCoef x).quality x snr out true).sectorGood nsid cl idx x out := by
  rw [State.firstPass, hx]
  refine (if_neg (by rw [hs]; decide)).trans ((order_runs hw).trans ?_)
  rw [hv]
  rfl

theorem State.firstPass_bad (hw : s.stillWanted x = true) {counted : State}
    (hc : counted = s.countVerdict x (x.verdict x.innerFirst out)) (hv : x.verdict x.innerFirst out ≠ .ok) :
    s.firstPass nsid cl idx snr out = if (x.verify || !x.enable) = true then counted.modSector nsid cl idx Sector.lose
      else counted.modSector nsid cl idx fun y =>
        { y with stage := .ringWait, slice := none, since := counted.now, globals := 0, best := none, stall := 0 } := by
  rw [State.firstPass, hx, hc]
  exact (if_neg (by rw [hs]; decide)).trans ((order_runs hw).trans (if_neg hv))

end FirstPass

/-! ### Globals of a run (R288, R289, R292) -/

theorem State.retryGlobal_none {off : Int} (hx : s.sector nsid cl idx = none) : s.retryGlobal nsid cl idx off out = s := by
  rw [State.retryGlobal, hx]

/-- The global at `off` is one of the sector's run: of the ring's frame as it was read, or at the offset of its full schedule. -/
abbrev Sector.runsAt (x : Sector) (off : Int) : Prop := x.stage = .ring ∧ off = 0 ∨ x.stage = .full ∧ off = x.off

section Globals
variable {off : Int} {counted : State} (hx : s.sector nsid cl idx = some x) (hr : x.runsAt off) (hw : s.stillWanted x = true)
include hx hr hw

/-- A good global counts at its run's rung, and a full run's offset with it. -/
theorem State.retryGlobal_good {rung : State} (hrung : rung =
      if x.stage = .ring then s.countRung x 2 else (s.countRung x 3).bump (chKey x.h 0x1F (1 + x.b)))
    (hv : x.verdict x.innerRetry out = .ok) : s.retryGlobal nsid cl idx off out = rung.sectorGood nsid cl idx x out := by
  subst hrung
  rcases hr with ⟨hs, rfl⟩ | ⟨hs, rfl⟩ <;> simp [State.retryGlobal, State.sectorGood, State.countVerdict, hx, hs, hw, hv]

theorem State.retryGlobal_over (hc : counted = s.countVerdict x (x.verdict x.innerRetry out)) {after : Sector} (ha : after =
      if x.stage = .ring then (x.globalEnds out.unsat).1.ringFailed counted.now else (x.globalEnds out.unsat).1.lose)
    (hv : x.verdict x.innerRetry out ≠ .ok) (ho : (x.globalEnds out.unsat).2 = true) :
    s.retryGlobal nsid cl idx off out = counted.modSector nsid cl idx fun _ => after := by
  subst ha
  rcases hr with ⟨hs, rfl⟩ | ⟨hs, rfl⟩ <;> simp [State.retryGlobal, hx, hs, hw, hv, ho, hc]

theorem State.retryGlobal_goes_on (hc : counted = s.countVerdict x (x.verdict x.innerRetry out)) (hv : x.verdict x.innerRetry out ≠ .ok)
    (ho : (x.globalEnds out.unsat).2 = false) (hgive : (counted.preempts || x.slice.any counted.sliceOut) = false) :
    s.retryGlobal nsid cl idx off out = counted.modSector nsid cl idx fun _ => (x.globalEnds out.unsat).1 := by
  subst hc
  rcases hr with ⟨hs, rfl⟩ | ⟨hs, rfl⟩ <;> simp [State.retryGlobal, hx, hs, hw, hv, ho, hgive]

end Globals

/-! ### The outer code (R290, R291) -/

/-- The sectors of a cluster that a media operation reads. -/
abbrev State.readSectors (s : State) (nsid cl : Nat) : List Sector := s.pool.filter fun x => x.nsid == nsid && x.cl == cl && !x.verify

/-- Those of them that are lost to both rungs. -/
abbrev State.lostSectors (s : State) (nsid cl : Nat) : List Sector := (s.readSectors nsid cl).filter fun x => x.stage == .lost

/-- The cluster's sectors leave the pool. -/
def State.dropCluster (s : State) (nsid cl : Nat) : State :=
  { s with pool := s.pool.filter fun x => !(x.nsid == nsid && x.cl == cl && !x.verify) }

/-- Each of the cluster's 18 sectors is in the pool, and has succeeded or is lost. -/
abbrev State.clusterOver (s : State) (nsid cl : Nat) : Prop :=
  (∀ i < 18, ∃ y ∈ s.readSectors nsid cl, y.idx = i) ∧ ∀ y ∈ s.readSectors nsid cl, y.stage = .good ∨ y.stage = .lost

theorem State.not_clusterOver_iff : (!(List.range 18).all (fun i => (s.readSectors nsid cl).any fun x => x.idx == i)
    || !((s.readSectors nsid cl).all fun x => x.stage == .good || x.stage == .lost)) = true ↔ ¬ s.clusterOver nsid cl := by
  rw [← Bool.not_and, Bool.not_eq_true', ← Bool.not_eq_true, Bool.and_eq_true]
  simp only [List.all_eq_true, List.any_eq_true, List.mem_range, Bool.or_eq_true, beq_iff_eq]

theorem State.outerRepair_empty (ok : Bool) (he : s.readSectors nsid cl = []) : s.outerRepair nsid cl ok = s := by
  refine if_pos (State.not_clusterOver_iff.mpr fun hc => ?_)
  obtain ⟨all, -⟩ := hc
  obtain ⟨y, hy, -⟩ := all 0 (by decide)
  rw [he] at hy
  exact absurd hy List.not_mem_nil

theorem State.outerRepair_releases (ok : Bool) (hc : s.clusterOver nsid cl) (hl : s.lostSectors nsid cl = []) :
    s.outerRepair nsid cl ok = s.dropCluster nsid cl :=
  (if_neg (mt State.not_clusterOver_iff.mp (not_not_intro hc))).trans (if_pos (List.isEmpty_iff.mpr hl))

theorem State.outerRepair_repairs (hc : s.clusterOver nsid cl) (hl : s.lostSectors nsid cl ≠ [])
    (hmost : (s.lostSectors nsid cl).length ≤ 2) : s.outerRepair nsid cl true =
      ((s.forEach (s.repaired (s.readSectors nsid cl) (s.lostSectors nsid cl)) fun u p => (u.countRung p.1 4).decoded p.1 p.2).modOp
        nsid cl fun o => { o with outer := true }).dropCluster nsid cl :=
  (if_neg (mt State.not_clusterOver_iff.mp (not_not_intro hc))).trans
    ((if_neg (mt List.isEmpty_iff.mp hl)).trans (if_pos ⟨hmost, rfl⟩))

/-! ### The obligation -/

/-- Settles O35, command by command, from the cases above. -/
theorem readChannel : Obligations.ReadChannel := by
  unfold Obligations.ReadChannel
  intro s h b rms nsid cl idx n k v ok snr blocks det fr ask f a x out spare deg may turned took bd lit ref seen put on starts found fl kept
    marked readBack xs lost left good first again
  refine ⟨?handNot, ?handRefused, ?handMade, ?resync, ?resyncNot, ?startNot, ?startBlu, ?startKept, ?startAsked, ?lane, ?laneVerify,
    ?verdict, ?sectorNone, ?firstOther, ?firstUnwanted, ?firstEnds, ?ring, ?full, ?outerNone, ?outerReleases, ?outerRepairs, ?huntEnds,
    ?huntGoesOn⟩
  case handNot => exact fun hm => congrArg _ (State.handover_not_now hm)
  case handRefused => exact fun hm ht => congrArg _ ((State.handover_may hm rfl).trans (if_pos ht))
  case handMade => exact fun hm ht => congrArg _ ((State.handover_may hm rfl).trans (if_neg ht))
  case resync => exact next_pos
  case resyncNot => exact next_neg
  case startNot => exact next_neg
  case startBlu => exact fun hs hbd => (next_pos hs).trans (next_pos hbd)
  case startKept =>
    rintro hs hbd (rfl | rfl)
    · exact (next_pos hs).trans (next_false hbd)
    · cases ask <;> exact (next_pos hs).trans (next_false hbd)
  case startAsked =>
    rintro hs hbd rfl rfl
    exact (next_pos hs).trans (next_false hbd)
  case lane => rfl
  case laneVerify => exact fun hp hs hv hw hk => congrArg _ (State.laneGrant_verify hp hs hv hw hk)
  case verdict => exact x.verdict_ok_iff out
  case sectorNone => exact fun hx => ⟨congrArg _ (State.firstPass_none hx), congrArg _ (State.retryGlobal_none hx)⟩
  case firstOther => exact fun hx hs => congrArg _ (State.firstPass_other hx hs)
  case firstUnwanted => exact fun hx hs hw => congrArg _ (State.firstPass_unwanted hx hs hw)
  case firstEnds =>
    refine fun hx hs hw => ⟨fun hv => ?_, fun hv hread hen => ?_, fun hv hlose => ?_⟩
    · exact congrArg _ (State.firstPass_good hx hs hw hv)
    · exact congrArg _ ((State.firstPass_bad hx hs hw rfl hv).trans (if_neg (by rw [hread, hen]; decide)))
    · have loses : (x.verify || !x.enable) = true := by rcases hlose with hc | hc <;> simp [hc]
      exact congrArg _ ((State.firstPass_bad hx hs hw rfl hv).trans (if_pos loses))
  case ring =>
    intro hx hs hw
    have run : x.runsAt 0 := .inl ⟨hs, rfl⟩
    refine ⟨fun hv => ?_, fun hv ho => ?_, fun hv ho hpre hlane => ?_⟩
    · exact congrArg _ (State.retryGlobal_good hx run hw (if_pos hs).symm hv)
    · exact congrArg _ (State.retryGlobal_over hx run hw rfl (if_pos hs).symm hv ho)
    · exact congrArg _ (State.retryGlobal_goes_on hx run hw rfl hv ho (by rw [hpre, hlane]; rfl))
  case full =>
    intro hx hs hw hv
    have full : ¬ x.stage = .ring := by rw [hs]; decide
    exact congrArg _ (State.retryGlobal_good hx (.inr ⟨hs, rfl⟩) hw (if_neg full).symm hv)
  case outerNone => exact fun he => congrArg _ (State.outerRepair_empty ok he)
  case outerReleases =>
    intro hall hgood
    have noneLost : lost = [] := List.filter_eq_nil_iff.mpr fun y hy => by rw [hgood y hy]; decide
    exact congrArg _ (State.outerRepair_releases ok ⟨hall, fun y hy => .inl (hgood y hy)⟩ noneLost)
  case outerRepairs => exact fun hall hend hl hmost => congrArg _ (State.outerRepair_repairs ⟨hall, hend⟩ hl hmost)
  case huntEnds => exact fun hb hlo hhi => next_pos ⟨hb, hlo, hhi⟩
  case huntGoesOn =>
    refine fun hn => next_neg fun ⟨hb, hlo, hhi⟩ => ?_
    rcases hn with hn | hn | hn
    · exact absurd hb (Bool.eq_false_iff.mp hn)
    · omega
    · omega

end Sys2Proof.Machine
end

section
/-! Write bands (R264, R265, R297 to R319): each command by its cases, then the obligation. -/

namespace Sys2Proof.Machine

variable {s : State} {h b nsid cl start sectors mask : Nat} {late closed : Bool} {d : Band} {l : Line}

/-! ### WRITE_START begins a band (R303, R307, R309) -/

/-- BAND_START: of a direct order as the host wrote it. -/
abbrev State.bandStart (s : State) (h start : Nat) : Nat := if s.directOrder h = true then s.reg (wrKey h 3) else start

/-- The beams of the band: of a direct order as the host wrote them. -/
abbrev State.bandMask (s : State) (h mask : Nat) : Nat := (if s.directOrder h = true then s.reg (wrKey h 5) else mask) % 2 ^ s.beams

/-- The length of the band: whole clusters within the limit of a verified band, or as the host wrote it. -/
abbrev State.bandSectors (s : State) (h start sectors : Nat) : Nat :=
  if s.directOrder h = true then s.reg (wrKey h 4) else max 18 (min (sectors / 18 * 18) (s.bandLimit h (s.bandStart h start)))

/-- A direct order writes in a test area in MAINT, another from the start of a cluster. -/
abbrev State.bandPlace (s : State) (h start : Nat) : Prop :=
  if s.directOrder h = true then s.stState (h / 2) = stMaint ∧ inTest (s.daf2 (h / 2)) (s.bandStart h start) = true
  else s.bandStart h start % 2 ^ 26 % 18 = 0

theorem State.bandPlace_iff : (if s.directOrder h = true then s.stState (h / 2) == stMaint && inTest (s.daf2 (h / 2)) (s.bandStart h start)
    else s.bandStart h start % 2 ^ 26 % 18 == 0) = true ↔ s.bandPlace h start := by
  unfold State.bandPlace
  split
  · rw [Bool.and_eq_true, beq_iff_eq]
  · exact beq_iff_eq

/-- An accepted band is held with its gates closed: its registers set, its levels sent, its lanes ready. -/
def State.bandHeld (s : State) (h start sectors mask : Nat) : State :=
  let named := (s.allocRedo h).setRegs [(wrKey h 3, s.bandStart h start), (wrKey h 4, s.bandSectors h start sectors), (wrKey h 1, 1)]
  let sent := named.sendLevels h (named.reg (hdKey h 0x13 1)) (s.bandMask h mask)
  let armed := sent.forEach ((bitsIn 8 (s.bandMask h mask)).filter (sent.canWrite h)) fun w b => w.setLane h b 1
  (armed.modHd h fun y => { y with
    band := some ⟨s.bandStart h start, s.bandSectors h start sectors, s.bandMask h mask, s.directOrder h, false, false, []⟩
    inhibited := false
    gates := y.gates.map fun g => { g with open_ := false, cur := none, next := none, data := [] } }).modSq h fun q => { q with started := 1 }

theorem State.writeStart_idle (ev : WriteEvent) (hr : s.runs h 0x0C = false) : s.writeStart h ev = s := order_idle hr

theorem State.writeStart_begins (hr : s.runs h 0x0C = true) (hx : (s.sq h).started = 0) : s.writeStart h (.begin start sectors mask) =
    if s.shockOut (h / 2) = true then s.orderRejected h 6
    else if s.writeOk h (s.bandStart h start) = true ∧ s.bandPlace h start then s.bandHeld h start sectors mask
    else s.orderRejected h 1 := by
  refine (order_runs hr).trans ((if_pos hx).trans ?_)
  simp only [← State.bandPlace_iff, ← Bool.and_eq_true]
  rfl

theorem State.writeStart_not_begun {ev : WriteEvent} (hr : s.runs h 0x0C = true) (hx : (s.sq h).started = 0)
    (hev : ev = .opened ∨ ev = .passed) : s.writeStart h ev = s := by
  rcases hev with rfl | rfl <;> exact (order_runs hr).trans (if_pos hx)

theorem State.writeStart_begun (hr : s.runs h 0x0C = true) (hx : (s.sq h).started ≠ 0) :
    s.writeStart h (.begin start sectors mask) = s := (order_runs hr).trans (if_neg hx)

theorem State.writeStart_passed (hr : s.runs h 0x0C = true) (hx : (s.sq h).started ≠ 0) :
    s.writeStart h .passed = s.dropBand h 0x0F5C0001 := (order_runs hr).trans (if_neg hx)

/-! ### WRITE_START opens the gates (R303, R307) -/

/-- The cluster a beam has buffered. -/
def State.nextCluster (s : State) (h b : Nat) : Option Nat := match (s.hd h).gates[b]? with | some g => g.next | none => none

/-- The beams whose gates open: those that can write, with a cluster buffered unless the band is a test. -/
def State.openingBeams (s : State) (h : Nat) (d : Band) : List Nat :=
  (bitsIn 8 d.mask).filter fun b => s.canWrite h b && (d.test || (s.nextCluster h b).isSome)

/-- The gates of these beams open: a test band lays its clusters, and every beam begins its buffered one. -/
def State.bandBegun (s : State) (h : Nat) (d : Band) (go : List Nat) : State :=
  let opened := s.modHd h fun y => { y with band := some { d with opened := true }, pklWait := false }
  let laid := if d.test = true then opened.forEach go fun w b => w.forEach (List.range (d.sectors / 18)) fun w j =>
      w.layTest h b (placeName (d.start / 2 ^ 29 % 8) ((s.reg (hdKey h 0x13 3) + b) % 8) (psaIndex d.start / 18 + j)) else opened
  laid.forEach go fun w b => w.beginCluster h b (w.nextCluster h b)

/-- The gates have opened: with a beam that writes the head is WRITING, and the order ends. -/
def State.bandOpened (s : State) (h : Nat) (d : Band) (go : List Nat) : State :=
  (if go.isEmpty = true then s.bandBegun h d go else (s.bandBegun h d go).beginWriting h).orderDone h 0

theorem State.writeStart_opened (hr : s.runs h 0x0C = true) (hx : (s.sq h).started ≠ 0) (hd : (s.hd h).band = some d) {go : List Nat}
    (hgo : go = s.openingBeams h d) :
    s.writeStart h .opened = (if go = [] then s.bandBegun h d go else (s.bandBegun h d go).beginWriting h).orderDone h 0 := by
  simp only [← List.isEmpty_iff]
  subst hgo
  refine (order_runs hr).trans ((if_neg hx).trans ?_)
  rw [hd]
  refine congrArg (s.bandOpened h d) (List.filter_congr fun b _ => congrArg (fun buffered => s.canWrite h b && (d.test || buffered)) ?_)
  rw [State.nextCluster]
  cases (s.hd h).gates[b]? <;> rfl

theorem State.writeStart_bandless (hr : s.runs h 0x0C = true) (hx : (s.sq h).started ≠ 0) (hd : (s.hd h).band = none) :
    s.writeStart h .opened = s.orderRejected h 1 := by
  refine (order_runs hr).trans ((if_neg hx).trans ?_)
  rw [hd]

/-! ### CLUSTER_BUFFERED (R264, R265, R297 to R299) -/

/-- A beam of the running band can take the cluster of a line. -/
abbrev State.clusterReady (s : State) (h b : Nat) (d : Band) (l : Line) : Prop :=
  d.test = false ∧ d.stopping = false ∧ bitOf d.mask b = true ∧ s.canWrite h b = true ∧ s.readyFor h b d l = true
    ∧ (((s.hd h).gates.getD b Gate.init).open_ = true ∨ ((s.hd h).gates.getD b Gate.init).next = none)
    ∧ (d.opened = false ∨ (s.hd h).inhibited = false ∨ ((s.hd h).gates.getD b Gate.init).open_ = true)

theorem State.not_clusterReady_iff {gate : Gate} (hg : gate = (s.hd h).gates.getD b Gate.init) :
    (d.test || d.stopping || !bitOf d.mask b || !s.canWrite h b || !s.readyFor h b d l || !(gate.open_ || gate.next.isNone)
      || (d.opened && (s.hd h).inhibited && !gate.open_)) = true ↔ ¬ s.clusterReady h b d l := by
  rw [State.clusterReady, ← hg, ← Option.isNone_iff_eq_none, ← Bool.not_eq_false]
  refine not_congr ?_
  simp only [Bool.or_eq_false_iff, Bool.and_eq_false_iff, Bool.not_eq_false', Bool.or_eq_true, or_assoc, and_assoc]

/-- A cluster in time is WRITING: its blocks are checked and take a buffer of the beam. -/
def State.bufferLine (s : State) (h b nsid cl : Nat) (l : Line) : State :=
  ((((if l.state = .writing then s.unverified nsid cl else s).modLine nsid cl fun l =>
    { l with state := .writing, later := none, laterMask := 0 }).bufferChecks h l).takeBuffer h b (clusterId nsid cl) l)

variable {r : State}

section Buffered
variable (hr : ((s.allocRedo h).retail h nsid cl).avoidDefect h nsid cl = r)
include hr

theorem execClusterBuffered_none (hn : (r.hd h).band = none ∨ r.line nsid cl = none) :
    execClusterBuffered h b nsid cl late s = .next r := by
  rw [execClusterBuffered, State.clusterBuffered, hr]
  rcases hn with hn | hn
  · rw [hn]
  · rw [hn]
    cases (r.hd h).band <;> rfl

theorem execClusterBuffered_not_ready (hd : (r.hd h).band = some d) (hl : r.line nsid cl = some l) (hn : ¬ r.clusterReady h b d l) :
    execClusterBuffered h b nsid cl late s = .next r := by
  rw [execClusterBuffered, State.clusterBuffered, hr, hd, hl]
  exact next_pos ((State.not_clusterReady_iff rfl).mpr hn)

theorem execClusterBuffered_ready (hd : (r.hd h).band = some d) (hl : r.line nsid cl = some l) (hready : r.clusterReady h b d l) :
    execClusterBuffered h b nsid cl late s = .next (if (!r.fullLine l) = true then
        if (r.op nsid cl).isNone = true then r.queueFill nsid cl .merge else r
      else if late = true then r.bump (wrKey h 0x0B) else r.bufferLine h b nsid cl l) := by
  rw [execClusterBuffered, State.clusterBuffered, hr, hd, hl]
  exact next_neg (mt (State.not_clusterReady_iff rfl).mp (not_not_intro hready))

theorem execClusterBuffered_missing (hd : (r.hd h).band = some d) (hl : r.line nsid cl = some l) (hready : r.clusterReady h b d l)
    (hfull : r.fullLine l = false) :
    execClusterBuffered h b nsid cl late s = .next (if r.op nsid cl = none then r.queueFill nsid cl .merge else r) := by
  rw [execClusterBuffered_ready hr hd hl hready, hfull]
  simp only [← Option.isNone_iff_eq_none]
  rfl

theorem execClusterBuffered_full (hd : (r.hd h).band = some d) (hl : r.line nsid cl = some l) (hready : r.clusterReady h b d l)
    (hfull : r.fullLine l = true) :
    execClusterBuffered h b nsid cl late s = .next (if late = true then r.bump (wrKey h 0x0B) else r.bufferLine h b nsid cl l) := by
  rw [execClusterBuffered_ready hr hd hl hready, hfull]
  rfl

end Buffered

/-! ### The end of a band (R307, R309) -/

theorem execBandEnd_band (hd : (s.hd h).band = some d) :
    execBandEnd h s = .next (if d.opened = true then s.endBand h (!d.stopping) else s) := by
  rw [execBandEnd, hd]

theorem execBandEnd_none (hd : (s.hd h).band = none) : execBandEnd h s = .next s := by
  rw [execBandEnd, hd]

theorem execWriteStop_idle (hr : s.runs h 0x0D = false) : execWriteStop h closed s = .next s := congrArg _ (order_idle hr)

theorem execWriteStop_not_writing (hr : s.runs h 0x0D = true) (hw : s.substate h ≠ hsWriting) :
    execWriteStop h closed s = .next (s.orderDone h 0) := congrArg _ ((order_runs hr).trans (if_pos hw))

theorem execWriteStop_writing (hr : s.runs h 0x0D = true) (hw : s.substate h = hsWriting) : execWriteStop h closed s =
    .next (if (s.sq h).started = 0 then
        (s.modHd h fun y => { y with band := y.band.map fun b => { b with stopping := true } }).modSq h fun q => { q with started := 1 }
      else if closed = true then (s.endBand h false).orderDone h 0 else s) :=
  congrArg _ ((order_runs hr).trans (if_neg (not_not_intro hw)))

/-! ### GATE_REOPEN (R316) -/

/-- The band goes on: the head follows again, nothing waits, and it has been quiet. -/
abbrev State.gatesReopen (s : State) (h : Nat) (d : Band) : Prop :=
  d.opened = true ∧ d.stopping = false ∧ (s.hd h).inhibited = true ∧ s.substate h = hsFollowing ∧ s.loopState h 0 = lsClosed
    ∧ s.loopState h 1 = lsClosed ∧ s.tiltWait h = false ∧ (s.hd h).quietFrom + s.reg (stKey (h / 2) 0xD0 5) ≤ s.now

theorem State.gatesReopen_iff : (d.opened && !d.stopping && (s.hd h).inhibited && s.substate h == hsFollowing && s.loopState h 0 == lsClosed
    && s.loopState h 1 == lsClosed && !s.tiltWait h && (s.hd h).quietFrom + s.reg (stKey (h / 2) 0xD0 5) ≤ s.now) = true
      ↔ s.gatesReopen h d := by
  simp only [Bool.and_eq_true, Bool.not_eq_true', beq_iff_eq, decide_eq_true_eq, and_assoc]

theorem execGateReopen_reopens (hd : (s.hd h).band = some d) (hr : s.gatesReopen h d) : execGateReopen h s =
    .next (((s.forEach ((bitsIn 8 d.mask).filter (s.canWrite h)) fun w b => w.setLane h b 1).modHd h fun y =>
      { y with inhibited := false }).setReg (wrKey h 1) 1) := by
  rw [execGateReopen, hd]
  exact next_pos (State.gatesReopen_iff.mpr hr)

theorem execGateReopen_stays (hd : (s.hd h).band = some d) (hr : ¬ s.gatesReopen h d) : execGateReopen h s = .next s := by
  rw [execGateReopen, hd]
  exact next_neg (mt State.gatesReopen_iff.mp hr)

theorem execGateReopen_none (hd : (s.hd h).band = none) : execGateReopen h s = .next s := by
  rw [execGateReopen, hd]

/-! ### The obligation -/

/-- Settles O52, command by command, from the cases above. -/
theorem writeBands : Obligations.WriteBands := by
  unfold Obligations.WriteBands
  intro s h b nsid cl start sectors mask late closed ev d l x runs direct wr at_ beams n place u named sent armed nextOf go opened laid begun
    r gate ready held reopens
  refine ⟨?startIdle, ?startShock, ?startRefused, ?startHeld, ?startWaits, ?startGoesOn, ?startOpened, ?startBandless, ?bufferNone,
    ?bufferNotReady, ?bufferMissing, ?bufferFull, ?endBand, ?endNone, ?stopNotWriting, ?stopBegins, ?stopEnds, ?stopIdle, ?reopens,
    ?reopenNot⟩
  case startIdle => exact fun hr => congrArg _ (State.writeStart_idle ev hr)
  case startShock => exact fun hr hx hs => congrArg _ ((State.writeStart_begins hr hx).trans (if_pos hs))
  case startRefused =>
    intro hr hx hs hn
    have refused : ¬ (s.writeOk h (s.bandStart h start) = true ∧ s.bandPlace h start) := fun hc =>
      hn.elim (fun hw => absurd hc.1 (Bool.eq_false_iff.mp hw)) (fun hp => hp hc.2)
    exact congrArg _ ((State.writeStart_begins hr hx).trans ((if_neg (Bool.eq_false_iff.mp hs)).trans (if_neg refused)))
  case startHeld =>
    exact fun hr hx hs hw hp => congrArg _
      ((State.writeStart_begins hr hx).trans ((if_neg (Bool.eq_false_iff.mp hs)).trans (if_pos ⟨hw, hp⟩)))
  case startWaits =>
    exact fun hr hx => ⟨congrArg _ (State.writeStart_not_begun hr hx (.inl rfl)), congrArg _ (State.writeStart_not_begun hr hx (.inr rfl))⟩
  case startGoesOn =>
    exact fun hr hx => ⟨congrArg _ (State.writeStart_passed hr hx), congrArg _ (State.writeStart_begun hr hx)⟩
  case startOpened => exact fun hr hx hd => congrArg _ (State.writeStart_opened hr hx hd rfl)
  case startBandless => exact fun hr hx hd => congrArg _ (State.writeStart_bandless hr hx hd)
  case bufferNone => exact execClusterBuffered_none rfl
  case bufferNotReady => exact fun ⟨hd, hl⟩ hn => execClusterBuffered_not_ready rfl hd hl hn
  case bufferMissing => exact fun ⟨hd, hl⟩ hready hfull => execClusterBuffered_missing rfl hd hl hready hfull
  case bufferFull =>
    exact fun ⟨hd, hl⟩ hready hfull => ⟨(execClusterBuffered_full rfl hd hl hready hfull).trans (next_pos rfl),
      (execClusterBuffered_full rfl hd hl hready hfull).trans (next_false rfl)⟩
  case endBand => exact execBandEnd_band
  case endNone => exact fun hd => ⟨execBandEnd_none hd, execGateReopen_none hd⟩
  case stopNotWriting => exact execWriteStop_not_writing
  case stopBegins => exact fun hr hw hx => (execWriteStop_writing hr hw).trans (next_pos hx)
  case stopEnds =>
    exact fun hr hw hx => ⟨(execWriteStop_writing hr hw).trans ((next_neg hx).trans (next_pos rfl)),
      (execWriteStop_writing hr hw).trans ((next_neg hx).trans (next_false rfl))⟩
  case stopIdle => exact execWriteStop_idle
  case reopens => exact execGateReopen_reopens
  case reopenNot => exact execGateReopen_stays

end Sys2Proof.Machine
end

section
/-! A DISCOVER of a device the roster does not have (R392, R401): formation forgets the devices heard as it begins, so the one
whose DISCOVER begins it is heard after that. -/

namespace Sys2Proof.Machine

/-- A device on a closed ring, at position 0, both links up. -/
def State.onRing : State :=
  State.reset.setRegs [(ringKey 1, 1), (ringKey 3, rsRing), (ringKey 4, 0), (key 0x2102 93, 3), (portKey 0 1, 2), (portKey 1 1, 2)]

/-- The same, the first frame of the west link taken. -/
def State.onRingNext : State := State.onRing.modRing fun r => { r with rx := r.rx.modify 0 fun n => (n + 1) % 2 ^ 32 }

/-- A device that no roster has. -/
def newcomer : Candidate := ⟨2, 0, 1, 8, 8, 4⟩

/-- The head of its DISCOVER, over one link, the first of that link. -/
def newcomerHead : FrameHead := ⟨0xFF, 0xFF, 1, false, 0, 0⟩

/-- The model keeps the newcomer among the devices heard. -/
theorem State.onRingNext_discover_found : (State.onRingNext.discover newcomer).fabric.found = [newcomer] := by decide +kernel

/-- Heard before formation begins, it is forgotten. -/
theorem State.onRingNext_heard_startForming_found :
    ((State.onRingNext.modRing fun x =>
      { x with found := (x.found.filter fun y => y.serial != newcomer.serial) ++ [newcomer] }).startForming).fabric.found = [] := by
  decide +kernel

/-- The newcomer's DISCOVER comes in order over a link that is up. -/
theorem State.onRing_hears : (State.onRing.enabledRing = true
    ∧ ¬ (newcomerHead.src = State.onRing.reg (ringKey 4) ∧ State.onRing.reg (ringKey 4) ≠ 0xFF) ∧ State.onRing.linkUp 0 = true)
    ∧ true = true ∧ newcomerHead.seq = State.onRing.fabric.rx.getD 0 0 := by decide +kernel

/-- Refutes O46: at a device of a closed ring the DISCOVER of a device that the roster does not have begins formation, and the
newcomer is among the devices heard after it; as stated, it would be heard first and formation would forget it. -/
theorem not_ringFormationAndLinks : ¬ Obligations.RingFormationAndLinks := by
  unfold Obligations.RingFormationAndLinks
  intro stated
  obtain ⟨-, -, -, discover, -⟩ := stated State.onRing 0 0 0 0 0 0 0 false true newcomerHead newcomer ⟨0, [], 0, 0⟩
  obtain ⟨-, -, -, -, -, forgets, -, -⟩ := discover
  obtain ⟨-, -, -, -, -, keeps, -, -⟩ := arrives_of
    (show exec (.discover 0 newcomerHead true newcomer) State.onRing = .next (State.onRing.frameIn 0 0x03 newcomerHead true _ [] _) from rfl)
  have known : newcomer.serial ≠ State.onRingNext.serial ∧ State.onRingNext.ringState ≠ rsForming
      ∧ (State.onRingNext.fabric.roster.any fun e => e.serial == newcomer.serial) = false := by decide +kernel
  obtain ⟨other, forming, unknown⟩ := known
  have same := Host.Outcome.next.inj ((keeps State.onRing_hears (.inl rfl)).symm.trans (forgets State.onRing_hears (.inl rfl)))
  rw [← State.onRingNext] at same
  beta_reduce at same
  rw [if_neg other, if_neg forming, if_pos (.inl unknown)] at same
  have found := State.onRingNext_discover_found.symm.trans
    ((congrArg (fun u : State => u.fabric.found) same).trans State.onRingNext_heard_startForming_found)
  exact List.cons_ne_nil _ _ found

end Sys2Proof.Machine
end

section
/-! Ring time, calendar time, ring strobes and spin-up grants (R403 to R408): each command by its cases, then the obligation. -/

namespace Sys2Proof.Machine

variable {s : State} {serial st : Nat}

section Frames
variable {c : Instr} {p kind : Nat} {hd : FrameHead} {crc : Bool} {f : List Nat} {d : List Block} {act act' : State → State}

/-- The effect of a frame that comes in may be said in other words. -/
theorem frameIn_as {w : State} (h : exec c s = .next (w.frameIn p kind hd crc f d act)) (same : ∀ u, act u = act' u) :
    exec c s = .next (w.frameIn p kind hd crc f d act') := funext same ▸ h

theorem arrives_as (h : exec c s = .next (s.frameIn p kind hd crc f d act)) (same : ∀ u, act u = act' u) :
    s.Arrives c p kind hd crc f d act' := arrives_of (frameIn_as h same)

end Frames

/-! ### Ring time and calendar time (R403, R404) -/

/-- Each link that is up probes its delay. -/
abbrev State.probesSent (s : State) : State := s.forEach ((List.range 2).filter s.linkUp) fun u q => u.ringSend q 0x01 [u.ringTime]

/-- The device leads ring time: it stands at position 0 of a ring that runs, is too long or forms. -/
abbrev State.leadsTime (s : State) : Prop :=
  s.atZero = true ∧ (s.ringRuns = true ∨ s.ringState = rsOver ∨ s.ringState = rsForming)

theorem execSyncIntervalTick_leads (he : s.enabledRing = true) (hl : s.probesSent.leadsTime) : execSyncIntervalTick s
    = .next ((s.probesSent.ringAll 0x05 [s.probesSent.ringTime, s.probesSent.calendar, 0]).ringSend s.probesSent.ringPort 0x06 []) :=
  (next_pos he).trans (next_pos hl)

theorem execSyncIntervalTick_follows (he : s.enabledRing = true) (hl : ¬ s.probesSent.leadsTime) :
    execSyncIntervalTick s = .next s.probesSent := (next_pos he).trans (next_neg hl)

/-- What TIME_SYNC does on a member: ring time takes the master's, and the calendar that follows it steps or is slewed. -/
theorem State.timeSync_eq (t cal d : Nat) (u : State) : u.timeSync t cal d =
    if u.ringRuns = true ∧ u.atZero = false then
      let want : Int := ((t : Int) + d) - (u.now : Int) * 1000
      let err := if u.fabric.synced = true then want - u.fabric.offset else 0
      let v := (u.setRegI 32 (key 0x2300 6) (max (-2147483648) (min 2147483647 err))).modRing fun r =>
        { r with offset := want, synced := true, lastSync := u.now }
      let aim := cal + d / 1000
      let e : Int := (aim : Int) - v.calendar
      let top : Int := (((u.now - u.fabric.lastSync) / 10000 : Nat) : Int)
      if v.reg (key 0x2300 4) ≠ 1 then v
      else if v.timeValid = false ∨ 1000 < e.natAbs then v.calendarSet aim 3
      else (v.modPower fun q => { q with calOffset := q.calOffset + max (-top) (min top e) }).setReg (key 0x2300 3) 3
    else u := by
  simp only [State.timeSync, Bool.not_eq_true, Bool.or_eq_true, Bool.not_eq_true', decide_eq_true_eq, ite_not]
  rfl

/-! ### Spin-up grants (R408) -/

theorem State.spinAsked_ask (u : State) : u.spinAsked serial st true = if u.isMaster = false then u
    else if u.fabric.asks.contains (serial, st) = true ∨ u.fabric.grants.any (fun g => g.1 == serial && g.2.1 == st) = true then u
    else (u.modRing fun r => { r with asks := r.asks ++ [(serial, st)] }).pumpGrants := by
  simp only [State.spinAsked, if_true, Bool.or_eq_true]
  cases u.isMaster <;> rfl

theorem State.spinAsked_release (u : State) : u.spinAsked serial st false = if u.isMaster = false then u
    else (u.modRing fun r => { r with
      asks := r.asks.filter (· != (serial, st)), grants := r.grants.filter fun g => !(g.1 == serial && g.2.1 == st) }).pumpGrants := by
  simp only [State.spinAsked]
  cases u.isMaster <;> rfl

/-- A grant's effect here: the spin-up asked for takes its local slot. -/
theorem State.grantIn_eq (give : Bool) (u : State) : (if serial = u.serial then u.granted st give else u) =
    if serial ≠ u.serial ∨ u.stationPresent st = false ∨ u.ringRuns = false then u
    else if give = false then u.modStn st fun x => { x with grant := false }
    else if (u.stn st).asked = false then u
    else
      let g := (u.modStn st fun x => { x with asked := false, grant := true }).setStFlag st 6 false
      if (g.stn st).spinPhase = 2 then g.needSlot st else g := by
  by_cases hs : serial = u.serial
  · simp only [State.granted, hs, Bool.or_eq_true, Bool.not_eq_true', ne_eq, not_true_eq_false, false_or, if_true]
    cases give <;> cases (u.stn st).asked <;> rfl
  · simp only [hs, ne_eq, not_false_eq_true, true_or, if_true, if_false]

theorem execGrantExpiry_not (h : s.isMaster = false ∨ s.fabric.grants.any (fun g => g.1 == serial && g.2.1 == st) = false) :
    execGrantExpiry serial st s = .next s := by
  refine next_neg fun ⟨hm, hg⟩ => ?_
  rcases h with h | h
  · exact Bool.false_ne_true (h.symm.trans hm)
  · exact Bool.false_ne_true (h.symm.trans hg)

/-! ### The obligation -/

/-- Settles O47, command by command, from the cases above. -/
theorem ringTimeStrobesAndGrants : Obligations.RingTimeStrobesAndGrants := by
  unfold Obligations.RingTimeStrobesAndGrants
  intro s p t cal delay n serial st give crc hd probed leads d pair granted given
  exact ⟨execSyncIntervalTick_follows, execSyncIntervalTick_leads, next_false, arrives_of rfl, arrives_of rfl,
    ⟨_, rfl, frameIn_as rfl (State.timeSync_eq t cal d)⟩,
    arrives_of rfl, next_pos, next_false, arrives_as rfl State.spinAsked_ask, arrives_as rfl State.spinAsked_release,
    arrives_as rfl (State.grantIn_eq give), fun hm hg => next_pos ⟨hm, hg⟩, execGrantExpiry_not⟩

end Sys2Proof.Machine
end

section
/-! A ring strobe that is set late (R124, R406): what the coming in of its frame leaves alone, then the obligation. -/

namespace Sys2Proof.Machine

variable {s u w : State} {p i m : Nat}

/-! ### A frame that comes in and is passed on (R390) -/

/-- A frame that goes through, and does nothing here, leaves the part, its time, its stations and sequencers, the ring's strobes
and ring time, and every register but the count of frames whose TTL has run out. -/
structure State.FrameThrough (s u : State) : Prop where
  part : u.part = s.part
  now : u.now = s.now
  stns : u.stns = s.stns
  seqs : u.seqs = s.seqs
  strobes : u.fabric.strobes = s.fabric.strobes
  offset : u.fabric.offset = s.fabric.offset
  reg : ∀ k, k ≠ ringKey 0x12 → u.reg k = s.reg k

theorem State.FrameThrough.trans (h : s.FrameThrough u) (g : u.FrameThrough w) : s.FrameThrough w :=
  ⟨g.part.trans h.part, g.now.trans h.now, g.stns.trans h.stns, g.seqs.trans h.seqs, g.strobes.trans h.strobes, g.offset.trans h.offset,
    fun k hk => (g.reg k hk).trans (h.reg k hk)⟩

theorem State.frameThrough_refl (s : State) : s.FrameThrough s := ⟨rfl, rfl, rfl, rfl, rfl, rfl, fun _ _ => rfl⟩

/-- The frame has been taken from its link. -/
theorem State.frameThrough_taken (s : State) (f : List Nat → List Nat) : s.FrameThrough (s.modRing fun r => { r with rx := f r.rx }) :=
  ⟨rfl, rfl, rfl, rfl, rfl, rfl, fun _ _ => rfl⟩

theorem State.frameThrough_frameOut (s : State) (p kind : Nat) (h : FrameHead) (f : List Nat) (d : List Block) :
    s.FrameThrough (s.frameOut p kind h f d) := by
  unfold State.frameOut
  dsimp only
  split
  · exact ⟨rfl, rfl, rfl, rfl, rfl, rfl, fun _ _ => rfl⟩
  · exact ⟨rfl, rfl, rfl, rfl, rfl, rfl, fun _ _ => rfl⟩

theorem State.frameThrough_forward (s : State) (p kind : Nat) (h : FrameHead) (f : List Nat) (d : List Block) :
    s.FrameThrough (s.forward p kind h f d) := by
  unfold State.forward
  dsimp only
  split
  · exact ⟨rfl, rfl, rfl, rfl, rfl, rfl, fun k hk => State.reg_setReg_ne _ _ hk⟩
  split
  · exact State.frameThrough_frameOut ..
  split
  · exact State.frameThrough_frameOut ..
  · exact s.frameThrough_refl

theorem State.FrameThrough.ringRuns (h : s.FrameThrough u) : u.ringRuns = s.ringRuns := by
  have state : u.reg (key 0x4800 3) = s.reg (key 0x4800 3) := h.reg _ (key_ne (by decide) _)
  unfold State.ringRuns
  rw [h.part, state]

theorem State.FrameThrough.ringTime (h : s.FrameThrough u) : u.ringTime = s.ringTime := by
  unfold State.ringTime
  rw [h.now, h.offset]

/-! ### Strobes (R124, R405, R406) -/

section Late
variable {n t : Nat} {hd : FrameHead} (he : s.enabledRing = true) (hup : s.linkUp p = true)
  (hround : ¬ (hd.src = s.reg (ringKey 4) ∧ s.reg (ringKey 4) ≠ 0xFF)) (hseq : hd.seq = s.fabric.rx.getD p 0)
  (hdest : hd.dest = 0xFF ∨ hd.dest = 0xFE ∨ hd.dest = s.reg (ringKey 4)) (hr : s.ringRuns = true) (hn : 12 ≤ n) (ht : t < s.ringTime)
  {next : State} (hnext : (s.modRing fun r => { r with rx := r.rx.modify p fun n => (n + 1) % 2 ^ 32 }) = next)
  (hw : w = if hd.dest = 0xFE then next.forward p 0x09 hd [n, t] [] else next)

include hnext hw in
theorem State.frameThrough_strobeSet : s.FrameThrough w := by
  have taken : s.FrameThrough next := hnext ▸ s.frameThrough_taken _
  split at hw
  · exact hw ▸ taken.trans (State.frameThrough_forward ..)
  · exact hw ▸ taken

include hr hn ht in
/-- A STROBE_SET that comes when its time has passed is counted as missed. -/
theorem State.FrameThrough.strobeSet_late (h : s.FrameThrough u) :
    (if u.ringRuns ∧ 12 ≤ n then (if t < u.ringTime then u.bump (key 0x4803 4) else u.addStrobe n t) else u) = u.bump (key 0x4803 4) :=
  (if_pos ⟨h.ringRuns.trans hr, hn⟩).trans (if_pos (lt_of_lt_of_eq ht h.ringTime.symm))

include he hup hround hseq hdest hr hn ht hnext hw in
theorem exec_strobeSet_late : exec (.strobeSet p hd true n t) s = .next (w.bump (key 0x4803 4)) := by
  have through := State.frameThrough_strobeSet hnext hw
  subst hnext
  obtain ⟨-, -, -, -, -, single, all, -⟩ :=
    arrives_of (show exec (.strobeSet p hd true n t) s = .next (s.frameIn p 0x09 hd true [n, t] [] _) from rfl)
  have good := And.intro (And.intro he (And.intro hround hup)) (And.intro (rfl : true = true) hseq)
  split at hw
  next to_all =>
    subst hw
    exact (all good to_all).trans (congrArg _ (through.strobeSet_late hr hn ht))
  next not_all =>
    subst hw
    have mine : hd.dest = 0xFF ∨ (hd.dest = s.reg (ringKey 4) ∧ hd.dest ≠ 0xFE) :=
      hdest.imp_right fun h => ⟨h.resolve_left not_all, not_all⟩
    exact (single good mine).trans (congrArg _ (through.strobeSet_late hr hn ht))

end Late

theorem State.strobeTimeout_command {c : StnCmd} {rest : List StnStep} (hc : (s.stn i).cmd = some c) (ht : c.taken = true) (hs : c.strobe ≠ 0)
    (hu : c.steps = .spinUp :: rest) : s.strobeTimeout i 3 = s.endCommand i 0x0F53_0003 := by
  have armed : c.taken = true ∧ c.strobe ≠ 0 ∧ c.steps.head? = some .spinUp := ⟨ht, hs, by rw [hu]; rfl⟩
  rw [State.strobeTimeout, if_pos rfl, hc]
  exact if_pos armed

theorem State.strobeTimeout_sequencer {who : Nat} (h3 : who ≠ 3) (hw : (s.sq (seqOf i who)).wait = .strobe m) :
    s.strobeTimeout i who =
      ((s.modSq (seqOf i who) fun q => { q with wait := .none }).endWhole (seqOf i who) latheFailed 0 0x0F53_0003).armedView i := by
  rw [State.strobeTimeout, if_neg h3]
  simp only [hw]

/-! ### The obligation -/

/-- Settles O48: the frame goes through, its effect is to count it as missed, and what waits for a strobe still does. -/
theorem lateRingStrobe : Obligations.LateRingStrobe := by
  unfold Obligations.LateRingStrobe
  intro s p n t i m hd c rest he hup hround hseq hdest hruns hn ht next w
  have through : s.FrameThrough w := State.frameThrough_strobeSet rfl rfl
  have missed : w.reg (key 0x4803 4) = s.reg (key 0x4803 4) := through.reg _ (by decide)
  have stn : (w.bump (key 0x4803 4)).stn i = s.stn i := congrArg (fun l => (findKey i l).getD Stn.init) through.stns
  have sq : ∀ e, (w.bump (key 0x4803 4)).sq e = s.sq e := fun e => congrArg (fun l => (findKey e l).getD Seq.init) through.seqs
  have waits : ∀ {who}, (s.sq (seqOf i who)).wait = .strobe m → ((w.bump (key 0x4803 4)).sq (seqOf i who)).wait = .strobe m :=
    fun hwait => (congrArg Seq.wait (sq _)).trans hwait
  refine ⟨w.bump (key 0x4803 4), exec_strobeSet_late he hup hround hseq hdest hruns hn ht rfl rfl, ?counted, ?others, through.stns, through.seqs,
    through.strobes, rfl, rfl, ?command, ?head0, ?head1, ?station⟩
  case counted => rw [← missed]; exact State.reg_setReg_same ..
  case others => exact fun k hk hpast => (State.reg_setReg_ne _ _ hk).trans (through.reg k hpast)
  case command => exact fun hc htaken hs hu => congrArg _ (State.strobeTimeout_command (stn ▸ hc) htaken hs hu)
  case head0 => exact fun hwait => congrArg _ (State.strobeTimeout_sequencer (who := 0) (by decide) (waits hwait))
  case head1 => exact fun hwait => congrArg _ (State.strobeTimeout_sequencer (who := 1) (by decide) (waits hwait))
  case station => exact fun hwait => congrArg _ (State.strobeTimeout_sequencer (who := 2) (by decide) (waits hwait))

end Sys2Proof.Machine
end

section
/-! What a report leaves of the state (R23, R438, R440, R508): it writes registers, the CAN block, the Ledger and the outputs, and
nothing besides. -/

namespace Sys2Proof.Machine

variable {s u v : State}

/-- The state without what a report writes. -/
def State.besideReports (s : State) : State := { s with regs := [], can := Can.initial, ledger := Ledger.empty, out := [] }

theorem State.besideReports_ite {c : Prop} [Decidable c] (hu : u.besideReports = s.besideReports) (hv : v.besideReports = s.besideReports) :
    (if c then u else v).besideReports = s.besideReports := by
  split <;> assumption

theorem State.besideReports_setReg (k x : Nat) : (s.setReg k x).besideReports = s.besideReports := rfl

theorem State.besideReports_ledger (l : Ledger) : ({ s with ledger := l } : State).besideReports = s.besideReports := rfl

theorem State.besideReports_can (c : Can) : ({ s with can := c } : State).besideReports = s.besideReports := rfl

theorem State.besideReports_emitOn (l : List Nat) (f : Nat → Out) : (s.emitOn l f).besideReports = s.besideReports := rfl

theorem State.besideReports_storeRaw (r : Rec) : (s.storeRaw r).besideReports = s.besideReports := State.besideReports_ledger _

theorem State.besideReports_setRegs (l : List (Nat × Nat)) : (s.setRegs l).besideReports = s.besideReports := by
  induction l generalizing s with
  | nil => rfl
  | cons p l ih => exact ih

theorem State.besideReports_ledgerView : s.ledgerView.besideReports = s.besideReports := State.besideReports_setRegs _

theorem State.sendEmcy_besideReports (f : Emcy) : (s.sendEmcy f).besideReports = s.besideReports :=
  State.besideReports_ite (State.besideReports_can _) (State.besideReports_ite rfl (State.besideReports_ite
    (State.besideReports_ite (State.besideReports_can _) (State.besideReports_ite (State.besideReports_emitOn ..)
      ((State.besideReports_can _).trans (State.besideReports_emitOn ..)))) rfl))

theorem State.enterHistory_besideReports (code event : Nat) : (s.enterHistory code event).besideReports = s.besideReports := by
  unfold State.enterHistory
  rw [State.besideReports_setReg, State.besideReports_setReg]
  exact List.foldlRecOn (motive := fun u : State => u.besideReports = s.besideReports) _ _ rfl fun _ hu _ _ => hu

theorem State.raiseEmcy_besideReports (code source event detail : Nat) (standing : Bool) :
    (s.raiseEmcy code source event detail standing).besideReports = s.besideReports := by
  have entered := State.enterHistory_besideReports (s := s) code event
  unfold State.raiseEmcy
  dsimp only
  generalize s.enterHistory code event = u at entered ⊢
  exact State.besideReports_ite (State.sendEmcy_besideReports _)
    (State.besideReports_ite ((State.sendEmcy_besideReports _).trans entered) ((State.sendEmcy_besideReports _).trans entered))

theorem State.announce_besideReports (code source : Nat) (payload : List Byte) (em : Option EmcyUse) :
    (s.announce code source payload em).1.besideReports = s.besideReports := by
  have counted : (if s.override code = some (true, true) ∨ s.override code = some (false, true) then
      (match em with | none => s.bump (key 0x5800 2) | some _ => s) else s).besideReports = s.besideReports := by
    cases em <;> exact State.besideReports_ite rfl rfl
  unfold State.announce
  dsimp only
  split
  · exact counted
  · exact (State.raiseEmcy_besideReports ..).trans counted

theorem State.storeGap_besideReports (reason count first : Nat) : (s.storeGap reason count first).besideReports = s.besideReports := by
  have told := State.announce_besideReports (s := s) 0x0C01 0 (leBytes 1 reason ++ leBytes 4 count ++ leBytes 8 first) none
  have stored := fun r => (State.besideReports_storeRaw r).trans told
  unfold State.storeGap
  dsimp only
  split
  · exact State.besideReports_ite (stored _) told
  · exact (State.besideReports_setReg ..).trans (State.besideReports_ite (stored _) told)

theorem State.startFlush_besideReports : s.startFlush.besideReports = s.besideReports := by
  unfold State.startFlush
  split
  · rfl
  · exact State.besideReports_ite (State.besideReports_ledger _) rfl

theorem State.store_besideReports (r : Rec) : (s.store r).besideReports = s.besideReports := by
  have flushed : ∀ {c : Prop} [Decidable c] {u : State}, u.besideReports = s.besideReports →
      (if c then u.startFlush else u).besideReports = s.besideReports :=
    fun hu => State.besideReports_ite (State.startFlush_besideReports.trans hu) hu
  have raw := State.besideReports_storeRaw (s := s) r
  unfold State.store
  dsimp only
  rw [State.besideReports_ledgerView]
  refine flushed ?_
  split
  · exact State.besideReports_ite (State.storeGap_besideReports ..) raw
  · exact raw

theorem State.rateLimit_besideReports (r : Rec) : (s.rateLimit r).2.besideReports = s.besideReports := by
  unfold State.rateLimit
  dsimp only
  split
  · split
    · exact (State.besideReports_setReg ..).trans (State.besideReports_ledger _)
    · exact State.besideReports_ledger _
  · exact State.besideReports_ledger _

theorem State.place_besideReports (r : Rec) : (s.place r).besideReports = s.besideReports :=
  State.besideReports_ite (State.besideReports_ite (State.besideReports_ledgerView.trans (State.besideReports_ledger _))
    ((State.besideReports_setReg ..).trans (State.besideReports_ledger _))) (State.store_besideReports r)

theorem State.post_besideReports (code source : Nat) (payload : List Byte) (em : Option EmcyUse) :
    (s.post code source payload em).besideReports = s.besideReports := by
  have told := State.announce_besideReports (s := s) code source payload em
  unfold State.post
  dsimp only
  split
  · split
    · next e => exact (congrArg (·.2.besideReports) e).symm.trans ((State.rateLimit_besideReports _).trans told)
    · next e =>
      exact (State.place_besideReports _).trans
        ((congrArg (·.2.besideReports) e).symm.trans ((State.rateLimit_besideReports _).trans told))
  · exact told

theorem State.post_cal (code source : Nat) (payload : List Byte) (em : Option EmcyUse) :
    (s.post code source payload em).cal = s.cal := (congrArg State.cal (State.post_besideReports ..) :)

theorem State.note_cal (code source : Nat) (payload : List Byte) : (s.note code source payload).cal = s.cal := State.post_cal ..

end Sys2Proof.Machine
end

section
/-! Background calibration (R453 to R460): the reference resistor, how a fit is judged, and the visits, then the obligation. -/

namespace Sys2Proof.Machine

variable {s : State} {h a v : Nat}

/-! ### The judgement of a fit (R459, R460) -/

section Judged
variable {c : CalUnit} {qs : List CalQty} {extra : List (Nat × Nat)} {q : CalQty}

theorem bitOf_seven_of_lt {n : Nat} (hn : n < 128) : bitOf n 7 = false := by
  rw [bitOf, show n / 2 ^ 7 = 0 by omega]
  rfl

theorem bitOf_seven_of_ge {n : Nat} (hn : 128 ≤ n) (hb : n < 256) : bitOf n 7 = true := by
  rw [bitOf, show n / 2 ^ 7 = 1 by omega]
  rfl

theorem State.judgeCal_degraded (hb : bitOf (s.reg c.state) 7 = true) : s.judgeCal c qs extra = (s, none) := if_pos hb

theorem State.judgeCal_accepted (hb : bitOf (s.reg c.state) 7 = false) (hq : qs.find? (fun q => !s.plausible q) = none) :
    s.judgeCal c qs extra =
      (((s.setRegs ((qs.map fun q => (q.reg, ofSigned 16 q.val)) ++ extra)).setReg c.state 0).bump (Machine.calKey 8), some true) := by
  rw [State.judgeCal, if_neg (Bool.eq_false_iff.mp hb), hq]

/-- The state after a fit that is rejected: the unit's count of rejections, the count of all, and record 0x0D01. -/
def State.fitRejected (s : State) (c : CalUnit) (v : Int) : State :=
  ((s.fresh.2.setReg c.state (min (s.reg c.state % 16 + 1) 15)).bump (Machine.calKey 9)).note 0x0D01 c.source
    (c.payload (Config.freeValue s.fresh.1) v)

theorem State.judgeCal_rejected (hb : bitOf (s.reg c.state) 7 = false) (hq : qs.find? (fun q => !s.plausible q) = some q) :
    s.judgeCal c qs extra =
      if (s.fitRejected c q.val).reg (Machine.calKey 7) ≤ s.reg c.state % 16 + 1 then
        (((((s.fitRejected c q.val).setRegBit c.state 7 true).addReg 16 (Machine.calKey 0x0C) 1).post 0x0D02 c.source
          (c.payload (Config.freeValue s.fresh.1) q.val) (some ⟨0xFF50, false⟩)).degraded c, some false)
      else (s.fitRejected c q.val, some false) := by
  rw [State.judgeCal, if_neg (Bool.eq_false_iff.mp hb), hq]
  rfl

theorem State.setRegs_cal (l : List (Nat × Nat)) : (s.setRegs l).cal = s.cal := by
  induction l generalizing s with
  | nil => rfl
  | cons p l ih => exact ih

theorem State.degraded_cal (hk : c.kind ≠ 1) : (s.degraded c).cal = s.cal := by
  rw [State.degraded, if_neg hk]
  (repeat' split) <;> rfl

/-- A judged fit leaves the requests, but of a unit whose spare takes over. -/
theorem State.judgeCal_cal (hk : c.kind ≠ 1) : (s.judgeCal c qs extra).1.cal = s.cal := by
  have rejected : ∀ w, (s.fitRejected c w).cal = s.cal := fun w => State.note_cal ..
  cases hb : bitOf (s.reg c.state) 7 with
  | true => rw [State.judgeCal_degraded hb]
  | false =>
    cases hq : qs.find? fun q => !s.plausible q with
    | none =>
      rw [State.judgeCal_accepted hb hq]
      exact State.setRegs_cal _
    | some q =>
      rw [State.judgeCal_rejected hb hq]
      split
      · exact (State.degraded_cal hk).trans ((State.post_cal ..).trans (rejected _))
      · exact rejected _

end Judged

/-! ### The servo ADCs (R457, Table 19.2) -/

section Servo
variable {f : CalFit}

/-- The register of the unit state of a servo ADC. -/
abbrev adcState (h a : Nat) : Nat := key (0x2420 + h) (0x13 + a)

/-- An offset is plausible. -/
abbrev State.offsetFits (s : State) (h a : Nat) (f : CalFit) : Prop :=
  -64 ≤ f.offset ∧ f.offset ≤ 64 ∧ (f.offset - s.regI 16 (key (0x2420 + h) (1 + a))).natAbs ≤ 4

/-- A gain is plausible. -/
abbrev State.gainFits (s : State) (h a : Nat) (f : CalFit) : Prop :=
  29492 ≤ f.gain ∧ f.gain ≤ 36044 ∧ ((f.gain : Int) - s.reg (key (0x2420 + h) (0x0A + a))).natAbs ≤ 163

/-- A servo ADC's fit is judged: calibration is enabled, the front end on and its token free. -/
abbrev State.judgesServo (s : State) (h : Nat) : Prop := s.calOn 1 = true ∧ s.afeOn h = true ∧ s.tokenHolder h = none

theorem State.plausible_signed {k n : Nat} {w lo hi : Int} :
    s.plausible ⟨k, true, w, lo, hi, some n⟩ = true ↔ lo ≤ w ∧ w ≤ hi ∧ (w - s.regI 16 k).natAbs ≤ n := by
  simp [State.plausible, and_assoc]

theorem State.plausible_unsigned {k n : Nat} {w lo hi : Int} :
    s.plausible ⟨k, false, w, lo, hi, some n⟩ = true ↔ lo ≤ w ∧ w ≤ hi ∧ (w - s.reg k).natAbs ≤ n := by
  simp [State.plausible, and_assoc]

theorem execServoAdcCal_not (hn : s.calOn 1 = false ∨ s.afeOn h = false ∨ s.tokenHolder h ≠ none) :
    execServoAdcCal h a f s = .next s := by
  have off : (s.calOn 1 && s.afeOn h && (s.tokenHolder (tokAfe h)).isNone) = false := by
    simp only [Bool.and_eq_false_iff, Option.isNone_eq_false_iff, Option.isSome_iff_ne_none, or_assoc]
    exact hn
  exact next_false off

section Judges
variable (hj : s.judgesServo h)
include hj

theorem execServoAdcCal_judges : execServoAdcCal h a f s = .next (s.judgeServo h a f).1 := by
  obtain ⟨on, front, free⟩ := hj
  exact next_pos (by simp [on, front, free, tokAfe])

theorem execServoAdcCal_accepted (hs : s.reg (adcState h a) < 128) (ho : s.offsetFits h a f) (hg : s.gainFits h a f) :
    execServoAdcCal h a f s = .next ((s.setRegs [(key (0x2420 + h) (1 + a), ofSigned 16 f.offset),
      (key (0x2420 + h) (0x0A + a), ofSigned 16 f.gain), (adcState h a, 0)]).bump (key 0x2400 8)) := by
  have offset := State.plausible_signed.mpr ho
  have gain : s.plausible ⟨key (0x2420 + h) (0x0A + a), false, f.gain, 29492, 36044, some 163⟩ = true :=
    State.plausible_unsigned.mpr (by simpa [State.gainFits] using hg)
  refine (execServoAdcCal_judges hj).trans (congrArg (fun r : State × Option Bool => Host.Outcome.next r.1)
    (State.judgeCal_accepted (bitOf_seven_of_lt hs) ?_))
  simp [figKey, offset, gain]

theorem execServoAdcCal_rejected (hs : s.reg (adcState h a) < 128) (hm : s.reg (adcState h a) % 16 + 1 < s.reg (key 0x2400 7))
    (ho : ¬ s.offsetFits h a f) : execServoAdcCal h a f s =
      .next (((s.fresh.2.setReg (adcState h a) (min (s.reg (adcState h a) % 16 + 1) 15)).bump (key 0x2400 9)).note 0x0D01 (0x40 + h)
        (leBytes 1 2 ++ leBytes 1 h ++ leBytes 1 a ++ leBytes 1 (Config.freeValue s.fresh.1) ++ leBytes 4 (ofSigned 32 f.offset))) := by
  have out : s.plausible ⟨key (0x2420 + h) (1 + a), true, f.offset, -64, 64, some 4⟩ = false :=
    Bool.eq_false_iff.mpr (mt State.plausible_signed.mp ho)
  have rejected := State.judgeCal_rejected (s := s) (c := ⟨2, h, a, adcState h a⟩) (extra := []) (bitOf_seven_of_lt hs)
    (qs := [_, ⟨key (0x2420 + h) (0x0A + a), false, f.gain, 29492, 36044, some 163⟩]) (List.find?_cons_of_pos (by rw [out]; rfl))
  have limit : (s.fitRejected ⟨2, h, a, adcState h a⟩ f.offset).reg (key 0x2400 7) = s.reg (key 0x2400 7) := by
    have other : key 0x2400 7 ≠ adcState h a := by simp only [adcState, key]; omega
    exact (((State.Reported.refl _).note ..).reg _ (by decide)).trans
      ((State.reg_setReg_ne _ _ (key_ne (by decide) _)).trans (State.reg_setReg_ne _ _ other))
  exact (execServoAdcCal_judges hj).trans (congrArg (fun r : State × Option Bool => Host.Outcome.next r.1)
    (rejected.trans (if_neg (Nat.not_le.mpr (lt_of_lt_of_eq hm limit.symm)))))

theorem execServoAdcCal_degraded (hs : 128 ≤ s.reg (adcState h a)) (hb : s.reg (adcState h a) < 256) :
    execServoAdcCal h a f s = .next s :=
  (execServoAdcCal_judges hj).trans (congrArg (fun r : State × Option Bool => Host.Outcome.next r.1)
    (State.judgeCal_degraded (bitOf_seven_of_ge hs hb)))

end Judges
end Servo

/-! ### The reference resistor (R454) and the RF ADCs (R456) -/

/-- The reference resistor is read in RUN, and in BOOT from phase 1. -/
abbrev State.readsRext (s : State) : Prop := s.powerState = psRun ∨ (s.powerState = psBoot ∧ 1 ≤ s.power.phase)

section Rext
variable (hr : s.readsRext)
include hr

theorem execRextMeasure_within (hlo : 19000 ≤ v) (hhi : v ≤ 21000) : execRextMeasure v s =
    .next (if s.reg (key 0x2400 2) = 1 then ((s.setReg (key 0x2400 1) v).setReg (key 0x2400 2) 0).raiseEmcy 0 0 0 0 true
      else s.setReg (key 0x2400 1) v) := by
  have fault : (s.setReg (key 0x2400 1) v).reg (key 0x2400 2) = s.reg (key 0x2400 2) := State.reg_setReg_ne _ _ (key_ne (by decide) _)
  rw [← fault]
  exact (next_pos hr).trans (next_neg (by omega))

end Rext

section Visits
variable {f g : CalFit} {there back : Nat}

theorem execRfCalVisit_off (ha : a < s.beams) (hp : s.stationPresent (h / 2) = true)
    (hn : s.calOn 0 = false ∨ s.afeOn h = false ∨ s.channelOn h = false) :
    execRfCalVisit h a f g there back s = .next (s.roundStep 1 h a [] true) :=
  (next_pos ⟨ha, hp⟩).trans (next_false (by simpa only [Bool.and_eq_false_iff, or_assoc] using hn))

theorem execRfCalVisit_absent (hn : s.beams ≤ a ∨ s.stationPresent (h / 2) = false) : execRfCalVisit h a f g there back s = .next s := by
  refine next_neg fun ⟨ha, hp⟩ => ?_
  rcases hn with hn | hn
  · exact Nat.not_lt.mpr hn ha
  · exact Bool.false_ne_true (hn.symm.trans hp)

end Visits

/-! ### The DACs and the sense inputs (R458) -/

theorem State.roundStep_none {kind n item : Nat} {rs : List (Option Bool)} {missed : Bool} (hr : s.cal.round = none) :
    s.roundStep kind n item rs missed = s := by
  rw [State.roundStep, hr]

/-- A run of judgements, of which the results are kept beside the state. -/
theorem foldl_judged {β : Type} (one : State → Nat → State × β) (l : List Nat) (bs : List β) :
    (l.foldl (fun (x : State × List β) k => ((one x.1 k).1, x.2 ++ [(one x.1 k).2])) (s, bs)).1 = l.foldl (fun u k => (one u k).1) s := by
  induction l generalizing s bs with
  | nil => rfl
  | cons k l ih => exact ih _

theorem foldl_cal {one : State → Nat → State} (ho : ∀ u k, (one u k).cal = u.cal) (l : List Nat) : (l.foldl one s).cal = s.cal :=
  List.foldlRecOn (motive := fun u : State => u.cal = s.cal) l one rfl fun u hu k _ => (ho u k).trans hu

section Dacs
variable {vals : List CalFit} (hc : s.calOn 2 = true) (hr : s.cal.round = none)
include hc hr

theorem execDacCal_head (hh : h < 16) (ha : s.afeOn h = true) (hm : s.calMay 2 h = true) : execDacCal h vals s =
    .next ((List.range (min vals.length 4)).foldl (fun u k => (u.judgeDac h k (vals.getD k ⟨0, 0, 0⟩)).1) s).stepGrant := by
  have kept := foldl_cal (s := s) (one := fun u k => (u.judgeDac h k (vals.getD k ⟨0, 0, 0⟩)).1)
    (fun u k => State.judgeCal_cal (s := u) (show 3 ≠ 1 by decide)) (List.range (min vals.length 4))
  simp only [execDacCal, hh, hc, ha, hm, if_true, Bool.and_self]
  rw [foldl_judged fun u k => u.judgeDac h k (vals.getD k ⟨0, 0, 0⟩)]
  exact congrArg _ (State.roundStep_none ((congrArg Cal.round kept).trans hr))

theorem execDacCal_station (ha : s.motorOn h = true) (hm : s.calMay 3 h = true) : execDacCal (16 + h) vals s =
    .next ((List.range (min vals.length 12)).foldl (fun u k => (u.judgeSense h k (vals.getD k ⟨0, 0, 0⟩)).1) s).stepGrant := by
  have kept := foldl_cal (s := s) (one := fun u k => (u.judgeSense h k (vals.getD k ⟨0, 0, 0⟩)).1)
    (fun u k => State.judgeCal_cal (s := u) (show 4 ≠ 1 by decide)) (List.range (min vals.length 12))
  have station : ¬ 16 + h < 16 := by omega
  simp only [execDacCal, station, Nat.add_sub_cancel_left, hc, ha, hm, if_true, if_false, Bool.and_self]
  rw [foldl_judged fun u k => u.judgeSense h k (vals.getD k ⟨0, 0, 0⟩)]
  exact congrArg _ (State.roundStep_none ((congrArg Cal.round kept).trans hr))

end Dacs

theorem execDacCal_off {vals : List CalFit} (hc : s.calOn 2 = false) (hr : s.cal.round = none) : execDacCal h vals s = .next s := by
  refine (next_false (by rw [hc]; rfl)).trans (congrArg _ ?_)
  split
  · exact State.roundStep_none hr
  · rfl

/-! ### The obligation -/

/-- Settles O33, command by command, from the cases above. -/
theorem backgroundCalibration : Obligations.BackgroundCalibration := by
  unfold Obligations.BackgroundCalibration
  intro s v h a f g there back vals up fits unit judged
  exact ⟨fun hr hv => (next_pos hr).trans (next_pos hv), fun hr hlo hhi hf => (execRextMeasure_within hr hlo hhi).trans (next_pos hf),
    fun hr hlo hhi hf => (execRextMeasure_within hr hlo hhi).trans (next_neg hf), next_neg,
    fun hc ha ht _ hs => execServoAdcCal_accepted ⟨hc, ha, ht⟩ hs, fun hc ha ht _ hs => execServoAdcCal_rejected ⟨hc, ha, ht⟩ hs,
    fun hc ha ht => execServoAdcCal_degraded ⟨hc, ha, ht⟩, execServoAdcCal_not,
    fun ha hp hc hf hch => (next_pos ⟨ha, hp⟩).trans (next_pos (by rw [hc, hf, hch]; rfl)), execRfCalVisit_absent, execRfCalVisit_off,
    fun hh hc ha hm hr => execDacCal_head hc hr hh ha hm, fun hc ha hm hr => execDacCal_station hc hr ha hm, execDacCal_off⟩

end Sys2Proof.Machine
end

section
/-! The Ledger's flushes and clear (R438, R444, R448, R451), and the security block's quotes and timers (R431 to R433): each command by
its cases, then the obligation. -/

namespace Sys2Proof.Machine

variable {s : State} {c cid n q : Nat} {x : Ctx} {k : Ctrl}

/-! ### Flushes (R444, R448) -/

theorem State.flushDue_iff : s.flushDue = true ↔
    s.reg (key 0x2200 4) ≤ s.ledger.unflushed ∨ ∃ r ∈ s.ledger.sram, s.ledger.flushed < r.seq ∧ 3 ≤ r.severity := by
  simp only [State.flushDue, Bool.or_eq_true, List.any_eq_true, Bool.and_eq_true, decide_eq_true_eq]

theorem execLedgerFlushDone_runs (hf : s.ledger.flushTo ≠ none) (bad : Bool) : execLedgerFlushDone bad s =
    .next (if bad then (({ s with ledger := { s.ledger with
        norSector := s.ledger.nextGood s.ledger.norSector 256
        nor := (s.ledger.nor.modify (s.ledger.nextGood s.ledger.norSector 256) fun x => { x with frames := [] }).modify
          ((s.ledger.nextGood s.ledger.norSector 256 + 1) % 256) fun x => { x with frames := [] } } }).sectorFailed
          s.ledger.norSector).flushDone else s.flushDone) := by
  refine (next_neg (mt Option.isNone_iff_eq_none.mp hf)).trans ?_
  cases bad <;> rfl

theorem execLedgerFlushDone_none (hf : s.ledger.flushTo = none) (bad : Bool) : execLedgerFlushDone bad s = .next s :=
  next_pos (Option.isNone_iff_eq_none.mpr hf)

/-! ### The clear (R451) -/

theorem execClearEraseStep_erases {rest : List Nat} (hc : s.ledger.clearing = n :: rest) {erased : State}
    (he : ({ s with ledger := { s.ledger with
      clearing := rest
      nor := s.ledger.nor.modify n fun x => { x with frames := x.frames.filter fun f => s.ledger.floor ≤ f.recd.seq } } } : State) = erased) :
    execClearEraseStep s = .next (erased.setReg (key 0x2200 0x0E)
      (100 * (s.ledger.clearTotal - rest.length) / max 1 s.ledger.clearTotal)).ledgerView := by
  subst he
  rw [execClearEraseStep, hc]
  rfl

theorem execClearEraseStep_over (hc : s.ledger.clearing = []) : execClearEraseStep s = .next s := by
  rw [execClearEraseStep, hc]

/-! ### Quotes (R431, R432) -/

section Signer
variable {j : QuoteJob} {js : List QuoteJob} {signed : List Byte × State} (hj : s.sec.signer = j :: js) (hd : s.domState 94 = 3)
  (hs : ({ s with sec := { s.sec with signer := js } } : State).signQuote j.nonce = signed)
include hj hd hs

/-- The first request at the signer is signed, and its bytes go where it came from. -/
theorem execQuoteSigned_signs : execQuoteSigned s = .next (match j.ask with
    | none => (signed.2.setRaw (key 0x5011 6) signed.1).endResult 0x5011 [(5, signed.1.length)] 0
    | some q =>
      match signed.2.ctx q with
      | some x => ((if x.dropped then signed.2 else signed.2.emit (.bytes x.ctrl x.sq x.cid signed.1)).complete q
          (cplOk signed.1.length 0)).settle
      | none => signed.2) := by
  subst hs
  rw [execQuoteSigned, hj]
  exact next_neg (not_not_intro hd)

theorem execQuoteSigned_object (ha : j.ask = none) :
    execQuoteSigned s = .next ((signed.2.setRaw (key 0x5011 6) signed.1).endResult 0x5011 [(5, signed.1.length)] 0) := by
  rw [execQuoteSigned_signs hj hd hs, ha]

theorem execQuoteSigned_command (ha : j.ask = some q) (hx : signed.2.ctx q = some x) : execQuoteSigned s =
    .next ((if x.dropped = true then signed.2 else signed.2.emit (.bytes x.ctrl x.sq x.cid signed.1)).complete q
      (cplOk signed.1.length 0)).settle := by
  rw [execQuoteSigned_signs hj hd hs, ha]
  simp only [hx]

theorem execQuoteSigned_gone (ha : j.ask = some q) (hx : signed.2.ctx q = none) : execQuoteSigned s = .next signed.2 := by
  rw [execQuoteSigned_signs hj hd hs, ha]
  simp only [hx]

end Signer

theorem execQuoteSigned_idle (hn : s.sec.signer = [] ∨ s.domState 94 ≠ 3) : execQuoteSigned s = .next s := by
  rw [execQuoteSigned]
  split
  · rfl
  · next hj => exact next_pos (hn.resolve_left fun h => nomatch hj.symm.trans h)

section Asked
variable {nonce : List Byte} (ht : s.adminTurn c cid x k)
include ht

theorem execAttestationQuote_waits (ho : s.lcOwned = true) (hi : s.identityValid = true) : execAttestationQuote c cid nonce s =
    .next ((s.modCtx x.seq fun y => { y with op := .quote }).askQuote ⟨nonce, some x.seq⟩) :=
  (State.adminCmd_turn _ ht).trans (next_neg (by rw [ho, hi]; decide))

theorem execAttestationQuote_fails (hn : s.lcOwned = false ∨ s.identityValid = false) : execAttestationQuote c cid nonce s =
    .next (s.complete x.seq ⟨.code 1 0xC2, true, 0x0F5E0006, 0⟩) :=
  (State.adminCmd_turn _ ht).trans (next_pos (by rcases hn with hn | hn <;> simp [hn]))

end Asked

/-! ### The obligation -/

/-- Settles O37, command by command, from the cases above. -/
theorem ledgerAndQuotes : Obligations.LedgerAndQuotes := by
  unfold Obligations.LedgerAndQuotes
  intro s code src c cid n q b nonce rest x k j js bad due late erased signed next_
  exact ⟨next_pos, next_false, fun hd => next_pos (State.flushDue_iff.mpr hd), fun hd => next_neg (mt State.flushDue_iff.mp hd),
    next_pos, next_neg, fun hf => execLedgerFlushDone_runs hf false, fun hf => execLedgerFlushDone_runs hf true,
    fun hf => execLedgerFlushDone_none hf bad, fun hc => execClearEraseStep_erases hc rfl, execClearEraseStep_over,
    fun hj hd => ⟨execQuoteSigned_object hj hd rfl, execQuoteSigned_command hj hd rfl, execQuoteSigned_gone hj hd rfl⟩, execQuoteSigned_idle,
    execAttestationQuote_waits, execAttestationQuote_fails, fun ho => next_pos (Option.isSome_iff_ne_none.mpr ho),
    fun ho => next_neg (mt Option.isSome_iff_ne_none.mp (not_not_intro ho)), fun hl => next_pos (Option.isSome_iff_ne_none.mpr hl),
    fun hl => next_neg (mt Option.isSome_iff_ne_none.mp (not_not_intro hl))⟩

end Sys2Proof.Machine
end

section
/-! The wiring test, the sense check and the arbiter's grants (R462, R479 to R483): each command by its cases, then the obligation. -/

namespace Sys2Proof.Machine

variable {s : State} {st part n : Nat} {src snk afe : Int} {meas : List WireMeas} {w : Wiring} {kind : Nat}

/-! ### The test starts (R479) -/

/-- What WIRING_TEST does of one sequencer: of the station processor's order the test starts, any other is rejected. -/
def State.wiringTurn (st : Nat) (u : State) (j : Nat) : State :=
  if u.runs j 0x18 = true ∧ (u.sq j).started = 0 then
    match (u.sq j).running with
    | some o => if o.origin = .direct ∨ j < 16 then u.orderRejected j 1
        else if (u.stn st).wiring = none then u.wiringStart st (u.sq j).param else u
    | none => u
  else u

theorem execWiringTest_turns :
    execWiringTest st s = .next (State.wiringTurn st (State.wiringTurn st (State.wiringTurn st s (2 * st)) (2 * st + 1)) (16 + st)) := by
  have turn : (fun (u : State) (j : Nat) => if u.runs j 0x18 = true ∧ (u.sq j).started = 0 then
      (match (u.sq j).running with
        | some o => if o.origin = .direct ∨ j < 16 then u.orderRejected j 1
            else if (u.stn st).wiring.isNone = true then u.wiringStart st (u.sq j).param else u
        | none => u) else u) = State.wiringTurn st := by
    funext u j
    simp only [State.wiringTurn, Option.isNone_iff_eq_none]
  exact congrArg (fun f => Host.Outcome.next (s.forEach [2 * st, 2 * st + 1, 16 + st] f)) turn

/-! ### A part ends (R480, R483) -/

/-- A part may end: it is under way, its tokens held and its domain on, in RUN. -/
abbrev State.partRuns (s : State) (st part : Nat) (w : Wiring) : Prop :=
  bitOf w.parts part = true ∧ s.holdsTokens (.wiring (partHolder st part)) = true ∧ (part ≠ 0 → s.domState (6 * st + part) = 3)
    ∧ s.powerState = psRun

theorem execWiringTestEnd_none (hw : (s.stn st).wiring = none) : execWiringTestEnd st part meas s = .next s := by
  rw [execWiringTestEnd, hw]

theorem execWiringTestEnd_waits (hw : (s.stn st).wiring = some w) (hn : bitOf w.parts part = false
    ∨ s.holdsTokens (.wiring (partHolder st part)) = false ∨ (part ≠ 0 ∧ s.domState (6 * st + part) ≠ 3) ∨ s.powerState ≠ psRun) :
    execWiringTestEnd st part meas s = .next s := by
  rw [execWiringTestEnd, hw]
  exact next_pos (by simpa only [Bool.not_eq_true] using hn)

section Ends
variable {conns freed ended : State} (hw : (s.stn st).wiring = some w) (hr : s.partRuns st part w)
  (hc : (s.forEach (s.partConns part) fun u n => match meas[n - if part = 0 then 32 else 0]? with
    | some m => u.wireResult st (if part = 2 then 2 * st + 1 else 2 * st) n m
    | none => u.setReg (connKey st (if part = 2 then 2 * st + 1 else 2 * st) n) 10) = conns)
  (hf : (conns.sledsStop st).dropTokens (.wiring (partHolder st part)) = freed)
  (he : ((if part = 0 then freed else freed.endTempWake (6 * st + part)).modStn st fun t =>
      { t with wiring := t.wiring.map fun w => { w with parts := clrBit w.parts part } }).forEach
        (if part = 0 then [2 * st, 2 * st + 1] else [if part = 2 then 2 * st + 1 else 2 * st]) State.wiringHead = ended)
include hw hr hc hf he

/-- The part's connections take their statuses, its tokens go, and with the last part the test is over. -/
theorem execWiringTestEnd_ends : execWiringTestEnd st part meas s = .next (match (ended.stn st).wiring with
    | some w => if w.parts = 0 then ended.wiringOver st 0 else ended
    | none => ended) := by
  obtain ⟨underWay, holds, domain, run⟩ := hr
  have runs : ¬ (¬ bitOf w.parts part = true ∨ ¬ s.holdsTokens (.wiring (partHolder st part)) = true
      ∨ (part ≠ 0 ∧ s.domState (6 * st + part) ≠ 3) ∨ s.powerState ≠ psRun) := by
    rintro (h | h | ⟨h0, h⟩ | h)
    · exact h underWay
    · exact h holds
    · exact h (domain h0)
    · exact h run
  subst hc hf he
  rw [execWiringTestEnd, hw]
  exact next_neg runs

end Ends

/-! ### The sense check (R483) -/

/-- The class A inputs of the station tile. -/
abbrev senseInput (n : Nat) : Prop := n ∈ [35, 36, 37, 38, 45, 48, 51, 52, 53, 54]

theorem execSenseCheck_reacts (hk : biasKind src snk afe = kind) (hon : s.stState st ≠ stOff) (hn : senseInput n)
    (hfault : isFaultKind kind = true) (hnew : s.reg (connKey st 0 n) ≠ kind) {seen : State}
    (hs : (((s.setReg (connKey st 0 n) kind).wireEffect st 0 n kind).wireReport st 0 n kind (ofSigned 32 src)).forEach
      [2 * st, 2 * st + 1] State.wiringHead = seen) : execSenseCheck st n src snk afe s =
    .next (if stationStops n = true ∨ (seen.sledFault (2 * st) = true ∧ seen.sledFault (2 * st + 1) = true) then
      seen.stnFault st 2 (connCode st 0 n kind) else seen) := by
  subst hk hs
  have reacts : ¬ (s.stState st = stOff ∨ ¬ [35, 36, 37, 38, 45, 48, 51, 52, 53, 54].contains n = true
      ∨ ¬ isFaultKind (biasKind src snk afe) = true ∨ s.reg (connKey st 0 n) = biasKind src snk afe) := by
    rintro (h | h | h | h)
    · exact hon h
    · exact h (List.contains_iff_mem.mpr hn)
    · exact h hfault
    · exact hnew h
  refine (next_neg reacts).trans ?_
  simp only [Bool.and_eq_true]

theorem execSenseCheck_stays (hk : biasKind src snk afe = kind)
    (hn : s.stState st = stOff ∨ ¬ senseInput n ∨ isFaultKind kind = false ∨ s.reg (connKey st 0 n) = kind) :
    execSenseCheck st n src snk afe s = .next s := by
  subst hk
  refine next_pos ?_
  simpa only [List.contains_iff_mem, Bool.not_eq_true] using hn

/-! ### Grants (R462) -/

theorem execTokenGrant_grants {r : TokenReq} (hg : s.nextGrant = some r) : execTokenGrant s =
    .next (match r.act with | .bist k i => (s.grantReq r).bistGo k i | _ => s.grantReq r) := by
  rw [execTokenGrant, hg]
  dsimp only
  cases r.act <;> rfl

theorem execTokenGrant_none (hg : s.nextGrant = none) : execTokenGrant s = .next s := by
  rw [execTokenGrant, hg]

/-! ### The obligation -/

/-- Settles O34, command by command, from the cases above. -/
theorem wiringAndGrants : Obligations.WiringAndGrants := by
  unfold Obligations.WiringAndGrants
  intro s st part n src snk afe meas w r e kind judged seen base conns freed ended turn may
  exact ⟨execWiringTest_turns, execWiringTestEnd_none, execWiringTestEnd_waits,
    fun hw hb ht hd hr => execWiringTestEnd_ends hw ⟨hb, ht, hd, hr⟩ rfl rfl rfl,
    fun ho hm hf hn => execSenseCheck_reacts rfl ho hm hf hn rfl, execSenseCheck_stays rfl, execTokenGrant_grants, execTokenGrant_none⟩

end Sys2Proof.Machine
end

section
/-! Reads, writes and flushes (R331, R333, R342 to R345, R359): each operation by its cases, then the obligation. -/

namespace Sys2Proof.Machine

variable {s : State} {c cid q nsid lba k : Nat} {pi : PiArgs} {n : Ns} {x : Ctx}

/-- An I/O command whose turn has come acts on its context. -/
theorem State.ioCmd_turn (f : State → Ctx → State) (ht : s.turn c cid = some x) (hq : x.sq ≠ 0) : s.ioCmd c cid f = .next (f s x) := by
  rw [State.ioCmd, ht]
  exact next_neg hq

/-! ### Reads (R345, R359) -/

theorem State.doRead_unreachable (hn : s.nsIo nsid = none) : s.doRead q nsid lba k pi = s.complete q cplInvalidNs := by
  rw [State.doRead, hn]

section Reads
variable (hn : s.nsIo nsid = some n)
include hn

theorem State.doRead_size (hk : ¬ (1 ≤ k ∧ k ≤ 256)) : s.doRead q nsid lba k pi = s.complete q (cplFail .invalidField true) := by
  rw [State.doRead, hn]
  exact if_pos (by omega)

section Sized
variable (hk : 1 ≤ k ∧ k ≤ 256)
include hk

theorem State.doRead_range (hr : n.nsze < lba + k) :
    s.doRead q nsid lba k pi = (s.errorEntry nsid lba).complete q (cplFail .lbaOutOfRange true) := by
  rw [State.doRead, hn]
  exact (if_neg (by omega)).trans (if_pos hr)

theorem State.doRead_zones (hr : lba + k ≤ n.nsze) (hz : n.zoned = true ∧ lba / n.zsize ≠ (lba + k - 1) / n.zsize) :
    s.doRead q nsid lba k pi = s.complete q (cplFail .zoneBoundary true) := by
  rw [State.doRead, hn]
  exact (if_neg (by omega)).trans ((if_neg (Nat.not_lt.mpr hr)).trans (if_pos hz))

end Sized

/-- A read of 1 to 256 blocks, in range and in one zone. -/
abbrev Ns.readWhole (n : Ns) (lba k : Nat) : Prop :=
  (1 ≤ k ∧ k ≤ 256) ∧ lba + k ≤ n.nsze ∧ (n.zoned = true → lba / n.zsize = (lba + k - 1) / n.zsize)

section Whole
variable (hw : n.readWhole lba k)
include hw

theorem State.doRead_poisoned (hp : ((clustersOf lba k).any fun cl => s.poisoned nsid lba k cl) = true) : s.doRead q nsid lba k pi =
    ((s.modNvme fun v => { v with mediaErrors := v.mediaErrors + 1 }).errorEntry nsid lba).complete q (cplFail .unrecoveredRead false) := by
  obtain ⟨hk, hr, hz⟩ := hw
  rw [State.doRead, hn]
  exact (if_neg (by omega)).trans ((if_neg (Nat.not_lt.mpr hr)).trans ((if_neg (fun h => h.2 (hz h.1))).trans (if_pos hp)))

section Fits
variable (hp : ((clustersOf lba k).all fun cl => !s.poisoned nsid lba k cl) = true)
include hp

/-- What a read that passes its checks does. -/
theorem State.doRead_fits : s.doRead q nsid lba k pi =
    let misses := s.readMisses n q lba k []
    let waits := fun (u : State) => (u.modCtx q fun y => { y with op := .read nsid lba k [] pi }).serveRead q
    let below := (clustersOf lba k).filter fun cl => (List.range 16).any fun b =>
      lba ≤ 16 * cl + b && 16 * cl + b < lba + k && !n.above (16 * cl + b)
    let hit := if below.isEmpty then s else s.countHit nsid true
    if s.rebuilding nsid = true then (s.errorEntry nsid lba).complete q cplNotReady
    else if misses = [] then waits (hit.forEach (below.filterMap fun cl => hit.line nsid cl) fun u l => u.hitLine l)
    else if s.mediaOpen nsid = false then (s.errorEntry nsid lba).complete q cplNotReady
    else waits ((s.countHit nsid false).forEach misses fun u cl =>
      if nsSpread nsid then u.wantCluster nsid cl else (u.queueFill nsid cl .demand).prefetchAfter nsid cl) := by
  obtain ⟨hk, hr, hz⟩ := hw
  have clean : ¬ ((clustersOf lba k).any fun cl => s.poisoned nsid lba k cl) = true := by
    simpa only [Bool.not_eq_true, List.any_eq_false, List.all_eq_true, Bool.not_eq_true'] using hp
  rw [State.doRead, hn]
  refine (if_neg (by omega)).trans ((if_neg (Nat.not_lt.mpr hr)).trans ((if_neg (fun h => h.2 (hz h.1))).trans ((if_neg clean).trans ?_)))
  simp only [List.isEmpty_iff, Bool.not_eq_true']

end Fits
end Whole
end Reads

/-! ### Writes (R331, R333, R364) -/

section Writes
variable {d : List Block} {fua append : Bool}

theorem State.doWrite_unreachable (hn : s.nsIo nsid = none) : s.doWrite q nsid lba d fua append pi = s.complete q cplInvalidNs := by
  rw [State.doWrite, hn]

/-- A write of 1 to 256 blocks; a Zone Append in a zoned namespace. -/
abbrev Ns.writeSized (n : Ns) (d : List Block) (append : Bool) : Prop := d ≠ [] ∧ d.length ≤ 256 ∧ (append = true → n.zoned = true)

theorem Ns.writeSized.not_out (hs : n.writeSized d append) : ¬ (d = [] ∨ 256 < d.length ∨ (append = true ∧ (!n.zoned) = true)) := by
  obtain ⟨some_, most, zoned⟩ := hs
  rintro (h | h | ⟨ha, hz⟩)
  · exact some_ h
  · omega
  · rw [zoned ha] at hz
    exact Bool.false_ne_true hz

/-- The host gives the protection information. -/
abbrev Ns.givenPi (n : Ns) (pi : PiArgs) : Prop := n.lbaf = 1 ∧ pi.act = false

/-- A reference tag of a write to a spread volume is not that of its block (R411). -/
abbrev State.tagsWrong (s : State) (n : Ns) (nsid lba : Nat) (d : List Block) (append : Bool) (pi : PiArgs) : Prop :=
  nsSpread nsid = true ∧ n.givenPi pi ∧ append = false ∧ s.reg (nvKey 6) ≤ 2
    ∧ (d.zipIdx.any fun p => piField p.1.pi 10 6 != (lba + p.2) % 2 ^ 48) = true

theorem State.tagsWrong_iff {d : List Block} {append : Bool} : s.tagsWrong n nsid lba d append pi ↔
    nsSpread nsid = true ∧ n.lbaf = 1 ∧ ¬ pi.act = true ∧ ¬ append = true ∧ s.reg (nvKey 6) ≤ 2
      ∧ (d.zipIdx.any fun p => piField p.1.pi 10 6 != (lba + p.2) % 2 ^ 48) = true := by
  simp only [State.tagsWrong, Ns.givenPi, Bool.not_eq_true, and_assoc]

theorem Ns.pi_passes {v : PiCheck} (hv : n.givenPi pi → v = .ok) : ¬ (n.lbaf = 1 ∧ ¬ pi.act = true ∧ v ≠ .ok) :=
  fun ⟨format, given, bad⟩ => bad (hv ⟨format, Bool.eq_false_iff.mpr given⟩)

/-- The write counts where it waits for its lines. -/
abbrev State.waitCounted (t : State) (q nsid lba : Nat) (data : List Block) (append : Bool) : State :=
  match t.ctx q with
  | some y => (match y.op with
    | .write _ _ _ _ _ => if t.waitsForLines q nsid lba data append then
        (let u := t.bump (key 0x4401 0x0A)
         if nsSpread nsid then u else u.bump (key (0x4420 + nsStation nsid) 5)) else t
    | _ => t)
  | none => t

/-- The write cache of the context's controller is off. -/
abbrev State.writeThrough (s : State) (q : Nat) : Bool :=
  match s.ctx q with
  | some y => (match s.ctrl y.ctrl with | some j => j.feature 6 % 2 == 0 | none => false)
  | none => false

theorem State.writeThrough_eq : s.writeThrough q = !(match s.ctx q with
    | some y => match s.ctrl y.ctrl with | some j => j.feature 6 % 2 == 1 | none => true
    | none => true) := by
  unfold State.writeThrough
  split
  · split
    · next j _ => rcases Nat.mod_two_eq_zero_or_one (j.feature 6) with h | h <;> rw [h] <;> rfl
    · rfl
  · rfl

variable (hn : s.nsIo nsid = some n)
include hn

theorem State.doWrite_size (hs : ¬ n.writeSized d append) : s.doWrite q nsid lba d fua append pi =
    s.complete q (cplFail (if append = true ∧ n.zoned = false then .invalidOpcode else .invalidField) true) := by
  have out : d = [] ∨ 256 < d.length ∨ (append = true ∧ (!n.zoned) = true) := by
    by_contra h
    simp only [not_or, not_and, Bool.not_eq_true', Bool.not_eq_false] at h
    exact hs ⟨h.1, Nat.not_lt.mp h.2.1, h.2.2⟩
  rw [State.doWrite, hn]
  refine (if_pos out).trans ?_
  simp only [Bool.and_eq_true, Bool.not_eq_true']

section Sized
variable (hs : n.writeSized d append)
include hs

theorem State.doWrite_range (hr : n.nsze < lba + d.length) :
    s.doWrite q nsid lba d fua append pi = s.complete q (cplFail .lbaOutOfRange true) := by
  rw [State.doWrite, hn]
  exact (if_neg hs.not_out).trans (if_pos hr)

section InRange
variable (hr : lba + d.length ≤ n.nsze)
include hr

theorem State.doWrite_pi (ho : n.givenPi pi) (hv : piVerifyAll pi (s.reg (nvKey 6)) d ≠ .ok) : s.doWrite q nsid lba d fua append pi =
    s.complete q (cplFail (piVerifyAll pi (s.reg (nvKey 6)) d).status true) := by
  obtain ⟨format, given⟩ := ho
  rw [State.doWrite, hn]
  exact (if_neg hs.not_out).trans ((if_neg (Nat.not_lt.mpr hr)).trans (if_pos ⟨format, Bool.eq_false_iff.mp given, hv⟩))

section Verified
variable (hv : n.givenPi pi → piVerifyAll pi (s.reg (nvKey 6)) d = .ok)
include hv

theorem State.doWrite_tags (ht : s.tagsWrong n nsid lba d append pi) :
    s.doWrite q nsid lba d fua append pi = s.complete q (cplFail .refTagCheck true) := by
  rw [State.doWrite, hn]
  refine (if_neg hs.not_out).trans ((if_neg (Nat.not_lt.mpr hr)).trans ((if_neg (Ns.pi_passes hv)).trans ?_))
  exact if_pos (State.tagsWrong_iff.mp ht)

section Tagged
variable (ht : ¬ s.tagsWrong n nsid lba d append pi)
include ht

theorem State.doWrite_shut (ho : s.mediaOpen nsid = false) : s.doWrite q nsid lba d fua append pi = s.complete q cplNotReady := by
  rw [State.doWrite, hn]
  refine (if_neg hs.not_out).trans ((if_neg (Nat.not_lt.mpr hr)).trans ((if_neg (Ns.pi_passes hv)).trans ?_))
  exact (if_neg (mt State.tagsWrong_iff.mpr ht)).trans (if_pos (by rw [ho]; rfl))

/-- The write takes its place and is tried. -/
theorem State.doWrite_tries (ho : s.mediaOpen nsid = true) {data : List Block}
    (hd : (if n.lbaf = 1 ∧ pi.act then piGenerate pi (s.reg (nvKey 6)) d else d) = data) : s.doWrite q nsid lba d fua append pi =
    ((s.modCtx q fun y => { y with op := .write nsid lba data (fua || s.writeThrough q) append }).tryWrite q).waitCounted q nsid lba data
      append := by
  rw [State.writeThrough_eq, State.doWrite, hn]
  refine (if_neg hs.not_out).trans ((if_neg (Nat.not_lt.mpr hr)).trans ((if_neg (Ns.pi_passes hv)).trans ?_))
  refine (if_neg (mt State.tagsWrong_iff.mpr ht)).trans ((if_neg (by rw [ho]; decide)).trans ?_)
  subst hd
  rfl

end Tagged
end Verified
end InRange
end Sized
end Writes

/-! ### Flushes (R343, R344) -/

section Flushes

/-- The media of a namespace cannot be flushed now. -/
abbrev State.mediaShut (s : State) (m : Nat) : Bool := !s.mediaReady m || s.rebuilding m

/-- A flush of namespaces waits for the writes before it. -/
abbrev State.flushHeld (s : State) (q : Nat) (l : List Nat) : State :=
  ((s.spreadFlush l none).modCtx q fun y => { y with op := .flush (.all l) q 0 }).serveFlush q

theorem State.doFlush_unreachable (hm : nsid ≠ 0xFFFFFFFF) (hn : s.nsIo nsid = none) : s.doFlush q nsid = s.complete q cplInvalidNs := by
  rw [State.doFlush]
  exact if_pos ⟨by simpa using hm, Option.isNone_iff_eq_none.mpr hn⟩

theorem State.doFlush_one (hm : nsid ≠ 0xFFFFFFFF) (hn : s.nsIo nsid = some n) : s.doFlush q nsid =
    if s.mediaShut nsid = true then (s.bump (nvKey 0x0A)).complete q cplNotReady else s.flushHeld q [nsid] := by
  simp [State.doFlush, hm, hn]

theorem State.doFlush_every {every : List Nat} (he : s.nvme.namespaces.map (·.nsid) = every) : s.doFlush q 0xFFFFFFFF =
    if (every.any fun m => s.mediaShut m && s.granary.lines.any fun l => l.nsid == m && l.isDirty) = true then
      (s.bump (nvKey 0x0A)).complete q cplNotReady
    else s.flushHeld q every := by
  subst he
  simp [State.doFlush]

end Flushes

/-! ### The commands in their turn -/

section Turn
variable {d : List Block} {fua append : Bool}

theorem execRead_turn (ht : s.turn c cid = some x) (hq : x.sq ≠ 0) :
    exec (.read c cid nsid lba k pi) s = .next (s.doRead x.seq nsid lba k pi) :=
  State.ioCmd_turn (fun s x => s.doRead x.seq nsid lba k pi) ht hq

theorem execWrite_turn (ht : s.turn c cid = some x) (hq : x.sq ≠ 0) :
    exec (.write c cid nsid lba d fua pi) s = .next (s.doWrite x.seq nsid lba d fua false pi).settle :=
  State.ioCmd_turn (fun s x => (s.doWrite x.seq nsid lba d fua false pi).settle) ht hq

theorem execZoneAppend_turn (ht : s.turn c cid = some x) (hq : x.sq ≠ 0) :
    exec (.zoneAppend c cid nsid lba d fua pi) s = .next (s.doWrite x.seq nsid lba d fua true pi).settle :=
  State.ioCmd_turn (fun s x => (s.doWrite x.seq nsid lba d fua true pi).settle) ht hq

theorem execFlush_turn (ht : s.turn c cid = some x) (hq : x.sq ≠ 0) : exec (.flush c cid nsid) s = .next (s.doFlush x.seq nsid) :=
  State.ioCmd_turn (fun s x => s.doFlush x.seq nsid) ht hq

/-- A Write, or a Zone Append, ends as the write it makes. -/
theorem execWrites_turn (ht : s.turn c cid = some x) (hq : x.sq ≠ 0) {t : State} (h : s.doWrite x.seq nsid lba d fua append pi = t) :
    if append then exec (.zoneAppend c cid nsid lba d fua pi) s = .next t.settle
    else exec (.write c cid nsid lba d fua pi) s = .next t.settle := by
  subst h
  cases append
  · exact execWrite_turn ht hq
  · exact execZoneAppend_turn ht hq

end Turn

/-! ### The obligation -/

/-- Settles O25, command by command, from the cases above. -/
theorem readsAndWrites : Obligations.ReadsAndWrites := by
  unfold Obligations.ReadsAndWrites
  intro s c cid nsid lba k fua append pi x n d ht hq q fail sized whole fits misses waits below hit put sizedW own verdict tags data through
    every barred counted
  have read : ∀ t : State, s.doRead q nsid lba k pi = t → exec (.read c cid nsid lba k pi) s = .next t :=
    fun t h => (execRead_turn ht hq).trans (congrArg Host.Outcome.next h)
  have written : ∀ t : State, s.doWrite q nsid lba d fua append pi = t → put t := fun t h => execWrites_turn ht hq h
  have flushed : ∀ (m : Nat) (t : State), s.doFlush q m = t → exec (.flush c cid m) s = .next t :=
    fun m t h => (execFlush_turn ht hq).trans (congrArg Host.Outcome.next h)
  clear_value put
  refine ⟨fun hn => ⟨read _ (State.doRead_unreachable hn), written _ (State.doWrite_unreachable hn),
    fun hm => flushed _ _ (State.doFlush_unreachable hm hn)⟩, fun hn => ⟨?_, ?_, ?_, ?_, ?_, ?_, ?_, ?_, ?_, ?_, ?_, ?_, ?_, ?_, ?_⟩, ?_, ?_⟩
  · exact fun hk => read _ (State.doRead_size hn hk)
  · exact fun hk hr => read _ (State.doRead_range hn hk hr)
  · exact fun hk hr hz hb => read _ (State.doRead_zones hn hk hr ⟨hz, hb⟩)
  · exact fun hw hp => read _ (State.doRead_poisoned hn hw hp)
  · rintro ⟨hw, hp⟩ hno
    refine read _ ((State.doRead_fits hn hw hp).trans ?_)
    dsimp only
    split
    · rfl
    · next stands =>
      obtain ⟨missing, shut⟩ := hno.resolve_left stands
      exact (if_neg missing).trans (if_pos shut)
  · exact fun ⟨hw, hp⟩ hb hm => read _ ((State.doRead_fits hn hw hp).trans ((if_neg (Bool.eq_false_iff.mp hb)).trans (if_pos hm)))
  · exact fun ⟨hw, hp⟩ hb hm ho => read _ ((State.doRead_fits hn hw hp).trans
      ((if_neg (Bool.eq_false_iff.mp hb)).trans ((if_neg hm).trans (if_neg (by rw [ho]; decide)))))
  · exact fun hs => written _ (State.doWrite_size hn hs)
  · exact fun hs hr => written _ (State.doWrite_range hn hs hr)
  · exact fun hs hr ho hv => written _ (State.doWrite_pi hn hs hr ho hv)
  · exact fun hs hr hv ht => written _ (State.doWrite_tags hn hs hr hv ht)
  · exact fun hs hr hv ht ho => written _ (State.doWrite_shut hn hs hr hv ht ho)
  · exact fun hs hr hv ht ho => written _ (State.doWrite_tries hn hs hr hv ht ho rfl)
  · exact fun hm hr hb => flushed _ _ ((State.doFlush_one hm hn).trans (if_neg (by rw [State.mediaShut, hr, hb]; decide)))
  · exact fun hm hno => flushed _ _ ((State.doFlush_one hm hn).trans (if_pos (by rcases hno with h | h <;> simp [State.mediaShut, h])))
  · exact fun hb => flushed _ _ ((State.doFlush_every rfl).trans (if_neg (Bool.eq_false_iff.mp hb)))
  · exact fun hb => flushed _ _ ((State.doFlush_every rfl).trans (if_pos hb))

end Sys2Proof.Machine
end

section
/-! Zone management (R331, R332, R409, Table 13.5): an action on the zones of a namespace, then the obligation. -/

namespace Sys2Proof.Machine

variable {s : State} {c cid q nsid zi lba filter limit : Nat} {everyZone part : Bool} {n m : Ns} {x : Ctx} {a : ZoneAct} {e : Status}

/-! ### An action on a zone -/

theorem Ns.zoneAct_open (h : (n.zone zi).state = 1 ∨ (n.zone zi).state = 2 ∨ ((n.zone zi).state = 0 ∨ (n.zone zi).state = 3) ∧ n.openZones < 16) :
    n.zoneAct .open_ zi = .ok (n.setZone { n.zone zi with state := 2 }) := by
  have usable : ¬ ((n.zone zi).state = 4 ∨ (n.zone zi).state = 5) := by omega
  have room : (n.zone zi).isOpen = true ∨ ¬ 16 ≤ n.openZones := by
    simp only [Zone.isOpen, Bool.or_eq_true, beq_iff_eq]
    omega
  refine (if_neg usable).trans ?_
  rcases room with isOpen | few
  · exact if_pos isOpen
  · exact (congrArg _ (if_neg few)).trans (ite_self _)

theorem Ns.zoneAct_open_full (h : (n.zone zi).state = 0 ∨ (n.zone zi).state = 3) (hf : 16 ≤ n.openZones) :
    n.zoneAct .open_ zi = .error .tooManyOpenZones := by
  have shut : ¬ (n.zone zi).isOpen = true := by
    simp only [Zone.isOpen, Bool.or_eq_true, beq_iff_eq]
    omega
  exact (if_neg (by omega)).trans ((if_neg shut).trans (if_pos hf))

theorem Ns.zoneAct_open_not (h : (n.zone zi).state = 4 ∨ (n.zone zi).state = 5) : n.zoneAct .open_ zi = .error .invalidZoneTransition :=
  if_pos h

theorem Zone.isOpen_iff {z : Zone} : z.isOpen = true ↔ z.state = 1 ∨ z.state = 2 := by
  simp only [Zone.isOpen, Bool.or_eq_true, beq_iff_eq]

theorem Ns.zoneAct_close (h : (n.zone zi).state = 1 ∨ (n.zone zi).state = 2 ∨ (n.zone zi).state = 3) :
    n.zoneAct .close zi = .ok (n.setZone { n.zone zi with state := 3 }) :=
  if_pos (by rw [Zone.isOpen_iff]; omega)

theorem Ns.zoneAct_close_not (h : (n.zone zi).state = 0 ∨ (n.zone zi).state = 4 ∨ (n.zone zi).state = 5) :
    n.zoneAct .close zi = .error .invalidZoneTransition :=
  if_neg (by rw [Zone.isOpen_iff]; omega)

/-! ### The zones of a command -/

/-- An action on zones, one after another. -/
abbrev Ns.zonesAct (n : Ns) (a : ZoneAct) (l : List Nat) : Except Status Ns :=
  l.foldl (fun r z => match r with | .ok n => n.zoneAct a z | .error e => .error e) (.ok n : Except Status Ns)

/-- The zones of Select All: those its action permits, but the claimed. -/
abbrev State.zonesOfAll (s : State) (n : Ns) (nsid : Nat) (a : ZoneAct) : List Nat := (n.zonesFor a).filter fun z => !s.claimed nsid z

/-- A Finish flushes its zones. -/
abbrev State.zonesFinished (s : State) (q nsid : Nat) (sc : Scope) (one : Option Nat) : State :=
  ((if nsSpread nsid then s.spreadFlush [nsid] one else s).modCtx q fun y => { y with op := .flush sc q 0 }).serveFlush q

/-- What follows an action on the zones of a command. -/
abbrev State.zonesActed (s : State) (q nsid : Nat) (a : ZoneAct) (l : List Nat) : Except Status Ns → State
  | .error e => s.complete q (cplFail e true)
  | .ok m => match a with
    | .finish => (s.modNs nsid fun _ => m).zonesFinished q nsid (match l with | [z] => .zone nsid z | _ => .all [nsid])
        (match l with | [z] => some z | _ => none)
    | _ => (s.modNs nsid fun _ => m).complete q (cplOk 0 0)

section Reached
variable (hn : s.nsIo nsid = some n)
include hn

theorem State.zoneManage_zoneless (hz : n.zoned = false) : s.zoneManage q nsid lba a everyZone = s.complete q (cplFail .invalidOpcode true) := by
  rw [State.zoneManage, hn]
  exact if_pos (by rw [hz]; rfl)

section Zoned
variable (hz : n.zoned = true)
include hz

theorem State.zoneManage_shut (ho : s.mediaOpen nsid = false) : s.zoneManage q nsid lba a everyZone = s.complete q cplNotReady := by
  rw [State.zoneManage, hn]
  exact (if_neg (by rw [hz]; decide)).trans (if_pos (by rw [ho]; rfl))

section Open
variable (ho : s.mediaOpen nsid = true)
include ho

/-- A command that passes its checks acts on its zones, of which none may be claimed. -/
theorem State.zoneManage_acts (hl : everyZone = false → lba < n.nsze ∧ lba % n.zsize = 0) {l : List Nat}
    (h : (if everyZone then s.zonesOfAll n nsid a else [lba / n.zsize]) = l) :
    s.zoneManage q nsid lba a everyZone =
      s.zonesActed q nsid a l (if l.any (s.claimed nsid) = true then .error .zoneReadOnly else n.zonesAct a l) := by
  have inRange : ¬ ((!everyZone) = true ∧ n.nsze ≤ lba) :=
    fun ⟨one, out⟩ => absurd (hl (by simpa using one)).1 (Nat.not_lt.mpr out)
  have first : ¬ ((!everyZone) = true ∧ lba % n.zsize ≠ 0) := fun ⟨one, within⟩ => within (hl (by simpa using one)).2
  rw [State.zoneManage, hn]
  refine (if_neg (by rw [hz]; decide)).trans ((if_neg (by rw [ho]; decide)).trans ((if_neg inRange).trans ((if_neg first).trans ?_)))
  dsimp only
  rewrite [h]
  split
  · next e he => exact (congrArg (s.zonesActed q nsid a l) he).symm
  · next m hm =>
    refine Eq.trans ?_ (congrArg (s.zonesActed q nsid a l) hm).symm
    cases a <;> rfl

theorem State.zoneManage_every :
    s.zoneManage q nsid lba a true = s.zonesActed q nsid a (s.zonesOfAll n nsid a) (n.zonesAct a (s.zonesOfAll n nsid a)) :=
  (State.zoneManage_acts hn hz ho (by simp) rfl).trans (congrArg _ (if_neg (by simp)))

section One
variable (hs : 1 ≤ n.zsize) (hi : zi * n.zsize < n.nsze)
include hs hi

omit hn hz ho hi in
theorem State.one_zone : (if false = true then s.zonesOfAll n nsid a else [zi * n.zsize / n.zsize]) = [zi] :=
  congrArg ([·]) (Nat.mul_div_cancel zi hs)

theorem State.zoneManage_claimed (hc : s.claimed nsid zi = true) :
    s.zoneManage q nsid (zi * n.zsize) a false = s.complete q (cplFail .zoneReadOnly true) :=
  (State.zoneManage_acts hn hz ho (fun _ => ⟨hi, Nat.mul_mod_left zi n.zsize⟩) (one_zone hs)).trans
    (congrArg _ (if_pos (by simpa using hc)))

theorem State.zoneManage_one (hc : s.claimed nsid zi = false) :
    s.zoneManage q nsid (zi * n.zsize) a false = s.zonesActed q nsid a [zi] (n.zoneAct a zi) :=
  (State.zoneManage_acts hn hz ho (fun _ => ⟨hi, Nat.mul_mod_left zi n.zsize⟩) (one_zone hs)).trans
    (congrArg _ (if_neg (by simpa using hc)))

end One
end Open
end Zoned

theorem State.ns_of_nsIo : s.ns nsid = some n := by
  unfold State.nsIo at hn
  split at hn
  · split at hn
    · next h _ => rw [h, hn]
    · exact nomatch hn
  · exact nomatch hn

/-- The zones of a report. -/
abbrev Ns.reported (n : Ns) (lba filter : Nat) : List Zone :=
  ((List.range (n.zoneCount - lba / n.zsize)).map fun j => n.zone (lba / n.zsize + j)).filter fun y =>
    filter == 0 || y.state + 1 == filter

theorem State.zoneReport_zoneless (hz : n.zoned = false) :
    s.zoneReport x nsid lba filter limit part = s.complete x.seq (cplFail .invalidOpcode true) := by
  rw [State.zoneReport, State.ns_of_nsIo hn]
  exact if_pos (by rw [hz]; rfl)

theorem State.zoneReport_zones (hz : n.zoned = true) (hl : lba < n.nsze) (hf : filter ≤ 7) (hb : s.rebuilding nsid = false) :
    s.zoneReport x nsid lba filter limit part =
      (s.emit (.fields x.ctrl x.sq x.cid 0x7A
        ((if part then ((n.reported lba filter).take limit).length else (n.reported lba filter).length) ::
          ((n.reported lba filter).take limit).flatMap fun y => [y.idx * n.zsize, y.state, n.zcap y.idx, y.idx * n.zsize + y.wp]))).complete
        x.seq (cplOk 0 0) := by
  rw [State.zoneReport, State.ns_of_nsIo hn]
  refine (if_neg (by rw [hz]; decide)).trans ((if_neg (Nat.not_le.mpr hl)).trans ?_)
  exact (if_neg (by rw [hb]; decide)).trans (if_neg (Nat.not_lt.mpr hf))

theorem State.zoneRefuse_eq :
    s.zoneRefuse q nsid = s.complete q (cplFail (if n.zoned then .invalidZoneTransition else .invalidOpcode) true) := by
  rw [State.zoneRefuse, State.ns_of_nsIo hn]

end Reached

/-! ### The commands in their turn -/

section Turn
variable (ht : s.turn c cid = some x) (hq : x.sq ≠ 0)
include ht hq

theorem execZoneOpen_turn : exec (.zoneOpen c cid nsid lba everyZone) s = .next (s.zoneManage x.seq nsid lba .open_ everyZone) :=
  State.ioCmd_turn (fun s x => s.zoneManage x.seq nsid lba .open_ everyZone) ht hq

theorem execZoneClose_turn : exec (.zoneClose c cid nsid lba everyZone) s = .next (s.zoneManage x.seq nsid lba .close everyZone) :=
  State.ioCmd_turn (fun s x => s.zoneManage x.seq nsid lba .close everyZone) ht hq

theorem execZoneFinish_turn : exec (.zoneFinish c cid nsid lba everyZone) s = .next (s.zoneManage x.seq nsid lba .finish everyZone) :=
  State.ioCmd_turn (fun s x => s.zoneManage x.seq nsid lba .finish everyZone) ht hq

theorem execZoneManagementReceive_turn :
    exec (.zoneManagementReceive c cid nsid lba filter limit part) s = .next (s.zoneReport x nsid lba filter limit part) :=
  State.ioCmd_turn (fun s x => s.zoneReport x nsid lba filter limit part) ht hq

theorem execZoneReset_turn : exec (.zoneReset c cid nsid lba everyZone) s = .next (s.zoneRefuse x.seq nsid) :=
  State.ioCmd_turn (fun s x => s.zoneRefuse x.seq nsid) ht hq

theorem execZoneOffline_turn : exec (.zoneOffline c cid nsid lba everyZone) s = .next (s.zoneRefuse x.seq nsid) :=
  State.ioCmd_turn (fun s x => s.zoneRefuse x.seq nsid) ht hq

end Turn

/-! ### The obligation -/

/-- Settles O26, action by action, from the cases above. -/
theorem zoneManagement : Obligations.ZoneManagement := by
  unfold Obligations.ZoneManagement
  intro s c cid nsid zi lba filter limit everyZone part x n ht hq hn q a z fail moved usable finished zones all listed shown
  have opens : ∀ (lba : Nat) (b : Bool) (t : State), s.zoneManage q nsid lba .open_ b = t → exec (.zoneOpen c cid nsid lba b) s = .next t :=
    fun _ _ _ h => (execZoneOpen_turn ht hq).trans (congrArg Host.Outcome.next h)
  have closes : ∀ (lba : Nat) (b : Bool) (t : State), s.zoneManage q nsid lba .close b = t → exec (.zoneClose c cid nsid lba b) s = .next t :=
    fun _ _ _ h => (execZoneClose_turn ht hq).trans (congrArg Host.Outcome.next h)
  have finishes : ∀ (lba : Nat) (b : Bool) (t : State), s.zoneManage q nsid lba .finish b = t →
      exec (.zoneFinish c cid nsid lba b) s = .next t :=
    fun _ _ _ h => (execZoneFinish_turn ht hq).trans (congrArg Host.Outcome.next h)
  have one : ∀ (b : ZoneAct) (r : Except Status Ns), usable → n.zoneAct b zi = r → s.zoneManage q nsid a b false = s.zonesActed q nsid b [zi] r :=
    fun b r ⟨hz, hs, ho, hi, hc⟩ h => (State.zoneManage_one hn hz ho hs hi hc).trans (congrArg _ h)
  have every : ∀ (b : ZoneAct) (r : Except Status Ns), n.zoned = true → s.mediaOpen nsid = true → all b = r →
      s.zoneManage q nsid lba b true = s.zonesActed q nsid b (zones b) r :=
    fun b r hz ho h => (State.zoneManage_every hn hz ho).trans (congrArg _ h)
  refine ⟨?_, ?_, ?_, ?_, ?_, ?_, ?_, ?_, ?_, ?_, ?_, ?_, ?_⟩
  · exact fun hu h => opens a false _ (one .open_ _ hu (Ns.zoneAct_open h))
  · exact fun hu h hf => opens a false _ (one .open_ _ hu (Ns.zoneAct_open_full h hf))
  · exact fun hu h => opens a false _ (one .open_ _ hu (Ns.zoneAct_open_not h))
  · exact fun hu h => closes a false _ (one .close _ hu (Ns.zoneAct_close h))
  · exact fun hu h => closes a false _ (one .close _ hu (Ns.zoneAct_close_not h))
  · exact fun hu h => finishes a false _ (one .finish _ hu (if_neg h))
  · exact fun hu h => finishes a false _ (one .finish _ hu (if_pos h))
  · exact fun hz ho => ⟨fun m h => opens lba true _ (every .open_ _ hz ho h), fun e h => opens lba true _ (every .open_ _ hz ho h),
      fun m h => closes lba true _ (every .close _ hz ho h), fun m h => finishes lba true _ (every .finish _ hz ho h)⟩
  · exact fun hz hs ho hi hc => ⟨opens a false _ (State.zoneManage_claimed hn hz ho hs hi hc),
      closes a false _ (State.zoneManage_claimed hn hz ho hs hi hc), finishes a false _ (State.zoneManage_claimed hn hz ho hs hi hc)⟩
  · exact fun hz ho => ⟨opens lba everyZone _ (State.zoneManage_shut hn hz ho), closes lba everyZone _ (State.zoneManage_shut hn hz ho),
      finishes lba everyZone _ (State.zoneManage_shut hn hz ho)⟩
  · exact fun hz hl hf hb => (execZoneManagementReceive_turn ht hq).trans (congrArg Host.Outcome.next (State.zoneReport_zones hn hz hl hf hb))
  · intro hz
    have refuses : s.zoneRefuse x.seq nsid = s.complete q (cplFail .invalidZoneTransition true) := by rw [State.zoneRefuse_eq hn, hz]; rfl
    exact ⟨(execZoneReset_turn ht hq).trans (congrArg Host.Outcome.next refuses), (execZoneOffline_turn ht hq).trans (congrArg Host.Outcome.next refuses)⟩
  · intro hz
    have refuses : s.zoneRefuse x.seq nsid = s.complete q (cplFail .invalidOpcode true) := by rw [State.zoneRefuse_eq hn, hz]; rfl
    exact ⟨opens lba everyZone _ (State.zoneManage_zoneless hn hz), closes lba everyZone _ (State.zoneManage_zoneless hn hz),
      finishes lba everyZone _ (State.zoneManage_zoneless hn hz),
      (execZoneManagementReceive_turn ht hq).trans (congrArg Host.Outcome.next (State.zoneReport_zoneless hn hz)),
      (execZoneReset_turn ht hq).trans (congrArg Host.Outcome.next refuses), (execZoneOffline_turn ht hq).trans (congrArg Host.Outcome.next refuses)⟩

end Sys2Proof.Machine
end

section
/-! Admin commands (R336 to R338, R346, R350, R351): each in its turn, then the obligation. -/

namespace Sys2Proof.Machine

variable {s : State} {c cid v cns csi nsid sq target f q : Nat} {x y : Ctx} {k : Ctrl}

/-- Invalid Field. -/
abbrev cplBadField : Cpl := cplFail .invalidField true

/-! ### Abort (R346) -/

/-- The command that an Abort names. -/
abbrev State.abortTarget (s : State) (q c sq target : Nat) : Option Ctx :=
  s.nvme.ctxs.find? fun z => z.ctrl == c && z.sq == sq && z.cid == target && z.seq != q

theorem State.doAbort_none (h : s.abortTarget q c sq target = none) :
    s.doAbort q c sq target = (s.bump (nvKey 0x0E)).complete q (cplOk 1 0) := by
  rw [State.abortTarget] at h
  rw [State.doAbort, h]

theorem State.doAbort_some (h : s.abortTarget q c sq target = some y) : s.doAbort q c sq target =
    if s.isDispatched y = true then (s.bump (nvKey 0x0E)).complete q (cplOk 1 0)
    else (((s.complete y.seq (cplFail .commandAbortRequested false)).bump (nvKey 0x0D)).complete q (cplOk 0 0)).settle := by
  rw [State.abortTarget] at h
  rw [State.doAbort, h]

/-! ### The commands in their turn -/

section Turn
variable (ht : s.adminTurn c cid x k)
include ht

theorem execIdentify_some {d : List Nat} (h : s.identifyData c cns csi nsid = some d) :
    exec (.identify c cid cns csi nsid) s = .next ((s.emit (.fields c 0 cid cns d)).complete x.seq (cplOk 0 0)) := by
  rw [exec_identify, execIdentify, State.adminCmd_turn _ ht]
  simp only [h]

theorem execIdentify_none (h : s.identifyData c cns csi nsid = none) :
    exec (.identify c cid cns csi nsid) s = .next (s.complete x.seq cplBadField) := by
  rw [exec_identify, execIdentify, State.adminCmd_turn _ ht]
  simp only [h]

theorem execAbort_held (h : sq = 0 ∧ target ∈ k.aers) : exec (.abort c cid sq target) s =
    .next ((((s.modCtrl c fun k => { k with aers := k.aers.filter (· != target) }).emit
      (.completion c 0 target (cplFail .commandAbortRequested false))).bump (nvKey 0x0D)).complete x.seq (cplOk 0 0)) := by
  obtain ⟨-, -, hctrl⟩ := id ht
  rw [exec_abort, execAbort, State.adminCmd_turn _ ht]
  simp only [hctrl]
  exact next_pos ⟨h.1, List.contains_iff_mem.mpr h.2⟩

theorem execAbort_other (h : ¬ (sq = 0 ∧ target ∈ k.aers)) : exec (.abort c cid sq target) s = .next (s.doAbort x.seq c sq target) := by
  obtain ⟨-, -, hctrl⟩ := id ht
  rw [exec_abort, execAbort, State.adminCmd_turn _ ht]
  simp only [hctrl]
  exact next_neg fun held => h ⟨held.1, List.contains_iff_mem.mp held.2⟩

/-- The context frees with no completion. -/
abbrev State.freed (s : State) (q : Nat) : State := { s with nvme := { s.nvme with ctxs := s.nvme.ctxs.filter fun y => y.seq != q } }

theorem execAsyncEventRequest_event {e : Event} {r : List Event} (h : k.waiting = e :: r) : exec (.asyncEventRequest c cid) s =
    .next (((s.freed x.seq).modCtrl c fun k => { k with waiting := r, masked := k.masked ++ [e] }).emit (.asyncEvent c cid e)) := by
  obtain ⟨-, -, hctrl⟩ := id ht
  rw [exec_asyncEventRequest, execAsyncEventRequest, State.adminCmd_turn _ ht]
  simp only [hctrl, h]
  rfl

theorem execAsyncEventRequest_held (h : k.waiting = []) (hl : k.aers.length < 16) : exec (.asyncEventRequest c cid) s =
    .next ((s.freed x.seq).modCtrl c fun k => { k with aers := k.aers ++ [cid] }) := by
  obtain ⟨-, -, hctrl⟩ := id ht
  rw [exec_asyncEventRequest, execAsyncEventRequest, State.adminCmd_turn _ ht]
  simp only [hctrl, h]
  exact next_neg (Nat.not_le.mpr hl)

theorem execAsyncEventRequest_full (h : k.waiting = []) (hl : 16 ≤ k.aers.length) : exec (.asyncEventRequest c cid) s =
    .next (s.complete x.seq (cplFail .aerLimit true)) := by
  obtain ⟨-, -, hctrl⟩ := id ht
  rw [exec_asyncEventRequest, execAsyncEventRequest, State.adminCmd_turn _ ht]
  simp only [hctrl, h]
  exact next_pos hl

/-! ### Set Features (R337, R338) -/

omit ht in
theorem Outcome.next_ite {p : Prop} [Decidable p] {t u : State} :
    (.next (if p then t else u) : Res) = if p then .next t else .next u := by
  split <;> rfl

/-- A feature that the condition `p` allows is set. -/
theorem State.adminCmd_setFeature {p : Prop} [Decidable p] (w : Nat) :
    (s.adminCmd c cid fun s x => if p then s.setFeature x f w else s.complete x.seq cplBadField) =
      if p then .next (s.setFeature x f w) else .next (s.complete x.seq cplBadField) :=
  (State.adminCmd_turn _ ht).trans Outcome.next_ite

theorem execKeepAlive_turn : exec (.keepAlive c cid) s = .next (s.complete x.seq (cplOk 0 0)) :=
  State.adminCmd_turn (fun s x => s.complete x.seq (cplOk 0 0)) ht

theorem execSetFeaturesPowerManagement_turn : exec (.setFeaturesPowerManagement c cid v) s =
    if v % 32 = 0 then .next (s.complete x.seq (cplOk 0 0)) else .next (s.complete x.seq cplBadField) := by
  rw [exec_setFeaturesPowerManagement, execSetFeaturesPowerManagement, State.adminCmd_turn _ ht]
  exact Outcome.next_ite

theorem execSetFeaturesKeepAliveTimer_turn : exec (.setFeaturesKeepAliveTimer c cid v) s =
    if c = 0 then .next (s.complete x.seq cplBadField) else .next (s.setFeature x 0x0F ((v + 99) / 100 * 100)) := by
  rw [exec_setFeaturesKeepAliveTimer, execSetFeaturesKeepAliveTimer, State.adminCmd_turn _ ht]
  exact Outcome.next_ite

theorem execSetFeaturesTimestamp_turn : exec (.setFeaturesTimestamp c cid v) s =
    if s.following then .next (s.complete x.seq (cplFail .commandSequence true))
    else .next ((s.calendarSet (v % 2 ^ 48 * 1000) 1).complete x.seq (cplOk 0 0)) := by
  rw [exec_setFeaturesTimestamp, execSetFeaturesTimestamp, State.adminCmd_turn _ ht]
  exact Outcome.next_ite

/-- The pairs that a request is granted. -/
abbrev State.pairsGranted (s : State) (c v : Nat) : Nat := min (max (v % 65536) (v / 65536 % 65536) + 1) (4096 - s.grantedOthers c)

theorem execSetFeaturesNumberOfQueues_turn {g : Nat} (h : s.pairsGranted c v = g) {u : State}
    (hu : (s.modCtrl c fun k => { k with granted := g }) = u) : exec (.setFeaturesNumberOfQueues c cid v) s =
      .next ((u.queuesResult g).2.complete x.seq (cplOk (u.queuesResult g).1 0)) := by
  subst h hu
  rw [exec_setFeaturesNumberOfQueues, execSetFeaturesNumberOfQueues, State.adminCmd_turn _ ht]

theorem execSetFeaturesNumberOfQueues_none (h : s.pairsGranted c v = 0) {g : Nat × State}
    (hg : (s.modCtrl c fun k => { k with granted := 0 }).fresh = g) : exec (.setFeaturesNumberOfQueues c cid v) s =
      .next (g.2.complete x.seq (cplOk (Config.freeValue g.1 % 4294967296) 0)) := by
  subst hg
  exact execSetFeaturesNumberOfQueues_turn ht h rfl

theorem execSetFeaturesNumberOfQueues_some {g : Nat} (h : s.pairsGranted c v = g) (hg : 1 ≤ g) :
    exec (.setFeaturesNumberOfQueues c cid v) s =
      .next ((s.modCtrl c fun k => { k with granted := g }).complete x.seq (cplOk ((g - 1) * 65536 + (g - 1)) 0)) := by
  rw [execSetFeaturesNumberOfQueues_turn ht h rfl, State.queuesResult, if_neg (Nat.ne_of_gt hg)]

/-! ### Get Features (R337) -/

/-- Get Features completes as its table of features has it. -/
theorem execGetFeatures_turn : exec (.getFeatures c cid f v) s = .next (
    if f = 1 ∨ f = 6 ∨ f = 0x0B then s.complete x.seq (cplOk (k.feature f) 0)
    else if f = 2 then s.complete x.seq (cplOk 0 0)
    else if f = 4 then s.complete x.seq (cplOk (k.feature (0x400 + bitsOf v 21 20)) 0)
    else if f = 7 then (s.queuesResult k.granted).2.complete x.seq (cplOk (s.queuesResult k.granted).1 0)
    else if f = 8 ∧ c = 0 then s.complete x.seq (cplOk (k.feature 8) 0)
    else if f = 9 ∧ c = 0 ∧ v % 65536 < 2048 then s.complete x.seq (cplOk (v % 65536 + 65536 * k.feature (0x90000 + v % 65536)) 0)
    else if f = 0x0E then (s.emit (.bytes c 0 cid (leBytes 8 (s.calendar / 1000)))).complete x.seq (cplOk 0 0)
    else if f = 0x0F ∧ c ≠ 0 then s.complete x.seq (cplOk (k.feature 0x0F) 0)
    else s.complete x.seq cplBadField) := by
  obtain ⟨-, -, hctrl⟩ := id ht
  rw [exec_getFeatures, execGetFeatures, State.adminCmd_turn _ ht]
  simp only [hctrl]

theorem execGetFeatures_queues (h : 1 ≤ k.granted) : exec (.getFeatures c cid 7 v) s =
    .next (s.complete x.seq (cplOk ((k.granted - 1) * 65536 + (k.granted - 1)) 0)) := by
  rw [execGetFeatures_turn ht, State.queuesResult, if_neg (Nat.ne_of_gt h)]
  rfl

theorem execGetFeatures_noQueues (h : k.granted = 0) : exec (.getFeatures c cid 7 v) s =
    .next (s.fresh.2.complete x.seq (cplOk (Config.freeValue s.fresh.1 % 4294967296) 0)) := by
  rw [execGetFeatures_turn ht, State.queuesResult, if_pos h]
  rfl

theorem execGetFeatures_coalescing : exec (.getFeatures c cid 8 v) s =
    if c = 0 then .next (s.complete x.seq (cplOk (k.feature 8) 0)) else .next (s.complete x.seq cplBadField) := by
  rw [execGetFeatures_turn ht]
  by_cases hc : c = 0 <;> simp [hc]

theorem execGetFeatures_vector : exec (.getFeatures c cid 9 v) s = if c = 0 ∧ v % 65536 < 2048
    then .next (s.complete x.seq (cplOk (v % 65536 + 65536 * k.feature (0x90000 + v % 65536)) 0))
    else .next (s.complete x.seq cplBadField) := by
  rw [execGetFeatures_turn ht, ← Outcome.next_ite]
  simp

theorem execGetFeatures_keepAlive : exec (.getFeatures c cid 15 v) s =
    if c = 0 then .next (s.complete x.seq cplBadField) else .next (s.complete x.seq (cplOk (k.feature 15) 0)) := by
  rw [execGetFeatures_turn ht]
  by_cases hc : c = 0 <;> simp [hc]

theorem execGetFeatures_unknown (h : f ∉ [1, 2, 4, 6, 7, 8, 9, 11, 14, 15]) :
    exec (.getFeatures c cid f v) s = .next (s.complete x.seq cplBadField) := by
  simp only [List.mem_cons, List.not_mem_nil, or_false, not_or] at h
  rw [execGetFeatures_turn ht]
  simp [h]

/-! ### Property Get (R336) -/

theorem execPropertyGet_pcie (hc : c = 0) : exec (.propertyGet c cid v) s = .next (s.complete x.seq (cplFail .invalidOpcode true)) := by
  obtain ⟨-, -, hctrl⟩ := id ht
  rw [exec_propertyGet, execPropertyGet, State.adminCmd_turn _ ht]
  simp only [hctrl]
  exact next_pos hc

theorem execPropertyGet_fabric (hc : c ≠ 0) : exec (.propertyGet c cid v) s = .next (
    if v = 0 then s.complete x.seq (cplOk (capValue % 2 ^ 32) (capValue / 2 ^ 32))
    else if v = 8 then s.complete x.seq (cplOk 0x20000 0)
    else if v = 0x14 then s.complete x.seq (cplOk k.cc 0)
    else if v = 0x1C then s.complete x.seq (cplOk (s.csts k) 0)
    else if v = 0x20 then s.complete x.seq (cplOk 0 0)
    else s.complete x.seq cplBadField) := by
  obtain ⟨-, -, hctrl⟩ := id ht
  rw [exec_propertyGet, execPropertyGet, State.adminCmd_turn _ ht]
  simp only [hctrl]
  exact next_neg hc

theorem execPropertyGet_registers (hc : c ≠ 0) : exec (.propertyGet c cid 8) s = .next (s.complete x.seq (cplOk 0x20000 0))
    ∧ exec (.propertyGet c cid 0x14) s = .next (s.complete x.seq (cplOk k.cc 0))
    ∧ exec (.propertyGet c cid 0x1C) s = .next (s.complete x.seq (cplOk (s.csts k) 0))
    ∧ exec (.propertyGet c cid 0x20) s = .next (s.complete x.seq (cplOk 0 0))
    ∧ exec (.propertyGet c cid 0) s = .next (s.complete x.seq (cplOk (capValue % 4294967296) (capValue / 4294967296))) := by
  have two : (2 : Nat) ^ 32 = 4294967296 := by norm_num
  simp only [execPropertyGet_fabric ht hc, two, OfNat.ofNat_ne_zero, if_true, if_false, Nat.reduceEqDiff, and_self]

theorem execPropertyGet_unknown (hc : c ≠ 0) (h : v ∉ [0, 8, 0x14, 0x1C, 0x20]) :
    exec (.propertyGet c cid v) s = .next (s.complete x.seq cplBadField) := by
  simp only [List.mem_cons, List.not_mem_nil, or_false, not_or] at h
  rw [execPropertyGet_fabric ht hc]
  simp [h]

end Turn

/-! ### The obligation -/

/-- Settles O27, command by command, from the cases above. -/
theorem adminCommands : Obligations.AdminCommands := by
  unfold Obligations.AdminCommands
  intro s c cid v cns csi nsid sq target x k ht q ok bad set give grant free
  refine ⟨?_, ?_, ?_, ?_, ?_, ?_, ?_, ?_, ?_, ?_, ?_, ?_, ?_, ?_, ?_, ?_, ?_, ?_, ?_, ?_, ?_, ?_, ?_, ?_, ?_, ?_, ?_, ?_, ?_, ?_, ?_, ?_, ?_⟩
  · exact fun _ h => execIdentify_some ht h
  · exact execIdentify_none ht
  · exact fun hs hm => execAbort_held ht ⟨hs, hm⟩
  · exact fun hn h => (execAbort_other ht hn).trans (congrArg Host.Outcome.next (State.doAbort_none h))
  · exact fun y hn h => (execAbort_other ht hn).trans (congrArg Host.Outcome.next (State.doAbort_some h))
  · exact execAsyncEventRequest_held ht
  · exact execAsyncEventRequest_full ht
  · exact fun e r h => execAsyncEventRequest_event ht h
  · exact execKeepAlive_turn ht
  · exact State.adminCmd_turn (fun s x => s.setFeature x 1 (v % 8)) ht
  · exact execSetFeaturesPowerManagement_turn ht
  · exact fun hz ho => (State.adminCmd_setFeature ht _).trans (if_pos ⟨hz, ho⟩)
  · exact fun hn => (State.adminCmd_setFeature ht _).trans (if_neg (by omega))
  · exact State.adminCmd_turn (fun s x => s.setFeature x 6 (v % 2)) ht
  · exact fun h => execSetFeaturesNumberOfQueues_none ht h rfl
  · exact execSetFeaturesNumberOfQueues_some ht rfl
  · exact State.adminCmd_setFeature ht _
  · exact State.adminCmd_setFeature ht _
  · exact State.adminCmd_turn (fun s x => s.setFeature x 0x0B v) ht
  · exact execSetFeaturesKeepAliveTimer_turn ht
  · exact execSetFeaturesTimestamp_turn ht
  · exact fun h => (execGetFeatures_turn ht).trans (next_pos h)
  · exact execGetFeatures_turn ht
  · exact execGetFeatures_turn ht
  · exact execGetFeatures_queues ht
  · exact execGetFeatures_turn ht
  · exact execGetFeatures_noQueues ht
  · exact execGetFeatures_coalescing ht
  · exact execGetFeatures_vector ht
  · exact execGetFeatures_keepAlive ht
  · exact execGetFeatures_unknown ht
  · intro hc
    obtain ⟨version, config, status, subsystem, capabilities⟩ := execPropertyGet_registers ht hc
    exact ⟨version, config, status, subsystem, capabilities, execPropertyGet_unknown ht hc⟩
  · exact execPropertyGet_pcie ht

end Sys2Proof.Machine
end

section
/-! The I/O queues of the PCIe controller, Property Set, and controller reset (R326, R336, R338, R346, R510). -/

namespace Sys2Proof.Machine

variable {s : State} {c cid id size cq off v q : Nat} {x : Ctx} {k : Ctrl}

/-! ### Queues and properties in their turn -/

section Turn
variable (ht : s.adminTurn c cid x k)
include ht

theorem State.ctrl_of_adminTurn : s.ctrl c = some k := by
  obtain ⟨-, -, hctrl⟩ := ht
  exact hctrl

theorem execCreateIoCq_turn : exec (.createIoCq c cid id size) s = .next (
    if c ≠ 0 then s.complete x.seq (cplFail .invalidOpcode true)
    else if id = 0 ∨ k.granted < id ∨ k.cqs.contains id = true then s.complete x.seq (cplFail .invalidQueue true)
    else if size = 0 ∨ 16383 < size then s.complete x.seq (cplFail (.code 1 2) true)
    else (s.modCtrl c fun k => { k with cqs := k.cqs ++ [id] }).complete x.seq (cplOk 0 0)) := by
  have hctrl := State.ctrl_of_adminTurn ht
  rw [exec_createIoCq, execCreateIoCq, State.adminCmd_turn _ ht]
  simp only [hctrl]

theorem execCreateIoSq_turn : exec (.createIoSq c cid id size cq) s = .next (
    if c ≠ 0 then s.complete x.seq (cplFail .invalidOpcode true)
    else if id = 0 ∨ k.granted < id ∨ (k.sqs.any (·.1 == id)) = true then s.complete x.seq (cplFail .invalidQueue true)
    else if (!k.cqs.contains cq) = true then s.complete x.seq (cplFail (.code 1 0) true)
    else if size = 0 ∨ 16383 < size then s.complete x.seq (cplFail (.code 1 2) true)
    else (s.modCtrl c fun k => { k with sqs := k.sqs ++ [(id, cq)] }).complete x.seq (cplOk 0 0)) := by
  have hctrl := State.ctrl_of_adminTurn ht
  rw [exec_createIoSq, execCreateIoSq, State.adminCmd_turn _ ht]
  simp only [hctrl]

theorem execDeleteIoCq_turn : exec (.deleteIoCq c cid id) s = .next (
    if c ≠ 0 then s.complete x.seq (cplFail .invalidOpcode true)
    else if (!k.cqs.contains id) = true then s.complete x.seq (cplFail .invalidQueue true)
    else if (k.sqs.any (·.2 == id)) = true then s.complete x.seq (cplFail (.code 1 0x0C) true)
    else (s.modCtrl c fun k => { k with cqs := k.cqs.filter (· != id) }).complete x.seq (cplOk 0 0)) := by
  have hctrl := State.ctrl_of_adminTurn ht
  rw [exec_deleteIoCq, execDeleteIoCq, State.adminCmd_turn _ ht]
  simp only [hctrl]

/-- The commands of a submission queue that goes end, or their completions are dropped. -/
abbrev State.sqEnded (s : State) (c id : Nat) : State :=
  s.forEach (s.nvme.ctxs.filter fun y => y.ctrl == c && y.sq == id) fun t y =>
    if t.isDispatched y then t.modCtx y.seq fun z => { z with dropped := true }
    else t.complete y.seq (cplFail .abortedSqDeletion false)

theorem execDeleteIoSq_turn : exec (.deleteIoSq c cid id) s = .next (
    if c ≠ 0 then s.complete x.seq (cplFail .invalidOpcode true)
    else if (!k.sqs.any (·.1 == id)) = true then s.complete x.seq (cplFail .invalidQueue true)
    else ((s.sqEnded c id).modCtx x.seq fun y => { y with op := .sqDelete id }).settle) := by
  have hctrl := State.ctrl_of_adminTurn ht
  rw [exec_deleteIoSq, execDeleteIoSq, State.adminCmd_turn _ ht, State.deleteSq, hctrl]

theorem execPropertySet_turn {u : State} (hu : ((s.complete x.seq (cplOk 0 0)).modCtrl c fun k => { k with cc := v % 2 ^ 32 }) = u) :
    exec (.propertySet c cid off v) s = .next (
      if c = 0 then s.complete x.seq (cplFail .invalidOpcode true)
      else if off ≠ 0x14 then s.complete x.seq (cplFail .invalidField true)
      else if k.en ∧ v % 2 = 0 then u.resetCtrl c
      else if k.en ∧ bitsOf v 15 14 = 1 then u.shutdown c
      else if k.en ∧ bitsOf v 15 14 = 2 then u.resetCtrl c
      else if ¬ k.en ∧ v % 2 = 1 then u.enableCtrl c
      else u) := by
  subst hu
  have hctrl := State.ctrl_of_adminTurn ht
  rw [exec_propertySet, execPropertySet, State.adminCmd_turn _ ht]
  simp only [hctrl]

end Turn

/-! ### Controller reset (R326, Table 13.3) -/

section Reset
variable (hk : s.ctrl c = some k)
include hk

theorem execControllerReset_enabled : exec (.controllerReset c .ccEn) s = .next (if k.en then s.resetCtrl c else s)
    ∧ exec (.controllerReset c .abruptShutdown) s = .next (if k.en then s.resetCtrl c else s) := by
  simp only [exec_controllerReset, execControllerReset, hk, and_self]

theorem execControllerReset_pcie (hc : c = 0) : exec (.controllerReset c .hotReset) s = .next (s.resetCtrl c)
    ∧ exec (.controllerReset c .functionLevel) s = .next (s.resetCtrl c)
    ∧ exec (.controllerReset c .linkDown) s = .next (s.linkDown.resetCtrl c)
    ∧ exec (.controllerReset c .perst) s = .next (if s.reg (key 0x4000 5) = 1 then s.resetCtrl c else s) := by
  subst hc
  simp only [exec_controllerReset, execControllerReset, hk, if_true, true_and, and_self]

theorem execControllerReset_fabric (hc : c ≠ 0) : exec (.controllerReset c .hotReset) s = .next s
    ∧ exec (.controllerReset c .functionLevel) s = .next s ∧ exec (.controllerReset c .linkDown) s = .next s
    ∧ exec (.controllerReset c .perst) s = .next s := by
  simp only [exec_controllerReset, execControllerReset, hk, hc, if_false, false_and, and_self]

end Reset

/-! ### The checks of a queue -/

theorem queue_not_refused {b : Bool} (hf : 1 ≤ id ∧ id ≤ k.granted) (hb : ¬ b = true) : ¬ (id = 0 ∨ k.granted < id ∨ b = true) := by
  rintro (h | h | h)
  · omega
  · omega
  · exact hb h

theorem queue_refused {b : Bool} (h : ¬ (1 ≤ id ∧ id ≤ k.granted) ∨ b = true) : id = 0 ∨ k.granted < id ∨ b = true := by
  rcases h with h | h
  · omega
  · exact .inr (.inr h)

theorem size_not_refused (h : 1 ≤ size) (hs : size ≤ 16383) : ¬ (size = 0 ∨ 16383 < size) := by omega

section Lists
variable {l : List (Nat × Nat)} {m : List Nat}

theorem any_fst_iff : (l.any (·.1 == id)) = true ↔ ∃ p ∈ l, p.1 = id := by simp
theorem any_snd_iff : (l.any (·.2 == id)) = true ↔ ∃ p ∈ l, p.2 = id := by simp

theorem not_any_fst (h : ∀ p ∈ l, p.1 ≠ id) : ¬ (l.any (·.1 == id)) = true := by
  rw [any_fst_iff]
  exact fun ⟨p, hp, he⟩ => h p hp he

theorem not_any_snd (h : ∀ p ∈ l, p.2 ≠ id) : ¬ (l.any (·.2 == id)) = true := by
  rw [any_snd_iff]
  exact fun ⟨p, hp, he⟩ => h p hp he

theorem contains_refused (h : id ∉ m) : (!m.contains id) = true := by simpa using h
theorem not_contains_refused (h : id ∈ m) : ¬ (!m.contains id) = true := by simpa using h

end Lists

/-! ### The obligation -/

/-- Settles O28, command by command, from the cases above. -/
theorem queuesAndResets : Obligations.QueuesAndResets := by
  unfold Obligations.QueuesAndResets
  intro s c cid id size cq off v x k hk q mine bad u reset free
  have createCq : ∀ (ht : mine) (hc : c = 0), exec (.createIoCq c cid id size) s = _ :=
    fun ht hc => (execCreateIoCq_turn ht).trans (next_neg (not_not.mpr hc))
  have createSq : ∀ (ht : mine) (hc : c = 0), exec (.createIoSq c cid id size cq) s = _ :=
    fun ht hc => (execCreateIoSq_turn ht).trans (next_neg (not_not.mpr hc))
  have deleteCq : ∀ (ht : mine) (hc : c = 0), exec (.deleteIoCq c cid id) s = _ :=
    fun ht hc => (execDeleteIoCq_turn ht).trans (next_neg (not_not.mpr hc))
  have deleteSq : ∀ (ht : mine) (hc : c = 0), exec (.deleteIoSq c cid id) s = _ :=
    fun ht hc => (execDeleteIoSq_turn ht).trans (next_neg (not_not.mpr hc))
  refine ⟨?_, ?_, ?_, ?_, ?_, ?_, ?_, ?_, ?_, ?_, ?_, ?_, ?_, ?_, ?_, ?_, ?_, ?_, ?_, ?_⟩
  · exact fun ht hc hf hn hz hs => (createCq ht hc).trans
      ((next_neg (queue_not_refused hf (mt List.contains_iff_mem.mp hn))).trans (next_neg (size_not_refused hz hs)))
  · exact fun ht hc hn => (createCq ht hc).trans (next_pos (queue_refused (hn.imp_right List.contains_iff_mem.mpr)))
  · exact fun ht hc hf hn hs => (createCq ht hc).trans
      ((next_neg (queue_not_refused hf (mt List.contains_iff_mem.mp hn))).trans (next_pos hs))
  · exact fun ht hc hf hn hq hz hs => (createSq ht hc).trans ((next_neg (queue_not_refused hf (not_any_fst hn))).trans
      ((next_neg (not_contains_refused hq)).trans (next_neg (size_not_refused hz hs))))
  · exact fun ht hc hn => (createSq ht hc).trans (next_pos (queue_refused (hn.imp_right any_fst_iff.mpr)))
  · exact fun ht hc hf hn hq => (createSq ht hc).trans ((next_neg (queue_not_refused hf (not_any_fst hn))).trans
      (next_pos (contains_refused hq)))
  · exact fun ht hc hf hn hq hs => (createSq ht hc).trans ((next_neg (queue_not_refused hf (not_any_fst hn))).trans
      ((next_neg (not_contains_refused hq)).trans (next_pos hs)))
  · exact fun ht hc hi hn => (deleteCq ht hc).trans ((next_neg (not_contains_refused hi)).trans (next_neg (not_any_snd hn)))
  · exact fun ht hc hi => (deleteCq ht hc).trans (next_pos (contains_refused hi))
  · exact fun ht hc hi hn => (deleteCq ht hc).trans ((next_neg (not_contains_refused hi)).trans (next_pos (any_snd_iff.mpr hn)))
  · exact fun ht hc hn => (deleteSq ht hc).trans (next_neg (by simpa using hn))
  · exact fun ht hc hn => (deleteSq ht hc).trans (next_pos (by simpa using hn))
  · exact fun ht hc => ⟨(execCreateIoCq_turn ht).trans (next_pos hc), (execCreateIoSq_turn ht).trans (next_pos hc),
      (execDeleteIoCq_turn ht).trans (next_pos hc), (execDeleteIoSq_turn ht).trans (next_pos hc)⟩
  · intro ht hc
    refine (execPropertySet_turn ht rfl).trans ((next_neg hc).trans ((next_neg (not_not.mpr rfl)).trans ?_))
    simp only [Bool.not_eq_true]
    rfl
  · exact fun ht hc ho => (execPropertySet_turn ht rfl).trans ((next_neg hc).trans (next_pos ho))
  · exact fun ht hc => (execPropertySet_turn ht rfl).trans (next_pos hc)
  · intro he
    obtain ⟨ccEn, abrupt⟩ := execControllerReset_enabled hk
    exact ⟨ccEn.trans (next_pos he), abrupt.trans (next_pos he)⟩
  · intro he
    obtain ⟨ccEn, abrupt⟩ := execControllerReset_enabled hk
    exact ⟨ccEn.trans (next_neg (Bool.eq_false_iff.mp he)), abrupt.trans (next_neg (Bool.eq_false_iff.mp he))⟩
  · exact execControllerReset_pcie hk
  · exact execControllerReset_fabric hk

end Sys2Proof.Machine
end

section
/-! Format, Pin and Unpin, and the steps of a fill (R329, R330, R359 to R361, R365, R369, R370). -/

namespace Sys2Proof.Machine

variable {s : State} {c cid nsid a m p ses q cl b w : Nat} {x y : Ctx} {k : Ctrl} {n : Ns} {o : MediaOp} {l : Line} {blk : Block}

/-! ### Format (R329, R330) -/

/-- What a Format asks for is there to be had. -/
abbrev State.formatFits (s : State) (n : Ns) (m p : Nat) : Prop := n.daf = true ∧ m ≤ 1 ∧ (p = 0 ∨ p = s.reg (nvKey 6))

/-- The namespace is written, or a write to it waits. -/
abbrev State.nsWritten (s : State) (nsid : Nat) (n : Ns) : Bool :=
  (n.zones.any fun z => z.state != 0) || (s.granary.lines.any fun l => l.nsid == nsid && l.isDirty)
    || s.nvme.ctxs.any fun y => match y.op with | .write j _ _ _ _ => j == nsid | _ => false

/-- A self-test of the namespace ends as one that a Format ends. -/
abbrev State.testEnded (s : State) (nsid : Nat) : State :=
  match s.selfTest with | some t => if t.nsid = nsid then s.endTest 4 else s | none => s

section Format
variable (ht : s.adminTurn c cid x k)
include ht

theorem execFormatNvm_none (hn : s.ns nsid = none) : exec (.formatNvm c cid nsid m p ses) s = .next (s.complete x.seq cplInvalidNs) := by
  rw [exec_formatNvm, execFormatNvm, State.adminCmd_turn _ ht]
  simp only [hn]

/-- Format by its checks. -/
theorem execFormatNvm_some (hn : s.ns nsid = some n) : exec (.formatNvm c cid nsid m p ses) s = .next (
    if ses ≠ 0 then s.complete x.seq (cplFail .invalidField true)
    else if ¬ s.formatFits n m p then s.complete x.seq (cplFail .invalidFormat true)
    else if s.nsWritten nsid n = true then s.complete x.seq (cplFail .commandSequence true)
    else ((((s.testEnded nsid).modNs nsid fun n => { n with lbaf := m }).invalidate nsid).1).complete x.seq (cplOk 0 0)) := by
  have fits : (n.daf = false ∨ 1 < m ∨ ¬ p = 0 ∧ ¬ p = s.reg (nvKey 6)) ↔ ¬ s.formatFits n m p := by
    simp only [State.formatFits, not_and_or, not_or, Bool.not_eq_true, Nat.not_le]
  rw [exec_formatNvm, execFormatNvm, State.adminCmd_turn _ ht]
  simp only [hn, State.nsWritten, Bool.or_eq_true, or_assoc, ne_eq, Bool.not_eq_true', fits] <;> rfl

end Format

/-! ### Pin and Unpin (R370) -/

theorem State.pin_none (hn : s.ns nsid = none) : s.pin q nsid a m = s.complete q cplInvalidNs := by
  rw [State.pin, hn]

/-- The identifier of a new pin. -/
abbrev State.newPin (s : State) : Nat := freePinId s.granary.pins 257 s.granary.nextPin

/-- A pin of clusters, of which some lie above the write pointer: its record, the locks and the fills. -/
abbrev State.pinned (s : State) (q nsid a : Nat) (cls above : List Nat) : State :=
  ((((s.modGr fun g => { g with
      nextPin := if s.newPin = 0xFFFFFFFF then 1 else s.newPin + 1
      pins := g.pins ++ [⟨s.newPin, nsid, if above.isEmpty then 1 else 2, a, cls.length, above,
        if s.timeValid then s.calendar else 0⟩] }).addReg 32 (key 0x4401 0x0E) above.length).forEach
    (cls.filter fun cl => !above.contains cl) fun u cl => match u.line nsid cl with
      | some _ => u.lockLine nsid cl
      | none => if nsSpread nsid then u else u.queueFill nsid cl .demand).modCtx q fun y => { y with op := .pin s.newPin }).pumpPins

section Pin
variable (hn : s.ns nsid = some n)
include hn

theorem State.pin_range (hr : n.nsze < a + 16 * (m + 1)) : s.pin q nsid a m = s.complete q (cplFail .lbaOutOfRange true) := by
  rw [State.pin, hn]
  exact if_pos hr

section InRange
variable (hr : a + 16 * (m + 1) ≤ n.nsze)
include hr

theorem State.pin_notReady (ho : s.mediaReady nsid = false) : s.pin q nsid a m = s.complete q cplNotReady := by
  rw [State.pin, hn]
  exact (if_neg (Nat.not_lt.mpr hr)).trans (if_pos (by rw [ho]; rfl))

section Ready
variable (ho : s.mediaReady nsid = true)
include ho

theorem State.pin_full (hp : 256 ≤ s.granary.pins.length) : s.pin q nsid a m = s.complete q (cplFail (.code 1 0xC1) false) := by
  rw [State.pin, hn]
  exact (if_neg (Nat.not_lt.mpr hr)).trans ((if_neg (by rw [ho]; decide)).trans (if_pos hp))

theorem State.pin_pinned (hp : s.granary.pins.length < 256) : s.pin q nsid a m =
    s.pinned q nsid a (clustersOf a (16 * (m + 1))) ((clustersOf a (16 * (m + 1))).filter n.clusterAbove) := by
  rw [State.pin, hn]
  exact (if_neg (Nat.not_lt.mpr hr)).trans ((if_neg (by rw [ho]; decide)).trans (if_neg (Nat.not_le.mpr hp)))

end Ready
end InRange
end Pin

theorem execPin_turn (ht : s.adminTurn c cid x k) : exec (.pin c cid nsid a m) s = .next (s.pin x.seq nsid a m) :=
  State.adminCmd_turn (fun s x => s.pin x.seq nsid a m) ht

/-- A pin's record is freed, and lines that no other record covers are unlocked. -/
abbrev State.unpinned (s : State) (i : Nat) : State :=
  s.modGr fun g => { g with
    pins := g.pins.filter fun p => p.id != i
    lines := g.lines.map fun (l : Line) =>
      if l.lock = 2 ∧ ¬ (g.pins.filter fun p => p.id != i).any (fun p => p.locks l.nsid l.cluster) then { l with lock := 0 } else l }

theorem execUnpin_turn {i : Nat} (ht : s.adminTurn c cid x k) : exec (.unpin c cid i) s = .next (
    if (s.granary.pins.any (·.id == i)) = true then (s.unpinned i).pumpPins.complete x.seq (cplOk 0 0)
    else s.complete x.seq (cplFail .invalidField true)) := by
  rw [exec_unpin, execUnpin, State.adminCmd_turn _ ht]

/-! ### FILL_COMMIT (R359, R361, R369) -/

section Commit
variable (ho : s.op nsid cl = some o)

/-- The victim that an operation holds, or else the set's. -/
abbrev State.wayOf (s : State) (o : MediaOp) (z : Nat) : Option Nat :=
  match (match o.victim with
    | some w => if (s.setLines z).all fun l => l.way != w || l.state == .evicting then some w else none
    | none => none) with
  | some w => some w
  | none => s.victim z

theorem State.wayOf_none (hv : o.victim = none) {z : Nat} : s.wayOf o z = s.victim z := by
  rw [State.wayOf, hv]

theorem State.wayOf_held {z : Nat} (hv : o.victim = some w)
    (hw : ((s.setLines z).all fun l => l.way != w || l.state == .evicting) = true) : s.wayOf o z = some w := by
  simp only [State.wayOf, hv, hw, if_true]

/-- The first block of a dispatched fill is there, and its tag is not committed. -/
abbrev State.commits (s : State) (o : MediaOp) : Prop :=
  o.dispatched = true ∧ o.committed = false ∧ (s.fromPool o = false ∨ o.got ≠ [])
    ∧ (o.kind = .demand ∨ o.kind = .prefetch ∨ o.kind = .refill ∨ o.kind = .merge)

theorem State.commits.ready (h : s.commits o) : ¬ (!o.dispatched || o.committed || (o.kind == .lia || o.kind == .tables || o.kind == .test)
    || (s.fromPool o && o.got.isEmpty)) = true := by
  obtain ⟨dispatched, uncommitted, block, kind⟩ := h
  rcases block with h | h <;> rcases kind with hk | hk | hk | hk <;> simp [dispatched, uncommitted, h, hk]

theorem State.commits.not_metadata (h : s.commits o) : o.kind ≠ .metadata := by
  obtain ⟨-, -, -, hk⟩ := h
  rcases hk with hk | hk | hk | hk <;> rw [hk] <;> decide

include ho

theorem State.fillCommit_line (h : s.commits o) (hl : s.line nsid cl = some l) : s.fillCommit nsid cl =
    (if l.state = .valid ∨ l.state = .evicting then s.modLine nsid cl fun l => { l with state := .filling } else s).modOp
      nsid cl fun o => { o with committed := true } := by
  rw [State.fillCommit, ho]
  refine (if_neg h.ready).trans ?_
  rw [hl]

theorem State.fillCommit_way (h : s.commits o) (hl : s.line nsid cl = none) : s.fillCommit nsid cl =
    match s.wayOf o (s.setOf nsid cl) with
    | some w => s.commitLine o w 0
    | none => if o.kind = .prefetch ∨ o.kind = .refill then s.dropOp nsid cl
        else (s.modOp nsid cl fun o => { o with committed := true, bypass := true }).bump (key 0x4401 9) := by
  rw [State.fillCommit, ho]
  refine (if_neg h.ready).trans ?_
  rw [hl]
  exact if_neg h.not_metadata

theorem State.fillCommit_metadata (hd : o.dispatched = true) (hc : o.committed = false) (hk : o.kind = .metadata)
    (hl : s.line nsid cl = none) {z : Nat} (hz : s.setOf nsid cl = z) : s.fillCommit nsid cl =
    if s.lockedWays z < 4 then match s.wayOf o z with
      | some w => s.commitLine o w 1
      | none => s.modOp nsid cl fun o => { o with committed := true, bypass := true }
    else match s.pinToGive z with
      | some j => (s.forEach (s.granary.pins.filter fun p => p.locks j.nsid j.cluster) fun u p =>
          u.modPin p.id fun p => { p with state := 2, refused := p.refused ++ [j.cluster] }).commitLine o j.way 1
      | none => match s.wayOf o z with
        | some w => (s.commitLine o w 0).bump (key 0x4401 0x11)
        | none => s.bump (key 0x4401 0x11) := by
  subst hz
  have ready : ¬ (!o.dispatched || o.committed || (o.kind == .lia || o.kind == .tables || o.kind == .test)
      || (s.fromPool o && o.got.isEmpty)) = true := by
    simp [hd, hc, hk, State.fromPool]
  rw [State.fillCommit, ho]
  refine (if_neg ready).trans ?_
  rw [hl]
  exact if_pos hk

end Commit

/-! ### Blocks placed (R330, R359) -/

section Blocks
variable (ho : s.op nsid cl = some o)
include ho

theorem execBlockPlaced_pool (hp : s.fromPool o = true) : exec (.blockPlaced nsid cl b blk) s =
    .next (match findKey b o.got with | some d => s.checkedBlock nsid cl b (sectorBlock d) | none => s) := by
  simp only [exec_blockPlaced, execBlockPlaced, ho]
  exact next_pos hp

theorem execBlockPlaced_given (hp : s.fromPool o = false) (hk : o.kind ≠ .test) :
    exec (.blockPlaced nsid cl b blk) s = .next (s.checkedBlock nsid cl b blk) := by
  simp only [exec_blockPlaced, execBlockPlaced, ho]
  exact (next_neg (Bool.eq_false_iff.mp hp)).trans (next_neg hk)

section Committed
variable (hc : o.committed = true)
include hc

theorem State.checkedBlock_placed (hb : o.bypass = false) (hp : s.carriesPi nsid = false) :
    s.checkedBlock nsid cl b blk = ((s.modLine nsid cl fun l => if bitOf l.dirty b then l
      else { l with valid := setBit l.valid b, poison := clrBit l.poison b, blocks := l.blocks.set b blk }).hbmWrites nsid cl [b]).pumpReads := by
  rw [State.checkedBlock, hp]
  refine (if_pos rfl).trans ?_
  simp only [State.placeBlock, ho, hc, hb, Bool.not_true, Bool.false_eq_true, if_false]

theorem State.checkedBlock_guard (hp : s.carriesPi nsid = true) (hg : piCheck (s.reg (nvKey 6)) (16 * cl + b) blk = .guard) :
    s.checkedBlock nsid cl b blk = s.failReads nsid (· == 16 * cl + b) .guardCheck true := by
  rw [State.checkedBlock, hp]
  simp only [if_true, hg, reduceCtorEq, if_false, State.rejectBlock, ho, hc, PiCheck.status]

end Committed
end Blocks

theorem execMergeFillDone_over (ho : s.op nsid cl = some o) (hk : o.kind = .merge) (hd : o.dispatched = true)
    (hf : s.fillOver nsid cl = true) {u : State} (hu : (s.bump (key 0x4401 0x0B)).placeRest nsid cl = u) :
    exec (.mergeFillDone nsid cl) s = .next ((match u.mergeLost nsid cl with
      | [] => u
      | b :: _ => (u.integrityEntry nsid (16 * cl + b) 2).failFlushes nsid cl).fillEnd nsid cl).settle := by
  subst hu
  simp only [exec_mergeFillDone, execMergeFillDone, ho]
  exact next_pos ⟨hk, hd, hf⟩

/-! ### A full line at the end of its fill (R360) -/

section Idle

theorem State.forEach_of_same {α : Type} {l : List α} {f : State → α → State} (h : ∀ a ∈ l, f s a = s) : s.forEach l f = s := by
  induction l with
  | nil => rfl
  | cons a l ih =>
    calc s.forEach (a :: l) f = (f s a).forEach l f := rfl
      _ = s.forEach l f := by rw [h a List.mem_cons_self]
      _ = s := ih fun b hb => h b (List.mem_cons_of_mem a hb)

/-- No command of the host has come further than its context. -/
abbrev State.hostIdle (s : State) : Prop := ∀ y ∈ s.nvme.ctxs, y.op = .fetched

variable (hi : s.hostIdle)
include hi

theorem State.hostIdle.ctx (hx : s.ctx q = some x) : x.op = .fetched := hi x (List.mem_of_find?_eq_some hx)

theorem State.serveRead_idle : s.serveRead q = s := by
  unfold State.serveRead
  split
  · next x hx => rw [hi.ctx hx]
  · rfl

theorem State.serveFlush_idle : s.serveFlush q = s := by
  unfold State.serveFlush
  split
  · next x hx => rw [hi.ctx hx]
  · rfl

theorem State.serveShutdown_idle : s.serveShutdown q = s := by
  unfold State.serveShutdown
  split
  · next x hx => rw [hi.ctx hx]
  · rfl

theorem State.pump_idle : s.pump = s := by
  have reads : s.pumpReads = s := State.forEach_of_same fun _ _ => State.serveRead_idle hi
  have flushes : s.pumpFlushes = s := State.forEach_of_same fun _ _ => by rw [State.serveFlush_idle hi, State.serveShutdown_idle hi]
  rw [State.pump, reads, flushes]
  exact State.forEach_of_same fun x hx => by rw [hi x hx]

theorem State.settle_idle : s.settle = s := by
  have refetched : s.refetch = s := State.forEach_of_same fun x hx => by rw [hi x hx]
  have deletes : s.pumpDeletes = s := State.forEach_of_same fun x hx => by rw [hi x hx]
  have none_active : s.activation = none := List.findSome?_eq_none_iff.mpr fun x hx => by rw [hi x hx]
  rw [State.settle, refetched, State.pump_idle hi, deletes, State.pumpActivation, none_active]

theorem State.failReads_idle {f : Nat → Bool} {e : Status} {d : Bool} : s.failReads nsid f e d = s :=
  State.forEach_of_same fun x hx => by rw [hi x hx]

end Idle

/-! ### The tables of lines and operations -/

theorem State.line_modLine {f : Line → Line} (hf : ∀ l : Line, (f l).nsid = l.nsid ∧ (f l).cluster = l.cluster) :
    (s.modLine nsid cl f).line nsid cl = (s.line nsid cl).map f := by
  have table : ∀ t : List Line, ((t.map fun l => if l.nsid = nsid ∧ l.cluster = cl then f l else l).find? fun l => l.nsid == nsid && l.cluster == cl)
      = (t.find? fun l => l.nsid == nsid && l.cluster == cl).map f := by
    intro t
    rw [List.find?_map]
    have same : ((fun l : Line => l.nsid == nsid && l.cluster == cl) ∘ fun l => if l.nsid = nsid ∧ l.cluster = cl then f l else l)
        = fun l => l.nsid == nsid && l.cluster == cl := by
      funext l
      obtain ⟨hn, hc⟩ := hf l
      simp only [Function.comp_apply]
      split
      · rw [hn, hc]
      · rfl
    rw [same]
    exact Option.map_congr fun l hl => if_pos (by simpa using List.find?_some hl)
  unfold State.line State.modLine
  cases nsSpread nsid
  · exact table s.granary.lines
  · exact table s.spread.staged

theorem State.op_modLine {f : Line → Line} : (s.modLine nsid cl f).op nsid cl = s.op nsid cl := by
  unfold State.modLine
  split <;> rfl

theorem State.hostIdle.modLine {f : Line → Line} (hi : s.hostIdle) : (s.modLine nsid cl f).hostIdle := by
  unfold State.modLine
  split <;> exact hi

theorem State.line_modOp {f : MediaOp → MediaOp} : (s.modOp nsid cl f).line nsid cl = s.line nsid cl := rfl

/-- An operation of a cluster that has not ended. -/
abbrev MediaOp.runs (nsid cl : Nat) (y : MediaOp) : Bool := y.nsid == nsid && y.cluster == cl && !y.ended

section OneOp
variable (ho : s.granary.ops.filter (MediaOp.runs nsid cl) = [o])
include ho

theorem State.op_of_one : s.op nsid cl = some o := by
  rw [State.op, ← List.head?_filter, ho]
  rfl

/-- Once the only operation of a cluster has ended, the cluster has none. -/
theorem State.op_ended {f : MediaOp → MediaOp} (hf : (f o).ended = true) : (s.modOp nsid cl f).op nsid cl = none := by
  obtain ⟨runs, before, after, hops, hbefore⟩ := List.find?_eq_some_iff_append.mp (State.op_of_one ho)
  have still : ∀ y ∈ before, ¬ MediaOp.runs nsid cl y = true :=
    fun y hy => Bool.eq_false_iff.mp ((Bool.not_eq_true' _).mp (hbefore y hy))
  have others : ∀ y ∈ before, (y != o) = true := by
    intro y hy
    refine bne_iff_ne.mpr ?_
    rintro rfl
    exact still y hy runs
  have last : after.filter (MediaOp.runs nsid cl) = [] := by
    have hb : before.filter (MediaOp.runs nsid cl) = [] := List.filter_eq_nil_iff.mpr still
    rw [hops, List.filter_append, hb, List.nil_append, List.filter_cons_of_pos (p := MediaOp.runs nsid cl) runs] at ho
    exact (List.cons.inj ho).2
  have ops : (s.modOp nsid cl f).granary.ops = before ++ f o :: after := by
    simp only [State.modOp, State.modGr, State.op_of_one ho]
    rw [hops, List.takeWhile_append_of_pos others, List.dropWhile_append_of_pos others]
    simp
  rw [State.op, ops, List.find?_eq_none]
  intro y hy
  rcases List.mem_append.mp hy with hb | ha
  · exact still y hb
  · rcases List.mem_cons.mp ha with rfl | ha
    · simp [hf]
    · exact List.filter_eq_nil_iff.mp last y ha

end OneOp

/-! ### The end of a full line's fill -/

theorem Line.has_of_full (hv : l.valid = 65535) (hd : l.dirty = 0) (hb : b < 16) : l.has b = true := by
  have full : ∀ b < 16, bitOf 65535 b = true := by decide
  rw [Line.has, hv, hd]
  exact full b hb

section FullLine
variable (ho : s.op nsid cl = some o) (hl : s.line nsid cl = some l) (hv : l.valid = 65535) (hc : l.dirty = 0) (hb : o.bypass = false)
include ho hl hv hc hb

theorem State.fillOver_full : s.fillOver nsid cl = true := by
  simp only [State.fillOver, ho, hl, hb, Bool.or_eq_true, List.all_eq_true, List.mem_range]
  exact .inr fun b h => .inr (by rw [Line.has_of_full hv hc h]; rfl)

theorem State.placeRest_full : s.placeRest nsid cl = s := by
  simp only [State.placeRest, ho]
  refine ite_eq_left_iff.mpr fun _ => State.forEach_of_same fun p hp => ?_
  have inLine : p.1 < 16 := by simpa using (List.mem_filter.mp hp).2
  refine if_pos ?_
  simp only [hl, hb, Line.has_of_full hv hc inLine]
  rfl

end FullLine

/-- A line as the end of its fill leaves it: it holds staged data, or none. -/
abbrev Line.filled (l : Line) : Line := { l with state := if l.dirty = 0 then .valid else .dirty }

/-- The line of a fill that has ended: the last steps of its end. -/
def State.lineOver (s : State) (nsid cl : Nat) : State :=
  let s := match s.line nsid cl with
    | some l =>
      if l.state = LineState.filling then if l.valid = 0 ∧ l.dirty = 0 ∧ l.lock = 0 then s.dropLine nsid cl else s.modLine nsid cl Line.filled
      else s
    | none => s
  let s := if (s.line nsid cl).isNone then s.refuseLock nsid cl else s
  s.pump

theorem State.lineOver_held (hi : s.hostIdle) (hl : s.line nsid cl = some l) (hs : l.state = .filling)
    (hv : ¬ (l.valid = 0 ∧ l.dirty = 0 ∧ l.lock = 0)) : s.lineOver nsid cl = s.modLine nsid cl Line.filled := by
  have there : (s.modLine nsid cl Line.filled).line nsid cl = some l.filled :=
    (State.line_modLine (f := Line.filled) fun _ => ⟨rfl, rfl⟩).trans (congrArg (Option.map Line.filled) hl)
  simp only [State.lineOver, hl, hs, hv, if_true, if_false, there, Option.isNone_some, Bool.false_eq_true]
  exact State.pump_idle hi.modLine

theorem State.filter_idle (hi : s.hostIdle) {f : Ctx → Bool} (hf : ∀ y, y.op = .fetched → ¬ f y = true) : s.nvme.ctxs.filter f = [] :=
  List.filter_eq_nil_iff.mpr fun y hy => hf y (hi y hy)

section FullLine
variable (ho : s.op nsid cl = some o) (hl : s.line nsid cl = some l) (hv : l.valid = 65535) (hc : l.dirty = 0) (hb : o.bypass = false)
include ho hl hv hc hb

/-- With no read that waits, the end of a full line's fill changes the operation and the line alone. -/
theorem State.fillEnd_full (hd : o.dispatched = true) (hk : o.kind = .demand) (hs : l.state = .filling) (hi : s.hostIdle) :
    s.fillEnd nsid cl = (s.modOp nsid cl fun o => { o with ended := true }).modLine nsid cl Line.filled := by
  have runs : ¬ (!o.dispatched || (o.kind == .lia || o.kind == .tables || o.kind == .test)) = true := by simp [hd, hk]
  have settled : (s.modOp nsid cl fun o => { o with ended := true }).lineOver nsid cl = _ :=
    State.lineOver_held (s := s.modOp nsid cl fun o => { o with ended := true }) hi hl hs (by omega)
  rw [State.fillEnd, ho]
  refine (if_neg runs).trans ?_
  dsimp only
  rw [State.placeRest_full ho hl hv hc hb, State.filter_idle hi]
  · rw [State.failReads_idle]
    · exact settled
    · exact hi
  · intro y hy
    rw [hy]
    exact Bool.false_ne_true

end FullLine

theorem execFillEnd_full (hone : s.granary.ops.filter (MediaOp.runs nsid cl) = [o]) (hd : o.dispatched = true) (hk : o.kind = .demand)
    (hl : s.line nsid cl = some l) (hs : l.state = .filling) (hv : l.valid = 65535) (hc : l.dirty = 0) (hb : o.bypass = false)
    (hi : s.hostIdle) : ∃ t, exec (.fillEnd nsid cl) s = .next t ∧ t.line nsid cl = some { l with state := .valid } ∧ t.op nsid cl = none := by
  have ho : s.op nsid cl = some o := State.op_of_one hone
  have idle : ((s.modOp nsid cl fun o => { o with ended := true }).modLine nsid cl Line.filled).hostIdle :=
    State.hostIdle.modLine (s := s.modOp nsid cl fun o => { o with ended := true }) hi
  refine ⟨(s.modOp nsid cl fun o => { o with ended := true }).modLine nsid cl Line.filled, ?_, ?_, ?_⟩
  · refine (next_pos (State.fillOver_full ho hl hv hc hb)).trans (congrArg Host.Outcome.next ?_)
    rw [State.fillEnd_full ho hl hv hc hb hd hk hs hi, State.settle_idle idle]
  · rw [State.line_modLine (f := Line.filled) fun _ => ⟨rfl, rfl⟩, State.line_modOp, hl, Option.map_some, Line.filled, hc]
    rfl
  · rw [State.op_modLine]
    exact State.op_ended hone rfl

/-! ### A waiting write (R364) -/

theorem execWriteLineReserved_some (h : s.nvme.ctxs.find? (fun z => z.ctrl == c && z.cid == cid && match z.op with
    | .write _ _ _ _ _ => true | _ => false) = some y) : exec (.writeLineReserved c cid) s = .next (s.tryWrite y.seq).settle := by
  refine congrArg Host.Outcome.next ?_
  split
  · next z hz => rw [Option.some.inj (hz.symm.trans h)]
  · next hz => exact nomatch hz.symm.trans h

/-! ### The obligation -/

/-- Settles O29, operation by operation, from the cases above. -/
theorem formatsPinsAndFills : Obligations.FormatsPinsAndFills := by
  unfold Obligations.FormatsPinsAndFills
  intro s c cid nsid a m p ses id cl b x y k n o l blk q mine fail rest cls pin above fits written tested filling
  refine ⟨?_, ?_, ?_, ?_, ?_, ?_, ?_, ?_, ?_, ?_, ?_, ?_, ?_, ?_, ?_, ?_, ?_, ?_, ?_, ?_, ?_, ?_, ?_, ?_⟩
  · exact fun ht hn hf hw => (execFormatNvm_some ht hn).trans ((next_neg (not_not.mpr rfl)).trans
      ((next_neg (not_not.mpr hf)).trans (next_neg (Bool.eq_false_iff.mp hw))))
  · exact fun ht hn hs => (execFormatNvm_some ht hn).trans (next_pos hs)
  · exact fun ht hn hf => (execFormatNvm_some ht hn).trans ((next_neg (not_not.mpr rfl)).trans (next_pos hf))
  · exact fun ht hn hf hw => (execFormatNvm_some ht hn).trans ((next_neg (not_not.mpr rfl)).trans
      ((next_neg (not_not.mpr hf)).trans (next_pos hw)))
  · exact fun ht hn => ⟨execFormatNvm_none ht hn, (execPin_turn ht).trans (congrArg Host.Outcome.next (State.pin_none hn))⟩
  · exact fun ht hn hr ho hp => (execPin_turn ht).trans (congrArg Host.Outcome.next (State.pin_pinned hn hr ho hp))
  · exact fun ht hn hr => (execPin_turn ht).trans (congrArg Host.Outcome.next (State.pin_range hn hr))
  · exact fun ht hn hr ho => (execPin_turn ht).trans (congrArg Host.Outcome.next (State.pin_notReady hn hr ho))
  · exact fun ht hn hr ho hp => (execPin_turn ht).trans (congrArg Host.Outcome.next (State.pin_full hn hr ho hp))
  · exact fun ht hp => (execUnpin_turn ht).trans (next_pos (by simpa using hp))
  · exact fun ht hp => (execUnpin_turn ht).trans (next_neg (by simpa using hp))
  · exact fun ho hf hl => congrArg Host.Outcome.next (State.fillCommit_line ho hf hl)
  · intro ho hf hl hv
    have commits := State.fillCommit_way ho hf hl
    rw [State.wayOf_none hv] at commits
    exact ⟨fun w hw => congrArg Host.Outcome.next (by rw [commits, hw]), fun hw => congrArg Host.Outcome.next (by rw [commits, hw])⟩
  · intro ho hf hl w hv hw
    have commits := State.fillCommit_way ho hf hl
    rw [State.wayOf_held hv hw] at commits
    exact congrArg Host.Outcome.next commits
  · intro ho hd hc hk hv hl z
    have commits := State.fillCommit_metadata ho hd hc hk hl rfl
    rw [State.wayOf_none hv] at commits
    refine ⟨fun hz w hw => ?_, fun hz hw => ?_, fun hz j hj => ?_, fun hz hj w hw => ?_⟩
    · exact congrArg Host.Outcome.next (commits.trans ((if_pos hz).trans (by rw [hw])))
    · exact congrArg Host.Outcome.next (commits.trans ((if_pos hz).trans (by rw [hw])))
    · exact congrArg Host.Outcome.next (commits.trans ((if_neg (Nat.not_lt.mpr hz)).trans (by rw [hj])))
    · exact congrArg Host.Outcome.next (commits.trans ((if_neg (Nat.not_lt.mpr hz)).trans (by rw [hj, hw])))
  · intro ho hp
    exact ⟨fun d hd => (execBlockPlaced_pool ho hp).trans (by rw [hd]), fun hd => (execBlockPlaced_pool ho hp).trans (by rw [hd])⟩
  · exact fun ho hp hk => execBlockPlaced_given ho hp hk
  · exact fun ho hc hb hp => State.checkedBlock_placed ho hc hb hp
  · exact fun ho hc hp hg => State.checkedBlock_guard ho hc hp hg
  · exact fun hf => next_pos hf
  · exact fun hf => next_neg (Bool.eq_false_iff.mp hf)
  · exact fun ho hd hk hl hs hv hc hb hi => execFillEnd_full ho hd hk hl hs hv hc hb hi
  · exact fun ho hk hd hf => execMergeFillDone_over ho hk hd hf rfl
  · exact fun _ _ _ _ h _ => execWriteLineReserved_some h

end Sys2Proof.Machine
end

section
/-! One step (R27, R49, R216): which command it runs, what passes on an empty queue, and that no command stops the block. -/

namespace Sys2Proof.Machine

variable {s : State}

/-- Settles O54: `step` takes the front command off the queue and runs it. -/
theorem stepRunsFrontCommand : Obligations.StepRunsFrontCommand := by
  unfold Obligations.StepRunsFrontCommand
  intro c rest s
  rfl

/-! ### An empty queue -/

theorem step_idle (hq : s.pending = []) : step s = .next s.tick.tpdoScan := by
  rw [step, hq]

/-- A clamp that stands takes no set-point. -/
theorem State.clampPoint_still {i : Nat} (h : (s.stn i).stroke = .none) : s.clampPoint i = s := if_pos (Or.inl h)

/-- A change made for each of a list of things that leave the state as it is leaves it so. -/
theorem State.forEach_same {α : Type} {l : List α} {f : State → α → State} (h : ∀ x ∈ l, f s x = s) : s.forEach l f = s := by
  unfold State.forEach
  induction l with
  | nil => rfl
  | cons x l ih =>
    rw [List.foldl_cons, h x List.mem_cons_self]
    exact ih fun y hy => h y (List.mem_cons_of_mem x hy)

theorem State.tick_still (h : ∀ i, i < s.part.stations → (s.stn i).stroke = .none) : s.tick = { s with now := s.now + 1 } :=
  State.forEach_same fun i hi => State.clampPoint_still (h i (List.mem_range.mp hi))

/-- With every TPDO switched off there is nothing to compare. -/
theorem State.tpdoScan_off (h : ∀ n, n < 8 → s.tpdoOn n = false) : s.tpdoScan = s := by
  refine State.forEach_same fun n hn => ?_
  obtain ⟨hr, hon⟩ := List.mem_filter.mp hn
  exact absurd hon (Bool.eq_false_iff.mp (h n (List.mem_range.mp hr)))

/-! ### Every step answers a next state -/

theorem next_exists_ite {c : Prop} [Decidable c] {x y : Res} (hx : ∃ t, x = .next t) (hy : ∃ t, y = .next t) :
    ∃ t, (if c then x else y) = .next t := by
  split <;> assumption

/-- Most commands are a next state by definition; those that branch first answer one in each branch. -/
theorem exec_next (c : Instr) (s : State) : ∃ t, exec c s = .next t := by
  cases c
  case loopSample => exact next_exists_ite ⟨_, rfl⟩ ⟨_, rfl⟩
  case defectSet => exact next_exists_ite ⟨_, rfl⟩ ⟨_, rfl⟩
  case defectClear => exact next_exists_ite ⟨_, rfl⟩ ⟨_, rfl⟩
  case residualHold => exact next_exists_ite ⟨_, rfl⟩ ⟨_, rfl⟩
  case residualClear => exact next_exists_ite ⟨_, rfl⟩ ⟨_, rfl⟩
  case holdExpired => exact next_exists_ite ⟨_, rfl⟩ ⟨_, rfl⟩
  case coefHoldOverrun => exact next_exists_ite ⟨_, rfl⟩ ⟨_, rfl⟩
  case captureTrigger => exact next_exists_ite ⟨_, rfl⟩ ⟨_, rfl⟩
  case captureDone => exact next_exists_ite ⟨_, rfl⟩ ⟨_, rfl⟩
  case captureTimeout => exact next_exists_ite ⟨_, rfl⟩ ⟨_, rfl⟩
  case measureLoop d _ _ => cases d <;> exact ⟨_, rfl⟩
  case recoveryConfirmExpiry => exact next_exists_ite ⟨_, rfl⟩ ⟨_, rfl⟩
  case saSettleTimeout => exact next_exists_ite (next_exists_ite ⟨_, rfl⟩ (next_exists_ite ⟨_, rfl⟩ ⟨_, rfl⟩)) ⟨_, rfl⟩
  case addressTimeout => exact next_exists_ite ⟨_, rfl⟩ ⟨_, rfl⟩
  case trkCaptureTimeout => exact next_exists_ite ⟨_, rfl⟩ ⟨_, rfl⟩
  case overpower => exact next_exists_ite ⟨_, rfl⟩ ⟨_, rfl⟩
  case pklLoss => exact next_exists_ite ⟨_, rfl⟩ ⟨_, rfl⟩
  case pklRetrain => exact next_exists_ite (next_exists_ite ⟨_, rfl⟩ (next_exists_ite ⟨_, rfl⟩ ⟨_, rfl⟩)) ⟨_, rfl⟩
  case writeGuardInhibit => exact next_exists_ite ⟨_, rfl⟩ ⟨_, rfl⟩
  case lockedRotor => exact next_exists_ite ⟨_, rfl⟩ ⟨_, rfl⟩
  all_goals exact ⟨_, rfl⟩

/-- Settles O55: idle time by the clock's own cases, and every command by `exec_next`. -/
theorem idleStepsAndAnswers : Obligations.IdleStepsAndAnswers := by
  unfold Obligations.IdleStepsAndAnswers
  intro s later
  refine ⟨step_idle, fun hq hoff hstill => ?_, ?_⟩
  · rw [step_idle hq, State.tick_still hstill]
    exact congrArg _ (State.tpdoScan_off hoff)
  · cases hq : s.pending with
    | nil => exact ⟨_, step_idle hq⟩
    | cons c rest =>
      obtain ⟨t, ht⟩ := exec_next c { s with pending := rest }
      exact ⟨t, by rw [step, hq]; exact ht⟩

end Sys2Proof.Machine
end

section
/-! SDO and USDO transfers (R38, R40, R44, R48, R507): what serving a write comes to, then each frame by its cases. -/

namespace Sys2Proof.Machine

variable {s t : State} {d : Door} {bus i sub a total : Nat} {usdo brs : Bool} {b got rest : List Byte} {w : World} {o : Obj}

/-! ### What serving a write comes to (R41) -/

theorem State.serve_applied (h : s.take d i sub b w = .ok ⟨t, true⟩) : s.serve d i sub b w = t.reply d i sub 0 b.length [] := by
  rw [State.serve, h]
  rfl

theorem State.serve_waits (h : s.take d i sub b w = .ok ⟨t, false⟩) : s.serve d i sub b w = t := by
  rw [State.serve, h]
  rfl

theorem State.serve_refused (h : s.take d i sub b w = .error a) :
    s.serve d i sub b w = (s.refusal i sub b a).reply d i sub a 0 [] := by
  rw [State.serve, h]

/-! ### Answers of a channel -/

/-- A bus that serves SDO carries the answer. -/
theorem State.reply_sdo (hs : s.sdoServed bus = true) (n : Nat) :
    s.reply (.sdo bus usdo) i sub a n b = s.emit (.answer (.sdo bus usdo) i sub a b) := if_pos hs

section Read
variable (hs : s.sdoServed bus = true)
include hs

theorem State.sdoRead_short (hr : s.readObject (.sdo bus usdo) i sub = .ok (o, b)) (hb : b.length ≤ expedited usdo) :
    s.sdoRead bus usdo i sub = s.emit (.answer (.sdo bus usdo) i sub 0 b) := by
  simp only [State.sdoRead, hr]
  rw [if_pos hb, State.reply_sdo hs]

theorem State.sdoRead_long (hr : s.readObject (.sdo bus usdo) i sub = .ok (o, b)) (hb : expedited usdo < b.length) :
    s.sdoRead bus usdo i sub = if s.snapshotHeld bus i sub = true then s.emit (.answer (.sdo bus usdo) i sub 0x05040005 [])
      else (s.setChan bus usdo (.upload i sub b false)).emit (.answer (.sdo bus usdo) i sub 0 (leBytes 4 b.length)) := by
  have served : (s.setChan bus usdo (.upload i sub b false)).sdoServed bus = true := hs
  simp only [State.sdoRead, hr]
  rw [if_neg (Nat.not_le.mpr hb), State.reply_sdo hs, State.reply_sdo served]

theorem State.sdoRead_refused (hr : s.readObject (.sdo bus usdo) i sub = .error a) :
    s.sdoRead bus usdo i sub = s.emit (.answer (.sdo bus usdo) i sub a []) := by
  simp only [State.sdoRead, hr]
  rw [State.reply_sdo hs]

theorem State.sdoBegin_admitted (hc : s.openCheck i sub (if total = 0 then none else some total) = 0) : s.sdoBegin bus usdo i sub total =
    (s.setChan bus usdo (.download i sub [] total false)).emit (.answer (.sdo bus usdo) i sub 0 []) := by
  have served : (s.setChan bus usdo (.download i sub [] total false)).sdoServed bus = true := hs
  rw [State.sdoBegin, if_neg (not_not_intro hc), State.reply_sdo served]

theorem State.sdoBegin_refused (hc : s.openCheck i sub (if total = 0 then none else some total) = a) (ha : a ≠ 0) :
    s.sdoBegin bus usdo i sub total = s.emit (.answer (.sdo bus usdo) i sub a []) := by
  rw [State.sdoBegin, hc, if_pos ha, State.reply_sdo hs]

end Read

/-! ### Segments -/

section Segment
variable (hs : s.sdoServed bus = true) (hf : s.frameOk usdo brs = true)
include hs hf

/-- An initiate that is taken ends a transfer in progress on its channel, and is served. -/
theorem execSdoInitiate_served (req : SdoReq) : execSdoInitiate bus usdo i sub req brs w s = .next (
    match req with
    | .read => (s.setChan bus usdo .idle).sdoRead bus usdo i sub
    | .write b => (s.setChan bus usdo .idle).serve (.sdo bus usdo) i sub b w
    | .begin_ total => (s.setChan bus usdo .idle).sdoBegin bus usdo i sub total
    | .block => (s.setChan bus usdo .idle).emit (.answer (.sdo bus usdo) i sub 0x05040001 [])) := by
  have served : (s.setChan bus usdo .idle).sdoServed bus = true := hs
  rw [execSdoInitiate, if_pos ⟨hs, hf⟩]
  cases req
  case block => exact congrArg _ (State.reply_sdo served 0)
  all_goals rfl

theorem execSdoSegment_next {u : Bool} (hc : s.chan bus usdo = .upload i sub rest u) :
    execSdoSegment bus usdo (.next u) brs w s = .next ((s.setChan bus usdo
      (if rest.length ≤ segmentBytes usdo then .idle else .upload i sub (rest.drop (segmentBytes usdo)) (!u))).emit
        (.answer (.sdo bus usdo) i sub 0 (rest.take (segmentBytes usdo)))) := by
  unfold execSdoSegment
  rw [if_pos ⟨hs, hf⟩, hc]
  dsimp only
  rw [if_neg (not_not_intro rfl)]
  exact congrArg _ (State.reply_sdo (s := s.setChan _ _ _) hs _)

theorem execSdoSegment_next_toggle {u : Bool} (hc : s.chan bus usdo = .upload i sub rest u) :
    execSdoSegment bus usdo (.next (!u)) brs w s = .next (s.sdoEnd bus usdo 0x05030000) := by
  unfold execSdoSegment
  rw [if_pos ⟨hs, hf⟩, hc]
  exact next_pos (Bool.not_ne_self u).symm

theorem execSdoSegment_data {u last : Bool} (hc : s.chan bus usdo = .download i sub got total u) :
    execSdoSegment bus usdo (.data u b last) brs w s = .next (s.sdoData bus usdo i sub (got ++ b) total u last w) := by
  unfold execSdoSegment
  rw [if_pos ⟨hs, hf⟩, hc]
  exact next_neg (not_not_intro rfl)

theorem execSdoSegment_data_toggle {u last : Bool} (hc : s.chan bus usdo = .download i sub got total u) :
    execSdoSegment bus usdo (.data (!u) b last) brs w s = .next (s.sdoEnd bus usdo 0x05030000) := by
  unfold execSdoSegment
  rw [if_pos ⟨hs, hf⟩, hc]
  exact next_pos (Bool.not_ne_self u).symm

theorem execSdoSegment_other : execSdoSegment bus usdo .other brs w s = .next (s.sdoEnd bus usdo 0x05040001) := by
  unfold execSdoSegment
  rw [if_pos ⟨hs, hf⟩]
  cases s.chan bus usdo <;> rfl

end Segment

/-- The last segment applies the transfer where the length agrees with the one announced. -/
theorem State.sdoData_last {u : Bool} : s.sdoData bus usdo i sub got total u true w =
    if total ≠ 0 ∧ got.length ≠ total then (s.setChan bus usdo .idle).reply (.sdo bus usdo) i sub 0x06070010 0 []
    else (s.setChan bus usdo .idle).serve (.sdo bus usdo) i sub got w := if_pos rfl

theorem State.sdoData_more {u : Bool} (hs : s.sdoServed bus = true) : s.sdoData bus usdo i sub got total u false w =
    (s.setChan bus usdo (.download i sub got total (!u))).emit (.answer (.sdo bus usdo) i sub 0 []) :=
  State.reply_sdo (s := s.setChan bus usdo (.download i sub got total (!u))) hs 0

theorem execSdoTimeout_busy (hc : s.chan bus usdo ≠ .idle) : execSdoTimeout bus usdo s =
    .next (if s.sdoServed bus = true then s.sdoEnd bus usdo 0x05040000 else s.setChan bus usdo .idle) := next_neg hc

/-! ### The obligation -/

/-- Settles O6, frame by frame, from the cases above. -/
theorem sdoTransfers : Obligations.SdoTransfers := by
  unfold Obligations.SdoTransfers
  refine ⟨fun s bus usdo brs i sub w hs hf => ?_, fun s bus usdo hs hc => ?_⟩
  · have served : (s.setChan bus usdo .idle).sdoServed bus = true := hs
    have initiate := fun req => execSdoInitiate_served (i := i) (sub := sub) (w := w) hs hf req
    refine ⟨?short, ?long, ?held, ?readRefused, ?applied, ?waits, ?writeRefused, ?begins, ?beginRefused, initiate .block,
      ?lastSegment, ?nextSegment, ?readToggle, ?writeToggle, ?more, ?last, ?lengths, execSdoSegment_other hs hf, ?timeout⟩
    case short => exact fun o b hr hb => (initiate .read).trans (congrArg _ (State.sdoRead_short served hr hb))
    case long =>
      exact fun o b hr hb hh => (initiate .read).trans
        (congrArg _ ((State.sdoRead_long served hr hb).trans (if_neg (Bool.eq_false_iff.mp hh))))
    case held =>
      exact fun o b hr hb hh => (initiate .read).trans (congrArg _ ((State.sdoRead_long served hr hb).trans (if_pos hh)))
    case readRefused => exact fun a hr => (initiate .read).trans (congrArg _ (State.sdoRead_refused served hr))
    case applied => exact fun b t ht => (initiate (.write b)).trans (congrArg _ (State.serve_applied ht))
    case waits => exact fun b t ht => (initiate (.write b)).trans (congrArg _ (State.serve_waits ht))
    case writeRefused => exact fun b a ht => (initiate (.write b)).trans (congrArg _ (State.serve_refused ht))
    case begins => exact fun total hc => (initiate (.begin_ total)).trans (congrArg _ (State.sdoBegin_admitted served hc))
    case beginRefused => exact fun total a hc ha => (initiate (.begin_ total)).trans (congrArg _ (State.sdoBegin_refused served hc ha))
    case lastSegment =>
      intro rest u hc hr
      refine (execSdoSegment_next hs hf hc).trans ?_
      rw [if_pos (show rest.length ≤ segmentBytes usdo from hr)]
      rfl
    case nextSegment =>
      intro rest u hc hr
      refine (execSdoSegment_next hs hf hc).trans ?_
      rw [if_neg (show ¬ rest.length ≤ segmentBytes usdo from Nat.not_le.mpr hr)]
      rfl
    case readToggle => exact fun rest u hc => execSdoSegment_next_toggle hs hf hc
    case writeToggle => exact fun got total u b last hc => execSdoSegment_data_toggle hs hf hc
    case more =>
      exact fun got total u b hc => (execSdoSegment_data hs hf hc).trans (congrArg _ (State.sdoData_more hs))
    case last =>
      intro got total u b v hc hl ht
      have agrees : ¬ (total ≠ 0 ∧ (got ++ b).length ≠ total) := fun hn => hl.elim hn.1 hn.2
      rw [exec_sdoSegment, execSdoSegment_data hs hf hc, State.sdoData_last, if_neg agrees, State.serve_applied ht]
    case lengths =>
      intro got total u b hc h0 hl
      rw [exec_sdoSegment, execSdoSegment_data hs hf hc, State.sdoData_last, if_pos ⟨h0, hl⟩, State.reply_sdo served]
    case timeout => exact fun hc => (execSdoTimeout_busy hc).trans (next_pos hs)
  · exact (execSdoTimeout_busy hc).trans (next_false hs)

end Sys2Proof.Machine
end

section
/-! What a report changes (R23, R438 to R449, R508): registers of the error objects and of the Ledger, the Ledger, what EMCY holds and
what is sent. The relation is made of those changes, so that what a report leaves alone is one induction over them. -/

namespace Sys2Proof.Machine

/-- From `s` to `t` nothing happened but reports. -/
inductive State.Tells (s : State) : State → Prop where
  | refl : s.Tells s
  | reg {t : State} (k v : Nat) : s.Tells t → k / 256 ∈ reportIx → s.Tells (t.setReg k v)
  | ledger {t : State} (l : Ledger) : s.Tells t → s.Tells { t with ledger := l }
  | can {t : State} (h : List Emcy) (i : Bool) (l : List Standing) : s.Tells t →
      s.Tells { t with can := { t.can with held := h, emcyInhibit := i, standing := l } }
  | out {t : State} (o : List Out) : s.Tells t → s.Tells { t with out := t.out ++ o }

/-- What the stations, the host interface, Granary, the ring and the spread volumes hold. -/
def State.works (s : State) := (s.stns, s.heads, s.loops, s.seqs, s.nvme, s.fabric, s.granary, s.spread)

namespace State.Tells

variable {s t u : State}

/-! ### What a report leaves alone -/

/-- Everything but the registers, the Ledger, CAN and the outputs. -/
theorem frame (h : s.Tells t) : { t with regs := s.regs, ledger := s.ledger, can := s.can, out := s.out } = s := by
  induction h with
  | refl => rfl
  | reg _ _ _ _ ih => exact ih
  | ledger _ _ ih => exact ih
  | can _ _ _ _ ih => exact ih
  | out _ _ ih => exact ih

theorem part (h : s.Tells t) : t.part = s.part := by
  have same := congrArg State.part h.frame
  exact same

theorem works (h : s.Tells t) : t.works = s.works := by
  have same := congrArg State.works h.frame
  exact same

/-- Of CAN everything but the frames held, the inhibit time and what stands. -/
theorem canFrame (h : s.Tells t) :
    { t.can with held := s.can.held, emcyInhibit := s.can.emcyInhibit, standing := s.can.standing } = s.can := by
  induction h with
  | refl => rfl
  | reg _ _ _ _ ih => exact ih
  | ledger _ _ ih => exact ih
  | can _ _ _ _ ih => exact ih
  | out _ _ ih => exact ih

/-- Every register but those of the error objects and the Ledger's. -/
theorem otherReg (h : s.Tells t) {k : Nat} (hk : k / 256 ∉ reportIx) : t.reg k = s.reg k := by
  induction h with
  | refl => rfl
  | reg a v _ ha ih => exact (State.reg_setReg_ne _ v fun (e : k = a) => hk (e ▸ ha)).trans ih
  | ledger _ _ ih => exact ih
  | can _ _ _ _ ih => exact ih
  | out _ _ ih => exact ih

theorem sent (h : s.Tells t) : s.out <+: t.out := by
  induction h with
  | refl => exact List.prefix_refl _
  | reg _ _ _ _ ih => exact ih
  | ledger _ _ ih => exact ih
  | can _ _ _ _ ih => exact ih
  | out o _ ih => exact ih.trans (List.prefix_append _ o)

/-! ### The operations of a report -/

theorem ite {c : Prop} [Decidable c] (ht : s.Tells t) (hu : s.Tells u) : s.Tells (if c then t else u) := by
  split <;> assumption

theorem of_snd {β : Type} {x : β × State} {y : β} (e : x = (y, t)) (h : s.Tells x.2) : s.Tells t := by rw [e] at h; exact h

theorem bump {k : Nat} (h : s.Tells t) (hk : k / 256 ∈ reportIx) : s.Tells (t.bump k) := reg _ _ h hk

theorem foldl {α : Type} (l : List α) (f : State → α → State) (hf : ∀ u x, x ∈ l → s.Tells u → s.Tells (f u x)) (h : s.Tells t) :
    s.Tells (l.foldl f t) := by
  induction l generalizing t with
  | nil => exact h
  | cons x l ih => exact ih (fun u y hy => hf u y (List.mem_cons_of_mem x hy)) (hf t x List.mem_cons_self h)

theorem sendEmcy (h : s.Tells t) (f : Emcy) : s.Tells (t.sendEmcy f) := by
  have sent : s.Tells (t.emitOn (serviceBuses t.can.mode) fun b => .emcy b (t.reg (key 0x1014 0)) f) := out _ h
  unfold State.sendEmcy
  exact ite (can _ _ _ h) (ite h (ite (ite (can _ _ _ h) (ite sent (can _ _ _ sent))) h))

theorem enterHistory (h : s.Tells t) (code event : Nat) : s.Tells (t.enterHistory code event) := by
  refine reg _ _ (reg _ _ (foldl _ _ (fun u i hi hu => reg _ _ hu ?_) h) (by decide)) (by decide)
  have entry : key 0x1003 (i + 2) / 256 = 0x1003 := by
    have := List.mem_range.mp hi
    simp only [key]
    omega
  rw [entry]
  decide

theorem raiseEmcy (h : s.Tells t) (code source event detail : Nat) (standing : Bool) :
    s.Tells (t.raiseEmcy code source event detail standing) := by
  unfold State.raiseEmcy
  have entered := enterHistory h code event
  exact ite (sendEmcy (reg _ _ (can _ _ _ h) (by decide)) _)
    (ite (sendEmcy (reg _ _ (can _ _ _ entered) (by decide)) _) (sendEmcy entered _))

theorem announce (h : s.Tells t) (code source : Nat) (payload : List Byte) (em : Option EmcyUse) :
    s.Tells (t.announce code source payload em).1 := by
  have counted : s.Tells (if t.override code = some (true, true) ∨ t.override code = some (false, true) then
      (match em with | none => t.bump (key 0x5800 2) | some _ => t) else t) := by
    cases em with
    | none => exact ite (bump h (by decide)) h
    | some e => exact ite h h
  unfold State.announce
  dsimp only
  split
  · exact counted
  · exact raiseEmcy counted ..

theorem ledgerView (h : s.Tells t) : s.Tells t.ledgerView :=
  reg _ _ (reg _ _ (reg _ _ (reg _ _ h (by decide)) (by decide)) (by decide)) (by decide)

theorem storeRaw (h : s.Tells t) (r : Rec) : s.Tells (t.storeRaw r) := ledger _ h

theorem storeGap (h : s.Tells t) (reason count first : Nat) : s.Tells (t.storeGap reason count first) := by
  have told := announce h 0x0C01 0 (leBytes 1 reason ++ leBytes 4 count ++ leBytes 8 first) none
  have stored := ite (c := (t.announce 0x0C01 0 (leBytes 1 reason ++ leBytes 4 count ++ leBytes 8 first) none).2.2 = true)
    (storeRaw told ((t.announce 0x0C01 0 (leBytes 1 reason ++ leBytes 4 count ++ leBytes 8 first) none).1.mkRec 0x0C01 0
      (if (t.announce 0x0C01 0 (leBytes 1 reason ++ leBytes 4 count ++ leBytes 8 first) none).2.1 then 4 else 0)
      (leBytes 1 reason ++ leBytes 4 count ++ leBytes 8 first))) told
  exact ite stored (reg _ _ stored (by decide))

theorem startFlush (h : s.Tells t) : s.Tells t.startFlush := by
  unfold State.startFlush
  split
  · exact h
  · exact ite (ledger _ h) h

theorem store (h : s.Tells t) (r : Rec) : s.Tells (t.store r) := by
  have raw := storeRaw h r
  have flushed : ∀ {c : Prop} [Decidable c] {v : State}, s.Tells v → s.Tells (if c then v.startFlush else v) :=
    fun hv => ite (startFlush hv) hv
  unfold State.store
  dsimp only
  refine ledgerView (flushed ?_)
  split
  · exact ite (storeGap (ledger _ raw) ..) raw
  · exact raw

theorem rateLimit (h : s.Tells t) (r : Rec) : s.Tells (t.rateLimit r).2 := by
  unfold State.rateLimit
  dsimp only
  split
  · split
    · exact bump (ledger _ h) (by decide)
    · exact ledger _ h
  · exact ledger _ h

theorem place (h : s.Tells t) (r : Rec) : s.Tells (t.place r) := by
  unfold State.place
  exact ite (ite (ledgerView (ledger _ h)) (bump (ledger _ h) (by decide))) (store h r)

theorem post (h : s.Tells t) (code source : Nat) (payload : List Byte) (em : Option EmcyUse) :
    s.Tells (t.post code source payload em) := by
  have told := announce h code source payload em
  unfold State.post
  dsimp only
  split
  · split
    · next limited => exact of_snd limited (rateLimit told _)
    · next limited => exact place (of_snd limited (rateLimit told _)) _
  · exact told

theorem note (h : s.Tells t) (code source : Nat) (payload : List Byte) : s.Tells (t.note code source payload) := post h ..

end State.Tells

end Sys2Proof.Machine
end

section
/-! Heartbeats consumed and the CAN controllers (R47, R50, R51, R508). -/

namespace Sys2Proof.Machine

variable {s u : State} {j bus node : Nat} {d : Door}

/-! ### A consumed heartbeat is missed (R51) -/

theorem State.works_ite {c : Prop} [Decidable c] {t u : State} (ht : t.works = s.works) (hu : u.works = s.works) :
    (if c then t else u).works = s.works := by
  split <;> assumption

theorem State.nmtTo_works (n : Nmt) : (s.nmtTo n).works = s.works := State.works_ite rfl rfl

/-- Settles O8: the report changes nothing of the stations or the host interface, and the reaction sets the NMT state alone. -/
theorem heartbeatTimeout : Obligations.HeartbeatTimeout := by
  unfold Obligations.HeartbeatTimeout
  intro s j h1 hj u p r
  refine ⟨_, next_pos ⟨h1, hj⟩, rfl, ?_⟩
  have reported : p.works = s.works := State.Tells.works (s := u) (.post .refl ..)
  have reaction : (if r = 0 then p.nmtTo .preOperational else if r = 2 then p.nmtTo .stopped else p).works = s.works :=
    State.works_ite ((State.nmtTo_works _).trans reported) (State.works_ite ((State.nmtTo_works _).trans reported) reported)
  simp only [State.works, Prod.mk.injEq] at reaction
  obtain ⟨stns, heads, loops, seqs, nvme, -⟩ := reaction
  exact ⟨stns, heads, loops, seqs, nvme⟩

/-! ### The controllers (R47, R50) -/

theorem execCanErrorPassive_enters (hb : s.busState bus = .active) (hd : s.power.dark = false) :
    execCanErrorPassive bus true s = .next ((s.setBus bus .passive).raiseEmcy 0x8120 0 0 bus false) := by
  unfold execCanErrorPassive
  rw [if_neg (Bool.eq_false_iff.mp hd), hb]

theorem execCanErrorPassive_leaves (hb : s.busState bus = .passive) (hd : s.power.dark = false) :
    execCanErrorPassive bus false s = .next ((s.setBus bus .active).raiseEmcy 0x8120 0 0 bus false) := by
  unfold execCanErrorPassive
  rw [if_neg (Bool.eq_false_iff.mp hd), hb]

/-! ### The error history (R508) -/

/-- A number that no rule of its own takes is set where the state allows it, the values agree and it is not the present one (R34). -/
theorem State.putNum_plain {o : Obj} {i sub v : Nat} {w : World} (hrule : s.numEffect d i sub v w = none) (hc : s.stateCheck o i sub v = 0)
    (hmap : s.mappingCheck i sub v = 0) (hcons : s.consistent i sub v = true) (hsame : s.sameValue d o i sub v = false)
    (hlathe : s.latheWrote i sub = false) : s.putNum d o i sub v w = .ok ((s.setReg (key i sub) v).afterWrite i sub) := by
  rw [State.putNum, hrule]
  dsimp only
  rw [hc, hmap, hcons, hsame, hlathe]
  rfl

/-- An admitted number is put to its object by the owner, which is awake for the value written too. -/
theorem State.put_admitted {i sub v : Nat} {w : World} {act : Applied} (ha : s.admitted d i sub v = some u)
    (hown : u.ownerOn i v = true → u.ownerOn i (leNat (numberBytes i sub v)) = true)
    (hput : ∀ o, u.stateCheck o i sub v = 0 → u.sameValue d o i sub v = false →
      ¬ (isResultIx i = true ∧ sub = 1 ∧ u.busy i = true) → u.putNum d o i sub v w = act) : s.put d i sub v w =
    match act with
    | .ok t => t.answered d i sub v
    | .error a => (u.refusal i sub (numberBytes i sub v) a).reply d i sub a 0 [] := by
  obtain ⟨hopen, o, hcheck, hnum, hkept, hon, h10, h11, hstate, hbusy, hsame⟩ := State.admitted_passed ha
  have put : u.putObject d i sub (numberBytes i sub v) w = act := by
    rw [State.putObject, hcheck]
    dsimp only
    rw [if_pos hnum, hkept, hput o hstate hsame hbusy]
  have take : u.take d i sub (numberBytes i sub v) w = act.map fun t => ⟨t, true⟩ := by
    rw [State.take, hcheck]
    dsimp only
    rw [if_neg (not_or.mpr ⟨h10, h11⟩), if_pos (Or.inl (hown hon)), put]
  refine (State.access_opened w hopen).trans ?_
  cases act with
  | ok t => exact State.serve_applied take
  | error a => exact State.serve_refused take

/-- Settles O10, command by command. -/
theorem canControllers : Obligations.CanControllers := by
  unfold Obligations.CanControllers
  intro s bus node
  refine ⟨fun hu hd => next_pos ⟨hu, Bool.eq_false_iff.mp hd⟩, fun hb => next_pos hb, execCanErrorPassive_enters,
    execCanErrorPassive_leaves, fun hb => next_pos hb, fun d u ha => ?_⟩
  exact congrArg _ (State.put_admitted ha (State.ownerOn_value (by decide) (by decide) _ _).trans fun o hc hsame _ =>
    State.putNum_plain rfl hc rfl rfl hsame rfl)

end Sys2Proof.Machine
end

section
/-! NMT and process data (R42 to R46, R49, R61, R508): what a reset of communication leaves, then each command by its cases. -/

namespace Sys2Proof.Machine

variable {s t : State} {n bus : Nat} {b : List Byte} {brs : Bool}

/-! ### A reset of communication (R43) -/

/-- From `s` to `t` the stations, the host interface and the fabric stay, CAN but for the frames held and what stands, and what was
sent. -/
structure State.Settles (s t : State) : Prop where
  works : t.works = s.works
  can : t.can.nmt = s.can.nmt ∧ t.can.booted = s.can.booted ∧ t.can.channels = s.can.channels ∧ t.can.mode = s.can.mode
    ∧ t.can.buses = s.can.buses
  sent : s.out <+: t.out

namespace State.Settles

theorem refl (s : State) : s.Settles s := ⟨rfl, ⟨rfl, rfl, rfl, rfl, rfl⟩, List.prefix_refl _⟩

variable {u : State}

theorem trans (h : s.Settles t) (g : t.Settles u) : s.Settles u := by
  obtain ⟨nmt, booted, channels, mode, buses⟩ := h.can
  obtain ⟨nmt', booted', channels', mode', buses'⟩ := g.can
  exact ⟨g.works.trans h.works, ⟨nmt'.trans nmt, booted'.trans booted, channels'.trans channels, mode'.trans mode, buses'.trans buses⟩,
    h.sent.trans g.sent⟩

theorem tells (h : s.Tells t) : s.Settles t := by
  have nmt := congrArg Can.nmt h.canFrame
  have booted := congrArg Can.booted h.canFrame
  have channels := congrArg Can.channels h.canFrame
  have mode := congrArg Can.mode h.canFrame
  have buses := congrArg Can.buses h.canFrame
  exact ⟨h.works, ⟨nmt, booted, channels, mode, buses⟩, h.sent⟩

theorem setReg (k v : Nat) : s.Settles (s.setReg k v) := ⟨rfl, ⟨rfl, rfl, rfl, rfl, rfl⟩, List.prefix_refl _⟩

theorem foldl {α : Type} (l : List α) (f : State → α → State) (hf : ∀ (u : State) x, u.Settles (f u x)) : s.Settles (l.foldl f s) := by
  induction l generalizing s with
  | nil => exact refl s
  | cons x l ih => exact (hf s x).trans ih

theorem setRaw (k : Nat) (b : List Byte) : s.Settles (s.setRaw k b) := ⟨rfl, ⟨rfl, rfl, rfl, rfl, rfl⟩, List.prefix_refl _⟩

theorem setRegs (l : List (Nat × Nat)) : s.Settles (s.setRegs l) := by
  induction l generalizing s with
  | nil => exact refl s
  | cons p l ih => exact (setReg p.1 p.2).trans ih

theorem noteIgnored (k : Nat) : s.Settles (s.noteIgnored k) := tells (.note .refl ..)

theorem applyStored (want : Nat → Bool) : s.Settles (s.applyStored want) := by
  unfold State.applyStored
  split
  · exact refl s
  · extract_lets nums raws whole good bad stored counted
    have set : s.Settles stored := (setRegs good).trans (foldl _ _ fun u p => setRaw p.1 p.2)
    exact (set.trans (setReg ..)).trans (foldl _ _ fun _ => noteIgnored)

theorem applyNode (node : Nat) : s.Settles (s.applyNode node) := (setReg ..).trans (setRegs _)

theorem dropLongMappings : s.Settles s.dropLongMappings := by
  refine foldl _ _ fun u ix => ?_
  split
  · exact (setReg ..).trans (noteIgnored _)
  · exact refl u

end State.Settles

/-- The settings of object 0x2010 applied anew leave a channel's transfer, and the boot-up message still to be sent. -/
theorem State.canApply_settled : s.canApply.works = s.works ∧ s.canApply.can.channels = s.can.channels
    ∧ s.canApply.can.booted = s.can.booted := by
  unfold State.canApply
  extract_lets mode bus strap can taken shown
  have node : taken.Settles (shown.dropLongMappings.applyNode (if strap = 0 then shown.reg (key 0x2010 2) else strap)) :=
    (State.Settles.setReg ..).trans (State.Settles.dropLongMappings.trans (.applyNode _))
  obtain ⟨works, ⟨-, booted, channels, -⟩, -⟩ := node
  exact ⟨works, channels, booted⟩

/-- The boot-up message goes out on every bus of the services that is up, and nothing else of the node changes but its NMT state. -/
theorem State.canBoot_boots (hb : s.can.booted = false) (ht : s.canBoot = t) : t.works = s.works ∧ t.can.nmt = .preOperational
    ∧ t.can.booted = true ∧ t.can.channels = s.can.channels
    ∧ ∀ b, b ∈ serviceBuses t.can.mode → t.busUp b = true → Out.bootUp b ∈ t.out := by
  subst ht
  rw [State.canBoot, if_neg (Bool.eq_false_iff.mp hb)]
  dsimp only
  generalize hu : State.emitOn _ _ _ = u
  obtain ⟨works, ⟨nmt, booted, channels, mode, buses⟩, sent⟩ :=
    State.Settles.foldl (s := u) s.can.held State.sendEmcy fun v f => .tells (.sendEmcy .refl f)
  have bootUps : ∀ b, b ∈ serviceBuses u.can.mode → u.busUp b = true → Out.bootUp b ∈ u.out := by
    subst hu
    exact fun b hb hup => List.mem_append_right _ (List.mem_map_of_mem (List.mem_filter.mpr ⟨hb, hup⟩))
  subst hu
  refine ⟨works, nmt, booted, channels, fun b hb hup => sent.subset (bootUps b ?_ ?_)⟩
  · exact mode ▸ hb
  · rw [State.busUp, ← buses]
    exact hup

/-- What a reset of communication does on a node that has booted. -/
theorem State.resetComm_boots (hb : s.can.booted = true) : s.resetComm.works = s.works ∧ s.resetComm.can.nmt = .preOperational
    ∧ s.resetComm.can.booted = true ∧ s.resetComm.can.channels = List.replicate 4 .idle
    ∧ ∀ b, b ∈ serviceBuses s.resetComm.can.mode → s.resetComm.busUp b = true → Out.bootUp b ∈ s.resetComm.out := by
  unfold State.resetComm
  rw [hb, if_neg (by decide)]
  extract_lets rom ended loaded applied strap noded
  have anew : ended.works = s.works ∧ ended.can.channels = List.replicate 4 .idle ∧ ended.can.booted = false := ⟨rfl, rfl, rfl⟩
  have reload : State.Settles { ended with regs := ended.regs.filter fun p => !commKey p.1 } loaded := .applyStored _
  have apply : applied.works = loaded.works ∧ applied.can.channels = loaded.can.channels ∧ applied.can.booted = loaded.can.booted := by
    unfold applied
    clear_value loaded
    exact State.canApply_settled
  have node : applied.Settles noded := by
    clear_value applied
    unfold noded
    split
    · exact .applyNode 127
    · exact .refl _
  clear_value applied loaded noded
  obtain ⟨reloadWorks, ⟨-, reloadBooted, reloadChannels, -⟩, -⟩ := reload
  obtain ⟨nodeWorks, ⟨-, nodeBooted, nodeChannels, -⟩, -⟩ := node
  obtain ⟨applyWorks, applyChannels, applyBooted⟩ := apply
  have channels : noded.can.channels = List.replicate 4 .idle := by
    rw [nodeChannels, applyChannels, reloadChannels]
    exact anew.2.1
  have booted : noded.can.booted = false := by
    rw [nodeBooted, applyBooted, reloadBooted]
    exact anew.2.2
  have works : noded.works = s.works := nodeWorks.trans (applyWorks.trans (reloadWorks.trans anew.1))
  obtain ⟨bootWorks, nmt, boots, bootChannels, sent⟩ := State.canBoot_boots booted rfl
  exact ⟨bootWorks.trans works, nmt, boots, bootChannels.trans channels, sent⟩

/-! ### NMT (R44) -/

theorem State.nmtTo_booted (hb : s.can.booted = true) (m : Nmt) : s.nmtTo m = { s with can := { s.can with nmt := m } } := if_pos hb

/-- Settles O7, command by command. -/
theorem networkManagement : Obligations.NetworkManagement := by
  unfold Obligations.NetworkManagement
  intro s hb
  refine ⟨congrArg _ (State.nmtTo_booted hb _), congrArg _ (State.nmtTo_booted hb _), ?start, ?reset, fun hr => next_pos ⟨hb, hr⟩,
    fun hi => next_pos hi⟩
  case start => rw [exec_nmtStart, execNmtStart, State.nmtTo_booted hb]
  case reset =>
    obtain ⟨works, nmt, booted, channels, sent⟩ := State.resetComm_boots hb
    simp only [State.works, Prod.mk.injEq] at works
    obtain ⟨stns, heads, loops, seqs, nvme, fabric, granary, spread⟩ := works
    exact ⟨_, rfl, rfl, nmt, booted, channels, sent, stns, heads, loops, seqs, nvme, fabric, granary, spread⟩

/-! ### Process data (R42, R46, R49) -/

section Received
variable (hs : s.pdoServed bus = true ∧ s.rpdoOn n = true ∧ s.frameOk (brs || decide (8 < b.length)) brs = true)
include hs

/-- What a received RPDO does, where it is not one seen on the other bus within the heartbeat period. -/
theorem execRpdoReceived_served : execRpdoReceived bus n b brs s = .next (
    if s.can.mode = 0 ∧ (s.pdo n).lastBus ≠ bus + 1 ∧ (s.pdo n).lastBus ≠ 0 ∧ s.now < (s.pdo n).lastAt + s.reg (key 0x1017 0) * 1000 then s
    else if s.reg (key (0x1400 + n) 2) ≤ 240 then
      (s.modPdo n fun p => { p with lastBus := bus + 1, lastAt := s.now }).modPdo n fun p => { p with waiting := some b }
    else (s.modPdo n fun p => { p with lastBus := bus + 1, lastAt := s.now }).rpdoTake bus n b) := next_pos hs

end Received

theorem State.rpdoTake_short (h : 8 * b.length < ((s.rpdoEntries n).map (· % 256)).sum) :
    s.rpdoTake bus n b = s.raiseEmcy 0x8210 0 0 n false := if_pos h

theorem State.rpdoTake_long (h : ((s.rpdoEntries n).map (· % 256)).sum ≤ 8 * b.length) : s.rpdoTake bus n b =
    match s.rpdoApply bus n (rpdoWrites (s.rpdoEntries n) b) with
    | .ok t => t
    | .error a => s.pdoDiscard n a := if_neg (Nat.not_lt.mpr h)

theorem State.tpdoAsk_inhibited (h : (s.pdo n).inhibit = true) : s.tpdoAsk n = s.modPdo n fun p => { p with pending := true } := if_pos h
theorem State.tpdoAsk_free (h : (s.pdo n).inhibit = false) : s.tpdoAsk n = s.tpdoSend n := if_neg (Bool.eq_false_iff.mp h)

/-- Settles O9, event by event. -/
theorem processData : Obligations.ProcessData := by
  unfold Obligations.ProcessData
  intro s bus n b brs p seen again served
  refine ⟨?asynchronous, ?synchronous, fun hs ha => (execRpdoReceived_served hs).trans (next_pos ha), State.rpdoTake_short, ?taken,
    ?discarded, fun hs => next_pos hs, ?timer, ?timerInhibited, ?inhibitSends, ?inhibitOver⟩
  case asynchronous =>
    exact fun hs ha ht => (execRpdoReceived_served hs).trans ((next_neg ha).trans (next_neg (Nat.not_le.mpr ht)))
  case synchronous => exact fun hs ha ht => (execRpdoReceived_served hs).trans ((next_neg ha).trans (next_pos ht))
  case taken => exact fun t hl ht => by rw [State.rpdoTake_long hl, ht]
  case discarded => exact fun a hl ha => by rw [State.rpdoTake_long hl, ha]
  case timer => exact fun h5 ht hn ho hi => (next_pos ⟨h5, ht, hn, ho⟩).trans (congrArg _ (State.tpdoAsk_free hi))
  case timerInhibited => exact fun h5 ht hn ho hi => (next_pos ⟨h5, ht, hn, ho⟩).trans (congrArg _ (State.tpdoAsk_inhibited hi))
  case inhibitSends => exact fun hi hp ht => next_pos ⟨hi, hp, ht⟩
  case inhibitOver =>
    intro hp
    refine next_neg ?_
    rintro ⟨-, hpending, -⟩
    exact Bool.false_ne_true (hp.symm.trans hpending)

end Sys2Proof.Machine
end

section
/-! Writes through any door (R16, R33, R41, R95, R463, R507), stores and the wakes of domains (R59, R60, R81). -/

namespace Sys2Proof.Machine

variable {s u : State} {d : Door} {i sub bus : Nat} {b : List Byte} {v : Val} {w : World} {o : Obj} {x : Store}

/-! ### Stores and wakes -/

theorem execStoreNorDone_stored (hx : s.nor.store = some x) (he : s.nor.erasing = false) : execStoreNorDone s = .next (s.storeDone x) := by
  unfold execStoreNorDone
  rw [hx]
  exact next_false he

/-- A restore leaves the measurement log alone. -/
theorem State.storeDone_restore (hx : x.ix = 0x1011) : s.storeDone x = State.reply { s with nor := { s.nor with
    copies := (s.nor.copies.set (1 - s.nor.newer) ⟨true, x.nums, x.raws⟩).modify (1 - (1 - s.nor.newer)) fun c => { c with valid := false }
    newer := 1 - s.nor.newer, erasing := true, store := none } } x.door x.ix x.sub 0 4 [] := by
  have notStore : ¬ x.ix = 0x1010 := by rw [hx]; decide
  unfold State.storeDone
  extract_lets n done
  rw [if_neg notStore]

/-- Settles O11, command by command. -/
theorem storesAndWakes : Obligations.StoresAndWakes := by
  unfold Obligations.StoresAndWakes
  intro s x d bad
  exact ⟨execStoreNorDone_stored, State.storeDone_restore, rfl, fun hd hl => next_pos ⟨hd, Bool.eq_false_iff.mp hl⟩,
    fun ht hu => next_pos ⟨ht, Bool.eq_false_iff.mp hu⟩⟩

/-! ### A write waits for its owner (R16, R95) -/

theorem State.refusal_cases (a : Nat) : u.refusal i sub b a = u
    ∨ u.refusal i sub b a = u.setReg (key 0x2600 4) (min (u.reg (key 0x2600 4) + 1) 4294967295) := by
  unfold State.refusal
  split
  · exact .inr rfl
  · exact .inl rfl

section Wake
variable (hc : u.staticCheck i sub b = .ok o) (h10 : i ≠ 0x1010) (h11 : i ≠ 0x1011) (hoff : u.ownerOn i (leNat b) = false)
include hc h10 h11 hoff

/-- A write whose owner is gated wakes it. -/
theorem State.take_gated (hb : u.powerState ≠ psBoot) :
    u.take d i sub b w = u.wakeOwner d i sub b w (ownerDomains u.part i (leNat b)) := by
  rw [State.take, hc]
  dsimp only
  rw [if_neg (not_or.mpr ⟨h10, h11⟩), if_neg (not_or.mpr ⟨Bool.eq_false_iff.mp hoff, hb⟩)]

theorem State.take_wakesDomains (hr : u.powerState = psRun) (hl : u.power.latched = false) : u.take d i sub b w =
    .ok ⟨(u.waitOwner d i sub b w (ownerDomains u.part i (leNat b))).forEach (ownerDomains u.part i (leNat b)) State.tempWake, false⟩ := by
  have running : u.powerState ≠ psBoot := by rw [hr]; decide
  rw [State.take_gated hc h10 h11 hoff running, State.wakeOwner, if_pos ⟨hr, Bool.eq_false_iff.mp hl⟩]

theorem State.take_wakesDevice (hr : u.powerState ≠ psRun) (hb : u.powerState ≠ psBoot) (hm : u.mayWake = true) (h16 : u.on16 = false)
    (hh : u.held = false) : u.take d i sub b w = .ok ⟨(u.waitOwner d i sub b w (ownerDomains u.part i (leNat b))).wake 0x800, false⟩ := by
  have wakes : (u.mayWake && !u.on16 && !u.held) = true := by rw [hm, h16, hh]; rfl
  rw [State.take_gated hc h10 h11 hoff hb, State.wakeOwner, if_neg fun h => hr h.1, if_pos wakes]

end Wake

/-! ### Shut doors -/

theorem State.access_seg_shut (hw : s.windowOn = false) : s.access .seg i sub b w = s := by
  refine if_neg ?_
  rintro ⟨hon, -⟩
  exact Bool.false_ne_true (hw.symm.trans hon)

/-- Settles O12: what serving a write comes to at the doors that are served, and the doors that are shut. -/
theorem writesThroughDoors : Obligations.WritesThroughDoors := by
  unfold Obligations.WritesThroughDoors
  refine ⟨fun s u d i sub v w ho => ?_, fun s bus i sub v w => ⟨?_, ?_, ?_, ?_⟩⟩
  · have served : ∀ t, u.serve d i sub (valBytes v) w = t → exec (.dictWrite d i sub v w) s = .next t :=
      fun t ht => congrArg _ ((State.access_opened w ho).trans ht)
    refine ⟨fun t ht => served _ (State.serve_applied ht), fun t ht => served _ (State.serve_waits ht),
      fun a ha => served _ (State.serve_refused ha), State.refusal_cases, fun o hc h10 h11 hoff => ?_⟩
    exact ⟨fun hr hl => served _ (State.serve_waits (State.take_wakesDomains hc h10 h11 hoff hr hl)),
      fun hr hb hm h16 hh => served _ (State.serve_waits (State.take_wakesDevice hc h10 h11 hoff hr hb hm h16 hh))⟩
  · exact fun usdo hs => next_false hs
  · exact fun n hs => next_false hs
  · exact fun hw => ⟨next_false hw, congrArg _ (State.access_seg_shut hw)⟩
  · exact fun hd => next_pos hd

end Sys2Proof.Machine
end

section
/-! The BAR2 window (R40, R53 to R56): each register of the segmented transfer by its cases, WIN_ABORT and direct accesses. -/

namespace Sys2Proof.Machine

variable {s : State} {o : Obj} {x b : List Byte} {a i sub v off n : Nat} {w : World}

/-- A window command acts while the window answers. -/
theorem State.atWindow_on {f : State → State} (hw : s.windowOn = true) : s.atWindow f = .next (f s) := next_pos hw

/-! ### Opens (R55) -/

section Open
variable (hb : s.bar2.busyOrOpen = false)
include hb

theorem State.openRead_shown (hr : s.readObject .seg s.bar2.ix s.bar2.sx = .ok (o, x)) : s.openRead = s.modBar2 fun b =>
    { b with state := .openRead, segAbort := 0, segLength := x.length, data := x, openObject := b.segObject } := by
  unfold State.openRead
  rw [if_neg (Bool.eq_false_iff.mp hb), hr]

theorem State.openRead_refused (hr : s.readObject .seg s.bar2.ix s.bar2.sx = .error a) : s.openRead = s.openFailed a := by
  unfold State.openRead
  rw [if_neg (Bool.eq_false_iff.mp hb), hr]

theorem State.openWrite_admitted (hc : s.openCheck s.bar2.ix s.bar2.sx (some s.bar2.segLength) = 0) : s.openWrite = s.modBar2 fun b =>
    { b with state := .openWrite, segAbort := 0, data := List.replicate b.segLength 0, openObject := b.segObject } := by
  unfold State.openWrite
  dsimp only
  rw [if_neg (Bool.eq_false_iff.mp hb), hc, if_neg (not_not_intro rfl)]
  rfl

theorem State.openWrite_refused (hc : s.openCheck s.bar2.ix s.bar2.sx (some s.bar2.segLength) = a) (ha : a ≠ 0) :
    s.openWrite = s.openFailed a := by
  unfold State.openWrite
  dsimp only
  rw [if_neg (Bool.eq_false_iff.mp hb), hc, if_pos ha]

end Open

theorem State.openRead_held (hb : s.bar2.busyOrOpen = true) : s.openRead = s.segAbort heldByOther := if_pos hb
theorem State.openWrite_held (hb : s.bar2.busyOrOpen = true) : s.openWrite = s.segAbort heldByOther := if_pos hb

/-- What an open asks of an object (R40, R429, R507). -/
theorem State.openCheck_admitted (hl : s.lookup i sub = .ok o) (ha : s.objAbsent i sub = false) (hconst : o.acc ≠ .const)
    (hro : o.acc ≠ .ro) (hn : lengthCheck o i sub n = 0) (hh : s.segmentHeld i sub = false)
    (hcert : i ≠ 0x5012 ∨ s.raw (key 0x5012 3) = [] ∨ s.authorised = true) : s.openCheck i sub (some n) = 0 := by
  have allowed : ¬ (i = 0x5012 ∧ ¬ (s.raw (key 0x5012 3)).isEmpty = true ∧ ¬ s.authorised = true) := by
    rintro ⟨hi, hraw, hauth⟩
    rcases hcert with h | h | h
    · exact h hi
    · exact hraw (h ▸ rfl)
    · exact hauth h
  unfold State.openCheck
  rw [hl]
  dsimp only
  rw [if_neg (Bool.eq_false_iff.mp ha), if_neg (not_or.mpr ⟨hconst, hro⟩), hn, if_neg (not_not_intro rfl), if_neg allowed,
    if_neg (Bool.eq_false_iff.mp hh)]

/-! ### The aperture -/

/-- The four bytes of a word go to their places in the transfer. -/
theorem State.apertureWrite_open (hs : s.bar2.state = .openWrite) : s.apertureWrite off v = s.modBar2 fun b => { b with
    data := (((b.data.set (s.bar2.segOffset + off) (BitVec.ofNat 8 v)).set (s.bar2.segOffset + off + 1) (BitVec.ofNat 8 (v / 256))).set
      (s.bar2.segOffset + off + 2) (BitVec.ofNat 8 (v / 65536))).set (s.bar2.segOffset + off + 3) (BitVec.ofNat 8 (v / 16777216)) } := by
  unfold State.apertureWrite
  rw [if_pos hs]
  simp [List.range_succ]

theorem State.windowReg_aperture (h1 : 0x100 ≤ off) (h2 : off < 0x200) (h4 : off % 4 = 0) :
    s.windowReg off v w = s.apertureWrite (off - 0x100) v := by
  unfold State.windowReg
  rw [if_neg (by omega), if_neg (by omega), if_neg (by omega), if_neg (by omega), if_pos ⟨h1, h2, h4⟩]

/-! ### Commit, close and offset -/

theorem State.commitSeg_open (hs : s.bar2.state = .openWrite) : s.commitSeg w =
    (s.modBar2 fun x => { x with state := .busy, result := none }).serve .seg (s.bar2.openObject % 65536) (s.bar2.openObject / 65536)
      s.bar2.data w := if_pos hs
theorem State.commitSeg_other (hs : s.bar2.state ≠ .openWrite) : s.commitSeg w = s.segAbort 0x05040001 := if_neg hs

theorem State.closeSeg_busy (hs : s.bar2.state = .busy) : s.closeSeg = s.segAbort heldByOther := if_pos hs
theorem State.closeSeg_other (hs : s.bar2.state ≠ .busy) :
    s.closeSeg = s.modBar2 fun b => { b with state := .idle, segAbort := 0, data := [] } := if_neg hs

theorem State.offsetWrite_aligned (hv : v % 4 = 0) : s.offsetWrite v = s.modBar2 fun b => { b with segOffset := v } := if_pos hv
theorem State.offsetWrite_unaligned (hv : v % 4 ≠ 0) : s.offsetWrite v = s.segAbort 0x06090030 := if_neg hv

/-! ### The segmented window -/

/-- Settles O20, register by register. -/
theorem segmentedWindow : Obligations.SegmentedWindow := by
  unfold Obligations.SegmentedWindow
  intro s w v off b i sub at_
  have at_window : ∀ {f : State → State} {t : State}, s.windowOn = true → f s = t → s.atWindow f = .next t :=
    fun hw hf => (State.atWindow_on hw).trans (congrArg _ hf)
  have commits : ∀ {t : State}, s.windowOn = true → s.commitSeg w = t → exec (.segCommitWrite w) s = .next t :=
    fun hw hf => at_window (f := fun s => s.commitSeg w) hw hf
  have offsets : ∀ {t : State}, s.windowOn = true → s.offsetWrite v = t → exec (.segOffsetWrite v) s = .next t :=
    fun hw hf => at_window (f := fun s => s.offsetWrite v) hw hf
  have registers : ∀ {off : Nat} {t : State}, s.windowOn = true → (off = 0 ∨ off = 8 ∨ 0x100 ≤ off) →
      s.windowReg off v World.plain = t → exec (.segWindowRegisterWrite off v) s = .next t :=
    fun hw ho hf => (State.atWindow_on hw).trans (congrArg _ ((if_pos ho).trans hf))
  refine ⟨?_, ?_, ?_, ?_, ?_, ?_, ?_, ?_, ?_, ?_, ?_, ?_, ?_, ?_, ?_, ?_, ?_⟩
  · exact fun hw hb o x hr => at_window hw (State.openRead_shown hb hr)
  · exact fun hw hb a hr => at_window hw (State.openRead_refused hb hr)
  · exact fun hw hb => ⟨at_window hw (State.openRead_held hb), at_window hw (State.openWrite_held hb)⟩
  · exact fun hw hb o hl ha hconst hro hn hh hcert =>
      at_window hw (State.openWrite_admitted hb (State.openCheck_admitted hl ha hconst hro hn hh hcert))
  · exact fun hw hb a hc ha => at_window hw (State.openWrite_refused hb hc ha)
  · exact fun hw hs => commits hw (State.commitSeg_open hs)
  · exact fun hw hs => commits hw (State.commitSeg_other hs)
  · intro a hs hr
    unfold b at hs hr
    rw [exec_segCommitDone, execSegCommitDone, hs, hr]
    rfl
  · exact fun hw hs => at_window hw (State.closeSeg_other hs)
  · exact fun hw hs => at_window hw (State.closeSeg_busy hs)
  · exact fun hw hv => offsets hw (State.offsetWrite_aligned hv)
  · exact fun hw hv => offsets hw (State.offsetWrite_unaligned hv)
  · exact fun hs => next_pos hs
  · exact fun hw => at_window (f := fun s => s.segAbort 0x05040001) hw rfl
  · exact fun hw => registers hw (.inl rfl) rfl
  · exact fun hw => registers hw (.inr (.inl rfl)) rfl
  · exact fun hw hs h1 h2 h4 => registers hw (.inr (.inr h1)) ((State.windowReg_aperture h1 h2 h4).trans (State.apertureWrite_open hs))

/-! ### WIN_ABORT (R54, R56) -/

/-- A direct read of index 0 is one of the window's own registers. -/
theorem execBar2DirectRead_register (hw : s.windowOn = true) : execBar2DirectRead 0 sub 4 s = .next (s.windowRead (4 * sub)) :=
  (State.atWindow_on hw).trans (congrArg _ ((if_neg (not_not_intro rfl)).trans (if_pos rfl)))

/-- Settles O21, from the registers of the window and the answer of a direct write. -/
theorem windowAbortRead : Obligations.WindowAbortRead := by
  unfold Obligations.WindowAbortRead
  intro s t i sub a
  refine ⟨State.atWindow_on (f := fun s => s.windowRead 0x18), execBar2DirectRead_register, execBar2DirectRead_register, ?pending, ?regs, fun ha => ?refused⟩
  case pending =>
    unfold State.reply
    dsimp only
    split <;> rfl
  case regs =>
    unfold State.reply
    dsimp only
    split <;> rfl
  case refused =>
    unfold State.reply
    dsimp only
    rw [if_neg ha]
    exact ⟨rfl, rfl⟩

end Sys2Proof.Machine
end

section
/-! Direct accesses of the window, Get Object and Set Object (R53, R57, R58): the value, the write, its pieces, and the refusals. -/

namespace Sys2Proof.Machine

variable {s : State} {o : Obj} {b data : List Byte} {a c cid i sub v off len : Nat} {w : World} {x : Ctx} {d : Door} {y : SetXfer}

/-! ### Direct reads (R53) -/

theorem ok_of_not_refused {α : Type} {p : Prop} [Decidable p] {y : Except Nat α} {z : α} (h : (if p then .error a else y) = .ok z) :
    y = .ok z := by
  split at h
  · cases h
  · exact h

/-- What can be read exists. -/
theorem State.lookup_of_readObject (hr : s.readObject d i sub = .ok (o, b)) : s.lookup i sub = .ok o := by
  unfold State.readObject at hr
  split at hr
  · cases hr
  · next p hp =>
    have same : p = o := by
      split at hr
      · exact congrArg Prod.fst (Except.ok.inj hr)
      · exact congrArg Prod.fst (Except.ok.inj (ok_of_not_refused (ok_of_not_refused (ok_of_not_refused hr))))
    exact same ▸ hp

theorem State.tooWide_of_lookup (hl : s.lookup i sub = .ok o) :
    s.tooWide i sub = (!s.objAbsent i sub && o.acc != .wo && !(o.ty.number && decide (o.ty.bytes ≤ 4))) := by
  rw [State.tooWide, hl]

theorem State.tooWide_number (hl : s.lookup i sub = .ok o) (hn : o.ty.number = true) (h4 : o.ty.bytes ≤ 4) : s.tooWide i sub = false := by
  simp [State.tooWide_of_lookup hl, hn, h4]

theorem State.tooWide_other (hl : s.lookup i sub = .ok o) (ha : s.objAbsent i sub = false) (hw : o.acc ≠ .wo)
    (hn : o.ty.number = false ∨ 4 < o.ty.bytes) : s.tooWide i sub = true := by
  rcases hn with hn | hn
  · simp [State.tooWide_of_lookup hl, ha, hw, hn]
  · simp [State.tooWide_of_lookup hl, ha, hw, Nat.not_le.mpr hn]

theorem State.directRead_number (hr : s.readObject .bar2 i sub = .ok (o, b)) (ha : s.objAbsent i sub = false) (hn : o.ty.number = true)
    (h4 : o.ty.bytes ≤ 4) : s.directRead i sub = s.emit (.word (wordOf o.ty b)) := by
  unfold State.directRead
  rw [State.tooWide_number (State.lookup_of_readObject hr) hn h4, if_neg Bool.false_ne_true, hr]
  dsimp only
  rw [ha, if_neg Bool.false_ne_true]

theorem State.directRead_tooWide (ht : s.tooWide i sub = true) : s.directRead i sub = (s.windowRefuse i sub 0x06070010).emit (.word 0) :=
  if_pos ht

theorem State.directRead_refused (ht : s.tooWide i sub = false) (hr : s.readObject .bar2 i sub = .error a) :
    s.directRead i sub = (s.windowRefuse i sub a).emit (.word 0) := by
  unfold State.directRead
  rw [ht, if_neg Bool.false_ne_true, hr]

section Window
variable (hw : s.windowOn = true) (hi : i ≠ 0)
include hw hi

theorem execBar2DirectRead_word : execBar2DirectRead i sub 4 s = .next (s.directRead i sub) :=
  (State.atWindow_on hw).trans (congrArg _ ((if_neg (not_not_intro rfl)).trans (if_neg hi)))

theorem execBar2DirectWrite_word : execBar2DirectWrite i sub 4 v w s = .next (s.windowWrite i sub v w) :=
  (State.atWindow_on hw).trans (congrArg _ ((if_neg (not_not_intro rfl)).trans (if_neg hi)))

end Window

theorem execBar2DirectWrite_width (hw : s.windowOn = true) (hlen : len ≠ 4) (ha : s.widthAbort i sub true = a) :
    execBar2DirectWrite i sub len v w s = .next (s.windowRefuse i sub a) := by
  subst ha
  exact (State.atWindow_on hw).trans (congrArg _ (if_pos hlen))

theorem execBar2DirectRead_width (hw : s.windowOn = true) (hlen : len ≠ 4) (ha : s.widthAbort i sub false = a) :
    execBar2DirectRead i sub len s = .next ((s.windowRefuse i sub a).emit (.word 0)) := by
  subst ha
  exact (State.atWindow_on hw).trans (congrArg _ (if_pos hlen))

/-- A direct write counts as pending, and is served or refused. -/
theorem State.windowWrite_served {t : State} (ht : (s.modBar2 fun b => { b with winPending := min (b.winPending + 1) 65535 }) = t)
    (hb : t.windowBytes i sub v = .ok b) : s.windowWrite i sub v w = t.serve .bar2 i sub b w := by
  rw [State.windowWrite, ht, hb]

theorem State.windowWrite_refused {t : State} (ht : (s.modBar2 fun b => { b with winPending := min (b.winPending + 1) 65535 }) = t)
    (ha : t.windowBytes i sub v = .error a) : s.windowWrite i sub v w = t.reply .bar2 i sub a 0 [] := by
  rw [State.windowWrite, ht, ha]

section Width
variable (hi : i ≠ 0) (hl : s.lookup i sub = .ok o) (ha : s.objAbsent i sub = false)
include hi hl ha

/-- Another width than 32 bits is refused as no access of the object (R53). -/
theorem State.widthAbort_write (hconst : o.acc ≠ .const) (hro : o.acc ≠ .ro) : s.widthAbort i sub true = 0x06010000 := by
  unfold State.widthAbort
  rw [if_neg hi, hl]
  dsimp only
  rw [if_pos rfl, ha, if_neg Bool.false_ne_true, if_neg (not_or.mpr ⟨hconst, hro⟩)]

omit ha in
theorem State.widthAbort_read (hwo : o.acc ≠ .wo) : s.widthAbort i sub false = 0x06010000 := by
  unfold State.widthAbort
  rw [if_neg hi, hl]
  dsimp only
  rw [if_neg Bool.false_ne_true, if_neg fun h => hwo h.1]

end Width

/-! ### Get Object (R57) -/

theorem pieceCheck_ok (h1 : 1 ≤ len) (h2 : len ≤ 65536) (hoff : o.ty.number = false ∨ off = 0) : pieceCheck o off len = 0 := by
  have place : ¬ (o.ty.number = true ∧ off ≠ 0) := by
    rintro ⟨hn, h0⟩
    rcases hoff with h | h
    · exact Bool.false_ne_true (h.symm.trans hn)
    · exact h0 h
  rw [pieceCheck, if_neg (by omega), if_neg (by omega), if_neg place]

section Turn
variable (ht : s.turn c cid = some x) (hq : x.sq = 0)
include ht hq

/-- An admin command whose turn has come runs. -/
theorem State.adminCmd_next (f : State → Ctx → State) : s.adminCmd c cid f = .next (f s x) := by
  rw [State.adminCmd, ht]
  exact next_pos hq

/-- A Get Object that passes the checks of LENGTH and OFFSET answers what the read answers. -/
theorem execGetObject_checked (hp : ∀ o, s.lookup i sub = .ok o → (o.acc = .wo ∧ ¬ s.objAbsent i sub = true) ∨ pieceCheck o off len = 0) :
    execGetObject c cid i sub off len s = .next (match s.readObject (.nvme c cid) i sub with
      | .error a => s.complete x.seq (objectRefused a)
      | .ok (_, b) => (if ((b.drop off).take len).isEmpty then s else s.emit (.bytes c 0 cid ((b.drop off).take len))).complete x.seq
          (cplOk b.length 0)) := by
  refine (State.adminCmd_next ht hq _).trans (congrArg _ (if_neg (not_not_intro ?_)))
  split
  · rfl
  · next o ho =>
    split
    · rfl
    · next hn => exact (hp o ho).resolve_left hn

theorem execGetObject_refused (hr : s.readObject (.nvme c cid) i sub = .error a)
    (hp : ∀ o, s.lookup i sub = .ok o → (o.acc = .wo ∧ ¬ s.objAbsent i sub = true) ∨ pieceCheck o off len = 0) :
    execGetObject c cid i sub off len s = .next (s.complete x.seq (objectRefused a)) := by
  rw [execGetObject_checked ht hq hp, hr]

theorem execGetObject_piece (hl : s.lookup i sub = .ok o) (hwo : o.acc ≠ .wo) (hp : pieceCheck o off len = a) (ha : a ≠ 0) :
    execGetObject c cid i sub off len s = .next (s.complete x.seq (objectRefused a)) := by
  refine (State.adminCmd_next ht hq _).trans (congrArg _ ?_)
  rw [hl]
  dsimp only
  rw [if_neg (c := o.acc = .wo ∧ _) fun h => hwo h.1, hp, if_pos ha]

section Read
variable (hr : s.readObject (.nvme c cid) i sub = .ok (o, b)) (h1 : 1 ≤ len) (h2 : len ≤ 65536)
include hr h1 h2

theorem execGetObject_read (hoff : o.ty.number = false ∨ off = 0) : execGetObject c cid i sub off len s =
    .next ((if ((b.drop off).take len).isEmpty then s else s.emit (.bytes c 0 cid ((b.drop off).take len))).complete x.seq
      (cplOk b.length 0)) := by
  have checked : ∀ p, s.lookup i sub = .ok p → (p.acc = .wo ∧ ¬ s.objAbsent i sub = true) ∨ pieceCheck p off len = 0 := by
    intro p hp
    have same : p = o := Except.ok.inj (hp.symm.trans (State.lookup_of_readObject hr))
    exact .inr (pieceCheck_ok h1 h2 (same ▸ hoff))
  rw [execGetObject_checked ht hq checked, hr]

theorem execGetObject_within (hoff : o.ty.number = false ∨ off = 0) (hb : off < b.length) : execGetObject c cid i sub off len s =
    .next ((s.emit (.bytes c 0 cid ((b.drop off).take len))).complete x.seq (cplOk b.length 0)) := by
  have moved : ((b.drop off).take len).isEmpty ≠ true := by
    rw [List.isEmpty_iff_length_eq_zero.ne, List.length_take, List.length_drop]
    omega
  rw [execGetObject_read ht hq hr h1 h2 hoff, if_neg moved]

theorem execGetObject_beyond (hn : o.ty.number = false) (hb : b.length ≤ off) : execGetObject c cid i sub off len s =
    .next (s.complete x.seq (cplOk b.length 0)) := by
  have nothing : ((b.drop off).take len).isEmpty = true := by
    rw [List.drop_eq_nil_of_le hb, List.take_nil]
    rfl
  rw [execGetObject_read ht hq hr h1 h2 (.inl hn), if_pos nothing]

end Read

/-! ### Set Object (R57, R58) -/

theorem execSetObject_unknown (hl : s.lookup i sub = .error a) :
    execSetObject c cid i sub off data w s = .next (s.complete x.seq (objectRefused a)) := by
  refine (State.adminCmd_next ht hq _).trans (congrArg _ ?_)
  rw [hl]

/-- A Set Object of an object that exists, check by check. -/
theorem execSetObject_known (hl : s.lookup i sub = .ok o) : execSetObject c cid i sub off data w s = .next (
    if s.objAbsent i sub then s.complete x.seq (objectRefused 0x08000030)
    else if o.acc = .const ∨ o.acc = .ro then s.complete x.seq (objectRefused 0x06010002)
    else if pieceCheck o off data.length ≠ 0 then s.complete x.seq (objectRefused (pieceCheck o off data.length))
    else if o.ty.number ∨ (off = 0 ∧ (anyLength i sub ∨ o.ty.bytes ≤ data.length)) then
      (s.modCtx x.seq fun y => { y with op := .dictionary }).serve (.nvme c cid) i sub data w
    else if anyLength i sub then s.setMore x i sub off data w
    else s.setPiece x i sub off o.ty.bytes data w) := by
  refine (State.adminCmd_next ht hq _).trans (congrArg _ ?_)
  rw [hl]

section Open
variable (hl : s.lookup i sub = .ok o) (ha : s.objAbsent i sub = false) (hconst : o.acc ≠ .const) (hro : o.acc ≠ .ro)
include hl ha hconst hro

theorem execSetObject_open : execSetObject c cid i sub off data w s = .next (
    if pieceCheck o off data.length ≠ 0 then s.complete x.seq (objectRefused (pieceCheck o off data.length))
    else if o.ty.number ∨ (off = 0 ∧ (anyLength i sub ∨ o.ty.bytes ≤ data.length)) then
      (s.modCtx x.seq fun y => { y with op := .dictionary }).serve (.nvme c cid) i sub data w
    else if anyLength i sub then s.setMore x i sub off data w
    else s.setPiece x i sub off o.ty.bytes data w) := by
  rw [execSetObject_known ht hq hl, if_neg (Bool.eq_false_iff.mp ha), if_neg (not_or.mpr ⟨hconst, hro⟩)]

theorem execSetObject_length (hp : pieceCheck o off data.length = a) (h0 : a ≠ 0) :
    execSetObject c cid i sub off data w s = .next (s.complete x.seq (objectRefused a)) := by
  rw [execSetObject_open ht hq hl ha hconst hro, hp, if_pos h0]

variable (h1 : 1 ≤ data.length) (h2 : data.length ≤ 65536)
include h1 h2

/-- A number, an object of any length, or one that comes whole, is served. -/
theorem execSetObject_whole (hw : o.ty.number = true ∨ anyLength i sub = true ∨ o.ty.bytes ≤ data.length) :
    execSetObject c cid i sub 0 data w s
      = .next ((s.modCtx x.seq fun y => { y with op := .dictionary }).serve (.nvme c cid) i sub data w) := by
  rw [execSetObject_open ht hq hl ha hconst hro, pieceCheck_ok h1 h2 (.inr rfl), if_neg (not_not_intro rfl),
    if_pos (hw.imp_right fun h => ⟨rfl, h⟩)]

theorem execSetObject_part (hn : o.ty.number = false) (hpart : off ≠ 0 ∨ ¬ (anyLength i sub = true ∨ o.ty.bytes ≤ data.length)) :
    execSetObject c cid i sub off data w s = .next (
      if anyLength i sub then s.setMore x i sub off data w else s.setPiece x i sub off o.ty.bytes data w) := by
  have part : ¬ (o.ty.number = true ∨ (off = 0 ∧ (anyLength i sub = true ∨ o.ty.bytes ≤ data.length))) := by
    rintro (h | ⟨h, h'⟩)
    · exact Bool.false_ne_true (hn.symm.trans h)
    · exact hpart.elim (· h) (· h')
  rw [execSetObject_open ht hq hl ha hconst hro, pieceCheck_ok h1 h2 (.inl hn), if_neg (not_not_intro rfl), if_neg part]

/-- A piece of an object of a fixed length. -/
theorem execSetObject_pieces (hn : o.ty.number = false) (hany : anyLength i sub = false) (hpart : off ≠ 0 ∨ data.length < o.ty.bytes) :
    execSetObject c cid i sub off data w s = .next (s.setPiece x i sub off o.ty.bytes data w) := by
  refine (execSetObject_part ht hq hl ha hconst hro h1 h2 hn (hpart.imp_right fun h => ?_)).trans (next_false hany)
  rintro (h' | h')
  · exact Bool.false_ne_true (hany.symm.trans h')
  · omega

/-- A further piece of an object of any length. -/
theorem execSetObject_more (hn : o.ty.number = false) (hany : anyLength i sub = true) (hoff : off ≠ 0) :
    execSetObject c cid i sub off data w s = .next (s.setMore x i sub off data w) :=
  (execSetObject_part ht hq hl ha hconst hro h1 h2 hn (.inl hoff)).trans (next_pos hany)

end Open

end Turn

/-! ### Pieces (R57) -/

/-- The transfer in pieces of an object that is open, if there is one. -/
abbrev State.pieceOpen (s : State) (i sub : Nat) : Option SetXfer := s.nvme.objects.find? fun y => y.idx == i && y.sub == sub

theorem State.setPiece_held {n : Nat} (hh : s.segmentHeld i sub = true) :
    s.setPiece x i sub 0 n data w = s.complete x.seq (objectRefused heldByOther) := if_pos ⟨rfl, hh⟩

theorem State.setPiece_first {n : Nat} (hh : s.segmentHeld i sub = false) (hy : s.pieceOpen i sub = none) (hn : data.length < n) :
    s.setPiece x i sub 0 n data w = (s.modNvme fun v => { v with objects :=
      (v.objects.filter fun y => !(y.idx == i && y.sub == sub)) ++ [⟨x.ctrl, i, sub, data⟩] }).complete x.seq (cplOk n 0) := by
  unfold State.setPiece
  rw [State.pieceOpen] at hy
  rw [hy]
  dsimp only
  rw [if_neg fun h => Bool.false_ne_true (hh.symm.trans h.2), if_neg (by decide), List.nil_append, if_neg (by omega), if_neg (by omega)]
  rfl

/-- A piece out of sequence: none is open, another controller's, or it does not go on where the last one ended. -/
theorem State.setPiece_outOfSequence {n : Nat} (hoff : off ≠ 0)
    (hy : ∀ y, s.pieceOpen i sub = some y → y.ctrl ≠ x.ctrl ∨ y.got.length ≠ off) :
    s.setPiece x i sub off n data w = s.complete x.seq (objectRefused 0x08000000) := by
  unfold State.setPiece
  dsimp only
  rw [if_neg fun h => hoff h.1]
  refine if_pos ?_
  cases hp : s.nvme.objects.find? fun y => y.idx == i && y.sub == sub with
  | none => simp [hoff]
  | some y => rcases hy y hp with h | h <;> simp [hoff, h]

/-- A piece that goes on where the last one ended. -/
theorem State.setPiece_next {n : Nat} (hoff : off ≠ 0) (hy : s.pieceOpen i sub = some y) (hc : y.ctrl = x.ctrl) (hg : y.got.length = off) :
    s.setPiece x i sub off n data w =
      if n < (y.got ++ data).length then s.complete x.seq (objectRefused 0x06070012)
      else if (y.got ++ data).length = n then
        ((s.modNvme fun v => { v with objects := v.objects.filter fun y => !(y.idx == i && y.sub == sub) }).modCtx x.seq fun y =>
          { y with op := .dictionary }).serve (.nvme x.ctrl x.cid) i sub (y.got ++ data) w
      else ((s.modNvme fun v => { v with objects := v.objects.filter fun y => !(y.idx == i && y.sub == sub) }).modNvme fun v =>
        { v with objects := v.objects ++ [⟨x.ctrl, i, sub, y.got ++ data⟩] }).complete x.seq (cplOk n 0) := by
  rw [State.pieceOpen] at hy
  unfold State.setPiece
  rw [hy]
  dsimp only
  rw [if_neg fun h => hoff h.1]
  exact if_neg (by simp [hc, hg])

theorem State.setMore_next (hr : (s.raw (key i sub)).length = off) : s.setMore x i sub off data w =
    (s.modCtx x.seq fun y => { y with op := .dictionary }).serve (.nvme x.ctrl x.cid) i sub (s.raw (key i sub) ++ data) w :=
  if_neg (not_not_intro hr)

theorem State.setMore_outOfSequence (hr : (s.raw (key i sub)).length ≠ off) :
    s.setMore x i sub off data w = s.complete x.seq (objectRefused 0x08000000) := if_pos hr

/-! ### The obligations -/

/-- Settles O22, access by access. -/
theorem objectAccesses : Obligations.ObjectAccesses := by
  unfold Obligations.ObjectAccesses
  intro s c cid i sub v off len w counted mine
  refine ⟨?_, ?_, ?_, ?_, ?_, ?_, ?_, ?_, ?_, ?_, ?_, ?_⟩
  · exact fun hw hi o b hr ha hn h4 => (execBar2DirectRead_word hw hi).trans (congrArg _ (State.directRead_number hr ha hn h4))
  · exact fun hw hi o hl ha hwo hn => (execBar2DirectRead_word hw hi).trans
      (congrArg _ (State.directRead_tooWide (State.tooWide_other hl ha hwo hn)))
  · exact fun hw hi a ht hr => (execBar2DirectRead_word hw hi).trans (congrArg _ (State.directRead_refused ht hr))
  · exact fun hw hi b hb => (execBar2DirectWrite_word hw hi).trans (congrArg _ (State.windowWrite_served rfl hb))
  · exact fun hw hi a ha => (execBar2DirectWrite_word hw hi).trans (congrArg _ (State.windowWrite_refused rfl ha))
  · exact fun hw hi hlen o hl ha => ⟨fun hconst hro => execBar2DirectWrite_width hw hlen (State.widthAbort_write hi hl ha hconst hro),
      fun hwo => execBar2DirectRead_width hw hlen (State.widthAbort_read hi hl hwo)⟩
  · exact fun x o b ht hq h1 h2 hr hoff hb => execGetObject_within ht hq hr h1 h2 hoff hb
  · exact fun x o b ht hq h1 h2 hr hn hb => execGetObject_beyond ht hq hr h1 h2 hn hb
  · rintro x o data ⟨ht, hq, h1, h2, hl, ha, hconst, hro⟩ hw
    exact execSetObject_whole ht hq hl ha hconst hro h1 h2 hw
  · rintro x o data ⟨ht, hq, h1, h2, hl, ha, hconst, hro⟩ hn hany hlen hh hy
    exact (execSetObject_pieces ht hq hl ha hconst hro h1 h2 hn hany (.inr hlen)).trans (congrArg _ (State.setPiece_first hh hy hlen))
  · rintro x o data y ⟨ht, hq, h1, h2, hl, ha, hconst, hro⟩ hn hany hoff hy hc hg hlen
    refine (execSetObject_pieces ht hq hl ha hconst hro h1 h2 hn hany (.inl hoff)).trans (congrArg _ ?_)
    have whole : (y.got ++ data).length = o.ty.bytes := by rw [List.length_append, hg, hlen]
    rw [State.setPiece_next hoff hy hc hg, if_neg (by omega), if_pos whole]
  · rintro x o data ⟨ht, hq, h1, h2, hl, ha, hconst, hro⟩ hn hany hoff hr
    exact (execSetObject_more ht hq hl ha hconst hro h1 h2 hn hany hoff).trans (congrArg _ (State.setMore_next hr))

/-- Do Not Retry is clear of the three codes that a later attempt may not meet (R58). -/
theorem objectRefused_final (a : Nat) :
    objectRefused a = ⟨.code 1 0xC0, !(a == 0x08000021 || a == 0x08000022 || a == 0x05040005), a, 0⟩ := by
  simp only [objectRefused, abortFinal, bne, Bool.not_or]

/-- An object that is absent in the variant reads 0, whatever its class (R507). -/
theorem State.present_of_refused_read (hl : s.lookup i sub = .ok o) (hr : s.readObject d i sub = .error a) : ¬ s.objAbsent i sub = true := by
  intro ha
  unfold State.readObject at hr
  rw [hl] at hr
  dsimp only at hr
  rw [if_pos ha] at hr
  cases hr

theorem State.reply_nvme_refused (hx : s.adminCtx c cid = some x) (ha : a ≠ 0) :
    s.reply (.nvme c cid) i sub a len data = s.complete x.seq (objectRefused a) := by
  unfold State.reply
  dsimp only
  rw [hx]
  exact if_neg ha

/-- A completion changes contexts and outputs alone. -/
theorem State.complete_frame (q : Nat) (r : Cpl) : { s.complete q r with nvme := s.nvme, out := s.out } = s := by
  unfold State.complete
  split
  · rfl
  · dsimp only
    split <;> rfl

/-- Settles O23, refusal by refusal. -/
theorem refusedObjectCommands : Obligations.RefusedObjectCommands := by
  unfold Obligations.RefusedObjectCommands
  intro s c cid i sub off len a data w x o refused v mine open_ piece
  have refuses : ∀ {u : State} {r : Res} {a : Nat}, r = .next (u.complete x.seq (objectRefused a)) → r = .next (refused u a) :=
    fun h => h.trans (congrArg _ (congrArg _ (objectRefused_final _)))
  refine ⟨?_, ?_, ?_, ?_, ?_, ?_, ?_, ?_, ?_, ?_, ?_, ?_, ?_⟩
  · intro ht hq h1 h2 hp hr
    refine refuses (execGetObject_refused ht hq hr fun o hl => ?_)
    exact (hp o hl).imp_left fun hwo => ⟨hwo, State.present_of_refused_read hl hr⟩
  · exact fun ⟨ht, hq, _⟩ hl => refuses (execSetObject_unknown ht hq hl)
  · exact fun ht hq hl hwo hp ha => refuses (execGetObject_piece ht hq hl hwo hp ha)
  · exact fun ht hq ⟨hl, ha, hconst, hro⟩ hp h0 => refuses (execSetObject_length ht hq hl ha hconst hro hp h0)
  · exact fun ⟨ht, hq, _⟩ hl ha => refuses ((execSetObject_known ht hq hl).trans (next_pos ha))
  · exact fun ⟨ht, hq, _⟩ hl ha hacc => refuses ((execSetObject_known ht hq hl).trans ((next_false ha).trans (next_pos hacc)))
  · exact fun ⟨ht, hq, h1, h2⟩ ⟨hl, ha, hconst, hro⟩ hn hany hlen hh => refuses
      ((execSetObject_pieces ht hq hl ha hconst hro h1 h2 hn hany (.inr hlen)).trans (congrArg _ (State.setPiece_held hh)))
  · exact fun ⟨ht, hq, h1, h2⟩ ⟨hl, ha, hconst, hro⟩ hn hany hoff hy => refuses
      ((execSetObject_pieces ht hq hl ha hconst hro h1 h2 hn hany (.inl hoff)).trans (congrArg _ (State.setPiece_outOfSequence hoff hy)))
  · exact fun ⟨ht, hq, h1, h2⟩ ⟨hl, ha, hconst, hro⟩ hn hany hoff hr => refuses
      ((execSetObject_more ht hq hl ha hconst hro h1 h2 hn hany hoff).trans (congrArg _ (State.setMore_outOfSequence hr)))
  · rintro y ⟨ht, hq, h1, h2⟩ ⟨hl, ha, hconst, hro⟩ hn hany hoff hy hc hg hlen
    have beyond : o.ty.bytes < (y.got ++ data).length := by rw [List.length_append, hg]; exact hlen
    exact refuses ((execSetObject_pieces ht hq hl ha hconst hro h1 h2 hn hany (.inl hoff)).trans
      (congrArg _ ((State.setPiece_next hoff hy hc hg).trans (if_pos beyond))))
  · exact fun ⟨ht, hq, h1, h2⟩ ⟨hl, ha, hconst, hro⟩ hw htake =>
      (execSetObject_whole ht hq hl ha hconst hro h1 h2 hw).trans (congrArg _ (State.serve_refused htake))
  · exact fun hx ha => (State.reply_nvme_refused hx ha).trans (congrArg _ (objectRefused_final a))
  · have frame : { refused s a with nvme := s.nvme, out := s.out } = s := State.complete_frame x.seq _
    have regs := congrArg State.regs frame
    have raws := congrArg State.raws frame
    have stns := congrArg State.stns frame
    have heads := congrArg State.heads frame
    have loops := congrArg State.loops frame
    have seqs := congrArg State.seqs frame
    have nor := congrArg State.nor frame
    have ledger := congrArg State.ledger frame
    exact ⟨regs, raws, stns, heads, loops, seqs, nor, ledger⟩

end Sys2Proof.Machine
end

section
/-! NVMe controllers (R26, R323 to R327, R338): fetching, CC.EN, Connect, Disconnect, keep-alive and normal shutdown. -/

namespace Sys2Proof.Machine

variable {s : State} {c sq cid q : Nat} {k : Ctrl}

/-- The queue pairs in use, object 0x4100:16. -/
abbrev pairsKey : Nat := key 0x4100 0x16

/-! ### Fetching (R26) -/

/-- A fetch takes one context more. -/
theorem State.contextsUsed_fetch (x : Ctx) (n : Nat) :
    (s.modNvme fun v => { v with seq := n, ctxs := v.ctxs ++ [x] }).contextsUsed = s.contextsUsed + 1 := by
  simp only [State.contextsUsed, State.modNvme, List.length_append, List.length_singleton]
  omega

theorem State.fetch_effect : ∃ t, s.fetch c sq cid = t
    ∧ t.nvme = { s.nvme with seq := s.nvme.seq + 1, ctxs := s.nvme.ctxs ++ [⟨s.nvme.seq, c, sq, cid, .fetched, false⟩] }
    ∧ t.reg (nvKey 4) = max (s.reg (nvKey 4)) (s.contextsUsed + 1) ∧ { t with nvme := s.nvme, regs := s.regs } = s := by
  refine ⟨_, rfl, rfl, ?_, rfl⟩
  unfold State.fetch
  dsimp only
  rw [State.reg_setReg_same, State.contextsUsed_fetch]
  rfl

/-! ### Connect (R323) -/

/-- One queue pair more counts, below the limit of the counter. -/
theorem State.reg_addPair (h : s.reg pairsKey < 4096) : (s.addReg 16 pairsKey 1).reg pairsKey = s.reg pairsKey + 1 := by
  rw [State.addReg, State.reg_setReg_same]
  omega

/-- A Connect that fails: Connect Invalid Parameters. -/
abbrev State.connectFailed (s : State) (c : Nat) : State := s.emit (.completion c 0 0 (cplFail .connectInvalid true))

theorem execConnect_admin_new (hk : s.ctrl c = none) : execConnect c .admin s = .next (
    if c = 0 ∨ s.reg (key 0x4100 0x15) ≤ s.fabricCtrls ∨ 4096 ≤ s.reg pairsKey then s.connectFailed c
    else ((s.modNvme fun n => { n with ctrls := n.ctrls ++ [freshCtrl c] }).addReg 16 pairsKey 1).emit
      (.completion c 0 0 (cplOk c 0))) := by
  unfold execConnect
  rw [hk]

theorem execConnect_admin_known (hk : s.ctrl c = some k) : execConnect c .admin s = .next (s.connectFailed c) := by
  unfold execConnect
  rw [hk]

theorem execConnect_io_none (hk : s.ctrl c = none) : execConnect c (.io q) s = .next (s.connectFailed c) := by
  unfold execConnect
  rw [hk]

theorem execConnect_io (hk : s.ctrl c = some k) : execConnect c (.io q) s = .next (
    if c = 0 ∨ (!k.en) = true ∨ q = 0 ∨ (k.sqs.any (·.1 == q)) = true ∨ k.granted < q ∨ 4096 ≤ s.reg pairsKey then s.connectFailed c
    else ((s.modCtrl c fun k => { k with sqs := k.sqs ++ [(q, q)], cqs := k.cqs ++ [q] }).addReg 16 pairsKey 1).emit
      (.completion c q 0 (cplOk c 0))) := by
  unfold execConnect
  rw [hk]

theorem execConnect_admin_fails (h : c = 0 ∨ s.ctrl c = some k ∨ s.reg (key 0x4100 0x15) ≤ s.fabricCtrls ∨ 4096 ≤ s.reg pairsKey) :
    execConnect c .admin s = .next (s.connectFailed c) := by
  cases hk : s.ctrl c with
  | some x => exact execConnect_admin_known hk
  | none =>
    refine (execConnect_admin_new hk).trans (next_pos ?_)
    rcases h with h | h | h
    · exact .inl h
    · rw [hk] at h
      cases h
    · exact .inr h

theorem execConnect_io_fails (h : c = 0 ∨ s.ctrl c = none
    ∨ (s.ctrl c = some k ∧ (k.en = false ∨ q = 0 ∨ k.granted < q ∨ (∃ p ∈ k.sqs, p.1 = q))) ∨ 4096 ≤ s.reg pairsKey) :
    execConnect c (.io q) s = .next (s.connectFailed c) := by
  cases hk : s.ctrl c with
  | none => exact execConnect_io_none hk
  | some x =>
    refine (execConnect_io hk).trans (next_pos ?_)
    rcases h with h | h | ⟨hx, h⟩ | h
    · exact .inl h
    · rw [hk] at h
      cases h
    · obtain rfl : x = k := Option.some.inj (hk.symm.trans hx)
      rcases h with h | h | h | h
      · exact .inr (.inl (by rw [h]; rfl))
      · exact .inr (.inr (.inl h))
      · exact .inr (.inr (.inr (.inr (.inl h))))
      · exact .inr (.inr (.inr (.inl (any_fst_iff.mpr h))))
    · exact .inr (.inr (.inr (.inr (.inr h))))

/-! ### Shutdown (R325) -/

theorem State.shutdown_running (hk : s.ctrl c = some k) (he : k.en = true) (hs : k.shst = 0) : s.shutdown c =
    ((((s.modCtrl c fun k => { k with fetching := false, shst := 1 }).setReg (nvKey 0x0F) 4).modNvme fun n =>
      { n with seq := n.seq + 1, ctxs := n.ctxs ++ [⟨n.seq, c, 0, 0, .shutdown (n.namespaces.map (·.nsid)) n.seq, true⟩] }).spreadFlush
        (s.nvme.namespaces.map (·.nsid)) none).serveShutdown s.nvme.seq := by
  unfold State.shutdown
  rw [hk]
  dsimp only
  rw [he, hs]
  rfl

/-- Settles O24, command by command. -/
theorem nvmeControllers : Obligations.NvmeControllers := by
  unfold Obligations.NvmeControllers
  intro s c sq cid q k pairs
  refine ⟨?fetches, ?enables, ?admin, ?io, execConnect_admin_fails, execConnect_io_fails, ?disconnect, ?shutdown⟩
  case fetches =>
    intro hf
    obtain ⟨t, ht, effect⟩ := State.fetch_effect (s := s) (c := c) (sq := sq) (cid := cid)
    exact ⟨t, (next_pos hf).trans (congrArg _ ht), effect⟩
  case enables =>
    intro hk he
    rw [exec_ccEnSet, execCcEnSet, hk]
    exact next_false he
  case admin =>
    intro hc hk hf hp
    refine ⟨_, (execConnect_admin_new hk).trans (next_neg ?_), rfl, State.reg_addPair hp, rfl, rfl⟩
    exact not_or.mpr ⟨hc, not_or.mpr ⟨Nat.not_le.mpr hf, Nat.not_le.mpr hp⟩⟩
  case io =>
    intro hc hk he hq hg hn hp
    refine ⟨_, (execConnect_io hk).trans (next_neg ?_), rfl, State.reg_addPair hp, rfl, rfl⟩
    rintro (h | h | h | h | h | h)
    · exact hc h
    · rw [he] at h
      cases h
    · omega
    · exact not_any_fst hn h
    · omega
    · exact Nat.not_le.mpr hp h
  case disconnect =>
    refine fun hc hk => ⟨rfl, fun hf => ?_⟩
    rw [exec_keepAliveExpiry, execKeepAliveExpiry, hk]
    exact next_neg hf
  case shutdown => exact fun hk he hs => congrArg _ (State.shutdown_running hk he hs)

end Sys2Proof.Machine
end

section
/-! The lasers go dark (R21, R97, R118, R142, R175): what is dark stays dark through everything else that an interlock or a power-fail
does. -/

namespace Sys2Proof.Machine

variable {s t u : State}

/-! ### What calms down and stays so -/

/-- The registers that show a head's substate or the state of a laser-power loop. -/
def lampKey (k : Nat) : Bool :=
  decide (0x3000 ≤ k / 256 ∧ k / 256 < 0x3800 ∧ (k / 256 % 256 = 0 ∧ (k % 256 = 3 ∨ k % 256 = 4)
    ∨ (k / 256 % 256 = 0x40 ∨ k / 256 % 256 = 0x80) ∧ 5 ≤ k % 256 ∧ k % 256 ≤ 12))

/-- From `s` to `t` no pin and no power-fail latch changed, no laser came on, no head left LASER_OFF and no station asked for a ring grant. -/
structure State.Calms (s t : State) : Prop where
  pins : t.pins = s.pins
  part : t.part = s.part
  latch : (t.power.latched, t.power.after) = (s.power.latched, s.power.after)
  head : ∀ h < 16, s.substate h = hsOff → t.substate h = hsOff
  laser : ∀ h < 16, ∀ b < 8, s.loopState h (4 + b) = lsOff → t.loopState h (4 + b) = lsOff
  asks : ∀ i, (s.stn i).asked = false → (t.stn i).asked = false

theorem lampKey_stKey {i off sub : Nat} (ho : off < 256) (hs : sub < 256)
    (h : ¬ (off = 0 ∧ (sub = 3 ∨ sub = 4) ∨ (off = 0x40 ∨ off = 0x80) ∧ 5 ≤ sub ∧ sub ≤ 12)) : lampKey (stKey i off sub) = false := by
  refine decide_eq_false ?_
  simp only [stKey, key, stIx]
  omega

theorem lampKey_hdKey {h off sub : Nat} (ho : off < 64) (h0 : off ≠ 0) (hs : sub < 256) : lampKey (hdKey h off sub) = false :=
  lampKey_stKey (by omega) hs (by omega)

theorem lampKey_hdStKey {h : Nat} (hh : h < 16) : lampKey (hdStKey h) = true := by
  refine decide_eq_true ?_
  simp only [hdStKey, stKey, key, stIx]
  omega

theorem lampKey_laser {h b : Nat} (hh : h < 16) (hb : b < 8) : lampKey (loopKey h (4 + b) 0) = true := by
  refine decide_eq_true ?_
  simp only [loopKey, engKey, engIx, hh, if_true, hdIx, key, stIx]
  omega

/-- No column of a loop but STATE shows a laser. -/
theorem lampKey_column {e l n : Nat} (hl : l < 12) (hn : n < 8) (h : l < 4 ∨ n ≠ 0) : lampKey (loopKey e l n) = false := by
  unfold loopKey engKey engIx loopCount
  split
  · exact lampKey_stKey (i := e / 2) (by omega) (by omega) (by omega)
  · exact lampKey_stKey (i := e - 16) (by omega) (by omega) (by omega)

theorem lampKey_wrKey {h sub : Nat} (hs : sub < 256) : lampKey (wrKey h sub) = false := lampKey_stKey (by omega) hs (by omega)

theorem loopKey_ne_hdStKey {h b a : Nat} (hh : h < 16) (hb : b < 8) : loopKey h (4 + b) 0 ≠ hdStKey a := by
  simp only [loopKey, engKey, engIx, hh, if_true, hdStKey, stKey, hdIx, key, stIx]
  omega

namespace State.Calms

theorem refl (s : State) : s.Calms s := ⟨rfl, rfl, rfl, fun _ _ h => h, fun _ _ _ _ h => h, fun _ h => h⟩

theorem trans (h : s.Calms t) (k : t.Calms u) : s.Calms u where
  pins := k.pins.trans h.pins
  part := k.part.trans h.part
  latch := k.latch.trans h.latch
  head a ha hs := k.head a ha (h.head a ha hs)
  laser a ha b hb hs := k.laser a ha b hb (h.laser a ha b hb hs)
  asks i hs := k.asks i (h.asks i hs)

theorem stations (h : s.Calms t) (hp : s.part.stations ≤ 8) : t.part.stations ≤ 8 := by
  rw [h.part]
  exact hp

/-- A change of anything but the pins, the registers and the stations' records. -/
theorem frame (h : s.Calms t) (hp : u.pins = t.pins) (hq : u.part = t.part) (hr : u.regs = t.regs) (hs : u.stns = t.stns)
    (hl : (u.power.latched, u.power.after) = (t.power.latched, t.power.after)) : s.Calms u := by
  have reg : ∀ k, u.reg k = t.reg k := fun k => by simp only [State.reg, hr, hq]
  have stn : ∀ i, u.stn i = t.stn i := fun i => by simp only [State.stn, hs]
  exact h.trans ⟨hp, hq, hl, fun a _ hd => by rw [← hd]; simp only [State.substate, reg],
    fun a _ b _ hd => (reg _).trans hd, fun i hd => by rw [stn]; exact hd⟩

theorem ite {c : Prop} [Decidable c] (ht : s.Calms t) (hu : s.Calms u) : s.Calms (if c then t else u) := by
  split <;> assumption

theorem when {c : Bool} {f : State → State} (h : s.Calms t) (hf : ∀ u, s.Calms u → s.Calms (f u)) : s.Calms (t.when c f) := ite (hf t h) h

theorem foldl {α : Type} (l : List α) (f : State → α → State) (hf : ∀ u x, x ∈ l → s.Calms u → s.Calms (f u x)) (h : s.Calms t) :
    s.Calms (l.foldl f t) := by
  induction l generalizing t with
  | nil => exact h
  | cons x l ih => exact ih (fun u y hy => hf u y (List.mem_cons_of_mem x hy)) (hf t x List.mem_cons_self h)

/-! ### Registers, records and reports -/

theorem reg {k : Nat} (v : Nat) (h : s.Calms t) (hk : lampKey k = false) : s.Calms (t.setReg k v) := by
  have other : ∀ a, lampKey a = true → (t.setReg k v).reg a = t.reg a := fun a ha =>
    State.reg_setReg_ne _ v fun e => by simp [e, hk] at ha
  exact h.trans ⟨rfl, rfl, rfl, fun a ha hd => by rw [State.substate, other _ (lampKey_hdStKey ha)]; exact hd,
    fun a ha b hb hd => (other _ (lampKey_laser ha hb)).trans hd, fun _ hd => hd⟩

theorem regs {l : List (Nat × Nat)} (h : s.Calms t) (hl : ∀ p ∈ l, lampKey p.1 = false) : s.Calms (t.setRegs l) := by
  induction l generalizing t with
  | nil => exact h
  | cons p l ih => exact ih (reg _ h (hl p List.mem_cons_self)) fun q hq => hl q (List.mem_cons_of_mem p hq)

theorem modStn {i : Nat} {f : Stn → Stn} (h : s.Calms t) (hf : ∀ x, x.asked = false → (f x).asked = false) : s.Calms (t.modStn i f) :=
  h.trans ⟨rfl, rfl, rfl, fun _ _ hd => hd, fun _ _ _ _ hd => hd, fun j hd => by
    rw [State.stn_modStn]
    split
    · next e => exact hf _ (e ▸ hd)
    · exact hd⟩

theorem tells (h : s.Calms t) (k : t.Tells u) : s.Calms u := by
  have other : ∀ a, lampKey a = true → u.reg a = t.reg a := fun a ha => k.otherReg fun hm => by
    have := of_decide_eq_true ha
    simp only [reportIx, List.mem_cons, List.not_mem_nil, or_false] at hm
    omega
  have pins := congrArg State.pins k.frame
  have stns := congrArg State.stns k.frame
  have power := congrArg State.power k.frame
  exact h.trans ⟨pins, k.part, congrArg (fun p => (p.latched, p.after)) power, fun a ha hd => by rw [State.substate, other _ (lampKey_hdStKey ha)]; exact hd,
    fun a ha b hb hd => (other _ (lampKey_laser ha hb)).trans hd, fun i hd => by
      have same : u.stn i = t.stn i := by rw [State.stn, State.stn]; exact congrArg (fun l => (findKey i l).getD Stn.init) stns
      rw [same]
      exact hd⟩

theorem note (h : s.Calms t) (code source : Nat) (payload : List Byte) : s.Calms (t.note code source payload) :=
  h.tells (.note .refl ..)

theorem setStFlag (h : s.Calms t) (i b : Nat) (v : Bool) : s.Calms (t.setStFlag i b v) :=
  reg _ h (lampKey_stKey (by omega) (by omega) (by omega))

theorem emit (h : s.Calms t) (o : Out) : s.Calms (t.emit o) := h.frame rfl rfl rfl rfl rfl

theorem modHd (h : s.Calms t) (a : Nat) (f : Head → Head) : s.Calms (t.modHd a f) := h.frame rfl rfl rfl rfl rfl

theorem modLp (h : s.Calms t) (e l : Nat) (f : Loop → Loop) : s.Calms (t.modLp e l f) := h.frame rfl rfl rfl rfl rfl

theorem modEng (h : s.Calms t) (e : Nat) (f : Engine → Engine) : s.Calms (t.modEng e f) := h.frame rfl rfl rfl rfl rfl

theorem modSq (h : s.Calms t) (e : Nat) (f : Seq → Seq) : s.Calms (t.modSq e f) := h.frame rfl rfl rfl rfl rfl

theorem modPower (h : s.Calms t) (f : Power → Power) (hf : ∀ p, ((f p).latched, (f p).after) = (p.latched, p.after)) :
    s.Calms (t.modPower f) := h.frame rfl rfl rfl rfl (hf _)

theorem modGr (h : s.Calms t) (f : Granary → Granary) : s.Calms (t.modGr f) := h.frame rfl rfl rfl rfl rfl

theorem modSpread (h : s.Calms t) (f : Spread → Spread) : s.Calms (t.modSpread f) := h.frame rfl rfl rfl rfl rfl

theorem modNvme (h : s.Calms t) (f : Nvme → Nvme) : s.Calms (t.modNvme f) := h.frame rfl rfl rfl rfl rfl

/-! ### Loops and heads -/

theorem regZero (k : Nat) (h : s.Calms t) : s.Calms (t.setReg k 0) :=
  h.trans ⟨rfl, rfl, rfl, fun a _ hd => by
      rw [State.substate, State.reg_setReg]
      split
      · rfl
      · exact hd, fun a _ b _ hd => by
      rw [State.loopState, State.reg_setReg]
      split
      · rfl
      · exact hd, fun _ hd => hd⟩

theorem setSubstate {h v : Nat} (hc : s.Calms t) (hv : v = hsOff ∨ t.substate h ≠ hsOff) : s.Calms (t.setSubstate h v) :=
  hc.trans ⟨rfl, rfl, rfl, fun a _ hd => by
      rw [State.substate, State.setSubstate, State.reg_setReg]
      split
      · next e =>
        rcases hv with hv | hv
        · rw [hv]
          simp only [hsOff]
          omega
        · exact absurd (by rw [State.substate, ← e]; exact hd) hv
      · exact hd, fun a ha b hb hd => (State.reg_setReg_ne _ _ (loopKey_ne_hdStKey ha hb)).trans hd, fun _ hd => hd⟩

/-- A loop that goes OFF, or one that is no laser's. -/
theorem enterLoop {e l v : Nat} (h : s.Calms t) (hl : l < 12) (hv : v = lsOff ∨ l < 4) : s.Calms (t.enterLoop e l v) := by
  have first : s.Calms (t.setReg (loopKey e l 0) v) := by
    rcases hv with rfl | hv
    · exact regZero _ h
    · exact reg _ h (lampKey_column hl (by omega) (.inl hv))
  exact modLp (regZero _ first) e l _

theorem causeHere {e l bit : Nat} {on : Bool} (h : s.Calms t) (hl : l < 4) : s.Calms (t.causeHere e l bit on) := by
  have state := lampKey_column (e := e) (n := 0) (Nat.lt_trans hl (by decide)) (by decide) (.inl hl)
  have cause := lampKey_column (e := e) (n := 2) (Nat.lt_trans hl (by decide)) (by decide) (.inl hl)
  unfold State.causeHere
  have seen := ite (c := t.loopState e l = lsClosed) (modEng h e fun g =>
    { g with capEvent := g.capEvent || (g.capSet.trigger == 1 && g.capSet.loop == l) }) h
  exact ite (ite (modLp (reg _ (reg _ seen state) cause) e l _) h) (ite (reg _ h cause) h)

theorem recouple (h : s.Calms t) (e : Nat) : s.Calms (t.recouple e) :=
  causeHere (causeHere (causeHere (causeHere h (by decide)) (by decide)) (by decide)) (by omega)

/-- The motion of a loop after its entry into a state: a drive, its sections, and the couplings of a head's. -/
theorem coupled {e l : Nat} {v : Int} {f : Loop → Loop} (h : s.Calms t) (hl : l < 12) :
    s.Calms (if isHead e then ((t.setDrive e l v).modLp e l f).recouple e else (t.setDrive e l v).modLp e l f) := by
  have driven : s.Calms ((t.setDrive e l v).modLp e l f) := modLp (reg _ h (lampKey_column hl (by decide) (.inr (by decide)))) e l _
  exact ite (recouple driven e) driven

theorem loopOff {e l : Nat} (h : s.Calms t) (hl : l < 12) : s.Calms (t.loopOff e l) := coupled (enterLoop h hl (.inl rfl)) hl

theorem loopRamp {e l n : Nat} {v : Int} (h : s.Calms t) (hl : l < 4) : s.Calms (t.loopRamp e l v n) := by
  have ramping := modLp (reg (ofSigned 32 v) (enterLoop (e := e) (v := lsOpen) h (by omega) (.inr hl))
    (lampKey_column (e := e) (l := l) (n := 3) (by omega) (by decide) (.inl hl))) e l fun p => { p with ramp := some (t.drive e l, v, 0, n) }
  exact ite (recouple ramping e) ramping

theorem tiltOff (h : s.Calms t) (a : Nat) : s.Calms (t.tiltOff a) := by
  refine foldl _ _ (fun u l hl hu => ite hu (loopOff (reg _ hu (lampKey_column ?_ (by decide) (.inr (by decide)))) ?_)) h <;>
    · simp only [List.mem_cons, List.not_mem_nil, or_false] at hl
      omega

theorem dropHeadLoops (h : s.Calms t) (a : Nat) : s.Calms (t.dropHeadLoops a) := by
  refine tiltOff (loopOff (loopRamp (foldl _ _ (fun u b hb hu => loopOff hu ?_) h) (by decide)) (by decide)) a
  have := List.mem_range.mp hb
  omega

theorem cutBeam (h : s.Calms t) (a b : Nat) : s.Calms (t.cutBeam a b) := by
  unfold State.cutBeam
  split
  · exact h
  · refine ite ?_ h
    have cut := (reg (t.reg (wrKey a 2) - t.reg (wrKey a 2) / 4 ^ b % 4 * 4 ^ b + 0 % 4 * 4 ^ b) h (lampKey_wrKey (h := a) (sub := 2) (by decide)))
    split
    · exact reg _ (modHd cut a _) (lampKey_wrKey (by decide))
    · exact modHd cut a _

theorem gatesView (h : s.Calms t) (a : Nat) : s.Calms (t.gatesView a) := by
  unfold State.gatesView
  refine ite h ?_
  split
  · next writing => exact regZero _ (setSubstate h (.inr (by rw [writing]; decide)))
  · exact h

theorem closeGates (h : s.Calms t) (a : Nat) : s.Calms (t.closeGates a) :=
  gatesView (foldl _ _ (fun _ b _ hu => cutBeam hu a b) h) a

theorem laserOff {a b : Nat} (h : s.Calms t) (hb : b < 8) : s.Calms (t.laserOff a b) :=
  emit (reg _ (loopOff (gatesView (cutBeam h a b) a) (by omega)) (lampKey_hdKey (by decide) (by decide) (by decide))) _

theorem lasersOff {a : Nat} {l : List Nat} (h : s.Calms t) (hl : ∀ b ∈ l, b < 8) : s.Calms (t.lasersOff a l) :=
  foldl _ _ (fun _ b hb hu => laserOff hu (hl b hb)) h

theorem dropRecovery (h : s.Calms t) (a : Nat) : s.Calms (t.dropRecovery a) := modSq h a _

theorem headDrop (h : s.Calms t) (a : Nat) : s.Calms (t.headDrop a) := by
  unfold State.headDrop
  have dropped := dropRecovery (dropHeadLoops (lasersOff (a := a) (closeGates h a) fun _ hb => List.mem_range.mp hb) a) a
  exact setSubstate (reg _ (modHd dropped a _) (lampKey_hdKey (by decide) (by decide) (by decide))) (.inl rfl)

/-! ### What a change of a station's state and of the power state does -/

theorem eventOn (h : s.Calms t) (c : Nat) (e : Event) : s.Calms (t.eventOn c e) := by
  unfold State.eventOn
  split
  · exact h
  · refine ite h ?_
    split
    · exact modNvme h _
    · exact emit (modNvme h _) _

theorem event (h : s.Calms t) (e : Event) : s.Calms (t.event e) := foldl _ _ (fun _ c _ hu => eventOn hu c e) h

theorem complete (h : s.Calms t) (q : Nat) (c : Cpl) : s.Calms (t.complete q c) := by
  unfold State.complete
  split
  · exact h
  · exact ite (modNvme h _) (emit (modNvme h _) _)

theorem nsChanged (h : s.Calms t) (n : Nat) : s.Calms (t.nsChanged n) := event (modNvme h _) _

theorem failOps (h : s.Calms t) (i : Nat) : s.Calms (t.failOps i) := by
  unfold State.failOps
  refine modStn (reg _ (modGr (foldl _ _ (fun u x _ hu => complete ?_ _ _) h) _) ?shown) fun _ hx => hx
  case shown => exact lampKey_stKey (by decide) (by decide) (by decide)
  split
  · exact reg _ hu (by decide)
  · exact event (modNvme hu _) _
  · exact hu

theorem leaveMedia (h : s.Calms t) (i new : Nat) : s.Calms (t.leaveMedia i new) :=
  ite (modStn h fun _ hx => hx) (ite (modStn h fun _ hx => hx) (ite h (failOps h i)))

theorem setDom (h : s.Calms t) {d : Nat} (hd : d < 255) (v : Nat) : s.Calms (t.setDom d v) := by
  refine reg _ h (decide_eq_false ?_)
  simp only [key]
  omega

theorem updDomain (h : s.Calms t) {d : Nat} (hd : d < 255) : s.Calms (t.updDomain d) :=
  ite (ite (setDom h hd _) (ite (h.frame rfl rfl rfl rfl rfl) h)) (ite (setDom h hd _) h)

theorem updDomains {l : List Nat} (h : s.Calms t) (hl : ∀ d ∈ l, d < 255) : s.Calms (t.updDomains l) :=
  foldl _ _ (fun _ d hd hu => updDomain hu (hl d hd)) h

theorem clockView (h : s.Calms t) : s.Calms t.clockView := reg _ h (by decide)

theorem updAll (h : s.Calms t) : s.Calms t.updAll :=
  clockView (updDomains h fun d hd => Nat.lt_trans (List.mem_range.mp hd) (by decide))

theorem updStation {i : Nat} (h : s.Calms t) (hi : i < 8) : s.Calms (t.updStation i) := by
  refine clockView (updDomains h fun d hd => ?_)
  simp only [List.mem_append, List.mem_map, List.mem_range, List.mem_cons, List.not_mem_nil, or_false] at hd
  omega

theorem keepSlices (h : s.Calms t) (least : Nat) : s.Calms (t.keepSlices least) := h.frame rfl rfl rfl rfl rfl

theorem setStation {i new : Nat} (h : s.Calms t) (hi : i < 8) (trig : Nat) : s.Calms (t.setStation i new trig) := by
  have view : ∀ {sub}, sub < 3 → lampKey (stKey i 0 sub) = false := fun hs => lampKey_stKey (by decide) (by omega) (by omega)
  have shown := reg new (reg (t.stState i) h (view (sub := 2) (by decide))) (view (sub := 1) (by decide))
  have guarded := ite (c := t.stState i = stMaint) (regs (l := [(hdKey (2 * i) 0x18 6, 7), (hdKey (2 * i + 1) 0x18 6, 7)]) shown (by
    simp only [List.forall_mem_cons, List.not_mem_nil, false_imp_iff, implies_true, and_true]
    exact ⟨lampKey_hdKey (by decide) (by decide) (by decide), lampKey_hdKey (by decide) (by decide) (by decide)⟩)) shown
  unfold State.setStation
  refine ite h ?_
  have followed := fun f hf => updStation (leaveMedia (note (modStn (i := i) (f := f) (keepSlices guarded t.minSlices) hf) 0x0301 (0x20 + i)
    (leBytes 1 (t.stState i) ++ leBytes 1 new ++ leBytes 1 trig)) i new) hi
  dsimp only
  refine ite (event ?_ _) ?_
  · exact followed _ fun _ hx => hx
  · exact followed _ fun _ hx => hx

theorem pinView (h : s.Calms t) (i : Nat) : s.Calms (t.pinView i) := setStFlag (setStFlag h ..) ..

end State.Calms

/-! ### A head dropped by hardware is dark (R142) -/

/-- What each step of a fold reaches, and each other step keeps, holds of every step at the end. -/
theorem foldl_reaches {α σ : Type} {f : σ → α → σ} {P : α → σ → Prop} {l : List α} (hf : ∀ s, ∀ a ∈ l, P a (f s a))
    (hk : ∀ s, ∀ a ∈ l, ∀ b ∈ l, P a s → P a (f s b)) (s : σ) (a : α) (ha : a ∈ l) : P a (l.foldl f s) := by
  obtain ⟨before, after, rfl⟩ := List.append_of_mem ha
  rw [List.foldl_append, List.foldl_cons]
  exact List.foldlRecOn after f (hf _ a ha) fun t ht b hb => hk t a ha b (List.mem_append_right before (List.mem_cons_of_mem a hb)) ht

theorem State.enterLoop_loopState (s : State) (e l v : Nat) : (s.enterLoop e l v).loopState e l = v := by
  have ne : loopKey e l 0 ≠ loopKey e l 2 := by
    simp only [loopKey, engKey, loopCount, key]
    split <;> omega
  exact (State.reg_setReg_ne _ _ ne).trans (State.reg_setReg_same ..)

theorem State.loopOff_laser (s : State) {h b : Nat} (hh : h < 16) (hb : b < 8) : (s.loopOff h (4 + b)).loopState h (4 + b) = lsOff :=
  (State.Calms.coupled (.refl _) (by omega)).laser h hh b hb (s.enterLoop_loopState ..)

theorem State.dropHeadLoops_laser (s : State) {h b : Nat} (hh : h < 16) (hb : b < 8) :
    (s.dropHeadLoops h).loopState h (4 + b) = lsOff := by
  have off := foldl_reaches (f := fun s b => s.loopOff h (4 + b)) (P := fun b s => s.loopState h (4 + b) = lsOff) (l := List.range 8)
    (fun s b hb => s.loopOff_laser hh (List.mem_range.mp hb))
    (fun s b hb c hc hd => (State.Calms.loopOff (.refl s) (by simp only [List.mem_range] at hc; omega)).laser h hh b (List.mem_range.mp hb) hd)
    s b (List.mem_range.mpr hb)
  have after : ∀ {t : State}, t.Calms (((t.loopRamp h 0 (t.regI 32 (hdKey h 0x11 9)) 2400).loopOff h 1).tiltOff h) :=
    .tiltOff (.loopOff (.loopRamp (.refl _) (by decide)) (by decide)) h
  exact after.laser h hh b hb off

theorem State.setSubstate_substate (s : State) (h : Nat) : (s.setSubstate h hsOff).substate h = hsOff := by
  rw [State.substate, State.setSubstate, State.reg_setReg_same]
  exact Nat.mul_mod_left ..

theorem State.headDrop_substate (s : State) (h : Nat) : (s.headDrop h).substate h = hsOff := State.setSubstate_substate ..

theorem State.headDrop_laser (s : State) {h b : Nat} (hh : h < 16) (hb : b < 8) : (s.headDrop h).loopState h (4 + b) = lsOff := by
  have off := State.dropHeadLoops_laser ((s.closeGates h).lasersOff h (List.range 8)) hh hb
  have after : ∀ {t : State} {f : Head → Head}, t.Calms ((((t.dropRecovery h).modHd h f).setReg (hdKey h 0x13 1) 0xFF).setSubstate h hsOff) :=
    fun {t f} => .setSubstate (.reg _ (.modHd (.dropRecovery (.refl t) h) h f) (lampKey_hdKey (by decide) (by decide) (by decide))) (.inl rfl)
  exact after.laser h hh b hb off

/-- Both heads of a station are in LASER_OFF with every laser-power loop OFF. -/
structure State.HeadsDark (s : State) (i : Nat) : Prop where
  upper : s.substate (2 * i) = hsOff
  lower : s.substate (2 * i + 1) = hsOff
  beams : ∀ h, h / 2 = i → ∀ b < 8, s.loopState h (4 + b) = lsOff

theorem State.HeadsDark.calms {i : Nat} (h : s.HeadsDark i) (hi : i < 8) (k : s.Calms t) : t.HeadsDark i where
  upper := k.head _ (by omega) h.upper
  lower := k.head _ (by omega) h.lower
  beams a ha b hb := k.laser a (by omega) b hb (h.beams a ha b hb)

theorem State.HeadsDark.stationDark {i : Nat} (h : s.HeadsDark i) : s.stationDark i = true := by
  refine List.all_eq_true.mpr fun b hb => ?_
  have hb := List.mem_range.mp hb
  simp only [State.laserOnNow, h.beams (2 * i) (by omega) b hb, h.beams (2 * i + 1) (by omega) b hb]
  rfl

theorem State.headDrop_both (s : State) {i : Nat} (hi : i < 8) : ((s.headDrop (2 * i)).headDrop (2 * i + 1)).HeadsDark i where
  upper := (State.Calms.headDrop (.refl _) _).head _ (by omega) (s.headDrop_substate _)
  lower := State.headDrop_substate ..
  beams a ha b hb := by
    obtain rfl | rfl : a = 2 * i ∨ a = 2 * i + 1 := by omega
    · exact (State.Calms.headDrop (.refl _) _).laser _ (by omega) b hb (s.headDrop_laser (by omega) hb)
    · exact State.headDrop_laser _ (by omega) hb

/-! ### The interlock opens (R118) -/

theorem ilkOpen_pinSet (s : State) (i : Nat) : (s.modPins fun p => { p with ilkOpen := pinSet p.ilkOpen i true }).ilkOpen i = true := by
  show bitOf (setBit s.pins.ilkOpen i) i = true
  rw [bitOf_setBit]
  simp

theorem State.ilkOpens_calms {i : Nat} (s : State) (hi : i < 8) (ho : s.ilkOpen i = false) :
    (((s.modPins fun p => { p with ilkOpen := pinSet p.ilkOpen i true }).headDrop (2 * i)).headDrop (2 * i + 1)).Calms (s.ilkOpens i) := by
  unfold State.ilkOpens
  rw [ho, if_neg Bool.false_ne_true]
  dsimp only
  refine .ite (.refl _) (.when ?_ fun _ hu => .setStFlag hu i 7 true)
  refine .modStn (.ite ?_ (.pinView (.refl _) i)) fun _ hx => hx
  refine .modStn (.reg _ (.setStation (.pinView (.refl _) i) hi _) ?_) fun _ hx => hx
  exact lampKey_stKey (by decide) (by decide) (by decide)

/-! ### The power fails (R97) -/

namespace State.Calms

theorem frameOut (h : s.Calms t) (p kind : Nat) (f : FrameHead) (d : List Nat) (b : List Block) : s.Calms (t.frameOut p kind f d b) :=
  ite (emit h _) (h.frame rfl rfl rfl rfl rfl)

theorem freeSlot (h : s.Calms t) (i : Nat) : s.Calms (t.freeSlot i) := by
  have freed := reg 0 (modPower h (fun p => { p with
    slots := p.slots.filter (· != SlotHolder.spin i), spinWaits := p.spinWaits.filter (· != i) }) fun _ => rfl)
    (lampKey_stKey (i := i) (off := 0x10) (sub := 0x0D) (by decide) (by decide) (by decide))
  have quiet := setStFlag (modStn (i := i) (f := fun t => { t with grant := false, asked := false, fired := 0 }) (setStFlag freed i 5 false)
    fun _ _ => rfl) i 6 false
  exact ite (frameOut quiet ..) quiet

theorem freewheel (h : s.Calms t) (i : Nat) : s.Calms (t.freewheel i) :=
  emit (reg _ (loopOff h (by decide)) (lampKey_stKey (by decide) (by decide) (by decide))) _

theorem dropSpin (h : s.Calms t) (i : Nat) : s.Calms (t.dropSpin i) := by
  have freed := modStn (i := i) (f := fun t => { t with spinPhase := 0, retarget := false, lrWait := false }) (freewheel (freeSlot h i) i)
    fun _ hx => hx
  exact reg _ freed (lampKey_stKey (by decide) (by decide) (by decide))

theorem dropStationLoops (h : s.Calms t) (i : Nat) : s.Calms (t.dropStationLoops i) :=
  loopOff (loopOff (loopOff h (by decide)) (by decide)) (by decide)

theorem cutStroke (h : s.Calms t) (i : Nat) : s.Calms (t.cutStroke i) := by
  unfold State.cutStroke
  split
  · exact h
  · refine emit (regs (modStn h ?_) ?_) _
    · exact fun _ hx => hx
    simp only [List.forall_mem_cons, List.not_mem_nil, false_imp_iff, implies_true, and_true]
    exact ⟨lampKey_stKey (by decide) (by decide) (by decide), lampKey_stKey (by decide) (by decide) (by decide)⟩

theorem pdoDiscard (h : s.Calms t) (n abort : Nat) : s.Calms (t.pdoDiscard n abort) := by
  have counted : s.Calms (t.bump (key 0x2010 0x0B)) := reg _ h (by decide)
  unfold State.pdoDiscard
  dsimp only
  split
  · refine ite counted (note ?_ ..)
    exact counted.frame rfl rfl rfl rfl rfl
  · exact counted

theorem reply (h : s.Calms t) (d : Door) (ix sub abort total : Nat) (data : List Byte) : s.Calms (t.reply d ix sub abort total data) := by
  unfold State.reply
  cases d <;> dsimp only
  case sdo => exact ite (emit h _) h
  case pdo => exact ite h (pdoDiscard h ..)
  case inner => exact h
  case bar2 =>
    refine ite ?_ ?_
    · exact h.frame rfl rfl rfl rfl rfl
    · exact h.frame rfl rfl rfl rfl rfl
  case seg =>
    refine ite ?_ h
    exact h.frame rfl rfl rfl rfl rfl
  case nvme =>
    split
    · exact h
    · exact ite (complete (ite h (emit h _)) ..) (complete h ..)

theorem abandonStore (h : s.Calms t) : s.Calms t.abandonStore := by
  unfold State.abandonStore
  split
  · exact h
  · dsimp only
    split
    · exact h.frame rfl rfl rfl rfl rfl
    · refine reply ?_ ..
      exact h.frame rfl rfl rfl rfl rfl

theorem loseData (h : s.Calms t) : s.Calms t.loseData := h.frame rfl rfl rfl rfl rfl

theorem setPower (h : s.Calms t) (v : Nat) : s.Calms (t.setPower v) := ite h (note (reg _ h (by decide)) ..)

theorem ledgerPowerFail (h : s.Calms t) : s.Calms t.ledgerPowerFail := by
  refine h.tells ?_
  unfold State.ledgerPowerFail
  refine .ledgerView (.ledger _ (.foldl _ _ (fun _ r _ hu => .storeRaw hu r) (.ledger _ ?_)))
  have told : ∀ {u : State} {code source : Nat} {payload : List Byte}, t.Tells u →
      t.Tells ((u.setReg (key 0x2200 9) 0).announce code source payload none).1 := fun hu => .announce (.reg _ _ hu (by decide)) ..
  refine .ite (.storeRaw (told ?_) _) (told ?_)
  all_goals
    split
    · exact .storeGap (.ledger _ .refl) ..
    · exact .refl

theorem attachVolume (h : s.Calms t) (v : Volume) : s.Calms (t.attachVolume v) := nsChanged (modNvme h _) _

theorem detachNs (h : s.Calms t) (n : Nat) : s.Calms (t.detachNs n) :=
  nsChanged (modNvme (modSpread (foldl _ _ (fun _ x _ hu => complete hu x.seq cplNotReady) h) _) _) _

theorem spreadFollow (h : s.Calms t) : s.Calms t.spreadFollow :=
  ite (foldl _ _ (fun _ v _ hu => attachVolume hu v) h) (foldl _ _ (fun _ n _ hu => detachNs hu n) h)

end State.Calms

/-- The stations of the part are dark, and none of them asks for a ring grant. -/
def State.Quiet (s : State) : Prop := ∀ i, i < s.part.stations → s.HeadsDark i ∧ (s.stn i).asked = false

theorem State.Quiet.calms (h : s.Quiet) (hp : s.part.stations ≤ 8) (k : s.Calms t) : t.Quiet := by
  intro i hi
  rw [k.part] at hi
  obtain ⟨dark, asks⟩ := h i hi
  exact ⟨dark.calms (by omega) k, k.asks i asks⟩

theorem State.Quiet.modPower (h : s.Quiet) (f : Power → Power) : (s.modPower f).Quiet := fun i hi =>
  ⟨⟨(h i hi).1.upper, (h i hi).1.lower, (h i hi).1.beams⟩, (h i hi).2⟩

theorem State.dropSpin_asked (s : State) (i : Nat) : ((s.dropSpin i).stn i).asked = false := by
  have freed : ((s.freeSlot i).stn i).asked = false := by
    have flagged : ∀ u : State, u.Calms (u.setStFlag i 6 false) := fun u => .setStFlag (.refl u) i 6 false
    refine (State.Calms.ite (.frameOut (flagged _) ..) (flagged _)).asks i ?_
    rw [State.stn_modStn, if_pos rfl]
  have after : (s.freeSlot i).Calms (s.dropSpin i) :=
    .reg _ (.modStn (.freewheel (.refl _) i) fun _ hx => hx) (lampKey_stKey (by decide) (by decide) (by decide))
  exact after.asks i freed

/-- A power-fail at one station, once its heads are dropped. -/
theorem State.Calms.dropMotors (h : s.Calms t) (i : Nat) :
    s.Calms ((((t.dropSpin i).dropStationLoops i).cutStroke i).modStn i fun t =>
      { t with psen := false, psenDrop := false, down := 0, sleds := t.sleds.map fun d => { d with target := none, homing := false } }) :=
  .modStn (.cutStroke (.dropStationLoops (.dropSpin h i) i) i) fun _ hx => hx

theorem State.dropActuators_calms (s : State) : s.Calms s.dropActuators :=
  .foldl _ _ (fun _ i _ hu => .dropMotors (.headDrop (.headDrop hu (2 * i)) (2 * i + 1)) i) (.refl s)

theorem State.dropActuators_quiet (s : State) (hp : s.part.stations ≤ 8) : s.dropActuators.Quiet := by
  intro i hi
  rw [s.dropActuators_calms.part] at hi
  refine foldl_reaches (P := fun i (s : State) => s.HeadsDark i ∧ (s.stn i).asked = false) (fun s i hi => ?reached)
    (fun s i hi j _ hd => ?kept) s i (List.mem_range.mpr hi)
  case reached =>
    have hi := List.mem_range.mp hi
    have motors : ∀ u : State, (u.dropSpin i).Calms ((((u.dropSpin i).dropStationLoops i).cutStroke i).modStn i fun t =>
        { t with psen := false, psenDrop := false, down := 0, sleds := t.sleds.map fun d => { d with target := none, homing := false } }) :=
      fun u => .modStn (.cutStroke (.dropStationLoops (.refl _) i) i) fun _ hx => hx
    exact ⟨(s.headDrop_both (by omega)).calms (by omega) (.dropMotors (.refl _) i), (motors _).asks i (State.dropSpin_asked ..)⟩
  case kept =>
    have hi := List.mem_range.mp hi
    have step := State.Calms.dropMotors (.headDrop (.headDrop (.refl s) (2 * j)) (2 * j + 1)) j
    exact ⟨hd.1.calms (by omega) step, step.asks i hd.2⟩

theorem State.dropAsks_quiet (h : s.Quiet) : s.dropAsks = s := by
  have none : ((List.range s.part.stations).filter fun i => (s.stn i).asked) = [] :=
    List.filter_eq_nil_iff.mpr fun i hi => by simp [(h i (List.mem_range.mp hi)).2]
  rw [State.dropAsks, none]
  rfl

theorem State.Calms.setRingState (h : s.Calms t) (hq : t.Quiet) (hp : t.part.stations ≤ 8) (v : Nat) : s.Calms (t.setRingState v) := by
  refine h.trans (.spreadFollow (.ite (.refl _) ?_))
  have told : ∀ {payload em}, t.Calms ((t.setReg (ringKey 3) v).post 0x0A01 0x0F payload em) :=
    fun {_ _} => (State.Calms.reg _ (.refl _) (by decide)).tells (.post .refl ..)
  refine .ite told ?_
  rw [State.dropAsks_quiet (hq.calms hp told)]
  exact told

theorem State.Calms.ringOff (h : s.Calms t) (hq : t.Quiet) (hp : t.part.stations ≤ 8) : s.Calms t.ringOff := by
  have anew : t.Calms { t.setRegs [(portKey 0 1, 0), (portKey 1 1, 0), (ringKey 4, 0xFF), (ringKey 5, 0), (ringKey 9, 0), (ringKey 0x0A, 0),
      (ringKey 0x0E, 0)] with fabric := Ring.initial } :=
    (State.Calms.regs (.refl t) (by decide)).frame rfl rfl rfl rfl rfl
  exact h.trans (anew.setRingState (hq.calms hp anew) (anew.stations hp) rsDisabled)

/-- The rails that are down while the power-fail latch stands start nothing (R99). -/
theorem State.Calms.railsDown (h : s.Calms t) (hq : t.Quiet) (hp : t.part.stations ≤ 8) (hl : t.power.latched = true)
    (ha : t.power.after = .startUp) : s.Calms t.railsDown := by
  unfold State.railsDown
  rw [if_neg (by rw [ha]; decide)]
  have off : t.Calms (((t.forEach (List.range 96) fun s d => if s.domState d = 0 then s else s.setDom d 1).setReg (key 0x2100 0x0D)
      ((t.forEach (List.range 96) fun s d => if s.domState d = 0 then s else s.setDom d 1).reg (key 0x2100 0x0D) &&& 0x201)).modPower
        fun p => { p with lowering := false }) :=
    .modPower (.reg _ (.foldl _ _ (fun _ d hd hu => .ite hu (.setDom hu (by have := List.mem_range.mp hd; omega) 1)) (.refl t)) (by decide))
      _ fun _ => rfl
  have down := off.ringOff (hq.calms hp off) (off.stations hp)
  obtain ⟨latched, after⟩ := Prod.mk.inj down.latch
  dsimp only
  split
  · next hearth => cases hearth.symm.trans (after.trans ha)
  · rw [if_pos (.inl (latched.trans hl))]
    exact h.trans down
  · exact h.trans down

theorem State.Calms.lowerRails (hq : s.Quiet) (hp : s.part.stations ≤ 8) (hl : s.power.latched = true) :
    (s.modPower fun p => { p with lowering := true, after := .startUp }).Calms (s.lowerRails .startUp) :=
  .ite (.railsDown (.refl _) (hq.modPower _) hp hl rfl) (.refl _)

theorem State.recorded_calms (s : State) (shown : Nat) : s.Calms ((s.setPower shown).setReg (key 0x2100 3) 0).ledgerPowerFail :=
  .ledgerPowerFail (.reg 0 (.setPower (.refl s) shown) (by decide))

/-- The rails going down under the latch leave what is quiet so. -/
theorem State.lowered_quiet (hq : s.Quiet) (hp : s.part.stations ≤ 8) (hl : s.power.latched = true) :
    (s.lowerRails .startUp).updAll.Quiet ∧ (s.lowerRails .startUp).updAll.part = s.part := by
  have lowered := State.Calms.updAll (.lowerRails hq hp hl)
  exact ⟨(hq.modPower _).calms hp lowered, lowered.part⟩

/-- The records of a power-fail and the rails going down, once the latch stands. -/
theorem State.latched_quiet (hq : s.Quiet) (hp : s.part.stations ≤ 8) (hl : s.power.latched = true) (shown : Nat) :
    (((s.setPower shown).setReg (key 0x2100 3) 0).ledgerPowerFail.lowerRails .startUp).updAll.Quiet
      ∧ (((s.setPower shown).setReg (key 0x2100 3) 0).ledgerPowerFail.lowerRails .startUp).updAll.part = s.part := by
  have recorded := s.recorded_calms shown
  obtain ⟨quiet, part⟩ := State.lowered_quiet (hq.calms hp recorded) (recorded.stations hp) ((Prod.mk.inj recorded.latch).1.trans hl)
  exact ⟨quiet, part.trans recorded.part⟩

theorem State.powerFail_quiet (s : State) (hp : s.part.stations ≤ 8) (shown : Nat) :
    (s.powerFail .startUp shown).Quiet ∧ (s.powerFail .startUp shown).part = s.part := by
  have lost : s.dropActuators.Calms s.dropActuators.abandonStore.loseData := .loseData (.abandonStore (.refl _))
  have few := s.dropActuators_calms.stations hp
  have failed := State.latched_quiet (((s.dropActuators_quiet hp).calms few lost).modPower fun p =>
    { p with latched := true, tempWakes := [], slots := [], spinWaits := [], bistSuspended := [], bistWaits := [] })
    (lost.stations few) rfl shown
  exact ⟨failed.1, failed.2.trans (lost.part.trans s.dropActuators_calms.part)⟩

/-- Settles O60, by what calms down and stays so: the drop of a head reaches the dark, and nothing after it leaves it. -/
theorem lasersGoDark : Obligations.LasersGoDark := by
  unfold Obligations.LasersGoDark
  intro s i hi
  refine ⟨?interlock, ?powerfail⟩
  case interlock =>
    intro ho
    have calm := s.ilkOpens_calms hi ho
    have dark := (State.headDrop_both _ hi).calms hi calm
    refine ⟨_, rfl, ?_, dark.stationDark, dark.upper, dark.lower⟩
    rw [State.ilkOpen, (State.Calms.trans (.headDrop (.headDrop (.refl _) _) _) calm).pins]
    exact ilkOpen_pinSet s i
  case powerfail =>
    intro hl hd hh hf hs hp
    have quiet := s.powerFail_quiet hp psShutdown
    have present : i < (s.powerFail .startUp psShutdown).part.stations := by
      rw [quiet.2]
      exact hs
    refine ⟨s.powerFail .startUp psShutdown, ?_, (quiet.1 i present).1.stationDark⟩
    rw [exec_pfwNAssert, execPfwNAssert, if_neg (by simp [hl, hd]), if_neg (by simp [hh, hf])]

end Sys2Proof.Machine
end

section
/-! Station commands (R109, R110, Tables 5.4 and 5.5): a write of REQUEST of object 0x3s01. -/

namespace Sys2Proof.Machine

variable {s u : State} {d : Door} {st : Nat}

theorem State.stationEffect_request {sub v : Nat} : s.stationEffect (stIx st 1) sub v = some (s.stationRequest st v) := by
  simp [State.stationEffect, ixOff_stIx, ixStation_stIx]

theorem State.strobeRefused_zero : s.strobeRefused 0 = 0 := by
  simp [State.strobeRefused]

/-- A REQUEST that the station accepts is carried out, and answered. -/
theorem State.stationCmd_accepted {code target strobe : Nat} {force : Bool} {t : State}
    (ha : s.admitted d (stIx st 1) 1 (code + target * 256 + strobe * 4096 + (if force then 65536 else 0)) = some u) (hst : st < 8)
    (hr : u.stationRequest st (code + target * 256 + strobe * 4096 + (if force then 65536 else 0)) = .ok t) :
    s.stationCmd d st code target strobe force
      = .next (t.answered d (stIx st 1) 1 (code + target * 256 + strobe * 4096 + (if force then 65536 else 0))) :=
  State.blockWrite_applied ha hst (by decide) State.stationEffect_request hr

/-! ### What each code is where Table 5.5 accepts it -/

section
variable {f : Bool}

theorem State.stationRequest_powerUp (h : s.stState st = stOff) : s.stationRequest st 1
    = .ok (((s.wiringAbort st).bistLeave st).startCommand st 1 0 0 false (.bistEnds :: powerSteps)) := by
  simp [State.stationRequest, bitsOf, bitOf, State.strobeRefused_zero, h]

theorem State.stationRequest_powered (h : s.stState st ≠ stOff) (hf : s.stState st ≠ stFault) :
    s.stationRequest st 1 = .ok (s.doneAtOnce st 1) := by
  simp [State.stationRequest, bitsOf, bitOf, State.strobeRefused_zero, h, hf]

theorem State.stationRequest_unload (h : stClamped ≤ s.stState st) (h' : s.stState st ≤ stActive) :
    s.stationRequest st (3 + (if f then 65536 else 0))
      = .ok (s.startCommand st 3 0 0 f [.stopDispatch, .drain, .detach, .parkHeads, .spinDown, .unclamp]) := by
  have loaded : s.stState st ≠ stEmpty ∧ s.stState st ≠ stFault ∧ s.stState st ≠ stOff ∧ s.stState st ≠ stMaint := by
    simp only [stClamped, stActive, stEmpty, stFault, stOff, stMaint] at *
    omega
  cases f <;> simp [State.stationRequest, bitsOf, bitOf, State.strobeRefused_zero, loaded]

theorem State.stationRequest_unload_fault (h : s.stState st = stFault) (hs : s.below30 st = true) (hc : s.reg (stKey st 0x22 12) ≠ 6) :
    s.stationRequest st (3 + (if f then 65536 else 0)) = .ok (s.startCommand st 3 0 0 f [.drain, .detach, .unclamp]) := by
  cases f <;> simp [State.stationRequest, bitsOf, bitOf, State.strobeRefused_zero, h, hs, hc, stFault, stEmpty]

theorem State.stationRequest_unloaded (h : s.stState st = stEmpty) :
    s.stationRequest st (3 + (if f then 65536 else 0)) = .ok (s.doneAtOnce st 3) := by
  cases f <;> simp [State.stationRequest, bitsOf, bitOf, State.strobeRefused_zero, h]

theorem State.stationRequest_stow (h : stSpinning ≤ s.stState st) (h' : s.stState st ≤ stActive) :
    s.stationRequest st (4 + (if f then 65536 else 0))
      = .ok (s.startCommand st 4 0 0 f [.stopDispatch, .drain, .detach, .parkHeads, .spinDown]) := by
  have spinning : s.stState st ≠ stClamped ∧ (s.stState st = stSpinning ∨ s.stState st = stReady ∨ s.stState st = stActive) := by
    simp only [stClamped, stActive, stSpinning, stReady] at *
    omega
  cases f <;> simp [State.stationRequest, bitsOf, bitOf, State.strobeRefused_zero, spinning]

theorem State.stationRequest_stowed (h : s.stState st = stClamped) :
    s.stationRequest st (4 + (if f then 65536 else 0)) = .ok (s.doneAtOnce st 4) := by
  cases f <;> simp [State.stationRequest, bitsOf, bitOf, State.strobeRefused_zero, h]

end

theorem State.stationRequest_powerDown
    (h : s.stState st = stEmpty ∨ s.stState st = stClamped ∨ (s.stState st = stFault ∧ s.below30 st = true)) :
    s.stationRequest st 5 = .ok ((s.wiringAbort st).startCommand st 5 0 0 false [.lowerPsen, .gate]) := by
  have on : s.stState st ≠ stOff := by
    simp only [stClamped, stEmpty, stFault, stOff] at *
    omega
  simp [State.stationRequest, bitsOf, bitOf, State.strobeRefused_zero, h, on]

theorem State.stationRequest_down (h : s.stState st = stOff) : s.stationRequest st 5 = .ok (s.doneAtOnce st 5) := by
  simp [State.stationRequest, bitsOf, bitOf, State.strobeRefused_zero, h]

theorem State.stationRequest_enterMaint (h : stEmpty ≤ s.stState st) (h' : s.stState st ≤ stActive) :
    s.stationRequest st 6 = .ok (s.startCommand st 6 0 0 false [.stopDispatch, .waitInflight, .enterMaint]) := by
  have working : s.stState st ≠ stMaint ∧ s.stState st ≠ stOff ∧ s.stState st ≠ stFault := by
    simp only [stActive, stEmpty, stFault, stOff, stMaint] at *
    omega
  simp [State.stationRequest, bitsOf, bitOf, State.strobeRefused_zero, working]

theorem State.stationRequest_inMaint (h : s.stState st = stMaint) : s.stationRequest st 6 = .ok (s.doneAtOnce st 6) := by
  simp [State.stationRequest, bitsOf, bitOf, State.strobeRefused_zero, h]

theorem State.stationRequest_exitMaint (h : s.stState st = stMaint) : s.stationRequest st 7 = .ok (s.startCommand st 7 0 0 false
    ([.abortOrders] ++ (if (s.stn st).maintFrom ≤ stEmpty then [] else loadSteps (min (s.stn st).maintFrom 4)) ++ [.leaveMaint])) := by
  simp [State.stationRequest, bitsOf, bitOf, State.strobeRefused_zero, h]

theorem State.stationRequest_clearFault (h : s.stState st = stFault) (hs : s.below30 st = true) :
    s.stationRequest st 8 = .ok (s.startCommand st 8 0 0 false [.wakeCore, .checkStore, .raisePsen, .wiringTest, .readClamp]) := by
  simp [State.stationRequest, bitsOf, bitOf, State.strobeRefused_zero, h, hs]

/-! ### LOAD, with its target and its strobe -/

section
variable {target strobe : Nat}

theorem loadWord_fields (h4 : target ≤ 4) (hs : strobe < 16) :
    (2 + target * 256 + strobe * 4096) % 256 = 2 ∧ bitsOf (2 + target * 256 + strobe * 4096) 11 8 = target
      ∧ bitsOf (2 + target * 256 + strobe * 4096) 15 12 = strobe ∧ bitOf (2 + target * 256 + strobe * 4096) 16 = false := by
  simp only [bitsOf, bitOf, beq_eq_false_iff_ne]
  omega

theorem State.stationRequest_load (h2 : 2 ≤ target) (h4 : target ≤ 4) (hs : strobe < 16) (hr : s.strobeRefused strobe = 0)
    (hl : loadRow (s.stState st) target = some false) :
    s.stationRequest st (2 + target * 256 + strobe * 4096) = .ok (((s.wiringAbort st).bistLeave st).startCommand st 2 target strobe false
      (.bistEnds :: ((if s.stState st = stOff then powerSteps else []) ++ loadSteps target))) := by
  simp [State.stationRequest, loadWord_fields h4 hs, h2, h4, hr, hl]

theorem State.stationRequest_loaded (h2 : 2 ≤ target) (h4 : target ≤ 4) (hs : strobe < 16) (hr : s.strobeRefused strobe = 0)
    (hl : loadRow (s.stState st) target = some true) :
    s.stationRequest st (2 + target * 256 + strobe * 4096) = .ok (s.doneAtOnce st 2) := by
  simp [State.stationRequest, loadWord_fields h4 hs, h2, h4, hr, hl]

end

/-- Settles O13, command by command. -/
theorem stationCommands : Obligations.StationCommands := by
  unfold Obligations.StationCommands
  intro s d
  refine ⟨?powerUp, ?powered, ?load, ?loaded, ?unload, ?unloadFault, ?unloaded, ?stow, ?stowed, ?powerDown, ?down, ?enterMaint, ?inMaint,
    ?exitMaint, ?clearFault⟩
  case powerUp => exact fun st u ha hst h => State.stationCmd_accepted ha hst (State.stationRequest_powerUp h)
  case powered => exact fun st u ha hst h hf => State.stationCmd_accepted ha hst (State.stationRequest_powered h hf)
  case load =>
    exact fun st target strobe u ha hst h2 h4 hs hr hrow =>
      State.stationCmd_accepted ha hst (State.stationRequest_load h2 h4 hs hr hrow)
  case loaded =>
    exact fun st target strobe u ha hst h2 h4 hs hr hrow =>
      State.stationCmd_accepted ha hst (State.stationRequest_loaded h2 h4 hs hr hrow)
  case unload => exact fun st f u ha hst h h' => State.stationCmd_accepted ha hst (State.stationRequest_unload h h')
  case unloadFault => exact fun st f u ha hst h hs hc => State.stationCmd_accepted ha hst (State.stationRequest_unload_fault h hs hc)
  case unloaded => exact fun st f u ha hst h => State.stationCmd_accepted ha hst (State.stationRequest_unloaded h)
  case stow => exact fun st f u ha hst h h' => State.stationCmd_accepted ha hst (State.stationRequest_stow h h')
  case stowed => exact fun st f u ha hst h => State.stationCmd_accepted ha hst (State.stationRequest_stowed h)
  case powerDown => exact fun st u ha hst h => State.stationCmd_accepted ha hst (State.stationRequest_powerDown h)
  case down => exact fun st u ha hst h => State.stationCmd_accepted ha hst (State.stationRequest_down h)
  case enterMaint => exact fun st u ha hst h h' => State.stationCmd_accepted ha hst (State.stationRequest_enterMaint h h')
  case inMaint => exact fun st u ha hst h => State.stationCmd_accepted ha hst (State.stationRequest_inMaint h)
  case exitMaint => exact fun st u ha hst h => State.stationCmd_accepted ha hst (State.stationRequest_exitMaint h)
  case clearFault => exact fun st u ha hst h hs => State.stationCmd_accepted ha hst (State.stationRequest_clearFault h hs)

end Sys2Proof.Machine
end

section
/-! Stores and restores, calibrations and BIST partitions asked for by a write (R59, R455, R463, R466, R468). -/

namespace Sys2Proof.Machine

variable {s u t : State} {d : Door} {i sub v n kind : Nat} {o : Obj} {act : Applied}

/-! ### The request objects take the number as it is written -/

theorem State.staticCheck_lookup {b : List Byte} (h : u.staticCheck i sub b = .ok o) : u.lookup i sub = .ok o := by
  unfold State.staticCheck at h
  split at h
  · cases h
  · next p hp =>
    rw [hp]
    dsimp only at h
    split_ifs at h <;> simpa using h

theorem State.lookup_found (h : u.lookup i sub = .ok o) : findObj i sub = some o := by
  unfold State.lookup at h
  split at h
  · cases h
  split at h
  · cases h
  split at h
  · cases h
  split at h
  · next p hp =>
    rw [hp]
    exact congrArg some (Except.ok.inj h)
  · cases h

/-- A number whose range is no mask is kept as it is. -/
theorem State.admitted_value (ha : s.admitted d i sub v = some u) (hdom : (findObj i sub).map (·.dom) = some .any) :
    leNat (numberBytes i sub v) = v := by
  obtain ⟨-, o, hcheck, -, hkept, -⟩ := State.admitted_passed ha
  rw [State.lookup_found (State.staticCheck_lookup hcheck)] at hdom
  have dom : o.dom = .any := Option.some.inj hdom
  rw [Obj.kept, dom] at hkept
  exact hkept

/-- An admitted number comes to what its object's rule makes of it. -/
theorem State.putNum_rule {w : World} (heff : s.numEffect d i sub v w = some act) (hc : s.stateCheck o i sub v = 0)
    (hsame : s.sameValue d o i sub v = false) (hbusy : ¬ (isResultIx i = true ∧ sub = 1 ∧ s.busy i = true)) :
    s.putNum d o i sub v w = act := by
  cases act with
  | ok t => exact State.putNum_effect heff hc hbusy hsame
  | error a =>
    rw [State.putNum, heff]
    dsimp only
    rw [hc, if_neg (not_not_intro rfl), if_neg hbusy, ite_self]

section Rule
variable (ha : s.admitted d i sub v = some u) (hdom : (findObj i sub).map (·.dom) = some .any)
  (hrule : u.numEffect d i sub v World.plain = some act)
include ha hdom hrule

theorem State.write_accepted (hact : act = .ok t) : s.write d i sub v = .next (t.answered d i sub v) := by
  subst hact
  refine congrArg _ ((State.put_admitted ha ?_ fun o => State.putNum_rule hrule))
  exact fun hon => by rwa [State.admitted_value ha hdom]

/-- A request that is denied its tokens is counted and refused (R463). -/
theorem State.write_denied (hact : act = .error heldByOther) (hden : u.deniedTokens i sub v = true) :
    s.write d i sub v = .next ((u.setReg (key 0x2600 4) (min (u.reg (key 0x2600 4) + 1) 4294967295)).reply d i sub heldByOther 0 []) := by
  subst hact
  have value := State.admitted_value ha hdom
  have counted : u.refusal i sub (numberBytes i sub v) heldByOther = u.refuseBusy := if_pos ⟨rfl, by rwa [value]⟩
  refine congrArg _ ((State.put_admitted ha ?_ fun o => State.putNum_rule hrule).trans ?_)
  · exact fun hon => by rwa [value]
  · exact congrArg (fun u : State => u.reply d i sub heldByOther 0 []) counted

end Rule

theorem dom_calRequest : (findObj 0x2441 1).map (·.dom) = some .any := by rfl

theorem dom_bistRequest : (findObj 0x2501 1).map (·.dom) = some .any := by rfl

/-! ### Calibrations (R455) -/

section Cal
variable (hk : v % 256 = kind) (hn : bitsOf v 15 8 = n) (hr : ¬ (kind = 0 ∨ 3 < kind ∨ (kind = 3 ∧ 8 ≤ n) ∨ 16 ≤ n))
  (hp : u.stationPresent (if kind = 3 then n else n / 2) = true) (hrun : u.powerState = psRun) (hb : u.reg (Machine.calKey 2) ≠ 1)
include hk hn hr hp hrun hb

theorem State.calRequest_begins (ht : bitOf v 16 = false ∨ u.tokensFree (calTokens kind n) = true) :
    u.calRequest v = .ok (let w := ((u.beginResult 0x2441).modCal fun c => { c with
        round := some ⟨kind, n, if kind = 1 then List.range u.beams else [0], 0, 0, false⟩ }).forEach (calDomains kind n) State.tempWake
      (if w.tokensFree (calTokens kind n) then w else w.askTokens (.cal kind n) (calTokens kind n))) := by
  have tokens : ¬ (bitOf v 16 = true ∧ ¬ u.tokensFree (calTokens kind n) = true) := by
    rcases ht with ht | ht <;> simp [ht]
  have open_ : ¬ (u.powerState ≠ psRun ∨ u.reg (Machine.calKey 2) = 1) := not_or.mpr ⟨not_not_intro hrun, hb⟩
  unfold State.calRequest
  rw [hk, hn]
  dsimp only
  rw [if_neg hr, if_neg (not_not_intro hp), if_neg open_, if_neg tokens]

theorem State.calRequest_denied (hi : bitOf v 16 = true) (ht : u.tokensFree (calTokens kind n) = false) :
    u.calRequest v = .error heldByOther := by
  have open_ : ¬ (u.powerState ≠ psRun ∨ u.reg (Machine.calKey 2) = 1) := not_or.mpr ⟨not_not_intro hrun, hb⟩
  unfold State.calRequest
  rw [hk, hn]
  dsimp only
  rw [if_neg hr, if_neg (not_not_intro hp), if_neg open_, if_pos ⟨hi, Bool.eq_false_iff.mp ht⟩]
  rfl

end Cal

/-! ### BIST partitions (R466) -/

section Bist
variable (hk : v % 256 = kind) (hn : bitsOf v 15 8 = n) (hr : ¬ (kind = 0 ∨ 8 < kind ∨ partLimit kind ≤ n))
  (hp : u.partPresent kind n = true) (hm : u.bistMay kind n = true)
include hk hn hr hp hm

theorem State.bistRequest_begins (hrun : u.bistRun kind n = none) (ht : bitOf v 16 = false ∨ u.tokensFree (u.tokensOf kind n) = true) :
    u.bistRequest v = .ok ((u.beginResult 0x2501).bistAsk kind n .object) := by
  have free : ¬ ((u.bistRun kind n).isSome = true ∨ (bitOf v 16 = true ∧ ¬ u.tokensFree (u.tokensOf kind n) = true)) := by
    rw [hrun]
    rcases ht with ht | ht <;> simp [ht]
  unfold State.bistRequest
  rw [hk, hn]
  dsimp only
  rw [if_neg hr, if_neg (not_not_intro hp), if_neg (not_not_intro hm), if_neg free]

theorem State.bistRequest_denied (hi : bitOf v 16 = true) (ht : u.tokensFree (u.tokensOf kind n) = false) :
    u.bistRequest v = .error heldByOther := by
  unfold State.bistRequest
  rw [hk, hn]
  dsimp only
  rw [if_neg hr, if_neg (not_not_intro hp), if_neg (not_not_intro hm), if_pos (.inr ⟨hi, Bool.eq_false_iff.mp ht⟩)]
  rfl

end Bist

/-- An immediate request of a partition or a unit, kind 1. -/
theorem immediate_fields (hn : n < 16) : (65537 + 256 * n) % 256 = 1 ∧ bitsOf (65537 + 256 * n) 15 8 = n
    ∧ bitOf (65537 + 256 * n) 16 = true := by
  simp only [bitsOf, bitOf, beq_iff_eq]
  omega

/-! ### Stores and restores (R59) -/

/-- A store or a restore that carries its signature begins, unanswered. -/
theorem State.put_store {o : Obj} (ho : s.opened d i sub (numberBytes i sub v) = some u)
    (hc : u.staticCheck i sub (numberBytes i sub v) = .ok o) (hi : i = 0x1010 ∨ i = 0x1011)
    (hv : leNat (numberBytes i sub v) = if i = 0x1010 then 0x65766173 else 0x64616F6C) (hl : u.power.latched = false)
    (hs : u.nor.store = none) :
    s.write d i sub v = .next { u with nor := { u.nor with store := some (u.storeJob d i sub) } } := by
  have begun : u.storeRequest d i sub (leNat (numberBytes i sub v)) = .ok { u with nor := { u.nor with store := some (u.storeJob d i sub) } } := by
    rw [State.storeRequest, if_neg (Bool.eq_false_iff.mp hl), hs, if_neg (by decide), if_neg (not_not_intro hv)]
  refine congrArg _ ((State.access_opened _ ho).trans (State.serve_waits ?_))
  rw [State.take, hc]
  dsimp only
  rw [if_pos hi, begun]
  rfl

theorem signature_store (h1 : 1 ≤ sub) (h4 : sub ≤ 4) : leNat (numberBytes 0x1010 sub 0x65766173) = 0x65766173 := by
  interval_cases sub <;> rfl

theorem signature_restore (h1 : 1 ≤ sub) (h4 : sub ≤ 4) : leNat (numberBytes 0x1011 sub 0x64616F6C) = 0x64616F6C := by
  interval_cases sub <;> rfl

/-- A BIST request of a kind that is admitted where the partition may run asks for the run. -/
theorem State.write_bist (ha : s.admitted d 0x2501 1 v = some u) (hk : v % 256 = kind) (hn : bitsOf v 15 8 = n) (h1 : 1 ≤ kind)
    (h8 : kind ≤ 8) (hl : n < partLimit kind) (hp : u.partPresent kind n = true) (hm : u.bistMay kind n = true)
    (hrun : u.bistRun kind n = none) (ht : bitOf v 16 = false ∨ u.tokensFree (u.tokensOf kind n) = true) :
    s.write d 0x2501 1 v = .next (((u.beginResult 0x2501).bistAsk kind n .object).answered d 0x2501 1 v) :=
  State.write_accepted ha dom_bistRequest rfl (State.bistRequest_begins hk hn (by omega) hp hm hrun ht)

/-- Settles O18, command by command. -/
theorem maintenanceRequests : Obligations.MaintenanceRequests := by
  unfold Obligations.MaintenanceRequests
  intro s d
  refine ⟨?store, ?restore, ?calDenied, ?bistDenied, ?rf, ?dacs, ?motor, ?core, ?motorIo, ?frontEnd, ?channel, ?slice, ?segment, ?ec, ?chip⟩
  case store => exact fun sub o u ho hc h1 h4 hl hs => State.put_store ho hc (.inl rfl) (signature_store h1 h4) hl hs
  case restore => exact fun sub o u ho hc h1 h4 hl hs => State.put_store ho hc (.inr rfl) (signature_restore h1 h4) hl hs
  case calDenied =>
    intro n u ha hn hp hrun hb ht
    obtain ⟨hk, hf, hi⟩ := immediate_fields hn
    have denied : u.deniedTokens 0x2441 1 (65537 + 256 * n) = true := by
      simp [State.deniedTokens, hk, hf, hi, ht]
    exact State.write_denied ha dom_calRequest rfl (State.calRequest_denied hk hf (by omega) hp hrun hb hi ht) denied
  case bistDenied =>
    intro n u ha hn hp hm ht
    obtain ⟨hk, hf, hi⟩ := immediate_fields (n := n) (by omega)
    have denied : u.deniedTokens 0x2501 1 (65537 + 256 * n) = true := by
      simp [State.deniedTokens, hk, hf, hi, ht]
    exact State.write_denied ha dom_bistRequest rfl (State.bistRequest_denied hk hf (by simp [partLimit, hn]) hp hm hi ht) denied
  case rf =>
    exact fun v n u ha hk hf hn hp hrun hb ht =>
      State.write_accepted ha dom_calRequest rfl (State.calRequest_begins hk hf (by omega) hp hrun hb ht)
  case dacs =>
    exact fun v n u ha hk hf hn hp hrun hb ht =>
      State.write_accepted ha dom_calRequest rfl (State.calRequest_begins hk hf (by omega) hp hrun hb ht)
  case motor =>
    exact fun v n u ha hk hf hn hp hrun hb ht =>
      State.write_accepted ha dom_calRequest rfl (State.calRequest_begins hk hf (by omega) hp hrun hb ht)
  all_goals
    exact fun v n u ha hk hf hn hp hm hrun ht => State.write_bist ha hk hf (by decide) (by decide) hn hp hm hrun ht

end Sys2Proof.Machine
end

section
/-! The microwords that act on fields, loops, gates, lasers, the pickup and the profiles (R20, R175, R213, R227 to R229, R238,
Table 9.1): each word by its cases, then the obligation. -/

namespace Sys2Proof.Machine

variable {s t u : State} {q d r imm : Nat}

/-! ### Masks, plain and with bit 17 -/

theorem bitOf_set {k : Nat} (hk : k < 17) : bitOf (131072 + imm) k = bitOf imm k := by
  have even : 131072 = 2 ^ k * (2 * 2 ^ (16 - k)) := by
    rw [← Nat.mul_assoc, Nat.mul_comm (2 ^ k) 2, Nat.mul_assoc, ← Nat.pow_add, Nat.add_sub_cancel' (by omega)]
  rw [bitOf, bitOf, even, Nat.mul_add_div (Nat.two_pow_pos k), Nat.mul_add_mod]

theorem bitOf_set_17 (hi : imm < 131072) : bitOf (131072 + imm) 17 = true := by
  simp only [bitOf, beq_iff_eq]
  omega

theorem bitOf_plain_17 (hi : imm < 131072) : bitOf imm 17 = false := by
  simp only [bitOf, beq_eq_false_iff_ne]
  omega

theorem bitsIn_set {n : Nat} (hn : n ≤ 17) : bitsIn n (131072 + imm) = bitsIn n imm :=
  List.filter_congr fun _ hk => bitOf_set (Nat.lt_of_lt_of_le (List.mem_range.mp hk) hn)

theorem isHead_true (hq : q < 16) : isHead q = true := decide_eq_true hq

theorem isHead_false (hq : 16 ≤ q) : isHead q = false := decide_eq_false (Nat.not_lt.mpr hq)

/-! ### Fields (R228, R229) -/

theorem execFld_reads {from_ : Nat} {w : BitVec 32} (h : s.runsWord q 17 d r imm = true) (hi : bitOf imm 16 = false)
    (hf : from_ = if bitOf imm 17 = true then ((s.sq q).reg r).toNat else imm)
    (hw : s.fieldRead (fieldIx q from_) (fieldSub from_) = some w) :
    ∃ t, execFld q d r imm s = .next t ∧ s.OnlySeq t q { s.sq q with pc := (s.sq q).nextPc, m := (s.sq q).m.set d w } [] := by
  subst hf
  refine ⟨_, micro_next h hi (t := s.putM q d w) ?_, (onlySeq_putM s q d w).spinLeft rfl⟩
  dsimp only
  rw [hw]

theorem execFld_none {from_ : Nat} (h : s.runsWord q 17 d r imm = true) (hi : bitOf imm 16 = false)
    (hf : from_ = if bitOf imm 17 = true then ((s.sq q).reg r).toNat else imm)
    (hw : s.fieldRead (fieldIx q from_) (fieldSub from_) = none) :
    ∃ t, execFld q d r imm s = .next t
      ∧ s.OnlySeq t q { s.sq q with pc := (s.sq q).nextPc, m := (s.sq q).m.set d 0, v := true } [] := by
  subst hf
  have clear : s.OnlySeq ((s.modSq q fun x => { x with v := true }).putM q d 0) q
      { s.sq q with pc := (s.sq q).nextPc, m := (s.sq q).m.set d 0, v := true } [] :=
    onlySeq_pre (f := fun x => { x with v := true }) (onlySeq_sub (onlySeq_putM _ q d 0) (by rw [sq_modSq_same]; rfl))
  refine ⟨_, micro_next h hi (t := (s.modSq q fun x => { x with v := true }).putM q d 0) ?_, clear.spinLeft rfl⟩
  dsimp only
  rw [hw]

section Fst
variable {dst : Nat} (h : s.runsWord q 18 d r imm = true) (hi : bitOf imm 16 = false)
  (hf : dst = if bitOf imm 17 = true then ((s.sq q).reg d).toNat else imm)
include h hi hf

theorem execFst_writes (hw : s.fieldWrite q (fieldIx q dst) (fieldSub dst) ((s.sq q).reg r) = .ok u) :
    execFst q d r imm s = .next ((u.nextWord q).spinLeft s q) := by
  subst hf
  refine micro_next h hi ?_
  dsimp only
  rw [hw]

theorem execFst_refused {why : Nat} (hw : s.fieldWrite q (fieldIx q dst) (fieldSub dst) ((s.sq q).reg r) = .error why) :
    execFst q d r imm s = .next ((s.latheRefuse q why).spinLeft s q) := by
  subst hf
  refine micro_next h hi ?_
  dsimp only
  rw [hw]

end Fst

/-! ### Loop commands and holds (R134, R140) -/

theorem lcmd_own (hp : s.loopPresent q d = true) (hq : q < 16 ∨ d = 0) :
    ¬ (¬ s.loopPresent q d = true ∨ (¬ isHead q = true ∧ d ≠ 0)) := by
  rintro (hn | ⟨hn, hd⟩)
  · exact hn hp
  · exact hq.elim (fun hq => hn (isHead_true hq)) hd

section Lcmd
variable (h : s.runsWord q 19 d 0 imm = true) (hi : imm < 5) (h3 : imm ≠ 3)
include hi h3

theorem lcmd_mode : (8 ≤ imm || imm == 3 || 5 ≤ imm) = false := by
  simp
  omega

include h

theorem execLcmd_foreign (hl : s.loopPresent q d = false ∨ (16 ≤ q ∧ d ≠ 0)) :
    execLcmd q d imm s = .next ((s.latheRefuse q 5).spinLeft s q) := by
  refine micro_next h (lcmd_mode hi h3) (if_pos ?_)
  rcases hl with hl | ⟨hq, hd⟩
  · exact .inl (by simp [hl])
  · exact .inr ⟨by simp [isHead_false hq], hd⟩

variable (hp : s.loopPresent q d = true) (hq : q < 16 ∨ d = 0)
include hp hq

theorem execLcmd_shielded (hs : s.shielded q d = true) :
    execLcmd q d imm s = .next ((if imm = 4 then s.latheRefuse q 6 else s).spinLeft s q) :=
  micro_next h (lcmd_mode hi h3) ((if_neg (lcmd_own hp hq)).trans (if_pos hs))

theorem execLcmd_acts (hs : s.shielded q d = false) (hc : s.loopCommand q d imm = some u) :
    execLcmd q d imm s = .next ((u.nextWord q).spinLeft s q) :=
  micro_next h (lcmd_mode hi h3) ((if_neg (lcmd_own hp hq)).trans ((if_neg (Bool.eq_false_iff.mp hs)).trans (by rw [hc])))

theorem execLcmd_none (hs : s.shielded q d = false) (hc : s.loopCommand q d imm = none) :
    execLcmd q d imm s = .next ((s.latheRefuse q 4).spinLeft s q) :=
  micro_next h (lcmd_mode hi h3) ((if_neg (lcmd_own hp hq)).trans ((if_neg (Bool.eq_false_iff.mp hs)).trans (by rw [hc])))

end Lcmd

section Hold
variable (hi : imm < 4096)
include hi

theorem execHold_clears (h : s.runsWord q 20 0 0 imm = true) : execHold q imm s = .next (((s.forEach
    ((bitsIn 12 imm).filter fun l => s.loopPresent q l && (isHead q || l == 0)) fun u l => u.clearCause q l hcLathe).nextWord q).spinLeft s q) := by
  have plain : (bitsOf imm 16 12 != 0) = false := by
    simp only [bitsOf, bne_eq_false_iff_eq]
    omega
  refine micro_next h plain ?_
  rw [bitOf_plain_17 (by omega)]
  rfl

theorem execHold_sets (h : s.runsWord q 20 0 0 (131072 + imm) = true) : execHold q (131072 + imm) s = .next (((s.forEach
    ((bitsIn 12 imm).filter fun l => s.loopPresent q l && (isHead q || l == 0)) fun u l =>
      if u.loopState q l = lsClosed ∨ u.loopState q l = lsHold then (u.setCause q l hcLathe).modLp q l fun p => { p with lathe := 0 }
      else u).nextWord q).spinLeft s q) := by
  have plain : (bitsOf (131072 + imm) 16 12 != 0) = false := by
    simp only [bitsOf, bne_eq_false_iff_eq]
    omega
  refine micro_next h plain ?_
  rw [bitOf_set_17 (by omega), bitsIn_set (by decide)]
  rfl

end Hold

/-! ### Gates and lasers (R159, R175, R181) -/

section Mask
variable (hi : imm < 256)
include hi

theorem mask_reserved : (bitsOf imm 16 8 != 0) = false ∧ (bitsOf (131072 + imm) 16 8 != 0) = false := by
  simp only [bitsOf, bne_eq_false_iff_eq]
  omega

theorem execGate_closes (h : s.runsWord q 21 0 0 imm = true) : execGate q imm s = .next ((if q < 16 then
    (((s.forEach (bitsIn 8 imm) fun u b => u.cutBeam q b).gatesView q).nextWord q) else s.nextWord q).spinLeft s q) := by
  refine micro_next h (mask_reserved hi).1 ?_
  rw [bitOf_plain_17 (by omega), Nat.mod_eq_of_lt hi]
  by_cases hq : q < 16
  · rw [isHead_true hq, if_pos hq]
    rfl
  · rw [isHead_false (Nat.not_lt.mp hq), if_neg hq]
    rfl

theorem execLaser_off (h : s.runsWord q 22 0 0 imm = true) : execLaser q imm s = .next ((if q < 16 then
    (s.lasersOff q ((bitsIn 8 imm).filter (· < s.beams))).nextWord q else s.latheRefuse q 5).spinLeft s q) := by
  refine micro_next h (mask_reserved hi).1 ?_
  rw [State.headOnly, bitOf_plain_17 (by omega)]
  by_cases hq : q < 16
  · rw [isHead_true hq, if_pos hq]
    rfl
  · rw [isHead_false (Nat.not_lt.mp hq), if_neg hq]
    rfl

section Opens
variable (h : s.runsWord q 21 0 0 (131072 + imm) = true)
include h

theorem execGate_station (hq : 16 ≤ q) : execGate q (131072 + imm) s = .next ((s.nextWord q).spinLeft s q) := by
  refine micro_next h (mask_reserved hi).2 ?_
  rw [isHead_false hq]
  rfl

theorem execGate_customer (hq : q < 16) (hc : 0x3800 ≤ (s.sq q).pc) :
    execGate q (131072 + imm) s = .next ((s.orderRejected q 7).spinLeft s q) := by
  refine micro_next h (mask_reserved hi).2 ?_
  rw [isHead_true hq, bitOf_set_17 (by omega), Seq.inCustomer_iff.mpr hc]
  rfl

theorem execGate_opens (hq : q < 16) (hc : (s.sq q).pc < 0x3800) {going : Bool}
    (hg : going = ((s.substate q == hsFollowing || s.substate q == hsWriting) && s.pilotOk q && !(s.hd q).inhibited && !s.tiltWait q
      && s.loopState q 0 == lsClosed && s.loopState q 1 == lsClosed && ((bitsIn 8 imm).all fun b => s.canWrite q b)))
    (hu : u = s.forEach (bitsIn 8 imm) fun u b => match (u.hd q).gates[b]? with
      | some g => if g.open_ then u else u.beginCluster q b g.next
      | none => u) :
    execGate q (131072 + imm) s = .next ((if going = true then (if (bitsIn 8 imm).isEmpty then u else u.beginWriting q).nextWord q
      else s.latheRefuse q 6).spinLeft s q) := by
  refine micro_next h (mask_reserved hi).2 ?_
  have vendor : ¬ (s.sq q).inCustomer = true := fun hin => Nat.not_lt.mpr (Seq.inCustomer_iff.mp hin) hc
  have low : (131072 + imm) % 256 = imm := by omega
  have forbidden : (!(s.substate q == hsFollowing || s.substate q == hsWriting) || !s.pilotOk q || (s.hd q).inhibited || s.tiltWait q
      || s.loopState q 0 != lsClosed || s.loopState q 1 != lsClosed || (bitsIn 8 imm).any fun b => !s.canWrite q b) = !going := by
    rw [hg]
    simp [bne, Bool.or_assoc, List.not_all_eq_any_not]
  rw [isHead_true hq, bitOf_set_17 (by omega), low]
  refine (if_neg vendor).trans ?_
  rw [forbidden, hu]
  cases going
  · rfl
  · rfl

end Opens

section Lights
variable (h : s.runsWord q 22 0 0 (131072 + imm) = true)
include h

theorem execLaser_station (hq : 16 ≤ q) : execLaser q (131072 + imm) s = .next ((s.latheRefuse q 5).spinLeft s q) := by
  refine micro_next h (mask_reserved hi).2 ?_
  rw [State.headOnly, isHead_false hq]
  rfl

theorem execLaser_head (hq : q < 16) (ht : (if ((bitsIn 8 imm).filter (· < s.beams)).any fun b => s.noGain q (4 + b) then s.latheRefuse q 4
    else if s.laserAllowed q then (s.forEach ((bitsIn 8 imm).filter (· < s.beams)) fun u b => u.laserOn q b).nextWord q
    else s.latheRefuse q 6) = t) : execLaser q (131072 + imm) s = .next (t.spinLeft s q) := by
  refine micro_next h (mask_reserved hi).2 (Eq.trans ?_ ht)
  rw [State.headOnly, isHead_true hq, bitOf_set_17 (by omega), bitsIn_set (by decide)]
  rfl

end Lights

end Mask

/-! ### The pickup and the profiles (R213, R238) -/

section Pkl
variable (h1 : 1 ≤ imm) (h15 : imm ≤ 15) (h : s.runsWord q 23 0 r imm = true)
include h1 h15

theorem pkl_kind : (256 ≤ imm || imm == 0 || 15 < imm) = false := by
  simp
  omega

include h

theorem execPkl_sends (hq : q < 16) (hc : (s.sq q).pc < 0x3800 ∨ imm = 1) :
    execPkl q r imm s = .next (((s.emit (.pkl q imm ((s.sq q).reg r).toNat)).nextWord q).spinLeft s q) := by
  have may : ¬ ((s.sq q).inCustomer = true ∧ imm ≠ 1) := fun ⟨hin, hne⟩ =>
    hc.elim (Nat.not_lt.mpr (Seq.inCustomer_iff.mp hin)) hne
  refine micro_next h (pkl_kind h1 h15) ?_
  rw [State.headOnly, isHead_true hq]
  exact if_neg may

theorem execPkl_customer (hq : q < 16) (hc : 0x3800 ≤ (s.sq q).pc) (hne : imm ≠ 1) :
    execPkl q r imm s = .next ((s.orderRejected q 7).spinLeft s q) := by
  refine micro_next h (pkl_kind h1 h15) ?_
  have reserved : (s.sq q).inCustomer = true ∧ imm ≠ 1 := ⟨Seq.inCustomer_iff.mpr hc, hne⟩
  rw [State.headOnly, isHead_true hq]
  exact if_pos reserved

theorem execPkl_station (hq : 16 ≤ q) : execPkl q r imm s = .next ((s.latheRefuse q 5).spinLeft s q) := by
  refine micro_next h (pkl_kind h1 h15) ?_
  rw [State.headOnly, isHead_false hq]
  rfl

end Pkl

section Prof
variable (h : s.runsWord q 28 d r 0 = true)
include h

theorem execProf_sled (hq : q < 16) (hd : d = 0) (hs : s.reg (sledKey q 0x1C) = 1) (hr : s.sledReach q (((s.sq q).reg r).toInt * 1000) = true) :
    execProf q d r 0 s = .next (((s.sledProfile q (((s.sq q).reg r).toInt * 1000)).nextWord q).spinLeft s q) := by
  refine micro_next h rfl ?_
  rw [isHead_true hq]
  exact (if_neg (not_not_intro hd)).trans (if_pos ⟨hs, hr⟩)

theorem execProf_sled_refused (hq : q < 16) (hd : d = 0)
    (hs : s.reg (sledKey q 0x1C) ≠ 1 ∨ s.sledReach q (((s.sq q).reg r).toInt * 1000) = false) :
    execProf q d r 0 s = .next ((s.latheRefuse q 4).spinLeft s q) := by
  refine micro_next h rfl ?_
  rw [isHead_true hq]
  refine (if_neg (not_not_intro hd)).trans (if_neg ?_)
  rintro ⟨hk, hr⟩
  exact hs.elim (· hk) fun hn => Bool.eq_false_iff.mp hn hr

theorem execProf_axis (hd : (q < 16 ∧ d ≠ 0) ∨ (16 ≤ q ∧ 1 < d)) : execProf q d r 0 s = .next ((s.latheRefuse q 5).spinLeft s q) := by
  refine micro_next h rfl ?_
  rcases hd with ⟨hq, hd⟩ | ⟨hq, hd⟩
  · rw [isHead_true hq]
    exact if_pos hd
  · rw [isHead_false hq]
    have axis : d ≠ 0 ∧ d ≠ 1 := by omega
    exact (if_neg axis.1).trans (if_neg axis.2)

variable (hq : 16 ≤ q)
include hq

theorem execProf_speed (hd : d = 0) (hv : ((s.sq q).reg r).toNat < 65536) : execProf q d r 0 s
    = .next (((s.setReg (stKey (engStation q) 0x12 1) ((s.sq q).reg r).toNat).nextWord q).spinLeft s q) := by
  have value : ((s.sq q).reg r).toInt = ((s.sq q).reg r).toNat := BitVec.toInt_eq_toNat_of_lt (by omega)
  refine micro_next h rfl ?_
  rw [isHead_false hq]
  refine (if_pos hd).trans ((if_pos ?_).trans ?_)
  · omega
  · rw [value]
    rfl

theorem execProf_speed_refused (hd : d = 0) (hv : 65536 ≤ ((s.sq q).reg r).toNat) :
    execProf q d r 0 s = .next ((s.latheRefuse q 4).spinLeft s q) := by
  refine micro_next h rfl ?_
  rw [isHead_false hq]
  refine (if_pos hd).trans (if_neg ?_)
  rw [BitVec.toInt_eq_toNat_cond]
  split <;> omega

theorem execProf_clamp (hd : d = 1) (hpos : ((s.sq q).reg r).toInt ≥ 0) (hl : ((s.sq q).reg r).toNat ≤ s.reg (clampKey (engStation q) 0x0A))
    (hs : s.spinState (engStation q) = 0) {out : Bool} (ho : out = decide ((s.reg (clampKey (engStation q) 0x0D) : Int) < ((s.sq q).reg r).toInt)) :
    execProf q d r 0 s = .next (((s.startStroke (engStation q) (if out then .clamp else .unclamp) (if out then 2 else 5)).nextWord q).spinLeft s q) := by
  subst ho
  have value : ((s.sq q).reg r).toInt.toNat = ((s.sq q).reg r).toNat := by
    rw [BitVec.toInt_eq_toNat_cond] at hpos ⊢
    split at hpos <;> omega
  have reach : 0 ≤ ((s.sq q).reg r).toInt ∧ ((s.sq q).reg r).toInt.toNat ≤ s.reg (clampKey (engStation q) 0x0A)
      ∧ s.spinState (engStation q) = 0 := ⟨hpos, value ▸ hl, hs⟩
  have clamp : d ≠ 0 := by omega
  refine micro_next h rfl ?_
  rw [isHead_false hq]
  refine (if_neg clamp).trans ((if_pos hd).trans ((if_pos reach).trans ?_))
  simp only [decide_eq_true_eq]

theorem execProf_clamp_refused (hd : d = 1) (hn : ((s.sq q).reg r).toInt < 0 ∨ s.reg (clampKey (engStation q) 0x0A) < ((s.sq q).reg r).toNat
    ∨ s.spinState (engStation q) ≠ 0) : execProf q d r 0 s = .next ((s.latheRefuse q 4).spinLeft s q) := by
  have value : 0 ≤ ((s.sq q).reg r).toInt → ((s.sq q).reg r).toInt.toNat = ((s.sq q).reg r).toNat := fun hpos => by
    rw [BitVec.toInt_eq_toNat_cond] at hpos ⊢
    split at hpos <;> omega
  have clamp : d ≠ 0 := by omega
  refine micro_next h rfl ?_
  rw [isHead_false hq]
  refine (if_neg clamp).trans ((if_pos hd).trans (if_neg ?_))
  rintro ⟨hpos, hl, hs⟩
  have := value hpos
  omega

end Prof

theorem execPost_posts (hi : imm < 65536) (h : s.runsWord q 29 0 r imm = true) : execPost q r imm s
    = .next (((s.note imm (engSource q) (leBytes 4 ((s.sq q).reg r).toNat)).nextWord q).spinLeft s q) :=
  micro_next h (decide_eq_false (Nat.not_le.mpr hi)) rfl

/-- A word whose effect leaves the state is no end of a spin-up. -/
theorem State.spinLeft_self : s.spinLeft s q = s := State.spinLeft_same rfl

/-- Settles O4, word by word, from the cases above. -/
theorem actingMicrowords : Obligations.ActingMicrowords := by
  unfold Obligations.ActingMicrowords
  intro s q d r imm x v st ends from_ dst set_ bs lit mine going
  refine ⟨?fld, ?fldNone, ?fst, ?fstRefused, ?lcmd, ?hold, ?gateCloses, ?gateOpens, ?laserOff, ?laserOn, ?pkl, ?prof, ?post⟩
  case fld => exact fun w h hi hw => execFld_reads h hi rfl hw
  case fldNone => exact fun h hi hw => execFld_none h hi rfl hw
  case fst => exact fun u h hi hw => execFst_writes h hi rfl hw
  case fstRefused => exact fun why h hi hw => execFst_refused h hi rfl hw
  case lcmd =>
    intro h hi h3
    refine ⟨execLcmd_foreign h hi h3, fun hp hq => ⟨fun u hs hc => execLcmd_acts h hi h3 hp hq hs hc,
      fun hs hc => execLcmd_none h hi h3 hp hq hs hc, fun hs h4 => ?_, fun hs h4 => ?_⟩⟩
    · exact (execLcmd_shielded h hi h3 hp hq hs).trans (by rw [if_pos h4])
    · exact (execLcmd_shielded h hi h3 hp hq hs).trans (by rw [if_neg h4, State.spinLeft_self])
  case hold => exact fun hi => ⟨execHold_clears hi, execHold_sets hi⟩
  case gateCloses => exact fun hi h => execGate_closes hi h
  case gateOpens =>
    intro hi h
    refine ⟨execGate_station hi h, execGate_customer hi h, fun hq hc hg => ?_, fun hq hc hg => ?_⟩
    · exact (execGate_opens hi h hq hc rfl rfl).trans (by rw [if_neg (Bool.eq_false_iff.mp hg)])
    · refine (execGate_opens hi h hq hc rfl rfl).trans ?_
      rw [if_pos hg] <;> rfl
  case laserOff => exact fun hi h => execLaser_off hi h
  case laserOn =>
    intro hi h
    refine ⟨execLaser_station hi h, fun hq hg => execLaser_head hi h hq (if_pos hg), fun hq hg hno => ?_, fun hq hg ho hl hr => ?_⟩
    · have dark : ¬ s.laserAllowed q = true := by
        rcases hno with hn | hn | hn <;> simp [State.laserAllowed, hn]
      exact execLaser_head hi h hq ((if_neg (Bool.eq_false_iff.mp hg)).trans (if_neg dark))
    · have allowed : s.laserAllowed q = true := by simp [State.laserAllowed, ho, hl, hr]
      exact execLaser_head hi h hq ((if_neg (Bool.eq_false_iff.mp hg)).trans (if_pos allowed))
  case pkl =>
    exact fun h1 h15 h => ⟨execPkl_sends h1 h15 h, execPkl_customer h1 h15 h, execPkl_station h1 h15 h⟩
  case prof =>
    exact fun h => ⟨execProf_sled h, execProf_sled_refused h, execProf_axis h, execProf_speed h, execProf_speed_refused h,
      fun hq hd hp hl hs => execProf_clamp h hq hd hp hl hs rfl, execProf_clamp_refused h⟩
  case post => exact fun hi h => execPost_posts hi h

end Sys2Proof.Machine
end

section
/-! A station's pins and its late strobes (R105, R116, R118, R119, R124): each event by its cases, then the obligation. -/

namespace Sys2Proof.Machine

variable {s : State} {i who : Nat} {high : Bool}

theorem State.coresUp_iff : s.coresUp = true ↔ s.powerState = psRun ∨ s.powerState = psBoot := by
  rw [State.coresUp, Bool.or_eq_true, beq_iff_eq, beq_iff_eq]

theorem State.coresUp_false : s.coresUp = false ↔ ¬ (s.powerState = psRun ∨ s.powerState = psBoot) := by
  rw [← State.coresUp_iff, Bool.not_eq_true]

theorem State.not_down (h : s.coresUp = true) : ¬ (!s.coresUp) = true := by
  rw [h]
  decide

theorem State.is_down (h : s.coresUp = false) : (!s.coresUp) = true := by
  rw [h]
  rfl

/-! ### The interlock (R118) -/

/-- The heads dropped by an interlock that opens. -/
def State.ilkDropped (s : State) (i : Nat) : State :=
  ((s.modPins fun p => { p with ilkOpen := setBit p.ilkOpen i }).headDrop (2 * i)).headDrop (2 * i + 1)

/-- What the station's state machine makes of an interlock that opens. -/
def State.ilkSpun (s : State) (i : Nat) : State :=
  if (s.ilkDropped i).stState i = stReady ∨ (s.ilkDropped i).stState i = stActive then
    ((((s.ilkDropped i).pinView i).setStation i stSpinning 0x24).bump (stKey i 0xE0 6)).modStn i fun t => { t with resuming := true }
  else (s.ilkDropped i).pinView i

theorem State.ilkOpens_open (h : s.ilkOpen i = true) : s.ilkOpens i = s := if_pos h

theorem State.ilkOpens_up (h : s.ilkOpen i = false) (hu : (s.ilkDropped i).coresUp = true) : s.ilkOpens i =
    if (s.ilkSpun i).acquiring i = true then ((s.ilkSpun i).modStn i fun t => { t with offered := false }).setStFlag i 7 true
    else (s.ilkSpun i).modStn i fun t => { t with offered := false } :=
  (if_neg (Bool.eq_false_iff.mp h)).trans (if_neg (State.not_down hu))

theorem State.ilkOpens_down (h : s.ilkOpen i = false) (hd : (s.ilkDropped i).coresUp = false) : s.ilkOpens i = s.ilkDropped i :=
  (if_neg (Bool.eq_false_iff.mp h)).trans (if_pos (State.is_down hd))

theorem State.ilkCloses_closed (h : s.ilkOpen i = false) : s.ilkCloses i = s := if_neg (Bool.eq_false_iff.mp h)

theorem State.ilkCloses_up (h : s.ilkOpen i = true) (hu : s.coresUp = true) : s.ilkCloses i =
    ((s.modPins fun p => { p with ilkOpen := p.ilkOpen - (if bitOf p.ilkOpen i then 2 ^ i else 0) }).pinView i).setStFlag i 7 false :=
  (if_pos h).trans (if_pos hu)

theorem State.ilkCloses_down (h : s.ilkOpen i = true) (hd : s.coresUp = false) : s.ilkCloses i =
    s.modPins fun p => { p with ilkOpen := p.ilkOpen - (if bitOf p.ilkOpen i then 2 ^ i else 0) } :=
  (if_pos h).trans (if_neg (Bool.eq_false_iff.mp hd))

/-! ### The disc sensor (R116) -/

/-- A disc is clamped in the station, as far as the sensor's mismatch goes. -/
def State.discClamped (s : State) (i : Nat) : Prop :=
  (stClamped ≤ s.stState i ∧ s.stState i ≤ stActive) ∨ (s.stState i = stMaint ∧ stClamped ≤ (s.stn i).maintFrom)

theorem State.discPres_up (hu : s.coresUp = true) : s.discPres i high =
    if s.discHigh i = true ∧ ¬ high = true ∧ (decide (stClamped ≤ s.stState i ∧ s.stState i ≤ stActive)
      || (s.stState i == stMaint && decide (stClamped ≤ (s.stn i).maintFrom))) = true then
      ((s.modPins fun p => { p with discPres := pinSet p.discPres i high }).pinView i).discMismatch i
    else (s.modPins fun p => { p with discPres := pinSet p.discPres i high }).pinView i :=
  if_neg (State.not_down (s := s.modPins fun p => { p with discPres := pinSet p.discPres i high }) hu)

theorem State.discClamped_iff : (decide (stClamped ≤ s.stState i ∧ s.stState i ≤ stActive)
    || (s.stState i == stMaint && decide (stClamped ≤ (s.stn i).maintFrom))) = true ↔ s.discClamped i := by
  simp [State.discClamped]

theorem State.discPres_falls (hu : s.coresUp = true) (hw : s.discHigh i = true) (hl : high = false) (hc : s.discClamped i) :
    s.discPres i high = ((s.modPins fun p => { p with discPres := pinSet p.discPres i high }).pinView i).discMismatch i :=
  (State.discPres_up hu).trans (if_pos ⟨hw, Bool.eq_false_iff.mp hl, State.discClamped_iff.mpr hc⟩)

theorem State.discPres_follows (hu : s.coresUp = true) (hn : s.discHigh i = false ∨ high = true ∨ ¬ s.discClamped i) :
    s.discPres i high = (s.modPins fun p => { p with discPres := pinSet p.discPres i high }).pinView i := by
  refine (State.discPres_up hu).trans (if_neg ?_)
  rintro ⟨hw, hl, hc⟩
  exact hn.elim (fun h => Bool.eq_false_iff.mp h hw) (Or.elim · hl (· (State.discClamped_iff.mp hc)))

theorem State.discPres_down (hd : s.coresUp = false) :
    s.discPres i high = s.modPins fun p => { p with discPres := pinSet p.discPres i high } :=
  if_pos (State.is_down (s := s.modPins fun p => { p with discPres := pinSet p.discPres i high }) hd)

/-! ### Late strobes (R124) -/

theorem State.strobeTimeout_noCommand (hc : (s.stn i).cmd = none) : s.strobeTimeout i 3 = s := by
  rw [State.strobeTimeout, if_pos rfl, hc]

theorem State.strobeTimeout_unarmed {c : StnCmd} (hc : (s.stn i).cmd = some c)
    (hn : c.taken = false ∨ c.strobe = 0 ∨ c.steps.head? ≠ some .spinUp) : s.strobeTimeout i 3 = s := by
  rw [State.strobeTimeout, if_pos rfl, hc]
  refine if_neg ?_
  rintro ⟨ht, hs, hh⟩
  exact hn.elim (fun h => Bool.eq_false_iff.mp h ht) (Or.elim · hs (· hh))

theorem State.strobeTimeout_noWait (h3 : who ≠ 3) (hw : ∀ n, (s.sq (seqOf i who)).wait ≠ .strobe n) : s.strobeTimeout i who = s := by
  rw [State.strobeTimeout, if_neg h3]
  dsimp only
  split
  · next n hn => exact absurd hn (hw n)
  · rfl

/-- Settles O51, event by event. -/
theorem stationSensorsAndStrobes : Obligations.StationSensorsAndStrobes := by
  unfold Obligations.StationSensorsAndStrobes
  intro s i h n who high c rest t up dropped live seen spun opened closed pin clamped clamps idles armed fail late
  refine ⟨?opens, ?opensUp, ?opensDown, ?closes, ?closesUp, ?closesDown, ?falls, ?follows, ?sensorDown, ?clamps, ?clampsNot, ?idles,
    ?idlesNot, ?armed, ?noCommand, ?unarmed, ?head0, ?head1, ?station, ?noWait, ?late, ?notLate⟩
  case opens => exact fun ho => congrArg _ (State.ilkOpens_open ho)
  case opensUp => exact fun ho hl => congrArg _ (State.ilkOpens_up ho (State.coresUp_iff.mpr hl))
  case opensDown => exact fun ho hl => congrArg _ (State.ilkOpens_down ho (State.coresUp_false.mpr hl))
  case closes => exact fun ho => congrArg _ (State.ilkCloses_closed ho)
  case closesUp => exact fun ho hu => congrArg _ (State.ilkCloses_up ho (State.coresUp_iff.mpr hu))
  case closesDown => exact fun ho hu => congrArg _ (State.ilkCloses_down ho (State.coresUp_false.mpr hu))
  case falls => exact fun hu hw hl hc => congrArg _ (State.discPres_falls (State.coresUp_iff.mpr hu) hw hl hc)
  case follows => exact fun hu hn => congrArg _ (State.discPres_follows (State.coresUp_iff.mpr hu) hn)
  case sensorDown => exact fun hu => congrArg _ (State.discPres_down (State.coresUp_false.mpr hu))
  case clamps =>
    rintro ⟨hs, ha, hd, hc, ho⟩
    exact next_pos ⟨hs, ha, hd, Option.isNone_iff_eq_none.mpr hc, Bool.eq_false_iff.mp ho⟩
  case clampsNot =>
    refine fun hn => next_neg ?_
    rintro ⟨hs, ha, hd, hc, ho⟩
    exact hn ⟨hs, ha, hd, Option.isNone_iff_eq_none.mp hc, Bool.eq_false_iff.mpr ho⟩
  case idles =>
    rintro ⟨hs, ht, hd, hc⟩
    exact next_pos ⟨hs, ht, Bool.eq_false_iff.mp hd, Option.isNone_iff_eq_none.mpr hc⟩
  case idlesNot =>
    refine fun hn => next_neg ?_
    rintro ⟨hs, ht, hd, hc⟩
    exact hn ⟨hs, ht, Bool.eq_false_iff.mpr hd, Option.isNone_iff_eq_none.mp hc⟩
  case armed => exact fun ⟨hc, ht, hs, hu⟩ => congrArg _ (State.strobeTimeout_command hc ht hs hu)
  case noCommand => exact fun hc => congrArg _ (State.strobeTimeout_noCommand hc)
  case unarmed => exact fun hc hn => congrArg _ (State.strobeTimeout_unarmed hc hn)
  case head0 => exact fun hw => congrArg _ (State.strobeTimeout_sequencer (who := 0) (by decide) hw)
  case head1 => exact fun hw => congrArg _ (State.strobeTimeout_sequencer (who := 1) (by decide) hw)
  case station => exact fun hw => congrArg _ (State.strobeTimeout_sequencer (who := 2) (by decide) hw)
  case noWait => exact fun h3 hw => congrArg _ (State.strobeTimeout_noWait h3 hw)
  case late => exact fun hl => next_pos hl
  case notLate => exact fun hl => next_neg hl

end Sys2Proof.Machine
end

section
/-! A station's commands, its scheduling points and its media operations (R14, R91, R107 to R122, R359, R364). -/

namespace Sys2Proof.Machine

variable {s t u : State} {i nsid cl a side g : Nat} {st : StnStep} {out : StepOut} {c : StnCmd} {rest : List StnStep} {o : MediaOp}

/-! ### The step that runs (R109) -/

/-- The outcome is one that the step can come to. -/
def outcomeOf (out : StepOut) (st : StnStep) : Prop :=
  match out with
  | .ok => True
  | .mismatch _ => st = .checkStore
  | .recognised _ | .identity .. | .unknownMedium => st = .acquire
  | .metadata .. | .pinned .. => st = .attach
  | .noPlace => st = .drain

theorem State.stepDone_noCommand (hn : (s.stn i).cmd = none) : s.stepDone i out = s := by
  rw [State.stepDone, hn]

section Step
variable (hc : (s.stn i).cmd = some c)
include hc

theorem State.stepDone_noStep (hn : c.taken = false ∨ c.steps = []) : s.stepDone i out = s := by
  have none : (if c.taken = true then c.steps else []) = [] := by
    rcases hn with hn | hn <;> simp [hn]
  unfold State.stepDone
  rw [hc]
  dsimp only
  rw [none]

variable (ht : c.taken = true)
include ht

theorem State.stepDone_ok (hs : c.steps = st :: rest) : s.stepDone i .ok = if s.stepReady i st = true then s.stepEnds i c st else s := by
  unfold State.stepDone
  rw [hc]
  dsimp only
  rw [ht, hs]
  rfl

theorem State.stepDone_other (hs : c.steps = st :: rest) (ho : ¬ outcomeOf out st) : s.stepDone i out = s := by
  unfold State.stepDone
  rw [hc]
  dsimp only
  rw [if_pos ht, hs]
  dsimp only
  split
  · exact absurd trivial ho
  · exact absurd rfl ho
  · exact absurd rfl ho
  · exact absurd rfl ho
  · exact absurd rfl ho
  · exact absurd rfl ho
  · exact absurd rfl ho
  · exact absurd rfl ho
  · rfl

theorem State.stepDone_mismatch (hs : c.steps = .checkStore :: rest) : s.stepDone i (.mismatch a) = s.storeMismatch i a := by
  unfold State.stepDone
  rw [hc]
  dsimp only
  rw [ht, hs]
  rfl

section Acquire
variable (hs : c.steps = .acquire :: rest)
include hs

theorem State.stepDone_recognised {m : Medium} : s.stepDone i (.recognised m) = if m.kind ≤ 2 then s.setMedium i m else s := by
  unfold State.stepDone
  rw [hc]
  dsimp only
  rw [ht, hs]
  rfl

theorem State.stepDone_unknown : s.stepDone i .unknownMedium = s.unrecognised i c := by
  unfold State.stepDone
  rw [hc]
  dsimp only
  rw [ht, hs]
  rfl

variable {ia ib : List (List Byte)}

theorem State.stepDone_identity {m : Medium} (hm : s.readIdentity i ia ib g = some m) :
    s.stepDone i (.identity ia ib g) = s.setMedium i m := by
  unfold State.stepDone
  rw [hc]
  dsimp only
  rw [if_pos ht, hs]
  dsimp only
  rw [hm]

theorem State.stepDone_identity_none (hm : s.readIdentity i ia ib g = none) :
    s.stepDone i (.identity ia ib g) = s.unrecognised i c := by
  unfold State.stepDone
  rw [hc]
  dsimp only
  rw [if_pos ht, hs]
  dsimp only
  rw [hm]

end Acquire

section Attach
variable (hs : c.steps = .attach :: rest)
include hs

theorem State.stepDone_metadata {n filling : Nat} (hn : n = 1 + 2 * i + side)
    (hf : filling = (s.granary.lines.filter fun l => l.nsid == n && l.lock == 1).length
      + (s.granary.ops.filter fun o => o.nsid == n && o.kind == .metadata && !o.committed).length) :
    s.stepDone i (.metadata side cl) = if filling < s.reg (key 0x4400 8) then s.queueFill n cl .metadata else s := by
  subst hn hf
  unfold State.stepDone
  rw [hc]
  dsimp only
  rw [ht, hs]
  rfl

theorem State.stepDone_pinned {img : SideImage} {held : State} (hh : held = s.attach i side img) : s.stepDone i (.pinned side img) =
    if s.substate (2 * i + side) = hsFollowing ∧ ¬ s.stFlag i (11 + side) = true ∧ (s.goodHeads i).contains (2 * i + side) = true then
      (if held.stepReady i .attach = true then held.stepOver i else held)
    else s := by
  subst hh
  unfold State.stepDone
  rw [hc]
  dsimp only
  rw [ht, hs]
  rfl

end Attach

theorem State.stepDone_noPlace (hs : c.steps = .drain :: rest) : s.stepDone i .noPlace =
    ((s.setStFlag i 14 false).modStn i fun t => { t with noDispatch := false }).endCommand i 0x0F53_0006 := by
  unfold State.stepDone
  rw [hc]
  dsimp only
  rw [ht, hs]
  rfl

end Step

theorem State.stepEnds_clampStroke :
    s.stepEnds i c .clampStroke = if s.reg (stKey i 0x22 0x0C) = 3 then s.stepOver i else s.endCommand i 0x0F53_0001 := by
  simp only [State.stepEnds, State.seated, beq_iff_eq]

theorem State.stepEnds_acquire :
    s.stepEnds i c .acquire = if s.goodHeads i = [] then s.endCommand i 0x0F53_0004 else s.stepOver i := by
  simp only [State.stepEnds, List.isEmpty_iff]

/-! ### Scheduling points and the watchdog (R107, R122) -/

theorem execSchedulingPoint_off {orders : List OrderReq} (ho : s.stState i = stOff) (hd : s.domState (6 * i) ≠ 3) :
    execSchedulingPoint i orders s = .next s := next_pos ⟨ho, hd⟩

theorem execSchedulingPoint_runs {orders : List OrderReq} (h : s.stState i ≠ stOff ∨ s.domState (6 * i) = 3) :
    execSchedulingPoint i orders s = .next (if (s.schedule i).stState i = stReady ∨ (s.schedule i).stState i = stActive then
      (s.schedule i).forEach orders fun u o => u.mediaOrder (seqOf i o.seq) o.code o.param else s.schedule i) := by
  refine next_neg ?_
  rintro ⟨ho, hd⟩
  exact h.elim (· ho) hd

/-! ### Media operations (R112, R359) -/

theorem State.dispatchOp_none (ho : s.op nsid cl = none) : s.dispatchOp nsid cl = s := by
  rw [State.dispatchOp, ho]

/-- What bars the dispatch of a queued operation. -/
def State.opBarred (s : State) (nsid : Nat) (o : MediaOp) : Prop :=
  o.dispatched = true ∨ nsSpread nsid = true ∨ (s.nvme.activating ≠ none ∧ o.kind = .demand)
    ∨ ¬ (s.stState o.station = stReady ∨ s.stState o.station = stActive)
    ∨ ((s.stn o.station).noDispatch = true ∧ o.kind ≠ .lia ∧ o.kind ≠ .tables ∧ o.kind ≠ .merge) ∨ 256 ≤ s.reg (stKey o.station 0 7)
    ∨ (o.kind = .prefetch ∧ s.bandsFirst o.station = true) ∨ (o.kind = .test ∧ s.hostQueued o.station = true)

theorem State.opBarred_iff : s.opBarred nsid o ↔ (o.dispatched || nsSpread nsid || (s.nvme.activating.isSome && o.kind == .demand)
    || !(s.stState o.station == stReady || s.stState o.station == stActive)
    || !(!(s.stn o.station).noDispatch || o.kind == .lia || o.kind == .tables || o.kind == .merge)
    || decide (256 ≤ s.reg (stKey o.station 0 7)) || (o.kind == .prefetch && s.bandsFirst o.station)
    || (o.kind == .test && s.hostQueued o.station)) = true := by
  simp [State.opBarred, Option.isSome_iff_ne_none, or_assoc, and_assoc]

theorem State.dispatchOp_barred (ho : s.op nsid cl = some o) (hb : s.opBarred nsid o) : s.dispatchOp nsid cl = s := by
  unfold State.dispatchOp
  rw [ho]
  exact if_pos (State.opBarred_iff.mp hb)

/-- An operation that is dispatched counts as in flight; a demand makes a test read give way. -/
theorem State.dispatchOp_goes (ho : s.op nsid cl = some o) (hb : ¬ s.opBarred nsid o) {gone yielded : State}
    (hg : gone = (s.modOp nsid cl fun o => { o with dispatched := true }).setReg (stKey o.station 0 7) (s.reg (stKey o.station 0 7) + 1))
    (hy : yielded = if o.kind = .demand then gone.testYield o.station else gone) : s.dispatchOp nsid cl =
      if s.stState o.station = stReady then yielded.setStation o.station stActive 0x20 else yielded := by
  subst hg hy
  unfold State.dispatchOp
  rw [ho]
  exact if_neg fun h => hb (State.opBarred_iff.mpr h)

/-- The dispatched operation of a cluster. -/
def Granary.dispatchedOp (gr : Granary) (nsid cl : Nat) : Option MediaOp :=
  gr.ops.find? fun o => o.nsid == nsid && o.cluster == cl && o.dispatched

theorem State.completeOp_none (ho : s.granary.dispatchedOp nsid cl = none) : s.completeOp nsid cl = s := by
  rw [Granary.dispatchedOp] at ho
  rw [State.completeOp, ho]

section Complete
variable (ho : s.granary.dispatchedOp nsid cl = some o)
include ho

theorem State.completeOp_held (hb : nsSpread nsid = true ∨ (¬ (s.stState o.station = stReady ∨ s.stState o.station = stActive)
    ∧ s.stState o.station ≠ stMaint)) : s.completeOp nsid cl = s := by
  rw [Granary.dispatchedOp] at ho
  unfold State.completeOp
  rw [ho]
  refine if_pos ?_
  rcases hb with hb | ⟨hn, hm⟩
  · simp [hb]
  · simp [not_or.mp hn, hm]

/-- A completed operation has had its fill or its records, leaves the operations, and is no longer in flight. -/
theorem State.completeOp_ends (hn : nsSpread nsid = false)
    (hb : (s.stState o.station = stReady ∨ s.stState o.station = stActive) ∨ s.stState o.station = stMaint)
    {filled left fewer calm : State}
    (hf : filled = if o.kind = .lia then (s.modNs nsid fun v => { v with lia := false }).liaRecord nsid
      else if o.ended = true ∨ o.kind = .tables ∨ o.kind = .test then s else s.fillEnd nsid cl)
    (hl : left = filled.modGr fun g => { g with ops := match g.dispatchedOp nsid cl with | some o => g.ops.erase o | none => g.ops })
    (hw : fewer = left.setReg (stKey o.station 0 7) (left.reg (stKey o.station 0 7) - 1))
    (hm : calm = if left.reg (stKey o.station 0 7) - 1 = 0 ∧ fewer.stState o.station = stActive then fewer.setStation o.station stReady 0x21
      else fewer) : s.completeOp nsid cl = (if o.kind = .test then calm.testReadEnds o else calm).settle := by
  have goes : ¬ (nsSpread nsid || !(s.stState o.station == stReady || s.stState o.station == stActive || s.stState o.station == stMaint)) = true := by
    rcases hb with (hb | hb) | hb <;> simp [hn, hb]
  have fills : (o.ended || o.kind == .tables || o.kind == .test) = true ↔ o.ended = true ∨ o.kind = .tables ∨ o.kind = .test := by
    rw [Bool.or_eq_true, Bool.or_eq_true, beq_iff_eq, beq_iff_eq, or_assoc]
  rw [Granary.dispatchedOp] at ho
  unfold State.completeOp
  rw [ho]
  refine (if_neg goes).trans ?_
  simp only [fills]
  subst hm hw hl hf
  rfl

end Complete

/-- Settles O50, command by command. -/
theorem stationStepsAndOperations : Obligations.StationStepsAndOperations := by
  unfold Obligations.StationStepsAndOperations
  intro s i nsid cl a side st out orders c rest o m ia ib g img t at_ freed ends stowed n filling may held counted moved cleared placed point x
    on barred gone yielded mine filled left k fewer calm
  refine ⟨?noCommand, ?noStep, ?ready, ?unready, ?mismatch, ?acquire, ?attach, ?noPlace, ?other, ?off, ?point, ?watchOff, ?watch, ?noOp,
    ?barred, ?dispatch, ?noneDispatched, ?held, ?complete⟩
  case noCommand => exact fun hc => congrArg _ (State.stepDone_noCommand hc)
  case noStep => exact fun hc hn => congrArg _ (State.stepDone_noStep hc hn)
  case ready =>
    rintro ⟨hc, ht, hs⟩ hr
    refine congrArg _ ((State.stepDone_ok hc ht hs).trans ((if_pos hr).trans ?_))
    cases st
    case clampStroke => exact State.stepEnds_clampStroke
    case acquire => exact State.stepEnds_acquire
    all_goals rfl
  case unready => exact fun ⟨hc, ht, hs⟩ hr => congrArg _ ((State.stepDone_ok hc ht hs).trans (if_neg (Bool.eq_false_iff.mp hr)))
  case mismatch => exact fun ⟨hc, ht, hs⟩ => congrArg _ (State.stepDone_mismatch hc ht hs)
  case acquire =>
    rintro ⟨hc, ht, hs⟩
    refine ⟨congrArg _ (State.stepDone_recognised hc ht hs), congrArg _ (State.stepDone_unknown hc ht hs), ?_⟩
    cases hm : s.readIdentity i ia ib g with
    | some m => exact congrArg _ (State.stepDone_identity hc ht hs hm)
    | none => exact congrArg _ (State.stepDone_identity_none hc ht hs hm)
  case attach =>
    rintro ⟨hc, ht, hs⟩
    refine ⟨congrArg _ (State.stepDone_metadata hc ht hs rfl rfl), congrArg _ ((State.stepDone_pinned hc ht hs rfl).trans ?_)⟩
    simp only [Bool.not_eq_true]
    rfl
  case noPlace => exact fun ⟨hc, ht, hs⟩ => congrArg _ (State.stepDone_noPlace hc ht hs)
  case other =>
    rintro ⟨hc, ht, hs⟩
    have stays : ∀ {out : StepOut}, ¬ outcomeOf out st → exec (.stationCommandStepDone i out) s = .next s :=
      fun ho => congrArg _ (State.stepDone_other hc ht hs ho)
    exact ⟨fun h => stays h, fun h => ⟨stays h, stays h, stays h⟩, fun h => ⟨stays h, stays h⟩, fun h => stays h⟩
  case off => exact fun ho hd => execSchedulingPoint_off ho hd
  case point => exact fun h => execSchedulingPoint_runs h
  case watchOff => exact fun h => next_pos h
  case watch => exact fun h => next_neg h
  case noOp => exact fun h => congrArg _ (State.dispatchOp_none h)
  case barred => exact fun h hb => congrArg _ (State.dispatchOp_barred h hb)
  case dispatch => exact fun h hb => congrArg _ (State.dispatchOp_goes h hb rfl rfl)
  case noneDispatched => exact fun h => congrArg _ (State.completeOp_none h)
  case held => exact fun h hb => congrArg _ (State.completeOp_held h hb)
  case complete => exact fun h hn hb => congrArg _ (State.completeOp_ends h hn hb rfl rfl rfl rfl)

end Sys2Proof.Machine
end

section
/-! Spread volumes (R390, R409 to R416): rows encoded on the master, members' answers, rebuilds, and the member's own side. -/

namespace Sys2Proof.Machine

variable {s : State} {v row col p lba n z : Nat} {x : Volume} {c : Column} {lines : List Line} {left : List Nat} {parts : List MemberPart}
  {bs : List Block} {ds : List Clust}

/-! ### The volume a master works on (R410, R470) -/

/-- The device is the master of its segment, an engine is in service, and the volume exists. -/
abbrev State.servesVolume (s : State) (v : Nat) (x : Volume) : Prop := s.isMaster = true ∧ s.ecUp = true ∧ s.volume v = some x

/-- The master, an engine in service, or the volume is missing. -/
abbrev State.servesNoVolume (s : State) (v : Nat) : Prop := s.isMaster = false ∨ s.ecUp = false ∨ s.volume v = none

theorem State.servesVolume.encodes (h : s.servesVolume v x) : (if (s.isMaster && s.ecUp) = true then s.volume v else none) = some x := by
  obtain ⟨master, engine, volume⟩ := h
  rw [master, engine, volume]
  rfl

theorem State.servesVolume.rebuilds (h : s.servesVolume v x) (free : s.encodeWaits = false) :
    (if (s.isMaster && s.ecUp && !s.encodeWaits) = true then s.volume v else none) = some x := by
  obtain ⟨master, engine, volume⟩ := h
  rw [master, engine, volume, free]
  rfl

theorem State.servesNoVolume.encodesNone (h : s.servesNoVolume v) :
    (if (s.isMaster && s.ecUp) = true then s.volume v else none) = none := by
  rcases h with h | h | h <;> simp [h]

theorem State.servesNoVolume.rebuildsNone (h : s.servesNoVolume v) :
    (if (s.isMaster && s.ecUp && !s.encodeWaits) = true then s.volume v else none) = none := by
  rcases h with h | h | h <;> simp [h]

/-! ### Rows encoded (R412) -/

/-- A column's count of owed rows takes a row it was not sent. -/
abbrev owedTo (owed : List Nat) (row : Nat) (cs : List Column) : List Column := ((List.range cs.length).zip cs).map fun q =>
  if owed.contains q.1 then { q.2 with owed := q.2.owed ++ [row] } else q.2

/-- A row after its encode: sent to the columns reached, owed to the others, and counted. -/
abbrev State.rowEncoded (s : State) (v row : Nat) (x : Volume) (lines : List Line) : State :=
  let sent := (List.range x.n).filter (s.upCols x).contains
  let owed := (List.range x.n).filter fun i => !(s.upCols x).contains i
  let out := s.forEach sent fun u i => u.sendRow x row i (memberBlocks x lines (x.slotOf row i) (x.memberLba row i))
  let told := (out.modVolume v fun y => { y with rows := putKey (row / 4000) (row % 4000 + 1) 0 y.rows, cols := owedTo owed row y.cols }).modSpread
    fun q => { q with rows := q.rows ++ [⟨v, row, sent, [], [], owed⟩] }
  (told.addReg 64 (key 0x4A00 2) (65536 * x.k)).volumeView

theorem execRowEncode_next (h : s.servesVolume v x) (turn : row % 4000 = x.zoneRows (row / 4000)) (data : s.rowData x row = some lines) :
    execRowEncode v row s = .next (match (s.rowEncoded v row x lines).volume v with
      | some y => if (s.rowEncoded v row x lines).flushWaits y (row / 4000) then (s.rowEncoded v row x lines).memberFlush y (row / 4000)
          else s.rowEncoded v row x lines
      | none => s.rowEncoded v row x lines) := by
  unfold execRowEncode
  rw [h.encodes]
  dsimp only
  rw [if_pos turn, data] <;> rfl

theorem execRowEncode_incomplete (h : s.servesVolume v x) (no : row % 4000 ≠ x.zoneRows (row / 4000) ∨ s.rowData x row = none) :
    execRowEncode v row s = .next s := by
  have none : (if row % 4000 = x.zoneRows (row / 4000) then s.rowData x row else none) = none := by
    rcases no with no | no
    · exact if_neg no
    · rw [no, ite_self]
  unfold execRowEncode
  rw [h.encodes]
  dsimp only
  rw [none]

theorem execRowEncode_notServing (h : s.servesNoVolume v) : execRowEncode v row s = .next s := by
  unfold execRowEncode
  rw [h.encodesNone]

/-! ### Members' answers (R413) -/

theorem State.memberAck_noVolume {flush ok : Bool} (h : s.volume v = none) : s.memberAck v col flush n ok = s := by
  rw [State.memberAck, h]

theorem State.memberAck_noRow {ok : Bool} (h : s.volume v = some x) (empty : s.spread.rows = []) : s.memberAck v col true n ok
    = (s.modSpread fun q => { q with flushing := q.flushing.filter (· != (v, n)) }).volumeView.settle := by
  unfold State.memberAck
  rw [h]
  simp [State.modSpread, State.forEach, empty]

/-! ### Rebuilds (R25, R413) -/

/-- The volume with a column taken for reachable again. -/
abbrev State.columnBack (s : State) (v col : Nat) : State := s.modVolume v fun y => y.modCol col fun c => { c with up := true }

/-- The row is sent to the column that is back, which owes the rest. -/
abbrev State.rowRebuilt (s : State) (v row col : Nat) (left : List Nat) (x : Volume) (bs : List Block) : State :=
  (State.sendRow (((s.columnBack v col).modVolume v fun y =>
    y.modCol col fun c => { c with owed := left, rebuilding := !left.isEmpty }).modSpread fun q =>
      { q with rows := q.rows.map fun r => if r.v = v ∧ r.row = row then
        { r with owed := r.owed.filter (· != col), sent := r.sent ++ [col] } else r }) x row col bs).volumeView

/-- The clusters of a row that other columns gave, by slot. -/
abbrev otherClusters (x : Volume) (row col : Nat) (parts : List MemberPart) : List (Nat × Clust) :=
  (parts.filter fun q => q.col != col && q.col < x.n).map fun q => (x.slotOf row q.col, q.blocks.map (·.data))

/-- The blocks a member stores of a row decoded from other columns. -/
abbrev decodedBlocks (x : Volume) (row col : Nat) (ds : List Clust) : List Block := (List.range 16).map fun b =>
  retag true ⟨(clustSum (codeRow x.k x.m (x.slotOf row col)) ds).getD b 0, 0⟩ (x.memberLba row col + b)

/-- What the column is sent: its cluster of the staged row, or one decoded from k others; nothing where neither can be had. -/
def State.rebuildBlocks (s : State) (x : Volume) (row col : Nat) (parts : List MemberPart) : Option (List Block) :=
  match s.rowData x row with
  | some lines => some (memberBlocks x lines (x.slotOf row col) (x.memberLba row col))
  | none =>
    if (otherClusters x row col parts).length < x.k then none
    else (decodeRow x.k x.m (otherClusters x row col parts)).map (decodedBlocks x row col)

theorem State.rebuildBlocks_staged (data : s.rowData x row = some lines) :
    s.rebuildBlocks x row col parts = some (memberBlocks x lines (x.slotOf row col) (x.memberLba row col)) := by
  rw [State.rebuildBlocks, data]

theorem State.rebuildBlocks_decoded (data : s.rowData x row = none) (enough : x.k ≤ (otherClusters x row col parts).length)
    (decoded : decodeRow x.k x.m (otherClusters x row col parts) = some ds) :
    s.rebuildBlocks x row col parts = some (decodedBlocks x row col ds) := by
  rw [State.rebuildBlocks, data]
  dsimp only
  rw [if_neg (Nat.not_lt.mpr enough), decoded]
  rfl

theorem State.rebuildBlocks_tooFew (data : s.rowData x row = none)
    (few : (otherClusters x row col parts).length < x.k ∨ decodeRow x.k x.m (otherClusters x row col parts) = none) :
    s.rebuildBlocks x row col parts = none := by
  rw [State.rebuildBlocks, data]
  dsimp only
  rcases few with few | few
  · exact if_pos few
  · rw [few, Option.map_none, ite_self]

theorem execRowRebuild_notServing (h : s.servesNoVolume v) : execRowRebuild v col parts s = .next s := by
  unfold execRowRebuild
  rw [h.rebuildsNone]

theorem execRowRebuild_encodeWaits (h : s.encodeWaits = true) : execRowRebuild v col parts s = .next s := by
  unfold execRowRebuild
  rw [h, Bool.not_true, Bool.and_false]
  rfl

section Turn
variable (serves : s.servesVolume v x) (free : s.encodeWaits = false)
include serves free

theorem execRowRebuild_noColumn (hc : x.cols[col]? = none) : execRowRebuild v col parts s = .next s := by
  unfold execRowRebuild
  rw [serves.rebuilds free]
  dsimp only
  rw [hc]

variable (hc : x.cols[col]? = some c)
include hc

theorem execRowRebuild_nothingOwed (owed : c.owed = []) : execRowRebuild v col parts s = .next s := by
  unfold execRowRebuild
  rw [serves.rebuilds free]
  dsimp only
  rw [hc]
  dsimp only
  rw [owed]

variable (owed : c.owed = row :: left)
include owed

theorem execRowRebuild_owes : execRowRebuild v col parts s
    = .next (if (!(s.columnBack v col).colUp { c with up := true }) = true then s else match s.rebuildBlocks x row col parts with
      | none => s
      | some bs => s.rowRebuilt v row col left x bs) := by
  unfold execRowRebuild
  rw [serves.rebuilds free]
  dsimp only
  rw [hc]
  obtain ⟨serial, nsid, first, up, all, rebuilding⟩ := c
  subst owed
  rfl

theorem execRowRebuild_unreachable (down : (s.columnBack v col).colUp { c with up := true } = false) :
    execRowRebuild v col parts s = .next s := by
  rw [execRowRebuild_owes serves free hc owed, down]
  rfl

theorem execRowRebuild_sent (up : (s.columnBack v col).colUp { c with up := true } = true)
    (blocks : s.rebuildBlocks x row col parts = some bs) :
    execRowRebuild v col parts s = .next (s.rowRebuilt v row col left x bs) := by
  rw [execRowRebuild_owes serves free hc owed, up, blocks]
  rfl

theorem execRowRebuild_tooFew (few : s.rebuildBlocks x row col parts = none) : execRowRebuild v col parts s = .next s := by
  rw [execRowRebuild_owes serves free hc owed, few]
  exact congrArg Host.Outcome.next (ite_self s)

end Turn

/-! ### The member's side (R412, R414) -/

/-- A member's operation as a command of the ring: in a ring that runs, on a column of its own, in a context of its own. -/
theorem State.memberOp_eq (tag : Nat) (f : State → Nat → Nat → State) (u : State) : u.memberOp p tag v col f =
    if u.ringRuns = false then u else match u.ownColumn v col with
      | none => u
      | some nsid => (f (u.modNvme fun w => { w with seq := u.nvme.seq + 1, ctxs := w.ctxs ++ [⟨u.nvme.seq, ringCtrl, p, tag, .fetched, false⟩] })
          u.nvme.seq nsid).settle := by
  unfold State.memberOp
  cases u.ringRuns <;> rfl

/-- A member's flush: refused for a namespace that is not there or not ready, else served. -/
theorem State.memberFlush_cases (u : State) (q nsid : Nat) :
    (if (u.nsIo nsid).isNone then u.complete q cplInvalidNs
      else if !u.mediaReady nsid then u.complete q cplNotReady
      else (u.modCtx q fun w => { w with op := .flush (.zone nsid z) q 0 }).serveFlush q)
    = if u.nsIo nsid = none then u.complete q cplInvalidNs else if u.mediaReady nsid = false then u.complete q cplNotReady
      else (u.modCtx q fun w => { w with op := .flush (.zone nsid z) q 0 }).serveFlush q := by
  simp only [Option.isNone_iff_eq_none, Bool.not_eq_true']

theorem State.memberOp_flush (tag : Nat) (u : State) :
    (u.memberOp p tag v col fun u q nsid => if (u.nsIo nsid).isNone then u.complete q cplInvalidNs
      else if !u.mediaReady nsid then u.complete q cplNotReady
      else (u.modCtx q fun w => { w with op := .flush (.zone nsid z) q 0 }).serveFlush q)
    = u.memberOp p tag v col fun u q nsid => if u.nsIo nsid = none then u.complete q cplInvalidNs
      else if u.mediaReady nsid = false then u.complete q cplNotReady
      else (u.modCtx q fun w => { w with op := .flush (.zone nsid z) q 0 }).serveFlush q := by
  simp only [State.memberFlush_cases]

/-- Settles O49: rows encoded and rebuilt by the cases of their commands, members' frames by what each does as it arrives. -/
theorem spreadVolumes : Obligations.SpreadVolumes := by
  unfold Obligations.SpreadVolumes
  intro s v row col p lba n z ok flush crc hd lines x c blocks parts vols left serves sent owed out marked told counted back built others turn member
  refine ⟨execRowEncode_next, execRowEncode_incomplete, fun h => ⟨execRowEncode_notServing h, execRowRebuild_notServing h⟩, arrives_of rfl,
    State.memberAck_noVolume, State.memberAck_noRow, arrives_as rfl fun _ => rfl, fun h no => ?_,
    fun ⟨h, free, hc⟩ owes => execRowRebuild_nothingOwed h free hc owes,
    fun ⟨h, free, hc⟩ owes down => execRowRebuild_unreachable h free hc owes down,
    fun ⟨h, free, hc⟩ owes up data => execRowRebuild_sent h free hc owes up (State.rebuildBlocks_staged data),
    fun ⟨h, free, hc⟩ owes up data enough _ decoded => execRowRebuild_sent h free hc owes up (State.rebuildBlocks_decoded data enough decoded),
    fun ⟨h, free, hc⟩ owes data few => execRowRebuild_tooFew h free hc owes (State.rebuildBlocks_tooFew data few),
    arrives_as rfl fun u => State.memberOp_eq hd.tag _ u, arrives_as rfl fun u => State.memberOp_eq hd.tag _ u,
    arrives_as rfl fun u => (State.memberOp_flush hd.tag u).trans (State.memberOp_eq hd.tag _ u), arrives_as rfl fun u => ?_⟩
  · cases free : s.encodeWaits with
    | true => exact execRowRebuild_encodeWaits free
    | false => exact execRowRebuild_noColumn h free (no.resolve_left (by simp [free]))
  · simp only [Bool.not_eq_true]

end Sys2Proof.Machine
end
